-- ==== Sys2Proof/Word.lean ====
section
/-! DEFINITION. The native word of the KZ936 (R5: 36 bits, numbered 35 down to 0), the other widths its text uses, and
the sparse tables in which a count of like things is held. -/
namespace Sys2Proof

/-- A 36-bit word: all memory, registers and tables are organised in these (R1). -/
abbrev Word := BitVec 36
/-- A 24-bit word address (R5, R27). -/
abbrev Addr := BitVec 24
/-- A byte of a byte-oriented quantity. -/
abbrev Byte := BitVec 8

/-- A sparse table from an index to a value: pairs with rising indices, an absent index standing for the default. -/
abbrev Tbl (α : Type) := List (Nat × α)

/-- The entry of an index. -/
def Tbl.get? {α : Type} (t : Tbl α) (k : Nat) : Option α :=
  match t with
  | [] => none
  | (i, v) :: r => if i = k then some v else Tbl.get? r k

/-- The entry of an index, or the default. -/
def Tbl.getD {α : Type} (t : Tbl α) (k : Nat) (d : α) : α := (Tbl.get? t k).getD d

/-- Put an entry in its place. -/
def Tbl.set {α : Type} (t : Tbl α) (k : Nat) (v : α) : Tbl α :=
  match t with
  | [] => [(k, v)]
  | (i, w) :: r => if k < i then (k, v) :: (i, w) :: r else if k = i then (k, v) :: r else (i, w) :: Tbl.set r k v

/-- Take an entry out. -/
def Tbl.erase {α : Type} (t : Tbl α) (k : Nat) : Tbl α := t.filter (fun p => p.1 != k)

end Sys2Proof
end

