-- ==== Sys2Proof/Machine/Data.lean ====
section
/-! DEFINITION. The small types in which commands carry what the environment brings: paths, sides, error patterns, frames. -/
namespace Sys2Proof.Machine

/-- The path an access comes by (R484, R488): the host port, the debug port, the 2-wire port, a carried record of the partner,
an island's own engine. -/
inductive Path where
  | host
  | debug
  | twoWire
  | carried
  | engine
deriving DecidableEq, Repr

/-- What a memory port finds stored at the word it reads (R22, R24): no error since the last write, a single-bit error in
the data or in a check bit, a double-bit error that leaves the word given, or an error of three or more bits with the outcome
it happens to have (answered POISON with the word given, miscorrected into a word answered CORRECTED, or passing as a word
answered OK). -/
inductive Upset where
  | clean
  | single
  | singleCheck
  | double (w : Word)
  | multiPoison (w : Word)
  | multiMiscorrected (w : Word)
  | multiPasses (w : Word)
deriving DecidableEq, Repr

/-- An upset at an address, for a scan that reads many words. -/
structure UpsetAt where
  addr : Addr
  kind : Upset
deriving DecidableEq, Repr

/-- Which part of an island fails in a self-check (R120). -/
inductive SelfCheck where
  | zero
  | pga
  | ref
  | exc (ch : Fin 8)
  | cj
deriving DecidableEq, Repr

/-- What a beat brings from outside node time: the oscillator cycles that the calendar has counted since the command before, and
whether a word reaches the crosslink frame, or a telegram formed in the beat, with a tag that fails (R35, steps 4 and 5; R438). -/
structure Tick where
  osc : BitVec 16
  frameHurt : Bool
  teleHurt : Bool
deriving DecidableEq, Repr

/-- A word on its way to a requester: what the port finds stored, and whether the word arrives with a tag that fails (R22, R49). -/
structure Arrival where
  upset : Upset
  hurt : Bool
deriving DecidableEq, Repr

/-- A request as issued: whether it writes, and how many beats ago it was issued (R19, R47). -/
structure Issue where
  write : Bool
  age : BitVec 16
deriving DecidableEq, Repr

/-- What a conversion cycle finds at the terminals: the transmitter supply in its limit, and V(EP − EN) below 10 mV (R124). -/
structure Terminals where
  supplyLimit : Bool
  low : Bool
deriving DecidableEq, Repr

/-- A loop fault's test that has been met: the fault, the measured current in nA, and for how many beats (R279). -/
structure FaultMet where
  fault : Fin 6
  cur : BitVec 32
  held : BitVec 24
deriving DecidableEq, Repr

/-- A loop fault's test that has failed, and for how many beats (R279). -/
structure FaultGone where
  fault : Fin 6
  held : BitVec 24
deriving DecidableEq, Repr

/-- A discrete output in clamp, its voltage below the short threshold or not (R311). -/
structure Clamped where
  point : Fin 32
  short : Bool
deriving DecidableEq, Repr

/-- A switch current in mA, and for how many beats it has stood at least so high (R312). -/
structure Overload where
  ma : BitVec 16
  held : BitVec 24
deriving DecidableEq, Repr

/-- A condition as it stands now, and for how many beats it has stood so. -/
structure Held where
  now : Bool
  held : BitVec 24
deriving DecidableEq, Repr

/-- UTC offset and leap flags of an Announce (R450). -/
structure UtcInfo where
  ofs : BitVec 8
  leap : Fin 3
deriving DecidableEq, Repr

/-- A crosslink record (R389): type, phase, type field, further words. -/
structure JRec where
  rtype : Nat
  phase : Nat
  typ : Nat
  words : List Word
deriving DecidableEq, Repr

/-- A crosslink frame (R388), its fields and records. -/
structure JFrame where
  kind : Nat
  unit : Nat
  pstate : Nat
  giveup : Bool
  cont : Bool
  sleep : Bool
  epoch : Word
  beat : Word
  txt : Word
  echoTx : Word
  echoRx : Word
  mdig : Word
  ldig : Nat
  edig : Nat
  stv : Bool
  step : Int
  rel : Word
  ddf : Bool
  pseq : Nat
  recs : List JRec
deriving DecidableEq, Repr

end Sys2Proof.Machine
end

