-- ==== Sys2Proof/Syntax.lean ====
section
/-! DEFINITION. The commands of the block: one constructor per row of spec/opcode_table.json, with the operands its rule
gives it. An operand is what the environment brings to the step (a word written, a frame received, a level found). -/
namespace Sys2Proof

open Sys2Proof.Machine

/-- The 323 operations and events of the table. -/
inductive Instr where
  /-- VSUP rises through VON and a cold power-on reset begins (R545). -/
  | powerOn
  /-- The always-on domain and references settle, the calendar changes over to VSUP and PG_OUT goes high (R545). -/
  | alwaysOnSettled
  /-- The cold reset ends, the straps are sampled and node time is loaded (R545). -/
  | coldResetEnd (compat : Bool) (unit : Bool) (osc : BitVec 16)
  /-- The management processor, the image/MRAM controller and every island are powered (R545). -/
  | islandsPowered
  /-- RST_N held low for at least 10 µs causes a cold pin reset (R539). -/
  | pinReset
  /-- A commanded warm, soft or resync reset of a driving unit begins at REL + 3 after its release (R543). -/
  | deferredResetStart
  /-- The hold time of a warm, soft or resync reset ends and the start sequence resumes (R539). -/
  | resetHoldEnd
  /-- VSUP below VWARN for 50 µs starts a brown-out warning (R548). -/
  | brownoutWarning
  /-- VSUP above VWARN + VHYS for 1 ms ends the warning, and PG_OUT returns high (R548). -/
  | brownoutEnd
  /-- A warning that lasts 20 ms enters SAFE with SAFECAUSE 6 (R548). -/
  | brownoutSafeTimeout
  /-- VSUP below VRST, or the hold-up store exhausted, puts outputs in their start-up state and stops MRAM writes (R549). -/
  | powerFailStop
  /-- The key store, calibration banks and image banks are examined after a reset of class 1 to 5 (R551). -/
  | mramExamination
  /-- The recorder finishes scanning both areas and takes SEQ, CSEQ and the life counters (R431). -/
  | onyxStartupScanEnd
  /-- The beat counter advances at phase 0 of every beat (R50). -/
  | beatTick (tick : Tick)
  /-- A round boundary passes, and the round counter advances and management-plane actions take effect (R32). -/
  | roundBoundary (tick : Tick) (tasks : Bool) (fails : BitVec 16) (ups : List UpsetAt)
  /-- The beat counter wraps and REPOCH is advanced by 523,264 modulo 1,000,000 (R52). -/
  | beatCounterWrap (tick : Tick)
  /-- PPS_OUT falls after TIM_PPSO.WIDTH beats (R60). -/
  | ppsOutFall
  /-- A PPS_IN edge is captured for phase and rate discipline (R55). -/
  | ppsInEdge (ns : Fin 1000)
  /-- A step of node time is applied at a round boundary (R58). -/
  | nodeTimeStep
  /-- Trusted holdover runs out after HOLDOVER rounds and TRUST becomes 0 (R56). -/
  | holdoverExpiry
  /-- A TIM_LCMD write with action 0 arms a mode change (R64). -/
  | armModeChange (scope : Fin 4) (tag : BitVec 16)
  /-- A TIM_LCMD write with action 1 arms a role swap (R71). -/
  | armRoleSwap (scope : Fin 4) (tag : BitVec 16)
  /-- A TIM_LCMD write with action 2 arms a table sync (R64). -/
  | armTableSync (scope : Fin 4) (tag : BitVec 16)
  /-- A TIM_LCMD write with action 3 arms an output commit (R64). -/
  | armOutputCommit (scope : Fin 4) (tag : BitVec 16)
  /-- A TIM_LCMD write with action 4 arms a scan start (R64). -/
  | armScanStart (scope : Fin 4) (tag : BitVec 16)
  /-- A TIM_LCMD write with action 5 arms a recorder mark (R64). -/
  | armRecorderMark (scope : Fin 4) (tag : BitVec 16)
  /-- A TIM_LCMD write with action 6–14 is rejected with BADARG (R64). -/
  | armInvalidAction (action : Fin 9) (scope : Fin 4)
  /-- A Cancel cancels an armed slot of the issuing unit (R581). -/
  | launchCancel (scope : Fin 4)
  /-- An armed mode change takes effect at its target beat (R64). -/
  | modeChange (slot : Fin 16)
  /-- An armed role swap executes in the active at its target beat (R410). -/
  | roleSwap (slot : Fin 16)
  /-- The standby executes its share of the swap at b + 8 and becomes active (R410). -/
  | roleSwapStandby (slot : Fin 16)
  /-- The named islands begin reloading their cached entries at the target beat (R64). -/
  | tableSync (slot : Fin 16)
  /-- The shadow values of the named outputs are latched at the target beat (R269). -/
  | outputCommit (slot : Fin 16)
  /-- The named islands receive a scan trigger for the named list at the target beat (R130). -/
  | scanStart (slot : Fin 16)
  /-- An Onyx mark-class trigger is raised at the target beat (R422). -/
  | recorderMark (slot : Fin 16)
  /-- A read or write transfer reaches its target and is acknowledged (R17). -/
  | interconnectRequest (req : Fin 29) (a : Addr) (wr : Option (Word × Byte)) (u : Arrival)
  /-- A request without an acknowledge within HTO_BEATS completes with TIMEOUT (R19). -/
  | handshakeTimeout (req : Option (Fin 29)) (a : Addr) (issue : Issue)
  /-- An island's own supply fails, its ALIVE bit clears and its cached entries are lost (R579). -/
  | islandSupplyLoss (isl : Fin 29)
  /-- An island completes a handshake of its own and is marked alive again (R20). -/
  | islandHandshakeRestore (isl : Fin 31)
  /-- Every MRAM word is read once per 24 operating hours and errors are counted (R25). -/
  | mramPatrol (ups : List UpsetAt)
  /-- A parity failure in the lattice configuration copy is a SAFE cause (R37). -/
  | latticeParityFail
  /-- The node enters SAFE at phase 0 of the beat after a SAFE cause is detected (R41). -/
  | safeEntry
  /-- The management processor misses its round tasks for 2 rounds, and the watchdog expires (R500). -/
  | watchdogExpiry
  /-- 4 rounds after expiry without resumption, the node enters SAFE with SAFECAUSE 2 (R34). -/
  | watchdogSafeTimeout
  /-- A write of an island's TSYNC triggers a reload check of the named points (R92). -/
  | tsyncWrite (u : Fin 19) (mask : BitVec 32)
  /-- A checked reload of one entry completes after its word reads (R93). -/
  | entryReload (p : Fin 1209) (timeout : Bool)
  /-- A failed reload attempt is retried from the next beat, up to 4 attempts (R94). -/
  | reloadRetry (p : Fin 1209) (timeout : Bool)
  /-- A channel whose value is not renewed within its stale time turns Q = 4 (R101). -/
  | valueStale (ch : Fin 128)
  /-- A conversion cycle completes and the quantity word is written to the mirror (R115). -/
  | conversionComplete (k : Fin 16) (r1 : BitVec 24) (r2 : BitVec 24) (parity : Bool) (testOpen : Bool) (compliance : Bool) (found : Terminals)
  /-- A comparator change seen in CDEB + 1 samples is accepted and presented to the lattice (R135). -/
  | comparatorAccept (ch : Fin 128) (high : Bool)
  /-- The auxiliary converter writes the cold-junction word every 100,000 beats (R119). -/
  | cjMeasurement (k : Fin 16) (raw : BitVec 24)
  /-- A host write of FIk_STRIG triggers the named scan lists (R130). -/
  | fiStrigWrite (k : Fin 16) (mask : BitVec 8)
  /-- The period timer of a periodic list adds a trigger (R130). -/
  | scanPeriodTick (k : Fin 16) (n : Fin 8)
  /-- Strobes missing for two phases make the lattice substitute the CFAIL states (R180). -/
  | fiStrobeLoss (k : Fin 16)
  /-- Four consecutive phases with strobes restore the island's own bits (R180). -/
  | fiStrobeRestore (k : Fin 16)
  /-- After THOLD rounds without a usable temperature source, results go to Q = 12 (R153). -/
  | sourceHoldExpiry (ch : Fin 128)
  /-- The CAPTURE point 1 command starts averaging NAVG conversions (R162). -/
  | calCapturePoint1
  /-- The CAPTURE point 2 command starts averaging NAVG conversions (R162). -/
  | calCapturePoint2
  /-- NAVG conversions are captured and the mean is stored (R162). -/
  | captureComplete
  /-- A capture not complete within 10 rounds ends with TIMEOUT (R162). -/
  | captureTimeout
  /-- An offset-only calibration is computed into the working copy (R163). -/
  | calComputeOffset
  /-- A two-point calibration is computed into the working copy (R163). -/
  | calComputeTwoPoint
  /-- The selected channel record is set to CALD = 0 in the working copy (R170). -/
  | calClearRecord
  /-- The working copy is reloaded from the bank in force (R161). -/
  | calDiscard
  /-- A CAL_WIN write changes the selected record in the working copy (R161). -/
  | calWinWrite (w : Fin 64) (v : Word)
  /-- A keyed COMMIT command is accepted for the calibration store (R164). -/
  | calCommit
  /-- The commit starts at the round boundary and writes the other bank (R164). -/
  | calCommitRun
  /-- The header is read back and checked, and the new bank is in force with PEND set (R164). -/
  | calCommitComplete (mismatch : Bool)
  /-- The committed bank takes effect at the next round boundary (R166). -/
  | calBankEffect
  /-- A new wave enters rank 0 and every rank evaluates in the phase (R172). -/
  | latticeWave
  /-- An ONDLY cell's delay runs out and O rises (R181). -/
  | ondlyExpiry (c : Fin 4096)
  /-- An OFFDLY cell's delay runs out and O falls (R181). -/
  | offdlyExpiry (c : Fin 4096)
  /-- An INHIBIT cell's block runs out (R181). -/
  | inhibitExpiry (c : Fin 4096)
  /-- An EDGE cell's stretch runs out (R181). -/
  | edgeStretchExpiry (c : Fin 4096)
  /-- A COUNT window passes without a counted edge and the count becomes 0 (R181). -/
  | countWindowExpiry (c : Fin 4096)
  /-- A BL_CFORCEn write forces, or ends the force of, a cell from the next wave (R192). -/
  | cellForceWrite (n : Fin 8) (v : Word)
  /-- A BL_HSIG write presents host signals to the lattice (R179). -/
  | hostSignalWrite (w : Fin 2) (v : BitVec 32)
  /-- The condition holds for N_on beats and D rises (R209). -/
  | alarmOnDelayExpiry (n : Fin 1024)
  /-- The condition stays clear for N_off beats and D falls (R209). -/
  | alarmOffDelayExpiry (n : Fin 1024)
  /-- Alarm command OP 1 acknowledges a point (R216). -/
  | ackPoint (n : Fin 1024)
  /-- Alarm command OP 2 acknowledges every point of a group (R216). -/
  | ackGroup (g : Fin 64)
  /-- Alarm command OP 3 shelves a point (R217). -/
  | shelve (n : Fin 1024) (minutes : BitVec 16)
  /-- Alarm command OP 4 ends a shelving (R216). -/
  | unshelve (n : Fin 1024)
  /-- Alarm command OP 5 clears a group's first-out (R222). -/
  | firstOutReset (g : Fin 64)
  /-- Alarm command OP 6 puts a point out of service (R216). -/
  | outOfService (n : Fin 1024)
  /-- Alarm command OP 7 ends out-of-service (R216). -/
  | returnToService (n : Fin 1024)
  /-- Alarm command OP 8 acknowledges every point (R216). -/
  | ackAll
  /-- SHLEFT reaches zero and the shelving ends (R217). -/
  | shelvingExpiry (n : Fin 1024)
  /-- An ALM_TSYNC write triggers a reload check of alarm points (R202). -/
  | almTsyncWrite (all : Bool) (n : Fin 1024)
  /-- A calling stage reaches its length and escalates (R246). -/
  | opalStageEscalation
  /-- TATT ends with offers open, and calling re-enters DUTY (R250). -/
  | attendTimeExpiry
  /-- DMT ends and the dead-man function enters PREWARN (R253). -/
  | deadmanIntervalExpiry
  /-- DMPRE ends and the dead-man function enters ALARM (R253). -/
  | deadmanPrewarnExpiry
  /-- The pre-warning station output toggles every 500,000 beats (R253). -/
  | deadmanBlinkToggle
  /-- Opal command OP 1 accepts a call at a station (R251). -/
  | opalAccept (station : Fin 8)
  /-- Opal command OP 2 restarts the dead-man timer (R251). -/
  | opalDeadmanReset
  /-- Opal command OP 3 sets the duty rota position (R251). -/
  | opalSetDuty (pos : Fin 16)
  /-- Opal command OP 4 sets the away mask (R251). -/
  | opalSetAway (mask : BitVec 16)
  /-- Keyed Opal command OP 5 marks every offer accepted and idles the process (R251). -/
  | opalCancel
  /-- An OPL_TSYNC write triggers a reload check of the rota and call table (R239). -/
  | oplTsyncWrite
  /-- A CALL telegram is formed after an Opal event (R255). -/
  | callTelegramForm
  /-- RHOLD runs out without a source write, and the first update takes place (R273). -/
  | loopRholdExpiry (n : Fin 16)
  /-- The 10 ms undriven hold after a SINK change ends, and the output enters PUV (R272). -/
  | sinkChangeHoldEnd (n : Fin 16)
  /-- The measured loop current is written to the mirror every 1000 beats (R278). -/
  | loopReadback (n : Fin 16) (cur : BitVec 32) (vld : BitVec 12) (vterm : BitVec 12) (neg : Bool)
  /-- A loop fault test holds for its time and the fault is raised (R279). -/
  | loopFaultRaise (n : Fin 16) (met : FaultMet)
  /-- A loop fault test fails for 100 ms and the fault clears (R279). -/
  | loopFaultClear (n : Fin 16) (gone : FaultGone)
  /-- The 10 ms retest ends, and MISWIRE clears or stays (R280). -/
  | miswireRetestEnd (n : Fin 16) (again : Bool)
  /-- A LO_FREQ write queues an FSK transaction (R297). -/
  | fskRequest (n : Fin 16) (txlen : BitVec 9)
  /-- The wait completes and the modem starts sending the frame (R292). -/
  | fskTransmitStart (n : Fin 16)
  /-- The frame is sent and the reply window opens (R290). -/
  | fskTransmitEnd (n : Fin 16)
  /-- Carrier detected during the wait defers the transaction (R292). -/
  | fskCarrierDetect (n : Fin 16)
  /-- A received FSK frame is taken as the reply or as stranger traffic (R293). -/
  | fskFrameReceive (n : Fin 16) (frame : List Byte) (parity : Bool) (framing : Bool)
  /-- No reply within 28 characters ends the try NOREPLY (R293). -/
  | fskReplyTimeout (n : Fin 16)
  /-- A decoded character differs from the one sent, and the try ends COLL (R294). -/
  | fskCollision (n : Fin 16)
  /-- A level stable for 4 × FILTB samples is accepted (R304). -/
  | dioInputAccept (n : Fin 32)
  /-- REJ reaches CHATN and the input enters chatter (R305). -/
  | dioChatterEntry (n : Fin 32)
  /-- The raw level is quiet for CHCLR × FILTB beats and chatter ends (R306). -/
  | dioChatterExit (n : Fin 32)
  /-- The state has been 1 for STUCKT rounds and the point becomes stuck (R307). -/
  | dioStuckDetect (n : Fin 32)
  /-- Output blanking ends (R310). -/
  | dioBlankingEnd (n : Fin 32)
  /-- The switch current reaches the clamp level and the clamp acts (R311). -/
  | dioClampOnset (clamp : Clamped)
  /-- An output trips on ABSI, ABSE, GROUP, CLAMP or OVL and opens (R312). -/
  | dioOutputTrip (n : Fin 32) (cause : Fin 8) (load : Overload)
  /-- An OL or STB condition held for 10 ms is raised, or clears after 10 ms (R313). -/
  | dioDiagFault (n : Fin 32) (ol : Bool) (raised : Held)
  /-- DGSg stays on one side of the undervoltage threshold for 1 ms, and UV changes (R314). -/
  | groupUvChange (g : Fin 4) (uv : Held) (vgs : BitVec 12)
  /-- The commanded state has been open for 1000 beats and the trip clears (R315). -/
  | dioTripClear (n : Fin 32)
  /-- A host W1C write of DIO_OFLT clears trips (R315). -/
  | dioOfltWrite (mask : BitVec 32)
  /-- A PWM period begins, and the active duty takes the pending duty (R317). -/
  | pwmReload (n : Fin 32)
  /-- The PWM gate closes after D beats of the period (R317). -/
  | pwmGateClose (n : Fin 32)
  /-- A DIO_DUTYn write sets the pending duty or the commit shadow (R318). -/
  | dioDutyWrite (n : Fin 32) (v : BitVec 18)
  /-- An accepted counting edge updates speed, direction and position (R330). -/
  | speedEdgeAccept (n : Fin 8) (chB : Bool) (rising : Bool) (other : Bool) (sample : Fin 40)
  /-- STANDT passes without an edge and the input enters standstill (R331). -/
  | standstillTimeout (n : Fin 8)
  /-- A 1000-beat window of raw transitions ends and overrange is set or cleared (R334). -/
  | overrangeWindowEnd (n : Fin 8)
  /-- An open or short condition holds for 100 ms and is raised, or clears (R335). -/
  | speedWiringFault (n : Fin 8) (short : Bool) (raised : Held)
  /-- The speed and position words are written to the mirror (R339). -/
  | speedMirrorWrite (n : Fin 8)
  /-- An SSI frame begins on its period (R340). -/
  | ssiFrameStart (n : Fin 8)
  /-- An SSI frame is decoded and its start bit checked (R340). -/
  | ssiFrameEnd (n : Fin 8) (start : Bool) (raw : BitVec 32)
  /-- TACHT expires in WAITING and supervision enters FAILED or LOST (R342). -/
  | tachtExpiry (n : Fin 8)
  /-- A ship port's link comes up (R348). -/
  | shipLinkUp (p : Fin 2) (ten fec : Bool)
  /-- A ship port's link is lost (R349). -/
  | shipLinkDown (p : Fin 2)
  /-- A fall-back port without link switches between 10 Gbit/s and 1000BASE-X every 1 s (R349). -/
  | linkModeAlternate (p : Fin 2)
  /-- An ARP request for SN_IP is answered (R351). -/
  | arpRequestRx (p : Fin 2) (ip : BitVec 32) (mac : BitVec 48)
  /-- An IGMP query is answered with IGMPv2 reports (R351). -/
  | igmpQueryRx (p : Fin 2) (group : BitVec 32)
  /-- A PTP Announce is taken for master selection (R353). -/
  | ptpAnnounceRx (p : Fin 2) (dom : BitVec 8) (gm : BitVec 64) (rank : BitVec 16) (utc : UtcInfo) (interval : BitVec 8)
  /-- A PTP Sync is taken and the offset measured (R353). -/
  | ptpSyncRx (p : Fin 2) (dom : BitVec 8) (gm : BitVec 64) (seq : BitVec 16) (twoStep : Bool) (ns : Int)
  /-- A Delay_Resp completes the delay measurement (R353). -/
  | ptpDelayRespRx (p : Fin 2) (dom : BitVec 8) (seq : BitVec 16) (ns : Int) (interval : BitVec 8)
  /-- A Delay_Req is sent at the interval the master announces (R353). -/
  | ptpDelayReqSend (p : Fin 2)
  /-- The announce receipt timeout unlocks the port (R354). -/
  | ptpAnnounceTimeout (p : Fin 2)
  /-- A VALUES telegram is formed on its list's period (R360). -/
  | valuesForm (n : Fin 8)
  /-- SIGNALS telegrams are formed from the queued signal events of a beat (R361). -/
  | signalsForm
  /-- A SIGSTATE telegram is formed at beat-in-round 250,000 (R362). -/
  | sigstateForm
  /-- An ALARM telegram is formed after a state change of a published point (R363). -/
  | alarmTelegramForm
  /-- A STATUS telegram is formed at beat-in-round 500,000 (R365). -/
  | statusForm
  /-- A queued telegram is sent on the ship ports (R372). -/
  | telegramTransmit
  /-- A received SIGNALS telegram updates received-signal entries (R374). -/
  | signalsRx (t : List Word) (r0 r1 : Word)
  /-- A received SIGSTATE telegram updates received-signal entries (R374). -/
  | sigstateRx (t : List Word) (r0 r1 : Word)
  /-- A received STATUS telegram feeds the domain comparison (R378). -/
  | statusRx (t : List Word)
  /-- A received ALARM, CALL or VALUES telegram is counted and not applied (R375). -/
  | otherTelegramRx (t : List Word)
  /-- A received ARM request is armed under R72 (R376). -/
  | requestArmRx (t : List Word)
  /-- A received ALMCMD request is queued as an alarm command (R376). -/
  | requestAlmcmdRx (t : List Word)
  /-- A received OPLCMD request is queued as an Opal command (R376). -/
  | requestOplcmdRx (t : List Word)
  /-- A received READ request is answered with the words read (R377). -/
  | requestReadRx (t : List Word)
  /-- A received READREC request is answered with records (R377). -/
  | requestReadrecRx (t : List Word)
  /-- An entry without an update for AGE rounds becomes STALE (R375). -/
  | rxsigStale (n : Fin 4096)
  /-- A checked crosslink frame from the partner is taken (R387). -/
  | crosslinkFrameRx (lane : Bool) (f : JFrame) (arr : Word)
  /-- A CARRY record applies a carried host write (R396). -/
  | carryRecordRx (a : Addr) (w epoch : Word)
  /-- A CMD record delivers an alarm or Opal command in the active's order (R232). -/
  | cmdRecordRx (opl keyed : Bool) (w epoch : Word)
  /-- An ARM record arms a pair- or network-scope action in the partner (R70). -/
  | armRecordRx (target arg cmd epoch : Word)
  /-- A STATE record loads table or rolling-copy state into a joining unit (R412). -/
  | stateRecordRx (sec : Fin 16) (idx : BitVec 16) (l : List Word)
  /-- A JOIN record carries the image digest for comparison (R412). -/
  | joinRecordRx (digest : BitVec 256)
  /-- A VERD record starts the active's self-check or carries the verdict (R402). -/
  | verdRecordRx (v : Fin 8) (d : Word)
  /-- The standby lacks a complete replay of beat B at B + 6 and leaves step (R391). -/
  | replayMissing
  /-- A digitisation disagreement beyond DDT or DCNT sets its JL_DDIS bit (R398). -/
  | disagreementRaise (p : Fin 168)
  /-- Agreement for DDT or DCNT clears the JL_DDIS bit (R398). -/
  | disagreementClear (p : Fin 168)
  /-- A unit sends its witness word every 16 beats (R392). -/
  | witnessSend
  /-- A valid witness word from the partner is received (R392). -/
  | witnessRx (w : BitVec 16)
  /-- No valid witness word for 48 beats makes the witness silent (R393). -/
  | witnessSilent
  /-- No checked frame for 16 beats gives LINKLOST or a partition (R405). -/
  | crosslinkSilence
  /-- An active that gives up releases its outputs and sets GIVEUP (R401). -/
  | releaseControl
  /-- The standby takes control at T with its epoch increased (R401). -/
  | standbyTakeover
  /-- The 32-beat referee self-check ends (R402). -/
  | refereeSelfCheckEnd (fail : Fin 4)
  /-- At D + 64 both units start sampling the referee outputs (R402). -/
  | refereeWindowOpen
  /-- The referee window ends and the verdict is reached (R402). -/
  | refereeVerdict
  /-- Partner outputs dead for 50,000 beats let the observer take control (R407). -/
  | observerTakeover
  /-- Operating hours reach SWAPH, and the active arms a pair-scope swap (R411). -/
  | autoSwapArm
  /-- The post-swap check ends, and the new active keeps control or releases with cause 11 (R411). -/
  | postSwapCheckEnd
  /-- PROBR rounds without a mismatch bring the joiner to JOINED (R412). -/
  | probationEnd
  /-- SEEKR rounds without a partner make the unit ACTIVE (R413). -/
  | seekTimeout
  /-- A joined standby in LAY-UP enters ASLEEP (R415). -/
  | sleepEntry
  /-- After SLEEPR rounds the standby wakes at beat-in-round 900,000 (R415). -/
  | wakeUp
  /-- No frame in the guard window for one round starts the wide search (R417). -/
  | wakeGuardTimeout
  /-- The wide search finds nothing in 2 rounds and the lanes are treated as silent (R417). -/
  | wakeSearchTimeout
  /-- SLEEPR + 3 rounds of silence from a sleeping partner let the active treat it as a partition (R416). -/
  | sleepPartitionTimeout
  /-- The keyed GIVEUP command releases control to a joined partner (R400). -/
  | jlGiveup
  /-- The keyed RESYNC command takes a failed unit through a resync reset to SEEKING (R414). -/
  | jlResync
  /-- The keyed command arms a pair-scope swap for the second round boundary (R418). -/
  | jlSwapArm
  /-- The recorder reads the snapshot words in the beat after a trigger (R424). -/
  | onyxSnapshot
  /-- A queued record begins to be written when a token is held (R428). -/
  | onyxRecordWrite
  /-- A record write completes and the slot becomes valid (R430). -/
  | onyxRecordWriteEnd
  /-- A system record is raised each 3600 rounds of OPR (R422). -/
  | oprHourRecord
  /-- A host write of ONX_HTRIG raises a class 7 trigger (R422). -/
  | onxHtrigWrite (w : Word)
  /-- A write of ONX_RDSEL starts a coherent copy of a slot (R432). -/
  | onxRdselWrite (area : Bool) (idx : Fin 16384)
  /-- The slot copy completes with its result in ONX_RDST (R432). -/
  | onyxCopyComplete
  /-- A write of ONX_CHREQ requests a clear challenge (R435). -/
  | onxChallengeRequest (w : Word)
  /-- A new challenge is placed in ONX_CHAL0–7 (R435). -/
  | onxChallengeReady
  /-- A keyed ONX_CLR write requests a clear (R435). -/
  | onxClearCommand
  /-- At the round boundary the response is compared and the clear starts (R434). -/
  | onyxClearStart
  /-- The clear completes its steps (R434). -/
  | onyxClearComplete
  /-- A challenge lapses after 64 rounds (R435). -/
  | onxChallengeLapse
  /-- The 600-round lock-out after repeated failures ends (R435). -/
  | onxLockoutEnd
  /-- SUBS returns to 0 and the calendar fields advance (R438). -/
  | calendarSecond
  /-- No oscillator cycle for 4 cycle times sets OSF with CAUSE 2 (R441). -/
  | oscillatorStop
  /-- The domain starts without retained power and resets its fields (R442). -/
  | calendarDomainStart
  /-- The calendar domain changes between VSUP, VBK and the cell (R437). -/
  | calendarSupplyChange (vsup : Bool) (vbk : Bool)
  /-- The SET command loads the date and time (R444). -/
  | clkSet
  /-- The SHIFT command makes a sub-second shift pending (R445). -/
  | clkShift (arg : BitVec 16)
  /-- The CAPTURE command latches the calendar and node time (R449). -/
  | clkCapture
  /-- The WINDOW command starts a rate window at the next round boundary (R448). -/
  | clkWindow
  /-- A rate window of TRIMWIN rounds ends and writes the error (R448). -/
  | rateWindowEnd (err : BitVec 24)
  /-- The OPEN command opens a session on the target bank (R457). -/
  | imgOpen
  /-- A write of IMG_WDATA streams the next image word (R458). -/
  | imgWdataWrite (w : Word)
  /-- The VERIFY command starts checking the streamed image (R459). -/
  | imgVerify
  /-- Verification ends with its result within 2 rounds (R459). -/
  | imgVerifyComplete
  /-- The ABORT command ends the session and leaves the target invalid (R458). -/
  | imgAbort
  /-- The APPLY command schedules the apply of a pending image (R462). -/
  | imgApply
  /-- A keyed COMMIT write requests the image commit (R461). -/
  | imgCommit
  /-- The commit writes the staged header at the round boundary (R460). -/
  | imageCommitRun
  /-- The header is read back and APPLYPEND is set (R460). -/
  | imageCommitComplete (mismatch : Bool)
  /-- Preparation of an apply begins at round boundary P (R463). -/
  | imagePreparation
  /-- The apply takes effect at round boundary A (R464). -/
  | imageApply (parity : Bool)
  /-- SAFECELL's first result decides between SAFE and STARTMODE (R467). -/
  | safecellFirstResult
  /-- A write of IMG_KCHREQ requests a key challenge (R474). -/
  | imgKeyChallengeRequest (w : Word)
  /-- A key challenge is placed in IMG_KCHAL0–7 (R474). -/
  | imgKeyChallengeReady
  /-- The keyed SET command requests a new recorder key (R474). -/
  | keySet
  /-- The keyed REMOVE command requests removal of the key (R474). -/
  | keyRemove
  /-- At the round boundary the response is checked and the key copy written (R474). -/
  | keyCommandRun
  /-- A READ transaction reads words in plain form (R478). -/
  | hostRead (a : Addr) (n : BitVec 12) (ups : List UpsetAt)
  /-- A READ CHECKED transaction reads words with tag and response (R478). -/
  | hostReadChecked (check : Byte) (a : Addr) (n : BitVec 12) (ups : List UpsetAt)
  /-- A WRITE transaction queues words at advancing addresses (R481). -/
  | hostWrite (a : Addr) (l : List Word)
  /-- A WRITE CHECKED transaction queues tagged words (R479). -/
  | hostWriteChecked (check : Byte) (a : Addr) (l : List (Word × Byte))
  /-- A WRITE FIXED transaction queues words to one address (R477). -/
  | hostWriteFixed (a : Addr) (l : List Word)
  /-- A WRITE FIXED CHECKED transaction queues tagged words to one address (R477). -/
  | hostWriteFixedChecked (check : Byte) (a : Addr) (l : List (Word × Byte))
  /-- READ LOCK reads a free-area word and locks it (R491). -/
  | hostReadLock (check : Byte) (a : Addr) (ups : List UpsetAt)
  /-- WRITE UNLOCK writes the locked word and releases the lock (R491). -/
  | hostWriteUnlock (check : Byte) (a : Addr) (w : Word) (tag : Byte)
  /-- READ STATUS returns HST_STAT (R477). -/
  | hostReadStatus
  /-- READ ID returns SYS_ID (R477). -/
  | hostReadId
  /-- An unlisted opcode is ignored and sets BADOP (R477). -/
  | hostBadOpcode (op : Byte)
  /-- HST_CS_N rising inside a word ends the transaction (R482). -/
  | hostCsRise (issued : Bool) (a : Addr) (ups : List UpsetAt)
  /-- A queued host write word is executed as a transfer (R481). -/
  | hostWriteExecute
  /-- A write to a register without a row of its own takes effect on its plane (R33). -/
  | registerWrite (a : Addr) (w : Word)
  /-- A write of HST_KEY advances the path's key state (R488). -/
  | keyWordWrite (debug : Bool) (w : Word)
  /-- A key state not completed within 64 beats returns to IDLE with EXPIRED (R489). -/
  | keySequenceExpiry (debug : Bool)
  /-- A lock held for 16 beats is broken (R492). -/
  | lockBreak
  /-- A write of 1 to HST_LOCK.REL releases the lock (R491). -/
  | lockRelease
  /-- The 2-wire READ command reads words (R493). -/
  | mgRead (a : Addr) (count : Byte) (ups : List UpsetAt)
  /-- The 2-wire WRITE command writes words after the PEC passes (R493). -/
  | mgWrite (a : Addr) (l : List Word) (pecOk : Bool)
  /-- The 2-wire STATUS command returns HST_MGSTAT (R493). -/
  | mgStatus
  /-- A line low for 35 ms makes the port abandon the bus and hold off (R494). -/
  | mgBusStuck
  /-- Both lines high for 1,000,000 beats clear HOLDOFF (R494). -/
  | mgHoldoffEnd
  /-- Test-Logic-Reset or JT_TRST_N loads IDCODE (R495). -/
  | tapReset
  /-- The EXTEST instruction drives the boundary scan chain when permitted (R496). -/
  | jtagExtest
  /-- The SAMPLE/PRELOAD instruction selects the boundary scan register (R495). -/
  | jtagSamplePreload
  /-- The IDCODE instruction selects the identity register (R495). -/
  | jtagIdcode
  /-- The CLAMP instruction holds the boundary cells driving when permitted (R496). -/
  | jtagClamp
  /-- The HIGHZ instruction makes scanned outputs high-impedance when permitted (R496). -/
  | jtagHighz
  /-- The DBGACC instruction selects the debug access register (R497). -/
  | jtagDbgacc
  /-- The DBGCTL instruction selects the debug control register (R498). -/
  | jtagDbgctl
  /-- The BYPASS instruction, or an unlisted code, selects the bypass register (R495). -/
  | jtagBypass
  /-- A DBGACC read access reads a word without side effects (R497). -/
  | debugRead (a : Addr) (ups : List UpsetAt)
  /-- A DBGACC write access writes a word under host rules (R497). -/
  | debugWrite (a : Addr) (w : Word)
  /-- An accepted HALT stops the management processor (R499). -/
  | debugHalt
  /-- RESUME restarts the processor and its watchdog (R499). -/
  | debugResume
  /-- SYS_CMD 1 enters SAFE with SAFECAUSE 4 (R501). -/
  | sysEnterSafe
  /-- SYS_CMD 2 arms a change to MAINTENANCE once the cause has cleared (R502). -/
  | sysSafeExit
  /-- SYS_CMD 3 causes a warm reset (R539). -/
  | sysWarmReset
  /-- SYS_CMD 4 causes a soft reset (R540). -/
  | sysSoftReset
  /-- SYS_CMD 5 sets HALTOK (R498). -/
  | sysHaltokSet
  /-- SYS_CMD 6 clears HALTOK (R498). -/
  | sysHaltokClear
  /-- Any other SYS_CMD value gives BADCMD (R501). -/
  | sysInvalidCmd (w : Word)
  /-- A legacy read transaction returns QSTAT and translated words (R506). -/
  | legacyRead (a : BitVec 15) (n : BitVec 12) (late : List (BitVec 12))
  /-- A legacy write transaction writes words at advancing addresses (R506). -/
  | legacyWrite (a : BitVec 15) (l : List (BitVec 16))
  /-- HST_CS_N rising inside a slot ends the legacy transaction (R508). -/
  | legacyCsRise (fetched : Option (BitVec 15))
  /-- The translation engine executes a queued legacy write (R521). -/
  | legacyWriteExecute
  /-- A QMODE write arms a mode change to RUN or MAINTENANCE (R515). -/
  | qmodeWrite (v : BitVec 16)
  /-- QCMD code 1 issues an acknowledge of a point (R516). -/
  | qcmdAckPoint (n : Fin 128)
  /-- QCMD code 2 issues an acknowledge of a group (R516). -/
  | qcmdAckGroup (g : Fin 16)
  /-- QCMD code 3 acknowledges points 0–127 (R516). -/
  | qcmdAckAll
  /-- QCMD code 4 issues a first-out reset (R516). -/
  | qcmdResetFirstOut (g : Fin 16)
  /-- QCMD code 5 sets host signal 63 for 1000 beats (R516). -/
  | qcmdHornSilence
  /-- An invalid QCMD code sets CMDERR and WIGN (R516). -/
  | qcmdInvalid (v : BitVec 16)
  /-- Host signal 63 returns to 0 after 1000 beats (R516). -/
  | hornSilenceEnd
  /-- A two-word QTIME write issues a CLK SET (R517). -/
  | qtimeWrite (secs : BitVec 32)
  /-- A QHI write rewrites the channel's high limit (R519). -/
  | qhiWrite (c : Fin 64) (v : BitVec 16)
  /-- A QLO write rewrites the channel's low limit (R519). -/
  | qloWrite (c : Fin 64) (v : BitVec 16)
  /-- A QDLY write schedules a rewrite of the group's on-delays (R520). -/
  | qdlyWrite (g : Fin 16) (v : BitVec 16)
  /-- The group's points are rewritten at the next round boundary (R520). -/
  | qdlyRewrite
  /-- A received legacy ALARM updates received-signal entries (R532). -/
  | legacyAlarmRx (p : Fin 2) (frame : List Byte)
  /-- A received legacy HEARTBEAT refreshes the entries of its address (R532). -/
  | legacyHeartbeatRx (p : Fin 2) (frame : List Byte)
  /-- A received legacy ACK is queued as an alarm command (R533). -/
  | legacyAckRx (p : Fin 2) (frame : List Byte)
  /-- A received legacy VALUE telegram is counted and ignored (R533). -/
  | legacyValueRx (p : Fin 2) (frame : List Byte)
  /-- A received legacy TIME telegram is counted and ignored (R533). -/
  | legacyTimeRx (p : Fin 2) (frame : List Byte)
  /-- Legacy ALARM telegrams are formed after state changes of points 0–127 (R525). -/
  | legacyAlarmForm
  /-- A legacy HEARTBEAT is formed at beat-in-round 750,000 (R525). -/
  | legacyHeartbeatForm
  /-- Legacy VALUE telegrams are formed every VPER rounds (R525). -/
  | legacyValueForm
  /-- After the idle time and back-off a port starts sending a telegram (R528). -/
  | legacyTransmitStart (p : Fin 2)
  /-- A start bit seen during the back-off defers the telegram (R528). -/
  | legacyStartDefer (p : Fin 2)
  /-- A read-back mismatch stops the driver and doubles W (R529). -/
  | legacyCollision (p : Fin 2)
  /-- A telegram is sent completely and W returns to its initial value (R529). -/
  | legacyTransmitEnd (p : Fin 2)
  /-- A line at space for 100 ms starts the stuck test (R531). -/
  | legacyLineStuck (p : Fin 2)
  /-- The 10 ms driver disconnection ends, giving OWN or STUCK (R531). -/
  | legacyDriverTestEnd (p : Fin 2) (mark : Bool)
  /-- Mark for 1,000,000 beats clears STUCK (R531). -/
  | legacyStuckClear (p : Fin 2)
  /-- The internal loop supply leaves its limits, LO_STAT.SUPOK falls, and after 10 ms the unit gives up control with cause 5 (R400). -/
  | loopSupplyOutOfLimits (ok : Bool)
  /-- A channel's input crosses a comparator threshold level and the raw comparator output changes, restarting the CDEB count (R135). -/
  | comparatorCrossing (ch : Fin 128) (neg : Bool) (mag : BitVec 24)
  /-- A discrete input's electrical level changes, restarting the filter count and, before acceptance, rejecting the previous change and incrementing REJ (R305). -/
  | dioRawChange (n : Fin 32) (level : Bool)
  /-- A raw transition on a speed counting input restarts the edge filter count and is counted for the overrange window, or rejected and counted in SPD_CNTn.REJ (R328). -/
  | speedRawTransition (n : Fin 8) (rising : Bool) (rejected : Bool)
  /-- The switch current of a clamped output falls below the clamp level and the clamp releases, clearing DIO_PSTn.CLAMP (R311). -/
  | dioClampEnd (n : Fin 32)
  /-- A crosslink lane's PCS gains or loses block lock, which decides whether frames are sent and received on that lane (R386). -/
  | crosslinkBlockLock (lane lock : Bool)
  /-- A received crosslink frame copy fails its checks and is discarded and counted in JL_LINK (R387). -/
  | crosslinkFrameDiscard (lane : Bool)
  /-- A witness word with a bad CHK or overlapping another is received and counted in JL_WIT.BADW (R393). -/
  | witnessBadWord
  /-- A received frame or datagram fails the MAC, token, format, end-to-end or identity checks and is discarded and counted, possibly setting IDCONF (R369). -/
  | datagramDiscard (why : Fin 7)
  /-- A legacy bus frame with a parity, framing, gap, length or CRC error, or of an unlisted type, is discarded and counted in ERR (R526). -/
  | legacyFrameError (p : Fin 2)
  /-- A PTP Follow_Up message carrying the precise origin timestamp of a two-step Sync is received (R353). -/
  | ptpFollowUpRx (p : Fin 2) (dom : BitVec 8) (gm : BitVec 64) (seq : BitVec 16) (origin : Int)
  /-- A key challenge lapses after 64 rounds without use (R474). -/
  | imgKeyChallengeLapse
  /-- The 600-round lock-out of key challenges after three BADRESP results ends (R474). -/
  | imgKeyLockoutEnd
  /-- The in-package calendar cell's charge falls below, or rises back above, 20 %, changing CLK_STAT.CELLLOW (R437). -/
  | cellChargeChange (low : Bool)
deriving DecidableEq, Repr

end Sys2Proof
end

