-- ==== Sys2Proof/Decode.lean ====
section
/-! DEFINITION. The commands that words spell: the table gives no row any bits, so no word spells a command (a block takes its
commands from outside and has no instruction decoder). -/
namespace Sys2Proof

/-- The command of a word of `nbits` bits numbered as the table numbers them. -/
def decodeTableWord (_nbits _w : Nat) : Option Instr := none

end Sys2Proof
end

