-- ==== Sys2Proof/Machine/Operands.lean ====
section
/-! DEFINITION. The operand forms of the machine: bit fields of a word, signed fields, quantity words (R8, R9), BCD
digits, and the byte and bit orders in which checks take words. -/
namespace Sys2Proof.Machine

/-- Bits `hi` down to `lo` of a number (R5). -/
def bits (w hi lo : Nat) : Nat := (w >>> lo) % 2 ^ (hi + 1 - lo)

/-- One bit of a number. -/
def bit (w i : Nat) : Bool := (w >>> i) % 2 == 1

/-- `w` with bits `hi` down to `lo` replaced by `v` (its excess bits dropped). -/
def setBits (w hi lo v : Nat) : Nat :=
  w - (bits w hi lo <<< lo) + ((v % 2 ^ (hi + 1 - lo)) <<< lo)

/-- `w` with one bit set or cleared. -/
def setBit (w i : Nat) (v : Bool) : Nat := setBits w i i v.toNat

/-- A two's-complement number of `n` bits. -/
def signed (n v : Nat) : Int := if v % 2 ^ n < 2 ^ (n - 1) then (v % 2 ^ n : Nat) else (v % 2 ^ n : Nat) - (2 ^ n : Nat)

/-- The `n` low bits of an integer, two's complement. -/
def unsign (n : Nat) (v : Int) : Nat := (v % (2 ^ n : Nat)).toNat

/-- A word from a number. -/
abbrev W (n : Nat) : Word := BitVec.ofNat 36 n

/-- A field of a word. -/
def fld (w : Word) (hi lo : Nat) : Nat := bits w.toNat hi lo

/-- One bit of a word. -/
def wbit (w : Word) (i : Nat) : Bool := bit w.toNat i

/-- A quantity word from its quality code and its value bits (R8, R9). -/
def qword (q v : Nat) : Word := W ((q % 16) <<< 32 + v % 2 ^ 32)

/-- The quality code of a quantity word. -/
def qOf (w : Word) : Nat := fld w 35 32

/-- The signed value of a quantity word. -/
def vOf (w : Word) : Int := signed 32 (fld w 31 0)

/-- Quality is bad: bit 35 set (R9); 3 and 7 are treated as bad-config (R10). -/
def qBad (q : Nat) : Bool := q ≥ 8 || q == 3 || q == 7

/-- The live value mirror's power-up word: Q = 15, value 0 (R9). -/
def noValue : Word := qword 15 0

/-- A number limited to a ceiling. -/
def satAt (m n : Nat) : Nat := if n > m then m else n

/-- A two-digit BCD number. -/
def bcdVal (b : Nat) : Nat := bits b 15 12 * 1000 + bits b 11 8 * 100 + bits b 7 4 * 10 + bits b 3 0

/-- The BCD form of a number below 10000. -/
def toBcd (n : Nat) : Nat := (n / 1000 % 10) <<< 12 + (n / 100 % 10) <<< 8 + (n / 10 % 10) <<< 4 + n % 10

/-- Every digit of a BCD number of `k` digits is 0 to 9. -/
def bcdOk (k b : Nat) : Bool := (List.range k).all (fun i => bits b (4 * i + 3) (4 * i) ≤ 9)

/-- A default standing for the code 0 ("0 selects n"). -/
def orElse (v d : Nat) : Nat := if v == 0 then d else v

/-- The numbers of the set bits of `w` below `n`. -/
def setIdx (w n : Nat) : List Nat := (List.range n).filter (bit w)

/-- A mask with the listed bits set. -/
def maskOf (l : List Nat) : Nat := l.foldl (fun m i => if bit m i then m else m + 2 ^ i) 0

/-- The bits of a number, least significant first. -/
def lsbBits (n w : Nat) : List Bool := (List.range n).map (bit w)

/-- The bits of a number, most significant first. -/
def msbBits (n w : Nat) : List Bool := (List.range n).map (fun i => bit w (n - 1 - i))

/-- A number from bits, most significant first. -/
def ofMsb (l : List Bool) : Nat := l.foldl (fun a b => 2 * a + b.toNat) 0

/-- A number from big-endian bytes. -/
def ofBytes (l : List Byte) : Nat := l.foldl (fun a b => 256 * a + b.toNat) 0

/-- The `n` big-endian bytes of a number. -/
def toBytes (n w : Nat) : List Byte := (List.range n).map (fun i => BitVec.ofNat 8 (w >>> (8 * (n - 1 - i))))

/-- The exclusive or of the words of a list. -/
def xorAll (l : List Nat) : Nat := l.foldl (fun a b => a ^^^ b) 0

/-- Ceiling of a quotient. -/
def ceilDiv (a b : Nat) : Nat := (a + b - 1) / b

/-- A quotient of integers rounded to nearest, ties away from zero. -/
def roundDiv (a : Int) (b : Nat) : Int :=
  if b = 0 then 0 else if a ≥ 0 then (2 * a + b) / (2 * b) else -((2 * (-a) + b) / (2 * b))

/-- A rational rounded to the nearest integer, ties away from zero. -/
def roundRat (q : Rat) : Int := roundDiv q.num q.den

end Sys2Proof.Machine
end

