-- ==== Sys2Proof/Machine/Checks.lean ====
section
/-! DEFINITION. The checks and digests: CRC-8 (R16), CRC-32C (R157, R194), CRC-4 (R392), the legacy CRC-16 (R523),
SHA-256 and HMAC-SHA-256 (the checks table of "The KZ936 at a glance"). -/
namespace Sys2Proof.Machine

/-- One step of the CRC-8 of R16: polynomial 0x2F, most significant bit first. -/
def crc8Step (c : Nat) (b : Bool) : Nat :=
  let x := (2 * c) % 256
  if (c ≥ 128) != b then x ^^^ 0x2F else x

/-- The CRC-8 of a bit string from a start value. -/
def crc8From (init : Nat) (l : List Bool) : Nat := l.foldl crc8Step init

/-- The island tag of a word: bits 35 down to 0, initial value 0xFF (R16). -/
def tagOf (w : Word) : Byte := BitVec.ofNat 8 (crc8From 0xFF (msbBits 36 w.toNat))

/-- The poisoned tag: the true CRC-8 with all eight bits inverted (R21). -/
def poisonTag (w : Word) : Byte := ~~~ (tagOf w)

/-- The header check of a checked transaction: CRC-8 over the 32 bits of opcode and address (R477). -/
def headerCheck (op : Byte) (a : Addr) : Byte :=
  BitVec.ofNat 8 (crc8From 0xFF (msbBits 8 op.toNat ++ msbBits 24 a.toNat))

/-- One step of the reflected CRC-32C. -/
def crc32cStep (c : Nat) (b : Bool) : Nat :=
  let x := c / 2
  if (c % 2 == 1) != b then x ^^^ 0x82F63B78 else x

/-- CRC-32C of a bit string: reflected, initial value 0xFFFFFFFF, final inversion. -/
def crc32cBits (l : List Bool) : Nat := (l.foldl crc32cStep 0xFFFFFFFF) ^^^ 0xFFFFFFFF

/-- CRC-32C of words, each fed as 36 bits, least significant bit first (R157). -/
def crc32c (l : List Word) : Nat :=
  (l.foldl (fun c w => (lsbBits 36 w.toNat).foldl crc32cStep c) 0xFFFFFFFF) ^^^ 0xFFFFFFFF

/-- The CRC-4 of a witness word: polynomial x⁴ + x + 1, initial value 0, over bits 15 down to 4 (R392). -/
def crc4 (w : Nat) : Nat :=
  (msbBits 12 (w / 16)).foldl (fun c b => let x := (2 * c) % 16; if (c ≥ 8) != b then x ^^^ 3 else x) 0

/-! ### SHA-256 -/

/-- The `k`-th root of `n`, rounded down, found bit by bit: `x` is what the bits above the `b` low ones give. -/
def rootBits (k n : Nat) : Nat → Nat → Nat
  | 0, x => x
  | b + 1, x => rootBits k n b (if (x + 2 ^ b) ^ k ≤ n then x + 2 ^ b else x)

/-- The first 32 bits of the fractional part of the `k`-th root of a number below 2^9: the form in which the standard defines
its constants. -/
def rootFrac (k n : Nat) : Nat := rootBits k (n * 2 ^ (32 * k)) 37 0 % 2 ^ 32

/-- The primes below 312: 64 of them. -/
def shaPrimes : List Nat :=
  (List.range 312).filter (fun n => 2 ≤ n && ((List.range 16).all (fun d => n == d + 2 || n % (d + 2) != 0)))

/-- The 64 round constants: from the cube roots of the first 64 primes. -/
def shaRoundKeys : List Nat := shaPrimes.map (rootFrac 3)

/-- Rotate a 32-bit number right. -/
def ror32 (x n : Nat) : Nat := (x >>> n) ||| ((x <<< (32 - n)) % 2 ^ 32)

/-- The message schedule: the last sixteen words, newest first, extended `n` times. -/
def shaExtend : Nat → List Nat → List Nat
  | 0, w => w
  | n + 1, w =>
    let g := fun i => w.getD i 0
    let s0 := ror32 (g 14) 7 ^^^ ror32 (g 14) 18 ^^^ (g 14 >>> 3)
    let s1 := ror32 (g 1) 17 ^^^ ror32 (g 1) 19 ^^^ (g 1 >>> 10)
    shaExtend n ((g 15 + s0 + g 6 + s1) % 2 ^ 32 :: w)

/-- One round of the compression, on the eight working variables a to h. -/
def shaRound (v : List Nat) (kw : Nat × Nat) : List Nat :=
  match v with
  | [a, b, c, d, e, f, g, h] =>
    let t1 := h + (ror32 e 6 ^^^ ror32 e 11 ^^^ ror32 e 25) + ((e &&& f) ^^^ ((2 ^ 32 - 1 - e) &&& g)) + kw.1 + kw.2
    let t2 := (ror32 a 2 ^^^ ror32 a 13 ^^^ ror32 a 22) + ((a &&& b) ^^^ (a &&& c) ^^^ (b &&& c))
    [(t1 + t2) % 2 ^ 32, a, b, c, (d + t1) % 2 ^ 32, e, f, g]
  | _ => v

/-- One 64-byte block folded into the hash value. -/
def shaBlock (hv : List Nat) (ws : List Nat) : List Nat :=
  let sched := (shaExtend 48 ws.reverse).reverse
  let v := (shaRoundKeys.zip sched).foldl shaRound hv
  (hv.zip v).map (fun p => (p.1 + p.2) % 2 ^ 32)

/-- The initial hash value: from the square roots of the first eight primes. -/
def shaInit : List Nat := (shaPrimes.take 8).map (rootFrac 2)

/-- Cut a byte list into 32-bit big-endian words, `n` of them. -/
def beWords : Nat → List Byte → List Nat
  | 0, _ => []
  | n + 1, l => ofBytes (l.take 4) :: beWords n (l.drop 4)

/-- Fold `n` blocks of the padded message. -/
def shaBlocks : Nat → List Nat → List Byte → List Nat
  | 0, hv, _ => hv
  | n + 1, hv, l => shaBlocks n (shaBlock hv (beWords 16 (l.take 64))) (l.drop 64)

/-- The padding of a message of `n` bytes. -/
def shaPad (n : Nat) : List Byte :=
  0x80#8 :: List.replicate ((119 - n % 64) % 64) 0#8 ++ toBytes 8 (8 * n)

/-- SHA-256 of a byte string: 32 bytes. -/
def sha256 (m : List Byte) : List Byte :=
  let p := m ++ shaPad m.length
  (shaBlocks (p.length / 64) shaInit p).flatMap (toBytes 4)

/-- HMAC-SHA-256 under a key of 32 bytes. -/
def hmacSha256 (key msg : List Byte) : List Byte :=
  let k := key ++ List.replicate (64 - key.length) 0#8
  sha256 (k.map (· ^^^ 0x5c#8) ++ sha256 (k.map (· ^^^ 0x36#8) ++ msg))

/-- The bytes of 32-bit words, most significant byte first. -/
def wordBytes (l : List (BitVec 32)) : List Byte := l.flatMap (fun w => toBytes 4 w.toNat)

end Sys2Proof.Machine
end

