-- ==== Sys2Proof/Config.lean ====
section
/-! DEFINITION. What the spec fixes for the device but does not state a value for, and the free values it leaves open:
uninterpreted constants, of which nothing can be proved. -/
namespace Sys2Proof.Config

/-- A value the spec leaves open, the `n`-th one the machine takes (the counter stands in `State.freeCtr`). -/
opaque freeWord : Nat → BitVec 36

/-- The `n`-th word of a challenge drawn at random (R435, R474: words 0 to 5 are random). -/
opaque randomWord : Nat → BitVec 32

/-- The thermocouple reference function E(t) of IEC 60584-1, in volts of t in °C, by CURVE 8 to 17 (R147). The spec names the
standard and does not print its coefficients. -/
opaque tcVolts : Nat → Rat → Rat

/-- How far the iteration of R147 stops from the temperature at which the reference function takes a voltage, in K, by CURVE; the
machine uses it within ±0.001 K. -/
opaque tcError : Nat → Rat → Rat

/-- How far the iteration of R148 stops from the exact solution for a resistance, in K; the machine uses it within
±0.001 K. -/
opaque rtdError : Rat → Rat

/-- The step of a loop-output stage, nA (R268). The spec prints a typical figure only (R300). -/
opaque loopStep : Rat

end Sys2Proof.Config
end

