-- ==== Sys2Proof/Machine/RegMap.lean ====
section
/-! DEFINITION. The register maps of the chapters (R44 to R49, R80, R105, R139, R170, R197, R233, R260, R301, R326,
R347, R379, R418, R436, R451, R475, R501, R503, R538) as data: one row per register with its address, its repetition,
its value after a cold reset, and the masks of the bits of each access kind, and one name per field. -/
namespace Sys2Proof.Machine

/-- One register of the maps: `base` with `n1` copies `s1` words apart, each with `n2` copies `s2` words apart; the
value after cold reset, and the masks of the access kinds (R5's table of codes). `keep` marks the fields whose reset
column carries '=' (a warm reset leaves them); `impl` the defined bits. -/
structure RegRow where
  base : Nat
  s1 : Nat
  n1 : Nat
  s2 : Nat
  n2 : Nat
  reset : Nat
  keep : Nat
  rw : Nat
  w1c : Nat
  rc : Nat
  wo : Nat
  wk : Nat
  impl : Nat
deriving DecidableEq, Repr

/-- Whether an address is one of the row's copies. -/
def RegRow.has (r : RegRow) (a : Nat) : Bool :=
  r.base ≤ a && (a - r.base) / r.s1 < r.n1 && (a - r.base) % r.s1 % r.s2 == 0 && (a - r.base) % r.s1 / r.s2 < r.n2

/-- A field of a register: its word address and its bits. -/
structure Fld where
  addr : Nat
  hi : Nat
  lo : Nat
deriving DecidableEq, Repr

/-- Rows of the SYS block. -/
def rowsSYS0 : List RegRow :=
  [
⟨0o40000010, 1, 1, 1, 1, 0x23, 0, 0, 0, 0, 0, 0, 0xff3f⟩ /- SYS_MODE (R44) -/,
   ⟨0o40000011, 1, 1, 1, 1, 0, 0, 0, 0, 0, 0, 0, 0x1fffffff⟩ /- SYS_ISTAT (R45) -/,
   ⟨0o40000012, 1, 1, 1, 1, 0x20, 0, 0xff, 0, 0, 0, 0, 0xff⟩ /- SYS_HTO (R47) -/,
   ⟨0o40000013, 1, 1, 1, 1, 0, 0xfffffffff, 0, 0x800000000, 0, 0, 0, 0xfffffffff⟩ /- SYS_HTOLOG (R48) -/,
   ⟨0o40000023, 1, 1, 1, 1, 0x1f580000, 0, 0, 0, 0, 0, 0, 0x1fffffff⟩ /- SYS_IUSE (R46) -/,
   ⟨0o40000014, 1, 1, 1, 1, 0, 0xfffffffff, 0, 0, 0xfffffffff, 0, 0, 0xfffffffff⟩ /- SYS_ICHK0 (R49) -/,
   ⟨0o40000015, 1, 1, 1, 1, 0, 0xfffffffff, 0, 0, 0xfffffffff, 0, 0, 0xfffffffff⟩ /- SYS_ICHK1 (R49) -/,
   ⟨0o40000016, 1, 1, 1, 1, 0, 0xfffffffff, 0, 0, 0xfffffffff, 0, 0, 0xfffffffff⟩ /- SYS_ICHK2 (R49) -/,
   ⟨0o40000017, 1, 1, 1, 1, 0, 0xfffffffff, 0, 0, 0xfffffffff, 0, 0, 0xfffffffff⟩ /- SYS_ICHK3 (R49) -/,
   ⟨0o40000000, 1, 1, 1, 1, 0x3a801000, 0, 0, 0, 0, 0, 0, 0xffffff000⟩ /- SYS_ID (R501) -/,
   ⟨0o40000001, 1, 1, 1, 1, 0, 0, 0, 0, 0, 0, 0, 0x3⟩ /- SYS_STRAP (R501) -/,
   ⟨0o40000002, 1, 1, 1, 1, 0, 0, 0, 0, 0, 0, 0, 0xf⟩ /- SYS_RSTAT (R501) -/]

/-- Rows of the SYS block. -/
def rowsSYS1 : List RegRow :=
  [
⟨0o40000003, 1, 1, 1, 1, 0, 0x3ffff, 0, 0, 0x3ffff, 0, 0, 0xfc003ffff⟩ /- SYS_WDOG (R501) -/,
   ⟨0o40000020, 1, 1, 1, 1, 0, 0, 0, 0, 0, 0, 0xfffffffff, 0xfffffffff⟩ /- SYS_CMD (R501) -/,
   ⟨0o40000021, 1, 1, 1, 1, 0, 0, 0, 0, 0, 0, 0, 0xf00000000⟩ /- SYS_CRES (R501) -/,
   ⟨0o40000022, 1, 1, 1, 1, 0, 0x3ffff, 0, 0x100000000, 0x3ffff, 0, 0, 0xf0003ffff⟩ /- SYS_DBG (R501) -/]

/-- The SYS block (R30). -/
def rowsSYS : List RegRow := rowsSYS0 ++ rowsSYS1

/-- Rows of the TIM block. -/
def rowsTIM0 : List RegRow :=
  [
⟨0o40010000, 1, 1, 1, 1, 0, 0, 0, 0, 0, 0, 0, 0xfffffffff⟩ /- TIM_NOW0 (R80) -/,
   ⟨0o40010001, 1, 1, 1, 1, 0, 0, 0, 0, 0, 0, 0, 0xfffffffff⟩ /- TIM_NOW1 (R80) -/,
   ⟨0o40010002, 1, 1, 1, 1, 0, 0, 0, 0, 0, 0, 0, 0xfffffffff⟩ /- TIM_NOW2 (R80) -/,
   ⟨0o40010003, 1, 1, 1, 1, 0, 0, 0, 0, 0, 0, 0, 0xfffff⟩ /- TIM_NOW3 (R80) -/,
   ⟨0o40010004, 1, 1, 1, 1, 0x3c643e86, 0xffffffffe, 0xffffffffe, 0, 0, 0, 0, 0xffffffffe⟩ /- TIM_DISC (R80) -/,
   ⟨0o40010005, 1, 1, 1, 1, 0, 0, 0, 0, 0xff0000, 0, 0, 0xfffff00e7⟩ /- TIM_DSTAT (R80) -/,
   ⟨0o40010006, 1, 1, 1, 1, 0, 0, 0, 0, 0, 0, 0, 0xfffffffff⟩ /- TIM_OFFS (R80) -/,
   ⟨0o40010007, 1, 1, 1, 1, 0, 0, 0, 0, 0, 0, 0, 0xfffffffff⟩ /- TIM_FADJ (R80) -/,
   ⟨0o40010010, 1, 1, 1, 1, 0x2710, 0xffff, 0xffff, 0, 0, 0, 0, 0xffff⟩ /- TIM_PPSO (R80) -/,
   ⟨0o40010020, 1, 1, 1, 1, 0, 0, 0xfffffffff, 0, 0, 0, 0, 0xfffffffff⟩ /- TIM_LTGT (R80) -/,
   ⟨0o40010021, 1, 1, 1, 1, 0, 0, 0xfffffffff, 0, 0, 0, 0, 0xfffffffff⟩ /- TIM_LARG (R80) -/,
   ⟨0o40010022, 1, 1, 1, 1, 0, 0, 0, 0, 0, 0xfffffc000, 0, 0xfffffc000⟩ /- TIM_LCMD (R80) -/]

/-- Rows of the TIM block. -/
def rowsTIM1 : List RegRow :=
  [
⟨0o40010023, 1, 1, 1, 1, 0, 0, 0, 0, 0, 0, 0, 0xff0000000⟩ /- TIM_LSTAT (R80) -/,
   ⟨0o40010024, 1, 1, 1, 1, 0x138804010, 0xfffffffff, 0xfffffffff, 0, 0, 0, 0, 0xfffffffff⟩ /- TIM_MINLEAD (R80) -/,
   ⟨0o40010030, 1, 1, 1, 1, 0xc00000000, 0, 0, 0, 0, 0, 0, 0xfffffffff⟩ /- TIM_MDIG (R80) -/,
   ⟨0o40010031, 1, 1, 1, 1, 0, 0, 0, 0, 0, 0, 0, 0xfffffffff⟩ /- TIM_MPART (R80) -/,
   ⟨0o40010032, 1, 1, 1, 1, 0, 0xffc7ff, 0xffc7ff, 0, 0, 0, 0, 0xffc7ff⟩ /- TIM_MDOM (R80) -/,
   ⟨0o40010033, 1, 1, 1, 1, 0, 0, 0, 0, 0, 0, 0, 0xe3000ffff⟩ /- TIM_MSTAT (R80) -/,
   ⟨0o40010100, 2, 16, 1, 1, 0, 0, 0, 0, 0, 0, 0, 0xfffffffff⟩ /- TIM_SLOT_W0 (R80) -/,
   ⟨0o40010101, 2, 16, 1, 1, 0, 0, 0, 0, 0, 0, 0, 0xffffffc00⟩ /- TIM_SLOT_W1 (R80) -/]

/-- The TIM block (R30). -/
def rowsTIM : List RegRow := rowsTIM0 ++ rowsTIM1

/-- Rows of the FI block. -/
def rowsFI0 : List RegRow :=
  [
⟨0o40020360, 256, 16, 1, 4, 0, 0, 0, 0, 0, 0, 0, 0xffffffff⟩ /- FI_CSTAT (R105) -/,
   ⟨0o40020364, 256, 16, 1, 4, 0, 0, 0, 0, 0, 0, 0, 0xffff⟩ /- FI_CFLAG (R105) -/,
   ⟨0o40020370, 256, 16, 1, 1, 0, 0, 0, 0, 0, 0xffffffff, 0, 0xffffffff⟩ /- FI_TSYNC (R105) -/,
   ⟨0o40020371, 256, 16, 1, 1, 0, 0xfffffffff, 0, 0, 0xfffffffff, 0, 0, 0xfffffffff⟩ /- FI_RLCNT (R105) -/,
   ⟨0o40020372, 256, 16, 1, 1, 0, 0, 0, 0, 0, 0, 0, 0xfffffffff⟩ /- FI_PASS (R105) -/,
   ⟨0o40020000, 256, 16, 1, 1, 0x3, 0x3, 0x3, 0, 0, 0, 0, 0x3⟩ /- FI_CFG (R139) -/,
   ⟨0o40020001, 256, 16, 1, 1, 0, 0xff, 0xff, 0, 0, 0, 0, 0xff⟩ /- FI_TXPWR (R139) -/,
   ⟨0o40020002, 256, 16, 1, 1, 0xff, 0xff, 0xff, 0, 0, 0, 0, 0xff⟩ /- FI_CCTL (R139) -/,
   ⟨0o40020010, 256, 16, 1, 8, 0, 0xfffff8fff, 0xfffff8fff, 0, 0, 0, 0, 0xfffff8fff⟩ /- FI_SLCFG (R139) -/,
   ⟨0o40020020, 256, 16, 1, 8, 0, 0, 0, 0x200000000, 0xffff0000, 0, 0, 0xeffffffff⟩ /- FI_SLST (R139) -/,
   ⟨0o40020030, 256, 16, 1, 1, 0, 0, 0, 0, 0, 0xff, 0, 0xff⟩ /- FI_STRIG (R139) -/,
   ⟨0o40020031, 256, 16, 1, 1, 0, 0, 0, 0, 0, 0, 0, 0xff80fffff⟩ /- FI_STAT (R139) -/]

/-- Rows of the FI block. -/
def rowsFI1 : List RegRow :=
  [
⟨0o40020040, 256, 16, 1, 8, 0xf00000000, 0, 0, 0, 0, 0, 0, 0xf00ffffff⟩ /- FI_RAW (R139) -/,
   ⟨0o40020060, 256, 16, 1, 1, 0, 0, 0, 0, 0, 0, 0, 0xffffffff⟩ /- FI_CBITS (R139) -/,
   ⟨0o40020061, 256, 16, 1, 1, 0, 0, 0, 0, 0xffff, 0, 0, 0xffff⟩ /- FI_CEVT (R139) -/,
   ⟨0o40020062, 256, 16, 1, 1, 0, 0, 0, 0, 0, 0, 0, 0xffff⟩ /- FI_LBITS (R139) -/,
   ⟨0o40020070, 256, 16, 1, 1, 0, 0, 0, 0, 0xffff00000, 0, 0, 0xffff0ff3f⟩ /- FI_SCHK (R139) -/,
   ⟨0o40020071, 256, 16, 1, 1, 0, 0, 0, 0, 0, 0, 0, 0xffffff⟩ /- FI_CJRAW (R139) -/]

/-- The FI block (R30). -/
def rowsFI : List RegRow := rowsFI0 ++ rowsFI1

/-- Rows of the CAL block. -/
def rowsCAL0 : List RegRow :=
  [
⟨0o40030000, 1, 1, 1, 1, 0, 0, 0, 0, 0, 0, 0, 0xff0000000⟩ /- CAL_STAT (R170) -/,
   ⟨0o40030001, 1, 1, 1, 1, 0, 0, 0, 0, 0, 0, 0, 0xfffffffff⟩ /- CAL_SEQA (R170) -/,
   ⟨0o40030002, 1, 1, 1, 1, 0, 0, 0, 0, 0, 0, 0, 0xfffffffff⟩ /- CAL_SEQB (R170) -/,
   ⟨0o40030004, 1, 1, 1, 1, 0x1, 0x1, 0x1, 0, 0, 0, 0, 0x1⟩ /- CAL_CFG (R170) -/,
   ⟨0o40030010, 1, 1, 1, 1, 0, 0, 0x37f, 0, 0, 0, 0, 0x37f⟩ /- CAL_CHSEL (R170) -/,
   ⟨0o40030011, 1, 1, 1, 1, 0, 0, 0xfffffffff, 0, 0, 0, 0, 0xfffffffff⟩ /- CAL_REF (R170) -/,
   ⟨0o40030012, 1, 1, 1, 1, 0, 0, 0x3f, 0, 0, 0, 0, 0x3f⟩ /- CAL_NAVG (R170) -/,
   ⟨0o40030013, 1, 1, 1, 1, 0, 0, 0, 0, 0, 0xf, 0, 0xf⟩ /- CAL_CMD (R170) -/,
   ⟨0o40030014, 1, 1, 1, 1, 0, 0, 0, 0, 0, 0, 0xfffffffff, 0xfffffffff⟩ /- CAL_CMT (R170) -/,
   ⟨0o40030015, 1, 1, 1, 1, 0, 0, 0, 0, 0, 0, 0, 0xffff00fff⟩ /- CAL_CSTAT (R170) -/,
   ⟨0o40030100, 1, 64, 1, 1, 0, 0, 0xfffffffff, 0, 0, 0, 0, 0xfffffffff⟩ /- CAL_WIN (R170) -/]

/-- The CAL block (R30). -/
def rowsCAL : List RegRow := rowsCAL0

/-- Rows of the BL block. -/
def rowsBL0 : List RegRow :=
  [
⟨0o40040000, 1, 1, 1, 1, 0, 0, 0, 0, 0, 0, 0, 0xcffff1fff⟩ /- BL_STAT (R197) -/,
   ⟨0o40040001, 1, 1, 1, 1, 0, 0xffff80000, 0, 0, 0, 0, 0, 0xffff80000⟩ /- BL_ERR (R197) -/,
   ⟨0o40040002, 1, 1, 1, 1, 0, 0xfffffffff, 0, 0, 0xfffffffff, 0, 0, 0xfffffffff⟩ /- BL_QOVF (R197) -/,
   ⟨0o40040003, 1, 1, 1, 1, 0, 0, 0, 0, 0, 0, 0, 0xfffffffff⟩ /- BL_DIGB (R197) -/,
   ⟨0o40040004, 1, 1, 1, 1, 0, 0, 0, 0, 0, 0, 0, 0xffffffff⟩ /- BL_DIG (R197) -/,
   ⟨0o40040010, 1, 8, 1, 1, 0, 0, 0xe00000fff, 0, 0, 0, 0, 0xf00000fff⟩ /- BL_CFORCE (R197) -/,
   ⟨0o40040020, 1, 2, 1, 1, 0, 0, 0xffffffff, 0, 0, 0, 0, 0xffffffff⟩ /- BL_HSIG (R197) -/,
   ⟨0o40040030, 1, 1, 1, 1, 0, 0, 0xfff, 0, 0, 0, 0, 0xfff⟩ /- BL_PEEKSEL (R197) -/,
   ⟨0o40040031, 1, 1, 1, 1, 0, 0, 0, 0, 0, 0, 0, 0xfffffffff⟩ /- BL_PEEK (R197) -/]

/-- The BL block (R30). -/
def rowsBL : List RegRow := rowsBL0

/-- Rows of the ALM block. -/
def rowsALM0 : List RegRow :=
  [
⟨0o40050000, 1, 1, 1, 1, 0, 0, 0, 0, 0, 0, 0, 0xf80000000⟩ /- ALM_STAT (R233) -/,
   ⟨0o40050001, 1, 1, 1, 1, 0, 0, 0, 0, 0, 0, 0, 0x1ffffffff⟩ /- ALM_CNT (R233) -/,
   ⟨0o40050010, 1, 1, 1, 1, 0, 0, 0, 0, 0, 0xfffff03ff, 0, 0xfffff03ff⟩ /- ALM_CMD (R233) -/,
   ⟨0o40050011, 1, 1, 1, 1, 0, 0, 0, 0, 0, 0, 0xfffffffff, 0xfffffffff⟩ /- ALM_KCMD (R233) -/,
   ⟨0o40050012, 1, 1, 1, 1, 0, 0, 0, 0, 0, 0, 0, 0xf800007ff⟩ /- ALM_CRES (R233) -/,
   ⟨0o40050013, 1, 1, 1, 1, 0, 0, 0, 0, 0, 0x8000003ff, 0, 0x8000003ff⟩ /- ALM_TSYNC (R233) -/,
   ⟨0o40050014, 1, 1, 1, 1, 0, 0xfffffffff, 0, 0, 0xfffffffff, 0, 0, 0xfffffffff⟩ /- ALM_RLCNT (R233) -/,
   ⟨0o40051000, 2, 64, 1, 1, 0, 0xfffffffe0, 0xfffffffe0, 0, 0, 0, 0, 0xfffffffe0⟩ /- ALM_GCFG (R233) -/,
   ⟨0o40051001, 2, 64, 1, 1, 0, 0, 0, 0, 0, 0, 0, 0xffffffff8⟩ /- ALM_GST (R233) -/,
   ⟨0o40052000, 1, 1024, 1, 1, 0xe00000000, 0, 0, 0, 0, 0, 0, 0xfffc3ffff⟩ /- ALM_PST (R233) -/,
   ⟨0o40054000, 2, 1024, 1, 1, 0, 0, 0, 0, 0, 0, 0, 0xfffffffff⟩ /- ALM_PT_W0 (R233) -/,
   ⟨0o40054001, 2, 1024, 1, 1, 0, 0, 0, 0, 0, 0, 0, 0xfffffffff⟩ /- ALM_PT_W1 (R233) -/]

/-- The ALM block (R30). -/
def rowsALM : List RegRow := rowsALM0

/-- Rows of the OPL block. -/
def rowsOPL0 : List RegRow :=
  [
⟨0o40060000, 1, 1, 1, 1, 0, 0, 0, 0, 0, 0, 0, 0xfffe007ff⟩ /- OPL_STAT (R260) -/,
   ⟨0o40060001, 1, 1, 1, 1, 0, 0, 0, 0, 0, 0, 0, 0xffffff⟩ /- OPL_CALLED (R260) -/,
   ⟨0o40060002, 1, 1, 1, 1, 0, 0, 0, 0, 0, 0, 0, 0xffffff⟩ /- OPL_LEFT (R260) -/,
   ⟨0o40060003, 1, 1, 1, 1, 0, 0xf, 0xf, 0, 0, 0, 0, 0xf⟩ /- OPL_DUTY (R260) -/,
   ⟨0o40060004, 1, 1, 1, 1, 0, 0xffff, 0xffff, 0, 0, 0, 0, 0xffff⟩ /- OPL_AWAY (R260) -/,
   ⟨0o40060005, 1, 1, 1, 1, 0, 0, 0, 0, 0, 0xf0000ffff, 0, 0xf0000ffff⟩ /- OPL_CMD (R260) -/,
   ⟨0o40060006, 1, 1, 1, 1, 0, 0, 0, 0, 0, 0, 0xfffffffff, 0xfffffffff⟩ /- OPL_KCMD (R260) -/,
   ⟨0o40060007, 1, 1, 1, 1, 0, 0, 0, 0, 0, 0, 0, 0xf80000000⟩ /- OPL_CRES (R260) -/,
   ⟨0o40060010, 1, 1, 1, 1, 0, 0x800000000, 0x800000000, 0, 0, 0, 0, 0x800000000⟩ /- OPL_CFG (R260) -/,
   ⟨0o40060011, 1, 1, 1, 1, 0, 0, 0, 0, 0, 0x800000000, 0, 0x800000000⟩ /- OPL_TSYNC (R260) -/,
   ⟨0o40060012, 1, 1, 1, 1, 0, 0xfffffffff, 0, 0, 0xfffffffff, 0, 0, 0xfffffffff⟩ /- OPL_RLCNT (R260) -/,
   ⟨0o40060013, 1, 1, 1, 1, 0, 0, 0, 0, 0, 0, 0, 0xf⟩ /- OPL_CACHE (R260) -/]

/-- Rows of the OPL block. -/
def rowsOPL1 : List RegRow :=
  [
⟨0o40060014, 1, 1, 1, 1, 0, 0xfffffffff, 0, 0, 0xfffffffff, 0, 0, 0xfffffffff⟩ /- OPL_CNT (R260) -/]

/-- The OPL block (R30). -/
def rowsOPL : List RegRow := rowsOPL0 ++ rowsOPL1

/-- Rows of the LO block. -/
def rowsLO0 : List RegRow :=
  [
⟨0o40070360, 1, 4, 1, 1, 0, 0, 0, 0, 0, 0, 0, 0xffffffff⟩ /- LO_CSTAT (R105) -/,
   ⟨0o40070364, 1, 4, 1, 1, 0, 0, 0, 0, 0, 0, 0, 0xffff⟩ /- LO_CFLAG (R105) -/,
   ⟨0o40070370, 1, 1, 1, 1, 0, 0, 0, 0, 0, 0xffffffff, 0, 0xffffffff⟩ /- LO_TSYNC (R105) -/,
   ⟨0o40070371, 1, 1, 1, 1, 0, 0xfffffffff, 0, 0, 0xfffffffff, 0, 0, 0xfffffffff⟩ /- LO_RLCNT (R105) -/,
   ⟨0o40070000, 1, 1, 1, 1, 0, 0, 0, 0, 0, 0, 0, 0xe0000ffff⟩ /- LO_STAT (R301) -/,
   ⟨0o40070001, 1, 1, 1, 1, 0, 0, 0xffff, 0, 0, 0, 0, 0xffff⟩ /- LO_CFG (R301) -/,
   ⟨0o40070010, 1, 16, 1, 1, 0, 0, 0, 0, 0, 0, 0, 0xfffffff00⟩ /- LO_OST (R301) -/,
   ⟨0o40070030, 1, 16, 1, 1, 0, 0, 0, 0, 0, 0, 0, 0xffffffe00⟩ /- LO_RB (R301) -/,
   ⟨0o40070050, 1, 1, 1, 1, 0, 0, 0xffffff, 0, 0, 0, 0, 0xffffff⟩ /- LO_FTXA (R301) -/,
   ⟨0o40070051, 1, 1, 1, 1, 0, 0, 0xffffff, 0, 0, 0, 0, 0xffffff⟩ /- LO_FRXA (R301) -/,
   ⟨0o40070052, 1, 1, 1, 1, 0, 0, 0, 0, 0, 0xf000001ff, 0, 0xf000001ff⟩ /- LO_FREQ (R301) -/,
   ⟨0o40070053, 1, 1, 1, 1, 0, 0, 0, 0, 0, 0, 0, 0xf00000000⟩ /- LO_FRES (R301) -/]

/-- Rows of the LO block. -/
def rowsLO1 : List RegRow :=
  [
⟨0o40070060, 1, 16, 1, 1, 0, 0, 0, 0, 0, 0, 0, 0xfffffffff⟩ /- LO_FST (R301) -/,
   ⟨0o40070100, 1, 16, 1, 1, 0, 0xfffffffff, 0, 0, 0xfffffffff, 0, 0, 0xfffffffff⟩ /- LO_FCNT (R301) -/]

/-- The LO block (R30). -/
def rowsLO : List RegRow := rowsLO0 ++ rowsLO1

/-- Rows of the DIO block. -/
def rowsDIO0 : List RegRow :=
  [
⟨0o40100360, 1, 4, 1, 1, 0, 0, 0, 0, 0, 0, 0, 0xffffffff⟩ /- DIO_CSTAT (R105) -/,
   ⟨0o40100364, 1, 4, 1, 1, 0, 0, 0, 0, 0, 0, 0, 0xffff⟩ /- DIO_CFLAG (R105) -/,
   ⟨0o40100370, 1, 1, 1, 1, 0, 0, 0, 0, 0, 0xffffffff, 0, 0xffffffff⟩ /- DIO_TSYNC (R105) -/,
   ⟨0o40100371, 1, 1, 1, 1, 0, 0xfffffffff, 0, 0, 0xfffffffff, 0, 0, 0xfffffffff⟩ /- DIO_RLCNT (R105) -/,
   ⟨0o40100000, 1, 1, 1, 1, 0, 0, 0, 0, 0, 0, 0, 0xf0000000f⟩ /- DIO_STAT (R326) -/,
   ⟨0o40100001, 1, 1, 1, 1, 0, 0, 0, 0, 0, 0, 0, 0xffffffff⟩ /- DIO_STATE (R326) -/,
   ⟨0o40100002, 1, 1, 1, 1, 0, 0, 0, 0, 0, 0, 0, 0xffffffff⟩ /- DIO_RAW (R326) -/,
   ⟨0o40100003, 1, 1, 1, 1, 0, 0, 0, 0, 0, 0, 0, 0xffffffff⟩ /- DIO_CHAT (R326) -/,
   ⟨0o40100004, 1, 1, 1, 1, 0, 0, 0, 0, 0, 0, 0, 0xffffffff⟩ /- DIO_STUCK (R326) -/,
   ⟨0o40100005, 1, 1, 1, 1, 0, 0, 0, 0xffffffff, 0, 0, 0, 0xffffffff⟩ /- DIO_OFLT (R326) -/,
   ⟨0o40100006, 1, 1, 1, 1, 0, 0, 0, 0, 0xffffffff, 0, 0, 0xffffffff⟩ /- DIO_EVT (R326) -/,
   ⟨0o40100010, 1, 4, 1, 1, 0, 0, 0, 0x400000000, 0, 0, 0, 0xfc0000fff⟩ /- DIO_GST (R326) -/]

/-- Rows of the DIO block. -/
def rowsDIO1 : List RegRow :=
  [
⟨0o40100020, 1, 32, 1, 1, 0, 0, 0x3ffff, 0, 0, 0, 0, 0x3ffff⟩ /- DIO_DUTY (R326) -/,
   ⟨0o40100100, 1, 32, 1, 1, 0, 0, 0, 0, 0, 0, 0, 0xffeff0000⟩ /- DIO_PST (R326) -/,
   ⟨0o40100140, 1, 32, 1, 1, 0, 0, 0, 0, 0, 0, 0, 0x3ffff⟩ /- DIO_ADUTY (R326) -/,
   ⟨0o40100200, 1, 32, 1, 1, 0, 0xfffffffff, 0, 0, 0xfffffffff, 0, 0, 0xfffffffff⟩ /- DIO_CNT (R326) -/]

/-- The DIO block (R30). -/
def rowsDIO : List RegRow := rowsDIO0 ++ rowsDIO1

/-- Rows of the SPD block. -/
def rowsSPD0 : List RegRow :=
  [
⟨0o40110360, 1, 4, 1, 1, 0, 0, 0, 0, 0, 0, 0, 0xffffffff⟩ /- SPD_CSTAT (R105) -/,
   ⟨0o40110364, 1, 4, 1, 1, 0, 0, 0, 0, 0, 0, 0, 0xffff⟩ /- SPD_CFLAG (R105) -/,
   ⟨0o40110370, 1, 1, 1, 1, 0, 0, 0, 0, 0, 0xffffffff, 0, 0xffffffff⟩ /- SPD_TSYNC (R105) -/,
   ⟨0o40110371, 1, 1, 1, 1, 0, 0xfffffffff, 0, 0, 0xfffffffff, 0, 0, 0xfffffffff⟩ /- SPD_RLCNT (R105) -/,
   ⟨0o40110000, 1, 1, 1, 1, 0, 0, 0, 0, 0, 0, 0, 0xc00ffffff⟩ /- SPD_STAT (R347) -/,
   ⟨0o40110010, 1, 8, 1, 1, 0xf00000000, 0, 0, 0, 0, 0, 0, 0xffff00000⟩ /- SPD_PST (R347) -/,
   ⟨0o40110020, 1, 8, 1, 1, 0, 0, 0, 0, 0, 0, 0, 0xffffffff⟩ /- SPD_PER (R347) -/,
   ⟨0o40110040, 1, 8, 1, 1, 0, 0xfffffffff, 0, 0, 0xfffffffff, 0, 0, 0xfffffffff⟩ /- SPD_CNT (R347) -/]

/-- The SPD block (R30). -/
def rowsSPD : List RegRow := rowsSPD0

/-- Rows of the SN block. -/
def rowsSN0 : List RegRow :=
  [
⟨0o40120000, 1, 1, 1, 1, 0, 0, 0, 0x80000000, 0, 0, 0, 0xfc000003f⟩ /- SN_STAT (R379) -/,
   ⟨0o40120001, 1, 2, 1, 1, 0x980000000, 0xf80000000, 0xf80000000, 0, 0, 0, 0, 0xf80000000⟩ /- SN_PCFG (R379) -/,
   ⟨0o40120003, 1, 2, 1, 1, 0, 0x3ffff, 0, 0, 0x3ffff, 0, 0, 0xffc03ffff⟩ /- SN_PST (R379) -/,
   ⟨0o40120005, 1, 2, 1, 1, 0, 0, 0, 0, 0, 0, 0, 0xffff⟩ /- SN_MACH (R379) -/,
   ⟨0o40120007, 1, 2, 1, 1, 0, 0, 0, 0, 0, 0, 0, 0xffffffff⟩ /- SN_MACL (R379) -/,
   ⟨0o40120011, 1, 1, 1, 1, 0, 0xffffffff, 0xffffffff, 0, 0, 0, 0, 0xffffffff⟩ /- SN_ID (R379) -/,
   ⟨0o40120012, 1, 1, 1, 1, 0, 0xffffffff, 0xffffffff, 0, 0, 0, 0, 0xffffffff⟩ /- SN_IP (R379) -/,
   ⟨0o40120013, 1, 1, 1, 1, 0x400000000, 0xfffffe000, 0xfffffe000, 0, 0, 0, 0, 0xfffffe000⟩ /- SN_CFG (R379) -/,
   ⟨0o40120014, 1, 1, 1, 1, 0, 0xffffff000, 0xffffff000, 0, 0, 0, 0, 0xffffff000⟩ /- SN_TXG (R379) -/,
   ⟨0o40120020, 2, 16, 1, 1, 0, 0xffffffff, 0xffffffff, 0, 0, 0, 0, 0xffffffff⟩ /- SN_GRP_W0 (R379) -/,
   ⟨0o40120021, 2, 16, 1, 1, 0, 0xff800ffff, 0xff800ffff, 0, 0, 0, 0, 0xff800ffff⟩ /- SN_GRP_W1 (R379) -/,
   ⟨0o40120060, 1, 8, 1, 1, 0, 0xfffffffff, 0xfffffffff, 0, 0, 0, 0, 0xfffffffff⟩ /- SN_VL (R379) -/]

/-- Rows of the SN block. -/
def rowsSN1 : List RegRow :=
  [
⟨0o40120070, 1, 16, 1, 1, 0, 0xfffffffff, 0xfffffffff, 0, 0, 0, 0, 0xfffffffff⟩ /- SN_MSRC (R379) -/,
   ⟨0o40120120, 1, 1, 1, 1, 0, 0xfffffffff, 0, 0, 0xfffffffff, 0, 0, 0xfffffffff⟩ /- SN_TXCNT (R379) -/,
   ⟨0o40120121, 1, 1, 1, 1, 0, 0xfffffffff, 0, 0, 0xfffffffff, 0, 0, 0xfffffffff⟩ /- SN_RXCNT (R379) -/,
   ⟨0o40120122, 1, 1, 1, 1, 0, 0xfffffffff, 0, 0, 0xfffffffff, 0, 0, 0xfffffffff⟩ /- SN_RXERR (R379) -/,
   ⟨0o40120123, 1, 1, 1, 1, 0, 0xfffffffff, 0, 0, 0xfffffffff, 0, 0, 0xfffffffff⟩ /- SN_MCNT (R379) -/]

/-- The SN block (R30). -/
def rowsSN : List RegRow := rowsSN0 ++ rowsSN1

/-- Rows of the JL block. -/
def rowsJL0 : List RegRow :=
  [
⟨0o40130000, 1, 1, 1, 1, 0x3c000000, 0, 0, 0, 0, 0, 0, 0xffff00000⟩ /- JL_STAT (R418) -/,
   ⟨0o40130001, 1, 1, 1, 1, 0, 0, 0, 0, 0, 0, 0, 0xfffffffff⟩ /- JL_EPOCH (R418) -/,
   ⟨0o40130002, 1, 1, 1, 1, 0, 0xfffffffff, 0xfffffffff, 0, 0, 0, 0, 0xfffffffff⟩ /- JL_CFG (R418) -/,
   ⟨0o40130003, 1, 1, 1, 1, 0, 0xffffffff, 0xffffffff, 0, 0, 0, 0, 0xffffffff⟩ /- JL_REFD (R418) -/,
   ⟨0o40130004, 1, 1, 1, 1, 0, 0xffff, 0xffff, 0, 0, 0, 0, 0xffff⟩ /- JL_REFL (R418) -/,
   ⟨0o40130005, 1, 1, 1, 1, 0, 0xfffffff00, 0xfffffff00, 0, 0, 0, 0, 0xfffffff00⟩ /- JL_DCFG (R418) -/,
   ⟨0o40130006, 1, 1, 1, 1, 0, 0xfffffc000, 0xfffffc000, 0, 0, 0, 0, 0xfffffc000⟩ /- JL_ALM (R418) -/,
   ⟨0o40130007, 1, 1, 1, 1, 0, 0xfff800000, 0xfff800000, 0, 0, 0, 0, 0xfff800000⟩ /- JL_LAY (R418) -/,
   ⟨0o40130010, 1, 1, 1, 1, 0, 0, 0, 0, 0, 0, 0xfffffffff, 0xfffffffff⟩ /- JL_CMD (R418) -/,
   ⟨0o40130011, 1, 1, 1, 1, 0, 0, 0, 0, 0, 0, 0, 0xf00000000⟩ /- JL_CRES (R418) -/,
   ⟨0o40130012, 1, 1, 1, 1, 0, 0xf80000000, 0, 0, 0, 0, 0, 0xf80000000⟩ /- JL_CAUSE (R418) -/,
   ⟨0o40130013, 1, 1, 1, 1, 0, 0xfffffffff, 0, 0, 0, 0, 0, 0xfffffffff⟩ /- JL_CAUSEB (R418) -/]

/-- Rows of the JL block. -/
def rowsJL1 : List RegRow :=
  [
⟨0o40130014, 1, 1, 1, 1, 0, 0, 0, 0, 0, 0, 0, 0xffffffff⟩ /- JL_PSEQ (R418) -/,
   ⟨0o40130015, 1, 1, 1, 1, 0, 0xffffff, 0, 0, 0xffffff, 0, 0, 0xfffffffff⟩ /- JL_LINK (R418) -/,
   ⟨0o40130016, 1, 1, 1, 1, 0, 0xfffffffff, 0, 0, 0xfffffffff, 0, 0, 0xfffffffff⟩ /- JL_LCNT (R418) -/,
   ⟨0o40130017, 1, 1, 1, 1, 0, 0xfffffffff, 0, 0, 0, 0, 0, 0xfffffffff⟩ /- JL_MMB (R418) -/,
   ⟨0o40130020, 1, 1, 1, 1, 0, 0xc00000000, 0, 0, 0, 0, 0, 0xc00000000⟩ /- JL_MMK (R418) -/,
   ⟨0o40130021, 1, 1, 1, 1, 0, 0xe0003ffff, 0, 0, 0x3ffff, 0, 0, 0xe0003ffff⟩ /- JL_REFST (R418) -/,
   ⟨0o40130022, 1, 1, 1, 1, 0, 0xfff000000, 0, 0, 0xfff000000, 0, 0, 0xfff00ffff⟩ /- JL_WIT (R418) -/,
   ⟨0o40130023, 1, 1, 1, 1, 0, 0x3ffff, 0, 0x800000000, 0x3ffff, 0, 0, 0x80003ffff⟩ /- JL_XRES (R418) -/,
   ⟨0o40130024, 1, 1, 1, 1, 0, 0x3ffff, 0, 0, 0x3ffff, 0, 0, 0xffff3ffff⟩ /- JL_SWAP (R418) -/,
   ⟨0o40130030, 1, 4, 1, 1, 0, 0, 0, 0, 0, 0, 0, 0xffffffff⟩ /- JL_DDIS (R418) -/,
   ⟨0o40130034, 1, 1, 1, 1, 0, 0, 0, 0, 0, 0, 0, 0xffffffff⟩ /- JL_DDISD (R418) -/,
   ⟨0o40130035, 1, 1, 1, 1, 0, 0, 0, 0, 0, 0, 0, 0xff⟩ /- JL_DDISS (R418) -/]

/-- Rows of the JL block. -/
def rowsJL2 : List RegRow :=
  [
⟨0o40130036, 1, 1, 1, 1, 0, 0x3ffff, 0, 0, 0x3ffff, 0, 0, 0x3ffff⟩ /- JL_DCNT (R418) -/]

/-- The JL block (R30). -/
def rowsJL : List RegRow := rowsJL0 ++ rowsJL1 ++ rowsJL2

/-- Rows of the ONX block. -/
def rowsONX0 : List RegRow :=
  [
⟨0o40140000, 1, 1, 1, 1, 0, 0, 0, 0, 0, 0, 0, 0xfffff1fff⟩ /- ONX_STAT (R436) -/,
   ⟨0o40140001, 1, 1, 1, 1, 0, 0x8000fffff, 0x8000fffff, 0, 0, 0, 0, 0x8000fffff⟩ /- ONX_CFG (R436) -/,
   ⟨0o40140002, 1, 1, 1, 1, 0, 0, 0, 0, 0, 0, 0, 0xfffffffff⟩ /- ONX_SEQ (R436) -/,
   ⟨0o40140003, 1, 1, 1, 1, 0, 0, 0, 0, 0, 0, 0, 0xfffffffff⟩ /- ONX_CSEQ (R436) -/,
   ⟨0o40140004, 1, 1, 1, 1, 0, 0, 0, 0, 0, 0, 0, 0xfffffffff⟩ /- ONX_PCC (R436) -/,
   ⟨0o40140005, 1, 1, 1, 1, 0, 0, 0, 0, 0, 0, 0, 0xfffffffff⟩ /- ONX_OPR (R436) -/,
   ⟨0o40140006, 1, 1, 1, 1, 0, 0xfffffffff, 0, 0, 0xfffffffff, 0, 0, 0xfffffffff⟩ /- ONX_LOST (R436) -/,
   ⟨0o40140013, 1, 5, 1, 1, 0x800000000, 0xc0000000f, 0xc0000000f, 0, 0, 0, 0, 0xc0000000f⟩ /- ONX_CCFG (R436) -/,
   ⟨0o40140011, 1, 2, 1, 1, 0, 0xf, 0xf, 0, 0, 0, 0, 0xf⟩ /- ONX_CCFGX (R436) -/,
   ⟨0o40140020, 1, 1, 1, 1, 0, 0, 0, 0, 0, 0xfffffffff, 0, 0xfffffffff⟩ /- ONX_HTRIG (R436) -/,
   ⟨0o40140030, 1, 1, 1, 1, 0, 0, 0x800003fff, 0, 0, 0, 0, 0x800003fff⟩ /- ONX_RDSEL (R436) -/,
   ⟨0o40140031, 1, 1, 1, 1, 0, 0, 0, 0, 0, 0, 0, 0xe00000000⟩ /- ONX_RDST (R436) -/]

/-- Rows of the ONX block. -/
def rowsONX1 : List RegRow :=
  [
⟨0o40140040, 1, 32, 1, 1, 0, 0, 0, 0, 0, 0, 0, 0xfffffffff⟩ /- ONX_RD (R436) -/,
   ⟨0o40140100, 1, 1, 1, 1, 0, 0, 0, 0, 0, 0xfffffffff, 0, 0xfffffffff⟩ /- ONX_CHREQ (R436) -/,
   ⟨0o40140110, 1, 8, 1, 1, 0, 0, 0, 0, 0, 0, 0, 0xffffffff⟩ /- ONX_CHAL (R436) -/,
   ⟨0o40140120, 1, 8, 1, 1, 0, 0, 0xffffffff, 0, 0, 0, 0, 0xffffffff⟩ /- ONX_RESP (R436) -/,
   ⟨0o40140130, 1, 1, 1, 1, 0, 0, 0, 0, 0, 0, 0xfffffffff, 0xfffffffff⟩ /- ONX_CLR (R436) -/,
   ⟨0o40140131, 1, 1, 1, 1, 0, 0xffffffff, 0, 0, 0, 0, 0, 0xfffffffff⟩ /- ONX_CRES (R436) -/,
   ⟨0o40141000, 16, 16, 1, 16, 0, 0x800ffffff, 0x800ffffff, 0, 0, 0, 0, 0x800ffffff⟩ /- ONX_SSET (R436) -/]

/-- The ONX block (R30). -/
def rowsONX : List RegRow := rowsONX0 ++ rowsONX1

/-- Rows of the CLK block. -/
def rowsCLK0 : List RegRow :=
  [
⟨0o40150000, 1, 1, 1, 1, 0x200008380, 0xfffffffc0, 0, 0, 0, 0, 0, 0xfffffffc0⟩ /- CLK_DATE (R451) -/,
   ⟨0o40150001, 1, 1, 1, 1, 0, 0xfffff7fff, 0, 0, 0, 0, 0, 0xfffff7fff⟩ /- CLK_TIME (R451) -/,
   ⟨0o40150002, 1, 1, 1, 1, 0xa00000000, 0xe1800ffff, 0, 0, 0, 0, 0, 0xff800ffff⟩ /- CLK_STAT (R451) -/,
   ⟨0o40150003, 1, 1, 1, 1, 0xc00000000, 0xfffffffff, 0xfffffffff, 0, 0, 0, 0, 0xfffffffff⟩ /- CLK_CFG (R451) -/,
   ⟨0o40150004, 1, 1, 1, 1, 0x25, 0xc000000ff, 0xc000000ff, 0, 0, 0, 0, 0xc000000ff⟩ /- CLK_UTC (R451) -/,
   ⟨0o40150005, 1, 1, 1, 1, 0, 0xfff, 0xfff, 0, 0, 0, 0, 0xfff⟩ /- CLK_TRIM (R451) -/,
   ⟨0o40150006, 1, 1, 1, 1, 0, 0xc00ffffff, 0, 0, 0, 0, 0, 0xc00ffffff⟩ /- CLK_RATE (R451) -/,
   ⟨0o40150007, 1, 1, 1, 1, 0, 0x3ffff, 0, 0, 0x3ffff, 0, 0, 0x3ffff⟩ /- CLK_SYNCS (R451) -/,
   ⟨0o40150010, 1, 1, 1, 1, 0, 0xfffffffff, 0xfffffffff, 0, 0, 0, 0, 0xfffffffff⟩ /- CLK_SETD (R451) -/,
   ⟨0o40150011, 1, 1, 1, 1, 0, 0xfffffffff, 0xfffffffff, 0, 0, 0, 0, 0xfffffffff⟩ /- CLK_SETT (R451) -/,
   ⟨0o40150012, 1, 1, 1, 1, 0, 0, 0, 0, 0, 0xf0000ffff, 0, 0xf0000ffff⟩ /- CLK_CMD (R451) -/,
   ⟨0o40150013, 1, 1, 1, 1, 0, 0, 0, 0, 0, 0, 0, 0xf00000000⟩ /- CLK_CRES (R451) -/]

/-- Rows of the CLK block. -/
def rowsCLK1 : List RegRow :=
  [
⟨0o40150020, 1, 4, 1, 1, 0, 0, 0, 0, 0, 0, 0, 0xfffffffff⟩ /- CLK_CAP (R451) -/,
   ⟨0o40150040, 1, 16, 1, 1, 0, 0xfffffffff, 0xfffffffff, 0, 0, 0, 0, 0xfffffffff⟩ /- CLK_BK (R451) -/]

/-- The CLK block (R30). -/
def rowsCLK : List RegRow := rowsCLK0 ++ rowsCLK1

/-- Rows of the IMG block. -/
def rowsIMG0 : List RegRow :=
  [
⟨0o40160000, 1, 1, 1, 1, 0, 0x300800000, 0, 0, 0, 0, 0, 0xffff00000⟩ /- IMG_STAT (R475) -/,
   ⟨0o40160001, 1, 1, 1, 1, 0, 0, 0, 0, 0, 0, 0, 0xfffffffff⟩ /- IMG_SEQA (R475) -/,
   ⟨0o40160002, 1, 1, 1, 1, 0, 0, 0, 0, 0, 0, 0, 0xfffffffff⟩ /- IMG_SEQB (R475) -/,
   ⟨0o40160003, 1, 1, 1, 1, 0, 0xfffffffff, 0, 0, 0, 0, 0, 0xfffffffff⟩ /- IMG_RUNDIG (R475) -/,
   ⟨0o40160004, 1, 1, 1, 1, 0, 0xfffffffff, 0, 0, 0, 0, 0, 0xfffffffff⟩ /- IMG_RUNSEQ (R475) -/,
   ⟨0o40160010, 1, 1, 1, 1, 0, 0, 0, 0, 0, 0xf, 0, 0xf⟩ /- IMG_CMD (R475) -/,
   ⟨0o40160011, 1, 1, 1, 1, 0, 0, 0xfffffffff, 0, 0, 0, 0, 0xfffffffff⟩ /- IMG_ATGT (R475) -/,
   ⟨0o40160012, 1, 1, 1, 1, 0, 0, 0, 0, 0, 0, 0, 0xff0000000⟩ /- IMG_CRES (R475) -/,
   ⟨0o40160013, 1, 1, 1, 1, 0, 0, 0, 0, 0, 0xfffffffff, 0, 0xfffffffff⟩ /- IMG_WDATA (R475) -/,
   ⟨0o40160014, 1, 1, 1, 1, 0x20000000, 0, 0, 0, 0, 0, 0, 0x3f8fffff⟩ /- IMG_WCNT (R475) -/,
   ⟨0o40160015, 1, 1, 1, 1, 0, 0xffffff, 0, 0, 0, 0, 0, 0xffffff⟩ /- IMG_BAD (R475) -/,
   ⟨0o40160020, 1, 1, 1, 1, 0, 0x800000000, 0x800000000, 0, 0, 0, 0, 0x800000000⟩ /- IMG_CFG (R475) -/]

/-- Rows of the IMG block. -/
def rowsIMG1 : List RegRow :=
  [
⟨0o40160021, 1, 1, 1, 1, 0, 0, 0, 0, 0, 0, 0xfffffffff, 0xfffffffff⟩ /- IMG_CMT (R475) -/,
   ⟨0o40160100, 1, 1, 1, 1, 0, 0, 0, 0, 0, 0xfffffffff, 0, 0xfffffffff⟩ /- IMG_KCHREQ (R475) -/,
   ⟨0o40160110, 1, 8, 1, 1, 0, 0, 0, 0, 0, 0, 0, 0xffffffff⟩ /- IMG_KCHAL (R475) -/,
   ⟨0o40160120, 1, 8, 1, 1, 0, 0, 0, 0, 0, 0xffffffff, 0, 0xffffffff⟩ /- IMG_KNEW (R475) -/,
   ⟨0o40160130, 1, 8, 1, 1, 0, 0, 0xffffffff, 0, 0, 0, 0, 0xffffffff⟩ /- IMG_KRESP (R475) -/,
   ⟨0o40160140, 1, 1, 1, 1, 0, 0, 0, 0, 0, 0, 0xfffffffff, 0xfffffffff⟩ /- IMG_KCMD (R475) -/,
   ⟨0o40160141, 1, 1, 1, 1, 0, 0xffffffff, 0, 0, 0, 0, 0, 0xfffffffff⟩ /- IMG_KRES (R475) -/]

/-- The IMG block (R30). -/
def rowsIMG : List RegRow := rowsIMG0 ++ rowsIMG1

/-- Rows of the HST block. -/
def rowsHST0 : List RegRow :=
  [
⟨0o40170000, 1, 1, 1, 1, 0, 0, 0, 0, 0, 0xfffffffff, 0, 0xfffffffff⟩ /- HST_KEY (R503) -/,
   ⟨0o40170001, 1, 1, 1, 1, 0, 0, 0, 0, 0, 0, 0, 0xff0ffffff⟩ /- HST_KSTAT (R503) -/,
   ⟨0o40170002, 1, 1, 1, 1, 0x20000000, 0, 0, 0xf40000000, 0, 0, 0, 0xfff800000⟩ /- HST_STAT (R503) -/,
   ⟨0o40170003, 1, 1, 1, 1, 0, 0, 0x800000000, 0, 0, 0, 0, 0x800000000⟩ /- HST_CFG (R503) -/,
   ⟨0o40170004, 1, 1, 1, 1, 0, 0, 0, 0x1ffff, 0, 0, 0, 0x1ffff⟩ /- HST_ISRC (R503) -/,
   ⟨0o40170005, 1, 1, 1, 1, 0, 0, 0x1ffff, 0, 0, 0, 0, 0x1ffff⟩ /- HST_IEN (R503) -/,
   ⟨0o40170006, 1, 1, 1, 1, 0, 0, 0, 0, 0xf80ffffff, 0, 0, 0xf80ffffff⟩ /- HST_WRES (R503) -/,
   ⟨0o40170007, 1, 1, 1, 1, 0, 0xfffffffff, 0, 0, 0xfffffffff, 0, 0, 0xfffffffff⟩ /- HST_ERRCNT (R503) -/,
   ⟨0o40170010, 1, 1, 1, 1, 0, 0, 0, 0, 0, 0x400000000, 0, 0xc00ffffff⟩ /- HST_LOCK (R503) -/,
   ⟨0o40170020, 1, 1, 1, 1, 0x800000058, 0xc00000000, 0xc00000000, 0, 0, 0, 0, 0xc0000007f⟩ /- HST_MGCFG (R503) -/,
   ⟨0o40170021, 1, 1, 1, 1, 0, 0x3ffff, 0, 0xa00000000, 0x3ffff, 0, 0, 0xe0003ffff⟩ /- HST_MGSTAT (R503) -/]

/-- The HST block (R30). -/
def rowsHST : List RegRow := rowsHST0

/-- Rows of the LEG block. -/
def rowsLEG0 : List RegRow :=
  [
⟨0o40200000, 1, 1, 1, 1, 0, 0, 0, 0, 0, 0, 0, 0xc0000ffff⟩ /- LEG_STAT (R538) -/,
   ⟨0o40200001, 1, 1, 1, 1, 0x300000, 0, 0xffffff000, 0, 0, 0, 0, 0xffffff000⟩ /- LEG_BCFG (R538) -/,
   ⟨0o40200002, 1, 2, 1, 1, 0xffffffff, 0, 0xffffffff, 0, 0, 0, 0, 0xffffffff⟩ /- LEG_KNOWN (R538) -/,
   ⟨0o40200004, 1, 2, 1, 1, 0, 0, 0, 0x100000000, 0, 0, 0, 0xfffc000ff⟩ /- LEG_PST (R538) -/,
   ⟨0o40200006, 1, 2, 1, 1, 0, 0xfffffffff, 0, 0, 0xfffffffff, 0, 0, 0xfffffffff⟩ /- LEG_BCNT (R538) -/,
   ⟨0o40200010, 1, 2, 1, 1, 0, 0xfffffffff, 0, 0, 0xfffffffff, 0, 0, 0xfffffffff⟩ /- LEG_ECNT (R538) -/,
   ⟨0o40200012, 1, 1, 1, 1, 0, 0, 0, 0, 0, 0, 0, 0xf00ffffff⟩ /- LEG_XRES (R538) -/]

/-- The LEG block (R30). -/
def rowsLEG : List RegRow := rowsLEG0

/-- The rows of the block an address falls in: block number `(a − 0o40000000) / 4096` in the order of R30. -/
def blockRows (a : Nat) : List RegRow :=
  match (a - 0o40000000) / 4096 with
  | 0 => rowsSYS
  | 1 => rowsTIM
  | 2 => rowsFI
  | 3 => rowsCAL
  | 4 => rowsBL
  | 5 => rowsALM
  | 6 => rowsOPL
  | 7 => rowsLO
  | 8 => rowsDIO
  | 9 => rowsSPD
  | 10 => rowsSN
  | 11 => rowsJL
  | 12 => rowsONX
  | 13 => rowsCLK
  | 14 => rowsIMG
  | 15 => rowsHST
  | 16 => rowsLEG
  | _ => []

/-- The row of the map that defines a register address, if the chapters define one (R31 otherwise). -/
def regRow (a : Nat) : Option RegRow :=
  if a < 0o40000000 then none else (blockRows a).find? (·.has a)

/-- A register's word after cold reset, as the maps give it (addresses no chapter defines read zero, R31). -/
def regReset (a : Nat) : Word :=
  match regRow a with
  | some r => BitVec.ofNat 36 r.reset
  | none => 0

/-! ### SYS -/
abbrev SYS_MODE : Nat := 0o40000010
abbrev SYS_MODE.RSTCAUSE : Fld := ⟨0o40000010, 15, 12⟩
abbrev SYS_MODE.SAFECAUSE : Fld := ⟨0o40000010, 11, 8⟩
abbrev SYS_MODE.STARTING : Fld := ⟨0o40000010, 5, 5⟩
abbrev SYS_MODE.PEND : Fld := ⟨0o40000010, 4, 4⟩
abbrev SYS_MODE.PMODE : Fld := ⟨0o40000010, 3, 2⟩
abbrev SYS_MODE.MODE : Fld := ⟨0o40000010, 1, 0⟩
abbrev SYS_ISTAT : Nat := 0o40000011
abbrev SYS_ISTAT.ALIVE : Fld := ⟨0o40000011, 28, 0⟩
abbrev SYS_HTO : Nat := 0o40000012
abbrev SYS_HTO.HTO_BEATS : Fld := ⟨0o40000012, 7, 0⟩
abbrev SYS_HTOLOG : Nat := 0o40000013
abbrev SYS_HTOLOG.VALID : Fld := ⟨0o40000013, 35, 35⟩
abbrev SYS_HTOLOG.OVF : Fld := ⟨0o40000013, 34, 34⟩
abbrev SYS_HTOLOG.REQ : Fld := ⟨0o40000013, 33, 29⟩
abbrev SYS_HTOLOG.TGT : Fld := ⟨0o40000013, 28, 24⟩
abbrev SYS_HTOLOG.ADDR : Fld := ⟨0o40000013, 23, 0⟩
abbrev SYS_IUSE : Nat := 0o40000023
abbrev SYS_IUSE.USE : Fld := ⟨0o40000023, 28, 0⟩
abbrev SYS_ICHK0 : Nat := 0o40000014
abbrev SYS_ICHK0.CORR : Fld := ⟨0o40000014, 35, 18⟩
abbrev SYS_ICHK0.FAIL : Fld := ⟨0o40000014, 17, 0⟩
abbrev SYS_ICHK1 : Nat := 0o40000015
abbrev SYS_ICHK1.CORR : Fld := ⟨0o40000015, 35, 18⟩
abbrev SYS_ICHK1.FAIL : Fld := ⟨0o40000015, 17, 0⟩
abbrev SYS_ICHK2 : Nat := 0o40000016
abbrev SYS_ICHK2.CORR : Fld := ⟨0o40000016, 35, 18⟩
abbrev SYS_ICHK2.FAIL : Fld := ⟨0o40000016, 17, 0⟩
abbrev SYS_ICHK3 : Nat := 0o40000017
abbrev SYS_ICHK3.CORR : Fld := ⟨0o40000017, 35, 18⟩
abbrev SYS_ICHK3.FAIL : Fld := ⟨0o40000017, 17, 0⟩
abbrev SYS_ID : Nat := 0o40000000
abbrev SYS_ID.PART : Fld := ⟨0o40000000, 35, 20⟩
abbrev SYS_ID.REV : Fld := ⟨0o40000000, 19, 12⟩
abbrev SYS_STRAP : Nat := 0o40000001
abbrev SYS_STRAP.COMPAT : Fld := ⟨0o40000001, 1, 1⟩
abbrev SYS_STRAP.UNIT : Fld := ⟨0o40000001, 0, 0⟩
abbrev SYS_RSTAT : Nat := 0o40000002
abbrev SYS_RSTAT.RCLASS : Fld := ⟨0o40000002, 3, 0⟩
abbrev SYS_WDOG : Nat := 0o40000003
abbrev SYS_WDOG.EXP : Fld := ⟨0o40000003, 35, 35⟩
abbrev SYS_WDOG.FROZEN : Fld := ⟨0o40000003, 34, 34⟩
abbrev SYS_WDOG.ROUNDS : Fld := ⟨0o40000003, 33, 30⟩
abbrev SYS_WDOG.EXPS : Fld := ⟨0o40000003, 17, 0⟩
abbrev SYS_CMD : Nat := 0o40000020
abbrev SYS_CMD.CMD : Fld := ⟨0o40000020, 35, 0⟩
abbrev SYS_CRES : Nat := 0o40000021
abbrev SYS_CRES.RESULT : Fld := ⟨0o40000021, 35, 32⟩
abbrev SYS_DBG : Nat := 0o40000022
abbrev SYS_DBG.HALTED : Fld := ⟨0o40000022, 35, 35⟩
abbrev SYS_DBG.HALTOK : Fld := ⟨0o40000022, 34, 34⟩
abbrev SYS_DBG.SCAN : Fld := ⟨0o40000022, 33, 33⟩
abbrev SYS_DBG.REFUSED : Fld := ⟨0o40000022, 32, 32⟩
abbrev SYS_DBG.DWRITES : Fld := ⟨0o40000022, 17, 0⟩
/-! ### TIM -/
abbrev TIM_NOW0 : Nat := 0o40010000
abbrev TIM_NOW0.BEAT : Fld := ⟨0o40010000, 35, 0⟩
abbrev TIM_NOW1 : Nat := 0o40010001
abbrev TIM_NOW1.ROUND : Fld := ⟨0o40010001, 35, 0⟩
abbrev TIM_NOW2 : Nat := 0o40010002
abbrev TIM_NOW2.TS1 : Fld := ⟨0o40010002, 35, 0⟩
abbrev TIM_NOW3 : Nat := 0o40010003
abbrev TIM_NOW3.REPOCH : Fld := ⟨0o40010003, 19, 0⟩
abbrev TIM_DISC : Nat := 0o40010004
abbrev TIM_DISC.HOLDOVER : Fld := ⟨0o40010004, 35, 24⟩
abbrev TIM_DISC.SLEWMAX : Fld := ⟨0o40010004, 23, 16⟩
abbrev TIM_DISC.STEPTHR : Fld := ⟨0o40010004, 15, 4⟩
abbrev TIM_DISC.PPSTRUST : Fld := ⟨0o40010004, 3, 3⟩
abbrev TIM_DISC.PPSEN : Fld := ⟨0o40010004, 2, 2⟩
abbrev TIM_DISC.PTPEN : Fld := ⟨0o40010004, 1, 1⟩
abbrev TIM_DSTAT : Nat := 0o40010005
abbrev TIM_DSTAT.HOLDLEFT : Fld := ⟨0o40010005, 35, 24⟩
abbrev TIM_DSTAT.STEPS : Fld := ⟨0o40010005, 23, 16⟩
abbrev TIM_DSTAT.TRUST : Fld := ⟨0o40010005, 7, 7⟩
abbrev TIM_DSTAT.LOCK : Fld := ⟨0o40010005, 6, 6⟩
abbrev TIM_DSTAT.HOLD : Fld := ⟨0o40010005, 5, 5⟩
abbrev TIM_DSTAT.SRC : Fld := ⟨0o40010005, 2, 0⟩
abbrev TIM_OFFS : Nat := 0o40010006
abbrev TIM_OFFS.OFFS : Fld := ⟨0o40010006, 35, 0⟩
abbrev TIM_FADJ : Nat := 0o40010007
abbrev TIM_FADJ.FADJ : Fld := ⟨0o40010007, 35, 0⟩
abbrev TIM_PPSO : Nat := 0o40010010
abbrev TIM_PPSO.WIDTH : Fld := ⟨0o40010010, 15, 0⟩
abbrev TIM_LTGT : Nat := 0o40010020
abbrev TIM_LTGT.TARGET : Fld := ⟨0o40010020, 35, 0⟩
abbrev TIM_LARG : Nat := 0o40010021
abbrev TIM_LARG.ARG : Fld := ⟨0o40010021, 35, 0⟩
abbrev TIM_LCMD : Nat := 0o40010022
abbrev TIM_LCMD.ACTION : Fld := ⟨0o40010022, 35, 32⟩
abbrev TIM_LCMD.SCOPE : Fld := ⟨0o40010022, 31, 30⟩
abbrev TIM_LCMD.TAG : Fld := ⟨0o40010022, 29, 14⟩
abbrev TIM_LSTAT : Nat := 0o40010023
abbrev TIM_LSTAT.RESULT : Fld := ⟨0o40010023, 35, 32⟩
abbrev TIM_LSTAT.SLOT : Fld := ⟨0o40010023, 31, 28⟩
abbrev TIM_MINLEAD : Nat := 0o40010024
abbrev TIM_MINLEAD.NET : Fld := ⟨0o40010024, 35, 20⟩
abbrev TIM_MINLEAD.PAIR : Fld := ⟨0o40010024, 19, 8⟩
abbrev TIM_MINLEAD.LOCAL : Fld := ⟨0o40010024, 7, 0⟩
abbrev TIM_MDIG : Nat := 0o40010030
abbrev TIM_MDIG.W : Fld := ⟨0o40010030, 35, 0⟩
abbrev TIM_MPART : Nat := 0o40010031
abbrev TIM_MPART.W : Fld := ⟨0o40010031, 35, 0⟩
abbrev TIM_MDOM : Nat := 0o40010032
abbrev TIM_MDOM.DOMAIN : Fld := ⟨0o40010032, 23, 16⟩
abbrev TIM_MDOM.REISSUE : Fld := ⟨0o40010032, 15, 14⟩
abbrev TIM_MDOM.MMEN : Fld := ⟨0o40010032, 10, 10⟩
abbrev TIM_MDOM.MMAP : Fld := ⟨0o40010032, 9, 0⟩
abbrev TIM_MSTAT : Nat := 0o40010033
abbrev TIM_MSTAT.MISMATCH : Fld := ⟨0o40010033, 35, 35⟩
abbrev TIM_MSTAT.PAIRMM : Fld := ⟨0o40010033, 34, 34⟩
abbrev TIM_MSTAT.NETMM : Fld := ⟨0o40010033, 33, 33⟩
abbrev TIM_MSTAT.REISSUED : Fld := ⟨0o40010033, 29, 28⟩
abbrev TIM_MSTAT.PEER : Fld := ⟨0o40010033, 15, 0⟩
abbrev TIM_SLOT_W0 (i : Nat) : Nat := 0o40010100 + 2 * i
abbrev TIM_SLOT_W0.TARGET (i : Nat) : Fld := ⟨0o40010100 + 2 * i, 35, 0⟩
abbrev TIM_SLOT_W1 (i : Nat) : Nat := 0o40010101 + 2 * i
abbrev TIM_SLOT_W1.ACTION (i : Nat) : Fld := ⟨0o40010101 + 2 * i, 35, 32⟩
abbrev TIM_SLOT_W1.SCOPE (i : Nat) : Fld := ⟨0o40010101 + 2 * i, 31, 30⟩
abbrev TIM_SLOT_W1.TAG (i : Nat) : Fld := ⟨0o40010101 + 2 * i, 29, 14⟩
abbrev TIM_SLOT_W1.STATE (i : Nat) : Fld := ⟨0o40010101 + 2 * i, 13, 11⟩
abbrev TIM_SLOT_W1.ORIGIN (i : Nat) : Fld := ⟨0o40010101 + 2 * i, 10, 10⟩
/-! ### FI -/
abbrev FI_CSTAT (i : Nat) (j : Nat) : Nat := 0o40020360 + 256 * i + j
abbrev FI_CSTAT.STATE (i : Nat) (j : Nat) : Fld := ⟨0o40020360 + 256 * i + j, 31, 0⟩
abbrev FI_CFLAG (i : Nat) (j : Nat) : Nat := 0o40020364 + 256 * i + j
abbrev FI_CFLAG.FIGN (i : Nat) (j : Nat) : Fld := ⟨0o40020364 + 256 * i + j, 15, 8⟩
abbrev FI_CFLAG.FORCED (i : Nat) (j : Nat) : Fld := ⟨0o40020364 + 256 * i + j, 7, 0⟩
abbrev FI_TSYNC (i : Nat) : Nat := 0o40020370 + 256 * i
abbrev FI_TSYNC.MASK (i : Nat) : Fld := ⟨0o40020370 + 256 * i, 31, 0⟩
abbrev FI_RLCNT (i : Nat) : Nat := 0o40020371 + 256 * i
abbrev FI_RLCNT.RELOADS (i : Nat) : Fld := ⟨0o40020371 + 256 * i, 35, 18⟩
abbrev FI_RLCNT.REJECTS (i : Nat) : Fld := ⟨0o40020371 + 256 * i, 17, 0⟩
abbrev FI_PASS (i : Nat) : Nat := 0o40020372 + 256 * i
abbrev FI_PASS.PASS (i : Nat) : Fld := ⟨0o40020372 + 256 * i, 35, 0⟩
abbrev FI_CFG (i : Nat) : Nat := 0o40020000 + 256 * i
abbrev FI_CFG.MAINS (i : Nat) : Fld := ⟨0o40020000 + 256 * i, 1, 0⟩
abbrev FI_TXPWR (i : Nat) : Nat := 0o40020001 + 256 * i
abbrev FI_TXPWR.MASK (i : Nat) : Fld := ⟨0o40020001 + 256 * i, 7, 0⟩
abbrev FI_CCTL (i : Nat) : Nat := 0o40020002 + 256 * i
abbrev FI_CCTL.OWCF (i : Nat) : Fld := ⟨0o40020002 + 256 * i, 7, 0⟩
abbrev FI_SLCFG (i : Nat) (j : Nat) : Nat := 0o40020010 + 256 * i + j
abbrev FI_SLCFG.MODE (i : Nat) (j : Nat) : Fld := ⟨0o40020010 + 256 * i + j, 35, 34⟩
abbrev FI_SLCFG.PERIOD (i : Nat) (j : Nat) : Fld := ⟨0o40020010 + 256 * i + j, 33, 18⟩
abbrev FI_SLCFG.THOST (i : Nat) (j : Nat) : Fld := ⟨0o40020010 + 256 * i + j, 17, 17⟩
abbrev FI_SLCFG.TCELL (i : Nat) (j : Nat) : Fld := ⟨0o40020010 + 256 * i + j, 16, 16⟩
abbrev FI_SLCFG.TROUND (i : Nat) (j : Nat) : Fld := ⟨0o40020010 + 256 * i + j, 15, 15⟩
abbrev FI_SLCFG.CELL (i : Nat) (j : Nat) : Fld := ⟨0o40020010 + 256 * i + j, 11, 0⟩
abbrev FI_SLST (i : Nat) (j : Nat) : Nat := 0o40020020 + 256 * i + j
abbrev FI_SLST.RUN (i : Nat) (j : Nat) : Fld := ⟨0o40020020 + 256 * i + j, 35, 35⟩
abbrev FI_SLST.PEND (i : Nat) (j : Nat) : Fld := ⟨0o40020020 + 256 * i + j, 34, 34⟩
abbrev FI_SLST.OVR (i : Nat) (j : Nat) : Fld := ⟨0o40020020 + 256 * i + j, 33, 33⟩
abbrev FI_SLST.DROPS (i : Nat) (j : Nat) : Fld := ⟨0o40020020 + 256 * i + j, 31, 16⟩
abbrev FI_SLST.PASSES (i : Nat) (j : Nat) : Fld := ⟨0o40020020 + 256 * i + j, 15, 0⟩
abbrev FI_STRIG (i : Nat) : Nat := 0o40020030 + 256 * i
abbrev FI_STRIG.LIST (i : Nat) : Fld := ⟨0o40020030 + 256 * i, 7, 0⟩
abbrev FI_STAT (i : Nat) : Nat := 0o40020031 + 256 * i
abbrev FI_STAT.BUSY (i : Nat) : Fld := ⟨0o40020031 + 256 * i, 35, 35⟩
abbrev FI_STAT.LIST (i : Nat) : Fld := ⟨0o40020031 + 256 * i, 34, 32⟩
abbrev FI_STAT.CH (i : Nat) : Fld := ⟨0o40020031 + 256 * i, 31, 29⟩
abbrev FI_STAT.STEP (i : Nat) : Fld := ⟨0o40020031 + 256 * i, 28, 27⟩
abbrev FI_STAT.LEFT (i : Nat) : Fld := ⟨0o40020031 + 256 * i, 19, 0⟩
abbrev FI_RAW (i : Nat) (j : Nat) : Nat := 0o40020040 + 256 * i + j
abbrev FI_RAW.DQ (i : Nat) (j : Nat) : Fld := ⟨0o40020040 + 256 * i + j, 35, 32⟩
abbrev FI_RAW.RAW (i : Nat) (j : Nat) : Fld := ⟨0o40020040 + 256 * i + j, 23, 0⟩
abbrev FI_CBITS (i : Nat) : Nat := 0o40020060 + 256 * i
abbrev FI_CBITS.HRAW (i : Nat) : Fld := ⟨0o40020060 + 256 * i, 31, 24⟩
abbrev FI_CBITS.LRAW (i : Nat) : Fld := ⟨0o40020060 + 256 * i, 23, 16⟩
abbrev FI_CBITS.HACC (i : Nat) : Fld := ⟨0o40020060 + 256 * i, 15, 8⟩
abbrev FI_CBITS.LACC (i : Nat) : Fld := ⟨0o40020060 + 256 * i, 7, 0⟩
abbrev FI_CEVT (i : Nat) : Nat := 0o40020061 + 256 * i
abbrev FI_CEVT.HEVT (i : Nat) : Fld := ⟨0o40020061 + 256 * i, 15, 8⟩
abbrev FI_CEVT.LEVT (i : Nat) : Fld := ⟨0o40020061 + 256 * i, 7, 0⟩
abbrev FI_LBITS (i : Nat) : Nat := 0o40020062 + 256 * i
abbrev FI_LBITS.LHI (i : Nat) : Fld := ⟨0o40020062 + 256 * i, 15, 8⟩
abbrev FI_LBITS.LLO (i : Nat) : Fld := ⟨0o40020062 + 256 * i, 7, 0⟩
abbrev FI_SCHK (i : Nat) : Nat := 0o40020070 + 256 * i
abbrev FI_SCHK.FAILS (i : Nat) : Fld := ⟨0o40020070 + 256 * i, 35, 20⟩
abbrev FI_SCHK.EXCCH (i : Nat) : Fld := ⟨0o40020070 + 256 * i, 15, 8⟩
abbrev FI_SCHK.REF (i : Nat) : Fld := ⟨0o40020070 + 256 * i, 5, 5⟩
abbrev FI_SCHK.EXC (i : Nat) : Fld := ⟨0o40020070 + 256 * i, 4, 4⟩
abbrev FI_SCHK.PGA (i : Nat) : Fld := ⟨0o40020070 + 256 * i, 3, 3⟩
abbrev FI_SCHK.ZERO (i : Nat) : Fld := ⟨0o40020070 + 256 * i, 2, 2⟩
abbrev FI_SCHK.CJ (i : Nat) : Fld := ⟨0o40020070 + 256 * i, 1, 1⟩
abbrev FI_SCHK.PAR (i : Nat) : Fld := ⟨0o40020070 + 256 * i, 0, 0⟩
abbrev FI_CJRAW (i : Nat) : Nat := 0o40020071 + 256 * i
abbrev FI_CJRAW.RAW (i : Nat) : Fld := ⟨0o40020071 + 256 * i, 23, 0⟩
/-! ### CAL -/
abbrev CAL_STAT : Nat := 0o40030000
abbrev CAL_STAT.INFORCE : Fld := ⟨0o40030000, 35, 35⟩
abbrev CAL_STAT.AVALID : Fld := ⟨0o40030000, 34, 34⟩
abbrev CAL_STAT.BVALID : Fld := ⟨0o40030000, 33, 33⟩
abbrev CAL_STAT.NOVALID : Fld := ⟨0o40030000, 32, 32⟩
abbrev CAL_STAT.INFBAD : Fld := ⟨0o40030000, 31, 31⟩
abbrev CAL_STAT.PEND : Fld := ⟨0o40030000, 30, 30⟩
abbrev CAL_STAT.EDIT : Fld := ⟨0o40030000, 29, 29⟩
abbrev CAL_STAT.EQSEQ : Fld := ⟨0o40030000, 28, 28⟩
abbrev CAL_SEQA : Nat := 0o40030001
abbrev CAL_SEQA.SEQ : Fld := ⟨0o40030001, 35, 0⟩
abbrev CAL_SEQB : Nat := 0o40030002
abbrev CAL_SEQB.SEQ : Fld := ⟨0o40030002, 35, 0⟩
abbrev CAL_CFG : Nat := 0o40030004
abbrev CAL_CFG.DUEQ : Fld := ⟨0o40030004, 0, 0⟩
abbrev CAL_CHSEL : Nat := 0o40030010
abbrev CAL_CHSEL.SEC : Fld := ⟨0o40030010, 9, 8⟩
abbrev CAL_CHSEL.IDX : Fld := ⟨0o40030010, 6, 0⟩
abbrev CAL_REF : Nat := 0o40030011
abbrev CAL_REF.REF : Fld := ⟨0o40030011, 35, 0⟩
abbrev CAL_NAVG : Nat := 0o40030012
abbrev CAL_NAVG.NAVG : Fld := ⟨0o40030012, 5, 0⟩
abbrev CAL_CMD : Nat := 0o40030013
abbrev CAL_CMD.CMD : Fld := ⟨0o40030013, 3, 0⟩
abbrev CAL_CMT : Nat := 0o40030014
abbrev CAL_CMT.GO : Fld := ⟨0o40030014, 35, 0⟩
abbrev CAL_CSTAT : Nat := 0o40030015
abbrev CAL_CSTAT.RESULT : Fld := ⟨0o40030015, 35, 32⟩
abbrev CAL_CSTAT.RUN : Fld := ⟨0o40030015, 31, 31⟩
abbrev CAL_CSTAT.STEP : Fld := ⟨0o40030015, 30, 28⟩
abbrev CAL_CSTAT.DONE : Fld := ⟨0o40030015, 27, 20⟩
abbrev CAL_CSTAT.BADREC : Fld := ⟨0o40030015, 11, 0⟩
abbrev CAL_WIN (i : Nat) : Nat := 0o40030100 + i
abbrev CAL_WIN.W (i : Nat) : Fld := ⟨0o40030100 + i, 35, 0⟩
/-! ### BL -/
abbrev BL_STAT : Nat := 0o40040000
abbrev BL_STAT.RUN : Fld := ⟨0o40040000, 35, 35⟩
abbrev BL_STAT.PEND : Fld := ⟨0o40040000, 34, 34⟩
abbrev BL_STAT.DEADISL : Fld := ⟨0o40040000, 31, 16⟩
abbrev BL_STAT.NCELL : Fld := ⟨0o40040000, 12, 0⟩
abbrev BL_ERR : Nat := 0o40040001
abbrev BL_ERR.BAD : Fld := ⟨0o40040001, 35, 35⟩
abbrev BL_ERR.CELL : Fld := ⟨0o40040001, 34, 23⟩
abbrev BL_ERR.WHY : Fld := ⟨0o40040001, 22, 19⟩
abbrev BL_QOVF : Nat := 0o40040002
abbrev BL_QOVF.TXLOST : Fld := ⟨0o40040002, 35, 18⟩
abbrev BL_QOVF.RECLOST : Fld := ⟨0o40040002, 17, 0⟩
abbrev BL_DIGB : Nat := 0o40040003
abbrev BL_DIGB.BEAT : Fld := ⟨0o40040003, 35, 0⟩
abbrev BL_DIG : Nat := 0o40040004
abbrev BL_DIG.DIG : Fld := ⟨0o40040004, 31, 0⟩
abbrev BL_CFORCE (i : Nat) : Nat := 0o40040010 + i
abbrev BL_CFORCE.EN (i : Nat) : Fld := ⟨0o40040010 + i, 35, 35⟩
abbrev BL_CFORCE.FO (i : Nat) : Fld := ⟨0o40040010 + i, 34, 34⟩
abbrev BL_CFORCE.FA (i : Nat) : Fld := ⟨0o40040010 + i, 33, 33⟩
abbrev BL_CFORCE.IGN (i : Nat) : Fld := ⟨0o40040010 + i, 32, 32⟩
abbrev BL_CFORCE.CELL (i : Nat) : Fld := ⟨0o40040010 + i, 11, 0⟩
abbrev BL_HSIG (i : Nat) : Nat := 0o40040020 + i
abbrev BL_HSIG.SIG (i : Nat) : Fld := ⟨0o40040020 + i, 31, 0⟩
abbrev BL_PEEKSEL : Nat := 0o40040030
abbrev BL_PEEKSEL.CELL : Fld := ⟨0o40040030, 11, 0⟩
abbrev BL_PEEK : Nat := 0o40040031
abbrev BL_PEEK.W : Fld := ⟨0o40040031, 35, 0⟩
/-! ### ALM -/
abbrev ALM_STAT : Nat := 0o40050000
abbrev ALM_STAT.RUN : Fld := ⟨0o40050000, 35, 35⟩
abbrev ALM_STAT.NOFEED : Fld := ⟨0o40050000, 34, 34⟩
abbrev ALM_STAT.CONFL : Fld := ⟨0o40050000, 33, 33⟩
abbrev ALM_STAT.REJ : Fld := ⟨0o40050000, 32, 32⟩
abbrev ALM_STAT.FLOOD : Fld := ⟨0o40050000, 31, 31⟩
abbrev ALM_CNT : Nat := 0o40050001
abbrev ALM_CNT.NACT : Fld := ⟨0o40050001, 32, 22⟩
abbrev ALM_CNT.NUNACK : Fld := ⟨0o40050001, 21, 11⟩
abbrev ALM_CNT.NSUP : Fld := ⟨0o40050001, 10, 0⟩
abbrev ALM_CMD : Nat := 0o40050010
abbrev ALM_CMD.OP : Fld := ⟨0o40050010, 35, 32⟩
abbrev ALM_CMD.ARG : Fld := ⟨0o40050010, 31, 16⟩
abbrev ALM_CMD.IDX : Fld := ⟨0o40050010, 9, 0⟩
abbrev ALM_KCMD : Nat := 0o40050011
abbrev ALM_KCMD.W : Fld := ⟨0o40050011, 35, 0⟩
abbrev ALM_CRES : Nat := 0o40050012
abbrev ALM_CRES.RESULT : Fld := ⟨0o40050012, 35, 32⟩
abbrev ALM_CRES.PEND : Fld := ⟨0o40050012, 31, 31⟩
abbrev ALM_CRES.CHANGED : Fld := ⟨0o40050012, 10, 0⟩
abbrev ALM_TSYNC : Nat := 0o40050013
abbrev ALM_TSYNC.ALL : Fld := ⟨0o40050013, 35, 35⟩
abbrev ALM_TSYNC.POINT : Fld := ⟨0o40050013, 9, 0⟩
abbrev ALM_RLCNT : Nat := 0o40050014
abbrev ALM_RLCNT.RELOADS : Fld := ⟨0o40050014, 35, 18⟩
abbrev ALM_RLCNT.REJECTS : Fld := ⟨0o40050014, 17, 0⟩
abbrev ALM_GCFG (i : Nat) : Nat := 0o40051000 + 2 * i
abbrev ALM_GCFG.FOEN (i : Nat) : Fld := ⟨0o40051000 + 2 * i, 35, 35⟩
abbrev ALM_GCFG.ACKEN (i : Nat) : Fld := ⟨0o40051000 + 2 * i, 34, 34⟩
abbrev ALM_GCFG.ACKCELL (i : Nat) : Fld := ⟨0o40051000 + 2 * i, 33, 22⟩
abbrev ALM_GCFG.FLN (i : Nat) : Fld := ⟨0o40051000 + 2 * i, 21, 14⟩
abbrev ALM_GCFG.FLW (i : Nat) : Fld := ⟨0o40051000 + 2 * i, 13, 8⟩
abbrev ALM_GCFG.FLPRI (i : Nat) : Fld := ⟨0o40051000 + 2 * i, 7, 5⟩
abbrev ALM_GST (i : Nat) : Nat := 0o40051001 + 2 * i
abbrev ALM_GST.FLOOD (i : Nat) : Fld := ⟨0o40051001 + 2 * i, 35, 35⟩
abbrev ALM_GST.ANYACT (i : Nat) : Fld := ⟨0o40051001 + 2 * i, 34, 34⟩
abbrev ALM_GST.ANYUNACK (i : Nat) : Fld := ⟨0o40051001 + 2 * i, 33, 33⟩
abbrev ALM_GST.FOVALID (i : Nat) : Fld := ⟨0o40051001 + 2 * i, 32, 32⟩
abbrev ALM_GST.FOPT (i : Nat) : Fld := ⟨0o40051001 + 2 * i, 31, 22⟩
abbrev ALM_GST.FLCNT (i : Nat) : Fld := ⟨0o40051001 + 2 * i, 21, 14⟩
abbrev ALM_GST.NFLD (i : Nat) : Fld := ⟨0o40051001 + 2 * i, 13, 3⟩
abbrev ALM_PST (i : Nat) : Nat := 0o40052000 + i
abbrev ALM_PST.STATE (i : Nat) : Fld := ⟨0o40052000 + i, 35, 33⟩
abbrev ALM_PST.COND (i : Nat) : Fld := ⟨0o40052000 + i, 32, 32⟩
abbrev ALM_PST.DEL (i : Nat) : Fld := ⟨0o40052000 + i, 31, 31⟩
abbrev ALM_PST.BLK (i : Nat) : Fld := ⟨0o40052000 + i, 30, 30⟩
abbrev ALM_PST.BWHY (i : Nat) : Fld := ⟨0o40052000 + i, 29, 28⟩
abbrev ALM_PST.FO (i : Nat) : Fld := ⟨0o40052000 + i, 27, 27⟩
abbrev ALM_PST.CACHE (i : Nat) : Fld := ⟨0o40052000 + i, 26, 24⟩
abbrev ALM_PST.NOFEED (i : Nat) : Fld := ⟨0o40052000 + i, 23, 23⟩
abbrev ALM_PST.CONFL (i : Nat) : Fld := ⟨0o40052000 + i, 22, 22⟩
abbrev ALM_PST.SHLEFT (i : Nat) : Fld := ⟨0o40052000 + i, 17, 0⟩
abbrev ALM_PT_W0 (i : Nat) : Nat := 0o40054000 + 2 * i
abbrev ALM_PT_W0.TS0 (i : Nat) : Fld := ⟨0o40054000 + 2 * i, 35, 0⟩
abbrev ALM_PT_W1 (i : Nat) : Nat := 0o40054001 + 2 * i
abbrev ALM_PT_W1.TS1 (i : Nat) : Fld := ⟨0o40054001 + 2 * i, 35, 0⟩
/-! ### OPL -/
abbrev OPL_STAT : Nat := 0o40060000
abbrev OPL_STAT.RUN : Fld := ⟨0o40060000, 35, 35⟩
abbrev OPL_STAT.STAGE : Fld := ⟨0o40060000, 34, 32⟩
abbrev OPL_STAT.PPRI : Fld := ⟨0o40060000, 31, 29⟩
abbrev OPL_STAT.NOENG : Fld := ⟨0o40060000, 28, 28⟩
abbrev OPL_STAT.DMST : Fld := ⟨0o40060000, 27, 26⟩
abbrev OPL_STAT.ACCENG : Fld := ⟨0o40060000, 25, 21⟩
abbrev OPL_STAT.NOPEN : Fld := ⟨0o40060000, 10, 0⟩
abbrev OPL_CALLED : Nat := 0o40060001
abbrev OPL_CALLED.STA : Fld := ⟨0o40060001, 23, 16⟩
abbrev OPL_CALLED.ENG : Fld := ⟨0o40060001, 15, 0⟩
abbrev OPL_LEFT : Nat := 0o40060002
abbrev OPL_LEFT.LEFT : Fld := ⟨0o40060002, 23, 0⟩
abbrev OPL_DUTY : Nat := 0o40060003
abbrev OPL_DUTY.POS : Fld := ⟨0o40060003, 3, 0⟩
abbrev OPL_AWAY : Nat := 0o40060004
abbrev OPL_AWAY.AWAY : Fld := ⟨0o40060004, 15, 0⟩
abbrev OPL_CMD : Nat := 0o40060005
abbrev OPL_CMD.OP : Fld := ⟨0o40060005, 35, 32⟩
abbrev OPL_CMD.ARG : Fld := ⟨0o40060005, 15, 0⟩
abbrev OPL_KCMD : Nat := 0o40060006
abbrev OPL_KCMD.W : Fld := ⟨0o40060006, 35, 0⟩
abbrev OPL_CRES : Nat := 0o40060007
abbrev OPL_CRES.RESULT : Fld := ⟨0o40060007, 35, 32⟩
abbrev OPL_CRES.PEND : Fld := ⟨0o40060007, 31, 31⟩
abbrev OPL_CFG : Nat := 0o40060010
abbrev OPL_CFG.NETACC : Fld := ⟨0o40060010, 35, 35⟩
abbrev OPL_TSYNC : Nat := 0o40060011
abbrev OPL_TSYNC.GO : Fld := ⟨0o40060011, 35, 35⟩
abbrev OPL_RLCNT : Nat := 0o40060012
abbrev OPL_RLCNT.RELOADS : Fld := ⟨0o40060012, 35, 18⟩
abbrev OPL_RLCNT.REJECTS : Fld := ⟨0o40060012, 17, 0⟩
abbrev OPL_CACHE : Nat := 0o40060013
abbrev OPL_CACHE.STATE : Fld := ⟨0o40060013, 3, 0⟩
abbrev OPL_CNT : Nat := 0o40060014
abbrev OPL_CNT.ESC : Fld := ⟨0o40060014, 35, 18⟩
abbrev OPL_CNT.ACCS : Fld := ⟨0o40060014, 17, 0⟩
/-! ### LO -/
abbrev LO_CSTAT (i : Nat) : Nat := 0o40070360 + i
abbrev LO_CSTAT.STATE (i : Nat) : Fld := ⟨0o40070360 + i, 31, 0⟩
abbrev LO_CFLAG (i : Nat) : Nat := 0o40070364 + i
abbrev LO_CFLAG.FIGN (i : Nat) : Fld := ⟨0o40070364 + i, 15, 8⟩
abbrev LO_CFLAG.FORCED (i : Nat) : Fld := ⟨0o40070364 + i, 7, 0⟩
abbrev LO_TSYNC : Nat := 0o40070370
abbrev LO_TSYNC.MASK : Fld := ⟨0o40070370, 31, 0⟩
abbrev LO_RLCNT : Nat := 0o40070371
abbrev LO_RLCNT.RELOADS : Fld := ⟨0o40070371, 35, 18⟩
abbrev LO_RLCNT.REJECTS : Fld := ⟨0o40070371, 17, 0⟩
abbrev LO_STAT : Nat := 0o40070000
abbrev LO_STAT.RUN : Fld := ⟨0o40070000, 35, 35⟩
abbrev LO_STAT.SUPOK : Fld := ⟨0o40070000, 34, 34⟩
abbrev LO_STAT.FAULT : Fld := ⟨0o40070000, 33, 33⟩
abbrev LO_STAT.DRV : Fld := ⟨0o40070000, 15, 0⟩
abbrev LO_CFG : Nat := 0o40070001
abbrev LO_CFG.TRIMOFF : Fld := ⟨0o40070001, 15, 0⟩
abbrev LO_OST (i : Nat) : Nat := 0o40070010 + i
abbrev LO_OST.OSTATE (i : Nat) : Fld := ⟨0o40070010 + i, 35, 32⟩
abbrev LO_OST.SETPT (i : Nat) : Fld := ⟨0o40070010 + i, 31, 17⟩
abbrev LO_OST.SHDW (i : Nat) : Fld := ⟨0o40070010 + i, 16, 16⟩
abbrev LO_OST.TRIM (i : Nat) : Fld := ⟨0o40070010 + i, 15, 15⟩
abbrev LO_OST.LIMIT (i : Nat) : Fld := ⟨0o40070010 + i, 14, 14⟩
abbrev LO_OST.OPEN (i : Nat) : Fld := ⟨0o40070010 + i, 13, 13⟩
abbrev LO_OST.SHORT (i : Nat) : Fld := ⟨0o40070010 + i, 12, 12⟩
abbrev LO_OST.DEV (i : Nat) : Fld := ⟨0o40070010 + i, 11, 11⟩
abbrev LO_OST.MISWIRE (i : Nat) : Fld := ⟨0o40070010 + i, 10, 10⟩
abbrev LO_OST.REVERSE (i : Nat) : Fld := ⟨0o40070010 + i, 9, 9⟩
abbrev LO_OST.COMPL (i : Nat) : Fld := ⟨0o40070010 + i, 8, 8⟩
abbrev LO_RB (i : Nat) : Nat := 0o40070030 + i
abbrev LO_RB.DRV (i : Nat) : Fld := ⟨0o40070030 + i, 35, 35⟩
abbrev LO_RB.LIVE (i : Nat) : Fld := ⟨0o40070030 + i, 34, 34⟩
abbrev LO_RB.VLD (i : Nat) : Fld := ⟨0o40070030 + i, 33, 22⟩
abbrev LO_RB.VTERM (i : Nat) : Fld := ⟨0o40070030 + i, 21, 10⟩
abbrev LO_RB.NEG (i : Nat) : Fld := ⟨0o40070030 + i, 9, 9⟩
abbrev LO_FTXA : Nat := 0o40070050
abbrev LO_FTXA.ADDR : Fld := ⟨0o40070050, 23, 0⟩
abbrev LO_FRXA : Nat := 0o40070051
abbrev LO_FRXA.ADDR : Fld := ⟨0o40070051, 23, 0⟩
abbrev LO_FREQ : Nat := 0o40070052
abbrev LO_FREQ.OUT : Fld := ⟨0o40070052, 35, 32⟩
abbrev LO_FREQ.TXLEN : Fld := ⟨0o40070052, 8, 0⟩
abbrev LO_FRES : Nat := 0o40070053
abbrev LO_FRES.RESULT : Fld := ⟨0o40070053, 35, 32⟩
abbrev LO_FST (i : Nat) : Nat := 0o40070060 + i
abbrev LO_FST.MSTATE (i : Nat) : Fld := ⟨0o40070060 + i, 35, 33⟩
abbrev LO_FST.QD (i : Nat) : Fld := ⟨0o40070060 + i, 32, 30⟩
abbrev LO_FST.RESULT (i : Nat) : Fld := ⟨0o40070060 + i, 29, 26⟩
abbrev LO_FST.RXLEN (i : Nat) : Fld := ⟨0o40070060 + i, 25, 17⟩
abbrev LO_FST.TRIES (i : Nat) : Fld := ⟨0o40070060 + i, 16, 13⟩
abbrev LO_FST.DONE (i : Nat) : Fld := ⟨0o40070060 + i, 12, 0⟩
abbrev LO_FCNT (i : Nat) : Nat := 0o40070100 + i
abbrev LO_FCNT.NOREPLY (i : Nat) : Fld := ⟨0o40070100 + i, 35, 27⟩
abbrev LO_FCNT.COLL (i : Nat) : Fld := ⟨0o40070100 + i, 26, 18⟩
abbrev LO_FCNT.STRANGER (i : Nat) : Fld := ⟨0o40070100 + i, 17, 9⟩
abbrev LO_FCNT.ERR (i : Nat) : Fld := ⟨0o40070100 + i, 8, 0⟩
/-! ### DIO -/
abbrev DIO_CSTAT (i : Nat) : Nat := 0o40100360 + i
abbrev DIO_CSTAT.STATE (i : Nat) : Fld := ⟨0o40100360 + i, 31, 0⟩
abbrev DIO_CFLAG (i : Nat) : Nat := 0o40100364 + i
abbrev DIO_CFLAG.FIGN (i : Nat) : Fld := ⟨0o40100364 + i, 15, 8⟩
abbrev DIO_CFLAG.FORCED (i : Nat) : Fld := ⟨0o40100364 + i, 7, 0⟩
abbrev DIO_TSYNC : Nat := 0o40100370
abbrev DIO_TSYNC.MASK : Fld := ⟨0o40100370, 31, 0⟩
abbrev DIO_RLCNT : Nat := 0o40100371
abbrev DIO_RLCNT.RELOADS : Fld := ⟨0o40100371, 35, 18⟩
abbrev DIO_RLCNT.REJECTS : Fld := ⟨0o40100371, 17, 0⟩
abbrev DIO_STAT : Nat := 0o40100000
abbrev DIO_STAT.RUN : Fld := ⟨0o40100000, 35, 35⟩
abbrev DIO_STAT.FAULT : Fld := ⟨0o40100000, 34, 34⟩
abbrev DIO_STAT.CHAT : Fld := ⟨0o40100000, 33, 33⟩
abbrev DIO_STAT.STUCK : Fld := ⟨0o40100000, 32, 32⟩
abbrev DIO_STAT.GFLT : Fld := ⟨0o40100000, 3, 0⟩
abbrev DIO_STATE : Nat := 0o40100001
abbrev DIO_STATE.STATE : Fld := ⟨0o40100001, 31, 0⟩
abbrev DIO_RAW : Nat := 0o40100002
abbrev DIO_RAW.RAW : Fld := ⟨0o40100002, 31, 0⟩
abbrev DIO_CHAT : Nat := 0o40100003
abbrev DIO_CHAT.CHAT : Fld := ⟨0o40100003, 31, 0⟩
abbrev DIO_STUCK : Nat := 0o40100004
abbrev DIO_STUCK.STUCK : Fld := ⟨0o40100004, 31, 0⟩
abbrev DIO_OFLT : Nat := 0o40100005
abbrev DIO_OFLT.TRIP : Fld := ⟨0o40100005, 31, 0⟩
abbrev DIO_EVT : Nat := 0o40100006
abbrev DIO_EVT.EVT : Fld := ⟨0o40100006, 31, 0⟩
abbrev DIO_GST (i : Nat) : Nat := 0o40100010 + i
abbrev DIO_GST.UV (i : Nat) : Fld := ⟨0o40100010 + i, 35, 35⟩
abbrev DIO_GST.MULTI (i : Nat) : Fld := ⟨0o40100010 + i, 34, 34⟩
abbrev DIO_GST.NCLAMP (i : Nat) : Fld := ⟨0o40100010 + i, 33, 30⟩
abbrev DIO_GST.VGS (i : Nat) : Fld := ⟨0o40100010 + i, 11, 0⟩
abbrev DIO_DUTY (i : Nat) : Nat := 0o40100020 + i
abbrev DIO_DUTY.DUTY (i : Nat) : Fld := ⟨0o40100020 + i, 17, 0⟩
abbrev DIO_PST (i : Nat) : Nat := 0o40100100 + i
abbrev DIO_PST.OSTATE (i : Nat) : Fld := ⟨0o40100100 + i, 35, 32⟩
abbrev DIO_PST.FCAUSE (i : Nat) : Fld := ⟨0o40100100 + i, 31, 29⟩
abbrev DIO_PST.CLAMP (i : Nat) : Fld := ⟨0o40100100 + i, 28, 28⟩
abbrev DIO_PST.BLNK (i : Nat) : Fld := ⟨0o40100100 + i, 27, 27⟩
abbrev DIO_PST.CMD (i : Nat) : Fld := ⟨0o40100100 + i, 26, 26⟩
abbrev DIO_PST.PEND (i : Nat) : Fld := ⟨0o40100100 + i, 25, 25⟩
abbrev DIO_PST.REJ (i : Nat) : Fld := ⟨0o40100100 + i, 23, 16⟩
abbrev DIO_ADUTY (i : Nat) : Nat := 0o40100140 + i
abbrev DIO_ADUTY.ADUTY (i : Nat) : Fld := ⟨0o40100140 + i, 17, 0⟩
abbrev DIO_CNT (i : Nat) : Nat := 0o40100200 + i
abbrev DIO_CNT.TRIPS (i : Nat) : Fld := ⟨0o40100200 + i, 35, 18⟩
abbrev DIO_CNT.CHATS (i : Nat) : Fld := ⟨0o40100200 + i, 17, 0⟩
/-! ### SPD -/
abbrev SPD_CSTAT (i : Nat) : Nat := 0o40110360 + i
abbrev SPD_CSTAT.STATE (i : Nat) : Fld := ⟨0o40110360 + i, 31, 0⟩
abbrev SPD_CFLAG (i : Nat) : Nat := 0o40110364 + i
abbrev SPD_CFLAG.FIGN (i : Nat) : Fld := ⟨0o40110364 + i, 15, 8⟩
abbrev SPD_CFLAG.FORCED (i : Nat) : Fld := ⟨0o40110364 + i, 7, 0⟩
abbrev SPD_TSYNC : Nat := 0o40110370
abbrev SPD_TSYNC.MASK : Fld := ⟨0o40110370, 31, 0⟩
abbrev SPD_RLCNT : Nat := 0o40110371
abbrev SPD_RLCNT.RELOADS : Fld := ⟨0o40110371, 35, 18⟩
abbrev SPD_RLCNT.REJECTS : Fld := ⟨0o40110371, 17, 0⟩
abbrev SPD_STAT : Nat := 0o40110000
abbrev SPD_STAT.RUN : Fld := ⟨0o40110000, 35, 35⟩
abbrev SPD_STAT.FAULT : Fld := ⟨0o40110000, 34, 34⟩
abbrev SPD_STAT.SFAIL : Fld := ⟨0o40110000, 23, 16⟩
abbrev SPD_STAT.TLOSS : Fld := ⟨0o40110000, 15, 8⟩
abbrev SPD_STAT.OSPD : Fld := ⟨0o40110000, 7, 0⟩
abbrev SPD_PST (i : Nat) : Nat := 0o40110010 + i
abbrev SPD_PST.Q (i : Nat) : Fld := ⟨0o40110010 + i, 35, 32⟩
abbrev SPD_PST.OS (i : Nat) : Fld := ⟨0o40110010 + i, 31, 31⟩
abbrev SPD_PST.STAND (i : Nat) : Fld := ⟨0o40110010 + i, 30, 30⟩
abbrev SPD_PST.RUNNING (i : Nat) : Fld := ⟨0o40110010 + i, 29, 29⟩
abbrev SPD_PST.REV (i : Nat) : Fld := ⟨0o40110010 + i, 28, 28⟩
abbrev SPD_PST.OPEN (i : Nat) : Fld := ⟨0o40110010 + i, 27, 27⟩
abbrev SPD_PST.SHORT (i : Nat) : Fld := ⟨0o40110010 + i, 26, 26⟩
abbrev SPD_PST.OVR (i : Nat) : Fld := ⟨0o40110010 + i, 25, 25⟩
abbrev SPD_PST.QERR (i : Nat) : Fld := ⟨0o40110010 + i, 24, 24⟩
abbrev SPD_PST.SUP (i : Nat) : Fld := ⟨0o40110010 + i, 23, 21⟩
abbrev SPD_PST.CMD (i : Nat) : Fld := ⟨0o40110010 + i, 20, 20⟩
abbrev SPD_PER (i : Nat) : Nat := 0o40110020 + i
abbrev SPD_PER.PER (i : Nat) : Fld := ⟨0o40110020 + i, 31, 0⟩
abbrev SPD_CNT (i : Nat) : Nat := 0o40110040 + i
abbrev SPD_CNT.REJ (i : Nat) : Fld := ⟨0o40110040 + i, 35, 18⟩
abbrev SPD_CNT.SFAILS (i : Nat) : Fld := ⟨0o40110040 + i, 17, 9⟩
abbrev SPD_CNT.TLOSSES (i : Nat) : Fld := ⟨0o40110040 + i, 8, 0⟩
/-! ### SN -/
abbrev SN_STAT : Nat := 0o40120000
abbrev SN_STAT.LINKA : Fld := ⟨0o40120000, 35, 35⟩
abbrev SN_STAT.LINKB : Fld := ⟨0o40120000, 34, 34⟩
abbrev SN_STAT.PTPPORT : Fld := ⟨0o40120000, 33, 32⟩
abbrev SN_STAT.IDCONF : Fld := ⟨0o40120000, 31, 31⟩
abbrev SN_STAT.NODESOVF : Fld := ⟨0o40120000, 30, 30⟩
abbrev SN_STAT.NNODES : Fld := ⟨0o40120000, 5, 0⟩
abbrev SN_PCFG (i : Nat) : Nat := 0o40120001 + i
abbrev SN_PCFG.MODE (i : Nat) : Fld := ⟨0o40120001 + i, 35, 33⟩
abbrev SN_PCFG.FEC (i : Nat) : Fld := ⟨0o40120001 + i, 32, 32⟩
abbrev SN_PCFG.PTPEN (i : Nat) : Fld := ⟨0o40120001 + i, 31, 31⟩
abbrev SN_PST (i : Nat) : Nat := 0o40120003 + i
abbrev SN_PST.LINK (i : Nat) : Fld := ⟨0o40120003 + i, 35, 35⟩
abbrev SN_PST.SPEED (i : Nat) : Fld := ⟨0o40120003 + i, 34, 33⟩
abbrev SN_PST.FECON (i : Nat) : Fld := ⟨0o40120003 + i, 32, 32⟩
abbrev SN_PST.TRN (i : Nat) : Fld := ⟨0o40120003 + i, 31, 30⟩
abbrev SN_PST.PTPST (i : Nat) : Fld := ⟨0o40120003 + i, 29, 27⟩
abbrev SN_PST.PLOCK (i : Nat) : Fld := ⟨0o40120003 + i, 26, 26⟩
abbrev SN_PST.LINKDN (i : Nat) : Fld := ⟨0o40120003 + i, 17, 0⟩
abbrev SN_MACH (i : Nat) : Nat := 0o40120005 + i
abbrev SN_MACH.MACH (i : Nat) : Fld := ⟨0o40120005 + i, 15, 0⟩
abbrev SN_MACL (i : Nat) : Nat := 0o40120007 + i
abbrev SN_MACL.MACL (i : Nat) : Fld := ⟨0o40120007 + i, 31, 0⟩
abbrev SN_ID : Nat := 0o40120011
abbrev SN_ID.NID : Fld := ⟨0o40120011, 31, 0⟩
abbrev SN_IP : Nat := 0o40120012
abbrev SN_IP.IP : Fld := ⟨0o40120012, 31, 0⟩
abbrev SN_CFG : Nat := 0o40120013
abbrev SN_CFG.TXEN : Fld := ⟨0o40120013, 35, 35⟩
abbrev SN_CFG.DUAL : Fld := ⟨0o40120013, 34, 34⟩
abbrev SN_CFG.VLEN : Fld := ⟨0o40120013, 33, 33⟩
abbrev SN_CFG.VID : Fld := ⟨0o40120013, 32, 21⟩
abbrev SN_CFG.PTPDOM : Fld := ⟨0o40120013, 20, 13⟩
abbrev SN_TXG : Nat := 0o40120014
abbrev SN_TXG.SIG : Fld := ⟨0o40120014, 35, 32⟩
abbrev SN_TXG.SSTATE : Fld := ⟨0o40120014, 31, 28⟩
abbrev SN_TXG.ALM : Fld := ⟨0o40120014, 27, 24⟩
abbrev SN_TXG.CALL : Fld := ⟨0o40120014, 23, 20⟩
abbrev SN_TXG.STAT : Fld := ⟨0o40120014, 19, 16⟩
abbrev SN_TXG.MGMT : Fld := ⟨0o40120014, 15, 12⟩
abbrev SN_GRP_W0 (i : Nat) : Nat := 0o40120020 + 2 * i
abbrev SN_GRP_W0.ADDR (i : Nat) : Fld := ⟨0o40120020 + 2 * i, 31, 0⟩
abbrev SN_GRP_W1 (i : Nat) : Nat := 0o40120021 + 2 * i
abbrev SN_GRP_W1.JOIN (i : Nat) : Fld := ⟨0o40120021 + 2 * i, 35, 35⟩
abbrev SN_GRP_W1.TTL (i : Nat) : Fld := ⟨0o40120021 + 2 * i, 34, 27⟩
abbrev SN_GRP_W1.PORT (i : Nat) : Fld := ⟨0o40120021 + 2 * i, 15, 0⟩
abbrev SN_VL (i : Nat) : Nat := 0o40120060 + i
abbrev SN_VL.EN (i : Nat) : Fld := ⟨0o40120060 + i, 35, 35⟩
abbrev SN_VL.GRP (i : Nat) : Fld := ⟨0o40120060 + i, 34, 31⟩
abbrev SN_VL.PERIOD (i : Nat) : Fld := ⟨0o40120060 + i, 30, 21⟩
abbrev SN_VL.FIRST (i : Nat) : Fld := ⟨0o40120060 + i, 20, 9⟩
abbrev SN_VL.COUNT (i : Nat) : Fld := ⟨0o40120060 + i, 8, 0⟩
abbrev SN_MSRC (i : Nat) : Nat := 0o40120070 + i
abbrev SN_MSRC.EN (i : Nat) : Fld := ⟨0o40120070 + i, 35, 35⟩
abbrev SN_MSRC.ARM (i : Nat) : Fld := ⟨0o40120070 + i, 34, 34⟩
abbrev SN_MSRC.CMD (i : Nat) : Fld := ⟨0o40120070 + i, 33, 33⟩
abbrev SN_MSRC.READ (i : Nat) : Fld := ⟨0o40120070 + i, 32, 32⟩
abbrev SN_MSRC.SRCID (i : Nat) : Fld := ⟨0o40120070 + i, 31, 0⟩
abbrev SN_TXCNT : Nat := 0o40120120
abbrev SN_TXCNT.SENT : Fld := ⟨0o40120120, 35, 18⟩
abbrev SN_TXCNT.DROP : Fld := ⟨0o40120120, 17, 0⟩
abbrev SN_RXCNT : Nat := 0o40120121
abbrev SN_RXCNT.OK : Fld := ⟨0o40120121, 35, 18⟩
abbrev SN_RXCNT.DUP : Fld := ⟨0o40120121, 17, 0⟩
abbrev SN_RXERR : Nat := 0o40120122
abbrev SN_RXERR.CRC : Fld := ⟨0o40120122, 35, 27⟩
abbrev SN_RXERR.FMT : Fld := ⟨0o40120122, 26, 18⟩
abbrev SN_RXERR.STRANGER : Fld := ⟨0o40120122, 17, 9⟩
abbrev SN_RXERR.MAC : Fld := ⟨0o40120122, 8, 0⟩
abbrev SN_MCNT : Nat := 0o40120123
abbrev SN_MCNT.DENIED : Fld := ⟨0o40120123, 35, 27⟩
abbrev SN_MCNT.STALE : Fld := ⟨0o40120123, 26, 18⟩
abbrev SN_MCNT.BADOP : Fld := ⟨0o40120123, 17, 9⟩
abbrev SN_MCNT.OBSERVER : Fld := ⟨0o40120123, 8, 0⟩
/-! ### JL -/
abbrev JL_STAT : Nat := 0o40130000
abbrev JL_STAT.ROLE : Fld := ⟨0o40130000, 35, 34⟩
abbrev JL_STAT.PSTATE : Fld := ⟨0o40130000, 33, 30⟩
abbrev JL_STAT.PARTNER : Fld := ⟨0o40130000, 29, 26⟩
abbrev JL_STAT.PART : Fld := ⟨0o40130000, 25, 25⟩
abbrev JL_STAT.INSTEP : Fld := ⟨0o40130000, 24, 24⟩
abbrev JL_STAT.LNKA : Fld := ⟨0o40130000, 23, 23⟩
abbrev JL_STAT.LNKB : Fld := ⟨0o40130000, 22, 22⟩
abbrev JL_STAT.WIT : Fld := ⟨0o40130000, 21, 21⟩
abbrev JL_STAT.REF : Fld := ⟨0o40130000, 20, 20⟩
abbrev JL_EPOCH : Nat := 0o40130001
abbrev JL_EPOCH.EPOCH : Fld := ⟨0o40130001, 35, 0⟩
abbrev JL_CFG : Nat := 0o40130002
abbrev JL_CFG.EN : Fld := ⟨0o40130002, 35, 35⟩
abbrev JL_CFG.SEEKR : Fld := ⟨0o40130002, 34, 31⟩
abbrev JL_CFG.PROBR : Fld := ⟨0o40130002, 30, 23⟩
abbrev JL_CFG.SWAPH : Fld := ⟨0o40130002, 22, 14⟩
abbrev JL_CFG.REFT : Fld := ⟨0o40130002, 13, 6⟩
abbrev JL_CFG.HBEN : Fld := ⟨0o40130002, 5, 5⟩
abbrev JL_CFG.HBPT : Fld := ⟨0o40130002, 4, 0⟩
abbrev JL_REFD : Nat := 0o40130003
abbrev JL_REFD.MASK : Fld := ⟨0o40130003, 31, 0⟩
abbrev JL_REFL : Nat := 0o40130004
abbrev JL_REFL.MASK : Fld := ⟨0o40130004, 15, 0⟩
abbrev JL_DCFG : Nat := 0o40130005
abbrev JL_DCFG.DTOL : Fld := ⟨0o40130005, 35, 24⟩
abbrev JL_DCFG.DCNT : Fld := ⟨0o40130005, 23, 20⟩
abbrev JL_DCFG.DDT : Fld := ⟨0o40130005, 19, 8⟩
abbrev JL_ALM : Nat := 0o40130006
abbrev JL_ALM.PEN : Fld := ⟨0o40130006, 35, 35⟩
abbrev JL_ALM.PAP : Fld := ⟨0o40130006, 34, 25⟩
abbrev JL_ALM.DEN : Fld := ⟨0o40130006, 24, 24⟩
abbrev JL_ALM.DAP : Fld := ⟨0o40130006, 23, 14⟩
abbrev JL_LAY : Nat := 0o40130007
abbrev JL_LAY.SLEEPEN : Fld := ⟨0o40130007, 35, 35⟩
abbrev JL_LAY.SLEEPR : Fld := ⟨0o40130007, 34, 29⟩
abbrev JL_LAY.WAKER : Fld := ⟨0o40130007, 28, 23⟩
abbrev JL_CMD : Nat := 0o40130010
abbrev JL_CMD.W : Fld := ⟨0o40130010, 35, 0⟩
abbrev JL_CRES : Nat := 0o40130011
abbrev JL_CRES.RESULT : Fld := ⟨0o40130011, 35, 32⟩
abbrev JL_CAUSE : Nat := 0o40130012
abbrev JL_CAUSE.CAUSE : Fld := ⟨0o40130012, 35, 31⟩
abbrev JL_CAUSEB : Nat := 0o40130013
abbrev JL_CAUSEB.BEAT : Fld := ⟨0o40130013, 35, 0⟩
abbrev JL_PSEQ : Nat := 0o40130014
abbrev JL_PSEQ.PSEQ : Fld := ⟨0o40130014, 31, 0⟩
abbrev JL_LINK : Nat := 0o40130015
abbrev JL_LINK.DELAY : Fld := ⟨0o40130015, 35, 24⟩
abbrev JL_LINK.CRCA : Fld := ⟨0o40130015, 23, 12⟩
abbrev JL_LINK.CRCB : Fld := ⟨0o40130015, 11, 0⟩
abbrev JL_LCNT : Nat := 0o40130016
abbrev JL_LCNT.MISS : Fld := ⟨0o40130016, 35, 18⟩
abbrev JL_LCNT.SPILL : Fld := ⟨0o40130016, 17, 0⟩
abbrev JL_MMB : Nat := 0o40130017
abbrev JL_MMB.BEAT : Fld := ⟨0o40130017, 35, 0⟩
abbrev JL_MMK : Nat := 0o40130020
abbrev JL_MMK.LAT : Fld := ⟨0o40130020, 35, 35⟩
abbrev JL_MMK.ENG : Fld := ⟨0o40130020, 34, 34⟩
abbrev JL_REFST : Nat := 0o40130021
abbrev JL_REFST.VERDICT : Fld := ⟨0o40130021, 35, 33⟩
abbrev JL_REFST.RUNS : Fld := ⟨0o40130021, 17, 0⟩
abbrev JL_WIT : Nat := 0o40130022
abbrev JL_WIT.BADW : Fld := ⟨0o40130022, 35, 24⟩
abbrev JL_WIT.WORD : Fld := ⟨0o40130022, 15, 0⟩
abbrev JL_XRES : Nat := 0o40130023
abbrev JL_XRES.STALE : Fld := ⟨0o40130023, 35, 35⟩
abbrev JL_XRES.STALES : Fld := ⟨0o40130023, 17, 0⟩
abbrev JL_SWAP : Nat := 0o40130024
abbrev JL_SWAP.HOURS : Fld := ⟨0o40130024, 35, 20⟩
abbrev JL_SWAP.SWAPS : Fld := ⟨0o40130024, 17, 9⟩
abbrev JL_SWAP.SKIPS : Fld := ⟨0o40130024, 8, 0⟩
abbrev JL_DDIS (i : Nat) : Nat := 0o40130030 + i
abbrev JL_DDIS.CH (i : Nat) : Fld := ⟨0o40130030 + i, 31, 0⟩
abbrev JL_DDISD : Nat := 0o40130034
abbrev JL_DDISD.PT : Fld := ⟨0o40130034, 31, 0⟩
abbrev JL_DDISS : Nat := 0o40130035
abbrev JL_DDISS.SP : Fld := ⟨0o40130035, 7, 0⟩
abbrev JL_DCNT : Nat := 0o40130036
abbrev JL_DCNT.DIS : Fld := ⟨0o40130036, 17, 0⟩
/-! ### ONX -/
abbrev ONX_STAT : Nat := 0o40140000
abbrev ONX_STAT.READY : Fld := ⟨0o40140000, 35, 35⟩
abbrev ONX_STAT.CLRRUN : Fld := ⟨0o40140000, 34, 34⟩
abbrev ONX_STAT.KEY : Fld := ⟨0o40140000, 33, 33⟩
abbrev ONX_STAT.CMODE : Fld := ⟨0o40140000, 32, 32⟩
abbrev ONX_STAT.QD : Fld := ⟨0o40140000, 31, 24⟩
abbrev ONX_STAT.TOKENS : Fld := ⟨0o40140000, 23, 16⟩
abbrev ONX_STAT.NPERM : Fld := ⟨0o40140000, 12, 0⟩
abbrev ONX_CFG : Nat := 0o40140001
abbrev ONX_CFG.SAFEM : Fld := ⟨0o40140001, 35, 35⟩
abbrev ONX_CFG.RATE : Fld := ⟨0o40140001, 19, 10⟩
abbrev ONX_CFG.BURST : Fld := ⟨0o40140001, 9, 0⟩
abbrev ONX_SEQ : Nat := 0o40140002
abbrev ONX_SEQ.SEQ : Fld := ⟨0o40140002, 35, 0⟩
abbrev ONX_CSEQ : Nat := 0o40140003
abbrev ONX_CSEQ.CSEQ : Fld := ⟨0o40140003, 35, 0⟩
abbrev ONX_PCC : Nat := 0o40140004
abbrev ONX_PCC.PCC : Fld := ⟨0o40140004, 35, 0⟩
abbrev ONX_OPR : Nat := 0o40140005
abbrev ONX_OPR.OPR : Fld := ⟨0o40140005, 35, 0⟩
abbrev ONX_LOST : Nat := 0o40140006
abbrev ONX_LOST.DROP : Fld := ⟨0o40140006, 35, 18⟩
abbrev ONX_LOST.MERGE : Fld := ⟨0o40140006, 17, 0⟩
abbrev ONX_CCFG (i : Nat) : Nat := 0o40140013 + i
abbrev ONX_CCFG.EN (i : Nat) : Fld := ⟨0o40140013 + i, 35, 35⟩
abbrev ONX_CCFG.COAL (i : Nat) : Fld := ⟨0o40140013 + i, 34, 34⟩
abbrev ONX_CCFG.RSET (i : Nat) : Fld := ⟨0o40140013 + i, 3, 0⟩
abbrev ONX_CCFGX (i : Nat) : Nat := 0o40140011 + i
abbrev ONX_CCFGX.RSET (i : Nat) : Fld := ⟨0o40140011 + i, 3, 0⟩
abbrev ONX_HTRIG : Nat := 0o40140020
abbrev ONX_HTRIG.WORD : Fld := ⟨0o40140020, 35, 0⟩
abbrev ONX_RDSEL : Nat := 0o40140030
abbrev ONX_RDSEL.AREA : Fld := ⟨0o40140030, 35, 35⟩
abbrev ONX_RDSEL.IDX : Fld := ⟨0o40140030, 13, 0⟩
abbrev ONX_RDST : Nat := 0o40140031
abbrev ONX_RDST.DONE : Fld := ⟨0o40140031, 35, 35⟩
abbrev ONX_RDST.RESULT : Fld := ⟨0o40140031, 34, 33⟩
abbrev ONX_RD (i : Nat) : Nat := 0o40140040 + i
abbrev ONX_RD.W (i : Nat) : Fld := ⟨0o40140040 + i, 35, 0⟩
abbrev ONX_CHREQ : Nat := 0o40140100
abbrev ONX_CHREQ.W : Fld := ⟨0o40140100, 35, 0⟩
abbrev ONX_CHAL (i : Nat) : Nat := 0o40140110 + i
abbrev ONX_CHAL.CHAL (i : Nat) : Fld := ⟨0o40140110 + i, 31, 0⟩
abbrev ONX_RESP (i : Nat) : Nat := 0o40140120 + i
abbrev ONX_RESP.RESP (i : Nat) : Fld := ⟨0o40140120 + i, 31, 0⟩
abbrev ONX_CLR : Nat := 0o40140130
abbrev ONX_CLR.GO : Fld := ⟨0o40140130, 35, 0⟩
abbrev ONX_CRES : Nat := 0o40140131
abbrev ONX_CRES.RESULT : Fld := ⟨0o40140131, 35, 32⟩
abbrev ONX_CRES.TRIES : Fld := ⟨0o40140131, 31, 0⟩
abbrev ONX_SSET (i : Nat) (j : Nat) : Nat := 0o40141000 + 16 * i + j
abbrev ONX_SSET.EN (i : Nat) (j : Nat) : Fld := ⟨0o40141000 + 16 * i + j, 35, 35⟩
abbrev ONX_SSET.ADDR (i : Nat) (j : Nat) : Fld := ⟨0o40141000 + 16 * i + j, 23, 0⟩
/-! ### CLK -/
abbrev CLK_DATE : Nat := 0o40150000
abbrev CLK_DATE.YEAR : Fld := ⟨0o40150000, 35, 20⟩
abbrev CLK_DATE.MONTH : Fld := ⟨0o40150000, 19, 15⟩
abbrev CLK_DATE.DAY : Fld := ⟨0o40150000, 14, 9⟩
abbrev CLK_DATE.WDAY : Fld := ⟨0o40150000, 8, 6⟩
abbrev CLK_TIME : Nat := 0o40150001
abbrev CLK_TIME.HOUR : Fld := ⟨0o40150001, 35, 30⟩
abbrev CLK_TIME.MIN : Fld := ⟨0o40150001, 29, 23⟩
abbrev CLK_TIME.SEC : Fld := ⟨0o40150001, 22, 16⟩
abbrev CLK_TIME.SUBS : Fld := ⟨0o40150001, 14, 0⟩
abbrev CLK_STAT : Nat := 0o40150002
abbrev CLK_STAT.OSF : Fld := ⟨0o40150002, 35, 35⟩
abbrev CLK_STAT.CAUSE : Fld := ⟨0o40150002, 34, 33⟩
abbrev CLK_STAT.SUPPLY : Fld := ⟨0o40150002, 32, 31⟩
abbrev CLK_STAT.CELLLOW : Fld := ⟨0o40150002, 30, 30⟩
abbrev CLK_STAT.VBKOK : Fld := ⟨0o40150002, 29, 29⟩
abbrev CLK_STAT.SHPEND : Fld := ⟨0o40150002, 28, 28⟩
abbrev CLK_STAT.WINRUN : Fld := ⟨0o40150002, 27, 27⟩
abbrev CLK_STAT.BKERR : Fld := ⟨0o40150002, 15, 0⟩
abbrev CLK_CFG : Nat := 0o40150003
abbrev CLK_CFG.SYNC : Fld := ⟨0o40150003, 35, 35⟩
abbrev CLK_CFG.PTPUTC : Fld := ⟨0o40150003, 34, 34⟩
abbrev CLK_CFG.TRIMSRC : Fld := ⟨0o40150003, 33, 32⟩
abbrev CLK_CFG.AUTO : Fld := ⟨0o40150003, 31, 31⟩
abbrev CLK_CFG.MAINSF : Fld := ⟨0o40150003, 30, 30⟩
abbrev CLK_CFG.MSRC : Fld := ⟨0o40150003, 29, 27⟩
abbrev CLK_CFG.TRIMWIN : Fld := ⟨0o40150003, 26, 11⟩
abbrev CLK_CFG.SYNCTHR : Fld := ⟨0o40150003, 10, 0⟩
abbrev CLK_UTC : Nat := 0o40150004
abbrev CLK_UTC.LEAP : Fld := ⟨0o40150004, 35, 34⟩
abbrev CLK_UTC.UTCOFS : Fld := ⟨0o40150004, 7, 0⟩
abbrev CLK_TRIM : Nat := 0o40150005
abbrev CLK_TRIM.TRIM : Fld := ⟨0o40150005, 11, 0⟩
abbrev CLK_RATE : Nat := 0o40150006
abbrev CLK_RATE.VALID : Fld := ⟨0o40150006, 35, 35⟩
abbrev CLK_RATE.ABORT : Fld := ⟨0o40150006, 34, 34⟩
abbrev CLK_RATE.ERR : Fld := ⟨0o40150006, 23, 0⟩
abbrev CLK_SYNCS : Nat := 0o40150007
abbrev CLK_SYNCS.SYNCS : Fld := ⟨0o40150007, 17, 0⟩
abbrev CLK_SETD : Nat := 0o40150010
abbrev CLK_SETD.W : Fld := ⟨0o40150010, 35, 0⟩
abbrev CLK_SETT : Nat := 0o40150011
abbrev CLK_SETT.W : Fld := ⟨0o40150011, 35, 0⟩
abbrev CLK_CMD : Nat := 0o40150012
abbrev CLK_CMD.CMD : Fld := ⟨0o40150012, 35, 32⟩
abbrev CLK_CMD.ARG : Fld := ⟨0o40150012, 15, 0⟩
abbrev CLK_CRES : Nat := 0o40150013
abbrev CLK_CRES.RESULT : Fld := ⟨0o40150013, 35, 32⟩
abbrev CLK_CAP (i : Nat) : Nat := 0o40150020 + i
abbrev CLK_CAP.W (i : Nat) : Fld := ⟨0o40150020 + i, 35, 0⟩
abbrev CLK_BK (i : Nat) : Nat := 0o40150040 + i
abbrev CLK_BK.W (i : Nat) : Fld := ⟨0o40150040 + i, 35, 0⟩
/-! ### IMG -/
abbrev IMG_STAT : Nat := 0o40160000
abbrev IMG_STAT.AVALID : Fld := ⟨0o40160000, 35, 35⟩
abbrev IMG_STAT.BVALID : Fld := ⟨0o40160000, 34, 34⟩
abbrev IMG_STAT.RUNBANK : Fld := ⟨0o40160000, 33, 33⟩
abbrev IMG_STAT.RUNNING : Fld := ⟨0o40160000, 32, 32⟩
abbrev IMG_STAT.EQSEQ : Fld := ⟨0o40160000, 31, 31⟩
abbrev IMG_STAT.NOVALID : Fld := ⟨0o40160000, 30, 30⟩
abbrev IMG_STAT.SESSION : Fld := ⟨0o40160000, 29, 29⟩
abbrev IMG_STAT.VERIFIED : Fld := ⟨0o40160000, 28, 28⟩
abbrev IMG_STAT.OVR : Fld := ⟨0o40160000, 27, 27⟩
abbrev IMG_STAT.LONG : Fld := ⟨0o40160000, 26, 26⟩
abbrev IMG_STAT.APPLYPEND : Fld := ⟨0o40160000, 25, 25⟩
abbrev IMG_STAT.PREP : Fld := ⟨0o40160000, 24, 24⟩
abbrev IMG_STAT.PREPCUT : Fld := ⟨0o40160000, 23, 23⟩
abbrev IMG_STAT.TBLKEPT : Fld := ⟨0o40160000, 22, 22⟩
abbrev IMG_STAT.INFBAD : Fld := ⟨0o40160000, 21, 21⟩
abbrev IMG_STAT.KEY : Fld := ⟨0o40160000, 20, 20⟩
abbrev IMG_SEQA : Nat := 0o40160001
abbrev IMG_SEQA.SEQ : Fld := ⟨0o40160001, 35, 0⟩
abbrev IMG_SEQB : Nat := 0o40160002
abbrev IMG_SEQB.SEQ : Fld := ⟨0o40160002, 35, 0⟩
abbrev IMG_RUNDIG : Nat := 0o40160003
abbrev IMG_RUNDIG.DIG : Fld := ⟨0o40160003, 35, 0⟩
abbrev IMG_RUNSEQ : Nat := 0o40160004
abbrev IMG_RUNSEQ.SEQ : Fld := ⟨0o40160004, 35, 0⟩
abbrev IMG_CMD : Nat := 0o40160010
abbrev IMG_CMD.CMD : Fld := ⟨0o40160010, 3, 0⟩
abbrev IMG_ATGT : Nat := 0o40160011
abbrev IMG_ATGT.ROUND : Fld := ⟨0o40160011, 35, 0⟩
abbrev IMG_CRES : Nat := 0o40160012
abbrev IMG_CRES.RESULT : Fld := ⟨0o40160012, 35, 32⟩
abbrev IMG_CRES.SUB : Fld := ⟨0o40160012, 31, 31⟩
abbrev IMG_CRES.RUN : Fld := ⟨0o40160012, 30, 30⟩
abbrev IMG_CRES.STEP : Fld := ⟨0o40160012, 29, 28⟩
abbrev IMG_WDATA : Nat := 0o40160013
abbrev IMG_WDATA.W : Fld := ⟨0o40160013, 35, 0⟩
abbrev IMG_WCNT : Nat := 0o40160014
abbrev IMG_WCNT.FREE : Fld := ⟨0o40160014, 29, 23⟩
abbrev IMG_WCNT.CNT : Fld := ⟨0o40160014, 19, 0⟩
abbrev IMG_BAD : Nat := 0o40160015
abbrev IMG_BAD.OFFS : Fld := ⟨0o40160015, 23, 0⟩
abbrev IMG_CFG : Nat := 0o40160020
abbrev IMG_CFG.MANUAL : Fld := ⟨0o40160020, 35, 35⟩
abbrev IMG_CMT : Nat := 0o40160021
abbrev IMG_CMT.GO : Fld := ⟨0o40160021, 35, 0⟩
abbrev IMG_KCHREQ : Nat := 0o40160100
abbrev IMG_KCHREQ.W : Fld := ⟨0o40160100, 35, 0⟩
abbrev IMG_KCHAL (i : Nat) : Nat := 0o40160110 + i
abbrev IMG_KCHAL.CHAL (i : Nat) : Fld := ⟨0o40160110 + i, 31, 0⟩
abbrev IMG_KNEW (i : Nat) : Nat := 0o40160120 + i
abbrev IMG_KNEW.KEY (i : Nat) : Fld := ⟨0o40160120 + i, 31, 0⟩
abbrev IMG_KRESP (i : Nat) : Nat := 0o40160130 + i
abbrev IMG_KRESP.RESP (i : Nat) : Fld := ⟨0o40160130 + i, 31, 0⟩
abbrev IMG_KCMD : Nat := 0o40160140
abbrev IMG_KCMD.W : Fld := ⟨0o40160140, 35, 0⟩
abbrev IMG_KRES : Nat := 0o40160141
abbrev IMG_KRES.RESULT : Fld := ⟨0o40160141, 35, 32⟩
abbrev IMG_KRES.TRIES : Fld := ⟨0o40160141, 31, 0⟩
/-! ### HST -/
abbrev HST_KEY : Nat := 0o40170000
abbrev HST_KEY.KEY : Fld := ⟨0o40170000, 35, 0⟩
abbrev HST_KSTAT : Nat := 0o40170001
abbrev HST_KSTAT.HSTATE : Fld := ⟨0o40170001, 35, 34⟩
abbrev HST_KSTAT.DSTATE : Fld := ⟨0o40170001, 33, 32⟩
abbrev HST_KSTAT.LAST : Fld := ⟨0o40170001, 31, 29⟩
abbrev HST_KSTAT.LPATH : Fld := ⟨0o40170001, 28, 28⟩
abbrev HST_KSTAT.LADDR : Fld := ⟨0o40170001, 23, 0⟩
abbrev HST_STAT : Nat := 0o40170002
abbrev HST_STAT.WOVF : Fld := ⟨0o40170002, 35, 35⟩
abbrev HST_STAT.TAGERR : Fld := ⟨0o40170002, 34, 34⟩
abbrev HST_STAT.HDRERR : Fld := ⟨0o40170002, 33, 33⟩
abbrev HST_STAT.BADOP : Fld := ⟨0o40170002, 32, 32⟩
abbrev HST_STAT.LOCKED : Fld := ⟨0o40170002, 31, 31⟩
abbrev HST_STAT.LOCKBRK : Fld := ⟨0o40170002, 30, 30⟩
abbrev HST_STAT.WFREE : Fld := ⟨0o40170002, 29, 23⟩
abbrev HST_CFG : Nat := 0o40170003
abbrev HST_CFG.CHKREQ : Fld := ⟨0o40170003, 35, 35⟩
abbrev HST_ISRC : Nat := 0o40170004
abbrev HST_ISRC.MMATCH : Fld := ⟨0o40170004, 16, 16⟩
abbrev HST_ISRC.WERR : Fld := ⟨0o40170004, 15, 15⟩
abbrev HST_ISRC.CLK : Fld := ⟨0o40170004, 14, 14⟩
abbrev HST_ISRC.MG : Fld := ⟨0o40170004, 13, 13⟩
abbrev HST_ISRC.LOCK : Fld := ⟨0o40170004, 12, 12⟩
abbrev HST_ISRC.KEY : Fld := ⟨0o40170004, 11, 11⟩
abbrev HST_ISRC.ONX : Fld := ⟨0o40170004, 10, 10⟩
abbrev HST_ISRC.CAL : Fld := ⟨0o40170004, 9, 9⟩
abbrev HST_ISRC.IMG : Fld := ⟨0o40170004, 8, 8⟩
abbrev HST_ISRC.LAUNCH : Fld := ⟨0o40170004, 7, 7⟩
abbrev HST_ISRC.HTO : Fld := ⟨0o40170004, 6, 6⟩
abbrev HST_ISRC.INTEG : Fld := ⟨0o40170004, 5, 5⟩
abbrev HST_ISRC.ROLE : Fld := ⟨0o40170004, 4, 4⟩
abbrev HST_ISRC.MODE : Fld := ⟨0o40170004, 3, 3⟩
abbrev HST_ISRC.OPAL : Fld := ⟨0o40170004, 2, 2⟩
abbrev HST_ISRC.ALARM : Fld := ⟨0o40170004, 1, 1⟩
abbrev HST_ISRC.FSK : Fld := ⟨0o40170004, 0, 0⟩
abbrev HST_IEN : Nat := 0o40170005
abbrev HST_IEN.IEN : Fld := ⟨0o40170005, 16, 0⟩
abbrev HST_WRES : Nat := 0o40170006
abbrev HST_WRES.VALID : Fld := ⟨0o40170006, 35, 35⟩
abbrev HST_WRES.RESULT : Fld := ⟨0o40170006, 34, 31⟩
abbrev HST_WRES.ADDR : Fld := ⟨0o40170006, 23, 0⟩
abbrev HST_ERRCNT : Nat := 0o40170007
abbrev HST_ERRCNT.TAGERRS : Fld := ⟨0o40170007, 35, 27⟩
abbrev HST_ERRCNT.HDRERRS : Fld := ⟨0o40170007, 26, 18⟩
abbrev HST_ERRCNT.WOVFS : Fld := ⟨0o40170007, 17, 9⟩
abbrev HST_ERRCNT.LOCKBRKS : Fld := ⟨0o40170007, 8, 0⟩
abbrev HST_LOCK : Nat := 0o40170010
abbrev HST_LOCK.HELD : Fld := ⟨0o40170010, 35, 35⟩
abbrev HST_LOCK.REL : Fld := ⟨0o40170010, 34, 34⟩
abbrev HST_LOCK.ADDR : Fld := ⟨0o40170010, 23, 0⟩
abbrev HST_MGCFG : Nat := 0o40170020
abbrev HST_MGCFG.EN : Fld := ⟨0o40170020, 35, 35⟩
abbrev HST_MGCFG.FAST : Fld := ⟨0o40170020, 34, 34⟩
abbrev HST_MGCFG.ADDR : Fld := ⟨0o40170020, 6, 0⟩
abbrev HST_MGSTAT : Nat := 0o40170021
abbrev HST_MGSTAT.STUCK : Fld := ⟨0o40170021, 35, 35⟩
abbrev HST_MGSTAT.HOLDOFF : Fld := ⟨0o40170021, 34, 34⟩
abbrev HST_MGSTAT.PECERR : Fld := ⟨0o40170021, 33, 33⟩
abbrev HST_MGSTAT.STUCKS : Fld := ⟨0o40170021, 17, 9⟩
abbrev HST_MGSTAT.PECERRS : Fld := ⟨0o40170021, 8, 0⟩
/-! ### LEG -/
abbrev LEG_STAT : Nat := 0o40200000
abbrev LEG_STAT.COMPAT : Fld := ⟨0o40200000, 35, 35⟩
abbrev LEG_STAT.TXACT : Fld := ⟨0o40200000, 34, 34⟩
abbrev LEG_STAT.QSTAT : Fld := ⟨0o40200000, 15, 0⟩
abbrev LEG_BCFG : Nat := 0o40200001
abbrev LEG_BCFG.MODE : Fld := ⟨0o40200001, 35, 34⟩
abbrev LEG_BCFG.RATE : Fld := ⟨0o40200001, 33, 32⟩
abbrev LEG_BCFG.ADDR : Fld := ⟨0o40200001, 31, 26⟩
abbrev LEG_BCFG.TXEN : Fld := ⟨0o40200001, 25, 25⟩
abbrev LEG_BCFG.ACKIN : Fld := ⟨0o40200001, 24, 24⟩
abbrev LEG_BCFG.TERM : Fld := ⟨0o40200001, 23, 22⟩
abbrev LEG_BCFG.BIAS : Fld := ⟨0o40200001, 21, 20⟩
abbrev LEG_BCFG.VPER : Fld := ⟨0o40200001, 19, 12⟩
abbrev LEG_KNOWN (i : Nat) : Nat := 0o40200002 + i
abbrev LEG_KNOWN.KNOWN (i : Nat) : Fld := ⟨0o40200002 + i, 31, 0⟩
abbrev LEG_PST (i : Nat) : Nat := 0o40200004 + i
abbrev LEG_PST.IDLE (i : Nat) : Fld := ⟨0o40200004 + i, 35, 35⟩
abbrev LEG_PST.STUCK (i : Nat) : Fld := ⟨0o40200004 + i, 34, 34⟩
abbrev LEG_PST.OWN (i : Nat) : Fld := ⟨0o40200004 + i, 33, 33⟩
abbrev LEG_PST.CONF (i : Nat) : Fld := ⟨0o40200004 + i, 32, 32⟩
abbrev LEG_PST.ATT (i : Nat) : Fld := ⟨0o40200004 + i, 31, 28⟩
abbrev LEG_PST.QD (i : Nat) : Fld := ⟨0o40200004 + i, 27, 22⟩
abbrev LEG_PST.SEQ (i : Nat) : Fld := ⟨0o40200004 + i, 7, 0⟩
abbrev LEG_BCNT (i : Nat) : Nat := 0o40200006 + i
abbrev LEG_BCNT.SENT (i : Nat) : Fld := ⟨0o40200006 + i, 35, 18⟩
abbrev LEG_BCNT.DROP (i : Nat) : Fld := ⟨0o40200006 + i, 17, 0⟩
abbrev LEG_ECNT (i : Nat) : Nat := 0o40200010 + i
abbrev LEG_ECNT.COLL (i : Nat) : Fld := ⟨0o40200010 + i, 35, 27⟩
abbrev LEG_ECNT.ERR (i : Nat) : Fld := ⟨0o40200010 + i, 26, 18⟩
abbrev LEG_ECNT.STRANGER (i : Nat) : Fld := ⟨0o40200010 + i, 17, 9⟩
abbrev LEG_ECNT.DUP (i : Nat) : Fld := ⟨0o40200010 + i, 8, 0⟩
abbrev LEG_XRES : Nat := 0o40200012
abbrev LEG_XRES.RESULT : Fld := ⟨0o40200012, 35, 32⟩
abbrev LEG_XRES.ADDR : Fld := ⟨0o40200012, 23, 0⟩

end Sys2Proof.Machine
end

