-- ==== Sys2Proof/Machine/State.lean ====
section
/-! DEFINITION. The state of one KZ936: its commands waiting, its node time, its registers, its shared SRAM and MRAM, and
what each island holds that no register shows. All of it is plain data. -/
namespace Sys2Proof.Machine

open Sys2Proof

/-- Why a command stops. No rule of the spec stops the block: every command has an effect, so no constructor stands here. -/
inductive Fault where
deriving DecidableEq, Repr

/-- Why a command has no meaning. -/
inductive Refusal where
  /-- Raised by the dispatch alone, for a command whose meaning is not written; safe. -/
  | notModelled (mnemonic : String)
deriving DecidableEq, Repr

/-! ### Words held sparsely -/

/-- Words by address: rising addresses, no entry equal to what an unlisted address reads as. -/
abbrev Store := List (Nat × Word)

/-- The word at an address, `d` giving what an unlisted address reads as. -/
def Store.read (d : Nat → Word) (m : Store) (a : Nat) : Word :=
  match m with
  | [] => d a
  | (b, w) :: r => if b = a then w else Store.read d r a

/-- Put a word in its place. -/
def Store.insert (m : Store) (a : Nat) (w : Word) : Store :=
  match m with
  | [] => [(a, w)]
  | (b, v) :: r => if a < b then (a, w) :: (b, v) :: r else if a = b then (a, w) :: r else (b, v) :: Store.insert r a w

/-- Store a word, keeping the canonical form. -/
def Store.write (d : Nat → Word) (m : Store) (a : Nat) (w : Word) : Store :=
  if w = d a then m.filter (fun p => p.1 != a) else Store.insert m a w

/-- The canonical form from a lower bound on: addresses strictly rising, no entry equal to its default. -/
def Store.wfFrom (d : Nat → Word) (lo : Nat) (m : Store) : Bool :=
  match m with
  | [] => true
  | (a, w) :: r => (lo ≤ a) && (w != d a) && Store.wfFrom d (a + 1) r

/-- The canonical form. -/
def Store.wf (d : Nat → Word) (m : Store) : Bool := Store.wfFrom d 0 m

/-- What an unlisted SRAM word reads as after a cold reset: the tables zero (R82, R205, R539), the live value mirror
Q = 15 with value 0 (R82), and, where the spec leaves SRAM undefined, zero (DESIGN CHOICE, log entry 2). -/
def sramReset (a : Nat) : Word := if 0o00400000 ≤ a ∧ a ≤ 0o00407777 then noValue else 0

/-- What an unlisted MRAM word reads as: zero (DESIGN CHOICE, log entry 2). -/
def mramReset (_ : Nat) : Word := 0

/-! ### Life of the node (chapter 19) -/

/-- Where a cold start stands (R545): no supply, supply through VON, always-on domain settled, cold reset ended and node
time running, every island powered. -/
inductive Boot where
  | off
  | settling
  | settled
  | timed
  | powered
deriving DecidableEq, Repr

/-- Life-cycle state that no register shows. -/
structure Life where
  boot : Boot                      -- R545, steps 1 to 4
  held : Nat                       -- class of the warm, soft or resync reset being held, 0 none (R539)
  rclass : Nat                     -- class of the reset the cold start belongs to (R539)
  deferred : Option (Nat × Nat)    -- commanded reset waiting for REL + 3: class, beat count, run (R543)
  warn : Bool                      -- a brown-out warning stands (R548)
  stopped : Bool                   -- a power-fail stop has been made (R549)
  examined : Bool                  -- MRAM has been examined since the reset (R551)
  heldAt : Nat                     -- beat count, run, at which the hold of that reset began
  applied : Bool                   -- an image has been applied since the last reset of class 1 to 5 (R92, R372)
  warnAt : Nat                     -- beat count, run, at which the warning began (R548)
  upAt : Nat                       -- of step 4 of the start: every island powered (R545, R469)
  supAt : Option Nat               -- since which the internal loop supply has been out of its limits (R400)
  rise : Nat                       -- bit i: the unused island i has become used and is being powered up (R46)
  conds : Nat                      -- bit c: the condition of SAFE cause c holds (R44, R553)
  det : Nat                        -- bit c: SAFE cause c detected, its entry to SAFE waiting (R41)
  detAt : Nat                      -- beat count, run, at the first of those detections
  fell : Bool                      -- the bit of a used data-plane island has fallen in this beat (R579)
deriving DecidableEq, Repr

/-- Pins the block drives, as levels; `settle` derives the first two. -/
structure Pins where
  irqLow : Bool          -- HST_IRQ_N held low (R487, R521)
  safeReleased : Bool    -- SAFE_OUT_N released (R39, R554)
  ppsOut : Bool          -- PPS_OUT high (R60)
  pgOut : Bool           -- PG_OUT high (R545, R548)
deriving DecidableEq, Repr

/-! ### Node time and launch (chapter 2) -/

/-- A PTP, PPS or partner discipline in progress. -/
structure Disc where
  ppsLast : Option Nat       -- beat count, run, at the last PPS_IN edge
  ppsGood : Nat              -- consecutive intervals of 1,000,000 ± 100 beats
  stepPend : Option Int      -- step of node time, in µs, waiting for the next round boundary (R57)
  partnerTrust : Bool        -- TRUST of the partner, from its frames (R56)
  holdAt : Nat               -- beat count, run, at the last trusted lock (R56)
  slewLeft : Int             -- ns of a measured offset still being slewed away (R57)
deriving DecidableEq, Repr

/-- Node time (R50, R52) and what the TIM block keeps beside its registers. -/
structure TimeS where
  beat : Word
  round : Word
  usec : Nat
  phase : Nat
  repoch : Nat
  run : Nat                  -- beats since node time began to run: a step of node time does not move it
  due : Bool                 -- the beat in force is a round boundary whose work has not been done
  ppsAt : Nat                -- beat count, run, at which PPS_OUT last rose (R60)
  slotArg : Tbl Word         -- the argument each launch slot was armed with
  slotIss : Tbl Nat          -- its ISSUER, for a mode change (R73)
  issuedTag : Option (Nat × Nat × Nat)  -- last mode change issued here: TAG, SCOPE, mode (R78)
  heardIss : List (Word × Word × Nat)   -- network arms heard: target, TIM_LCMD, ISSUER, newest first (R73)
  wave : Nat                 -- wave counter of the lattice (R184)
  disc : Disc
deriving DecidableEq, Repr

/-! ### Memory and register writes (chapter 1) -/

/-- A write that has been acknowledged and whose moment is to come (R33, R488): at the next beat it acts on the key state of
its path, and there a data-plane write takes effect; a management-plane write then waits for the round boundary. -/
structure PendWr where
  addr : Nat
  w : Word
  path : Path
  req : Nat       -- the requester (R13), and the phase of the acknowledge: requests of one phase take effect in the order of R18
  at_ : Nat
  live : Bool     -- its effect is still to come: it names a register, was answered OK, and no command has given it its effect
  waits : Bool    -- it has acted on the key state and waits for the round boundary
deriving DecidableEq, Repr

/-- A write taken in the phase in force: its address and requester, and the word as the phase before left it, with whether that
word carried a double-error pattern (R17). -/
structure PhaseWr where
  addr : Nat
  req : Nat
  old : Word
  bad : Bool
deriving DecidableEq, Repr

/-- Memory: SRAM and MRAM words, the addresses that carry a double-error pattern, the scan pointers, and the last answer
of the interconnect (word, tag, response). -/
structure Mem where
  sram : Store
  mram : Store
  sramBad : List Nat
  mramBad : List Nat
  scrubAt : Nat
  patrols : Nat
  lastWord : Word
  lastTag : Byte
  lastResp : Nat
  pend : List PendWr
  phaseW : List PhaseWr      -- memory words written in the phase in force, oldest first (R17)
  deaf : Nat                 -- targets without a bit in ALIVE known not to answer: bit 0 the SRAM port, bit 1 the always-on registers (R20)
deriving DecidableEq, Repr

/-! ### Host port and service access (chapter 17) -/

/-- One word of a host read as it left the port: marker, word, tag, response (R478). -/
structure OutWord where
  marker : Nat
  w : Word
  tag : Byte
  resp : Nat
deriving DecidableEq, Repr

/-- A write word in the host port's queue (R481). -/
structure HostWr where
  addr : Nat
  w : Word
deriving DecidableEq, Repr

/-- A write held at a locked word (R491). -/
structure HeldWr where
  path : Path
  addr : Nat
  w : Word
deriving DecidableEq, Repr

/-- Host port, key paths, lock, 2-wire port and debug port. -/
structure HostS where
  wq : List HostWr             -- R481
  out : List OutWord           -- words returned by the last transaction
  keyH : Nat                   -- beats since t0 of the host path's sequence, counted by the HST block itself (R489)
  keyD : Nat                   -- and of the debug path's
  lockAge : Nat                -- beats since the lock was taken (R491)
  held : List HeldWr
  snapH : Tbl Word             -- words captured by the host path (R485)
  snapD : Tbl Word
  snapM : Tbl Word
  mgOut : List OutWord
  ir : Nat                     -- JTAG instruction register (R495)
  dbgState : Nat               -- DBGACC: 0 idle, 1 busy, 2 done (R497)
  dbgAddr : Nat
  dbgResp : Nat
  dbgData : Word
  haltedLate : Bool            -- the halt began after the watchdog had expired (R499)
  expRun : Nat                 -- beat count, run, of the boundary at which the watchdog expired (R34)
  missed : Nat                 -- rounds in a row, outside a halt, whose tasks the processor has not completed (R500)
  hto : List (Nat × Nat)       -- values SYS_HTO had: beat count, run, until which, and the value; newest first (R47)
  mgAt : Nat                   -- beat count, run, at which the 2-wire port last left the bus (R494)
  sysTaken : List Word         -- SYS_CMD values taken, which act at the next beat (R501)
deriving DecidableEq, Repr

/-! ### Onyx recorder (chapter 14) -/

/-- An accepted trigger (R422), with what the record takes at the trigger. -/
structure Trig where
  cls : Nat
  sub : Nat
  src : Nat
  ts0 : Word
  ts1 : Word
  ev0 : Word
  ev1 : Word
  rset : Nat
  role : Nat
  mode : Nat
  ssig : Nat
  lost : Nat
  coal : Nat
  lts0 : Word
  lts1 : Word
  at_ : Nat            -- beat count, run, at which it was accepted
deriving DecidableEq, Repr

/-- A formed record (R419), its SEQ and CSEQ still to come. -/
structure Rec where
  trig : Trig
  snaps : List Word
  snapErr : Nat
  pcc : Word
  opr : Word
deriving DecidableEq, Repr

/-- A record whose words are being written, one a beat: its slot, the words still to come with their places in the slot, and the beat
count, run, of the next of them (R428, R430). -/
structure Writing where
  slot : Nat
  todo : List (Nat × Word)
  next : Nat
deriving DecidableEq, Repr

/-- A clear in progress (R434): slot X and SEQ of its first record, the step reached (0 while a record before it is still being
written), whether it was resumed, CSEQ before it, the beat count, run, at which step 2 began, and the slots step 2 has passed. -/
structure Clear where
  slotX : Nat
  seqX : Word
  step : Nat
  resumed : Bool
  oldCseq : Word
  at_ : Nat
  wiped : Nat
deriving DecidableEq, Repr

/-- The recorder beside its registers. -/
structure OnxS where
  trigs : List Trig
  queue : List Rec
  writing : Option Writing
  clear : Option Clear
  lostNew : Nat
  wroteAt : Option Nat        -- beat count, run, of the last word of a record written
  copy : Option (Bool × Nat)
  copyAt : Nat                -- of the write of ONX_RDSEL that asked for it
  chal : Option Nat           -- of the placing of the challenge in ONX_CHAL (R435)
  chalReq : Option Nat        -- of a request for one, not yet served
  badRun : Nat                -- BADRESP results in a row
  lockAt : Option Nat         -- beat count, run, at which the lock-out began
  clrCmd : Bool               -- a clear command waits for its round boundary
  tokens : Nat                -- R428
  scanAt : Nat                -- beat count, run, at which the start-up scan began (R431)
  hourAt : Word               -- OPR of the last record of its kind (R422)
deriving DecidableEq, Repr

/-! ### Ship network (chapter 12) -/

/-- A Shaone telegram: its words (header words 0 to 5, then the body, and, once it is sent, its end-to-end check, R357), the queue it
belongs to and its group. -/
structure Tele where
  priv : Bool
  grp : Nat
  words : List Word
  at_ : Nat                -- beat count, run, at which it was formed
  hurt : Bool              -- one of its words reached it with a tag that fails (R35, step 5)
deriving DecidableEq, Repr

/-- A duplicate window (R370): the source, its space (0 privileged, 1 and 2 the unit spaces of units 0 and 1), the highest
SEQ, its formation stamp, and the numbers accepted among the 64 below it. -/
structure Win where
  src : Nat
  space : Nat
  high : Nat
  fts0 : Word
  fts1 : Word
  seen : List Nat
deriving DecidableEq, Repr

/-- A domain node kept for R76 and R378. -/
structure DomNode where
  src : Nat
  at_ : Nat                -- beat count, run, of its last status
  mdig : Word
  diffs : Nat              -- of its last statuses, those in a row that differ
  agreed : Bool
  dom : Nat                -- DOMAIN it carried
deriving DecidableEq, Repr

/-- The PTP slave port of a lane (R353, R354). Master data sets are compared in the order of their rank: the smaller
number is the better set, as the standard's comparison orders them. -/
structure PtpPort where
  gm : Option Nat          -- grandmaster identity followed
  rank : Nat
  good : Nat               -- consecutive Syncs within ±1 µs
  twoStep : Option (Nat × Int)  -- a two-step Sync waiting for its Follow_Up: sequence, receipt minus correction (ns)
  delay : Int              -- measured mean path delay, ns
  dreq : Option Nat        -- Delay_Req outstanding: its sequence
  dseq : Nat
  t2mt1 : Int              -- last Sync receipt minus origin, ns
  interval : Int           -- log interval the master announces for Delay_Req
  utc : Option (Nat × Nat) -- UTC offset and leap flags of the last Announce (R450)
  annAt : Nat              -- beat count, run, of that Announce
  annIv : Int              -- its log interval
  dreqAt : Nat             -- of the last Delay_Req
deriving DecidableEq, Repr

/-- A frame the engine answers with outside Shaone: ARP reply, IGMP report, Delay_Req (R351, R353). -/
inductive Reply where
  | arp (port : Nat) (ip mac : Nat)
  | igmp (port : Nat) (group : Nat)
  | delayReq (port : Nat) (seq : Nat)
deriving DecidableEq, Repr

/-- The ship-network engine beside its registers. -/
structure SnS where
  seqU : Nat
  txPriv : List Tele
  txOrd : List Tele
  sent : Option (Tele × List Nat)
  wins : List Win
  lru : List Nat
  dom : List DomNode
  ptp : Tbl PtpPort
  tries : Tbl (Nat × Nat)      -- a fall-back port without a link: 0 trying 10 Gbit/s, 1 trying 1 Gbit/s, and since when, run (R349)
  replies : List Reply
  almQ : List (Bool × List Word × Nat) -- ALARM bodies waiting: privileged, the body, the beat, run, of the change (R363)
  callQ : List (List Word × Nat)       -- CALL bodies waiting, and the beat, run, of the event (R364)
  rxAt : Tbl Nat               -- received-signal entry: beat count, run, of its last update (R375)
  formAt : Tbl Nat             -- list 0 to 7, SIGSTATE 8, STATUS 9: of the last forming (R359)
deriving DecidableEq, Repr

/-! ### Pair link (chapter 13) -/

/-- The replay of one beat of the active's work, as far as it has arrived (R390). -/
structure RepBeat where
  beat : Word
  complete : Bool
  recs : List JRec
  ldig : Nat
  edig : Nat
  mdig : Word
  pseq : Nat
deriving DecidableEq, Repr

/-- The inputs a standby works on, as the records replayed so far leave them (R393 to R395). -/
structure RepIn where
  cmp : Tbl Nat         -- island: high bits 15:8, low bits 7:0
  dis : Tbl Nat         -- class 4 signal: one bit per point
  spd0 : Nat
  spd1 : Nat
  rx : Tbl Bool         -- class 6 entry
  nst : Nat             -- class 8 bits 28:0, pair-fault 29, disagreement 30
  hsig0 : Nat
  hsig1 : Nat
  lim : Tbl Nat         -- precise limit bits of a channel, evaluated on its replayed word: high 1, low 0
  mir : Tbl Word        -- mirror words written
  raw : Tbl Word        -- last RAW record of a channel
deriving DecidableEq, Repr

/-- Counted samples of one referee output (R402): samples, own command against own field, partner's command against own
field, field states differing. -/
structure RefOut where
  key : Nat             -- 0–31 discrete, 32–47 loop output
  n : Nat
  actDiff : Nat
  stbDiff : Nat
  fieldDiff : Nat
  own : Bool
  other : Bool
  changed : Option Nat  -- beat count, run, of the last change of either command
deriving DecidableEq, Repr

/-- A referee run, or a post-swap check (R402, R411). -/
structure Referee where
  d : Word              -- the beat D of detection, or b + 8 of the swap
  at_ : Nat             -- beat count, run, at that beat
  selfAt : Nat          -- of the start of this unit's self-check
  open_ : Bool
  selfDone : Bool
  outs : List RefOut
deriving DecidableEq, Repr

/-- What R398 keeps of a point: whether its two digitisations differ now and since which beat, run; whether the last conversion or
mirror write differed, how many in a row have done the same, and how many there had been; and which of the two halves disagrees. -/
structure DisS where
  diff : Bool
  diffAt : Nat
  vDiff : Bool
  vRun : Nat
  seen : Nat
  cmp : Bool
  val : Bool
deriving DecidableEq, Repr

/-- A point on which nothing has been compared. -/
def DisS.fresh : DisS := ⟨false, 0, false, 0, 0, false, false⟩

/-- Link and replay of the pair engine. -/
structure JlLink where
  lockA : Bool
  lockB : Bool
  lastA : Option Nat       -- beat count, run, of the last checked frame of each lane
  lastB : Option Nat
  lastWit : Option Nat     -- of the last valid witness word
  rx : Option JFrame       -- last checked frame
  rxTxt : Word             -- TXT of that frame, and its arrival
  rxArr : Word
  outRecs : List JRec      -- records of the beat of work in progress
  spill : List JRec        -- records that continue in the next frame (CONT)
  sent : Option JFrame
  replay : List RepBeat
  inp : RepIn
  told : RepIn             -- lattice inputs as last recorded for the partner
  digs : List RepBeat      -- own digests of recent beats of work
  witSent : Option Nat
  witAt : Option Nat       -- beat count, run, at which it was sent
deriving DecidableEq, Repr

/-- Roles, referee, joining and sleep of the pair engine. -/
structure JlS where
  link : JlLink
  relBeat : Option Word    -- own release beat (R401)
  relAt : Option Nat       -- the same in beats run, until the release has been made
  takeAt : Option Nat      -- beat count, run, at which this standby takes control (R401, R408)
  takeFar : Bool           -- it does so without the active's count of privileged telegrams (R408)
  swapAt : Option Word     -- beat at which this unit last gave up or took the active role (R401, R410)
  stillUntil : Option Nat  -- engines take no sample before this beat, run (R410)
  referee : Option Referee
  swapChk : Option Referee -- post-swap check of the former active (R411)
  joinStep : Nat           -- step of R412, 0 none
  streamAt : Nat           -- next word of the table stream, or next beat of the rolling copy
  stateAt : Nat            -- beat count, run, at which the present pair state was entered
  cleanRounds : Nat        -- round boundaries since, as PROBATION and JOINED count them
  replayAt : Nat           -- of the first beat of which this standby must have the replay (R391)
  deadAt : Option Nat      -- since which the partner's outputs have read dead (R407)
  stepAnn : Option Int     -- a step to be announced in the frames until its boundary (R59)
  sleepSet : Bool          -- SLEEP being sent
  wake : Nat               -- 0 awake, 1 guard window, 2 wide search, 3 its offset measured, the step waiting (R417)
  partSleep : Option Nat   -- beat count, run, of the partner's last SLEEP frame (R416)
  dis : Tbl DisS           -- R398, by point
  opRoundRole : Word       -- operating rounds at the last role change
deriving DecidableEq, Repr

/-! ### Tables and field islands (chapters 3 to 5) -/

/-- The cached copy of one table entry (R91 to R97): the adopted words ([] while EMPTY), the failed attempts of the present
trigger, whether Q = 14 stands for it (R94, R96), whether its force is in effect or ignored (R103). -/
structure PtCache where
  words : List Word
  tries : Nat
  q14 : Bool
  forced : Bool
  fign : Bool
deriving DecidableEq, Repr

/-- A pass of checked reloads of an island (R92 to R97): the points still to be checked, the first of them being read, and those
it has checked. -/
structure Pass where
  due : List Nat            -- points to be checked, the one in progress first
  full : Bool               -- it loads whatever the GEN, as at an image apply
  words : List Word         -- words read of the one in progress: word 0, the others, word 0 again
  readAt : Nat              -- beat count, run, of the read of its word 0
  miss : Nat                -- the read after those failed: 1 TIMEOUT, 2 POISON, 0 none
  checked : List Nat        -- points the pass has done with
deriving DecidableEq, Repr

/-- No pass. -/
def Pass.none : Pass := ⟨[], false, [], 0, 0, []⟩

/-- An analogue channel beside its entry (R100, R101, R110, R117, R122, R126, R128, R135, R153). -/
structure ChanS where
  res : Option Word         -- last completed result, its quality before the stale rule
  stale : Bool              -- R101 has turned it stale
  renewAt : Nat             -- beat count, run, at which it was renewed
  damp : Option (Int × Nat) -- last damped value and its time, run
  convs : Nat               -- conversions since the entry was adopted (R122)
  diag : Nat                -- diagnosed quality of the last conversion
  owBad : Bool              -- diagnosed open or short, as R126 uses it
  owPres : Bool             -- the same as the comparator bits show it, from the beat after
  lay : Nat                 -- passes since the entry to LAY-UP (R128)
  src : Option (Int × Nat)  -- last usable source value (K, Q16.16) and the beat, run, it was taken at (R153)
  srcOut : Bool             -- THOLD has run out (R153)
  lead : Bool               -- the second source drives EP, as the last three-wire conversion left it (R110)
  level : Option Int        -- input at the comparators, in 2⁻²³ FS, as last seen (R134)
  seenH : Option Nat        -- first sample of a changed high comparator, counted in phases (R135)
  seenL : Option Nat
  accH : Bool               -- accepted comparator bits of the island's own
  accL : Bool
  heldH : Bool              -- bits held for CFAIL = 2 (R85, R180)
  heldL : Bool
  cfail : Nat               -- CFAIL code last sent to the lattice's input stage (R180)
deriving DecidableEq, Repr

/-- A channel nothing has been converted on. -/
def ChanS.fresh : ChanS :=
  ⟨none, false, 0, none, 0, 0, false, false, 0, none, false, false, none, none, none, false, false, false, false, 0⟩

/-- A conversion cycle in progress (R115): its list, channel, the entry, calibration record and trims it began under, whether its
test window runs, the beat, run, it began at, its length, and the temperature source as it stood at the start of the completion
step, once that has come (R152). -/
structure Conv where
  list : Nat
  ch : Nat
  ent : List Word
  calRec : List Word
  factory : List Word
  uncal : Bool
  test : Bool
  start : Nat
  len : Nat
  src : Option (Option (Int × Nat))
deriving DecidableEq, Repr

/-- A field island (R92, R115, R120, R132, R180). -/
structure IslS where
  reload : Pass
  conv : Option Conv
  passList : Option Nat     -- list of the pass in progress
  passLeft : List Nat       -- members still to be converted
  wrote : Bool              -- the pass has made its first mirror write (R102)
  conted : Nat              -- continuous list that ran last (R132)
  idleWait : Nat            -- bit n: continuous list n waits for a round boundary; bit 8 + n: its last pass converted something (R128)
  ticked : Nat              -- bit n: the period timer of list n has ticked in this beat (R130)
  lost : Bool               -- strobes lost (R180)
  quiet : Nat               -- phases without a strobe from an island without power, then 2 more than those with one again
  gainBad : Nat             -- bit g: gain code g fails its PGA check (R120)
deriving DecidableEq, Repr

/-- An island with nothing in progress. -/
def IslS.fresh : IslS := ⟨Pass.none, none, none, [], false, 7, 0, 0, false, 0, 0⟩

/-- A calibration capture in progress (R162). -/
structure Capture where
  ch : Nat
  point : Nat
  n : Nat
  sum : Rat
  stype : Nat
  gain : Nat
  at_ : Nat                  -- beat count, run, at its start
deriving DecidableEq, Repr

/-- The calibration store beside its registers. -/
structure CalS where
  cur : Store                -- the bank in effect in the islands, by offset (R166)
  uncal : Bool               -- no valid bank: every result Q = 5 (R168)
  work : Store               -- the working copy (R161)
  capture : Option Capture
  notes : Tbl (Nat × Nat)    -- 2·channel + point − 1: STYPE and gain code of a capture
  cmd : Nat                  -- command waiting for its round boundary, 0 none
  cmt : Bool                 -- commit waiting
  cmtBank : Nat              -- bank a running commit writes (R164)
  cmtAt : Nat                -- beat count, run, of its start, pauses left out
  pausedAt : Option Nat      -- the commit is paused since that beat, run (R499, R548)
deriving DecidableEq, Repr

/-! ### The Beryl lattice (chapter 6) -/

/-- A cell's configuration (R177), as the internal copy holds it. -/
structure CellCfg where
  typ : Nat
  nin : Nat
  init : Bool
  retain : Bool
  p0 : Word
  p1 : Word
  p2 : Word
  almen : Bool
  apt : Nat
  recedge : Nat
  rset : Nat
  txen : Bool
  priv : Bool
  txidx : Nat
  ins : List Nat            -- input specs I0 to I(NIN − 1) (R178)
  cchk : Nat                -- bits 7:0 of CCHK (R187)
deriving DecidableEq, Repr

/-- A cell's own state and the results of its recent waves, newest first. -/
structure CellS where
  hist : List (Bool × Bool) -- (O, A) as consumers get them, forces included
  own : Bool                -- its own O and A in the last wave (R192)
  ownA : Bool
  first : Bool              -- no wave evaluated under this configuration (R186)
  ins : Nat                 -- input bits of the last wave
  n : Nat                   -- inputs at 1 in the last wave
  cnt : Nat                 -- COUNT: the count
  timer : Nat               -- waves counted by EDGE, ONDLY, OFFDLY, INHIBIT, COUNT
  cap : Option (Nat × Nat)  -- FIRSTOUT: captured input and wave of capture
  res : Bool                -- THR: result
deriving DecidableEq, Repr

/-- A queued lattice event (R190). -/
structure LatEv where
  cell : Nat
  o : Bool
  idx : Nat                 -- TXIDX or RSET
  priv : Bool
  ts0 : Word
  ts1 : Word
  beat : Word               -- beat of work in which it was queued
deriving DecidableEq, Repr

/-- The lattice beside its registers. -/
structure BlS where
  cfg : Tbl CellCfg
  cells : Tbl CellS
  shadow : Option (Tbl CellCfg)
  oldTypes : Tbl Nat        -- TYPE each cell had in the region before the preparation overwrote it (R187)
  parityBad : Bool
  presented : Tbl Word      -- mirror words as last presented (class 7, THR)
  written : Tbl Word        -- mirror words written since the last phase 2, as the lattice sees them
  lims : Tbl Nat            -- island: precise limit bits as presented, high 15:8, low 7:0 (class 3)
  pres6 : List Nat          -- class 6, 9 and 10 indices presented as 1
  pres9 : List Nat
  pres10 : List Nat
  applyRound : Option Word  -- round that began at an image apply (class 8 bit 7)
  netQ : List LatEv
  recQ : List LatEv
  dig : List (List (Nat × Bool × Bool))     -- deliveries of the phases of the beat in progress, cells not 0, 0
  digDone : List (List (Nat × Bool × Bool)) -- of the last complete beat of work
  mirAt : Nat               -- next cell of the mirror rotation (R196)
  changed : List Nat        -- cells whose mirror words are due (R196)
deriving DecidableEq, Repr

/-! ### Alarm engine (chapter 7) -/

/-- A command of the alarm engine or of Opal: its word, whether it came as the word of a keyed sequence, its source (0 host,
1 ship network, 2 legacy bus, 3 carried from the standby, 4 the legacy host port), and what its response needs (R215, R251, R367). -/
structure EngCmd where
  w : Word
  keyed : Bool
  via : Nat
  rqid : Nat               -- of a request; of a host command its number
  src : Nat
  grp : Nat
deriving DecidableEq, Repr

/-- An alarm point beside its register ALM_PSTn. -/
structure AlmS where
  cache : PtCache
  run : Nat          -- samples in a row whose C differs from D (R209)
  shelved : Bool
  oos : Bool         -- out of service
  held : Bool        -- held by its group's flood (R224)
deriving DecidableEq, Repr

/-- A point never loaded. -/
def AlmS.fresh : AlmS := ⟨⟨[], 0, false, false, false⟩, 0, false, false, false⟩

/-- The alarm engine beside its registers. -/
structure AlmEng where
  pts : Tbl AlmS
  reload : Pass
  cmds : List EngCmd       -- at most 16 (R215)
  rises : Tbl (List Nat)   -- by group: rises of D in the current round and the rounds before it, newest first (R223)
  chg : List (Word × Nat)  -- changes of points 0 to 127 waiting for a legacy telegram, as body word a of R363, and their beat, run (R525)
  ackPrev : Option Nat     -- bit g: O of the acknowledge cell of group g at the last sample, once there was one (R226)
  roundAt : Nat            -- beat count, run, at which the engines last took up a round boundary of their work (R217, R232)
  shown : Tbl Nat          -- by point: STATE, BWHY and FO of ALM_PSTn as they show since the last phase 2 (R212)
  gst : Tbl Word           -- by group: ALM_GSTg as it shows since then (R219)
  cmdNo : Nat              -- host commands given so far: ALM_CRES reports the last (R233)
  asked : List Word        -- commands carried to the active and not yet replayed (R232)
deriving DecidableEq, Repr

/-! ### Opal (chapter 8) -/

/-- Opal beside its registers. Offers are numbered: alarm point n is n, CALL number c is 1024 + c, the dead-man function is
1280. -/
structure OplS where
  cache : PtCache
  reload : Pass
  cmds : List EngCmd       -- at most 8 (R251)
  prev : Option (Bool × Bool × Nat)  -- the last sample, once there was one: O of ONCELL and of RSTCELL, INs of the stations
  offers : List Nat        -- offers open
  accepted : List Nat      -- accepted marks
  pri : Nat                -- process priority, kept through ACCEPTED
  time : Nat               -- beats spent in the stage (R246)
  last : Nat               -- rota position of the last engineer added (R247)
  dmTime : Nat             -- beats spent in the dead-man state (R253)
  outs : Nat               -- station outputs presented to the discrete island (R242)
  targets : List Nat       -- targets of the last call telegram (R255)
  cmdNo : Nat              -- host commands given so far: OPL_CRES reports the last (R260)
  asked : List Word        -- commands carried to the active and not yet replayed (R256)
deriving DecidableEq, Repr

/-! ### Loop-output island (chapter 9) -/

/-- A queued FSK transaction (R297). -/
structure FskT where
  txa : Nat
  rxa : Nat
  len : Nat
deriving DecidableEq, Repr

/-- A loop output beside its entry and registers. Currents are in nA. -/
structure LoS where
  setpt : Rat            -- setpoint of the last beat (R267)
  drive : Option Rat     -- what the stage is commanded, trim included; none while it does not drive (R264, R284)
  target : Rat           -- value a row-11 setpoint moves toward (R270)
  shadow : Rat           -- R269
  hold : Rat             -- setpoint of the last beat before MAINTENANCE (row 6)
  rheld : Rat            -- setpoint at the adoption of a range change (row 9)
  good : Rat             -- setpoint of the last beat before the source went bad (row 10)
  first : Bool           -- awaiting the first update after adoption (row 8)
  range : Bool           -- awaiting the first update after a range change (row 9)
  seen : Bool            -- the source word has been written since the adoption (R273)
  full : Bool            -- the next row-11 value takes effect in full (R274)
  reconf : Bool          -- the 10 ms after a SINK change (R272)
  retest : Bool          -- the 10 ms MISWIRE retest runs (R280)
  meas : Int             -- measured current, nA
  fq : List FskT         -- the transaction in progress first, then the queued ones
  fwait : Nat            -- wait in beats that the last traffic set (R291)
  quietAt : Nat          -- beat count, run, from which it counts: the end of the last carrier
  txAt : Nat             -- of the start of the frame being sent, then of its end
  carrier : Bool         -- carrier defers the transaction (R292)
  tries : Nat            -- tries of the transaction in progress
  ov : Bool              -- O of OVCELL and the source word, as they stood at phase 0 (R267)
  word : Word
  ost : Option Nat       -- row state formed at phase 1, to be presented at phase 2
  formAt : Nat           -- beat count, run, at the last forming
  adoptAt : Nat          -- of the adoption that awaits a first update (R272, R273)
  chgAt : Nat            -- of the last change of the setpoint (R279)
  retestAt : Nat         -- of the start of the retest (R280)
deriving DecidableEq, Repr

/-- An output in its start-up state. -/
def LoS.fresh : LoS :=
  ⟨0, none, 0, 0, 0, 0, 0, false, false, false, false, false, false, 0, [], 302511, 0, 0, false, 0, false, noValue, none, 0, 0, 0, 0⟩

/-! ### Discrete island (chapter 10) -/

/-- A discrete point beside its entry and registers. Samples are counted in phases since node time began to run, moments in beats
since then. -/
structure DioS where
  raw : Bool               -- electrical level of the last sample (R303)
  rawAt : Nat              -- first sample of that level
  acc : Bool               -- accepted logical state of an input (R304)
  accAt : Nat              -- moment of its acceptance (R307)
  open_ : Bool             -- a raw change waits to be accepted or rejected (R305)
  sigs : Nat               -- class 4 signals as presented from this phase on: bit 0 for an output, 1 to 3
  sw : Bool                -- the switch is closed
  held : Bool              -- commanded electrical state in the last beat before SAFE or MAINTENANCE (R309, R321)
  gate : Bool              -- the PWM gate is open (R317)
  openAt : Option Nat      -- moment at which the switch opened (R310)
  cmdOff : Option Nat      -- moment from which the commanded state has been open (R315)
  blank : Nat              -- phase in which the blanking ends (R310)
  clampAt : Nat            -- moment at which the clamp in force began to be tested (R312)
  short : Option Nat       -- in short clamp, since that moment (R311)
  itrip : Nat              -- ITRIP and OVLT as the last closing took them, mA and beats (R324)
  ovlt : Nat
  ol : Bool                -- OL in force (R313)
  stb : Bool               -- STB in force
  pduty : Nat              -- pending duty (R318)
  late : Option Nat        -- a host write of it that waits for the reload of its beat
  shadow : Nat             -- commit shadow (R319)
  period : Nat             -- period in force until the next reload instant (R320)
  reloadAt : Option Nat    -- moment of the last reload (R317)
  cell : Nat               -- CELL in force (R324)
  due : Bool               -- the mirror word waits for phase 2 (R304)
deriving DecidableEq, Repr

/-- A point nothing has happened to. -/
def DioS.fresh : DioS :=
  ⟨false, 0, false, 0, false, 0, false, false, false, none, none, 0, 0, none, 600, 100000, false, false, 0, none, 0, 0, none, 0, false⟩

/-! ### Speed island (chapter 11) -/

/-- A speed input beside its entry and registers. Samples are of 25 ns, counted since node time began to run (R328). -/
structure SpdS where
  writes : Nat               -- mirror writes of its own, as R398 counts them
  edges : List Nat           -- acceptance samples of the counting edges since the restart, newest first (R330)
  rev : Rat                  -- speed of the last computation, revolutions per second, signed
  mean : Rat                 -- mean interval of the last computation, samples
  back : Bool                -- direction of the last edge is reverse (R332)
  count : Int                -- pulse or position count (R339)
  lastCh : Option Bool       -- channel of the last accepted edge, true for A (R332)
  errs : Nat                 -- sequence errors of this round
  raws : Nat                 -- raw transitions of this window (R334)
  frames : List Nat          -- SSI positions, newest first (R341)
  badStart : Nat             -- consecutive frames with a start bit of 1 (R340)
  due : List (Nat × Nat × Nat)  -- signals decided and not yet presented: phase from which they are, mask, values (R338)
  dec : Nat                  -- signals decided (class 5)
  still : Bool               -- at standstill (R331)
  inFrame : Bool             -- an SSI frame runs (R340)
  pres : Nat                 -- signals presented to the lattice (class 5)
  mirDue : Option Nat        -- beat count, run, from whose phase 2 on the mirror words are due after a change (R339)
  posQ : Nat                 -- quality of the position word
  lastAt : Nat               -- sample of the last counting edge or change of position, else of the adoption (R331, R341)
  tachtAt : Nat              -- beat count, run, at which WAITING was entered (R342)
  winAt : Option Nat         -- of the end of the last window of R334
  frameAt : Option Nat       -- of the start of the last SSI frame (R340)
deriving DecidableEq, Repr

/-- An input nothing has been measured on. -/
def SpdS.fresh : SpdS := ⟨0, [], 0, 0, false, 0, none, 0, 0, [], 0, [], 0, false, false, 0, none, 15, 0, 0, none, none⟩

/-! ### Calendar domain (chapter 15) -/

/-- The calendar beside its registers: the shift pending in counts (R445), the remainder of the trim in 10⁻⁷ counts and what
it adds to the present second (R447), a rate window waiting for its round boundary, the source of the last one started and the beat
count, run, of its start (R448), and the oscillator cycles counted in the present second (R438). -/
structure ClkS where
  shift : Int
  rem : Int
  adj : Int
  want : Bool
  winSrc : Nat
  winAt : Nat
  count : Nat
deriving DecidableEq, Repr

/-- A calendar without anything in progress. -/
def ClkS.fresh : ClkS := ⟨0, 0, 0, false, 0, 0, 0⟩

/-! ### Image/MRAM controller (chapter 16) -/

/-- An image being prepared (R463): its bank, the beat, run, of P, the step reached (4 when all is prepared), the words of that step
that have been read, whether the tables are kept (R470), the register section staged, the lattice section checked, and whether it is
the start-up one. -/
structure Prep where
  bank : Nat
  at_ : Nat
  step : Nat
  done_ : Nat
  keep : Bool
  pairs : List (Nat × Word)
  cfg : Tbl CellCfg
  startup : Bool
deriving DecidableEq, Repr

/-- The image/MRAM controller beside its registers. -/
structure ImgS where
  target : Nat               -- bank of the open session
  staged : List Word         -- header words received (R458)
  wq : List (Nat × Word)     -- words waiting to be written: offset and word
  wqAt : Nat                 -- beat count, run, at which the next of them may be written
  verify : Option Nat        -- beat count, run, at which the verification in progress began (R459)
  commit : Bool              -- a commit waits for its round boundary or runs (R460)
  cmtAt : Nat                -- beat count, run, of its start, pauses and the recorder's beats left out
  pausedAt : Option Nat      -- the commit is paused since that beat, run (R499, R548)
  pendBank : Nat             -- bank of the committed image (R462)
  applyAt : Option Word      -- round at which it is applied
  prep : Option Prep
  resync : Bool              -- the running image is to be applied again (R541)
  startup : Option Nat       -- bank taken at start-up, its preparation waiting (R469)
  other : Option Nat         -- the other valid bank, should that one be refused
  ranBefore : Bool           -- an image ran before the reset (R470)
  safeCell : Option Nat      -- SAFECELL of the running image, where in use (R467)
  safeWait : Option (Nat × Nat)  -- STARTMODE waiting for SAFECELL's first result, and the beat, run, from which that is delivered
  chal : Option Nat          -- beat count, run, of the placing of the key challenge (R474)
  chalReq : Option Nat       -- of a request for one, not yet served
  badRun : Nat               -- BADRESP results in a row
  lockAt : Option Nat        -- beat count, run, at which the lock-out began
  keyCmd : Nat               -- key command waiting for its round boundary, 0 none
deriving DecidableEq, Repr

/-- The controller after a reset. -/
def ImgS.fresh : ImgS :=
  ⟨0, [], [], 0, none, false, 0, none, 0, none, none, false, none, none, false, none, none, none, none, 0, none, 0⟩

/-! ### Quoster compatibility (chapter 18) -/

/-- A legacy write waiting in the translation engine; a QTIME pair is one entry of 32 bits (R517, R521). -/
structure LegWr where
  addr : Nat
  val : Nat
  pair : Bool
deriving DecidableEq, Repr

/-- A legacy telegram waiting: class, bytes 1 to 5 + LEN, the beat count, run, of its forming, its collisions, and its back-off
window, 0 standing for the class's initial one (R523, R528, R530). -/
structure LegTx where
  cls : Nat
  bytes : List Byte
  at_ : Nat
  coll : Nat
  w : Nat
deriving DecidableEq, Repr

/-- A legacy bus port beside its registers. -/
structure LegPort where
  q : List LegTx             -- at most 32, in the order they are sent
  sending : Bool
  testing : Bool             -- the driver is disconnected for the test of R531
  busy : Bool                -- another sender's frame is on the line
  txAt : Nat                 -- beat count, run, at which the sending or the test began
  edgeAt : Nat               -- of the last edge on the line (R528)
deriving DecidableEq, Repr

def LegPort.fresh : LegPort := ⟨[], false, false, false, 0, 0⟩

/-- A frame accepted: bus, SRC, SEQ, beat count, run, of its end (R526). -/
structure LegSeen where
  bus : Nat
  src : Nat
  seq : Nat
  at_ : Nat
deriving DecidableEq, Repr

/-- The translation engine and the legacy bus beside their registers. -/
structure LegS where
  wq : List LegWr            -- legacy writes waiting, at most 64
  out : List Nat             -- words shifted out in the last transaction
  snapT : Option Nat         -- QTIME low word as snapshotted (R517)
  viaQ : Bool                -- an alarm command of QCMD is under way
  horn : Option Nat          -- beat count, run, at which QCMD code 5 set host signal 63
  dly : List (Nat × Nat × Nat) -- QDLY writes waiting for the round boundary: group, value, beat count, run, of the write
  formAt : Tbl Nat           -- HEARTBEAT 0, VALUE 1: beat count, run, of the last forming (R525)
  seq : Nat                  -- SEQ of the last telegram formed
  heard : Option Nat         -- SEQ last heard from the node's own ADDR while silent (R535)
  ports : Tbl LegPort
  seen : List LegSeen        -- newest first
deriving DecidableEq, Repr

def LegS.fresh : LegS := ⟨[], [], none, false, none, [], [], 0, none, [], []⟩

/-- The machine: the commands waiting, first in first out, and the block. -/
structure State where
  pending : List Instr
  freeCtr : Nat            -- the model's own: counts the free values taken
  regs : Store             -- register words; an unlisted register reads its cold-reset word
  life : Life
  pins : Pins
  t : TimeS
  mem : Mem
  hst : HostS
  onx : OnxS
  sn : SnS
  jl : JlS
  cache : Tbl PtCache      -- 0–127 channels, 128–143 loops, 144–175 discretes, 176–183 speeds
  chan : Tbl ChanS
  isl : Tbl IslS           -- 0–15 field islands; 16, 17, 18 loop, discrete and speed islands
  tblLock : Bool           -- the four tables closed to the host (R98)
  cal : CalS
  bl : BlS
  alm : AlmEng
  opl : OplS
  lo : Tbl LoS
  dio : Tbl DioS
  spd : Tbl SpdS
  clk : ClkS
  img : ImgS
  leg : LegS
deriving DecidableEq, Repr

/-- No record of a partner's inputs. -/
def RepIn.none : RepIn := ⟨[], [], 0, 0, [], 0, 0, 0, [], [], []⟩

/-- The pair engine after a reset. -/
def JlS.fresh : JlS :=
  { link := ⟨false, false, none, none, none, none, 0, 0, [], [], none, [], RepIn.none, RepIn.none, [], none, none⟩
    relBeat := none, relAt := none, takeAt := none, takeFar := false, swapAt := none, stillUntil := none, referee := none
    swapChk := none, joinStep := 0, streamAt := 0, stateAt := 0, cleanRounds := 0, replayAt := 0, deadAt := none, stepAnn := none
    sleepSet := false, wake := 0, partSleep := none, dis := [], opRoundRole := 0 }

/-- The ship-network engine after a reset. -/
def SnS.fresh : SnS := ⟨0, [], [], none, [], [], [], [], [], [], [], [], [], []⟩

/-- The recorder after a reset. -/
def OnxS.fresh : OnxS := ⟨[], [], none, none, 0, none, none, 0, none, none, 0, none, false, 0, 0, 0⟩

/-- The host port and service ports after a reset. -/
def HostS.fresh : HostS :=
  ⟨[], [], 0, 0, 0, [], [], [], [], [], 2, 0, 0, 0, 0, false, 0, 0, [], 0, []⟩

/-- Discipline after a cold reset. -/
def Disc.fresh : Disc := ⟨none, 0, none, false, 0, 0⟩

/-- The machine before power is applied: every register at its cold-reset value (the Reset columns of the maps), node
time not yet loaded, the start-up state of R547 on the pins. -/
def State.reset : State :=
  { pending := []
    freeCtr := 0
    regs := []
    life := ⟨.off, 0, 1, none, false, false, false, 0, false, 0, 0, none, 0, 0, 0, 0, false⟩
    pins := ⟨false, true, false, false⟩
    t := ⟨0, 0, 0, 0, 0, 0, false, 0, [], [], none, [], 0, Disc.fresh⟩
    mem := ⟨[], [], [], [], 0, 0, 0, 0, 0, [], [], 0⟩
    hst := HostS.fresh
    onx := OnxS.fresh
    sn := SnS.fresh
    jl := JlS.fresh
    cache := []
    chan := []
    isl := []
    tblLock := false
    cal := ⟨[], false, [], none, [], 0, false, 0, 0, none⟩
    bl := ⟨[], [], none, [], false, [], [], [], [], [], [], none, [], [], [], [], 0, []⟩
    alm := ⟨[], Pass.none, [], [], [], none, 0, [], [], 0, []⟩
    opl := ⟨⟨[], 0, false, false, false⟩, Pass.none, [], none, [], [], 0, 0, 0, 0, 0, [], 0, []⟩
    lo := []
    dio := []
    spd := []
    clk := ClkS.fresh
    img := ImgS.fresh
    leg := LegS.fresh
  }

end Sys2Proof.Machine
end

