-- ==== Sys2Proof/Machine/Ops.lean ====
section
/-! DEFINITION. The named operations every family shares: registers and their fields, memory, stamps, interrupt sources,
Onyx triggers, SAFE causes, giving up control, crosslink records, Shaone telegrams. -/
namespace Sys2Proof.Machine

open Sys2Proof

/-! ### Registers -/

/-- The stored word of a register. -/
def State.reg (s : State) (a : Nat) : Word := s.regs.read regReset a

/-- Store a register word. -/
def State.setReg (s : State) (a : Nat) (w : Word) : State := { s with regs := s.regs.write regReset a w }

/-- A register field. -/
def State.get (s : State) (f : Fld) : Nat := fld (s.reg f.addr) f.hi f.lo

/-- A register field taken as a flag. -/
def State.flag (s : State) (f : Fld) : Bool := s.get f != 0

/-- Write a register field. -/
def State.put (s : State) (f : Fld) (v : Nat) : State :=
  s.setReg f.addr (W (setBits (s.reg f.addr).toNat f.hi f.lo v))

/-- Write a flag. -/
def State.putB (s : State) (f : Fld) (b : Bool) : State := s.put f b.toNat

/-- Raise a counter field, saturating at all ones. -/
def State.inc (s : State) (f : Fld) (k : Nat := 1) : State :=
  s.put f (satAt (2 ^ (f.hi + 1 - f.lo) - 1) (s.get f + k))

/-- Raise a counter field modulo its width. -/
def State.incMod (s : State) (f : Fld) : State := s.put f (s.get f + 1)

/-- One bit of a mask field. -/
def State.bitOf (s : State) (f : Fld) (i : Nat) : Bool := bit (s.get f) i

/-- Write one bit of a mask field. -/
def State.putBit (s : State) (f : Fld) (i : Nat) (b : Bool) : State := s.put f (setBit (s.get f) i b)

/-- Set an interrupt source (R487). -/
def State.raise (s : State) (f : Fld) : State := s.put f 1

/-! ### Memory words -/

def State.sramAt (s : State) (a : Nat) : Word := s.mem.sram.read sramReset a
def State.mramAt (s : State) (a : Nat) : Word := s.mem.mram.read mramReset a

/-- Store an SRAM word; a write replaces the check bits and so clears any error in the word (R23). -/
def State.setSram (s : State) (a : Nat) (w : Word) : State :=
  { s with mem := { s.mem with sram := s.mem.sram.write sramReset a w, sramBad := s.mem.sramBad.filter (· != a) } }

/-- Store an MRAM word with good check bits. -/
def State.setMram (s : State) (a : Nat) (w : Word) : State :=
  { s with mem := { s.mem with mram := s.mem.mram.write mramReset a w, mramBad := s.mem.mramBad.filter (· != a) } }

/-- Whether a read of the word is answered POISON for the pattern stored there (R22, R24). -/
def State.sramPoison (s : State) (a : Nat) : Bool := s.mem.sramBad.contains a
def State.mramPoison (s : State) (a : Nat) : Bool := s.mem.mramBad.contains a

/-- Consecutive words of SRAM or MRAM. -/
def State.sramWords (s : State) (a n : Nat) : List Word := (List.range n).map (fun i => s.sramAt (a + i))
def State.mramWords (s : State) (a n : Nat) : List Word := (List.range n).map (fun i => s.mramAt (a + i))

/-- Store consecutive words. -/
def State.setMramWords (s : State) (a : Nat) (l : List Word) : State :=
  (l.zipIdx).foldl (fun s p => s.setMram (a + p.2) p.1) s
def State.setSramWords (s : State) (a : Nat) (l : List Word) : State :=
  (l.zipIdx).foldl (fun s p => s.setSram (a + p.2) p.1) s

/-- A word of the live value mirror as its readers take it (R99): one answered POISON counts as Q = 12, value 0 (R36). -/
def State.mirror (s : State) (i : Nat) : Word :=
  if s.sramPoison (0o00400000 + i) then qword 12 0 else s.sramAt (0o00400000 + i)
def State.setMirror (s : State) (i : Nat) (w : Word) : State := s.setSram (0o00400000 + i) w

/-- Words of a Store in `[lo, hi)`, moved to start at `to_`, all others of the target range removed. -/
def Store.window (m : Store) (lo hi to_ : Nat) : Store :=
  (m.filter (fun p => lo ≤ p.1 && p.1 < hi)).map (fun p => (p.1 - lo + to_, p.2))

/-- `m` with `[lo, lo + n)` replaced by the entries given, whose addresses lie there in rising order. -/
def Store.splice (m : Store) (lo n : Nat) (x : Store) : Store :=
  m.filter (fun p => p.1 < lo) ++ x ++ m.filter (fun p => lo + n ≤ p.1)

/-! ### Where the node stands -/

def State.unit (s : State) : Nat := s.get SYS_STRAP.UNIT
def State.compat (s : State) : Bool := s.flag SYS_STRAP.COMPAT
def State.mode (s : State) : Nat := s.get SYS_MODE.MODE
def State.starting (s : State) : Bool := s.flag SYS_MODE.STARTING
def State.pstate (s : State) : Nat := s.get JL_STAT.PSTATE

/-- Every island powered: commands of the running node act. A warm or soft reset goes back to step 4 of the start; a resync
leaves the other islands at work (R545, R539, R541). -/
def State.up (s : State) : Bool := s.life.boot == .powered

/-- Node time runs (R545 step 3; a held warm, soft or resync reset keeps it, R539). -/
def State.timed (s : State) : Bool := s.life.boot == .timed || s.life.boot == .powered

/-- The unit drives outputs: PSTATE SINGLE or ACTIVE (R382), and no resync stands between its pair engine and the apply that
ends it (R541, R547). -/
def State.drives (s : State) : Bool := (s.pstate == 0 || s.pstate == 2) && !s.img.resync

/-- A standby working on the replay: COPYING, PROBATION or JOINED (R395). -/
def State.replays (s : State) : Bool := s.pstate == 3 || s.pstate == 4 || s.pstate == 5

/-- An island is used, and is alive (R45, R46). -/
def State.used (s : State) (i : Nat) : Bool := s.bitOf SYS_IUSE.USE i
def State.alive (s : State) (i : Nat) : Bool := s.bitOf SYS_ISTAT.ALIVE i

/-- The engines stand still: no wave and no sample is taken before a beat yet to come (R410). -/
def State.still (s : State) : Bool :=
  match s.jl.stillUntil with
  | some b => s.t.run < b
  | none => false

/-- The management processor is halted (R499), or its watchdog has expired and it has not resumed (R34). -/
def State.procStopped (s : State) : Bool := s.flag SYS_DBG.HALTED || s.flag SYS_WDOG.EXP

/-! ### Stamps -/

/-- The phase of the beat in force: after the beat's four waves it is still the last one. -/
def State.ph (s : State) : Nat := min s.t.phase 3

/-- Phases since node time began to run. -/
def State.phaseNo (s : State) : Nat := 4 * s.t.run + s.ph

/-- Beats since a moment. -/
def State.since (s : State) (at_ : Nat) : Nat := s.t.run - at_

/-- µs of node time since its origin. -/
def State.micros (s : State) : Nat := s.t.round.toNat * 1000000 + s.t.usec

/-- TS1 of a moment (R12): µs, phase, TRUST and the partition flag. -/
def mkTs1 (usec phase : Nat) (trust part : Bool) : Word :=
  W (usec <<< 16 + (phase % 4) <<< 14 + trust.toNat <<< 13 + part.toNat <<< 12)

/-- Stamp of the present beat at a phase. -/
def State.ts0 (s : State) : Word := s.t.round
def State.ts1 (s : State) (phase : Nat := 0) : Word :=
  mkTs1 s.t.usec phase (s.flag TIM_DSTAT.TRUST) (s.flag JL_STAT.PART)

/-- µs by which the beat of work lies behind: 8 beats in a standby that replays (R395). -/
def State.lag (s : State) : Nat := if s.replays then 8 else 0

/-- Beat of work, and its stamp: the standby stamps the beat of work (R358, R423). -/
def State.workBeat (s : State) : Word := s.t.beat - W s.lag
def State.wts0 (s : State) : Word := W ((s.micros - s.lag) / 1000000)
def State.wts1 (s : State) (phase : Nat := 0) : Word :=
  mkTs1 ((s.micros - s.lag) % 1000000) phase (s.flag TIM_DSTAT.TRUST) (s.flag JL_STAT.PART)

/-- Stamp of phase 0 of a beat before the present one. -/
def State.stampOf (s : State) (b : Word) : Word × Word :=
  let n := s.micros - (s.t.beat - b).toNat
  (W (n / 1000000), mkTs1 (n % 1000000) 0 (s.flag TIM_DSTAT.TRUST) (s.flag JL_STAT.PART))

/-- A stamp (two words) is earlier than another, phases included. -/
def tsLess (a0 a1 b0 b1 : Word) : Bool :=
  a0.toNat < b0.toNat || (a0 == b0 && (fld a1 35 14) < (fld b1 35 14))

/-! ### Onyx triggers (R422, R424, R426, R427) -/

/-- Records waiting: accepted triggers and formed records. -/
def OnxS.depth (o : OnxS) : Nat := o.trigs.length + o.queue.length

/-- A trigger is of the kind of another: same CLASS, SUB and SRC. -/
def Trig.sameKind (a b : Trig) : Bool := a.cls == b.cls && a.sub == b.sub && a.src == b.src

/-- A waiting trigger with a new one merged into it (R426). -/
def Trig.merge (a b : Trig) : Trig :=
  { a with coal := satAt 262143 (a.coal + 1), lts0 := b.ts0, lts1 := b.ts1, ev0 := b.ev0, ev1 := b.ev1 }

/-- Merge into the first waiting trigger of the kind, or none. -/
def mergeTrigs (b : Trig) : List Trig → Option (List Trig)
  | [] => none
  | a :: r => if a.sameKind b then some (a.merge b :: r) else (mergeTrigs b r).map (a :: ·)

/-- Merge into the first waiting record of the kind, or none. -/
def mergeRecs (b : Trig) : List Rec → Option (List Rec)
  | [] => none
  | a :: r => if a.trig.sameKind b then some ({ a with trig := a.trig.merge b } :: r) else (mergeRecs b r).map (a :: ·)

/-- Snapshot set configured for a class (R424). -/
def State.classSet (s : State) (cls : Nat) : Nat :=
  if cls ≤ 2 then s.get (ONX_CCFGX.RSET (cls - 1)) else s.get (ONX_CCFG.RSET (cls - 3))

/-- SSIG of a snapshot set: bits 15:0 of the CRC-32C of its 16 words (R419). -/
def State.ssigOf (s : State) (rset : Nat) : Nat :=
  crc32c ((List.range 16).map (fun i => s.reg (ONX_SSET rset i))) % 65536

/-- Raise a trigger: dropped when its class is disabled, merged where R426 allows, dropped and counted when the queue has
no place for its class (R427), accepted otherwise. -/
def State.trigger (s : State) (cls sub src : Nat) (ts0 ts1 ev0 ev1 : Word) (rset : Option Nat := none) : State :=
  if 3 ≤ cls && !s.flag (ONX_CCFG.EN (cls - 3)) then s
  else
    let set := rset.getD (s.classSet cls)
    let t : Trig :=
      { cls := cls, sub := sub, src := src, ts0 := ts0, ts1 := ts1, ev0 := ev0, ev1 := ev1, rset := set
        role := s.get JL_STAT.ROLE, mode := s.mode, ssig := s.ssigOf set, lost := 0, coal := 0
        lts0 := ts0, lts1 := ts1, at_ := s.t.run }
    let may := 4 ≤ cls && s.flag (ONX_CCFG.COAL (cls - 3))
    match (if may then mergeRecs t s.onx.queue else none) with
    | some q => ({ s with onx := { s.onx with queue := q } }).inc ONX_LOST.MERGE
    | none =>
      match (if may then mergeTrigs t s.onx.trigs else none) with
      | some q => ({ s with onx := { s.onx with trigs := q } }).inc ONX_LOST.MERGE
      | none =>
        if s.onx.depth ≥ (if cls ≤ 2 then 128 else 112) then
          ({ s with onx := { s.onx with lostNew := satAt 262143 (s.onx.lostNew + 1) } }).inc ONX_LOST.DROP
        else if cls == 1 && sub == 3 then { s with onx := { s.onx with trigs := t :: s.onx.trigs } }
        else { s with onx := { s.onx with trigs := s.onx.trigs ++ [t] } }

/-- A trigger stamped with the present beat, phase 0. -/
def State.trigNow (s : State) (cls sub src : Nat) (ev0 ev1 : Word) : State :=
  s.trigger cls sub src s.ts0 s.ts1 ev0 ev1

/-- A trigger stamped with the beat of work (R423). -/
def State.trigWork (s : State) (cls sub src : Nat) (ev0 ev1 : Word) : State :=
  s.trigger cls sub src s.wts0 s.wts1 ev0 ev1

/-- An uncorrectable failure of the integrity chain: the integrity trigger and its interrupt source (R38). -/
def State.integrity (s : State) (step island addr resp : Nat) : State :=
  (s.trigNow 2 step island (W addr) (W resp)).raise HST_ISRC.INTEG

/-! ### Memory ports (R22 to R24, R35) -/

/-- A word that came to hold an uncorrectable pattern. -/
def State.spoilSram (s : State) (a : Nat) (w : Word) : State :=
  let s := s.setSram a w
  { s with mem := { s.mem with sramBad := a :: s.mem.sramBad } }
def State.spoilMram (s : State) (a : Nat) (w : Word) : State :=
  let s := s.setMram a w
  { s with mem := { s.mem with mramBad := a :: s.mem.mramBad } }

/-- A read through the SRAM port (R22) for an island: the word, its tag, the response. -/
def State.sramRead (s : State) (a : Nat) (u : Upset) (req : Nat) : State × Word × Byte × Nat :=
  let w := s.sramAt a
  let bad := fun (s : State) (v : Word) => ((s.inc SYS_ICHK1.FAIL).integrity 3 req a 2, v, poisonTag v, 2)
  if s.sramPoison a then bad s w
  else match u with
    | .clean => (s, w, tagOf w, 0)
    | .single => (s.inc SYS_ICHK1.CORR, w, tagOf w, 1)
    | .singleCheck => (s.inc SYS_ICHK1.CORR, w, tagOf w, 1)
    | .double v => bad (s.spoilSram a v) v
    | .multiPoison v => bad (s.spoilSram a v) v
    | .multiMiscorrected v => ((s.setSram a v).inc SYS_ICHK1.CORR, v, tagOf v, 1)
    | .multiPasses v => (s.setSram a v, v, tagOf v, 0)

/-- The user persistent area of MRAM (R29). -/
def isUserMram (a : Nat) : Bool := 0o16510000 ≤ a && a ≤ 0o17777777

/-- MRAM words that a correction is written back to (R24): the Onyx areas and the user persistent area. -/
def mramRewrite (a : Nat) : Bool := (0o14100000 ≤ a && a ≤ 0o16477777) || isUserMram a

/-- A read through the image/MRAM controller (R24). -/
def State.mramRead (s : State) (a : Nat) (u : Upset) (req : Nat) : State × Word × Byte × Nat :=
  let w := s.mramAt a
  let bad := fun (s : State) (v : Word) => ((s.inc SYS_ICHK2.FAIL).integrity 8 req a 2, v, poisonTag v, 2)
  if s.mramPoison a then bad s w
  else match u with
    | .clean => (s, w, tagOf w, 0)
    | .single => (s.inc SYS_ICHK2.CORR, w, tagOf w, 1)
    | .singleCheck => (s.inc SYS_ICHK2.CORR, w, tagOf w, 1)
    | .double v => bad (s.spoilMram a v) v
    | .multiPoison v => bad (s.spoilMram a v) v
    | .multiMiscorrected v => ((if mramRewrite a then s.setMram a v else s).inc SYS_ICHK2.CORR, v, tagOf v, 1)
    | .multiPasses v => (s.setMram a v, v, tagOf v, 0)

/-- An island's own engine reads words: each that carries an uncorrectable pattern is counted and raises its trigger (R35, steps
3 and 8; R38, R49). -/
def State.sramFetch (s : State) (req : Nat) (l : List Nat) : State :=
  (l.filter s.sramPoison).foldl (fun (s : State) (a : Nat) => (s.sramRead a .clean req).1) s
def State.mramFetch (s : State) (req : Nat) (l : List Nat) : State :=
  (l.filter s.mramPoison).foldl (fun (s : State) (a : Nat) => (s.mramRead a .clean req).1) s

/-- An engine reads a word of the live value mirror (R36). -/
def State.mirrorFetch (s : State) (req i : Nat) : State := s.sramFetch req [0o00400000 + i]

/-- A word arrives at a memory with its tag (R35, steps 2 and 9): a tag that fails leaves a double-error pattern. -/
def State.sramStore (s : State) (a : Nat) (w : Word) (tagOk : Bool) (req : Nat) : State :=
  if tagOk then s.setSram a w else ((s.spoilSram a w).inc SYS_ICHK0.FAIL).integrity 2 req a 0
def State.mramStore (s : State) (a : Nat) (w : Word) (tagOk : Bool) (req : Nat) : State :=
  if tagOk then s.setMram a w else ((s.spoilMram a w).inc SYS_ICHK2.FAIL).integrity 9 req a 0

/-! ### Requests of one phase (R17, R18) -/

/-- Place of a requester among those served in one phase: data-plane islands first, then the lower index. -/
def serveKey (req : Nat) : Nat := (if req < 20 || req == 23 then 0 else 32) + req

/-- What a read of a memory word finds where another requester has written it in the same phase: the word before (R17). -/
def State.phaseOld (s : State) (req a : Nat) : Option PhaseWr :=
  if s.mem.phaseW.any (fun p => p.addr == a && p.req != req) then s.mem.phaseW.find? (·.addr == a) else none

/-- A memory write `f` of a requester in the phase in force: where a requester served after it has written the word in the same
phase, that word stands (R17, R18). -/
def State.phaseStore (s : State) (req a : Nat) (f : State → State) : State :=
  let old := if a ≤ 0o03777777 then (s.sramAt a, s.sramPoison a) else (s.mramAt a, s.mramPoison a)
  let beaten := s.mem.phaseW.any (fun p => p.addr == a && p.req != req && serveKey req < serveKey p.req)
  let t := f s
  let t :=
    if !beaten then t
    else if a ≤ 0o03777777 then (if old.2 then t.spoilSram a old.1 else t.setSram a old.1)
    else if old.2 then t.spoilMram a old.1 else t.setMram a old.1
  { t with mem := { t.mem with phaseW := t.mem.phaseW ++ [⟨a, req, old.1, old.2⟩] } }

/-- Waiting writes in the order of their moments, those of one phase in the order of R18. -/
def insertWr (p : PendWr) : List PendWr → List PendWr
  | [] => [p]
  | q :: r =>
    if q.at_ < p.at_ || (q.at_ == p.at_ && serveKey q.req ≤ serveKey p.req) then q :: insertWr p r else p :: q :: r

def orderWr (l : List PendWr) : List PendWr := l.foldl (fun m p => insertWr p m) []

/-! ### Discipline (R54 to R56, R448) -/

/-- A rate window of the calendar ends with ABORT; with AUTO another waits for the round boundary (R448). -/
def State.rateAbort (s : State) : State :=
  if !s.flag CLK_STAT.WINRUN then s
  else
    let s : State := { s with clk := { s.clk with want := s.clk.want || s.flag CLK_CFG.AUTO } }
    (s.putB CLK_STAT.WINRUN false).putB CLK_RATE.ABORT true

/-- A window of PTP lapses with its condition (R448). -/
def State.ratePtp (s : State) : State :=
  if s.clk.winSrc == 2 && !(s.get TIM_DSTAT.SRC == 1 && s.flag TIM_DSTAT.TRUST) then s.rateAbort else s

/-- PPS_IN is valid (R55): four intervals in a row were good, and the next edge is not overdue. -/
def State.ppsValid (s : State) : Bool :=
  4 ≤ s.t.disc.ppsGood && (match s.t.disc.ppsLast with | some b => s.since b ≤ 1000100 | none => false)

/-- The source that R54 selects: 0 free-running, 1 PTP, 2 PPS_IN, 3 partner. -/
def State.source54 (s : State) : Nat :=
  if s.replays && (s.flag JL_STAT.LNKA || s.flag JL_STAT.LNKB) then 3
  else if s.flag TIM_DISC.PTPEN && s.get SN_STAT.PTPPORT != 0 then 1
  else if s.flag TIM_DISC.PPSEN && s.ppsValid then 2
  else 0

/-- A lock to the source counts as trusted (R56). -/
def State.lockTrusted (s : State) (src : Nat) : Bool :=
  src == 1 || (src == 2 && s.flag TIM_DISC.PPSTRUST) || (src == 3 && s.t.disc.partnerTrust)

/-- SRC, LOCK, HOLD, HOLDLEFT and TRUST follow the source and the time since the last trusted lock (R54, R56). -/
def State.discipline (s : State) : State :=
  let src := s.source54
  let lock := s.lockTrusted src
  let hold := s.get TIM_DISC.HOLDOVER * 1000000
  let past := s.since s.t.disc.holdAt
  let held := !lock && s.flag TIM_DSTAT.TRUST && past < hold
  let s : State := if lock then { s with t := { s.t with disc := { s.t.disc with holdAt := s.t.run } } } else s
  let s := (s.put TIM_DSTAT.SRC src).putB TIM_DSTAT.LOCK (src != 0)
  let s := (s.putB TIM_DSTAT.TRUST (lock || held)).putB TIM_DSTAT.HOLD held
  (s.put TIM_DSTAT.HOLDLEFT (if lock then hold / 1000000 else if held then ceilDiv (hold - past) 1000000 else 0)).ratePtp

/-! ### Pair state (R381 to R384, R399, R400) -/

/-- Role shown in a pair state (R381). -/
def roleOf (p : Nat) : Nat := if p == 0 || p == 2 then 1 else if p == 1 || p == 8 then 0 else 2

/-- Node status bit 28 (R383). -/
def State.putInStep (s : State) : State :=
  s.putB JL_STAT.INSTEP (s.pstate == 5 || (s.pstate == 2 && s.get JL_STAT.PARTNER == 5))

/-- Enter a pair state; ROLE and the discipline's order follow, and a change raises its interrupt source (R54, R381, R503). -/
def State.setPstate (s : State) (p : Nat) : State :=
  if s.pstate == p && s.get JL_STAT.ROLE == roleOf p then s
  else
    let s := ((s.put JL_STAT.PSTATE p).put JL_STAT.ROLE (roleOf p)).raise HST_ISRC.ROLE
    ({ s with jl := { s.jl with stateAt := s.t.run, cleanRounds := 0, joinStep := if p == 3 then s.jl.joinStep else 0 } }).putInStep.discipline

/-- Take note of the partner's state. -/
def State.setPartner (s : State) (p : Nat) : State := (s.put JL_STAT.PARTNER p).putInStep

/-- Record a cause in JL_CAUSE, with its trigger (R418, R422). -/
def State.setCause (s : State) (c : Nat) : State :=
  let s := (s.put JL_CAUSE.CAUSE c).setReg JL_CAUSEB s.t.beat
  s.trigNow 6 2 0 (s.reg JL_CAUSE) (s.reg JL_CAUSEB)

/-- The unit finds its own fault (R400): an active whose partner is in JOINED decides to release, the release taking
effect at the next beat (R401); a standby enters FAILED; any other active continues. -/
def State.giveUp (s : State) (c : Nat) : State :=
  if s.pstate == 2 then
    if s.get JL_STAT.PARTNER == 5 && s.jl.relBeat.isNone then
      let s := s.setCause c
      { s with jl := { s.jl with relBeat := some (s.t.beat + 1), relAt := some (s.t.run + 1) } }
    else s
  else if 3 ≤ s.pstate && s.pstate ≤ 7 then (s.setCause c).setPstate 8
  else s

/-- A change of which unit is active: the epoch rises, with its trigger (R384, R422). -/
def State.roleChange (s : State) : State :=
  let s := s.setReg JL_EPOCH (s.reg JL_EPOCH + 1)
  let s := s.put JL_SWAP.HOURS 0
  let s := { s with jl := { s.jl with opRoundRole := s.reg ONX_OPR } }
  s.trigNow 6 1 0 (s.reg JL_EPOCH) (s.reg JL_STAT)

/-- A record of the beat of work for the partner (R389, R390): sent by an active with a partner in step. -/
def State.record (s : State) (r : JRec) : State :=
  if s.pstate == 2 then { s with jl := { s.jl with link := { s.jl.link with outRecs := s.jl.link.outRecs ++ [r] } } } else s

/-- A record this unit sends to its partner, whichever it is (R396). -/
def State.sendRec (s : State) (r : JRec) : State :=
  { s with jl := { s.jl with link := { s.jl.link with outRecs := s.jl.link.outRecs ++ [r] } } }

/-! ### SAFE causes (R41, R44, R553) -/

/-- The lowest code of a mask of causes, 0 for none. -/
def lowestCause (m : Nat) : Nat := ((List.range 8).filter (fun c => c != 0 && bit m c)).headD 0

/-- Cause of R400 that a SAFE cause presents to the pair engine: parity 1, watchdog 2, island 3, supply 4, others 7. -/
def pairCause (c : Nat) : Nat := if c ≤ 3 then c else if c == 6 then 4 else 7

/-- From the end of a reset of class 1 to 5, SAFECAUSE shows the lowest code among the conditions that hold (R553); during the
reset it is 0 (R44). -/
def State.showCause (s : State) : State :=
  if !s.timed || s.life.held == 4 || s.life.held == 5 then s else s.put SYS_MODE.SAFECAUSE (lowestCause s.life.conds)

/-- The condition of a SAFE cause begins to hold: in the start-up interval SAFECAUSE shows the lowest one (R553);
otherwise, unless the node is in SAFE, the entry at the next beat is due (R41), and the pair engine is told (R400). -/
def State.causeOn (s : State) (c : Nat) : State :=
  let was := bit s.life.conds c
  let s := { s with life := { s.life with conds := setBit s.life.conds c true } }
  if s.starting then s.showCause
  else if was || s.mode == 3 then s
  else
    let at_ := if s.life.det == 0 then s.t.run else s.life.detAt
    let s := { s with life := { s.life with det := setBit s.life.det c true, detAt := at_ } }
    if c == 2 || c == 6 then s else s.giveUp (pairCause c)

/-- The condition of a SAFE cause clears: SAFECAUSE takes the lowest one still holding (R553). -/
def State.causeOff (s : State) (c : Nat) : State :=
  let s := { s with life := { s.life with conds := setBit s.life.conds c false } }
  if s.starting then s.showCause
  else if s.mode == 3 && s.get SYS_MODE.SAFECAUSE == c && lowestCause s.life.conds != 0 then
    s.put SYS_MODE.SAFECAUSE (lowestCause s.life.conds)
  else s

/-- Whether the condition of a cause holds. -/
def State.holds (s : State) (c : Nat) : Bool := bit s.life.conds c

/-! ### Shaone telegrams (R358, R368, R371, R372) -/

/-- Header word 0 of a telegram (R358). -/
def teleWord0 (s : State) (typ : Nat) (priv : Bool) (count : Nat) : Word :=
  let act := s.drives
  W (1 <<< 32 + typ <<< 28 + priv.toNat <<< 27 + s.unit <<< 26 + act.toNat <<< 25 + (s.pstate == 6).toNat <<< 24
    + (s.mode == 2).toNat <<< 23 + (s.mode == 3).toNat <<< 22 + (s.get TIM_DSTAT.TRUST) <<< 21
    + (s.get TIM_MDOM.DOMAIN) <<< 13 + count % 8192)

/-- Which telegrams a unit sends in its pair state (R371, R381): 0 none, 1 forms and sends, 2 advances the privileged
count without sending (a standby not yet joined keeps step with the active's numbering). -/
def State.sends (s : State) (typ : Nat) (priv : Bool) : Nat :=
  match (if s.img.resync then 8 else s.pstate) with
  | 0 | 2 => 1
  | 5 => if priv || typ == 6 || typ == 8 then 1 else 0
  | 6 => if typ == 7 then 0 else 1
  | 9 => 0
  | 3 | 4 => if typ == 6 then 1 else if priv then 2 else 0
  | _ => if typ == 6 then 1 else 0

/-- Form a telegram: number it in its space, stamp it with the beat of work, queue it (R368, R371, R372). The isolated
observer sends everything in the unit space with PRIV = 0. -/
def State.formTele (s : State) (typ : Nat) (priv0 : Bool) (grp count : Nat) (body : List Word) : State :=
  let priv := priv0 && s.pstate != 6
  if !s.life.applied || (!s.flag SN_CFG.TXEN && typ != 6) then s
  else
    match s.sends typ priv with
    | 0 => s
    | k =>
      let seq := ((if priv then s.get JL_PSEQ.PSEQ else s.sn.seqU) + 1) % 2 ^ 32
      let s := if priv then s.put JL_PSEQ.PSEQ seq else { s with sn := { s.sn with seqU := seq } }
      let epoch := if s.pstate == 0 then 0 else s.reg JL_EPOCH
      let t : Tele :=
        { priv := priv, grp := grp
          words := [teleWord0 s typ priv count, W (s.get SN_ID.NID), W seq, s.wts0, s.wts1, epoch] ++ body
          at_ := s.t.run, hurt := false }
      if k == 2 || !s.flag SN_CFG.TXEN then s
      else if priv then
        if s.sn.txPriv.length ≥ 64 then s.inc SN_TXCNT.DROP else { s with sn := { s.sn with txPriv := s.sn.txPriv ++ [t] } }
      else
        if s.sn.txOrd.length ≥ 256 then s.inc SN_TXCNT.DROP else { s with sn := { s.sn with txOrd := s.sn.txOrd ++ [t] } }

/-- Form a RESPONSE telegram (R367): the request's OP and RQID, RESULT, the requester, the data. -/
def State.respond (s : State) (op rqid res src grp : Nat) (data : List Word) : State :=
  s.formTele 8 false grp data.length (W (op <<< 32 + rqid <<< 16 + res <<< 12) :: W src :: data)

/-! ### Register writes waiting (R33) -/

/-- The first waiting write of an address with a word gets its effect now; one that has not yet acted on the key state of its
path stays for that alone. -/
def takeWrite (a : Nat) (w : Word) : List PendWr → List PendWr
  | [] => []
  | p :: r =>
    if p.live && p.addr == a && p.w == w then (if p.waits then r else { p with live := false } :: r) else p :: takeWrite a w r

def State.consume (s : State) (a : Nat) (w : Word) : State := { s with mem := { s.mem with pend := takeWrite a w s.mem.pend } }

/-! ### The bus lock (R491) -/

/-- A word is locked for the host port. -/
def State.lockedAt (s : State) (a : Nat) : Bool := s.flag HST_LOCK.HELD && s.get HST_LOCK.ADDR == a

/-- A write of the free host area by another path: held at a locked word. -/
def State.freeWrite (s : State) (p : Path) (a : Nat) (w : Word) : State :=
  if s.lockedAt a then { s with hst := { s.hst with held := s.hst.held ++ [⟨p, a, w⟩] } } else s.setSram a w

/-! ### Free values -/

/-- Take a free value: nothing is known of it. -/
def State.free (s : State) : Nat × State :=
  ((Config.freeWord s.freeCtr).toNat, { s with freeCtr := s.freeCtr + 1 })

/-- A mirror write by an island (R99); the isolated observer marks good words Q = 6 (R406). -/
def State.writeMirror (s : State) (i : Nat) (w : Word) : State :=
  s.setMirror i (if s.pstate == 6 && qOf w ≤ 2 then qword 6 (fld w 31 0) else w)

end Sys2Proof.Machine
end

