-- ==== Sys2Proof/Machine/Flags.lean ====
section
/-! DEFINITION. The flags that follow from the registers at the end of every command: the interrupt line (R487, R521) and
SAFE_OUT_N (R39, R43, R554); and the three ways a command ends. -/
namespace Sys2Proof.Machine

open Sys2Proof

/-- HST_IRQ_N is held low: while an enabled source stands, or, in compatibility mode, while QSTAT.ATTN is 1 (R487, R521). -/
def State.irqHeld (s : State) : Bool :=
  if s.compat then bit (s.get LEG_STAT.QSTAT) 15 else (s.get HST_IEN.IEN &&& (s.reg HST_ISRC).toNat) != 0

/-- SAFE_OUT_N is released: in SAFE, the start-up state included (R39, R43, R554). -/
def State.safeOut (s : State) : Bool := s.mode == 3

/-- The pins that follow the registers take their levels. -/
def settle (s : State) : State := { s with pins := { s.pins with irqLow := s.irqHeld, safeReleased := s.safeOut } }

/-- A command ends in the state it leaves. -/
def done (s : State) : Host.Outcome State Fault Refusal := .next (settle s)

/-- A command of the running node: without power, or while a reset is held, nothing happens. -/
def act (s : State) (f : State → State) : Host.Outcome State Fault Refusal := done (if s.up then f s else s)

end Sys2Proof.Machine
end

