-- ==== Sys2Proof/Machine/Linear.lean ====
section
/-! DEFINITION. Chapter 5 as arithmetic: coefficient format, the effective codes of a channel entry, the trims of R584, the
field correction of R160, the curves, and the quality of a result. Values are exact rationals, rounded once (R142). -/
namespace Sys2Proof.Machine

open Sys2Proof

/-- The words of a table entry; a word beyond its length reads zero. -/
abbrev Entry := List Word

/-- A field of an entry word. -/
def Entry.f (e : Entry) (w hi lo : Nat) : Nat := fld (e.getD w 0) hi lo

/-- A flag of an entry word. -/
def Entry.b (e : Entry) (w i : Nat) : Bool := wbit (e.getD w 0) i

/-- A signed 32-bit value field of an entry word. -/
def Entry.v (e : Entry) (w : Nat) : Int := signed 32 (e.f w 31 0)

/-! ### Coefficient format (R141) -/

/-- 2 to an integer power. -/
def pow2 (e : Int) : Rat := if e ≥ 0 then ((2 ^ e.toNat : Nat) : Rat) else 1 / ((2 ^ (-e).toNat : Nat) : Rat)

/-- The value of a word in coefficient format; none for E = 255. -/
def coef? (w : Word) : Option Rat :=
  let e := fld w 34 27
  if e == 255 then none
  else if e == 0 then some 0
  else
    let m : Rat := ((2 ^ 27 + fld w 26 0 : Nat) : Rat) * pow2 (e - 127 - 27)
    some (if wbit w 35 then -m else m)

/-- The value of a word in coefficient format, zero where it has none. -/
def coef (w : Word) : Rat := (coef? w).getD 0

/-- Coefficient format of a value: nearest fraction, ties away from zero, saturating at the largest exponent. -/
def toCoef (q : Rat) : Word :=
  if q == 0 then 0
  else
    let a := q.num.natAbs
    let b := q.den
    let e0 : Int := (Nat.log2 a : Int) - Nat.log2 b
    let e := if (a : Rat) / b < pow2 e0 then e0 - 1 else e0
    let m := (roundRat ((a : Rat) / b * pow2 (27 - e))).toNat
    let (m, e) := if m ≥ 2 ^ 28 then (2 ^ 27, e + 1) else (m, e)
    let ex := e + 127
    if ex < 1 then 0
    else
      let (m, ex) := if ex > 254 then (2 ^ 28 - 1, 254) else (m, ex.toNat)
      W ((if q < 0 then 2 ^ 35 else 0) + ex <<< 27 + m % 2 ^ 27)

/-! ### Effective codes (R109 to R115) -/

def Entry.en (e : Entry) : Bool := e.b 0 27
def Entry.gen (e : Entry) : Nat := e.f 0 35 28
def Entry.stype (e : Entry) : Nat := e.f 0 26 23
def Entry.wires (e : Entry) : Nat := e.f 0 22 21
def Entry.uclass (e : Entry) : Nat := e.f 0 20 18
def Entry.curve (e : Entry) : Nat := e.f 1 35 30

/-- The effective GAIN code (R112). -/
def Entry.gain (e : Entry) : Nat :=
  orElse (e.f 1 29 26) (match e.stype with | 1 => 6 | 2 => 3 | 3 => 7 | 5 => 2 | _ => 1)

/-- The PGA gain G = 2^(GAIN − 1) (R111). -/
def Entry.pga (e : Entry) : Nat := 2 ^ (e.gain - 1)

/-- Nominal resistance of a curve in ohms (R143). -/
def Entry.rnom (e : Entry) : Rat :=
  match e.curve with
  | 24 => 100 | 25 => 200 | 26 => 500 | 27 => 1000
  | 28 => coef (e.getD 24 0)
  | _ => 100

/-- The effective EXC code (R109). -/
def Entry.exc (e : Entry) : Nat :=
  orElse (e.f 1 22 20)
    (if e.stype == 6 then 4 else if e.rnom ≤ 200 then 6 else if e.rnom ≤ 2000 then 3 else 1)

/-- Nominal excitation current in amperes (R85). -/
def Entry.inom (e : Entry) : Rat :=
  match e.exc with
  | 1 => 1 / 100000 | 2 => 5 / 100000 | 3 => 1 / 10000 | 4 => 25 / 100000 | 5 => 5 / 10000 | _ => 1 / 1000

/-- Half-span at the terminals in the terminal unit (R111); 1 for a dimensionless ratio. -/
def fsOf (stype wires : Nat) (g : Nat) (inom : Rat) : Rat :=
  match stype with
  | 4 => 20 / g
  | 5 => 50 / 1000 / g
  | 2 => 5 / 2 / (g * inom)
  | 6 => if wires == 0 then 5 / 2 / (g * inom) else 1
  | _ => 5 / 2 / g

/-- Settling delay in beats (R113). -/
def Entry.settle (e : Entry) : Nat :=
  let b := e.f 10 35 16
  if b != 0 then b
  else 2 ^ (orElse (e.f 1 19 16) (if e.stype == 2 || e.stype == 6 then 7 else 6) - 1) * 10

/-- The effective FILT code (R112, R114). -/
def Entry.filt (e : Entry) : Nat := orElse (e.f 10 15 12) 1

/-- Integration window in beats, from NOTCH or the island's MAINS (R112, R114, R139). -/
def Entry.window (e : Entry) (mains : Nat) : Nat :=
  if e.filt == 3 then 625
  else
    match orElse (e.f 1 25 23) (orElse mains 3) with
    | 1 => 20000 | 2 => 16667 | 4 => 2500 | _ => 100000

/-- Measurements of a conversion: two for a three-wire RTD (R115). -/
def Entry.meas (e : Entry) : Nat := if e.stype == 2 && e.wires == 1 then 2 else 1

/-- Length of a conversion cycle in beats (R115). -/
def Entry.convLen (e : Entry) (mains : Nat) (test : Bool) : Nat :=
  (if test then 500 else 0) + e.meas * (e.settle + (if e.filt == 2 then 3 else 1) * e.window mains) + 40

/-- Types whose row of R124 names the test window. -/
def Entry.testable (e : Entry) : Bool :=
  e.stype == 1 || e.stype == 3 || ((e.stype == 2 || e.stype == 6) && (e.wires == 1 || e.wires == 2))

/-- Current sources of the channel's pair that drive, by its adopted entry (R108). -/
def Entry.sources (e : Entry) : Nat :=
  if !e.en || !(e.stype == 2 || e.stype == 6) then 0 else if e.meas == 2 then 2 else 1

/-- The channel's excitation pair is driving. -/
def Entry.excited (e : Entry) : Bool := e.sources != 0

/-- Transmitter supply on AIn_SP: MASK bit of an adopted current channel (R107; EN is not asked, log entry 33). -/
def Entry.txSupply (e : Entry) (mask : Bool) : Bool := mask && e.stype == 5

/-! ### Factory trims (R584, R585) -/

/-- An offset trim: the neutral 0 for E = 255, with its mark. -/
def offTrim (w : Word) : Rat × Bool := match coef? w with | none => (0, true) | some q => (q, false)

/-- A gain trim: the neutral 1 for E = 0 or 255, with its mark. -/
def gainTrim (w : Word) : Rat × Bool :=
  match coef? w with | none => (1, true) | some q => if q == 0 then (1, true) else (q, false)

/-- Stage 1 (R140, R584): the signal in the terminal unit, and whether a neutral trim was used (R585). `r1` and `r2` are raw
results: `r2` is the second measurement of a three-wire RTD, or the element result of a ratio. -/
def stage1 (e : Entry) (fac : List Word) (r1 r2 : Int) : Rat × Bool :=
  let g : Rat := e.pga
  let volts := fun (r : Rat) => r / 2 ^ 23 * (5 / 2) / g
  let off := offTrim (fac.getD (2 * (e.gain - 1)) 0)
  let gn := gainTrim (fac.getD (2 * (e.gain - 1) + 1) 0)
  let u := fun (r : Rat) => (volts r - off.1) * gn.1
  let bad := off.2 || gn.2
  match e.stype with
  | 4 =>
    let o := offTrim (fac.getD 16 0)
    let k := gainTrim (fac.getD 17 0)
    ((8 * u r1 - o.1) * k.1, bad || o.2 || k.2)
  | 5 =>
    let o := offTrim (fac.getD 18 0)
    let k := gainTrim (fac.getD 19 0)
    ((u r1 / 50 - o.1) * k.1, bad || o.2 || k.2)
  | 2 =>
    let k := gainTrim (fac.getD 20 0)
    let r : Rat := if e.wires == 1 then ((r1 : Rat) + r2) / 2 else r1
    (k.1 * u r / e.inom, bad || k.2)
  | 6 =>
    if e.wires == 0 then
      let k := gainTrim (fac.getD 20 0)
      (k.1 * u r1 / e.inom, bad || k.2)
    else
      let ve := volts r2 - off.1
      (if ve == 0 then 0 else (volts r1 - off.1) / ve, off.2)
  | _ => (u r1, bad)

/-! ### Field correction (R159, R160, R163) -/

/-- The limits of R163 on a gain and an offset. -/
def calLimits (fgain offs fs : Rat) : Bool :=
  9 / 10 ≤ fgain && fgain ≤ 11 / 10 && offs ≤ fs * 5 / 100 && -offs ≤ fs * 5 / 100

/-- A channel record with CALD = 1 that R159 and R163 let stand, `inom` and `wires` being those of the channel. -/
def calRecOk (r : List Word) (wires : Nat) (inom : Rat) : Bool :=
  let m := fld (r.getD 0 0) 34 33
  (m == 1 || m == 2) &&
  (match coef? (r.getD 1 0), coef? (r.getD 2 0) with
   | some o, some g => calLimits g o (fsOf (fld (r.getD 0 0) 32 29) wires (2 ^ (fld (r.getD 0 0) 28 25 - 1)) inom)
   | _, _ => false)

/-- Stage 2: the corrected signal and whether its result carries Q = 5. -/
def fieldCorrect (e : Entry) (r : List Word) (dueq : Bool) (ts0 : Word) (s : Rat) : Rat × Bool :=
  let w0 := r.getD 0 0
  if !wbit w0 35 then (s, false)
  else
    let due := (r.getD 4 0) != 0 && (r.getD 4 0).toNat ≤ ts0.toNat && dueq
    if fld w0 32 29 != e.stype || fld w0 28 25 != e.gain || due || !calRecOk r e.wires e.inom then (s, true)
    else ((s - coef (r.getD 1 0)) * coef (r.getD 2 0), false)

/-! ### Curves (R143 to R151) -/

/-- Range of a thermocouple type in °C, by CURVE (R147). -/
def tcRange (c : Nat) : Rat × Rat :=
  match c with
  | 8 => (-210, 1200) | 9 => (-270, 1372) | 10 => (-270, 1300) | 11 => (-270, 400) | 12 => (-270, 1000)
  | 13 => (-50, 17681 / 10) | 14 => (-50, 17681 / 10) | 15 => (0, 1820) | 16 => (0, 2315) | _ => (0, 2500)

/-- Start of the branch a thermocouple solution is taken from: 42 °C for type B (R147). -/
def tcBranch (c : Nat) : Rat := if c == 15 then 42 else (tcRange c).1

/-- Res(t) of an RTD (R148). -/
def rtdRes (rz a b c t : Rat) : Rat :=
  if t < 0 then rz * (1 + a * t + b * t ^ 2 + c * (t - 100) * t ^ 3) else rz * (1 + a * t + b * t ^ 2)

/-- Bisection between `lo` and `hi` for the point where a rising function reaches `y`. -/
def bisect (f : Rat → Rat) (y : Rat) : Nat → Rat → Rat → Rat
  | 0, lo, _ => lo
  | n + 1, lo, hi => let m := (lo + hi) / 2; if f m ≤ y then bisect f y n m hi else bisect f y n lo m

/-- A number held within `±b`. -/
def within (b x : Rat) : Rat := if x > b then b else if x < -b then -b else x

/-- RTD parameters of a curve: RZ, A, B, C (R148). -/
def rtdParams (e : Entry) : Rat × Rat × Rat × Rat :=
  if e.curve == 28 then (coef (e.getD 24 0), coef (e.getD 25 0), coef (e.getD 26 0), coef (e.getD 27 0))
  else (e.rnom, 39083 / 10000000, -5775 / 10000000000, -4183 / 1000000000000000)

/-- The outcome of a curve: the engineering value and the quality of a curve range crossed. -/
abbrev CurveOut := Rat × Option Nat

/-- Linear interpolation among the points of CURVE 32 (R151). -/
def pieces (s : Rat) : List (Rat × Rat) → CurveOut
  | [] => (0, none)
  | [(s0, x0)] => if s > s0 then (x0, some 10) else (x0, none)
  | (s0, x0) :: (s1, x1) :: r =>
    if s < s0 then (x0, some 11)
    else if s ≤ s1 then (x0 + (s - s0) * (x1 - x0) / (s1 - s0), none)
    else pieces s ((s1, x1) :: r)

/-- Stage 4: the curve on the signal, `t` being the temperature source in K where the curve reads one. -/
def curveOut (e : Entry) (s t : Rat) : CurveOut :=
  let c := fun i => coef (e.getD i 0)
  match e.curve with
  | 0 => (s, none)
  | 1 => (c 26 + (s - c 24) * (c 27 - c 26) / (c 25 - c 24), none)
  | 2 =>
    let ns := e.f 24 35 33
    let nt := e.f 24 32 31
    let d := t - c 25
    let sum := fun (l : List Rat) => l.foldl (· + ·) 0
    (sum ((List.range (ns + 1)).map (fun i => c (26 + i) * s ^ i))
      + s * sum ((List.range nt).map (fun j => c (32 + j) * d ^ (j + 1)))
      + sum ((List.range nt).map (fun j => c (34 + j) * d ^ (j + 1))), none)
  | 3 =>
    if s ≤ 36 / 10000 then ((36 / 10000 - 4 / 1000) / (16 / 1000), some 11)
    else if s ≥ 21 / 1000 then ((21 / 1000 - 4 / 1000) / (16 / 1000), some 10)
    else ((s - 4 / 1000) / (16 / 1000), none)
  | 4 => (s / (20 / 1000), none)
  | 5 => (s / 10, none)
  | 6 => ((s - 1) / 4, none)
  | 32 =>
    let n := e.f 24 35 32
    pieces s ((List.range n).map (fun i => (c (25 + 2 * i), c (26 + 2 * i))))
  | k =>
    if 8 ≤ k && k ≤ 17 then
      let v := s + Config.tcVolts k (t - 27315 / 100)
      let (lo, hi) := tcRange k
      if v < Config.tcVolts k (tcBranch k) then (lo + 27315 / 100, some 11)
      else if v > Config.tcVolts k hi then (hi + 27315 / 100, some 10)
      else
        (bisect (Config.tcVolts k) v 31 (tcBranch k) hi + within (999 / 1000000) (Config.tcError k v) + 27315 / 100, none)
    else
      let (rz, a, b, cc) := rtdParams e
      let f := rtdRes rz a b cc
      if s < f (-200) then (-200 + 27315 / 100, some 11)
      else if s > f 850 then (850 + 27315 / 100, some 10)
      else (bisect f s 31 (-200) 850 + within (999 / 1000000) (Config.rtdError s) + 27315 / 100, none)

/-- Whether a curve reads the temperature source (R147, R150, R152). -/
def Entry.readsSource (e : Entry) : Bool :=
  (8 ≤ e.curve && e.curve ≤ 17) || (e.curve == 2 && e.f 24 32 31 != 0)

/-- LSB of a unit class in SI units (R8). -/
def lsbOf (u : Nat) : Rat :=
  match u with
  | 0 => 1 / 65536 | 1 => 1 / 16 | 2 => 1 / 1000000 | 3 => 1 / 268435456
  | 4 => 1 / 100000000 | 5 => 1 / 1000000000 | 6 => 1 / 4096 | _ => 1

/-! ### Quality of a result (R154) -/

/-- The temperature source as R152 and R153 give it: none where they give Q = 12, else its value in K, whether it is a held
value (Q = 5), and the quality of an uncertain live word. -/
abbrev Source := Option (Rat × Bool × Option Nat)

/-- Stages 2 to 5 and R154: the quality and value of a result, from the diagnosed quality, the stage 1 signal, whether a
trim or the absence of a bank gives Q = 5, the calibration record, and the temperature source. -/
def finishResult (e : Entry) (calRec : List Word) (dueq : Bool) (ts0 : Word) (diag : Nat) (sig : Rat) (q5 : Bool)
    (src : Source) : Nat × Int :=
  if diag == 8 || diag == 9 || diag == 12 then (diag, 0)
  else
    let needs := e.readsSource
    match (if needs then src else some (0, false, none)) with
    | none => if diag == 10 || diag == 11 then (diag, 0) else (12, 0)
    | some (t, held, unc) =>
      let (s2, f5) := fieldCorrect e calRec dueq ts0 sig
      let lead := (e.stype == 2 || e.stype == 6) && e.wires == 0
      let s3 := if lead then s2 - coef (e.getD 20 0) else s2
      let (x, rq) := curveOut e s3 t
      let y := x / lsbOf e.uclass
      let elo : Rat := e.v 18
      let ehi : Rat := e.v 19
      let (v, lq) : Rat × Option Nat :=
        if rq.isSome || diag == 10 || diag == 11 then (y, rq)
        else if e.b 18 35 && y < elo then (elo, some 11)
        else if e.b 19 35 && y > ehi then (ehi, some 10)
        else (y, none)
      let n := roundRat v
      let (n, lq) : Int × Option Nat :=
        if n > 2147483647 then (2147483647, lq.orElse (fun _ => some 10))
        else if n < -2147483648 then (-2147483648, lq.orElse (fun _ => some 11))
        else (n, lq)
      let q :=
        if diag == 10 || diag == 11 then diag
        else match lq with
          | some k => k
          | none => if held || f5 || q5 then 5 else unc.getD 0
      (q, n)

/-- Diagnosed quality from the raw results (R116): saturation at ±0.99 FS. -/
def satQuality (r1 r2 : Int) (both : Bool) : Nat :=
  let hi := fun (r : Int) => r * 100 ≥ 99 * 8388608
  let lo := fun (r : Int) => r * 100 ≤ -99 * 8388608
  if hi r1 || (both && hi r2) then 10 else if lo r1 || (both && lo r2) then 11 else 0

/-- First-order damping (R117): τ in tenths of a second, Δt in µs. -/
def dampStep (prev x : Int) (tau dt : Nat) : Int :=
  roundRat ((prev : Rat) + ((x : Rat) - prev) * dt / (tau * 100000 + dt))

/-! ### Validation of a channel entry (R95, R144) -/

/-- A row of R143 for the entry's CURVE. -/
def curveRow (e : Entry) : Bool :=
  let st := e.stype
  let u := e.uclass
  match e.curve with
  | 0 => ((st == 1 || st == 3 || st == 4) && u == 4) || (st == 5 && u == 5) || (st == 6 && (e.wires == 1 || e.wires == 2) && u == 3)
  | 1 | 2 | 32 => 1 ≤ st && st ≤ 6
  | 3 | 4 => st == 5 && u == 3
  | 5 | 6 => st == 4 && u == 3
  | k =>
    if 8 ≤ k && k ≤ 17 then st == 1 && u == 0
    else if 24 ≤ k && k ≤ 28 then st == 2 && u == 0
    else false

/-- Points of CURVE 32 strictly ascending. -/
def ascending : List Rat → Bool
  | a :: b :: r => a < b && ascending (b :: r)
  | _ => true

/-- The parameter words a curve uses, and its conditions (R146, R148, R150, R151). -/
def curveParams (e : Entry) : Bool :=
  let ok := fun i => (coef? (e.getD i 0)).isSome
  let c := fun i => coef (e.getD i 0)
  match e.curve with
  | 1 => [24, 25, 26, 27].all ok && c 24 != c 25
  | 2 =>
    let ns := e.f 24 35 33
    let nt := e.f 24 32 31
    ns ≤ 5 && nt ≤ 2 && (List.range (ns + 1)).all (fun i => ok (26 + i))
      && (nt == 0 || (ok 25 && (List.range nt).all (fun j => ok (32 + j) && ok (34 + j))))
  | 28 => [24, 25, 26, 27].all ok && c 24 > 0
  | 32 =>
    let n := e.f 24 35 32
    2 ≤ n && n ≤ 11 && (List.range (2 * n)).all (fun i => ok (25 + i))
      && ascending ((List.range n).map (fun i => c (25 + 2 * i)))
  | _ => true

/-- An entry of channel `n` passes validation. -/
def channelValid (n : Nat) (e : Entry) : Bool :=
  !e.en ||
  (e.stype ≤ 6 && e.wires ≤ 2 && e.f 1 29 26 ≤ 8 && e.f 1 25 23 ≤ 4 && e.f 1 22 20 ≤ 6 && e.f 3 5 4 ≤ 2
    && e.f 10 15 12 ≤ 3 && e.v 8 ≥ 0 && e.f 16 35 34 ≤ 2
    && (e.wires == 0 || e.stype == 2 || e.stype == 6)
    && (e.f 1 22 20 == 0 || !(e.stype == 1 || e.stype == 3 || e.stype == 4 || e.stype == 5))
    && !(e.b 3 7 && e.b 3 6 && e.f 3 35 24 ≤ e.f 3 23 12)
    && !(e.b 4 35 && e.b 5 35 && e.v 4 ≤ e.v 5)
    && curveRow e && curveParams e
    && !(e.b 18 35 && e.b 19 35 && e.v 18 ≥ e.v 19)
    && (let lead := (e.stype == 2 || e.stype == 6) && e.wires == 0
        !lead || (match coef? (e.getD 20 0) with | none => false | some r => r ≥ 0))
    && !(e.readsSource && e.f 16 35 34 == 1 &&
        (let x := e.f 16 33 22; !(x ≤ 0o177 || (0o300 ≤ x && x ≤ 0o317)) || x == n)))

end Sys2Proof.Machine
end

