-- ==== Sys2Proof/Machine/Field.lean ====
section
/-! DEFINITION. The field islands (chapters 3, 4 and 5): the words and comparator bits they present, conversions, scan
lists, self-checks, temperature sources. -/
namespace Sys2Proof.Machine

open Sys2Proof

def State.chanOf (s : State) (n : Nat) : ChanS := s.chan.getD n ChanS.fresh
def State.setChan (s : State) (n : Nat) (c : ChanS) : State := { s with chan := s.chan.set n c }
def State.islOf (s : State) (k : Nat) : IslS := s.isl.getD k IslS.fresh
def State.setIsl (s : State) (k : Nat) (i : IslS) : State := { s with isl := s.isl.set k i }

/-- The cached copy of a point: 0–127 channels, 128–143 loop outputs, 144–175 discrete points, 176–183 speed inputs. -/
def State.cacheOf (s : State) (p : Nat) : PtCache := s.cache.getD p ⟨[], 0, false, false, false⟩
def State.setCache (s : State) (p : Nat) (c : PtCache) : State := { s with cache := s.cache.set p c }

/-- The adopted entry of a point; empty while EMPTY. -/
def State.entry (s : State) (p : Nat) : Entry := (s.cacheOf p).words

/-- The point is adopted with EN = 1. -/
def State.enabled (s : State) (p : Nat) : Bool := !(s.entry p).isEmpty && (s.entry p).en

/-- Base register address of field island k. -/
abbrev fiOf (n : Nat) : Nat := n / 8

/-! ### The word of a channel (R100, R101) -/

/-- Whether the channel belongs to a list that runs (R101). -/
def State.inActiveList (s : State) (n : Nat) : Bool :=
  (List.range 8).any (fun i => bit ((s.entry n).f 0 17 10) i && s.get (FI_SLCFG.MODE (fiOf n) i) != 0)

/-- The word of a channel, with or without the substitute of step 5 (R100): the lattice and the limit tests see it
without. `e` is the entry its words are formed under. -/
def State.chanWordBy (s : State) (n : Nat) (e : Entry) (sub : Bool) : Word :=
  let c := s.cacheOf n
  let now := s.entry n
  let st := s.chanOf n
  if c.forced then qword 1 (now.f 6 31 0)
  else if now.isEmpty then (if c.q14 then qword 14 0 else noValue)
  else if !now.en then qword 13 0
  else if c.q14 then qword 14 ((st.res.map (fun w => fld w 31 0)).getD 0)
  else if !s.inActiveList n then qword 13 0
  else
    match st.res with
    | none => noValue
    | some w =>
      if sub && e.b 9 35 && qBad (qOf w) then qword 1 (e.f 9 31 0)
      else if st.stale && qOf w ≤ 6 then qword 4 (fld w 31 0)
      else w

/-- The word of a channel under its adopted entry. -/
def State.chanWord (s : State) (n : Nat) (sub : Bool) : Word := s.chanWordBy n (s.entry n) sub

/-- The word of a mirror index as the lattice sees it (R100, R183). -/
def State.latticeWord (s : State) (i : Nat) : Word := if i < 128 then s.chanWord i false else s.mirror i

/-- The precise limit bits of a word against an entry, from their last state (R118). -/
def limitBits (e : Entry) (w : Word) (hi lo : Bool) : Bool × Bool :=
  let bad := qBad (qOf w)
  let v := vOf w
  let h := e.v 8
  let one := fun (en last up down : Bool) => if !en then false else if bad then last else if up then true else if down then false else last
  (one (e.b 4 35) hi (v > e.v 4) (v < e.v 4 - h), one (e.b 5 35) lo (v < e.v 5) (v > e.v 5 + h))

/-- SRC of a loop entry (R87). -/
def loopSrc (e : Entry) : Nat := e.f 0 21 10

/-- The loop island sees every write of a mirror word named by an adopted SRC, after the adoption beat (R273). -/
def State.loopSees (s : State) (i : Nat) : State :=
  { s with lo := s.lo.map (fun p =>
      if !(s.entry (128 + p.1)).isEmpty && loopSrc (s.entry (128 + p.1)) == i && p.2.adoptAt < s.t.run then (p.1, { p.2 with seen := true })
      else p) }

/-- Write a mirror word an island owns; the lattice sees `seen` of it from the next phase 2 on (R179). -/
def State.publishAs (s : State) (i : Nat) (w seen : Word) : State :=
  let s := (s.writeMirror i w).loopSees i
  { s with bl := { s.bl with written := s.bl.written.set i seen } }

def State.publish (s : State) (i : Nat) (w : Word) : State := s.publishAs i w w

/-- Rewrite a channel's mirror word and evaluate its precise limits (R100, R118), under an entry: that of the conversion written
(R97), else the adopted one. -/
def State.writeChan (s : State) (n : Nat) (e : Entry) : State :=
  let k := fiOf n
  let j := n % 8
  let s := s.publishAs n (s.chanWordBy n e true) (s.chanWordBy n e false)
  let (h, l) := limitBits e (s.chanWordBy n e false) (s.bitOf (FI_LBITS.LHI k) j) (s.bitOf (FI_LBITS.LLO k) j)
  (s.putBit (FI_LBITS.LHI k) j h).putBit (FI_LBITS.LLO k) j l

def State.refreshChan (s : State) (n : Nat) : State := s.writeChan n (s.entry n)

/-- Rewrite the channels of an island whose words have come to differ from what stood before. -/
def State.refreshIsland (s : State) (k : Nat) (old : List Word) : State :=
  (List.range 8).foldl (fun (s : State) (j : Nat) =>
    if s.chanWord (8 * k + j) false == old.getD j 0 then s else s.refreshChan (8 * k + j)) s

/-- The words of an island's channels, as the lattice sees them. -/
def State.islandWords (s : State) (k : Nat) : List Word := (List.range 8).map (fun j => s.chanWord (8 * k + j) false)

/-! ### Comparator bits (R126, R134, R135) -/

/-- Bits in the CFAIL state (R85). -/
def cfailBits (code : Nat) (heldH heldL : Bool) : Bool × Bool :=
  match code with | 0 => (false, false) | 1 => (true, true) | _ => (heldH, heldL)

/-- The comparator bits a channel presents: a force with FCEN, CFAIL while disabled, uncached or diagnosed with OWCF,
otherwise its accepted bits. -/
def State.compBits (s : State) (n : Nat) : Bool × Bool :=
  let c := s.cacheOf n
  let e := s.entry n
  let st := s.chanOf n
  if e.isEmpty then (false, false)
  else if c.forced && e.b 7 34 then (e.b 7 33, e.b 7 32)
  else if !e.en || (st.owPres && s.bitOf (FI_CCTL.OWCF (fiOf n)) (n % 8)) then cfailBits (e.f 3 5 4) st.heldH st.heldL
  else (st.accH, st.accL)

/-- Present a channel's comparator bits, and keep the bits CFAIL holds. -/
def State.presentComp (s : State) (n : Nat) : State :=
  let k := fiOf n
  let j := n % 8
  let (h, l) := s.compBits n
  let e := s.entry n
  let st := s.chanOf n
  let normal := !e.isEmpty && e.en && !(st.owPres && s.bitOf (FI_CCTL.OWCF k) j)
  let s := if normal then s.setChan n { st with heldH := h, heldL := l } else s
  if s.bitOf (FI_CBITS.HACC k) j == h && s.bitOf (FI_CBITS.LACC k) j == l then s
  else (s.putBit (FI_CBITS.HACC k) j h).putBit (FI_CBITS.LACC k) j l

/-- The threshold code a comparator DAC is driven with: the code of R134 less its DACj, rounded; an offset with E = 255 is not used
(R584, R585). -/
def dacCode (c : Nat) (trim : Word) : Int := roundRat ((c : Rat) - (offTrim trim).1)

/-- The level a code stands for, in 2⁻²³ FS (R134), as the DAC's own offset, its trim DACj, brings it about (log entry 33). -/
def dacLevel (code : Rat) (trim : Word) : Rat := (code + (offTrim trim).1) * 4096 - 8388608

/-- Hysteresis in codes (R86, R134). -/
def Entry.chys (e : Entry) : Nat := orElse (e.f 11 31 24) (e.f 3 11 8)

/-- Factory section of an island and record of a channel, in the bank in effect (R155, R158, R159). -/
def State.factory (s : State) (k : Nat) : List Word := (List.range 64).map (fun i => s.cal.cur.read (fun _ => 0) (0o100 + k * 64 + i))
def State.calRec (s : State) (n : Nat) : List Word :=
  if s.cal.uncal then [] else (List.range 32).map (fun i => s.cal.cur.read (fun _ => 0) (0o3000 + n * 32 + i))

/-- Output of the high comparator of an entry at an input level, from its last output (R134). -/
def Entry.highOut (e : Entry) (trim : Word) (x : Rat) (last : Bool) : Bool :=
  let c : Rat := dacCode (e.f 3 35 24) trim
  if !e.en || !e.b 3 7 then false
  else if x > dacLevel c trim then true else if x < dacLevel (c - e.chys) trim then false else last

/-- Output of the low comparator. -/
def Entry.lowOut (e : Entry) (trim : Word) (x : Rat) (last : Bool) : Bool :=
  let c : Rat := dacCode (e.f 3 23 12) trim
  if !e.en || !e.b 3 6 then false
  else if x < dacLevel c trim then true else if x > dacLevel (c + e.chys) trim then false else last

/-- The next sample of the comparators, counted in phases: the start of the phase whose wave enters next (R135). -/
def State.sampleNo (s : State) : Nat := 4 * s.t.run + s.t.phase

/-- Raw outputs of a channel's comparators as they come to stand: a change begins its CDEB count again (R135). -/
def State.setRaw (s : State) (n : Nat) (h l : Bool) : State :=
  let k := fiOf n
  let j := n % 8
  let st := s.chanOf n
  let seen := fun (was new acc : Bool) (at_ : Option Nat) =>
    if new == acc then none else if was == new && at_.isSome then at_ else some s.sampleNo
  let st := { st with
    seenH := seen (s.bitOf (FI_CBITS.HRAW k) j) h st.accH st.seenH
    seenL := seen (s.bitOf (FI_CBITS.LRAW k) j) l st.accL st.seenL }
  ((s.putBit (FI_CBITS.HRAW k) j h).putBit (FI_CBITS.LRAW k) j l).setChan n st

/-- The comparators of a channel compare its input level, where one has been seen; without one only a disabled comparator is
known to read de-asserted. -/
def State.compare (s : State) (n : Nat) : State :=
  let e := s.entry n
  let k := fiOf n
  let j := n % 8
  let f := s.factory k
  let h := s.bitOf (FI_CBITS.HRAW k) j
  let l := s.bitOf (FI_CBITS.LRAW k) j
  match (s.chanOf n).level with
  | some x => s.setRaw n (e.highOut (f.getD (23 + 2 * j) 0) x h) (e.lowOut (f.getD (24 + 2 * j) 0) x l)
  | none => s.setRaw n (h && e.en && e.b 3 7) (l && e.en && e.b 3 6)

/-- The input of an enabled channel comes to stand at a level, in 2⁻²³ FS. -/
def State.crossing (s : State) (n : Nat) (x : Int) : State :=
  if !s.enabled n || !s.alive (fiOf n) then s
  else ({ s with chan := s.chan.set n { s.chanOf n with level := some x } } : State).compare n

/-- A change seen in CDEB + 1 consecutive samples by the sample now due is accepted and presented (R135). -/
def State.acceptComp (s : State) (n : Nat) (high : Bool) : State :=
  let e := s.entry n
  let k := fiOf n
  let j := n % 8
  let st := s.chanOf n
  match (if high then st.seenH else st.seenL) with
  | none => s
  | some at_ =>
    if s.sampleNo < at_ + e.f 11 35 32 || !s.alive k then s
    else
      let s :=
        if high then (s.setChan n { st with accH := s.bitOf (FI_CBITS.HRAW k) j, seenH := none }).putBit (FI_CEVT.HEVT k) j true
        else (s.setChan n { st with accL := s.bitOf (FI_CBITS.LRAW k) j, seenL := none }).putBit (FI_CEVT.LEVT k) j true
      s.presentComp n

/-- Every change due at this sample is accepted. -/
def State.sampleComps (s : State) : State :=
  ((s.chan.filter (fun p => p.2.seenH.isSome || p.2.seenL.isSome)).map (·.1)).foldl
    (fun (s : State) (n : Nat) => (s.acceptComp n true).acceptComp n false) s

/-- The input comes to stand at a level given by sign and magnitude, in 2⁻²³ FS. -/
def execComparatorCrossing (ch : Fin 128) (neg : Bool) (mag : BitVec 24) (s : State) : Host.Outcome State Fault Refusal :=
  act s (fun s => s.crossing ch.val (if neg then -mag.toNat else mag.toNat))

def execComparatorAccept (ch : Fin 128) (high : Bool) (s : State) : Host.Outcome State Fault Refusal :=
  act s (fun s => s.acceptComp ch.val high)

/-! ### Scan lists (R127 to R133) -/

/-- A channel can be converted: adopted with EN = 1 (R128). -/
def State.convertible (s : State) (k j : Nat) : Bool := s.enabled (8 * k + j)

/-- Members of a list, ascending (R128). -/
def State.members (s : State) (k n : Nat) : List Nat :=
  (List.range 8).filter (fun j => bit ((s.entry (8 * k + j)).f 0 17 10) n)

/-- LAYDIV in force (R85). -/
def State.layDiv (s : State) (n : Nat) : Nat := orElse ((s.entry n).f 2 23 16) 10

/-- Count a pass for the members it includes, in LAY-UP (R128). -/
def State.countLay (s : State) (k : Nat) (ms : List Nat) : State :=
  if s.mode == 1 then ms.foldl (fun s j => let c := s.chanOf (8 * k + j); s.setChan (8 * k + j) { c with lay := c.lay + 1 }) s else s

/-- The open-wire test of the channel's next conversion is due (R122). OWDIAG counts from the adoption of the entry, and the last
diagnosis is the quality R116 gave last, Q = 12 included (log entry 33). -/
def State.testDue (s : State) (n : Nat) : Bool :=
  let e := s.entry n
  let c := s.chanOf n
  let d := orElse (e.f 2 15 8) 16
  e.testable && d != 255 && ((c.convs + 1) % d == 0 || c.diag == 8)

/-- Begin the conversion cycle of channel j of a pass of list n (R115). -/
def State.beginConv (s : State) (k n j : Nat) (rest : List Nat) : State :=
  let c := 8 * k + j
  let e := s.entry c
  let test := s.testDue c
  let i := s.islOf k
  s.setIsl k
    { i with
      passList := some n, passLeft := rest
      conv := some ⟨n, j, e, s.calRec c, s.factory k, s.cal.uncal, test, s.t.run, e.convLen (s.get (FI_CFG.MAINS k)) test, none⟩ }

/-- The next list to run: the lowest pending one, else a continuous list allowed to run, in turn (R127, R132). -/
def State.nextList (s : State) (k : Nat) : Option Nat :=
  match (List.range 8).find? (fun n => s.flag (FI_SLST.PEND k n) && 2 ≤ s.get (FI_SLCFG.MODE k n)) with
  | some n => some n
  | none =>
    let i := s.islOf k
    ((List.range 8).map (fun d => (i.conted + 1 + d) % 8)).find?
      (fun n => s.get (FI_SLCFG.MODE k n) == 1 && !bit i.idleWait n)

/-- Start the next pass of an island. One that converts nothing ends where it began; the next is chosen at phase 0 of the next
beat (R128, R132, R133). -/
def State.startPass (s : State) (k : Nat) : State :=
  match s.nextList k with
  | none => s
  | some n =>
    let s := (s.putB (FI_SLST.PEND k n) false).putB (FI_SLST.RUN k n) true
    let ms := s.members k n
    let can := ms.filter (fun j => s.convertible k j && (s.mode != 1 || (s.chanOf (8 * k + j)).lay % s.layDiv (8 * k + j) == 0))
    let s := s.countLay k ms
    let cont := s.get (FI_SLCFG.MODE k n) == 1
    let i := s.islOf k
    let wait := cont && (can.isEmpty || s.mode == 1)
    let mask := if wait then setBit (setBit i.idleWait n true) (8 + n) (!can.isEmpty) else i.idleWait
    let s := s.setIsl k { i with conted := if cont then n else i.conted, idleWait := mask, wrote := false }
    match can with
    | j :: r => s.beginConv k n j r
    | [] => (s.putB (FI_SLST.RUN k n) false).incMod (FI_SLST.PASSES k n)

/-- Phase 0 of a beat at the converter of an island: the next cycle of the pass in progress, or the next pass (R115, R133). -/
def State.converterBeat (s : State) (k : Nat) : State :=
  let i := s.islOf k
  if i.conv.isSome then s
  else
    match i.passList, i.passLeft with
    | some n, j :: r => s.beginConv k n j r
    | _, _ => s.startPass k

/-- A trigger at phase 0 that finds the converter idle begins its pass there; any other waits for phase 0 of the next beat (R133). -/
def State.idleStart (s : State) (k : Nat) : State :=
  let i := s.islOf k
  if s.alive k && s.t.phase == 0 && i.conv.isNone && i.passList.isNone then s.startPass k else s

/-- A trigger for list n of island k (R130, R131). -/
def State.scanPend (s : State) (k n : Nat) : State :=
  if s.get (FI_SLCFG.MODE k n) < 2 then s
  else if s.flag (FI_SLST.PEND k n) then (s.inc (FI_SLST.DROPS k n)).putB (FI_SLST.OVR k n) true
  else if s.flag (FI_SLST.RUN k n) then (s.putB (FI_SLST.PEND k n) true).putB (FI_SLST.OVR k n) true
  else s.putB (FI_SLST.PEND k n) true

def State.scanTrigger (s : State) (k n : Nat) : State := if s.alive k then (s.scanPend k n).idleStart k else s

/-- End of the pass in progress: PASSES, PASS made even, the list idle (R102, R132). -/
def State.endPass (s : State) (k n : Nat) : State :=
  let i := s.islOf k
  let s := if i.wrote then s.incMod (FI_PASS.PASS k) else s
  let s := s.setIsl k { i with conv := none, passList := none, passLeft := [], wrote := false }
  (s.putB (FI_SLST.RUN k n) false).incMod (FI_SLST.PASSES k n)

/-- Drop channel j from the conversion and the pass in progress (R97: EN from 1 to 0); the pass goes on with its next member at the
next beat, or ends (log entry 33). -/
def State.dropChan (s : State) (k j : Nat) : State :=
  let i := s.islOf k
  let left := i.passLeft.filter (· != j)
  let hit := match i.conv with | some c => c.ch == j | none => false
  let s := s.setIsl k { i with passLeft := left, conv := if hit then none else i.conv }
  match i.passList with
  | some n => if left.isEmpty && (hit || i.conv.isNone) then s.endPass k n else s
  | none => s

/-- Lists named by a mask receive a host trigger when THOST = 1 (R130). -/
def State.strig (s : State) (k mask : Nat) : State :=
  if !s.alive k then s
  else ((setIdx mask 8).foldl (fun s n => if s.flag (FI_SLCFG.THOST k n) then s.scanPend k n else s) s).idleStart k

def execFiStrigWrite (k : Fin 16) (mask : BitVec 8) (s : State) : Host.Outcome State Fault Refusal :=
  act s (fun s => (s.consume (FI_STRIG k.val) (W mask.toNat)).strig k.val mask.toNat)

/-- The period timer of list n ticks in this beat: a beat whose µs count is a multiple of the period (R130). -/
def State.periodDue (s : State) (k n : Nat) : Bool :=
  s.get (FI_SLCFG.MODE k n) == 2 && s.micros % (orElse (s.get (FI_SLCFG.PERIOD k n)) 1000 * 1000) == 0
    && !bit (s.islOf k).ticked n && s.alive k

/-- The tick triggers the list. -/
def State.periodTick (s : State) (k n : Nat) : State :=
  if !s.periodDue k n then s
  else (s.setIsl k { s.islOf k with ticked := setBit (s.islOf k).ticked n true }).scanTrigger k n

def execScanPeriodTick (k : Fin 16) (n : Fin 8) (s : State) : Host.Outcome State Fault Refusal :=
  act s (fun s => s.periodTick k.val n.val)

/-! ### Temperature sources (R152, R153) -/

/-- THOLD in force (R145). -/
def thold (e : Entry) : Nat := orElse (e.f 16 21 12) 60

/-- The mirror word that an entry of channel n takes its temperature from (R145). -/
def sourceIdx (n : Nat) (e : Entry) : Option Nat :=
  match e.f 16 35 34 with | 0 => some (0o300 + fiOf n) | 1 => some (e.f 16 33 22) | _ => none

/-- A live source word, its value and quality; none where it counts as bad (R152). -/
def State.liveSource (s : State) (n : Nat) (e : Entry) : Option (Int × Nat) :=
  let ofWord := fun (w : Word) => if qBad (qOf w) then none else some (vOf w, qOf w)
  match e.f 16 35 34 with
  | 0 => ofWord (s.mirror (0o300 + fiOf n))
  | 1 =>
    let x := e.f 16 33 22
    if 0o300 ≤ x then ofWord (s.mirror x)
    else if !(s.entry x).isEmpty && (s.entry x).uclass == 0 then ofWord (s.mirror x)
    else none
  | _ => some (e.v 17, 0)

/-- The channel's source value has been held for THOLD rounds; they count from the last usable reading (R153; log entry 33). -/
def State.holdOver (s : State) (n : Nat) (e : Entry) : Bool :=
  match (s.chanOf n).src with | some (_, r) => s.since r ≥ thold e * 1000000 | none => false

/-- The temperature source of a conversion from the word sampled for it, and the channel with the value it holds from now on (R152,
R153). -/
def State.sourceFor (s : State) (n : Nat) (e : Entry) (live : Option (Int × Nat)) : Source × ChanS :=
  let c := s.chanOf n
  let kel : Int → Rat := fun v => (v : Rat) / 65536
  let inRange : Int → Bool := fun v =>
    !(8 ≤ e.curve && e.curve ≤ 17) ||
      (let r := tcRange e.curve; r.1 ≤ kel v - 27315 / 100 && kel v - 27315 / 100 ≤ r.2)
  let held : Source :=
    match c.src with
    | some (h, _) => if c.srcOut || s.holdOver n e then none else some (kel h, true, none)
    | none => none
  match live with
  | some (v, q) =>
    if inRange v then (some (kel v, false, if q ≥ 4 then some q else none), { c with src := some (v, s.t.run), srcOut := false })
    else (held, c)
  | none => (held, c)

/-- THOLD runs out on a channel whose source is still not usable. -/
def State.sourceOut (s : State) (n : Nat) : State :=
  let e := s.entry n
  if e.readsSource && (s.liveSource n e).isNone && s.holdOver n e && !(s.chanOf n).srcOut then
    s.setChan n { s.chanOf n with srcOut := true }
  else s

def execSourceHoldExpiry (ch : Fin 128) (s : State) : Host.Outcome State Fault Refusal := act s (fun s => s.sourceOut ch.val)

/-! ### Conversions (R115 to R118, R124, R125) -/

/-- Open and short conditions of R124, from what the test window and the conversion found: the test current's threshold reached,
the source at compliance, the transmitter supply at its limit, V(EP − EN) below 10 mV. -/
def diagnose (e : Entry) (txp : Bool) (tested testOpen compliance supplyLimit low : Bool) (sig : Rat) : Nat :=
  let win := tested && testOpen
  match e.stype with
  | 1 | 3 => if win then 8 else 0
  | 2 => if compliance || (win && (e.wires == 1 || e.wires == 2)) then 8 else if sig < e.rnom / 10 then 9 else 0
  | 5 => if txp && sig < 1 / 1000 then 8 else if txp && supplyLimit then 9 else 0
  | 6 =>
    if e.wires == 0 then (if compliance then 8 else if sig < fsOf 6 0 e.pga e.inom / 100 then 9 else 0)
    else if compliance || win then 8
    else if low then 9 else 0
  | _ => 0

/-- A self-check of the island fails for the channel (R120). -/
def State.checkFails (s : State) (k j : Nat) (e : Entry) : Bool :=
  s.flag (FI_SCHK.REF k) || s.flag (FI_SCHK.ZERO k) || bit (s.islOf k).gainBad e.gain || s.bitOf (FI_SCHK.EXCCH k) j

/-- Fold a conversion's signal into a running capture of the channel (R162). -/
def State.feedCapture (s : State) (n diag : Nat) (sig : Rat) (e : Entry) : State :=
  match s.cal.capture with
  | some c =>
    if c.ch == n && c.n < orElse (s.get CAL_NAVG.NAVG) 16 then
      if diag != 0 then
        ((({ s with cal := { s.cal with capture := none } }).put CAL_CSTAT.RESULT 4).putB CAL_CSTAT.RUN false).raise HST_ISRC.CAL
      else
        ({ s with cal := { s.cal with capture := some { c with n := c.n + 1, sum := c.sum + sig, stype := e.stype, gain := e.gain } } }).put
          CAL_CSTAT.DONE (c.n + 1)
    else s
  | none => s

/-- The completion step samples the temperature source of the conversion at its start (R152). -/
def State.sampleSource (s : State) (k : Nat) : State :=
  match (s.islOf k).conv with
  | none => s
  | some c =>
    let n := 8 * k + c.ch
    if !Entry.readsSource c.ent || c.src.isSome || s.t.run + 40 < c.start + c.len then s
    else
      let live := s.liveSource n c.ent
      let s := match sourceIdx n c.ent with | some x => s.mirrorFetch k x | none => s
      s.setIsl k { s.islOf k with conv := some { c with src := some live } }

/-- The result of a conversion from its raw results (R116, R117, R124, R140, R154): the diagnosed quality, the raw result for the
register, whether the connection is open or short, the signal, and the channel with its new word. -/
def State.result (s : State) (k : Nat) (c : Conv) (r1 r2 : Int) (parity testOpen compliance : Bool) (found : Terminals) :
    Nat × Int × Rat × ChanS :=
  let n := 8 * k + c.ch
  let e : Entry := c.ent
  let raw := if e.meas == 2 then roundRat (((r1 : Rat) + r2) / 2) else r1
  let (sig, q5) := stage1 e c.factory r1 r2
  let d0 := diagnose e (e.txSupply (s.bitOf (FI_TXPWR.MASK k) c.ch)) c.test testOpen compliance found.supplyLimit found.low sig
  let diag :=
    if parity || s.checkFails k c.ch e then 12
    else if d0 != 0 then d0
    else satQuality raw r2 (e.stype == 6 && e.wires != 0)
  let (src, ch) := if e.readsSource then s.sourceFor n e (c.src.getD (s.liveSource n e)) else (none, s.chanOf n)
  let (q, x) := finishResult e c.calRec (s.flag CAL_CFG.DUEQ) s.ts0 diag sig (q5 || c.uncal) src
  let tau := e.f 2 7 0
  let (v, damp) : Int × Option (Int × Nat) :=
    if qBad q then (x, none)
    else
      match ch.damp with
      | some (y, t) => if tau == 0 then (x, some (x, s.t.run)) else (let y' := dampStep y x tau (s.since t); (y', some (y', s.t.run)))
      | none => (x, some (x, s.t.run))
  (diag, raw, sig,
    { ch with
      res := some (qword q (unsign 32 v)), stale := false, renewAt := s.t.run, damp := damp, convs := ch.convs + 1, diag := diag
      owBad := d0 == 8 || d0 == 9, lead := if e.meas == 2 then !ch.lead else ch.lead })

/-- The conversion in progress of island k completes with these raw results (R115 to R118): its cycle has run, and phase 2 of its
last beat has come. -/
def State.complete (s : State) (k : Nat) (r1 r2 : Int) (parity testOpen compliance : Bool) (found : Terminals) : State :=
  let s := s.sampleSource k
  match (s.islOf k).conv with
  | none => s
  | some c =>
    if s.t.run + 1 < c.start + c.len || (s.t.run + 1 == c.start + c.len && s.ph < 2) then s
    else
      let n := 8 * k + c.ch
      let (diag, raw, sig, ch) := s.result k c r1 r2 parity testOpen compliance found
      let s := s.setChan n ch
      let s := (s.put (FI_RAW.DQ k c.ch) diag).put (FI_RAW.RAW k c.ch) (unsign 24 raw)
      let s := s.putB (FI_SCHK.PAR k) parity
      let s := s.record ⟨5, 2, n, [s.reg (FI_RAW k c.ch)]⟩
      let s := (s.writeChan n c.ent).feedCapture n diag sig c.ent
      let i := s.islOf k
      let s := if i.wrote then s else s.incMod (FI_PASS.PASS k)
      let s := s.setIsl k { i with conv := none, wrote := true }
      if i.passLeft.isEmpty then s.endPass k c.list else s

def execConversionComplete (k : Fin 16) (r1 r2 : BitVec 24) (parity testOpen compliance : Bool) (found : Terminals) (s : State) :
    Host.Outcome State Fault Refusal :=
  act s (fun s => if s.alive k.val then s.complete k.val r1.toInt r2.toInt parity testOpen compliance found else s)

/-- The stale time of a channel in beats: STALE, times LAYDIV in LAY-UP (R85, R101, R129). -/
def State.staleTime (s : State) (n : Nat) : Nat :=
  orElse ((s.entry n).f 2 35 24) 50 * 100000 * (if s.mode == 1 then s.layDiv n else 1)

/-- A channel's value has outlived its stale time (R101, R129): a good or uncertain value turns Q = 4. -/
def State.makeStale (s : State) (n : Nat) : State :=
  let c := s.chanOf n
  match c.res with
  | some w =>
    if s.enabled n && !qBad (qOf w) && !c.stale && s.since c.renewAt > s.staleTime n then
      (s.setChan n { c with stale := true }).refreshChan n
    else s
  | none => s

def execValueStale (ch : Fin 128) (s : State) : Host.Outcome State Fault Refusal := act s (fun s => s.makeStale ch.val)

/-! ### Auxiliary converter and self-checks (R119 to R121) -/

/-- The cold-junction word of an island, from the auxiliary converter's result (R119, R584, R585); with Q = 12 its value is 0 (log
entry 33). -/
def State.cjWord (s : State) (k : Nat) (raw : Int) : Word :=
  let f := s.factory k
  let o := offTrim (f.getD 21 0)
  let g := gainTrim (f.getD 22 0)
  let t := ((raw : Rat) / 2 ^ 23 * (5 / 2) - o.1) * g.1
  let v := roundRat (t * 65536)
  let v := if v > 2147483647 then 2147483647 else if v < -2147483648 then -2147483648 else v
  if s.flag (FI_SCHK.CJ k) then qword 12 0
  else qword (if o.2 || g.2 then 5 else 0) (unsign 32 v)

/-- The auxiliary converter writes the word at phase 2 of every 100,000th beat of a round, in LAY-UP of its first beat (R119). -/
def State.cjDue (s : State) : Bool := s.t.usec % (if s.mode == 1 then 1000000 else 100000) == 0 && 2 ≤ s.ph

def execCjMeasurement (k : Fin 16) (raw : BitVec 24) (s : State) : Host.Outcome State Fault Refusal :=
  act s (fun s =>
    if !s.alive k.val || !s.cjDue then s
    else (s.put (FI_CJRAW.RAW k.val) raw.toNat).publish (0o300 + k.val) (s.cjWord k.val raw.toInt))

/-- The channel an EXC turn checks: the lowest driving one at or after (ROUND div 5) mod 8, wrapping (R120). -/
def State.excTurn (s : State) (k : Nat) : Option Nat :=
  ((List.range 8).map (fun d => (s.t.round.toNat / 5 + d) % 8)).find? (fun j => (s.entry (8 * k + j)).excited)

/-- Rewrite SCHK.EXC from EXCCH. -/
def State.excSummary (s : State) (k : Nat) : State := s.putB (FI_SCHK.EXC k) (s.get (FI_SCHK.EXCCH k) != 0)

/-- The self-check of this round on island k, with its result (R120). -/
def State.selfCheck (s : State) (k : Nat) (fails : Bool) : State :=
  let s := if fails then s.inc (FI_SCHK.FAILS k) else s
  match s.t.round.toNat % 5 with
  | 0 => s.putB (FI_SCHK.REF k) fails
  | 1 => s.putB (FI_SCHK.ZERO k) fails
  | 2 =>
    let g := s.t.round.toNat / 5 % 8 + 1
    let i := s.islOf k
    let m := setBit i.gainBad g fails
    (s.setIsl k { i with gainBad := m }).putB (FI_SCHK.PGA k) (m != 0)
  | 3 =>
    match s.excTurn k with
    | some j => (s.putBit (FI_SCHK.EXCCH k) j fails).excSummary k
    | none => s
  | _ => s.putB (FI_SCHK.CJ k) fails

/-- Channels whose pair no longer drives read 0 in EXCCH (R120). -/
def State.excIdle (s : State) (k : Nat) : State :=
  ((List.range 8).foldl (fun s j => if (s.entry (8 * k + j)).excited then s else s.putBit (FI_SCHK.EXCCH k) j false) s).excSummary k

/-- The self-checks of a round: bit k of `fails` is the result of island k's turn. -/
def State.selfChecks (s : State) (fails : Nat) : State :=
  (List.range 16).foldl (fun s k => if s.alive k then
    (if s.t.round.toNat % 5 == 3 && (s.excTurn k).isNone then s.excIdle k else (s.selfCheck k (bit fails k)).excIdle k) else s) s

/-- Q = 12 in the words of a used field island that is not alive (R121). -/
def State.deadIslandWords (s : State) : State :=
  (List.range 16).foldl (fun s k =>
    if s.used k && !s.alive k then
      ((List.range 8).foldl (fun s j => s.publish (8 * k + j) (qword 12 0)) s).publish (0o300 + k) (qword 12 0)
    else s) s

/-! ### Strobes (R180) -/

/-- The lattice's input stage takes an island's comparator bits to be substituted, or its own again. -/
def State.strobesLost (s : State) (k : Nat) : State :=
  (s.setIsl k { (s.islOf k) with lost := true, quiet := 0 }).putBit BL_STAT.DEADISL k true
def State.strobesBack (s : State) (k : Nat) : State :=
  (s.setIsl k { (s.islOf k) with lost := false, quiet := 0 }).putBit BL_STAT.DEADISL k false

/-- The strobe of an island in a phase: an island without power sends none, and the second phase without one is the last before its
bits are substituted; with power again, the fourth with one is the last of them. A loss that came while it had power lasts until
its restoration is told. -/
def State.strobe (s : State) (k : Nat) : State :=
  let i := s.islOf k
  if !s.alive k then
    if i.lost then (if i.quiet == 2 then s else s.setIsl k { i with quiet := 2 })
    else if i.quiet == 0 then s.setIsl k { i with quiet := 1 }
    else let s := s.strobesLost k; s.setIsl k { s.islOf k with quiet := 2 }
  else if i.quiet == 0 then s
  else if i.lost && i.quiet < 5 then s.setIsl k { i with quiet := i.quiet + 1 }
  else if i.lost then s.strobesBack k
  else s.setIsl k { i with quiet := 0 }

def execFiStrobeLoss (k : Fin 16) (s : State) : Host.Outcome State Fault Refusal :=
  act s (fun s => s.strobesLost k.val)

def execFiStrobeRestore (k : Fin 16) (s : State) : Host.Outcome State Fault Refusal :=
  act s (fun s => if s.alive k.val then s.strobesBack k.val else s)

/-- The class 2 bits of a channel at the lattice's input stage (R180): while no strobe comes and none is substituted yet, the last
accepted ones (log entry 35). -/
def State.stageBits (s : State) (n : Nat) : Bool × Bool :=
  let c := s.chanOf n
  if (s.islOf (fiOf n)).lost then cfailBits c.cfail c.heldH c.heldL
  else if !s.alive (fiOf n) then (c.heldH, c.heldL)
  else (s.bitOf (FI_CBITS.HACC (fiOf n)) (n % 8), s.bitOf (FI_CBITS.LACC (fiOf n)) (n % 8))

/-- The island sends the CFAIL code of each channel to the input stage, 0 for one without a cached entry (R180). -/
def State.sendCfail (s : State) (k : Nat) : State :=
  (List.range 8).foldl (fun (s : State) (j : Nat) =>
    let n := 8 * k + j
    let code := (s.entry n).f 3 5 4
    if (s.chanOf n).cfail == code then s else s.setChan n { s.chanOf n with cfail := code }) s

/-! ### Adoption of a channel entry (R97, R103) -/

/-- What stands at the comparators' inputs is scaled as before under a new entry. -/
def sameScale (a b : Entry) : Bool := a.stype == b.stype && a.wires == b.wires && a.pga == b.pga && a.exc == b.exc

/-- What adopting a channel entry does beside replacing the cached copy `old` (R97, R100, R103, R180). OWDIAG counts again from here
(log entry 33). -/
def State.adoptChan (s : State) (n : Nat) (old : PtCache) (new : Entry) : State :=
  let k := fiOf n
  let was := !old.words.isEmpty && Entry.en old.words
  let c := s.chanOf n
  let c := { c with level := if was && sameScale old.words new then c.level else none }
  let s :=
    if new.en then
      if was then s.setChan n { c with damp := none, convs := 0, src := none, srcOut := false }
      else s.setChan n { c with res := none, stale := false, damp := none, convs := 0, diag := 0, owBad := false, owPres := false
                                src := none, srcOut := false }
    else (s.setChan n { c with res := none, stale := false, damp := none, owBad := false, owPres := false, diag := 0 }).dropChan k (n % 8)
  let s := ((s.compare n).presentComp n).sendCfail k
  let s := if was != new.en || old.words.isEmpty || old.forced || old.q14 || (s.cacheOf n).forced then s.refreshChan n else s
  -- a waiting continuous list that gains a convertible member starts at the next beat (R128)
  let gained := if !new.en then 0 else if was then new.f 0 17 10 &&& (255 ^^^ Entry.f old.words 0 17 10) else new.f 0 17 10
  let i := s.islOf k
  let may := gained &&& (255 ^^^ (i.idleWait / 256))
  if s.mode == 1 || gained == 0 then s else s.setIsl k { i with idleWait := i.idleWait &&& (65535 ^^^ may) }

/-! ### An island's beat -/

/-- Phase 0 of a beat at a field island: what the beat before diagnosed reaches the comparator bits (R126), the converter goes on
(R115, R133), the temperature source is sampled (R152). -/
def State.fieldBeat (s : State) (k : Nat) : State :=
  if !s.alive k then s
  else
    let i := s.islOf k
    let s := if i.ticked == 0 then s else s.setIsl k { i with ticked := 0 }
    let s := (List.range 8).foldl (fun (s : State) (j : Nat) =>
      let c := s.chanOf (8 * k + j)
      if c.owBad == c.owPres then s else (s.setChan (8 * k + j) { c with owPres := c.owBad }).presentComp (8 * k + j)) s
    (s.converterBeat k).sampleSource k

/-- What the time of a field island has brought by the end of a beat: period ticks, stale values, sources held too long. -/
def State.fieldSweep (s : State) : State :=
  let s := (List.range 16).foldl (fun (s : State) (k : Nat) =>
    if s.alive k then (List.range 8).foldl (fun (s : State) (n : Nat) => s.periodTick k n) s else s) s
  (s.chan.map (·.1)).foldl (fun (s : State) (n : Nat) => (s.makeStale n).sourceOut n) s

end Sys2Proof.Machine
end

