-- ==== Sys2Proof/Machine/Cells.lean ====
section
/-! DEFINITION. The cells of the Beryl lattice (chapter 6): entries, the checks on them, evaluation, delivered outputs, the
lattice state mirror. -/
namespace Sys2Proof.Machine

open Sys2Proof

/-! ### Entries (R177, R178, R182) -/

/-- Address of the entry of a cell. -/
def cellBase (c : Nat) : Nat := 0o01000000 + c * 64

/-- The configuration an entry of 64 words gives. -/
def parseCell (ws : List Word) : CellCfg :=
  let w := fun i => ws.getD i 0
  let nin := fld (w 0) 30 26
  { typ := fld (w 0) 35 31, nin := nin, init := wbit (w 0) 25, retain := wbit (w 0) 24
    p0 := w 1, p1 := w 2, p2 := w 12
    almen := wbit (w 3) 35, apt := fld (w 3) 34 25, recedge := fld (w 3) 24 23, rset := fld (w 3) 22 19
    txen := wbit (w 3) 18, priv := wbit (w 3) 17, txidx := fld (w 3) 16 5
    ins := (List.range (min nin 16)).map (fun i => if i % 2 == 0 then fld (w (4 + i / 2)) 35 18 else fld (w (4 + i / 2)) 17 0)
    cchk := fld (w 63) 7 0 }

/-- The timed length of a word, in waves (R182). -/
def timedLen (w : Word) : Nat :=
  fld w 33 10 * (match fld w 35 34 with | 0 => 1 | 1 => 4 | 2 => 4000 | _ => 400000)

/-- STARTH of a timed cell. -/
def CellCfg.starth (c : CellCfg) : Bool := wbit c.p0 9

/-- The number of inputs a type takes (R181). -/
def ninOk (typ nin : Nat) : Bool :=
  match typ with
  | 0 | 1 => nin == 0
  | 2 | 6 | 7 | 13 => nin == 1
  | 3 | 4 | 12 => 1 ≤ nin && nin ≤ 16
  | 5 => 2 ≤ nin && nin ≤ 16
  | 8 | 10 | 11 => nin == 2
  | 9 => 3 ≤ nin && nin ≤ 16
  | _ => true

/-- CLASS and INDEX of an input spec name a source (R179). -/
def specOk (x : Nat) : Bool :=
  let i := bits x 11 0
  match bits x 15 12 with
  | 0 => i ≤ 1
  | 1 | 6 | 12 | 13 => true
  | 2 | 3 => i ≤ 255
  | 4 => i ≤ 127
  | 5 => i ≤ 63 && i % 8 != 7
  | 7 => i ≤ 0o317
  | 8 => i ≤ 28
  | 9 | 10 => i ≤ 1023
  | 11 => i ≤ 63
  | _ => false

/-- A parameter R182 marks invalid. -/
def paramBad (c : CellCfg) : Bool :=
  match c.typ with
  | 1 => fld c.p0 35 34 ≥ 2 || fld c.p0 33 32 == 3 || fld c.p0 11 0 > 0o317 || wbit c.p2 31
  | 2 => fld c.p0 35 34 == 0
  | 5 => fld c.p0 4 0 == 0 || fld c.p0 4 0 > c.nin
  | 10 => fld c.p0 23 0 == 0
  | _ => false

/-- WHY 1 to 8 of a cell among all cells, 0 for none (R188); WHY 9 is CCHK. -/
def cellWhy (all : Tbl CellCfg) (k : Nat) (c : CellCfg) (cchkBad : Bool) : Nat :=
  let twin := fun (p : CellCfg → Bool) => p c && all.any (fun d => d.1 != k && p d.2)
  if c.typ ≥ 14 then 1
  else if !ninOk c.typ c.nin then 2
  else if c.ins.any (fun x => !specOk x) then 3
  else if c.ins.any (fun x => (bits x 15 12 == 1 || bits x 15 12 == 13) && bits x 11 0 / 256 ≥ k / 256) then 4
  else if paramBad c then 5
  else if twin (fun d => d.almen && d.apt == c.apt) then 6
  else if twin (fun d => d.txen && d.txidx == c.txidx) then 7
  else if twin (fun d => d.typ == 13 && fld d.p0 7 0 == fld c.p0 7 0) then 8
  else if cchkBad then 9
  else 0

/-- The 4096 configurations of entries given by address. -/
def parseLattice (rd : Nat → Word) : Tbl CellCfg :=
  (List.range 4096).map (fun k => (k, parseCell ((List.range 64).map (fun i => rd (cellBase k + i)))))

/-- CCHK of an entry, bits 31:0 of its last word, differs from the CRC-32C of its words 0 to 62 (R177, R188). -/
def cchkBad (rd : Nat → Word) (k : Nat) : Bool :=
  fld (rd (cellBase k + 63)) 31 0 != (crc32c ((List.range 63).map (fun i => rd (cellBase k + i))))

/-- The lowest-numbered failing cell and its lowest cause (R188). -/
def latticeFault (rd : Nat → Word) : Option (Nat × Nat) :=
  let all := parseLattice rd
  all.findSome? (fun p => let y := cellWhy all p.1 p.2 (cchkBad rd p.1); if y == 0 then none else some (p.1, y))

/-! ### Evaluation (R181 to R183) -/

/-- Inputs of a wave: input bits after NEG. -/
def nthIn (ins i : Nat) : Bool := bit ins i

/-- The threshold test of a word (R183). -/
def thrTest (c : CellCfg) (last : Bool) (w : Word) : Bool :=
  let v := vOf w
  let lim := signed 32 (fld c.p1 31 0)
  let hys := signed 32 (fld c.p2 31 0)
  if wbit w 35 then (match fld c.p0 33 32 with | 0 => false | 1 => true | _ => last)
  else if fld c.p0 35 34 == 0 then (if v > lim then true else if v < lim - hys then false else last)
  else (if v < lim then true else if v > lim + hys then false else last)

/-- Lowest candidate at 1 of a FIRSTOUT cell. -/
def candidate (nin ins : Nat) : Option Nat := (List.range (nin - 1)).find? (bit ins)

/-- Evaluate a cell in a wave: its inputs `ins`, the tested word of a THR cell, and the wave's number. The results are the
cell's own O and A. -/
def evalCell (c : CellCfg) (st : CellS) (ins : Nat) (word : Word) (wave : Nat) : (Bool × Bool) × CellS :=
  let prev := if st.first then ins else st.ins
  let n := ((List.range c.nin).filter (bit ins)).length
  let i0 := bit ins 0
  let i1 := bit ins 1
  let rise := i0 && !bit prev 0
  let fall := !i0 && bit prev 0
  let base := { st with first := false, ins := ins, n := n }
  let out := fun (o a : Bool) (s : CellS) => (((o, a), { s with own := o, ownA := a }) : (Bool × Bool) × CellS)
  match c.typ with
  | 1 =>
    let r := thrTest c st.res word
    out r (wbit word 35) { base with res := r }
  | 2 =>
    let kind := fld c.p0 35 34
    let edge := (kind != 2 && rise) || (2 ≤ kind && fall)
    if edge then out true false { base with timer := fld c.p0 23 0 }
    else if st.timer > 0 then out true false { base with timer := st.timer - 1 }
    else out false false base
  | 3 => out (n == c.nin) false base
  | 4 => out (n ≥ 1) false base
  | 5 => out (n ≥ fld c.p0 4 0) (0 < n && n < c.nin) base
  | 6 =>
    let len := timedLen c.p0
    if !i0 then out false false { base with timer := len }
    else if st.timer == 0 then out true false base
    else out false true { base with timer := st.timer - 1 }
  | 7 =>
    if i0 then out true false { base with timer := timedLen c.p0 }
    else if st.timer > 0 then out true true { base with timer := st.timer - 1 }
    else out false false base
  | 8 =>
    let o := if wbit c.p0 35 then i0 || (st.own && !i1) else !i1 && (i0 || st.own)
    out o (i0 && i1) base
  | 9 =>
    let rearm := bit ins (c.nin - 1)
    let cand := candidate c.nin ins
    match st.cap, cand with
    | none, some i => out true (((List.range (c.nin - 1)).filter (bit ins)).any (· != i)) { base with cap := some (i, wave) }
    | none, none => out false false base
    | some p, some _ => out true (((List.range (c.nin - 1)).filter (bit ins)).any (· != p.1)) base
    | some _, none => if rearm then out false false { base with cap := none } else out true false base
  | 10 =>
    let win := timedLen c.p1
    let k := fld c.p0 23 0
    let t := if st.first then 0 else st.timer + 1
    let c0 := if win != 0 && t ≥ win then 0 else st.cnt
    let cnt := if i1 then 0 else if rise then satAt 16777215 (c0 + 1) else c0
    let counted := !i1 && rise
    out (cnt ≥ k) (counted && c0 < k && cnt ≥ k)
      { base with cnt := cnt, timer := if counted then 0 else satAt (win + 1) t }
  | 11 =>
    let t := if i1 then timedLen c.p0 else st.timer
    let blocked := i1 || t > 0
    out (i0 && !blocked) blocked { base with timer := if i1 then t else t - 1 }
  | 12 => out (n ≥ 1) (!st.first && n > st.n) base
  | 13 => out i0 false base
  | _ => out false false base

/-- A cell's state before the first wave of a configuration, its delivered outputs held (R185, R186). -/
def freshCell (c : CellCfg) (held : Bool × Bool) : CellS :=
  { hist := List.replicate 17 held, own := c.typ == 8 && c.init, ownA := false, first := true, ins := 0, n := 0, cnt := 0
    timer :=
      match c.typ with
      | 6 => if c.starth then 0 else timedLen c.p0
      | 7 | 11 => if c.starth then timedLen c.p0 else 0
      | _ => 0
    cap := none, res := false }

/-! ### Delivered outputs (R174) -/

/-- The state of a cell; a cell without a configuration delivers 0, 0. -/
def State.cellOf (s : State) (c : Nat) : CellS := s.bl.cells.getD c (freshCell (parseCell []) (false, false))

/-- O and A as delivered at this moment. -/
def State.delivered (s : State) (c : Nat) : Bool × Bool := (s.cellOf c).hist.getD (c / 256) (false, false)
def State.outO (s : State) (c : Nat) : Bool := (s.delivered c).1
def State.outA (s : State) (c : Nat) : Bool := (s.delivered c).2

/-- The delivered O of the phase before this one. -/
def State.prevO (s : State) (c : Nat) : Bool := ((s.cellOf c).hist.getD (c / 256 + 1) (false, false)).1

/-- The force in effect on a cell: the lowest register that names it (R192). -/
def State.forceOf (s : State) (c : Nat) : Option (Bool × Bool) :=
  ((List.range 8).find? (fun n => s.flag (BL_CFORCE.EN n) && !s.flag (BL_CFORCE.IGN n) && s.get (BL_CFORCE.CELL n) == c)).map
    (fun n => (s.flag (BL_CFORCE.FO n), s.flag (BL_CFORCE.FA n)))

/-! ### The lattice state mirror (R195, R196) -/

/-- Address of a cell's mirror word. -/
def cellMirror (c : Nat) : Nat := 0o00500000 + c

/-- The state of a cell in the layout of R195. -/
def State.cellWord (s : State) (c : Nat) : Word :=
  let cf := s.bl.cfg.getD c (parseCell [])
  let st := s.cellOf c
  let o := s.delivered c
  let aux :=
    if cf.retain && (cf.typ == 8 || cf.typ == 10) then cf.cchk
    else if cf.typ == 3 || cf.typ == 4 || cf.typ == 5 || cf.typ == 12 then st.n
    else if cf.typ == 9 then (st.cap.map (·.1)).getD 0
    else 0
  let cnt :=
    match cf.typ with
    | 2 | 7 | 11 => st.timer
    | 6 => if bit st.ins 0 && !st.own then st.timer + 1 else 0
    | 10 => st.cnt
    | 9 => (st.cap.map (fun p => p.2 % 2 ^ 24)).getD 0
    | _ => 0
  W (o.1.toNat <<< 35 + o.2.toNat <<< 34 + (s.forceOf c).isSome.toNat <<< 33
    + (cf.retain && (cf.typ == 8 || cf.typ == 10)).toNat <<< 32 + aux % 256 <<< 24 + satAt 16777215 cnt)

/-- Write a cell's mirror word. -/
def State.mirrorCell (s : State) (c : Nat) : State := s.setSram (cellMirror c) (s.cellWord c)

/-- The mirror writes of a beat: RETAIN cells first, up to 32 cells that changed, then 64 words in rotation, which reaches the
other changes within 64 beats (R187, R196). Until a configuration runs the words stand, so that R187 finds them after a reset
(log entry 35). -/
def State.mirrorBeat (s : State) : State :=
  if !s.flag BL_STAT.RUN then s
  else
    let s := (s.bl.cfg.filter (fun p => p.2.retain)).foldl (fun s p => s.mirrorCell p.1) s
    let s := (s.bl.changed.take 32).foldl State.mirrorCell s
    let at_ := s.bl.mirAt
    let s := (List.range 64).foldl (fun s i => s.mirrorCell (at_ + i)) s
    { s with bl := { s.bl with mirAt := (at_ + 64) % 4096, changed := [] } }

/-! ### Switching over to a new configuration (R185 to R187) -/

/-- State a RETAIN cell takes from its own mirror word, when R187 lets it. -/
def State.retained (s : State) (k : Nat) (c : CellCfg) (st : CellS) : CellS :=
  let w := s.sramAt (cellMirror k)
  if c.retain && (c.typ == 8 || c.typ == 10) && !s.sramPoison (cellMirror k) && s.bl.oldTypes.getD k 0 == c.typ
      && fld w 31 24 == c.cchk && wbit w 32 then
    (if c.typ == 8 then { st with own := wbit w 35 } else { st with cnt := fld w 23 0 })
  else st

/-- A cell the lattice evaluates or whose entry someone reads; a NONE cell without outputs, alarm point or event is none. -/
def CellCfg.counts (c : CellCfg) (held : Bool × Bool) : Bool :=
  c.typ != 0 || held != (false, false) || c.almen || c.txen || c.recedge != 0 || c.retain

/-- Bring a configuration into effect: each cell holds what it delivered in the phase before, then its new results. -/
def State.switchOver (s : State) (cfg : Tbl CellCfg) : State :=
  let held := fun k => ((s.cellOf k).hist.getD (k / 256 + 1) (false, false))
  let keep := cfg.filter (fun p => p.2.counts (held p.1))
  let cells := keep.map (fun p => (p.1, s.retained p.1 p.2 (freshCell p.2 (held p.1))))
  let s := { s with bl := { s.bl with cfg := keep, cells := cells, shadow := none, parityBad := false, applyRound := some s.t.round } }
  ((s.putB BL_STAT.RUN true).putB BL_STAT.PEND false).put BL_STAT.NCELL (keep.filter (fun p => p.2.typ != 0)).length

/-- A NONE cell that a force names is evaluated like any other (R192). -/
def State.needCell (s : State) (c : Nat) : State :=
  if (s.bl.cfg.get? c).isSome || !s.flag BL_STAT.RUN then s
  else
    let cf := parseCell []
    { s with bl := { s.bl with cfg := s.bl.cfg.set c cf, cells := s.bl.cells.set c { freshCell cf (false, false) with first := false } } }

/-- Clear every cell force (R192). -/
def State.clearCellForces (s : State) : State :=
  (List.range 8).foldl (fun s n => (s.putB (BL_CFORCE.EN n) false).putB (BL_CFORCE.IGN n) false) s

end Sys2Proof.Machine
end

