-- ==== Sys2Proof/Machine/Discrete.lean ====
section
/-! DEFINITION. The discrete island (chapter 10): input filters, switches, trips, pulse-width modulation. -/
namespace Sys2Proof.Machine

open Sys2Proof

def State.dioOf (s : State) (n : Nat) : DioS := s.dio.getD n DioS.fresh
def State.setDio (s : State) (n : Nat) (d : DioS) : State := { s with dio := s.dio.set n d }

/-- Points that have a record, of the thirty-two. -/
def State.dioPoints (s : State) : List Nat := (s.dio.map (·.1)).filter (· < 32)

/-- The adopted entry of a discrete point. -/
def State.dioEnt (s : State) (n : Nat) : Entry := s.entry (144 + n)

def Entry.dir (e : Entry) : Bool := e.b 0 26
def Entry.inv (e : Entry) : Bool := e.b 0 25
def Entry.pwm (e : Entry) : Bool := e.b 0 24
/-- Input filter in samples, and quiet time that ends chatter (R88, R304, R306, R322). -/
def Entry.filtb (e : Entry) : Nat := orElse (e.f 1 35 20) 5000 * 4
def Entry.quiet (e : Entry) : Nat := orElse (e.f 9 35 32) 8 * e.filtb
/-- Overload current, mA, and overload time, beats (R322). -/
def Entry.itrip (e : Entry) : Nat := orElse (e.f 8 35 26) 600
def Entry.ovlt (e : Entry) : Nat := orElse (e.f 8 25 14) 100 * 1000
def Entry.chatn (e : Entry) : Nat := orElse (e.f 1 19 12) 8
def Entry.stuckt (e : Entry) : Nat := e.f 1 11 0
/-- Blanking in beats: BLANK × 10 µs, 0 selecting 10 ms (R88). -/
def Entry.blank (e : Entry) : Nat := orElse (e.f 2 35 20) 1000 * 10

def Entry.period (e : Entry) : Nat := e.f 3 35 18
def Entry.puduty (e : Entry) : Nat := e.f 3 17 0
def Entry.safeState (e : Entry) : Nat := e.f 4 23 22
def Entry.cmten (e : Entry) : Bool := e.b 8 13

/-- A filtered input: adopted with EN = 1, DIR = 0, after the first image apply (R303). -/
def State.isInput (s : State) (n : Nat) : Bool :=
  s.life.applied && !(s.dioEnt n).isEmpty && (s.dioEnt n).en && !(s.dioEnt n).dir

/-- An output in use: rows 2 to 8 of R309. -/
def State.isOutput (s : State) (n : Nat) : Bool :=
  s.life.applied && !(s.dioEnt n).isEmpty && (s.dioEnt n).en && (s.dioEnt n).dir

/-! ### Opal's stations (R237, R241) -/

/-- Opal in use: the adopted table has EN = 1. -/
def State.opalOn (s : State) : Bool := wbit (s.opl.cache.words.getD 0 0) 27

/-- Word 0 of a station's entry. -/
def State.station (s : State) (i : Nat) : Word := s.opl.cache.words.getD (144 + 8 * i) 0

/-- The used station that has a discrete point as its OUT. -/
def State.stationOf (s : State) (n : Nat) : Option Nat :=
  if !s.opalOn then none
  else (List.range 8).find? (fun i => fld (s.station i) 35 34 != 0 && wbit (s.station i) 33 && fld (s.station i) 32 28 == n)

/-! ### The commanded state (R309) -/

/-- Row 4 to 8 that applies, and the electrical state it commands, without the PWM gate; the heartbeat point of a driving unit
is commanded closed (R403). -/
def State.dioCommand (s : State) (n : Nat) : Nat × Bool :=
  let e := s.dioEnt n
  let d := s.dioOf n
  let hb := s.flag JL_CFG.HBEN && s.get JL_CFG.HBPT == n && s.drives
  if s.mode == 3 then (3, hb || (if e.safeState == 2 then d.held else e.safeState == 1))
  else if (s.cacheOf (144 + n)).forced then (4, hb || e.b 7 34 != e.inv)
  else if s.mode == 2 then (5, hb || d.held)
  else
    match s.stationOf n with
    | some i => (6, hb || bit s.opl.outs i != e.inv)
    | none => (7, hb || s.outO d.cell != e.inv)

/-- The commanded electrical state of an output in use. -/
def State.dioCmd (s : State) (n : Nat) : Bool := s.isOutput n && (s.dioCommand n).2

/-- The output is tripped. -/
def State.tripped (s : State) (n : Nat) : Bool := s.bitOf DIO_OFLT.TRIP n

/-- The logical state of a point: class 4 signal 0 and the value of its mirror word (R103, R308). -/
def State.dioLogical (s : State) (n : Nat) : Bool :=
  let e := s.dioEnt n
  if e.isEmpty || !e.en then false
  else if (s.cacheOf (144 + n)).forced then e.b 7 34
  else if e.dir then (s.isOutput n && (s.dioCmd n != e.inv)) else (s.dioOf n).acc

/-- Class 4 signal 3: a trip, OL or STB in force (R312, R313). -/
def State.dioFault (s : State) (n : Nat) : Bool := s.tripped n || (s.dioOf n).ol || (s.dioOf n).stb

/-- Class 4 signals of a point as they have come to stand (R179). -/
def State.dioLive (s : State) (n : Nat) : Nat :=
  (s.dioLogical n).toNat + 2 * (s.bitOf DIO_CHAT.CHAT n).toNat + 4 * (s.bitOf DIO_STUCK.STUCK n).toNat + 8 * (s.dioFault n).toNat

/-- Class 4 signals as presented: an accepted input at its sample, everything else from the phase after (R304 to R308, R312). -/
def State.dioSignal (s : State) (n sig : Nat) : Bool :=
  if sig == 0 && !(s.dioEnt n).dir then s.dioLogical n else bit (s.dioOf n).sigs sig

/-- At the end of a phase: what the next presents. -/
def State.dioSigs (s : State) : State :=
  s.dioPoints.foldl (fun (s : State) (n : Nat) =>
    let x := s.dioLive n
    if (s.dioOf n).sigs == x then s else s.setDio n { s.dioOf n with sigs := x }) s

/-- The mirror word of a point (R308). -/
def State.dioWord (s : State) (n : Nat) : Word :=
  let c := s.cacheOf (144 + n)
  let e := s.dioEnt n
  let v := (s.dioLogical n).toNat
  if c.forced then qword 1 v
  else if e.isEmpty then (if c.q14 then qword 14 0 else noValue)
  else if !e.en then qword 13 0
  else if c.q14 then qword 14 v
  else if !e.dir && s.bitOf DIO_CHAT.CHAT n then qword 2 v
  else if e.dir && s.dioFault n then qword 12 v
  else qword 0 v

/-- Ask for the mirror word at the next phase 2 (R304). -/
def State.dioDue (s : State) (n : Nat) : State := s.setDio n { s.dioOf n with due := true }

/-- Phase 2: the mirror words that are due (R304, R308). -/
def State.dioFlush (s : State) : State :=
  if !s.alive 17 then s
  else
    s.dioPoints.foldl (fun s n => if (s.dioOf n).due then (s.publish (0o220 + n) (s.dioWord n)).setDio n { s.dioOf n with due := false } else s) s

/-- FCAUSE when no trip stands (R313). -/
def State.dioCause (s : State) (n : Nat) : State :=
  if s.tripped n then s
  else s.put (DIO_PST.FCAUSE n) (if (s.dioOf n).ol then 6 else if (s.dioOf n).stb then 7 else 0)

/-- Outputs of a group in clamp (R326). -/
def State.dioClamps (s : State) (g : Nat) : State :=
  s.put (DIO_GST.NCLAMP g) ((List.range 8).filter (fun i => s.flag (DIO_PST.CLAMP (8 * g + i)))).length

/-- The row that applies, and what the switch does (R309, R310, R324). -/
def State.dioDrive (s : State) (n : Nat) : State :=
  let e := s.dioEnt n
  let d := s.dioOf n
  let out := s.isOutput n
  let (row, cmd) := s.dioCommand n
  let ost := if !out then 0 else if !s.drives then 1 else if s.tripped n then 2 else row
  let cmd := out && cmd
  let gated := e.pwm && (row == 7 || row == 5 || (row == 3 && e.safeState == 2))
  let close := ost ≥ 3 && cmd && (!gated || d.gate)
  let shown := cmd && !s.tripped n
  let moved := s.flag (DIO_PST.CMD n) != shown
  let s := (s.put (DIO_PST.OSTATE n) ost).putB (DIO_PST.CMD n) shown
  let cell := if cmd then d.cell else e.f 4 35 24
  let off := if cmd then none else some (d.cmdOff.getD s.t.run)
  let d := { d with cell := cell, due := d.due || (moved && out), cmdOff := off }
  if close && !d.sw then
    let train := e.pwm && (match d.openAt with | some t => s.since t < d.period | none => false)
    (s.setDio n { d with sw := true, openAt := none, blank := s.sampleNo + 4 * (if train then 20 else e.blank)
                         itrip := e.itrip, ovlt := e.ovlt, short := none }).putB (DIO_PST.BLNK n) true
  else if !close && d.sw then
    ((s.setDio n { d with sw := false, openAt := some s.t.run, short := none }).putB (DIO_PST.BLNK n) false).putB (DIO_PST.CLAMP n) false
      |>.dioClamps (n / 8)
  else s.setDio n d

/-- Every point's switch. -/
def State.dioDriveAll (s : State) : State := (List.range 32).foldl State.dioDrive s

/-- The points whose switch a delivered output, a mode or Opal can move. -/
def State.dioOutputs (s : State) : State :=
  s.dioPoints.foldl (fun s n => if s.isOutput n then s.dioDrive n else s) s

/-- Before the node enters SAFE or MAINTENANCE: what the last beat commanded is kept (R309, R321). -/
def State.dioHold (s : State) : State :=
  s.dioPoints.foldl (fun s n => s.setDio n { s.dioOf n with held := s.dioCmd n }) s

/-! ### Inputs (R303 to R307) -/

/-- Enter chatter (R305). -/
def State.enterChatter (s : State) (n : Nat) : State :=
  ((s.putBit DIO_CHAT.CHAT n true).inc (DIO_CNT.CHATS n)).dioDue n

/-- A raw change: the one before it is rejected when it was not accepted (R303, R305). -/
def State.rawChange (s : State) (n : Nat) (level : Bool) : State :=
  let d := s.dioOf n
  if d.raw == level then s
  else
    let s := s.setDio n { d with raw := level, open_ := s.isInput n, rawAt := s.sampleNo }
    if s.isInput n && d.open_ then
      let s := s.inc (DIO_PST.REJ n)
      if s.get (DIO_PST.REJ n) ≥ (s.dioEnt n).chatn && !s.bitOf DIO_CHAT.CHAT n then s.enterChatter n else s
    else s

/-- A level is accepted (R304, R307). -/
def State.dioAccept (s : State) (n : Nat) (v : Bool) : State :=
  let s := s.setDio n { s.dioOf n with acc := v, open_ := false, due := true, accAt := s.t.run }
  let s := (s.putBit DIO_EVT.EVT n true).put (DIO_PST.REJ n) 0
  if v then s else s.putBit DIO_STUCK.STUCK n false

/-- The raw level has been seen in 4 × FILTB samples, this one included (R304). -/
def State.dioSettled (s : State) (n : Nat) : State :=
  let d := s.dioOf n
  if !s.isInput n || s.bitOf DIO_CHAT.CHAT n || !d.open_ || s.sampleNo + 1 < d.rawAt + (s.dioEnt n).filtb then s
  else
    let v := d.raw != (s.dioEnt n).inv
    if v == d.acc then s.setDio n { d with open_ := false } else s.dioAccept n v

/-- The raw level has stood for CHCLR × FILTB beats in chatter (R306). -/
def State.chatterExit (s : State) (n : Nat) : State :=
  if !s.isInput n || !s.bitOf DIO_CHAT.CHAT n || s.sampleNo < (s.dioOf n).rawAt + (s.dioEnt n).quiet then s
  else
    let d := s.dioOf n
    let s := ((s.putBit DIO_CHAT.CHAT n false).put (DIO_PST.REJ n) 0).setDio n { d with open_ := false, due := true }
    let v := d.raw != (s.dioEnt n).inv
    if v == d.acc then s else s.dioAccept n v

def execDioRawChange (n : Fin 32) (level : Bool) (s : State) : Host.Outcome State Fault Refusal :=
  act s (fun s => if !s.life.applied || !s.alive 17 then s else s.rawChange n.val level)
def execDioInputAccept (n : Fin 32) (s : State) : Host.Outcome State Fault Refusal := act s (fun s => s.dioSettled n.val)

/-- The raw change whose rejection brings REJ to CHATN (R305). -/
def execDioChatterEntry (n : Fin 32) (s : State) : Host.Outcome State Fault Refusal :=
  act s (fun s =>
    if s.isInput n.val && (s.dioOf n.val).open_ && s.get (DIO_PST.REJ n.val) + 1 ≥ (s.dioEnt n.val).chatn then
      s.rawChange n.val (!(s.dioOf n.val).raw)
    else s)

def execDioChatterExit (n : Fin 32) (s : State) : Host.Outcome State Fault Refusal := act s (fun s => s.chatterExit n.val)

/-- The accepted state has been 1 for STUCKT × 1,000,000 beats (R307). -/
def State.stuck (s : State) (n : Nat) : State :=
  let d := s.dioOf n
  let k := (s.dioEnt n).stuckt
  if s.isInput n && k != 0 && d.acc && k * 1000000 ≤ s.since d.accAt then s.putBit DIO_STUCK.STUCK n true else s

def execDioStuckDetect (n : Fin 32) (s : State) : Host.Outcome State Fault Refusal := act s (fun s => s.stuck n.val)

/-! ### Outputs (R310 to R316) -/

/-- Trip an output (R312). -/
def State.dioTrip (s : State) (n cause : Nat) : State :=
  if !(s.dioOf n).sw then s
  else
    let s := ((s.putBit DIO_OFLT.TRIP n true).put (DIO_PST.FCAUSE n) cause).inc (DIO_CNT.TRIPS n)
    (s.dioDrive n).dioDue n

/-- Outputs of a group in short clamp for 100 beats or more. -/
def State.shorts (s : State) (g : Nat) : List Nat :=
  ((List.range 8).map (8 * g + ·)).filter (fun n => match (s.dioOf n).short with | some t => 100 ≤ s.since t | none => false)

/-- Two or more outputs of a group have been in short clamp at the same time for 100 beats: every one in short clamp is tripped (R312,
R314). -/
def State.groupTrip (s : State) (g : Nat) : State :=
  if (s.shorts g).length < 2 then s
  else
    let l := ((List.range 8).map (8 * g + ·)).filter (fun n => (s.dioOf n).short.isSome)
    (l.foldl (fun (s : State) (n : Nat) => s.dioTrip n 3) s).putB (DIO_GST.MULTI g) true

/-- A clamp has been in force for 20 beats after the blanking (R312). -/
def State.clampTrip (s : State) (n : Nat) : State :=
  if s.flag (DIO_PST.CLAMP n) && !s.flag (DIO_PST.BLNK n) && 20 ≤ s.since (s.dioOf n).clampAt then s.dioTrip n 4 else s

/-- A test of R312 is met: ABSI and ABSE at once, the others after their times; OVL with the switch current `ma` above ITRIP for `held`
beats, all after the blanking. -/
def State.tripTest (s : State) (n cause ma held : Nat) : State :=
  let d := s.dioOf n
  match cause with
  | 1 | 2 => s.dioTrip n cause
  | 3 => s.groupTrip (n / 8)
  | 4 => s.clampTrip n
  | 5 => if !s.flag (DIO_PST.BLNK n) && d.itrip < ma && d.ovlt ≤ held && d.blank + 4 * held ≤ s.sampleNo then s.dioTrip n 5 else s
  | _ => s

def execDioOutputTrip (n : Fin 32) (cause : Fin 8) (load : Overload) (s : State) : Host.Outcome State Fault Refusal :=
  act s (fun s => s.tripTest n.val cause.val load.ma.toNat load.held.toNat)

/-- Blanking ends; a clamp in force then trips (R310, R312). -/
def State.blankEnd (s : State) (n : Nat) : State :=
  if s.flag (DIO_PST.BLNK n) && (s.dioOf n).blank ≤ s.sampleNo then
    let s := s.putB (DIO_PST.BLNK n) false
    if s.flag (DIO_PST.CLAMP n) then s.dioTrip n 4 else s
  else s

def execDioBlankingEnd (n : Fin 32) (s : State) : Host.Outcome State Fault Refusal := act s (fun s => s.blankEnd n.val)

/-- The start of a phase: inputs accepted, chatter left, blanking ended; at phase 0 the levels sampled are taken into DIO_RAW (R304,
R306, R310, R326). -/
def State.dioPhase (s : State) : State :=
  if !s.alive 17 then s
  else
    let s := s.dioPoints.foldl (fun (s : State) (n : Nat) => ((s.dioSettled n).chatterExit n).blankEnd n) s
    if s.t.phase == 0 then s.put DIO_RAW.RAW (maskOf ((s.dio.filter (fun p => p.2.raw)).map (·.1))) else s

/-- The clamp begins, with the output voltage below the short threshold or not; or that changes while it holds (R311). -/
def State.clampOnset (s : State) (n : Nat) (short : Bool) : State :=
  let d := s.dioOf n
  if !d.sw then s
  else
    let at_ := if s.flag (DIO_PST.CLAMP n) then d.clampAt else s.t.run
    let d := { d with clampAt := at_, short := if short then some (d.short.getD s.t.run) else none }
    ((s.setDio n d).putB (DIO_PST.CLAMP n) true).dioClamps (n / 8)

def execDioClampOnset (clamp : Clamped) (s : State) : Host.Outcome State Fault Refusal :=
  act s (fun s => s.clampOnset clamp.point.val clamp.short)
def execDioClampEnd (n : Fin 32) (s : State) : Host.Outcome State Fault Refusal :=
  act s (fun s => ((s.setDio n.val { s.dioOf n.val with short := none }).putB (DIO_PST.CLAMP n.val) false).dioClamps (n.val / 8))

/-- OL (`ol`) or STB has stood, or been absent, for 10 ms (R313); under UV neither is diagnosed (R314). -/
def State.diagFault (s : State) (n : Nat) (ol raised : Bool) : State :=
  let d := s.dioOf n
  let ost := s.get (DIO_PST.OSTATE n)
  let may := !d.sw && !s.flag (DIO_GST.UV (n / 8)) && (if ol then 2 ≤ ost && (s.dioEnt n).b 8 12 else 1 ≤ ost)
  if raised && !may then s
  else ((s.setDio n (if ol then { d with ol := raised, due := true } else { d with stb := raised, due := true })).dioCause n)

def execDioDiagFault (n : Fin 32) (ol : Bool) (raised : Held) (s : State) : Host.Outcome State Fault Refusal :=
  act s (fun s =>
    let open_ := match (s.dioOf n.val).openAt with | some t => s.since t | none => s.t.run
    if raised.held.toNat < 10000 || (raised.now && open_ < 10000) then s else s.diagFault n.val ol raised.now)

/-- DGSg has stood on one side of the undervoltage threshold for so many beats, 1 ms being needed (R314); `vgs` is its voltage. -/
def execGroupUvChange (g : Fin 4) (uv : Held) (vgs : BitVec 12) (s : State) : Host.Outcome State Fault Refusal :=
  act s (fun s =>
    let s := s.put (DIO_GST.VGS g.val) vgs.toNat
    let s := if uv.held.toNat < 1000 then s else s.putB (DIO_GST.UV g.val) uv.now
    if s.flag (DIO_GST.UV g.val) then (List.range 8).foldl (fun s i => (s.diagFault (8 * g.val + i) true false).diagFault (8 * g.val + i) false false) s else s)

/-- Clear a trip (R315). -/
def State.tripClear (s : State) (n : Nat) : State :=
  if s.tripped n then (((s.putBit DIO_OFLT.TRIP n false).dioCause n).dioDrive n).dioDue n else s

/-- The commanded state has been open for 1000 beats (R315). -/
def State.tripTimeout (s : State) (n : Nat) : State :=
  match (s.dioOf n).cmdOff with
  | some t => if 1000 ≤ s.since t && !s.dioCmd n then s.tripClear n else s
  | none => s

def execDioTripClear (n : Fin 32) (s : State) : Host.Outcome State Fault Refusal := act s (fun s => s.tripTimeout n.val)

/-- A write of 1 to bits of DIO_OFLT (R315, R326). -/
def State.ofltWrite (s : State) (mask : Nat) : State := (setIdx mask 32).foldl State.tripClear s

def execDioOfltWrite (mask : BitVec 32) (s : State) : Host.Outcome State Fault Refusal :=
  act s (fun s => (s.consume DIO_OFLT (W mask.toNat)).ofltWrite mask.toNat)

/-! ### Pulse-width modulation (R317 to R321) -/

/-- DIO_DUTYn and PEND follow the buffers (R326). -/
def State.dutyRegs (s : State) (n : Nat) : State :=
  let d := s.dioOf n
  (s.put (DIO_DUTY.DUTY n) (if (s.dioEnt n).cmten then d.shadow else d.pduty)).putB (DIO_PST.PEND n)
    (d.pduty != s.get (DIO_ADUTY.ADUTY n))

/-- PWM acts: not while a mode holds the gate (R321). -/
def State.pwmRuns (s : State) (n : Nat) : Bool :=
  s.isOutput n && (s.dioEnt n).pwm && s.mode != 2 && !(s.mode == 3 && (s.dioEnt n).safeState == 2)

/-- The beat in force is a reload instant of the output, under the period in force or the new one, and not yet used (R317, R320). -/
def State.reloadDue (s : State) (n : Nat) : Bool :=
  let e := s.dioEnt n
  let d := s.dioOf n
  s.pwmRuns n && d.reloadAt != some s.t.run
    && ((d.period != 0 && s.micros % d.period == 0) || (e.period != 0 && s.micros % e.period == 0))

/-- The pending duty, or the commit shadow with CMTEN = 1, takes a written value (R318, R319). -/
def State.takeDuty (s : State) (n v : Nat) : State :=
  let d := s.dioOf n
  (s.setDio n (if (s.dioEnt n).cmten then { d with shadow := v } else { d with pduty := v })).dutyRegs n

/-- A reload instant (R317, R318, R320); a host write of its beat acts after it. -/
def State.pwmReload (s : State) (n : Nat) : State :=
  let e := s.dioEnt n
  let d := s.dioOf n
  if !s.reloadDue n then s
  else
    let p := if e.period != 0 && s.micros % e.period == 0 then e.period else d.period
    let duty := min d.pduty p
    let s := s.setDio n { d with period := p, gate := duty != 0, reloadAt := some s.t.run, late := none }
    let s := ((s.put (DIO_ADUTY.ADUTY n) duty).dutyRegs n).dioDrive n
    match d.late with | some v => s.takeDuty n v | none => s

def execPwmReload (n : Fin 32) (s : State) : Host.Outcome State Fault Refusal := act s (fun s => s.pwmReload n.val)

/-- The gate closes after D beats (R317). -/
def State.gateClose (s : State) (n : Nat) : State :=
  let d := s.dioOf n
  let duty := s.get (DIO_ADUTY.ADUTY n)
  let over_ := match d.reloadAt with | some t => duty ≤ s.since t | none => false
  if s.pwmRuns n && d.gate && duty < d.period && over_ then (s.setDio n { d with gate := false }).dioDrive n else s

def execPwmGateClose (n : Fin 32) (s : State) : Host.Outcome State Fault Refusal := act s (fun s => s.gateClose n.val)

/-- A write of DIO_DUTYn; one that takes effect in a reload beat waits for that reload (R318). -/
def State.dutyWrite (s : State) (n v : Nat) : State :=
  if s.reloadDue n && !(s.dioEnt n).cmten then s.setDio n { s.dioOf n with late := some v } else s.takeDuty n v

def execDioDutyWrite (n : Fin 32) (v : BitVec 18) (s : State) : Host.Outcome State Fault Refusal :=
  act s (fun s => (s.consume (DIO_DUTY n.val) (W v.toNat)).dutyWrite n.val v.toNat)

/-- An output commit names group g (R319). -/
def State.dioCommit (s : State) (g : Nat) : State :=
  (List.range 8).foldl (fun s i =>
    let n := 8 * g + i
    let d := s.dioOf n
    if (s.dioEnt n).cmten && s.isOutput n then (s.setDio n { d with pduty := d.shadow }).dutyRegs n else s) s

/-! ### Adoption (R320, R324) and validation (R88, R323) -/

/-- A discrete entry passes validation against the cached copy's DIR (R323). -/
def dioValid (e cached : Entry) (image : Bool) : Bool :=
  let itrip := orElse (e.f 8 35 26) 600
  (image || cached.isEmpty || e.dir == cached.dir) &&
  (!e.en ||
    (e.safeState != 3 && (!e.pwm || (e.dir && 100 ≤ e.period && e.puduty ≤ e.period)) && 100 ≤ itrip && itrip ≤ 1000))

/-- What adopting a discrete entry does beside replacing the cached copy. -/
def State.adoptDio (s : State) (n : Nat) (old new : Entry) (image : Bool) : State :=
  let was := !old.isEmpty && old.en
  let d := s.dioOf n
  let inNow := new.en && !new.dir
  let inWas := was && !old.dir
  let s :=
    if inNow && !inWas then
      -- a point that becomes an input starts with accepted state 0
      (((s.setDio n { d with acc := false, open_ := true, due := true, rawAt := s.sampleNo, accAt := s.t.run }).put (DIO_PST.REJ n) 0).putBit DIO_CHAT.CHAT n false).putBit
        DIO_STUCK.STUCK n false
    else if inNow && old.inv != new.inv then s.dioAccept n (!d.acc)
    else if inWas && !inNow then
      ((s.setDio n { d with open_ := false, due := true }).putBit DIO_CHAT.CHAT n false).putBit DIO_STUCK.STUCK n false
    else s.setDio n { d with due := true }
  let d := s.dioOf n
  let d := if s.flag (DIO_PST.CMD n) && was && old.dir then d else { d with cell := new.f 4 35 24 }
  let s := s.setDio n d
  let s :=
    if new.en && (image || !was) then
      ((s.setDio n { d with pduty := new.puduty, shadow := new.puduty, period := new.period }).put (DIO_ADUTY.ADUTY n) new.puduty).dutyRegs n
    else s.dutyRegs n
  s.dioDrive n

/-- What the time of the discrete island has brought: reloads and gates, trips and their ends, stuck inputs. -/
def State.dioSweep (s : State) : State :=
  if !s.alive 17 then s
  else
    let s := s.dioPoints.foldl (fun (s : State) (n : Nat) =>
      ((((s.pwmReload n).gateClose n).stuck n).clampTrip n).tripTimeout n) s
    (List.range 4).foldl State.groupTrip s

end Sys2Proof.Machine
end

