-- ==== Sys2Proof/Machine/Loop.lean ====
section
/-! DEFINITION. The loop-output island (chapter 9): setpoints, supervision, trim, the FSK modem. Currents are in nA. -/
namespace Sys2Proof.Machine

open Sys2Proof

def State.loOf (s : State) (n : Nat) : LoS := s.lo.getD n LoS.fresh
def State.setLo (s : State) (n : Nat) (d : LoS) : State := { s with lo := s.lo.set n d }

/-- Outputs that have a record, of the sixteen. -/
def State.loOutputs (s : State) : List Nat := (s.lo.map (·.1)).filter (· < 16)

/-- The adopted entry of a loop output. -/
def State.loEnt (s : State) (n : Nat) : Entry := s.entry (128 + n)

def Entry.sink (e : Entry) : Bool := e.b 0 26
def Entry.fsken (e : Entry) : Bool := e.b 0 25
/-- Currents of the entry, µA, defaults taken (R87). -/
def Entry.puv (e : Entry) : Nat := orElse (e.f 1 35 21) 3600
def Entry.safev (e : Entry) : Nat := orElse (e.f 1 20 6) 3600
def Entry.clampLo (e : Entry) : Nat := orElse (e.f 4 35 21) 3800
def Entry.clampHi (e : Entry) : Nat := orElse (e.f 4 20 6) 20500
def Entry.badv (e : Entry) : Nat := orElse (e.f 5 35 21) 3600
def Entry.fcur (e : Entry) : Nat := e.f 6 35 21
def Entry.ovcur (e : Entry) : Nat := e.f 8 21 7
def Entry.retry (e : Entry) : Nat := e.f 12 30 28

/-- A current in nA. -/
def microamp (n : Nat) : Rat := (n : Rat) * 1000

/-- Round to the nearest step of the stage (R268). -/
def stageRound (i : Rat) : Rat := if Config.loopStep ≤ 0 then i else (roundRat (i / Config.loopStep) : Rat) * Config.loopStep

/-- The normal value for a source value (R268). -/
def normalValue (e : Entry) (v : Int) : Rat :=
  let i : Rat := if e.v 3 == e.v 2 then 0 else 4000000 + 16000000 * ((v - e.v 2 : Int) : Rat) / ((e.v 3 - e.v 2 : Int) : Rat)
  stageRound (min (max i (microamp e.clampLo)) (microamp e.clampHi))

/-- In use: rows 2 to 11 of R267. -/
def State.loUsed (s : State) (n : Nat) : Bool :=
  s.life.applied && !(s.loEnt n).isEmpty && (s.loEnt n).en && !(s.loOf n).reconf

/-- The stage is in row 3. -/
def State.faultOff (s : State) (n : Nat) : Bool :=
  (s.flag (LO_OST.MISWIRE n) && !(s.loOf n).retest) || s.flag (LO_OST.REVERSE n)

/-- The row of 4 to 11 that applies (R267). -/
def State.loRow (s : State) (n : Nat) : Nat :=
  let e := s.loEnt n
  let d := s.loOf n
  if s.mode == 3 then 8
  else if (s.cacheOf (128 + n)).forced then 7
  else if s.mode == 2 then 6
  else if e.b 8 34 && d.ov then 5
  else if d.first then 1
  else if d.range then 3
  else if wbit d.word 35 then 4
  else 2

/-- The setpoint a row gives, and the output's record after it (R267 to R270, R274): in row 11 it moves by SLEW nA a beat. -/
def State.loSetpoint (s : State) (n row : Nat) : LoS :=
  let e := s.loEnt n
  let d := s.loOf n
  let fix := fun (i : Rat) => { d with setpt := i, target := i }
  match row with
  | 8 => fix (microamp e.safev)
  | 7 => fix (microamp e.fcur)
  | 6 => fix d.hold
  | 5 => fix (microamp e.ovcur)
  | 1 => fix (microamp e.puv)
  | 3 => fix d.rheld
  | 4 => fix (if e.b 5 20 then d.good else microamp e.badv)
  | _ =>
    let i := normalValue e (vOf d.word)
    let t := if e.b 8 35 then d.target else i
    let rate := e.f 9 23 12
    let slew : Rat := (rate * s.since d.formAt : Nat)
    let x := if rate == 0 || d.full then t
      else if t > d.setpt + slew then d.setpt + slew
      else if t < d.setpt - slew then d.setpt - slew
      else t
    { d with setpt := x, target := t, shadow := i, full := false }

/-! ### Field trim (R283, R284, R286) -/

/-- Word i of the loop-output record of the bank in effect. -/
def State.trimWord (s : State) (n i : Nat) : Word :=
  if s.cal.uncal then 0 else s.cal.cur.read (fun _ => 0) (0o2100 + n * 16 + i)

/-- The field trim applies. -/
def State.trimmed (s : State) (n : Nat) : Bool :=
  wbit (s.trimWord n 0) 35 && !(s.bitOf LO_CFG.TRIMOFF n && s.mode == 2)

/-- What the stage is commanded for a setpoint (R263, R284). -/
def State.stageCommand (s : State) (n : Nat) (i : Rat) : Rat :=
  let lo : Rat := if (s.loEnt n).sink then 3200000 else 0
  let i := min (max i lo) 24000000
  if s.trimmed n then
    let c := fun k => coef (s.trimWord n k)
    let (p1, m1, p2, m2) := (c 1, c 2, c 3, c 4)
    if m2 == m1 then i else (p1 + (i / 1000 - m1) * (p2 - p1) / (m2 - m1)) * 1000
  else i

/-! ### FSK transactions (R295, R298, R299) -/

/-- RT1 and RT2 in beats (R291). -/
def rt1 : Nat := 302511
def rt2 : Nat := 73336

/-- QD follows the queue. -/
def State.fskQd (s : State) (n : Nat) : State := s.put (LO_FST.QD n) (s.loOf n).fq.length

/-- The transaction in progress ends (R298). -/
def State.fskEnd (s : State) (n result rxlen : Nat) : State :=
  let d := s.loOf n
  let s := s.setLo n { d with fq := d.fq.tail, tries := 0 }
  let s := ((s.put (LO_FST.RESULT n) result).put (LO_FST.RXLEN n) rxlen).put (LO_FST.TRIES n) d.tries
  let s := (s.incMod (LO_FST.DONE n)).fskQd n
  (s.put (LO_FST.MSTATE n) (if d.fq.length > 1 then 1 else 0)).raise HST_ISRC.FSK

/-- A try ends; it is repeated up to RETRY times (R295). -/
def State.tryEnd (s : State) (n result : Nat) : State :=
  let d := s.loOf n
  if d.tries ≤ (s.loEnt n).retry then s.put (LO_FST.MSTATE n) 1 else s.fskEnd n result 0

/-- Every transaction of the output ends CANCELLED (R275, R299). -/
def State.fskCancel (s : State) (n : Nat) : State :=
  (s.loOf n).fq.foldl (fun s _ => s.fskEnd n 5 0) s

/-- The modem follows the row (R299): one newly enabled, or newly driving, waits RT1 first (R291). -/
def State.fskFollow (s : State) (n : Nat) (was drv : Bool) : State :=
  if drv && (s.loEnt n).fsken then
    if was && s.get (LO_FST.MSTATE n) != 5 then s
    else (s.setLo n { s.loOf n with fwait := rt1, quietAt := s.t.run, carrier := false }).put (LO_FST.MSTATE n) (if (s.loOf n).fq.isEmpty then 0 else 1)
  else (s.fskCancel n).put (LO_FST.MSTATE n) 5

/-! ### The beat's setpoint (R267) -/

/-- Phase 0: the cell output and the source word that the setpoint of the beat is formed from. -/
def State.loSample (s : State) (n : Nat) : State :=
  let e := s.loEnt n
  if e.isEmpty then s
  else
    let w := s.mirror (loopSrc e)
    let s := s.mirrorFetch 16 (loopSrc e)
    s.setLo n { s.loOf n with ov := s.outO (e.f 8 33 22), word := w }

/-- Phase 1: form the setpoint of an output; rows 2 and 3 still compute what rows 4 to 11 would give. -/
def State.loForm (s : State) (n : Nat) : State :=
  let d := s.loOf n
  let now := s.t.run
  if !s.loUsed n then s.setLo n { d with setpt := 0, target := 0, ost := some 0, formAt := now, chgAt := if d.setpt == 0 then d.chgAt else now }
  else
    -- the first update (R273, R274)
    let s := if d.seen && (d.first || d.range) then s.setLo n { d with first := false, range := false, full := d.range && !d.first } else s
    let row := s.loRow n
    let x := s.loSetpoint n row
    s.setLo n { x with
      good := if wbit x.word 35 then x.good else x.setpt
      ost := some (if !s.drives then 10 else if s.faultOff n then 9 else row)
      formAt := now, chgAt := if x.setpt == d.setpt then d.chgAt else now }

/-- Phase 2: present the output's row and setpoint. -/
def State.loShow (s : State) (n : Nat) : State :=
  let e := s.loEnt n
  let d := s.loOf n
  match d.ost with
  | none => s
  | some ost =>
    let was := s.bitOf LO_STAT.DRV n
    let drv := 1 ≤ ost && ost ≤ 8
    let lim := drv && (d.setpt > 24000000 || (e.sink && d.setpt < 3200000))
    let s := s.setLo n { d with ost := none, drive := if drv then some (s.stageCommand n d.setpt) else none }
    let s := (s.put (LO_OST.OSTATE n) ost).put (LO_OST.SETPT n) (if ost == 0 then 0 else (roundRat (d.setpt / 1000)).toNat)
    let s := (s.putB (LO_OST.SHDW n) (e.b 8 35 && d.shadow != d.setpt)).putB (LO_OST.TRIM n) (drv && s.trimmed n)
    let s := ((s.putB (LO_OST.LIMIT n) lim).putBit LO_STAT.DRV n drv).putB (LO_RB.DRV n) drv
    s.fskFollow n was drv

/-- Every output: samples at phase 0, setpoints formed at phase 1, presented at phase 2 (R267). -/
def State.loBeat (s : State) : State := s.loOutputs.foldl State.loSample s
def State.loPhase1 (s : State) : State := if s.alive 16 then s.loOutputs.foldl State.loForm s else s
def State.loPhase2 (s : State) : State := if s.alive 16 then s.loOutputs.foldl State.loShow s else s

/-- RHOLD of an entry in beats (R265). -/
def Entry.rhold (e : Entry) : Nat := orElse (e.f 9 35 24) 50 * 100000

/-- RHOLD runs out: the first update takes place on the word as it stands (R273). -/
def State.rholdEnd (s : State) (n : Nat) : State :=
  let d := s.loOf n
  if (d.first || d.range) && !d.seen && (s.loEnt n).rhold ≤ s.since d.adoptAt then s.setLo n { d with seen := true } else s

def execLoopRholdExpiry (n : Fin 16) (s : State) : Host.Outcome State Fault Refusal := act s (fun s => s.rholdEnd n.val)

/-- The 10 ms after a change of SINK end (R272). -/
def State.reconfEnd (s : State) (n : Nat) : State :=
  let d := s.loOf n
  if d.reconf && 10000 ≤ s.since d.adoptAt then s.setLo n { d with reconf := false } else s

def execSinkChangeHoldEnd (n : Fin 16) (s : State) : Host.Outcome State Fault Refusal := act s (fun s => s.reconfEnd n.val)

/-- Before MAINTENANCE is entered: the setpoint of the last beat is kept (row 6). -/
def State.loHold (s : State) : State :=
  s.loOutputs.foldl (fun s n => s.setLo n { s.loOf n with hold := (s.loOf n).setpt }) s

/-- An output commit names an output: with CMTEN = 1, row 11 takes the shadow as it stands (R269). -/
def State.loCommit (s : State) (n : Nat) : State :=
  let d := s.loOf n
  if (s.loEnt n).b 8 35 && s.loUsed n && s.loRow n == 2 then s.setLo n { d with target := d.shadow } else s

/-! ### Supervision and readback (R278 to R281) -/

/-- Quality of the readback word (R278, R284). -/
def State.readbackQ (s : State) (n : Nat) : Nat :=
  let ost := s.get (LO_OST.OSTATE n)
  let due := s.trimWord n 6
  let fine := if wbit (s.trimWord n 0) 35 && due != 0 && due.toNat ≤ s.ts0.toNat && s.flag CAL_CFG.DUEQ then 5 else 0
  if ost == 0 || ost == 10 then fine
  else if s.flag (LO_OST.MISWIRE n) || s.flag (LO_OST.REVERSE n) then 12
  else if s.flag (LO_OST.OPEN n) then 8
  else if s.flag (LO_OST.SHORT n) then 9
  else if s.flag (LO_OST.DEV n) then 12
  else fine

/-- The readback word of an output; R91 and R96 give it while no entry serves. -/
def State.loWord (s : State) (n : Nat) : Word :=
  let c := s.cacheOf (128 + n)
  let v := unsign 32 (s.loOf n).meas
  if c.words.isEmpty then (if c.q14 then qword 14 0 else noValue)
  else if c.q14 then qword 14 v
  else qword (s.readbackQ n) v

/-- Write the readback word. -/
def State.loPublish (s : State) (n : Nat) : State := if s.alive 16 then s.publish (0o200 + n) (s.loWord n) else s

/-- A measurement of the stage: its current in nA, VLD and the terminal voltage in units of 10 mV. -/
def State.readback (s : State) (n : Nat) (cur : Int) (vld vterm : Nat) (neg : Bool) : State :=
  let s := s.setLo n { s.loOf n with meas := cur }
  let s := ((s.put (LO_RB.VLD n) vld).put (LO_RB.VTERM n) vterm).putB (LO_RB.NEG n) neg
  let s := s.putB (LO_RB.LIVE n) (vld ≥ orElse ((s.loEnt n).f 11 35 24) 50)
  s.loPublish n

def execLoopReadback (n : Fin 16) (cur : BitVec 32) (vld vterm : BitVec 12) (neg : Bool) (s : State) :
    Host.Outcome State Fault Refusal :=
  act s (fun s => if s.t.usec % 1000 == 0 && 2 ≤ s.ph then s.readback n.val cur.toInt vld.toNat vterm.toNat neg else s)

/-- The flag of a fault: MISWIRE, REVERSE, OPEN, SHORT, COMPL, DEV (R279). -/
def loFault (n f : Nat) : Fld :=
  match f with
  | 0 => LO_OST.MISWIRE n | 1 => LO_OST.REVERSE n | 2 => LO_OST.OPEN n | 3 => LO_OST.SHORT n | 4 => LO_OST.COMPL n
  | _ => LO_OST.DEV n

/-- DEVTOL in nA and DEVT in beats (R265). -/
def Entry.devTol (e : Entry) : Int := (orElse (e.f 10 35 24) 200 * 1000 : Nat)
def Entry.devT (e : Entry) : Nat := orElse (e.f 10 23 12) 100 * 1000

/-- The time a fault's test must have held, in beats; that of DEV and OPEN starts 40 ms after the setpoint last changed (R279). -/
def State.faultTime (s : State) (n f : Nat) : Nat :=
  match f with | 0 | 1 => 1000 | 4 => 10000 | _ => (s.loEnt n).devT

/-- The part of a fault's test that the measured current, nA, decides (R279). -/
def State.faultTest (s : State) (n f : Nat) (cur : Int) : Bool :=
  let e := s.loEnt n
  let set := roundRat (s.loOf n).setpt
  match f with
  | 2 => if e.sink then cur < 100000 else cur < set - e.devTol
  | 3 => 3500000 ≤ cur
  | 5 => cur > set + e.devTol || cur < set - e.devTol
  | _ => true

/-- A fault's test has been met for `held` beats with the current `cur`: the fault is raised if that is its time. Only a driving stage
is tested, but for REVERSE. -/
def State.faultRaise (s : State) (n f : Nat) (cur : Int) (held : Nat) : State :=
  let e := s.loEnt n
  let drv := s.bitOf LO_STAT.DRV n
  let may :=
    if f == 1 then s.loUsed n && e.sink
    else if f == 0 then drv && !e.sink
    else if f == 5 then drv && !s.flag (LO_OST.OPEN n)
    else drv
  let settled := if f == 2 || f == 5 then 40000 + s.faultTime n f ≤ s.since (s.loOf n).chgAt else true
  if may && settled && s.faultTest n f cur && s.faultTime n f ≤ held then s.putB (loFault n f) true else s

/-- A fault's test has failed for `held` beats: 100 ms clear it; MISWIRE clears by its retest alone (R279, R280). -/
def State.faultClear (s : State) (n f held : Nat) : State :=
  if f == 0 || held < 100000 then s else s.putB (loFault n f) false

def execLoopFaultRaise (n : Fin 16) (met : FaultMet) (s : State) : Host.Outcome State Fault Refusal :=
  act s (fun s => s.faultRaise n.val met.fault.val met.cur.toInt met.held.toNat)
def execLoopFaultClear (n : Fin 16) (gone : FaultGone) (s : State) : Host.Outcome State Fault Refusal :=
  act s (fun s => s.faultClear n.val gone.fault.val gone.held.toNat)

/-- At a round boundary an output with MISWIRE drives its setpoint for a retest (R280). -/
def State.miswireRound (s : State) : State :=
  s.loOutputs.foldl (fun s n =>
    if s.flag (LO_OST.MISWIRE n) then s.setLo n { s.loOf n with retest := true, retestAt := s.t.run } else s) s

/-- The retest ends after 10 ms; `again` says that the test was met within them. -/
def State.retestEnd (s : State) (n : Nat) (again : Bool) : State :=
  let d := s.loOf n
  if d.retest && 10000 ≤ s.since d.retestAt then
    let s := s.setLo n { d with retest := false }
    if again then s else s.putB (LO_OST.MISWIRE n) false
  else s

def execMiswireRetestEnd (n : Fin 16) (again : Bool) (s : State) : Host.Outcome State Fault Refusal :=
  act s (fun s => s.retestEnd n.val again)

/-! ### The modem (R289 to R298) -/

/-- Bytes as words, four to a word, the first highest (R297). -/
def bytesToWords : List Byte → List Word
  | a :: b :: c :: d :: r => W (ofBytes [a, b, c, d]) :: bytesToWords r
  | [a, b, c] => [W (ofBytes [a, b, c, 0])]
  | [a, b] => [W (ofBytes [a, b, 0, 0])]
  | [a] => [W (ofBytes [a, 0, 0, 0])]
  | [] => []

/-- The free host area (R28). -/
def inFree (a n : Nat) : Bool := 0o02000000 ≤ a && a + n ≤ 0o04000000

/-- Byte i of a buffer. -/
def State.bufByte (s : State) (a i : Nat) : Nat := bits (s.sramAt (a + i / 4)).toNat (31 - 8 * (i % 4)) (24 - 8 * (i % 4))

/-- A write of LO_FREQ (R297). -/
def State.fskRequest (s : State) (n txlen : Nat) : State :=
  let txa := s.get LO_FTXA.ADDR
  let rxa := s.get LO_FRXA.ADDR
  let ost := s.get (LO_OST.OSTATE n)
  let d := s.loOf n
  let res :=
    if !s.life.applied then 6
    else if !(s.loEnt n).fsken || ost == 0 || ost == 9 then 2
    else if ost == 10 then 3
    else if !inFree txa (ceilDiv txlen 4) || !inFree rxa 66 then 5
    else if txlen < 4 || txlen > 263 || (s.bufByte txa 0 != 0x02 && s.bufByte txa 0 != 0x82) then 4
    else if d.fq.length ≥ 4 then 1
    else 0
  let s := (s.put LO_FRES.RESULT res).sramFetch 16 [txa]
  if res == 0 then
    let s := (s.setLo n { d with fq := d.fq ++ [⟨txa, rxa, txlen⟩] }).fskQd n
    if s.get (LO_FST.MSTATE n) == 0 then s.put (LO_FST.MSTATE n) 1 else s
  else s

def execFskRequest (n : Fin 16) (txlen : BitVec 9) (s : State) : Host.Outcome State Fault Refusal :=
  act s (fun s => (s.consume LO_FREQ (W (n.val <<< 32 + txlen.toNat))).fskRequest n.val txlen.toNat)

/-- Length of a character in beats, and of the frame in progress: preamble, bytes, check byte (R287, R290). -/
def fskChar : Nat := 9167
def State.fskFrame (s : State) (n : Nat) : Nat :=
  match (s.loOf n).fq with
  | [] => 0
  | t :: _ => (orElse ((s.loEnt n).f 12 35 31) 5 + t.len + 1) * fskChar

/-- The wait is complete: the modem sends (R291, R292). -/
def State.fskStart (s : State) (n : Nat) : State :=
  let d := s.loOf n
  match d.fq with
  | [] => s
  | t :: _ =>
    if s.get (LO_FST.MSTATE n) == 1 && !d.carrier && s.bitOf LO_STAT.DRV n && d.fwait ≤ s.since d.quietAt then
      ((s.setLo n { d with tries := d.tries + 1, txAt := s.t.run }).put (LO_FST.MSTATE n) 2).sramFetch 16
        ((List.range (ceilDiv t.len 4)).map (t.txa + ·))
    else s

def execFskTransmitStart (n : Fin 16) (s : State) : Host.Outcome State Fault Refusal := act s (fun s => s.fskStart n.val)

/-- The frame is sent: the reply window opens (R290, R293). -/
def State.fskSent (s : State) (n : Nat) : State :=
  let d := s.loOf n
  if s.get (LO_FST.MSTATE n) == 2 && s.fskFrame n ≤ s.since d.txAt then
    (s.setLo n { d with fwait := rt1, quietAt := s.t.run, txAt := s.t.run }).put (LO_FST.MSTATE n) 3
  else s

def execFskTransmitEnd (n : Fin 16) (s : State) : Host.Outcome State Fault Refusal := act s (fun s => s.fskSent n.val)

/-- Carrier: a waiting transaction is deferred, an awaited reply is being received (R292). -/
def execFskCarrierDetect (n : Fin 16) (s : State) : Host.Outcome State Fault Refusal :=
  act s (fun s =>
    let m := s.get (LO_FST.MSTATE n.val)
    if m == 5 || m == 2 then s
    else (s.setLo n.val { s.loOf n.val with carrier := true }).put (LO_FST.MSTATE n.val) (if m == 3 then 4 else m))

/-- Address bytes of a frame, the master and burst bits of the first left out. -/
def fskAddr (f : List Byte) : List Nat :=
  let d := (f.getD 0 0).toNat
  let n := if bit d 7 then 5 else 1
  ((f.drop 1).take n).zipIdx.map (fun p => if p.2 == 0 then p.1.toNat % 64 else p.1.toNat)

/-- The kind of a frame: 1 burst, 2 master, 6 slave, by the delimiter's low bits; its master bit; its check byte. -/
def fskKind (f : List Byte) : Nat := (f.getD 0 0).toNat % 8
def fskMaster (f : List Byte) : Bool := bit (f.getD 1 0).toNat 7
def fskCheck (f : List Byte) : Bool := xorAll (f.map (·.toNat)) == 0

/-- The request in progress, as bytes. -/
def State.fskReqBytes (s : State) (n : Nat) : List Byte :=
  match (s.loOf n).fq with
  | [] => []
  | t :: _ => (List.range t.len).map (fun i => BitVec.ofNat 8 (s.bufByte t.txa i))

/-- A received frame, delimiter to check byte; `err` a parity or framing error (R290 to R298). While the reply is awaited or received
its carrier has started within the window, which the modem leaves with NOREPLY otherwise. -/
def State.fskReceive (s : State) (n : Nat) (f : List Byte) (err : Bool) : State :=
  let m := s.get (LO_FST.MSTATE n)
  let s := s.setLo n { s.loOf n with carrier := false, quietAt := if m == 2 then (s.loOf n).quietAt else s.t.run }
  let await := m == 3 || m == 4
  let wait := fun (s : State) (w : Nat) => s.setLo n { s.loOf n with fwait := w }
  let back := fun (s : State) => if m == 4 then s.put (LO_FST.MSTATE n) 3 else s
  let good := !err && fskCheck f && (f.length ≥ 4)
  let kind := fskKind f
  let mine := kind == 6 && fskMaster f && fskAddr f == fskAddr (s.fskReqBytes n)
  if m == 5 || m == 2 then s
  else if good && await && mine then
    let s := wait s rt2
    if f.length > 264 then s.fskEnd n 6 0
    else
      let t := (s.loOf n).fq.headD ⟨0, 0, 0⟩
      ((bytesToWords f).zipIdx.foldl (fun (s : State) (p : Word × Nat) => s.freeWrite .engine (t.rxa + p.2) p.1) s).fskEnd n 0 f.length
  else if !good then
    let s := wait (s.inc (LO_FCNT.ERR n)) rt1
    if await then s.tryEnd n (if err then 3 else 4) else back s
  else if kind == 2 then back (wait (s.inc (LO_FCNT.STRANGER n)) rt1)
  else if kind == 6 || kind == 1 then back (wait (s.inc (LO_FCNT.STRANGER n)) (if fskMaster f then rt2 else 0))
  else back (wait s rt1)

def execFskFrameReceive (n : Fin 16) (frame : List Byte) (parity framing : Bool) (s : State) : Host.Outcome State Fault Refusal :=
  act s (fun s => s.fskReceive n.val frame (parity || framing))

/-- No reply within 28 characters of the end of the frame (R293). -/
def State.fskNoReply (s : State) (n : Nat) : State :=
  if s.get (LO_FST.MSTATE n) == 3 && 28 * fskChar ≤ s.since (s.loOf n).txAt then (s.inc (LO_FCNT.NOREPLY n)).tryEnd n 1 else s

def execFskReplyTimeout (n : Fin 16) (s : State) : Host.Outcome State Fault Refusal := act s (fun s => s.fskNoReply n.val)

/-- A decoded character differs from the one sent (R294). -/
def execFskCollision (n : Fin 16) (s : State) : Host.Outcome State Fault Refusal :=
  act s (fun s =>
    if s.get (LO_FST.MSTATE n.val) == 2 then
      ((s.setLo n.val { s.loOf n.val with fwait := rt1, quietAt := s.t.run }).inc (LO_FCNT.COLL n.val)).tryEnd n.val 2
    else s)

/-! ### Adoption and validation (R266, R272, R274, R275) -/

/-- A loop entry passes validation against the cached copy's SINK. -/
def loValid (e cached : Entry) (image : Bool) : Bool :=
  let src := loopSrc e
  let cur := [e.puv, e.safev, e.clampLo, e.clampHi, e.badv]
  let all := cur ++ [e.fcur, e.ovcur]
  let low := cur ++ (if e.b 7 35 then [e.fcur] else []) ++ (if e.b 8 34 then [e.ovcur] else [])
  let pre := e.f 12 35 31
  (image || cached.isEmpty || e.sink == cached.sink) &&
  (!e.en ||
    (src ≤ 0o317 && !(0o200 ≤ src && src ≤ 0o217) && e.v 2 != e.v 3 && e.clampLo < e.clampHi &&
     all.all (· ≤ 24000) && (!e.sink || low.all (3200 ≤ ·)) && (pre == 0 || (5 ≤ pre && pre ≤ 20))))

/-- Words that make a range change (R274). -/
def loRange (e : Entry) : List Nat := [e.f 0 24 22, loopSrc e, e.f 2 31 0, e.f 3 31 0, e.clampLo, e.clampHi]

/-- What adopting a loop entry does beside replacing the cached copy. -/
def State.adoptLo (s : State) (n : Nat) (old new : Entry) (image : Bool) : State :=
  let was := !old.isEmpty && old.en
  let d := s.loOf n
  let d :=
    if !new.en then { d with first := false, range := false, seen := false, reconf := false }
    else if image || !was then
      { d with first := true, range := false, seen := false, full := false, adoptAt := s.t.run
               reconf := image && !old.isEmpty && old.sink != new.sink }
    else if loRange old != loRange new then { d with range := true, rheld := d.setpt, seen := false, adoptAt := s.t.run }
    else d
  (s.setLo n d).loSample n

/-- What the time of the loop-output island has brought by the end of a beat. -/
def State.loSweep (s : State) : State :=
  if !s.alive 16 then s
  else s.loOutputs.foldl (fun (s : State) (n : Nat) =>
    ((((((s.rholdEnd n).reconfEnd n).retestEnd n true).fskStart n).fskSent n).fskNoReply n)) s

end Sys2Proof.Machine
end

