-- ==== Sys2Proof/Machine/Speed.lean ====
section
/-! DEFINITION. The speed island (chapter 11): edges, speed, direction, faults, signals, SSI frames, run supervision. -/
namespace Sys2Proof.Machine

open Sys2Proof

def State.spdOf (s : State) (n : Nat) : SpdS := s.spd.getD n SpdS.fresh
def State.setSpd (s : State) (n : Nat) (d : SpdS) : State := { s with spd := s.spd.set n d }

/-- The adopted entry of a speed input. -/
def State.spdEnt (s : State) (n : Nat) : Entry := s.entry (176 + n)

def Entry.kind (e : Entry) : Nat := e.f 0 26 25
def Entry.spdClass (e : Entry) : Nat := e.f 0 24 22
def Entry.teeth (e : Entry) : Nat := e.f 0 21 12
def Entry.edgen (e : Entry) : Nat := orElse (e.f 1 35 20) 4
def Entry.standt (e : Entry) : Nat := orElse (e.f 1 19 0) 2000
def Entry.tacht (e : Entry) : Nat := orElse (e.f 3 22 11) 50
def Entry.supen (e : Entry) : Bool := e.b 3 35
def Entry.stcell (e : Entry) : Nat := e.f 3 34 23
def Entry.ssibits (e : Entry) : Nat := e.f 4 35 30
def Entry.ssiper (e : Entry) : Nat := orElse (e.f 8 22 7) 1000
def Entry.owoff (e : Entry) : Bool := e.b 8 23

/-- The SSI clock in kHz, 0 for an invalid code (R340). -/
def ssiClock (code : Nat) : Nat :=
  match code with
  | 0 | 3 => 500 | 1 => 100 | 2 => 200 | 4 => 1000 | 5 => 2000 | _ => 0

/-- The highest edge frequency measured, Hz (R329). -/
def fmaxe (e : Entry) : Rat := min (40000000 / (2 * (e.edgen : Rat))) (if e.kind == 0 then 50000 else 1000000)

/-- In use: adopted with EN = 1, after the first image apply. -/
def State.spdUsed (s : State) (n : Nat) : Bool := s.life.applied && !(s.spdEnt n).isEmpty && (s.spdEnt n).en

/-- Sample `k` of the beat in force, counted since node time began to run. -/
def State.sampleOf (s : State) (k : Nat) : Nat := s.t.run * 40 + k

/-- First sample of the phase in force. -/
def State.sampleNow (s : State) : Nat := s.sampleOf (10 * s.ph)

/-- The value of a speed in the unit of its class, and whether it saturates (R333). -/
def speedValue (e : Entry) (rev : Rat) : Int × Bool :=
  let q := (if e.spdClass == 6 then rev else rev * coef (e.getD 11 0)) / lsbOf e.spdClass
  let v := roundRat q
  if v > 2147483647 then (2147483647, true) else if v < -2147483648 then (-2147483648, true) else (v, false)

/-- Value and saturation of the measured speed, overrange included (R334). -/
def State.measured (s : State) (n : Nat) : Int × Bool :=
  let e := s.spdEnt n
  if s.flag (SPD_PST.OVR n) then
    let v := speedValue e (if e.teeth == 0 then 0 else fmaxe e / e.teeth)
    (v.1, true)
  else speedValue e (s.spdOf n).rev

/-- Quality of the speed word (R336), or of the position word when `pos`. -/
def State.spdQ (s : State) (n : Nat) (pos : Bool) : Nat :=
  let c := s.cacheOf (176 + n)
  let e := s.spdEnt n
  if c.forced && !pos then 1
  else if e.isEmpty then (if c.q14 then 14 else 15)
  else if !e.en then 13
  else if c.q14 then 14
  else if s.flag (SPD_PST.OPEN n) then 8
  else if s.flag (SPD_PST.SHORT n) then 9
  else if s.flag (SPD_PST.QERR n) || (e.kind == 2 && (s.spdOf n).badStart ≥ 3) then 12
  else if (s.measured n).2 then 10
  else 0

/-- Value of the speed as the signals and supervision see it. -/
def State.speedNow (s : State) (n : Nat) : Int :=
  if (s.cacheOf (176 + n)).forced then (s.spdEnt n).v 6 else (s.measured n).1

/-- The speed word. -/
def State.speedWord (s : State) (n : Nat) : Word :=
  let q := s.spdQ n false
  if q == 8 || q == 9 || q == 12 || q == 13 || q == 15 || ((s.spdEnt n).isEmpty && q != 1) then qword q 0
  else qword q (unsign 32 (s.speedNow n))

/-- The position word (R339). -/
def State.posWord (s : State) (n : Nat) : Word :=
  let q := s.spdQ n true
  if q == 8 || q == 9 || q == 12 || q == 13 || q == 15 || (s.spdEnt n).isEmpty then qword q 0
  else qword q (unsign 32 (s.spdOf n).count)

/-- Write both mirror words (R339); a bad word of the mains reference ends a rate window (R448). -/
def State.spdMirror (s : State) (n : Nat) : State :=
  if !s.alive 18 then s
  else
    let s := ((s.publish (0o260 + n) (s.speedWord n)).publish (0o270 + n) (s.posWord n)).setSpd n
      { s.spdOf n with mirDue := none, writes := (s.spdOf n).writes + 1 }
    if s.clk.winSrc == 1 && s.get CLK_CFG.MSRC == n && wbit (s.mirror (0o260 + n)) 35 then s.rateAbort else s

/-- The words of an input are due at phase 2 of this beat: every 1000 beats, and from the beat after a change of quality (R339). -/
def State.mirrorDue (s : State) (n : Nat) : Bool :=
  s.life.applied && (s.t.usec % 1000 == 0 || match (s.spdOf n).mirDue with | some b => decide (b ≤ s.t.run) | none => false)

/-- Phase 2: the words that are due. -/
def State.spdFlush (s : State) : State :=
  (List.range 8).foldl (fun s n => if s.mirrorDue n then s.spdMirror n else s) s

/-- The signals the present measurement gives (R336, R337, R339, R342). -/
def State.spdSignals (s : State) (n : Nat) : Nat :=
  let e := s.spdEnt n
  let d := s.spdOf n
  let q := s.spdQ n false
  let v := s.speedNow n
  let a : Int := if v < 0 then -v else v
  let forced := (s.cacheOf (176 + n)).forced
  let bad := qBad q
  let last := fun (i : Nat) => bit d.dec i
  let still := if forced then v == 0 else d.still
  let os := if !e.b 2 35 then false
    else if bad && q != 10 then last 0
    else if a > e.v 2 then true else if a < e.v 2 - e.v 10 then false else last 0
  let rev := if bad && q != 10 then last 5 else if forced then v < 0 else if e.kind == 2 then d.rev < 0 else d.back && !d.still
  let sup := s.get (SPD_PST.SUP n)
  maskOf ((if os then [0] else []) ++ (if !bad && still then [1] else []) ++ (if !bad && !still && a ≥ e.v 9 then [2] else [])
    ++ (if sup == 4 then [3] else []) ++ (if sup == 5 then [4] else []) ++ (if rev then [5] else []) ++ (if bad then [6] else []))

/-- A change decided waits until phase `at_`; an older one of the same signals that would come no earlier is no longer presented. -/
def SpdS.decide (d : SpdS) (at_ new : Nat) : SpdS :=
  let diff := d.dec ^^^ new
  if diff == 0 then d
  else
    let older := d.due.map (fun (p : Nat × Nat × Nat) =>
      if p.1 < at_ then p else (p.1, maskOf ((setIdx p.2.1 8).filter (fun i => !bit diff i)), p.2.2))
    { d with dec := new, due := older ++ [(at_, diff, new)] }

/-- Decide the signals; a change waits for its presentation: at the phase given, for an edge the second after its acceptance, else
at phase 0 of the next beat (R338). A change of quality makes the mirror words due in the next beat (R339). -/
def State.spdDecide (s : State) (n at_ : Nat) : State :=
  let new := s.spdSignals n
  let q := s.spdQ n false
  let pq := s.spdQ n true
  let d := (s.spdOf n).decide at_ new
  let moved := s.get (SPD_PST.Q n) != q || d.posQ != pq
  let s := s.setSpd n { d with posQ := pq, mirDue := if moved && d.mirDue.isNone then some (s.t.run + 1) else d.mirDue }
  let s := ((s.put (SPD_PST.Q n) q).putB (SPD_PST.OS n) (bit new 0)).putB (SPD_PST.STAND n) (bit new 1)
  (s.putB (SPD_PST.RUNNING n) (bit new 2)).putB (SPD_PST.REV n) (bit new 5)

/-- Phase 0 of the next beat. -/
def State.nextBeatPhase (s : State) : Nat := 4 * (s.t.run + 1)

/-- Present what is due by a phase. -/
def SpdS.present (d : SpdS) (now : Nat) : SpdS :=
  d.due.foldl (fun (d : SpdS) (p : Nat × Nat × Nat) =>
    if p.1 ≤ now then
      { d with pres := maskOf ((List.range 8).filter (fun i => if bit p.2.1 i then bit p.2.2 i else bit d.pres i)) }
    else { d with due := d.due ++ [p] }) { d with due := [] }

def State.spdPresent (s : State) : State :=
  { s with spd := s.spd.map (fun p => if p.2.due.isEmpty then p else (p.1, p.2.present s.phaseNo)) }

/-! ### Run supervision (R342, R343) -/

/-- Enter a supervision state. -/
def State.setSup (s : State) (n st : Nat) : State :=
  let s := s.put (SPD_PST.SUP n) st
  let s := if st == 2 then s.setSpd n { s.spdOf n with tachtAt := s.t.run } else s
  if st == 4 then s.inc (SPD_CNT.SFAILS n) else if st == 5 then s.inc (SPD_CNT.TLOSSES n) else s

/-- An open or short condition of R335 stands. -/
def State.wiringBad (s : State) (n : Nat) : Bool := s.flag (SPD_PST.OPEN n) || s.flag (SPD_PST.SHORT n)

/-- Transitions that the measurement decides. -/
def State.supEval (s : State) (n : Nat) : State :=
  let run := bit (s.spdOf n).dec 2
  let stand := bit (s.spdOf n).dec 1
  match s.get (SPD_PST.SUP n) with
  | 2 => if run then s.setSup n 3 else s
  | 3 => if s.wiringBad n then s.setSup n 5 else if stand then s.setSup n 4 else s
  | 4 => if run then s.setSup n 3 else s
  | 5 => if s.wiringBad n then s else s.setSup n 2
  | _ => s

/-- Decide signals, supervision, and the signals supervision gives. -/
def State.spdSettle (s : State) (n at_ : Nat) : State :=
  let s := (s.spdDecide n at_).supEval n
  s.spdDecide n s.nextBeatPhase

/-- Decide them for the next beat. -/
def State.spdSettled (s : State) (n : Nat) : State := s.spdSettle n s.nextBeatPhase

/-- The start command is sampled (R342). -/
def State.supSample (s : State) (n : Nat) : State :=
  let e := s.spdEnt n
  if !s.spdUsed n || !e.supen then
    if s.get (SPD_PST.SUP n) == 0 then s else ((s.put (SPD_PST.SUP n) 0).putB (SPD_PST.CMD n) false).spdDecide n s.nextBeatPhase
  else
    let cmd := s.outO e.stcell
    let was := s.flag (SPD_PST.CMD n)
    let st := s.get (SPD_PST.SUP n)
    let s := s.putB (SPD_PST.CMD n) cmd
    let s := if !cmd then (if st == 1 then s else s.setSup n 1)
      else if st ≤ 1 && (!was || st == 0) then s.setSup n 2
      else s
    if s.get (SPD_PST.SUP n) == st then s else s.spdSettled n

/-- TACHT has passed in WAITING (R342, R343). -/
def State.tachtExpiry (s : State) (n : Nat) : State :=
  if s.spdUsed n && s.get (SPD_PST.SUP n) == 2 && (s.spdEnt n).tacht * 100000 ≤ s.since (s.spdOf n).tachtAt then
    let s := s.setSup n (if s.wiringBad n then 5 else 4)
    s.spdDecide n s.nextBeatPhase
  else s

def execTachtExpiry (n : Fin 8) (s : State) : Host.Outcome State Fault Refusal := act s (fun s => s.tachtExpiry n.val)

/-! ### Measurement (R328 to R332, R334, R335) -/

/-- Restart the measurement (R330). -/
def SpdS.restart (d : SpdS) : SpdS := { d with edges := [], rev := 0, mean := 0, frames := [] }

/-- Every input in use restarts: an image is applied. -/
def State.spdRestartAll (s : State) : State :=
  (List.range 8).foldl (fun (s : State) (n : Nat) =>
    if s.spdUsed n then (s.setSpd n { (s.spdOf n).restart with lastAt := s.sampleNow }).spdSettled n else s) s

/-- Intervals averaged (R330, R341). -/
def Entry.avgn (e : Entry) : Nat := orElse (e.f 8 35 26) (if e.kind == 2 then 8 else e.teeth)

/-- The speed of the accepted edges, and the mean interval in samples. -/
def edgeSpeed (e : Entry) (edges : List Nat) (back : Bool) : Rat × Rat :=
  let m := min e.avgn (edges.length - 1)
  let dt := edges.getD 0 0 - edges.getD m 0
  if m == 0 || dt == 0 || e.teeth == 0 then (0, 0)
  else
    let r : Rat := (m : Rat) * 40000000 / dt / e.teeth
    (if back then -r else r, (dt : Rat) / m)

/-- A quadrature edge counts up: A leads B in the forward direction (R332). -/
def quadUp (chB rising other qdir : Bool) : Bool := ((rising != other) != chB) != qdir

/-- An accepted edge (R330, R332). -/
def State.spdEdge (s : State) (n : Nat) (chB rising other : Bool) (k : Nat) : State :=
  let e := s.spdEnt n
  let d := s.spdOf n
  if !s.spdUsed n || e.kind ≥ 2 || (e.kind == 0 && (chB || !rising)) || (!d.edges.isEmpty && s.sampleOf k ≤ d.edges.headD 0) then s
  else
    let q := e.kind == 1
    let step : Int := if !q then 1 else if quadUp chB rising other (e.b 8 25) then 1 else -1
    let err := q && d.lastCh == some (!chB)
    let d := { d with count := d.count + step, lastCh := if q then some (!chB) else none, errs := if err then d.errs + 1 else d.errs }
    let counting := !chB && rising
    let d := if counting && q then { d with back := other != e.b 8 25 } else d
    let d :=
      if counting then
        let l := (s.sampleOf k :: d.edges).take (e.avgn + 1)
        let (r, m) := edgeSpeed e l d.back
        { d with edges := l, rev := r, mean := m, still := false, lastAt := s.sampleOf k }
      else d
    let qe := q && d.errs ≥ 3 && !s.flag (SPD_PST.QERR n)
    let d := if qe || s.flag (SPD_PST.QERR n) || s.wiringBad n then d.restart else d
    let s := s.setSpd n d
    let s := if qe then s.putB (SPD_PST.QERR n) true else s
    let s := if counting then s.put (SPD_PER.PER n) (satAt (2 ^ 32 - 1) (roundRat d.mean).toNat) else s
    s.spdSettle n (4 * s.t.run + k / 10 + 2)

def execSpeedEdgeAccept (n : Fin 8) (chB rising other : Bool) (sample : Fin 40) (s : State) : Host.Outcome State Fault Refusal :=
  act s (fun s => s.spdEdge n.val chB rising other sample.val)

/-- Decay of the speed while no edge arrives, recomputed at every beat (R331). -/
def State.spdDecay (s : State) (n : Nat) : State :=
  let e := s.spdEnt n
  let d := s.spdOf n
  if !s.spdUsed n || e.kind ≥ 2 || d.edges.length < 2 || d.still || e.teeth == 0 then s
  else
    let tau := s.sampleOf 0 - d.edges.getD 0 0
    if (tau : Rat) ≤ d.mean then s
    else
      let r : Rat := 40000000 / ((e.teeth : Rat) * tau)
      (s.setSpd n { d with rev := if d.back then -r else r }).spdSettled n

/-- STANDT has passed without an edge, or with the position unchanged (R331, R341). -/
def State.standstill (s : State) (n : Nat) : State :=
  let d := s.spdOf n
  let e := s.spdEnt n
  if !s.spdUsed n || d.still || s.sampleNow < d.lastAt + e.standt * 40000 then s
  else
    let d := if e.kind == 2 then { d with rev := 0, still := true } else { d.restart with still := true }
    (s.setSpd n d).spdSettled n

def execStandstillTimeout (n : Fin 8) (s : State) : Host.Outcome State Fault Refusal := act s (fun s => s.standstill n.val)

/-- A window of 1000 beats ends, and the next begins, at a multiple of 1000 in the round (R334). -/
def State.rangeWindow (s : State) (n : Nat) : State :=
  let e := s.spdEnt n
  let d := s.spdOf n
  let lim := fmaxe e / 1000
  if s.t.usec % 1000 != 0 || d.winAt == some s.t.run then s
  else
    let s := s.setSpd n { d with raws := 0, winAt := some s.t.run }
    if !s.spdUsed n || e.kind ≥ 2 then s
    else if (d.raws : Rat) > lim then (s.putB (SPD_PST.OVR n) true).spdSettled n
    else if s.flag (SPD_PST.OVR n) && (d.raws : Rat) ≤ lim * 9 / 10 then
      ((s.setSpd n (s.spdOf n).restart).putB (SPD_PST.OVR n) false).spdSettled n
    else s

def execOverrangeWindowEnd (n : Fin 8) (s : State) : Host.Outcome State Fault Refusal := act s (fun s => s.rangeWindow n.val)

/-- A raw transition of a counting input; `rejected` says that the filter discards one (R328, R334, R347). -/
def State.rawTransition (s : State) (n : Nat) (rising rejected : Bool) : State :=
  if !s.spdUsed n || (s.spdEnt n).kind ≥ 2 then s
  else
    let s := s.rangeWindow n
    let d := s.spdOf n
    let s := s.setSpd n { d with raws := if rising then d.raws + 1 else d.raws }
    if rejected then s.inc (SPD_CNT.REJ n) else s

def execSpeedRawTransition (n : Fin 8) (rising rejected : Bool) (s : State) : Host.Outcome State Fault Refusal :=
  act s (fun s => s.rawTransition n.val rising rejected)

/-- A wiring condition has held, or been absent, for `held` beats; 100 ms count (R335); rule 4 of R336 restarts the speed. -/
def State.wiring (s : State) (n : Nat) (short raised : Bool) (held : Nat) : State :=
  let e := s.spdEnt n
  if held < 100000 || (raised && (!s.spdUsed n || e.owoff || (short && e.kind != 0))) then s
  else
    let s := s.putB (if short then SPD_PST.SHORT n else SPD_PST.OPEN n) raised
    let s := if raised then s.setSpd n (s.spdOf n).restart else s
    s.spdSettled n

def execSpeedWiringFault (n : Fin 8) (short : Bool) (raised : Held) (s : State) : Host.Outcome State Fault Refusal :=
  act s (fun s => s.wiring n.val short raised.now raised.held.toNat)

/-- A round boundary: QERR clears when the round that ends held no sequence error (R332). -/
def State.qerrRound (s : State) (n : Nat) : State :=
  let d := s.spdOf n
  if s.flag (SPD_PST.QERR n) && d.errs == 0 then
    ((s.setSpd n d.restart).putB (SPD_PST.QERR n) false).spdSettled n
  else s.setSpd n { d with errs := 0 }

/-! ### SSI (R340, R341) -/

/-- A frame begins at phase 0 of a beat on its period. -/
def State.ssiStart (s : State) (n : Nat) : State :=
  let e := s.spdEnt n
  let d := s.spdOf n
  if s.spdUsed n && e.kind == 2 && s.micros % e.ssiper == 0 && d.frameAt != some s.t.run then
    s.setSpd n { d with inFrame := true, frameAt := some s.t.run }
  else s

def execSsiFrameStart (n : Fin 8) (s : State) : Host.Outcome State Fault Refusal := act s (fun s => s.ssiStart n.val)

/-- Every bit of the frame in progress has been clocked. -/
def State.frameOver (s : State) (n : Nat) : Bool :=
  let e := s.spdEnt n
  let d := s.spdOf n
  d.inFrame && match d.frameAt with
    | some b => decide (4000 * (e.ssibits + 1) ≤ (s.phaseNo - 4 * b) * ssiClock (e.f 4 29 26))
    | none => false

/-- Binary of a Gray-coded number of `b` bits. -/
def grayToBin (b w : Nat) : Nat := ofMsb (((msbBits b w).foldl (fun (p : List Bool × Bool) x => let y := p.2 != x; (p.1 ++ [y], y)) ([], false)).1)

/-- Difference of two positions modulo 2^b, signed. -/
def posDiff (b new old : Nat) : Int := signed b (new + 2 ^ b - old)

/-- The speed of the last positions, newest first (R341). -/
def ssiSpeed (e : Entry) (frames : List Nat) : Rat :=
  let m := min e.avgn (frames.length - 1)
  if m == 0 then 0
  else
    let sum := ((List.range m).map (fun i => posDiff e.ssibits (frames.getD i 0) (frames.getD (i + 1) 0))).sum
    (sum : Rat) * 1000000 / (2 ^ e.ssibits * m * e.ssiper)

/-- A frame ends: its start bit, and its position bits right-aligned. -/
def State.ssiEnd (s : State) (n : Nat) (start : Bool) (raw : Nat) : State :=
  let e := s.spdEnt n
  let d := s.spdOf n
  if !s.spdUsed n || e.kind != 2 || !s.frameOver n then s
  else if start then
    let d := { d with badStart := d.badStart + 1, inFrame := false }
    (s.setSpd n (if d.badStart ≥ 3 then d.restart else d)).spdSettled n
  else
    let b := e.ssibits
    let pos := if e.b 8 24 then grayToBin b (raw % 2 ^ b) else raw % 2 ^ b
    let moved := d.count != (pos : Int)
    let l := (pos :: d.frames).take (e.avgn + 1)
    let at_ := if moved then s.sampleNow else d.lastAt
    let d := { d with
      frames := l, rev := ssiSpeed e l, count := pos, badStart := 0, inFrame := false, still := d.still && !moved, lastAt := at_ }
    (s.setSpd n (if s.wiringBad n then d.restart else d)).spdSettled n

def execSsiFrameEnd (n : Fin 8) (start : Bool) (raw : BitVec 32) (s : State) : Host.Outcome State Fault Refusal :=
  act s (fun s => s.ssiEnd n.val start raw.toNat)

/-! ### Adoption and validation (R345) -/

/-- A speed entry passes validation against the cached copy's KIND. -/
def spdValid (e cached : Entry) (image : Bool) : Bool :=
  let k := e.getD 11 0
  let ex := fld k 34 27
  (image || cached.isEmpty || e.kind == cached.kind) &&
  (!e.en ||
    (e.kind != 3 && (e.spdClass == 2 || e.spdClass == 3 || e.spdClass == 6) && (e.teeth != 0 || e.kind == 2) &&
     !e.b 9 31 && !e.b 10 31 && ex != 255 && !(ex == 0 && e.spdClass != 6) &&
     (e.kind != 2 ||
       (8 ≤ e.ssibits && e.ssibits ≤ 32 && ssiClock (e.f 4 29 26) != 0 &&
        ((e.ssibits + 1 : Nat) : Rat) * 1000 / ssiClock (e.f 4 29 26) + 30 ≤ e.ssiper))))

/-- What adopting a speed entry does beside replacing the cached copy; a force in effect shows in the mirror in the same beat
(R103). -/
def State.adoptSpd (s : State) (n : Nat) (old new : Entry) : State :=
  let d := s.spdOf n
  let same := !old.isEmpty && old.supen == new.supen && old.stcell == new.stcell
  let ran := !old.isEmpty && old.en
  let s := s.setSpd n { d.restart with
    lastCh := none, still := d.still && ran, inFrame := false
    lastAt := if d.still && ran then d.lastAt else s.sampleNow
    mirDue := if (s.cacheOf (176 + n)).forced then some s.t.run else d.mirDue }
  let s := if new.en && !new.owoff then s else (s.putB (SPD_PST.OPEN n) false).putB (SPD_PST.SHORT n) false
  let s := if new.en then s else (s.putB (SPD_PST.OVR n) false).putB (SPD_PST.QERR n) false
  let s := if new.en && new.supen then (if same && old.en then s else (s.putB (SPD_PST.CMD n) false).setSup n 1) else (s.put (SPD_PST.SUP n) 0)
  s.spdSettled n

/-- The speed and position words of an input are written, at phase 2 of a beat in which they are due (R339). -/
def execSpeedMirrorWrite (n : Fin 8) (s : State) : Host.Outcome State Fault Refusal :=
  act s (fun s => if s.t.phase == 2 && s.mirrorDue n.val then s.spdMirror n.val else s)

/-- What the time of the speed island has brought: ends of windows, frame starts, standstill, expiry of TACHT. -/
def State.spdSweep (s : State) : State :=
  if !s.alive 18 then s
  else (List.range 8).foldl (fun (s : State) (n : Nat) => (((s.rangeWindow n).ssiStart n).standstill n).tachtExpiry n) s

end Sys2Proof.Machine
end

