-- ==== Sys2Proof/Machine/Lattice.lean ====
section
/-! DEFINITION. The waves of the Beryl lattice (chapter 6): what is presented to it, its evaluation, and what its outputs
drive. -/
namespace Sys2Proof.Machine

open Sys2Proof

/-! ### Alarm points, and what their registers show (R211, R212, R219) -/

def State.almOf (s : State) (n : Nat) : AlmS := s.alm.pts.getD n AlmS.fresh
def State.setAlm (s : State) (n : Nat) (a : AlmS) : State := { s with alm := { s.alm with pts := s.alm.pts.set n a } }

/-- The adopted entry of an alarm point. -/
def State.almEnt (s : State) (n : Nat) : Entry := (s.almOf n).cache.words

def Entry.pri (e : Entry) : Nat := e.f 0 26 24
def Entry.group (e : Entry) : Nat := e.f 0 23 18
def Entry.srck (e : Entry) : Bool := e.b 0 17
def Entry.shmax (e : Entry) : Nat := orElse (e.f 2 11 0) 480

/-- On-delay and off-delay in beats (R209). -/
def Entry.nOn (e : Entry) : Nat := if e.f 8 23 0 != 0 then e.f 8 23 0 else e.f 2 35 24 * 100000
def Entry.nOff (e : Entry) : Nat := if e.f 9 23 0 != 0 then e.f 9 23 0 else e.f 2 23 12 * 100000

/-- State of a point (R211). -/
def State.almState (s : State) (n : Nat) : Nat := s.get (ALM_PST.STATE n)

/-- Points that are not UNUSED, ascending. -/
def State.almPoints (s : State) : List Nat := (s.alm.pts.map (·.1)).filter (fun n => n < 1024 && s.almState n != 7)

/-- Points of a group: those with EN = 1 (R219). -/
def State.groupPoints (s : State) (g : Nat) : List Nat := s.almPoints.filter (fun n => (s.almEnt n).group == g)

/-- ALM_GSTg as the engine's work leaves it (R233). -/
def State.gstNow (s : State) (g : Nat) : Word :=
  let p := s.groupPoints g
  let held := (p.filter (fun n => s.almState n == 5 && (s.almOf n).held)).length
  let w := (s.reg (ALM_GST g)).toNat
  W (setBits (setBit (setBit w 34 (p.any (fun n => s.almState n == 1 || s.almState n == 2))) 33
    (p.any (fun n => s.almState n == 1 || s.almState n == 3))) 13 3 held)

/-- Bits of ALM_PSTn that a change of state moves: STATE, BWHY and FO. -/
def pstMask : Nat := 7 <<< 33 + 7 <<< 27

/-- Phase 2: ALM_PSTn and ALM_GSTg show the work of the beat. -/
def State.showAlarms (s : State) : State :=
  if s.alm.pts.isEmpty && s.alm.shown.isEmpty then s
  else { s with alm := { s.alm with
    shown := s.alm.pts.map (fun p => (p.1, (s.reg (ALM_PST p.1)).toNat &&& pstMask))
    gst := (List.range 64).map (fun g => (g, s.gstNow g)) } }

/-! ### Sources (R179, R193) -/

/-- The node status bits of class 8. -/
def State.nodeStatus (s : State) : Nat :=
  maskOf ([s.mode] ++ (if s.flag TIM_DSTAT.TRUST then [4] else []) ++ (if s.flag JL_STAT.PART then [5] else [])
    ++ (if s.flag TIM_MSTAT.MISMATCH then [6] else []) ++ (if s.bl.applyRound == some s.t.round then [7] else [])
    ++ ((List.range 16).filter (fun k => s.alive k && !(s.islOf k).lost)).map (8 + ·)
    ++ (if s.alive 16 then [24] else []) ++ (if s.alive 17 then [25] else []) ++ (if s.alive 18 then [26] else [])
    ++ (if s.t.usec == 0 then [27] else []) ++ (if s.flag JL_STAT.INSTEP then [28] else []))

/-- The pair-fault and disagreement conditions (R399). -/
def State.pairFault (s : State) : Bool :=
  if s.replays then bit s.jl.link.inp.nst 29
  else (s.flag JL_CFG.EN && !s.flag JL_STAT.INSTEP) || s.get JL_STAT.PARTNER == 8
def State.disagrees (s : State) : Bool :=
  if s.replays then bit s.jl.link.inp.nst 30
  else s.pstate == 2 && (s.jl.link.rx.map (·.ddf)).getD false

/-- The mirror word last presented (class 7 and THR). -/
def State.presentedWord (s : State) (i : Nat) : Word :=
  if s.replays then s.jl.link.inp.mir.getD i noValue else s.bl.presented.getD i noValue

/-- Class 2 to 11 as this unit's own inputs give it. -/
def State.ownSource (s : State) (cls i : Nat) : Bool :=
  match cls with
  | 2 => if i % 2 == 0 then (s.stageBits (i / 2)).1 else (s.stageBits (i / 2)).2
  | 3 => bit (s.bl.lims.getD (i / 16) 0) (if i % 2 == 0 then 8 + i / 2 % 8 else i / 2 % 8)
  | 4 => s.dioSignal (i / 4) (i % 4)
  | 5 => bit (s.spdOf (i / 8)).pres (i % 8)
  | 6 => s.bl.pres6.contains i
  | 7 => wbit (s.bl.presented.getD i noValue) 35
  | 8 => bit s.nodeStatus i
  | 9 => s.bl.pres9.contains i
  | 10 => s.bl.pres10.contains i
  | 11 => s.bitOf (BL_HSIG.SIG (i / 32)) (i % 32)
  | _ => false

/-- Class 2 to 11: a standby on the replay takes classes 2 to 8 and 11 from it (R193). -/
def State.source (s : State) (cls i : Nat) : Bool :=
  if !s.replays then s.ownSource cls i
  else
    let r := s.jl.link.inp
    match cls with
    | 2 => bit (r.cmp.getD (i / 16) 0) (if i % 2 == 0 then 8 + i / 2 % 8 else i / 2 % 8)
    | 3 => bit (r.lim.getD (i / 2) 0) (if i % 2 == 0 then 1 else 0)
    | 4 => bit (r.dis.getD (i % 4) 0) (i / 4)
    | 5 => if i < 32 then bit r.spd0 i else bit r.spd1 (i - 32)
    | 6 => r.rx.getD i false
    | 7 => wbit (r.mir.getD i noValue) 35
    | 8 => bit r.nst i
    | 11 => if i < 32 then bit r.hsig0 i else bit r.hsig1 (i - 32)
    | _ => s.ownSource cls i

/-- The precise limit bits that island k presents at phase 2 (R118, R179); without its strobes the last ones stand (R180). -/
def State.presentLims (s : State) (k : Nat) : State :=
  if !s.alive k || (s.islOf k).lost then s
  else { s with bl := { s.bl with lims := s.bl.lims.set k (s.get (FI_LBITS.LHI k) * 256 + s.get (FI_LBITS.LLO k)) } }

/-- Phase 2: words due are written, Opal's station outputs reach the discrete island, mirror words written since the last phase 2
and precise limit bits are presented (R179, R242, R304, R339). -/
def State.phase2 (s : State) : State :=
  let s := s.dioFlush.spdFlush.loPhase2.showAlarms
  let outs := s.get OPL_CALLED.STA
  let s := if s.opl.outs == outs then s else ({ s with opl := { s.opl with outs := outs } }).dioOutputs
  let now := s.bl.written.foldl (fun (t : Tbl Word) (p : Nat × Word) => t.set p.1 p.2) s.bl.presented
  let s := { s with bl := { s.bl with presented := now, written := [] } }
  (List.range 16).foldl State.presentLims s

/-! ### Recording for the partner, and replaying (R389, R390, R393) -/

/-- This unit's own inputs in the form of the replay. -/
def State.ownInputs (s : State) : RepIn :=
  let dis := fun sig => maskOf ((List.range 32).filter (fun n => s.dioSignal n sig))
  let sp := fun lo => ((List.range 4).map (fun n => (s.spdOf (lo + n)).pres <<< (8 * n))).sum
  { cmp := (List.range 16).map (fun k => (k, maskOf ((List.range 8).flatMap (fun j =>
      let b := s.stageBits (8 * k + j)
      (if b.1 then [8 + j] else []) ++ (if b.2 then [j] else [])))))
    dis := (List.range 4).map (fun g => (g, dis g))
    spd0 := sp 0, spd1 := sp 4
    rx := s.bl.pres6.map (fun i => (i, true))
    nst := s.nodeStatus + s.pairFault.toNat <<< 29 + s.disagrees.toNat <<< 30
    hsig0 := s.get (BL_HSIG.SIG 0), hsig1 := s.get (BL_HSIG.SIG 1)
    lim := []
    mir := s.bl.presented
    raw := [] }

/-- The active records what the lattice inputs of this wave change (R390). -/
def State.recordInputs (s : State) : State :=
  let p := s.t.phase
  let a := s.jl.link.told
  let b := s.ownInputs
  let recs : List JRec :=
    (b.cmp.filterMap (fun x => if a.cmp.getD x.1 0 == x.2 then none else some ⟨1, p, x.1 <<< 20 + x.2, []⟩))
    ++ (b.dis.filterMap (fun x => if a.dis.getD x.1 0 == x.2 then none else some ⟨2, p, x.1 <<< 22, [W x.2]⟩))
    ++ (if a.spd0 == b.spd0 && a.spd1 == b.spd1 then [] else [⟨3, p, 0, [W b.spd0, W b.spd1]⟩])
    ++ (b.mir.filterMap (fun x => if a.mir.getD x.1 noValue == x.2 then none else some ⟨4, 2, x.1, [x.2]⟩))
    ++ (b.rx.filterMap (fun x => if a.rx.getD x.1 false then none else some ⟨6, p, 2 ^ 23 + x.1, []⟩))
    ++ (a.rx.filterMap (fun x => if !x.2 || b.rx.getD x.1 false then none else some ⟨6, p, x.1, []⟩))
    ++ (if a.nst == b.nst then [] else [⟨7, p, 0, [W b.nst]⟩])
    ++ (if a.hsig0 == b.hsig0 && a.hsig1 == b.hsig1 then [] else [⟨8, p, 0, [W b.hsig0, W b.hsig1]⟩])
  { s with jl := { s.jl with link := { s.jl.link with told := b, outRecs := s.jl.link.outRecs ++ recs } } }

/-- A record's effect on the replayed inputs; a mirror word of a channel decides its precise limits (class 3). -/
def State.replayRec (s : State) (r : RepIn) (x : JRec) : RepIn :=
  let w := fun i => (x.words.getD i 0).toNat
  match x.rtype with
  | 1 => { r with cmp := r.cmp.set (bits x.typ 23 20) (bits x.typ 15 0) }
  | 2 => { r with dis := r.dis.set (bits x.typ 23 22) (bits (w 0) 31 0) }
  | 3 => { r with spd0 := bits (w 0) 31 0, spd1 := bits (w 1) 31 0 }
  | 4 =>
    let i := bits x.typ 11 0
    let v := x.words.getD 0 0
    let l := r.lim.getD i 0
    let (h, o) := limitBits (s.entry i) v (bit l 1) (bit l 0)
    { r with mir := r.mir.set i v, lim := if i < 128 then r.lim.set i (h.toNat * 2 + o.toNat) else r.lim }
  | 5 => { r with raw := r.raw.set (bits x.typ 6 0) (x.words.getD 0 0) }
  | 6 => { r with rx := r.rx.set (bits x.typ 11 0) (bit x.typ 23) }
  | 7 => { r with nst := w 0 }
  | 8 => { r with hsig0 := bits (w 0) 31 0, hsig1 := bits (w 1) 31 0 }
  | _ => r

/-- The replayed inputs of this phase of the beat of work. -/
def State.applyReplay (s : State) : State :=
  match s.jl.link.replay.find? (fun b => b.beat == s.workBeat) with
  | none => s
  | some b =>
    let inp := (b.recs.filter (fun x => x.phase == s.t.phase)).foldl s.replayRec s.jl.link.inp
    { s with jl := { s.jl with link := { s.jl.link with inp := inp } } }

/-! ### A wave (R172, R173, R181) -/

/-- One selected input of a cell in this wave: `now` holds the cells evaluated so far, `s` those of the waves before. -/
def inputOf (s : State) (now : Tbl CellS) (x : Nat) : Bool :=
  let i := bits x 11 0
  let latest := ((now.get? i).map (fun c => c.hist.headD (false, false))).getD (false, false)
  let v :=
    match bits x 15 12 with
    | 0 => i == 1
    | 1 => latest.1
    | 13 => latest.2
    | 12 => ((s.cellOf i).hist.getD 15 (false, false)).1
    | c => s.source c i
  v != bit x 17

/-- Evaluate one cell in this wave. -/
def waveCell (s : State) (now : Tbl CellS) (p : Nat × CellCfg) : Tbl CellS :=
  let (c, cf) := p
  let st := s.cellOf c
  let ins := maskOf ((cf.ins.zipIdx.filter (fun x => inputOf s now x.1)).map (·.2))
  let wave := 4 * s.workBeat.toNat + s.t.phase
  let (own, st') := evalCell cf st ins (s.presentedWord (fld cf.p0 11 0)) wave
  let seen := (s.forceOf c).getD own
  now ++ [(c, { st' with hist := (seen :: st.hist).take 17 })]

/-- The stamp of the wave that entered `r` phases ago. -/
def State.waveStamp (s : State) (r : Nat) : Word × Word :=
  let m := (s.micros - s.lag) * 4 + s.t.phase - r
  (W (m / 4 / 1000000), mkTs1 (m / 4 % 1000000) (m % 4) (s.flag TIM_DSTAT.TRUST) (s.flag JL_STAT.PART))

/-- Queue the events of a change of a cell's O (R190). -/
def State.cellEvent (s : State) (c : Nat) (cf : CellCfg) (o : Bool) : State :=
  let (t0, t1) := s.waveStamp (c / 256)
  let s :=
    if cf.txen then
      if s.bl.netQ.length ≥ 256 then s.inc BL_QOVF.TXLOST
      else { s with bl := { s.bl with netQ := s.bl.netQ ++ [⟨c, o, cf.txidx, cf.priv, t0, t1, s.workBeat⟩] } }
    else s
  if bit cf.recedge (if o then 0 else 1) then
    if s.bl.recQ.length ≥ 256 then s.inc BL_QOVF.RECLOST
    else { s with bl := { s.bl with recQ := s.bl.recQ ++ [⟨c, o, cf.rset, false, t0, t1, s.workBeat⟩] } }
  else s

/-- The recorder accepts the events queued for it as triggers of class 5 (R422, R424). -/
def State.recordCells (s : State) : State :=
  if !s.alive 24 then s
  else
    s.bl.recQ.foldl (fun (s : State) (e : LatEv) => s.trigger 5 0 e.cell e.ts0 e.ts1 (W (e.o.toNat <<< 35)) 0 (some e.idx))
      { s with bl := { s.bl with recQ := [] } }

/-- A rising output triggers the lists whose CELL it is (R130). -/
def State.cellScan (s : State) (c : Nat) : State :=
  (List.range 16).foldl (fun s k => if s.alive k then (List.range 8).foldl (fun s n =>
    if s.flag (FI_SLCFG.TCELL k n) && s.get (FI_SLCFG.CELL k n) == c then s.scanTrigger k n else s) s else s) s

/-- What follows from the outputs delivered next: queued events, mirror words due, scan triggers, switches. -/
def State.deliver (s : State) : State :=
  let moved := s.bl.cfg.filter (fun p => s.delivered p.1 != (s.cellOf p.1).hist.getD (p.1 / 256 + 1) (false, false))
  let s := moved.foldl (fun s p => if s.outO p.1 != s.prevO p.1 then s.cellEvent p.1 p.2 (s.outO p.1) else s) s
  { s with bl := { s.bl with changed := s.bl.changed ++ (moved.map (·.1)).filter (fun c => !s.bl.changed.contains c) } }

/-- The deliveries of the phase, for the digest (R194). -/
def State.digestPhase (s : State) : State :=
  let l := (s.bl.cfg.map (fun p => (p.1, s.outO p.1, s.outA p.1))).filter (fun x => x.2.1 || x.2.2)
  { s with bl := { s.bl with dig := s.bl.dig ++ [l] } }

/-- A new wave enters rank 0, and the phase passes. -/
def State.waveIn (s : State) : State :=
  let s := ((List.range 16).foldl State.strobe s.sampleComps.dioPhase).spdPresent
  let s := if s.t.phase == 1 then s.loPhase1 else if s.t.phase == 2 then s.phase2 else s
  let s := if s.replays then s.applyReplay else if s.pstate == 2 then s.recordInputs else s
  let s := s.digestPhase
  let s := if s.flag BL_STAT.RUN then { s with bl := { s.bl with cells := s.bl.cfg.foldl (waveCell s) [] } } else s
  let s := s.deliver.recordCells
  let risen := (s.bl.cfg.map (·.1)).filter (fun c => s.outO c && !s.prevO c)
  let moved := (s.bl.cfg.map (·.1)).any (fun c => s.outO c != s.prevO c)
  let s := { s with t := { s.t with phase := min (s.t.phase + 1) 4 } }
  let s := risen.foldl State.cellScan s
  (if moved then s.dioOutputs else s).dioSigs

/-- A phase begins: what its requests have written counts as written before (R17). -/
def State.newPhase (s : State) : State := { s with mem := { s.mem with phaseW := [] } }

/-- A phase: a wave, unless the engines stand still (R410); a beat has four. -/
def State.enterWave (s : State) : State :=
  if s.t.phase ≥ 4 then s
  else (if s.still then { s with t := { s.t with phase := min (s.t.phase + 1) 4 } } else s.waveIn).newPhase

/-! ### Timed cells (R181, R182) -/

/-- The next wave is the one in which the timed length of a cell has run out, its timed input standing as it did in the last: O of an
ONDLY rises, O of an OFFDLY or of a stretched EDGE falls, the block of an INHIBIT ends, a COUNT goes back to 0. -/
def runsOut (cf : CellCfg) (st : CellS) : Bool :=
  match cf.typ with
  | 2 => st.own && st.timer == 0
  | 6 => bit st.ins 0 && !st.own && st.timer == 0
  | 7 => !bit st.ins 0 && st.own && st.timer == 0
  | 10 => timedLen cf.p1 != 0 && st.cnt > 0 && st.timer + 1 ≥ timedLen cf.p1
  | 11 => !bit st.ins 1 && st.ownA && st.timer == 0
  | _ => false

/-- A cell of a type stands before the wave that ends its timed length. -/
def State.expiryDue (s : State) (c typ : Nat) : Bool :=
  match s.bl.cfg.get? c with | some cf => cf.typ == typ && runsOut cf (s.cellOf c) | none => false

/-! ### Forces, host signals, parity (R37, R179, R192) -/

/-- A write of BL_CFORCEn takes effect. -/
def State.cellForce (s : State) (n : Nat) (v : Word) : State :=
  let w := setBits (v.toNat &&& 0xe00000fff) 32 32 (wbit v 35 && s.mode != 2).toNat
  let s := s.setReg (BL_CFORCE n) (W w)
  if wbit v 35 then s.needCell (fld v 11 0) else s

def execCellForceWrite (n : Fin 8) (v : Word) (s : State) : Host.Outcome State Fault Refusal :=
  act s (fun s => (s.consume (BL_CFORCE n.val) v).cellForce n.val v)

def execHostSignalWrite (w : Fin 2) (v : BitVec 32) (s : State) : Host.Outcome State Fault Refusal :=
  act s (fun s => (s.consume (BL_HSIG w.val) (W v.toNat)).put (BL_HSIG.SIG w.val) v.toNat)

/-- A parity failure of the configuration copy: SAFE cause 1. -/
def execLatticeParityFail (s : State) : Host.Outcome State Fault Refusal :=
  act s (fun s => ({ s with bl := { s.bl with parityBad := true } }).causeOn 1)

/-- The beat of work of the digest that the last four phases make (R194). -/
def State.digestBeat (s : State) : State :=
  let prev := s.workBeat
  ({ s with bl := { s.bl with digDone := s.bl.dig, dig := [] } }).setReg BL_DIGB prev

/-- The digest: 32,768 bits, O before A, cells 0 to 4095, the four phases in order (R194). -/
def latticeDigest (phases : List (List (Nat × Bool × Bool))) : Nat :=
  crc32cBits (((List.range 4).map (fun p => phases.getD p [])).flatMap (fun l =>
    (List.range 4096).flatMap (fun c =>
      match l.find? (fun x => x.1 == c) with
      | some x => [x.2.1, x.2.2]
      | none => [false, false])))

end Sys2Proof.Machine
end

