-- ==== Sys2Proof/Machine/Alarm.lean ====
section
/-! DEFINITION. The alarm engine (chapter 7): sampling, delays, states, commands, groups and floods. -/
namespace Sys2Proof.Machine

open Sys2Proof

/-! ### Condition and block (R206 to R208, R254, R399) -/

/-- The cell that names a point. -/
def State.feeder (s : State) (n : Nat) : Option (Nat × CellCfg) := s.bl.cfg.find? (fun c => c.2.almen && c.2.apt == n)

/-- A source spec at the sample; classes 1 and 13 give the delivered output. -/
def State.specAt (s : State) (x : Nat) : Bool :=
  let i := bits x 11 0
  (match bits x 15 12 with
   | 1 => s.outO i
   | 13 => s.outA i
   | c => s.source c i) != bit x 17

/-- Word i of Opal's table header. -/
def State.opalHead (s : State) (i : Nat) : Word := s.opl.cache.words.getD i 0

/-- A condition rule that governs the point in place of its entry, in the order of R399. -/
def State.special (s : State) (n : Nat) : Option Bool :=
  if s.flag TIM_MDOM.MMEN && s.get TIM_MDOM.MMAP == n then some (s.flag TIM_MSTAT.MISMATCH)
  else if wbit (s.opalHead 8) 1 && fld (s.opalHead 8) 11 2 == n then some (s.get OPL_STAT.DMST == 3)
  else if s.flag JL_ALM.PEN && s.get JL_ALM.PAP == n then some s.pairFault
  else if s.flag JL_ALM.DEN && s.get JL_ALM.DAP == n then some s.disagrees
  else none

/-- C and K of a point, and its NOFEED and CONFL. -/
def State.almSample (s : State) (n : Nat) : (Bool × Bool) × (Bool × Bool) :=
  let e := s.almEnt n
  let f := s.feeder n
  match s.special n with
  | some c => ((c, false), (false, f.isSome))
  | none =>
    let bspec := e.f 1 17 0
    let kb := bspec != 0 && s.specAt bspec
    if e.srck then ((s.specAt (e.f 1 35 18), kb), (false, f.isSome))
    else
      match f with
      | some (c, cf) => ((s.outO c, kb || (cf.typ == 11 && s.outA c)), (false, false))
      | none => ((false, kb), (true, false))

/-! ### State changes (R228 to R231) -/

/-- Body word a of an alarm telegram (R363). -/
def State.almWordA (s : State) (n : Nat) : Word :=
  let e := s.almEnt n
  W (s.almState n <<< 33 + e.pri <<< 30 + e.group <<< 24 + s.get (ALM_PST.FO n) <<< 23 + n <<< 13)

/-- The unit transmits on the legacy bus (R525, R535). -/
def State.legTx (s : State) : Bool :=
  s.drives && s.flag LEG_BCFG.TXEN && s.get LEG_BCFG.ADDR != 0 && (s.get LEG_BCFG.MODE == 1 || s.get LEG_BCFG.MODE == 2)

/-- A point changes state: its stamp, the interrupt source, as its entry asks a record and a telegram, and QSTAT.ATTN and
a legacy telegram for points 0 to 127 (R514, R525). -/
def State.almSet (s : State) (n st : Nat) : State :=
  if s.almState n == st then s
  else
    let e := s.almEnt n
    let s := ((s.put (ALM_PST.STATE n) st).setReg (ALM_PT_W0 n) s.wts0).setReg (ALM_PT_W1 n) s.wts1
    let s := s.raise HST_ISRC.ALARM
    let s := if e.b 0 15 then s.trigWork 4 1 n (s.reg (ALM_PST n)) 0 else s
    let body := [s.almWordA n, W (e.f 3 35 20 <<< 20), s.wts0, s.wts1]
    let s := if e.b 0 16 then { s with sn := { s.sn with almQ := s.sn.almQ ++ [(e.pri == 1, body, s.t.run)] } } else s
    if n < 128 then
      let s := s.putBit LEG_STAT.QSTAT 15 true
      if s.legTx then { s with alm := { s.alm with chg := s.alm.chg ++ [(s.almWordA n, s.t.run)] } } else s
    else s

/-- A change of a group's first-out raises a trigger (R230). -/
def State.foTrigger (s : State) (g : Nat) : State := s.trigWork 4 2 g (s.reg (ALM_GST g)) 0

/-- The group captures its first-out when the point qualifies, unless its first-out was reset in this beat (R221, R222). -/
def State.capture (s : State) (n : Nat) (noCap : List Nat) : State :=
  let e := s.almEnt n
  let g := e.group
  if s.flag (ALM_GCFG.FOEN g) && !s.flag (ALM_GST.FOVALID g) && !e.b 0 12 && e.pri != 0 && !noCap.contains g then
    (((s.putB (ALM_GST.FOVALID g) true).put (ALM_GST.FOPT g) n).putB (ALM_PST.FO n) true).foTrigger g
  else s

/-- Clear a group's first-out. -/
def State.foClear (s : State) (g : Nat) : State :=
  if s.flag (ALM_GST.FOVALID g) then
    let p := s.get (ALM_GST.FOPT g)
    (((s.putB (ALM_PST.FO p) false).putB (ALM_GST.FOVALID g) false).put (ALM_GST.FOPT g) 0).foTrigger g
  else s

/-! ### Transitions (R213, R214, R224, R227) -/

/-- FLPRI in force (R233). -/
def State.flpri (s : State) (g : Nat) : Nat :=
  match s.get (ALM_GCFG.FLPRI g) with | 0 => 2 | 1 => 1 | 2 => 2 | _ => 3

/-- The flood of its group holds back a point's annunciation (R224). -/
def State.floodHolds (s : State) (n : Nat) : Bool :=
  let e := s.almEnt n
  s.flag (ALM_GST.FLOOD e.group) && e.pri > s.flpri e.group && e.pri != 1

/-- Evaluate the transitions of a point; `noCap` names groups whose first-out was reset in this beat. -/
def State.almTrans (s : State) (noCap : List Nat) (n : Nat) : State :=
  let st := s.almState n
  if st == 7 then s
  else
    let e := s.almEnt n
    let a := s.almOf n
    let d := s.flag (ALM_PST.DEL n)
    let k := s.flag (ALM_PST.BLK n)
    let fl := s.floodHolds n
    let held := a.held && d && fl
    let ovl := a.oos || a.shelved || k || held
    -- the row for NORMAL applies to a point that is NORMAL or leaves every overlay
    let fromNormal := st == 0 || st ≥ 4
    let held := held || (!ovl && fromNormal && d && fl)
    let act := if e.pri == 0 then 2 else 1
    let new :=
      if a.oos then 6
      else if a.shelved then 4
      else if k || held then 5
      else if fromNormal then (if d then act else 0)
      else match st with
        | 1 => if d then act else if e.pri == 0 then 0 else 3
        | 2 => if d then 2 else 0
        | _ => if d then act else if e.pri == 0 then 0 else 3
    let s := if held == a.held then s else s.setAlm n { a with held := held }
    let why := if new == 5 then (if k then 1 else 2) else 0
    let s := if s.get (ALM_PST.BWHY n) == why then s else s.put (ALM_PST.BWHY n) why
    let s := if st == 0 && new == 1 then s.capture n noCap else s
    s.almSet n new

/-! ### Commands (R215 to R217, R222) -/

/-- Acknowledge a point; true when it changes. A point of priority 0 is beyond it. -/
def State.ack (s : State) (n : Nat) : State × Bool :=
  match (if (s.almEnt n).pri == 0 then 0 else s.almState n) with
  | 1 => (s.almSet n 2, true)
  | 3 => (s.almSet n 0, true)
  | _ => (s, false)

/-- Acknowledge points; the number that change. -/
def State.ackAll (s : State) (l : List Nat) : State × Nat :=
  l.foldl (fun p n => let r := p.1.ack n; (r.1, p.2 + r.2.toNat)) (s, 0)

/-- A point is unacknowledged. -/
def State.unacked (s : State) (n : Nat) : Bool := s.almState n == 1 || s.almState n == 3

/-- OK with a count, or NOCHANGE. -/
def counted (s : State) (k : Nat) : State × Nat × Nat := (s, if k == 0 then 1 else 0, k)

/-- Apply a command: result and points changed (R216). -/
def State.almApply (s : State) (c : EngCmd) : State × Nat × Nat :=
  let op := fld c.w 35 32
  let arg := fld c.w 31 16
  let n := fld c.w 9 0
  let g := fld c.w 5 0
  let a := s.almOf n
  let e := s.almEnt n
  let used := s.almState n != 7
  match op with
  | 1 => if !used then (s, 3, 0) else let r := s.ack n; counted r.1 r.2.toNat
  | 2 => let r := s.ackAll (s.groupPoints g); counted r.1 r.2
  | 3 =>
    if !used then (s, 3, 0)
    else if !e.b 0 14 || e.pri == 1 || a.oos then (s, 4, 0)
    else if arg > e.shmax then (s, 5, 0)
    else ((s.setAlm n { a with shelved := true }).put (ALM_PST.SHLEFT n) (60 * orElse arg e.shmax), 0, 1)
  | 4 =>
    if !used then (s, 3, 0)
    else if a.shelved then ((s.setAlm n { a with shelved := false }).put (ALM_PST.SHLEFT n) 0, 0, 1)
    else (s, 1, 0)
  | 5 =>
    if (s.groupPoints g).any s.unacked then (s, 6, 0)
    else if s.flag (ALM_GST.FOVALID g) then (s.foClear g, 0, 1)
    else (s, 1, 0)
  | 6 =>
    if !c.keyed then (s, 7, 0)
    else if !used then (s, 3, 0)
    else if a.oos then (s, 1, 0)
    else ((s.setAlm n { a with oos := true, shelved := false }).put (ALM_PST.SHLEFT n) 0, 0, 1)
  | 7 =>
    if !c.keyed then (s, 7, 0)
    else if !used then (s, 3, 0)
    else if a.oos then (s.setAlm n { a with oos := false }, 0, 1)
    else (s, 1, 0)
  | 8 =>
    let r := s.ackAll (if c.via == 2 || c.via == 4 then s.almPoints.filter (· < 128) else s.almPoints)
    counted r.1 r.2
  | _ => (s, 2, 0)

/-- ALM_CRES of a command of the host, if it is the last one given, and CMDERR where QCMD issued it (R233, R516). -/
def State.almCres (s : State) (c : EngCmd) (res changed : Nat) : State :=
  let s :=
    if c.rqid != s.alm.cmdNo then s
    else ((s.put ALM_CRES.RESULT res).put ALM_CRES.CHANGED changed).putB ALM_CRES.PEND false
  if c.via == 4 || s.leg.viaQ then
    ({ s with leg := { s.leg with viaQ := false } } : State).putBit LEG_STAT.QSTAT 9 (res != 0 && res != 1)
  else s

/-- Report a command's result where it came from (R215, R232, R367, R516). -/
def State.almReport (s : State) (c : EngCmd) (res changed : Nat) : State :=
  match c.via with
  | 0 | 4 => s.almCres c res changed
  | 1 => s.respond 2 c.rqid 0 c.src c.grp [W (res <<< 32 + changed)]
  | _ => s

/-- Words by which a command reaches the partner: OP 8 of the legacy paths, restricted to points 0 to 127, goes as an
acknowledge of each of them. -/
def State.almWords (s : State) (c : EngCmd) : List Word :=
  if (c.via == 2 || c.via == 4) && fld c.w 35 32 == 8 then
    (s.almPoints.filter (fun n => n < 128 && s.unacked n)).map (fun n => W (1 <<< 32 + n))
  else [c.w]

/-- Apply a command, record it for the partner, report it; with the group whose first-out it reset. -/
def State.almCommand (s : State) (c : EngCmd) : State × List Nat :=
  let s := (s.almWords c).foldl (fun (s : State) (w : Word) => s.record ⟨9, 0, c.keyed.toNat <<< 22, [w]⟩) s
  let r := s.almApply c
  (r.1.almReport c r.2.1 r.2.2, if fld c.w 35 32 == 5 && r.2.1 == 0 then [fld c.w 5 0] else [])

/-- Apply commands in order; with the groups whose first-out they reset. -/
def State.almCommands (s : State) (l : List EngCmd) : State × List Nat :=
  l.foldl (fun p c => let r := p.1.almCommand c; (r.1, p.2 ++ r.2)) (s, [])

/-- The engine evaluates points: an image has been applied since the reset, and no resync awaits its apply (R205, R215). -/
def State.almRuns (s : State) : Bool := s.life.applied && !s.img.resync

/-- A command arrives: queued for the next beat, discarded before the first apply or when the queue is full, carried to the active
by a standby (R215, R232). -/
def State.almQueue (s : State) (c0 : EngCmd) : State :=
  let local_ := c0.via == 0 || c0.via == 4
  let s : State := if local_ then { s with alm := { s.alm with cmdNo := s.alm.cmdNo + 1 } } else s
  let c := if local_ then { c0 with rqid := s.alm.cmdNo } else c0
  if !s.almRuns then s.almReport c 9 0
  else if s.replays then
    if !local_ then s
    else
      let l := s.almWords c
      if l.isEmpty then s.almReport c 1 0
      else
        let s := l.foldl (fun (s : State) (w : Word) => s.sendRec ⟨9, 0, c.keyed.toNat <<< 22, [w]⟩) s
        ({ s with
            alm := { s.alm with asked := s.alm.asked ++ l }
            leg := { s.leg with viaQ := s.leg.viaQ || c.via == 4 } } : State).putB ALM_CRES.PEND true
  else if s.alm.cmds.length ≥ 16 then s.almReport c 8 0
  else
    let s := { s with alm := { s.alm with cmds := s.alm.cmds ++ [c] } }
    if local_ then s.putB ALM_CRES.PEND true else s

/-- Command records of the beat of work, for the alarm engine or for Opal (R232, R256, R389). -/
def State.replayCmds (s : State) (opl : Bool) : List JRec :=
  match (if s.replays then s.jl.link.replay.find? (fun b => b.beat == s.workBeat) else none) with
  | some b => b.recs.filter (fun x => x.rtype == 9 && bit x.typ 23 == opl)
  | none => []

/-- The commands that the active applied in the beat of work; one carried from here reports to its register. -/
def State.almReplay (s : State) : State :=
  (s.replayCmds false).foldl (fun (s : State) (x : JRec) =>
    let w := x.words.headD 0
    let own := s.alm.asked.contains w
    let c : EngCmd := ⟨w, bit x.typ 22, if own then 0 else 3, if own then s.alm.cmdNo else 0, 0, 0⟩
    { s with alm := { s.alm with cmds := s.alm.cmds ++ [c], asked := s.alm.asked.erase w } }) s

/-- A host write of ALM_CMD or, keyed, of ALM_KCMD. -/
def State.almCmdWrite (s : State) (w : Word) (keyed : Bool) : State := s.almQueue ⟨w, keyed, 0, 0, 0, 0⟩

/-! ### The beat of work (R212) -/

/-- Sample a point and filter it into D (R206, R209); true when D rises. -/
def State.almFilter (s : State) (n : Nat) : State × Bool :=
  let e := s.almEnt n
  let a := s.almOf n
  let ((c, k), (nf, cf)) := s.almSample n
  let d := s.flag (ALM_PST.DEL n)
  let run := if c == d then 0 else a.run + 1
  let flip := c != d && run > (if c then e.nOn else e.nOff)
  let d' := if flip then c else d
  let s := if (if flip then 0 else run) == a.run then s else s.setAlm n { a with run := if flip then 0 else run }
  let w := s.reg (ALM_PST n)
  let v := setBit (setBit (setBit (setBit (setBit w.toNat 32 c) 31 d') 30 k) 23 nf) 22 cf
  (if W v == w then s else s.setReg (ALM_PST n) (W v), flip && c)

/-- Count a rise of D in the group's current round (R223). -/
def State.countRise (s : State) (n : Nat) : State :=
  let e := s.almEnt n
  if e.pri == 0 then s
  else
    let l := s.alm.rises.getD e.group [0]
    { s with alm := { s.alm with rises := s.alm.rises.set e.group ((l.headD 0 + 1) :: l.tail) } }

/-- FLW in force. -/
def State.flw (s : State) (g : Nat) : Nat := orElse (s.get (ALM_GCFG.FLW g)) 10

/-- FLCNT from the counted rounds (R223). -/
def State.flCount (s : State) (g : Nat) : Nat := satAt 255 ((s.alm.rises.getD g []).take (s.flw g)).sum

/-- Enter flood where FLCNT reaches FLN (R223, R225). -/
def State.floodBeat (s : State) : State :=
  (s.alm.rises.filter (fun p => p.1 < 64)).foldl (fun s p =>
    let g := p.1
    let c := s.flCount g
    let s := if s.get (ALM_GST.FLCNT g) == c then s else s.put (ALM_GST.FLCNT g) c
    let n := s.get (ALM_GCFG.FLN g)
    if n != 0 && c ≥ n && !s.flag (ALM_GST.FLOOD g) then s.putB (ALM_GST.FLOOD g) true else s) s

/-- O of the acknowledge cells. -/
def State.ackLevels (s : State) : Nat := maskOf ((List.range 64).filter (fun g => s.outO (s.get (ALM_GCFG.ACKCELL g))))

/-- Acknowledge cells whose O rose since the last sample (R226). -/
def State.ackCells (s : State) : State :=
  let now := s.ackLevels
  let prev := s.alm.ackPrev.getD now
  let rose := (List.range 64).filter (fun g => bit now g && !bit prev g && s.flag (ALM_GCFG.ACKEN g))
  let s := rose.foldl (fun s g => (s.ackAll (s.groupPoints g)).1) s
  { s with alm := { s.alm with ackPrev := some now } }

/-- Transitions of every point; `noCap` names the groups whose first-out was reset in this beat. -/
def State.almTransAll (s : State) (noCap : List Nat) : State := s.almPoints.foldl (fun s n => s.almTrans noCap n) s

/-- The alarm engine's work of a beat. -/
def State.alarmBeat (s : State) : State :=
  if !s.almRuns then s
  else
    let s := s.almPoints.foldl (fun (s : State) (n : Nat) => let r := s.almFilter n; if r.2 then r.1.countRise n else r.1) s
    let s := s.almReplay
    let r := ({ s with alm := { s.alm with cmds := [] } } : State).almCommands s.alm.cmds
    (r.1.ackCells.floodBeat).almTransAll r.2

/-- Classes 9 and 10 as the next beat presents them (R179, R211). -/
def State.presentAlarms (s : State) : State :=
  let p := s.almPoints
  { s with bl := { s.bl with
      pres9 := p.filter (fun n => s.almState n == 1 || s.almState n == 2)
      pres10 := p.filter (fun n => s.almState n == 1 || s.almState n == 3) } }

/-- A round of a point's shelving passes. -/
def State.shelfRound (s : State) (n : Nat) : State :=
  let l := s.get (ALM_PST.SHLEFT n)
  if l == 0 then s
  else
    let s := s.put (ALM_PST.SHLEFT n) (l - 1)
    if l == 1 then s.setAlm n { s.almOf n with shelved := false } else s

/-- A round boundary of the work: shelving runs down, the flood windows move on (R217, R223); the beat's transitions follow. -/
def State.alarmRound (s : State) : State :=
  if !s.almRuns then s
  else
    let s := s.almPoints.foldl State.shelfRound s
    let s : State := { s with alm := { s.alm with rises := s.alm.rises.map (fun (p : Nat × List Nat) => (p.1, 0 :: p.2.take 62)) } }
    (s.alm.rises.filter (fun p => p.1 < 64)).foldl (fun (s : State) (p : Nat × List Nat) =>
      let g := p.1
      let c := s.flCount g
      let n := s.get (ALM_GCFG.FLN g)
      let s := s.put (ALM_GST.FLCNT g) c
      if s.flag (ALM_GST.FLOOD g) && (n == 0 || c < (n + 1) / 2) then s.putB (ALM_GST.FLOOD g) false else s) s

/-- The round of the work has begun and its boundary has not been taken up: at phase 0 of its first beat, 8 beats late in a standby
(R232, R395). -/
def State.workRoundDue (s : State) : Bool := s.lag ≤ s.t.usec && s.alm.roundAt + s.t.usec < s.t.run

/-! ### Commands of the table -/

/-- A point's delay has run but for its last sample, which the next beat takes (R209). -/
def State.delayOver (s : State) (n : Nat) (on : Bool) : Bool :=
  let e := s.almEnt n
  s.almRuns && s.almState n != 7 && s.flag (ALM_PST.DEL n) != on && (if on then e.nOn else e.nOff) ≤ (s.almOf n).run

/-- Take a command out of the queue, or take it as it arrives from the host, and apply it now; transitions follow. A standby
carries it to the active. -/
def State.almNow (s : State) (w : Word) (keyed : Bool) : State :=
  match s.alm.cmds.find? (fun c => c.w == w && c.keyed == keyed) with
  | none =>
    if !s.almRuns || s.replays then s.almQueue ⟨w, keyed, 0, 0, 0, 0⟩
    else
      let s : State := { s with alm := { s.alm with cmdNo := s.alm.cmdNo + 1 } }
      let r := s.almCommand ⟨w, keyed, 0, s.alm.cmdNo, 0, 0⟩
      r.1.almTransAll r.2
  | some c =>
    let r := ({ s with alm := { s.alm with cmds := s.alm.cmds.erase c } } : State).almCommand c
    r.1.almTransAll r.2

/-- An alarm command word. -/
def almWord (op arg idx : Nat) : Word := W (op <<< 32 + arg <<< 16 + idx)

def execAckPoint (n : Fin 1024) (s : State) : Host.Outcome State Fault Refusal := act s (fun s => s.almNow (almWord 1 0 n.val) false)
def execAckGroup (g : Fin 64) (s : State) : Host.Outcome State Fault Refusal := act s (fun s => s.almNow (almWord 2 0 g.val) false)
def execShelve (n : Fin 1024) (minutes : BitVec 16) (s : State) : Host.Outcome State Fault Refusal :=
  act s (fun s => s.almNow (almWord 3 minutes.toNat n.val) false)
def execUnshelve (n : Fin 1024) (s : State) : Host.Outcome State Fault Refusal := act s (fun s => s.almNow (almWord 4 0 n.val) false)
def execFirstOutReset (g : Fin 64) (s : State) : Host.Outcome State Fault Refusal := act s (fun s => s.almNow (almWord 5 0 g.val) false)
def execOutOfService (n : Fin 1024) (s : State) : Host.Outcome State Fault Refusal := act s (fun s => s.almNow (almWord 6 0 n.val) true)
def execReturnToService (n : Fin 1024) (s : State) : Host.Outcome State Fault Refusal := act s (fun s => s.almNow (almWord 7 0 n.val) true)
def execAckAll (s : State) : Host.Outcome State Fault Refusal := act s (fun s => s.almNow (almWord 8 0 0) false)

/-- SHLEFT reaches zero at a round boundary: the shelving ends (R217). -/
def State.shelfExpiry (s : State) (n : Nat) : State :=
  if s.workRoundDue && s.almRuns && s.almState n != 7 && s.get (ALM_PST.SHLEFT n) == 1 then (s.shelfRound n).almTrans [] n else s

def execShelvingExpiry (n : Fin 1024) (s : State) : Host.Outcome State Fault Refusal := act s (fun s => s.shelfExpiry n.val)

/-- A write of ALM_GCFGg takes effect: FOEN from 1 to 0 clears the capture (R220); a new acknowledge cell counts from its O now. -/
def State.gcfgWrite (s : State) (g : Nat) (w : Word) : State :=
  let was := s.flag (ALM_GCFG.FOEN g)
  let cell := s.get (ALM_GCFG.ACKCELL g)
  let s := s.setReg (ALM_GCFG g) w
  let now := s.get (ALM_GCFG.ACKCELL g)
  let s : State :=
    if now == cell then s
    else { s with alm := { s.alm with ackPrev := s.alm.ackPrev.map (fun m => setBit m g (s.outO now)) } }
  if was && !s.flag (ALM_GCFG.FOEN g) then s.foClear g else s

/-! ### Adoption and validation (R201, R203, R204) -/

/-- A source spec an alarm point may name. -/
def almSpecOk (x : Nat) (block : Bool) : Bool :=
  let c := bits x 15 12
  specOk x && ((2 ≤ c && c ≤ 8) || c == 11 || (block && (c == 1 || c == 13)))

def almValid (e : Entry) : Bool :=
  !e.en || (e.pri ≤ 4 && (!e.srck || almSpecOk (e.f 1 35 18) false) && (e.f 1 17 0 == 0 || almSpecOk (e.f 1 17 0) true))

/-- Start a point's delay filter afresh, its base state NORMAL; an overlay stays (R203). -/
def State.almRestart (s : State) (n : Nat) : State :=
  let s := s.setAlm n { s.almOf n with run := 0, held := false }
  let s := s.setReg (ALM_PST n) (W (setBit (s.reg (ALM_PST n)).toNat 31 false))
  let a := s.almOf n
  let st := if a.oos then 6 else if a.shelved then 4 else if s.almState n == 5 && s.flag (ALM_PST.BLK n) then 5 else 0
  let s := if st == 5 then s else s.put (ALM_PST.BWHY n) 0
  s.almSet n st

/-- A delay count that exceeds a new, shorter delay completes at the adoption (R203). -/
def State.almShorter (s : State) (n : Nat) : State :=
  let e := s.almEnt n
  let a := s.almOf n
  let c := s.flag (ALM_PST.COND n)
  if c == s.flag (ALM_PST.DEL n) || a.run ≤ (if c then e.nOn else e.nOff) then s
  else
    let s := (s.setAlm n { a with run := 0 }).putB (ALM_PST.DEL n) c
    if c then (s.countRise n).floodBeat else s

/-- What adopting an alarm entry does beside replacing the cached copy. A captured first-out stays whatever becomes of its point
(R222). -/
def State.adoptAlm (s : State) (n : Nat) (old new : Entry) (image : Bool) : State :=
  let was := !old.isEmpty && old.en
  let a := s.almOf n
  let spec := fun (e : Entry) => (e.srck, e.f 1 35 18, e.f 1 17 0)
  let clean := { a with run := 0, shelved := false, oos := false, held := false }
  if !new.en then
    ((s.setAlm n clean).setReg (ALM_PST n)
        (W (setBits (setBits (setBits (s.reg (ALM_PST n)).toNat 32 28 0) 23 22 0) 17 0 0))).almSet n 7
  else if !was then ((s.setAlm n clean).put (ALM_PST.SHLEFT n) 0).almRestart n
  else
    let same := if image then old.set 0 0 == new.set 0 0 && fld (old.getD 0 0) 27 0 == fld (new.getD 0 0) 27 0 else spec old == spec new
    if same then (s.almShorter n).almTrans [] n else s.almRestart n

end Sys2Proof.Machine
end

