-- ==== Sys2Proof/Machine/Calib.lean ====
section
/-! DEFINITION. The calibration store (chapter 5): the working copy, captures, computations, commits, and the choice of a
bank at start-up. -/
namespace Sys2Proof.Machine

open Sys2Proof

/-- Base address of a calibration bank: 0 A, 1 B (R29). -/
def calBase (b : Nat) : Nat := if b == 0 then 0o14000000 else 0o14040000

/-- Words in a bank (R155). -/
def calSize : Nat := 16384

/-- MAGIC of a valid bank (R156). -/
def calMagic : Word := 0o321546020001#36

/-- A bank's words by offset. -/
def State.calBank (s : State) (b : Nat) : Store := s.mem.mram.window (calBase b) (calBase b + calSize) 0

/-- Some word of a bank reads POISON. -/
def State.calPoison (s : State) (b : Nat) : Bool := s.mem.mramBad.any (fun a => calBase b ≤ a && a < calBase b + calSize)

/-- Words of a store from one offset to before another. -/
def Store.span (m : Store) (lo hi : Nat) : List Word := (List.range (hi - lo)).map (fun i => m.read (fun _ => 0) (lo + i))

/-- HCHK of a header: words 0 to 14 with MAGIC in word 0 (R156). -/
def calHchk (m : Store) : Nat := crc32c (calMagic :: m.span 1 15)

/-- BCHK of a body: offsets 0o20 to 0o37777 (R156). -/
def calBchk (m : Store) : Nat := crc32c (m.span 16 calSize)

/-- The header passes HCHK. -/
def calHeaderOk (m : Store) : Bool := m.read (fun _ => 0) 15 == W (calHchk m)

/-- A bank is valid (R167): MAGIC, HCHK and BCHK right, no read POISON. -/
def State.calValid (s : State) (b : Nat) : Bool :=
  let m := s.calBank b
  m.read (fun _ => 0) 0 == calMagic && calHeaderOk m && m.read (fun _ => 0) 2 == W (calBchk m) && !s.calPoison b

/-- SEQ of a bank. -/
def calSeq (m : Store) : Word := m.read (fun _ => 0) 1

/-- The factory section of island k in a bank whose ICHK matches (R158, R168); none where a read is POISON. -/
def State.facSection (s : State) (b k : Nat) : Option Store :=
  let m := s.calBank b
  let lo := 0o100 + k * 64
  let bad := s.mem.mramBad.any (fun a => calBase b + lo ≤ a && a < calBase b + lo + 64)
  if !bad && m.read (fun _ => 0) (lo + 63) == W (crc32c (m.span lo (lo + 63))) then some (m.window lo (lo + 64) lo) else none

/-- Trims of an island without a factory section: OFF = 0 and GAIN = 1, in every gain path (R168). -/
def bareSection (k : Nat) : Store :=
  ((List.range 8).map (fun g => 2 * g + 1) ++ [17, 19, 20, 22]).map (fun i => (0o100 + k * 64 + i, toCoef 1))

/-- What the islands use when neither bank is valid (R168): each island's factory section from a bank where it matches its
ICHK, the bank with the larger SEQ passing HCHK first; else OFF = 0 and GAIN = 1. -/
def State.noBank (s : State) : Store :=
  let a := s.calBank 0
  let b := s.calBank 1
  let bFirst := calHeaderOk b && (!calHeaderOk a || (calSeq a).toNat < (calSeq b).toNat)
  let order := if bFirst then [1, 0] else [0, 1]
  (List.range 16).flatMap (fun k => (order.findSome? (fun x => s.facSection x k)).getD (bareSection k))

/-- Choose the bank at start-up (R167, R168), and load the working copy from it (R161). -/
def State.calSelect (s : State) : State :=
  let va := s.calValid 0
  let vb := s.calValid 1
  let sa := calSeq (s.calBank 0)
  let sb := calSeq (s.calBank 1)
  let b := if va && vb then (if sa.toNat < sb.toNat then 1 else 0) else if vb then 1 else 0
  let s := (s.putB CAL_STAT.AVALID va).putB CAL_STAT.BVALID vb
  let s := (s.putB CAL_STAT.EQSEQ (va && vb && sa == sb)).putB CAL_STAT.NOVALID (!va && !vb)
  let s := (s.setReg CAL_SEQA (if va then sa else 0)).setReg CAL_SEQB (if vb then sb else 0)
  let s := s.put CAL_STAT.INFORCE b
  let m := if va || vb then s.calBank b else s.noBank
  { s with cal := { s.cal with cur := m, uncal := !va && !vb, work := m, capture := none, notes := [], cmd := 0, cmt := false, pausedAt := none } }

/-! ### The working copy (R161, R170) -/

/-- Offset of the record a window shows, and the words of it a host may write. -/
def calWindow (sec idx : Nat) : Option (Nat × Nat × List Nat) :=
  match sec with
  | 0 => some (0o3000 + idx * 32, 32, List.range 10)
  | 1 => some (0o100 + (idx % 16) * 64, 64, [])
  | 2 => some (0o2100 + (idx % 16) * 16, 16, List.range 8)
  | _ => none

/-- A word of the working copy. -/
def State.workAt (s : State) (o : Nat) : Word := s.cal.work.read (fun _ => 0) o

/-- The bank in force, or what stands for it while none is valid (R164, R168). -/
def State.calInForce (s : State) : Store := if s.flag CAL_STAT.NOVALID then s.noBank else s.calBank (s.get CAL_STAT.INFORCE)

/-- The records of a bank that a working copy can change. -/
def calRecords (m : Store) : Store := m.filter (fun p => 0o2100 ≤ p.1 && p.1 < 0o13000)

/-- EDIT shows whether the working copy differs from the bank in force (R170). -/
def State.calEdit (s : State) : State := s.putB CAL_STAT.EDIT (calRecords s.cal.work != calRecords s.calInForce)

/-- Change a word of the working copy. -/
def State.setWork (s : State) (o : Nat) (w : Word) : State :=
  ({ s with cal := { s.cal with work := s.cal.work.write (fun _ => 0) o w } } : State).calEdit

/-- A read of CAL_WINw. -/
def State.calWinRead (s : State) (w : Nat) : Word :=
  match calWindow (s.get CAL_CHSEL.SEC) (s.get CAL_CHSEL.IDX) with
  | some (o, n, _) => if w < n then s.workAt (o + w) else 0
  | none => 0

/-- Bits of word 0 of a record that are defined: of a channel record 35:25 (R159), of a loop-output record CALD alone (R283). -/
def calWord0 (sec : Nat) (w : Word) : Word :=
  let lo := if sec == 2 then 35 else 25
  W (w.toNat / 2 ^ lo * 2 ^ lo)

/-- A write of CAL_WINw: reserved words, the factory section and words beyond the record are ignored. -/
def State.calWinWrite (s : State) (w : Nat) (v : Word) : State :=
  match calWindow (s.get CAL_CHSEL.SEC) (s.get CAL_CHSEL.IDX) with
  | some (o, _, ws) => if ws.contains w then s.setWork (o + w) (if w == 0 then calWord0 (s.get CAL_CHSEL.SEC) v else v) else s
  | none => s

def execCalWinWrite (w : Fin 64) (v : Word) (s : State) : Host.Outcome State Fault Refusal :=
  act s (fun s => s.calWinWrite w.val v)

/-! ### Commands (R161 to R163, R170) -/

/-- Channel selected by CAL_CHSEL, and its record's offset. -/
def State.calCh (s : State) : Nat := s.get CAL_CHSEL.IDX
def State.calOff (s : State) : Nat := 0o3000 + s.calCh * 32

/-- A command ends with a result (R170). -/
def State.calEnd (s : State) (r : Nat) : State :=
  ((({ s with cal := { s.cal with capture := none } }).put CAL_CSTAT.RESULT r).putB CAL_CSTAT.RUN false).raise HST_ISRC.CAL

/-- A command is waiting or running. -/
def State.calBusy (s : State) : Bool := s.cal.cmd != 0 || s.cal.cmt || s.flag CAL_CSTAT.RUN

/-- Start a CAPTURE of a point (R162). -/
def State.calCapture (s : State) (p : Nat) : State :=
  if s.mode != 2 then s.calEnd 2
  else if !s.enabled s.calCh then s.calEnd 3
  else
    let e := s.entry s.calCh
    (({ s with cal := { s.cal with capture := some ⟨s.calCh, p, 0, 0, e.stype, e.gain, s.t.run⟩ } }).putB CAL_CSTAT.RUN true).put CAL_CSTAT.DONE 0

/-- A capture ends when MAINTENANCE is left (R162). -/
def State.captureModeAbort (s : State) : State := if s.cal.capture.isSome then s.calEnd 6 else s

/-- NAVG conversions have been captured: the mean and the reference are stored (R162). CAL_NAVG and CAL_REF count as they stand
here, and a conversion that ran at the start is one of the NAVG (log entry 34). -/
def State.captureDone (s : State) : State :=
  match s.cal.capture with
  | some c =>
    if c.n < orElse (s.get CAL_NAVG.NAVG) 16 then s
    else
      let o := 0o3000 + c.ch * 32
      let s := (s.setWork (o + 3 + 2 * c.point) (s.reg CAL_REF)).setWork (o + 4 + 2 * c.point) (toCoef (c.sum / c.n))
      ({ s with cal := { s.cal with notes := s.cal.notes.set (2 * c.ch + c.point - 1) (c.stype, c.gain) } }).calEnd 0
  | none => s

/-- A capture that has not its NAVG conversions within 10 rounds ends with TIMEOUT (R162). -/
def State.captureTimeout (s : State) : State :=
  match s.cal.capture with
  | some c => if c.n < orElse (s.get CAL_NAVG.NAVG) 16 && 10000000 ≤ s.since c.at_ then s.calEnd 5 else s
  | none => s

/-- STYPE and GAIN a capture was taken at; without one, those of the record. -/
def State.calNote (s : State) (p : Nat) : Nat × Nat :=
  let w0 := s.workAt s.calOff
  s.cal.notes.getD (2 * s.calCh + p - 1) (fld w0 32 29, fld w0 28 25)

/-- A COMPUTE (R163); `two` for two points. A word of the captures with E = 255 counts as 0 (log entry 34). -/
def State.calCompute (s : State) (two : Bool) : State :=
  let o := s.calOff
  let c := fun i => coef (s.workAt (o + i))
  let (st, g) := s.calNote 1
  if two && s.calNote 2 != (st, g) then s.calEnd 7
  else if two && c 8 == c 6 then s.calEnd 8
  else
    let fg : Rat := if two then (c 7 - c 5) / (c 8 - c 6) else 1
    let of_ : Rat := if two then (if fg == 0 then 0 else c 6 - c 5 / fg) else c 6 - c 5
    let e := s.entry s.calCh
    if !calLimits fg of_ (fsOf st e.wires (2 ^ (g - 1)) e.inom) then s.calEnd 8
    else
      let w0 := W (2 ^ 35 + (if two then 2 else 1) <<< 33 + st <<< 29 + g <<< 25)
      ((((s.setWork o w0).setWork (o + 1) (toCoef of_)).setWork (o + 2) (toCoef fg)).setWork (o + 3) s.ts0).calEnd 0

/-- CLEAR: CALD = 0 in the record (R170). -/
def State.calClear (s : State) : State :=
  (s.setWork s.calOff (W (setBit (s.workAt s.calOff).toNat 35 false))).calEnd 0

/-- DISCARD: the working copy loaded again from the bank in force (R161). -/
def State.calDiscard (s : State) : State :=
  ((({ s with cal := { s.cal with work := s.calInForce, notes := [] } }).putB CAL_STAT.EDIT false)).calEnd 0

/-- Start a command. -/
def State.calRun (s : State) (c : Nat) : State :=
  match c with
  | 1 => s.calCapture 1
  | 2 => s.calCapture 2
  | 3 => s.calCompute false
  | 4 => s.calCompute true
  | 5 => s.calClear
  | 6 => s.calDiscard
  | _ => s

/-- A write of CAL_CMD: ignored with BUSY while a command waits or runs; other codes ignored (R170). -/
def State.calCmdWrite (s : State) (c : Nat) : State :=
  if c == 0 || c > 6 then s
  else if s.calBusy then s.put CAL_CSTAT.RESULT 1
  else { s with cal := { s.cal with cmd := c } }

/-- The command of a code begins at a round boundary: the one that waits for it, or, none waiting or running, the one the row
brings (R170). -/
def State.calBegin (s : State) (c : Nat) : State :=
  if s.t.usec != 0 then s
  else if s.cal.cmd == c || !s.calBusy then ({ s with cal := { s.cal with cmd := 0 } }).calRun c
  else s

/-- The command that waits, at its boundary. -/
def State.calStart (s : State) : State := if s.cal.cmd == 0 then s else s.calBegin s.cal.cmd

def execCalCapturePoint1 (s : State) : Host.Outcome State Fault Refusal := act s (fun s => s.calBegin 1)
def execCalCapturePoint2 (s : State) : Host.Outcome State Fault Refusal := act s (fun s => s.calBegin 2)
def execCalComputeOffset (s : State) : Host.Outcome State Fault Refusal := act s (fun s => s.calBegin 3)
def execCalComputeTwoPoint (s : State) : Host.Outcome State Fault Refusal := act s (fun s => s.calBegin 4)
def execCalClearRecord (s : State) : Host.Outcome State Fault Refusal := act s (fun s => s.calBegin 5)
def execCalDiscard (s : State) : Host.Outcome State Fault Refusal := act s (fun s => s.calBegin 6)
def execCaptureComplete (s : State) : Host.Outcome State Fault Refusal :=
  act s (fun s => if s.mode != 2 then s.captureModeAbort else s.captureDone)
def execCaptureTimeout (s : State) : Host.Outcome State Fault Refusal :=
  act s State.captureTimeout

/-! ### Commit (R164 to R166, R285) -/

/-- A loop-output record with CALD = 1 that R285 lets stand. -/
def loRecOk (r : List Word) : Bool :=
  let w := [r.getD 1 0, r.getD 2 0, r.getD 3 0, r.getD 4 0]
  let c := fun i => coef (r.getD i 0)
  w.all (fun x => fld x 34 27 != 0 && fld x 34 27 != 255) &&
    c 3 - c 1 ≥ 8000 && c 2 - c 1 ≤ 200 && c 1 - c 2 ≤ 200 && c 4 - c 3 ≤ 200 && c 3 - c 4 ≤ 200

/-- Bank offset divided by 0o20 of the first record of the working copy that R165 or R285 refuses. -/
def State.calBadRec (s : State) : Option Nat :=
  let lo := (List.range 16).find? (fun n =>
    let r := s.cal.work.span (0o2100 + n * 16) (0o2100 + n * 16 + 16)
    wbit (r.getD 0 0) 35 && !loRecOk r)
  match lo with
  | some n => some ((0o2100 + n * 16) / 16)
  | none =>
    ((List.range 128).find? (fun n =>
      let r := s.cal.work.span (0o3000 + n * 32) (0o3000 + n * 32 + 32)
      wbit (r.getD 0 0) 35 && !calRecOk r (s.entry n).wires (s.entry n).inom)).map (fun n => (0o3000 + n * 32) / 16)

/-- A COMMIT command taken from the keyed sequence (R164, R170); `imageBusy` says an image commit or apply is in progress
(R165). -/
def State.calCommit (s : State) (imageBusy : Bool) : State :=
  if s.calBusy then s.put CAL_CSTAT.RESULT 1
  else if s.starting then (s.put CAL_CSTAT.RESULT 10).raise HST_ISRC.CAL
  else if imageBusy then (s.put CAL_CSTAT.RESULT 1).raise HST_ISRC.CAL
  else { s with cal := { s.cal with cmt := true } }

/-- A calibration bank is written whole; the words outside its section read zero (R156). -/
def State.setCalBank (s : State) (b : Nat) (body : Store) : State :=
  { s with mem := { s.mem with
      mram := s.mem.mram.splice (calBase b) calSize (body.window 0 calSize (calBase b))
      mramBad := s.mem.mramBad.filter (fun a => !(calBase b ≤ a && a < calBase b + calSize)) } }

/-- The bank a commit writes: the one not in force; while neither is valid, B (log entry 34). -/
def State.calTarget (s : State) : Nat := 1 - s.get CAL_STAT.INFORCE

/-- The body a commit writes: records of the working copy, factory section of the bank in force (R164). -/
def State.calBody (s : State) : Store :=
  s.calInForce.window 0o100 0o2100 0o100 ++ s.cal.work.window 0o2100 0o2500 0o2100 ++ s.cal.work.window 0o3000 0o13000 0o3000

/-- A commit starts at its round boundary: refused under R165, else step 1 zeroes MAGIC of the other bank (R164), which is valid no
more. -/
def State.calCommitRun (s : State) (imageBusy : Bool) : State :=
  if !s.cal.cmt || s.t.usec != 0 || s.life.warn then s
  else
    let s := { s with cal := { s.cal with cmt := false } }
    if s.starting then s.calEnd 10
    else if imageBusy then s.calEnd 1
    else
      match s.calBadRec with
      | some r => (s.put CAL_CSTAT.BADREC r).calEnd 9
      | none =>
        let t := s.calTarget
        let s := s.setMram (calBase t) 0
        let s := (s.putB (if t == 0 then CAL_STAT.AVALID else CAL_STAT.BVALID) false).setReg (if t == 0 then CAL_SEQA else CAL_SEQB) 0
        let s := s.putB CAL_STAT.EQSEQ false
        let at_ := s.t.run
        (({ s with cal := { s.cal with cmtBank := t, cmtAt := at_, pausedAt := none } }).putB CAL_CSTAT.RUN true).put CAL_CSTAT.STEP 1

/-- Step 2: the body is written; the words outside its sections read zero (R155, R156). -/
def State.calBodyWrite (s : State) : State := (s.setCalBank s.cal.cmtBank s.calBody).put CAL_CSTAT.STEP 2

/-- End of step 3: a body that does not read back as written ends the commit with VERIFY; else step 4 writes header words 1 to 15. -/
def State.calHeaderWrite (s : State) : State :=
  let t := s.cal.cmtBank
  let b := s.calBank t
  let body := s.calBody
  if b.filter (fun p => 16 ≤ p.1) != body || s.calPoison t then (s.put CAL_CSTAT.STEP 0).calEnd 11
  else
    let seq := (if s.get CAL_STAT.INFORCE == 0 then s.reg CAL_SEQA else s.reg CAL_SEQB) + 1
    let hdr : List Word := [seq, W (calBchk body), s.ts0, s.ts1, 1, 0, 0, 0, 0, 0, 0, 0, 0, 0]
    let m := (hdr.zipIdx).foldl (fun (m : Store) (p : Word × Nat) => m.write (fun _ => 0) (1 + p.2) p.1) body
    (s.setMramWords (calBase t + 1) (hdr ++ [W (calHchk m)])).put CAL_CSTAT.STEP 4

/-- Beats a commit has had since its start. -/
def State.calElapsed (s : State) : Nat := if s.cal.pausedAt.isSome then 0 else s.since s.cal.cmtAt

/-- The steps of a commit that have fallen due, one call a step (R164). -/
def State.calStep (s : State) : State :=
  let past := s.calElapsed
  match s.get CAL_CSTAT.STEP with
  | 1 => if 2 ≤ past then s.calBodyWrite else s
  | 2 => if 32738 ≤ past then s.put CAL_CSTAT.STEP 3 else s
  | 3 => if 49106 ≤ past then s.calHeaderWrite else s
  | 4 => if 49136 ≤ past then (s.setMram (calBase s.cal.cmtBank) calMagic).put CAL_CSTAT.STEP 5 else s
  | 5 => if 49138 ≤ past then s.put CAL_CSTAT.STEP 6 else s
  | _ => s

def State.calSteps (s : State) : State := if s.get CAL_CSTAT.STEP == 0 then s else s.calStep.calStep.calStep.calStep.calStep

/-- A header word that reads back wrong: it carries an uncorrectable pattern, so that no start-up finds the bank valid (log entry
34). -/
def State.calSpoil (s : State) : State := s.spoilMram (calBase s.cal.cmtBank + 15) (s.mramAt (calBase s.cal.cmtBank + 15))

/-- Step 6 (R164): the header read back; a mismatch ends with VERIFY, else the new bank is in force with PEND. -/
def State.calCommitDone (s : State) (mismatch : Bool) : State :=
  let s := s.calSteps
  if s.get CAL_CSTAT.STEP != 6 || s.calElapsed < 49154 then s
  else
    let s := if mismatch then s.calSpoil else s
    let s := s.put CAL_CSTAT.STEP 0
    let t := s.cal.cmtBank
    if !s.calValid t then s.calEnd 11
    else
      let m := s.calBank t
      let s := if t == 0 then (s.setReg CAL_SEQA (calSeq m)).putB CAL_STAT.AVALID true else (s.setReg CAL_SEQB (calSeq m)).putB CAL_STAT.BVALID true
      let s := ((s.put CAL_STAT.INFORCE t).putB CAL_STAT.PEND true).putB CAL_STAT.INFBAD false
      ((s.putB CAL_STAT.NOVALID false).calEdit).calEnd 0

/-- A commit pauses at a word boundary, and goes on with the time it has had (R499, R548). -/
def State.calPause (s : State) : State :=
  if s.cal.pausedAt.isSome then s else { s with cal := { s.cal with pausedAt := some s.t.run } }
def State.calResume (s : State) : State :=
  match s.cal.pausedAt with
  | some p => { s with cal := { s.cal with pausedAt := none, cmtAt := s.cal.cmtAt + (s.t.run - p) } }
  | none => s

/-- The committed bank takes effect at the round boundary (R166), with its trigger (R422). -/
def State.calEffect (s : State) : State :=
  if !s.flag CAL_STAT.PEND || s.t.usec != 0 then s
  else
    let b := s.get CAL_STAT.INFORCE
    let s := { s with cal := { s.cal with cur := s.calBank b, uncal := false } }
    (s.putB CAL_STAT.PEND false).trigNow 1 9 0 (if b == 0 then s.reg CAL_SEQA else s.reg CAL_SEQB) (W b)

/-- An image commit or apply in progress (R165). -/
def State.imageBusy (s : State) : Bool := (s.img.commit && s.get IMG_CRES.STEP != 0) || s.img.prep.isSome

/-- What the calibration store brings about in time: its commands at their boundary, the steps of a commit, the end of a capture; a
commit always ends within 100 ms. The processor's part of it stands still while that is stopped (R499). -/
def State.calSweep (s : State) : State :=
  let s := s.calEffect
  if s.procStopped then s
  else
  let s := ((s.calStart.calCommitRun s.imageBusy).calSteps).captureDone.captureTimeout
  if s.get CAL_CSTAT.STEP == 6 && 100000 ≤ s.calElapsed then s.calCommitDone false else s

def execCalCommit (s : State) : Host.Outcome State Fault Refusal := act s (fun s => s.calCommit s.imageBusy)
def execCalCommitRun (s : State) : Host.Outcome State Fault Refusal := act s (fun s => s.calCommitRun s.imageBusy)
def execCalCommitComplete (mismatch : Bool) (s : State) : Host.Outcome State Fault Refusal :=
  act s (fun s => s.calCommitDone mismatch)
def execCalBankEffect (s : State) : Host.Outcome State Fault Refusal := act s (fun s => s.calEffect)

end Sys2Proof.Machine
end

