-- ==== Sys2Proof/Machine/Layout.lean ====
section
/-! DEFINITION. Bits of the SRAM tables that their layouts leave unused: they read as zero (R6, R28). -/
namespace Sys2Proof.Machine

/-- Bits `hi` to `lo` of a word. -/
def span (hi lo : Nat) : Nat := 2 ^ (hi + 1) - 2 ^ lo

/-- All bits of a word: a reserved word. -/
def wholeWord : Nat := span 35 0

/-- Unused bits of the words of a channel entry (R85, R86, R145). -/
def channelUnused : Nat → Nat
  | 0 => span 9 0
  | 1 => span 15 0
  | 3 => span 3 0
  | 4 => span 34 32
  | 5 => span 34 32
  | 6 => span 35 32
  | 7 => span 31 0
  | 8 => span 35 32
  | 9 => span 34 32
  | 10 => span 11 0
  | 11 => span 23 0
  | 16 => span 11 0
  | 17 => span 35 32
  | 18 => span 34 32
  | 19 => span 34 32
  | w => if (12 ≤ w && w ≤ 15) || (21 ≤ w && w ≤ 23) || 56 ≤ w then wholeWord else 0

/-- Unused bits of the words of an alarm point's entry (R199, R200). -/
def alarmUnused : Nat → Nat
  | 0 => span 11 0
  | 3 => span 19 0
  | 8 => span 35 24
  | 9 => span 35 24
  | w => if (4 ≤ w && w ≤ 7) || w == 10 || w == 11 then wholeWord else 0

/-- Unused bits of the words of a loop output's entry (R87, R265). -/
def loopUnused : Nat → Nat
  | 0 => span 9 0
  | 1 => span 5 0
  | 2 => span 35 32
  | 3 => span 35 32
  | 4 => span 5 0
  | 5 => span 19 0
  | 6 => span 20 0
  | 7 => span 34 0
  | 8 => span 6 0
  | 9 => span 11 0
  | 10 => span 11 0
  | 11 => span 23 0
  | 12 => span 27 0
  | w => if 24 ≤ w && w ≤ 27 then 0 else wholeWord

/-- Unused bits of the words of a discrete point's entry (R88, R322). -/
def discreteUnused : Nat → Nat
  | 0 => span 23 0
  | 1 => 0
  | 2 => span 19 0
  | 3 => 0
  | 4 => span 21 0
  | 7 => span 33 0
  | 8 => span 11 0
  | 9 => span 31 0
  | w => if 12 ≤ w then 0 else wholeWord

/-- Unused bits of the words of a speed input's entry (R89, R344). -/
def speedUnused : Nat → Nat
  | 0 => span 11 0
  | 1 => 0
  | 2 => span 34 32
  | 3 => span 10 0
  | 4 => span 25 0
  | 6 => span 35 32
  | 7 => span 34 0
  | 8 => span 6 0
  | 9 => span 35 32
  | 10 => span 35 32
  | 11 => 0
  | w => if 24 ≤ w && w ≤ 27 then 0 else wholeWord

/-- Unused bits of the rota and call region, by offset (R234 to R238). -/
def rotaUnused (o : Nat) : Nat :=
  if o < 0o20 then
    match o with
    | 0 => span 16 0
    | 5 => span 35 32
    | 6 => span 35 32
    | 7 => span 7 0
    | 8 => span 0 0
    | w => if 9 ≤ w then wholeWord else 0
  else if 0o100 ≤ o && o < 0o300 then
    match (o - 0o100) % 8 with
    | 0 => span 26 16
    | w => if w ≤ 3 then wholeWord else 0
  else if 0o300 ≤ o && o < 0o400 then
    match (o - 0o300) % 8 with
    | 0 => span 18 16
    | w => if w ≤ 3 then wholeWord else 0
  else if 0o1000 ≤ o && o < 0o3000 then
    match (o - 0o1000) % 4 with
    | 0 => span 15 0
    | _ => wholeWord
  else wholeWord

/-- Unused bits of the words of a received-signal entry (R373). -/
def rxUnused : Nat → Nat
  | 0 => span 34 34
  | 1 => span 15 0
  | 2 => span 32 32
  | 7 => span 17 0
  | _ => 0

/-- Unused bits of the words of a lattice cell's configuration (R177). -/
def cellUnused : Nat → Nat
  | 0 => span 23 0
  | 3 => span 4 0
  | 63 => span 35 32
  | w => if 13 ≤ w then wholeWord else 0

/-- Unused bits of an SRAM word. -/
def sramUnused (a : Nat) : Nat :=
  if 0o00100000 ≤ a && a ≤ 0o00117777 then channelUnused (a % 64)
  else if 0o00200000 ≤ a && a ≤ 0o00237777 then alarmUnused (a % 16)
  else if 0o00300000 ≤ a && a ≤ 0o00300777 then loopUnused (a % 32)
  else if 0o00310000 ≤ a && a ≤ 0o00310777 then discreteUnused (a % 16)
  else if 0o00320000 ≤ a && a ≤ 0o00320377 then speedUnused (a % 32)
  else if 0o00600000 ≤ a && a ≤ 0o00607777 then rotaUnused (a - 0o00600000)
  else if 0o00700000 ≤ a && a ≤ 0o00777777 then rxUnused (a % 8)
  else if 0o01000000 ≤ a && a ≤ 0o01777777 then cellUnused (a % 64)
  else 0

/-- An SRAM word as it reads. -/
def sramShown (a : Nat) (w : BitVec 36) : BitVec 36 := w &&& ~~~ (BitVec.ofNat 36 (sramUnused a))

end Sys2Proof.Machine
end

