-- ==== Sys2Proof/Machine/Opal.lean ====
section
/-! DEFINITION. Opal (chapter 8): offers, the calling process, acceptance, commands, the dead-man timer, call telegrams. -/
namespace Sys2Proof.Machine

open Sys2Proof

/-! ### The rota and call table (R234 to R238) -/

def State.opalWord (s : State) (i : Nat) : Word := s.opl.cache.words.getD i 0
def State.nrot (s : State) : Nat := fld (s.opalHead 0) 21 17
def State.nback (s : State) : Nat := fld (s.opalHead 0) 26 25
def State.laypri (s : State) : Nat := orElse (fld (s.opalHead 0) 24 22) 4

/-- Lengths of the timing row of a priority, in beats (R235, R243). -/
def State.t0Of (s : State) (p : Nat) : Nat := fld (s.opalHead p) 35 24 * 100000
def State.tstgOf (s : State) (p : Nat) : Nat := orElse (fld (s.opalHead p) 23 12) 1200 * 100000
def State.tattOf (s : State) (p : Nat) : Nat := orElse (fld (s.opalHead p) 11 0) 3000 * 100000

/-- Engineer at a rota position. -/
def State.rotaAt (s : State) (i : Nat) : Nat := let lo := 28 - 4 * (i % 8); fld (s.opalHead (5 + i / 8)) (lo + 3) lo

def State.engineer (s : State) (e : Nat) : Word := s.opalWord (16 + 8 * e)
def State.callRec (s : State) (c : Nat) : Word := s.opalWord (208 + 4 * c)

/-- Engineer whose cabin station a station is. -/
def State.cabinOf (s : State) (st : Nat) : Option Nat := (List.range 16).find? (fun e => wbit (s.engineer e) 35 && bit (fld (s.engineer e) 34 27) st)

def State.dmen (s : State) : Bool := s.opalOn && wbit (s.opalHead 7) 35
def State.dmt (s : State) : Nat := orElse (fld (s.opalHead 8) 35 24) 1620 * 1000000
def State.dmpre (s : State) : Nat := orElse (fld (s.opalHead 8) 23 12) 180 * 1000000

/-! ### Where the process stands (R245, R248) -/

def State.stage (s : State) : Nat := s.get OPL_STAT.STAGE
def State.called (s : State) : Nat := s.get OPL_CALLED.ENG
def State.dmst (s : State) : Nat := s.get OPL_STAT.DMST

/-- A calling stage. -/
def calling (st : Nat) : Bool := 2 ≤ st && st ≤ 6

/-- Stations that sound (R248), the dead-man pre-warning apart. -/
def State.sounds (s : State) (i : Nat) : Bool :=
  let w := s.station i
  let st := s.stage
  match fld w 35 34 with
  | 1 => match s.cabinOf i with | some e => bit s.called e | none => false
  | 2 => calling st && (match fld w 20 19 with | 0 => st ≥ 2 | 1 => st ≥ 3 | 2 => st ≥ 6 | _ => false)
  | _ => false

/-- Station outputs: those that sound, with the pre-warning pattern of station DMSTA over them (R253). -/
def State.staMask (s : State) : Nat :=
  if !s.opalOn then 0
  else
    let m := maskOf ((List.range 8).filter s.sounds)
    if s.dmst == 2 then setBit m (fld (s.opalHead 7) 34 32) ((s.opl.dmTime / 500000) % 2 == 0) else m

/-- Bring OPL_CALLED.STA to the present state. -/
def State.showStations (s : State) : State :=
  let m := s.staMask
  if s.get OPL_CALLED.STA == m then s else s.put OPL_CALLED.STA m

/-! ### Offers (R244) -/

/-- An open offer: number, PRI, ALL, MSGNO (none for the dead-man function, whose message number no rule gives). -/
structure Offer where
  id : Nat
  pri : Nat
  all : Bool
  msg : Option Nat
deriving DecidableEq, Repr

/-- Offers open now, from the states as they stand. -/
def State.openOffers (s : State) : List Offer :=
  if !s.opalOn then []
  else
    let ok := fun p => s.mode != 1 || p ≤ s.laypri
    let pts := s.almPoints.filterMap (fun n =>
      let e := s.almEnt n
      if e.b 0 13 && 1 ≤ e.pri && e.pri ≤ 4 && s.unacked n && ok e.pri then some ⟨n, e.pri, false, some (e.f 3 35 20)⟩ else none)
    let cells := s.bl.cfg.filterMap (fun c =>
      let k := fld c.2.p0 7 0
      let r := s.callRec k
      if c.2.typ == 13 && s.outO c.1 && ok (fld r 35 33) then some ⟨1024 + k, fld r 35 33, wbit r 32, some (fld r 31 16)⟩ else none)
    pts ++ cells ++ (if s.dmst == 3 then [⟨1280, 1, true, none⟩] else [])

/-- Smallest PRI of a list of offers, 0 for none. -/
def topPri (l : List Offer) : Nat := (l.map (·.pri)).foldl (fun a p => if a == 0 || p < a then p else a) 0

/-! ### Choosing engineers (R247) -/

/-- First rota position, from `start` on, whose engineer is neither away nor called. -/
def State.nextPos (s : State) (start : Nat) : Option Nat :=
  ((List.range s.nrot).map (fun i => (start + i) % s.nrot)).find? (fun p =>
    let e := s.rotaAt p
    !s.bitOf OPL_AWAY.AWAY e && !bit s.called e)

/-- Call the engineer of a rota position. -/
def State.callPos (s : State) (p : Nat) : State :=
  { s.putBit OPL_CALLED.ENG (s.rotaAt p) true with opl := { s.opl with last := p } }

/-! ### Stages (R245, R246) -/

/-- Set the stage, its time starting; a change raises the interrupt source. -/
def State.setStage (s : State) (st : Nat) : State :=
  let s := { s with opl := { s.opl with time := 0 } }
  let s := s.putB OPL_STAT.NOENG false
  if s.stage == st then s else (s.put OPL_STAT.STAGE st).raise HST_ISRC.OPAL

/-- Leave the calling stages: nobody is called. -/
def State.uncall (s : State) : State := if s.called == 0 then s else s.put OPL_CALLED.ENG 0

def State.enterDuty (s : State) : State :=
  let s := s.uncall.setStage 2
  match s.nextPos (s.get OPL_DUTY.POS) with
  | some p => s.callPos p
  | none => { s with opl := { s.opl with last := s.get OPL_DUTY.POS } }

def State.enterAll (s : State) : State :=
  let s := (s.setStage 6).inc OPL_CNT.ESC
  let s := (List.range s.nrot).foldl (fun (s : State) (p : Nat) =>
    let e := s.rotaAt p
    if wbit (s.engineer e) 35 && !s.bitOf OPL_AWAY.AWAY e then s.putBit OPL_CALLED.ENG e true else s) s
  s.putB OPL_STAT.NOENG (s.called == 0)

def State.enterBack (s : State) (k : Nat) : State :=
  let s := (s.setStage (2 + k)).inc OPL_CNT.ESC
  match s.nextPos (s.opl.last + 1) with
  | some p => s.callPos p
  | none => s.enterAll

/-- The stage after one that has reached its length. -/
def State.escalate (s : State) : State :=
  match s.stage with
  | 1 => s.enterDuty
  | 2 => if s.nback ≥ 1 then s.enterBack 1 else s.enterAll
  | 3 => if s.nback ≥ 2 then s.enterBack 2 else s.enterAll
  | 4 => if s.nback ≥ 3 then s.enterBack 3 else s.enterAll
  | 5 => s.enterAll
  | _ => s

/-- Length of the present stage, none where only an event ends it. -/
def State.stageLen (s : State) : Option Nat :=
  match s.stage with
  | 1 => some (s.t0Of s.opl.pri)
  | 2 | 3 | 4 | 5 => some (s.tstgOf s.opl.pri)
  | 7 => some (s.tattOf s.opl.pri)
  | _ => none

/-- Pass on through every stage whose length is reached, at most `n` of them. -/
def escalateDue : Nat → State → State
  | 0, s => s
  | n + 1, s =>
    match s.stageLen with
    | some l => if s.stage != 7 && l ≤ s.opl.time then escalateDue n s.escalate else s
    | none => s

/-! ### Call telegrams (R255, R364) -/

/-- Targets of a call telegram now. -/
def State.callTargets (s : State) : List Nat :=
  ((setIdx s.called 16).map (fun e => fld (s.engineer e) 15 0)
    ++ ((List.range 8).filter s.sounds).map (fun i => fld (s.station i) 15 0)).filter (· != 0)

/-- The message number of the highest-priority open offer, the first of them in the order of the offers; a free value
where that offer is the dead-man function's. -/
def State.topMsg (s : State) : Nat × State :=
  let l := s.openOffers
  match l.find? (fun o => o.pri == topPri l) with
  | some ⟨_, _, _, some m⟩ => (m, s)
  | some ⟨_, _, _, none⟩ => let f := s.free; (f.1 % 65536, f.2)
  | none => (0, s)

/-- Queue a call telegram to its targets; the isolated observer sends none (R257). -/
def State.queueCall (s : State) (clear : Bool) (targets : List Nat) : State :=
  if targets.isEmpty || s.pstate == 6 then s
  else
    let (msg, s) := if clear then (0, s) else s.topMsg
    let a := W (clear.toNat <<< 35 + s.stage <<< 32 + s.get OPL_STAT.PPRI <<< 29 + msg <<< 13)
    let b := W (s.get OPL_CALLED.STA <<< 16 + s.called)
    { s with sn := { s.sn with callQ := s.sn.callQ ++ [([a, b] ++ targets.map W, s.t.run)] } }

/-- A call telegram to the present targets, which a clearing telegram will repeat. -/
def State.sendCall (s : State) : State :=
  let t := s.callTargets
  { s.queueCall false t with opl := { s.opl with targets := t } }

/-- The clearing telegram. -/
def State.sendClear (s : State) : State := s.queueCall true s.opl.targets

/-! ### Acceptance and commands (R249 to R252) -/

/-- Mark every open offer accepted. -/
def State.markAll (s : State) : State := { s with opl := { s.opl with accepted := s.opl.offers } }

/-- An acceptance at a station; true when it is taken. -/
def State.accept (s : State) (i : Nat) : State × Bool :=
  let w := s.station i
  let who :=
    if !s.opalOn || !wbit w 21 || !s.sounds i then none
    else if fld w 35 34 == 2 then some 31 else s.cabinOf i
  match who with
  | none => (s, false)
  | some e =>
    let s := ((s.put OPL_STAT.ACCENG e).inc OPL_CNT.ACCS).markAll
    (((s.uncall.setStage 7).put OPL_STAT.PPRI 0).showStations.sendClear, true)

/-- Restart the dead-man interval (R253); true where a state with a timer takes it. -/
def State.dmReset (s : State) : State × Bool :=
  if s.dmst == 0 then (s, false)
  else ({ s.put OPL_STAT.DMST 1 with opl := { s.opl with dmTime := 0 } }, true)

/-- Return to IDLE. -/
def State.toIdle (s : State) : State :=
  let was := s.stage
  let s := ((s.uncall.setStage 0).put OPL_STAT.PPRI 0).showStations
  if was == 0 then s else { s.sendClear with opl := { s.opl with time := 0, targets := [] } }

/-- Apply a command: its result. -/
def State.oplApply (s : State) (c : EngCmd) : State × Nat :=
  let arg := fld c.w 15 0
  match fld c.w 35 32 with
  | 1 => if arg ≥ 8 then (s, 3) else let r := s.accept arg; (r.1, if r.2 then 0 else 4)
  | 2 => if c.via == 1 then (s, 6) else let r := s.dmReset; (r.1, if r.2 then 0 else 1)
  | 3 => if arg ≥ s.nrot then (s, 3) else if s.get OPL_DUTY.POS == arg then (s, 1) else (s.put OPL_DUTY.POS arg, 0)
  | 4 => if s.get OPL_AWAY.AWAY == arg then (s, 1) else (s.put OPL_AWAY.AWAY arg, 0)
  | 5 =>
    if !c.keyed then (s, 5)
    else if s.stage == 0 && s.opl.offers.all s.opl.accepted.contains then (s, 1)
    else (s.markAll.toIdle, 0)
  | _ => (s, 2)

/-- Report a command's result where it came from (R260, R367). -/
def State.oplReport (s : State) (c : EngCmd) (res : Nat) : State :=
  match c.via with
  | 0 => if c.rqid != s.opl.cmdNo then s else (s.put OPL_CRES.RESULT res).putB OPL_CRES.PEND false
  | 1 => s.respond 3 c.rqid 0 c.src c.grp [W (res <<< 32)]
  | _ => s

/-- Apply a command, record it for the partner, report it. A dead-man reset refused for its path is not applied in either unit. -/
def State.oplCommand (s : State) (c : EngCmd) : State :=
  let s := if c.via == 1 && fld c.w 35 32 == 2 then s else s.record ⟨9, 0, 2 ^ 23 + c.keyed.toNat <<< 22, [c.w]⟩
  let r := s.oplApply c
  r.1.oplReport c r.2

/-- A command arrives (R251, R256). -/
def State.oplQueue (s : State) (c0 : EngCmd) : State :=
  let s : State := if c0.via == 0 then { s with opl := { s.opl with cmdNo := s.opl.cmdNo + 1 } } else s
  let c := if c0.via == 0 then { c0 with rqid := s.opl.cmdNo } else c0
  if !s.almRuns then s.oplReport c 8
  else if s.replays then
    if c.via != 0 then s
    else
      let s := s.sendRec ⟨9, 0, 2 ^ 23 + c.keyed.toNat <<< 22, [c.w]⟩
      ({ s with opl := { s.opl with asked := s.opl.asked ++ [c.w] } } : State).putB OPL_CRES.PEND true
  else if s.opl.cmds.length ≥ 8 then s.oplReport c 7
  else
    let s : State := { s with opl := { s.opl with cmds := s.opl.cmds ++ [c] } }
    if c.via == 0 then s.putB OPL_CRES.PEND true else s

/-- The commands that the active applied in the beat of work; one carried from here reports to its register (R256). -/
def State.oplReplay (s : State) : State :=
  (s.replayCmds true).foldl (fun (s : State) (x : JRec) =>
    let w := x.words.headD 0
    let own := s.opl.asked.contains w
    let c : EngCmd := ⟨w, bit x.typ 22, if own then 0 else 3, if own then s.opl.cmdNo else 0, 0, 0⟩
    { s with opl := { s.opl with cmds := s.opl.cmds ++ [c], asked := s.opl.asked.erase w } }) s

/-- A host write of OPL_CMD, OPL_KCMD, OPL_DUTY or OPL_AWAY (R251, R252). -/
def State.oplCmdWrite (s : State) (w : Word) (keyed : Bool) : State := s.oplQueue ⟨w, keyed, 0, 0, 0, 0⟩
def oplWord (op arg : Nat) : Word := W (op <<< 32 + arg)

/-! ### The dead-man timer (R253) -/

/-- End the present dead-man state by its timer. -/
def State.dmEnd (s : State) : State :=
  { s.put OPL_STAT.DMST (s.dmst + 1) with opl := { s.opl with dmTime := 0 } }

/-- The dead-man function in the beat of work, on the O outputs of ONCELL and RSTCELL and their rises. -/
def State.deadman (s : State) (on onRise rstRise : Bool) : State :=
  if !s.dmen || !on then (if s.dmst == 0 then s else { s.put OPL_STAT.DMST 0 with opl := { s.opl with dmTime := 0 } })
  else
    let s : State := if onRise && s.dmst == 0 then { s.put OPL_STAT.DMST 1 with opl := { s.opl with dmTime := 0 } } else s
    let s := if rstRise then s.dmReset.1 else s
    if s.dmst == 1 && s.opl.dmTime ≥ s.dmt then s.dmEnd
    else if s.dmst == 2 && s.opl.dmTime ≥ s.dmpre then s.dmEnd
    else s

/-! ### The calling process in the beat of work (R244 to R246, R250) -/

/-- Form the open offers and advance the process by one step of its rules. -/
def State.callingStep (s : State) : State :=
  let l := s.openOffers
  let ids := l.map (·.id)
  let stage := s.stage
  let before := (stage, s.called)
  let fresh := l.filter (fun o => !s.opl.offers.contains o.id)
  let acc := s.opl.accepted.filter ids.contains
  let acc := if stage == 7 then acc ++ (fresh.filter (fun o => o.pri ≥ s.opl.pri && !o.all)).map (·.id) else acc
  let s : State := { s with opl := { s.opl with offers := ids, accepted := acc } }
  let left := l.filter (fun o => !acc.contains o.id)
  let top := topPri left
  let s := if s.get OPL_STAT.PPRI == top then s else s.put OPL_STAT.PPRI top
  let s : State := if top != 0 && s.opl.pri != top then { s with opl := { s.opl with pri := top } } else s
  if l.isEmpty then (if stage == 0 then s else s.toIdle)
  else
    let s :=
      if left.any (·.all) then (if stage == 6 then s else (if stage == 7 then s.uncall else s).enterAll)
      else if stage == 0 then (if left.isEmpty then s else escalateDue 7 (s.setStage 1))
      else if stage == 7 then
        if !left.isEmpty then s.enterDuty
        else if s.opl.time ≥ s.tattOf s.opl.pri then
          let s : State := { s with opl := { s.opl with accepted := [], pri := topPri l } }
          let s := s.put OPL_STAT.PPRI (topPri l)
          if l.any (·.all) then s.enterAll else s.enterDuty
        else s
      else escalateDue 7 s
    let s := s.showStations
    if (s.stage, s.called) != before && calling s.stage then s.sendCall else s

/-- LEFT: tenths of a second to the end of the present stage. -/
def State.showLeft (s : State) : State :=
  let v := match s.stageLen with | some l => ceilDiv (l - s.opl.time) 100000 | none => 0
  if s.get OPL_LEFT.LEFT == v then s else s.put OPL_LEFT.LEFT v

/-- NOPEN follows the open offers. -/
def State.showOffers (s : State) : State :=
  let n := s.opl.offers.length
  if s.get OPL_STAT.NOPEN == n then s else s.put OPL_STAT.NOPEN n

/-- Logical state of every station's IN, as a mask of stations. -/
def State.stationIns (s : State) : Nat :=
  maskOf ((List.range 8).filter (fun i =>
    fld (s.station i) 35 34 != 0 && wbit (s.station i) 27 && s.source 4 (4 * fld (s.station i) 26 22)))

/-- Opal works: an image has been applied since the reset, and its table is in use (R240, R258). -/
def State.opalRuns (s : State) : Bool := s.almRuns && s.opalOn

/-- Opal's work of a beat (R242). -/
def State.opalBeat (s : State) : State :=
  let s := s.oplReplay
  if !s.opalRuns then
    s.opl.cmds.foldl State.oplCommand { s with opl := { s.opl with cmds := [], prev := none } }
  else
    let on := s.outO (fld (s.opalHead 7) 31 20)
    let rst := s.outO (fld (s.opalHead 7) 19 8)
    let ins := s.stationIns
    let (on0, rst0, ins0) := s.opl.prev.getD (on, rst, ins)
    let s := s.opl.cmds.foldl State.oplCommand { s with opl := { s.opl with
      time := s.opl.time + 1, dmTime := s.opl.dmTime + 1, cmds := [], prev := some (on, rst, ins) } }
    let s := (setIdx (ins &&& (255 ^^^ (ins0 &&& ins))) 8).foldl (fun (s : State) (i : Nat) => (s.accept i).1) s
    (s.deadman on (on && !on0) (rst && !rst0)).callingStep.showStations.showOffers.showLeft

/-- A round boundary while a calling stage lasts sends a call telegram (R255). -/
def State.opalRound (s : State) : State := if calling s.stage then s.sendCall else s

/-! ### Commands of the table -/

/-- What follows a command outside the beat of work. -/
def State.opalSettle (s : State) : State := s.showStations.showOffers.showLeft

/-- The next beat of work finds the present stage at its length (R246, R250). -/
def State.stageOver (s : State) : Bool :=
  s.opalRuns && match s.stageLen with | some l => decide (l ≤ s.opl.time + 1) | none => false

/-- The next beat of work finds the present dead-man state at the end of its time, or the pre-warning output at a half period
(R253). -/
def State.dmOver (s : State) (st : Nat) : Bool :=
  s.opalRuns && s.dmen && s.dmst == st && decide ((if st == 1 then s.dmt else s.dmpre) ≤ s.opl.dmTime + 1)
def State.blinkOver (s : State) : Bool := s.opalRuns && s.dmen && s.dmst == 2 && (s.opl.dmTime + 1) % 500000 == 0

/-- Take a command out of the queue, or take it as it arrives from the host, and apply it now. A standby carries it to the active. -/
def State.oplNow (s : State) (w : Word) (keyed : Bool) : State :=
  match s.opl.cmds.find? (fun c => c.w == w && c.keyed == keyed) with
  | none =>
    if !s.almRuns || s.replays then s.oplQueue ⟨w, keyed, 0, 0, 0, 0⟩
    else
      let s : State := { s with opl := { s.opl with cmdNo := s.opl.cmdNo + 1 } }
      (s.oplCommand ⟨w, keyed, 0, s.opl.cmdNo, 0, 0⟩).opalSettle
  | some c => (({ s with opl := { s.opl with cmds := s.opl.cmds.erase c } } : State).oplCommand c).opalSettle

def execOpalAccept (station : Fin 8) (s : State) : Host.Outcome State Fault Refusal := act s (fun s => s.oplNow (oplWord 1 station.val) false)
def execOpalDeadmanReset (s : State) : Host.Outcome State Fault Refusal := act s (fun s => s.oplNow (oplWord 2 0) false)
def execOpalSetDuty (pos : Fin 16) (s : State) : Host.Outcome State Fault Refusal := act s (fun s => s.oplNow (oplWord 3 pos.val) false)
def execOpalSetAway (mask : BitVec 16) (s : State) : Host.Outcome State Fault Refusal := act s (fun s => s.oplNow (oplWord 4 mask.toNat) false)
def execOpalCancel (s : State) : Host.Outcome State Fault Refusal := act s (fun s => s.oplNow (oplWord 5 0) true)

/-! ### Validation and adoption (R240, R259) -/

/-- The words validate against the adopted discrete entries and the applied lattice. -/
def State.oplValid (s : State) (ws : List Word) : Bool :=
  let w := fun i => ws.getD i 0
  let h := w 0
  if !wbit h 27 then true
  else
    let nrot := fld h 21 17
    let rot := fun i => let lo := 28 - 4 * (i % 8); fld (w (5 + i / 8)) (lo + 3) lo
    let rota := (List.range nrot).map rot
    let eng := fun e => w (16 + 8 * e)
    let sta := fun i => w (144 + 8 * i)
    let used := (List.range 8).filter (fun i => fld (sta i) 35 34 != 0)
    let csta := fun e => fld (eng e) 34 27
    let outs := (used.filter (fun i => wbit (sta i) 33)).map (fun i => fld (sta i) 32 28)
    let ins := (used.filter (fun i => wbit (sta i) 27)).map (fun i => fld (sta i) 26 22)
    fld h 24 22 ≤ 4 && 1 ≤ nrot && nrot ≤ 16
      && (List.range 8).all (fun i => fld (sta i) 35 34 != 3)
      && rota.all (fun e => wbit (eng e) 35) && rota.Nodup
      && (List.range 8).all (fun i => ((List.range 16).filter (fun e => bit (csta e) i)).length ≤ 1)
      && (List.range 16).all (fun e => (setIdx (csta e) 8).all (fun i => fld (sta i) 35 34 == 1))
      && outs.Nodup && outs.all (fun n => (s.dioEnt n).dir && !(s.dioEnt n).pwm)
      && ins.all (fun n => !(s.dioEnt n).isEmpty && !(s.dioEnt n).dir)
      && (!wbit (w 7) 35 || fld (sta (fld (w 7) 34 32)) 35 34 != 0)
      && s.bl.cfg.all (fun c =>
        c.2.typ != 13 || (let p := fld (w (208 + 4 * fld c.2.p0 7 0)) 35 33; 1 ≤ p && p ≤ 4))

/-- Opal is idle: nobody is called, no station is driven, the dead-man function is off (R240, R255). -/
def State.opalIdle (s : State) : State :=
  let s := s.toIdle.put OPL_STAT.DMST 0
  let s : State := { s with opl := { s.opl with offers := [], accepted := [], dmTime := 0, prev := none } }
  s.opalSettle.dioOutputs

/-- What adopting the table does beside replacing the cached copy: with EN = 0 Opal goes idle; else its process goes on, and a rise
needs a sample under the new entry before it (R259). -/
def State.adoptOpl (s : State) (new : List Word) : State :=
  let on := wbit (new.getD 0 0) 27
  let s := s.putB OPL_STAT.RUN on
  if on then ({ s with opl := { s.opl with prev := none } } : State).dioOutputs else s.opalIdle

end Sys2Proof.Machine
end

