-- ==== Sys2Proof/Machine/Reload.lean ====
section
/-! DEFINITION. Reloading table entries (R91 to R98, R202, R239), forces (R103, R104). Points are numbered 0 to 127 channels,
128 to 143 loop outputs, 144 to 175 discretes, 176 to 183 speeds, 184 + n alarm point n, 1208 the rota and call table. Units
are numbered as their islands: 0 to 15, 16, 17, 18, 20 the alarm engine, 21 Opal. -/
namespace Sys2Proof.Machine

open Sys2Proof

/-! ### Points, their islands and their words -/

/-- The island that reloads a point. -/
def unitOf (p : Nat) : Nat :=
  if p < 128 then p / 8 else if p < 144 then 16 else if p < 176 then 17 else if p < 184 then 18 else if p < 1208 then 20 else 21

/-- Points of an island. -/
def pointsOf (u : Nat) : List Nat :=
  if u < 16 then (List.range 8).map (8 * u + ·)
  else match u with
    | 16 => (List.range 16).map (128 + ·)
    | 17 => (List.range 32).map (144 + ·)
    | 18 => (List.range 8).map (176 + ·)
    | 20 => (List.range 1024).map (184 + ·)
    | 21 => [1208]
    | _ => []

/-- The islands that cache entries. -/
def unitList : List Nat := List.range 19 ++ [20, 21]

/-- Word addresses of an entry, word 0 first (R81, R198, R234). -/
def entryAddrs (p : Nat) : List Nat :=
  if p < 128 then (List.range 64).map (0o00100000 + 64 * p + ·)
  else if p < 144 then (List.range 32).map (0o00300000 + 32 * (p - 128) + ·)
  else if p < 176 then (List.range 16).map (0o00310000 + 16 * (p - 144) + ·)
  else if p < 184 then (List.range 32).map (0o00320000 + 32 * (p - 176) + ·)
  else if p < 1208 then (List.range 16).map (0o00200000 + 16 * (p - 184) + ·)
  else (List.range 16).map (0o00600000 + ·) ++ (List.range 128).map (0o00600100 + ·)
    ++ (List.range 64).map (0o00600300 + ·) ++ (List.range 1024).map (0o00601000 + ·)

/-- Address of the commit word of an entry. -/
def commitAddr (p : Nat) : Nat := (entryAddrs p).headD 0

/-! ### The pass in progress -/

def State.passOf (s : State) (u : Nat) : Pass :=
  match u with | 20 => s.alm.reload | 21 => s.opl.reload | _ => (s.islOf u).reload

def State.setPass (s : State) (u : Nat) (p : Pass) : State :=
  match u with
  | 20 => { s with alm := { s.alm with reload := p } }
  | 21 => { s with opl := { s.opl with reload := p } }
  | _ => s.setIsl u { s.islOf u with reload := p }

def State.dueOf (s : State) (u : Nat) : List Nat := (s.passOf u).due
def State.fullOf (s : State) (u : Nat) : Bool := (s.passOf u).full

/-! ### Cached copies and their reports (R105, R211, R260) -/

def State.copyOf (s : State) (p : Nat) : PtCache :=
  if p < 184 then s.cacheOf p else if p < 1208 then (s.almOf (p - 184)).cache else s.opl.cache

def State.setCopy (s : State) (p : Nat) (c : PtCache) : State :=
  if p < 184 then s.setCache p c
  else if p < 1208 then s.setAlm (p - 184) { s.almOf (p - 184) with cache := c }
  else { s with opl := { s.opl with cache := c } }

/-- Block of a point's cache registers, and its number within the block. -/
def cacheBlock (p : Nat) : Nat × Nat :=
  if p < 128 then (0o40020360 + 256 * (p / 8), p % 8)
  else if p < 144 then (0o40070360, p - 128)
  else if p < 176 then (0o40100360, p - 144)
  else (0o40110360, p - 176)

/-- Field showing the reload state of a point. -/
def stateFld (p : Nat) : Fld :=
  if p < 184 then let (b, j) := cacheBlock p; ⟨b + j / 8, 4 * (j % 8) + 3, 4 * (j % 8)⟩
  else if p < 1208 then ALM_PST.CACHE (p - 184) else OPL_CACHE.STATE

def forcedFld (p : Nat) : Fld := let (b, j) := cacheBlock p; ⟨b + 4 + j / 8, j % 8, j % 8⟩
def fignFld (p : Nat) : Fld := let (b, j) := cacheBlock p; ⟨b + 4 + j / 8, 8 + j % 8, 8 + j % 8⟩

/-- RLCNT fields of an island. -/
def rldFld (u : Nat) : Fld :=
  match u with
  | 16 => LO_RLCNT.RELOADS | 17 => DIO_RLCNT.RELOADS | 18 => SPD_RLCNT.RELOADS | 20 => ALM_RLCNT.RELOADS
  | 21 => OPL_RLCNT.RELOADS | k => FI_RLCNT.RELOADS k
def rejFld (u : Nat) : Fld :=
  match u with
  | 16 => LO_RLCNT.REJECTS | 17 => DIO_RLCNT.REJECTS | 18 => SPD_RLCNT.REJECTS | 20 => ALM_RLCNT.REJECTS
  | 21 => OPL_RLCNT.REJECTS | k => FI_RLCNT.REJECTS k

/-- Bring what a point presents to its copy as it stands. -/
def State.showPoint (s : State) (p : Nat) : State :=
  if p < 128 then (s.refreshChan p).presentComp p
  else if p < 144 then s.loPublish (p - 128)
  else if p < 176 then (s.dioDue (p - 144)).dioDrive (p - 144)
  else if p < 184 then s.spdSettled (p - 176)
  else s

/-- Set or end the Q = 14 of a point (R36, R94, R96). -/
def State.setQ14 (s : State) (p : Nat) (b : Bool) : State :=
  if (s.copyOf p).q14 == b then s else (s.setCopy p { s.copyOf p with q14 := b }).showPoint p

/-! ### Reading an entry (R93) -/

/-- The commit word commits the running copy: same GEN, not EMPTY, and no full pass. -/
def State.sameGen (s : State) (p : Nat) (g1 : Word) : Bool :=
  let c := s.copyOf p
  !c.words.isEmpty && !s.fullOf (unitOf p) && fld (c.words.headD 0) 35 28 == fld g1 35 28

/-- The reads of an attempt in their order: word 0, the others, word 0 again. -/
def readsOf (p : Nat) : List Nat := entryAddrs p ++ [commitAddr p]

/-- Words until the first that is answered POISON. -/
def State.goodReads (s : State) (l : List Nat) : List Word := (l.takeWhile (fun a => !s.sramPoison a)).map s.sramAt

/-- A reload that begins shows as PENDING (R105), but RETRYING or POISONED stands until the next attempt ends (R94). -/
def State.showPending (s : State) (p : Nat) : State := if (s.copyOf p).tries != 0 then s else s.put (stateFld p) 2

/-- The read of word 0, once its beat has come. -/
def State.showFirst (s : State) (p : Nat) : State :=
  let u := unitOf p
  let r := s.passOf u
  let a := commitAddr p
  if !r.words.isEmpty then s
  else if s.sramPoison a then (s.setPass u { r with miss := 2 }).sramFetch u [a]
  else
    let w := s.sramAt a
    let s := s.setPass u { r with words := [w] }
    if s.sameGen p w then s else s.showPending p

/-- The reads that the first point of a unit's pass has had by the beat in force, one word a beat; the first that is answered
POISON ends the attempt, and a word 0 with the GEN of the running copy needs no other. -/
def State.readOn (s : State) (u : Nat) : State :=
  let r := s.passOf u
  match r.due with
  | [] => s
  | p :: _ =>
    if s.t.run < r.readAt || r.miss != 0 then s
    else
      let s := s.showFirst p
      let r := s.passOf u
      if r.miss != 0 || r.words.isEmpty || (r.words.length == 1 && s.sameGen p (r.words.headD 0)) then s
      else
        let l := ((readsOf p).take (s.t.run + 1 - r.readAt)).drop r.words.length
        let ws := s.goodReads l
        let s := s.setPass u { r with words := r.words ++ ws, miss := if ws.length == l.length then 0 else 2 }
        s.sramFetch u ((l.drop ws.length).take 1)

/-! ### Triggers (R92, R93) -/

/-- A unit takes no trigger before the first image apply after a reset (R92, R202, R239), nor while an image's tables are copied
(R463, step 3). -/
def State.takesTriggers (s : State) (u : Nat) : Bool :=
  s.life.applied && !(20 ≤ u && s.img.resync) && !(match s.img.prep with | some p => p.step == 3 | none => false)

/-- Points of an island fall due. A pass in progress takes those it has not yet checked; one that loads everything starts afresh. -/
def State.trigReload (s : State) (u : Nat) (l : List Nat) (full : Bool) : State :=
  if (!s.takesTriggers u && !full) || !s.alive u || l.isEmpty then s
  else
    let r := s.passOf u
    match (if full then [] else r.due) with
    | p :: rest =>
      let more := (pointsOf u).filter (fun q => q != p && (rest.contains q || (l.contains q && !r.checked.contains q)))
      s.setPass u { r with due := p :: more }
    | [] =>
      let s : State := l.foldl (fun (s : State) (p : Nat) =>
        if (s.copyOf p).tries == 0 then s else s.setCopy p { s.copyOf p with tries := 0 }) s
      (s.setPass u ⟨l, full, [], s.t.run, 0, []⟩).readOn u

/-- Every entry falls due: at a round boundary (R92), or, loading all, at an image apply. -/
def State.reloadAll (s : State) (full : Bool) : State :=
  unitList.foldl (fun (s : State) (u : Nat) => s.trigReload u (pointsOf u) full) s

/-- The tables open to the host again when no full pass is left (R98). -/
def State.openTables (s : State) : State :=
  if s.tblLock && !unitList.any s.fullOf then { s with tblLock := false } else s

/-- The attempt in progress has ended; the next read of a word 0 falls in beat `at_`, run. `next` says that it is another point's. -/
def State.endAttempt (s : State) (u at_ : Nat) (next : Bool) : State :=
  let r := s.passOf u
  let due := if next then r.due.tail else r.due
  let done_ := if next then r.checked ++ r.due.take 1 else r.checked
  let s :=
    if due.isEmpty then (s.setPass u Pass.none).openTables
    else s.setPass u { r with due := due, words := [], readAt := at_, miss := 0, checked := done_ }
  s.readOn u

/-! ### How an attempt ends (R93 to R96) -/

/-- Validation of the words of a point (R95, R201, R240, R266, R323, R345). -/
def State.validEntry (s : State) (p : Nat) (ws : List Word) : Bool :=
  let old := (s.copyOf p).words
  let full := s.fullOf (unitOf p)
  if p < 128 then channelValid p ws
  else if p < 144 then loValid ws old full
  else if p < 176 then dioValid ws old full
  else if p < 184 then spdValid ws old full
  else if p < 1208 then almValid ws
  else s.oplValid ws

/-- Adopt the words of a point (R97, R103). -/
def State.adopt (s : State) (p : Nat) (ws : List Word) : State :=
  let was := s.copyOf p
  let full := s.fullOf (unitOf p)
  let force := p < 184 && wbit (ws.getD 7 0) 35
  let on := force && s.mode == 2
  let s := s.setCopy p ⟨ws, 0, false, on, force && !on⟩
  let s := if p < 184 then (s.putB (forcedFld p) on).putB (fignFld p) (force && !on) else s
  let s := (s.put (stateFld p) 1).inc (rldFld (unitOf p))
  if p < 128 then s.adoptChan p was ws
  else if p < 144 then s.adoptLo (p - 128) was.words ws full
  else if p < 176 then s.adoptDio (p - 144) was.words ws full
  else if p < 184 then s.adoptSpd (p - 176) was.words ws
  else if p < 1208 then s.adoptAlm (p - 184) was.words ws full
  else s.adoptOpl ws

/-- An attempt failed with its read in beat `at_`, run (R94). -/
def State.failed (s : State) (p : Nat) (poison : Bool) (at_ : Nat) : State :=
  let u := unitOf p
  let s := if poison then s.setQ14 p true else s
  let c := s.copyOf p
  if c.tries + 1 ≥ 4 then
    (((s.setCopy p { c with tries := 0 }).put (stateFld p) 4).inc (rejFld u)).endAttempt u (at_ + 1) true
  else
    ((s.setCopy p { c with tries := c.tries + 1 }).put (stateFld p) (if poison then 6 else 3)).endAttempt u (at_ + 1) false

/-- An attempt found the GEN of the running copy (R94). -/
def State.unchanged (s : State) (p at_ : Nat) : State :=
  let s := (s.setCopy p { s.copyOf p with tries := 0 }).setQ14 p false
  (s.put (stateFld p) 1).endAttempt (unitOf p) (at_ + 1) true

/-- Validation refused the words (R96). -/
def State.reject (s : State) (p at_ : Nat) : State :=
  let u := unitOf p
  let s := (s.setCopy p { s.copyOf p with tries := 0 }).setQ14 p true
  ((s.put (stateFld p) 5).inc (rejFld u)).endAttempt u (at_ + 1) true

/-- The attempt on the first point of a unit's pass ends if its last read, the validation after it, or the adoption after that, has
come (R93). The flag says that it ended. -/
def State.conclude (s : State) (u : Nat) : State × Bool :=
  let r := s.passOf u
  match r.due with
  | [] => (s, false)
  | p :: _ =>
    let n := (entryAddrs p).length
    let at_ := r.readAt + r.words.length
    let w0 := r.words.headD 0
    if r.miss != 0 then (s.failed p (r.miss == 2) at_, true)
    else if r.words.length == 1 && s.sameGen p w0 then (s.unchanged p r.readAt, true)
    else if r.words.length != n + 1 then (s, false)
    else if r.words.getD n 0 != w0 then (s.failed p false (r.readAt + n), true)
    else
      let ws := r.words.take n
      if s.t.run ≤ r.readAt + n then (s, false)
      else if !s.validEntry p ws then (s.reject p (r.readAt + n + 1), true)
      else if s.t.run < r.readAt + n + 2 then (s, false)
      else ((s.adopt p ws).endAttempt u (r.readAt + n + 2) true, true)

/-- The attempts of a unit that have ended by the beat in force, at most `fuel` of them. -/
def State.concludeAll (u : Nat) : Nat → State → State
  | 0, s => s
  | fuel + 1, s => let (t, more) := s.conclude u; if more then concludeAll u fuel t else t

/-- Attempts that a beat count in force can have brought to an end: four on each point. -/
def State.reloadSweep (s : State) : State :=
  unitList.foldl (fun (s : State) (u : Nat) => if s.alive u then s.concludeAll u 4836 else s) s

/-- Each unit reads the word of this beat. -/
def State.reloadBeat (s : State) : State :=
  unitList.foldl (fun (s : State) (u : Nat) => if s.alive u then s.readOn u else s) s

/-- The reload in progress of a point ends, if it is the one its unit works on and its time has come; with `timeout` the read of
this beat finds no answer (R93). -/
def State.reloadPoint (s : State) (p : Nat) (timeout : Bool) : State :=
  let u := unitOf p
  let r := s.passOf u
  if !s.alive u || r.due.head? != some p then s
  else
    let s :=
      if !timeout || s.t.run < r.readAt || r.miss != 0 then s
      else
        let k := s.t.run - r.readAt
        if k ≤ (entryAddrs p).length then s.setPass u { r with words := r.words.take k, miss := 1 } else s
    (s.conclude u).1

def execEntryReload (p : Fin 1209) (timeout : Bool) (s : State) : Host.Outcome State Fault Refusal :=
  act s (fun s => s.reloadPoint p.val timeout)

/-- The next attempt on an entry whose last attempt failed (R94). -/
def execReloadRetry (p : Fin 1209) (timeout : Bool) (s : State) : Host.Outcome State Fault Refusal :=
  act s (fun s => if (s.copyOf p.val).tries == 0 then s else s.reloadPoint p.val timeout)

/-- A write of an island's TSYNC takes effect (R92, R105). -/
def State.tsync (s : State) (u mask : Nat) : State :=
  let l := pointsOf u
  s.trigReload u ((setIdx mask l.length).map (fun i => l.headD 0 + i)) false

/-- Address of the TSYNC register of an island. -/
def tsyncAddr (u : Nat) : Nat :=
  match u with | 16 => LO_TSYNC | 17 => DIO_TSYNC | 18 => SPD_TSYNC | k => FI_TSYNC k

def execTsyncWrite (u : Fin 19) (mask : BitVec 32) (s : State) : Host.Outcome State Fault Refusal :=
  act s (fun s => (s.consume (tsyncAddr u.val) (W mask.toNat)).tsync u.val mask.toNat)

/-- A write of ALM_TSYNC (R202) or OPL_TSYNC (R239) takes effect. -/
def State.almTsync (s : State) (all : Bool) (n : Nat) : State := s.trigReload 20 (if all then pointsOf 20 else [184 + n]) false
def State.oplTsync (s : State) : State := s.trigReload 21 [1208] false

def execAlmTsyncWrite (all : Bool) (n : Fin 1024) (s : State) : Host.Outcome State Fault Refusal :=
  act s (fun s => (s.consume ALM_TSYNC (W (all.toNat <<< 35 + n.val))).almTsync all n.val)
def execOplTsyncWrite (s : State) : Host.Outcome State Fault Refusal :=
  act s (fun s => (s.consume OPL_TSYNC (W (2 ^ 35))).oplTsync)

/-! ### Loss of supply and the end of forces (R91, R104) -/

/-- A field channel that loses its copy: what its comparators presented last stays at the lattice's input stage (R180). -/
def ChanS.lost (c : ChanS) : ChanS := { ChanS.fresh with heldH := c.heldH, heldL := c.heldL, cfail := c.cfail }

/-- An island loses its cached copies, and what it was doing; a pass cut short leaves PASS even (R102). -/
def State.loseCopies (s : State) (u : Nat) : State :=
  let s := s.setPass u Pass.none
  let s : State := (pointsOf u).foldl (fun (s : State) (p : Nat) =>
    let s := (s.setCopy p ⟨[], 0, false, false, false⟩).put (stateFld p) 0
    if p < 184 then (s.putB (forcedFld p) false).putB (fignFld p) false else s) s
  let s : State :=
    if u < 16 then
      let s := if (s.islOf u).wrote then s.incMod (FI_PASS.PASS u) else s
      let s := match (s.islOf u).passList with | some n => s.putB (FI_SLST.RUN u n) false | none => s
      let i := s.islOf u
      (pointsOf u).foldl (fun (s : State) (n : Nat) =>
        ((s.setChan n (s.chanOf n).lost).setRaw n false false).presentComp n) (s.setIsl u { IslS.fresh with lost := i.lost, quiet := i.quiet })
    else if u == 16 then { s with lo := s.lo.map (fun (p : Nat × LoS) => (p.1, { LoS.fresh with fq := p.2.fq })) }
    else if u == 17 then { s with dio := s.dio.map (fun (p : Nat × DioS) => (p.1, { DioS.fresh with raw := p.2.raw })) }
    else if u == 18 then { s with spd := s.spd.map (fun (p : Nat × SpdS) => (p.1, SpdS.fresh)) }
    else if u == 21 then s.putB OPL_STAT.RUN false
    else s
  s.openTables

/-- The words of an island's points as an island without a single cached copy gives them: Q = 15 when it takes part again (R91),
Q = 13 while a field island is unused (R121). -/
def State.emptyWords (s : State) (u q : Nat) : State :=
  let idx := if u < 16 then pointsOf u else match u with
    | 16 => (List.range 16).map (0o200 + ·)
    | 17 => (List.range 32).map (0o220 + ·)
    | 18 => (List.range 16).map (0o260 + ·)
    | _ => []
  idx.foldl (fun (s : State) (n : Nat) => s.publish n (qword q 0)) s

/-- Every force ends at a change out of MAINTENANCE (R104). -/
def State.endForces (s : State) : State :=
  let l := (s.cache.filter (fun p => p.2.forced && p.1 < 184)).map (·.1)
  let s : State := l.foldl (fun (s : State) (p : Nat) =>
    let s := s.setCopy p { s.copyOf p with forced := false, fign := true }
    (s.putB (forcedFld p) false).putB (fignFld p) true) s
  l.foldl State.showPoint s

end Sys2Proof.Machine
end

