-- ==== Sys2Proof/Machine/Views.lean ====
section
/-! DEFINITION. What a read of an address returns: registers whose word is formed when it is read, the memory map and the
rights of a reader under the host rules (R21, R27 to R31, R484). -/
namespace Sys2Proof.Machine

open Sys2Proof

/-! ### Registers formed at the read -/

/-- FIk_STAT of an island (R139). -/
def State.fiStatWord (s : State) (k : Nat) : Word :=
  match (s.islOf k).conv with
  | none => 0
  | some c =>
    let e : Entry := c.ent
    let el := s.since c.start
    let t := el - (if c.test then 500 else 0)
    let one := e.settle + (if e.filt == 2 then 3 else 1) * e.window (s.get (FI_CFG.MAINS k))
    let step := if c.test && el < 500 then 3 else if el + 40 ≥ c.len then 2 else if t % (if one == 0 then 1 else one) < e.settle then 0 else 1
    W (1 <<< 35 + c.list <<< 32 + c.ch <<< 29 + step <<< 27 + (c.len - el))

/-- ALM_STAT, ALM_CNT and ALM_GSTg (R233). -/
def State.almStatWord (s : State) : Word :=
  let p := s.almPoints
  let rej := s.alm.pts.any (fun x => s.get (ALM_PST.CACHE x.1) == 4 || s.get (ALM_PST.CACHE x.1) == 5)
  let fl := (List.range 64).any (fun g => s.flag (ALM_GST.FLOOD g))
  W (s.almRuns.toNat <<< 35 + (p.any (fun n => s.flag (ALM_PST.NOFEED n))).toNat <<< 34
    + (p.any (fun n => s.flag (ALM_PST.CONFL n))).toNat <<< 33 + rej.toNat <<< 32 + fl.toNat <<< 31)

/-- Number of points in one of the states named. -/
def State.countIn (s : State) (l : List Nat) : Nat := (s.almPoints.filter (fun n => l.contains (s.almState n))).length

def State.almCntWord (s : State) : Word := W (s.countIn [1, 2] <<< 22 + s.countIn [1, 3] <<< 11 + s.countIn [4, 5, 6])

def State.almGstWord (s : State) (g : Nat) : Word := s.alm.gst.getD g 0

/-- ALM_PSTn: what a change of state moves shows from phase 2 on (R212). -/
def State.almPstWord (s : State) (n : Nat) : Word :=
  W (((s.reg (ALM_PST n)).toNat &&& ((2 ^ 36 - 1) - pstMask)) ||| s.alm.shown.getD n (7 <<< 33))

/-- LO_STAT, DIO_STAT, DIO_STATE and SPD_STAT (R301, R326, R347). -/
def State.loStatWord (s : State) : Word :=
  let f := (List.range 16).any (fun n => (List.range 6).any (fun k => s.flag (loFault n k)))
  W (setBit (setBit (s.reg LO_STAT).toNat 35 s.life.applied) 33 f)

def State.dioStatWord (s : State) : Word :=
  let g := maskOf ((List.range 4).filter (fun g => s.flag (DIO_GST.UV g) || s.flag (DIO_GST.MULTI g)))
  W (s.life.applied.toNat <<< 35 + ((List.range 32).any (fun n => s.get (DIO_PST.FCAUSE n) != 0)).toNat <<< 34
    + (s.get DIO_CHAT.CHAT != 0).toNat <<< 33 + (s.get DIO_STUCK.STUCK != 0).toNat <<< 32 + g)

def State.dioStateWord (s : State) : Word :=
  W (maskOf ((List.range 32).filter (fun n => fld (s.mirror (0o220 + n)) 31 0 != 0)))

def State.spdStatWord (s : State) : Word :=
  let sig := fun i => maskOf ((List.range 8).filter (fun n => bit (s.spdOf n).dec i))
  W (s.life.applied.toNat <<< 35 + ((List.range 8).any (fun n => s.enabled (176 + n) && qBad (s.get (SPD_PST.Q n)))).toNat <<< 34
    + sig 3 <<< 16 + sig 4 <<< 8 + sig 0)

/-- A legacy point, 0 to 127, in one of the states named. -/
def State.legCount (s : State) (l : List Nat) : Nat := (s.almPoints.filter (fun n => n < 128 && l.contains (s.almState n))).length

/-- QSTAT (R514). -/
def State.qstat (s : State) : Nat :=
  let w := s.get LEG_STAT.QSTAT
  setBit (setBit (setBit (setBit w 14 (s.legCount [1, 3] != 0)) 13 (s.mode == 3 || s.starting)) 12 (s.mode == 2)) 8 (!s.drives)

/-- LEG_STAT (R538). -/
def State.legStatWord (s : State) : Word := W (s.compat.toNat <<< 35 + s.legTx.toNat <<< 34 + s.qstat)

/-- The nodes kept of the mode domain in force (R378). -/
def State.domNodes (s : State) : List DomNode := s.sn.dom.filter (fun d => d.dom == s.get TIM_MDOM.DOMAIN)

/-- Registers formed when they are read. -/
def State.formed (s : State) (a : Nat) : Option Word :=
  if a == TIM_NOW0 then some s.t.beat
  else if a == TIM_NOW1 then some s.t.round
  else if a == TIM_NOW2 then some (if s.timed then s.ts1 s.ph else 0)
  else if a == TIM_NOW3 then some (W s.t.repoch)
  else if FI_STAT 0 ≤ a && a ≤ FI_STAT 15 && (a - FI_STAT 0) % 256 == 0 then some (s.fiStatWord ((a - FI_STAT 0) / 256))
  else if CAL_WIN 0 ≤ a && a ≤ CAL_WIN 63 then some (s.calWinRead (a - CAL_WIN 0))
  else if a == BL_DIG then some (if s.bl.digDone.isEmpty then 0 else W (latticeDigest s.bl.digDone))
  else if a == BL_PEEK then some (s.cellWord (s.get BL_PEEKSEL.CELL))
  else if a == ALM_STAT then some s.almStatWord
  else if a == ALM_CNT then some s.almCntWord
  else if ALM_GST 0 ≤ a && a ≤ ALM_GST 63 && (a - ALM_GST 0) % 2 == 0 then some (s.almGstWord ((a - ALM_GST 0) / 2))
  else if ALM_PST 0 ≤ a && a ≤ ALM_PST 1023 then some (s.almPstWord (a - ALM_PST 0))
  else if a == LO_STAT then some s.loStatWord
  else if a == DIO_STAT then some s.dioStatWord
  else if a == DIO_STATE then some s.dioStateWord
  else if a == SPD_STAT then some s.spdStatWord
  else if a == ONX_STAT then
    
    some (W (setBits (setBits (setBit (s.reg a).toNat 32 (s.flag ONX_CFG.SAFEM)) 31 24 (satAt 128 s.onx.depth)) 23 16 (satAt 255 s.onx.tokens)))
  else if a == SN_STAT then some (W (setBits (s.reg a).toNat 5 0 s.domNodes.length))
  else if a == HST_STAT then some (W (setBits (s.reg a).toNat 29 23 (64 - s.hst.wq.length)))
  else if a == LEG_STAT then some s.legStatWord
  else if a == HST_MGCFG then some (W (setBits (s.reg a).toNat 6 0 (0x58 + s.unit)))
  else none

/-- The word a register shows: fields that read, all others zero (R31). -/
def State.view (s : State) (a : Nat) : Word :=
  match regRow a with
  | none => 0
  | some r => ((s.formed a).getD (s.reg a)) &&& W (r.impl - (r.impl &&& (r.wo ||| r.wk)))

/-! ### The memory map (R27 to R30) -/

def isSram (a : Nat) : Bool := a ≤ 0o03777777
def isMram (a : Nat) : Bool := 0o10000000 ≤ a && a ≤ 0o17777777
def isReg (a : Nat) : Bool := 0o40000000 ≤ a && a ≤ 0o40207777

/-- Regions of the SRAM a host may read, with whether it may write them (R28). -/
def sramRegions : List (Nat × Nat × Bool) :=
  [(0o00100000, 0o00117777, true), (0o00200000, 0o00237777, true), (0o00300000, 0o00300777, true),
   (0o00310000, 0o00310777, true), (0o00320000, 0o00320377, true), (0o00400000, 0o00407777, false),
   (0o00500000, 0o00507777, false), (0o00600000, 0o00607777, true), (0o00700000, 0o00777777, false),
   (0o01000000, 0o01777777, false), (0o02000000, 0o03777777, true)]

/-- The region an SRAM address lies in: none, read only, or writable. -/
def sramRight (a : Nat) : Option Bool := (sramRegions.find? (fun r => r.1 ≤ a && a ≤ r.2.1)).map (·.2.2)

/-- The tables closed by R98: the four tables, the alarm point table and the rota and call table. -/
def isTable (a : Nat) : Bool :=
  (0o00100000 ≤ a && a ≤ 0o00117777) || (0o00200000 ≤ a && a ≤ 0o00237777) || (0o00300000 ≤ a && a ≤ 0o00300777) ||
  (0o00310000 ≤ a && a ≤ 0o00310777) || (0o00320000 ≤ a && a ≤ 0o00320377) || (0o00600000 ≤ a && a ≤ 0o00607777)

def isFreeHost (a : Nat) : Bool := 0o02000000 ≤ a && a ≤ 0o03777777
def isKeyStore (a : Nat) : Bool := 0o16500000 ≤ a && a ≤ 0o16507777

/-- The island that answers for an address; none for the SRAM port and the always-on registers (R13, R30). -/
def targetOf (a : Nat) : Option Nat :=
  if isMram a then some 26
  else if !isReg a then none
  else match (a - 0o40000000) / 4096 with
    | 0 => none | 1 => none
    | 2 => some ((a - 0o40020000) / 256)
    | 3 => some 28 | 4 => some 19 | 5 => some 20 | 6 => some 21 | 7 => some 16 | 8 => some 17 | 9 => some 18
    | 10 => some 22 | 11 => some 23 | 12 => some 24 | 13 => some 25 | 14 => some 26 | _ => some 27

/-- The target of an address is known not alive (R20): an island by its bit in ALIVE, the SRAM port and the always-on registers
by theirs. -/
def State.deaf (s : State) (a : Nat) : Bool :=
  match targetOf a with
  | some i => !s.alive i
  | none => if isSram a then bit s.mem.deaf 0 else isReg a && bit s.mem.deaf 1

/-- Word and response of a read under the host rules, with no side effect. -/
def State.readWord (s : State) (a : Nat) : Word × Nat :=
  if isSram a then
    if (sramRight a).isNone then (0, 5)
    else if s.deaf a then (0, 4)
    else if s.sramPoison a then (s.sramAt a, 2)
    else (sramShown a (s.sramAt a), 0)
  else if isMram a then
    if s.deaf a then (0, 4) else if isKeyStore a then (0, 5) else (s.mramAt a, if s.mramPoison a then 2 else 0)
  else if isReg a then (if s.deaf a then (0, 4) else (s.view a, 0))
  else (0, 6)

/-- A read whose word is wanted only where the response is OK or CORRECTED. -/
def State.peek (s : State) (a : Nat) : Option Word := let r := s.readWord a; if r.2 ≤ 1 then some r.1 else none

end Sys2Proof.Machine
end

