-- ==== Sys2Proof/Machine/Clock.lean ====
section
/-! DEFINITION. The calendar domain (chapter 15): counting, setting and shifting, agreement with node time, rate windows. -/
namespace Sys2Proof.Machine

open Sys2Proof

/-! ### Dates (R438, R439) -/

/-- February 29 exists: years divisible by 4 except 2100 (R438). -/
def leapYear (y : Nat) : Bool := y % 4 == 0 && y != 2100

def monthDays (y m : Nat) : Nat :=
  match m with
  | 4 | 6 | 9 | 11 => 30
  | 2 => if leapYear y then 29 else 28
  | _ => 31

/-- Days from 2000-01-01 to a date. -/
def dayNumber (y m d : Nat) : Nat :=
  ((List.range (y - 2000)).map (fun i => if leapYear (2000 + i) then 366 else 365)).sum
    + ((List.range (m - 1)).map (fun i => monthDays y (i + 1))).sum + d - 1

/-- The month and day of a day of the year, day 0 the first. -/
def monthOf (y : Nat) : Nat → Nat → Nat → Nat × Nat
  | 0, m, d => (m, d + 1)
  | k + 1, m, d => if d < monthDays y m then (m, d + 1) else monthOf y k (m + 1) (d - monthDays y m)

/-- The date of a day number, looking through `k` years from `y`. -/
def dateFrom : Nat → Nat → Nat → Nat × Nat × Nat
  | 0, y, _ => (y, 1, 1)
  | k + 1, y, n =>
    let len := if leapYear y then 366 else 365
    if n < len then (y, monthOf y 11 1 n) else dateFrom k (y + 1) (n - len)

/-- Days of the two hundred years the calendar counts. -/
def calendarDays : Nat := 73049

/-- 1 Monday to 7 Sunday; 2000-01-01 was a Saturday (R451). -/
def weekday (n : Nat) : Nat := (n + 5) % 7 + 1

/-- CLK_DATE of a day number, CLK_TIME of a time of day. -/
def dateWord (n : Nat) : Word :=
  let (y, m, d) := dateFrom 200 2000 (n % calendarDays)
  W (toBcd y <<< 20 + (toBcd m % 32) <<< 15 + (toBcd d % 64) <<< 9 + weekday (n % calendarDays) <<< 6)

def timeWord (h m sec subs : Nat) : Word :=
  W ((toBcd h % 64) <<< 30 + (toBcd m % 128) <<< 23 + (toBcd sec % 128) <<< 16 + subs % 32768)

/-- Day number of a date word. -/
def dayOf (w : Word) : Nat := dayNumber (bcdVal (fld w 35 20)) (bcdVal (fld w 19 15)) (bcdVal (fld w 14 9))

/-- Second of the day of a time word, 86,400 in an inserted second. -/
def secOf (w : Word) : Nat := bcdVal (fld w 35 30) * 3600 + bcdVal (fld w 29 23) * 60 + bcdVal (fld w 22 16)

/-- N + UTCOFS: the TS0 a reading corresponds to (R439). -/
def State.calTs0 (s : State) : Nat := dayOf (s.reg CLK_DATE) * 86400 + secOf (s.reg CLK_TIME) + s.get CLK_UTC.UTCOFS

/-- A date and time that SET takes (R444). -/
def settable (d t : Word) : Bool :=
  let y := bcdVal (fld d 35 20)
  let m := bcdVal (fld d 19 15)
  let day := bcdVal (fld d 14 9)
  bcdOk 4 (fld d 35 20) && bcdOk 2 (fld d 19 15) && bcdOk 2 (fld d 14 9) && bcdOk 2 (fld t 35 30) && bcdOk 2 (fld t 29 23)
    && bcdOk 2 (fld t 22 16) && 2000 ≤ y && y ≤ 2199 && 1 ≤ m && m ≤ 12 && 1 ≤ day && day ≤ monthDays y m
    && bcdVal (fld t 35 30) ≤ 23 && bcdVal (fld t 29 23) ≤ 59 && bcdVal (fld t 22 16) ≤ 59

/-! ### Counting (R438, R440, R441, R447) -/

/-- What the trim adds to a second (R447): the whole counts of the remainder carried from second to second. -/
def State.trimSecond (s : State) : State :=
  let r := s.clk.rem + signed 12 (s.get CLK_TRIM.TRIM) * 32768
  let a := if r ≥ 0 then r / 10000000 else -((-r) / 10000000)
  { s with clk := { s.clk with rem := r - a * 10000000, adj := a } }

/-- Oscillator cycles in the present second (R445, R447), at least one. -/
def ClkS.cycles (c : ClkS) : Nat := max 1 (32768 - c.shift - c.adj).toNat

/-- Cycles still to come before the present second ends: at least one. -/
def ClkS.left (c : ClkS) : Nat := max 1 (c.cycles - c.count)

/-- The oscillator flag is set with a cause (R441). -/
def State.oscStopped (s : State) (cause : Nat) : State :=
  let s := (s.putB CLK_STAT.OSF true).put CLK_STAT.CAUSE cause
  if s.up then s.raise HST_ISRC.CLK else s

/-- 00:00:00 of the day after. -/
def State.midnight (s : State) : State :=
  let n := dayOf (s.reg CLK_DATE) + 1
  let s := (s.setReg CLK_DATE (dateWord n)).setReg CLK_TIME (timeWord 0 0 0 0)
  if n ≥ calendarDays then s.oscStopped 3 else s

/-- A leap second has been inserted or omitted (R440). -/
def State.leapDone (s : State) (up : Bool) : State :=
  (s.put CLK_UTC.UTCOFS (s.get CLK_UTC.UTCOFS + (if up then 1 else 255))).put CLK_UTC.LEAP 0

/-- The date and time advance by a second. -/
def State.advanceSecond (s : State) : State :=
  let t := secOf (s.reg CLK_TIME)
  let leap := s.get CLK_UTC.LEAP
  if t ≥ 86400 then s.midnight.leapDone true
  else if t == 86399 && leap == 1 then s.setReg CLK_TIME (timeWord 23 59 60 0)
  else if t == 86398 && leap == 2 then s.midnight.leapDone false
  else if t == 86399 then s.midnight
  else s.setReg CLK_TIME (timeWord ((t + 1) / 3600) ((t + 1) / 60 % 60) ((t + 1) % 60) 0)

/-- SUBS has returned to 0: a shift has acted, the calendar has advanced, and the next second takes its trim. -/
def State.calendarSecond (s : State) : State :=
  let s := ({ s with clk := { s.clk with shift := 0, count := 0 } } : State).putB CLK_STAT.SHPEND false
  s.advanceSecond.trimSecond

/-- `n` oscillator cycles are counted, through at most `fuel` ends of seconds. SUBS shows the count; a second retarded beyond 32768
cycles ends at 32767. -/
def State.countOn : Nat → State → Nat → State
  | 0, s, _ => s
  | fuel + 1, s, n =>
    if n < s.clk.left then
      let k := s.clk.count + n
      ({ s with clk := { s.clk with count := k } } : State).put CLK_TIME.SUBS (min k 32767)
    else countOn fuel s.calendarSecond (n - s.clk.left)

/-- The oscillator cycles that have arrived since the last beat given: at most two seconds of them, and a shifted one. -/
def State.oscillate (s : State) (n : BitVec 16) : State := if n == 0 then s else s.countOn 5 n.toNat

/-- The cycle that returns SUBS to 0. While node time runs its beats count the cycles, and the command finds the second unfinished
until one cycle is left; without it, the domain counts unseen. -/
def execCalendarSecond (s : State) : Host.Outcome State Fault Refusal :=
  done (if s.timed && s.clk.left != 1 then s else s.calendarSecond)

/-- No oscillator cycle for 4 cycle times (R441). -/
def execOscillatorStop (s : State) : Host.Outcome State Fault Refusal := done (s.oscStopped 2)

/-- The domain starts without retained power (R442). -/
def execCalendarDomainStart (s : State) : Host.Outcome State Fault Refusal :=
  done { s with regs := s.regs.filter (fun p => !(CLK_DATE ≤ p.1 && p.1 ≤ CLK_BK 15)), clk := ClkS.fresh }

/-- The supply of the domain (R437): VSUP in range, else VBK of at least 2.4 V, else the cell. -/
def execCalendarSupplyChange (vsup vbk : Bool) (s : State) : Host.Outcome State Fault Refusal :=
  done ((s.put CLK_STAT.SUPPLY (if vsup then 0 else if vbk then 1 else 2)).putB CLK_STAT.VBKOK vbk)

/-- The cell is below 20 % of charge, or is not (R437). -/
def execCellChargeChange (low : Bool) (s : State) : Host.Outcome State Fault Refusal := done (s.putB CLK_STAT.CELLLOW low)

/-! ### Commands (R444, R445, R448, R449) -/

/-- SYNC = 1 and node time is trusted. -/
def State.clkSynced (s : State) : Bool := s.flag CLK_CFG.SYNC && s.flag TIM_DSTAT.TRUST

/-- Load a date and time: a pending shift is cancelled, OSF cleared. -/
def State.loadCalendar (s : State) (d t : Word) : State :=
  let s := ((s.setReg CLK_DATE d).setReg CLK_TIME t).putB CLK_STAT.OSF false
  ({ s with clk := { s.clk with shift := 0, count := fld t 14 0 } } : State).putB CLK_STAT.SHPEND false

/-- SET of a date and a time: the result (R444). -/
def State.clkSetTo (s : State) (d t : Word) : State × Nat :=
  if !settable d t then (s, 1)
  else if s.clkSynced then (s, 2)
  else (s.loadCalendar (dateWord (dayOf d)) (timeWord (bcdVal (fld t 35 30)) (bcdVal (fld t 29 23)) (bcdVal (fld t 22 16)) (fld t 14 0)), 0)

/-- SHIFT by signed counts (R445). -/
def State.clkShiftBy (s : State) (arg : Nat) : State × Nat :=
  if arg % 65536 == 32768 then (s, 4)
  else if s.flag CLK_STAT.SHPEND then (s, 3)
  else if s.clkSynced then (s, 2)
  else if arg % 65536 == 0 then (s, 6)
  else (({ s with clk := { s.clk with shift := signed 16 arg } } : State).putB CLK_STAT.SHPEND true, 0)

/-- The latches of CAPTURE (R449). -/
def State.clkCapture (s : State) : State :=
  (((s.setReg (CLK_CAP 0) (s.reg CLK_DATE)).setReg (CLK_CAP 1) (s.reg CLK_TIME)).setReg (CLK_CAP 2) s.ts0).setReg (CLK_CAP 3) s.ts1

/-- The source that TRIMSRC names can be used (R448). -/
def State.rateSource (s : State) : Bool :=
  match s.get CLK_CFG.TRIMSRC with
  | 1 =>
    let n := s.get CLK_CFG.MSRC
    !(s.spdEnt n).isEmpty && (s.spdEnt n).en && (s.spdEnt n).kind == 0
  | 2 => true
  | _ => false

/-- A command of CLK_CMD (R444). -/
def State.clkCommand (s : State) (cmd arg : Nat) : State :=
  if !s.alive 25 then s
  else
    let (s, r) :=
      match cmd with
      | 1 => s.clkSetTo (s.reg CLK_SETD) (s.reg CLK_SETT)
      | 2 => s.clkShiftBy arg
      | 3 => (s.clkCapture, 0)
      | 4 => if s.rateSource then ({ s with clk := { s.clk with want := true } }, 0) else (s, 5)
      | _ => (s, 4)
    (s.put CLK_CRES.RESULT r).raise HST_ISRC.CLK

/-- The word of a command. -/
def clkWord (cmd arg : Nat) : Word := W (cmd <<< 32 + arg)

def execClkSet (s : State) : Host.Outcome State Fault Refusal :=
  act s (fun s => (s.consume CLK_CMD (clkWord 1 0)).clkCommand 1 0)
def execClkShift (arg : BitVec 16) (s : State) : Host.Outcome State Fault Refusal :=
  act s (fun s => (s.consume CLK_CMD (clkWord 2 arg.toNat)).clkCommand 2 arg.toNat)
def execClkCapture (s : State) : Host.Outcome State Fault Refusal :=
  act s (fun s => (s.consume CLK_CMD (clkWord 3 0)).clkCommand 3 0)
def execClkWindow (s : State) : Host.Outcome State Fault Refusal :=
  act s (fun s => (s.consume CLK_CMD (clkWord 4 0)).clkCommand 4 0)

/-! ### Agreement with node time (R446, R450) -/

/-- The reading whose TS0 is that of node time: in a day that ends with an inserted second, 23:59:60 precedes midnight. -/
def State.calendarAt (s : State) (ts0 : Nat) : Word × Word :=
  let n := (ts0 + 86400 * calendarDays - s.get CLK_UTC.UTCOFS) % (86400 * calendarDays)
  if s.get CLK_UTC.LEAP == 1 && n % 86400 == 0 && n / 86400 == dayOf (s.reg CLK_DATE) + 1 then
    (dateWord (n / 86400 - 1), timeWord 23 59 60 0)
  else (dateWord (n / 86400), timeWord (n % 86400 / 3600) (n % 3600 / 60) (n % 60) 0)

/-- TS0 of node time at a round boundary, a step pending there taken (R446). -/
def State.boundaryTs0 (s : State) : Nat :=
  match s.t.disc.stepPend with
  | some d => ((s.micros : Int) + d).toNat / 1000000
  | none => s.t.round.toNat

/-- The comparison at a round boundary (R446). -/
def State.calendarSync (s : State) : State :=
  if !s.clkSynced || !s.alive 25 then s
  else if s.calTs0 == s.boundaryTs0 && s.get CLK_TIME.SUBS ≤ orElse (s.get CLK_CFG.SYNCTHR) 33 then s
  else
    let r := s.calendarAt s.boundaryTs0
    (s.loadCalendar r.1 r.2).inc CLK_SYNCS.SYNCS

/-- The UTC offset and leap flags of the selected master's Announce, where node time is locked to PTP (R450). -/
def State.ptpUtc (s : State) : Option (Nat × Nat) :=
  if s.get TIM_DSTAT.SRC != 1 || !s.flag TIM_DSTAT.LOCK then none
  else match s.get SN_STAT.PTPPORT with
    | 0 => none
    | p + 1 => (s.sn.ptp.get? p).bind (·.utc)

/-- UTCOFS and LEAP from the master (R450). -/
def State.ptpUtcUpdate (s : State) : State :=
  if !s.flag CLK_CFG.PTPUTC || !s.alive 25 then s
  else match s.ptpUtc with
    | none => s
    | some (ofs, leap) => (s.put CLK_UTC.UTCOFS ofs).put CLK_UTC.LEAP leap

/-! ### Rate windows (R448) -/

/-- A window waiting starts at the round boundary. -/
def State.rateStart (s : State) : State :=
  if !s.clk.want || !s.alive 25 then s
  else
    let s : State := { s with clk := { s.clk with want := false } }
    if !s.rateSource then s.put CLK_CRES.RESULT 5
    else
      let s : State := { s with clk := { s.clk with winSrc := s.get CLK_CFG.TRIMSRC, winAt := s.t.run } }
      (s.putB CLK_STAT.WINRUN true).ratePtp

/-- A TRIM changed by an error in 0.01 ppm, rounded to 0.1 ppm and saturated (R448). -/
def trimBy (trim err : Nat) : Nat := unsign 12 (max (-2048) (min 2047 (signed 12 trim + roundDiv (signed 24 err) 10)))

/-- The rounds of the window have passed. -/
def State.windowOver (s : State) : Bool :=
  s.flag CLK_STAT.WINRUN && s.t.usec == 0 && decide (orElse (s.get CLK_CFG.TRIMWIN) 3600 * 1000000 ≤ s.since s.clk.winAt)

/-- A window ends normally, at the round boundary of its last round, with the error measured. -/
def State.rateEnd (s : State) (err : BitVec 24) : State :=
  if !s.windowOver || !s.alive 25 then s
  else
    let s := (((s.putB CLK_STAT.WINRUN false).putB CLK_RATE.ABORT false).putB CLK_RATE.VALID true).put CLK_RATE.ERR err.toNat
    if s.flag CLK_CFG.AUTO then
      let s := s.put CLK_TRIM.TRIM (trimBy (s.get CLK_TRIM.TRIM) err.toNat)
      ({ s with clk := { s.clk with want := true } } : State).rateStart
    else s

def execRateWindowEnd (err : BitVec 24) (s : State) : Host.Outcome State Fault Refusal := act s (fun s => s.rateEnd err)

end Sys2Proof.Machine
end

