-- ==== Sys2Proof/Machine/Launch.lean ====
section
/-! DEFINITION. Node time, its discipline and steps, operating modes, and scheduled launch (R39 to R44, R50 to R79, R581). -/
namespace Sys2Proof.Machine

open Sys2Proof

/-! ### Node time (R50 to R53, R58) -/

/-- The round epoch that goes with a beat count and a beat-in-round count (R52): the residue of the beats that are round
boundaries. -/
def epochOf (beat : Word) (usec : Nat) : Nat := (beat.toNat + 1000000 - usec % 1000000) % 1000000

/-- Node time set to `n` µs since its origin, with this beat count. -/
def State.setTime (s : State) (n : Nat) (beat : Word) : State :=
  { s with t := { s.t with beat := beat, round := W (n / 1000000), usec := n % 1000000, phase := 0, repoch := epochOf beat (n % 1000000) } }

/-- The beat count of TAI (R51). -/
def beatOf (n : Nat) : Word := W n

/-- Node time loaded at cold reset (R53, R439): from the calendar, or from zero while OSF is set. -/
def State.loadTime (s : State) : State :=
  let n := if s.flag CLK_STAT.OSF then 0 else s.calTs0 * 1000000 + s.get CLK_TIME.SUBS * 1000000 / 32768
  let s := s.setTime n (beatOf n)
  { s with t := { s.t with due := s.t.usec == 0, wave := 0, disc := Disc.fresh } }

/-! ### Discipline (R54 to R57) -/

/-- Holdover runs out (R56). -/
def execHoldoverExpiry (s : State) : Host.Outcome State Fault Refusal :=
  act s (fun s => if s.flag TIM_DSTAT.HOLD then s.discipline else s)

/-- The rate the slew applies, in parts in 10¹²: left open within SLEWMAX ppm (R57). -/
def State.slewRate (s : State) : State :=
  let lim : Int := (orElse (s.get TIM_DISC.SLEWMAX) 1 : Nat) * 1000000
  let (v, s) := s.free
  s.put TIM_FADJ.FADJ (unsign 36 (max (-lim) (min lim (signed 36 v))))

/-- Await a step, or none, at the next round boundary; an active announces it to its partner (R57, R59). -/
def State.awaitStep (s : State) (d : Option Int) : State :=
  let s : State := { s with t := { s.t with disc := { s.t.disc with stepPend := d } } }
  if s.pstate == 2 then { s with jl := { s.jl with stepAnn := d } } else s

/-- A measured offset, in ns, own time less the source's: slewed away, or, above STEPTHR, corrected by a step at the next
round boundary (R57). In a standby a step that the active has announced stands (R59). -/
def State.correct (s : State) (ns : Int) : State :=
  let s := s.put TIM_OFFS.OFFS (unsign 36 ns)
  let told := s.replays && s.t.disc.stepPend.isSome
  if ns.natAbs ≤ orElse (s.get TIM_DISC.STEPTHR) 1 * 1000 then
    let s := ({ s with t := { s.t with disc := { s.t.disc with slewLeft := -ns } } } : State).slewRate
    if told then s else s.awaitStep none
  else if told then s
  else s.awaitStep (some (-(roundDiv ns 1000)))

/-- A PPS_IN edge (R55): the interval since the last one, then the offset from the nearest second; `ns` is its place within
the beat. -/
def State.ppsEdge (s : State) (ns : Nat) : State :=
  let d := s.t.disc
  let good := match d.ppsLast with
    | some b => 999900 ≤ s.since b && s.since b ≤ 1000100
    | none => false
  let s : State := { s with t := { s.t with disc := { d with ppsLast := some s.t.run, ppsGood := if good then min 4 (d.ppsGood + 1) else 0 } } }
  let s := s.discipline
  if s.get TIM_DSTAT.SRC == 2 then
    let u : Int := (s.t.usec * 1000 + ns : Nat)
    s.correct (if u ≥ 500000000 then u - 1000000000 else u)
  else s

def execPpsInEdge (ns : Fin 1000) (s : State) : Host.Outcome State Fault Refusal := act s (fun s => s.ppsEdge ns.val)

/-! ### PPS_OUT (R60) -/

/-- A round boundary. -/
def State.ppsRise (s : State) : State :=
  { s with pins := { s.pins with ppsOut := s.flag TIM_DISC.PPSEN }, t := { s.t with ppsAt := s.t.run } }

/-- The high time of PPS_OUT has run out; a WIDTH of 0 acts as 1 (R80). -/
def State.ppsFall (s : State) : State :=
  if s.pins.ppsOut && orElse (s.get TIM_PPSO.WIDTH) 1 ≤ s.since s.t.ppsAt then { s with pins := { s.pins with ppsOut := false } }
  else s

def execPpsOutFall (s : State) : Host.Outcome State Fault Refusal := done (if s.timed then s.ppsFall else s)

/-! ### Modes (R39 to R44, R73) -/

/-- TIM_MDIG with its MODE field, or its TAG and ISSUER, replaced. -/
def State.digestMode (s : State) (m : Nat) : State := s.setReg TIM_MDIG (W (setBits (s.reg TIM_MDIG).toNat 35 34 m))
def State.digestTag (s : State) (tag issuer : Nat) : State :=
  s.setReg TIM_MDIG (W (setBits (setBits (s.reg TIM_MDIG).toNat 31 16 tag) 15 0 issuer))

/-- A mode takes effect: outputs held where it holds them, forces and captures ended with MAINTENANCE, outputs driven anew. -/
def State.setMode (s : State) (m : Nat) : State :=
  let old := s.mode
  let s := if 2 ≤ m && m != old then s.loHold.dioHold else s
  let s := (s.put SYS_MODE.MODE m).digestMode m
  let s := if old == 2 && m != 2 then s.endForces.clearCellForces.captureModeAbort else s
  let s : State :=
    if m == 1 && old != 1 then { s with chan := s.chan.map (fun (p : Nat × ChanS) => (p.1, { p.2 with lay := 0 })) } else s
  (s.loBeat.dioDriveAll).raise HST_ISRC.MODE

/-- A launch slot is armed. -/
def State.armedSlot (s : State) (n : Nat) : Bool := s.get (TIM_SLOT_W1.STATE n) == 1

/-- Cancel the armed slots of one action. -/
def State.cancelAction (s : State) (a : Nat) : State :=
  (List.range 16).foldl (fun s n =>
    if s.armedSlot n && s.get (TIM_SLOT_W1.ACTION n) == a then s.put (TIM_SLOT_W1.STATE n) 4 else s) s

/-- No mode change is pending any more. -/
def State.clearPend (s : State) : State := (s.putB SYS_MODE.PEND false).put SYS_MODE.PMODE 0

/-- Entry to SAFE with a cause (R41, R67, R422). -/
def State.enterSafe (s : State) (cause : Nat) : State :=
  let s : State := { s with life := { s.life with det := 0 } }
  if s.mode == 3 && !s.starting then s
  else
    let s := (s.put SYS_MODE.SAFECAUSE cause).setMode 3
    let s := ((s.cancelAction 0).cancelAction 1).clearPend
    s.trigNow 1 6 0 (s.reg SYS_MODE) 0

/-- The beat after a SAFE cause is detected (R41). -/
def State.safeEntry (s : State) : State :=
  if s.life.det == 0 || s.starting || s.t.run ≤ s.life.detAt then s else s.enterSafe (lowestCause s.life.det)

def execSafeEntry (s : State) : Host.Outcome State Fault Refusal := act s State.safeEntry

/-! ### Arming (R62 to R72, R581) -/

/-- The test of a target beat (R63): 0 arm, 2 PAST, 3 TOO_LATE. -/
def targetTest (target beat : Word) (minlead : Nat) : Nat :=
  let lead := (target - beat).toNat
  if lead < 8 || lead ≥ 2 ^ 35 then 2 else if lead < minlead then 3 else 0

/-- Minimum lead of a scope; a field below 8 acts as 8 (R80). -/
def State.minlead (s : State) (scope : Nat) : Nat :=
  max 8 (match scope with | 0 => s.get TIM_MINLEAD.LOCAL | 1 => s.get TIM_MINLEAD.PAIR | _ => s.get TIM_MINLEAD.NET)

/-- An arm as it arrives: target, argument, action, scope, tag, issuer, whether received, minimum lead, whether it is the
SAFE-exit command's own (R67). -/
structure Arm where
  target : Word
  arg : Word
  action : Nat
  scope : Nat
  tag : Nat
  issuer : Nat
  received : Bool
  minlead : Nat
  exit : Bool

/-- The argument is in range (R64). -/
def argOk (action : Nat) (arg : Word) : Bool := action ≤ 5 && !(action == 0 && fld arg 1 0 == 3)

/-- The slot an arm takes: that of the change it replaces (R66), or the first free one (R68). -/
def State.slotFor (s : State) (action : Nat) : Option (Nat × Bool) :=
  let same := if action ≤ 1 then (List.range 16).find? (fun n => s.armedSlot n && s.get (TIM_SLOT_W1.ACTION n) == action) else none
  match same with
  | some n => some (n, true)
  | none => ((List.range 16).find? (fun n => !s.armedSlot n)).map (fun n => (n, false))

/-- Show the result of an arm; the slot of one that is refused reads 0 (DESIGN CHOICE, log entry 23). -/
def State.armResult (s : State) (r slot : Nat) : State := (s.put TIM_LSTAT.RESULT r).put TIM_LSTAT.SLOT slot

/-- Arm an action, with its result in TIM_LSTAT; the flag says whether it was armed. -/
def State.arm (s : State) (a : Arm) : State × Bool :=
  if a.scope == 3 || !argOk a.action a.arg then (s.armResult 5 0, false)
  else if a.action == 0 && (s.mode == 3 || s.starting) && !a.exit then (s.armResult 6 0, false)
  else if a.action == 1 && a.arg != s.reg JL_EPOCH then (s.armResult 7 0, false)
  else
    let r := targetTest a.target s.t.beat a.minlead
    if r != 0 then (s.armResult r 0, false)
    else match s.slotFor a.action with
      | none => (s.armResult 4 0, false)
      | some (n, repl) =>
        let tag := if a.action == 0 then a.tag else 0
        let s := s.setReg (TIM_SLOT_W0 n) a.target
        let s := s.setReg (TIM_SLOT_W1 n) (W (a.action <<< 32 + a.scope <<< 30 + tag <<< 14 + 1 <<< 11 + a.received.toNat <<< 10))
        let s : State := { s with t := { s.t with slotArg := s.t.slotArg.set n a.arg, slotIss := s.t.slotIss.set n a.issuer } }
        let s := if a.action == 0 then (s.putB SYS_MODE.PEND true).put SYS_MODE.PMODE (fld a.arg 1 0) else s
        (s.armResult (if repl then 1 else 0) n, true)

/-- Low 16 bits of the node's source identity. -/
def State.ownIssuer (s : State) : Nat := s.get SN_ID.NID % 65536

/-- TIM_LCMD of an arm. -/
def lcmdWord (action scope tag : Nat) : Word := W (action <<< 32 + scope <<< 30 + tag <<< 14)

/-- The REQUEST that carries an arm to the mode domain (R69, R366). -/
def State.requestArm (s : State) (a : Arm) : State :=
  s.formTele 7 false (s.get SN_TXG.MGMT) 3 [W (1 <<< 32), 0, a.target, a.arg, lcmdWord a.action a.scope a.tag]

/-- Carry an arm of pair or network scope to the partner, and of network scope to the domain (R69, R366). -/
def State.carryArm (s : State) (a : Arm) : State :=
  let s :=
    if 1 ≤ a.scope && 2 ≤ s.pstate && s.pstate ≤ 5 then s.sendRec ⟨11, s.ph, 0, [a.target, a.arg, lcmdWord a.action a.scope a.tag]⟩ else s
  if a.scope == 2 then s.requestArm a else s

/-- Arm here an action issued by this unit, and carry it. -/
def State.issue (s : State) (a : Arm) : State :=
  match s.arm a with
  | (s, false) => s
  | (s, true) =>
    let s := s.carryArm a
    if a.action == 0 then
      let again := match s.t.issuedTag with | some (t, _, _) => t == a.tag && a.issuer == s.ownIssuer | none => false
      let s := if again then s else s.put TIM_MSTAT.REISSUED 0
      { s with t := { s.t with issuedTag := some (a.tag, a.scope, fld a.arg 1 0) } }
    else s

/-- Cancel (R581). -/
def State.cancel (s : State) (scope slot : Nat) : State :=
  if scope == 3 then s.armResult 5 0
  else
    let s :=
      if s.armedSlot slot then
        let s := if s.get (TIM_SLOT_W1.ACTION slot) == 0 then s.clearPend else s
        s.put (TIM_SLOT_W1.STATE slot) 4
      else s
    s.armResult 0 slot

/-- A write of TIM_LCMD (R62): it arms with TIM_LTGT and TIM_LARG as they stand. -/
def State.lcmd (s : State) (action scope tag : Nat) : State :=
  let arg := s.reg TIM_LARG
  if action == 15 then s.cancel scope (fld arg 3 0)
  else s.issue ⟨s.reg TIM_LTGT, arg, action, scope, tag, s.ownIssuer, false, s.minlead scope, false⟩

def execArmModeChange (scope : Fin 4) (tag : BitVec 16) (s : State) : Host.Outcome State Fault Refusal :=
  act s (fun s => s.lcmd 0 scope.val tag.toNat)
def execArmRoleSwap (scope : Fin 4) (tag : BitVec 16) (s : State) : Host.Outcome State Fault Refusal :=
  act s (fun s => s.lcmd 1 scope.val tag.toNat)
def execArmTableSync (scope : Fin 4) (tag : BitVec 16) (s : State) : Host.Outcome State Fault Refusal :=
  act s (fun s => s.lcmd 2 scope.val tag.toNat)
def execArmOutputCommit (scope : Fin 4) (tag : BitVec 16) (s : State) : Host.Outcome State Fault Refusal :=
  act s (fun s => s.lcmd 3 scope.val tag.toNat)
def execArmScanStart (scope : Fin 4) (tag : BitVec 16) (s : State) : Host.Outcome State Fault Refusal :=
  act s (fun s => s.lcmd 4 scope.val tag.toNat)
def execArmRecorderMark (scope : Fin 4) (tag : BitVec 16) (s : State) : Host.Outcome State Fault Refusal :=
  act s (fun s => s.lcmd 5 scope.val tag.toNat)
/-- ACTION 6 to 14. -/
def execArmInvalidAction (action : Fin 9) (scope : Fin 4) (s : State) : Host.Outcome State Fault Refusal :=
  act s (fun s => s.lcmd (6 + action.val) scope.val 0)
def execLaunchCancel (scope : Fin 4) (s : State) : Host.Outcome State Fault Refusal :=
  act s (fun s => s.lcmd 15 scope.val 0)

/-- The beat that begins a number of round boundaries ahead. -/
def State.boundaryAhead (s : State) (k : Nat) : Word := s.t.beat + W (1000000 - s.t.usec + (k - 1) * 1000000)

/-! ### Execution at the target beat (R64 to R68, R70, R79) -/

/-- The slot's target beat is in force: for pair and network scope in a standby, as the beat of work (R70). In the beat of a swap
or takeover the unit that has changed over takes what it would have taken on either side of it. -/
def State.slotDue (s : State) (n : Nat) : Bool :=
  let b := s.reg (TIM_SLOT_W0 n)
  s.armedSlot n &&
    (if s.get (TIM_SLOT_W1.SCOPE n) == 0 then b == s.t.beat
     else if s.jl.swapAt == some s.t.beat then
       (if s.replays then b == s.t.beat || b == s.workBeat else (s.t.beat - b).toNat ≤ 8)
     else b == s.workBeat)

/-- A slot's place among those that take effect in one beat: the earlier target, then the ACTION code, then the slot (R65). -/
def State.slotKey (s : State) (n : Nat) : Nat :=
  (2 ^ 36 - (s.t.beat - s.reg (TIM_SLOT_W0 n)).toNat) * 256 + s.get (TIM_SLOT_W1.ACTION n) * 16 + n

/-- Insert by a rank. -/
def insertBy (k : Nat → Nat) (n : Nat) : List Nat → List Nat
  | [] => [n]
  | m :: r => if k n < k m then n :: m :: r else m :: insertBy k n r

/-- Slots in the order in which their actions take effect (R65). -/
def State.inOrder (s : State) (l : List Nat) : List Nat := l.foldl (fun r n => insertBy s.slotKey n r) []

/-- Islands that an action names (R64, R68): a mode change concerns every island used that has modes (DEDUCED, log entry 23). -/
def State.namedIslands (s : State) (action : Nat) (arg : Word) : List Nat :=
  match action with
  | 0 => (List.range 24).filter s.used
  | 1 => [23]
  | 2 => (List.range 19).filter (fun k => wbit arg k)
  | 3 => (if fld arg 15 0 != 0 then [16] else []) ++ (if fld arg 19 16 != 0 then [17] else [])
  | 4 => (List.range 16).filter (fun k => wbit arg k)
  | 5 => [24]
  | _ => []

/-- A trigger stamped with a slot's target beat, which both units of a pair record (R70, R422). -/
def State.trigSlot (s : State) (n cls sub src : Nat) (ev0 : Word) : State :=
  let st := s.stampOf (s.reg (TIM_SLOT_W0 n))
  s.trigger cls sub src st.1 st.2 ev0 0

/-- A mode change is applied (R64, R73, R79). -/
def State.modeChange (s : State) (n : Nat) : State :=
  let m := fld (s.t.slotArg.getD n 0) 1 0
  let tag := s.get (TIM_SLOT_W1.TAG n)
  let iss := s.t.slotIss.getD n 0
  let s := s.clearPend
  if s.reg TIM_MDIG == W (m <<< 34 + tag <<< 16 + iss) && s.mode == m then s
  else
    let s := (s.setMode m).digestTag tag iss
    s.trigSlot n 1 7 0 (s.reg TIM_MDIG)

/-- The post-swap check is to begin in `k` beats (R411). -/
def State.startSwapCheck (s : State) (k : Nat) : State :=
  { s with jl := { s.jl with swapChk := some ⟨s.t.beat + W k, s.t.run + k, s.t.run + k, true, true, []⟩ } }

/-! ### Roles (R382, R384, R410) -/

/-- Change what the link holds. -/
def State.setLink (s : State) (l : JlLink) : State := { s with jl := { s.jl with link := l } }

/-- Every output is driven or in row 2, as the pair state gives (R382). -/
def State.redrive (s : State) : State := s.loBeat.dioDriveAll

/-- Stop a referee run. -/
def State.refEnd (s : State) : State := ({ s with jl := { s.jl with referee := none } } : State).putB JL_STAT.REF false

/-- Forget the replay: nothing has arrived for it. -/
def State.replayClear (s : State) : State :=
  s.setLink { s.jl.link with replay := [], inp := RepIn.none, digs := [], outRecs := [], spill := [] }

/-- Become the active: a role change (R384). -/
def State.becomeActive (s : State) : State :=
  let s := s.refEnd.replayClear
  let s := s.setLink { s.jl.link with told := RepIn.none }
  let s : State := { s with jl := { s.jl with
    takeAt := none, takeFar := false, relBeat := none, relAt := none, joinStep := 0, stillUntil := none, wake := 0, deadAt := none
    swapAt := some s.t.beat } }
  (s.roleChange.setPstate 2).redrive

/-- A role swap is executed in the active (R410), or, without a partner in step or with the referee running, as a no-op. -/
def State.roleSwap (s : State) : State :=
  if s.pstate == 2 && s.get JL_STAT.PARTNER == 5 && !s.flag JL_STAT.REF then
    let s := (s.roleChange.setPstate 5).inc JL_SWAP.SWAPS
    let s : State := { s with jl := { s.jl with stillUntil := some (s.t.run + 16), replayAt := s.t.run + 8, swapAt := some s.t.beat } }
    (s.startSwapCheck 8).redrive
  else s.inc JL_SWAP.SKIPS

/-- The standby's share of a swap, at its beat b + 8; a no-op while the referee runs (R410). -/
def State.standbySwap (s : State) : State :=
  if s.flag JL_STAT.REF then s.inc JL_SWAP.SKIPS
  else (s.becomeActive.setPartner 5).inc JL_SWAP.SWAPS |>.startSwapCheck 0

/-- The islands' shares of an action. -/
def State.runAction (s : State) (n : Nat) : State :=
  let arg := s.t.slotArg.getD n 0
  match s.get (TIM_SLOT_W1.ACTION n) with
  | 0 => s.modeChange n
  | 1 => if !s.alive 23 then s else if s.pstate == 5 then s.standbySwap else s.roleSwap
  | 2 => (s.namedIslands 2 arg).foldl (fun s k => s.tsync k (2 ^ 32 - 1)) s
  | 3 =>
    let s := if s.alive 16 then (setIdx (fld arg 15 0) 16).foldl State.loCommit s else s
    if s.alive 17 then (setIdx (fld arg 19 16) 4).foldl State.dioCommit s else s
  | 4 => (s.namedIslands 4 arg).foldl (fun s k => if s.alive k then s.scanTrigger k (fld arg 18 16) else s) s
  | _ => if s.alive 24 then s.trigSlot n 3 0 n arg else s

/-- A slot's action takes place; `late` says that a step has skipped its target. -/
def State.runSlot (s : State) (late : Bool) (n : Nat) : State :=
  let dead := (s.namedIslands (s.get (TIM_SLOT_W1.ACTION n)) (s.t.slotArg.getD n 0)).any (fun i => !s.alive i)
  let s := s.runAction n
  let st := if late then 5 else if dead then 3 else 2
  let s := s.put (TIM_SLOT_W1.STATE n) st
  if st == 2 then s else s.raise HST_ISRC.LAUNCH

/-- The slots whose actions take effect in this beat and have not yet (R65). -/
def State.dueSlots (s : State) : List Nat := s.inOrder ((List.range 16).filter s.slotDue)

/-- The slot is the first of those due and its action has this code. -/
def State.launch (s : State) (action n : Nat) : State :=
  if s.dueSlots.head? == some n && s.get (TIM_SLOT_W1.ACTION n) == action then s.runSlot false n else s

/-- Every slot still due, each at most once. -/
def State.launchAll : Nat → State → State
  | 0, s => s
  | k + 1, s => match s.dueSlots with | [] => s | n :: _ => State.launchAll k (s.runSlot false n)

def execModeChange (slot : Fin 16) (s : State) : Host.Outcome State Fault Refusal := act s (fun s => s.launch 0 slot.val)
def execRoleSwap (slot : Fin 16) (s : State) : Host.Outcome State Fault Refusal := 
  act s (fun s => if s.pstate == 5 then s else s.launch 1 slot.val)
/-- The standby's share of a swap. -/
def execRoleSwapStandby (slot : Fin 16) (s : State) : Host.Outcome State Fault Refusal :=
  act s (fun s => if s.pstate == 5 then s.launch 1 slot.val else s)
def execTableSync (slot : Fin 16) (s : State) : Host.Outcome State Fault Refusal := act s (fun s => s.launch 2 slot.val)
def execOutputCommit (slot : Fin 16) (s : State) : Host.Outcome State Fault Refusal := act s (fun s => s.launch 3 slot.val)
def execScanStart (slot : Fin 16) (s : State) : Host.Outcome State Fault Refusal := act s (fun s => s.launch 4 slot.val)
def execRecorderMark (slot : Fin 16) (s : State) : Host.Outcome State Fault Refusal := act s (fun s => s.launch 5 slot.val)

/-- The beats in which a slot's action would have taken place, as a standby or otherwise (R70), begin here. -/
def State.slotNow (s : State) (n : Nat) : Word := if s.get (TIM_SLOT_W1.SCOPE n) == 0 then s.t.beat else s.workBeat

/-- A step of node time is applied (R58): the counts move at once, actions it skips run LATE. -/
def State.stepTime (s : State) (d : Int) : State :=
  let late := (List.range 16).filter (fun n => s.armedSlot n && ((s.reg (TIM_SLOT_W0 n) - s.slotNow n).toNat : Int) < d)
  let s := s.setTime ((s.micros : Int) + d).toNat (W (unsign 36 ((s.t.beat.toNat : Int) + d)))
  let s : State := { s with
    t := { s.t with disc := { s.t.disc with stepPend := none, slewLeft := 0 } }
    jl := { s.jl with stepAnn := none } }
  (s.inOrder late).foldl (fun s n => s.runSlot true n) (s.inc TIM_DSTAT.STEPS)

/-- The step pending is applied at phase 0 of a round boundary. -/
def State.stepDue (s : State) : State :=
  match s.t.disc.stepPend with
  | some d => if s.t.usec == 0 && s.t.phase == 0 then s.stepTime d else s
  | none => s

def execNodeTimeStep (s : State) : Host.Outcome State Fault Refusal := act s State.stepDue

/-! ### The mode digest's comparison (R75 to R78) -/

/-- MISMATCH follows PAIRMM and NETMM; its rise is an interrupt source (R77, R503). -/
def State.putMismatch (s : State) : State :=
  let m := s.flag TIM_MSTAT.PAIRMM || s.flag TIM_MSTAT.NETMM
  let was := s.flag TIM_MSTAT.MISMATCH
  let s := s.putB TIM_MSTAT.MISMATCH m
  if m && !was then s.raise HST_ISRC.MMATCH else s

/-- The issuer of a mismatched change arms it again, at most REISSUE times for its TAG (R78). -/
def State.reissue (s : State) : State :=
  match s.t.issuedTag with
  | none => s
  | some (tag, scope, m) =>
    let armed := (List.range 16).any (fun n => s.armedSlot n && s.get (TIM_SLOT_W1.ACTION n) == 0)
    if s.reg TIM_MDIG != W (m <<< 34 + tag <<< 16 + s.ownIssuer) || armed || s.get TIM_MSTAT.REISSUED ≥ s.get TIM_MDOM.REISSUE then s
    else
      let s := s.inc TIM_MSTAT.REISSUED
      s.issue ⟨s.boundaryAhead 2, W m, 0, scope, tag, s.ownIssuer, false, 8, false⟩

end Sys2Proof.Machine
end

