-- ==== Sys2Proof/Machine/Onyx.lean ====
section
/-! DEFINITION. The Onyx recorder (chapter 14): records and their slots, snapshots, writing, reading, the start-up scan,
authorised clearing. Slots are numbered 0 to 4095 permanent, 4096 to 20479 circulating. -/
namespace Sys2Proof.Machine

open Sys2Proof

/-! ### Slots and records (R419 to R421, R430) -/

def slotAddr (i : Nat) : Nat := if i < 4096 then 0o14100000 + 32 * i else 0o14500000 + 32 * (i - 4096)

/-- Slot of a record from its SEQ and the CSEQ in force (R420). -/
def slotOf (seq cseq : Word) : Nat :=
  let k := (seq - cseq).toNat
  if k < 4096 then k else 4096 + (k - 4096) % 16384

def markMode : Word := 0o654321000001#36
def crcMode : Word := 0o654321000002#36

/-- The words of a slot. -/
def State.slotWords (s : State) (i : Nat) : List Word := s.mramWords (slotAddr i) 32

/-- The slot holds a valid record (R430). -/
def State.slotValid (s : State) (i : Nat) : Bool :=
  let w := s.slotWords i
  let m := w.headD 0
  !((List.range 32).any (fun j => s.mramPoison (slotAddr i + j))) &&
    (m == markMode || (m == crcMode && w.getD 31 0 == W (crc32c ((w.drop 1).take 30))))

/-- The words of a record (R419). -/
def Rec.words (r : Rec) (unit : Nat) (seq cseq mark : Word) : List Word :=
  let t := r.trig
  let body : List Word :=
    [seq, cseq,
     W (t.cls <<< 32 + t.sub <<< 28 + unit <<< 27 + t.role <<< 25 + t.mode <<< 23 + t.rset <<< 19 + t.src % 4096),
     r.pcc, r.opr, t.ts0, t.ts1, t.ev0, t.ev1, W (t.lost <<< 18 + t.coal), t.lts0, t.lts1, W (t.ssig <<< 16 + r.snapErr)]
      ++ r.snaps ++ [0]
  [mark] ++ body ++ [W (crc32c body)]

/-! ### Snapshots (R424, R425, R427) -/

/-- Form the record of a trigger: the words of its set, and the triggers dropped since the last record. -/
def State.formRec (s : State) (t : Trig) : Rec :=
  let rd := (List.range 16).map (fun i =>
    if s.flag (ONX_SSET.EN t.rset i) then (match s.peek (s.get (ONX_SSET.ADDR t.rset i)) with | some w => (w, false) | none => (0, true))
    else ((0 : Word), false))
  { trig := { t with lost := s.onx.lostNew }
    snaps := rd.map (·.1)
    snapErr := maskOf ((List.range 16).filter (fun i => (rd.getD i (0, false)).2))
    pcc := s.reg ONX_PCC, opr := s.reg ONX_OPR }

/-- The reads of a snapshot set have their own failures counted (R35, R38). -/
def State.snapFetch (s : State) (rset : Nat) : State :=
  let l := ((List.range 16).filter (fun i => s.flag (ONX_SSET.EN rset i))).map (fun i => s.get (ONX_SSET.ADDR rset i))
  (s.sramFetch 24 (l.filter (fun a => (sramRight a).isSome))).mramFetch 24 (l.filter (fun a => isMram a && !isKeyStore a))

/-- The first accepted trigger becomes a record; a brown-out record goes to the head of the queue. -/
def State.snapshot (s : State) : State :=
  match s.onx.trigs with
  | [] => s
  | t :: rest =>
    let r := s.formRec t
    let q := if t.cls == 1 && t.sub == 3 then r :: s.onx.queue else s.onx.queue ++ [r]
    ({ s with onx := { s.onx with trigs := rest, queue := q, lostNew := 0 } } : State).snapFetch t.rset

/-- The first trigger has reached phase 1 of the beat after its acceptance. -/
def State.snapDue (s : State) : Bool :=
  match s.onx.trigs with | [] => false | t :: _ => s.alive 24 && 4 * (t.at_ + 1) + 1 ≤ s.phaseNo

def execOnyxSnapshot (s : State) : Host.Outcome State Fault Refusal := act s (fun s => if s.snapDue then s.snapshot else s)

/-- Every trigger that has waited long enough. -/
def State.snapAll : Nat → State → State
  | 0, s => s
  | k + 1, s => if s.snapDue then snapAll k s.snapshot else s

/-! ### Writing (R421, R428, R430) -/

/-- The recorder can write. -/
def State.onxUp (s : State) : Bool := s.alive 24 && s.alive 26

/-- The words of a record in the order of their writing: in mark mode MARK is zero first and comes last, in CRC mode it comes first. -/
def writeOrder (mm : Bool) (ws : List Word) : List (Nat × Word) :=
  let body := (ws.zipIdx.map (fun p => (p.2, p.1))).drop 1
  if mm then (0, 0) :: (body ++ [(0, markMode)]) else (0, crcMode) :: body

/-- The words of the record in progress whose beats have come, one a beat. -/
def State.writeOn (s : State) : State :=
  match s.onx.writing with
  | none => s
  | some w =>
    let l := w.todo.take (s.t.run + 1 - w.next)
    let s := l.foldl (fun (s : State) (p : Nat × Word) => s.setMram (slotAddr w.slot + p.1) p.2) s
    { s with onx := { s.onx with writing := some { w with todo := w.todo.drop l.length, next := w.next + l.length } } }

/-- Begin to write the words of a record in a slot. -/
def State.beginWords (s : State) (slot : Nat) (mm : Bool) (ws : List Word) : State :=
  ({ s with onx := { s.onx with writing := some ⟨slot, writeOrder mm ws, s.t.run⟩ } } : State).writeOn

/-- Begin to write a record as the next in sequence, in the mode in force (R421, R430). -/
def State.beginRec (s : State) (r : Rec) : State :=
  let seq := s.reg ONX_SEQ
  let cseq := s.reg ONX_CSEQ
  let mm := !s.flag ONX_CFG.SAFEM
  (s.setReg ONX_SEQ (seq + 1)).beginWords (slotOf seq cseq) mm (r.words s.unit seq cseq (if mm then markMode else crcMode))

/-- A word of a record has been written in this beat. -/
def State.wroteNow (s : State) : Bool := s.onx.wroteAt == some s.t.run

/-- A record may begin: the recorder writes none, no clear runs, and no copy that is asked for waits for its gap (R428, R432). -/
def State.mayRecord (s : State) : Bool :=
  s.onxUp && s.flag ONX_STAT.READY && s.onx.writing.isNone && s.onx.clear.isNone && s.onx.copy.isNone && !s.wroteNow

/-- The record that may begin: the first of the queue, with a token where its class needs one. -/
def State.recordStart (s : State) : State :=
  match s.onx.queue with
  | [] => s
  | r :: rest =>
    let free := r.trig.cls ≤ 2
    if !s.mayRecord || (!free && s.onx.tokens == 0) then s
    else
      let s : State := { s with onx := { s.onx with queue := rest, tokens := if free then s.onx.tokens else s.onx.tokens - 1 } }
      s.beginRec r

def execOnyxRecordWrite (s : State) : Host.Outcome State Fault Refusal := act s State.recordStart

/-- A record of a clear, class 1, stamped now (R422, R434). -/
def State.clearTrig (s : State) (sub : Nat) (ev0 ev1 : Word) : Trig :=
  { cls := 1, sub := sub, src := 0, ts0 := s.ts0, ts1 := s.ts1, ev0 := ev0, ev1 := ev1, rset := s.classSet 1
    role := s.get JL_STAT.ROLE, mode := s.mode, ssig := s.ssigOf (s.classSet 1), lost := 0, coal := 0
    lts0 := s.ts0, lts1 := s.ts1, at_ := s.t.run }

/-- Step 1 of a clear: its SUB 4 record is written at the next position (R434). -/
def State.clearStep1 (s : State) : State :=
  let seq := s.reg ONX_SEQ
  let cseq := s.reg ONX_CSEQ
  let r := s.formRec (s.clearTrig 4 cseq 0)
  let s : State := { s with onx := { s.onx with clear := some ⟨slotOf seq cseq, seq, 1, false, cseq, 0, 0⟩, lostNew := 0 } }
  (s.snapFetch (s.classSet 1)).beginRec r

/-- The clear ends (R434). -/
def State.clearOver (s : State) : State :=
  let s := (s.putB ONX_STAT.CLRRUN false).raise HST_ISRC.ONX
  { s with onx := { s.onx with clear := none } }

/-- The last word of the record in progress has been written: its slot is valid, and a clear goes on to its next step. -/
def State.recordEnd (s : State) : State :=
  let s := s.writeOn
  match s.onx.writing with
  | none => s
  | some w =>
    if !w.todo.isEmpty then s
    else
      let s : State := { s with onx := { s.onx with writing := none, wroteAt := some (w.next - 1) } }
      match s.onx.clear with
      | none => if w.slot < 4096 then s.put ONX_STAT.NPERM (w.slot + 1) else s
      | some c =>
        match c.step with
        | 0 => s
        | 1 => { s with onx := { s.onx with clear := some { c with step := 2, at_ := w.next } } }
        | _ => { s with onx := { s.onx with clear := some { c with step := 4 } } }

def execOnyxRecordWriteEnd (s : State) : Host.Outcome State Fault Refusal := act s (fun s => if s.onxUp then s.recordEnd else s)

/-- Tokens of a round (R428). -/
def State.tokenRefill (s : State) : State :=
  let rate := min 1000 (orElse (s.get ONX_CFG.RATE) 100)
  let burst := min 1000 (orElse (s.get ONX_CFG.BURST) 256)
  { s with onx := { s.onx with tokens := min burst (s.onx.tokens + rate) } }

/-- 3600 rounds of OPR are full, and their record has not been made (R422). -/
def State.hourRecord (s : State) : State :=
  let o := s.reg ONX_OPR
  if s.t.usec == 0 && o != 0 && o.toNat % 3600 == 0 && s.onx.hourAt != o then
    ({ s with onx := { s.onx with hourAt := o } } : State).trigNow 1 2 0 o 0
  else s

def execOprHourRecord (s : State) : Host.Outcome State Fault Refusal := act s State.hourRecord

def State.hostTrigger (s : State) (w : Word) : State := s.trigNow 7 0 0 w 0

def execOnxHtrigWrite (w : Word) (s : State) : Host.Outcome State Fault Refusal :=
  act s (fun s => (s.consume ONX_HTRIG w).hostTrigger w)

/-! ### The start-up scan (R429, R431) -/

/-- Slots that may hold a record: those whose MARK is not zero. -/
def State.markedSlots (s : State) : List Nat :=
  s.mem.mram.filterMap (fun p =>
    if p.1 % 32 != 0 then none
    else if 0o14100000 ≤ p.1 && p.1 ≤ 0o14477777 then some ((p.1 - 0o14100000) / 32)
    else if 0o14500000 ≤ p.1 && p.1 ≤ 0o16477777 then some (4096 + (p.1 - 0o14500000) / 32)
    else none)

/-- SEQ `a` is later than `b`, across a wrap. -/
def seqLater (a b : Word) : Bool := let d := (a - b).toNat; 1 ≤ d && d < 2 ^ 35

/-- An address of the record areas (R420). -/
def inRecords (a : Nat) : Bool := (0o14100000 ≤ a && a ≤ 0o14477777) || (0o14500000 ≤ a && a ≤ 0o16477777)

/-- The valid slot with the greatest SEQ. -/
def State.newest (s : State) : Option Nat :=
  (s.markedSlots.filter s.slotValid).foldl (fun b i =>
    match b with
    | none => some i
    | some j => if seqLater (s.mramAt (slotAddr i + 1)) (s.mramAt (slotAddr j + 1)) then some i else some j) none

/-- The scan ends: SEQ, CSEQ and the life counters are taken, an interrupted clear is taken up, slots of an older clear are
invalidated, and the start-up record is queued. -/
def State.scanEnd (s : State) : State :=
  let cold := s.life.rclass ≤ 3
  let s := s.mramFetch 24 (s.mem.mramBad.filter inRecords)
  let s :=
    match s.newest with
    | none => (((s.setReg ONX_SEQ 0).setReg ONX_CSEQ 0).setReg ONX_PCC 0).setReg ONX_OPR 0
    | some i =>
      let w := fun j => s.mramAt (slotAddr i + j)
      let seq := w 1
      let cseq := w 2
      let cls := fld (w 3) 35 28
      let k := (seq - cseq).toNat
      let s1 := (((s.setReg ONX_SEQ (seq + 1)).setReg ONX_CSEQ cseq).setReg ONX_PCC (w 4)).setReg ONX_OPR (w 5)
      let s1 := s1.put ONX_STAT.NPERM (min 4096 (k + 1))
      if cls == 0x14 then
        ({ s1 with onx := { s1.onx with clear := some ⟨i, seq, 2, true, cseq, s.t.run, 0⟩ } }).putB ONX_STAT.CLRRUN true
      else
        s.markedSlots.foldl (fun (x : State) (j : Nat) =>
          if s.slotValid j && s.mramAt (slotAddr j + 2) != cseq then x.setMram (slotAddr j) 0 else x) s1
  let s := if cold then s.setReg ONX_PCC (s.reg ONX_PCC + 1) else s
  let s := s.putB ONX_STAT.READY true
  let s : State := { s with onx := { s.onx with queue := s.onx.queue.map (fun r => { r with pcc := s.reg ONX_PCC, opr := s.reg ONX_OPR }) } }
  s.trigNow 1 1 0 (W s.life.rclass) 0

/-- The scan takes at most one round. -/
def State.scanOver (s : State) : State :=
  if s.onxUp && !s.flag ONX_STAT.READY && 1000000 ≤ s.since s.onx.scanAt then s.scanEnd else s

def execOnyxStartupScanEnd (s : State) : Host.Outcome State Fault Refusal :=
  act s (fun s => if s.onxUp && !s.flag ONX_STAT.READY then s.scanEnd else s)

/-! ### Reading a slot (R432) -/

/-- The copy asked for is done with a result. -/
def State.copyDone (s : State) (res : Nat) : State :=
  let s := ((s.put ONX_RDST.RESULT res).putB ONX_RDST.DONE true).raise HST_ISRC.ONX
  { s with onx := { s.onx with copy := none } }

def State.rdselWrite (s : State) (area : Bool) (idx : Nat) : State :=
  let s := (((s.putB ONX_RDSEL.AREA area).put ONX_RDSEL.IDX idx).putB ONX_RDST.DONE false).put ONX_RDST.RESULT 0
  if !area && idx ≥ 4096 then s.copyDone 2
  else if !s.flag ONX_STAT.READY then s.copyDone 3
  else { s with onx := { s.onx with copy := some (area, idx), copyAt := s.t.run } }

def execOnxRdselWrite (area : Bool) (idx : Fin 16384) (s : State) : Host.Outcome State Fault Refusal :=
  act s (fun s => (s.consume ONX_RDSEL (W (area.toNat <<< 35 + idx.val))).rdselWrite area idx.val)

/-- Words of a slot as a read of records delivers them. -/
def State.copyWords (s : State) (i : Nat) : State :=
  ((s.slotWords i).zipIdx).foldl (fun (s : State) (p : Word × Nat) => s.setReg (ONX_RD p.2) p.1) s

/-- The copy that is asked for is made, once no record is being written (R432). -/
def State.copyRun (s : State) : State :=
  match s.onx.copy with
  | none => s
  | some (a, i) =>
    let slot := if a then 4096 + i else i
    if s.onx.writing.isSome then s
    else
      let s := s.mramFetch 24 ((List.range 32).map (slotAddr slot + ·))
      (s.copyWords slot).copyDone (if s.slotValid slot then 0 else 1)

def execOnyxCopyComplete (s : State) : Host.Outcome State Fault Refusal := act s (fun s => if s.onxUp then s.copyRun else s)

/-- A copy is made within 80 beats: one word a beat when no record is in the way. -/
def State.copyOver (s : State) : State :=
  if s.onxUp && s.onx.copy.isSome && 32 ≤ s.since s.onx.copyAt then s.copyRun else s

/-! ### The recorder key (R473) -/

def keyBase (b : Nat) : Nat := if b == 0 then 0o16500000 else 0o16500100
def keyMagic : Word := 0o463127050002#36

/-- A copy of the key is valid. -/
def State.keyCopyValid (s : State) (b : Nat) : Bool :=
  let w := s.mramWords (keyBase b) 64
  w.headD 0 == keyMagic && !((List.range 64).any (fun i => s.mramPoison (keyBase b + i)))
    && ((w.drop 10).take 53).all (· == 0) && w.getD 63 0 == W (crc32c (w.take 63))

/-- The copy that holds the key: the valid one with the larger SEQ. -/
def State.keyCopy (s : State) : Option Nat :=
  match s.keyCopyValid 0, s.keyCopyValid 1 with
  | false, false => none
  | true, false => some 0
  | false, true => some 1
  | true, true => some (if (s.mramAt (keyBase 1 + 1)).toNat > (s.mramAt (keyBase 0 + 1)).toNat then 1 else 0)

/-- The key's 32 bytes. -/
def State.recKey (s : State) : Option (List Byte) :=
  s.keyCopy.map (fun b => (s.mramWords (keyBase b + 2) 8).flatMap (fun w => toBytes 4 (fld w 31 0)))

/-- Both blocks show whether a key is provisioned. -/
def State.showKey (s : State) : State :=
  let k := s.keyCopy.isSome
  (s.putB ONX_STAT.KEY k).putB IMG_STAT.KEY k

/-- Bytes of eight registers, most significant byte first. -/
def State.regBytes (s : State) (a : Nat) : List Byte := (List.range 8).flatMap (fun i => toBytes 4 (fld (s.reg (a + i)) 31 0))

/-- Place a challenge: six random words, then two words given. -/
def State.drawChallenge (s : State) (a : Nat) (w6 w7 : Nat) : State :=
  let s := (List.range 6).foldl (fun (s : State) (i : Nat) =>
    { s.setReg (a + i) (W (Config.randomWord s.freeCtr).toNat) with freeCtr := s.freeCtr + 1 }) s
  (s.setReg (a + 6) (W (w6 % 2 ^ 32))).setReg (a + 7) (W (w7 % 2 ^ 32))

/-! ### Authorised clearing (R434, R435) -/

/-- A write of ONX_CHREQ takes effect: the standing challenge lapses. -/
def State.chalRequest (s : State) : State :=
  if s.onx.lockAt.isSome then s.put ONX_CRES.RESULT 4
  else { s with onx := { s.onx with chal := none, chalReq := some s.t.run } }

def execOnxChallengeRequest (w : Word) (s : State) : Host.Outcome State Fault Refusal :=
  act s (fun s => (s.consume ONX_CHREQ w).chalRequest)

/-- The challenge asked for is placed. -/
def State.challengePlace (s : State) : State :=
  if s.onx.chalReq.isNone || !s.alive 24 then s
  else
    let s := s.drawChallenge (ONX_CHAL 0) (s.reg ONX_SEQ).toNat (s.reg ONX_PCC).toNat
    { s with onx := { s.onx with chalReq := none, chal := some s.t.run } }

def execOnxChallengeReady (s : State) : Host.Outcome State Fault Refusal := act s State.challengePlace

/-- A moment lies at least so many rounds back. -/
def State.roundsPast (s : State) (at_ : Option Nat) (n : Nat) : Bool :=
  match at_ with | some b => decide (n * 1000000 ≤ s.since b) | none => false

/-- A taken clear command (R488, R490): it waits for the round boundary. -/
def State.clearCommand (s : State) (w : Word) : State := if w == 1 then { s with onx := { s.onx with clrCmd := true } } else s

def execOnxClearCommand (s : State) : Host.Outcome State Fault Refusal := act s (fun s => s.clearCommand 1)

/-- A clear command refused. -/
def State.clearRefused (s : State) (r : Nat) : State := (s.put ONX_CRES.RESULT r).incMod ONX_CRES.TRIES

/-- The round boundary of a clear command: the response is compared, and step 1 starts on a match. -/
def State.clearStart (s : State) : State :=
  if s.t.usec != 0 || !s.onx.clrCmd then s
  else
    let s : State := { s with onx := { s.onx with clrCmd := false } }
    if !s.flag ONX_STAT.READY || s.onx.clear.isSome then s.clearRefused 5
    else if s.onx.lockAt.isSome then s.clearRefused 4
    else match s.recKey with
      | none => s.clearRefused 3
      | some key =>
        if s.onx.chal.isNone || s.roundsPast s.onx.chal 64 then s.clearRefused 1
        else
          let s : State := { s with onx := { s.onx with chal := none } }
          if s.regBytes (ONX_RESP 0) != hmacSha256 key (s.regBytes (ONX_CHAL 0)) then
            let n := s.onx.badRun + 1
            let s : State := { s with onx := { s.onx with badRun := if n ≥ 3 then 0 else n, lockAt := if n ≥ 3 then some s.t.run else none } }
            s.clearRefused 2
          else
            let s := (({ s with onx := { s.onx with badRun := 0 } } : State).put ONX_CRES.RESULT 0).putB ONX_STAT.CLRRUN true
            if s.onx.writing.isSome || s.wroteNow then
              { s with onx := { s.onx with clear := some ⟨0, 0, 0, false, s.reg ONX_CSEQ, 0, 0⟩ } }
            else s.clearStep1

def execOnyxClearStart (s : State) : Host.Outcome State Fault Refusal := act s (fun s => if s.onxUp then s.clearStart else s)

/-- Number of a slot among all, by the address of its MARK. -/
def slotAt (a : Nat) : Nat := if a < 0o14500000 then (a - 0o14100000) / 32 else 4096 + (a - 0o14500000) / 32

/-- Step 2: MARK zero in the slots from `lo` on and below `hi`, but X and permanent slot 0. -/
def State.wipeMarks (s : State) (x lo hi : Nat) : State :=
  let gone := fun (a : Nat) =>
    inRecords a && a % 32 == 0 && lo ≤ slotAt a && slotAt a < hi && slotAt a != x && slotAt a != 0
  { s with mem := { s.mem with mram := s.mem.mram.filter (fun p => !gone p.1), mramBad := s.mem.mramBad.filter (fun a => !gone a) } }

/-- What a clear does up to the beat in force: step 1 once the record before it is complete, one MARK a beat, the SUB 5 record, and
the MARK of slot X (R434). -/
def State.clearOn (s : State) : State :=
  match s.onx.clear with
  | none => s
  | some c =>
    if s.onx.writing.isSome || s.wroteNow then s
    else match c.step with
      | 0 => s.clearStep1
      | 2 =>
        let n := min 20480 (s.t.run + 1 - c.at_)
        let s := s.wipeMarks c.slotX c.wiped n
        let s : State := { s with onx := { s.onx with clear := some { c with wiped := n } } }
        if s.t.run < c.at_ + 20480 then s
        else
          let seq := c.seqX + 1
          let mm := c.slotX != 0 || !s.flag ONX_CFG.SAFEM
          let r := s.formRec (s.clearTrig 5 c.oldCseq (W c.resumed.toNat))
          let s := (((s.snapFetch (s.classSet 1)).setReg ONX_SEQ (seq + 1)).setReg ONX_CSEQ seq).put ONX_STAT.NPERM 1
          let s : State := { s with onx := { s.onx with clear := some { c with step := 3, wiped := n }, lostNew := 0 } }
          s.beginWords 0 mm (r.words s.unit seq seq (if mm then markMode else crcMode))
      | 4 => (if c.slotX != 0 then s.setMram (slotAddr c.slotX) 0 else s).clearOver
      | _ => s

def execOnyxClearComplete (s : State) : Host.Outcome State Fault Refusal := act s (fun s => if s.onxUp then s.recordEnd.clearOn else s)

/-- A challenge has stood for 64 rounds. -/
def State.challengeLapse (s : State) : State :=
  if s.roundsPast s.onx.chal 64 then { s with onx := { s.onx with chal := none } } else s

def execOnxChallengeLapse (s : State) : Host.Outcome State Fault Refusal := act s State.challengeLapse

/-- 600 rounds of lock-out have passed. -/
def State.lockoutEnd (s : State) : State :=
  if s.roundsPast s.onx.lockAt 600 then { s with onx := { s.onx with lockAt := none } } else s

def execOnxLockoutEnd (s : State) : Host.Outcome State Fault Refusal := act s State.lockoutEnd

/-- A challenge asked for is placed within a round. -/
def State.challengeOver (s : State) : State := if s.roundsPast s.onx.chalReq 1 then s.challengePlace else s

/-- What the time of the recorder has brought: snapshots, the scan's end, words and ends of records, clears, copies, the next record,
challenges. -/
def State.onxSweep (s : State) : State :=
  let s := (s.snapAll 144).challengeOver.challengeLapse.lockoutEnd
  if !s.onxUp then s else s.scanOver.recordEnd.clearOn.copyOver.recordStart

end Sys2Proof.Machine
end

