-- ==== Sys2Proof/Machine/Conf.lean ====
section
/-! DEFINITION. Register settings with an effect of their own when they change: ship ports, the pair engine, discipline, scan
lists, groups (R348, R353, R354, R380, R413, R456). -/
namespace Sys2Proof.Machine

open Sys2Proof

/-! ### Ship ports -/

/-- LINKA or LINKB of a port. -/
def linkFld (p : Nat) : Fld := if p == 0 then SN_STAT.LINKA else SN_STAT.LINKB

/-- A port without a PTP exchange. -/
def PtpPort.fresh : PtpPort := ⟨none, 0, 0, none, 0, none, 0, 0, 0, none, 0, 0, 0⟩

def State.ptpOf (s : State) (p : Nat) : PtpPort := s.sn.ptp.getD p PtpPort.fresh
def State.setPtp (s : State) (p : Nat) (x : PtpPort) : State := { s with sn := { s.sn with ptp := s.sn.ptp.set p x } }

/-- The port that R354 uses: the locked one with the better master, the one in use where they compare equal, SNA at
start-up. -/
def State.ptpBest (s : State) : Nat :=
  match s.flag (SN_PST.PLOCK 0), s.flag (SN_PST.PLOCK 1) with
  | false, false => 0
  | true, false => 1
  | false, true => 2
  | true, true =>
    let a := (s.ptpOf 0).rank
    let b := (s.ptpOf 1).rank
    if a < b then 1 else if b < a then 2 else if s.get SN_STAT.PTPPORT == 2 then 2 else 1

/-- Select the port, and with it the discipline. -/
def State.ptpSelect (s : State) : State := (s.put SN_STAT.PTPPORT s.ptpBest).discipline

/-- A port's PTP exchange ends in a state shown in PTPST. -/
def State.ptpStop (s : State) (p st : Nat) : State :=
  (((s.setPtp p PtpPort.fresh).put (SN_PST.PTPST p) st).putB (SN_PST.PLOCK p) false).ptpSelect

/-- A port's link is lost; a port with a fall-back starts to alternate anew (R349, R354, R379). -/
def State.portDown (s : State) (p : Nat) : State :=
  let s := if s.flag (SN_PST.LINK p) then s.inc (SN_PST.LINKDN p) else s
  let s : State := { s with sn := { s.sn with tries := s.sn.tries.erase p } }
  let s := ((s.putB (SN_PST.LINK p) false).put (SN_PST.SPEED p) 0).putB (SN_PST.FECON p) false
  ((s.put (SN_PST.TRN p) 0).putB (linkFld p) false).ptpStop p (if s.flag (SN_PCFG.PTPEN p) then 4 else 0)

/-- The mode in which a port works: codes 6 and 7 act as 0 (R348). -/
def State.portMode (s : State) (p : Nat) : Nat := let m := s.get (SN_PCFG.MODE p); if m ≥ 6 then 0 else m

/-- SN_PCFGp written: a port off has no link; a port whose operation changes loses the link it had; PTP runs where enabled. -/
def State.portConf (s : State) (p : Nat) (w : Word) : State :=
  let old := s.portMode p
  let ptp := s.flag (SN_PCFG.PTPEN p)
  let s := s.setReg (SN_PCFG p) w
  if s.portMode p != old && s.flag (SN_PST.LINK p) then s.portDown p
  else if s.flag (SN_PCFG.PTPEN p) != ptp then s.ptpStop p (if ptp then 0 else if s.flag (SN_PST.LINK p) then 1 else 4)
  else s

/-! ### The pair engine's enable (R380, R413) -/

/-- The engine idles: lanes and witness driver are powered down, nothing is known of a partner. -/
def State.pairIdle (s : State) : State :=
  let s := ((s.putB JL_STAT.LNKA false).putB JL_STAT.LNKB false).putB JL_STAT.WIT false
  let s := (s.putB JL_STAT.REF false).putB JL_STAT.PART false
  { s with jl := { JlS.fresh with opRoundRole := s.jl.opRoundRole } }

/-- The unit becomes active alone without a pair engine. -/
def State.pairSingle (s : State) : State :=
  let was := s.drives
  let s := s.pairIdle
  let s := (s.put JL_STAT.PARTNER 15).setPstate 0
  if was then s else s.roleChange.loBeat.dioDriveAll

/-- The engine starts to seek a partner. -/
def State.pairSeek (s : State) : State := (s.setPstate 1).loBeat.dioDriveAll

/-- JL_CFG written. -/
def State.pairConf (s : State) (w : Word) : State :=
  let was := s.flag JL_CFG.EN
  let s := s.setReg JL_CFG w
  if !s.life.applied || s.flag JL_CFG.EN == was then s else if was then s.pairSingle else s.pairSeek

/-! ### One register (R33, R456) -/

/-- HTO_BEATS changes: a request already issued keeps the value it was issued under (R47), for at most 255 beats. -/
def State.htoWrite (s : State) (w : Word) : State :=
  let l := (s.t.run, s.get SYS_HTO.HTO_BEATS) :: s.hst.hto.filter (fun p => s.t.run < p.1 + 256)
  ({ s with hst := { s.hst with hto := l } } : State).setReg SYS_HTO w

/-- A setting of field island k takes effect: of a scan list, a pending trigger ends with MODE 2 or 3, and the words follow the lists
that are active (R100, R101, R127); of OWCF, the comparator bits (R126). -/
def State.fieldConf (s : State) (k a : Nat) (w : Word) : State :=
  let o := a % 256 - FI_CFG 0 % 256
  if 8 ≤ o && o < 16 then
    let old := s.islandWords k
    let s := s.setReg a w
    let s := if s.get (FI_SLCFG.MODE k (o - 8)) < 2 then s.putB (FI_SLST.PEND k (o - 8)) false else s
    if s.alive k then (s.refreshIsland k old).idleStart k else s
  else
    let s := s.setReg a w
    if o == 2 then (List.range 8).foldl (fun (s : State) (j : Nat) => s.presentComp (8 * k + j)) s else s

/-- Number of an element in a run of registers. -/
def idxIn (a base n : Nat) : Option Nat := if base ≤ a && a < base + n then some (a - base) else none

/-- A setting takes effect with the word given, whose bits have been masked to those the map implements. -/
def State.confWrite (s : State) (a : Nat) (w : Word) : State :=
  match idxIn a (SN_PCFG 0) 2 with
  | some p => s.portConf p w
  | none =>
    match idxIn a (ALM_GCFG 0) 128 with
    | some g => if g % 2 == 0 then s.gcfgWrite (g / 2) w else s.setReg a w
    | none =>
      if a == JL_CFG then s.pairConf w
      else if a == SYS_HTO then s.htoWrite w
      else if a == TIM_DISC then
        let s := (s.setReg a w).discipline
        if s.flag TIM_DISC.PPSEN then s else { s with pins := { s.pins with ppsOut := false } }
      else
        match idxIn a (FI_CFG 0) 4096 with
        | some o => s.fieldConf (o / 256) a w
        | none => s.setReg a w

end Sys2Proof.Machine
end

