-- ==== Sys2Proof/Machine/Image.lean ====
section
/-! DEFINITION. The structure image (chapter 16): streaming and checking, commit, preparation and apply, start-up, the key
store. -/
namespace Sys2Proof.Machine

open Sys2Proof

/-! ### A bank (R29, R453 to R456) -/

/-- Base address of an image bank: 0 A, 1 B (R29). -/
def imgBase (b : Nat) : Nat := if b == 0 then 0o10000000 else 0o12000000

/-- Words of a bank (R453). -/
def imgSize : Nat := 0o2000000

/-- MAGIC of a valid bank (R454). -/
def imgMagic : Word := 0o463127050001#36

/-- A word of a bank by its offset. -/
def State.bankAt (s : State) (b o : Nat) : Word := s.mramAt (imgBase b + o)

/-- Header words of a bank. -/
def State.bankHead (s : State) (b : Nat) : List Word := s.mramWords (imgBase b) 64

/-- The image digest (R455): pairs of words from offset 0o100 on, 72 bits each, through SHA-256. -/
def State.bankDigest (s : State) (b : Nat) : List Byte :=
  sha256 ((List.range 262112).flatMap (fun i =>
    toBytes 9 ((s.bankAt b (64 + 2 * i)).toNat <<< 36 + (s.bankAt b (65 + 2 * i)).toNat)))

/-- The digest of a header, as bytes, and its bits 35:0. -/
def headDigest (h : List Word) : List Byte := (List.range 8).flatMap (fun i => toBytes 4 (fld (h.getD (8 + i) 0) 31 0))
def digestLow (h : List Word) : Word := W (fld (h.getD 14 0) 3 0 <<< 32 + fld (h.getD 15 0) 31 0)

/-- Fields of header word 3. -/
def headPers (h : List Word) : Bool := wbit (h.getD 3 0) 35
def headStart (h : List Word) : Nat := fld (h.getD 3 0) 34 33
def headSafeEn (h : List Word) : Bool := wbit (h.getD 3 0) 32
def headSafeCell (h : List Word) : Nat := fld (h.getD 3 0) 31 20
def headNreg (h : List Word) : Nat := fld (h.getD 3 0) 10 0

/-- HCHK of a header, computed with MAGIC in word 0 (R454). -/
def headCheck (h : List Word) : Word := W (crc32c (imgMagic :: (h.drop 1).take 62))

/-- Words and bits of a header that must be zero (R454). -/
def headZeros (h : List Word) : Bool :=
  fld (h.getD 3 0) 19 11 == 0 && h.getD 7 0 == 0 && ((h.drop 32).take 31).all (· == 0)
    && ((h.drop 8).take 8).all (fun w => fld w 35 32 == 0)

/-- The first word of a bank between two offsets that reads POISON. -/
def State.bankPoison (s : State) (b lo hi : Nat) : Option Nat :=
  ((s.mem.mramBad.filter (fun a => imgBase b + lo ≤ a && a < imgBase b + hi)).map (· - imgBase b)).min?

/-- Registers that an image may set (R456). -/
def imageReg (a : Nat) : Bool :=
  [SYS_HTO, TIM_DISC, TIM_PPSO, TIM_MINLEAD, TIM_MDOM, CAL_CFG, OPL_CFG, SN_PCFG 0, SN_PCFG 1, SN_ID, SN_IP, SN_CFG, SN_TXG,
    JL_CFG, JL_REFD, JL_REFL, JL_DCFG, JL_ALM, JL_LAY, ONX_CFG, CLK_CFG].contains a
  || (match idxIn a (FI_CFG 0) 4096 with | some o => o % 256 ≤ 2 || (8 ≤ o % 256 && o % 256 ≤ 15) | none => false)
  || (match idxIn a (ALM_GCFG 0) 128 with | some o => o % 2 == 0 | none => false)
  || (0o40120020 ≤ a && a ≤ 0o40120067) || (0o40120070 ≤ a && a ≤ 0o40120107)
  || (0o40140011 ≤ a && a ≤ 0o40140017) || (0o40141000 ≤ a && a ≤ 0o40141377)

/-- Pair i of the register section. -/
def State.bankPair (s : State) (b i : Nat) : Word × Word := (s.bankAt b (0o1000 + 2 * i), s.bankAt b (0o1001 + 2 * i))

/-- Bits of a register that its map implements. -/
def implOf (a : Nat) : Nat := match regRow a with | some r => r.impl | none => 0

/-- Pair i stands as R456 asks, `nreg` of them in use. -/
def State.pairOk (s : State) (b nreg i : Nat) : Bool :=
  let (a, v) := s.bankPair b i
  if i < nreg then
    a.toNat < 2 ^ 24 && imageReg a.toNat && (v.toNat &&& implOf a.toNat) == v.toNat
      && (i == 0 || (s.bankPair b (i - 1)).1.toNat < a.toNat)
  else a == 0 && v == 0

/-- Offset of the first pair that R456 refuses. -/
def State.badPair (s : State) (b nreg : Nat) : Option Nat :=
  ((List.range 1792).find? (fun i => !s.pairOk b nreg i)).map (fun i => 0o1000 + 2 * i)

/-- Word w of received-signal entry i in a bank. -/
def State.bankRx (s : State) (b i w : Nat) : Word := s.bankAt b (0o110000 + 2 * i + w)

/-- Offset of the first received-signal entry that R373 refuses. -/
def State.badRx (s : State) (b : Nat) : Option Nat :=
  let used := (List.range 4096).filter (fun i => wbit (s.bankRx b i 0) 35)
  (used.find? (fun i =>
    fld (s.bankRx b i 0) 33 32 == 3 ||
      used.any (fun j => j != i && fld (s.bankRx b j 0) 31 0 == fld (s.bankRx b i 0) 31 0
        && fld (s.bankRx b j 1) 35 24 == fld (s.bankRx b i 1) 35 24))).map (fun i => 0o110000 + 2 * i)

/-- A bank is valid (R469). -/
def State.bankValid (s : State) (b : Nat) : Bool :=
  let h := s.bankHead b
  h.headD 0 == imgMagic && h.getD 63 0 == headCheck h && h.getD 2 0 == 1 && headPers h == s.compat
    && (s.bankPoison b 0 imgSize).isNone && s.bankDigest b == headDigest h

/-! ### Answers (R475) -/

/-- A result is shown; a command that is running goes on. -/
def State.imgSay (s : State) (r : Nat) : State := ((s.put IMG_CRES.RESULT r).put IMG_CRES.SUB 0).raise HST_ISRC.IMG

/-- A command ends with a result. -/
def State.imgEnd (s : State) (r : Nat) : State := ((s.imgSay r).putB IMG_CRES.RUN false).put IMG_CRES.STEP 0

/-- A refusal shown with the offset at fault. -/
def State.imgBad (s : State) (o : Nat) : State := s.put IMG_BAD.OFFS o

/-- Show the validity and SEQ of a bank; with one bank invalid no SEQs are equal. -/
def State.showBank (s : State) (b : Nat) (valid : Bool) (seq : Word) : State :=
  let s := if valid then s else s.putB IMG_STAT.EQSEQ false
  if b == 0 then (s.putB IMG_STAT.AVALID valid).setReg IMG_SEQA (if valid then seq else 0)
  else (s.putB IMG_STAT.BVALID valid).setReg IMG_SEQB (if valid then seq else 0)

/-- Make a bank invalid: its MAGIC is written as zero. -/
def State.killBank (s : State) (b : Nat) : State := (s.setMram (imgBase b) 0).showBank b false 0

/-- Conditions that refuse an OPEN, the open session and a commit apart (R457): a verification, a preparation or an apply in progress
or pending, a calibration command running, a key command taken. -/
def State.imgOccupied (s : State) : Bool :=
  s.img.verify.isSome || s.flag IMG_STAT.APPLYPEND || s.flag IMG_STAT.PREP || s.img.startup.isSome || s.img.resync
    || s.flag CAL_CSTAT.RUN || s.img.keyCmd != 0

/-! ### The session (R457, R458) -/

/-- The bank that OPEN takes. -/
def State.openTarget (s : State) : Nat :=
  if s.flag IMG_STAT.RUNNING then 1 - s.get IMG_STAT.RUNBANK
  else if !s.flag IMG_STAT.AVALID then 0
  else if !s.flag IMG_STAT.BVALID then 1
  else if (s.reg IMG_SEQA).toNat < (s.reg IMG_SEQB).toNat then 0 else 1

/-- FREE follows the queue. -/
def State.showFree (s : State) : State := s.put IMG_WCNT.FREE (64 - s.img.wq.length)

/-- Session flags and counts at their start. -/
def State.sessionClear (s : State) : State :=
  let s := (((s.putB IMG_STAT.VERIFIED false).putB IMG_STAT.OVR false).putB IMG_STAT.LONG false).put IMG_WCNT.CNT 0
  ({ s with img := { s.img with staged := [], wq := [], verify := none } } : State).showFree

def State.imgOpen (s : State) : State :=
  if s.flag IMG_STAT.SESSION || s.img.commit || s.imgOccupied then s.imgSay 1
  else
    let t := s.openTarget
    let s := (s.killBank t).sessionClear.putB IMG_STAT.SESSION true
    ({ s with img := { s.img with target := t } } : State).imgSay 0

/-- A word written to IMG_WDATA. -/
def State.imgData (s : State) (w : Word) : State :=
  let n := s.get IMG_WCNT.CNT
  if !s.flag IMG_STAT.SESSION then s
  else if n ≥ imgSize then s.putB IMG_STAT.LONG true
  else if n < 64 then ({ s with img := { s.img with staged := s.img.staged ++ [w] } } : State).put IMG_WCNT.CNT (n + 1)
  else if s.img.wq.length ≥ 64 then s.putB IMG_STAT.OVR true
  else
    let at_ := if s.img.wq.isEmpty then max s.img.wqAt s.t.run else s.img.wqAt
    (({ s with img := { s.img with wq := s.img.wq ++ [(n, w)], wqAt := at_ } } : State).put IMG_WCNT.CNT (n + 1)).showFree

/-- The words of the queue whose beats have come go to the target, one a beat; a beat in which the recorder writes is none of them. -/
def State.imgDrain (s : State) : State :=
  if s.img.wq.isEmpty || s.t.run < s.img.wqAt then s
  else
    let l := s.img.wq.take (s.t.run + 1 - s.img.wqAt - s.onx.writing.isSome.toNat)
    let s := l.foldl (fun (s : State) (p : Nat × Word) => s.setMram (imgBase s.img.target + p.1) p.2) s
    ({ s with img := { s.img with wq := s.img.wq.drop l.length, wqAt := s.t.run + 1 } } : State).showFree

/-! ### Verification (R459) -/

def State.imgVerify (s : State) : State :=
  if s.img.verify.isSome || s.img.commit then s.imgSay 1
  else
    let s := (s.putB IMG_CRES.RUN true).putB IMG_STAT.VERIFIED false
    { s with img := { s.img with verify := some s.t.run } }

/-- Write BL_ERR (R188): the cell and the cause, or none. -/
def State.latticeError (s : State) (e : Option (Nat × Nat)) : State :=
  match e with
  | none => s.setReg BL_ERR 0
  | some (c, y) => ((s.putB BL_ERR.BAD true).put BL_ERR.CELL c).put BL_ERR.WHY y

/-- The result of the checks, with the offset at fault and the lattice error where one is found. -/
def State.verifyResult (s : State) : Nat × Option Nat × Option (Nat × Nat) :=
  let h := s.img.staged
  let b := s.img.target
  let lat := latticeFault (s.bankAt b)
  let none3 := fun (r : Nat) => (r, (none : Option Nat), (none : Option (Nat × Nat)))
  if !s.flag IMG_STAT.SESSION then none3 2
  else if s.get IMG_WCNT.CNT != imgSize || s.flag IMG_STAT.LONG then none3 3
  else if s.flag IMG_STAT.OVR then none3 4
  else match s.bankPoison b 64 imgSize with
    | some o => (5, some o, none)
    | none =>
      if h.getD 63 0 != headCheck h then (6, some 63, none)
      else if h.getD 2 0 != 1 then (6, some 2, none)
      else if headStart h == 3 || headNreg h > 1792 || !headZeros h then (6, some 3, none)
      else if headPers h != s.compat then (7, some 3, none)
      else if s.bankDigest b != headDigest h then (8, some 8, none)
      else match s.badPair b (headNreg h) with
        | some o => (9, some o, none)
        | none =>
          match lat with
          | some (c, y) => (10, some (cellBase c), some (c, y))
          | none =>
            if headSafeEn h && fld (s.bankAt b (cellBase (headSafeCell h))) 35 31 == 0 then (10, some (cellBase (headSafeCell h)), none)
            else match s.badRx b with
              | some o => (11, some o, none)
              | none => none3 0

/-- The verification ends, once the queue has gone to the target. A word of the body that is answered POISON is counted (R49). -/
def State.verifyEnd (s : State) : State :=
  if s.img.verify.isNone || !s.img.wq.isEmpty then s
  else
    let s : State := { s with img := { s.img with verify := none } }
    let (r, o, e) := s.verifyResult
    let s := match o with | some o => s.imgBad o | none => s
    let s := if r == 5 then s.mramFetch 26 [imgBase s.img.target + o.getD 0] else s
    let s := if r == 0 || 10 ≤ r then s.latticeError e else s
    (s.putB IMG_STAT.VERIFIED (r == 0)).imgEnd r

/-- A verification ends within 2 rounds. -/
def State.verifyOver (s : State) : State :=
  match s.img.verify with
  | some b => if 2000000 ≤ s.since b then s.verifyEnd else s
  | none => s

/-- ABORT: the session ends, and the target stays invalid. -/
def State.imgAbort (s : State) : State :=
  if !s.flag IMG_STAT.SESSION then s.imgSay 2
  else if s.img.commit then s.imgSay 1
  else (s.sessionClear.putB IMG_STAT.SESSION false).imgEnd 0

/-! ### Commit (R460, R461) -/

/-- A keyed COMMIT is taken: it waits for its round boundary (R475). Another that waits or runs refuses it. -/
def State.imgCommit (s : State) : State :=
  if s.img.commit then s.imgSay 1 else { s with img := { s.img with commit := true } }

/-- The header of the commit: SEQ, stamp and HCHK its own, the rest as staged (R454, R460). -/
def State.commitHead (s : State) : List Word :=
  let seq := W (max (s.reg IMG_SEQA).toNat (s.reg IMG_SEQB).toNat + 1)
  let h := s.img.staged
  let h := imgMagic :: seq :: (h.drop 2).take 2 ++ [s.ts0, s.ts1] ++ (h.drop 6).take 57
  h ++ [headCheck h]

/-- A commit that is not to be made. -/
def State.imgCommitRefuse (s : State) (r : Nat) : State := ({ s with img := { s.img with commit := false } } : State).imgSay r

/-- The round boundary of a commit: it is refused, or starts step 1. -/
def State.imgCommitRun (s : State) : State :=
  if !s.img.commit || s.get IMG_CRES.STEP != 0 || s.t.usec != 0 || s.life.warn || s.flag SYS_DBG.HALTED then s
  else if !s.flag IMG_STAT.VERIFIED then s.imgCommitRefuse 12
  else if s.imgOccupied then s.imgCommitRefuse 1
  else
    let h := s.commitHead
    (({ s with img := { s.img with staged := h, cmtAt := s.t.run, pausedAt := none } } : State).putB IMG_CRES.RUN true).put IMG_CRES.STEP 1

/-- Beats a commit has had since its start. -/
def State.imgElapsed (s : State) : Nat :=
  (match s.img.pausedAt with | some p => p | none => s.t.run) - s.img.cmtAt

/-- The recorder has this beat of a commit. -/
def State.imgDelay (s : State) : State :=
  if s.get IMG_CRES.STEP != 0 && s.img.pausedAt.isNone && s.onx.writing.isSome then
    { s with img := { s.img with cmtAt := s.img.cmtAt + 1 } }
  else s

/-- Header words 1 to 63 that have had their beats, MAGIC after them, and the step that the commit has reached (R460). -/
def State.imgSteps (s : State) : State :=
  if s.get IMG_CRES.STEP == 0 then s
  else
    let n := s.imgElapsed
    let base := imgBase s.img.target
    let s := if s.get IMG_CRES.STEP == 1 then s.setMramWords (base + 1) ((s.img.staged.drop 1).take (n + 1)) else s
    if n < 63 then s
    else
      let s := if s.get IMG_CRES.STEP == 1 then s.setMram base imgMagic else s
      s.put IMG_CRES.STEP (if n < 65 then 2 else 3)

/-- Step 3: the header read back; a mismatch takes its MAGIC away again. -/
def State.imgCommitEnd (s : State) (mismatch : Bool) : State :=
  let s := s.imgSteps
  if s.get IMG_CRES.STEP != 3 || s.imgElapsed < 129 then s
  else
    let b := s.img.target
    let h := s.bankHead b
    let bad := (s.bankPoison b 0 64).isSome
    let s := s.mramFetch 26 ((List.range 64).map (imgBase b + ·))
    let s : State := { s with img := { s.img with commit := false } }
    if mismatch || bad || h != s.img.staged then (s.killBank b).imgEnd 5
    else
      let s := (s.putB IMG_STAT.SESSION false).putB IMG_STAT.VERIFIED false
      let s := ((s.showBank b true (h.getD 1 0)).putB IMG_STAT.NOVALID false).putB IMG_STAT.APPLYPEND true
      let at_ := if s.flag IMG_CFG.MANUAL then none else some (s.t.round + 2)
      ({ s with img := { s.img with pendBank := b, applyAt := at_ } } : State).imgEnd 0

/-- A commit pauses at a word boundary, and goes on with the time it has had (R499, R548). -/
def State.imgPause (s : State) : State :=
  if s.img.pausedAt.isSome then s else { s with img := { s.img with pausedAt := some s.t.run } }
def State.imgResume (s : State) : State :=
  match s.img.pausedAt with
  | some p => { s with img := { s.img with pausedAt := none, cmtAt := s.img.cmtAt + (s.t.run - p) } }
  | none => s

/-- An APPLY command (R462, R468); one given while the image is being prepared finds the controller busy (log entry 37). -/
def State.imgApplyCmd (s : State) : State :=
  if s.replays then (s.imgSay 15).put IMG_CRES.SUB 1
  else if !s.flag IMG_STAT.APPLYPEND then s.imgSay 14
  else if s.flag IMG_STAT.PREP then s.imgSay 1
  else
    let r := s.reg IMG_ATGT
    if r != 0 && r.toNat < s.t.round.toNat + 2 then s.imgSay 13
    else
      let at_ := if r == 0 then s.t.round + 2 else r
      let s : State :=
        if s.flag IMG_CFG.MANUAL || s.img.applyAt.isNone then { s with img := { s.img with applyAt := some at_ } } else s
      s.imgSay 0

/-- A command of IMG_CMD. -/
def State.imgCommand (s : State) (c : Nat) : State :=
  match c with
  | 1 => s.imgOpen
  | 2 => s.imgVerify
  | 3 => s.imgAbort
  | 4 => s.imgApplyCmd
  | _ => s

/-- The controller works. -/
def State.imgUp (s : State) : Bool := s.alive 26

def execImgOpen (s : State) : Host.Outcome State Fault Refusal :=
  act s (fun s => if s.imgUp then (s.consume IMG_CMD 1).imgOpen else s)
def execImgWdataWrite (w : Word) (s : State) : Host.Outcome State Fault Refusal :=
  act s (fun s => if s.imgUp then (s.consume IMG_WDATA w).imgData w else s)
def execImgVerify (s : State) : Host.Outcome State Fault Refusal :=
  act s (fun s => if s.imgUp then (s.consume IMG_CMD 2).imgVerify else s)
def execImgVerifyComplete (s : State) : Host.Outcome State Fault Refusal := act s (fun s => if s.imgUp then s.verifyEnd else s)
def execImgAbort (s : State) : Host.Outcome State Fault Refusal :=
  act s (fun s => if s.imgUp then (s.consume IMG_CMD 3).imgAbort else s)
def execImgApply (s : State) : Host.Outcome State Fault Refusal :=
  act s (fun s => if s.imgUp then (s.consume IMG_CMD 4).imgApplyCmd else s)
def execImgCommit (s : State) : Host.Outcome State Fault Refusal := act s (fun s => if s.imgUp then s.imgCommit else s)
def execImageCommitRun (s : State) : Host.Outcome State Fault Refusal := act s (fun s => if s.imgUp then s.imgCommitRun else s)
def execImageCommitComplete (mismatch : Bool) (s : State) : Host.Outcome State Fault Refusal :=
  act s (fun s => if s.imgUp then s.imgCommitEnd mismatch else s)

/-! ### Preparation (R463, R465, R468, R470) -/

/-- Copy words of a bank into SRAM. Both read as zero where unlisted. -/
def State.copyBank (s : State) (b off n dst : Nat) : State :=
  let src := s.mem.mram.window (imgBase b + off) (imgBase b + off + n) dst
  { s with mem := { s.mem with
      sram := s.mem.sram.splice dst n src, sramBad := s.mem.sramBad.filter (fun a => !(dst ≤ a && a < dst + n)) } }

/-- The lattice section, to the configuration region. -/
def State.copyLattice (s : State) (b : Nat) : State := s.copyBank b 0o1000000 0o1000000 0o1000000

/-- A word of the received-signal entries in SRAM, by its place in the bank's list of words 0 and 1 (R373, R453). -/
def rxPlace (a : Nat) : Option Nat :=
  if 0o700000 ≤ a && a ≤ 0o777777 && a % 8 < 2 then some (2 * ((a - 0o700000) / 8) + a % 8) else none

/-- Words 0 and 1 of received-signal entries, those from place `lo` on and below `hi`. -/
def State.copyRx (s : State) (b lo hi : Nat) : State :=
  let gone := fun (a : Nat) => match rxPlace a with | some k => decide (lo ≤ k) && decide (k < hi) | none => false
  let src := s.mem.mram.window (imgBase b + 0o110000 + lo) (imgBase b + 0o110000 + hi) lo
  let s : State := { s with mem := { s.mem with
      sram := s.mem.sram.filter (fun p => !gone p.1), sramBad := s.mem.sramBad.filter (fun a => !gone a) } }
  src.foldl (fun (s : State) (p : Nat × Word) => s.setSram (0o700000 + 8 * (p.1 / 2) + p.1 % 2) p.2) s

/-- The sections of a bank that step 3 copies, in their order: place among the words of the step, bank offset, words, destination
(R453, R463). -/
def tableSections : List (Nat × Nat × Nat × Nat) :=
  [(0, 0o10000, 8192, 0o100000), (8192, 0o30000, 16384, 0o200000), (24576, 0o70000, 512, 0o300000), (25088, 0o71000, 512, 0o310000),
   (25600, 0o72000, 256, 0o320000), (25856, 0o100000, 4096, 0o600000), (29952, 0o110000, 8192, 0o700000)]

/-- The sections with the part of each that lies among the words from `lo` on and below `hi` of the step: bank offset, words,
destination. -/
def tableParts (lo hi : Nat) : List (Nat × Nat × Nat × Nat) :=
  tableSections.filterMap (fun x =>
    let a := max lo x.1
    let z := min hi (x.1 + x.2.2.1)
    if a < z then some (a - x.1, x.2.1, z - a, x.2.2.2) else none)

/-- The tables and words 0 and 1 of the received-signal entries: words `lo` to before `hi` of step 3. -/
def State.copyTables (s : State) (b lo hi : Nat) : State :=
  (tableParts lo hi).foldl (fun (s : State) (x : Nat × Nat × Nat × Nat) =>
    if x.2.2.2 == 0o700000 then s.copyRx b x.1 (x.1 + x.2.2.1)
    else s.copyBank b (x.2.1 + x.1) x.2.2.1 (x.2.2.2 + x.1)) s

/-- TYPEs that the configuration region holds, those not NONE (R187). -/
def State.regionTypes (s : State) : Tbl Nat :=
  (List.range 4096).filterMap (fun c => let t := fld (s.sramAt (cellBase c)) 35 31; if t == 0 then none else some (c, t))

/-- Reloads in progress are given up without adoption (R463). -/
def State.dropReloads (s : State) : State :=
  unitList.foldl (fun (s : State) (u : Nat) =>
    match s.dueOf u with
    | [] => s
    | p :: _ =>
      let c := s.copyOf p
      let s := (s.setCopy p { c with tries := 0 }).setPass u Pass.none
      if [2, 3, 6].contains (s.get (stateFld p)) then s.put (stateFld p) (if c.words.isEmpty then 0 else 1) else s) s

/-- An apply refused (R465). At a start-up the other valid bank, if any, is taken (R469); with none the node stays in its
start-up state (R471). The running image applied again after a resync keeps its bank and is tried again at the next boundary (log
entry 37). -/
def State.imgRefuse (s : State) (p : Prep) : State :=
  let again := s.img.resync && !p.startup
  let s := if again then s else s.killBank p.bank
  let s := if s.flag IMG_STAT.RUNNING then s.copyLattice (s.get IMG_STAT.RUNBANK) else s
  let s := ((s.putB IMG_STAT.PREP false).putB IMG_STAT.PREPCUT false).putB BL_STAT.PEND false
  let s : State := { s with img := { s.img with prep := none }, bl := { s.bl with shadow := none } }
  let s := s.imgSay 15
  if p.startup then
    let s : State := { s with img := { s.img with startup := s.img.other, other := none } }
    if s.img.startup.isNone then (s.putB IMG_STAT.NOVALID true).causeOn 7 else s
  else if again then s
  else ({ s with img := { s.img with applyAt := none } } : State).putB IMG_STAT.APPLYPEND false

/-- The tables are kept (R470, R541). -/
def State.keepTables (s : State) (b : Nat) (startup : Bool) : Bool :=
  s.img.resync || (startup && s.life.rclass ≥ 4 && s.img.ranBefore && !s.flag IMG_STAT.PREPCUT && digestLow (s.bankHead b) == s.reg IMG_RUNDIG)

/-- The active tells its partner which image it prepares (R468). -/
def State.joinRecord (s : State) (b : Nat) : State :=
  s.record ⟨15, 0, 0, (List.range 8).map (fun i => (s.bankHead b).getD (8 + i) 0)⟩

/-- Preparation of a bank begins: this beat is P (R463). -/
def State.prepare (s : State) (b : Nat) (startup : Bool) : State :=
  let keep := s.keepTables b startup
  let s := ((s.putB IMG_STAT.PREP true).putB IMG_STAT.PREPCUT true).joinRecord b
  { s with img := { s.img with prep := some ⟨b, s.t.run, 1, 0, keep, [], [], startup⟩ } }

/-- Beats from P at which a step begins, and the words it takes (R463). -/
def prepBegin (step : Nat) : Nat := match step with | 1 => 0 | 2 => 3584 | 3 => 265728 | _ => 303872
def prepWords (step : Nat) : Nat := prepBegin (step + 1) - prepBegin step

/-- The first word answered POISON among words `lo` to before `hi` of a step. -/
def State.prepPoison (s : State) (p : Prep) (lo hi : Nat) : Option Nat :=
  match p.step with
  | 1 => s.bankPoison p.bank (0o1000 + lo) (0o1000 + hi)
  | 2 => s.bankPoison p.bank (0o1000000 + lo) (0o1000000 + hi)
  | _ => if p.keep then none else (tableParts lo hi).findSome? (fun x => s.bankPoison p.bank (x.2.1 + x.1) (x.2.1 + x.1 + x.2.2.1))

/-- Words `lo` to before `hi` of a step are copied. -/
def State.prepCopy (s : State) (p : Prep) (lo hi : Nat) : State :=
  match p.step with
  | 2 => s.copyBank p.bank (0o1000000 + lo) (hi - lo) (0o1000000 + lo)
  | 3 => if p.keep then s else s.copyTables p.bank lo hi
  | _ => s

def State.setPrep (s : State) (p : Prep) : State := { s with img := { s.img with prep := some p } }

/-- A step has had its words: 1 has staged the register section, 2 has the lattice section checked (R188), 3 the tables copied. -/
def State.prepNext (s : State) (p : Prep) : State :=
  let q := { p with step := p.step + 1, done_ := 0 }
  match p.step with
  | 1 =>
    let pairs := (List.range (headNreg (s.bankHead p.bank))).map (fun i => ((s.bankPair p.bank i).1.toNat, (s.bankPair p.bank i).2))
    let types := s.regionTypes
    ({ s with bl := { s.bl with oldTypes := types } } : State).setPrep { q with pairs := pairs }
  | 2 =>
    match latticeFault (s.bankAt p.bank) with
    | some e => ((s.latticeError (some e)).imgBad (cellBase e.1)).imgRefuse p
    | none =>
      let cfg := parseLattice (s.bankAt p.bank)
      let s := ((s.latticeError none).putB BL_STAT.PEND true).putB IMG_STAT.TBLKEPT p.keep
      (({ s with bl := { s.bl with shadow := some cfg } } : State).dropReloads).setPrep { q with cfg := cfg }
  | _ => s.setPrep q

/-- A step takes the words whose beats have come; one answered POISON refuses the image (R465). -/
def State.prepStep (s : State) : State :=
  match s.img.prep with
  | none => s
  | some p =>
    let past := s.since p.at_
    if p.step ≥ 4 || past < prepBegin p.step then s
    else
      let n := min (prepWords p.step) (past + 1 - prepBegin p.step)
      match s.prepPoison p p.done_ n with
      | some o => ((s.mramFetch 26 [imgBase p.bank + o]).imgBad o).imgRefuse p
      | none =>
        let s := (s.prepCopy p p.done_ n).setPrep { p with done_ := n }
        if past < prepBegin (p.step + 1) then s else s.prepNext { p with done_ := n }

/-- Every step as far as the beat in force brings it. -/
def State.prepSteps (s : State) : State := s.prepStep.prepStep.prepStep

/-- The preparation due at a round boundary: at a start-up, once no warning stands (R469, R546); of the running image after a resync
(R541); of a committed image one round before its apply (R462), which a standby takes up with its active alone (R468). -/
def State.prepDue (s : State) : State :=
  if s.flag IMG_STAT.PREP || s.t.usec != 0 then s
  else match s.img.startup with
    | some b => if s.life.warn then s else s.prepare b true
    | none =>
      if s.img.resync then (if s.life.held == 0 then s.prepare (s.get IMG_STAT.RUNBANK) false else s)
      else if s.flag IMG_STAT.APPLYPEND && !s.replays then
        match s.img.applyAt with
        | some r => if r.toNat ≤ s.t.round.toNat + 1 then s.prepare s.img.pendBank false else s
        | none => s
      else s

def execImagePreparation (s : State) : Host.Outcome State Fault Refusal :=
  act s (fun s => if s.imgUp then s.prepDue.prepSteps else s)

/-- The committed image is the one with the digest that the active's JOIN record names (R468). -/
def State.pendIs (s : State) (digest : List Word) : Bool :=
  s.flag IMG_STAT.APPLYPEND && !s.flag IMG_STAT.PREP
    && (List.range 8).map (fun i => (s.bankHead s.img.pendBank).getD (8 + i) 0) == digest

/-! ### Apply (R45, R46, R464, R467) -/

/-- Words 2 to 7 of every received-signal entry as an apply sets them (R373). -/
def State.freshRx (s : State) : State :=
  (List.range 4096).foldl (fun (s : State) (i : Nat) =>
    let a := 0o700000 + 8 * i
    let st := fld (s.sramAt a) 33 32 == 1
    let s := s.setSram (a + 2) (W (st.toNat <<< 35 + 2 ^ 33))
    (List.range 5).foldl (fun (s : State) (j : Nat) => s.setSram (a + 3 + j) 0) s) s

/-- An island that the tables and registers call for (R46). -/
def State.shouldUse (s : State) (u : Nat) : Bool :=
  if u < 19 then (pointsOf u).any (fun p => wbit (s.sramAt (commitAddr p)) 27)
  else if u == 21 then wbit (s.sramAt 0o600000) 27
  else if u == 23 then s.flag JL_CFG.EN
  else true

/-- Data-plane islands (R18). -/
def dataIslands : List Nat := List.range 20 ++ [23]

/-- A data-plane island that USE marks used is not alive. -/
def State.deadUsed (s : State) : Bool := dataIslands.any (fun i => s.used i && !s.alive i)

/-- An island that the new image does not use is powered off, and its points show as disabled (R46, R121). -/
def State.dropIsland (s : State) (u : Nat) : State :=
  let s := s.putBit SYS_ISTAT.ALIVE u false
  let s := if u == 21 then s.opalIdle else s
  let s := if u < 19 || u == 21 then s.loseCopies u else s
  if u < 19 then s.emptyWords u 13 else s

/-- USE is set from the tables and registers, and the islands without use are powered off. -/
def State.applyUse (s : State) : State :=
  (List.range 29).foldl (fun (s : State) (i : Nat) =>
    let u := s.shouldUse i
    let was := s.used i || s.alive i
    let s := s.putBit SYS_IUSE.USE i u
    if !u && was then s.dropIsland i else s) s

/-- The node leaves the start-up state: SAFE while a cause holds, else STARTMODE (R467). -/
def State.enterStart (s : State) (m : Nat) : State :=
  let s := s.putB SYS_MODE.STARTING false
  let s : State := { s with img := { s.img with safeWait := none } }
  let c := lowestCause s.life.conds
  let s := s.put SYS_MODE.SAFECAUSE c
  if c != 0 then (s.setMode 3).trigNow 1 6 0 (s.reg SYS_MODE) 0 else s.setMode m

/-- The condition of a cause, set without an entry of its own: the apply decides. -/
def State.setCond (s : State) (c : Nat) (b : Bool) : State := { s with life := { s.life with conds := setBit s.life.conds c b } }

/-- The staged registers take effect, in pair order; a host write that would take effect at the same boundary is overridden. -/
def State.applyRegs (s : State) (l : List (Nat × Word)) : State :=
  l.foldl (fun (s : State) (p : Nat × Word) =>
    ({ s with mem := { s.mem with
      pend := s.mem.pend.filter (fun x => !(x.waits && x.addr == p.1 && s.t.usec == 0)) } } : State).confWrite p.1 p.2) s

/-- The pair engine at an apply: after a reset it starts to seek, or the unit is alone (R413, R541). -/
def State.applyPair (s : State) (first resync : Bool) : State :=
  if first then (if s.flag JL_CFG.EN then s.setPstate 1 else s.setPstate 0)
  else if resync && s.flag JL_CFG.EN then s.setPstate 1
  else s

/-- The boundary from which SAFECELL's result for wave W0 is delivered at phase 0: the rank's phases after A (R185). -/
def safeFrom (a c : Nat) : Nat := a + (c / 256 + 4) / 4

/-- The image takes effect (R464). -/
def State.imgApply (s : State) (p : Prep) (parity : Bool) : State :=
  let h := s.bankHead p.bank
  let first := !s.life.applied
  let resync := s.img.resync
  let s : State := { s with life := { s.life with applied := true }, img := { s.img with prep := none, resync := false, ranBefore := false } }
  let s := s.applyRegs p.pairs
  let s := (s.switchOver p.cfg).clearCellForces
  let s : State := { s with bl := { s.bl with parityBad := parity } }
  let s : State := ({ s with tblLock := true } : State).reloadAll true
  let s := (((s.setReg IMG_RUNDIG (digestLow h)).setReg IMG_RUNSEQ (h.getD 1 0)).put IMG_STAT.RUNBANK p.bank).putB IMG_STAT.RUNNING true
  let s := ((s.putB IMG_STAT.PREP false).putB IMG_STAT.PREPCUT false).putB IMG_STAT.INFBAD false
  let s := if p.startup || resync then s else s.putB IMG_STAT.APPLYPEND false
  let s := s.trigWork 1 8 0 (digestLow h) (W p.bank)
  let s := s.freshRx.applyUse.spdRestartAll
  let s : State := { s with img := { s.img with
    startup := if p.startup then none else s.img.startup, other := if p.startup then none else s.img.other
    applyAt := if p.startup || resync then s.img.applyAt else none
    safeCell := if headSafeEn h then some (headSafeCell h) else none } }
  let s := s.openTables.applyPair first resync
  let s := s.raise HST_ISRC.IMG
  if first then
    let s := ((s.setCond 7 false).setCond 1 parity).setCond 3 s.deadUsed
    if headSafeEn h then
      { s with img := { s.img with safeWait := some (headStart h, safeFrom s.t.run (headSafeCell h)) } }
    else s.enterStart (headStart h)
  else
    let s := if parity then s.causeOn 1 else s.causeOff 1
    let s := if s.deadUsed then s else s.causeOff 3
    (if headSafeEn h then s else s.causeOff 5).loBeat.dioDriveAll

/-- The beat that applies a prepared image: the boundary after P, which a standby works on 8 beats later (R468); while a warning
stands, a start-up waits (R546). -/
def State.applyDue (s : State) (parity : Bool) : State :=
  match s.img.prep with
  | some p => if p.step < 4 || s.t.usec != s.lag || s.t.phase != 0 || (p.startup && s.life.warn) then s else s.imgApply p parity
  | none => s

def execImageApply (parity : Bool) (s : State) : Host.Outcome State Fault Refusal :=
  act s (fun s => if s.imgUp then s.prepSteps.applyDue parity else s)

/-- SAFECELL's result for the first wave of the first image is delivered: the node leaves its start-up state. -/
def State.safeFirst (s : State) : State :=
  match s.img.safeWait, s.img.safeCell with
  | some (m, at_), some c => if s.t.run < at_ || s.t.phase != 0 then s else (s.setCond 5 (s.outO c)).enterStart m
  | _, _ => s

/-- Sample SAFECELL at phase 0 of a beat (R467). -/
def State.sampleSafeCell (s : State) : State :=
  match s.img.safeCell with
  | some c =>
    if s.img.safeWait.isSome then s.safeFirst
    else if s.outO c then (if s.holds 5 then s else s.causeOn 5) else if s.holds 5 then s.causeOff 5 else s
  | none => s

def execSafecellFirstResult (s : State) : Host.Outcome State Fault Refusal := act s State.safeFirst

/-! ### Start-up (R469 to R471) -/

/-- Both banks are examined, and one is taken. -/
def State.imgSelect (s : State) : State :=
  let va := s.bankValid 0
  let vb := s.bankValid 1
  let sa := s.bankAt 0 1
  let sb := s.bankAt 1 1
  let s := (s.showBank 0 va sa).showBank 1 vb sb
  let s := (s.putB IMG_STAT.EQSEQ (va && vb && sa == sb)).putB IMG_STAT.NOVALID (!va && !vb)
  if !va && !vb then s.causeOn 7
  else
    let b := if va && vb then (if sa.toNat < sb.toNat then 1 else 0) else if vb then 1 else 0
    { s with img := { s.img with startup := some b, other := if va && vb then some (1 - b) else none } }

/-! ### The key store (R473, R474) -/

/-- A write of IMG_KCHREQ: the standing challenge lapses. -/
def State.keyChalRequest (s : State) : State :=
  if s.img.lockAt.isSome then s.put IMG_KRES.RESULT 4
  else { s with img := { s.img with chal := none, chalReq := some s.t.run } }

def execImgKeyChallengeRequest (w : Word) (s : State) : Host.Outcome State Fault Refusal :=
  act s (fun s => if s.imgUp then (s.consume IMG_KCHREQ w).keyChalRequest else s)

/-- SEQ of the key in force, 0 without one. -/
def State.keySeq (s : State) : Word := match s.keyCopy with | some b => s.mramAt (keyBase b + 1) | none => 0

/-- The challenge asked for is placed. -/
def State.keyChalPlace (s : State) : State :=
  if s.img.chalReq.isNone || !s.imgUp then s
  else
    let s := s.drawChallenge (IMG_KCHAL 0) s.keySeq.toNat (s.reg ONX_PCC).toNat
    { s with img := { s.img with chalReq := none, chal := some s.t.run } }

def execImgKeyChallengeReady (s : State) : Host.Outcome State Fault Refusal := act s State.keyChalPlace

/-- A keyed SET (1) or REMOVE (2) waits for the round boundary. -/
def State.keyCommand (s : State) (w : Word) : State :=
  if (w == 1 || w == 2) && s.imgUp then { s with img := { s.img with keyCmd := w.toNat } } else s

def execKeySet (s : State) : Host.Outcome State Fault Refusal := act s (fun s => s.keyCommand 1)
def execKeyRemove (s : State) : Host.Outcome State Fault Refusal := act s (fun s => s.keyCommand 2)

/-- A key command ends: IMG_KNEWw is cleared. -/
def State.keyEnd (s : State) (r : Nat) : State :=
  let s := (List.range 8).foldl (fun (s : State) (i : Nat) => s.setReg (IMG_KNEW i) 0) s
  let s := s.put IMG_KRES.RESULT r
  (if r == 0 then s else s.incMod IMG_KRES.TRIES).raise HST_ISRC.IMG

/-- Words of a key copy (R473). -/
def keyWords (seq : Word) (key : List Word) : List Word :=
  let w := keyMagic :: seq :: key ++ List.replicate 53 (0 : Word)
  w ++ [W (crc32c w)]

/-- Write the copy that does not hold the key; REMOVE writes MAGIC zero into both. -/
def State.keyStore (s : State) (set : Bool) (key : List Word) : State :=
  let s :=
    if set then
      let b := match s.keyCopy with | some b => 1 - b | none => 0
      s.setMramWords (keyBase b) (keyWords (s.keySeq + 1) key)
    else (s.setMram (keyBase 0) 0).setMram (keyBase 1) 0
  s.showKey

/-- A session, commit, preparation or recorder clear runs (R474). -/
def State.keyBusy (s : State) : Bool :=
  s.flag IMG_STAT.SESSION || s.get IMG_CRES.STEP != 0 || s.flag IMG_STAT.PREP || s.onx.clear.isSome

/-- The round boundary of a key command. -/
def State.keyRun (s : State) : State :=
  if s.img.keyCmd == 0 || s.t.usec != 0 then s
  else
    let set := s.img.keyCmd == 1
    let s : State := { s with img := { s.img with keyCmd := 0 } }
    let new := (List.range 8).map (fun i => s.reg (IMG_KNEW i))
    if s.keyBusy then s.keyEnd 5
    else if s.img.lockAt.isSome then s.keyEnd 4
    else if set && new.all (· == 0) then s.keyEnd 6
    else match s.recKey with
      | none => if !set then s.keyEnd 6 else if s.mode != 2 then s.keyEnd 3 else (s.keyStore true new).keyEnd 0
      | some key =>
        if s.img.chal.isNone || s.roundsPast s.img.chal 64 then s.keyEnd 1
        else
          let s : State := { s with img := { s.img with chal := none } }
          let msg := s.regBytes (IMG_KCHAL 0) ++ (if set then s.regBytes (IMG_KNEW 0) else List.replicate 32 (0 : Byte))
          if s.regBytes (IMG_KRESP 0) != hmacSha256 key msg then
            let n := s.img.badRun + 1
            ({ s with img := { s.img with badRun := if n ≥ 3 then 0 else n, lockAt := if n ≥ 3 then some s.t.run else none } } : State).keyEnd 2
          else (({ s with img := { s.img with badRun := 0 } } : State).keyStore set new).keyEnd 0

def execKeyCommandRun (s : State) : Host.Outcome State Fault Refusal := act s (fun s => if s.imgUp then s.keyRun else s)

/-- A challenge has stood for 64 rounds. -/
def State.keyChalLapse (s : State) : State :=
  if s.roundsPast s.img.chal 64 then { s with img := { s.img with chal := none } } else s

def execImgKeyChallengeLapse (s : State) : Host.Outcome State Fault Refusal := act s State.keyChalLapse

/-- 600 rounds of lock-out have passed. -/
def State.keyLockoutEnd (s : State) : State :=
  if s.roundsPast s.img.lockAt 600 then { s with img := { s.img with lockAt := none } } else s

def execImgKeyLockoutEnd (s : State) : Host.Outcome State Fault Refusal := act s State.keyLockoutEnd

/-- A challenge asked for is placed within a round. -/
def State.keyChalOver (s : State) : State := if s.roundsPast s.img.chalReq 1 then s.keyChalPlace else s

/-! ### The controller's time -/

/-- A round boundary of the controller: the key command, the commit and the preparation that wait for it. -/
def State.imgRound (s : State) : State := s.keyRun.imgCommitRun.prepDue

/-- What the controller's time has brought: words of the queue, of a preparation and of a commit, the end of these and of a
verification, an apply at its beat, challenges. -/
def State.imgSweep (s : State) : State :=
  if !s.imgUp then s
  else
    let s := (s.imgDrain.prepSteps.applyDue false).imgRound
    let s := if s.img.pausedAt.isSome then s else s.imgSteps.imgCommitEnd false
    s.verifyOver.keyChalOver.keyChalLapse.keyLockoutEnd

end Sys2Proof.Machine
end

