-- ==== Sys2Proof/Machine/Pair.lean ====
section
/-! DEFINITION. The Jasper pair (chapter 13): crosslink, witness, comparison, giving up and taking control, referee, partition,
swaps, joining, sleep. -/
namespace Sys2Proof.Machine

open Sys2Proof

/-! ### Shared operations -/

/-- The engine runs: enabled, past the first image apply, its island alive, not asleep (R380, R415). -/
def State.pairOn (s : State) : Bool :=
  s.flag JL_CFG.EN && s.life.applied && !s.img.resync && s.pstate != 9 && s.alive 23

/-- A lane delivers frames. -/
def State.laned (s : State) : Bool := s.flag JL_STAT.LNKA || s.flag JL_STAT.LNKB

/-- Enter a pair state with its outputs. -/
def State.enter (s : State) (p : Nat) : State := (s.setPstate p).redrive

/-- SHA-256 words of the image in force. -/
def State.runDigest (s : State) : List Word := ((s.bankHead (s.get IMG_STAT.RUNBANK)).drop 8).take 8

/-- A JOIN record of the image in force. -/
def State.sendJoin (s : State) : State := s.sendRec ⟨15, 0, 0, s.runDigest⟩

/-- Become a standby that copies, with the active's epoch (R412, step 1); it must have the replay from this beat on. -/
def State.copyState (s : State) : State :=
  let s := s.refEnd.replayClear
  let s := match s.jl.link.rx with | some f => if f.pstate == 2 then s.setReg JL_EPOCH f.epoch else s | none => s
  let s := (s.enter 3).putB JL_STAT.PART false
  { s with jl := { s.jl with joinStep := 1, streamAt := 0, takeAt := none, deadAt := none, replayAt := s.t.run } }

/-- Become a standby that copies; the image digests are exchanged. -/
def State.copying (s : State) : State := s.copyState.sendJoin

/-- Set a cause and enter a state. -/
def State.leave (s : State) (cause p : Nat) : State := ((s.setCause cause).enter p).refEnd

/-! ### The engine digest and the comparison of digests (R75, R397) -/

/-- The CRC-32C over the alarm points and Opal's status, each field its most significant bit first. -/
def State.engineDigest (s : State) : Nat :=
  crc32cBits ((List.range 1024).flatMap (fun n => msbBits 3 (s.almState n) ++ [s.flag (ALM_PST.FO n)])
    ++ msbBits 15 (fld (s.view OPL_STAT) 35 21) ++ msbBits 24 (fld (s.reg OPL_CALLED) 23 0))

/-- The beat of work just done goes into the list of own digests. -/
def State.keepDigest (s : State) (beat : Word) : State :=
  let d : RepBeat := ⟨beat, true, [], latticeDigest s.bl.digDone, s.engineDigest, s.reg TIM_MDIG, s.get JL_PSEQ.PSEQ⟩
  s.setLink { s.jl.link with digs := (d :: s.jl.link.digs).take 32 }

def State.ownDigest (s : State) (beat : Word) : Option RepBeat := s.jl.link.digs.find? (fun d => d.beat == beat)

/-- The mode digests of a beat agree or differ (R75); the issuer re-arms on a difference that no arm answers yet (R78). -/
def State.pairMismatch (s : State) (beat : Word) (differ : Bool) : State :=
  let s := (s.putB TIM_MSTAT.PAIRMM differ).putMismatch
  let answered := (List.range 16).any (fun n =>
    s.get (TIM_SLOT_W1.ACTION n) == 0 && [1, 2, 5].contains (s.get (TIM_SLOT_W1.STATE n))
      && (s.reg (TIM_SLOT_W0 n) - beat).toNat < 2 ^ 35)
  if differ && !answered then s.reissue else s

/-- A digest mismatch of a beat (R397): in PROBATION the joiner fails, in JOINED the referee starts with this beat as D (R402). -/
def State.mismatch (s : State) (beat : Word) (lat eng : Bool) : State :=
  let s := ((s.setReg JL_MMB beat).putB JL_MMK.LAT lat).putB JL_MMK.ENG eng
  if s.pstate == 4 then s.leave 9 8
  else if s.pstate == 5 && s.jl.referee.isNone then
    let s := (s.putB JL_STAT.REF true).inc JL_REFST.RUNS
    { s with jl := { s.jl with referee := some ⟨s.t.beat, s.t.run, s.t.run, false, false, []⟩ } }
  else s

/-- The standby's comparison of beat B at phase 0 of its beat B + 9, unless the active has released (R397, R401). -/
def State.compareDigests (s : State) : State :=
  let b := s.t.beat - 9
  if (s.pstate != 4 && s.pstate != 5) || s.jl.takeAt.isSome then s
  else match s.ownDigest b, s.jl.link.replay.find? (fun r => r.beat == b) with
    | some o, some r =>
      let mm := o.mdig != r.mdig
      let s := s.setReg TIM_MPART r.mdig
      let s := if mm == s.flag TIM_MSTAT.PAIRMM && !mm then s else s.pairMismatch b mm
      if mm then s
      else if o.ldig == r.ldig && o.edig == r.edig then s
      else s.mismatch b (o.ldig != r.ldig) (o.edig != r.edig)
    | _, _ => s

/-! ### The crosslink frame (R386 to R390) -/

/-- Words that a list of records takes. -/
def recWords (l : List JRec) : Nat := (l.map (fun r => 1 + r.words.length)).sum

/-- The records that fit in `n` words, and the rest. -/
def takeRecs : Nat → List JRec → List JRec × List JRec
  | _, [] => ([], [])
  | n, r :: l => if 1 + r.words.length ≤ n then (let x := takeRecs (n - 1 - r.words.length) l; (r :: x.1, x.2)) else ([], r :: l)

/-- The frame that leaves in this beat, describing the beat of work before. -/
def State.frame (s : State) : JFrame × List JRec :=
  let l := s.jl.link
  let (now, rest) := takeRecs 240 (l.spill ++ l.outRecs)
  let work := s.workBeat - 1
  let d := s.ownDigest work
  let rel := s.pstate == 8 && s.jl.relBeat.isSome
  ({ kind := if s.pstate == 2 then 1 else 2
     unit := s.unit
     pstate := s.pstate
     giveup := rel
     cont := !l.spill.isEmpty
     sleep := s.jl.sleepSet
     epoch := s.reg JL_EPOCH
     beat := work
     txt := W ((s.t.beat.toNat % 2 ^ 24) <<< 12)
     echoTx := l.rxTxt
     echoRx := l.rxArr
     mdig := s.reg TIM_MDIG
     ldig := (d.map (·.ldig)).getD 0
     edig := (d.map (·.edig)).getD 0
     stv := s.jl.stepAnn.isSome
     step := s.jl.stepAnn.getD 0
     rel := if rel then s.jl.relBeat.getD 0 else 0
     ddf := (s.pstate == 4 || s.pstate == 5) &&
       ((List.range 4).any (fun w => s.reg (JL_DDIS w) != 0) || s.reg JL_DDISD != 0 || s.reg JL_DDISS != 0)
     pseq := s.get JL_PSEQ.PSEQ
     recs := now }, rest)

/-- A frame leaves on every lane with block lock; `hurt` says that one of its words reaches it with a tag that fails, and then it is
not sent (R35, step 4). -/
def State.sendFrame (s : State) (hurt : Bool) : State :=
  let l := s.jl.link
  if hurt || !(l.lockA || l.lockB) then s.setLink { l with outRecs := [], spill := [] }
  else
    let (f, rest) := s.frame
    let s := if f.cont then s.inc JL_LCNT.SPILL else s
    s.setLink { l with sent := some f, outRecs := [], spill := rest }

/-- Take a frame into the replay: one marked CONT continues the beat before; one not marked leaves the beats before it
complete. -/
def addReplay (l : List RepBeat) (f : JFrame) : List RepBeat :=
  let b : RepBeat := ⟨f.beat, false, if f.cont then [] else f.recs, f.ldig, f.edig, f.mdig, f.pseq⟩
  let old := l.map (fun r =>
    if !f.cont then { r with complete := true }
    else if r.beat == f.beat - 1 then { r with recs := r.recs ++ f.recs }
    else { r with complete := true })
  b :: (old.filter (fun r => r.beat != f.beat)).take 31

/-- ns of a TXT; the difference of two, modulo the span of TXT, signed. -/
def txtNs (w : Word) : Int := (fld w 35 12 * 1000 + fld w 11 0 : Nat)
def txtDiff (a b : Word) : Int :=
  let m : Int := 2 ^ 24 * 1000
  let d := (txtNs a - txtNs b) % m
  if d ≥ m / 2 then d - m else d

/-- Link delay and, in a standby, the offset to the partner (R394). -/
def State.measure (s : State) (f : JFrame) (arr : Word) : State :=
  if f.echoTx == 0 then s
  else
    let there := txtDiff f.echoRx f.echoTx
    let back := txtDiff arr f.txt
    let s := s.put JL_LINK.DELAY (satAt 4095 ((there + back) / 2).toNat)
    if s.get TIM_DSTAT.SRC == 3 then s.correct ((back - there) / 2) else s

/-- TRUST of the partner, from the node status it records. -/
def frameTrust (f : JFrame) (was : Bool) : Bool :=
  f.recs.foldl (fun b r => if r.rtype == 7 then wbit (r.words.headD 0) 4 else b) was

/-- Carried commands that the partner will never apply: the epochs have come to differ (R404). -/
def State.dropPending (s : State) (f : JFrame) : State :=
  if s.replays && f.epoch != s.reg JL_EPOCH then
    ({ s with alm := { s.alm with asked := [] }, opl := { s.opl with asked := [] } } : State).putB ALM_CRES.PEND false
      |>.putB OPL_CRES.PEND false
  else s

/-- Two units in ACTIVE: the one with the smaller epoch releases at once, unit 1 where they are equal (R409). -/
def State.epochLoses (s : State) (larger equal : Bool) : State := if larger || (equal && s.unit == 1) then s.leave 13 8 else s

/-- What a checked frame's pair state brings about (R401, R409, R412, R413). -/
def State.heed (s : State) (f : JFrame) : State :=
  match s.pstate with
  | 1 =>
    if f.pstate == 2 then
      (if s.jl.joinStep == 0 then ({ s with jl := { s.jl with joinStep := 1 } } : State).sendJoin else s)
    else if f.pstate == 1 && s.unit == 0 then s.becomeActive
    else s
  | 2 => if f.pstate == 2 then s.epochLoses ((s.reg JL_EPOCH).toNat < f.epoch.toNat) (s.reg JL_EPOCH == f.epoch) else s
  | 5 =>
    if f.giveup && s.jl.takeAt.isNone then
      let left := (f.rel + 8 - s.t.beat).toNat
      { s with jl := { s.jl with takeAt := some (s.t.run + (if left < 2 ^ 35 then max 1 left else 1)), takeFar := false } }
    else s
  | 6 | 7 => if f.pstate == 2 then s.copying else s
  | _ => s

/-- A step that the active announces is applied at the next boundary (R59). -/
def State.heedStep (s : State) (f : JFrame) : State :=
  if s.replays && f.stv then { s with t := { s.t with disc := { s.t.disc with stepPend := some f.step } } } else s

/-- A unit awake again resumes its partner's discipline and joins (R412, R417). -/
def State.awake (s : State) : State := ({ s with jl := { s.jl with wake := 0, replayAt := s.t.run } } : State).sendJoin

/-- A unit waking takes frames within its window; in the wide search it measures its offset with one, steps its node time by it at
the next round boundary, and takes frames from then on (R417). The frame of work beat B leaves at B + 1. -/
def State.heedWake (s : State) (f : JFrame) : State × Bool :=
  let d : Int := signed 36 (f.beat - s.t.beat).toNat
  match s.jl.wake with
  | 0 => (s, true)
  | 1 => if d.natAbs ≤ 200 then (s.awake, true) else (s, false)
  | 2 => ({ s with jl := { s.jl with wake := 3 }, t := { s.t with disc := { s.t.disc with stepPend := some (d + 1) } } }, false)
  | _ => (s, false)

/-- The discrete points whose command and field the pair compares: those of JL_REFD and the heartbeat point (R402, R403, R407). -/
def State.refPoints (s : State) : List Nat :=
  (List.range 32).filter (fun n => s.bitOf JL_REFD.MASK n || (s.flag JL_CFG.HBEN && s.get JL_CFG.HBPT == n))

/-- The command of a loop output is live: its setpoint is at least 1000 µA (R402). -/
def State.loopLive (s : State) (n : Nat) : Bool := (s.loOf n).setpt ≥ 1000000

/-- One output of the referee in one beat (R402): `act` says that this unit is the active; `own` and `other` are the units' commands,
`live` and `olive` what they sense. A sample that follows a change of either command too soon is not counted. -/
def RefOut.sample (o : RefOut) (run : Nat) (act own other live olive : Bool) : RefOut :=
  let changed := if o.own != own || o.other != other then some run else o.changed
  let o := { o with own := own, other := other, changed := changed }
  let quiet := match changed with | some b => b + (if o.key < 32 then 4 else 100000) < run | none => true
  if !quiet then o
  else
    { o with
      n := o.n + 1
      fieldDiff := o.fieldDiff + (live != olive).toNat
      actDiff := o.actDiff + (if act then own != live else other != olive).toNat
      stbDiff := o.stbDiff + (if act then other != olive else own != live).toNat }

/-- The samples of both units in one beat: the partner's from its record, this unit's own as they stand on its arrival. -/
def State.refCount (s : State) (r : Referee) (words : List Word) : Referee :=
  let w := fun i => (words.getD i 0).toNat
  let one := fun (k : Nat) =>
    let own := if k < 32 then s.dioCmd k else s.loopLive (k - 32)
    let live := if k < 32 then (s.dioOf k).raw else s.flag (LO_RB.LIVE (k - 32))
    let other := if k < 32 then bit (w 0) k else bit (w 2) (k - 16)
    let olive := if k < 32 then bit (w 1) k else bit (w 2) (k - 32)
    let o := (r.outs.find? (fun x => x.key == k)).getD ⟨k, 0, 0, 0, 0, own, other, none⟩
    o.sample s.t.run (s.pstate == 2) own other live olive
  { r with outs := (s.refPoints ++ (setIdx (s.get JL_REFL.MASK) 16).map (32 + ·)).map one }

/-- A run samples: its window is open and, after a swap, its first beat has come. -/
def State.sampling (s : State) (r : Referee) : Bool := r.open_ && r.at_ ≤ s.t.run

/-- REFS records of a frame. -/
def State.heedRefs (s : State) (f : JFrame) : State :=
  match f.recs.find? (fun r => r.rtype == 13) with
  | none => s
  | some x =>
    let up := fun (r : Referee) => if s.sampling r then s.refCount r x.words else r
    { s with jl := { s.jl with referee := s.jl.referee.map up, swapChk := s.jl.swapChk.map up } }

/-- A frame the partner could have sent (R388, R389). -/
def frameOk (f : JFrame) : Bool :=
  (f.kind == 1 || f.kind == 2) && f.pstate ≤ 9 && f.recs.all (fun r => 1 ≤ r.rtype && r.rtype ≤ 15) && recWords f.recs ≤ 243

/-- A copy discarded on a lane. -/
def State.frameBad (s : State) (lane : Bool) : State := s.inc (if lane then JL_LINK.CRCB else JL_LINK.CRCA)

/-- The frame belongs to the replay: the active sent it, or the unit that has released sends its last beat of work (R390, R401). -/
def JFrame.replayed (f : JFrame) : Bool := f.kind == 1 || (f.giveup && f.beat + 1 == f.rel)

/-- The partner's state as a frame tells it: a partner whose SLEEP frame is of the round before is asleep (R415). -/
def State.framePartner (s : State) (f : JFrame) : Nat :=
  if f.sleep && s.t.usec < (s.t.beat - f.beat).toNat then 9 else f.pstate

/-- The active's comparison of the mode digests of a beat (R75). -/
def State.heedDigest (s : State) (f : JFrame) : State :=
  if s.pstate == 2 && (f.pstate == 4 || f.pstate == 5) then
    match s.ownDigest f.beat with
    | some o =>
      let s := s.setReg TIM_MPART f.mdig
      if o.mdig != f.mdig || s.flag TIM_MSTAT.PAIRMM then s.pairMismatch f.beat (o.mdig != f.mdig) else s
    | none => s
  else s

/-- A frame is taken; into the replay without carried items of another epoch (R404). -/
def State.takeFrame (s : State) (f : JFrame) (arr : Word) : State :=
  let s := s.setLink { s.jl.link with rx := some f, rxTxt := f.txt, rxArr := arr }
  let s := (s.putB JL_STAT.PART false).setPartner (s.framePartner f)
  let s : State := { s with
    jl := { s.jl with partSleep := if f.sleep then some s.t.run else none }
    t := { s.t with disc := { s.t.disc with partnerTrust := frameTrust f s.t.disc.partnerTrust } } }
  let s := if s.pstate == 2 && s.jl.referee.isSome && f.pstate != 5 then s.refEnd else s
  let g := if f.epoch == s.reg JL_EPOCH then f else { f with recs := f.recs.filter (fun x => x.rtype != 9 && x.rtype != 10) }
  let s := if s.replays && f.replayed then s.setLink { s.jl.link with replay := addReplay s.jl.link.replay g } else s
  let s := ((s.dropPending f).heedStep f).heedDigest f
  ((s.heed f).heedRefs f).discipline.measure f arr

/-- A copy on a lane; of the two copies the first that passes its checks is taken (R387). With the state, whether it was. -/
def State.frameRx (s : State) (lane : Bool) (f : JFrame) (arr : Word) : State × Bool :=
  let l := s.jl.link
  if !s.pairOn || !(if lane then l.lockB else l.lockA) then (s, false)
  else if !frameOk f then (s.frameBad lane, false)
  else
    let heard := fun (s : State) =>
      let l := s.jl.link
      (s.setLink (if lane then { l with lastB := some s.t.run } else { l with lastA := some s.t.run })).putB
        (if lane then JL_STAT.LNKB else JL_STAT.LNKA) true
    match s.heedWake f with
    | (t, false) => (if t.jl.wake == 3 then heard t else t, false)
    | (t, true) =>
      let again := (s.jl.link.rx.map (fun r => (r.beat, r.txt))) == some (f.beat, f.txt)
      if again then (heard t, false) else ((heard t).takeFrame f arr, true)

/-- A lane's PCS gains or loses block lock (R386). -/
def execCrosslinkBlockLock (lane lock : Bool) (s : State) : Host.Outcome State Fault Refusal :=
  act s (fun s =>
    let l := s.jl.link
    let s := s.setLink (if lane then { l with lockB := lock } else { l with lockA := lock })
    if lock then s else s.putB (if lane then JL_STAT.LNKB else JL_STAT.LNKA) false)

def execCrosslinkFrameDiscard (lane : Bool) (s : State) : Host.Outcome State Fault Refusal :=
  act s (fun s => if s.pairOn then s.frameBad lane else s)

/-! ### Records (R402, R404, R412, R468) -/

/-- A carried item is rejected (R404). -/
def State.staleItem (s : State) : State := (s.inc JL_XRES.STALES).putB JL_XRES.STALE true

/-- A record of the beat of work to come, brought by itself (R390). -/
def State.replayAdd (s : State) (x : JRec) : State :=
  let l := s.jl.link.replay
  let b := s.workBeat + 1
  if l.any (fun r => r.beat == b) then
    s.setLink { s.jl.link with replay := l.map (fun r => if r.beat == b then { r with recs := r.recs ++ [x] } else r) }
  else s.setLink { s.jl.link with replay := ⟨b, false, [x], 0, 0, 0, 0⟩ :: l }

/-- A command that reaches an active from its standby: as if written to it (R232, R256). -/
def State.cmdRec (s : State) (opl keyed : Bool) (w epoch : Word) : State :=
  if epoch != s.reg JL_EPOCH then s.staleItem
  else if s.pstate != 2 then s
  else if opl then s.oplQueue ⟨w, keyed, 3, 0, 0, 0⟩
  else s.almQueue ⟨w, keyed, 3, 0, 0, 0⟩

/-- In a standby a command record belongs to a beat of work. -/
def execCmdRecordRx (opl keyed : Bool) (w epoch : Word) (s : State) : Host.Outcome State Fault Refusal :=
  act s (fun s =>
    if !s.pairOn then s
    else if s.replays && epoch == s.reg JL_EPOCH then s.replayAdd ⟨9, 0, opl.toNat <<< 23 + keyed.toNat <<< 22, [w]⟩
    else s.cmdRec opl keyed w epoch)

/-- ISSUER of an arm that the partner carries: of a request heard here, its sender's (R73). -/
def State.armIssuer (s : State) (target cmd : Word) : Option Nat :=
  (s.t.heardIss.find? (fun x => x.1 == target && x.2.1 == cmd)).map (·.2.2)

/-- An arm from the partner (R69, R71, R79, R404). One of network scope that this node's standby was given goes on from the active to
the domain. -/
def State.armRec (s : State) (target arg cmd epoch : Word) : State :=
  if s.pstate < 2 || 5 < s.pstate then s
  else if epoch != s.reg JL_EPOCH then s.armResult 7 0
  else
    let iss := s.armIssuer target cmd
    let a : Arm := ⟨target, arg, fld cmd 35 32, fld cmd 31 30, fld cmd 29 14, iss.getD s.ownIssuer, true, 8, false⟩
    let r := s.arm a
    if r.2 && a.scope == 2 && iss.isNone && s.pstate == 2 then r.1.requestArm a else r.1

def execArmRecordRx (target arg cmd epoch : Word) (s : State) : Host.Outcome State Fault Refusal :=
  act s (fun s => if s.pairOn then s.armRec target arg cmd epoch else s)

/-- Words of the table stream (R412): addresses in the order of the stream, the registers after the tables. -/
def streamTables : List (Nat × Nat) :=
  [(0o100000, 8192), (0o200000, 16384), (0o300000, 512), (0o310000, 512), (0o320000, 256),
   (0o600000, 16), (0o600100, 128), (0o600300, 64), (0o601000, 1024)]

/-- Address of a place in the table stream. -/
def streamAddr : List (Nat × Nat) → Nat → Option Nat
  | [], _ => none
  | (a, n) :: r, i => if i < n then some (a + i) else streamAddr r (i - n)

/-- Words of tables in the stream. -/
def streamWords : Nat := 27088

/-- Read and write registers of the blocks of R396, rising. -/
def carriedRegs : List Nat :=
  (rowsFI ++ rowsBL ++ rowsALM ++ rowsOPL ++ rowsLO ++ rowsDIO ++ rowsSPD).flatMap (fun r =>
    if r.rw == 0 then []
    else (List.range r.n1).flatMap (fun i => (List.range r.n2).map (fun j => r.base + i * r.s1 + j * r.s2)))

/-- The word at a place of the stream, and its arrival. -/
def State.streamWord (s : State) (i : Nat) : Word :=
  match streamAddr streamTables i with
  | some a => s.sramAt a
  | none => s.reg (carriedRegs.getD (i - streamWords) 0)

def State.streamTake (s : State) (i : Nat) (w : Word) : State :=
  match streamAddr streamTables i with
  | some a => s.setSram a w
  | none => match carriedRegs[i - streamWords]? with | some a => s.confWrite a w | none => s

/-- State of a cell loaded from its word, laid out as its mirror word (R195). -/
def State.cellTake (s : State) (c : Nat) (w : Word) : State :=
  match s.bl.cfg.get? c with
  | none => s
  | some cf =>
    let st := s.cellOf c
    let oa := (wbit w 35, wbit w 34)
    let n := fld w 23 0
    let st := { st with hist := List.replicate 17 oa, own := oa.1, ownA := oa.2, first := false, n := fld w 31 24 }
    let st :=
      match cf.typ with
      | 1 => { st with res := oa.1 }
      | 2 | 7 | 11 => { st with timer := n }
      | 6 => { st with timer := if n == 0 then timedLen cf.p0 else n - 1 }
      | 10 => { st with cnt := n }
      | 9 => { st with cap := if oa.2 then some (fld w 31 24, n) else none }
      | _ => st
    { s with bl := { s.bl with cells := s.bl.cells.set c st } }

/-- Opal's state as words, and its arrival. -/
def State.oplWords (s : State) : List Word :=
  [s.reg OPL_STAT, s.reg OPL_CALLED, s.reg OPL_DUTY, s.reg OPL_AWAY, W s.opl.time, W s.opl.dmTime,
    W (s.opl.last <<< 8 + s.opl.pri)] ++ (s.opl.accepted.take 56).map W

def State.oplTake (s : State) (l : List Word) : State :=
  let w := fun i => l.getD i 0
  let s := (((s.setReg OPL_STAT (w 0)).setReg OPL_CALLED (w 1)).setReg OPL_DUTY (w 2)).setReg OPL_AWAY (w 3)
  let acc := (l.drop 7).map (·.toNat)
  { s with opl := { s.opl with
      time := (w 4).toNat, dmTime := (w 5).toNat, last := fld (w 6) 35 8, pri := fld (w 6) 7 0, accepted := acc, offers := acc } }

/-- ISSUER of the mode change armed with pair or network scope. -/
def State.modeIssuer (s : State) : Nat :=
  (((List.range 16).find? (fun n => s.armedSlot n && s.get (TIM_SLOT_W1.ACTION n) == 0 && s.get (TIM_SLOT_W1.SCOPE n) != 0)).map
    (fun n => s.t.slotIss.getD n 0)).getD 0

/-- The pair- and network-scope launch slots as words, with PSEQ and the ISSUER of a mode change among them, and their arrival: a slot
takes the same place in the joining unit. -/
def State.slotRec (s : State) (n : Nat) : List Word :=
  if s.get (TIM_SLOT_W1.SCOPE n) == 0 then [0, 0, 0] else [s.reg (TIM_SLOT_W0 n), s.reg (TIM_SLOT_W1 n), s.t.slotArg.getD n 0]
def State.launchWords (s : State) : List Word :=
  (List.range 16).flatMap s.slotRec ++ [W (s.get JL_PSEQ.PSEQ), W s.modeIssuer]

def State.launchTake (s : State) (l : List Word) : State :=
  let w := fun i => l.getD i 0
  let s : State := (List.range 16).foldl (fun (s : State) (n : Nat) =>
    if w (3 * n + 1) == 0 then s
    else
      let s := (s.setReg (TIM_SLOT_W0 n) (w (3 * n))).setReg (TIM_SLOT_W1 n) (w (3 * n + 1))
      let s : State := { s with t := { s.t with
        slotArg := s.t.slotArg.set n (w (3 * n + 2)), slotIss := s.t.slotIss.set n (w 49).toNat } }
      if s.armedSlot n && s.get (TIM_SLOT_W1.ACTION n) == 0 then
        (s.putB SYS_MODE.PEND true).put SYS_MODE.PMODE (fld (w (3 * n + 2)) 1 0)
      else s) s
  s.put JL_PSEQ.PSEQ (w 48).toNat

/-- An alarm point's register arrives, and what its state tells of the point's overlays; bits 26:22 stay the unit's own. -/
def State.pointTake (s : State) (n : Nat) (w : Word) : State :=
  let s := s.setReg (ALM_PST n) (W (setBits w.toNat 26 22 (fld (s.reg (ALM_PST n)) 26 22)))
  let st := s.almState n
  let a := s.almOf n
  if a.cache.words.isEmpty then s
  else s.setAlm n { a with shelved := st == 4, oos := st == 6, held := st == 5 && s.get (ALM_PST.BWHY n) == 2 }

/-- A STATE record loads a joining unit. -/
def State.stateRec (s : State) (sec idx : Nat) (l : List Word) : State :=
  if s.pstate != 3 then s
  else match sec with
    | 0 => l.zipIdx.foldl (fun (s : State) (p : Word × Nat) => s.cellTake (idx + p.2) p.1) s
    | 1 => l.zipIdx.foldl (fun (s : State) (p : Word × Nat) =>
        if idx + p.2 < 1024 then s.pointTake (idx + p.2) p.1 else s) s
    | 2 => s.oplTake l
    | 3 =>
      let s := s.launchTake l
      { s with jl := { s.jl with joinStep := 6 } }
    | 4 =>
      let s := l.zipIdx.foldl (fun (s : State) (p : Word × Nat) => s.streamTake (idx + p.2) p.1) s
      { s with jl := { s.jl with streamAt := max s.jl.streamAt (idx + l.length) } }
    | _ => s

def execStateRecordRx (sec : Fin 16) (idx : BitVec 16) (l : List Word) (s : State) : Host.Outcome State Fault Refusal :=
  act s (fun s => if s.pairOn then s.stateRec sec.val idx.toNat l else s)

/-- Words of a digest. -/
def digestWords (d : BitVec 256) : List Word := (List.range 8).map (fun i => W (bits d.toNat (255 - 32 * i) (224 - 32 * i)))

/-- The modes of joiner and active are the same (R412, step 2). -/
def State.sameMode (s : State) : Bool := match s.jl.link.rx with | some f => fld f.mdig 35 34 == s.mode | none => true

/-- Step 2 of R412 in the joiner: a local change to the active's mode, with the active's TAG and ISSUER. -/
def State.joinMode (s : State) : State :=
  match s.jl.link.rx with
  | none => s
  | some f =>
    if s.sameMode then { s with jl := { s.jl with joinStep := 3, streamAt := 0 } }
    else
      let far := 1000000 - s.t.usec ≥ 8
      let a : Arm :=
        ⟨s.boundaryAhead (if far then 1 else 2), W (fld f.mdig 35 34), 0, 0, fld f.mdig 31 16, fld f.mdig 15 0, false, 8, false⟩
      let s := (s.arm a).1
      { s with jl := { s.jl with joinStep := 2, streamAt := 0 } }

/-- The active prepares an image: the standby prepares the same one, or leaves step (R468). -/
def State.joinImage (s : State) (d : List Word) : State :=
  if s.pendIs d then s.prepare s.img.pendBank false
  else if s.pstate == 3 && d == s.runDigest then s
  else s.leave 12 1

/-- A JOIN record: the image digests are compared. -/
def State.joinRec (s : State) (d : List Word) : State :=
  let same := d == s.runDigest
  match s.pstate with
  | 1 => if same then s.copyState.joinMode else s.setCause 12
  | 2 =>
    let s := s.sendJoin
    if same then
      let s := s.setLink { s.jl.link with told := RepIn.none }
      { s with jl := { s.jl with joinStep := if s.sameMode then 3 else 2, streamAt := 0 } }
    else s
  | 3 => if s.jl.joinStep == 1 then (if same then s.joinMode else s.leave 12 1) else s.joinImage d
  | 4 | 5 => s.joinImage d
  | _ => s

def execJoinRecordRx (digest : BitVec 256) (s : State) : Host.Outcome State Fault Refusal :=
  act s (fun s => if s.pairOn then s.joinRec (digestWords digest) else s)

/-! ### The referee (R402) -/

/-- The active learns of a mismatch that its standby detected at beat D: it checks itself. -/
def State.refStart (s : State) (d : Word) : State :=
  if s.pstate != 2 || s.get JL_STAT.PARTNER != 5 || s.jl.referee.isSome then s
  else
    let s := (s.putB JL_STAT.REF true).inc JL_REFST.RUNS
    { s with jl := { s.jl with referee := some ⟨d, s.t.run - (s.t.beat - d).toNat, s.t.run, false, false, []⟩ } }

/-- The verdict that the counted samples give. -/
def verdictOf (l : List RefOut) : Nat :=
  let rem := l.filter (fun o => 2 * o.fieldDiff ≤ o.n)
  if rem.isEmpty then 4
  else if rem.any (fun o => 2 * o.actDiff > o.n) then 3
  else if rem.any (fun o => 2 * o.stbDiff > o.n) then 2
  else 1

/-- A verdict of the run begun at D, and its consequence. -/
def State.verdict (s : State) (v : Nat) : State :=
  let d := ((s.jl.referee.map (·.d)).getD 0)
  let s := s.put JL_REFST.VERDICT v
  let s := s.trigNow 6 3 0 (s.reg JL_REFST) (s.reg JL_MMB)
  let s := s.refEnd
  if s.pstate == 2 then (if v == 3 then s.giveUp 8 else s)
  else if s.pstate == 5 then
    let s := s.sendRec ⟨14, 0, v, [d]⟩
    if v == 1 || v == 4 then s.copying else if v == 2 then s.leave 8 8 else s
  else s

/-- A VERD record: verdict 0 starts the active's self-check, another carries the verdict. -/
def State.verdRec (s : State) (v : Nat) (d : Word) : State :=
  if v == 0 then s.refStart d
  else if s.pstate == 2 && s.jl.referee.isSome then s.verdict v
  else s

def execVerdRecordRx (v : Fin 8) (d : Word) (s : State) : Host.Outcome State Fault Refusal :=
  act s (fun s => if s.pairOn then s.verdRec v.val d else s)

/-- Length of the referee window and of the check after a swap, in beats. -/
def State.refLen (s : State) : Nat := 1000 * orElse (s.get JL_CFG.REFT) 20

/-- The self-check of 32 beats ends: 0 nothing failed, 1 the lattice copy, 2 the table regions, 3 an output stage. -/
def State.selfEnd (s : State) (fail : Nat) : State :=
  match s.jl.referee with
  | some r =>
    if r.selfDone || s.since r.selfAt < 32 then s
    else
      let s : State := { s with jl := { s.jl with referee := some { r with selfDone := true } } }
      if fail == 0 then s
      else
        let s := s.giveUp (if fail == 1 then 1 else 8)
        if s.pstate == 8 then s.refEnd else s
  | none => s

/-- What the self-check finds in the state of the unit itself. -/
def State.selfFault (s : State) : Nat :=
  if s.bl.parityBad then 1
  else if streamTables.any (fun t => s.mem.sramBad.any (fun a => t.1 ≤ a && a < t.1 + t.2)) then 2
  else 0

def execRefereeSelfCheckEnd (fail : Fin 4) (s : State) : Host.Outcome State Fault Refusal := act s (fun s => s.selfEnd fail.val)

/-- D + 64: both units begin to sample. -/
def State.windowOpen (s : State) : State :=
  { s with jl := { s.jl with referee := s.jl.referee.map (fun r => if 64 ≤ s.since r.at_ then { r with open_ := true } else r) } }

def execRefereeWindowOpen (s : State) : Host.Outcome State Fault Refusal := act s State.windowOpen

/-- REFT ms after that: the verdict. -/
def State.windowEnd (s : State) : State :=
  match s.jl.referee with
  | some r => if r.open_ && 64 + s.refLen ≤ s.since r.at_ then s.verdict (verdictOf r.outs) else s
  | none => s

def execRefereeVerdict (s : State) : Host.Outcome State Fault Refusal := act s State.windowEnd

/-- The window after a swap ends (R411): the new active gives up where one of its commands differs from the field. -/
def State.swapChecked (s : State) : State :=
  match s.jl.swapChk with
  | some r =>
    if s.t.run < r.at_ + s.refLen then s
    else
      let s : State := { s with jl := { s.jl with swapChk := none } }
      let bad := (r.outs.filter (fun o => 2 * o.fieldDiff ≤ o.n)).any (fun o => 2 * o.actDiff > o.n)
      if s.pstate == 2 && bad then s.giveUp 11 else s
  | none => s

def execPostSwapCheckEnd (s : State) : Host.Outcome State Fault Refusal := act s State.swapChecked

/-! ### Giving up and taking control (R400, R401, R407, R408, R410) -/

/-- The beat of release has come. -/
def State.releaseDue (s : State) : Bool := match s.jl.relAt with | some b => s.pstate == 2 && b ≤ s.t.run | none => false

/-- The beat of release: outputs in row 2, FAILED; later frames keep telling of it. -/
def State.release (s : State) : State :=
  let s := if s.releaseDue then (s.enter 8).refEnd else s
  match s.jl.relAt with
  | some b => if b < s.t.run then { s with jl := { s.jl with relAt := none } } else s
  | none => s

/-- Take control at T with a privileged count. -/
def State.takeControl (s : State) (seq : Nat) : State := (s.put JL_PSEQ.PSEQ seq).becomeActive

/-- The privileged count past any that the partner may have used (R407). -/
def State.farSeq (s : State) : Nat :=
  let last := (s.jl.link.rx.map (·.pseq)).getD (s.get JL_PSEQ.PSEQ)
  (last + 2 ^ 31 - 1) % 2 ^ 32

/-- The later of the own privileged count and that of the last frame received (R401). -/
def State.laterSeq (s : State) : Nat :=
  let own := s.get JL_PSEQ.PSEQ
  let far : Nat := (s.jl.link.rx.map (·.pseq)).getD own
  let ahead : Nat := (far + 2 ^ 32 - own) % 2 ^ 32
  if ahead < 2 ^ 31 then far else own

/-- The beat T has come. -/
def State.takeoverDue (s : State) : Bool :=
  match s.jl.takeAt with | some b => (s.pstate == 5 || s.pstate == 7) && b ≤ s.t.run | none => false

/-- The standby takes control at T (R401, R408). -/
def State.takeover (s : State) : State :=
  if s.takeoverDue then (s.takeControl (if s.jl.takeFar then s.farSeq else s.laterSeq)).putB JL_STAT.PART false else s

/-- Every referee output and the heartbeat point whose own command is live reads dead, and there is one (R407). -/
def State.partnerDead (s : State) : Bool :=
  let d := s.refPoints.filter s.dioCmd
  let l := (setIdx (s.get JL_REFL.MASK) 16).filter s.loopLive
  !(d.isEmpty && l.isEmpty) && d.all (fun n => !(s.dioOf n).raw) && l.all (fun n => !s.flag (LO_RB.LIVE n))

/-- Phase 2 of a beat in the isolated observer. -/
def State.deadSample (s : State) : State :=
  if s.pstate != 6 then s
  else { s with jl := { s.jl with deadAt := if s.partnerDead then some (s.jl.deadAt.getD s.t.run) else none } }

/-- The partner's outputs have been dead for 50,000 beats. -/
def State.observerTakes (s : State) : State :=
  match s.jl.deadAt with
  | some b => if s.pstate == 6 && 50000 ≤ s.since b then (s.putB JL_STAT.PART false).takeControl s.farSeq else s
  | none => s

def execObserverTakeover (s : State) : Host.Outcome State Fault Refusal := act s State.observerTakes

/-- JL_CRES. -/
def State.jlResult (s : State) (r : Nat) : State := s.put JL_CRES.RESULT r

/-- What refuses GIVEUP and a swap (R418): not active, no partner in step, referee or swap running. -/
def State.jlRefusal (s : State) : Nat :=
  if s.pstate != 2 then 1
  else if s.get JL_STAT.PARTNER != 5 then 2
  else if s.flag JL_STAT.REF || s.jl.swapChk.isSome || s.still then 4
  else 0

/-- An arm of a swap of pair scope for the second round boundary (R411, R418). -/
def State.armSwap (s : State) : State :=
  s.issue ⟨s.boundaryAhead 2, s.reg JL_EPOCH, 1, 1, 0, s.ownIssuer, false, s.minlead 1, false⟩

def State.jlGiveup (s : State) : State :=
  let r := s.jlRefusal
  let s := s.jlResult r
  if r == 0 then s.giveUp 6 else s

def State.jlSwapArm (s : State) : State :=
  let r := s.jlRefusal
  let s := s.jlResult r
  if r == 0 then s.armSwap else s

def execJlGiveup (s : State) : Host.Outcome State Fault Refusal := act s (fun s => if s.alive 23 then s.jlGiveup else s)
def execJlSwapArm (s : State) : Host.Outcome State Fault Refusal := act s (fun s => if s.alive 23 then s.jlSwapArm else s)

/-- The hours since the last role change reach SWAPH, and no swap is armed. -/
def State.autoSwap (s : State) : State :=
  let h := orElse (s.get JL_CFG.SWAPH) 24
  let armed := (List.range 16).any (fun n => s.armedSlot n && s.get (TIM_SLOT_W1.ACTION n) == 1)
  if s.jlRefusal == 0 && h != 511 && s.get JL_SWAP.HOURS ≥ h && s.mode ≤ 1 && s.jl.partSleep.isNone && !armed then s.armSwap else s

def execAutoSwapArm (s : State) : Host.Outcome State Fault Refusal := act s (fun s => if s.pairOn then s.autoSwap else s)

/-- 10 ms without a loop supply within its limits give up control (R400). -/
def State.supplyLost (s : State) : State :=
  match s.life.supAt with | some b => if 10000 ≤ s.since b then s.giveUp 5 else s | none => s

/-- The internal loop supply leaves its limits, or returns to them. -/
def execLoopSupplyOutOfLimits (ok : Bool) (s : State) : Host.Outcome State Fault Refusal :=
  act s (fun s =>
    let at_ := if ok then none else some (s.life.supAt.getD s.t.run)
    (({ s with life := { s.life with supAt := at_ } } : State).putB LO_STAT.SUPOK ok).supplyLost)

/-! ### The witness (R392, R393) -/

/-- WSTATE of this unit. -/
def State.wstate (s : State) : Nat :=
  match s.pstate with
  | 0 | 2 => 1
  | 1 | 3 => 5
  | 6 => 3
  | 8 => if s.jl.relBeat.isSome then 2 else 4
  | _ => 0

/-- The word this unit sends. -/
def State.witnessWord (s : State) : Nat :=
  let w := s.unit <<< 15 + s.wstate <<< 12 + (s.reg JL_EPOCH).toNat % 256 * 16
  w + crc4 w

/-- A unit's witness beats: counts 0 modulo 16 of unit 0, 8 of unit 1 (R392); one word in each. -/
def State.witnessSend (s : State) : State :=
  if s.pairOn && s.t.beat.toNat % 16 == 8 * s.unit && s.jl.link.witAt != some s.t.run then
    s.setLink { s.jl.link with witSent := some s.witnessWord, witAt := some s.t.run }
  else s

def execWitnessSend (s : State) : Host.Outcome State Fault Refusal := act s State.witnessSend

/-- The partner's pair state as a witness word tells it, while no lane delivers frames. -/
def State.witnessPartner (s : State) (ws : Nat) : State :=
  if s.laned then s
  else s.setPartner (match ws with | 1 => 2 | 2 => 8 | 3 => 6 | 4 => 8 | 5 => 1 | _ => 7)

/-- A valid witness word from the partner (R408, R409, R413). -/
def State.witnessRx (s : State) (w : Nat) : State :=
  if !s.pairOn || bit w 15 == (s.unit == 1) then s
  else if crc4 w != w % 16 then s.inc JL_WIT.BADW
  else
    let ws := bits w 14 12
    let silent := !s.flag JL_STAT.WIT
    let s := s.setLink { s.jl.link with lastWit := some s.t.run }
    let s := ((s.put JL_WIT.WORD w).putB JL_STAT.WIT true).witnessPartner ws
    match s.pstate with
    | 1 => if ws == 5 && s.unit == 0 && !s.laned then s.becomeActive else s
    | 2 =>
      if ws == 1 && !s.laned then
        let d := ((s.reg JL_EPOCH).toNat + 256 - bits w 11 4) % 256
        s.epochLoses (d ≥ 128) (d == 0)
      else s
    | 6 => if ws == 1 && silent then s.copying else s
    | 7 => if ws == 2 then { s with jl := { s.jl with takeAt := some (s.t.run + 1), takeFar := true } } else s
    | _ => s

def execWitnessRx (w : BitVec 16) (s : State) : Host.Outcome State Fault Refusal := act s (fun s => s.witnessRx w.toNat)
def execWitnessBadWord (s : State) : Host.Outcome State Fault Refusal :=
  act s (fun s => if s.pairOn then s.inc JL_WIT.BADW else s)

/-! ### Link loss and partition (R391, R405, R416) -/

/-- Both lanes are silent: LINKLOST while the witness is heard, a partition once it is silent too. -/
def State.linkLoss (s : State) : State :=
  if s.laned then s
  else if s.flag JL_STAT.WIT then (if s.replays then s.enter 7 else s)
  else if s.pstate == 2 then (if s.jl.partSleep.isSome then s else s.putB JL_STAT.PART true)
  else if s.replays || s.pstate == 7 then
    let s := (s.putB JL_STAT.PART true).enter 6
    { s with jl := { s.jl with deadAt := none } }
  else s

/-- Beats since a moment, or since the present pair state was entered where there was none. -/
def State.quietFor (s : State) (o : Option Nat) : Nat := s.since (o.getD s.jl.stateAt)

/-- No valid witness word for 48 beats (R393). -/
def State.witnessQuiet (s : State) : State :=
  if s.pairOn && s.flag JL_STAT.WIT && 48 ≤ s.quietFor s.jl.link.lastWit then (s.putB JL_STAT.WIT false).linkLoss else s

def execWitnessSilent (s : State) : Host.Outcome State Fault Refusal := act s State.witnessQuiet

/-- No checked frame for 16 beats: on a lane, that lane's flag falls; on both, the links are lost (R405), and of the partner the
witness alone still tells. A standby that copies without a lane finds them lost 16 beats after it began to. -/
def State.lanesQuiet (s : State) : State :=
  let qa := 16 ≤ s.quietFor s.jl.link.lastA
  let qb := 16 ≤ s.quietFor s.jl.link.lastB
  if !s.pairOn || 0 < s.jl.wake then s
  else
    let was := s.laned
    let s := if s.flag JL_STAT.LNKA && qa then s.putB JL_STAT.LNKA false else s
    let s := if s.flag JL_STAT.LNKB && qb then s.putB JL_STAT.LNKB false else s
    if s.laned then s
    else if was then
      let s := s.setPartner (if s.jl.partSleep.isSome then 9 else 15)
      ((if s.jl.referee.isSome then s.refEnd else s).linkLoss).discipline
    else if s.replays && 16 ≤ s.since s.jl.stateAt then s.linkLoss
    else s

def execCrosslinkSilence (s : State) : Host.Outcome State Fault Refusal := act s State.lanesQuiet

/-- A sleeping partner has been silent for SLEEPR + 3 rounds since its last SLEEP frame (R416). -/
def State.sleeperLost (s : State) : State :=
  match s.jl.partSleep with
  | some b =>
    if s.since b < (orElse (s.get JL_LAY.SLEEPR) 10 + 3) * 1000000 then s
    else (({ s with jl := { s.jl with partSleep := none } } : State).setPartner 15).linkLoss
  | none => s

def execSleepPartitionTimeout (s : State) : Host.Outcome State Fault Refusal := act s State.sleeperLost

/-- A standby lacks the replay of beat B at its beat B + 6; of beats before the one it left another state at it needs none, and
none once the active has released (R391, R401). -/
def State.replayLost (s : State) : State :=
  let have_ := s.jl.link.replay.any (fun r => r.beat == s.t.beat - 6 && r.complete)
  if !s.pairOn || !s.replays || 0 < s.jl.wake || s.jl.takeAt.isSome || s.t.run < s.jl.replayAt + 6 || have_ then s
  else
    let s := (s.inc JL_LCNT.MISS).setCause 10
    if s.laned then s.copying else s.linkLoss

def execReplayMissing (s : State) : Host.Outcome State Fault Refusal := act s State.replayLost

/-! ### Disagreement of the digitisations (R398) -/

/-- The bit of a point: 0 to 127 channels, 128 to 159 discretes, 160 to 167 speeds. -/
def disFld (p : Nat) : Fld :=
  if p < 128 then ⟨JL_DDIS (p / 32), p % 32, p % 32⟩
  else if p < 160 then ⟨JL_DDISD, p - 128, p - 128⟩
  else ⟨JL_DDISS, p - 160, p - 160⟩

/-- DTOL in 0.01 %. -/
def State.dtol (s : State) : Nat := orElse (s.get JL_DCFG.DTOL) 50

/-- The point is compared: it is adopted with EN = 1, and, of a discrete point, an input. -/
def State.compared (s : State) (p : Nat) : Bool :=
  if p < 128 then s.enabled p
  else if p < 160 then s.isInput (p - 128)
  else !(s.spdEnt (p - 160)).isEmpty && (s.spdEnt (p - 160)).en

/-- Accepted comparator bits, or accepted states, differ now. -/
def State.bitsDiffer (s : State) (p : Nat) : Bool :=
  let r := s.jl.link.inp
  if p < 128 then
    let c := s.chanOf p
    let m := r.cmp.getD (p / 8) 0
    c.accH != bit m (8 + p % 8) || c.accL != bit m (p % 8)
  else if p < 160 then (s.dioOf (p - 128)).acc != bit (r.dis.getD 0 0) (p - 128)
  else false

/-- Own conversions of a channel, or own mirror writes of a speed input. -/
def State.ownCount (s : State) (p : Nat) : Nat :=
  if p < 128 then (s.chanOf p).convs else if p < 160 then 0 else (s.spdOf (p - 160)).writes

/-- The values differ, once the active has sent one. -/
def State.valuesDiffer (s : State) (p : Nat) : Option Bool :=
  let r := s.jl.link.inp
  let bad := fun (x : Word) => 8 ≤ qOf x && qOf x ≤ 12
  if p < 128 then
    (r.raw.get? p).map (fun w =>
      let own := s.reg (FI_RAW (p / 8) (p % 8))
      bad own != bad w || (signed 24 (fld own 23 0) - signed 24 (fld w 23 0)).natAbs * 10000 > s.dtol * 2 ^ 23)
  else
    (r.mir.get? (0o260 + p - 160)).map (fun w =>
      let own := s.mirror (0o260 + p - 160)
      qBad (qOf own) != qBad (qOf w) || (vOf own - vOf w).natAbs * 10000 > s.dtol * max (vOf own).natAbs (vOf w).natAbs)

/-- One beat's comparison of a point (R398): bits that differ for DDT ms, values that differ in DCNT comparisons in a row, disagree;
the same of agreement clears it. -/
def State.disNext (s : State) (p : Nat) (d : DisS) : DisS :=
  let ddt := 1000 * orElse (s.get JL_DCFG.DDT) 100
  let cnt := orElse (s.get JL_DCFG.DCNT) 3
  let now := s.bitsDiffer p
  let d := if d.diff == now then d else { d with diff := now, diffAt := s.t.run }
  let held := s.since d.diffAt
  let d := if d.diff && ddt < held then { d with cmp := true } else if !d.diff && ddt ≤ held then { d with cmp := false } else d
  let n := s.ownCount p
  if n == d.seen then d
  else
    let d := { d with seen := n }
    match (if n == 0 then none else s.valuesDiffer p) with
    | none => d
    | some v =>
      let k := if d.vDiff == v then d.vRun + 1 else 1
      { d with vDiff := v, vRun := k, val := if cnt ≤ k then v else d.val }

/-- What is kept of a point after this beat's comparison; nothing of one that is not compared. -/
def State.disOf (s : State) (p : Nat) : DisS :=
  if s.compared p then s.disNext p (s.jl.dis.getD p DisS.fresh) else DisS.fresh

/-- A point's bit in JL_DDIS follows. -/
def State.disPoint (s : State) (p : Nat) : State :=
  let d := s.disOf p
  let t : State := { s with jl := { s.jl with dis := if d == DisS.fresh then s.jl.dis.erase p else s.jl.dis.set p d } }
  let on := d.cmp || d.val
  if on == s.flag (disFld p) then t
  else
    let t := t.putB (disFld p) on
    if on then t.inc JL_DCNT.DIS else t

/-- A standby in PROBATION or JOINED compares (R398). -/
def State.comparing (s : State) : Bool := s.pairOn && (s.pstate == 4 || s.pstate == 5)

def State.disBeat (s : State) : State := if s.comparing then (List.range 168).foldl State.disPoint s else s

def execDisagreementRaise (p : Fin 168) (s : State) : Host.Outcome State Fault Refusal :=
  act s (fun s =>
    let t := s.disPoint p.val
    if s.comparing && t.flag (disFld p.val) && !s.flag (disFld p.val) then t else s)

def execDisagreementClear (p : Fin 168) (s : State) : Host.Outcome State Fault Refusal :=
  act s (fun s =>
    let t := s.disPoint p.val
    if s.comparing && !t.flag (disFld p.val) && s.flag (disFld p.val) then t else s)

/-! ### Joining, seeking, sleep (R412 to R417) -/

/-- PROBR rounds without a mismatch. -/
def State.probationOver (s : State) : State :=
  if s.pstate == 4 && orElse (s.get JL_CFG.PROBR) 10 ≤ s.jl.cleanRounds then s.setPstate 5 else s

def execProbationEnd (s : State) : Host.Outcome State Fault Refusal := act s (fun s => if s.pairOn then s.probationOver else s)

/-- Beats since this unit began to seek or last heard of a partner. -/
def State.aloneFor (s : State) : Nat :=
  min (s.since s.jl.stateAt) (min (s.quietFor s.jl.link.lastA) (min (s.quietFor s.jl.link.lastB) (s.quietFor s.jl.link.lastWit)))

/-- SEEKR rounds without a partner. -/
def State.seekOver (s : State) : State :=
  if s.pairOn && s.pstate == 1 && orElse (s.get JL_CFG.SEEKR) 2 * 1000000 ≤ s.aloneFor then s.becomeActive else s

def execSeekTimeout (s : State) : Host.Outcome State Fault Refusal := act s State.seekOver

/-- Power off an island. -/
def State.islandOff (s : State) (i : Nat) : State := (s.putBit SYS_ISTAT.ALIVE i false).loseCopies i

/-- The standby falls asleep: every island but the calendar domain is powered down. -/
def State.fallAsleep (s : State) : State :=
  let s := (s.enter 9).refEnd.replayClear
  let s := ((s.putB JL_STAT.LNKA false).putB JL_STAT.LNKB false).putB JL_STAT.WIT false
  let s : State := (List.range 29).foldl (fun (s : State) (i : Nat) => if i == 25 then s else s.islandOff i) s
  ({ s with jl := { s.jl with sleepSet := false } } : State).discipline

/-- The round boundary after a round of SLEEP frames. -/
def State.sleepDue (s : State) : Bool :=
  s.pairOn && s.pstate == 5 && s.jl.sleepSet && s.t.usec == 0 && s.mode == 1 && s.flag JL_LAY.SLEEPEN

def State.sleepEntry (s : State) : State := if s.sleepDue then s.fallAsleep else s

/-- SLEEPR rounds have passed: at beat-in-round 900,000 the islands in use are powered, and the guard window opens. -/
def State.wakeUp (s : State) : State :=
  if s.pstate != 9 || s.t.usec < 900000 || s.since s.jl.stateAt < orElse (s.get JL_LAY.SLEEPR) 10 * 1000000 then s
  else
    let s := (s.put SYS_ISTAT.ALIVE (s.get SYS_IUSE.USE)).setPstate 3
    { s with jl := { s.jl with wake := 1, joinStep := 1, streamAt := 0 } }

def execWakeUp (s : State) : Host.Outcome State Fault Refusal := act s State.wakeUp

/-- No frame in the guard window for one round. -/
def State.guardOver (s : State) : State :=
  if s.jl.wake == 1 && 1000000 ≤ s.since s.jl.stateAt then { s with jl := { s.jl with wake := 2 } } else s

def execWakeGuardTimeout (s : State) : Host.Outcome State Fault Refusal := act s State.guardOver

/-- The wide search has found nothing in 2 rounds: the lanes are silent, and the witness unless a word has come (R405). -/
def State.searchOver (s : State) : State :=
  if s.jl.wake != 2 || s.since s.jl.stateAt < 3000000 then s
  else ((({ s with jl := { s.jl with wake := 0 } } : State).putB JL_STAT.LNKA false).putB JL_STAT.LNKB false).linkLoss

def execWakeSearchTimeout (s : State) : Host.Outcome State Fault Refusal := act s State.searchOver

/-! ### The engine's beat and round (R387, R397, R412 to R415) -/

/-- The state of the active that a joining partner loads, one beat's share of it (R412, steps 3 and 5). -/
def State.streamBeat (s : State) : State :=
  if s.pstate != 2 || s.get JL_STAT.PARTNER != 3 then s
  else
    let at_ := s.jl.streamAt
    match s.jl.joinStep with
    | 3 =>
      let total := streamWords + carriedRegs.length
      let recs := [at_, at_ + 32].filterMap (fun i =>
        if i < total then some (⟨12, 0, 4 <<< 20 + i, (List.range (min 32 (total - i))).map (fun j => s.streamWord (i + j))⟩ : JRec) else none)
      let s : State := recs.foldl State.sendRec s
      { s with jl := { s.jl with streamAt := at_ + 64, joinStep := if at_ + 64 ≥ total then 4 else 3 } }
    | 5 =>
      let s :=
        if at_ < 256 then s.sendRec ⟨12, 0, 16 * at_, (List.range 16).map (fun i => s.cellWord (16 * at_ + i))⟩
        else if at_ < 288 then
          s.sendRec ⟨12, 0, 1 <<< 20 + 32 * (at_ - 256), (List.range 32).map (fun i => s.reg (ALM_PST (32 * (at_ - 256) + i)))⟩
        else if at_ == 288 then s.sendRec ⟨12, 0, 2 <<< 20, s.oplWords⟩
        else s.sendRec ⟨12, 0, 3 <<< 20, s.launchWords⟩
      { s with jl := { s.jl with streamAt := at_ + 1, joinStep := if at_ ≥ 289 then 0 else 5 } }
    | _ => s

/-- REFS of the beat, while samples are taken, and the standby's VERD of a run. -/
def State.refRecords (s : State) : State :=
  let opened := (s.jl.referee.map s.sampling).getD false || (s.jl.swapChk.map s.sampling).getD false
  let s :=
    if opened then
      let cmd := maskOf ((List.range 32).filter s.dioCmd)
      let live := maskOf ((s.dio.filter (fun p => p.2.raw)).map (·.1))
      let lc := maskOf ((List.range 16).filter s.loopLive)
      let ll := maskOf ((List.range 16).filter (fun n => s.flag (LO_RB.LIVE n)))
      s.sendRec ⟨13, 0, 0, [W cmd, W live, W (lc <<< 16 + ll)]⟩
    else s
  match s.jl.referee with
  | some r => if s.pstate == 5 then s.sendRec ⟨14, 0, 0, [r.d]⟩ else s
  | none => s

/-- What changes roles at the start of a beat, before its frame leaves. -/
def State.pairRoles (s : State) : State := s.release.takeover.sleepEntry

/-- Phase 0 of a beat: the digest of the beat of work before, its records, its frame, the comparison. -/
def State.pairBeat (s : State) (hurt : Bool) : State :=
  if !s.pairOn then s.setLink { s.jl.link with outRecs := [], spill := [] }
  else
    let worked := (s.pstate == 2 || s.replays || s.jl.relAt == some s.t.run) && !s.still && s.jl.swapAt != some s.t.beat
    let s := if worked then s.keepDigest (s.workBeat - 1) else s
    ((s.streamBeat.refRecords).sendFrame hurt).compareDigests

/-- What the passing of time brings about in a beat. -/
def State.pairSweep (s : State) : State :=
  let s := s.wakeUp.witnessSend.supplyLost.witnessQuiet.lanesQuiet.replayLost
  let s := (s.selfEnd s.selfFault).windowOpen.windowEnd.swapChecked
  s.observerTakes.seekOver.guardOver.searchOver.sleeperLost.disBeat

/-- A joining unit's and its active's steps advance at round boundaries (R412). -/
def State.joinRound (s : State) : State :=
  if s.pstate == 3 then
    match s.jl.joinStep with
    | 2 => { s with jl := { s.jl with joinStep := 3 } }
    | 3 =>
      if s.jl.streamAt ≥ streamWords then
        ({ s with tblLock := true, jl := { s.jl with joinStep := 5 } } : State).reloadAll true
      else s
    | 6 => s.setPstate 4
    | _ => s
  else if s.pstate == 2 then
    match s.jl.joinStep with
    | 2 => { s with jl := { s.jl with joinStep := 3, streamAt := 0 } }
    | 4 => { s with jl := { s.jl with joinStep := 5, streamAt := 0 } }
    | _ => s
  else s

/-- A round boundary: rounds are counted, joining advances, a unit that lost an epoch comparison seeks again. -/
def State.pairRound (s : State) : State :=
  let s := s.put JL_SWAP.HOURS (satAt 65535 ((s.reg ONX_OPR - s.jl.opRoundRole).toNat / 3600))
  if !s.pairOn then s
  else
    let clean := if s.jl.stateAt < s.t.run then s.jl.cleanRounds + 1 else s.jl.cleanRounds
    let sleep := s.pstate == 5 && s.mode == 1 && s.flag JL_LAY.SLEEPEN && orElse (s.get JL_LAY.WAKER) 2 ≤ clean
    let s : State := { s with jl := { s.jl with cleanRounds := clean, stepAnn := none, sleepSet := sleep } }
    let s := if s.jl.wake == 3 then s.awake else s
    if s.pstate == 8 && s.get JL_CAUSE.CAUSE == 13 then
      ({ s with jl := { s.jl with relBeat := none } } : State).enter 1
    else if s.pstate == 1 then { s with jl := { s.jl with joinStep := 0 } }
    else if s.pstate == 4 then s.probationOver
    else s.joinRound.autoSwap

end Sys2Proof.Machine
end

