-- ==== Sys2Proof/Machine/Ship.lean ====
section
/-! DEFINITION. The ship-network engine (chapter 12): lanes, PTP, telegrams formed and sent, telegrams received, requests. -/
namespace Sys2Proof.Machine

open Sys2Proof

/-- The engine works. -/
def State.snOn (s : State) : Bool := s.alive 22

/-! ### Lanes (R348, R349, R351) -/

/-- A link of 10 or 1 Gbit/s comes up in a mode that can establish it. -/
def State.linkUp (s : State) (p : Nat) (ten fec : Bool) : State :=
  let m := s.portMode p
  let kr := m == 2 || m == 5
  let can := if ten then m == 1 || kr || m == 4 else kr || m == 3 || m == 4
  if !can then s
  else
    let s := ((s.putB (SN_PST.LINK p) true).put (SN_PST.SPEED p) (if ten then 2 else 1)).putB (linkFld p) true
    let s := (s.putB (SN_PST.FECON p) (fec && kr && ten && s.flag (SN_PCFG.FEC p))).put (SN_PST.TRN p) (if kr && ten then 2 else 0)
    if s.flag (SN_PCFG.PTPEN p) then s.ptpStop p 1 else s

def execShipLinkUp (p : Fin 2) (ten fec : Bool) (s : State) : Host.Outcome State Fault Refusal :=
  act s (fun s => if s.snOn then s.linkUp p.val ten fec else s)

def execShipLinkDown (p : Fin 2) (s : State) : Host.Outcome State Fault Refusal :=
  act s (fun s => if s.snOn && s.flag (SN_PST.LINK p.val) then s.portDown p.val else s)

/-- A port with a fall-back and without a link has tried one operation for 1 s: it tries the other (R349). -/
def State.alternate (s : State) (p : Nat) : State :=
  let m := s.portMode p
  let start := fun (s : State) (k : Nat) =>
    ({ s with sn := { s.sn with tries := s.sn.tries.set p (k, s.t.run) } } : State).put (SN_PST.TRN p) (if m == 5 && k == 0 then 1 else 0)
  if !s.snOn || s.flag (SN_PST.LINK p) || m < 4 then s
  else match s.sn.tries.get? p with
    | none => start s 0
    | some (k, b) => if 1000000 ≤ s.since b then start s (1 - k) else s

def execLinkModeAlternate (p : Fin 2) (s : State) : Host.Outcome State Fault Refusal := act s (fun s => s.alternate p.val)

/-- The port receives. -/
def State.portUp (s : State) (p : Nat) : Bool := s.snOn && s.flag (SN_PST.LINK p)

/-- Frames sent in answer to what has just been received. -/
def State.answer (s : State) (l : List Reply) : State := { s with sn := { s.sn with replies := l } }

def execArpRequestRx (p : Fin 2) (ip : BitVec 32) (mac : BitVec 48) (s : State) : Host.Outcome State Fault Refusal :=
  act s (fun s =>
    if s.portUp p.val && ip.toNat == s.get SN_IP.IP then s.answer [.arp p.val ip.toNat mac.toNat] else s.answer [])

/-- A group in use: its address lies in 224.0.0.0/4 (R379). -/
def State.groupUsed (s : State) (g : Nat) : Bool := bits (s.get (SN_GRP_W0.ADDR g)) 31 28 == 14

/-- A query for one group, or for all of them (0). -/
def execIgmpQueryRx (p : Fin 2) (group : BitVec 32) (s : State) : Host.Outcome State Fault Refusal :=
  act s (fun s =>
    if !s.portUp p.val then s.answer []
    else
      let l := (List.range 16).filter (fun g =>
        s.flag (SN_GRP_W1.JOIN g) && s.groupUsed g && (group == 0 || s.get (SN_GRP_W0.ADDR g) == group.toNat))
      s.answer (l.map (fun g => .igmp p.val (s.get (SN_GRP_W0.ADDR g)))))

/-! ### PTP (R353, R354, R450) -/

/-- The port takes PTP messages of a domain. -/
def State.ptpTakes (s : State) (p dom : Nat) : Bool :=
  s.portUp p && s.flag (SN_PCFG.PTPEN p) && dom == s.get SN_CFG.PTPDOM

/-- An Announce with its log interval: a better master, by its rank in the data set comparison, is followed. -/
def State.announce (s : State) (p gm rank : Nat) (utc : Nat × Nat) (iv : Int) : State :=
  let x := s.ptpOf p
  let heard := fun (x : PtpPort) => { x with gm := some gm, rank := rank, utc := some utc, annAt := s.t.run, annIv := iv }
  if x.gm == some gm then (s.setPtp p (heard x)).ptpSelect
  else if x.gm.isSome && x.rank ≤ rank then s
  else
    let s := s.setPtp p { heard PtpPort.fresh with dreqAt := s.t.run }
    ((s.put (SN_PST.PTPST p) 2).putB (SN_PST.PLOCK p) false).ptpSelect

def execPtpAnnounceRx (p : Fin 2) (dom : BitVec 8) (gm : BitVec 64) (rank : BitVec 16) (utc : UtcInfo) (interval : BitVec 8)
    (s : State) : Host.Outcome State Fault Refusal :=
  act s (fun s =>
    if s.ptpTakes p.val dom.toNat then s.announce p.val gm.toNat rank.toNat (utc.ofs.toNat, utc.leap.val) interval.toInt else s)

/-- The offset measured with a Sync disciplines node time: on the selected port, or, while nothing disciplines it, on the
port that is to lock. -/
def State.ptpCorrect (s : State) (p : Nat) (ofs : Int) : State :=
  let src := s.get TIM_DSTAT.SRC
  let sel := s.get SN_STAT.PTPPORT
  let lone := sel == 0 && (p == 0 || (s.ptpOf 0).gm.isNone)
  if s.flag TIM_DISC.PTPEN && ((src == 1 && sel == p + 1) || (src == 0 && lone)) then s.correct ofs else s

/-- A Sync measured: receipt less origin, in ns. -/
def State.syncDone (s : State) (p : Nat) (t2mt1 : Int) : State :=
  let x := s.ptpOf p
  let ofs := t2mt1 - x.delay
  let good := if ofs.natAbs ≤ 1000 then x.good + 1 else 0
  let lock := good ≥ 16 || (s.flag (SN_PST.PLOCK p))
  let s := s.setPtp p { x with good := good, t2mt1 := t2mt1, twoStep := none }
  let s := (s.putB (SN_PST.PLOCK p) lock).put (SN_PST.PTPST p) (if lock then 3 else 2)
  s.ptpSelect.ptpCorrect p ofs

/-- A Sync of the master followed; of a two-step Sync the origin is still to come. `ns` is its receipt less its
correction, and, for one step, less its origin. -/
def execPtpSyncRx (p : Fin 2) (dom : BitVec 8) (gm : BitVec 64) (seq : BitVec 16) (twoStep : Bool) (ns : Int) (s : State) :
    Host.Outcome State Fault Refusal :=
  act s (fun s =>
    let x := s.ptpOf p.val
    if !s.ptpTakes p.val dom.toNat || x.gm != some gm.toNat then s
    else if twoStep then s.setPtp p.val { x with twoStep := some (seq.toNat, ns) }
    else s.syncDone p.val ns)

def execPtpFollowUpRx (p : Fin 2) (dom : BitVec 8) (gm : BitVec 64) (seq : BitVec 16) (origin : Int) (s : State) :
    Host.Outcome State Fault Refusal :=
  act s (fun s =>
    let x := s.ptpOf p.val
    if !s.ptpTakes p.val dom.toNat || x.gm != some gm.toNat then s
    else match x.twoStep with
      | some (q, ns) => if q == seq.toNat then s.syncDone p.val (ns - origin) else s
      | none => s)

/-- Beats in `k` times a log interval of seconds. -/
def logBeats (k : Nat) (iv : Int) : Nat := if 0 ≤ iv then k * 1000000 * 2 ^ iv.toNat else k * 1000000 / 2 ^ (-iv).toNat

/-- A Delay_Req goes out, one interval of the master after the last. -/
def State.delayReq (s : State) (p : Nat) : State :=
  let x := s.ptpOf p
  if !s.portUp p || !s.flag (SN_PCFG.PTPEN p) || x.gm.isNone || s.since x.dreqAt < logBeats 1 x.interval then s
  else
    let s := s.setPtp p { x with dreq := some x.dseq, dseq := (x.dseq + 1) % 65536, dreqAt := s.t.run }
    s.answer [.delayReq p x.dseq]

def execPtpDelayReqSend (p : Fin 2) (s : State) : Host.Outcome State Fault Refusal := act s (fun s => s.delayReq p.val)

/-- A Delay_Resp: `ns` is its receipt at the master less the departure here, its correction taken out. -/
def execPtpDelayRespRx (p : Fin 2) (dom : BitVec 8) (seq : BitVec 16) (ns : Int) (interval : BitVec 8) (s : State) :
    Host.Outcome State Fault Refusal :=
  act s (fun s =>
    let x := s.ptpOf p.val
    if !s.ptpTakes p.val dom.toNat || x.dreq != some seq.toNat then s
    else s.setPtp p.val { x with dreq := none, delay := (x.t2mt1 + ns) / 2, interval := interval.toInt })

/-- Three announce intervals without an Announce (R353, R354). -/
def State.announceOut (s : State) (p : Nat) : State :=
  let x := s.ptpOf p
  if s.portUp p && x.gm.isSome && logBeats 3 x.annIv ≤ s.since x.annAt then s.ptpStop p 1 else s

def execPtpAnnounceTimeout (p : Fin 2) (s : State) : Host.Outcome State Fault Refusal := act s (fun s => s.announceOut p.val)

/-! ### Forming telegrams (R359 to R366) -/

/-- A VALUES telegram of a list (R360); a poisoned word counts as Q = 12 (R36). -/
def State.valuesForm (s : State) (n : Nat) : State :=
  let c := s.get (SN_VL.COUNT n)
  let f := s.get (SN_VL.FIRST n)
  if !s.flag (SN_VL.EN n) || c == 0 || f + c > 0o320 then s
  else
    let s := s.sramFetch 22 ((List.range c).map (fun i => 0o00400000 + f + i))
    s.formTele 1 false (s.get (SN_VL.GRP n)) c (W f :: (List.range c).map (fun i => s.mirror (f + i)))

/-- A telegram of round time, 0 to 7 a list, 8 SIGSTATE, 9 STATUS, is formed once in its beat. -/
def State.formOnce (s : State) (k : Nat) (f : State → State) : State :=
  if s.sn.formAt.get? k == some s.t.run then s else f { s with sn := { s.sn with formAt := s.sn.formAt.set k s.t.run } }

/-- The beat is one of a list's (R360). -/
def State.valuesBeat (s : State) (n : Nat) : Bool :=
  ((s.micros : Int) - 1000 * (n + 1 : Nat)) % (orElse (s.get (SN_VL.PERIOD n)) 100 * 10000 : Nat) == 0

def State.valuesDue (s : State) (n : Nat) : State := if s.valuesBeat n then s.formOnce n (fun s => s.valuesForm n) else s

def execValuesForm (n : Fin 8) (s : State) : Host.Outcome State Fault Refusal :=
  act s (fun s => if s.snOn then s.valuesDue n.val else s)

/-- An event's three words (R361). -/
def eventWords (e : LatEv) : List Word := [W (e.o.toNat <<< 35 + e.idx <<< 22), e.ts0, e.ts1]

/-- Lists of at most `k` elements. -/
def chunks {α : Type} (k : Nat) : Nat → List α → List (List α)
  | 0, _ => []
  | n + 1, l => if l.isEmpty then [] else l.take k :: chunks k n (l.drop k)

/-- SIGNALS telegrams of a list of events, privileged ones first. -/
def State.signalsSend (s : State) (l : List LatEv) : State :=
  let send := fun (s : State) (priv : Bool) =>
    (chunks 106 3 (l.filter (fun x => x.priv == priv))).foldl (fun (s : State) (l : List LatEv) =>
      s.formTele 2 priv (s.get SN_TXG.SIG) l.length (l.flatMap eventWords)) s
  send (send s true) false

/-- SIGNALS telegrams of the events of the first beat of work that is over. -/
def State.signalsForm (s : State) : State :=
  match s.bl.netQ with
  | [] => s
  | e :: _ =>
    if e.beat == s.workBeat then s
    else
      let now := s.bl.netQ.takeWhile (fun x => x.beat == e.beat)
      ({ s with bl := { s.bl with netQ := s.bl.netQ.dropWhile (fun x => x.beat == e.beat) } } : State).signalsSend now

def execSignalsForm (s : State) : Host.Outcome State Fault Refusal := act s (fun s => if s.snOn then s.signalsForm else s)

/-- A SIGSTATE telegram (R362). -/
def State.sigstateForm (s : State) : State :=
  let pub := (s.bl.cfg.filter (fun p => p.2.txen)).map (fun p => (p.2.txidx, s.outO p.1))
  let on := fun k => maskOf (((pub.filter (fun x => x.1 / 32 == k && x.2)).map (fun x => x.1 % 32)).dedup)
  let all := fun k => maskOf (((pub.filter (fun x => x.1 / 32 == k)).map (fun x => x.1 % 32)).dedup)
  s.formTele 3 false (s.get SN_TXG.SSTATE) 0 ((List.range 128).map (fun k => W (on k)) ++ (List.range 128).map (fun k => W (all k)))

def State.sigstateDue (s : State) : State := if s.t.usec == 250000 then s.formOnce 8 State.sigstateForm else s

def execSigstateForm (s : State) : Host.Outcome State Fault Refusal := act s (fun s => if s.snOn then s.sigstateDue else s)

/-- The ALARM telegram of the first change waiting from a beat before (R363). -/
def State.alarmForm (s : State) : State :=
  match s.sn.almQ with
  | [] => s
  | (priv, body, b) :: r =>
    if s.t.run ≤ b then s
    else ({ s with sn := { s.sn with almQ := r } } : State).formTele 4 priv (s.get SN_TXG.ALM) 1 body

def execAlarmTelegramForm (s : State) : Host.Outcome State Fault Refusal := act s (fun s => if s.snOn then s.alarmForm else s)

/-- The CALL telegram of the first event waiting from a beat before (R364). -/
def State.callForm (s : State) : State :=
  match s.sn.callQ with
  | [] => s
  | (body, b) :: r =>
    if s.t.run ≤ b then s
    else ({ s with sn := { s.sn with callQ := r } } : State).formTele 5 false (s.get SN_TXG.CALL) (body.length - 2) body

def execCallTelegramForm (s : State) : Host.Outcome State Fault Refusal := act s (fun s => if s.snOn then s.callForm else s)

/-- A STATUS telegram (R365). -/
def State.statusForm (s : State) : State :=
  let pair := W ((s.get JL_STAT.INSTEP) <<< 35 + (s.get JL_STAT.PART) <<< 34)
  s.formTele 6 false (s.get SN_TXG.STAT) 0
    [s.reg TIM_MDIG, s.reg TIM_DSTAT, s.reg SYS_ISTAT, s.almCntWord, pair, s.reg IMG_RUNDIG]

/-- The round status forms at beat-in-round 500,000 (R74). -/
def State.statusDue (s : State) : State := if s.t.usec == 500000 then s.formOnce 9 State.statusForm else s

def execStatusForm (s : State) : Host.Outcome State Fault Refusal := act s (fun s => if s.snOn then s.statusDue else s)

/-- Apply an operation a number of times. -/
def iter (f : State → State) : Nat → State → State
  | 0, s => s
  | n + 1, s => iter f n (f s)

/-- A telegram formed in this beat is one that a word has reached with a tag that fails (R35, step 5). -/
def Tele.hurtAt (t : Tele) (now : Nat) : Tele := { t with hurt := t.hurt || t.at_ == now }

/-- The telegrams of this beat are such ones. -/
def State.hurtTeles (s : State) : State :=
  { s with sn := { s.sn with txPriv := s.sn.txPriv.map (·.hurtAt s.t.run), txOrd := s.sn.txOrd.map (·.hurtAt s.t.run) } }

/-- Phase 0: every telegram due in the beat; of one beat's work, SIGNALS, ALARM and CALL in this order. -/
def State.snForm (s : State) : State :=
  if !s.snOn then s
  else
    let s := iter State.signalsForm s.bl.netQ.length s
    let s := iter State.alarmForm s.sn.almQ.length s
    let s := iter State.callForm s.sn.callQ.length s
    ((List.range 8).foldl State.valuesDue s).sigstateDue.statusDue

/-- Ports a telegram is sent on (R352). -/
def State.txPorts (s : State) : List Nat :=
  let up := [0, 1].filter (fun p => s.flag (SN_PST.LINK p))
  if s.flag SN_CFG.DUAL then up else up.take 1

/-- The telegram that is served next, the privileged queue before the other, and the queues without it (R372). -/
def State.takeTele (s : State) : Option (Tele × State) :=
  match s.sn.txPriv, s.sn.txOrd with
  | t :: r, _ => some (t, { s with sn := { s.sn with txPriv := r } })
  | [], t :: r => some (t, { s with sn := { s.sn with txOrd := r } })
  | [], [] => none

/-- A telegram as it leaves, its end-to-end check after its words (R357). -/
def Tele.sealed (t : Tele) : Tele := { t with words := t.words ++ [W (crc32c t.words)] }

/-- The first waiting telegram is sent; one of whose words a tag fails is not (R35, step 5), and counts as dropped. -/
def State.transmit (s : State) : State :=
  let ports := s.txPorts
  if ports.isEmpty then s
  else match s.takeTele with
    | none => s
    | some (t, s) =>
      if t.hurt then s.inc SN_TXCNT.DROP
      else ({ s with sn := { s.sn with sent := some (t.sealed, ports) } } : State).inc SN_TXCNT.SENT

def execTelegramTransmit (s : State) : Host.Outcome State Fault Refusal := act s (fun s => if s.snOn then s.transmit else s)

/-- A telegram that has waited 2 beats leaves (R372). -/
def State.transmitDue (s : State) : State :=
  match s.takeTele with
  | some (t, _) => if s.snOn && 2 ≤ s.since t.at_ then s.transmit else s
  | none => s

/-! ### The duplicate window (R370) -/

/-- A number in a window after taking it, or none for a duplicate. -/
def Win.accept (w : Win) (seq : Nat) (f0 f1 : Word) : Option Win :=
  let d := (seq + 2 ^ 32 - w.high) % 2 ^ 32
  let back := (w.high + 2 ^ 32 - seq) % 2 ^ 32
  if 1 ≤ d && d < 2 ^ 31 then
    some { w with
      high := seq, fts0 := f0, fts1 := f1
      seen := (w.high :: w.seen).filter (fun x => (seq + 2 ^ 32 - x) % 2 ^ 32 ≤ 64) }
  else if 1 ≤ back && back ≤ 64 then (if w.seen.contains seq then none else some { w with seen := seq :: w.seen })
  else if tsLess w.fts0 w.fts1 f0 f1 then some { w with high := seq, fts0 := f0, fts1 := f1, seen := [] }
  else none

/-- Take a telegram through the window of its source and space; at most 64 sources, the one used least recently replaced. -/
def SnS.window (sn : SnS) (src space seq : Nat) (f0 f1 : Word) : Option SnS :=
  let lru := src :: sn.lru.filter (· != src)
  let keep := lru.take 64
  let wins := sn.wins.filter (fun w => keep.contains w.src)
  match wins.find? (fun w => w.src == src && w.space == space) with
  | none => some { sn with lru := keep, wins := ⟨src, space, seq, f0, f1, []⟩ :: wins }
  | some w =>
    match w.accept seq f0 f1 with
    | none => none
    | some w' => some { sn with lru := keep, wins := wins.map (fun x => if x.src == src && x.space == space then w' else x) }

/-! ### Header fields of a telegram received (R358) -/

def hdr (t : List Word) (i : Nat) : Word := t.getD i 0
def hdrType (t : List Word) : Nat := fld (hdr t 0) 31 28
def hdrPriv (t : List Word) : Bool := wbit (hdr t 0) 27
def hdrUnit (t : List Word) : Nat := fld (hdr t 0) 26 26
def hdrAct (t : List Word) : Bool := wbit (hdr t 0) 25
def hdrCount (t : List Word) : Nat := fld (hdr t 0) 12 0
def hdrSrc (t : List Word) : Nat := fld (hdr t 1) 31 0
def hdrSeq (t : List Word) : Nat := fld (hdr t 2) 31 0

/-- Steps 2 to 5 of R369 on a datagram's words with their end-to-end check after them: the counter of the first check that fails.
One of this unit's own identity is a loopback. -/
def State.badTele (s : State) (t : List Word) : Option (Option Fld) :=
  let n := t.length - 1
  if fld (hdr t 0) 35 32 != 1 then some (some SN_RXERR.STRANGER)
  else if n < 6 || 324 < n || hdrType t == 0 || 9 ≤ hdrType t then some (some SN_RXERR.FMT)
  else if (hdr t n).toNat != crc32c (t.take n) then some (some SN_RXERR.CRC)
  else if hdrSrc t == s.get SN_ID.NID && hdrUnit t == s.unit then some none
  else none

/-- Steps 2 to 7 of R369 for a datagram of one of these types: the checks, the window, its handling. -/
def State.receive (s : State) (types : List Nat) (t : List Word) (f : State → State) : State :=
  if !s.snOn then s
  else match s.badTele t with
    | some (some c) => s.inc c
    | some none => s
    | none =>
      if !types.contains (hdrType t) then s
      else
        let space := if hdrPriv t then 0 else 1 + hdrUnit t
        match s.sn.window (hdrSrc t) space (hdrSeq t) (hdr t 3) (hdr t 4) with
        | none => s.inc SN_RXCNT.DUP
        | some sn => f (({ s with sn := sn } : State).inc SN_RXCNT.OK)

/-! ### Received signals (R373 to R375) -/

/-- Address of a received-signal entry. -/
def rxAddr (i : Nat) : Nat := 0o700000 + 8 * i

/-- Entries in use for a source and a signal: those whose words 0 and 1 name them. -/
def State.rxEntries (s : State) (src idx : Nat) : List Nat :=
  s.mem.sram.filterMap (fun p =>
    if 0o700000 ≤ p.1 && p.1 ≤ 0o777777 && p.1 % 8 == 0 && wbit p.2 35 && fld p.2 31 0 == src
        && fld (s.sramAt (p.1 + 1)) 35 24 == idx then some ((p.1 - 0o700000) / 8)
    else none)

/-- Update an entry (R374). -/
def State.rxUpdate (s : State) (i : Nat) (v : Bool) (seq : Nat) (u0 u1 r0 r1 : Word) : State :=
  let a := rxAddr i
  if tsLess u0 u1 (s.sramAt (a + 3)) (s.sramAt (a + 4)) then s
  else
    let s := s.setSram (a + 2) (W (v.toNat <<< 35 + v.toNat <<< 34 + seq))
    let s := ((s.setSram (a + 3) u0).setSram (a + 4) u1).setSram (a + 5) r0
    let s := (s.setSram (a + 6) r1).setSram (a + 7) (W (satAt 262143 (fld (s.sramAt (a + 7)) 35 18 + 1) <<< 18))
    { s with sn := { s.sn with rxAt := s.sn.rxAt.set i s.t.run } }

/-- Only what an active or privileged telegram says is applied. -/
def State.signalsFrom (s : State) (t : List Word) (f : State → State) : State :=
  if hdrAct t || hdrPriv t then f s else s.inc SN_MCNT.OBSERVER

def State.signalsRx (s : State) (t : List Word) (r0 r1 : Word) : State :=
  (List.range (min 106 (hdrCount t))).foldl (fun (s : State) (k : Nat) =>
    let a := hdr t (6 + 3 * k)
    (s.rxEntries (hdrSrc t) (fld a 33 22)).foldl (fun (s : State) (i : Nat) =>
      s.rxUpdate i (wbit a 35) (hdrSeq t) (hdr t (7 + 3 * k)) (hdr t (8 + 3 * k)) r0 r1) s) s

def execSignalsRx (t : List Word) (r0 r1 : Word) (s : State) : Host.Outcome State Fault Refusal :=
  act s (fun s => s.receive [2] t (fun s => s.signalsFrom t (fun s => s.signalsRx t r0 r1)))

def State.sigstateRx (s : State) (t : List Word) (r0 r1 : Word) : State :=
  (List.range 4096).foldl (fun (s : State) (x : Nat) =>
    if !wbit (hdr t (6 + 128 + x / 32)) (x % 32) then s
    else
      (s.rxEntries (hdrSrc t) x).foldl (fun (s : State) (i : Nat) =>
        s.rxUpdate i (wbit (hdr t (6 + x / 32)) (x % 32)) (hdrSeq t) (hdr t 3) (hdr t 4) r0 r1) s) s

def execSigstateRx (t : List Word) (r0 r1 : Word) (s : State) : Host.Outcome State Fault Refusal :=
  act s (fun s => s.receive [3] t (fun s => s.signalsFrom t (fun s => s.sigstateRx t r0 r1)))

/-- A round boundary: an entry that has had no update for AGE rounds becomes STALE (R375). -/
def State.rxStale (s : State) (i : Nat) : State :=
  let a := rxAddr i
  let w0 := s.sramAt a
  let w := s.sramAt (a + 2)
  let age := orElse (fld (s.sramAt (a + 1)) 23 16) 3 * 1000000
  if !wbit w0 35 || wbit w 33 || s.t.usec != 0 || s.since (s.sn.rxAt.getD i 0) < age then s
  else
    let st := match fld w0 33 32 with | 1 => true | 2 => wbit w 34 | _ => false
    s.setSram (a + 2) (W (setBit (setBit w.toNat 33 true) 35 st))

def execRxsigStale (i : Fin 4096) (s : State) : Host.Outcome State Fault Refusal :=
  act s (fun s => if s.snOn then s.rxStale i.val else s)

/-- Every entry in use. -/
def State.staleRound (s : State) : State :=
  if !s.snOn then s
  else
    let l := s.mem.sram.filterMap (fun p =>
      if 0o700000 ≤ p.1 && p.1 ≤ 0o777777 && p.1 % 8 == 0 && wbit p.2 35 then some ((p.1 - 0o700000) / 8) else none)
    l.foldl State.rxStale s

/-! ### The mode domain (R76, R378) -/

/-- Every node kept has agreed with its last status, and that within a round: NETMM clears (R76). -/
def State.domainAgrees (s : State) : State :=
  if s.flag TIM_MSTAT.NETMM && s.domNodes.all (fun d => d.agreed && s.since d.at_ ≤ 1000000) then
    (s.putB TIM_MSTAT.NETMM false).putMismatch
  else s

/-- Keep the round status of a node of the domain, and compare its digest with the own one. PEER takes the ISSUER field of the first
that differs in two statuses in a row (R80). -/
def State.domainStatus (s : State) (t : List Word) : State :=
  let src := hdrSrc t
  let dom := s.get TIM_MDOM.DOMAIN
  if src == s.get SN_ID.NID || fld (hdr t 0) 20 13 != dom || !hdrAct t then s
  else
    let old := s.domNodes.find? (fun d => d.src == src)
    if old.isNone && s.domNodes.length ≥ 32 then s.putB SN_STAT.NODESOVF true
    else
      let same := hdr t 6 == s.reg TIM_MDIG
      let n := if same then 0 else (old.map (·.diffs)).getD 0 + 1
      let node : DomNode := ⟨src, s.t.run, hdr t 6, n, same, dom⟩
      let s : State := { s with sn := { s.sn with dom := node :: s.domNodes.filter (fun d => d.src != src) } }
      if dom != 0 && n ≥ 2 then
        let s := if s.flag TIM_MSTAT.NETMM then s else (s.putB TIM_MSTAT.NETMM true).put TIM_MSTAT.PEER (fld (hdr t 6) 15 0)
        s.putMismatch.reissue
      else if same then s.domainAgrees
      else s

def execStatusRx (t : List Word) (s : State) : Host.Outcome State Fault Refusal :=
  act s (fun s => s.receive [6] t (fun s => s.domainStatus t))

/-- A round boundary: nodes unheard in the last 3 rounds leave the domain (R378). -/
def State.domainRound (s : State) : State :=
  ({ s with sn := { s.sn with dom := s.domNodes.filter (fun d => s.since d.at_ ≤ 3000000) } } : State).domainAgrees

/-! ### Requests (R366, R367, R376, R377) -/

/-- Word a of a request. -/
def reqA (t : List Word) : Word := hdr t 6
def reqOp (t : List Word) : Nat := fld (reqA t) 35 32
def reqId (t : List Word) : Nat := fld (reqA t) 31 16
def reqRole (t : List Word) : Nat := fld (reqA t) 15 14
def reqGrp (t : List Word) : Nat := fld (reqA t) 13 10

/-- Answer a request, counting what R379 counts. -/
def State.reply (s : State) (t : List Word) (res : Nat) (data : List Word) : State :=
  let s := if res == 1 then s.inc SN_MCNT.STALE else if res == 3 || res == 4 then s.inc SN_MCNT.BADOP else s
  if reqOp t == 1 then s else s.respond (reqOp t) (reqId t) res (hdrSrc t) (reqGrp t) data

/-- SN_MSRC register of a source. -/
def State.mgmtSource (s : State) (src : Nat) : Option Nat :=
  (List.range 16).find? (fun n => s.flag (SN_MSRC.EN n) && s.get (SN_MSRC.SRCID n) == src)

/-- What this unit does with a request it is addressed by: 0 nothing, 1 execute, 2 answer NOTACTIVE, 3 answer STALE_ROLE
(R376, items 4 to 7). -/
def State.reqShare (s : State) (t : List Word) : Nat :=
  let role := s.get JL_STAT.ROLE
  let op := reqOp t
  let cmd := op == 2 || op == 3
  match reqRole t with
  | 0 =>
    if role == 1 then 1
    else if s.pstate == 6 then (if cmd then 2 else 1)
    else 0
  | 1 => if role != 1 then 0 else if hdr t 5 != s.reg JL_EPOCH then 3 else 1
  | 2 =>
    if role != 2 then 0
    else if op == 1 then (if s.pstate == 6 then 1 else 0)
    else if hdr t 5 != s.reg JL_EPOCH then 3
    else if cmd then 2
    else 1
  | _ => if role == 1 || s.pstate == 6 then 1 else 0

/-- An ARM received over the network (R72): DOMAIN and UNTRUSTED are tested before what any arm is tested for (DESIGN CHOICE, log entry
23). -/
def State.netArm (s : State) (t : List Word) : State :=
  let cmd := hdr t 10
  if fld (hdr t 0) 20 13 != s.get TIM_MDOM.DOMAIN then s.armResult 9 0
  else if !s.flag TIM_DSTAT.TRUST then s.armResult 8 0
  else
    let a : Arm := ⟨hdr t 8, hdr t 9, fld cmd 35 32, fld cmd 31 30, fld cmd 29 14, hdrSrc t % 65536, true, 8, false⟩
    let r := s.arm a
    if r.2 && s.pstate == 2 then r.1.sendRec ⟨11, s.ph, 0, [a.target, a.arg, cmd]⟩ else r.1

/-- Words of a READ (R377): those a host may not read are zero; no field clears. -/
def State.netRead (s : State) (a n : Nat) : List Word := (List.range n).map (fun i => (s.peek (a + i)).getD 0)

/-- The words of a standby's arm that its active takes over the network, whose sender the active's own record will not name (R73). -/
def State.hearArm (s : State) (t : List Word) : State :=
  if s.replays then { s with t := { s.t with heardIss := ((hdr t 8, hdr t 10, hdrSrc t % 65536) :: s.t.heardIss).take 16 } } else s

/-- Words of a READREC. -/
def State.netRecords (s : State) (area : Bool) (idx n : Nat) : List Word :=
  (List.range n).flatMap (fun i => s.slotWords ((if area then 4096 else 0) + idx + i))

/-- The operation of a request that this unit executes. -/
def State.reqRun (s : State) (t : List Word) : State :=
  let a := hdr t 8
  let n := (hdr t 9).toNat
  let cmd : EngCmd := ⟨a, false, 1, reqId t, hdrSrc t, reqGrp t⟩
  if reqRole t == 3 then s.reply t 4 []
  else match reqOp t with
    | 1 => s.netArm t
    | 2 => s.almQueue cmd
    | 3 => if s.flag OPL_CFG.NETACC then s.oplQueue cmd else s.reply t 2 []
    | 4 => if a.toNat ≥ 2 ^ 24 || n == 0 || n > 64 then s.reply t 4 [] else (s.sramFetch 22 ((List.range n).map (a.toNat + ·))).reply t 0 (s.netRead a.toNat n)
    | 5 =>
      let area := wbit a 35
      let idx := fld a 15 0
      if n == 0 || n > 8 || idx + n > (if area then 16384 else 4096) || !s.flag ONX_STAT.READY then s.reply t 4 []
      else s.reply t 0 (s.netRecords area idx n)
    | _ => s.reply t 3 []

/-- R376 for a request with a permission bit of its source. -/
def State.request (s : State) (t : List Word) (perm : Nat → Fld) : State :=
  let tgt := fld (hdr t 7) 31 0
  if tgt != s.get SN_ID.NID && !(tgt == 0 && reqOp t == 1) then s
  else match s.mgmtSource (hdrSrc t) with
    | none => s.inc SN_MCNT.DENIED
    | some n =>
      let share := s.reqShare t
      if share == 0 then (if reqOp t == 1 && s.flag (perm n) then s.hearArm t else s)
      else if !s.flag (perm n) then s.reply t 2 []
      else if share == 3 then s.reply t 1 []
      else if share == 2 then s.reply t 5 []
      else s.reqRun t

/-- A REQUEST with one operation. -/
def State.requestRx (s : State) (op : Nat) (t : List Word) (perm : Nat → Fld) : State :=
  s.receive [7] t (fun s => if reqOp t == op then s.request t perm else s)

def execRequestArmRx (t : List Word) (s : State) : Host.Outcome State Fault Refusal :=
  act s (fun s => s.requestRx 1 t SN_MSRC.ARM)
def execRequestAlmcmdRx (t : List Word) (s : State) : Host.Outcome State Fault Refusal :=
  act s (fun s => s.requestRx 2 t SN_MSRC.CMD)
def execRequestOplcmdRx (t : List Word) (s : State) : Host.Outcome State Fault Refusal :=
  act s (fun s => s.requestRx 3 t SN_MSRC.CMD)
def execRequestReadRx (t : List Word) (s : State) : Host.Outcome State Fault Refusal :=
  act s (fun s => s.requestRx 4 t SN_MSRC.READ)
def execRequestReadrecRx (t : List Word) (s : State) : Host.Outcome State Fault Refusal :=
  act s (fun s => s.requestRx 5 t SN_MSRC.READ)

/-- A telegram that is counted and left to others; a REQUEST with an invalid OP is answered BADOP. -/
def execOtherTelegramRx (t : List Word) (s : State) : Host.Outcome State Fault Refusal :=
  act s (fun s =>
    s.receive [1, 4, 5, 7, 8] t (fun s =>
      if hdrType t == 7 && (reqOp t == 0 || reqOp t > 5) then s.request t SN_MSRC.EN else s))

/-! ### Discards (R369) -/

/-- The check that a received frame or datagram fails: 0 frame rules, 1 token, 2 format, 3 end-to-end check, 4 own identity
from another MAC, 5 loopback, 6 the tag of a word on its way into SRAM (R35, step 7; R38). -/
def State.discard (s : State) (why : Nat) : State :=
  match why with
  | 0 => s.inc SN_RXERR.MAC
  | 1 => s.inc SN_RXERR.STRANGER
  | 2 => s.inc SN_RXERR.FMT
  | 3 => s.inc SN_RXERR.CRC
  | 4 => s.putB SN_STAT.IDCONF true
  | 5 => s
  | _ => ((s.inc SN_RXERR.CRC).inc SYS_ICHK0.FAIL).integrity 7 22 0 0

def execDatagramDiscard (why : Fin 7) (s : State) : Host.Outcome State Fault Refusal :=
  act s (fun s => if s.snOn then s.discard why.val else s)

/-! ### What the passing of time brings about -/

/-- In every beat: links tried, Delay_Req and announce timeouts, a telegram sent. -/
def State.shipSweep (s : State) : State :=
  let s := [0, 1].foldl (fun (s : State) (p : Nat) => ((s.alternate p).announceOut p).delayReq p) s
  s.transmitDue

end Sys2Proof.Machine
end

