-- ==== Sys2Proof/Machine/Life.lean ====
section
/-! DEFINITION. Power-up, resets, supply supervision (chapter 19): what each class of reset clears, the steps of a cold start,
brown-out and power-fail stop. -/
namespace Sys2Proof.Machine

open Sys2Proof

/-! ### What a reset clears (R539 to R544) -/

/-- Bits of a register that a warm reset keeps: the fields marked "=". -/
def keepOf (a : Nat) : Nat := match regRow a with | some r => r.keep | none => 0

/-- The word a register takes: its kept bits as they stand, the rest at the cold-reset value. -/
def keptWord (a : Nat) (w : Word) : Word := (w &&& W (keepOf a)) ||| (regReset a &&& ~~~ W (keepOf a))

/-- A register of the calendar domain, which no reset changes (R451). -/
def isClk (a : Nat) : Bool := CLK_DATE ≤ a && a < 0o40160000

/-- Registers after a reset: those `whole` names stay, fields marked "=" are kept where `keep` says so. -/
def State.resetRegs (s : State) (keep : Bool) (whole : Nat → Bool) : State :=
  { s with regs := s.regs.filterMap (fun p =>
      if whole p.1 then some p
      else if keep && keptWord p.1 p.2 != regReset p.1 then some (p.1, keptWord p.1 p.2) else none) }

/-- A brown-out record waits (R548): every reset but a power-fail stop leaves it (R544). -/
def Trig.isBrownout (t : Trig) : Bool := t.cls == 1 && t.sub == 3

/-- Commits pause at the next word boundary, or go on (R499, R548). -/
def State.pauseCommits (s : State) (b : Bool) : State := if b then s.calPause.imgPause else s.calResume.imgResume

/-- What every class of reset loses (R544): command queues, the bus lock with the writes held by it, keyed sequences, latched
commands not yet started, FSK transactions without a completion, records not yet written. A halt ends (R499). -/
def State.loseWork (s : State) : State :=
  let s := ((s.put HST_KSTAT.HSTATE 0).put HST_KSTAT.DSTATE 0).putB HST_STAT.LOCKED false
  let s := (s.setReg HST_LOCK 0).putB SYS_DBG.HALTED false
  let s := (s.putB SYS_WDOG.FROZEN false).pauseCommits s.life.warn
  let s : State := (List.range 16).foldl (fun (s : State) (n : Nat) =>
    if (s.loOf n).fq.isEmpty then s
    else (s.put (LO_FST.QD n) 0).put (LO_FST.MSTATE n) (if s.get (LO_FST.MSTATE n) == 5 then 5 else 0)) s
  { s with
    hst := { s.hst with keyH := 0, keyD := 0, lockAge := 0, held := [], sysTaken := [], haltedLate := false }
    leg := { s.leg with wq := [], viaQ := false }
    alm := { s.alm with cmds := [] }
    opl := { s.opl with cmds := [] }
    lo := s.lo.map (fun (p : Nat × LoS) => (p.1, { p.2 with fq := [], carrier := false, tries := 0 }))
    onx := { s.onx with
      trigs := s.onx.trigs.filter (·.isBrownout), queue := s.onx.queue.filter (·.trig.isBrownout)
      chalReq := none, clrCmd := false }
    img := { s.img with keyCmd := 0, chalReq := none, commit := s.img.commit && s.get IMG_CRES.STEP != 0 }
    cal := { s.cal with cmt := false, cmd := 0 } }

/-- Every island and engine without its content; of the recorder the brown-out record. -/
def State.loseIslands (s : State) : State :=
  let z := State.reset
  { s with
    t := { s.t with slotArg := [], slotIss := [], issuedTag := none }
    mem := { s.mem with pend := [] }
    onx := { OnxS.fresh with trigs := s.onx.trigs, queue := s.onx.queue, scanAt := s.t.run }
    sn := z.sn, jl := z.jl, cache := [], chan := [], isl := [], tblLock := false, cal := z.cal, bl := z.bl, alm := z.alm
    opl := z.opl, lo := [], dio := [], spd := [], img := z.img, leg := z.leg }

/-- What a reset of class 1 to 5 makes of the life-cycle state. The condition of SAFE cause 1 holds until an apply replaces the
lattice's copy (R37), that of cause 6 while its warning stands; no other condition outlives the reset. -/
def Life.reset (l : Life) (c now : Nat) : Life :=
  { l with
    held := if c ≤ 3 then 0 else c
    rclass := c, deferred := none, examined := false, heldAt := now, applied := false, upAt := now, supAt := none, rise := 0, fell := false, det := 0
    conds := l.conds &&& (if c == 1 || c == 3 then 2 else 66)
    warn := l.warn && c != 1 && c != 3 }

/-- A cold reset of class 1 to 3: MRAM and the calendar domain stay. -/
def State.coldReset (s : State) (c : Nat) : State :=
  let cut := s.flag IMG_STAT.PREPCUT
  let s := (s.loseWork.loseIslands.resetRegs false isClk).put SYS_RSTAT.RCLASS c
  let s := s.putB IMG_STAT.PREPCUT cut
  { s with
    life := { s.life.reset c s.t.run with
      boot := if c == 1 then .settling else if c == 2 then .settled else .off
      stopped := c == 3 }
    pins := { s.pins with ppsOut := false, pgOut := c == 2 && s.pins.pgOut }
    t := { s.t with
      beat := 0, round := 0, usec := 0, phase := 0, repoch := 0, due := false, wave := 0, heardIss := []
      disc := { Disc.fresh with holdAt := s.t.run } }
    mem := { s.mem with sram := [], sramBad := [], scrubAt := 0, patrols := 0, phaseW := [], deaf := 0 }
    hst := HostS.fresh
    onx := if c == 2 then s.onx else { OnxS.fresh with scanAt := s.t.run } }

/-- Blocks a soft reset leaves unchanged (R540): HST, the debug port's register, lane state, TIM_DSTAT. -/
def softKept (a : Nat) : Bool :=
  (0o40170000 ≤ a && a ≤ 0o40177777) || a == SYS_DBG || a == SN_PST 0 || a == SN_PST 1 || a == SN_STAT || a == TIM_DSTAT

/-- A warm (4) or soft (5) reset begins: SRAM and node time with its discipline stay. SAFECAUSE reads 0 until it ends (R44,
R553). -/
def State.warmReset (s : State) (c : Nat) : State :=
  let soft := c == 5
  let cause := s.get SYS_MODE.SAFECAUSE
  let ran := s.flag IMG_STAT.RUNNING || s.img.ranBefore
  let lanes := (s.get JL_STAT.LNKA, s.get JL_STAT.LNKB)
  let s1 := s.loseWork
  let s := s1.loseIslands.resetRegs true (fun a =>
    isClk a || a == SYS_STRAP || a == TIM_DSTAT || a == TIM_OFFS || a == TIM_FADJ || (soft && softKept a))
  let s := ((s.put SYS_RSTAT.RCLASS c).put SYS_MODE.RSTCAUSE cause).putB IMG_STAT.RUNNING false
  let s : State :=
    if soft then
      let s := ((s.putBit SYS_ISTAT.ALIVE 27 true).put JL_STAT.LNKA lanes.1).put JL_STAT.LNKB lanes.2
      { s with
        sn := { s.sn with ptp := s1.sn.ptp, tries := s1.sn.tries }
        jl := { s.jl with link := { s.jl.link with lockA := s1.jl.link.lockA, lockB := s1.jl.link.lockB } } }
    else { s.put TIM_DSTAT.STEPS 0 with hst := HostS.fresh }
  let s : State := { s with
    img := { s.img with ranBefore := ran }
    mem := { s.mem with phaseW := [], deaf := 0 }
    life := { s.life.reset c s.t.run with boot := .timed } }
  s

/-- A register of the blocks that a resync restarts (R541). -/
def resyncs (a : Nat) : Bool := (BL_STAT ≤ a && a < LO_STAT) || (JL_STAT ≤ a && a < ONX_STAT)

/-- A resync reset begins (R541): lattice, alarm engine, Opal and pair engine restart; the running image is to be applied
again at the first round boundary after the reset. -/
def State.resyncReset (s : State) : State :=
  let z := State.reset
  let hours := s.jl.opRoundRole
  let s := (s.loseWork.resetRegs true (fun a => !resyncs a)).put SYS_RSTAT.RCLASS 6
  let s : State := { s with hst := { s.hst with wq := [] } }
  ({ s with
    bl := z.bl, alm := z.alm, opl := z.opl, jl := { z.jl with opRoundRole := hours }
    img := { s.img with resync := true }
    life := { s.life with held := 6, heldAt := s.t.run, deferred := none } } : State).raise HST_ISRC.ROLE

/-- A reset of a class begins. -/
def State.startReset (s : State) (c : Nat) : State :=
  if c ≤ 3 then s.coldReset c else if c ≤ 5 then s.warmReset c else s.resyncReset

/-- A commanded reset (R543): a driving unit with its partner in JOINED first releases control. -/
def State.commandReset (s : State) (c : Nat) : State :=
  if s.pstate == 2 && s.get JL_STAT.PARTNER == 5 then
    let s := s.giveUp 6
    match s.jl.relAt, s.life.deferred with
    | some r, none => { s with life := { s.life with deferred := some (c, r + 3) } }
    | some _, some (c0, b) => { s with life := { s.life with deferred := some (min c c0, b) } }
    | none, _ => s.startReset c
  else s.startReset c

/-! ### The cold start (R545) -/

/-- Step 1. -/
def execPowerOn (s : State) : Host.Outcome State Fault Refusal :=
  done (
    if s.life.boot != .off then s
    else
      let c := if s.life.stopped then 3 else 1
      let s := s.coldReset c
      { s with life := { s.life with boot := .settling, stopped := false } })

/-- Step 2: the calendar domain changes over to VSUP (R437), PG_OUT goes high unless a warning stands. -/
def execAlwaysOnSettled (s : State) : Host.Outcome State Fault Refusal :=
  done (
    if s.life.boot != .settling then s
    else
      let s := s.put CLK_STAT.SUPPLY 0
      { s with life := { s.life with boot := .settled }, pins := { s.pins with pgOut := !s.life.warn } })

/-- Reset values of the legacy settings that the personality fixes. -/
def State.legacyDefaults (s : State) : State :=
  let s := (s.setReg LEG_BCFG (regReset LEG_BCFG)).putB LEG_STAT.COMPAT s.compat
  let s := ((s.put LEG_BCFG.MODE s.compat.toNat).putB LEG_BCFG.TXEN s.compat).putB LEG_BCFG.ACKIN s.compat
  (s.setReg (LEG_KNOWN 0) (regReset (LEG_KNOWN 0))).setReg (LEG_KNOWN 1) (regReset (LEG_KNOWN 1))

/-- The settings kept in the user persistent area, where they are valid (R536). -/
def State.legacyLoad (s : State) : State :=
  let w := s.mramWords 0o16510000 5
  if w.headD 0 == 0o515446420064#36 && fld (w.getD 4 0) 31 0 == crc32c (w.take 4) then
    ((s.setReg LEG_BCFG (w.getD 1 0 &&& W (implOf LEG_BCFG))).setReg (LEG_KNOWN 0) (w.getD 2 0 &&& W (implOf (LEG_KNOWN 0)))).setReg
      (LEG_KNOWN 1) (w.getD 3 0 &&& W (implOf (LEG_KNOWN 1)))
  else s

/-- Step 3: straps sampled (R2, R3), node time loaded (R53). `osc` is how many cycles the calendar's oscillator
has counted since the command before. -/
def execColdResetEnd (compat unit : Bool) (osc : BitVec 16) (s : State) : Host.Outcome State Fault Refusal :=
  done (
    if s.life.boot != .settled then s
    else
      let s := (s.putB SYS_STRAP.COMPAT compat).putB SYS_STRAP.UNIT unit
      let s := (s.oscillate osc).loadTime.legacyDefaults
      ({ s with life := { s.life with boot := .timed } } : State).showCause)

/-- Step 4: every island is powered, and the legacy settings are read. -/
def execIslandsPowered (s : State) : Host.Outcome State Fault Refusal :=
  done (
    if s.life.boot != .timed || s.life.held != 0 then s
    else
      let s := (s.put SYS_ISTAT.ALIVE (2 ^ 29 - 1)).legacyDefaults.legacyLoad
      { s with life := { s.life with boot := .powered, upAt := s.t.run }, onx := { s.onx with scanAt := s.t.run } })

/-- RST_N low for 10 µs. A cold reset in progress from a lower class goes on (R542); without supply nothing happens. -/
def execPinReset (s : State) : Host.Outcome State Fault Refusal :=
  done (
    match s.life.boot with
    | .off => s
    | .settling | .settled =>
      if s.life.rclass ≤ 2 then s
      else ({ s with life := { s.life with rclass := 2 } } : State).put SYS_RSTAT.RCLASS 2
    | _ => s.coldReset 2)

/-- REL + 3 of a deferred reset has come (R543). -/
def State.deferredReset (s : State) : State :=
  match s.life.deferred with
  | some (c, b) => if b ≤ s.t.run then s.startReset c else s
  | none => s

def execDeferredResetStart (s : State) : Host.Outcome State Fault Refusal := act s State.deferredReset

/-- Beats for which a class holds its reset (R539). -/
def holdBeats (c : Nat) : Nat := if c == 4 then 1000 else 100

/-- The hold time of a warm, soft or resync reset ends; from then on SAFECAUSE shows what holds (R553). -/
def State.holdEnd (s : State) : State :=
  if s.life.held == 0 || s.since s.life.heldAt < holdBeats s.life.held then s
  else
    let t : State := { s with life := { s.life with held := 0 } }
    if s.life.held == 6 then t else t.showCause

def execResetHoldEnd (s : State) : Host.Outcome State Fault Refusal := done s.holdEnd

/-- The keyed RESYNC command (R414). -/
def State.jlResync (s : State) : State :=
  if s.pstate != 8 then s.jlResult 3 else (s.jlResult 0).commandReset 6

def execJlResync (s : State) : Host.Outcome State Fault Refusal := act s State.jlResync

/-- MRAM words that the examination reads: both copies of the key, both calibration banks, both image banks (R551). -/
def examines (a : Nat) : Bool :=
  (keyBase 0 ≤ a && a < keyBase 1 + 64) || (calBase 0 ≤ a && a < calBase 1 + calSize) || (imgBase 0 ≤ a && a < imgBase 1 + imgSize)

/-- MRAM is examined: key store, calibration banks, image banks (R551); each word read with an uncorrectable pattern is reported (R35,
step 8). -/
def State.examine (s : State) : State :=
  if s.life.examined || !s.imgUp then s
  else
    let s := ({ s with life := { s.life with examined := true } } : State).mramFetch 26 (s.mem.mramBad.filter examines)
    s.showKey.calSelect.imgSelect

/-- The examination has ended 1,100,000 beats after the controller's start (R469, R545). -/
def State.examineOver (s : State) : State := if 1100000 ≤ s.since s.life.upAt then s.examine else s

def execMramExamination (s : State) : Host.Outcome State Fault Refusal := act s State.examine

/-! ### The supply (R548, R549) -/

/-- VSUP has been below VWARN for 50 µs. -/
def execBrownoutWarning (s : State) : Host.Outcome State Fault Refusal :=
  done (
    if s.life.boot == .off || s.life.warn then s
    else
      let s : State := { s with life := { s.life with warn := true, warnAt := s.t.run }, pins := { s.pins with pgOut := false } }
      let s := s.pauseCommits true
      if s.up then (s.trigNow 1 3 0 (s.reg SYS_MODE) 0).giveUp 4 else s)

/-- VSUP has been above VWARN + VHYS for 1 ms: a paused commit goes on unless the processor is halted. -/
def execBrownoutEnd (s : State) : Host.Outcome State Fault Refusal :=
  done (
    if !s.life.warn || (s.timed && s.since s.life.warnAt < 1000) then s
    else
      let s : State := { s with
        life := { s.life with warn := false }
        pins := { s.pins with pgOut := s.life.boot != .off && s.life.boot != .settling } }
      (s.pauseCommits (s.flag SYS_DBG.HALTED)).causeOff 6)

/-- The warning has lasted 20 ms. -/
def State.brownoutSafe (s : State) : State :=
  if s.life.warn && s.timed && 20000 ≤ s.since s.life.warnAt && !s.holds 6 then s.causeOn 6 else s

def execBrownoutSafeTimeout (s : State) : Host.Outcome State Fault Refusal := done s.brownoutSafe

/-- The power-fail stop: outputs in their start-up state, no further MRAM write, a cold reset of class 3 held until VSUP rises
through VON again. It comes during a warning; which of the two moments of the rule has come, the supply alone knows. -/
def execPowerFailStop (s : State) : Host.Outcome State Fault Refusal :=
  done (if s.life.boot == .off || !s.life.warn then s else s.coldReset 3)

end Sys2Proof.Machine
end

