-- ==== Sys2Proof/Machine/Port.lean ====
section
/-! DEFINITION. The interconnect and the paths into the memory map: memory ports with their checks (R22 to R26, R35), reads with
their side effects and snapshots (R484 to R486), writes and the moment they take effect (R33), keyed sequences (R488 to R490),
the bus lock (R491, R492). -/
namespace Sys2Proof.Machine

open Sys2Proof

/-! ### Memory ports -/

/-- What a port finds at an address, errors listed for the access. -/
def upsetAt (ups : List UpsetAt) (a : Nat) : Upset := ((ups.find? (·.addr.toNat == a)).map (·.kind)).getD .clean

/-! ### Reads (R31, R484 to R486) -/

/-- Words captured together with the word that starts their group (R485). -/
def snapGroup (a : Nat) : List Nat :=
  if a == TIM_NOW0 then [TIM_NOW1, TIM_NOW2, TIM_NOW3]
  else if TIM_SLOT_W0 0 ≤ a && a ≤ TIM_SLOT_W0 15 && (a - TIM_SLOT_W0 0) % 2 == 0 then [a + 1]
  else if a == BL_DIGB then [BL_DIG]
  else if ALM_PT_W0 0 ≤ a && a ≤ ALM_PT_W0 1023 && (a - ALM_PT_W0 0) % 2 == 0 then [a + 1]
  else if a == OPL_STAT then [OPL_CALLED, OPL_LEFT]
  else if LO_FST 0 ≤ a && a ≤ LO_FST 15 then [LO_FCNT (a - LO_FST 0)]
  else if a == DIO_STATE then [DIO_RAW, DIO_CHAT, DIO_STUCK]
  else if SPD_PST 0 ≤ a && a ≤ SPD_PST 7 then [SPD_PER (a - SPD_PST 0)]
  else if a == JL_STAT then [JL_EPOCH, JL_PSEQ]
  else if a == ONX_SEQ then [ONX_CSEQ, ONX_PCC, ONX_OPR]
  else if a == CLK_DATE then [CLK_TIME]
  else if a == IMG_STAT then [IMG_SEQA, IMG_SEQB, IMG_RUNDIG, IMG_RUNSEQ]
  else []

/-- Captures of a path. -/
def State.snaps (s : State) (p : Path) : Tbl Word :=
  match p with | .debug => s.hst.snapD | .twoWire => s.hst.snapM | _ => s.hst.snapH
def State.setSnaps (s : State) (p : Path) (t : Tbl Word) : State :=
  match p with
  | .debug => { s with hst := { s.hst with snapD := t } }
  | .twoWire => { s with hst := { s.hst with snapM := t } }
  | _ => { s with hst := { s.hst with snapH := t } }

/-- A host read clears the RC fields of a word (R31, R484). -/
def State.clearRc (s : State) (a : Nat) : State :=
  match regRow a with
  | some r => if r.rc == 0 then s else s.setReg a (s.reg a &&& ~~~ W r.rc)
  | none => s

/-- A backup word that fails its check reads zero, with its BKERR bit, until it is next written (R442). -/
def State.bkRead (s : State) (a : Nat) (u : Upset) : State :=
  match idxIn a (CLK_BK 0) 16, u with
  | none, _ => s
  | _, .clean => s
  | some _, .multiPasses v => s.setReg a v
  | some i, _ => (s.setReg a 0).putBit CLK_STAT.BKERR i true

/-- A read of a register by a path: its capture where it has one, else the word as it stands, capturing the group it starts.
Host reads clear. -/
def State.regRead (s : State) (p : Path) (a : Nat) (u : Upset) : State × Word :=
  let s := s.bkRead a u
  match (s.snaps p).get? a with
  | some w => (s, w)
  | none =>
    let w := s.view a
    let g := snapGroup a
    let s := s.setSnaps p (g.foldl (fun t x => t.set x (s.view x)) (s.snaps p))
    (if p == .host then (a :: g).foldl State.clearRc s else s, w)

/-- One read by a path, under the host rules (R28, R29, R484). A word answered without its target carries the tag of the zero
word. -/
def State.readAcc (s : State) (p : Path) (a : Nat) (u : Upset) : State × OutWord :=
  let out := fun (r : State × Word × Byte × Nat) => (r.1, (⟨if r.2.2.2 ≤ 1 then 0xA else 0x5, r.2.1, r.2.2.1, r.2.2.2⟩ : OutWord))
  let no := fun (c : Nat) => out (s, (0 : Word), tagOf 0, c)
  if isSram a then
    if s.deaf a then no 4 else if (sramRight a).isNone then no 5 else
      let r := s.sramRead a u 27
      out (if r.2.2.2 == 2 then r else let v := sramShown a r.2.1; (r.1, v, tagOf v, r.2.2.2))
  else if isMram a then
    if s.deaf a then no 4 else if isKeyStore a then no 5 else out (s.mramRead a u 27)
  else if isReg a then
    if s.deaf a then no 4
    else let r := s.regRead p a u; out (r.1, r.2, tagOf r.2, 0)
  else no 6

/-! ### What a register write does (R33, R486) -/

/-- Registers written at a round boundary (R33). -/
def mgmtReg (a : Nat) : Bool :=
  [TIM_DISC, TIM_MINLEAD, TIM_MDOM, TIM_PPSO, CAL_CFG, OPL_CFG, SN_PCFG 0, SN_PCFG 1, SN_ID, SN_IP, SN_CFG, SN_TXG,
    JL_CFG, JL_REFD, JL_REFL, JL_DCFG, JL_ALM, JL_LAY, ONX_CFG, CLK_CFG, CLK_UTC, IMG_CFG].contains a
  || (match idxIn a (FI_CFG 0) 4096 with | some o => o % 256 == 0 || (8 ≤ o % 256 && o % 256 ≤ 15) | none => false)
  || (match idxIn a (ALM_GCFG 0) 128 with | some o => o % 2 == 0 | none => false)
  || (SN_GRP_W0 0 ≤ a && a ≤ SN_GRP_W1 15) || (SN_VL 0 ≤ a && a < SN_VL 8) || (SN_MSRC 0 ≤ a && a < SN_MSRC 16)
  || (ONX_CCFGX 0 ≤ a && a < ONX_CCFG 5)

/-- The register word after a write: read-write fields take the word, fields of write-1-to-clear the bits not written as 1, all
others stay. -/
def State.written (s : State) (a : Nat) (w : Word) : Word :=
  match regRow a with
  | some r => ((s.reg a &&& ~~~ W r.rw) ||| (w &&& W r.rw)) &&& ~~~ (w &&& W r.w1c)
  | none => 0

/-- Writes held at the locked word proceed, in order of arrival (R492). -/
def State.unhold (s : State) : State :=
  let l := s.hst.held
  let s : State := { s with hst := { s.hst with held := [] } }
  l.foldl (fun (s : State) (h : HeldWr) =>
    let s := s.setSram h.addr h.w
    if h.path == .debug then { s with hst := { s.hst with dbgState := 2, dbgResp := 0 } } else s) s

/-- The lock ends. -/
def State.unlock (s : State) : State :=
  let s := (s.putB HST_LOCK.HELD false).putB HST_STAT.LOCKED false
  ({ s with hst := { s.hst with lockAge := 0 } } : State).unhold

/-- A write of HST_LOCK. -/
def State.lockWrite (s : State) (w : Word) : State := if wbit w 34 && s.flag HST_LOCK.HELD then s.unlock else s

/-- The effect of a write of a register that is not a WK register. -/
def State.regWrite (s : State) (a : Nat) (w : Word) : State :=
  if s.deaf a || (regRow a).isNone then s
  else
    let v := s.written a w
    match unitList.find? (fun u => u < 19 && tsyncAddr u == a) with
    | some u => s.tsync u (fld w 31 0)
    | none =>
      match idxIn a (FI_STRIG 0) 4096, idxIn a (CAL_WIN 0) 64, idxIn a (BL_CFORCE 0) 8, idxIn a (DIO_DUTY 0) 32, idxIn a (CLK_BK 0) 16 with
      | some o, _, _, _, _ =>
        if o % 256 == 0 then s.strig (o / 256) (fld w 7 0) else s.confWrite a v
      | _, some i, _, _, _ => s.calWinWrite i w
      | _, _, some n, _, _ => s.cellForce n w
      | _, _, _, some n, _ => s.dutyWrite n (fld w 17 0)
      | _, _, _, _, some i => (s.setReg a v).putBit CLK_STAT.BKERR i false
      | none, none, none, none, none =>
        if a == TIM_LCMD then s.lcmd (fld w 35 32) (fld w 31 30) (fld w 29 14)
        else if a == SYS_HTOLOG then (if wbit w 35 then s.setReg a 0 else s)
        else if a == ALM_TSYNC then s.almTsync (wbit w 35) (fld w 9 0)
        else if a == OPL_TSYNC then (if wbit w 35 then s.oplTsync else s)
        else if a == CAL_CMD then s.calCmdWrite (fld w 3 0)
        else if a == ALM_CMD then s.almCmdWrite (w &&& W (implOf a)) false
        else if a == OPL_CMD then s.oplCmdWrite (w &&& W (implOf a)) false
        else if a == OPL_DUTY then s.oplCmdWrite (oplWord 3 (fld w 3 0)) false
        else if a == OPL_AWAY then s.oplCmdWrite (oplWord 4 (fld w 15 0)) false
        else if a == LO_FREQ then s.fskRequest (fld w 35 32) (fld w 8 0)
        else if a == DIO_OFLT then s.ofltWrite (fld w 31 0)
        else if a == ONX_HTRIG then s.hostTrigger w
        else if a == ONX_RDSEL then s.rdselWrite (wbit w 35) (fld w 13 0)
        else if a == ONX_CHREQ then s.chalRequest
        else if a == CLK_CMD then s.clkCommand (fld w 35 32) (fld w 15 0)
        else if a == IMG_CMD then s.imgCommand (fld w 3 0)
        else if a == IMG_WDATA then s.imgData w
        else if a == IMG_KCHREQ then s.keyChalRequest
        else if IMG_KNEW 0 ≤ a && a ≤ IMG_KNEW 7 then s.setReg a (w &&& W (implOf a))
        else if a == HST_LOCK then s.lockWrite w
        else if a == HST_KEY then s
        else if a == LEG_BCFG then ((s.setReg a v).putB (LEG_PST.OWN 0) false).putB (LEG_PST.OWN 1) false
        else s.confWrite a v

/-! ### Keyed sequences (R7, R488 to R490) -/

/-- The two words of a keyed sequence (R7). -/
def key1 : Word := 0o525252525252#36
def key2 : Word := 0o252525252525#36

/-- A register that a keyed sequence commands. -/
def isWk (a : Nat) : Bool := match regRow a with | some r => r.wk != 0 | none => false

/-- Key state of a path: 0 IDLE, 1 K1, 2 K2; and the beats since its t0. -/
def keyFld (p : Path) : Fld := if p == .debug then HST_KSTAT.DSTATE else HST_KSTAT.HSTATE
def State.keyState (s : State) (p : Path) : Nat := s.get (keyFld p)
def State.keyAge (s : State) (p : Path) : Nat := if p == .debug then s.hst.keyD else s.hst.keyH
def State.setAge (s : State) (p : Path) (n : Nat) : State :=
  if p == .debug then { s with hst := { s.hst with keyD := n } } else { s with hst := { s.hst with keyH := n } }

/-- An event that sets LAST, with its interrupt source (R490). -/
def State.keyLast (s : State) (p : Path) (last a : Nat) : State :=
  (((s.put HST_KSTAT.LAST last).putB HST_KSTAT.LPATH (p == .debug)).put HST_KSTAT.LADDR a).raise HST_ISRC.KEY

/-- A sequence not completed within 64 beats (R489). -/
def State.keyExpire (s : State) (p : Path) : State :=
  if s.keyState p == 0 || s.keyAge p < 64 then s else ((s.put (keyFld p) 0).setAge p 0).keyLast p 2 0

/-- A write of a path acts on its key state (R488); the flag says that a command is taken. `live` is false for a write that was
refused. -/
def State.keyStep (s : State) (p : Path) (a : Nat) (w : Word) (live : Bool) : State × Bool :=
  let s := s.keyExpire p
  let idle := (s.put (keyFld p) 0).setAge p 0
  if a == HST_KEY && w == key1 && live then ((s.put (keyFld p) 1).setAge p 0, false)
  else match s.keyState p with
    | 0 => (if isWk a && live then s.keyLast p 4 a else s, false)
    | 1 => if a == HST_KEY && w == key2 && live then (s.put (keyFld p) 2, false) else (idle.keyLast p 3 a, false)
    | _ => if isWk a && live then (idle.keyLast p 1 a, true) else (idle.keyLast p 3 a, false)

/-- A taken command is latched into its register and acts under that register's rule (R490). -/
def State.takeCommand (s : State) (a : Nat) (w : Word) : State :=
  if s.deaf a then s
  else if a == SYS_CMD then { s with hst := { s.hst with sysTaken := s.hst.sysTaken ++ [w] } }
  else if a == CAL_CMT then (if w == 1 then s.calCommit s.imageBusy else s)
  else if a == ALM_KCMD then s.almCmdWrite w true
  else if a == OPL_KCMD then s.oplCmdWrite w true
  else if a == JL_CMD then (if w == 1 then s.jlGiveup else if w == 2 then s.jlResync else if w == 3 then s.jlSwapArm else s)
  else if a == ONX_CLR then s.clearCommand w
  else if a == IMG_CMT then (if w == 1 then s.imgCommit else s)
  else if a == IMG_KCMD then s.keyCommand w
  else s

/-! ### Writes (R27 to R33, R396, R580) -/

/-- Tables and the rota region are closed while an image is prepared, and until the reloads of an apply end (R98, R463). -/
def State.tableClosed (s : State) (a : Nat) : Bool := isTable a && (s.tblLock || s.flag IMG_STAT.PREP)

/-- Places whose host writes the active carries to its standby (R396). -/
def carriedPlace (a : Nat) : Bool :=
  isTable a ||
    (isReg a && [2, 4, 5, 6, 7, 8, 9].contains ((a - 0o40000000) / 4096)
      && !([ALM_CMD, ALM_KCMD, OPL_CMD, OPL_KCMD, OPL_DUTY, OPL_AWAY].contains a))

/-- A write of a memory word or register that is acknowledged: carried to the partner, taken here unless this unit is a standby
that the write reached first. -/
def State.carry (s : State) (p : Path) (a : Nat) (w : Word) (f : State → State) : State :=
  if !carriedPlace a || p == .engine then f s
  else if s.replays && p != .carried then s.sendRec ⟨10, s.ph, 0, [W a, w]⟩
  else f (s.record ⟨10, s.ph, 0, [W a, w]⟩)

/-- Put a write in the list of those that wait for their moment. -/
def State.await (s : State) (a : Nat) (w : Word) (p : Path) (req : Nat) (live : Bool) : State :=
  { s with mem := { s.mem with pend := s.mem.pend ++ [⟨a, w, p, req, s.phaseNo, live, false⟩] } }

/-- A register write that is acknowledged: TIM_LTGT, TIM_LARG and TIM_LCMD at once, all others at their plane's moment. -/
def State.regAccept (s : State) (p : Path) (a : Nat) (w : Word) (req : Nat) : State :=
  if a == TIM_LTGT || a == TIM_LARG || a == TIM_LCMD then (s.await a w p req false).regWrite a w
  else if s.replays && carriedPlace a && p != .carried && p != .engine then (s.carry p a w id).await a w p req false
  else s.carry p a w (fun s => s.await a w p req true)

/-- One write by a path, with its response (R21): memory at once, registers at their moment. -/
def State.writeCore (s : State) (p : Path) (a : Nat) (w : Word) (tagOk : Bool) (req : Nat) : State × Nat :=
  let key := fun (s : State) => s.await a w p req false
  let store := fun (s : State) => s.phaseStore req a (fun s => if isSram a then s.sramStore a w tagOk req else s.mramStore a w tagOk req)
  if isSram a then
    if s.deaf a then (key s, 4)
    else if p == .engine then (if isFreeHost a && s.lockedAt a then s.freeWrite p a w else store s, 0)
    else match sramRight a with
      | some true =>
        if (p == .twoWire && !isFreeHost a) || s.tableClosed a then (key s, 5)
        else if isFreeHost a && p != .host && s.lockedAt a then (key (s.freeWrite p a w), 0)
        else (key (s.carry p a w store), 0)
      | _ => (key s, 5)
  else if isMram a then
    if s.deaf a then (key s, 4)
    else if isUserMram a || p == .engine then (key (store s), 0)
    else (key s, 5)
  else if isReg a then
    if s.deaf a then (key s, 4)
    else if p == .twoWire then (s, 5)
    else if !tagOk then (key (s.inc SYS_ICHK3.FAIL), 2)
    else (s.regAccept p a w req, 0)
  else (key s, 6)

/-- HST_WRES and WERR: the first write answered otherwise than OK since its last host read (R483). -/
def State.wres (s : State) (code a : Nat) : State :=
  if s.flag HST_WRES.VALID then s
  else (((s.putB HST_WRES.VALID true).put HST_WRES.RESULT code).put HST_WRES.ADDR a).raise HST_ISRC.WERR

/-- A write of the host port. -/
def State.hostWrite (s : State) (a : Nat) (w : Word) : State :=
  let r := s.writeCore .host a w true 27
  if r.2 == 0 then r.1 else r.1.wres r.2 a

/-! ### The moments of waiting writes (R33) -/

/-- Phase 0 of a beat: each waiting write acts on the key state of its path; a taken command is latched, a data-plane write
takes effect, a management-plane write goes on waiting. -/
def State.pendBeat (s : State) : State :=
  let l := s.mem.pend
  let s : State := { s with mem := { s.mem with pend := l.filter (·.waits) } }
  (orderWr (l.filter (!·.waits))).foldl (fun (s : State) (p : PendWr) =>
    let r := if p.path == .host || p.path == .debug then s.keyStep p.path p.addr p.w p.live else (s, false)
    let s := r.1
    if !p.live then s
    else if isWk p.addr then (if r.2 then s.takeCommand p.addr p.w else s)
    else if mgmtReg p.addr then { s with mem := { s.mem with pend := s.mem.pend ++ [{ p with waits := true }] } }
    else s.regWrite p.addr p.w) s

/-- A round boundary: management-plane writes take effect; those of a halted processor wait (R499). -/
def State.pendRound (s : State) : State :=
  if s.flag SYS_DBG.HALTED then s
  else
    let l := s.mem.pend
    let s : State := { s with mem := { s.mem with pend := l.filter (!·.waits) } }
    (l.filter (·.waits)).foldl (fun (s : State) (p : PendWr) => s.regWrite p.addr p.w) s

/-- Sequences and the lock grow older by a beat. -/
def State.ageKeys (s : State) : State :=
  let up := fun (p : Path) (n : Nat) => if s.keyState p == 0 then 0 else min 64 (n + 1)
  { s with hst := { s.hst with
      keyH := up .host s.hst.keyH, keyD := up .debug s.hst.keyD
      lockAge := if s.flag HST_LOCK.HELD then min 16 (s.hst.lockAge + 1) else 0 } }

end Sys2Proof.Machine
end

