-- ==== Sys2Proof/Machine/Host.lean ====
section
/-! DEFINITION. The host port, the 2-wire port and the debug port (chapter 17), register writes and keyed sequences as commands of
their own, and the carried writes of the pair (R396). -/
namespace Sys2Proof.Machine

open Sys2Proof

/-! ### Service -/

/-- The ports are served: from step 4 of the start, except in a warm reset, while no boundary-scan instruction is in force
(R496, R540, R547). -/
def State.served (s : State) : Bool :=
  (s.up || (s.life.boot == .timed && s.life.rclass == 5)) && !s.flag SYS_DBG.SCAN && s.alive 27

/-- The native framing is decoded (R504). -/
def State.native (s : State) : Bool := s.served && !s.compat

/-- A command of the host port. -/
def hostAct (s : State) (f : State → State) : Host.Outcome State Fault Refusal := done (if s.native then f s else s)
def portAct (s : State) (f : State → State) : Host.Outcome State Fault Refusal := done (if s.served then f s else s)

/-! ### Write queue (R481 to R483) -/

/-- The first word of the queue is executed. -/
def State.execute1 (s : State) : State :=
  match s.hst.wq with
  | [] => s
  | h :: r => ({ s with hst := { s.hst with wq := r } } : State).hostWrite h.addr h.w

/-- A read waits until every earlier write has been acknowledged. -/
def State.drain (s : State) : State := s.hst.wq.foldl (fun (s : State) _ => s.execute1) s

/-- A write word arrives. -/
def State.enqueue (s : State) (a : Nat) (w : Word) : State :=
  if s.hst.wq.length ≥ 64 then ((s.putB HST_STAT.WOVF true).inc HST_ERRCNT.WOVFS).wres 10 a
  else { s with hst := { s.hst with wq := s.hst.wq ++ [⟨a, w⟩] } }

/-- A checked write word arrives with its tag (R479). -/
def State.enqueueChecked (s : State) (a : Nat) (w : Word) (tag : Byte) : State :=
  if tag == tagOf w then s.enqueue a w
  else ((s.putB HST_STAT.TAGERR true).inc HST_ERRCNT.TAGERRS).wres 9 a

/-- Address of word i of a transaction. -/
def stepAddr (a : Addr) (i : Nat) : Nat := (a + BitVec.ofNat 24 i).toNat

/-- A transaction with an unlisted opcode (R477). -/
def State.badOp (s : State) : State := { s.putB HST_STAT.BADOP true with hst := { s.hst with out := [] } }

/-- A plain opcode is treated as unlisted (R503). -/
def State.noPlain (s : State) : Bool := s.flag HST_CFG.CHKREQ

/-- A header check that fails (R479). -/
def State.headerBad (s : State) : State := (s.putB HST_STAT.HDRERR true).inc HST_ERRCNT.HDRERRS

/-- Words answered in a read whose header check failed. -/
def badWords (n : Nat) : List OutWord := List.replicate n ⟨0x5, 0, 0, 6⟩

/-- What a transaction returns. -/
def State.give (s : State) (l : List OutWord) : State := { s with hst := { s.hst with out := l } }

/-- A word in plain form: without tag and response, zero where the response is neither OK nor CORRECTED (R478, R480). -/
def OutWord.plain (o : OutWord) : OutWord := ⟨o.marker, if o.resp ≤ 1 then o.w else 0, 0, 0⟩

/-- Read words one after the other. -/
def readRun (p : Path) (ups : List UpsetAt) (a : Addr) : Nat → Nat → State → State × List OutWord
  | _, 0, s => (s, [])
  | i, n + 1, s =>
    let x := stepAddr a i
    let r := s.readAcc p x (upsetAt ups x)
    let t := readRun p ups a (i + 1) n r.1
    (t.1, r.2 :: t.2)

/-! ### Transactions (R477, R478) -/

def execHostRead (a : Addr) (n : BitVec 12) (ups : List UpsetAt) (s : State) : Host.Outcome State Fault Refusal :=
  hostAct s (fun s =>
    if s.noPlain then s.badOp
    else let r := readRun .host ups a 0 n.toNat s.drain; r.1.give (r.2.map OutWord.plain))

def execHostReadChecked (check : Byte) (a : Addr) (n : BitVec 12) (ups : List UpsetAt) (s : State) :
    Host.Outcome State Fault Refusal :=
  hostAct s (fun s =>
    if check != headerCheck 0x0B a then s.headerBad.give (badWords n.toNat)
    else let r := readRun .host ups a 0 n.toNat s.drain; r.1.give r.2)

/-- Words of a write transaction, at rising addresses or all at one. -/
def State.writePlain (s : State) (a : Addr) (fixed : Bool) (l : List Word) : State :=
  if s.noPlain then s.badOp
  else (l.zipIdx.foldl (fun (s : State) (p : Word × Nat) => s.enqueue (if fixed then a.toNat else stepAddr a p.2) p.1) s).give []

def State.writeChecked (s : State) (op check : Byte) (a : Addr) (fixed : Bool) (l : List (Word × Byte)) : State :=
  if check != headerCheck op a then s.headerBad.give []
  else (l.zipIdx.foldl (fun (s : State) (p : (Word × Byte) × Nat) =>
    s.enqueueChecked (if fixed then a.toNat else stepAddr a p.2) p.1.1 p.1.2) s).give []

def execHostWrite (a : Addr) (l : List Word) (s : State) : Host.Outcome State Fault Refusal :=
  hostAct s (fun s => s.writePlain a false l)
def execHostWriteChecked (check : Byte) (a : Addr) (l : List (Word × Byte)) (s : State) : Host.Outcome State Fault Refusal :=
  hostAct s (fun s => s.writeChecked 0x12 check a false l)
def execHostWriteFixed (a : Addr) (l : List Word) (s : State) : Host.Outcome State Fault Refusal :=
  hostAct s (fun s => s.writePlain a true l)
def execHostWriteFixedChecked (check : Byte) (a : Addr) (l : List (Word × Byte)) (s : State) : Host.Outcome State Fault Refusal :=
  hostAct s (fun s => s.writeChecked 0x32 check a true l)

/-- A queued word is executed. -/
def execHostWriteExecute (s : State) : Host.Outcome State Fault Refusal := portAct s State.execute1

/-- READ STATUS and READ ID (R477). -/
def execHostReadStatus (s : State) : Host.Outcome State Fault Refusal :=
  hostAct s (fun s => let s := s.drain; s.give [⟨0xA, s.view HST_STAT, 0, 0⟩])
def execHostReadId (s : State) : Host.Outcome State Fault Refusal :=
  hostAct s (fun s => let s := s.drain; s.give [⟨0xA, s.view SYS_ID, 0, 0⟩])

/-- Opcodes of R477. -/
def opcodes : List Byte := [0x03, 0x0B, 0x02, 0x12, 0x22, 0x32, 0x13, 0x1A, 0x05, 0x9F]

def execHostBadOpcode (op : Byte) (s : State) : Host.Outcome State Fault Refusal :=
  hostAct s (fun s => if opcodes.contains op then s else s.badOp)

/-- HST_CS_N rises inside a word: nothing of a write word remains; a read that was issued has taken place (R482). -/
def execHostCsRise (issued : Bool) (a : Addr) (ups : List UpsetAt) (s : State) : Host.Outcome State Fault Refusal :=
  hostAct s (fun s => if issued then (s.drain.readAcc .host a.toNat (upsetAt ups a.toNat)).1 else s)

/-! ### The lock (R491, R492) -/

/-- The lock is broken. -/
def State.breakLock (s : State) : State :=
  if !s.flag HST_LOCK.HELD then s
  else ((s.putB HST_STAT.LOCKBRK true).raise HST_ISRC.LOCK).inc HST_ERRCNT.LOCKBRKS |>.unlock

/-- A lock that has stood for 16 beats is broken before anything else acts on it. -/
def State.lockCheck (s : State) : State := if s.hst.lockAge ≥ 16 then s.breakLock else s

def execHostReadLock (check : Byte) (a : Addr) (ups : List UpsetAt) (s : State) : Host.Outcome State Fault Refusal :=
  hostAct s (fun s =>
    if check != headerCheck 0x13 a then s.headerBad.give (badWords 1)
    else
      let s := s.drain.lockCheck
      if !isFreeHost a.toNat || s.flag HST_LOCK.HELD then s.give [⟨0x5, 0, tagOf 0, 5⟩]
      else
        let r := s.readAcc .host a.toNat (upsetAt ups a.toNat)
        let s := ((r.1.putB HST_LOCK.HELD true).put HST_LOCK.ADDR a.toNat).putB HST_STAT.LOCKED true
        ({ s with hst := { s.hst with lockAge := 0 } } : State).give [r.2])

def execHostWriteUnlock (check : Byte) (a : Addr) (w : Word) (tag : Byte) (s : State) : Host.Outcome State Fault Refusal :=
  hostAct s (fun s =>
    if check != headerCheck 0x1A a then s.headerBad.give []
    else
      let s := s.drain.lockCheck.give []
      if tag != tagOf w then ((s.putB HST_STAT.TAGERR true).inc HST_ERRCNT.TAGERRS).wres 9 a.toNat
      else if s.lockedAt a.toNat then (s.hostWrite a.toNat w).unlock
      else s.wres 8 a.toNat)

def execLockBreak (s : State) : Host.Outcome State Fault Refusal := portAct s State.lockCheck

/-- Phase 0: sequences that have had their 64 beats end, and a lock that has had its 16. -/
def State.portSweep (s : State) : State := ((s.keyExpire .host).keyExpire .debug).lockCheck

/-- A host write of 1 to HST_LOCK.REL takes effect. -/
def execLockRelease (s : State) : Host.Outcome State Fault Refusal :=
  portAct s (fun s => (s.consume HST_LOCK (W (2 ^ 34))).lockWrite (W (2 ^ 34)))

/-! ### Register writes and keyed sequences as commands (R33, R488, R489) -/

/-- The write of a register takes effect. -/
def execRegisterWrite (a : Addr) (w : Word) (s : State) : Host.Outcome State Fault Refusal :=
  portAct s (fun s => let s := s.consume a.toNat w; if isWk a.toNat then s else s.regWrite a.toNat w)

/-- A write of HST_KEY takes effect. -/
def execKeyWordWrite (debug : Bool) (w : Word) (s : State) : Host.Outcome State Fault Refusal :=
  portAct s (fun s =>
    let p := if debug then Path.debug else Path.host
    let s : State := { s with mem := { s.mem with
      pend := s.mem.pend.eraseP (fun x => x.addr == HST_KEY && x.w == w && x.path == p && !x.waits) } }
    (s.keyStep p HST_KEY w true).1)

/-- 64 beats have passed since t0. -/
def execKeySequenceExpiry (debug : Bool) (s : State) : Host.Outcome State Fault Refusal :=
  portAct s (fun s => s.keyExpire (if debug then .debug else .host))

/-! ### The records of a crosslink frame (R389, R395, R396, R404) -/

/-- A CARRY record: in a standby the carried write applies; in the active it is executed as a host write, and goes back by the
first path. -/
def State.carryRec (s : State) (a : Nat) (w epoch : Word) : State :=
  if epoch != s.reg JL_EPOCH then s.staleItem
  else if !carriedPlace a then s
  else if s.replays || s.pstate == 2 then (s.writeCore .carried a w true 23).1
  else s

/-- In a standby a CARRY record belongs to a beat of work. -/
def execCarryRecordRx (a : Addr) (w epoch : Word) (s : State) : Host.Outcome State Fault Refusal :=
  act s (fun s =>
    if !s.pairOn then s
    else if s.replays && epoch == s.reg JL_EPOCH then s.replayAdd ⟨10, 0, 0, [W a.toNat, w]⟩
    else s.carryRec a.toNat w epoch)

/-- What a record of a frame does on its arrival; `stale` says that the frame was of another epoch. The records of a beat of work wait
for it in a standby. -/
def State.recNow (s : State) (f : JFrame) (stale : Bool) (x : JRec) : State :=
  let w := fun i => x.words.getD i 0
  match x.rtype with
  | 9 => if s.pstate == 2 && f.kind == 2 then s.cmdRec (bit x.typ 23) (bit x.typ 22) (w 0) f.epoch else if stale then s.staleItem else s
  | 10 => if s.pstate == 2 && f.kind == 2 then s.carryRec (bits (w 0).toNat 23 0) (w 1) f.epoch else if stale then s.staleItem else s
  | 11 => s.armRec (w 0) (w 1) (w 2) f.epoch
  | 12 => if bits x.typ 23 20 == 4 then s.stateRec 4 (bits x.typ 15 0) x.words else s
  | 14 => s.verdRec (bits x.typ 2 0) (w 0)
  | 15 => if s.pstate ≤ 2 || (s.pstate == 3 && s.jl.joinStep == 1) then s.joinRec x.words else s
  | _ => s

def execCrosslinkFrameRx (lane : Bool) (f : JFrame) (arr : Word) (s : State) : Host.Outcome State Fault Refusal :=
  act s (fun s =>
    let stale := f.epoch != s.reg JL_EPOCH
    let r := s.frameRx lane f arr
    if r.2 then f.recs.foldl (fun (s : State) (x : JRec) => s.recNow f stale x) r.1 else r.1)

/-- What a record of the beat of work does in a standby, its inputs and commands apart. -/
def State.recWork (s : State) (x : JRec) : State :=
  let w := fun i => x.words.getD i 0
  match x.rtype with
  | 10 => s.carryRec (bits (w 0).toNat 23 0) (w 1) (s.reg JL_EPOCH)
  | 12 => if bits x.typ 23 20 == 4 then s else s.stateRec (bits x.typ 23 20) (bits x.typ 15 0) x.words
  | 15 => if s.pstate == 3 && s.jl.joinStep == 1 then s else s.joinRec x.words
  | _ => s

/-- Phase 0 of a standby's beat: carried writes, the rolling copy and the image of the active's beat of work (R395, R412, R468). -/
def State.replayWork (s : State) : State :=
  if !s.replays || s.still then s
  else match s.jl.link.replay.find? (fun b => b.beat == s.workBeat) with
    | some b => b.recs.foldl State.recWork s
    | none => s

/-! ### The 2-wire port (R493, R494) -/

/-- The port takes part in the bus. -/
def State.mgOn (s : State) : Bool := s.flag HST_MGCFG.EN && !s.flag HST_MGSTAT.HOLDOFF

def State.mgGive (s : State) (l : List OutWord) : State := { s with hst := { s.hst with mgOut := l } }

def execMgRead (a : Addr) (count : Byte) (ups : List UpsetAt) (s : State) : Host.Outcome State Fault Refusal :=
  portAct s (fun s =>
    if !s.mgOn then s
    else if count.toNat == 0 || count.toNat > 32 then s.mgGive []
    else let r := readRun .twoWire ups a 0 count.toNat s; r.1.mgGive r.2)

/-- Words written once the PEC has passed. -/
def execMgWrite (a : Addr) (l : List Word) (pecOk : Bool) (s : State) : Host.Outcome State Fault Refusal :=
  portAct s (fun s =>
    if !s.mgOn then s
    else if !pecOk then (s.putB HST_MGSTAT.PECERR true).inc HST_MGSTAT.PECERRS
    else if l.length > 32 then s
    else l.zipIdx.foldl (fun (s : State) (p : Word × Nat) => (s.writeCore .twoWire (stepAddr a p.2) p.1 true 27).1) s)

def execMgStatus (s : State) : Host.Outcome State Fault Refusal :=
  portAct s (fun s => if s.mgOn then s.mgGive [⟨0xA, s.view HST_MGSTAT, 0, 0⟩] else s)

/-- A line has been low for 35 ms. -/
def execMgBusStuck (s : State) : Host.Outcome State Fault Refusal :=
  portAct s (fun s =>
    if !s.flag HST_MGCFG.EN then s
    else
      let s := ((s.putB HST_MGSTAT.STUCK true).putB HST_MGSTAT.HOLDOFF true).inc HST_MGSTAT.STUCKS
      ({ s with hst := { s.hst with mgAt := s.t.run } } : State).raise HST_ISRC.MG |>.mgGive [])

/-- Both lines have been high together for 1,000,000 beats, which the port's leaving of the bus precedes. -/
def execMgHoldoffEnd (s : State) : Host.Outcome State Fault Refusal :=
  portAct s (fun s => if s.since s.hst.mgAt < 1000000 then s else s.putB HST_MGSTAT.HOLDOFF false)

/-! ### The debug port (R495 to R499) -/

/-- The test access port has power. -/
def tapAct (s : State) (f : State → State) : Host.Outcome State Fault Refusal := done (if s.life.boot == .off then s else f s)

/-- An instruction is loaded; `scan` says that it is a boundary-scan instruction that takes the balls (R496). -/
def State.loadIr (s : State) (code : Nat) (scan : Bool) : State :=
  ({ s with hst := { s.hst with ir := code } } : State).putB SYS_DBG.SCAN scan

/-- EXTEST, CLAMP and HIGHZ are accepted only in SAFE or while starting; else BYPASS is loaded (R496). -/
def State.scanIr (s : State) (code : Nat) : State :=
  if s.starting || s.mode == 3 then s.loadIr code true else (s.loadIr 31 false).putB SYS_DBG.REFUSED true

def execTapReset (s : State) : Host.Outcome State Fault Refusal := tapAct s (fun s => s.loadIr 2 false)
def execJtagExtest (s : State) : Host.Outcome State Fault Refusal := tapAct s (fun s => s.scanIr 0)
def execJtagSamplePreload (s : State) : Host.Outcome State Fault Refusal := tapAct s (fun s => s.loadIr 1 false)
def execJtagIdcode (s : State) : Host.Outcome State Fault Refusal := tapAct s (fun s => s.loadIr 2 false)
def execJtagClamp (s : State) : Host.Outcome State Fault Refusal := tapAct s (fun s => s.scanIr 3)
def execJtagHighz (s : State) : Host.Outcome State Fault Refusal := tapAct s (fun s => s.scanIr 4)
def execJtagDbgacc (s : State) : Host.Outcome State Fault Refusal := tapAct s (fun s => s.loadIr 8 false)
def execJtagDbgctl (s : State) : Host.Outcome State Fault Refusal := tapAct s (fun s => s.loadIr 9 false)
def execJtagBypass (s : State) : Host.Outcome State Fault Refusal := tapAct s (fun s => s.loadIr 31 false)

/-- A 66-bit access is shifted in: taken with DBGACC selected and no access busy. -/
def State.dbgReady (s : State) : Bool := s.hst.ir == 8 && s.hst.dbgState != 1

def execDebugRead (a : Addr) (ups : List UpsetAt) (s : State) : Host.Outcome State Fault Refusal :=
  portAct s (fun s =>
    if !s.dbgReady then s
    else
      let r := s.readAcc .debug a.toNat (upsetAt ups a.toNat)
      { r.1 with hst := { r.1.hst with dbgState := 2, dbgAddr := a.toNat, dbgResp := r.2.resp, dbgData := r.2.w } })

/-- A debug write; at a locked word it stays busy until the lock ends (R491). -/
def execDebugWrite (a : Addr) (w : Word) (s : State) : Host.Outcome State Fault Refusal :=
  portAct s (fun s =>
    if !s.dbgReady then s
    else
      let busy := isFreeHost a.toNat && s.lockedAt a.toNat
      let r := (s.inc SYS_DBG.DWRITES).writeCore .debug a.toNat w true 27
      { r.1 with hst := { r.1.hst with dbgState := if busy then 1 else 2, dbgAddr := a.toNat, dbgResp := r.2, dbgData := w } })

/-- HALT (R498, R499): accepted in MAINTENANCE or SAFE, while starting, or with HALTOK. -/
def execDebugHalt (s : State) : Host.Outcome State Fault Refusal :=
  portAct s (fun s =>
    if s.hst.ir != 9 || s.flag SYS_DBG.HALTED then s
    else if !(s.mode == 2 || s.mode == 3 || s.starting || s.flag SYS_DBG.HALTOK) then s.putB SYS_DBG.REFUSED true
    else
      let late := s.flag SYS_WDOG.EXP
      let s := (s.putB SYS_DBG.HALTED true).putB SYS_WDOG.FROZEN (!late)
      ({ s with hst := { s.hst with haltedLate := late } } : State).pauseCommits true)

/-- RESUME: the processor goes on, commits with it unless a warning stands. -/
def execDebugResume (s : State) : Host.Outcome State Fault Refusal :=
  portAct s (fun s =>
    if s.hst.ir != 9 || !s.flag SYS_DBG.HALTED then s
    else
      let s := (s.putB SYS_DBG.HALTED false).putB SYS_WDOG.FROZEN false
      ({ s with hst := { s.hst with haltedLate := false } } : State).pauseCommits s.life.warn)

/-! ### SYS_CMD (R501, R502) -/

def State.sysResult (s : State) (r : Nat) : State := s.put SYS_CRES.RESULT r

/-- SAFE exit (R502): the host's own cause ends with the command; any other that holds refuses it. -/
def State.safeExit (s : State) : State :=
  if s.starting then s.sysResult 3
  else if s.mode != 3 then s.sysResult 1
  else
    let s := s.causeOff 4
    if lowestCause s.life.conds != 0 then s.sysResult 2
    else
      let lead := s.minlead 0
      (s.sysResult 0).issue ⟨s.t.beat + W lead, 2, 0, 0, 0, s.ownIssuer, false, lead, true⟩

/-- A SYS_CMD word acts. -/
def State.sysCommand (s : State) (w : Word) : State :=
  match w.toNat with
  | 1 => (s.sysResult 0).causeOn 4
  | 2 => s.safeExit
  | 3 => (s.sysResult 0).commandReset 4
  | 4 => (s.sysResult 0).commandReset 5
  | 5 => (s.sysResult 0).putB SYS_DBG.HALTOK true
  | 6 => (s.sysResult 0).putB SYS_DBG.HALTOK false
  | _ => s.sysResult 4

/-- A SYS_CMD command as one of its own: a taken one of its value has its effect now. -/
def State.sysNow (s : State) (w : Word) : State :=
  ({ s with hst := { s.hst with sysTaken := s.hst.sysTaken.erase w } } : State).sysCommand w

def execSysEnterSafe (s : State) : Host.Outcome State Fault Refusal := portAct s (fun s => s.sysNow 1)
def execSysSafeExit (s : State) : Host.Outcome State Fault Refusal := portAct s (fun s => s.sysNow 2)
def execSysWarmReset (s : State) : Host.Outcome State Fault Refusal := portAct s (fun s => s.sysNow 3)
def execSysSoftReset (s : State) : Host.Outcome State Fault Refusal := portAct s (fun s => s.sysNow 4)
def execSysHaltokSet (s : State) : Host.Outcome State Fault Refusal := portAct s (fun s => s.sysNow 5)
def execSysHaltokClear (s : State) : Host.Outcome State Fault Refusal := portAct s (fun s => s.sysNow 6)
def execSysInvalidCmd (w : Word) (s : State) : Host.Outcome State Fault Refusal :=
  portAct s (fun s => if 1 ≤ w.toNat && w.toNat ≤ 6 then s else s.sysNow w)

/-- Taken commands act at the beat after. -/
def State.sysBeat (s : State) : State :=
  let l := s.hst.sysTaken
  l.foldl State.sysCommand { s with hst := { s.hst with sysTaken := [] } }

/-! ### The interconnect (R15 to R21, R579) -/

/-- A transfer's outcome as the requester sees it. -/
def State.answer4 (s : State) (w : Word) (tag : Byte) (resp : Nat) : State :=
  { s with mem := { s.mem with lastWord := w, lastTag := tag, lastResp := resp } }

/-- A read by an island: without side effects. -/
def State.islandRead (s : State) (req a : Nat) (u : Upset) : State :=
  let old := fun (p : PhaseWr) =>
    if p.bad then s.answer4 p.old (poisonTag p.old) 2 else s.answer4 (sramShown a p.old) (tagOf (sramShown a p.old)) 0
  if s.deaf a then s.answer4 0 (tagOf 0) 4
  else if isSram a then
    match s.phaseOld req a with
    | some p => old p
    | none =>
      let r := s.sramRead a u req
      if r.2.2.2 == 2 then r.1.answer4 r.2.1 r.2.2.1 2
      else let v := sramShown a r.2.1; r.1.answer4 v (tagOf v) r.2.2.2
  else if isMram a then
    match s.phaseOld req a with
    | some p => old p
    | none => let r := s.mramRead a u req; r.1.answer4 r.2.1 r.2.2.1 r.2.2.2
  else if isReg a then s.answer4 (s.view a) (tagOf (s.view a)) 0
  else s.answer4 0 (tagOf 0) 6

/-- A transfer (R17): a read, or a write of a word with its tag. The host port's transfers follow the host rules. A word
read may arrive with a tag that fails (R49). -/
def execInterconnectRequest (req : Fin 29) (a : Addr) (wr : Option (Word × Byte)) (u : Arrival) (s : State) :
    Host.Outcome State Fault Refusal :=
  act s (fun s =>
    let s := if u.hurt && wr.isNone then s.inc SYS_ICHK3.FAIL else s
    match wr with
    | none =>
      if req.val == 27 then let r := s.readAcc .host a.toNat u.upset; r.1.answer4 r.2.w r.2.tag r.2.resp
      else s.islandRead req.val a.toNat u.upset
    | some (w, tag) =>
      let r := s.writeCore (if req.val == 27 then .host else .engine) a.toNat w (tag == tagOf w) req.val
      (if req.val == 27 && r.2 != 0 then r.1.wres r.2 a.toNat else r.1).answer4 0 0 r.2)

/-- An island's bit has fallen: SAFE cause 3 is detected at phase 0 of the beat after (R44, R579). -/
def State.islandFell (s : State) (i : Nat) : State :=
  if s.used i && dataIslands.contains i then { s with life := { s.life with fell := true } } else s

/-- That beat has come. -/
def State.fellBeat (s : State) : State :=
  if !s.life.fell then s
  else
    let s : State := { s with life := { s.life with fell := false } }
    if s.deadUsed then s.causeOn 3 else s

/-- No acknowledge within HTO_BEATS: TIMEOUT for the requester, the first one logged, the target marked not alive (R19, R20,
R48). -/
def State.timeout (s : State) (req a : Nat) (write : Bool) : State :=
  let tgt := match targetOf a with | some i => i | none => if isSram a then 29 else 30
  let s := s.answer4 0 (poisonTag 0) 3
  let s :=
    if s.flag SYS_HTOLOG.VALID then s.putB SYS_HTOLOG.OVF true
    else ((((s.putB SYS_HTOLOG.VALID true).put SYS_HTOLOG.REQ req).put SYS_HTOLOG.TGT tgt).put SYS_HTOLOG.ADDR a).raise HST_ISRC.HTO
  let s := if req == 27 then (if write then s.wres 3 a else s.give [⟨0x5, 0, poisonTag 0, 3⟩]) else s
  if tgt < 29 then (s.putBit SYS_ISTAT.ALIVE tgt false).islandFell tgt
  else { s with mem := { s.mem with deaf := setBit s.mem.deaf (tgt - 29) true } }

/-- HTO_BEATS as it stood a number of beats ago; below 8 it acts as 8 (R47). -/
def State.htoThen (s : State) (age : Nat) : Nat :=
  let r := s.t.run - age
  max 8 (((s.hst.hto.reverse.find? (fun p => r < p.1)).map (·.2)).getD (s.get SYS_HTO.HTO_BEATS))

/-- The timeout of a request. `req` is none for the status read that the always-on domain issues at phase
0 of a round boundary to every used island (R579). -/
def execHandshakeTimeout (req : Option (Fin 29)) (a : Addr) (issue : Issue) (s : State) :
    Host.Outcome State Fault Refusal :=
  act s (fun s =>
    let age := issue.age.toNat
    let mapped := isSram a.toNat || isMram a.toNat || isReg a.toNat
    let poll := match targetOf a.toNat with | some i => s.used i && !issue.write && s.t.usec == age | none => false
    if s.deaf a.toNat || !mapped || age < s.htoThen age then s
    else match req with
      | some r => s.timeout r.val a.toNat issue.write
      | none => if poll then s.timeout 30 a.toNat false else s)

/-- An island's own supply fails (R91, R579). -/
def execIslandSupplyLoss (i : Fin 29) (s : State) : Host.Outcome State Fault Refusal :=
  act s (fun s =>
    if !s.alive i.val then s
    else
      let s := s.putBit SYS_ISTAT.ALIVE i.val false
      (if i.val < 19 || i.val == 20 || i.val == 21 then s.loseCopies i.val else s).islandFell i.val)

/-- An island completes a handshake of its own (R20, R46): an unused one that is being powered up counts as used from now. -/
def State.islandBack (s : State) (i : Nat) : State :=
  if s.alive i || !(s.used i || bit s.life.rise i) then s
  else
    let s := (s.putBit SYS_ISTAT.ALIVE i true).putBit SYS_IUSE.USE i true
    let s : State := { s with life := { s.life with rise := setBit s.life.rise i false } }
    let s := s.emptyWords i 15
    if s.holds 3 && !s.deadUsed then s.causeOff 3 else s

/-- A target completes a handshake of its own: an island, 29 the SRAM port, 30 the always-on registers. -/
def execIslandHandshakeRestore (i : Fin 31) (s : State) : Host.Outcome State Fault Refusal :=
  act s (fun s =>
    if i.val < 29 then s.islandBack i.val else { s with mem := { s.mem with deaf := setBit s.mem.deaf (i.val - 29) false } })

/-- The management processor tests the unused islands at a round boundary (R46): one that has become used is powered up. -/
def State.powerUp (s : State) : State :=
  if s.procStopped then s
  else { s with life := { s.life with rise := maskOf ((List.range 29).filter (fun i => !s.used i && s.shouldUse i)) } }

/-- The patrol reads every MRAM word (R25); an uncorrectable error in the running image's bank or the calibration bank in force
is shown (R169, R472). -/
def execMramPatrol (ups : List UpsetAt) (s : State) : Host.Outcome State Fault Refusal :=
  act s (fun s =>
    if !s.imgUp then s
    else
      let old := s.mem.mramBad
      let s := old.foldl (fun (s : State) (a : Nat) => (s.mramRead a .clean 26).1) s
      let s := ups.foldl (fun (s : State) (u : UpsetAt) =>
        if isMram u.addr.toNat && !old.contains u.addr.toNat then (s.mramRead u.addr.toNat u.kind 26).1 else s) s
      let inBank := fun (lo n : Nat) => s.mem.mramBad.any (fun a => lo ≤ a && a < lo + n)
      let s := if s.flag IMG_STAT.RUNNING && inBank (imgBase (s.get IMG_STAT.RUNBANK)) imgSize then s.putB IMG_STAT.INFBAD true else s
      let s := if !s.flag CAL_STAT.NOVALID && inBank (calBase (s.get CAL_STAT.INFORCE)) calSize then s.putB CAL_STAT.INFBAD true else s
      { s with mem := { s.mem with patrols := s.mem.patrols + 1 } })

/-- The processor has missed its round tasks for 2 rounds in a row outside a halt (R500); the pair engine is told at once
(R400). -/
def State.watchdogExpire (s : State) : State :=
  if s.flag SYS_DBG.HALTED || s.flag SYS_WDOG.EXP || s.hst.missed < 2 then s
  else
    let s := ((s.putB SYS_WDOG.EXP true).put SYS_WDOG.ROUNDS 0).inc SYS_WDOG.EXPS
    ({ s with hst := { s.hst with expRun := s.t.run - s.t.usec } } : State).giveUp 2

def execWatchdogExpiry (s : State) : Host.Outcome State Fault Refusal := act s State.watchdogExpire

/-- 4 rounds after the round boundary of expiry without resumption (R34). -/
def State.watchdogSafe (s : State) : State :=
  if s.flag SYS_WDOG.EXP && !s.holds 2 && 4000000 ≤ s.since s.hst.expRun then s.causeOn 2 else s

def execWatchdogSafeTimeout (s : State) : Host.Outcome State Fault Refusal := act s State.watchdogSafe

end Sys2Proof.Machine
end

