-- ==== Sys2Proof/Machine/Legacy.lean ====
section
/-! DEFINITION. Compatibility mode (chapter 18): the legacy framing, the register map and its translation engine, and the legacy
alarm bus. -/
namespace Sys2Proof.Machine

open Sys2Proof

/-- The legacy framing is decoded (R504). -/
def State.quoster (s : State) : Bool := s.served && s.compat

def quosterAct (s : State) (f : State → State) : Host.Outcome State Fault Refusal := done (if s.quoster then f s else s)

def State.setLeg (s : State) (l : LegS) : State := { s with leg := l }

/-! ### Values (R510 to R512) -/

/-- Engineering value to legacy unit: offset taken off, then scale. -/
def legOffset (u : Nat) : Rat := if u == 0 then 5463 / 20 else 0
def legScale (u : Nat) : Rat :=
  match u with | 0 => 10 | 1 => 1 / 1000 | 2 => 1000 | 3 => 10000 | 4 => 1000 | 5 => 1000000 | 6 => 10 | _ => 1

/-- Saturation at −32767 and +32767, as a 16-bit word. -/
def leg16 (v : Int) : Nat := unsign 16 (max (-32767) (min 32767 v))

/-- The legacy value of a value field of a unit class. -/
def legValue (u : Nat) (v : Int) : Nat := leg16 (roundRat (((v : Rat) * lsbOf u - legOffset u) * legScale u))

/-- QVAL of a quantity word (R510). -/
def qvalOf (u : Nat) (w : Word) : Nat := if qBad (qOf w) && qOf w != 10 && qOf w != 11 then 0x8000 else legValue u (vOf w)

/-- The inverse (R511). -/
def legBack (u v : Nat) : Int := roundRat (((signed 16 v : Rat) / legScale u + legOffset u) / lsbOf u)

/-- CODE of a quality (R512). -/
def qstsCode (q : Nat) : Nat :=
  match q with | 8 => 1 | 9 => 2 | 10 => 3 | 11 => 4 | 12 => 5 | 13 => 6 | 14 => 5 | 15 => 5 | 3 => 5 | 7 => 5 | _ => 0

def State.qsts (s : State) (c : Nat) : Nat :=
  let q := qOf (s.mirror c)
  qstsCode q <<< 12 + q <<< 8 + (q == 4 || q == 5 || q == 6).toNat <<< 7 + (q == 1 || q == 2).toNat <<< 6
    + (s.bitOf (FI_LBITS.LHI (c / 8)) (c % 8)).toNat <<< 5 + (s.bitOf (FI_LBITS.LLO (c / 8)) (c % 8)).toNat <<< 4

def State.qval (s : State) (c : Nat) : Nat := qvalOf (s.entry c).uclass (s.mirror c)

/-! ### The map as read (R513 to R520) -/

/-- QMODE (R515). -/
def State.qmode (s : State) : Nat := if s.mode == 3 || s.starting then 2 else if s.mode == 2 then 1 else 0

/-- Seconds from 1990-01-01 to 2000-01-01 (R517). -/
def legEpoch : Nat := 315532800
def State.qtime (s : State) : Nat := (s.t.round.toNat + 2 ^ 36 - s.get CLK_UTC.UTCOFS) % 2 ^ 36 + legEpoch

/-- QALM state code of a native state (R518). -/
def qalmCode (st : Nat) : Nat := match st with | 4 => 4 | 5 => 4 | 6 => 5 | n => n

def State.qalm (s : State) (n : Nat) : Nat :=
  let e := s.almEnt n
  let w := s.almPstWord n
  qalmCode (fld w 35 33) <<< 13 + (bit w.toNat (ALM_PST.FO n).lo).toNat <<< 12 + e.pri <<< 9 + e.group <<< 3

def State.qgrp (s : State) (g : Nat) : Nat :=
  let w := s.almGstWord g
  let v := bit w.toNat (ALM_GST.FOVALID g).lo
  let p := if v then fld w (ALM_GST.FOPT g).hi (ALM_GST.FOPT g).lo else 0
  fld w 34 33 <<< 14 + v.toNat <<< 13 + (min p 127) <<< 6 + (decide (p > 127)).toNat <<< 5

/-- The first enabled point below 128 of a group. -/
def State.legPoints (s : State) (g : Nat) : List Nat := (s.groupPoints g).filter (· < 128)

def State.qdly (s : State) (g : Nat) : Nat :=
  match s.legPoints g with
  | [] => 0xFFFF
  | n :: _ => if (s.almEnt n).f 8 23 0 != 0 then 0xFFFF else (s.almEnt n).f 2 35 24 / 10

/-- An adopted limit: word 4 the high one, word 5 the low one (R519). -/
def State.qlimit (s : State) (c w : Nat) : Nat :=
  let e := s.entry c
  if e.b w 35 then legValue e.uclass (e.v w) else 0x8000

def State.qspd (s : State) (n : Nat) : Nat :=
  let w := s.mirror (0o260 + n)
  if (s.entry (176 + n)).spdClass != 6 || qBad (qOf w) then 0x8000 else leg16 (roundRat ((vOf w : Rat) * lsbOf 6 * 60))

def State.qao (s : State) (m : Nat) : Nat :=
  let w := s.mirror (0o200 + m)
  if qBad (qOf w) then 0x8000 else leg16 (roundDiv (vOf w) 10000)

/-- Sixteen discrete points from one on. -/
def State.qdisc (s : State) (base : Nat) : Nat :=
  maskOf ((List.range 16).filter (fun n => fld (s.mirror (0o220 + base + n)) 31 0 != 0))

/-- A legacy register as it reads. -/
def State.legWord (s : State) (a : Nat) : Nat :=
  if a == 0 then s.qstat
  else if a == 1 then 0x0640
  else if a == 2 then 0x0103
  else if a == 3 then s.qmode
  else if a == 4 then (if bit (s.get LEG_STAT.QSTAT) 9 then s.get ALM_CRES.RESULT else 0)
  else if a == 0x10 then s.qtime / 65536 % 65536
  else if a == 0x11 then s.leg.snapT.getD (s.qtime % 65536)
  else if 0x100 ≤ a && a < 0x140 then s.qval (a - 0x100)
  else if 0x140 ≤ a && a < 0x180 then s.qsts (a - 0x140)
  else if a == 0x300 then s.qdisc 0
  else if a == 0x301 then s.qdisc 16
  else if 0x310 ≤ a && a < 0x314 then s.qao (a - 0x310)
  else if 0x320 ≤ a && a < 0x322 then s.qspd (a - 0x320)
  else if 0x400 ≤ a && a < 0x480 then s.qalm (a - 0x400)
  else if 0x480 ≤ a && a < 0x490 then s.qgrp (a - 0x480)
  else if 0x500 ≤ a && a < 0x540 then s.qlimit (a - 0x500) 4
  else if 0x540 ≤ a && a < 0x580 then s.qlimit (a - 0x540) 5
  else if 0x600 ≤ a && a < 0x610 then s.qdly (a - 0x600)
  else 0

/-- The RC bits of QSTAT clear. -/
def State.qstatClear (s : State) : State := ((s.putBit LEG_STAT.QSTAT 15 false).putBit LEG_STAT.QSTAT 11 false).putBit LEG_STAT.QSTAT 10 false

/-- A legacy read of one address. -/
def State.legRead (s : State) (a : Nat) : State × Nat :=
  let v := s.legWord a
  if a == 0 then (s.qstatClear, v)
  else if a == 0x10 then (s.setLeg { s.leg with snapT := some (s.qtime % 65536) }, v)
  else (s, v)

/-- Read words of a transaction; those fetched too late are sent as 0xFFFF (R507). -/
def legRun (late : List Nat) (a : Nat) : Nat → Nat → State → State × List Nat
  | _, 0, s => (s, [])
  | i, n + 1, s =>
    let r := s.legRead ((a + i) % 32768)
    let l := late.contains i
    let t := legRun late a (i + 1) n (if l then r.1.putBit LEG_STAT.QSTAT 10 true else r.1)
    (t.1, (if l then 0xFFFF else r.2) :: t.2)

def execLegacyRead (a : BitVec 15) (n : BitVec 12) (late : List (BitVec 12)) (s : State) : Host.Outcome State Fault Refusal :=
  quosterAct s (fun s =>
    let q := s.legRead 0
    let r := legRun (late.map (·.toNat)) a.toNat 0 n.toNat q.1
    r.1.setLeg { r.1.leg with out := q.2 :: q.2 :: r.2 })

/-- HST_CS_N rises inside a slot: a read word whose fetch began has been fetched (R508). -/
def execLegacyCsRise (fetched : Option (BitVec 15)) (s : State) : Host.Outcome State Fault Refusal :=
  quosterAct s (fun s => match fetched with | none => s | some a => (s.legRead a.toNat).1)

/-! ### Writes and the translation engine (R515 to R521) -/

def State.wign (s : State) : State := s.putBit LEG_STAT.QSTAT 11 true
def State.xres (s : State) (r : Nat) : State := s.put LEG_XRES.RESULT r

/-- A write ignored. -/
def State.ignored (s : State) : State := s.wign.xres 1
def State.cmdErr (s : State) (b : Bool) : State := s.putBit LEG_STAT.QSTAT 9 b

/-- QMODE (R515). -/
def State.qmodeWrite (s : State) (v : Nat) : State :=
  if v > 1 then s.ignored.cmdErr true
  else
    let lead := s.minlead 0
    let s := s.issue ⟨s.t.beat + W lead, W (2 * v), 0, 0, 0, s.ownIssuer, false, lead, false⟩
    if s.get TIM_LSTAT.RESULT ≤ 1 then (s.cmdErr false).xres 0 else s.ignored.cmdErr true

/-- An alarm command of QCMD, through the host path (R516). -/
def State.qcmdAlarm (s : State) (op idx : Nat) : State := (s.xres 0).almQueue ⟨almWord op 0 idx, false, 4, 0, 0, 0⟩

/-- A host write of host signal 63. -/
def State.hornSet (s : State) (b : Bool) : State :=
  let w := W (setBit (s.get (BL_HSIG.SIG 1)) 31 b)
  let s := s.carry .host (BL_HSIG 1) w (fun s => s.setReg (BL_HSIG 1) w)
  s.setLeg { s.leg with horn := if b then some s.t.run else none }

def State.qcmdHorn (s : State) : State := (s.xres 0).hornSet true

def State.qcmdBad (s : State) : State := s.ignored.cmdErr true

/-- QCMD. -/
def State.qcmdWrite (s : State) (v : Nat) : State :=
  match v / 4096 % 16 with
  | 1 => s.qcmdAlarm 1 (v % 128)
  | 2 => s.qcmdAlarm 2 (v % 16)
  | 3 => s.qcmdAlarm 8 0
  | 4 => s.qcmdAlarm 5 (v % 16)
  | 5 => s.qcmdHorn
  | _ => s.qcmdBad

/-- QTIME: a CLK SET of that UTC second (R517). -/
def State.qtimeWrite (s : State) (secs : Nat) : State :=
  if !s.alive 25 then s.ignored.cmdErr true
  else
    let n := secs - legEpoch
    let r := if secs < legEpoch then (s, 1)
      else s.clkSetTo (dateWord (n / 86400)) (timeWord (n % 86400 / 3600) (n % 3600 / 60) (n % 60) 0)
    let s := (r.1.put CLK_CRES.RESULT r.2).raise HST_ISRC.CLK
    if r.2 == 0 then s.xres 0 else s.ignored.cmdErr true

/-- Writes of the engine in order, as host writes, up to the first that is refused: its address and response. -/
def legWrites : List (Nat × Word) → State → State × Option (Nat × Nat)
  | [], s => (s, none)
  | (a, w) :: r, s =>
    let x := s.writeCore .host a w true 27
    if x.2 == 0 then legWrites r x.1 else (x.1, some (a, x.2))

/-- The outcome of a rewrite in LEG_XRES (R519). -/
def State.rewrite (s : State) (l : List (Nat × Word)) : State :=
  match legWrites l s with
  | (s, none) => s.xres 0
  | (s, some (a, c)) => if c == 5 then ((s.wign.xres 2).put LEG_XRES.ADDR a) else s.ignored.put LEG_XRES.ADDR a

/-- The commit word of an entry with GEN increased by 1. -/
def genUp (w : Word) : Word := W (setBits w.toNat 35 28 (fld w 35 28 + 1))

/-- A rewrite that begins with a read of its words: one that fails its check ends it. -/
def State.readRewrite (s : State) (l : List Nat) (f : State → State) : State :=
  match l.find? s.sramPoison with
  | some a => ((s.sramFetch 27 [a]).ignored).put LEG_XRES.ADDR a
  | none => f s

/-- The value field a limit takes; a result outside the value format is a free value. -/
def State.limitBack (s : State) (u v : Nat) : Nat × State :=
  let x := legBack u v
  if -(2 ^ 31 : Int) ≤ x && x < 2 ^ 31 then (unsign 32 x, s) else s.free

/-- QHI, QLO: word 4 or 5 of the channel's entry (R519). -/
def State.limitWrite (s : State) (c k v : Nat) : State :=
  let a := commitAddr c
  s.readRewrite [a, a + k] (fun s =>
    let w := (s.sramAt (a + k)).toNat
    let (x, s) := if v == 0x8000 then (setBit w 35 false, s)
      else let r := s.limitBack (fld (s.sramAt a) 20 18) v; (setBits (setBit w 35 true) 31 0 r.1, r.2)
    s.rewrite [(a + k, W x), (a, genUp (s.sramAt a)), (FI_TSYNC (c / 8), W (2 ^ (c % 8)))])

/-- QDLY (R520). -/
def State.qdlyWrite (s : State) (g v : Nat) : State :=
  if v > 409 then s.ignored else (s.xres 0).setLeg { s.leg with dly := s.leg.dly ++ [(g, v, s.t.run)] }

/-- Points of a group whose on-delay is rewritten. -/
def State.dlyPoints (s : State) (g : Nat) : List Nat := (s.legPoints g).filter (fun n => (s.almEnt n).f 8 23 0 == 0)

/-- The writes of one point's rewrite. -/
def State.dlyWrites (s : State) (v n : Nat) : List (Nat × Word) :=
  let a := commitAddr (184 + n)
  [(a + 2, W (setBits (s.sramAt (a + 2)).toNat 35 24 (10 * v))), (a, genUp (s.sramAt a))]

def State.dlyRewrite (s : State) (g v : Nat) : State :=
  s.readRewrite ((s.dlyPoints g).flatMap (fun n => [commitAddr (184 + n), commitAddr (184 + n) + 2])) (fun s =>
    s.rewrite ((s.dlyPoints g).flatMap (s.dlyWrites v) ++ [(ALM_TSYNC, W (2 ^ 35))]))

/-- A round boundary: the rewrites asked for before it. -/
def State.dlyRun (s : State) : State :=
  if s.t.usec != 0 then s
  else
    let l := s.leg.dly.filter (fun p => p.2.2 < s.t.run)
    l.foldl (fun (s : State) (p : Nat × Nat × Nat) => s.dlyRewrite p.1 p.2.1)
      (s.setLeg { s.leg with dly := s.leg.dly.filter (fun p => s.t.run ≤ p.2.2) })

/-- A legacy write is executed. -/
def State.legWrite (s : State) (w : LegWr) : State :=
  let a := w.addr
  if w.pair then s.qtimeWrite w.val
  else if a == 3 then s.qmodeWrite w.val
  else if a == 4 then s.qcmdWrite w.val
  else if 0x500 ≤ a && a < 0x540 then s.limitWrite (a - 0x500) 4 w.val
  else if 0x540 ≤ a && a < 0x580 then s.limitWrite (a - 0x540) 5 w.val
  else if 0x600 ≤ a && a < 0x610 then s.qdlyWrite (a - 0x600) w.val
  else s.ignored

/-- Words of a write transaction as they arrive; the two words of QTIME are one entry (R517). -/
def legEntries (a : Nat) : List Nat → List LegWr
  | [] => []
  | [v] => [⟨a % 32768, v, false⟩]
  | v :: u :: r =>
    if a % 32768 == 0x10 then ⟨0x10, v * 65536 + u, true⟩ :: legEntries (a + 2) r else ⟨a % 32768, v, false⟩ :: legEntries (a + 1) (u :: r)

/-- A write arrives: queued, or discarded when the queue of 64 is full (R521). -/
def State.legEnqueue (s : State) (w : LegWr) : State :=
  if s.leg.wq.length ≥ 64 then s.wign.xres 3 else s.setLeg { s.leg with wq := s.leg.wq ++ [w] }

def execLegacyWrite (a : BitVec 15) (l : List (BitVec 16)) (s : State) : Host.Outcome State Fault Refusal :=
  quosterAct s (fun s =>
    let q := s.legRead 0
    let s := (legEntries a.toNat (l.map (·.toNat))).foldl State.legEnqueue q.1
    s.setLeg { s.leg with out := [q.2] })

/-- The first write of the queue is executed. -/
def execLegacyWriteExecute (s : State) : Host.Outcome State Fault Refusal :=
  act s (fun s => match s.leg.wq with | [] => s | w :: r => (s.setLeg { s.leg with wq := r }).legWrite w)

/-- A legacy write as a command of its own, in order of arrival (R521): with it in the queue, the writes up to and including it are
executed; else it arrives now, and all that waits is executed before it. -/
def quosterWrite (s : State) (a v : Nat) (pair : Bool) (f : State → State) : Host.Outcome State Fault Refusal :=
  quosterAct s (fun s =>
    let w : LegWr := ⟨a, v, pair⟩
    let q := s.leg.wq
    let run := fun (l rest : List LegWr) => f (l.foldl State.legWrite (s.setLeg { s.leg with wq := rest }))
    if q.contains w then run (q.takeWhile (· != w)) (q.dropWhile (· != w)).tail
    else if q.length ≥ 64 then s.wign.xres 3
    else run q [])

def execQmodeWrite (v : BitVec 16) (s : State) : Host.Outcome State Fault Refusal :=
  quosterWrite s 3 v.toNat false (fun s => s.qmodeWrite v.toNat)
def execQcmdAckPoint (n : Fin 128) (s : State) : Host.Outcome State Fault Refusal :=
  quosterWrite s 4 (1 * 4096 + n.val) false (fun s => s.qcmdAlarm 1 n.val)
def execQcmdAckGroup (g : Fin 16) (s : State) : Host.Outcome State Fault Refusal :=
  quosterWrite s 4 (2 * 4096 + g.val) false (fun s => s.qcmdAlarm 2 g.val)
def execQcmdAckAll (s : State) : Host.Outcome State Fault Refusal := quosterWrite s 4 (3 * 4096) false (fun s => s.qcmdAlarm 8 0)
def execQcmdResetFirstOut (g : Fin 16) (s : State) : Host.Outcome State Fault Refusal :=
  quosterWrite s 4 (4 * 4096 + g.val) false (fun s => s.qcmdAlarm 5 g.val)
def execQcmdHornSilence (s : State) : Host.Outcome State Fault Refusal := quosterWrite s 4 (5 * 4096) false State.qcmdHorn
def execQcmdInvalid (v : BitVec 16) (s : State) : Host.Outcome State Fault Refusal :=
  quosterWrite s 4 v.toNat false (fun s => if 1 ≤ v.toNat / 4096 && v.toNat / 4096 ≤ 5 then s.qcmdWrite v.toNat else s.qcmdBad)

/-- Host signal 63 has been 1 for 1000 beats. -/
def State.hornEnd (s : State) : State :=
  match s.leg.horn with
  | some b => if 1000 ≤ s.since b then s.hornSet false else s
  | none => s

def execHornSilenceEnd (s : State) : Host.Outcome State Fault Refusal := act s State.hornEnd
def execQtimeWrite (secs : BitVec 32) (s : State) : Host.Outcome State Fault Refusal :=
  quosterWrite s 0x10 secs.toNat true (fun s => s.qtimeWrite secs.toNat)
def execQhiWrite (c : Fin 64) (v : BitVec 16) (s : State) : Host.Outcome State Fault Refusal :=
  quosterWrite s (0x500 + c.val) v.toNat false (fun s => s.limitWrite c.val 4 v.toNat)
def execQloWrite (c : Fin 64) (v : BitVec 16) (s : State) : Host.Outcome State Fault Refusal :=
  quosterWrite s (0x540 + c.val) v.toNat false (fun s => s.limitWrite c.val 5 v.toNat)
def execQdlyWrite (g : Fin 16) (v : BitVec 16) (s : State) : Host.Outcome State Fault Refusal :=
  quosterWrite s (0x600 + g.val) v.toNat false (fun s => s.qdlyWrite g.val v.toNat)
def execQdlyRewrite (s : State) : Host.Outcome State Fault Refusal := act s State.dlyRun

/-! ### The legacy bus: telegrams received (R522 to R527, R532 to R535) -/

/-- One step of the CRC-16 of R523. -/
def crc16Step (c : Nat) (b : Bool) : Nat :=
  let x := (2 * c) % 65536
  if (c ≥ 32768) != b then x ^^^ 0x1021 else x

/-- The CRC-16 of bytes, each most significant bit first. -/
def crc16 (l : List Byte) : Nat := (l.flatMap (fun b => msbBits 8 b.toNat)).foldl crc16Step 0xFFFF

/-- A port takes part in a bus. -/
def State.busOn (s : State) : Bool := s.alive 27 && (s.get LEG_BCFG.MODE == 1 || s.get LEG_BCFG.MODE == 2)

def busAct (s : State) (f : State → State) : Host.Outcome State Fault Refusal := act s (fun s => if s.busOn then f s else s)

/-- The bus a port is on. -/
def State.busOf (s : State) (p : Nat) : Nat := if s.get LEG_BCFG.MODE == 2 then p else 0

def State.portOf (s : State) (p : Nat) : LegPort := s.leg.ports.getD p LegPort.fresh

/-- A port changes; LEG_PSTp follows. -/
def State.setPort (s : State) (p : Nat) (x : LegPort) : State :=
  ((s.setLeg { s.leg with ports := s.leg.ports.set p x }).put (LEG_PST.QD p) x.q.length).put (LEG_PST.ATT p)
    (satAt 15 ((x.q.head?.map (·.coll)).getD 0))

/-- Beats of a bit (R522). -/
def State.bitBeats (s : State) : Nat := match s.get LEG_BCFG.RATE with | 1 => 16 | 2 => 8 | _ => 32

/-- The line has been idle for 44 bit times (R528). -/
def State.lineIdle (s : State) (p : Nat) : Bool :=
  let x := s.portOf p
  !x.busy && !x.sending && !x.testing && !s.flag (LEG_PST.STUCK p) && decide (44 * s.bitBeats ≤ s.since x.edgeAt)

/-- LEG_PSTp.IDLE follows the line. -/
def State.showIdle (s : State) (p : Nat) : State :=
  if s.flag (LEG_PST.IDLE p) == s.lineIdle p then s else s.putB (LEG_PST.IDLE p) (s.lineIdle p)

/-- An edge on the line, with another sender's frame going on or not. -/
def State.lineEdge (s : State) (p : Nat) (busy : Bool) : State :=
  (s.setPort p { s.portOf p with busy := busy, edgeAt := s.t.run }).putB (LEG_PST.IDLE p) false

def frameByte (f : List Byte) (i : Nat) : Nat := (f.getD i 0).toNat

/-- Delimiter, length and check of a frame (R523, R526). -/
def telegramOk (f : List Byte) : Bool :=
  frameByte f 0 == 0xA5 && frameByte f 5 ≤ 48 && f.length == frameByte f 5 + 8
    && ofBytes (f.drop (f.length - 2)) == crc16 ((f.drop 1).take (f.length - 3))

/-- Keep the record of a frame accepted: the last 16 per source and bus. -/
def keepSeen (x : LegSeen) (l : List LegSeen) : List LegSeen :=
  let same := l.filter (fun y => y.bus == x.bus && y.src == x.src)
  x :: same.take 15 ++ l.filter (fun y => !(y.bus == x.bus && y.src == x.src))

/-- A frame from a source that LEG_KNOWN names. -/
def State.known (s : State) (src : Nat) : Bool := 1 ≤ src && src ≤ 63 && bit (s.get (LEG_KNOWN.KNOWN (src / 32))) (src % 32)

/-- SRCID of an address on the bus of a port (R532). -/
def State.legSrc (s : State) (p src : Nat) : Nat := (if s.busOf p == 1 then 4294967104 else 4294967040) + src

/-- Entry k of an ALARM: its point's two signals. -/
def State.legAlarm (s : State) (p : Nat) (fr : List Byte) (k : Nat) : State :=
  let n := frameByte fr (6 + 3 * k)
  let code := frameByte fr (7 + 3 * k) / 32
  let src := s.legSrc p (frameByte fr 1)
  let set := fun (v : Bool) (s : State) (i : Nat) => s.rxUpdate i v (frameByte fr 4) s.ts0 s.ts1 s.ts0 s.ts1
  if n > 127 then s
  else
    let s := (s.rxEntries src n).foldl (set (code == 1 || code == 2)) s
    (s.rxEntries src (128 + n)).foldl (set (code == 1 || code == 3)) s

def State.legAlarms (s : State) (p : Nat) (fr : List Byte) : State :=
  (List.range (min 16 (frameByte fr 5 / 3))).foldl (fun (s : State) (k : Nat) => s.legAlarm p fr k) s

/-- Entries of an address, whatever the signal. -/
def State.srcEntries (s : State) (src : Nat) : List Nat :=
  s.mem.sram.filterMap (fun x =>
    if 0o700000 ≤ x.1 && x.1 ≤ 0o777777 && x.1 % 8 == 0 && wbit x.2 35 && fld x.2 31 0 == src then some ((x.1 - 0o700000) / 8) else none)

/-- A HEARTBEAT refreshes the age of every entry of its address. -/
def State.legHeartbeat (s : State) (p : Nat) (fr : List Byte) : State :=
  (s.srcEntries (s.legSrc p (frameByte fr 1))).foldl (fun (s : State) (i : Nat) =>
    let s := (s.setSram (rxAddr i + 5) s.ts0).setSram (rxAddr i + 6) s.ts1
    { s with sn := { s.sn with rxAt := s.sn.rxAt.set i s.t.run } }) s

/-- ACK (R533, R535). -/
def State.legAck (s : State) (fr : List Byte) : State :=
  let dst := frameByte fr 2
  let cmd := fun (op idx : Nat) => s.almQueue ⟨almWord op 0 idx, false, 2, 0, 0, 0⟩
  if !s.flag LEG_BCFG.ACKIN || !s.drives || !(dst == 0 || dst == s.get LEG_BCFG.ADDR) then s
  else match frameByte fr 6 with
    | 1 => cmd 1 (frameByte fr 7)
    | 2 => cmd 2 (frameByte fr 7)
    | 3 => cmd 8 0
    | _ => s

/-- A frame that passed R526 and R527, by its type (R524). -/
def State.legApply (s : State) (p : Nat) (fr : List Byte) : State :=
  match frameByte fr 3 % 64 with
  | 1 => s.legAlarms p fr
  | 2 => s.legAck fr
  | 3 => s
  | 4 => s.legHeartbeat p fr
  | 5 => s
  | _ => s.inc (LEG_ECNT.ERR p)

/-- A frame ends on the line of a port: its own is no frame received; it is discarded when it fails its checks, is a duplicate or
comes from a stranger. -/
def State.legFrame (s : State) (p : Nat) (fr : List Byte) : State :=
  let src := frameByte fr 1
  let own := src == s.get LEG_BCFG.ADDR && src != 0
  if own && (s.portOf p).sending then s
  else
    let s := s.lineEdge p false
    if !telegramOk fr then s.inc (LEG_ECNT.ERR p)
    else
      let x : LegSeen := ⟨s.busOf p, src, frameByte fr 4, s.t.run⟩
      if s.leg.seen.any (fun y => y.bus == x.bus && y.src == src && y.seq == x.seq && s.since y.at_ < 2000000) then s.inc (LEG_ECNT.DUP p)
      else
        let s := s.setLeg { s.leg with seen := keepSeen x s.leg.seen }
        let s := if own then s.putB (LEG_PST.CONF p) true else s
        let s := if own && !s.drives then s.setLeg { s.leg with heard := some x.seq } else s
        if s.known src then s.legApply p fr else s.inc (LEG_ECNT.STRANGER p)

def execLegacyAlarmRx (p : Fin 2) (frame : List Byte) (s : State) : Host.Outcome State Fault Refusal :=
  busAct s (fun s => s.legFrame p.val frame)
def execLegacyHeartbeatRx (p : Fin 2) (frame : List Byte) (s : State) : Host.Outcome State Fault Refusal :=
  busAct s (fun s => s.legFrame p.val frame)
def execLegacyAckRx (p : Fin 2) (frame : List Byte) (s : State) : Host.Outcome State Fault Refusal :=
  busAct s (fun s => s.legFrame p.val frame)
def execLegacyValueRx (p : Fin 2) (frame : List Byte) (s : State) : Host.Outcome State Fault Refusal :=
  busAct s (fun s => s.legFrame p.val frame)
def execLegacyTimeRx (p : Fin 2) (frame : List Byte) (s : State) : Host.Outcome State Fault Refusal :=
  busAct s (fun s => s.legFrame p.val frame)

/-- A frame with an error of R526 that leaves no bytes to judge: a parity or framing error, or a gap. -/
def execLegacyFrameError (p : Fin 2) (s : State) : Host.Outcome State Fault Refusal :=
  busAct s (fun s => (s.lineEdge p.val false).inc (LEG_ECNT.ERR p.val))

/-! ### Telegrams formed (R525, R530) -/

/-- Place a telegram in a queue: by class, then by formation, behind a telegram being sent. -/
def placeTx (t : LegTx) (sending : Bool) (q : List LegTx) : List LegTx :=
  match sending, q with
  | true, h :: r => h :: (r.filter (·.cls ≤ t.cls) ++ t :: r.filter (fun x => !(x.cls ≤ t.cls)))
  | _, q => q.filter (·.cls ≤ t.cls) ++ t :: q.filter (fun x => !(x.cls ≤ t.cls))

/-- Queue a telegram on a port; the last 8 of its 32 places are for class 0. -/
def State.queueTx (s : State) (t : LegTx) (p : Nat) : State :=
  let x := s.portOf p
  if x.q.length ≥ (if t.cls == 0 then 32 else 24) then s.inc (LEG_BCNT.DROP p)
  else s.setPort p { x with q := placeTx t x.sending x.q }

/-- Form a telegram, for both ports, with the next SEQ; a unit that has begun to drive goes on from the SEQ it last heard. -/
def State.formLeg (s : State) (typ cls : Nat) (data : List Nat) : State :=
  let seq := ((s.leg.heard.getD s.leg.seq) + 1) % 256
  let s := s.setLeg { s.leg with seq := seq, heard := none }
  let b := [s.get LEG_BCFG.ADDR, 0, cls * 64 + typ, seq, data.length] ++ data
  [0, 1].foldl (State.queueTx · ⟨cls, b.map (BitVec.ofNat 8), s.t.run, 0, 0⟩) s

/-- Class of a change by its PRI (R524). -/
def chgClass (w : Word) : Nat := match fld w 32 30 with | 1 => 0 | 2 => 1 | _ => 2

/-- Entry of an ALARM for a change. -/
def chgEntry (w : Word) : List Nat :=
  [fld w 22 13, qalmCode (fld w 35 33) * 32 + fld w 23 23 * 16 + fld w 32 30, fld w 29 24]

/-- Insert a change in point order, behind equals. -/
def insertChg (w : Word) : List Word → List Word
  | [] => [w]
  | x :: r => if fld w 22 13 < fld x 22 13 then w :: x :: r else x :: insertChg w r

/-- The ALARM telegrams of the changes of a beat before (R525). -/
def State.legAlarmForm (s : State) : State :=
  let due := s.alm.chg.filter (fun p => p.2 < s.t.run)
  if due.isEmpty then s
  else
    let l := due.foldl (fun (l : List Word) (p : Word × Nat) => insertChg p.1 l) []
    let s : State := { s with alm := { s.alm with chg := s.alm.chg.filter (fun p => s.t.run ≤ p.2) } }
    if !s.legTx then s
    else
      [0, 1, 2].foldl (fun (s : State) (c : Nat) =>
        let m := l.filter (fun w => chgClass w == c)
        (chunks 16 m.length m).foldl (fun (s : State) (g : List Word) => s.formLeg 0x01 c (g.flatMap chgEntry)) s) s

def execLegacyAlarmForm (s : State) : Host.Outcome State Fault Refusal := busAct s State.legAlarmForm

/-- Form telegram `k` in beat-in-round 750,000, once. -/
def State.legOnce (s : State) (k : Nat) (f : State → State) : State :=
  if s.t.usec != 750000 || s.leg.formAt.get? k == some s.t.run || !s.legTx then s
  else f (s.setLeg { s.leg with formAt := s.leg.formAt.set k s.t.run })

def State.legHeartbeatForm (s : State) : State :=
  s.legOnce 0 (fun s =>
    s.formLeg 0x04 3 [s.qmode, satAt 255 (s.legCount [1, 3]), satAt 255 (s.legCount [1, 2]), (!s.drives).toNat])

def execLegacyHeartbeatForm (s : State) : Host.Outcome State Fault Refusal := busAct s State.legHeartbeatForm

/-- Entry of a VALUE. -/
def State.valueEntry (s : State) (c : Nat) : List Nat := [c, s.qval c / 256, s.qval c % 256, s.qsts c / 256]

/-- In every round whose number VPER divides. -/
def State.legValueForm (s : State) : State :=
  let v := s.get LEG_BCFG.VPER
  if v == 0 || s.t.round.toNat % v != 0 then s
  else s.legOnce 1 (fun s =>
    (chunks 12 6 (List.range 64)).foldl (fun (s : State) (g : List Nat) => s.formLeg 0x03 3 (g.flatMap s.valueEntry)) s)

def execLegacyValueForm (s : State) : Host.Outcome State Fault Refusal := busAct s State.legValueForm

/-! ### Access to the bus (R528 to R531) -/

/-- BASE, initial and largest W of a class. -/
def wBase (c : Nat) : Nat := match c with | 0 => 0 | 1 => 4 | 2 => 12 | _ => 28
def wInit (c : Nat) : Nat := match c with | 0 => 2 | 1 => 4 | 2 => 8 | _ => 16
def wMax (c : Nat) : Nat := match c with | 0 => 4 | 1 => 8 | 2 => 16 | _ => 64

/-- The window a telegram draws from. -/
def LegTx.window (t : LegTx) : Nat := orElse t.w (wInit t.cls)

/-- The port's driver may be enabled. -/
def State.txEnabled (s : State) (p : Nat) : Bool := s.legTx && !s.flag (LEG_PST.OWN p)

/-- The telegram in hand may start now: the idle time is over, and its back-off since then, or since its forming, is BASE + r slots
of 4 bit times for an r below W. -/
def State.startDue (s : State) (p : Nat) (t : LegTx) : Bool :=
  let b := s.bitBeats
  let from_ := max ((s.portOf p).edgeAt + 44 * b) t.at_
  (List.range t.window).any (fun r => from_ + (wBase t.cls + r) * (4 * b) == s.t.run)

/-- A telegram starts after the idle time and the back-off. -/
def State.startTx (s : State) (p : Nat) : State :=
  match (s.portOf p).q with
  | [] => s
  | t :: _ =>
    if !s.lineIdle p || !s.txEnabled p || !s.startDue p t then s
    else (s.setPort p { s.portOf p with sending := true, txAt := s.t.run, edgeAt := s.t.run }).putB (LEG_PST.IDLE p) false

def execLegacyTransmitStart (p : Fin 2) (s : State) : Host.Outcome State Fault Refusal := busAct s (fun s => s.startTx p.val)

/-- A start bit of another sender: the line is not idle, W stays. -/
def execLegacyStartDefer (p : Fin 2) (s : State) : Host.Outcome State Fault Refusal :=
  busAct s (fun s => if (s.portOf p.val).sending then s else s.lineEdge p.val true)

/-- The telegram in hand leaves the queue; every other one draws from its initial window again (R529). -/
def LegPort.next (x : LegPort) (now : Nat) : LegPort :=
  { x with q := x.q.tail.map (fun t => { t with w := 0 }), sending := false, edgeAt := now }

/-- The telegram in hand has collided once more. -/
def LegTx.collided (t : LegTx) : LegTx := { t with coll := t.coll + 1, w := min (wMax t.cls) (2 * t.window) }

/-- A bit read back differs (R529). -/
def State.collide (s : State) (p : Nat) : State :=
  let x := s.portOf p
  match x.sending, x.q with
  | true, t :: r =>
    let s := (s.inc (LEG_ECNT.COLL p)).putB (LEG_PST.IDLE p) false
    let x := { x with sending := false, busy := true, edgeAt := s.t.run }
    if t.cls != 0 && t.coll + 1 ≥ 16 then (s.inc (LEG_BCNT.DROP p)).setPort p { x with q := r }
    else s.setPort p { x with q := t.collided :: r }
  | _, _ => s

def execLegacyCollision (p : Fin 2) (s : State) : Host.Outcome State Fault Refusal := busAct s (fun s => s.collide p.val)

/-- Beats of a telegram on the line: 11 bits a character, with its delimiter and check. -/
def State.txBeats (s : State) (t : LegTx) : Nat := (t.bytes.length + 3) * 11 * s.bitBeats

/-- The telegram being sent has left completely. -/
def State.sent (s : State) (p : Nat) : State :=
  let x := s.portOf p
  match x.sending, x.q with
  | true, t :: _ =>
    if s.since x.txAt < s.txBeats t then s
    else ((s.inc (LEG_BCNT.SENT p)).put (LEG_PST.SEQ p) (t.bytes.getD 3 0).toNat).setPort p (x.next s.t.run)
  | _, _ => s

def execLegacyTransmitEnd (p : Fin 2) (s : State) : Host.Outcome State Fault Refusal := busAct s (fun s => s.sent p.val)

/-- The line is stuck by another: telegrams of classes 1 to 3 are dropped. -/
def State.busStuck (s : State) (p : Nat) : State :=
  let x := s.portOf p
  let s := s.putB (LEG_PST.STUCK p) true
  (s.inc (LEG_BCNT.DROP p) (x.q.filter (·.cls != 0)).length).setPort p
    { x with q := x.q.filter (·.cls == 0), sending := false, testing := false, busy := false, edgeAt := s.t.run }

/-- The line has been at space for 100 ms without an edge. -/
def State.lineStuck (s : State) (p : Nat) : State :=
  let x := s.portOf p
  if s.flag (LEG_PST.STUCK p) then s.setPort p { x with edgeAt := s.t.run }
  else if x.testing || s.since x.edgeAt < 100000 then s
  else
    let s := s.putB (LEG_PST.IDLE p) false
    if s.txEnabled p then s.setPort p { x with sending := false, testing := true, txAt := s.t.run } else s.busStuck p

def execLegacyLineStuck (p : Fin 2) (s : State) : Host.Outcome State Fault Refusal := busAct s (fun s => s.lineStuck p.val)

/-- The driver has been disconnected for 10 ms, and the line is at mark, or not. -/
def State.testEnd (s : State) (p : Nat) (mark : Bool) : State :=
  let x := s.portOf p
  if !x.testing || s.since x.txAt < 10000 then s
  else if mark then (s.setPort p { x with testing := false, edgeAt := s.t.run }).putB (LEG_PST.OWN p) true
  else s.busStuck p

def execLegacyDriverTestEnd (p : Fin 2) (mark : Bool) (s : State) : Host.Outcome State Fault Refusal :=
  busAct s (fun s => s.testEnd p.val mark)

/-- The line has shown mark for 1,000,000 beats. -/
def State.stuckClear (s : State) (p : Nat) : State :=
  if s.flag (LEG_PST.STUCK p) && decide (1000000 ≤ s.since (s.portOf p).edgeAt) then s.putB (LEG_PST.STUCK p) false else s

def execLegacyStuckClear (p : Fin 2) (s : State) : Host.Outcome State Fault Refusal := busAct s (fun s => s.stuckClear p.val)

/-- Phase 0 of a beat: what is due in the translation engine and on the legacy bus. -/
def State.legSweep (s : State) : State :=
  let s := s.hornEnd.dlyRun
  if !s.busOn then s
  else
    let s := [0, 1].foldl (fun (s : State) (p : Nat) => (s.sent p).showIdle p) s
    s.legAlarmForm.legHeartbeatForm.legValueForm

end Sys2Proof.Machine
end

