-- ==== Sys2Proof/Machine/Tick.lean ====
section
/-! DEFINITION. The passing of time: beats, round boundaries and the wrap of the beat counter (R32, R33, R50 to R52). -/
namespace Sys2Proof.Machine

open Sys2Proof

/-! ### Node time (R50, R52) -/

/-- REPOCH after the beat counter has wrapped (R52). -/
def wrapEpoch (r : Nat) : Nat := (r + 523264) % 1000000

/-- One beat of node time: the three counts change together, and a wrap of the beat counter replaces the round epoch. -/
def TimeS.tick (t : TimeS) : TimeS :=
  let over_ := t.usec + 1 ≥ 1000000
  { t with
    beat := t.beat + 1
    usec := if over_ then 0 else t.usec + 1
    round := if over_ then t.round + 1 else t.round
    phase := 0
    run := t.run + 1
    due := over_
    repoch := if t.beat == 68719476735#36 then wrapEpoch t.repoch else t.repoch }

/-! ### Phase 0 of a beat -/

/-- Received-signal entries in use whose STATE is 1, as class 6 presents them (R179, R373). -/
def State.rxStates (s : State) : List Nat :=
  s.mem.sram.filterMap (fun p =>
    if 0o700000 ≤ p.1 && p.1 ≤ 0o777777 && p.1 % 8 == 2 && wbit p.2 35 && wbit (s.sramAt (p.1 - 2)) 35 then some ((p.1 - 0o700002) / 8)
    else none)

/-- What class 6 presents in this beat. -/
def State.presentRx (s : State) : State := { s with bl := { s.bl with pres6 := s.rxStates } }

/-- The round of the engines' work has turned: shelving, floods and call telegrams take it up (R217, R223, R255). -/
def State.workRound (s : State) : State :=
  if !s.workRoundDue then s
  else
    let s : State := { s with alm := { s.alm with roundAt := s.t.run } }
    let s := if s.alive 20 then s.alarmRound else s
    if s.alive 21 then s.opalRound else s

/-- The work of the engines at phase 0, unless they stand still (R212, R240, R264, R331, R342, R410). -/
def State.engines (s : State) : State :=
  if s.still then s
  else
    let s := s.workRound
    let s := if s.alive 20 then s.presentAlarms.alarmBeat else s
    let s := if s.alive 21 then s.opalBeat else s
    let s := if s.alive 16 then s.loBeat else s
    if s.alive 18 then (List.range 8).foldl State.supSample ((List.range 8).foldl State.spdDecay s) else s

/-- What ends with the beat before: the lattice's digest and its mirror writes (R194, R196). -/
def State.beatEnd (s : State) : State := if s.alive 19 then s.digestBeat.mirrorBeat else s

/-- The beat's share of the islands, the image/MRAM controller and the engines. -/
def State.engineWork (s : State) : State :=
  let s := s.imgDelay.imgSweep.presentRx
  let s := ((List.range 16).foldl State.fieldBeat s).reloadBeat
  s.engines.sampleSafeCell

/-- The counts of node time, and a step that waits for its boundary, are the TIM block's own: no work of a beat moves them (R50). -/
def State.keepCounts (s : State) (t : TimeS) : State :=
  { s with t := { s.t with
      beat := t.beat, round := t.round, usec := t.usec, phase := t.phase, repoch := t.repoch, run := t.run, due := t.due
      disc := { s.t.disc with stepPend := t.disc.stepPend } } }

/-- Phase 0 of a beat, node time standing at it: the telegrams and the frame of the beat before, changes of role between them (R361,
R387, R401); then register writes and taken commands (R33, R501), carried work, the engines. In a beat that is a round boundary the
engines wait for the boundary's own work. A word may reach the crosslink frame, or a telegram, with a tag that fails (R35, steps 4 and 5). -/
def State.beatWork (s : State) (k : Tick) : State :=
  let s := if s.up then ((if k.teleHurt then s.snForm.hurtTeles else s.snForm).pairRoles.pairBeat k.frameHurt).fellBeat else s
  let s := s.ageKeys.sysBeat.pendBeat
  if !s.up then s
  else
    let s := s.replayWork
    if s.t.due then s else s.engineWork

/-! ### Round boundaries -/

/-- A round's share of the scrub (R23): 16384 words in address order. -/
def State.scrubRound (s : State) (ups : List UpsetAt) : State :=
  if s.procStopped then s
  else
    let lo := s.mem.scrubAt
    let inside := fun (a : Nat) => lo ≤ a && a < lo + 16384
    let bad := s.mem.sramBad.filter inside
    let s := bad.foldl (fun (s : State) (a : Nat) => (s.sramRead a .clean 28).1) s
    let s := ups.foldl (fun (s : State) (u : UpsetAt) =>
      if inside u.addr.toNat && !bad.contains u.addr.toNat then (s.sramRead u.addr.toNat u.kind 28).1 else s) s
    { s with mem := { s.mem with scrubAt := (lo + 16384) % 1048576 } }

/-- The processor's watchdog: rounds missed, rounds since expiry, and resumption with the round tasks completed (R34, R500). -/
def State.watchdogRound (s : State) (tasks : Bool) : State :=
  let miss := if tasks || s.flag SYS_DBG.HALTED then 0 else s.hst.missed + 1
  let s : State := { s with hst := { s.hst with missed := miss } }
  if !s.flag SYS_WDOG.EXP then s
  else if tasks && !s.flag SYS_DBG.HALTED then ((s.putB SYS_WDOG.EXP false).put SYS_WDOG.ROUNDS 0).causeOff 2
  else s.inc SYS_WDOG.ROUNDS

/-- Scan lists that a round boundary triggers, in one phase, and continuous lists that waited for it (R128, R130, R131); the converter
takes them up in the beat. -/
def State.scanRound (s : State) (k : Nat) : State :=
  if !s.alive k then s
  else
    let i := s.islOf k
    let s := s.setIsl k { i with idleWait := i.idleWait / 256 * 256 }
    (List.range 8).foldl (fun (s : State) (n : Nat) => if s.flag (FI_SLCFG.TROUND k n) then s.scanPend k n else s) s

/-- The part of a boundary that is the management processor's and the controllers': writes that waited come first (R33), then an
image or a bank whose boundary it is. -/
def State.roundStart (s : State) (tasks : Bool) (ups : List UpsetAt) : State :=
  let s := (s.pendRound.ppsRise.watchdogRound tasks).imgSweep.calSweep.powerUp
  let s := (s.setReg ONX_OPR (s.reg ONX_OPR + 1)).hourRecord.clearStart
  (s.scrubRound ups).reloadAll false

/-- The part of the islands and engines. -/
def State.roundIslands (s : State) (fails : BitVec 16) : State :=
  let s := (s.selfChecks fails.toNat).deadIslandWords
  let s := (List.range 16).foldl State.scanRound s
  let s := if s.alive 16 then s.miswireRound else s
  if s.alive 18 then (List.range 8).foldl State.qerrRound s else s

/-- A round boundary of the running node. -/
def State.roundWork (s : State) (tasks : Bool) (fails : BitVec 16) (ups : List UpsetAt) : State :=
  let s := (s.roundStart tasks ups).roundIslands fails
  s.staleRound.pairRound.domainRound.tokenRefill.ptpUtcUpdate.calendarSync.rateStart

/-- The boundary that the beat in force is: its work, then the engines'. -/
def State.boundary (s : State) (tasks : Bool) (fails : BitVec 16) (ups : List UpsetAt) : State :=
  let t := { s.t with due := false }
  let s : State := { s with t := t }
  (if s.up then (s.roundWork tasks fails ups).engineWork else s.ppsRise).keepCounts t

/-- A boundary that no command has told of: the processor has done its tasks, no self-check fails, no word is upset. -/
def State.catchUp (s : State) : State := if s.t.due then s.boundary true 0 [] else s

/-! ### What is due, waves, beats -/

/-- What is due in the beat in force and no command of its own has brought about. -/
def State.sweep (s : State) : State :=
  let s := s.holdEnd.brownoutSafe.ppsFall
  if !s.up then s
  else
    let s := (s.stepDue.safeEntry.imgSweep.launchAll 16).discipline
    let s := s.watchdogExpire.watchdogSafe.deferredReset
    if !s.up then s
    else
      let s := s.reloadSweep.fieldSweep.calSweep.loSweep.dioSweep.spdSweep
      s.onxSweep.pairSweep.shipSweep.examineOver.portSweep.legSweep

/-- A phase passes: at phase 0 what is due, at phase 1 the recorder's snapshots (R425), at phase 2 an observer's look at its partner's
outputs (R407); a word of the host's queue; the wave. -/
def State.wave (s : State) : State :=
  if s.t.phase ≥ 4 then s
  else
    let s := match s.t.phase with
      | 0 => s.catchUp.sweep
      | 1 => s.snapAll 144
      | 2 => s.deadSample
      | _ => s
    (if s.served then s.execute1 else s).enterWave

/-- The phases of the beat that have not passed. -/
def State.waves (s : State) : State := s.wave.wave.wave.wave

def execLatticeWave (s : State) : Host.Outcome State Fault Refusal := act s State.wave

/-- The wave in which a timed cell's length runs out; before it, the command finds the length still running. -/
def State.expire (s : State) (c typ : Nat) : State := if s.expiryDue c typ then s.wave else s

def execOndlyExpiry (c : Fin 4096) (s : State) : Host.Outcome State Fault Refusal := act s (fun s => s.expire c.val 6)
def execOffdlyExpiry (c : Fin 4096) (s : State) : Host.Outcome State Fault Refusal := act s (fun s => s.expire c.val 7)
def execInhibitExpiry (c : Fin 4096) (s : State) : Host.Outcome State Fault Refusal := act s (fun s => s.expire c.val 11)
def execEdgeStretchExpiry (c : Fin 4096) (s : State) : Host.Outcome State Fault Refusal := act s (fun s => s.expire c.val 2)
def execCountWindowExpiry (c : Fin 4096) (s : State) : Host.Outcome State Fault Refusal := act s (fun s => s.expire c.val 10)

/-- What the beat in force still owes when it ends: a boundary whose work has not been given, a step of node time, events that are due,
phases that have not passed. -/
def State.beatRest (s : State) : State :=
  let s := s.catchUp
  let s := if s.up then s.stepDue else s
  let t := s.t
  let s :=
    if !s.up then (if s.served then iter State.execute1 4 s.sweep else s.sweep)
    else (if s.t.phase == 0 then s.waves else s.sweep.waves).beatEnd
  s.keepCounts t

/-- A beat passes. -/
def State.beat (s : State) (k : Tick) : State :=
  if !s.timed then s
  else
    let s := s.beatRest
    let t := s.t.tick
    let s := ({ s with t := t } : State).newPhase.oscillate k.osc
    (if s.up || s.served then s.beatWork k else s).keepCounts t

def execBeatTick (tick : Tick) (s : State) : Host.Outcome State Fault Refusal := done (s.beat tick)

/-- The beat counter wraps with this beat. -/
def execBeatCounterWrap (tick : Tick) (s : State) : Host.Outcome State Fault Refusal :=
  done (if s.t.beat == 68719476735#36 then s.beat tick else s)

/-- The boundary that the beat in force is, or that the next beat is; within a round the command finds none. -/
def State.round (s : State) (k : Tick) (tasks : Bool) (fails : BitVec 16) (ups : List UpsetAt) : State :=
  if !s.timed then s
  else if s.t.due then s.boundary tasks fails ups
  else if s.t.usec + 1 == 1000000 then (s.beat k).boundary tasks fails ups
  else s

def execRoundBoundary (tick : Tick) (tasks : Bool) (fails : BitVec 16) (ups : List UpsetAt) (s : State) :
    Host.Outcome State Fault Refusal :=
  done (s.round tick tasks fails ups)

/-! ### Beats in which a count runs out

The command is the beat that brings the event about; where that is not the next beat it finds the count still running. -/

/-- The next beat, without a cycle of the calendar's oscillator, where it brings an event. -/
def State.beatIf (s : State) (b : Bool) : State := if b then s.beat ⟨0, false, false⟩ else s

/-- The next beat's counts. -/
def State.ahead (s : State) : State := { s with t := s.t.tick }

def execAlarmOnDelayExpiry (n : Fin 1024) (s : State) : Host.Outcome State Fault Refusal := act s (fun s => s.beatIf (s.delayOver n.val true))
def execAlarmOffDelayExpiry (n : Fin 1024) (s : State) : Host.Outcome State Fault Refusal :=
  act s (fun s => s.beatIf (s.delayOver n.val false))
def execOpalStageEscalation (s : State) : Host.Outcome State Fault Refusal :=
  act s (fun s => s.beatIf (s.stageOver && s.stage != 7))
def execAttendTimeExpiry (s : State) : Host.Outcome State Fault Refusal := act s (fun s => s.beatIf (s.stageOver && s.stage == 7))
def execDeadmanIntervalExpiry (s : State) : Host.Outcome State Fault Refusal := act s (fun s => s.beatIf (s.dmOver 1))
def execDeadmanPrewarnExpiry (s : State) : Host.Outcome State Fault Refusal := act s (fun s => s.beatIf (s.dmOver 2))
def execDeadmanBlinkToggle (s : State) : Host.Outcome State Fault Refusal := act s (fun s => s.beatIf s.blinkOver)

/-- The beat of release: that in force, or the next. -/
def execReleaseControl (s : State) : Host.Outcome State Fault Refusal :=
  act s (fun s => if s.releaseDue then s.release else s.beatIf s.ahead.releaseDue)

/-- The beat T: that in force, or the next. -/
def execStandbyTakeover (s : State) : Host.Outcome State Fault Refusal :=
  act s (fun s => if s.takeoverDue then s.takeover else s.beatIf s.ahead.takeoverDue)

/-- The round boundary at which the standby falls asleep: the beat in force, or the next. -/
def execSleepEntry (s : State) : Host.Outcome State Fault Refusal :=
  act s (fun s => if s.sleepDue then s.sleepEntry else s.beatIf s.ahead.sleepDue)

end Sys2Proof.Machine
end

