-- ==== Sys2Proof/Machine/Dispatch.lean ====
section
/-! DEFINITION. The dispatch: one arm per command, each one direct call of its meaning. -/
namespace Sys2Proof.Machine

open Sys2Proof

def exec (i : Instr) (s : State) : Host.Outcome State Fault Refusal :=
  match i with
  | .powerOn => Sys2Proof.Machine.execPowerOn s
  | .alwaysOnSettled => Sys2Proof.Machine.execAlwaysOnSettled s
  | .coldResetEnd compat unit osc => Sys2Proof.Machine.execColdResetEnd compat unit osc s
  | .islandsPowered => Sys2Proof.Machine.execIslandsPowered s
  | .pinReset => Sys2Proof.Machine.execPinReset s
  | .deferredResetStart => Sys2Proof.Machine.execDeferredResetStart s
  | .resetHoldEnd => Sys2Proof.Machine.execResetHoldEnd s
  | .brownoutWarning => Sys2Proof.Machine.execBrownoutWarning s
  | .brownoutEnd => Sys2Proof.Machine.execBrownoutEnd s
  | .brownoutSafeTimeout => Sys2Proof.Machine.execBrownoutSafeTimeout s
  | .powerFailStop => Sys2Proof.Machine.execPowerFailStop s
  | .mramExamination => Sys2Proof.Machine.execMramExamination s
  | .onyxStartupScanEnd => Sys2Proof.Machine.execOnyxStartupScanEnd s
  | .beatTick tick => Sys2Proof.Machine.execBeatTick tick s
  | .roundBoundary tick tasks fails ups => Sys2Proof.Machine.execRoundBoundary tick tasks fails ups s
  | .beatCounterWrap tick => Sys2Proof.Machine.execBeatCounterWrap tick s
  | .ppsOutFall => Sys2Proof.Machine.execPpsOutFall s
  | .ppsInEdge ns => Sys2Proof.Machine.execPpsInEdge ns s
  | .nodeTimeStep => Sys2Proof.Machine.execNodeTimeStep s
  | .holdoverExpiry => Sys2Proof.Machine.execHoldoverExpiry s
  | .armModeChange scope tag => Sys2Proof.Machine.execArmModeChange scope tag s
  | .armRoleSwap scope tag => Sys2Proof.Machine.execArmRoleSwap scope tag s
  | .armTableSync scope tag => Sys2Proof.Machine.execArmTableSync scope tag s
  | .armOutputCommit scope tag => Sys2Proof.Machine.execArmOutputCommit scope tag s
  | .armScanStart scope tag => Sys2Proof.Machine.execArmScanStart scope tag s
  | .armRecorderMark scope tag => Sys2Proof.Machine.execArmRecorderMark scope tag s
  | .armInvalidAction action scope => Sys2Proof.Machine.execArmInvalidAction action scope s
  | .launchCancel scope => Sys2Proof.Machine.execLaunchCancel scope s
  | .modeChange slot => Sys2Proof.Machine.execModeChange slot s
  | .roleSwap slot => Sys2Proof.Machine.execRoleSwap slot s
  | .roleSwapStandby slot => Sys2Proof.Machine.execRoleSwapStandby slot s
  | .tableSync slot => Sys2Proof.Machine.execTableSync slot s
  | .outputCommit slot => Sys2Proof.Machine.execOutputCommit slot s
  | .scanStart slot => Sys2Proof.Machine.execScanStart slot s
  | .recorderMark slot => Sys2Proof.Machine.execRecorderMark slot s
  | .interconnectRequest req a wr u => Sys2Proof.Machine.execInterconnectRequest req a wr u s
  | .handshakeTimeout req a issue => Sys2Proof.Machine.execHandshakeTimeout req a issue s
  | .islandSupplyLoss isl => Sys2Proof.Machine.execIslandSupplyLoss isl s
  | .islandHandshakeRestore isl => Sys2Proof.Machine.execIslandHandshakeRestore isl s
  | .mramPatrol ups => Sys2Proof.Machine.execMramPatrol ups s
  | .latticeParityFail => Sys2Proof.Machine.execLatticeParityFail s
  | .safeEntry => Sys2Proof.Machine.execSafeEntry s
  | .watchdogExpiry => Sys2Proof.Machine.execWatchdogExpiry s
  | .watchdogSafeTimeout => Sys2Proof.Machine.execWatchdogSafeTimeout s
  | .tsyncWrite u mask => Sys2Proof.Machine.execTsyncWrite u mask s
  | .entryReload p timeout => Sys2Proof.Machine.execEntryReload p timeout s
  | .reloadRetry p timeout => Sys2Proof.Machine.execReloadRetry p timeout s
  | .valueStale ch => Sys2Proof.Machine.execValueStale ch s
  | .conversionComplete k r1 r2 parity testOpen compliance found => Sys2Proof.Machine.execConversionComplete k r1 r2 parity testOpen compliance found s
  | .comparatorAccept ch high => Sys2Proof.Machine.execComparatorAccept ch high s
  | .cjMeasurement k raw => Sys2Proof.Machine.execCjMeasurement k raw s
  | .fiStrigWrite k mask => Sys2Proof.Machine.execFiStrigWrite k mask s
  | .scanPeriodTick k n => Sys2Proof.Machine.execScanPeriodTick k n s
  | .fiStrobeLoss k => Sys2Proof.Machine.execFiStrobeLoss k s
  | .fiStrobeRestore k => Sys2Proof.Machine.execFiStrobeRestore k s
  | .sourceHoldExpiry ch => Sys2Proof.Machine.execSourceHoldExpiry ch s
  | .calCapturePoint1 => Sys2Proof.Machine.execCalCapturePoint1 s
  | .calCapturePoint2 => Sys2Proof.Machine.execCalCapturePoint2 s
  | .captureComplete => Sys2Proof.Machine.execCaptureComplete s
  | .captureTimeout => Sys2Proof.Machine.execCaptureTimeout s
  | .calComputeOffset => Sys2Proof.Machine.execCalComputeOffset s
  | .calComputeTwoPoint => Sys2Proof.Machine.execCalComputeTwoPoint s
  | .calClearRecord => Sys2Proof.Machine.execCalClearRecord s
  | .calDiscard => Sys2Proof.Machine.execCalDiscard s
  | .calWinWrite w v => Sys2Proof.Machine.execCalWinWrite w v s
  | .calCommit => Sys2Proof.Machine.execCalCommit s
  | .calCommitRun => Sys2Proof.Machine.execCalCommitRun s
  | .calCommitComplete mismatch => Sys2Proof.Machine.execCalCommitComplete mismatch s
  | .calBankEffect => Sys2Proof.Machine.execCalBankEffect s
  | .latticeWave => Sys2Proof.Machine.execLatticeWave s
  | .ondlyExpiry c => Sys2Proof.Machine.execOndlyExpiry c s
  | .offdlyExpiry c => Sys2Proof.Machine.execOffdlyExpiry c s
  | .inhibitExpiry c => Sys2Proof.Machine.execInhibitExpiry c s
  | .edgeStretchExpiry c => Sys2Proof.Machine.execEdgeStretchExpiry c s
  | .countWindowExpiry c => Sys2Proof.Machine.execCountWindowExpiry c s
  | .cellForceWrite n v => Sys2Proof.Machine.execCellForceWrite n v s
  | .hostSignalWrite w v => Sys2Proof.Machine.execHostSignalWrite w v s
  | .alarmOnDelayExpiry n => Sys2Proof.Machine.execAlarmOnDelayExpiry n s
  | .alarmOffDelayExpiry n => Sys2Proof.Machine.execAlarmOffDelayExpiry n s
  | .ackPoint n => Sys2Proof.Machine.execAckPoint n s
  | .ackGroup g => Sys2Proof.Machine.execAckGroup g s
  | .shelve n minutes => Sys2Proof.Machine.execShelve n minutes s
  | .unshelve n => Sys2Proof.Machine.execUnshelve n s
  | .firstOutReset g => Sys2Proof.Machine.execFirstOutReset g s
  | .outOfService n => Sys2Proof.Machine.execOutOfService n s
  | .returnToService n => Sys2Proof.Machine.execReturnToService n s
  | .ackAll => Sys2Proof.Machine.execAckAll s
  | .shelvingExpiry n => Sys2Proof.Machine.execShelvingExpiry n s
  | .almTsyncWrite all n => Sys2Proof.Machine.execAlmTsyncWrite all n s
  | .opalStageEscalation => Sys2Proof.Machine.execOpalStageEscalation s
  | .attendTimeExpiry => Sys2Proof.Machine.execAttendTimeExpiry s
  | .deadmanIntervalExpiry => Sys2Proof.Machine.execDeadmanIntervalExpiry s
  | .deadmanPrewarnExpiry => Sys2Proof.Machine.execDeadmanPrewarnExpiry s
  | .deadmanBlinkToggle => Sys2Proof.Machine.execDeadmanBlinkToggle s
  | .opalAccept station => Sys2Proof.Machine.execOpalAccept station s
  | .opalDeadmanReset => Sys2Proof.Machine.execOpalDeadmanReset s
  | .opalSetDuty pos => Sys2Proof.Machine.execOpalSetDuty pos s
  | .opalSetAway mask => Sys2Proof.Machine.execOpalSetAway mask s
  | .opalCancel => Sys2Proof.Machine.execOpalCancel s
  | .oplTsyncWrite => Sys2Proof.Machine.execOplTsyncWrite s
  | .callTelegramForm => Sys2Proof.Machine.execCallTelegramForm s
  | .loopRholdExpiry n => Sys2Proof.Machine.execLoopRholdExpiry n s
  | .sinkChangeHoldEnd n => Sys2Proof.Machine.execSinkChangeHoldEnd n s
  | .loopReadback n cur vld vterm neg => Sys2Proof.Machine.execLoopReadback n cur vld vterm neg s
  | .loopFaultRaise n met => Sys2Proof.Machine.execLoopFaultRaise n met s
  | .loopFaultClear n gone => Sys2Proof.Machine.execLoopFaultClear n gone s
  | .miswireRetestEnd n again => Sys2Proof.Machine.execMiswireRetestEnd n again s
  | .fskRequest n txlen => Sys2Proof.Machine.execFskRequest n txlen s
  | .fskTransmitStart n => Sys2Proof.Machine.execFskTransmitStart n s
  | .fskTransmitEnd n => Sys2Proof.Machine.execFskTransmitEnd n s
  | .fskCarrierDetect n => Sys2Proof.Machine.execFskCarrierDetect n s
  | .fskFrameReceive n frame parity framing => Sys2Proof.Machine.execFskFrameReceive n frame parity framing s
  | .fskReplyTimeout n => Sys2Proof.Machine.execFskReplyTimeout n s
  | .fskCollision n => Sys2Proof.Machine.execFskCollision n s
  | .dioInputAccept n => Sys2Proof.Machine.execDioInputAccept n s
  | .dioChatterEntry n => Sys2Proof.Machine.execDioChatterEntry n s
  | .dioChatterExit n => Sys2Proof.Machine.execDioChatterExit n s
  | .dioStuckDetect n => Sys2Proof.Machine.execDioStuckDetect n s
  | .dioBlankingEnd n => Sys2Proof.Machine.execDioBlankingEnd n s
  | .dioClampOnset clamp => Sys2Proof.Machine.execDioClampOnset clamp s
  | .dioOutputTrip n cause load => Sys2Proof.Machine.execDioOutputTrip n cause load s
  | .dioDiagFault n ol raised => Sys2Proof.Machine.execDioDiagFault n ol raised s
  | .groupUvChange g uv vgs => Sys2Proof.Machine.execGroupUvChange g uv vgs s
  | .dioTripClear n => Sys2Proof.Machine.execDioTripClear n s
  | .dioOfltWrite mask => Sys2Proof.Machine.execDioOfltWrite mask s
  | .pwmReload n => Sys2Proof.Machine.execPwmReload n s
  | .pwmGateClose n => Sys2Proof.Machine.execPwmGateClose n s
  | .dioDutyWrite n v => Sys2Proof.Machine.execDioDutyWrite n v s
  | .speedEdgeAccept n chB rising other sample => Sys2Proof.Machine.execSpeedEdgeAccept n chB rising other sample s
  | .standstillTimeout n => Sys2Proof.Machine.execStandstillTimeout n s
  | .overrangeWindowEnd n => Sys2Proof.Machine.execOverrangeWindowEnd n s
  | .speedWiringFault n short raised => Sys2Proof.Machine.execSpeedWiringFault n short raised s
  | .speedMirrorWrite n => Sys2Proof.Machine.execSpeedMirrorWrite n s
  | .ssiFrameStart n => Sys2Proof.Machine.execSsiFrameStart n s
  | .ssiFrameEnd n start raw => Sys2Proof.Machine.execSsiFrameEnd n start raw s
  | .tachtExpiry n => Sys2Proof.Machine.execTachtExpiry n s
  | .shipLinkUp p ten fec => Sys2Proof.Machine.execShipLinkUp p ten fec s
  | .shipLinkDown p => Sys2Proof.Machine.execShipLinkDown p s
  | .linkModeAlternate p => Sys2Proof.Machine.execLinkModeAlternate p s
  | .arpRequestRx p ip mac => Sys2Proof.Machine.execArpRequestRx p ip mac s
  | .igmpQueryRx p group => Sys2Proof.Machine.execIgmpQueryRx p group s
  | .ptpAnnounceRx p dom gm rank utc interval => Sys2Proof.Machine.execPtpAnnounceRx p dom gm rank utc interval s
  | .ptpSyncRx p dom gm seq twoStep ns => Sys2Proof.Machine.execPtpSyncRx p dom gm seq twoStep ns s
  | .ptpDelayRespRx p dom seq ns interval => Sys2Proof.Machine.execPtpDelayRespRx p dom seq ns interval s
  | .ptpDelayReqSend p => Sys2Proof.Machine.execPtpDelayReqSend p s
  | .ptpAnnounceTimeout p => Sys2Proof.Machine.execPtpAnnounceTimeout p s
  | .valuesForm n => Sys2Proof.Machine.execValuesForm n s
  | .signalsForm => Sys2Proof.Machine.execSignalsForm s
  | .sigstateForm => Sys2Proof.Machine.execSigstateForm s
  | .alarmTelegramForm => Sys2Proof.Machine.execAlarmTelegramForm s
  | .statusForm => Sys2Proof.Machine.execStatusForm s
  | .telegramTransmit => Sys2Proof.Machine.execTelegramTransmit s
  | .signalsRx t r0 r1 => Sys2Proof.Machine.execSignalsRx t r0 r1 s
  | .sigstateRx t r0 r1 => Sys2Proof.Machine.execSigstateRx t r0 r1 s
  | .statusRx t => Sys2Proof.Machine.execStatusRx t s
  | .otherTelegramRx t => Sys2Proof.Machine.execOtherTelegramRx t s
  | .requestArmRx t => Sys2Proof.Machine.execRequestArmRx t s
  | .requestAlmcmdRx t => Sys2Proof.Machine.execRequestAlmcmdRx t s
  | .requestOplcmdRx t => Sys2Proof.Machine.execRequestOplcmdRx t s
  | .requestReadRx t => Sys2Proof.Machine.execRequestReadRx t s
  | .requestReadrecRx t => Sys2Proof.Machine.execRequestReadrecRx t s
  | .rxsigStale n => Sys2Proof.Machine.execRxsigStale n s
  | .crosslinkFrameRx lane f arr => Sys2Proof.Machine.execCrosslinkFrameRx lane f arr s
  | .carryRecordRx a w epoch => Sys2Proof.Machine.execCarryRecordRx a w epoch s
  | .cmdRecordRx opl keyed w epoch => Sys2Proof.Machine.execCmdRecordRx opl keyed w epoch s
  | .armRecordRx target arg cmd epoch => Sys2Proof.Machine.execArmRecordRx target arg cmd epoch s
  | .stateRecordRx sec idx l => Sys2Proof.Machine.execStateRecordRx sec idx l s
  | .joinRecordRx digest => Sys2Proof.Machine.execJoinRecordRx digest s
  | .verdRecordRx v d => Sys2Proof.Machine.execVerdRecordRx v d s
  | .replayMissing => Sys2Proof.Machine.execReplayMissing s
  | .disagreementRaise p => Sys2Proof.Machine.execDisagreementRaise p s
  | .disagreementClear p => Sys2Proof.Machine.execDisagreementClear p s
  | .witnessSend => Sys2Proof.Machine.execWitnessSend s
  | .witnessRx w => Sys2Proof.Machine.execWitnessRx w s
  | .witnessSilent => Sys2Proof.Machine.execWitnessSilent s
  | .crosslinkSilence => Sys2Proof.Machine.execCrosslinkSilence s
  | .releaseControl => Sys2Proof.Machine.execReleaseControl s
  | .standbyTakeover => Sys2Proof.Machine.execStandbyTakeover s
  | .refereeSelfCheckEnd fail => Sys2Proof.Machine.execRefereeSelfCheckEnd fail s
  | .refereeWindowOpen => Sys2Proof.Machine.execRefereeWindowOpen s
  | .refereeVerdict => Sys2Proof.Machine.execRefereeVerdict s
  | .observerTakeover => Sys2Proof.Machine.execObserverTakeover s
  | .autoSwapArm => Sys2Proof.Machine.execAutoSwapArm s
  | .postSwapCheckEnd => Sys2Proof.Machine.execPostSwapCheckEnd s
  | .probationEnd => Sys2Proof.Machine.execProbationEnd s
  | .seekTimeout => Sys2Proof.Machine.execSeekTimeout s
  | .sleepEntry => Sys2Proof.Machine.execSleepEntry s
  | .wakeUp => Sys2Proof.Machine.execWakeUp s
  | .wakeGuardTimeout => Sys2Proof.Machine.execWakeGuardTimeout s
  | .wakeSearchTimeout => Sys2Proof.Machine.execWakeSearchTimeout s
  | .sleepPartitionTimeout => Sys2Proof.Machine.execSleepPartitionTimeout s
  | .jlGiveup => Sys2Proof.Machine.execJlGiveup s
  | .jlResync => Sys2Proof.Machine.execJlResync s
  | .jlSwapArm => Sys2Proof.Machine.execJlSwapArm s
  | .onyxSnapshot => Sys2Proof.Machine.execOnyxSnapshot s
  | .onyxRecordWrite => Sys2Proof.Machine.execOnyxRecordWrite s
  | .onyxRecordWriteEnd => Sys2Proof.Machine.execOnyxRecordWriteEnd s
  | .oprHourRecord => Sys2Proof.Machine.execOprHourRecord s
  | .onxHtrigWrite w => Sys2Proof.Machine.execOnxHtrigWrite w s
  | .onxRdselWrite area idx => Sys2Proof.Machine.execOnxRdselWrite area idx s
  | .onyxCopyComplete => Sys2Proof.Machine.execOnyxCopyComplete s
  | .onxChallengeRequest w => Sys2Proof.Machine.execOnxChallengeRequest w s
  | .onxChallengeReady => Sys2Proof.Machine.execOnxChallengeReady s
  | .onxClearCommand => Sys2Proof.Machine.execOnxClearCommand s
  | .onyxClearStart => Sys2Proof.Machine.execOnyxClearStart s
  | .onyxClearComplete => Sys2Proof.Machine.execOnyxClearComplete s
  | .onxChallengeLapse => Sys2Proof.Machine.execOnxChallengeLapse s
  | .onxLockoutEnd => Sys2Proof.Machine.execOnxLockoutEnd s
  | .calendarSecond => Sys2Proof.Machine.execCalendarSecond s
  | .oscillatorStop => Sys2Proof.Machine.execOscillatorStop s
  | .calendarDomainStart => Sys2Proof.Machine.execCalendarDomainStart s
  | .calendarSupplyChange vsup vbk => Sys2Proof.Machine.execCalendarSupplyChange vsup vbk s
  | .clkSet => Sys2Proof.Machine.execClkSet s
  | .clkShift arg => Sys2Proof.Machine.execClkShift arg s
  | .clkCapture => Sys2Proof.Machine.execClkCapture s
  | .clkWindow => Sys2Proof.Machine.execClkWindow s
  | .rateWindowEnd err => Sys2Proof.Machine.execRateWindowEnd err s
  | .imgOpen => Sys2Proof.Machine.execImgOpen s
  | .imgWdataWrite w => Sys2Proof.Machine.execImgWdataWrite w s
  | .imgVerify => Sys2Proof.Machine.execImgVerify s
  | .imgVerifyComplete => Sys2Proof.Machine.execImgVerifyComplete s
  | .imgAbort => Sys2Proof.Machine.execImgAbort s
  | .imgApply => Sys2Proof.Machine.execImgApply s
  | .imgCommit => Sys2Proof.Machine.execImgCommit s
  | .imageCommitRun => Sys2Proof.Machine.execImageCommitRun s
  | .imageCommitComplete mismatch => Sys2Proof.Machine.execImageCommitComplete mismatch s
  | .imagePreparation => Sys2Proof.Machine.execImagePreparation s
  | .imageApply parity => Sys2Proof.Machine.execImageApply parity s
  | .safecellFirstResult => Sys2Proof.Machine.execSafecellFirstResult s
  | .imgKeyChallengeRequest w => Sys2Proof.Machine.execImgKeyChallengeRequest w s
  | .imgKeyChallengeReady => Sys2Proof.Machine.execImgKeyChallengeReady s
  | .keySet => Sys2Proof.Machine.execKeySet s
  | .keyRemove => Sys2Proof.Machine.execKeyRemove s
  | .keyCommandRun => Sys2Proof.Machine.execKeyCommandRun s
  | .hostRead a n ups => Sys2Proof.Machine.execHostRead a n ups s
  | .hostReadChecked check a n ups => Sys2Proof.Machine.execHostReadChecked check a n ups s
  | .hostWrite a l => Sys2Proof.Machine.execHostWrite a l s
  | .hostWriteChecked check a l => Sys2Proof.Machine.execHostWriteChecked check a l s
  | .hostWriteFixed a l => Sys2Proof.Machine.execHostWriteFixed a l s
  | .hostWriteFixedChecked check a l => Sys2Proof.Machine.execHostWriteFixedChecked check a l s
  | .hostReadLock check a ups => Sys2Proof.Machine.execHostReadLock check a ups s
  | .hostWriteUnlock check a w tag => Sys2Proof.Machine.execHostWriteUnlock check a w tag s
  | .hostReadStatus => Sys2Proof.Machine.execHostReadStatus s
  | .hostReadId => Sys2Proof.Machine.execHostReadId s
  | .hostBadOpcode op => Sys2Proof.Machine.execHostBadOpcode op s
  | .hostCsRise issued a ups => Sys2Proof.Machine.execHostCsRise issued a ups s
  | .hostWriteExecute => Sys2Proof.Machine.execHostWriteExecute s
  | .registerWrite a w => Sys2Proof.Machine.execRegisterWrite a w s
  | .keyWordWrite debug w => Sys2Proof.Machine.execKeyWordWrite debug w s
  | .keySequenceExpiry debug => Sys2Proof.Machine.execKeySequenceExpiry debug s
  | .lockBreak => Sys2Proof.Machine.execLockBreak s
  | .lockRelease => Sys2Proof.Machine.execLockRelease s
  | .mgRead a count ups => Sys2Proof.Machine.execMgRead a count ups s
  | .mgWrite a l pecOk => Sys2Proof.Machine.execMgWrite a l pecOk s
  | .mgStatus => Sys2Proof.Machine.execMgStatus s
  | .mgBusStuck => Sys2Proof.Machine.execMgBusStuck s
  | .mgHoldoffEnd => Sys2Proof.Machine.execMgHoldoffEnd s
  | .tapReset => Sys2Proof.Machine.execTapReset s
  | .jtagExtest => Sys2Proof.Machine.execJtagExtest s
  | .jtagSamplePreload => Sys2Proof.Machine.execJtagSamplePreload s
  | .jtagIdcode => Sys2Proof.Machine.execJtagIdcode s
  | .jtagClamp => Sys2Proof.Machine.execJtagClamp s
  | .jtagHighz => Sys2Proof.Machine.execJtagHighz s
  | .jtagDbgacc => Sys2Proof.Machine.execJtagDbgacc s
  | .jtagDbgctl => Sys2Proof.Machine.execJtagDbgctl s
  | .jtagBypass => Sys2Proof.Machine.execJtagBypass s
  | .debugRead a ups => Sys2Proof.Machine.execDebugRead a ups s
  | .debugWrite a w => Sys2Proof.Machine.execDebugWrite a w s
  | .debugHalt => Sys2Proof.Machine.execDebugHalt s
  | .debugResume => Sys2Proof.Machine.execDebugResume s
  | .sysEnterSafe => Sys2Proof.Machine.execSysEnterSafe s
  | .sysSafeExit => Sys2Proof.Machine.execSysSafeExit s
  | .sysWarmReset => Sys2Proof.Machine.execSysWarmReset s
  | .sysSoftReset => Sys2Proof.Machine.execSysSoftReset s
  | .sysHaltokSet => Sys2Proof.Machine.execSysHaltokSet s
  | .sysHaltokClear => Sys2Proof.Machine.execSysHaltokClear s
  | .sysInvalidCmd w => Sys2Proof.Machine.execSysInvalidCmd w s
  | .legacyRead a n late => Sys2Proof.Machine.execLegacyRead a n late s
  | .legacyWrite a l => Sys2Proof.Machine.execLegacyWrite a l s
  | .legacyCsRise fetched => Sys2Proof.Machine.execLegacyCsRise fetched s
  | .legacyWriteExecute => Sys2Proof.Machine.execLegacyWriteExecute s
  | .qmodeWrite v => Sys2Proof.Machine.execQmodeWrite v s
  | .qcmdAckPoint n => Sys2Proof.Machine.execQcmdAckPoint n s
  | .qcmdAckGroup g => Sys2Proof.Machine.execQcmdAckGroup g s
  | .qcmdAckAll => Sys2Proof.Machine.execQcmdAckAll s
  | .qcmdResetFirstOut g => Sys2Proof.Machine.execQcmdResetFirstOut g s
  | .qcmdHornSilence => Sys2Proof.Machine.execQcmdHornSilence s
  | .qcmdInvalid v => Sys2Proof.Machine.execQcmdInvalid v s
  | .hornSilenceEnd => Sys2Proof.Machine.execHornSilenceEnd s
  | .qtimeWrite secs => Sys2Proof.Machine.execQtimeWrite secs s
  | .qhiWrite c v => Sys2Proof.Machine.execQhiWrite c v s
  | .qloWrite c v => Sys2Proof.Machine.execQloWrite c v s
  | .qdlyWrite g v => Sys2Proof.Machine.execQdlyWrite g v s
  | .qdlyRewrite => Sys2Proof.Machine.execQdlyRewrite s
  | .legacyAlarmRx p frame => Sys2Proof.Machine.execLegacyAlarmRx p frame s
  | .legacyHeartbeatRx p frame => Sys2Proof.Machine.execLegacyHeartbeatRx p frame s
  | .legacyAckRx p frame => Sys2Proof.Machine.execLegacyAckRx p frame s
  | .legacyValueRx p frame => Sys2Proof.Machine.execLegacyValueRx p frame s
  | .legacyTimeRx p frame => Sys2Proof.Machine.execLegacyTimeRx p frame s
  | .legacyAlarmForm => Sys2Proof.Machine.execLegacyAlarmForm s
  | .legacyHeartbeatForm => Sys2Proof.Machine.execLegacyHeartbeatForm s
  | .legacyValueForm => Sys2Proof.Machine.execLegacyValueForm s
  | .legacyTransmitStart p => Sys2Proof.Machine.execLegacyTransmitStart p s
  | .legacyStartDefer p => Sys2Proof.Machine.execLegacyStartDefer p s
  | .legacyCollision p => Sys2Proof.Machine.execLegacyCollision p s
  | .legacyTransmitEnd p => Sys2Proof.Machine.execLegacyTransmitEnd p s
  | .legacyLineStuck p => Sys2Proof.Machine.execLegacyLineStuck p s
  | .legacyDriverTestEnd p mark => Sys2Proof.Machine.execLegacyDriverTestEnd p mark s
  | .legacyStuckClear p => Sys2Proof.Machine.execLegacyStuckClear p s
  | .loopSupplyOutOfLimits ok => Sys2Proof.Machine.execLoopSupplyOutOfLimits ok s
  | .comparatorCrossing ch neg mag => Sys2Proof.Machine.execComparatorCrossing ch neg mag s
  | .dioRawChange n level => Sys2Proof.Machine.execDioRawChange n level s
  | .speedRawTransition n rising rejected => Sys2Proof.Machine.execSpeedRawTransition n rising rejected s
  | .dioClampEnd n => Sys2Proof.Machine.execDioClampEnd n s
  | .crosslinkBlockLock lane lock => Sys2Proof.Machine.execCrosslinkBlockLock lane lock s
  | .crosslinkFrameDiscard lane => Sys2Proof.Machine.execCrosslinkFrameDiscard lane s
  | .witnessBadWord => Sys2Proof.Machine.execWitnessBadWord s
  | .datagramDiscard why => Sys2Proof.Machine.execDatagramDiscard why s
  | .legacyFrameError p => Sys2Proof.Machine.execLegacyFrameError p s
  | .ptpFollowUpRx p dom gm seq origin => Sys2Proof.Machine.execPtpFollowUpRx p dom gm seq origin s
  | .imgKeyChallengeLapse => Sys2Proof.Machine.execImgKeyChallengeLapse s
  | .imgKeyLockoutEnd => Sys2Proof.Machine.execImgKeyLockoutEnd s
  | .cellChargeChange low => Sys2Proof.Machine.execCellChargeChange low s

end Sys2Proof.Machine
end

