-- ==== Sys2Proof/Safety.lean ====
section
/-! DEFINITION. The terms in which claims are stated: a command that completes, what it leaves alone, and what holds of a
machine whose pins and memories are in order. -/
namespace Sys2Proof.Machine

open Sys2Proof

/-- A command runs to a next state, of which something holds: no fault, no refusal. -/
def Completes (c : Instr) (s : State) (P : State → Prop) : Prop := ∃ t, exec c s = .next t ∧ P t

/-- Every register word is as before, but for those at the listed addresses. -/
def RegsKeptBut (l : List Nat) (s t : State) : Prop := ∀ a, a ∉ l → t.reg a = s.reg a

/-- Every register word is as before. -/
def RegsKept (s t : State) : Prop := ∀ a, t.reg a = s.reg a

/-- Every SRAM word reads as before, and its error pattern stands as before. -/
def SramKept (s t : State) : Prop := ∀ a, t.sramAt a = s.sramAt a ∧ t.sramPoison a = s.sramPoison a

/-- Every MRAM word reads as before, and its error pattern stands as before. -/
def MramKept (s t : State) : Prop := ∀ a, t.mramAt a = s.mramAt a ∧ t.mramPoison a = s.mramPoison a

/-- All of memory is as before. -/
def MemKept (s t : State) : Prop := SramKept s t ∧ MramKept s t

/-- The pins agree with the registers: HST_IRQ_N is low exactly while an enabled source stands (in compatibility mode, while
QSTAT.ATTN is 1), and SAFE_OUT_N is released exactly in SAFE (R39, R487, R521, R554). -/
def State.pinsAgree (s : State) : Prop := s.pins.irqLow = s.irqHeld ∧ s.pins.safeReleased = s.safeOut

/-- The memories are in canonical form: addresses strictly rising, no entry equal to what an unlisted address reads as. -/
def Mem.wf (m : Mem) : Bool := Store.wf sramReset m.sram && Store.wf mramReset m.mram

/-- Every sparse table of words in the state is in canonical form. -/
def State.canonical (s : State) : Bool := Store.wf regReset s.regs && s.mem.wf

/-- A safe outcome: the command has reached a next state in which the pins agree with the registers. -/
def Safe (o : Host.Outcome State Fault Refusal) : Prop := ∃ t, o = .next t ∧ t.pinsAgree

/-- Node time in order (R50, R52): the beat-in-round count is a place in the round, and the round epoch is the residue that
the beat count has at every round boundary. -/
def TimeS.inOrder (t : TimeS) : Prop := t.usec < 1000000 ∧ t.repoch = epochOf t.beat t.usec

/-- The command arms an action (R62, R64, R66): the slot it takes holds TIM_LTGT, the action and its scope, is armed here, and
keeps TIM_LARG; TIM_LSTAT shows the slot and whether a change was replaced; memory is as before. `P` says more of the slot. -/
def Arms (c : Instr) (action scope : Nat) (s : State) (P : Nat → State → Prop) : Prop :=
  ∀ n replaced, s.slotFor action = some (n, replaced) → Completes c s (fun t =>
    t.reg (TIM_SLOT_W0 n) = s.reg TIM_LTGT ∧ t.get (TIM_SLOT_W1.STATE n) = 1 ∧ t.get (TIM_SLOT_W1.ACTION n) = action
    ∧ t.get (TIM_SLOT_W1.SCOPE n) = scope ∧ t.get (TIM_SLOT_W1.ORIGIN n) = 0 ∧ t.t.slotArg.getD n 0 = s.reg TIM_LARG
    ∧ t.get TIM_LSTAT.RESULT = replaced.toNat ∧ t.get TIM_LSTAT.SLOT = n ∧ MemKept s t ∧ P n t)

/-- The command executes the slot where it is the first due and holds the action (R65, R68): EXECUTED, or MISSED where an
island it names is not alive. `P` says what else holds. -/
def Launches (c : Instr) (action slot : Nat) (s : State) (P : State → Prop) : Prop :=
  s.dueSlots.head? = some slot → s.get (TIM_SLOT_W1.ACTION slot) = action →
    Completes c s (fun t => t.get (TIM_SLOT_W1.STATE slot)
        = (if (s.namedIslands action (s.t.slotArg.getD slot 0)).any (fun i => !s.alive i) then 3 else 2) ∧ P t)

/-- A counter field has gone up by one, staying at all ones once it is there. -/
def CountsUp (f : Fld) (s t : State) : Prop := t.get f = min (2 ^ (f.hi + 1 - f.lo) - 1) (s.get f + 1)

/-- Every SRAM word but those listed reads as before. -/
def SramKeptBut (l : List Nat) (s t : State) : Prop := ∀ a, a ∉ l → t.sramAt a = s.sramAt a ∧ t.sramPoison a = s.sramPoison a

/-- Every MRAM word but those listed reads as before. -/
def MramKeptBut (l : List Nat) (s t : State) : Prop := ∀ a, a ∉ l → t.mramAt a = s.mramAt a ∧ t.mramPoison a = s.mramPoison a

/-- Registers and memory are as before. -/
def AllKept (s t : State) : Prop := RegsKept s t ∧ MemKept s t

/-- An SRAM word that the host may read, holding no error pattern, the SRAM port answering (R20, R22, R28). -/
def State.readable (s : State) (a : Nat) : Prop :=
  isSram a = true ∧ (sramRight a).isSome = true ∧ s.deaf a = false ∧ s.sramPoison a = false

/-- An SRAM word as it reads: its unused bits zero (R6). -/
def State.shown (s : State) (a : Nat) : Word := sramShown a (s.sramAt a)

/-- What the host port answers for the words of a run, read as they stand: plain, or with their tags (R478). -/
def State.plainWords (s : State) (a : Addr) (n : Nat) : List OutWord :=
  (List.range n).map (fun i => ⟨0xA, s.shown (stepAddr a i), 0, 0⟩)
def State.taggedWords (s : State) (a : Addr) (n : Nat) : List OutWord :=
  (List.range n).map (fun i => ⟨0xA, s.shown (stepAddr a i), tagOf (s.shown (stepAddr a i)), 0⟩)

/-- No requester served after this one has written the word in the phase in force (R17, R18). -/
def State.unbeaten (s : State) (req a : Nat) : Prop := ∀ p ∈ s.mem.phaseW, p.addr = a → serveKey p.req ≤ serveKey req

/-- The host may store at the address: a word of the free area whose port answers, and no later-served write of this phase. -/
def State.storable (s : State) (a : Nat) : Prop := isFreeHost a = true ∧ s.deaf a = false ∧ s.unbeaten 27 a

/-- Every word outside the live value mirror is as before. -/
def OutsideMirrorKept (s t : State) : Prop :=
  (∀ a, (a < 0o00400000 ∨ 0o00407777 < a) → t.sramAt a = s.sramAt a ∧ t.sramPoison a = s.sramPoison a) ∧ MramKept s t

/-- No command of a list is the one a row carries, so the row's command is the host's own. -/
def NotQueued (l : List EngCmd) (w : Word) (keyed : Bool) : Prop := ∀ c ∈ l, ¬(c.w = w ∧ c.keyed = keyed)

/-- No overlay stands over an alarm point: neither out of service, shelved, blocked nor held by a flood (R213). -/
def State.noOverlay (s : State) (n : Nat) : Prop :=
  (s.almOf n).oos = false ∧ (s.almOf n).shelved = false ∧ (s.almOf n).held = false ∧ s.flag (ALM_PST.BLK n) = false

/-- The engines take commands: an image is applied, no resync awaits its own, and the unit does not work on a replay (R215, R232). -/
def State.commands (s : State) : Prop := s.up = true ∧ s.almRuns = true ∧ s.replays = false

/-- A point that an acknowledgement changes: unacknowledged and not of priority 0 (R214, R216). -/
def State.ackable (s : State) (n : Nat) : Bool := s.unacked n && (s.almEnt n).pri != 0

/-- The command is the next beat of node time where the condition holds, and otherwise changes nothing but the queue. -/
def IsBeatIf (c : Instr) (due : Bool) (s : State) : Prop :=
  (due = true → (s.t.disc.stepPend = none ∨ s.t.usec ≠ 0) → Completes c s (fun t => t.t.beat = s.t.beat + 1 ∧ t.t.phase = 0))
  ∧ (due = false → Completes c s (fun t => t.t = s.t ∧ AllKept s t))

/-- Registers in which the alarm engine shows its work. -/
def alarmRegs : List Nat :=
  [ALM_CRES, HST_ISRC, ONX_LOST, LEG_STAT] ++ (List.range 64).map ALM_GST
    ++ (List.range 1024).flatMap (fun n => [ALM_PST n, ALM_PT_W0 n, ALM_PT_W1 n])

/-- Registers in which Opal shows its work. -/
def opalRegs : List Nat := [OPL_STAT, OPL_CALLED, OPL_LEFT, OPL_DUTY, OPL_AWAY, OPL_CRES, OPL_CNT, HST_ISRC]

/-- Registers in which an output of the loop island, a discrete point, and a speed input show their work. -/
def loopRegs (n : Nat) : List Nat := [LO_OST n, LO_RB n, LO_STAT, LO_FST n, HST_ISRC]
def inputRegs (n : Nat) : List Nat := [DIO_PST n, DIO_CHAT, DIO_STUCK, DIO_EVT, DIO_CNT n]
def outputRegs (n : Nat) : List Nat := [DIO_PST n, DIO_OFLT, DIO_CNT n, DIO_GST (n / 8), DIO_DUTY n, DIO_ADUTY n]
def groupRegs (g : Nat) : List Nat := DIO_OFLT :: DIO_GST g :: (List.range 8).flatMap (fun i => [DIO_PST (8 * g + i), DIO_CNT (8 * g + i)])
def speedRegs (n : Nat) : List Nat := [SPD_PST n, SPD_PER n, SPD_CNT n]

/-- Registers in which PTP and the discipline of node time show (R54 to R57, R354, R379, R448). -/
def ptpRegs (p : Nat) : List Nat := [SN_STAT, SN_PST p, TIM_DSTAT, TIM_OFFS, TIM_FADJ, CLK_STAT, CLK_RATE]

/-- The ship-network engine works, sends as the active or single unit, and its transmit queues have room (R371, R372). -/
def State.mayForm (s : State) : Prop :=
  s.up = true ∧ s.snOn = true ∧ s.life.applied = true ∧ s.flag SN_CFG.TXEN = true ∧ s.drives = true
    ∧ s.sn.txPriv.length < 64 ∧ s.sn.txOrd.length < 256

/-- A telegram's header (R358): type, identity, number, stamp of the beat of work; and the body after it. -/
def Tele.isOf (x : Tele) (s : State) (typ : Nat) (priv : Bool) (seq grp : Nat) (body : List Word) : Prop :=
  x.priv = priv ∧ x.grp = grp ∧ fld (x.words.getD 0 0) 31 28 = typ ∧ wbit (x.words.getD 0 0) 27 = priv
    ∧ x.at_ = s.t.run ∧ x.hurt = false ∧ x.words.getD 1 0 = W (s.get SN_ID.NID) ∧ x.words.getD 2 0 = W seq ∧ x.words.getD 3 0 = s.wts0 ∧ x.words.getD 4 0 = s.wts1
    ∧ x.words.drop 6 = body

/-- An ordinary telegram joins the ordinary queue, numbered in the unit space. -/
def FormsOrd (s t : State) (typ grp : Nat) (body : List Word) : Prop :=
  ∃ x, t.sn.txOrd = s.sn.txOrd ++ [x] ∧ x.isOf s typ false ((s.sn.seqU + 1) % 2 ^ 32) grp body ∧ t.sn.txPriv = s.sn.txPriv

/-- A privileged telegram joins the privileged queue, numbered in the privileged space. -/
def FormsPriv (s t : State) (typ grp : Nat) (body : List Word) : Prop :=
  ∃ x, t.sn.txPriv = s.sn.txPriv ++ [x] ∧ x.isOf s typ true ((s.get JL_PSEQ.PSEQ + 1) % 2 ^ 32) grp body
    ∧ t.get JL_PSEQ.PSEQ = (s.get JL_PSEQ.PSEQ + 1) % 2 ^ 32 ∧ t.sn.txOrd = s.sn.txOrd

/-- A telegram of a type, its end-to-end check after its words, passes the checks of R369: the engine works, token, format and check
are in order, the telegram is not the unit's own and no duplicate. -/
def State.hears (s : State) (typ : Nat) (t : List Word) : Prop :=
  s.up = true ∧ s.snOn = true ∧ s.badTele t = none ∧ hdrType t = typ
    ∧ (s.sn.window (hdrSrc t) (if hdrPriv t then 0 else 1 + hdrUnit t) (hdrSeq t) (hdr t 3) (hdr t 4)).isSome = true

/-- A request of an operation that this unit is to execute (R376): addressed to the node, from a source allowed it, in this
unit's role and epoch. -/
def State.executes (s : State) (op : Nat) (perm : Nat → Fld) (t : List Word) : Prop :=
  s.hears 7 t ∧ reqOp t = op ∧ fld (hdr t 7) 31 0 = s.get SN_ID.NID ∧ (∃ n, s.mgmtSource (hdrSrc t) = some n ∧ s.flag (perm n) = true)
    ∧ s.reqShare t = 1 ∧ reqRole t ≠ 3

/-- Words of the received-signal table (R373). -/
def rxWords : List Nat := (List.range 32768).map (0o700000 + ·)

/-- Every register below the loop-output block (system, time, field, lattice, alarm, Opal) is as before, but for the discipline
status, the count of SRAM words that fail, and those listed. -/
def LowKeptBut (l : List Nat) (s t : State) : Prop :=
  ∀ a, a < 0o40070000 → a ≠ TIM_DSTAT → a ≠ SYS_ICHK1 → a ∉ l → t.reg a = s.reg a

/-- The unit has become the active: its state and role, its epoch one higher, with a privileged count (R381, R384, R401). -/
def TakesControl (seq : Nat) (s t : State) : Prop :=
  t.pstate = 2 ∧ t.get JL_STAT.ROLE = 1 ∧ t.reg JL_EPOCH = s.reg JL_EPOCH + 1 ∧ t.get JL_PSEQ.PSEQ = seq % 2 ^ 32
    ∧ t.jl.takeAt = none ∧ t.jl.relBeat = none ∧ t.jl.relAt = none ∧ t.flag JL_STAT.REF = false

/-- A record waits in the replay for the next beat of work (R390, R395). -/
def Replays (x : JRec) (s t : State) : Prop :=
  (∃ b, t.jl.link.replay.find? (fun r => r.beat == s.workBeat + 1) = some b ∧ x ∈ b.recs) ∧ AllKept s t

/-- An active has decided to release control at the next beat, with its cause (R400, R401). -/
def Releases (cause : Nat) (s t : State) : Prop := t.get JL_CAUSE.CAUSE = cause ∧ t.jl.relBeat = some (s.t.beat + 1) ∧ t.jl.relAt = some (s.t.run + 1)

/-- Registers in which the image controller shows its work (R475). -/
def imgRegs : List Nat := [IMG_STAT, IMG_CRES, IMG_WCNT, IMG_BAD, IMG_SEQA, IMG_SEQB, HST_ISRC]

/-- Registers a key command changes (R473, R474). -/
def keyRegs : List Nat := [IMG_KRES, IMG_STAT, ONX_STAT, HST_ISRC] ++ (List.range 8).map IMG_KNEW

/-- A key command ends with a result: IMG_KNEW cleared, a refusal counted (R474). -/
def KeyEnds (r : Nat) (s t : State) : Prop :=
  t.get IMG_KRES.RESULT = r ∧ t.get IMG_KRES.TRIES = (s.get IMG_KRES.TRIES + (if r = 0 then 0 else 1)) % 2 ^ 32
    ∧ (∀ i : Fin 8, t.reg (IMG_KNEW i) = 0) ∧ t.img.keyCmd = 0 ∧ RegsKeptBut keyRegs s t

/-- The copy of the key that a SET writes: MAGIC, the next SEQ, the new key (R473). -/
def KeyStored (s t : State) : Prop :=
  let b := match s.keyCopy with | some b => 1 - b | none => 0
  t.mramAt (keyBase b) = keyMagic ∧ t.mramAt (keyBase b + 1) = s.keySeq + 1
    ∧ (∀ i : Fin 8, t.mramAt (keyBase b + 2 + i) = s.reg (IMG_KNEW i))
    ∧ MramKeptBut ((List.range 64).map (keyBase b + ·)) s t ∧ SramKept s t

/-- A frame heard while the port itself sends, from the node's own address: its own (R526). -/
def State.ownFrame (s : State) (p : Nat) (fr : List Byte) : Bool :=
  frameByte fr 1 == s.get LEG_BCFG.ADDR && frameByte fr 1 != 0 && (s.portOf p).sending

/-- A frame of a type, not the port's own, arrives with its delimiter, length and check in order; `dup` says that a frame of its source
and number was accepted on its bus in the last two rounds (R526). -/
def State.legTakes (s : State) (p typ : Nat) (fr : List Byte) (dup : Bool) : Prop :=
  s.ownFrame p fr = false ∧ telegramOk fr = true ∧ frameByte fr 3 % 64 = typ
    ∧ s.leg.seen.any (fun y => y.bus == s.busOf p && y.src == frameByte fr 1 && y.seq == frameByte fr 4
        && decide (s.since y.at_ < 2000000)) = dup

/-- A legacy telegram is formed with the next number: it stands in the queue of a port with room, in its class's place, and is
dropped and counted where the port has none (R525, R530). -/
def FormsLeg (s t : State) (typ cls : Nat) (data : List Nat) : Prop :=
  t.leg.seq = (s.leg.heard.getD s.leg.seq + 1) % 256 ∧ t.leg.heard = none
    ∧ ∀ p : Fin 2,
      ((s.portOf p).q.length < (if cls = 0 then 32 else 24) →
        (t.portOf p).q = placeTx ⟨cls, ([s.get LEG_BCFG.ADDR, 0, cls * 64 + typ, t.leg.seq, data.length] ++ data).map (BitVec.ofNat 8), s.t.run, 0, 0⟩
            (s.portOf p).sending (s.portOf p).q
          ∧ t.get (LEG_PST.QD p) = (s.portOf p).q.length + 1)
      ∧ ((s.portOf p).q.length ≥ (if cls = 0 then 32 else 24) → (t.portOf p).q = (s.portOf p).q ∧ CountsUp (LEG_BCNT.DROP p) s t)

/-- A legacy write refused or without effect: WIGN and LEG_XRES say so (R514, R538). -/
def LegIgnored (s t : State) : Prop :=
  bit (t.get LEG_STAT.QSTAT) 11 = true ∧ t.get LEG_XRES.RESULT = 1 ∧ RegsKeptBut [LEG_STAT, LEG_XRES] s t ∧ MemKept s t

/-- A legacy write is the next to be executed: it is the first in the queue, or arrives with nothing waiting (R521). -/
def State.legFirst (s : State) (a v : Nat) (pair : Bool) : Prop :=
  s.quoster = true ∧ (s.leg.wq = [] ∨ s.leg.wq.head? = some ⟨a, v, pair⟩)

/-- An SRAM table word that the translation engine may rewrite: its port answers, it holds no error pattern, and no later-served write of
this phase stands against it (R17, R20, R36). -/
def State.rewritable (s : State) (a : Nat) : Prop := s.deaf a = false ∧ s.sramPoison a = false ∧ s.unbeaten 27 a

/-- A word with its GEN field raised by one, the rest as before. -/
def GenUp (a : Nat) (s t : State) : Prop :=
  fld (t.sramAt a) 35 28 = (fld (s.sramAt a) 35 28 + 1) % 256 ∧ fld (t.sramAt a) 27 0 = fld (s.sramAt a) 27 0

end Sys2Proof.Machine
end

