-- ==== Sys2Proof/Certificates/Slice0/Obligations.lean ====
section
/-! DEFINITION. The statements. -/
open Sys2Proof Sys2Proof.Machine

/-- A step runs the command at the front of the queue with the queue's rest; on an empty queue the block idles (00_scope.md,
98_reader.md). -/
def Obligations.CommandsRunFirstInFirstOut : Prop :=
  (∀ (c : Instr) (s : State) (r : List Instr), s.pending = c :: r → step s = exec c { s with pending := r })
  ∧ (∀ s : State, s.pending = [] → step s = .next s)

/-- Every command of the table runs to a next state, in which HST_IRQ_N and SAFE_OUT_N agree with the registers (R39, R487,
R521, R554, 95_what_each_step_holds.md). -/
def Obligations.EveryCommandCompletesWithPinsInOrder : Prop :=
  ∀ (c : Instr) (s : State), Safe (exec c s)

/-- Every step keeps HST_IRQ_N and SAFE_OUT_N in agreement with the registers (R39, R487, R521, R554). -/
def Obligations.StepsKeepPinsInOrder : Prop :=
  ∀ s : State, s.pinsAgree → ∃ t, step s = .next t ∧ t.pinsAgree

/-- What the machine holds right after reset (R39, R43, R82, R418, R501, R547). -/
def Obligations.ResetStateHolds : Prop :=
  State.reset.mode = 3 ∧ State.reset.starting = true ∧ State.reset.get SYS_MODE.SAFECAUSE = 0
  ∧ State.reset.flag SYS_MODE.PEND = false ∧ State.reset.pins = ⟨false, true, false, false⟩
  ∧ State.reset.get SYS_ISTAT.ALIVE = 0 ∧ State.reset.get JL_STAT.ROLE = 0 ∧ State.reset.pstate = 0
  ∧ State.reset.get JL_STAT.PARTNER = 15 ∧ (∀ n : Fin 16, State.reset.armedSlot n = false)
  ∧ (∀ i : Fin 4096, State.reset.mirror i = noValue) ∧ State.reset.canonical = true ∧ State.reset.mem.sram = []
  ∧ State.reset.mem.mram = [] ∧ State.reset.pending = [] ∧ State.reset.pinsAgree

/-- The four steps of a cold start: POWER_ON, ALWAYS_ON_SETTLED, COLD_RESET_END, ISLANDS_POWERED (R2, R3, R437, R53, R539,
R545). -/
def Obligations.ColdStartSteps : Prop :=
  ∀ s : State,
    (s.life.boot = .off → Completes .powerOn s (fun t => t.life.boot = .settling ∧ t.t.beat = 0
      ∧ t.get SYS_RSTAT.RCLASS = (if s.life.stopped then 3 else 1) ∧ (∀ a, t.sramAt a = sramReset a) ∧ MramKept s t))
    ∧ (s.life.boot = .settling → Completes .alwaysOnSettled s (fun t => t.life.boot = .settled ∧ t.get CLK_STAT.SUPPLY = 0
      ∧ t.pins.pgOut = !s.life.warn ∧ RegsKeptBut [CLK_STAT] s t ∧ MemKept s t))
    ∧ (∀ compat unit osc, s.life.boot = .settled → Completes (.coldResetEnd compat unit osc) s (fun t => t.life.boot = .timed
      ∧ t.get SYS_STRAP.COMPAT = compat.toNat ∧ t.get SYS_STRAP.UNIT = unit.toNat ∧ t.t.inOrder ∧ MemKept s t))
    ∧ (s.life.boot = .timed → s.life.held = 0 → Completes .islandsPowered s (fun t => t.life.boot = .powered
      ∧ t.get SYS_ISTAT.ALIVE = 2 ^ 29 - 1 ∧ MemKept s t))

/-- How a pin reset, a deferred reset and a resync begin, and how a held reset and the examination of MRAM end (R414, R451,
R539, R541, R543, R545, R551). -/
def Obligations.ResetsBegin : Prop :=
  ∀ s : State,
    (s.life.boot = .timed ∨ s.life.boot = .powered → Completes .pinReset s (fun t => t.life.boot = .settled ∧ t.life.rclass = 2
      ∧ t.get SYS_RSTAT.RCLASS = 2 ∧ t.t.beat = 0 ∧ (∀ a, t.sramAt a = sramReset a) ∧ MramKept s t
      ∧ (∀ a, isClk a = true → t.reg a = s.reg a)
      ∧ (∀ a, isClk a = false → a ≠ SYS_RSTAT → a ≠ IMG_STAT → t.reg a = regReset a)))
    ∧ (s.life.boot = .settling ∨ s.life.boot = .settled → Completes .pinReset s (fun t => t.life.boot = s.life.boot
      ∧ t.life.rclass = min 2 s.life.rclass ∧ RegsKeptBut [SYS_RSTAT] s t ∧ MemKept s t
      ∧ (2 < s.life.rclass → t.get SYS_RSTAT.RCLASS = 2)))
    ∧ (∀ c b, s.up = true → s.life.deferred = some (c, b) → (c = 4 ∨ c = 5 ∨ c = 6) →
      (b ≤ s.t.run → Completes .deferredResetStart s (fun t => t.get SYS_RSTAT.RCLASS = c ∧ t.life.held = c
        ∧ t.life.heldAt = s.t.run ∧ t.life.deferred = none ∧ MemKept s t
        ∧ (if c = 6 then t.mode = s.mode ∧ t.img.resync = true
           else t.mode = 3 ∧ t.starting = true ∧ t.get SYS_MODE.SAFECAUSE = 0 ∧ t.get SYS_MODE.RSTCAUSE = s.get SYS_MODE.SAFECAUSE)))
      ∧ (s.t.run < b → Completes .deferredResetStart s (fun t => t.life.deferred = some (c, b) ∧ AllKept s t)))
    ∧ (s.life.held ≠ 0 → holdBeats s.life.held ≤ s.since s.life.heldAt → s.timed = true →
      Completes .resetHoldEnd s (fun t => t.life.held = 0 ∧ RegsKeptBut [SYS_MODE] s t ∧ MemKept s t
        ∧ (if s.life.held = 6 then RegsKept s t else t.get SYS_MODE.SAFECAUSE = lowestCause s.life.conds)))
    ∧ (s.since s.life.heldAt < holdBeats s.life.held → Completes .resetHoldEnd s (fun t => t.life.held = s.life.held ∧ AllKept s t))
    ∧ (s.up = true → s.pstate = 8 → Completes .jlResync s (fun t => t.get SYS_RSTAT.RCLASS = 6 ∧ t.life.held = 6
        ∧ t.img.resync = true ∧ t.pstate = 0 ∧ t.drives = false ∧ t.mode = s.mode ∧ MemKept s t
        ∧ (∀ a, resyncs a = true → keepOf a = 0 → t.reg a = regReset a)))
    ∧ (s.up = true → s.pstate ≠ 8 → Completes .jlResync s (fun t => t.get JL_CRES.RESULT = 3 ∧ RegsKeptBut [JL_CRES] s t ∧ MemKept s t))
    ∧ (s.up = true → s.life.examined = false → s.alive 26 = true → Completes .mramExamination s (fun t => t.life.examined = true
        ∧ t.flag CAL_STAT.AVALID = s.calValid 0 ∧ t.flag CAL_STAT.BVALID = s.calValid 1
        ∧ t.flag IMG_STAT.NOVALID = (!s.bankValid 0 && !s.bankValid 1) ∧ t.flag IMG_STAT.KEY = s.keyCopy.isSome ∧ MemKept s t))
    ∧ (s.up = true → (s.life.examined = true ∨ s.alive 26 = false) → Completes .mramExamination s (fun t => AllKept s t))

/-- Brown-out warning, its end, its SAFE timeout, and the power-fail stop (R499, R544, R548, R549, R553). -/
def Obligations.SupplyFailingAndReturning : Prop :=
  ∀ s : State,
    (s.life.boot ≠ .off → s.life.warn = false → Completes .brownoutWarning s (fun t => t.life.warn = true ∧ t.pins.pgOut = false
      ∧ t.img.pausedAt.isSome = true ∧ t.cal.pausedAt.isSome = true ∧ MemKept s t ∧ t.mode = s.mode))
    ∧ (s.life.warn = true → s.timed = false ∨ 1000 ≤ s.since s.life.warnAt → Completes .brownoutEnd s (fun t => t.life.warn = false
      ∧ t.img.pausedAt.isSome = s.flag SYS_DBG.HALTED ∧ t.cal.pausedAt.isSome = s.flag SYS_DBG.HALTED ∧ t.holds 6 = false
      ∧ t.pins.pgOut = (s.life.boot != .off && s.life.boot != .settling) ∧ RegsKeptBut [SYS_MODE] s t ∧ MemKept s t))
    ∧ (s.life.warn = true → s.timed = true → s.holds 6 = false →
      (20000 ≤ s.since s.life.warnAt → Completes .brownoutSafeTimeout s (fun t => t.holds 6 = true ∧ t.life.warn = true
        ∧ (s.starting = false → RegsKept s t) ∧ RegsKeptBut [SYS_MODE] s t ∧ MemKept s t))
      ∧ (s.since s.life.warnAt < 20000 → Completes .brownoutSafeTimeout s (fun t => t.holds 6 = false ∧ AllKept s t)))
    ∧ (s.life.boot ≠ .off → s.life.warn = true → Completes .powerFailStop s (fun t => t.life.boot = .off ∧ t.life.stopped = true
        ∧ t.get SYS_RSTAT.RCLASS = 3 ∧ t.pins.pgOut = false ∧ (∀ a, t.sramAt a = sramReset a) ∧ MramKept s t))
    ∧ (s.life.warn = false → Completes .powerFailStop s (fun t => AllKept s t))

/-- BEAT_TICK and BEAT_COUNTER_WRAP advance the beat, beat-in-round and round counts together (R50). -/
def Obligations.NodeTimeAdvances : Prop :=
  ∀ (s : State) (k : Tick), s.timed = true → (s.t.disc.stepPend = none ∨ s.t.usec ≠ 0) →
    (s.t.usec < 999999 → Completes (.beatTick k) s (fun t => t.t.beat = s.t.beat + 1 ∧ t.t.usec = s.t.usec + 1
      ∧ t.t.round = s.t.round ∧ t.t.phase = 0))
    ∧ (s.t.usec = 999999 → Completes (.beatTick k) s (fun t => t.t.beat = s.t.beat + 1 ∧ t.t.usec = 0
      ∧ t.t.round = s.t.round + 1 ∧ t.t.phase = 0))
    ∧ (s.t.beat = 68719476735#36 → s.t.usec < 999999 → Completes (.beatCounterWrap k) s (fun t => t.t.beat = 0
      ∧ t.t.usec = s.t.usec + 1 ∧ t.t.round = s.t.round ∧ t.t.phase = 0))
    ∧ (s.t.beat = 68719476735#36 → s.t.usec = 999999 → Completes (.beatCounterWrap k) s (fun t => t.t.beat = 0
      ∧ t.t.usec = 0 ∧ t.t.round = s.t.round + 1 ∧ t.t.phase = 0))

/-- The commands that move node time keep the round epoch in order, across the wrap of the beat counter (R50, R51, R52, R53,
R58). -/
def Obligations.TimeStepsKeepRoundEpoch : Prop :=
  (∀ (s : State) (k : Tick), s.t.inOrder → Completes (.beatTick k) s (fun t => t.t.inOrder))
  ∧ (∀ (s : State) (k : Tick), s.t.inOrder → Completes (.beatCounterWrap k) s (fun t => t.t.inOrder))
  ∧ (∀ (s : State) (k : Tick) (tasks : Bool) (fails : BitVec 16) (ups : List UpsetAt), s.t.inOrder → s.timed = true →
      (s.t.due = true → s.t.usec = 0 → Completes (.roundBoundary k tasks fails ups) s (fun t => t.t.inOrder ∧ t.t.usec = 0
        ∧ t.t.due = false ∧ t.t.beat = s.t.beat ∧ t.t.round = s.t.round))
      ∧ (s.t.due = false → s.t.usec = 999999 → Completes (.roundBoundary k tasks fails ups) s (fun t => t.t.inOrder ∧ t.t.usec = 0
        ∧ t.t.due = false ∧ t.t.beat = s.t.beat + 1 ∧ t.t.round = s.t.round + 1))
      ∧ (s.t.due = false → s.t.usec < 999999 → Completes (.roundBoundary k tasks fails ups) s (fun t => t.t = s.t ∧ AllKept s t)))
  ∧ (∀ (s : State) (compat unit : Bool) (osc : BitVec 16), s.life.boot = .settled →
      Completes (.coldResetEnd compat unit osc) s (fun t => t.t.inOrder))
  ∧ (∀ (s : State) (d : Int), s.up = true → s.t.disc.stepPend = some d → s.t.usec = 0 → s.t.phase = 0 →
      Completes .nodeTimeStep s (fun t => t.t.inOrder ∧ t.t.disc.stepPend = none))

/-- NODE_TIME_STEP, HOLDOVER_EXPIRY, PPS_IN_EDGE and PPS_OUT_FALL (R55, R56, R57, R58, R60, R80). -/
def Obligations.NodeTimeStepAndPulses : Prop :=
  ∀ s : State, s.up = true →
    (∀ d : Int, s.t.disc.stepPend = some d → s.t.usec = 0 → s.t.phase = 0 →
        (∀ n : Fin 16, s.armedSlot n = true → d ≤ ((s.reg (TIM_SLOT_W0 n) - s.slotNow n).toNat : Int)) → Completes .nodeTimeStep s (fun t =>
        t.t.beat = W (unsign 36 ((s.t.beat.toNat : Int) + d)) ∧ t.t.disc.stepPend = none
        ∧ t.get TIM_DSTAT.STEPS = min 255 (s.get TIM_DSTAT.STEPS + 1) ∧ RegsKeptBut [TIM_DSTAT] s t ∧ MemKept s t))
    ∧ (s.t.disc.stepPend = none ∨ s.t.usec ≠ 0 → Completes .nodeTimeStep s (fun t => t.t = s.t ∧ AllKept s t))
    ∧ (s.flag TIM_DSTAT.HOLD = true → s.lockTrusted s.source54 = false → s.get TIM_DISC.HOLDOVER * 1000000 ≤ s.since s.t.disc.holdAt →
        Completes .holdoverExpiry s (fun t => t.flag TIM_DSTAT.HOLD = false
        ∧ t.flag TIM_DSTAT.TRUST = false ∧ t.get TIM_DSTAT.HOLDLEFT = 0 ∧ t.t.beat = s.t.beat ∧ MemKept s t))
    ∧ (s.flag TIM_DSTAT.HOLD = true → s.flag TIM_DSTAT.TRUST = true → s.lockTrusted s.source54 = false →
        s.since s.t.disc.holdAt < s.get TIM_DISC.HOLDOVER * 1000000 →
        Completes .holdoverExpiry s (fun t => t.flag TIM_DSTAT.HOLD = true ∧ t.flag TIM_DSTAT.TRUST = true ∧ MemKept s t))
    ∧ (∀ ns : Fin 1000, Completes (.ppsInEdge ns) s (fun t => t.t.disc.ppsLast = some s.t.run
        ∧ (∀ b, s.t.disc.ppsLast = some b → 999900 ≤ s.since b ∧ s.since b ≤ 1000100 → t.t.disc.ppsGood = min 4 (s.t.disc.ppsGood + 1))
        ∧ (∀ b, s.t.disc.ppsLast = some b → ¬(999900 ≤ s.since b ∧ s.since b ≤ 1000100) → t.t.disc.ppsGood = 0)
        ∧ (s.t.disc.ppsLast = none → t.t.disc.ppsGood = 0)
        ∧ MemKept s t ∧ t.t.beat = s.t.beat))
    ∧ Completes .ppsOutFall s (fun t =>
        t.pins.ppsOut = (s.pins.ppsOut && decide (s.since s.t.ppsAt < max 1 (s.get TIM_PPSO.WIDTH))) ∧ AllKept s t)

/-- The test of a target beat at TIM_LCMD, and what an arm that fails it leaves (R62, R63, R80). -/
def Obligations.LaunchTargetTest : Prop :=
  ∀ (s : State) (scope : Fin 4) (tag : BitVec 16) (c : Instr), s.up = true → scope.val ≠ 3 →
    c ∈ [.armTableSync scope tag, .armOutputCommit scope tag, .armScanStart scope tag, .armRecorderMark scope tag] →
    ((s.reg TIM_LTGT - s.t.beat).toNat < 8 ∨ 2 ^ 35 ≤ (s.reg TIM_LTGT - s.t.beat).toNat →
      Completes c s (fun t => t.get TIM_LSTAT.RESULT = 2 ∧ RegsKeptBut [TIM_LSTAT] s t ∧ MemKept s t))
    ∧ (8 ≤ (s.reg TIM_LTGT - s.t.beat).toNat → (s.reg TIM_LTGT - s.t.beat).toNat < 2 ^ 35 →
      (s.reg TIM_LTGT - s.t.beat).toNat < s.minlead scope →
      Completes c s (fun t => t.get TIM_LSTAT.RESULT = 3 ∧ RegsKeptBut [TIM_LSTAT] s t ∧ MemKept s t))

/-- The six ARM commands put the action into its slot (R62, R64, R66, R68, R71, R80). -/
def Obligations.ArmingTakesASlot : Prop :=
  ∀ (s : State) (scope : Fin 4) (tag : BitVec 16), s.up = true → scope.val ≠ 3 →
    targetTest (s.reg TIM_LTGT) s.t.beat (s.minlead scope) = 0 →
    (s.mode ≠ 3 → s.starting = false → fld (s.reg TIM_LARG) 1 0 ≠ 3 →
      Arms (.armModeChange scope tag) 0 scope s (fun n t => t.get (TIM_SLOT_W1.TAG n) = tag.toNat ∧ t.flag SYS_MODE.PEND = true
        ∧ t.get SYS_MODE.PMODE = fld (s.reg TIM_LARG) 1 0))
    ∧ (s.reg TIM_LARG = s.reg JL_EPOCH → Arms (.armRoleSwap scope tag) 1 scope s (fun _ _ => True))
    ∧ Arms (.armTableSync scope tag) 2 scope s (fun _ _ => True)
    ∧ Arms (.armOutputCommit scope tag) 3 scope s (fun _ _ => True)
    ∧ Arms (.armScanStart scope tag) 4 scope s (fun _ _ => True)
    ∧ Arms (.armRecorderMark scope tag) 5 scope s (fun _ _ => True)

/-- Invalid actions, mode changes in SAFE, stale role swaps, and Cancel (R71). -/
def Obligations.ArmRefusalsAndCancel : Prop :=
  ∀ (s : State) (scope : Fin 4) (tag : BitVec 16), s.up = true → scope.val ≠ 3 →
    (∀ action : Fin 9, Completes (.armInvalidAction action scope) s (fun t => t.get TIM_LSTAT.RESULT = 5
      ∧ RegsKeptBut [TIM_LSTAT] s t ∧ MemKept s t))
    ∧ (s.mode = 3 ∨ s.starting = true → fld (s.reg TIM_LARG) 1 0 ≠ 3 →
      Completes (.armModeChange scope tag) s (fun t => t.get TIM_LSTAT.RESULT = 6 ∧ RegsKeptBut [TIM_LSTAT] s t ∧ MemKept s t))
    ∧ (s.reg TIM_LARG ≠ s.reg JL_EPOCH →
      Completes (.armRoleSwap scope tag) s (fun t => t.get TIM_LSTAT.RESULT = 7 ∧ RegsKeptBut [TIM_LSTAT] s t ∧ MemKept s t))
    ∧ (s.armedSlot (fld (s.reg TIM_LARG) 3 0) = true →
      Completes (.launchCancel scope) s (fun t => t.get TIM_LSTAT.RESULT = 0 ∧ t.get TIM_LSTAT.SLOT = fld (s.reg TIM_LARG) 3 0
        ∧ t.get (TIM_SLOT_W1.STATE (fld (s.reg TIM_LARG) 3 0)) = 4
        ∧ (s.get (TIM_SLOT_W1.ACTION (fld (s.reg TIM_LARG) 3 0)) = 0 → t.flag SYS_MODE.PEND = false)
        ∧ RegsKeptBut [TIM_LSTAT, SYS_MODE, TIM_SLOT_W1 (fld (s.reg TIM_LARG) 3 0)] s t ∧ MemKept s t))
    ∧ (s.armedSlot (fld (s.reg TIM_LARG) 3 0) = false →
      Completes (.launchCancel scope) s (fun t => t.get TIM_LSTAT.RESULT = 0 ∧ t.get TIM_LSTAT.SLOT = fld (s.reg TIM_LARG) 3 0
        ∧ RegsKeptBut [TIM_LSTAT] s t ∧ MemKept s t))

/-- The launch commands execute the first due slot of their action (R64, R65, R68, R73, R79, R410). -/
def Obligations.LaunchesExecuteDueSlot : Prop :=
  ∀ (s : State) (slot : Fin 16), s.up = true →
    Launches (.modeChange slot) 0 slot s (fun t => t.mode = fld (s.t.slotArg.getD slot 0) 1 0 ∧ t.flag SYS_MODE.PEND = false)
    ∧ (s.pstate ≠ 5 → Launches (.roleSwap slot) 1 slot s (fun t =>
        s.alive 23 = true → (s.pstate ≠ 2 ∨ s.get JL_STAT.PARTNER ≠ 5 ∨ s.flag JL_STAT.REF = true) →
          t.get JL_SWAP.SKIPS = min (2 ^ (JL_SWAP.SKIPS.hi + 1 - JL_SWAP.SKIPS.lo) - 1) (s.get JL_SWAP.SKIPS + 1) ∧ MemKept s t))
    ∧ Launches (.tableSync slot) 2 slot s (fun _ => True)
    ∧ Launches (.outputCommit slot) 3 slot s (fun _ => True)
    ∧ Launches (.scanStart slot) 4 slot s (fun _ => True)
    ∧ Launches (.recorderMark slot) 5 slot s (fun t => MemKept s t)

/-- SAFE_ENTRY enters SAFE from any mode and records the cause (R41). -/
def Obligations.SafeEntryTakesTheNode : Prop :=
  ∀ s : State, s.up = true → s.starting = false → s.life.det ≠ 0 → s.life.det < 256 → s.mode ≠ 3 →
    (s.t.run ≤ s.life.detAt → Completes .safeEntry s (fun t => t.mode = s.mode ∧ t.life.det = s.life.det ∧ AllKept s t))
    ∧ (s.life.detAt < s.t.run → Completes .safeEntry s (fun t => t.mode = 3 ∧ t.get SYS_MODE.SAFECAUSE = lowestCause s.life.det ∧ t.life.det = 0
      ∧ t.pins.safeReleased = true ∧ t.flag SYS_MODE.PEND = false
      ∧ (∀ n : Fin 16, t.armedSlot n = true → 2 ≤ t.get (TIM_SLOT_W1.ACTION n))))

/-- Transfers on the interconnect, handshake timeouts, and islands going and coming (R17, R18, R19, R20, R21, R22, R48,
R579). -/
def Obligations.InterconnectAnswers : Prop :=
  ∀ (s : State) (req : Fin 29) (a : Addr), s.up = true →
    (req.val ≠ 27 → isSram a.toNat = true → s.deaf a.toNat = false → s.sramPoison a.toNat = false → s.phaseOld req a.toNat = none →
        Completes (.interconnectRequest req a none ⟨.clean, false⟩) s (fun t =>
        t.mem.lastWord = s.shown a.toNat ∧ t.mem.lastTag = tagOf (s.shown a.toNat) ∧ t.mem.lastResp = 0 ∧ AllKept s t))
    ∧ (req.val ≠ 27 → isSram a.toNat = false → isMram a.toNat = false → isReg a.toNat = false →
        Completes (.interconnectRequest req a none ⟨.clean, false⟩) s (fun t => t.mem.lastResp = 6 ∧ AllKept s t))
    ∧ (req.val ≠ 27 → s.deaf a.toNat = true →
        Completes (.interconnectRequest req a none ⟨.clean, false⟩) s (fun t => t.mem.lastResp = 4 ∧ AllKept s t))
    ∧ (∀ w : Word, req.val ≠ 27 → isSram a.toNat = true → s.deaf a.toNat = false → s.lockedAt a.toNat = false →
        Completes (.interconnectRequest req a (some (w, tagOf w)) ⟨.clean, false⟩) s (fun t =>
        t.mem.lastResp = 0 ∧ SramKeptBut [a.toNat] s t ∧ MramKept s t ∧ RegsKept s t
        ∧ (s.unbeaten req a.toNat → t.sramAt a.toNat = w ∧ t.sramPoison a.toNat = false)
        ∧ (¬ s.unbeaten req a.toNat → SramKept s t)))
    ∧ (∀ (i : Nat) (write : Bool) (age : BitVec 16), req.val ≠ 27 → targetOf a.toNat = some i → s.alive i = true → s.htoThen age.toNat ≤ age.toNat →
        Completes (.handshakeTimeout (some req) a ⟨write, age⟩) s (fun t => t.mem.lastResp = 3 ∧ t.alive i = false ∧ MemKept s t
          ∧ RegsKeptBut [SYS_HTOLOG, SYS_ISTAT, HST_ISRC] s t
          ∧ (s.flag SYS_HTOLOG.VALID = false → t.flag SYS_HTOLOG.VALID = true ∧ t.get SYS_HTOLOG.REQ = req
            ∧ t.get SYS_HTOLOG.TGT = i ∧ t.get SYS_HTOLOG.ADDR = a.toNat)))
    ∧ (∀ (write : Bool) (age : BitVec 16), req.val ≠ 27 → isSram a.toNat = true → s.deaf a.toNat = false → s.htoThen age.toNat ≤ age.toNat →
        Completes (.handshakeTimeout (some req) a ⟨write, age⟩) s (fun t => t.mem.lastResp = 3 ∧ t.deaf a.toNat = true ∧ MemKept s t))
    ∧ (∀ (write : Bool) (age : BitVec 16), age.toNat < s.htoThen age.toNat →
        Completes (.handshakeTimeout (some req) a ⟨write, age⟩) s (fun t => t.mem = s.mem ∧ AllKept s t))
    ∧ (∀ i : Fin 29, s.alive i = true → Completes (.islandSupplyLoss i) s (fun t => t.alive i = false
        ∧ (s.used i = true → dataIslands.contains i.val = true → t.life.fell = true)))
    ∧ (∀ i : Fin 29, s.alive i = false → s.used i = true → Completes (.islandHandshakeRestore (i.castLE (by decide))) s (fun t =>
        t.alive i = true ∧ t.used i = true ∧ RegsKeptBut [SYS_ISTAT, SYS_IUSE, SYS_MODE] s t ∧ OutsideMirrorKept s t
        ∧ (∀ j : Fin 8, i.val < 16 → t.mirror (8 * i + j) = noValue)))

/-- The MRAM patrol, the watchdog's expiry and its SAFE timeout (R25, R24, R34, R44, R500). -/
def Obligations.PatrolAndWatchdog : Prop :=
  ∀ s : State, s.up = true →
    (s.alive 26 = true → s.mem.mramBad = [] → Completes (.mramPatrol []) s (fun t => t.mem.patrols = s.mem.patrols + 1 ∧ AllKept s t))
    ∧ (∀ a : Addr, s.alive 26 = true → s.mem.mramBad = [] → isMram a.toNat = true → Completes (.mramPatrol [⟨a, .single⟩]) s (fun t =>
        CountsUp SYS_ICHK2.CORR s t ∧ RegsKeptBut [SYS_ICHK2] s t ∧ MemKept s t ∧ t.mem.patrols = s.mem.patrols + 1))
    ∧ (s.flag SYS_DBG.HALTED = false → s.flag SYS_WDOG.EXP = false →
      (2 ≤ s.hst.missed → Completes .watchdogExpiry s (fun t => t.flag SYS_WDOG.EXP = true
        ∧ t.get SYS_WDOG.ROUNDS = 0 ∧ CountsUp SYS_WDOG.EXPS s t ∧ t.hst.expRun = s.t.run - s.t.usec ∧ MemKept s t))
      ∧ (s.hst.missed < 2 → Completes .watchdogExpiry s (fun t => t.flag SYS_WDOG.EXP = false ∧ AllKept s t)))
    ∧ (s.flag SYS_WDOG.EXP = true → s.holds 2 = false →
      (4000000 ≤ s.since s.hst.expRun → Completes .watchdogSafeTimeout s (fun t =>
        t.holds 2 = true ∧ RegsKeptBut [SYS_MODE] s t ∧ MemKept s t))
      ∧ (s.since s.hst.expRun < 4000000 → Completes .watchdogSafeTimeout s (fun t => t.holds 2 = false ∧ AllKept s t)))

/-- The host port's read transactions (R476, R477, R478, R479, R480, R482, R503). -/
def Obligations.HostReadsReturnTheWords : Prop :=
  ∀ (s : State) (a : Addr) (n : BitVec 12), s.native = true → s.hst.wq = [] →
    ((∀ i, i < n.toNat → s.readable (stepAddr a i)) → s.flag HST_CFG.CHKREQ = false →
        Completes (.hostRead a n []) s (fun t => t.hst.out = s.plainWords a n.toNat ∧ AllKept s t))
    ∧ ((∀ i, i < n.toNat → s.readable (stepAddr a i)) →
        Completes (.hostReadChecked (headerCheck 0x0B a) a n []) s (fun t => t.hst.out = s.taggedWords a n.toNat ∧ AllKept s t))
    ∧ (∀ check : Byte, check ≠ headerCheck 0x0B a → Completes (.hostReadChecked check a n []) s (fun t =>
        t.hst.out = badWords n.toNat ∧ t.flag HST_STAT.HDRERR = true ∧ CountsUp HST_ERRCNT.HDRERRS s t
        ∧ RegsKeptBut [HST_STAT, HST_ERRCNT] s t ∧ MemKept s t))
    ∧ (s.flag HST_CFG.CHKREQ = true → Completes (.hostRead a n []) s (fun t => t.hst.out = [] ∧ t.flag HST_STAT.BADOP = true
        ∧ RegsKeptBut [HST_STAT] s t ∧ MemKept s t))
    ∧ (∀ op : Byte, op ∉ opcodes → Completes (.hostBadOpcode op) s (fun t => t.hst.out = [] ∧ t.flag HST_STAT.BADOP = true
        ∧ RegsKeptBut [HST_STAT] s t ∧ MemKept s t))
    ∧ Completes .hostReadStatus s (fun t => t.hst.out = [⟨0xA, s.view HST_STAT, 0, 0⟩] ∧ AllKept s t)
    ∧ Completes .hostReadId s (fun t => t.hst.out = [⟨0xA, s.view SYS_ID, 0, 0⟩] ∧ AllKept s t)
    ∧ (∀ issued : Bool, (issued = true → s.readable a.toNat) → Completes (.hostCsRise issued a []) s (fun t => AllKept s t))

/-- The host port's write transactions fill the queue in order (R477, R479, R481, R482, R483). -/
def Obligations.HostWritesQueueInOrder : Prop :=
  ∀ (s : State) (a : Addr), s.native = true →
    (∀ l : List Word, s.flag HST_CFG.CHKREQ = false → s.hst.wq.length + l.length ≤ 64 → Completes (.hostWrite a l) s (fun t =>
        t.hst.wq = s.hst.wq ++ l.zipIdx.map (fun p => ⟨stepAddr a p.2, p.1⟩) ∧ t.hst.out = [] ∧ AllKept s t))
    ∧ (∀ l : List Word, s.flag HST_CFG.CHKREQ = false → s.hst.wq.length + l.length ≤ 64 → Completes (.hostWriteFixed a l) s (fun t =>
        t.hst.wq = s.hst.wq ++ l.map (fun w => ⟨a.toNat, w⟩) ∧ t.hst.out = [] ∧ AllKept s t))
    ∧ (∀ l : List (Word × Byte), (∀ p ∈ l, p.2 = tagOf p.1) → s.hst.wq.length + l.length ≤ 64 →
        Completes (.hostWriteChecked (headerCheck 0x12 a) a l) s (fun t =>
          t.hst.wq = s.hst.wq ++ l.zipIdx.map (fun p => ⟨stepAddr a p.2, p.1.1⟩) ∧ t.hst.out = [] ∧ AllKept s t))
    ∧ (∀ l : List (Word × Byte), (∀ p ∈ l, p.2 = tagOf p.1) → s.hst.wq.length + l.length ≤ 64 →
        Completes (.hostWriteFixedChecked (headerCheck 0x32 a) a l) s (fun t =>
          t.hst.wq = s.hst.wq ++ l.map (fun p => ⟨a.toNat, p.1⟩) ∧ t.hst.out = [] ∧ AllKept s t))
    ∧ (∀ w : Word, s.flag HST_CFG.CHKREQ = false → s.hst.wq.length = 64 → Completes (.hostWrite a [w]) s (fun t =>
        t.hst.wq = s.hst.wq ∧ t.flag HST_STAT.WOVF = true ∧ CountsUp HST_ERRCNT.WOVFS s t ∧ MemKept s t
        ∧ RegsKeptBut [HST_STAT, HST_ERRCNT, HST_WRES, HST_ISRC] s t))
    ∧ (∀ (w : Word) (tag : Byte), tag ≠ tagOf w → Completes (.hostWriteChecked (headerCheck 0x12 a) a [(w, tag)]) s (fun t =>
        t.hst.wq = s.hst.wq ∧ t.flag HST_STAT.TAGERR = true ∧ CountsUp HST_ERRCNT.TAGERRS s t ∧ MemKept s t
        ∧ RegsKeptBut [HST_STAT, HST_ERRCNT, HST_WRES, HST_ISRC] s t))

/-- HOST_WRITE_EXECUTE takes the front word of the queue (R28, R62, R481, R483). -/
def Obligations.QueuedWriteExecutes : Prop :=
  ∀ (s : State) (a : Nat) (w : Word) (r : List HostWr), s.served = true → s.hst.wq = ⟨a, w⟩ :: r →
    (s.storable a → Completes .hostWriteExecute s (fun t => t.hst.wq = r ∧ t.sramAt a = w ∧ t.sramPoison a = false
      ∧ SramKeptBut [a] s t ∧ MramKept s t ∧ RegsKept s t))
    ∧ (a = TIM_LTGT ∨ a = TIM_LARG → s.deaf a = false → Completes .hostWriteExecute s (fun t => t.hst.wq = r ∧ t.reg a = w ∧ RegsKeptBut [a] s t ∧ MemKept s t))
    ∧ (isSram a = false → isMram a = false → isReg a = false → s.flag HST_WRES.VALID = false → a < 2 ^ 24 →
        Completes .hostWriteExecute s (fun t => t.hst.wq = r ∧ t.flag HST_WRES.VALID = true ∧ t.get HST_WRES.RESULT = 6
          ∧ t.get HST_WRES.ADDR = a ∧ t.flag HST_ISRC.WERR = true ∧ RegsKeptBut [HST_WRES, HST_ISRC] s t ∧ MemKept s t))

/-- READ LOCK, WRITE UNLOCK, the lock's release and its breaking (R479, R491, R492). -/
def Obligations.BusLockOfOneWord : Prop :=
  ∀ (s : State) (a : Addr) (w : Word),
    (s.native = true → s.hst.wq = [] → s.hst.lockAge < 16 → s.readable a.toNat → isFreeHost a.toNat = true →
        s.flag HST_LOCK.HELD = false → Completes (.hostReadLock (headerCheck 0x13 a) a []) s (fun t =>
          t.hst.out = [⟨0xA, s.sramAt a.toNat, tagOf (s.sramAt a.toNat), 0⟩] ∧ t.lockedAt a.toNat = true
          ∧ t.flag HST_STAT.LOCKED = true ∧ t.hst.lockAge = 0 ∧ RegsKeptBut [HST_LOCK, HST_STAT] s t ∧ MemKept s t))
    ∧ (s.native = true → s.hst.wq = [] → s.hst.lockAge < 16 → s.flag HST_LOCK.HELD = true →
        Completes (.hostReadLock (headerCheck 0x13 a) a []) s (fun t => t.hst.out = [⟨0x5, 0, tagOf 0, 5⟩] ∧ AllKept s t))
    ∧ (s.native = true → s.hst.wq = [] → s.hst.lockAge < 16 → s.hst.held = [] → s.storable a.toNat → s.lockedAt a.toNat = true →
        Completes (.hostWriteUnlock (headerCheck 0x1A a) a w (tagOf w)) s (fun t => t.sramAt a.toNat = w ∧ t.flag HST_LOCK.HELD = false
          ∧ t.flag HST_STAT.LOCKED = false ∧ SramKeptBut [a.toNat] s t ∧ MramKept s t ∧ RegsKeptBut [HST_LOCK, HST_STAT] s t))
    ∧ (s.native = true → s.hst.wq = [] → s.flag HST_LOCK.HELD = false → s.flag HST_WRES.VALID = false →
        Completes (.hostWriteUnlock (headerCheck 0x1A a) a w (tagOf w)) s (fun t => t.get HST_WRES.RESULT = 8
          ∧ t.get HST_WRES.ADDR = a.toNat ∧ RegsKeptBut [HST_WRES, HST_ISRC] s t ∧ MemKept s t))
    ∧ (s.served = true → s.flag HST_LOCK.HELD = true → Completes .lockRelease s (fun t => t.flag HST_LOCK.HELD = false
        ∧ t.flag HST_STAT.LOCKED = false ∧ t.hst.held = [] ∧ RegsKeptBut [HST_LOCK, HST_STAT] s t ∧ MramKept s t))
    ∧ (s.served = true → s.hst.lockAge < 16 → Completes .lockBreak s (fun t => AllKept s t))
    ∧ (s.served = true → s.flag HST_LOCK.HELD = true → 16 ≤ s.hst.lockAge → Completes .lockBreak s (fun t => t.flag HST_LOCK.HELD = false
        ∧ t.flag HST_STAT.LOCKED = false ∧ t.flag HST_STAT.LOCKBRK = true ∧ CountsUp HST_ERRCNT.LOCKBRKS s t
        ∧ t.flag HST_ISRC.LOCK = true ∧ t.hst.held = [] ∧ MramKept s t))

/-- Key words on either path, the expiry of a keyed sequence, and the writes of registers taking effect (R7, R33, R442,
R488, R489, R490). -/
def Obligations.KeyedSequencesAndRegisterWrites : Prop :=
  ∀ (s : State) (debug : Bool) (w : Word) (p : Path), s.served = true → p = (if debug then .debug else .host) →
    (Completes (.keyWordWrite debug key1) s (fun t => t.keyState p = 1 ∧ t.keyAge p = 0
        ∧ RegsKeptBut [HST_KSTAT, HST_ISRC] s t ∧ MemKept s t))
    ∧ (s.keyState p = 1 → s.keyAge p < 64 → Completes (.keyWordWrite debug key2) s (fun t => t.keyState p = 2 ∧ t.keyAge p = s.keyAge p
          ∧ RegsKeptBut [HST_KSTAT] s t ∧ MemKept s t))
    ∧ (s.keyState p = 1 ∧ w ≠ key2 ∨ s.keyState p = 2 → s.keyAge p < 64 → w ≠ key1 →
        Completes (.keyWordWrite debug w) s (fun t => t.keyState p = 0 ∧ t.get HST_KSTAT.LAST = 3
          ∧ t.flag HST_KSTAT.LPATH = debug ∧ t.flag HST_ISRC.KEY = true ∧ RegsKeptBut [HST_KSTAT, HST_ISRC] s t ∧ MemKept s t))
    ∧ (s.keyState p = 0 → w ≠ key1 → Completes (.keyWordWrite debug w) s (fun t => AllKept s t))
    ∧ (s.keyState p ≠ 0 → 64 ≤ s.keyAge p → Completes (.keySequenceExpiry debug) s (fun t => t.keyState p = 0
          ∧ t.get HST_KSTAT.LAST = 2 ∧ t.flag HST_KSTAT.LPATH = debug
          ∧ t.flag HST_ISRC.KEY = true ∧ RegsKeptBut [HST_KSTAT, HST_ISRC] s t ∧ MemKept s t))
    ∧ (s.keyState p = 0 ∨ s.keyAge p < 64 → Completes (.keySequenceExpiry debug) s (fun t => AllKept s t))
    ∧ (∀ a : Addr, a.toNat = TIM_LTGT ∨ a.toNat = TIM_LARG → s.deaf a.toNat = false →
        Completes (.registerWrite a w) s (fun t => t.reg a.toNat = w ∧ RegsKeptBut [a.toNat] s t ∧ MemKept s t))
    ∧ (∀ (a : Addr) (i : Fin 16), s.alive 25 = true → a.toNat = CLK_BK i → Completes (.registerWrite a w) s (fun t => t.reg a.toNat = w
        ∧ t.bitOf CLK_STAT.BKERR i = false ∧ RegsKeptBut [a.toNat, CLK_STAT] s t ∧ MemKept s t))
    ∧ (∀ a : Addr, a.toNat = TIM_MINLEAD ∨ a.toNat = TIM_MDOM ∨ a.toNat = TIM_PPSO → s.deaf a.toNat = false →
        Completes (.registerWrite a w) s (fun t => t.reg a.toNat = s.written a.toNat w ∧ RegsKeptBut [a.toNat] s t ∧ MemKept s t))
    ∧ (∀ a : Addr, isWk a.toNat = true ∨ regRow a.toNat = none → Completes (.registerWrite a w) s (fun t => AllKept s t))

/-- The 2-wire port: reads, writes with their PEC, status, a stuck bus and the end of its hold-off (R493, R494). -/
def Obligations.TwoWirePort : Prop :=
  ∀ (s : State) (a : Addr) (w : Word), s.served = true →
    (s.mgOn = true → s.readable a.toNat → Completes (.mgRead a 1 []) s (fun t =>
        t.hst.mgOut = [⟨0xA, s.shown a.toNat, tagOf (s.shown a.toNat), 0⟩] ∧ AllKept s t))
    ∧ (∀ n : Byte, s.mgOn = true → n.toNat = 0 ∨ 32 < n.toNat → Completes (.mgRead a n []) s (fun t => t.hst.mgOut = [] ∧ AllKept s t))
    ∧ (s.mgOn = true → s.storable a.toNat → s.lockedAt a.toNat = false → Completes (.mgWrite a [w] true) s (fun t =>
        t.sramAt a.toNat = w ∧ t.sramPoison a.toNat = false ∧ SramKeptBut [a.toNat] s t ∧ MramKept s t ∧ RegsKept s t))
    ∧ (∀ l : List Word, s.mgOn = true → Completes (.mgWrite a l false) s (fun t => t.flag HST_MGSTAT.PECERR = true
        ∧ CountsUp HST_MGSTAT.PECERRS s t ∧ RegsKeptBut [HST_MGSTAT] s t ∧ MemKept s t))
    ∧ (s.mgOn = true → Completes .mgStatus s (fun t => t.hst.mgOut = [⟨0xA, s.view HST_MGSTAT, 0, 0⟩] ∧ AllKept s t))
    ∧ (s.mgOn = true → Completes .mgBusStuck s (fun t => t.flag HST_MGSTAT.STUCK = true ∧ t.flag HST_MGSTAT.HOLDOFF = true
        ∧ CountsUp HST_MGSTAT.STUCKS s t ∧ t.flag HST_ISRC.MG = true ∧ t.hst.mgOut = []
        ∧ RegsKeptBut [HST_MGSTAT, HST_ISRC] s t ∧ MemKept s t))
    ∧ (1000000 ≤ s.since s.hst.mgAt → Completes .mgHoldoffEnd s (fun t => t.flag HST_MGSTAT.HOLDOFF = false
        ∧ RegsKeptBut [HST_MGSTAT] s t ∧ MemKept s t))
    ∧ (s.since s.hst.mgAt < 1000000 → Completes .mgHoldoffEnd s (fun t => AllKept s t))

/-- The nine instructions of the test access port (R495, R496). -/
def Obligations.TestAccessPortInstructions : Prop :=
  ∀ s : State, s.life.boot ≠ .off →
    (∀ p ∈ [(Instr.tapReset, 2), (.jtagIdcode, 2), (.jtagSamplePreload, 1), (.jtagDbgacc, 8), (.jtagDbgctl, 9), (.jtagBypass, 31)],
      Completes p.1 s (fun t => t.hst.ir = p.2 ∧ t.flag SYS_DBG.SCAN = false ∧ RegsKeptBut [SYS_DBG] s t ∧ MemKept s t))
    ∧ (∀ p ∈ [(Instr.jtagExtest, 0), (.jtagClamp, 3), (.jtagHighz, 4)],
      (s.mode = 3 ∨ s.starting = true → Completes p.1 s (fun t => t.hst.ir = p.2 ∧ t.flag SYS_DBG.SCAN = true
        ∧ RegsKeptBut [SYS_DBG] s t ∧ MemKept s t))
      ∧ (s.mode ≠ 3 → s.starting = false → Completes p.1 s (fun t => t.hst.ir = 31 ∧ t.flag SYS_DBG.SCAN = false
        ∧ t.flag SYS_DBG.REFUSED = true ∧ RegsKeptBut [SYS_DBG] s t ∧ MemKept s t)))

/-- Debug reads and writes, HALT and RESUME (R491, R497, R498, R499). -/
def Obligations.DebugPortAccessAndHalt : Prop :=
  ∀ (s : State) (a : Addr) (w : Word), s.served = true →
    (s.dbgReady = true → s.readable a.toNat → Completes (.debugRead a []) s (fun t => t.hst.dbgState = 2 ∧ t.hst.dbgResp = 0
        ∧ t.hst.dbgData = s.shown a.toNat ∧ t.hst.dbgAddr = a.toNat ∧ AllKept s t))
    ∧ (s.dbgReady = true → s.storable a.toNat → s.lockedAt a.toNat = false → Completes (.debugWrite a w) s (fun t =>
        t.hst.dbgState = 2 ∧ t.hst.dbgResp = 0 ∧ t.sramAt a.toNat = w ∧ SramKeptBut [a.toNat] s t ∧ MramKept s t
        ∧ CountsUp SYS_DBG.DWRITES s t ∧ RegsKeptBut [SYS_DBG] s t))
    ∧ (s.dbgReady = true → s.storable a.toNat → s.lockedAt a.toNat = true → Completes (.debugWrite a w) s (fun t =>
        t.hst.dbgState = 1 ∧ t.hst.held = s.hst.held ++ [⟨.debug, a.toNat, w⟩] ∧ CountsUp SYS_DBG.DWRITES s t ∧ MemKept s t))
    ∧ (s.hst.ir = 9 → s.flag SYS_DBG.HALTED = false → s.mode = 2 ∨ s.mode = 3 ∨ s.starting = true ∨ s.flag SYS_DBG.HALTOK = true →
        Completes .debugHalt s (fun t => t.flag SYS_DBG.HALTED = true ∧ t.flag SYS_WDOG.FROZEN = !s.flag SYS_WDOG.EXP
          ∧ t.img.pausedAt.isSome = true ∧ t.cal.pausedAt.isSome = true ∧ RegsKeptBut [SYS_DBG, SYS_WDOG] s t ∧ MemKept s t))
    ∧ (s.hst.ir = 9 → s.flag SYS_DBG.HALTED = false → s.mode ≤ 1 → s.starting = false → s.flag SYS_DBG.HALTOK = false →
        Completes .debugHalt s (fun t => t.flag SYS_DBG.HALTED = false ∧ t.flag SYS_DBG.REFUSED = true
          ∧ RegsKeptBut [SYS_DBG] s t ∧ MemKept s t))
    ∧ (s.hst.ir = 9 → s.flag SYS_DBG.HALTED = true → Completes .debugResume s (fun t => t.flag SYS_DBG.HALTED = false
        ∧ t.flag SYS_WDOG.FROZEN = false ∧ t.img.pausedAt.isSome = s.life.warn ∧ t.cal.pausedAt.isSome = s.life.warn
        ∧ RegsKeptBut [SYS_DBG, SYS_WDOG] s t ∧ MemKept s t))

/-- The SYS_CMD commands (R42, R44, R501, R502, R539, R543). -/
def Obligations.SystemCommands : Prop :=
  ∀ s : State, s.served = true →
    Completes .sysEnterSafe s (fun t => t.get SYS_CRES.RESULT = 0 ∧ t.holds 4 = true ∧ MemKept s t)
    ∧ (s.starting = true → Completes .sysSafeExit s (fun t => t.get SYS_CRES.RESULT = 3 ∧ RegsKeptBut [SYS_CRES] s t ∧ MemKept s t))
    ∧ (s.starting = false → s.mode ≠ 3 → Completes .sysSafeExit s (fun t => t.get SYS_CRES.RESULT = 1
        ∧ RegsKeptBut [SYS_CRES] s t ∧ MemKept s t))
    ∧ (s.starting = false → s.mode = 3 → lowestCause (setBit s.life.conds 4 false) ≠ 0 → Completes .sysSafeExit s (fun t =>
        t.get SYS_CRES.RESULT = 2 ∧ t.mode = 3 ∧ RegsKeptBut [SYS_CRES, SYS_MODE] s t ∧ MemKept s t))
    ∧ (∀ n replaced, s.starting = false → s.mode = 3 → lowestCause (setBit s.life.conds 4 false) = 0 →
        s.slotFor 0 = some (n, replaced) → s.minlead 0 < 2 ^ 35 → Completes .sysSafeExit s (fun t =>
          t.get SYS_CRES.RESULT = 0 ∧ t.armedSlot n = true ∧ t.get (TIM_SLOT_W1.ACTION n) = 0
          ∧ t.reg (TIM_SLOT_W0 n) = s.t.beat + W (s.minlead 0) ∧ t.flag SYS_MODE.PEND = true ∧ t.get SYS_MODE.PMODE = 2 ∧ MemKept s t))
    ∧ (s.pstate ≠ 2 ∨ s.get JL_STAT.PARTNER ≠ 5 →
        Completes .sysWarmReset s (fun t => t.get SYS_RSTAT.RCLASS = 4 ∧ t.life.held = 4 ∧ t.life.boot = .timed ∧ MemKept s t)
        ∧ Completes .sysSoftReset s (fun t => t.get SYS_RSTAT.RCLASS = 5 ∧ t.life.held = 5 ∧ t.life.boot = .timed ∧ MemKept s t))
    ∧ Completes .sysHaltokSet s (fun t => t.flag SYS_DBG.HALTOK = true ∧ t.get SYS_CRES.RESULT = 0
        ∧ RegsKeptBut [SYS_CRES, SYS_DBG] s t ∧ MemKept s t)
    ∧ Completes .sysHaltokClear s (fun t => t.flag SYS_DBG.HALTOK = false ∧ t.get SYS_CRES.RESULT = 0
        ∧ RegsKeptBut [SYS_CRES, SYS_DBG] s t ∧ MemKept s t)
    ∧ (∀ w : Word, w.toNat = 0 ∨ 6 < w.toNat → Completes (.sysInvalidCmd w) s (fun t => t.get SYS_CRES.RESULT = 4
        ∧ RegsKeptBut [SYS_CRES] s t ∧ MemKept s t))

/-- The checked reload of a table entry: adoption, failure, retry, and the TSYNC triggers (R92, R93, R94, R95, R96, R97,
R105, R202, R239). -/
def Obligations.CheckedReloadAdoptsOrKeeps : Prop :=
  (∀ (s : State) (p : Fin 1209) (r : Pass) (rest : List Nat), s.up = true → s.alive (unitOf p) = true → s.passOf (unitOf p) = r →
      r.due = p.val :: rest → p.val ∉ rest → r.miss = 0 → r.words.length = (entryAddrs p).length + 1 →
      r.words.getD (entryAddrs p).length 0 = r.words.headD 0 → s.validEntry p (r.words.take (entryAddrs p).length) = true →
      r.readAt + (entryAddrs p).length + 2 ≤ s.t.run →
      Completes (.entryReload p false) s (fun t => (t.copyOf p).words = r.words.take (entryAddrs p).length
        ∧ (p.val < 184 → t.get (stateFld p) = 1) ∧ MramKept s t))
  ∧ (∀ (s : State) (p : Fin 1209) (r : Pass) (rest : List Nat), s.up = true → s.alive (unitOf p) = true → s.passOf (unitOf p) = r →
      r.due = p.val :: rest → r.miss = 0 → r.readAt ≤ s.t.run → s.t.run - r.readAt ≤ (entryAddrs p).length →
      (s.copyOf p).tries ≠ 0 → (s.copyOf p).tries < 4 →
      Completes (.reloadRetry p true) s (fun t => (t.copyOf p).words = (s.copyOf p).words
        ∧ t.get (stateFld p) = (if (s.copyOf p).tries = 3 then 4 else 3)
        ∧ (t.copyOf p).tries = ((s.copyOf p).tries + 1) % 4 ∧ MemKept s t))
  ∧ (∀ (s : State) (u : Fin 19) (mask : BitVec 32), s.up = true → s.takesTriggers u = true →
      s.alive u = true → s.dueOf u = [] → Completes (.tsyncWrite u mask) s (fun t =>
        (∀ p, p ∈ t.dueOf u ↔ p ∈ pointsOf u ∧ bit mask.toNat (p - (pointsOf u).headD 0) = true) ∧ MemKept s t))
  ∧ (∀ (s : State) (all : Bool) (n : Fin 1024), s.up = true → s.takesTriggers 20 = true →
      s.alive 20 = true → s.dueOf 20 = [] → Completes (.almTsyncWrite all n) s (fun t =>
        t.dueOf 20 = (if all then pointsOf 20 else [184 + n.val]) ∧ MemKept s t))
  ∧ (∀ s : State, s.up = true → s.takesTriggers 21 = true → s.alive 21 = true → s.dueOf 21 = [] →
      Completes .oplTsyncWrite s (fun t => t.dueOf 21 = [1208] ∧ MemKept s t))

/-- Comparator crossings and acceptances, and a field island's strobes (R134, R135, R180). -/
def Obligations.ComparatorsFollowTheirCrossings : Prop :=
  ∀ s : State, s.up = true →
    (∀ (ch : Fin 128) (neg : Bool) (mag : BitVec 24) (e : Entry) (level : Int) (x ch_ cl dh dl : Rat), s.enabled ch = true → s.alive (fiOf ch) = true →
        e = s.entry ch → level = (if neg then -(mag.toNat : Int) else mag.toNat) → x = level → dh = (offTrim ((s.factory (fiOf ch)).getD (23 + 2 * (ch % 8)) 0)).1 →
        dl = (offTrim ((s.factory (fiOf ch)).getD (24 + 2 * (ch % 8)) 0)).1 →
        ch_ = (roundRat ((e.f 3 35 24 : Rat) - dh) : Rat) + dh → cl = (roundRat ((e.f 3 23 12 : Rat) - dl) : Rat) + dl →
        Completes (.comparatorCrossing ch neg mag) s (fun t => (t.chanOf ch).level = some level
          ∧ t.bitOf (FI_CBITS.HRAW (fiOf ch)) (ch % 8) = (e.b 3 7 && (decide (ch_ * 4096 - 8388608 < x)
              || (!decide (x < (ch_ - e.chys) * 4096 - 8388608) && s.bitOf (FI_CBITS.HRAW (fiOf ch)) (ch % 8))))
          ∧ t.bitOf (FI_CBITS.LRAW (fiOf ch)) (ch % 8) = (e.b 3 6 && (decide (x < cl * 4096 - 8388608)
              || (!decide ((cl + e.chys) * 4096 - 8388608 < x) && s.bitOf (FI_CBITS.LRAW (fiOf ch)) (ch % 8))))
          ∧ RegsKeptBut [FI_CBITS (fiOf ch)] s t ∧ MemKept s t))
    ∧ (∀ (ch : Fin 128) (at_ : Nat), s.enabled ch = true → s.alive (fiOf ch) = true → (s.chanOf ch).seenH = some at_ →
        (s.sampleNo < at_ + (s.entry ch).f 11 35 32 → Completes (.comparatorAccept ch true) s (fun t => t.chan = s.chan ∧ AllKept s t))
        ∧ (at_ + (s.entry ch).f 11 35 32 ≤ s.sampleNo →
          Completes (.comparatorAccept ch true) s (fun t => (t.chanOf ch).accH = s.bitOf (FI_CBITS.HRAW (fiOf ch)) (ch % 8)
          ∧ t.bitOf (FI_CEVT.HEVT (fiOf ch)) (ch % 8) = true
          ∧ ((s.cacheOf ch).forced = false → (s.chanOf ch).owPres = false →
              t.bitOf (FI_CBITS.HACC (fiOf ch)) (ch % 8) = s.bitOf (FI_CBITS.HRAW (fiOf ch)) (ch % 8)) ∧ MemKept s t)))
    ∧ (∀ (ch : Fin 128) (at_ : Nat), s.enabled ch = true → s.alive (fiOf ch) = true → (s.chanOf ch).seenL = some at_ →
        (s.sampleNo < at_ + (s.entry ch).f 11 35 32 → Completes (.comparatorAccept ch false) s (fun t => t.chan = s.chan ∧ AllKept s t))
        ∧ (at_ + (s.entry ch).f 11 35 32 ≤ s.sampleNo →
          Completes (.comparatorAccept ch false) s (fun t => (t.chanOf ch).accL = s.bitOf (FI_CBITS.LRAW (fiOf ch)) (ch % 8)
          ∧ t.bitOf (FI_CEVT.LEVT (fiOf ch)) (ch % 8) = true
          ∧ ((s.cacheOf ch).forced = false → (s.chanOf ch).owPres = false →
              t.bitOf (FI_CBITS.LACC (fiOf ch)) (ch % 8) = s.bitOf (FI_CBITS.LRAW (fiOf ch)) (ch % 8)) ∧ MemKept s t)))
    ∧ (∀ k : Fin 16, Completes (.fiStrobeLoss k) s (fun t => t.bitOf BL_STAT.DEADISL k = true ∧ (t.islOf k).lost = true
        ∧ RegsKeptBut [BL_STAT] s t ∧ MemKept s t))
    ∧ (∀ k : Fin 16, s.alive k = true → Completes (.fiStrobeRestore k) s (fun t => t.bitOf BL_STAT.DEADISL k = false
        ∧ (t.islOf k).lost = false ∧ RegsKeptBut [BL_STAT] s t ∧ MemKept s t))

/-- Scan triggers from FI_STRIG and the period timer, and the end of a conversion (R115, R128, R130, R131, R132, R133). -/
def Obligations.ScanTriggersPendAndConvert : Prop :=
  ∀ (s : State) (k : Fin 16) (n : Fin 8), s.up = true → s.alive k = true →
    (s.flag (FI_SLCFG.THOST k n) = true → 2 ≤ s.get (FI_SLCFG.MODE k n) → (s.islOf k).conv.isSome = true → s.flag (FI_SLST.PEND k n) = false →
        Completes (.fiStrigWrite k (BitVec.ofNat 8 (2 ^ n.val))) s (fun t => t.flag (FI_SLST.PEND k n) = true
          ∧ (s.flag (FI_SLST.RUN k n) = true → t.flag (FI_SLST.OVR k n) = true) ∧ RegsKeptBut [FI_SLST k n] s t ∧ MemKept s t))
    ∧ (s.periodDue k n = true → (s.islOf k).conv.isSome = true → s.flag (FI_SLST.PEND k n) = true →
        Completes (.scanPeriodTick k n) s (fun t => t.flag (FI_SLST.PEND k n) = true ∧ CountsUp (FI_SLST.DROPS k n) s t
          ∧ t.flag (FI_SLST.OVR k n) = true ∧ RegsKeptBut [FI_SLST k n] s t ∧ MemKept s t))
    ∧ (∀ j r, s.get (FI_SLCFG.MODE k n) = 2 → s.micros % (orElse (s.get (FI_SLCFG.PERIOD k n)) 1000 * 1000) = 0 →
        bit (s.islOf k).ticked n = false → s.t.phase = 0 → (s.islOf k).conv = none → (s.islOf k).passList = none →
        (∀ m : Fin 8, s.flag (FI_SLST.PEND k m) = false) →
        s.flag (FI_SLST.RUN k n) = false → s.mode ≠ 1 → (s.members k n).filter (s.convertible k) = j :: r →
        Completes (.scanPeriodTick k n) s (fun t => (t.islOf k).passList = some n.val ∧ (t.islOf k).passLeft = r
          ∧ ((t.islOf k).conv.map (fun c => (c.list, c.ch))) = some (n.val, j)
          ∧ t.flag (FI_SLST.RUN k n) = true ∧ t.flag (FI_SLST.PEND k n) = false ∧ MemKept s t))
    ∧ (∀ (c : Conv) (r1 r2 : BitVec 24) (parity testOpen compliance : Bool) (found : Terminals), (s.islOf k).conv = some c →
        c.ch < 8 → c.list < 8 → Entry.meas c.ent ≠ 2 →
        (c.start + c.len < s.t.run + 1 ∨ c.start + c.len = s.t.run + 1 ∧ 2 ≤ s.ph) →
        Completes (.conversionComplete k r1 r2 parity testOpen compliance found) s (fun t =>
          t.get (FI_RAW.RAW k c.ch) = r1.toNat ∧ (parity = true → t.get (FI_RAW.DQ k c.ch) = 12)
          ∧ (t.chanOf (8 * k + c.ch)).convs = (s.chanOf (8 * k + c.ch)).convs + 1 ∧ (t.chanOf (8 * k + c.ch)).stale = false
          ∧ SramKeptBut [0o00400000 + (8 * k + c.ch)] s t ∧ MramKept s t))

/-- VALUE_STALE, SOURCE_HOLD_EXPIRY and CJ_MEASUREMENT (R100, R101, R119, R129, R145, R153). -/
def Obligations.StaleValuesAndTemperatureSources : Prop :=
  ∀ s : State, s.up = true →
    (∀ (ch : Fin 128) (w : Word), (s.chanOf ch).res = some w → s.enabled ch = true → qBad (qOf w) = false → (s.chanOf ch).stale = false →
        (s.since (s.chanOf ch).renewAt ≤ orElse ((s.entry ch).f 2 35 24) 50 * 100000 * (if s.mode = 1 then s.layDiv ch else 1) →
          Completes (.valueStale ch) s (fun t => t.chan = s.chan ∧ AllKept s t))
        ∧ ((s.cacheOf ch).forced = false → (s.cacheOf ch).q14 = false → s.inActiveList ch = true →
          orElse ((s.entry ch).f 2 35 24) 50 * 100000 * (if s.mode = 1 then s.layDiv ch else 1) < s.since (s.chanOf ch).renewAt →
          Completes (.valueStale ch) s (fun t => (t.chanOf ch).stale = true ∧ t.mirror ch = qword 4 (fld w 31 0)
          ∧ SramKeptBut [0o00400000 + ch.val] s t ∧ MramKept s t)))
    ∧ (∀ ch : Fin 128, (s.entry ch).readsSource = true → s.liveSource ch (s.entry ch) = none →
        (s.holdOver ch (s.entry ch) = true → Completes (.sourceHoldExpiry ch) s (fun t => (t.chanOf ch).srcOut = true ∧ AllKept s t))
        ∧ (s.holdOver ch (s.entry ch) = false → Completes (.sourceHoldExpiry ch) s (fun t => t.chan = s.chan ∧ AllKept s t)))
    ∧ (∀ (k : Fin 16) (raw : BitVec 24), s.alive k = true → s.cjDue = true → s.pstate ≠ 6 →
        Completes (.cjMeasurement k raw) s (fun t => t.get (FI_CJRAW.RAW k) = raw.toNat ∧ t.mirror (0o300 + k) = s.cjWord k raw.toInt
          ∧ (s.flag (FI_SCHK.CJ k) = true → t.mirror (0o300 + k) = qword 12 0)
          ∧ SramKeptBut [0o00400300 + k.val] s t ∧ MramKept s t ∧ RegsKeptBut [FI_CJRAW k] s t))
    ∧ (∀ (k : Fin 16) (raw : BitVec 24), s.cjDue = false → Completes (.cjMeasurement k raw) s (fun t => AllKept s t))

/-- The calibration window and the capture commands (R161, R162, R170). -/
def Obligations.CalibrationCaptures : Prop :=
  ∀ s : State, s.up = true →
    (∀ (w : Fin 64) (v : Word) (o n : Nat) (ws : List Nat), calWindow (s.get CAL_CHSEL.SEC) (s.get CAL_CHSEL.IDX) = some (o, n, ws) →
        w.val ∈ ws → Completes (.calWinWrite w v) s (fun t =>
          t.workAt (o + w) = (if w.val = 0 then calWord0 (s.get CAL_CHSEL.SEC) v else v)
          ∧ (∀ x, x ≠ o + w.val → t.workAt x = s.workAt x)
          ∧ t.flag CAL_STAT.EDIT = (calRecords t.cal.work != calRecords s.calInForce) ∧ RegsKeptBut [CAL_STAT] s t ∧ MemKept s t))
    ∧ (∀ p ∈ [(Instr.calCapturePoint1, 1), (.calCapturePoint2, 2)],
        (s.t.usec = 0 → s.cal.cmd = p.2 ∨ s.calBusy = false →
          (s.mode = 2 → s.enabled s.calCh = true → Completes p.1 s (fun t => t.flag CAL_CSTAT.RUN = true ∧ t.get CAL_CSTAT.DONE = 0
            ∧ t.cal.capture.map (fun c => (c.ch, c.point, c.n)) = some (s.calCh, p.2, 0) ∧ t.cal.cmd = 0
            ∧ RegsKeptBut [CAL_CSTAT] s t ∧ MemKept s t))
          ∧ (s.mode ≠ 2 → Completes p.1 s (fun t => t.get CAL_CSTAT.RESULT = 2 ∧ t.flag CAL_CSTAT.RUN = false
            ∧ RegsKeptBut [CAL_CSTAT, HST_ISRC] s t ∧ MemKept s t))
          ∧ (s.mode = 2 → s.enabled s.calCh = false → Completes p.1 s (fun t => t.get CAL_CSTAT.RESULT = 3 ∧ t.flag CAL_CSTAT.RUN = false
            ∧ RegsKeptBut [CAL_CSTAT, HST_ISRC] s t ∧ MemKept s t)))
        ∧ (s.t.usec ≠ 0 ∨ s.cal.cmd ≠ p.2 ∧ s.calBusy = true → Completes p.1 s (fun t => t.cal = s.cal ∧ AllKept s t)))
    ∧ (∀ (a : Addr) (w : Word), s.served = true → a.toNat = CAL_CMD → s.alive 28 = true → s.calBusy = true → 1 ≤ fld w 3 0 → fld w 3 0 ≤ 6 →
        Completes (.registerWrite a w) s (fun t => t.get CAL_CSTAT.RESULT = 1 ∧ RegsKeptBut [CAL_CSTAT] s t ∧ MemKept s t))
    ∧ (∀ c : Capture, s.mode = 2 → s.cal.capture = some c → orElse (s.get CAL_NAVG.NAVG) 16 ≤ c.n →
        Completes .captureComplete s (fun t => t.get CAL_CSTAT.RESULT = 0 ∧ t.flag CAL_CSTAT.RUN = false ∧ t.cal.capture = none
          ∧ t.workAt (0o3000 + c.ch * 32 + 3 + 2 * c.point) = s.reg CAL_REF
          ∧ t.workAt (0o3000 + c.ch * 32 + 4 + 2 * c.point) = toCoef (c.sum / c.n) ∧ MemKept s t))
    ∧ (∀ c : Capture, s.mode = 2 → s.cal.capture = some c → c.n < orElse (s.get CAL_NAVG.NAVG) 16 →
        Completes .captureComplete s (fun t => t.cal = s.cal ∧ AllKept s t))
    ∧ (s.mode ≠ 2 → s.cal.capture.isSome = true → Completes .captureComplete s (fun t => t.get CAL_CSTAT.RESULT = 6
        ∧ t.cal.capture = none ∧ RegsKeptBut [CAL_CSTAT, HST_ISRC] s t ∧ MemKept s t))
    ∧ (∀ c : Capture, s.cal.capture = some c →
        (c.n < orElse (s.get CAL_NAVG.NAVG) 16 → 10000000 ≤ s.since c.at_ → Completes .captureTimeout s (fun t => t.get CAL_CSTAT.RESULT = 5
          ∧ t.cal.capture = none ∧ RegsKeptBut [CAL_CSTAT, HST_ISRC] s t ∧ MemKept s t))
        ∧ (orElse (s.get CAL_NAVG.NAVG) 16 ≤ c.n ∨ s.since c.at_ < 10000000 → Completes .captureTimeout s (fun t => t.cal = s.cal ∧ AllKept s t)))

/-- COMPUTE, CLEAR and DISCARD of a calibration record (R159, R161, R163, R170). -/
def Obligations.CalibrationComputations : Prop :=
  ∀ s : State, s.up = true → s.t.usec = 0 → s.calBusy = false → (s.calNote 1).1 < 16 → (s.calNote 1).2 < 16 →
    (calLimits 1 (coef (s.workAt (s.calOff + 6)) - coef (s.workAt (s.calOff + 5)))
          (fsOf (s.calNote 1).1 (s.entry s.calCh).wires (2 ^ ((s.calNote 1).2 - 1)) (s.entry s.calCh).inom) = true →
        Completes .calComputeOffset s (fun t => t.get CAL_CSTAT.RESULT = 0 ∧ wbit (t.workAt s.calOff) 35 = true
          ∧ t.workAt (s.calOff + 1) = toCoef (coef (s.workAt (s.calOff + 6)) - coef (s.workAt (s.calOff + 5)))
          ∧ t.workAt (s.calOff + 2) = toCoef 1 ∧ t.workAt (s.calOff + 3) = s.t.round ∧ t.flag CAL_CSTAT.RUN = false
          ∧ t.flag HST_ISRC.CAL = true ∧ MemKept s t))
    ∧ (calLimits 1 (coef (s.workAt (s.calOff + 6)) - coef (s.workAt (s.calOff + 5)))
          (fsOf (s.calNote 1).1 (s.entry s.calCh).wires (2 ^ ((s.calNote 1).2 - 1)) (s.entry s.calCh).inom) = false →
        Completes .calComputeOffset s (fun t => t.get CAL_CSTAT.RESULT = 8 ∧ t.cal.work = s.cal.work ∧ t.flag CAL_CSTAT.RUN = false
          ∧ t.flag HST_ISRC.CAL = true ∧ MemKept s t))
    ∧ (s.calNote 1 ≠ s.calNote 2 → Completes .calComputeTwoPoint s (fun t => t.get CAL_CSTAT.RESULT = 7 ∧ t.cal.work = s.cal.work
          ∧ t.flag CAL_CSTAT.RUN = false ∧ t.flag HST_ISRC.CAL = true ∧ MemKept s t))
    ∧ (s.calNote 1 = s.calNote 2 → coef (s.workAt (s.calOff + 8)) = coef (s.workAt (s.calOff + 6)) →
        Completes .calComputeTwoPoint s (fun t => t.get CAL_CSTAT.RESULT = 8 ∧ t.cal.work = s.cal.work
          ∧ t.flag CAL_CSTAT.RUN = false ∧ t.flag HST_ISRC.CAL = true ∧ MemKept s t))
    ∧ (s.calNote 1 = s.calNote 2 → coef (s.workAt (s.calOff + 8)) ≠ coef (s.workAt (s.calOff + 6)) →
        Completes .calComputeTwoPoint s (fun t => (t.get CAL_CSTAT.RESULT = 8 ∧ t.cal.work = s.cal.work
            ∨ t.get CAL_CSTAT.RESULT = 0 ∧ wbit (t.workAt s.calOff) 35 = true ∧ t.workAt (s.calOff + 3) = s.t.round
              ∧ t.workAt (s.calOff + 2) = toCoef ((coef (s.workAt (s.calOff + 7)) - coef (s.workAt (s.calOff + 5)))
                  / (coef (s.workAt (s.calOff + 8)) - coef (s.workAt (s.calOff + 6)))))
          ∧ t.flag CAL_CSTAT.RUN = false ∧ t.flag HST_ISRC.CAL = true ∧ MemKept s t))
    ∧ Completes .calClearRecord s (fun t => t.get CAL_CSTAT.RESULT = 0 ∧ wbit (t.workAt s.calOff) 35 = false
        ∧ (∀ o, o ≠ s.calOff → t.workAt o = s.workAt o) ∧ t.flag CAL_CSTAT.RUN = false ∧ t.flag HST_ISRC.CAL = true ∧ MemKept s t)
    ∧ Completes .calDiscard s (fun t => t.get CAL_CSTAT.RESULT = 0 ∧ t.flag CAL_STAT.EDIT = false ∧ t.cal.work = s.calInForce ∧ t.cal.notes = []
        ∧ t.flag CAL_CSTAT.RUN = false ∧ t.flag HST_ISRC.CAL = true ∧ MemKept s t)

/-- The calibration commit, its run, its read-back and the bank's effect (R164, R165, R166, R167, R170, R422). -/
def Obligations.CalibrationCommits : Prop :=
  ∀ s : State, s.up = true →
    (s.calBusy = false → s.starting = false → s.imageBusy = false → Completes .calCommit s (fun t => t.cal.cmt = true ∧ AllKept s t))
    ∧ (s.calBusy = false → s.starting = true → Completes .calCommit s (fun t => t.get CAL_CSTAT.RESULT = 10
        ∧ RegsKeptBut [CAL_CSTAT, HST_ISRC] s t ∧ MemKept s t))
    ∧ (s.calBusy = false → s.starting = false → s.imageBusy = true → Completes .calCommit s (fun t => t.get CAL_CSTAT.RESULT = 1
        ∧ RegsKeptBut [CAL_CSTAT, HST_ISRC] s t ∧ MemKept s t))
    ∧ (∀ r, s.cal.cmt = true → s.t.usec = 0 → s.life.warn = false → s.starting = false → s.imageBusy = false → s.calBadRec = some r →
        Completes .calCommitRun s (fun t =>
        t.get CAL_CSTAT.RESULT = 9 ∧ t.get CAL_CSTAT.BADREC = r ∧ t.cal.cmt = false ∧ MemKept s t))
    ∧ (s.cal.cmt = true → s.t.usec = 0 → s.life.warn = false → s.starting = false → s.imageBusy = false → s.calBadRec = none →
        Completes .calCommitRun s (fun t => t.flag CAL_CSTAT.RUN = true ∧ t.get CAL_CSTAT.STEP = 1 ∧ t.cal.cmtBank = s.calTarget
        ∧ t.get CAL_STAT.INFORCE = s.get CAL_STAT.INFORCE ∧ t.flag (if s.calTarget = 0 then CAL_STAT.AVALID else CAL_STAT.BVALID) = false
        ∧ t.mramAt (calBase s.calTarget) = 0 ∧ t.calValid s.calTarget = false
        ∧ SramKept s t ∧ MramKeptBut [calBase s.calTarget] s t))
    ∧ (s.cal.cmt = true → s.t.usec ≠ 0 → Completes .calCommitRun s (fun t => t.cal = s.cal ∧ AllKept s t))
    ∧ (s.get CAL_CSTAT.STEP = 6 → s.calElapsed < 49154 → ∀ mismatch, Completes (.calCommitComplete mismatch) s (fun t => AllKept s t))
    ∧ (s.get CAL_CSTAT.STEP = 6 → 49154 ≤ s.calElapsed → Completes (.calCommitComplete true) s (fun t => t.get CAL_CSTAT.RESULT = 11
        ∧ t.get CAL_STAT.INFORCE = s.get CAL_STAT.INFORCE ∧ t.flag CAL_CSTAT.RUN = false ∧ t.calValid s.cal.cmtBank = false
        ∧ SramKept s t ∧ MramKeptBut [calBase s.cal.cmtBank + 15] s t))
    ∧ (s.get CAL_CSTAT.STEP = 6 → 49154 ≤ s.calElapsed → s.cal.cmtBank ≤ 1 → s.calValid s.cal.cmtBank = true →
        Completes (.calCommitComplete false) s (fun t => t.get CAL_CSTAT.RESULT = 0 ∧ t.get CAL_STAT.INFORCE = s.cal.cmtBank
          ∧ t.flag CAL_STAT.PEND = true ∧ t.flag CAL_STAT.NOVALID = false
          ∧ t.flag CAL_STAT.EDIT = (calRecords s.cal.work != calRecords (s.calBank s.cal.cmtBank))
          ∧ t.flag CAL_CSTAT.RUN = false ∧ MemKept s t))
    ∧ (s.flag CAL_STAT.PEND = true → s.t.usec = 0 → Completes .calBankEffect s (fun t => t.cal.cur = s.calBank (s.get CAL_STAT.INFORCE)
        ∧ t.cal.uncal = false ∧ t.flag CAL_STAT.PEND = false ∧ MemKept s t))
    ∧ (s.flag CAL_STAT.PEND = true → s.t.usec ≠ 0 → Completes .calBankEffect s (fun t => t.cal = s.cal ∧ AllKept s t))

/-- A lattice wave: the results of the cells, the forces, and the phase (R172, R173, R174, R181, R192, R410). -/
def Obligations.LatticeWaveEvaluatesEveryCell : Prop :=
  ∀ s : State, s.up = true →
    (4 ≤ s.t.phase → Completes .latticeWave s (fun t => t.t = s.t ∧ t.bl = s.bl ∧ AllKept s t))
    ∧ (1 ≤ s.t.phase → s.t.phase ≤ 3 → s.hst.wq = [] → Completes .latticeWave s (fun t => t.t.phase = s.t.phase + 1
      ∧ (s.still = true → s.t.phase = 3 → t.bl.cells = s.bl.cells ∧ AllKept s t)
      ∧ (s.still = false → s.flag BL_STAT.RUN = true → ∀ c cf, s.bl.cfg.get? c = some cf →
          (cf.typ = 1 → (t.cellOf c).own = (t.cellOf c).res)
          ∧ (cf.typ = 3 → (t.cellOf c).own = ((t.cellOf c).n == cf.nin))
          ∧ ((cf.typ = 4 ∨ cf.typ = 12) → (t.cellOf c).own = decide (1 ≤ (t.cellOf c).n))
          ∧ (cf.typ = 5 → (t.cellOf c).own = decide (fld cf.p0 4 0 ≤ (t.cellOf c).n))
          ∧ (cf.typ = 8 → (t.cellOf c).own = (if wbit cf.p0 35 then bit (t.cellOf c).ins 0 || ((s.cellOf c).own && !bit (t.cellOf c).ins 1)
              else !bit (t.cellOf c).ins 1 && (bit (t.cellOf c).ins 0 || (s.cellOf c).own)))
          ∧ (cf.typ = 13 → (t.cellOf c).own = bit (t.cellOf c).ins 0)
          ∧ ((t.cellOf c).hist.head?.map (·.1)) = some (match s.forceOf c with | some f => f.1 | none => (t.cellOf c).own))))

/-- Timed cells whose count runs out: ONDLY, OFFDLY, INHIBIT, EDGE and COUNT (R181, R182). -/
def Obligations.TimedCellsRunOut : Prop :=
  ∀ (s : State) (c : Fin 4096), s.up = true → s.still = false → s.flag BL_STAT.RUN = true → 1 ≤ s.t.phase → s.t.phase ≤ 3 →
      s.hst.wq = [] →
    (s.expiryDue c 6 = true → Completes (.ondlyExpiry c) s (fun t => (t.cellOf c).own = bit (t.cellOf c).ins 0))
    ∧ (s.expiryDue c 6 = false → Completes (.ondlyExpiry c) s (fun t => t.bl = s.bl ∧ AllKept s t))
    ∧ (s.expiryDue c 7 = true → Completes (.offdlyExpiry c) s (fun t => (t.cellOf c).own = bit (t.cellOf c).ins 0))
    ∧ (s.expiryDue c 7 = false → Completes (.offdlyExpiry c) s (fun t => t.bl = s.bl ∧ AllKept s t))
    ∧ (s.expiryDue c 11 = true → Completes (.inhibitExpiry c) s (fun t => (t.cellOf c).own = (bit (t.cellOf c).ins 0 && !bit (t.cellOf c).ins 1)))
    ∧ (s.expiryDue c 11 = false → Completes (.inhibitExpiry c) s (fun t => t.bl = s.bl ∧ AllKept s t))
    ∧ (s.expiryDue c 2 = true → Completes (.edgeStretchExpiry c) s (fun t => bit (t.cellOf c).ins 0 = bit (s.cellOf c).ins 0 → (t.cellOf c).own = false))
    ∧ (s.expiryDue c 2 = false → Completes (.edgeStretchExpiry c) s (fun t => t.bl = s.bl ∧ AllKept s t))
    ∧ (s.expiryDue c 10 = true → Completes (.countWindowExpiry c) s (fun t => (s.cellOf c).first = false → (t.cellOf c).cnt ≤ 1
          ∧ (bit (t.cellOf c).ins 0 = bit (s.cellOf c).ins 0 → (t.cellOf c).cnt = 0)))
    ∧ (s.expiryDue c 10 = false → Completes (.countWindowExpiry c) s (fun t => t.bl = s.bl ∧ AllKept s t))

/-- Writes of BL_CFORCE and BL_HSIG, and a parity failure of the configuration (R37, R41, R179, R192). -/
def Obligations.CellForcesHostSignalsAndParity : Prop :=
  ∀ s : State, s.up = true →
    (∀ (n : Fin 8) (v : Word), Completes (.cellForceWrite n v) s (fun t => t.get (BL_CFORCE.CELL n) = fld v 11 0
        ∧ t.flag (BL_CFORCE.EN n) = wbit v 35 ∧ t.flag (BL_CFORCE.FO n) = wbit v 34 ∧ t.flag (BL_CFORCE.FA n) = wbit v 33
        ∧ t.flag (BL_CFORCE.IGN n) = (wbit v 35 && s.mode != 2) ∧ RegsKeptBut [BL_CFORCE n] s t ∧ MemKept s t))
    ∧ (∀ (w : Fin 2) (v : BitVec 32), Completes (.hostSignalWrite w v) s (fun t => t.get (BL_HSIG.SIG w) = v.toNat
        ∧ RegsKeptBut [BL_HSIG w] s t ∧ MemKept s t))
    ∧ Completes .latticeParityFail s (fun t => t.holds 1 = true ∧ t.bl.parityBad = true ∧ MemKept s t
        ∧ (s.starting = false → s.mode ≠ 3 → s.holds 1 = false → bit t.life.det 1 = true))

/-- Acknowledge commands and the first-out reset (R213, R215, R216, R219, R220, R221, R222). -/
def Obligations.AlarmAcknowledgeAndFirstOut : Prop :=
  ∀ s : State, s.commands →
    (∀ n : Fin 1024, NotQueued s.alm.cmds (almWord 1 0 n) false → Completes (.ackPoint n) s (fun t =>
        t.get ALM_CRES.RESULT = (if s.almState n = 7 then 3 else if s.ackable n then 0 else 1)
        ∧ t.get ALM_CRES.CHANGED = (s.ackable n).toNat ∧ t.flag ALM_CRES.PEND = false
        ∧ ((s.almEnt n).pri ≠ 0 → s.almState n = 1 → s.noOverlay n → s.flag (ALM_PST.DEL n) = true → t.almState n = 2)
        ∧ ((s.almEnt n).pri ≠ 0 → s.almState n = 3 → s.noOverlay n → s.flag (ALM_PST.DEL n) = false → t.almState n = 0)
        ∧ RegsKeptBut alarmRegs s t ∧ MemKept s t))
    ∧ (∀ g : Fin 64, NotQueued s.alm.cmds (almWord 2 0 g) false → Completes (.ackGroup g) s (fun t =>
        t.get ALM_CRES.RESULT = (if (s.groupPoints g).any s.ackable then 0 else 1) ∧ t.flag ALM_CRES.PEND = false
        ∧ (∀ n ∈ s.groupPoints g, (s.almEnt n).pri ≠ 0 → s.almState n = 1 → s.noOverlay n → s.flag (ALM_PST.DEL n) = true → t.almState n = 2)
        ∧ RegsKeptBut alarmRegs s t ∧ MemKept s t))
    ∧ (NotQueued s.alm.cmds (almWord 8 0 0) false → Completes .ackAll s (fun t =>
        t.get ALM_CRES.RESULT = (if s.almPoints.any s.ackable then 0 else 1) ∧ t.flag ALM_CRES.PEND = false
        ∧ (∀ n ∈ s.almPoints, (s.almEnt n).pri ≠ 0 → s.almState n = 1 → s.noOverlay n → s.flag (ALM_PST.DEL n) = true → t.almState n = 2)
        ∧ RegsKeptBut alarmRegs s t ∧ MemKept s t))
    ∧ (∀ g : Fin 64, NotQueued s.alm.cmds (almWord 5 0 g) false → Completes (.firstOutReset g) s (fun t =>
        t.get ALM_CRES.RESULT = (if (s.groupPoints g).any s.unacked then 6 else if s.flag (ALM_GST.FOVALID g) then 0 else 1)
        ∧ t.flag ALM_CRES.PEND = false
        ∧ ((s.groupPoints g).any s.unacked = false → s.flag (ALM_GST.FOVALID g) = true → t.flag (ALM_GST.FOVALID g) = false)
        ∧ RegsKeptBut alarmRegs s t ∧ MemKept s t))

/-- Shelving, unshelving, out of service, return to service, and the end of a shelving (R213, R214, R215, R216, R217, R218). -/
def Obligations.AlarmShelvingAndService : Prop :=
  ∀ s : State, s.commands →
    (∀ (n : Fin 1024) (m : BitVec 16), NotQueued s.alm.cmds (almWord 3 m.toNat n) false → s.almState n ≠ 7 →
      Completes (.shelve n m) s (fun t =>
        t.get ALM_CRES.RESULT = (if (s.almEnt n).b 0 14 = false ∨ (s.almEnt n).pri = 1 ∨ (s.almOf n).oos = true then 4
          else if (s.almEnt n).shmax < m.toNat then 5 else 0)
        ∧ (t.get ALM_CRES.RESULT = 0 → (t.almOf n).shelved = true
            ∧ t.get (ALM_PST.SHLEFT n) = 60 * orElse m.toNat (s.almEnt n).shmax ∧ (n.val ∈ s.almPoints → t.almState n = 4))
        ∧ (t.get ALM_CRES.RESULT ≠ 0 → (t.almOf n).shelved = (s.almOf n).shelved ∧ t.get (ALM_PST.SHLEFT n) = s.get (ALM_PST.SHLEFT n))
        ∧ RegsKeptBut alarmRegs s t ∧ MemKept s t))
    ∧ (∀ n : Fin 1024, NotQueued s.alm.cmds (almWord 4 0 n) false → s.almState n ≠ 7 →
      Completes (.unshelve n) s (fun t => t.get ALM_CRES.RESULT = (if (s.almOf n).shelved then 0 else 1)
        ∧ (t.almOf n).shelved = false ∧ ((s.almOf n).shelved = true → t.get (ALM_PST.SHLEFT n) = 0)
        ∧ RegsKeptBut alarmRegs s t ∧ MemKept s t))
    ∧ (∀ n : Fin 1024, NotQueued s.alm.cmds (almWord 6 0 n) true → s.almState n ≠ 7 →
      Completes (.outOfService n) s (fun t => t.get ALM_CRES.RESULT = (if (s.almOf n).oos then 1 else 0) ∧ (t.almOf n).oos = true
        ∧ ((s.almOf n).oos = false → (t.almOf n).shelved = false ∧ t.get (ALM_PST.SHLEFT n) = 0)
        ∧ (n.val ∈ s.almPoints → t.almState n = 6) ∧ RegsKeptBut alarmRegs s t ∧ MemKept s t))
    ∧ (∀ n : Fin 1024, NotQueued s.alm.cmds (almWord 7 0 n) true → s.almState n ≠ 7 →
      Completes (.returnToService n) s (fun t => t.get ALM_CRES.RESULT = (if (s.almOf n).oos then 0 else 1) ∧ (t.almOf n).oos = false
        ∧ RegsKeptBut alarmRegs s t ∧ MemKept s t))
    ∧ (∀ n : Fin 1024, s.almState n ≠ 7 → s.workRoundDue = true → s.get (ALM_PST.SHLEFT n) = 1 →
      Completes (.shelvingExpiry n) s (fun t => (t.almOf n).shelved = false ∧ t.get (ALM_PST.SHLEFT n) = 0
        ∧ ((s.almOf n).oos = false → (s.almOf n).held = false → s.flag (ALM_PST.BLK n) = false → s.flag (ALM_PST.DEL n) = false →
            4 ≤ s.almState n → t.almState n = 0) ∧ RegsKeptBut alarmRegs s t ∧ MemKept s t))
    ∧ (∀ n : Fin 1024, s.workRoundDue = false → Completes (.shelvingExpiry n) s (fun t => t.alm = s.alm ∧ AllKept s t))

/-- The delays of an alarm point, its states, and the beat in which a delay runs out (R206, R209, R213, R214). -/
def Obligations.AlarmDelaysFilterTheCondition : Prop :=
  ∀ (s : State) (n : Fin 1024), s.up = true →
    IsBeatIf (.alarmOnDelayExpiry n) (s.delayOver n true) s ∧ IsBeatIf (.alarmOffDelayExpiry n) (s.delayOver n false) s
    ∧ (let c := (s.almSample n).1.1
       let t := (s.almFilter n).1
       t.flag (ALM_PST.COND n) = c ∧ RegsKeptBut [ALM_PST n] s t
       ∧ t.flag (ALM_PST.DEL n) = (if c != s.flag (ALM_PST.DEL n) && decide ((if c then (s.almEnt n).nOn else (s.almEnt n).nOff) ≤ (s.almOf n).run)
            then c else s.flag (ALM_PST.DEL n)))
    ∧ (s.almState n ≠ 7 → ∀ l : List Nat,
       let t := s.almTrans l n
       let d := s.flag (ALM_PST.DEL n)
       let act := if (s.almEnt n).pri = 0 then 2 else 1
       let back := if (s.almEnt n).pri = 0 then 0 else 3
       ((s.almOf n).oos = true → t.almState n = 6)
       ∧ ((s.almOf n).oos = false → (s.almOf n).shelved = true → t.almState n = 4)
       ∧ ((s.almOf n).oos = false → (s.almOf n).shelved = false → s.flag (ALM_PST.BLK n) = true → t.almState n = 5)
       ∧ (s.noOverlay n → s.floodHolds n = false →
           (s.almState n = 0 ∨ 4 ≤ s.almState n → t.almState n = if d then act else 0)
           ∧ (s.almState n = 1 ∨ s.almState n = 3 → t.almState n = if d then act else back)
           ∧ (s.almState n = 2 → t.almState n = if d then 2 else 0)))

/-- Opal's commands, the stages of a call, and the dead-man timer (R245, R246, R249, R250, R251, R252, R253). -/
def Obligations.OpalCommandsAndTimers : Prop :=
  ∀ s : State, s.commands →
    (∀ p : Fin 16, NotQueued s.opl.cmds (oplWord 3 p) false → Completes (.opalSetDuty p) s (fun t =>
        t.get OPL_CRES.RESULT = (if s.nrot ≤ p then 3 else if s.get OPL_DUTY.POS = p then 1 else 0) ∧ t.flag OPL_CRES.PEND = false
        ∧ t.get OPL_DUTY.POS = (if s.nrot ≤ p then s.get OPL_DUTY.POS else p.val) ∧ RegsKeptBut opalRegs s t ∧ MemKept s t))
    ∧ (∀ m : BitVec 16, NotQueued s.opl.cmds (oplWord 4 m.toNat) false → Completes (.opalSetAway m) s (fun t =>
        t.get OPL_CRES.RESULT = (if s.get OPL_AWAY.AWAY = m.toNat then 1 else 0) ∧ t.flag OPL_CRES.PEND = false
        ∧ t.get OPL_AWAY.AWAY = m.toNat ∧ RegsKeptBut opalRegs s t ∧ MemKept s t))
    ∧ (NotQueued s.opl.cmds (oplWord 2 0) false → Completes .opalDeadmanReset s (fun t =>
        t.get OPL_CRES.RESULT = (if s.dmst = 0 then 1 else 0) ∧ t.dmst = (if s.dmst = 0 then 0 else 1)
        ∧ (s.dmst ≠ 0 → t.opl.dmTime = 0) ∧ RegsKeptBut opalRegs s t ∧ MemKept s t))
    ∧ (NotQueued s.opl.cmds (oplWord 5 0) true → s.stage ≠ 0 → Completes .opalCancel s (fun t =>
        t.get OPL_CRES.RESULT = 0 ∧ t.stage = 0 ∧ t.called = 0 ∧ t.get OPL_STAT.PPRI = 0 ∧ t.opl.accepted = s.opl.offers
        ∧ RegsKeptBut opalRegs s t ∧ MemKept s t))
    ∧ (∀ i : Fin 8, NotQueued s.opl.cmds (oplWord 1 i) false → Completes (.opalAccept i) s (fun t =>
        t.get OPL_CRES.RESULT = (if s.opalOn && wbit (s.station i) 21 && s.sounds i then 0 else 4)
        ∧ (t.get OPL_CRES.RESULT = 0 → t.get OPL_STAT.ACCENG = (if fld (s.station i) 35 34 = 2 then 31 else (s.cabinOf i).getD 0)
            ∧ CountsUp OPL_CNT.ACCS s t ∧ t.stage = 7 ∧ t.called = 0 ∧ t.get OPL_STAT.PPRI = 0 ∧ t.opl.accepted = s.opl.offers)
        ∧ (t.get OPL_CRES.RESULT ≠ 0 → t.stage = s.stage ∧ t.called = s.called) ∧ RegsKeptBut opalRegs s t ∧ MemKept s t))
    ∧ IsBeatIf .opalStageEscalation (s.stageOver && s.stage != 7) s ∧ IsBeatIf .attendTimeExpiry (s.stageOver && s.stage == 7) s
    ∧ IsBeatIf .deadmanIntervalExpiry (s.dmOver 1) s ∧ IsBeatIf .deadmanPrewarnExpiry (s.dmOver 2) s
    ∧ IsBeatIf .deadmanBlinkToggle s.blinkOver s
    ∧ (1 ≤ s.stage → s.stage ≤ 5 → s.stage < s.escalate.stage ∧ s.escalate.stage ≤ 6)
    ∧ (s.stage = 7 → (s.openOffers = [] → s.callingStep.stage = 0)
        ∧ (s.openOffers ≠ [] → s.tattOf s.opl.pri ≤ s.opl.time → calling s.callingStep.stage = true))
    ∧ (s.dmen = true → s.dmst = 1 → s.dmt ≤ s.opl.dmTime → (s.deadman true false false).dmst = 2 ∧ (s.deadman true false false).opl.dmTime = 0)
    ∧ (s.dmen = true → s.dmst = 2 → s.dmpre ≤ s.opl.dmTime → (s.deadman true false false).dmst = 3)
    ∧ (∀ on on1 rst : Bool, s.dmen = false ∨ on = false → (s.deadman on on1 rst).dmst = 0)
    ∧ (s.opalOn = true → s.dmst = 2 → bit s.staMask (fld (s.opalHead 7) 34 32) = decide (s.opl.dmTime / 500000 % 2 = 0))

/-- Loop outputs: the row formed and shown, first updates, SINK changes, readback, faults and the MISWIRE retest (R267,
R272, R273, R278, R279, R280). -/
def Obligations.LoopOutputsFollowTheirRows : Prop :=
  ∀ (s : State) (n : Fin 16), s.up = true →
    (s.loUsed n = true → (s.loForm n).loUsed n = true ∧ ((s.loOf n).seen = false →
          ((s.loForm n).loOf n).ost = some (if !s.drives then 10 else if s.faultOff n then 9 else s.loRow n))
        ∧ ((s.loOf n).seen = true → ((s.loForm n).loOf n).first = false ∧ ((s.loForm n).loOf n).range = false)
        ∧ AllKept s (s.loForm n))
    ∧ (∀ k, k ≤ 10 → (s.loOf n).ost = some k → (s.loShow n).get (LO_OST.OSTATE n) = k
        ∧ (s.loShow n).bitOf LO_STAT.DRV n = (decide (1 ≤ k) && decide (k ≤ 8)) ∧ RegsKeptBut (loopRegs n) s (s.loShow n) ∧ MemKept s (s.loShow n))
    ∧ ((s.loOf n).first = true ∨ (s.loOf n).range = true → (s.loOf n).seen = false →
        ((s.loEnt n).rhold ≤ s.since (s.loOf n).adoptAt → Completes (.loopRholdExpiry n) s (fun t => (t.loOf n).seen = true ∧ AllKept s t))
        ∧ (s.since (s.loOf n).adoptAt < (s.loEnt n).rhold → Completes (.loopRholdExpiry n) s (fun t => t.lo = s.lo ∧ AllKept s t)))
    ∧ ((s.loOf n).reconf = true →
        (10000 ≤ s.since (s.loOf n).adoptAt → Completes (.sinkChangeHoldEnd n) s (fun t => (t.loOf n).reconf = false ∧ AllKept s t))
        ∧ (s.since (s.loOf n).adoptAt < 10000 → Completes (.sinkChangeHoldEnd n) s (fun t => t.lo = s.lo ∧ AllKept s t)))
    ∧ (∀ (cur : BitVec 32) (vld vterm : BitVec 12) (neg : Bool), s.pstate ≠ 6 → s.t.usec % 1000 = 0 → 2 ≤ s.t.phase →
        Completes (.loopReadback n cur vld vterm neg) s (fun t =>
        (t.loOf n).meas = cur.toInt ∧ t.get (LO_RB.VLD n) = vld.toNat ∧ t.get (LO_RB.VTERM n) = vterm.toNat
        ∧ t.flag (LO_RB.NEG n) = neg ∧ t.flag (LO_RB.LIVE n) = decide (orElse ((s.loEnt n).f 11 35 24) 50 ≤ vld.toNat)
        ∧ (s.alive 16 = true → t.mirror (0o200 + n) = t.loWord n) ∧ RegsKeptBut [LO_RB n] s t
        ∧ SramKeptBut (if s.alive 16 then [0o00400200 + n] else []) s t ∧ MramKept s t))
    ∧ (∀ (f : Fin 6) (cur : BitVec 32) (held : BitVec 24), (f.val = 1 → s.loUsed n = true ∧ (s.loEnt n).sink = true) →
        (f.val ≠ 1 → s.bitOf LO_STAT.DRV n = true) → (f.val = 0 → (s.loEnt n).sink = false) → (f.val = 5 → s.flag (LO_OST.OPEN n) = false) →
        (f.val = 2 ∨ f.val = 5 → 40000 + s.faultTime n f ≤ s.since (s.loOf n).chgAt) → s.faultTest n f cur.toInt = true →
        s.faultTime n f ≤ held.toNat → Completes (.loopFaultRaise n ⟨f, cur, held⟩) s (fun t => t.flag (loFault n f) = true
          ∧ RegsKeptBut [LO_OST n] s t ∧ MemKept s t))
    ∧ (∀ (f : Fin 6) (cur : BitVec 32) (held : BitVec 24), s.faultTest n f cur.toInt = false ∨ held.toNat < s.faultTime n f →
        Completes (.loopFaultRaise n ⟨f, cur, held⟩) s (AllKept s))
    ∧ (∀ (f : Fin 6) (held : BitVec 24), (f.val = 0 ∨ held.toNat < 100000 → Completes (.loopFaultClear n ⟨f, held⟩) s (AllKept s))
        ∧ (f.val ≠ 0 → 100000 ≤ held.toNat → Completes (.loopFaultClear n ⟨f, held⟩) s (fun t => t.flag (loFault n f) = false
          ∧ RegsKeptBut [LO_OST n] s t ∧ MemKept s t)))
    ∧ (∀ again : Bool, (s.loOf n).retest = true → 10000 ≤ s.since (s.loOf n).retestAt → Completes (.miswireRetestEnd n again) s (fun t =>
          (t.loOf n).retest = false ∧ t.flag (LO_OST.MISWIRE n) = (again && s.flag (LO_OST.MISWIRE n))
          ∧ RegsKeptBut [LO_OST n] s t ∧ MemKept s t))

/-- The FSK modem: request, transmission, carrier, reply, and the ends of a try (R289, R290, R291, R292, R293, R294, R295,
R297, R298). -/
def Obligations.ModemTransactions : Prop :=
  ∀ (s : State) (n : Fin 16), s.up = true →
    (∀ len : BitVec 9, s.sramPoison (s.get LO_FTXA.ADDR) = false → (s.life.applied = false → Completes (.fskRequest n len) s (fun t => t.get LO_FRES.RESULT = 6
          ∧ t.loOf n = s.loOf n ∧ RegsKeptBut [LO_FRES] s t ∧ MemKept s t))
      ∧ (s.life.applied = true → (s.loEnt n).fsken = true → s.get (LO_OST.OSTATE n) ≠ 0 → s.get (LO_OST.OSTATE n) ≠ 9 →
          s.get (LO_OST.OSTATE n) ≠ 10 → inFree (s.get LO_FTXA.ADDR) (ceilDiv len.toNat 4) = true → inFree (s.get LO_FRXA.ADDR) 66 = true →
          4 ≤ len.toNat → len.toNat ≤ 263 → (s.bufByte (s.get LO_FTXA.ADDR) 0 = 0x02 ∨ s.bufByte (s.get LO_FTXA.ADDR) 0 = 0x82) →
          (s.loOf n).fq.length < 4 → Completes (.fskRequest n len) s (fun t => t.get LO_FRES.RESULT = 0
            ∧ (t.loOf n).fq = (s.loOf n).fq ++ [⟨s.get LO_FTXA.ADDR, s.get LO_FRXA.ADDR, len.toNat⟩]
            ∧ t.get (LO_FST.QD n) = (s.loOf n).fq.length + 1
            ∧ t.get (LO_FST.MSTATE n) = (if s.get (LO_FST.MSTATE n) = 0 then 1 else s.get (LO_FST.MSTATE n))
            ∧ RegsKeptBut [LO_FRES, LO_FST n] s t ∧ MemKept s t)))
    ∧ (∀ x r, (s.loOf n).fq = x :: r → (∀ i, i < ceilDiv x.len 4 → s.sramPoison (x.txa + i) = false) → s.get (LO_FST.MSTATE n) = 1 →
        (s.loOf n).carrier = false → s.bitOf LO_STAT.DRV n = true → (s.loOf n).fwait ≤ s.since (s.loOf n).quietAt →
        Completes (.fskTransmitStart n) s (fun t => t.get (LO_FST.MSTATE n) = 2 ∧ (t.loOf n).tries = (s.loOf n).tries + 1 ∧ RegsKeptBut [LO_FST n] s t ∧ MemKept s t))
    ∧ (s.get (LO_FST.MSTATE n) = 2 → s.fskFrame n ≤ s.since (s.loOf n).txAt → Completes (.fskTransmitEnd n) s (fun t => t.get (LO_FST.MSTATE n) = 3
        ∧ (t.loOf n).fwait = rt1 ∧ RegsKeptBut [LO_FST n] s t ∧ MemKept s t))
    ∧ (s.get (LO_FST.MSTATE n) ≠ 2 → s.get (LO_FST.MSTATE n) ≠ 5 → Completes (.fskCarrierDetect n) s (fun t => (t.loOf n).carrier = true
        ∧ t.get (LO_FST.MSTATE n) = (if s.get (LO_FST.MSTATE n) = 3 then 4 else s.get (LO_FST.MSTATE n))
        ∧ RegsKeptBut [LO_FST n] s t ∧ MemKept s t))
    ∧ (∀ (f : List Byte), (s.get (LO_FST.MSTATE n) = 3 ∨ s.get (LO_FST.MSTATE n) = 4) → fskCheck f = true → 4 ≤ f.length →
        f.length ≤ 264 → fskKind f = 6 → fskMaster f = true → fskAddr f = fskAddr (s.fskReqBytes n) → s.flag HST_LOCK.HELD = false →
        Completes (.fskFrameReceive n f false false) s (fun t => t.get (LO_FST.RESULT n) = 0 ∧ t.get (LO_FST.RXLEN n) = f.length
          ∧ (t.loOf n).fq = (s.loOf n).fq.tail ∧ t.get (LO_FST.DONE n) = (s.get (LO_FST.DONE n) + 1) % 8192 ∧ t.flag HST_ISRC.FSK = true
          ∧ (∀ i, i < (bytesToWords f).length →
              t.sramAt (((s.loOf n).fq.headD ⟨0, 0, 0⟩).rxa + i) = (bytesToWords f).getD i 0)
          ∧ SramKeptBut ((List.range (bytesToWords f).length).map (((s.loOf n).fq.headD ⟨0, 0, 0⟩).rxa + ·)) s t ∧ MramKept s t
          ∧ RegsKeptBut [LO_FST n, HST_ISRC] s t))
    ∧ (s.get (LO_FST.MSTATE n) = 3 → 28 * fskChar ≤ s.since (s.loOf n).txAt → Completes (.fskReplyTimeout n) s (fun t => CountsUp (LO_FCNT.NOREPLY n) s t
        ∧ ((s.loOf n).tries ≤ (s.loEnt n).retry → t.get (LO_FST.MSTATE n) = 1 ∧ (t.loOf n).fq = (s.loOf n).fq)
        ∧ ((s.loEnt n).retry < (s.loOf n).tries → t.get (LO_FST.RESULT n) = 1 ∧ (t.loOf n).fq = (s.loOf n).fq.tail
            ∧ t.flag HST_ISRC.FSK = true) ∧ RegsKeptBut [LO_FCNT n, LO_FST n, HST_ISRC] s t ∧ MemKept s t))
    ∧ (s.get (LO_FST.MSTATE n) = 2 → Completes (.fskCollision n) s (fun t => CountsUp (LO_FCNT.COLL n) s t
        ∧ ((s.loOf n).tries ≤ (s.loEnt n).retry → t.get (LO_FST.MSTATE n) = 1 ∧ (t.loOf n).fq = (s.loOf n).fq)
        ∧ ((s.loEnt n).retry < (s.loOf n).tries → t.get (LO_FST.RESULT n) = 2 ∧ (t.loOf n).fq = (s.loOf n).fq.tail
            ∧ t.flag HST_ISRC.FSK = true) ∧ RegsKeptBut [LO_FCNT n, LO_FST n, HST_ISRC] s t ∧ MemKept s t))

/-- Discrete inputs: raw changes, acceptance, chatter and stuck detection (R303, R304, R305, R306, R307). -/
def Obligations.DiscreteInputsFilter : Prop :=
  ∀ (s : State) (n : Fin 32), s.up = true →
    (∀ level : Bool, s.life.applied = true → s.alive 17 = true → Completes (.dioRawChange n level) s (fun t => (t.dioOf n).raw = level
        ∧ (s.isInput n = true → (s.dioOf n).raw ≠ level → (t.dioOf n).open_ = true
            ∧ ((s.dioOf n).open_ = true → CountsUp (DIO_PST.REJ n) s t))
        ∧ RegsKeptBut (inputRegs n) s t ∧ MemKept s t))
    ∧ (s.isInput n = true → s.bitOf DIO_CHAT.CHAT n = false → (s.dioOf n).open_ = true →
        (s.sampleNo + 1 < (s.dioOf n).rawAt + (s.dioEnt n).filtb → Completes (.dioInputAccept n) s (fun t => t.dio = s.dio ∧ AllKept s t))
        ∧ ((s.dioOf n).rawAt + (s.dioEnt n).filtb ≤ s.sampleNo + 1 → Completes (.dioInputAccept n) s (fun t =>
        (t.dioOf n).acc = ((s.dioOf n).raw != (s.dioEnt n).inv) ∧ (t.dioOf n).open_ = false
        ∧ ((s.dioOf n).acc ≠ (t.dioOf n).acc → t.bitOf DIO_EVT.EVT n = true ∧ t.get (DIO_PST.REJ n) = 0
            ∧ ((t.dioOf n).acc = false → t.bitOf DIO_STUCK.STUCK n = false))
        ∧ ((s.dioOf n).acc = (t.dioOf n).acc → RegsKept s t) ∧ RegsKeptBut (inputRegs n) s t ∧ MemKept s t)))
    ∧ (s.isInput n = true → (s.dioOf n).open_ = true → (s.dioEnt n).chatn ≤ s.get (DIO_PST.REJ n) + 1 → s.bitOf DIO_CHAT.CHAT n = false →
        Completes (.dioChatterEntry n) s (fun t => t.bitOf DIO_CHAT.CHAT n = true ∧ CountsUp (DIO_CNT.CHATS n) s t
          ∧ (t.dioOf n).acc = (s.dioOf n).acc ∧ RegsKeptBut (inputRegs n) s t ∧ MemKept s t))
    ∧ (s.isInput n = true → s.bitOf DIO_CHAT.CHAT n = true → (s.dioOf n).rawAt + (s.dioEnt n).quiet ≤ s.sampleNo →
        Completes (.dioChatterExit n) s (fun t => t.bitOf DIO_CHAT.CHAT n = false
        ∧ t.get (DIO_PST.REJ n) = 0 ∧ (t.dioOf n).open_ = false ∧ (t.dioOf n).acc = ((s.dioOf n).raw != (s.dioEnt n).inv)
        ∧ RegsKeptBut (inputRegs n) s t ∧ MemKept s t))
    ∧ (s.isInput n = true → (s.dioEnt n).stuckt ≠ 0 → (s.dioOf n).acc = true →
        (s.dioEnt n).stuckt * 1000000 ≤ s.since (s.dioOf n).accAt → Completes (.dioStuckDetect n) s (fun t =>
        t.bitOf DIO_STUCK.STUCK n = true ∧ RegsKeptBut [DIO_STUCK] s t ∧ MemKept s t))

/-- Discrete outputs: trips, clamps, blanking, diagnostics, clearing, and pulse-width modulation (R310, R312, R313, R314,
R315, R317, R318, R319, R320, R326). -/
def Obligations.DiscreteOutputsTripAndModulate : Prop :=
  ∀ (s : State) (n : Fin 32), s.up = true →
    (∀ (c : Fin 8) (ma : BitVec 16) (held : BitVec 24), (s.dioOf n).sw = true →
        (c.val = 1 ∨ c.val = 2 ∨ (c.val = 4 ∧ s.flag (DIO_PST.CLAMP n) = true ∧ s.flag (DIO_PST.BLNK n) = false
              ∧ 20 ≤ s.since (s.dioOf n).clampAt)
          ∨ (c.val = 5 ∧ s.flag (DIO_PST.BLNK n) = false ∧ (s.dioOf n).itrip < ma.toNat ∧ (s.dioOf n).ovlt ≤ held.toNat
              ∧ (s.dioOf n).blank + 4 * held.toNat ≤ s.sampleNo)) → Completes (.dioOutputTrip n c ⟨ma, held⟩) s (fun t => t.tripped n = true
          ∧ t.get (DIO_PST.FCAUSE n) = c.val ∧ CountsUp (DIO_CNT.TRIPS n) s t ∧ (t.dioOf n).sw = false
          ∧ RegsKeptBut (outputRegs n) s t ∧ MemKept s t))
    ∧ (∀ (ma : BitVec 16) (held : BitVec 24), 2 ≤ (s.shorts (n / 8)).length → Completes (.dioOutputTrip n 3 ⟨ma, held⟩) s (fun t =>
        t.flag (DIO_GST.MULTI (n / 8)) = true
        ∧ (∀ i : Fin 8, (s.dioOf (8 * (n / 8) + i)).short.isSome = true → (s.dioOf (8 * (n / 8) + i)).sw = true →
            t.tripped (8 * (n / 8) + i) = true ∧ t.get (DIO_PST.FCAUSE (8 * (n / 8) + i)) = 3 ∧ (t.dioOf (8 * (n / 8) + i)).sw = false)
        ∧ RegsKeptBut (groupRegs (n / 8)) s t ∧ MemKept s t))
    ∧ (s.flag (DIO_PST.BLNK n) = true → (s.dioOf n).blank ≤ s.sampleNo → Completes (.dioBlankingEnd n) s (fun t =>
        t.flag (DIO_PST.BLNK n) = false
        ∧ (s.flag (DIO_PST.CLAMP n) = false → RegsKeptBut [DIO_PST n] s t)
        ∧ (s.flag (DIO_PST.CLAMP n) = true → (s.dioOf n).sw = true → t.tripped n = true ∧ t.get (DIO_PST.FCAUSE n) = 4
            ∧ (t.dioOf n).sw = false) ∧ RegsKeptBut (outputRegs n) s t ∧ MemKept s t))
    ∧ (∀ short : Bool, (s.dioOf n).sw = true → Completes (.dioClampOnset ⟨n, short⟩) s (fun t => t.flag (DIO_PST.CLAMP n) = true
        ∧ (t.dioOf n).short.isSome = short
        ∧ t.get (DIO_GST.NCLAMP (n / 8)) = ((List.range 8).filter (fun i => t.flag (DIO_PST.CLAMP (8 * (n / 8) + i)))).length
        ∧ RegsKeptBut [DIO_PST n, DIO_GST (n / 8)] s t ∧ MemKept s t))
    ∧ Completes (.dioClampEnd n) s (fun t => t.flag (DIO_PST.CLAMP n) = false ∧ (t.dioOf n).short = none
        ∧ t.get (DIO_GST.NCLAMP (n / 8)) = ((List.range 8).filter (fun i => t.flag (DIO_PST.CLAMP (8 * (n / 8) + i)))).length
        ∧ RegsKeptBut [DIO_PST n, DIO_GST (n / 8)] s t ∧ MemKept s t)
    ∧ (∀ (ol raised : Bool) (held : BitVec 24), 10000 ≤ held.toNat →
        (raised = true → (s.dioOf n).sw = false ∧ s.flag (DIO_GST.UV (n / 8)) = false ∧ (if ol then 2 else 1) ≤ s.get (DIO_PST.OSTATE n)
          ∧ (ol = true → (s.dioEnt n).b 8 12 = true) ∧ 10000 ≤ (match (s.dioOf n).openAt with | some t => s.since t | none => s.t.run)) →
        Completes (.dioDiagFault n ol ⟨raised, held⟩) s (fun t => (if ol then (t.dioOf n).ol else (t.dioOf n).stb) = raised
          ∧ (s.tripped n = false → t.get (DIO_PST.FCAUSE n) = (if (t.dioOf n).ol then 6 else if (t.dioOf n).stb then 7 else 0))
          ∧ RegsKeptBut [DIO_PST n] s t ∧ MemKept s t))
    ∧ (∀ (g : Fin 4) (uv : Bool) (vgs : BitVec 12) (held : BitVec 24), Completes (.groupUvChange g ⟨uv, held⟩ vgs) s (fun t =>
        t.flag (DIO_GST.UV g) = (if held.toNat < 1000 then s.flag (DIO_GST.UV g) else uv) ∧ t.get (DIO_GST.VGS g) = vgs.toNat
        ∧ (t.flag (DIO_GST.UV g) = true → ∀ i : Fin 8, (t.dioOf (8 * g + i)).ol = false ∧ (t.dioOf (8 * g + i)).stb = false)
        ∧ RegsKeptBut (groupRegs g) s t ∧ MemKept s t))
    ∧ (∀ a, (s.dioOf n).cmdOff = some a → 1000 ≤ s.since a → s.dioCmd n = false → s.tripped n = true → Completes (.dioTripClear n) s (fun t =>
        t.tripped n = false ∧ RegsKeptBut (outputRegs n) s t ∧ MemKept s t))
    ∧ (∀ mask : BitVec 32, Completes (.dioOfltWrite mask) s (fun t =>
        (∀ k : Fin 32, t.tripped k = (s.tripped k && !bit mask.toNat k)) ∧ MemKept s t))
    ∧ (s.pwmRuns n = true → (s.dioEnt n).period ≠ 0 → s.micros % (s.dioEnt n).period = 0 → (s.dioOf n).reloadAt ≠ some s.t.run →
        (s.dioOf n).late = none → Completes (.pwmReload n) s (fun t =>
        t.get (DIO_ADUTY.ADUTY n) = min (s.dioOf n).pduty (s.dioEnt n).period ∧ (t.dioOf n).period = (s.dioEnt n).period
        ∧ (t.dioOf n).reloadAt = some s.t.run
        ∧ (t.dioOf n).gate = (min (s.dioOf n).pduty (s.dioEnt n).period != 0) ∧ RegsKeptBut (outputRegs n) s t ∧ MemKept s t))
    ∧ (∀ a, s.pwmRuns n = true → (s.dioOf n).gate = true → s.get (DIO_ADUTY.ADUTY n) < (s.dioOf n).period → (s.dioOf n).reloadAt = some a →
        s.get (DIO_ADUTY.ADUTY n) ≤ s.since a → Completes (.pwmGateClose n) s (fun t => (t.dioOf n).gate = false
          ∧ ((s.dioCommand n).1 = 7 → (t.dioOf n).sw = false) ∧ RegsKeptBut (outputRegs n) s t ∧ MemKept s t))
    ∧ (∀ v : BitVec 18,
        ((s.reloadDue n = true ∧ (s.dioEnt n).cmten = false) → Completes (.dioDutyWrite n v) s (fun t =>
          (t.dioOf n).late = some v.toNat ∧ AllKept s t))
        ∧ (s.reloadDue n = false ∨ (s.dioEnt n).cmten = true → Completes (.dioDutyWrite n v) s (fun t => t.get (DIO_DUTY.DUTY n) = v.toNat
        ∧ (t.dioOf n).shadow = (if (s.dioEnt n).cmten then v.toNat else (s.dioOf n).shadow)
        ∧ (t.dioOf n).pduty = (if (s.dioEnt n).cmten then (s.dioOf n).pduty else v.toNat)
        ∧ RegsKeptBut [DIO_DUTY n, DIO_PST n] s t ∧ MemKept s t)))

/-- Speed inputs: edges, rejected transitions, overrange, wiring, standstill, supervision, SSI frames, mirror words (R328,
R330, R331, R332, R334, R335, R339, R340, R341, R342). -/
def Obligations.SpeedInputsMeasure : Prop :=
  ∀ (s : State) (n : Fin 8), s.up = true → s.spdUsed n = true →
    (∀ (chB rising other : Bool) (k : Fin 40), ((s.spdOf n).edges = [] ∨ (s.spdOf n).edges.headD 0 < s.sampleOf k) →
      ((s.spdEnt n).kind = 0 → chB = false → rising = true → Completes (.speedEdgeAccept n chB rising other k) s (fun t =>
          (t.spdOf n).count = (s.spdOf n).count + 1
          ∧ (s.flag (SPD_PST.QERR n) = false → s.wiringBad n = false → (t.spdOf n).still = false
              ∧ (t.spdOf n).edges.head? = some (s.sampleOf k)) ∧ RegsKeptBut (speedRegs n) s t ∧ MemKept s t))
      ∧ ((s.spdEnt n).kind = 1 → Completes (.speedEdgeAccept n chB rising other k) s (fun t =>
          (t.spdOf n).count = (s.spdOf n).count + (if quadUp chB rising other ((s.spdEnt n).b 8 25) then 1 else -1)
          ∧ RegsKeptBut (speedRegs n) s t ∧ MemKept s t)))
    ∧ (∀ rising rejected : Bool, (s.spdEnt n).kind < 2 → s.t.usec % 1000 ≠ 0 ∨ (s.spdOf n).winAt = some s.t.run → Completes (.speedRawTransition n rising rejected) s (fun t =>
        (t.spdOf n).raws = (s.spdOf n).raws + rising.toNat ∧ (rejected = true → CountsUp (SPD_CNT.REJ n) s t)
        ∧ RegsKeptBut (if rejected then [SPD_CNT n] else []) s t ∧ MemKept s t))
    ∧ ((s.spdEnt n).kind < 2 → s.t.usec % 1000 = 0 → (s.spdOf n).winAt ≠ some s.t.run → Completes (.overrangeWindowEnd n) s (fun t => (t.spdOf n).raws = 0
        ∧ (fmaxe (s.spdEnt n) / 1000 < ((s.spdOf n).raws : Rat) → t.flag (SPD_PST.OVR n) = true)
        ∧ (((s.spdOf n).raws : Rat) ≤ fmaxe (s.spdEnt n) / 1000 * 9 / 10 → ((s.spdOf n).raws : Rat) ≤ fmaxe (s.spdEnt n) / 1000 →
            t.flag (SPD_PST.OVR n) = false) ∧ RegsKeptBut (speedRegs n) s t ∧ MemKept s t))
    ∧ (∀ (short raised : Bool) (held : BitVec 24), 100000 ≤ held.toNat → (raised = true → (s.spdEnt n).owoff = false ∧ (short = true → (s.spdEnt n).kind = 0)) →
        Completes (.speedWiringFault n short ⟨raised, held⟩) s (fun t => t.flag (if short then SPD_PST.SHORT n else SPD_PST.OPEN n) = raised
          ∧ (raised = true → (t.spdOf n).edges = [] ∧ (t.spdOf n).rev = 0) ∧ RegsKeptBut (speedRegs n) s t ∧ MemKept s t))
    ∧ ((s.spdOf n).still = false → (s.spdOf n).lastAt + (s.spdEnt n).standt * 40000 ≤ s.sampleNow → Completes (.standstillTimeout n) s (fun t => (t.spdOf n).still = true ∧ (t.spdOf n).rev = 0
        ∧ RegsKeptBut (speedRegs n) s t ∧ MemKept s t))
    ∧ (s.get (SPD_PST.SUP n) = 2 → (s.spdEnt n).tacht * 100000 ≤ s.since (s.spdOf n).tachtAt → Completes (.tachtExpiry n) s (fun t => t.get (SPD_PST.SUP n) = (if s.wiringBad n then 5 else 4)
        ∧ CountsUp (if s.wiringBad n then SPD_CNT.TLOSSES n else SPD_CNT.SFAILS n) s t ∧ RegsKeptBut (speedRegs n) s t ∧ MemKept s t))
    ∧ ((s.spdEnt n).kind = 2 → s.micros % (s.spdEnt n).ssiper = 0 → (s.spdOf n).frameAt ≠ some s.t.run → Completes (.ssiFrameStart n) s (fun t =>
        (t.spdOf n).inFrame = true ∧ AllKept s t))
    ∧ (∀ (start : Bool) (raw : BitVec 32), (s.spdEnt n).kind = 2 → s.frameOver n = true → Completes (.ssiFrameEnd n start raw) s (fun t =>
        (t.spdOf n).inFrame = false ∧ (t.spdOf n).badStart = (if start then (s.spdOf n).badStart + 1 else 0)
        ∧ (start = false → (t.spdOf n).count = ((if (s.spdEnt n).b 8 24
            then grayToBin (s.spdEnt n).ssibits (raw.toNat % 2 ^ (s.spdEnt n).ssibits) else raw.toNat % 2 ^ (s.spdEnt n).ssibits : Nat) : Int))
        ∧ RegsKeptBut (speedRegs n) s t ∧ MemKept s t))
    ∧ (s.alive 18 = true → s.pstate ≠ 6 → s.t.phase = 2 → s.mirrorDue n = true → Completes (.speedMirrorWrite n) s (fun t => t.mirror (0o260 + n) = s.speedWord n
        ∧ t.mirror (0o270 + n) = s.posWord n ∧ RegsKeptBut [CLK_STAT, CLK_RATE] s t
        ∧ SramKeptBut [0o00400260 + n, 0o00400270 + n] s t ∧ MramKept s t))

/-- Ship-network links, ARP and IGMP answers, and the PTP exchange (R348, R349, R350, R351, R353, R354). -/
def Obligations.ShipLinksAndTimeProtocol : Prop :=
  ∀ (s : State) (p : Fin 2), s.up = true → s.snOn = true →
    (∀ ten fec : Bool, Completes (.shipLinkUp p ten fec) s (fun t => MemKept s t ∧ RegsKeptBut (ptpRegs p) s t
        ∧ (s.portMode p ∈ (if ten then [1, 2, 4, 5] else [2, 3, 4, 5]) → t.flag (SN_PST.LINK p) = true
            ∧ t.get (SN_PST.SPEED p) = (if ten then 2 else 1) ∧ t.flag (linkFld p) = true)
        ∧ (s.portMode p ∉ (if ten then [1, 2, 4, 5] else [2, 3, 4, 5]) → RegsKept s t)))
    ∧ (s.flag (SN_PST.LINK p) = true → Completes (.shipLinkDown p) s (fun t => t.flag (SN_PST.LINK p) = false
        ∧ t.flag (linkFld p) = false ∧ CountsUp (SN_PST.LINKDN p) s t ∧ (t.ptpOf p).gm = none ∧ t.flag (SN_PST.PLOCK p) = false
        ∧ RegsKeptBut (ptpRegs p) s t ∧ MemKept s t))
    ∧ (s.flag (SN_PST.LINK p) = false → 4 ≤ s.portMode p →
        (s.sn.tries.get? p = none → Completes (.linkModeAlternate p) s (fun t => t.sn.tries.get? p = some (0, s.t.run)
          ∧ t.get (SN_PST.TRN p) = (if s.portMode p = 5 then 1 else 0) ∧ RegsKeptBut [SN_PST p] s t ∧ MemKept s t))
        ∧ (∀ k b, s.sn.tries.get? p = some (k, b) →
          (s.since b < 1000000 → Completes (.linkModeAlternate p) s (fun t => t.sn = s.sn ∧ AllKept s t))
          ∧ (1000000 ≤ s.since b → Completes (.linkModeAlternate p) s (fun t => t.sn.tries.get? p = some (1 - k, s.t.run)
            ∧ t.get (SN_PST.TRN p) = (if s.portMode p = 5 ∧ 1 ≤ k then 1 else 0) ∧ RegsKeptBut [SN_PST p] s t ∧ MemKept s t))))
    ∧ (s.flag (SN_PST.LINK p) = true →
        (∀ (ip : BitVec 32) (mac : BitVec 48), Completes (.arpRequestRx p ip mac) s (fun t =>
            t.sn.replies = (if ip.toNat = s.get SN_IP.IP then [Reply.arp p ip.toNat mac.toNat] else []) ∧ AllKept s t))
        ∧ (∀ g : BitVec 32, Completes (.igmpQueryRx p g) s (fun t => AllKept s t ∧
            t.sn.replies = ((List.range 16).filter (fun k => s.flag (SN_GRP_W1.JOIN k) && s.groupUsed k
              && (g == 0 || s.get (SN_GRP_W0.ADDR k) == g.toNat))).map (fun k => Reply.igmp p (s.get (SN_GRP_W0.ADDR k)))))
        ∧ ((s.ptpOf p).gm.isSome = true → s.flag (SN_PCFG.PTPEN p) = true →
            logBeats 1 (s.ptpOf p).interval ≤ s.since (s.ptpOf p).dreqAt → Completes (.ptpDelayReqSend p) s (fun t =>
            t.sn.replies = [Reply.delayReq p (s.ptpOf p).dseq] ∧ (t.ptpOf p).dreq = some (s.ptpOf p).dseq
            ∧ (t.ptpOf p).dseq = ((s.ptpOf p).dseq + 1) % 65536 ∧ AllKept s t))
        ∧ ((s.ptpOf p).gm.isSome = true → logBeats 3 (s.ptpOf p).annIv ≤ s.since (s.ptpOf p).annAt → Completes (.ptpAnnounceTimeout p) s (fun t => (t.ptpOf p).gm = none
            ∧ t.get (SN_PST.PTPST p) = 1 ∧ t.flag (SN_PST.PLOCK p) = false ∧ RegsKeptBut (ptpRegs p) s t ∧ MemKept s t)))
    ∧ (∀ dom : BitVec 8, s.ptpTakes p dom.toNat = true →
        (∀ (gm : BitVec 64) (rank : BitVec 16) (ofs iv : BitVec 8) (leap : Fin 3),
          ((s.ptpOf p).gm = none ∨ ((s.ptpOf p).gm ≠ some gm.toNat ∧ rank.toNat < (s.ptpOf p).rank) → Completes (.ptpAnnounceRx p dom gm rank ⟨ofs, leap⟩ iv) s (fun t =>
              (t.ptpOf p).gm = some gm.toNat ∧ (t.ptpOf p).rank = rank.toNat ∧ (t.ptpOf p).utc = some (ofs.toNat, leap.val)
              ∧ t.get (SN_PST.PTPST p) = 2 ∧ t.flag (SN_PST.PLOCK p) = false ∧ RegsKeptBut (ptpRegs p) s t ∧ MemKept s t)))
        ∧ (∀ (gm : BitVec 64) (seq : BitVec 16) (ns : Int), (s.ptpOf p).gm = some gm.toNat →
          Completes (.ptpSyncRx p dom gm seq true ns) s (fun t => (t.ptpOf p).twoStep = some (seq.toNat, ns) ∧ AllKept s t)
          ∧ Completes (.ptpSyncRx p dom gm seq false ns) s (fun t => (t.ptpOf p).t2mt1 = ns
              ∧ (t.ptpOf p).good = (if (ns - (s.ptpOf p).delay).natAbs ≤ 1000 then (s.ptpOf p).good + 1 else 0)
              ∧ t.flag (SN_PST.PLOCK p) = (decide (16 ≤ (t.ptpOf p).good) || s.flag (SN_PST.PLOCK p))
              ∧ t.get (SN_PST.PTPST p) = (if t.flag (SN_PST.PLOCK p) then 3 else 2) ∧ RegsKeptBut (ptpRegs p) s t ∧ MemKept s t)
          ∧ (∀ origin : Int, (s.ptpOf p).twoStep = some (seq.toNat, ns) → Completes (.ptpFollowUpRx p dom gm seq origin) s (fun t =>
              (t.ptpOf p).t2mt1 = ns - origin ∧ (t.ptpOf p).twoStep = none ∧ RegsKeptBut (ptpRegs p) s t ∧ MemKept s t)))
        ∧ (∀ (seq : BitVec 16) (ns : Int) (iv : BitVec 8), (s.ptpOf p).dreq = some seq.toNat →
          Completes (.ptpDelayRespRx p dom seq ns iv) s (fun t => (t.ptpOf p).delay = ((s.ptpOf p).t2mt1 + ns) / 2
            ∧ (t.ptpOf p).dreq = none ∧ (t.ptpOf p).interval = iv.toInt ∧ AllKept s t)))

/-- The telegrams a unit forms, and their transmission (R358, R359, R360, R361, R362, R363, R364, R365, R368, R371, R372). -/
def Obligations.TelegramsFormAndLeave : Prop :=
  ∀ s : State, s.mayForm →
    (∀ n : Fin 8, s.flag (SN_VL.EN n) = true → s.get (SN_VL.COUNT n) ≠ 0 → s.get (SN_VL.FIRST n) + s.get (SN_VL.COUNT n) ≤ 0o320 →
        s.valuesBeat n = true → s.sn.formAt.get? n ≠ some s.t.run →
        (∀ i, i < s.get (SN_VL.COUNT n) → s.sramPoison (0o00400000 + s.get (SN_VL.FIRST n) + i) = false) → Completes (.valuesForm n) s (fun t => FormsOrd s t 1 (s.get (SN_VL.GRP n)) (W (s.get (SN_VL.FIRST n))
          :: (List.range (s.get (SN_VL.COUNT n))).map (fun i => s.mirror (s.get (SN_VL.FIRST n) + i))) ∧ AllKept s t))
    ∧ (∀ (e : LatEv) (r : List LatEv), s.bl.netQ = e :: r → e.beat ≠ s.workBeat → (s.bl.netQ.takeWhile (fun x => x.beat == e.beat)).length ≤ 106 →
        ((∀ x ∈ s.bl.netQ.takeWhile (fun x => x.beat == e.beat), x.priv = false) → Completes .signalsForm s (fun t =>
            FormsOrd s t 2 (s.get SN_TXG.SIG) ((s.bl.netQ.takeWhile (fun x => x.beat == e.beat)).flatMap eventWords)
            ∧ t.bl.netQ = s.bl.netQ.dropWhile (fun x => x.beat == e.beat) ∧ AllKept s t))
        ∧ ((∀ x ∈ s.bl.netQ.takeWhile (fun x => x.beat == e.beat), x.priv = true) → Completes .signalsForm s (fun t =>
            FormsPriv s t 2 (s.get SN_TXG.SIG) ((s.bl.netQ.takeWhile (fun x => x.beat == e.beat)).flatMap eventWords)
            ∧ t.bl.netQ = s.bl.netQ.dropWhile (fun x => x.beat == e.beat) ∧ RegsKeptBut [JL_PSEQ] s t ∧ MemKept s t)))
    ∧ (s.t.usec = 250000 → s.sn.formAt.get? 8 ≠ some s.t.run → Completes .sigstateForm s (fun t => (∃ body, FormsOrd s t 3 (s.get SN_TXG.SSTATE) body ∧ body.length = 256
        ∧ ∀ p ∈ s.bl.cfg, p.2.txen = true → p.2.txidx < 4096 → wbit (body.getD (128 + p.2.txidx / 32) 0) (p.2.txidx % 32) = true
          ∧ (s.outO p.1 = true → wbit (body.getD (p.2.txidx / 32) 0) (p.2.txidx % 32) = true)) ∧ AllKept s t))
    ∧ (∀ body b r, s.sn.almQ = (false, body, b) :: r → b < s.t.run → Completes .alarmTelegramForm s (fun t =>
        FormsOrd s t 4 (s.get SN_TXG.ALM) body ∧ t.sn.almQ = r ∧ AllKept s t))
    ∧ (∀ body b r, s.sn.almQ = (true, body, b) :: r → b < s.t.run → Completes .alarmTelegramForm s (fun t =>
        FormsPriv s t 4 (s.get SN_TXG.ALM) body ∧ t.sn.almQ = r ∧ RegsKeptBut [JL_PSEQ] s t ∧ MemKept s t))
    ∧ (∀ body b r, s.sn.callQ = (body, b) :: r → b < s.t.run → Completes .callTelegramForm s (fun t =>
        FormsOrd s t 5 (s.get SN_TXG.CALL) body ∧ t.sn.callQ = r ∧ AllKept s t))
    ∧ (s.t.usec = 500000 → s.sn.formAt.get? 9 ≠ some s.t.run → Completes .statusForm s (fun t => FormsOrd s t 6 (s.get SN_TXG.STAT) [s.reg TIM_MDIG, s.reg TIM_DSTAT, s.reg SYS_ISTAT,
        s.almCntWord, W ((s.get JL_STAT.INSTEP) <<< 35 + (s.get JL_STAT.PART) <<< 34), s.reg IMG_RUNDIG] ∧ AllKept s t))
    ∧ (∀ x r, s.txPorts ≠ [] → s.sn.txPriv = x :: r → x.hurt = false → Completes .telegramTransmit s (fun t => t.sn.sent = some (x.sealed, s.txPorts)
        ∧ t.sn.txPriv = r ∧ t.sn.txOrd = s.sn.txOrd ∧ CountsUp SN_TXCNT.SENT s t ∧ RegsKeptBut [SN_TXCNT] s t ∧ MemKept s t))
    ∧ (∀ x r, s.txPorts ≠ [] → s.sn.txPriv = [] → s.sn.txOrd = x :: r → x.hurt = false → Completes .telegramTransmit s (fun t =>
        t.sn.sent = some (x.sealed, s.txPorts) ∧ t.sn.txOrd = r ∧ CountsUp SN_TXCNT.SENT s t ∧ RegsKeptBut [SN_TXCNT] s t ∧ MemKept s t))
    ∧ (∀ x r, s.txPorts ≠ [] → s.sn.txPriv = x :: r → x.hurt = true → Completes .telegramTransmit s (fun t => t.sn.sent = s.sn.sent
        ∧ t.sn.txPriv = r ∧ CountsUp SN_TXCNT.DROP s t ∧ RegsKeptBut [SN_TXCNT] s t ∧ MemKept s t))
    ∧ (∀ x : Tele, (x.sealed.words.getD x.words.length 0).toNat = crc32c x.words ∧ x.sealed.words.take x.words.length = x.words)

/-- Telegrams received: signals, signal states, status, requests, and what is discarded (R366, R367, R369, R370, R373, R374,
R375, R376, R377, R378). -/
def Obligations.TelegramsReceived : Prop :=
  (∀ (s : State) (m : List Word) (r0 r1 : Word), s.hears 2 m →
      Completes (.signalsRx m r0 r1) s (fun t => CountsUp SN_RXCNT.OK s t ∧ SramKeptBut rxWords s t ∧ MramKept s t
        ∧ RegsKeptBut [SN_RXCNT, SN_MCNT] s t
        ∧ (hdrAct m = false → hdrPriv m = false → CountsUp SN_MCNT.OBSERVER s t ∧ MemKept s t)
        ∧ (∀ i, (hdrAct m || hdrPriv m) = true → hdrCount m = 1 → s.rxEntries (hdrSrc m) (fld (hdr m 6) 33 22) = [i] →
            tsLess (hdr m 7) (hdr m 8) (s.sramAt (rxAddr i + 3)) (s.sramAt (rxAddr i + 4)) = false →
            wbit (t.sramAt (rxAddr i + 2)) 35 = wbit (hdr m 6) 35 ∧ t.sramAt (rxAddr i + 3) = hdr m 7 ∧ t.sramAt (rxAddr i + 4) = hdr m 8
            ∧ t.sramAt (rxAddr i + 5) = r0 ∧ t.sramAt (rxAddr i + 6) = r1)))
  ∧ (∀ (s : State) (m : List Word) (r0 r1 : Word), s.hears 3 m → hdrAct m = true →
      Completes (.sigstateRx m r0 r1) s (fun t => CountsUp SN_RXCNT.OK s t ∧ SramKeptBut rxWords s t ∧ MramKept s t
        ∧ RegsKeptBut [SN_RXCNT] s t
        ∧ (∀ i x, x < 4096 → wbit (hdr m (134 + x / 32)) (x % 32) = true → s.rxEntries (hdrSrc m) x = [i] →
            tsLess (hdr m 3) (hdr m 4) (s.sramAt (rxAddr i + 3)) (s.sramAt (rxAddr i + 4)) = false →
            wbit (t.sramAt (rxAddr i + 2)) 35 = wbit (hdr m (6 + x / 32)) (x % 32) ∧ t.sramAt (rxAddr i + 3) = hdr m 3)))
  ∧ (∀ (s : State) (i : Fin 4096), s.up = true → s.snOn = true → wbit (s.sramAt (rxAddr i)) 35 = true →
      wbit (s.sramAt (rxAddr i + 2)) 33 = false → s.t.usec = 0 →
      orElse (fld (s.sramAt (rxAddr i + 1)) 23 16) 3 * 1000000 ≤ s.since (s.sn.rxAt.getD i 0) → Completes (.rxsigStale i) s (fun t => wbit (t.sramAt (rxAddr i + 2)) 33 = true
        ∧ wbit (t.sramAt (rxAddr i + 2)) 35 = (match fld (s.sramAt (rxAddr i)) 33 32 with
          | 1 => true | 2 => wbit (s.sramAt (rxAddr i + 2)) 34 | _ => false)
        ∧ RegsKept s t ∧ SramKeptBut [rxAddr i + 2] s t ∧ MramKept s t))
  ∧ (∀ (s : State) (m : List Word), s.hears 6 m → hdrAct m = true → fld (hdr m 0) 20 13 = s.get TIM_MDOM.DOMAIN →
      hdrSrc m ≠ s.get SN_ID.NID → s.domNodes.length < 32 → Completes (.statusRx m) s (fun t => CountsUp SN_RXCNT.OK s t ∧ MemKept s t
        ∧ (t.sn.dom.head?.map (fun d => (d.src, d.agreed))) = some (hdrSrc m, hdr m 6 == s.reg TIM_MDIG)
        ∧ (hdr m 6 = s.reg TIM_MDIG → RegsKeptBut [SN_RXCNT, TIM_MSTAT, HST_ISRC] s t)
        ∧ (∀ d, s.domNodes.find? (fun d => d.src == hdrSrc m) = some d → 1 ≤ d.diffs → hdr m 6 ≠ s.reg TIM_MDIG →
            s.get TIM_MDOM.DOMAIN ≠ 0 → t.flag TIM_MSTAT.NETMM = true ∧ t.flag TIM_MSTAT.MISMATCH = true)))
  ∧ (∀ (s : State) (m : List Word), s.executes 1 SN_MSRC.ARM m → fld (hdr m 0) 20 13 = s.get TIM_MDOM.DOMAIN →
      s.flag TIM_DSTAT.TRUST = true → 2 ≤ fld (hdr m 10) 35 32 → fld (hdr m 10) 35 32 ≤ 5 → fld (hdr m 10) 31 30 ≠ 3 →
      targetTest (hdr m 8) s.t.beat 8 = 0 → ∀ n repl, s.slotFor (fld (hdr m 10) 35 32) = some (n, repl) →
      Completes (.requestArmRx m) s (fun t => t.reg (TIM_SLOT_W0 n) = hdr m 8 ∧ t.get (TIM_SLOT_W1.STATE n) = 1
        ∧ t.get (TIM_SLOT_W1.ACTION n) = fld (hdr m 10) 35 32 ∧ t.t.slotArg.getD n 0 = hdr m 9
        ∧ RegsKeptBut [SN_RXCNT, TIM_SLOT_W0 n, TIM_SLOT_W1 n, TIM_LSTAT] s t ∧ MemKept s t))
  ∧ (∀ (s : State) (m : List Word), s.executes 2 SN_MSRC.CMD m → s.commands → s.alm.cmds.length < 16 →
      Completes (.requestAlmcmdRx m) s (fun t => t.alm.cmds = s.alm.cmds ++ [⟨hdr m 8, false, 1, reqId m, hdrSrc m, reqGrp m⟩]
        ∧ RegsKeptBut [SN_RXCNT] s t ∧ MemKept s t))
  ∧ (∀ (s : State) (m : List Word), s.executes 3 SN_MSRC.CMD m → s.flag OPL_CFG.NETACC = true → s.commands → s.opl.cmds.length < 8 → Completes (.requestOplcmdRx m) s (fun t =>
        t.opl.cmds = s.opl.cmds ++ [⟨hdr m 8, false, 1, reqId m, hdrSrc m, reqGrp m⟩] ∧ RegsKeptBut [SN_RXCNT] s t ∧ MemKept s t))
  ∧ (∀ (s : State) (m : List Word), s.executes 4 SN_MSRC.READ m → s.mayForm → (hdr m 8).toNat < 2 ^ 24 → (hdr m 9).toNat ≠ 0 →
      (hdr m 9).toNat ≤ 64 → (∀ i, i < (hdr m 9).toNat → s.sramPoison ((hdr m 8).toNat + i) = false) → Completes (.requestReadRx m) s (fun t => (∃ data,
          FormsOrd s t 8 (reqGrp m) (W (4 <<< 32 + reqId m <<< 16) :: W (hdrSrc m) :: data) ∧ data.length = (hdr m 9).toNat
          ∧ ∀ i, i < (hdr m 9).toNat → isSram ((hdr m 8).toNat + i) = true → data.getD i 0 = (s.peek ((hdr m 8).toNat + i)).getD 0)
        ∧ RegsKeptBut [SN_RXCNT] s t ∧ MemKept s t))
  ∧ (∀ (s : State) (m : List Word), s.executes 5 SN_MSRC.READ m → s.mayForm → s.flag ONX_STAT.READY = true → (hdr m 9).toNat ≠ 0 →
      (hdr m 9).toNat ≤ 8 → fld (hdr m 8) 15 0 + (hdr m 9).toNat ≤ (if wbit (hdr m 8) 35 then 16384 else 4096) →
      Completes (.requestReadrecRx m) s (fun t => FormsOrd s t 8 (reqGrp m) (W (5 <<< 32 + reqId m <<< 16) :: W (hdrSrc m)
          :: s.netRecords (wbit (hdr m 8) 35) (fld (hdr m 8) 15 0) (hdr m 9).toNat) ∧ RegsKeptBut [SN_RXCNT] s t ∧ MemKept s t))
  ∧ (∀ (s : State) (m : List Word), (∃ k, k ∈ [1, 4, 5, 8] ∧ s.hears k m) → Completes (.otherTelegramRx m) s (fun t =>
        CountsUp SN_RXCNT.OK s t ∧ RegsKeptBut [SN_RXCNT] s t ∧ MemKept s t))
  ∧ (∀ (s : State) (m : List Word), s.executes (reqOp m) SN_MSRC.EN m → (reqOp m = 0 ∨ 5 < reqOp m) → Completes (.otherTelegramRx m) s (fun t =>
        CountsUp SN_MCNT.BADOP s t ∧ MemKept s t))
  ∧ (∀ (s : State) (m : List Word), s.hears 7 m → reqOp m = 4 → fld (hdr m 7) 31 0 = s.get SN_ID.NID → s.mgmtSource (hdrSrc m) = none →
      Completes (.requestReadRx m) s (fun t => CountsUp SN_MCNT.DENIED s t ∧ RegsKeptBut [SN_RXCNT, SN_MCNT] s t ∧ MemKept s t))
  ∧ (∀ (s : State) (m : List Word), s.up = true → s.snOn = true →
      (fld (hdr m 0) 35 32 ≠ 1 → Completes (.otherTelegramRx m) s (fun t => CountsUp SN_RXERR.STRANGER s t ∧ RegsKeptBut [SN_RXERR] s t ∧ MemKept s t))
      ∧ (fld (hdr m 0) 35 32 = 1 → (m.length < 7 ∨ 325 < m.length ∨ hdrType m = 0 ∨ 9 ≤ hdrType m) → Completes (.otherTelegramRx m) s (fun t =>
          CountsUp SN_RXERR.FMT s t ∧ RegsKeptBut [SN_RXERR] s t ∧ MemKept s t))
      ∧ (fld (hdr m 0) 35 32 = 1 → 7 ≤ m.length → m.length ≤ 325 → 1 ≤ hdrType m → hdrType m ≤ 8 →
          (hdr m (m.length - 1)).toNat ≠ crc32c (m.take (m.length - 1)) → Completes (.otherTelegramRx m) s (fun t =>
          CountsUp SN_RXERR.CRC s t ∧ RegsKeptBut [SN_RXERR] s t ∧ MemKept s t)))
  ∧ (∀ (s : State) (why : Fin 7), s.up = true → s.snOn = true → Completes (.datagramDiscard why) s (fun t =>
      (why.val = 0 → CountsUp SN_RXERR.MAC s t) ∧ (why.val = 1 → CountsUp SN_RXERR.STRANGER s t) ∧ (why.val = 2 → CountsUp SN_RXERR.FMT s t)
      ∧ (why.val = 3 ∨ why.val = 6 → CountsUp SN_RXERR.CRC s t) ∧ (why.val = 4 → t.flag SN_STAT.IDCONF = true)
      ∧ (why.val = 6 → CountsUp SYS_ICHK0.FAIL s t ∧ t.flag HST_ISRC.INTEG = true)
      ∧ RegsKeptBut (if why.val = 5 then [] else if why.val = 4 then [SN_STAT] else if why.val = 6 then [SN_RXERR, SYS_ICHK0, HST_ISRC, ONX_LOST]
          else [SN_RXERR]) s t ∧ MemKept s t))

/-- Release, takeover, swap, giving up, seeking: which unit is the active (R381, R384, R400, R401, R407, R408, R410, R411,
R413, R418). -/
def Obligations.PairTakesAndGivesControl : Prop :=
  (∀ s : State, s.up = true → (s.releaseDue = true → Completes .releaseControl s (fun t => t.pstate = 8
      ∧ t.get JL_STAT.ROLE = 0 ∧ t.flag JL_STAT.REF = false ∧ LowKeptBut [] s t ∧ MemKept s t))
      ∧ (s.releaseDue = false → IsBeatIf .releaseControl s.ahead.releaseDue s))
  ∧ (∀ s : State, s.up = true → (s.takeoverDue = true → Completes .standbyTakeover s (fun t =>
      TakesControl (if s.jl.takeFar then s.farSeq else s.laterSeq) s t ∧ t.flag JL_STAT.PART = false ∧ LowKeptBut [] s t ∧ MemKept s t))
      ∧ (s.takeoverDue = false → IsBeatIf .standbyTakeover s.ahead.takeoverDue s))
  ∧ (∀ (s : State) (b : Nat), s.up = true → s.pstate = 6 → s.jl.deadAt = some b →
      (50000 ≤ s.since b → Completes .observerTakeover s (fun t =>
        TakesControl s.farSeq s t ∧ t.flag JL_STAT.PART = false ∧ LowKeptBut [] s t ∧ MemKept s t))
      ∧ (s.since b < 50000 → Completes .observerTakeover s (fun t => t.jl = s.jl ∧ AllKept s t)))
  ∧ (∀ s : State, s.up = true → s.pairOn = true → s.pstate = 1 →
      (orElse (s.get JL_CFG.SEEKR) 2 * 1000000 ≤ s.aloneFor → Completes .seekTimeout s (fun t =>
        TakesControl (s.get JL_PSEQ.PSEQ) s t ∧ LowKeptBut [] s t ∧ MemKept s t))
      ∧ (s.aloneFor < orElse (s.get JL_CFG.SEEKR) 2 * 1000000 → Completes .seekTimeout s (fun t => t.jl = s.jl ∧ AllKept s t)))
  ∧ (∀ (s : State) (n : Fin 16), s.up = true → s.pstate = 5 → s.alive 23 = true → s.dueSlots.head? = some n.val →
      s.get (TIM_SLOT_W1.ACTION n) = 1 → Completes (.roleSwapStandby n) s (fun t => t.get (TIM_SLOT_W1.STATE n) = 2
        ∧ (s.flag JL_STAT.REF = false → TakesControl (s.get JL_PSEQ.PSEQ) s t ∧ t.get JL_STAT.PARTNER = 5 ∧ CountsUp JL_SWAP.SWAPS s t)
        ∧ (s.flag JL_STAT.REF = true → t.pstate = 5 ∧ CountsUp JL_SWAP.SKIPS s t)
        ∧ LowKeptBut [TIM_SLOT_W1 n] s t ∧ MemKept s t))
  ∧ (∀ s : State, s.up = true → s.alive 23 = true → Completes .jlGiveup s (fun t => t.get JL_CRES.RESULT = s.jlRefusal
      ∧ (s.jlRefusal = 0 → s.jl.relBeat = none → Releases 6 s t) ∧ (s.jlRefusal ≠ 0 → RegsKeptBut [JL_CRES] s t)
      ∧ LowKeptBut [] s t ∧ MemKept s t))
  ∧ (∀ (s : State) (n : Nat) (repl : Bool), s.up = true → s.jlRefusal = 0 → s.slotFor 1 = some (n, repl) →
      targetTest (s.boundaryAhead 2) s.t.beat (s.minlead 1) = 0 →
      (s.alive 23 = true → Completes .jlSwapArm s (fun t => t.get JL_CRES.RESULT = 0
        ∧ t.reg (TIM_SLOT_W0 n) = s.boundaryAhead 2 ∧ t.get (TIM_SLOT_W1.STATE n) = 1 ∧ t.get (TIM_SLOT_W1.ACTION n) = 1
        ∧ t.get (TIM_SLOT_W1.SCOPE n) = 1 ∧ t.t.slotArg.getD n 0 = s.reg JL_EPOCH
        ∧ LowKeptBut [TIM_SLOT_W0 n, TIM_SLOT_W1 n, TIM_LSTAT] s t ∧ MemKept s t))
      ∧ (s.pairOn = true → orElse (s.get JL_CFG.SWAPH) 24 ≠ 511 → orElse (s.get JL_CFG.SWAPH) 24 ≤ s.get JL_SWAP.HOURS → s.mode ≤ 1 →
          s.jl.partSleep = none → (∀ k : Fin 16, s.armedSlot k = true → s.get (TIM_SLOT_W1.ACTION k) ≠ 1) →
          Completes .autoSwapArm s (fun t => t.reg (TIM_SLOT_W0 n) = s.boundaryAhead 2
            ∧ t.get (TIM_SLOT_W1.STATE n) = 1 ∧ t.get (TIM_SLOT_W1.ACTION n) = 1 ∧ t.get (TIM_SLOT_W1.SCOPE n) = 1
            ∧ t.t.slotArg.getD n 0 = s.reg JL_EPOCH ∧ LowKeptBut [TIM_SLOT_W0 n, TIM_SLOT_W1 n, TIM_LSTAT] s t ∧ MemKept s t)))
  ∧ (∀ (s : State) (ok : Bool), s.up = true → Completes (.loopSupplyOutOfLimits ok) s (fun t => t.flag LO_STAT.SUPOK = ok
      ∧ (ok = true → t.life.supAt = none) ∧ (ok = false → t.life.supAt = some (s.life.supAt.getD s.t.run))
      ∧ (ok = true ∨ s.life.supAt = none → RegsKeptBut [LO_STAT] s t)
      ∧ (∀ b, ok = false → s.life.supAt = some b → 10000 ≤ s.since b →
          (s.pstate = 2 → s.get JL_STAT.PARTNER = 5 → s.jl.relBeat = none → Releases 5 s t)
          ∧ (3 ≤ s.pstate → s.pstate ≤ 7 → t.pstate = 8 ∧ t.get JL_CAUSE.CAUSE = 5)) ∧ LowKeptBut [] s t ∧ MemKept s t))
  ∧ (∀ s : State, s.up = true → s.pairOn = true → s.pstate = 4 → orElse (s.get JL_CFG.PROBR) 10 ≤ s.jl.cleanRounds →
      Completes .probationEnd s (fun t => t.pstate = 5 ∧ t.get JL_STAT.ROLE = 2
      ∧ t.flag JL_STAT.INSTEP = true ∧ LowKeptBut [] s t ∧ MemKept s t))

/-- Crosslink frames, block lock and silence, and the records that come with frames (R386, R387, R388, R391, R396, R404,
R405, R409, R412, R416). -/
def Obligations.CrosslinkFramesAndRecords : Prop :=
  (∀ (s : State) (lane : Bool) (f : JFrame) (arr : Word), s.up = true → s.pairOn = true →
      (if lane then s.jl.link.lockB else s.jl.link.lockA) = true →
      (frameOk f = false → Completes (.crosslinkFrameRx lane f arr) s (fun t => CountsUp (if lane then JL_LINK.CRCB else JL_LINK.CRCA) s t
          ∧ RegsKeptBut [JL_LINK] s t ∧ MemKept s t))
      ∧ (frameOk f = true → s.jl.wake = 0 →
          ((s.jl.link.rx.map (fun r => (r.beat, r.txt))) = some (f.beat, f.txt) → Completes (.crosslinkFrameRx lane f arr) s (fun t =>
              t.flag (if lane then JL_STAT.LNKB else JL_STAT.LNKA) = true ∧ RegsKeptBut [JL_STAT] s t ∧ MemKept s t))
          ∧ ((s.jl.link.rx.map (fun r => (r.beat, r.txt))) ≠ some (f.beat, f.txt) → f.recs = [] → Completes (.crosslinkFrameRx lane f arr) s (fun t =>
              t.flag (if lane then JL_STAT.LNKB else JL_STAT.LNKA) = true ∧ MemKept s t ∧ t.jl.link.rx = some f
              ∧ t.get JL_STAT.PARTNER = s.framePartner f
              ∧ (s.pstate = 2 → f.pstate = 2 → (s.reg JL_EPOCH).toNat < f.epoch.toNat → t.pstate = 8 ∧ t.get JL_CAUSE.CAUSE = 13)))))
  ∧ (∀ (s : State) (lane lock : Bool), s.up = true → Completes (.crosslinkBlockLock lane lock) s (fun t =>
      (if lane then t.jl.link.lockB else t.jl.link.lockA) = lock
      ∧ (lock = false → t.flag (if lane then JL_STAT.LNKB else JL_STAT.LNKA) = false) ∧ (lock = true → RegsKept s t)
      ∧ RegsKeptBut [JL_STAT] s t ∧ MemKept s t))
  ∧ (∀ (s : State) (lane : Bool), s.up = true → s.pairOn = true → Completes (.crosslinkFrameDiscard lane) s (fun t =>
      CountsUp (if lane then JL_LINK.CRCB else JL_LINK.CRCA) s t ∧ RegsKeptBut [JL_LINK] s t ∧ MemKept s t))
  ∧ (∀ s : State, s.up = true → s.pairOn = true → s.jl.wake = 0 → s.laned = true → 16 ≤ s.quietFor s.jl.link.lastA →
      (s.quietFor s.jl.link.lastB < 16 → s.flag JL_STAT.LNKB = true → Completes .crosslinkSilence s (fun t => t.flag JL_STAT.LNKA = false
        ∧ t.flag JL_STAT.LNKB = true ∧ RegsKeptBut [JL_STAT] s t ∧ MemKept s t))
      ∧ (16 ≤ s.quietFor s.jl.link.lastB → Completes .crosslinkSilence s (fun t => t.laned = false
      ∧ t.get JL_STAT.PARTNER = (if s.jl.partSleep.isSome then 9 else 15)
      ∧ (s.flag JL_STAT.WIT = true → s.replays = true → t.pstate = 7)
      ∧ (s.flag JL_STAT.WIT = false → s.replays = true ∨ s.pstate = 7 → t.pstate = 6 ∧ t.flag JL_STAT.PART = true)
      ∧ (s.flag JL_STAT.WIT = false → s.pstate = 2 → s.jl.partSleep = none → t.pstate = 2 ∧ t.flag JL_STAT.PART = true)
      ∧ LowKeptBut [] s t ∧ MemKept s t)))
  ∧ (∀ s : State, s.up = true → s.pairOn = true → s.replays = true → s.jl.wake = 0 → s.jl.takeAt = none → s.jl.replayAt + 6 ≤ s.t.run →
      s.jl.link.replay.any (fun r => r.beat == s.t.beat - 6 && r.complete) = false →
      Completes .replayMissing s (fun t => CountsUp JL_LCNT.MISS s t ∧ t.get JL_CAUSE.CAUSE = 10 ∧ (s.laned = true → t.pstate = 3)
        ∧ LowKeptBut [] s t ∧ MemKept s t))
  ∧ (∀ (s : State) (a : Addr) (w epoch : Word), s.up = true → s.pairOn = true →
      (epoch ≠ s.reg JL_EPOCH → Completes (.carryRecordRx a w epoch) s (fun t => CountsUp JL_XRES.STALES s t ∧ t.flag JL_XRES.STALE = true
        ∧ RegsKeptBut [JL_XRES] s t ∧ MemKept s t))
      ∧ (epoch = s.reg JL_EPOCH → s.replays = true → Completes (.carryRecordRx a w epoch) s (Replays ⟨10, 0, 0, [W a.toNat, w]⟩ s))
      ∧ ((s.replays = true ∨ s.pstate = 2) → isTable a.toNat = true → sramRight a.toNat = some true → s.deaf a.toNat = false →
          s.unbeaten 23 a.toNat → s.tableClosed a.toNat = false →
          (let t := s.carryRec a.toNat w (s.reg JL_EPOCH)
           t.sramAt a.toNat = w ∧ t.sramPoison a.toNat = false ∧ SramKeptBut [a.toNat] s t ∧ MramKept s t ∧ RegsKept s t)
          ∧ (epoch = s.reg JL_EPOCH → s.pstate = 2 → Completes (.carryRecordRx a w epoch) s (fun t =>
            t.sramAt a.toNat = w ∧ t.sramPoison a.toNat = false ∧ SramKeptBut [a.toNat] s t ∧ MramKept s t ∧ RegsKept s t))))
  ∧ (∀ (s : State) (opl keyed : Bool) (w epoch : Word), s.up = true → s.pairOn = true →
      (epoch ≠ s.reg JL_EPOCH → Completes (.cmdRecordRx opl keyed w epoch) s (fun t => CountsUp JL_XRES.STALES s t
        ∧ t.flag JL_XRES.STALE = true ∧ RegsKeptBut [JL_XRES] s t ∧ MemKept s t))
      ∧ (epoch = s.reg JL_EPOCH → s.replays = true →
          Completes (.cmdRecordRx opl keyed w epoch) s (Replays ⟨9, 0, opl.toNat <<< 23 + keyed.toNat <<< 22, [w]⟩ s))
      ∧ (epoch = s.reg JL_EPOCH → s.pstate = 2 → s.almRuns = true → s.alm.cmds.length < 16 → s.opl.cmds.length < 8 →
          Completes (.cmdRecordRx opl keyed w epoch) s (fun t => ∃ c : EngCmd, c.w = w ∧ c.keyed = keyed
            ∧ t.alm.cmds = s.alm.cmds ++ (if opl then [] else [c]) ∧ t.opl.cmds = s.opl.cmds ++ (if opl then [c] else []) ∧ AllKept s t)))
  ∧ (∀ (s : State) (target arg cmd epoch : Word), s.up = true → s.pairOn = true → 2 ≤ s.pstate → s.pstate ≤ 5 →
      (epoch ≠ s.reg JL_EPOCH → Completes (.armRecordRx target arg cmd epoch) s (fun t => t.get TIM_LSTAT.RESULT = 7
        ∧ RegsKeptBut [TIM_LSTAT] s t ∧ MemKept s t))
      ∧ (∀ n repl, epoch = s.reg JL_EPOCH → 2 ≤ fld cmd 35 32 → fld cmd 35 32 ≤ 5 → fld cmd 31 30 ≠ 3 → targetTest target s.t.beat 8 = 0 →
          s.slotFor (fld cmd 35 32) = some (n, repl) → Completes (.armRecordRx target arg cmd epoch) s (fun t =>
            t.reg (TIM_SLOT_W0 n) = target ∧ t.get (TIM_SLOT_W1.STATE n) = 1 ∧ t.get (TIM_SLOT_W1.ACTION n) = fld cmd 35 32
            ∧ t.get (TIM_SLOT_W1.ORIGIN n) = 1 ∧ t.t.slotArg.getD n 0 = arg
            ∧ RegsKeptBut ([TIM_SLOT_W0 n, TIM_SLOT_W1 n, TIM_LSTAT] ++ if fld cmd 31 30 = 2 then [SN_TXCNT] else []) s t ∧ MemKept s t)))
  ∧ (∀ (s : State) (idx : BitVec 16) (w : Word), s.up = true → s.pairOn = true → s.pstate = 3 →
      (∀ cf, s.bl.cfg.get? idx.toNat = some cf → Completes (.stateRecordRx 0 idx [w]) s (fun t =>
          (t.cellOf idx.toNat).own = wbit w 35 ∧ AllKept s t))
      ∧ (idx.toNat < 1024 → Completes (.stateRecordRx 1 idx [w]) s (fun t => t.almState idx.toNat = fld w 35 33
          ∧ RegsKeptBut [ALM_PST idx.toNat] s t ∧ MemKept s t))
      ∧ (∀ a, streamAddr streamTables idx.toNat = some a → Completes (.stateRecordRx 4 idx [w]) s (fun t => t.sramAt a = w
          ∧ t.jl.streamAt = max s.jl.streamAt (idx.toNat + 1) ∧ SramKeptBut [a] s t ∧ MramKept s t ∧ RegsKept s t)))
  ∧ (∀ (s : State) (d : BitVec 256), s.up = true → s.pairOn = true →
      (s.pstate = 1 → digestWords d = s.runDigest → Completes (.joinRecordRx d) s (fun t => t.pstate = 3 ∧ MemKept s t))
      ∧ (s.pstate = 1 → digestWords d ≠ s.runDigest → Completes (.joinRecordRx d) s (fun t => t.pstate = 1
          ∧ t.get JL_CAUSE.CAUSE = 12 ∧ LowKeptBut [] s t ∧ MemKept s t))
      ∧ (s.pstate = 3 → s.jl.joinStep = 1 → digestWords d ≠ s.runDigest → Completes (.joinRecordRx d) s (fun t => t.pstate = 1
          ∧ t.get JL_CAUSE.CAUSE = 12 ∧ LowKeptBut [] s t ∧ MemKept s t)))

/-- The referee, the witness, disagreements, and the sleep of a standby (R391, R392, R393, R398, R402, R411, R415, R416,
R417). -/
def Obligations.RefereeWitnessAndSleep : Prop :=
  (∀ (s : State) (v : Fin 8) (d : Word), s.up = true → s.pairOn = true → s.pstate = 2 →
      (v.val = 0 → s.get JL_STAT.PARTNER = 5 → s.jl.referee = none → Completes (.verdRecordRx v d) s (fun t => t.flag JL_STAT.REF = true
          ∧ CountsUp JL_REFST.RUNS s t ∧ (t.jl.referee.map (·.d)) = some d ∧ RegsKeptBut [JL_STAT, JL_REFST] s t ∧ MemKept s t))
      ∧ (v.val ≠ 0 → s.jl.referee.isSome = true → Completes (.verdRecordRx v d) s (fun t => t.get JL_REFST.VERDICT = v.val
          ∧ t.flag JL_STAT.REF = false ∧ t.jl.referee = none
          ∧ (v.val = 3 → s.get JL_STAT.PARTNER = 5 → s.jl.relBeat = none → Releases 8 s t) ∧ LowKeptBut [] s t ∧ MemKept s t)))
  ∧ (∀ (s : State) (fail : Fin 4) (r : Referee), s.up = true → s.jl.referee = some r → r.selfDone = false → 32 ≤ s.since r.selfAt →
      Completes (.refereeSelfCheckEnd fail) s (fun t => (fail.val = 0 → t.jl.referee = some { r with selfDone := true } ∧ AllKept s t)
        ∧ (fail.val ≠ 0 → s.pstate = 2 → s.get JL_STAT.PARTNER = 5 → s.jl.relBeat = none → Releases (if fail.val = 1 then 1 else 8) s t)
        ∧ (fail.val ≠ 0 → s.pstate = 5 → t.pstate = 8) ∧ LowKeptBut [] s t ∧ MemKept s t))
  ∧ (∀ (s : State) (r : Referee), s.up = true → s.jl.referee = some r → Completes .refereeWindowOpen s (fun t =>
      t.jl.referee = some { r with open_ := r.open_ || decide (64 ≤ s.since r.at_) } ∧ AllKept s t))
  ∧ (∀ (s : State) (r : Referee), s.up = true → s.jl.referee = some r → r.open_ = true →
      (s.since r.at_ < 64 + s.refLen → Completes .refereeVerdict s (fun t => t.jl = s.jl ∧ AllKept s t))
      ∧ (64 + s.refLen ≤ s.since r.at_ → Completes .refereeVerdict s (fun t =>
      t.get JL_REFST.VERDICT = verdictOf r.outs ∧ t.flag JL_STAT.REF = false ∧ t.jl.referee = none
      ∧ (s.pstate = 5 → verdictOf r.outs = 1 ∨ verdictOf r.outs = 4 → t.pstate = 3) ∧ (s.pstate = 5 → verdictOf r.outs = 2 → t.pstate = 8)
      ∧ LowKeptBut [] s t ∧ MemKept s t)))
  ∧ (∀ (s : State) (r : Referee), s.up = true → s.jl.swapChk = some r → r.at_ + s.refLen ≤ s.t.run → Completes .postSwapCheckEnd s (fun t =>
      t.jl.swapChk = none
      ∧ ((r.outs.filter (fun o => 2 * o.fieldDiff ≤ o.n)).any (fun o => 2 * o.actDiff > o.n) = true → s.pstate = 2 →
          s.get JL_STAT.PARTNER = 5 → s.jl.relBeat = none → Releases 11 s t)
      ∧ ((r.outs.filter (fun o => 2 * o.fieldDiff ≤ o.n)).any (fun o => 2 * o.actDiff > o.n) = false → RegsKept s t)
      ∧ LowKeptBut [] s t ∧ MemKept s t))
  ∧ (∀ s : State, s.up = true → s.pairOn = true →
      (s.t.beat.toNat % 16 = 8 * s.unit → s.jl.link.witAt ≠ some s.t.run →
          Completes .witnessSend s (fun t => t.jl.link.witSent = some s.witnessWord ∧ AllKept s t))
      ∧ Completes .witnessBadWord s (fun t => CountsUp JL_WIT.BADW s t ∧ RegsKeptBut [JL_WIT] s t ∧ MemKept s t)
      ∧ (s.flag JL_STAT.WIT = true → 48 ≤ s.quietFor s.jl.link.lastWit → Completes .witnessSilent s (fun t => t.flag JL_STAT.WIT = false
          ∧ (s.laned = true → RegsKeptBut [JL_STAT] s t)
          ∧ (s.laned = false → s.pstate = 2 → s.jl.partSleep = none → t.flag JL_STAT.PART = true)
          ∧ (s.laned = false → s.replays = true ∨ s.pstate = 7 → t.pstate = 6 ∧ t.flag JL_STAT.PART = true)
          ∧ LowKeptBut [] s t ∧ MemKept s t)))
  ∧ (∀ (s : State) (w : BitVec 16), s.up = true → s.pairOn = true → bit w.toNat 15 ≠ (s.unit == 1) →
      (crc4 w.toNat ≠ w.toNat % 16 → Completes (.witnessRx w) s (fun t => CountsUp JL_WIT.BADW s t ∧ RegsKeptBut [JL_WIT] s t ∧ MemKept s t))
      ∧ (crc4 w.toNat = w.toNat % 16 → Completes (.witnessRx w) s (fun t => t.get JL_WIT.WORD = w.toNat ∧ t.flag JL_STAT.WIT = true
          ∧ t.jl.link.lastWit = some s.t.run
          ∧ (s.laned = false → t.get JL_STAT.PARTNER = (match bits w.toNat 14 12 with | 1 => 2 | 2 => 8 | 3 => 6 | 4 => 8 | 5 => 1 | _ => 7))
          ∧ (s.pstate = 7 → bits w.toNat 14 12 = 2 → t.jl.takeAt = some (s.t.run + 1) ∧ t.jl.takeFar = true) ∧ LowKeptBut [] s t ∧ MemKept s t)))
  ∧ (∀ (s : State) (p : Fin 168), s.up = true → s.comparing = true →
      (((s.disOf p).cmp || (s.disOf p).val) = true → s.flag (disFld p) = false → Completes (.disagreementRaise p) s (fun t =>
          t.flag (disFld p) = true ∧ CountsUp JL_DCNT.DIS s t ∧ RegsKeptBut [(disFld p).addr, JL_DCNT] s t ∧ MemKept s t))
      ∧ (((s.disOf p).cmp || (s.disOf p).val) = false → s.flag (disFld p) = true → Completes (.disagreementClear p) s (fun t =>
          t.flag (disFld p) = false ∧ RegsKeptBut [(disFld p).addr] s t ∧ MemKept s t)))
  ∧ (∀ s : State, s.up = true → (s.sleepDue = true → Completes .sleepEntry s (fun t => t.pstate = 9 ∧ t.laned = false
        ∧ t.flag JL_STAT.WIT = false
        ∧ (∀ i, i < 29 → i ≠ 25 → t.alive i = false) ∧ t.alive 25 = s.alive 25 ∧ MemKept s t))
      ∧ (s.sleepDue = false → IsBeatIf .sleepEntry s.ahead.sleepDue s))
  ∧ (∀ s : State, s.up = true →
      (s.pstate = 9 → 900000 ≤ s.t.usec → orElse (s.get JL_LAY.SLEEPR) 10 * 1000000 ≤ s.since s.jl.stateAt → Completes .wakeUp s (fun t =>
          t.pstate = 3 ∧ t.jl.wake = 1 ∧ t.get SYS_ISTAT.ALIVE = s.get SYS_IUSE.USE ∧ LowKeptBut [SYS_ISTAT] s t ∧ MemKept s t))
      ∧ (s.jl.wake = 1 → 1000000 ≤ s.since s.jl.stateAt → Completes .wakeGuardTimeout s (fun t => t.jl.wake = 2 ∧ AllKept s t))
      ∧ (s.jl.wake = 2 → 3000000 ≤ s.since s.jl.stateAt → Completes .wakeSearchTimeout s (fun t => t.jl.wake = 0 ∧ t.laned = false
          ∧ (s.pstate = 3 → s.flag JL_STAT.WIT = false → t.pstate = 6 ∧ t.flag JL_STAT.PART = true)
          ∧ (s.pstate = 3 → s.flag JL_STAT.WIT = true → t.pstate = 7) ∧ LowKeptBut [] s t ∧ MemKept s t))
      ∧ (∀ b, s.jl.partSleep = some b → (orElse (s.get JL_LAY.SLEEPR) 10 + 3) * 1000000 ≤ s.since b → Completes .sleepPartitionTimeout s (fun t =>
          t.jl.partSleep = none ∧ t.get JL_STAT.PARTNER = 15
          ∧ (s.laned = false → s.flag JL_STAT.WIT = false → s.pstate = 2 → t.flag JL_STAT.PART = true) ∧ LowKeptBut [] s t ∧ MemKept s t)))

/-- The calendar's second, its oscillator and supply, CLK_CMD's commands, and the end of a rate window (R437, R440, R441,
R442, R444, R445, R447, R448, R449). -/
def Obligations.CalendarCountsAndCommands : Prop :=
  (∀ s : State, s.timed = true → s.clk.left ≠ 1 → Completes .calendarSecond s (fun t => t.clk = s.clk ∧ AllKept s t))
  ∧ (∀ s : State, (s.timed = false ∨ s.clk.left = 1) → Completes .calendarSecond s (fun t => t.clk.count = 0 ∧ t.flag CLK_STAT.SHPEND = false ∧ t.clk.shift = 0
      ∧ (secOf (s.reg CLK_TIME) < 86398 ∨ (secOf (s.reg CLK_TIME) = 86398 ∧ s.get CLK_UTC.LEAP ≠ 2) →
          t.reg CLK_TIME = timeWord ((secOf (s.reg CLK_TIME) + 1) / 3600) ((secOf (s.reg CLK_TIME) + 1) / 60 % 60)
            ((secOf (s.reg CLK_TIME) + 1) % 60) 0 ∧ t.reg CLK_DATE = s.reg CLK_DATE ∧ t.reg CLK_UTC = s.reg CLK_UTC)
      ∧ (secOf (s.reg CLK_TIME) = 86399 ∧ s.get CLK_UTC.LEAP = 1 →
          t.reg CLK_TIME = timeWord 23 59 60 0 ∧ t.reg CLK_DATE = s.reg CLK_DATE ∧ t.reg CLK_UTC = s.reg CLK_UTC)
      ∧ (secOf (s.reg CLK_TIME) = 86399 ∧ s.get CLK_UTC.LEAP ≠ 1 → t.reg CLK_TIME = timeWord 0 0 0 0
          ∧ t.reg CLK_DATE = dateWord (dayOf (s.reg CLK_DATE) + 1) ∧ t.reg CLK_UTC = s.reg CLK_UTC)
      ∧ (86400 ≤ secOf (s.reg CLK_TIME) → t.reg CLK_TIME = timeWord 0 0 0 0 ∧ t.reg CLK_DATE = dateWord (dayOf (s.reg CLK_DATE) + 1)
          ∧ t.get CLK_UTC.UTCOFS = (s.get CLK_UTC.UTCOFS + 1) % 256 ∧ t.get CLK_UTC.LEAP = 0)
      ∧ (secOf (s.reg CLK_TIME) = 86398 ∧ s.get CLK_UTC.LEAP = 2 → t.reg CLK_TIME = timeWord 0 0 0 0
          ∧ t.reg CLK_DATE = dateWord (dayOf (s.reg CLK_DATE) + 1)
          ∧ t.get CLK_UTC.UTCOFS = (s.get CLK_UTC.UTCOFS + 255) % 256 ∧ t.get CLK_UTC.LEAP = 0)
      ∧ RegsKeptBut [CLK_DATE, CLK_TIME, CLK_STAT, CLK_UTC, HST_ISRC] s t ∧ MemKept s t))
  ∧ (∀ s : State, Completes .oscillatorStop s (fun t => t.flag CLK_STAT.OSF = true ∧ t.get CLK_STAT.CAUSE = 2
      ∧ (s.up = true → t.flag HST_ISRC.CLK = true) ∧ RegsKeptBut [CLK_STAT, HST_ISRC] s t ∧ MemKept s t))
  ∧ (∀ s : State, Completes .calendarDomainStart s (fun t => (∀ a, CLK_DATE ≤ a → a ≤ CLK_BK 15 → t.reg a = regReset a)
      ∧ (∀ a, a < CLK_DATE ∨ CLK_BK 15 < a → t.reg a = s.reg a) ∧ MemKept s t))
  ∧ (∀ (s : State) (vsup vbk : Bool), Completes (.calendarSupplyChange vsup vbk) s (fun t =>
      t.get CLK_STAT.SUPPLY = (if vsup then 0 else if vbk then 1 else 2) ∧ t.flag CLK_STAT.VBKOK = vbk
      ∧ RegsKeptBut [CLK_STAT] s t ∧ MemKept s t))
  ∧ (∀ (s : State) (low : Bool), Completes (.cellChargeChange low) s (fun t => t.flag CLK_STAT.CELLLOW = low
      ∧ RegsKeptBut [CLK_STAT] s t ∧ MemKept s t))
  ∧ (∀ s : State, s.up = true → s.alive 25 = true →
      Completes .clkSet s (fun t => t.get CLK_CRES.RESULT = (if settable (s.reg CLK_SETD) (s.reg CLK_SETT) = false then 1
            else if s.clkSynced then 2 else 0)
          ∧ (t.get CLK_CRES.RESULT = 0 → t.reg CLK_DATE = dateWord (dayOf (s.reg CLK_SETD))
              ∧ fld (t.reg CLK_TIME) 14 0 = fld (s.reg CLK_SETT) 14 0 ∧ t.flag CLK_STAT.OSF = false ∧ t.flag CLK_STAT.SHPEND = false)
          ∧ (t.get CLK_CRES.RESULT ≠ 0 → t.reg CLK_DATE = s.reg CLK_DATE ∧ t.reg CLK_TIME = s.reg CLK_TIME)
          ∧ t.flag HST_ISRC.CLK = true ∧ RegsKeptBut [CLK_DATE, CLK_TIME, CLK_STAT, CLK_CRES, HST_ISRC] s t ∧ MemKept s t)
      ∧ (∀ arg : BitVec 16, Completes (.clkShift arg) s (fun t => t.get CLK_CRES.RESULT = (if arg.toNat = 32768 then 4
            else if s.flag CLK_STAT.SHPEND then 3 else if s.clkSynced then 2 else if arg = 0 then 6 else 0)
          ∧ (t.get CLK_CRES.RESULT = 0 → t.flag CLK_STAT.SHPEND = true ∧ t.clk.shift = arg.toInt)
          ∧ (t.get CLK_CRES.RESULT ≠ 0 → t.clk.shift = s.clk.shift) ∧ t.flag HST_ISRC.CLK = true
          ∧ RegsKeptBut [CLK_STAT, CLK_CRES, HST_ISRC] s t ∧ MemKept s t))
      ∧ Completes .clkCapture s (fun t => t.get CLK_CRES.RESULT = 0 ∧ t.reg (CLK_CAP 0) = s.reg CLK_DATE ∧ t.reg (CLK_CAP 1) = s.reg CLK_TIME
          ∧ t.reg (CLK_CAP 2) = s.ts0 ∧ t.reg (CLK_CAP 3) = s.ts1 ∧ t.flag HST_ISRC.CLK = true
          ∧ RegsKeptBut [CLK_CAP 0, CLK_CAP 1, CLK_CAP 2, CLK_CAP 3, CLK_CRES, HST_ISRC] s t ∧ MemKept s t)
      ∧ Completes .clkWindow s (fun t => t.get CLK_CRES.RESULT = (if s.rateSource then 0 else 5)
          ∧ (s.rateSource = true → t.clk.want = true) ∧ t.flag HST_ISRC.CLK = true ∧ RegsKeptBut [CLK_CRES, HST_ISRC] s t ∧ MemKept s t)
      ∧ (∀ err : BitVec 24, s.windowOver = false → Completes (.rateWindowEnd err) s (fun t => t.clk = s.clk ∧ AllKept s t))
      ∧ (∀ err : BitVec 24, s.windowOver = true → Completes (.rateWindowEnd err) s (fun t => t.flag CLK_RATE.VALID = true
          ∧ t.get CLK_RATE.ERR = err.toNat
          ∧ t.get CLK_TRIM.TRIM = (if s.flag CLK_CFG.AUTO then trimBy (s.get CLK_TRIM.TRIM) err.toNat else s.get CLK_TRIM.TRIM)
          ∧ (s.flag CLK_CFG.AUTO = false → t.flag CLK_STAT.WINRUN = false ∧ t.flag CLK_RATE.ABORT = false)
          ∧ RegsKeptBut [CLK_STAT, CLK_RATE, CLK_TRIM, CLK_CRES] s t ∧ MemKept s t)))

/-- Onyx: the start-up scan, triggers, snapshots, writing a record, and reading a slot (R419, R420, R421, R422, R424, R427,
R428, R429, R430, R431, R432). -/
def Obligations.RecorderWritesAndReads : Prop :=
  (∀ s : State, s.up = true → s.onxUp = true → s.flag ONX_STAT.READY = false → (∀ a, inRecords a = true → s.mramPoison a = false) →
    Completes .onyxStartupScanEnd s (fun t =>
      t.flag ONX_STAT.READY = true ∧ SramKept s t
      ∧ (s.newest = none → t.reg ONX_SEQ = 0 ∧ t.reg ONX_CSEQ = 0 ∧ t.reg ONX_OPR = 0
          ∧ t.reg ONX_PCC = (if s.life.rclass ≤ 3 then 1 else 0) ∧ MramKept s t)
      ∧ (∀ i, s.newest = some i → t.reg ONX_SEQ = s.mramAt (slotAddr i + 1) + 1 ∧ t.reg ONX_CSEQ = s.mramAt (slotAddr i + 2)
          ∧ t.reg ONX_OPR = s.mramAt (slotAddr i + 5))
      ∧ RegsKeptBut [ONX_SEQ, ONX_CSEQ, ONX_PCC, ONX_OPR, ONX_STAT, ONX_LOST] s t))
  ∧ (∀ s : State, s.up = true → s.onx.depth < 112 →
      (s.t.usec = 0 → s.reg ONX_OPR ≠ 0 → (s.reg ONX_OPR).toNat % 3600 = 0 → s.onx.hourAt ≠ s.reg ONX_OPR →
        Completes .oprHourRecord s (fun t => ∃ x, t.onx.trigs = s.onx.trigs ++ [x]
          ∧ x.cls = 1 ∧ x.sub = 2 ∧ x.ev0 = s.reg ONX_OPR ∧ x.ts0 = s.ts0 ∧ x.ts1 = s.ts1 ∧ AllKept s t))
      ∧ (s.t.usec ≠ 0 ∨ s.onx.hourAt = s.reg ONX_OPR → Completes .oprHourRecord s (fun t => t.onx = s.onx ∧ AllKept s t))
      ∧ (∀ w : Word, s.flag (ONX_CCFG.EN 4) = true → s.flag (ONX_CCFG.COAL 4) = false → Completes (.onxHtrigWrite w) s (fun t =>
          ∃ x, t.onx.trigs = s.onx.trigs ++ [x] ∧ x.cls = 7 ∧ x.ev0 = w ∧ x.ts0 = s.ts0 ∧ x.ts1 = s.ts1 ∧ AllKept s t)))
  ∧ (∀ s : State, s.up = true →
      (s.snapDue = false → Completes .onyxSnapshot s (fun t => t.onx = s.onx ∧ AllKept s t))
      ∧ (∀ (x : Trig) (r : List Trig), s.alive 24 = true → s.onx.trigs = x :: r → 4 * (x.at_ + 1) + 1 ≤ s.phaseNo → s.mem.sramBad = [] →
          s.mem.mramBad = [] → Completes .onyxSnapshot s (fun t => t.onx.trigs = r ∧ t.onx.lostNew = 0
            ∧ t.onx.queue = (if x.cls = 1 ∧ x.sub = 3 then s.formRec x :: s.onx.queue else s.onx.queue ++ [s.formRec x]) ∧ AllKept s t)))
  ∧ (∀ s : State, s.up = true →
      (s.mayRecord = false ∨ s.onx.queue = [] → Completes .onyxRecordWrite s (fun t => t.onx = s.onx ∧ AllKept s t))
      ∧ (∀ (x : Rec) (r : List Rec), s.mayRecord = true → s.onx.queue = x :: r → (x.trig.cls ≤ 2 ∨ s.onx.tokens ≠ 0) →
          Completes .onyxRecordWrite s (fun t =>
            let mm := !s.flag ONX_CFG.SAFEM
            let slot := slotOf (s.reg ONX_SEQ) (s.reg ONX_CSEQ)
            t.onx.queue = r ∧ t.reg ONX_SEQ = s.reg ONX_SEQ + 1
            ∧ t.onx.tokens = (if x.trig.cls ≤ 2 then s.onx.tokens else s.onx.tokens - 1)
            ∧ t.onx.writing = some ⟨slot, (writeOrder mm (x.words s.unit (s.reg ONX_SEQ) (s.reg ONX_CSEQ)
                (if mm then markMode else crcMode))).drop 1, s.t.run + 1⟩
            ∧ t.mramAt (slotAddr slot) = (if mm then 0 else crcMode)
            ∧ RegsKeptBut [ONX_SEQ] s t ∧ SramKept s t ∧ MramKeptBut [slotAddr slot] s t)))
  ∧ (∀ (s : State) (w : Writing), s.up = true → s.onxUp = true → s.onx.writing = some w → (w.todo.map (·.1)).Nodup →
      (w.todo.length ≤ s.t.run + 1 - w.next → Completes .onyxRecordWriteEnd s (fun t => t.onx.writing = none
        ∧ (∀ p ∈ w.todo, t.mramAt (slotAddr w.slot + p.1) = p.2)
        ∧ (s.onx.clear = none → w.slot < 4096 → t.get ONX_STAT.NPERM = w.slot + 1)
        ∧ RegsKeptBut [ONX_STAT] s t ∧ SramKept s t ∧ MramKeptBut (w.todo.map (slotAddr w.slot + ·.1)) s t))
      ∧ (∀ k, k = s.t.run + 1 - w.next → k < w.todo.length → Completes .onyxRecordWriteEnd s (fun t =>
          t.onx.writing = some { w with todo := w.todo.drop k, next := w.next + k }
          ∧ (∀ p ∈ w.todo.take k, t.mramAt (slotAddr w.slot + p.1) = p.2)
          ∧ RegsKept s t ∧ SramKept s t ∧ MramKeptBut ((w.todo.take k).map (slotAddr w.slot + ·.1)) s t)))
  ∧ (∀ (s : State) (area : Bool) (idx : Fin 16384), s.up = true → Completes (.onxRdselWrite area idx) s (fun t =>
      t.flag ONX_RDSEL.AREA = area ∧ t.get ONX_RDSEL.IDX = idx
      ∧ ((area = false ∧ 4096 ≤ idx.val) ∨ s.flag ONX_STAT.READY = false → t.flag ONX_RDST.DONE = true ∧ t.flag HST_ISRC.ONX = true
          ∧ t.get ONX_RDST.RESULT = (if area = false ∧ 4096 ≤ idx.val then 2 else 3))
      ∧ (¬(area = false ∧ 4096 ≤ idx.val) → s.flag ONX_STAT.READY = true → t.flag ONX_RDST.DONE = false ∧ t.onx.copy = some (area, idx.val))
      ∧ RegsKeptBut [ONX_RDSEL, ONX_RDST, HST_ISRC] s t ∧ MemKept s t))
  ∧ (∀ (s : State) (area : Bool) (i : Nat), s.up = true → s.onxUp = true → s.onx.copy = some (area, i) →
      (s.onx.writing.isSome = true → Completes .onyxCopyComplete s (fun t => t.onx = s.onx ∧ AllKept s t))
      ∧ (s.onx.writing = none → Completes .onyxCopyComplete s (fun t =>
        (∀ j : Fin 32, t.reg (ONX_RD j) = s.mramAt (slotAddr (if area then 4096 + i else i) + j))
        ∧ t.get ONX_RDST.RESULT = (if s.slotValid (if area then 4096 + i else i) then 0 else 1) ∧ t.flag ONX_RDST.DONE = true
        ∧ t.flag HST_ISRC.ONX = true ∧ t.onx.copy = none
        ∧ RegsKeptBut ([ONX_RDST, HST_ISRC, SYS_ICHK2, ONX_LOST] ++ (List.range 32).map ONX_RD) s t ∧ MemKept s t)))

/-- The challenge, the answer to it, and the clear of the recorder (R434, R435, R473). -/
def Obligations.AuthorisedClearing : Prop :=
  (∀ (s : State) (w : Word), s.up = true → Completes (.onxChallengeRequest w) s (fun t =>
      (s.onx.lockAt.isSome = true → t.get ONX_CRES.RESULT = 4 ∧ RegsKeptBut [ONX_CRES] s t)
      ∧ (s.onx.lockAt = none → t.onx.chal = none ∧ t.onx.chalReq = some s.t.run ∧ RegsKept s t) ∧ MemKept s t))
  ∧ (∀ s : State, s.up = true → s.alive 24 = true → s.onx.chalReq.isSome = true → Completes .onxChallengeReady s (fun t =>
      t.onx.chal = some s.t.run ∧ t.onx.chalReq = none ∧ t.reg (ONX_CHAL 6) = W ((s.reg ONX_SEQ).toNat % 2 ^ 32)
      ∧ t.reg (ONX_CHAL 7) = W ((s.reg ONX_PCC).toNat % 2 ^ 32) ∧ RegsKeptBut ((List.range 8).map ONX_CHAL) s t ∧ MemKept s t))
  ∧ (∀ s : State, s.up = true → Completes .onxClearCommand s (fun t => t.onx.clrCmd = true ∧ AllKept s t)
      ∧ (∀ b, s.onx.chal = some b → Completes .onxChallengeLapse s (fun t =>
          t.onx.chal = (if 64 * 1000000 ≤ s.since b then none else some b) ∧ AllKept s t))
      ∧ (∀ b, s.onx.lockAt = some b → Completes .onxLockoutEnd s (fun t =>
          t.onx.lockAt = (if 600 * 1000000 ≤ s.since b then none else some b) ∧ AllKept s t)))
  ∧ (∀ s : State, s.up = true → s.onxUp = true → (s.onx.clrCmd = false ∨ s.t.usec ≠ 0) →
      Completes .onyxClearStart s (fun t => t.onx = s.onx ∧ AllKept s t))
  ∧ (∀ s : State, s.up = true → s.onxUp = true → s.onx.clrCmd = true → s.t.usec = 0 →
      ((s.flag ONX_STAT.READY = false ∨ s.onx.clear.isSome = true) → Completes .onyxClearStart s (fun t => t.get ONX_CRES.RESULT = 5
          ∧ t.get ONX_CRES.TRIES = (s.get ONX_CRES.TRIES + 1) % 2 ^ 32 ∧ t.onx.clrCmd = false ∧ RegsKeptBut [ONX_CRES] s t ∧ MemKept s t))
      ∧ (s.flag ONX_STAT.READY = true → s.onx.clear = none →
          ((s.onx.lockAt.isSome = true ∨ s.recKey = none ∨ s.onx.chal = none ∨ s.roundsPast s.onx.chal 64 = true) →
            Completes .onyxClearStart s (fun t =>
              t.get ONX_CRES.RESULT = (if s.onx.lockAt.isSome then 4 else if s.recKey = none then 3 else 1)
              ∧ t.get ONX_CRES.TRIES = (s.get ONX_CRES.TRIES + 1) % 2 ^ 32 ∧ RegsKeptBut [ONX_CRES] s t ∧ MemKept s t))
          ∧ (∀ key, s.onx.lockAt = none → s.recKey = some key → s.onx.chal.isSome = true → s.roundsPast s.onx.chal 64 = false →
              (s.regBytes (ONX_RESP 0) ≠ hmacSha256 key (s.regBytes (ONX_CHAL 0)) → Completes .onyxClearStart s (fun t =>
                t.get ONX_CRES.RESULT = 2 ∧ t.get ONX_CRES.TRIES = (s.get ONX_CRES.TRIES + 1) % 2 ^ 32 ∧ t.onx.chal = none
                ∧ t.onx.lockAt.isSome = decide (3 ≤ s.onx.badRun + 1) ∧ RegsKeptBut [ONX_CRES] s t ∧ MemKept s t))
              ∧ (s.regBytes (ONX_RESP 0) = hmacSha256 key (s.regBytes (ONX_CHAL 0)) → Completes .onyxClearStart s (fun t =>
                t.get ONX_CRES.RESULT = 0 ∧ t.flag ONX_STAT.CLRRUN = true ∧ t.onx.clear.isSome = true ∧ t.onx.chal = none ∧ SramKept s t
                ∧ (s.onx.writing = none → s.wroteNow = false → t.reg ONX_SEQ = s.reg ONX_SEQ + 1
                    ∧ MramKeptBut [slotAddr (slotOf (s.reg ONX_SEQ) (s.reg ONX_CSEQ))] s t)
                ∧ (s.onx.writing.isSome = true → t.reg ONX_SEQ = s.reg ONX_SEQ ∧ MramKept s t)
                ∧ RegsKeptBut [ONX_CRES, ONX_STAT, ONX_SEQ, ONX_LOST, SYS_ICHK1, SYS_ICHK2, HST_ISRC] s t)))))
  ∧ (∀ (s : State) (c : Clear), s.up = true → s.onxUp = true → s.onx.clear = some c → s.onx.writing = none → s.wroteNow = false →
      (c.step = 2 → s.t.run < c.at_ + 20480 → Completes .onyxClearComplete s (fun t =>
        (∀ i, c.wiped ≤ i → i < s.t.run + 1 - c.at_ → i < 20480 → i ≠ c.slotX → i ≠ 0 → t.mramAt (slotAddr i) = 0)
        ∧ t.onx.clear = some { c with wiped := min 20480 (s.t.run + 1 - c.at_) } ∧ RegsKept s t ∧ SramKept s t))
      ∧ (c.step = 2 → c.at_ + 20480 ≤ s.t.run → Completes .onyxClearComplete s (fun t => t.reg ONX_CSEQ = c.seqX + 1
        ∧ t.reg ONX_SEQ = c.seqX + 1 + 1 ∧ t.get ONX_STAT.NPERM = 1 ∧ t.onx.clear = some { c with step := 3, wiped := 20480 }
        ∧ (t.onx.writing.map (·.slot)) = some 0
        ∧ (∀ i, c.wiped ≤ i → i < 20480 → i ≠ c.slotX → i ≠ 0 → t.mramAt (slotAddr i) = 0)
        ∧ (∀ a, a % 32 ≠ 0 ∨ inRecords a = false → t.mramAt a = s.mramAt a ∧ t.mramPoison a = s.mramPoison a)
        ∧ SramKept s t ∧ RegsKeptBut [ONX_SEQ, ONX_CSEQ, ONX_STAT, ONX_LOST, SYS_ICHK1, SYS_ICHK2, HST_ISRC] s t))
      ∧ (c.step = 4 → Completes .onyxClearComplete s (fun t => t.flag ONX_STAT.CLRRUN = false ∧ t.onx.clear = none
        ∧ t.flag HST_ISRC.ONX = true ∧ (c.slotX ≠ 0 → t.mramAt (slotAddr c.slotX) = 0) ∧ (c.slotX = 0 → MramKept s t)
        ∧ MramKeptBut [slotAddr c.slotX] s t ∧ SramKept s t ∧ RegsKeptBut [ONX_STAT, HST_ISRC] s t)))

/-- IMG_CMD's commands, the words streamed in, the checks, and a commit (R457, R458, R459, R460, R461, R462, R475). -/
def Obligations.ImageSessionsAndCommits : Prop :=
  ∀ s : State, s.up = true → s.imgUp = true →
    (∀ busy, busy = (s.flag IMG_STAT.SESSION || s.img.commit || s.imgOccupied) →
      Completes .imgOpen s (fun t => t.get IMG_CRES.RESULT = (if busy then 1 else 0)
        ∧ (busy = false → t.flag IMG_STAT.SESSION = true ∧ t.img.target = s.openTarget
            ∧ t.flag IMG_STAT.VERIFIED = false ∧ t.flag IMG_STAT.OVR = false ∧ t.flag IMG_STAT.LONG = false ∧ t.get IMG_WCNT.CNT = 0
            ∧ t.get IMG_WCNT.FREE = 64 ∧ t.mramAt (imgBase s.openTarget) = 0 ∧ MramKeptBut [imgBase s.openTarget] s t)
        ∧ (busy = true → MramKept s t) ∧ SramKept s t ∧ RegsKeptBut imgRegs s t))
    ∧ (∀ w : Word, s.flag IMG_STAT.SESSION = true → Completes (.imgWdataWrite w) s (fun t => MemKept s t ∧ RegsKeptBut [IMG_STAT, IMG_WCNT] s t
        ∧ (imgSize ≤ s.get IMG_WCNT.CNT → t.flag IMG_STAT.LONG = true)
        ∧ (s.get IMG_WCNT.CNT < 64 → t.img.staged = s.img.staged ++ [w] ∧ t.get IMG_WCNT.CNT = s.get IMG_WCNT.CNT + 1)
        ∧ (64 ≤ s.get IMG_WCNT.CNT → s.get IMG_WCNT.CNT < imgSize → s.img.wq.length < 64 →
            t.img.wq = s.img.wq ++ [(s.get IMG_WCNT.CNT, w)] ∧ t.get IMG_WCNT.CNT = s.get IMG_WCNT.CNT + 1)
        ∧ (64 ≤ s.get IMG_WCNT.CNT → s.get IMG_WCNT.CNT < imgSize → 64 ≤ s.img.wq.length →
            t.flag IMG_STAT.OVR = true ∧ t.img.wq = s.img.wq ∧ t.get IMG_WCNT.CNT = s.get IMG_WCNT.CNT)))
    ∧ ((s.img.verify.isSome || s.img.commit) = true →
        Completes .imgVerify s (fun t => t.get IMG_CRES.RESULT = 1 ∧ t.img = s.img ∧ RegsKeptBut imgRegs s t ∧ MemKept s t))
    ∧ ((s.img.verify.isSome || s.img.commit) = false → Completes .imgVerify s (fun t => t.img.verify = some s.t.run
        ∧ t.flag IMG_CRES.RUN = true ∧ t.flag IMG_STAT.VERIFIED = false ∧ MemKept s t ∧ RegsKeptBut imgRegs s t))
    ∧ (s.img.wq ≠ [] → Completes (.imgVerifyComplete) s (fun t => t.img = s.img ∧ AllKept s t))
    ∧ (s.img.verify.isSome = true → s.img.wq = [] → Completes .imgVerifyComplete s (fun t => t.img.verify = none
        ∧ t.get IMG_CRES.RESULT = s.verifyResult.1
        ∧ t.flag IMG_STAT.VERIFIED = (s.verifyResult.1 == 0) ∧ t.flag IMG_CRES.RUN = false
        ∧ (s.flag IMG_STAT.SESSION = false → t.get IMG_CRES.RESULT = 2)
        ∧ (s.flag IMG_STAT.SESSION = true → (s.get IMG_WCNT.CNT ≠ imgSize ∨ s.flag IMG_STAT.LONG = true) → t.get IMG_CRES.RESULT = 3)
        ∧ RegsKeptBut ([BL_ERR, SYS_ICHK2, ONX_LOST] ++ imgRegs) s t ∧ MemKept s t))
    ∧ Completes .imgAbort s (fun t => t.get IMG_CRES.RESULT = (if s.flag IMG_STAT.SESSION = false then 2 else if s.img.commit then 1 else 0)
        ∧ (t.get IMG_CRES.RESULT = 0 → t.flag IMG_STAT.SESSION = false ∧ t.img.wq = [] ∧ t.img.staged = [] ∧ t.img.verify = none)
        ∧ (t.get IMG_CRES.RESULT ≠ 0 → t.flag IMG_STAT.SESSION = s.flag IMG_STAT.SESSION) ∧ RegsKeptBut imgRegs s t ∧ MemKept s t)
    ∧ Completes .imgCommit s (fun t => t.img.commit = true ∧ MemKept s t
        ∧ (s.img.commit = true → t.get IMG_CRES.RESULT = 1 ∧ RegsKeptBut imgRegs s t) ∧ (s.img.commit = false → RegsKept s t))
    ∧ ((s.img.commit = false ∨ s.t.usec ≠ 0) → Completes .imageCommitRun s (fun t => t.img = s.img ∧ AllKept s t))
    ∧ (s.img.commit = true → s.get IMG_CRES.STEP = 0 → s.t.usec = 0 → s.life.warn = false → s.flag SYS_DBG.HALTED = false →
        ((s.flag IMG_STAT.VERIFIED = false ∨ s.imgOccupied = true) → Completes .imageCommitRun s (fun t => t.img.commit = false
          ∧ t.get IMG_CRES.RESULT = (if s.flag IMG_STAT.VERIFIED then 1 else 12) ∧ RegsKeptBut imgRegs s t ∧ MemKept s t))
        ∧ (s.flag IMG_STAT.VERIFIED = true → s.imgOccupied = false → s.img.staged.length = 64 → Completes .imageCommitRun s (fun t =>
          t.get IMG_CRES.STEP = 1 ∧ t.flag IMG_CRES.RUN = true ∧ t.img.cmtAt = s.t.run ∧ t.img.staged.length = 64
          ∧ t.img.staged.getD 0 0 = imgMagic
          ∧ t.img.staged.getD 1 0 = W (max (s.reg IMG_SEQA).toNat (s.reg IMG_SEQB).toNat + 1)
          ∧ t.img.staged.getD 4 0 = s.ts0 ∧ t.img.staged.getD 5 0 = s.ts1 ∧ t.img.staged.getD 63 0 = headCheck t.img.staged
          ∧ (∀ i, i < 63 → i ≠ 0 → i ≠ 1 → i ≠ 4 → i ≠ 5 → t.img.staged.getD i 0 = s.img.staged.getD i 0)
          ∧ MemKept s t ∧ RegsKeptBut [IMG_CRES] s t)))
    ∧ (∀ (mm : Bool) (n : Nat), s.img.commit = true → s.get IMG_CRES.STEP = 1 → s.imgElapsed = n → n < 63 → s.img.staged.length = 64 →
        Completes (.imageCommitComplete mm) s (fun t => t.img = s.img ∧ RegsKept s t ∧ SramKept s t
          ∧ (∀ i, i ≤ n → t.bankAt s.img.target (1 + i) = s.img.staged.getD (1 + i) 0)
          ∧ MramKeptBut ((List.range (n + 1)).map (imgBase s.img.target + 1 + ·)) s t))
    ∧ (∀ mm : Bool, s.img.commit = true → s.get IMG_CRES.STEP = 3 → 129 ≤ s.imgElapsed →
        ((mm = true ∨ s.bankHead s.img.target ≠ s.img.staged ∨ (s.bankPoison s.img.target 0 64).isSome = true) →
          Completes (.imageCommitComplete mm) s (fun t => t.get IMG_CRES.RESULT = 5
            ∧ t.img.commit = false ∧ t.bankAt s.img.target 0 = 0 ∧ MramKeptBut [imgBase s.img.target] s t ∧ SramKept s t
            ∧ RegsKeptBut ([SYS_ICHK2, ONX_LOST] ++ imgRegs) s t))
        ∧ (mm = false → s.bankHead s.img.target = s.img.staged →
            s.bankPoison s.img.target 0 64 = none → Completes (.imageCommitComplete mm) s (fun t => t.get IMG_CRES.RESULT = 0
              ∧ t.img.commit = false ∧ t.flag IMG_STAT.SESSION = false ∧ t.flag IMG_STAT.VERIFIED = false
              ∧ t.flag IMG_STAT.APPLYPEND = true ∧ t.img.pendBank = s.img.target
              ∧ t.img.applyAt = (if s.flag IMG_CFG.MANUAL then none else some (s.t.round + 2)) ∧ RegsKeptBut imgRegs s t ∧ MemKept s t)))
    ∧ Completes .imgApply s (fun t => t.get IMG_CRES.RESULT = (if s.replays then 15 else if s.flag IMG_STAT.APPLYPEND = false then 14
          else if s.flag IMG_STAT.PREP then 1
          else if s.reg IMG_ATGT ≠ 0 ∧ (s.reg IMG_ATGT).toNat < s.t.round.toNat + 2 then 13 else 0)
        ∧ (t.get IMG_CRES.RESULT = 0 → s.flag IMG_CFG.MANUAL = true →
            t.img.applyAt = some (if s.reg IMG_ATGT = 0 then s.t.round + 2 else s.reg IMG_ATGT))
        ∧ (t.get IMG_CRES.RESULT ≠ 0 → t.img.applyAt = s.img.applyAt) ∧ RegsKeptBut imgRegs s t ∧ MemKept s t)

/-- Preparation and apply of an image, SAFECELL's first result, and the key store (R455, R463, R464, R465, R467, R470, R473,
R474). -/
def Obligations.ImagePreparesAndApplies : Prop :=
  (∀ (s : State) (r : Word), s.up = true → s.imgUp = true → s.flag IMG_STAT.PREP = false → s.t.usec = 0 → s.img.startup = none →
      s.img.resync = false → s.flag IMG_STAT.APPLYPEND = true → s.replays = false → s.img.applyAt = some r →
      r.toNat ≤ s.t.round.toNat + 1 → s.mramPoison (imgBase s.img.pendBank + 0o1000) = false →
      Completes .imagePreparation s (fun t => t.flag IMG_STAT.PREP = true
        ∧ t.img.prep = some ⟨s.img.pendBank, s.t.run, 1, 1, s.keepTables s.img.pendBank false, [], [], false⟩
        ∧ RegsKeptBut [IMG_STAT] s t ∧ MemKept s t))
  ∧ (∀ (s : State) (p : Prep) (n : Nat), s.up = true → s.imgUp = true → s.flag IMG_STAT.PREP = true → s.img.prep = some p → 1 ≤ p.step → p.step ≤ 3 →
      prepBegin p.step ≤ s.since p.at_ → s.since p.at_ < prepBegin (p.step + 1) → n = s.since p.at_ + 1 - prepBegin p.step →
      s.prepPoison p p.done_ n = none → Completes .imagePreparation s (fun t => t.img.prep = some { p with done_ := n } ∧ RegsKept s t ∧ MramKept s t
        ∧ (p.step = 1 ∨ (p.step = 3 ∧ p.keep = true) → SramKept s t)
        ∧ (p.step = 2 → (∀ o, p.done_ ≤ o → o < n → t.sramAt (0o1000000 + o) = s.bankAt p.bank (0o1000000 + o))
            ∧ (∀ a, a < 0o1000000 → t.sramAt a = s.sramAt a))
        ∧ (p.step = 3 → p.keep = false → (∀ o, p.done_ ≤ o → o < n → o < 8192 → t.sramAt (0o100000 + o) = s.bankAt p.bank (0o10000 + o))
            ∧ (∀ i w, w < 2 → i < 4096 → p.done_ ≤ 29952 + 2 * i + w → 29952 + 2 * i + w < n → t.sramAt (rxAddr i + w) = s.bankRx p.bank i w)
            ∧ (∀ a, 0o1000000 ≤ a → t.sramAt a = s.sramAt a))))
  ∧ (∀ (s : State) (p : Prep), s.up = true → s.imgUp = true → s.flag IMG_STAT.PREP = true → s.img.prep = some p → p.step = 2 → p.done_ = 262144 →
      s.since p.at_ = 265728 →
      (latticeFault (s.bankAt p.bank) = none → (p.keep = true ∨ s.mramPoison (imgBase p.bank + 0o10000) = false) →
          Completes .imagePreparation s (fun t => t.flag BL_STAT.PEND = true ∧ t.bl.shadow = some (parseLattice (s.bankAt p.bank))
            ∧ (t.img.prep.map (fun q => (q.bank, q.step, q.done_, q.cfg))) = some (p.bank, 3, 1, parseLattice (s.bankAt p.bank)) ∧ MramKept s t))
      ∧ (∀ e, latticeFault (s.bankAt p.bank) = some e → p.startup = false → s.img.resync = false → Completes .imagePreparation s (fun t =>
          t.get IMG_CRES.RESULT = 15
          ∧ t.flag IMG_STAT.PREP = false ∧ t.flag IMG_STAT.APPLYPEND = false ∧ t.flag BL_STAT.PEND = false ∧ t.img.prep = none
          ∧ t.mramAt (imgBase p.bank) = 0 ∧ MramKeptBut [imgBase p.bank] s t)))
  ∧ (∀ (s : State) (p : Prep) (parity : Bool), s.up = true → s.imgUp = true → s.img.prep = some p → p.step = 4 → p.startup = false → p.bank ≤ 1 →
      ((s.t.usec ≠ s.lag ∨ s.t.phase ≠ 0) → Completes (.imageApply parity) s (fun t => t.img = s.img ∧ AllKept s t))
      ∧ (s.t.usec = s.lag → s.t.phase = 0 → Completes (.imageApply parity) s (fun t =>
        t.reg IMG_RUNDIG = digestLow (s.bankHead p.bank) ∧ t.reg IMG_RUNSEQ = s.bankAt p.bank 1
        ∧ t.get IMG_STAT.RUNBANK = p.bank ∧ t.flag IMG_STAT.RUNNING = true ∧ t.flag IMG_STAT.PREP = false ∧ t.flag BL_STAT.RUN = true
        ∧ t.img.prep = none ∧ (∀ i, i < 4096 → wbit (t.sramAt (rxAddr i + 2)) 33 = true) ∧ t.flag HST_ISRC.IMG = true ∧ MramKept s t)))
  ∧ (∀ (s : State) (m at_ c : Nat), s.up = true → s.img.safeWait = some (m, at_) → s.img.safeCell = some c → m < 3 →
      ((s.t.run < at_ ∨ s.t.phase ≠ 0) → Completes .safecellFirstResult s (fun t => t.img = s.img ∧ AllKept s t))
      ∧ (at_ ≤ s.t.run → s.t.phase = 0 → Completes .safecellFirstResult s (fun t =>
      t.starting = false ∧ t.mode = (if lowestCause (setBit s.life.conds 5 (s.outO c)) = 0 then m else 3)
      ∧ t.get SYS_MODE.SAFECAUSE = lowestCause (setBit s.life.conds 5 (s.outO c)) ∧ t.img.safeWait = none ∧ MramKept s t)))
  ∧ (∀ s : State, s.up = true → s.imgUp = true →
      (∀ w : Word, Completes (.imgKeyChallengeRequest w) s (fun t => (s.img.lockAt.isSome = true → t.get IMG_KRES.RESULT = 4 ∧ RegsKeptBut [IMG_KRES] s t)
          ∧ (s.img.lockAt = none → t.img.chal = none ∧ t.img.chalReq = some s.t.run ∧ RegsKept s t) ∧ MemKept s t))
      ∧ (s.img.chalReq.isSome = true → Completes .imgKeyChallengeReady s (fun t => t.img.chal = some s.t.run ∧ t.img.chalReq = none
          ∧ t.reg (IMG_KCHAL 6) = W (s.keySeq.toNat % 2 ^ 32) ∧ t.reg (IMG_KCHAL 7) = W ((s.reg ONX_PCC).toNat % 2 ^ 32)
          ∧ RegsKeptBut ((List.range 8).map IMG_KCHAL) s t ∧ MemKept s t))
      ∧ Completes .keySet s (fun t => t.img.keyCmd = 1 ∧ AllKept s t) ∧ Completes .keyRemove s (fun t => t.img.keyCmd = 2 ∧ AllKept s t)
      ∧ (∀ b, s.img.chal = some b → Completes .imgKeyChallengeLapse s (fun t =>
          t.img.chal = (if 64 * 1000000 ≤ s.since b then none else some b) ∧ AllKept s t))
      ∧ (∀ b, s.img.lockAt = some b → Completes .imgKeyLockoutEnd s (fun t =>
          t.img.lockAt = (if 600 * 1000000 ≤ s.since b then none else some b) ∧ AllKept s t))
      ∧ ((s.img.keyCmd = 0 ∨ s.t.usec ≠ 0) → Completes .keyCommandRun s (fun t => t.img = s.img ∧ AllKept s t)))
  ∧ (∀ s : State, s.up = true → s.imgUp = true → s.t.usec = 0 → (s.img.keyCmd = 1 ∨ s.img.keyCmd = 2) →
      (s.keyBusy = true → Completes .keyCommandRun s (fun t => KeyEnds 5 s t ∧ MemKept s t))
      ∧ (s.keyBusy = false → s.img.lockAt.isSome = true → Completes .keyCommandRun s (fun t => KeyEnds 4 s t ∧ MemKept s t))
      ∧ (s.keyBusy = false → s.img.lockAt = none →
          (s.img.keyCmd = 1 → (∀ i : Fin 8, s.reg (IMG_KNEW i) = 0) → Completes .keyCommandRun s (fun t => KeyEnds 6 s t ∧ MemKept s t))
          ∧ (s.img.keyCmd = 1 → (∃ i : Fin 8, s.reg (IMG_KNEW i) ≠ 0) → s.recKey = none → Completes .keyCommandRun s (fun t =>
              KeyEnds (if s.mode = 2 then 0 else 3) s t ∧ (s.mode = 2 → KeyStored s t) ∧ (s.mode ≠ 2 → MemKept s t)))
          ∧ (s.img.keyCmd = 2 → s.recKey = none → Completes .keyCommandRun s (fun t => KeyEnds 6 s t ∧ MemKept s t))
          ∧ (∀ key, s.recKey = some key → (s.img.keyCmd = 1 → ∃ i : Fin 8, s.reg (IMG_KNEW i) ≠ 0) →
              ((s.img.chal = none ∨ s.roundsPast s.img.chal 64 = true) → Completes .keyCommandRun s (fun t => KeyEnds 1 s t ∧ MemKept s t))
              ∧ (s.img.chal.isSome = true → s.roundsPast s.img.chal 64 = false → s.regBytes (IMG_KRESP 0) ≠ hmacSha256 key (s.regBytes (IMG_KCHAL 0)
                    ++ (if s.img.keyCmd = 1 then s.regBytes (IMG_KNEW 0) else List.replicate 32 (0 : Byte))) →
                  Completes .keyCommandRun s (fun t => KeyEnds 2 s t ∧ t.img.chal = none
                    ∧ t.img.lockAt.isSome = decide (3 ≤ s.img.badRun + 1) ∧ MemKept s t))
              ∧ (s.img.chal.isSome = true → s.roundsPast s.img.chal 64 = false → s.regBytes (IMG_KRESP 0) = hmacSha256 key (s.regBytes (IMG_KCHAL 0)
                    ++ (if s.img.keyCmd = 1 then s.regBytes (IMG_KNEW 0) else List.replicate 32 (0 : Byte))) →
                  Completes .keyCommandRun s (fun t => KeyEnds 0 s t ∧ t.img.chal = none ∧ (s.img.keyCmd = 1 → KeyStored s t)
                    ∧ (s.img.keyCmd = 2 → t.mramAt (keyBase 0) = 0 ∧ t.mramAt (keyBase 1) = 0 ∧ t.flag ONX_STAT.KEY = false
                        ∧ MramKeptBut [keyBase 0, keyBase 1] s t))))))

/-- Compatibility mode: legacy reads, the select, legacy writes and their queue (R504, R506, R507, R508, R509, R513, R514,
R517, R521). -/
def Obligations.QuosterTransactions : Prop :=
  (∀ s : State, s.quoster = true →
    (∀ a : BitVec 15, a.toNat ≠ 0 → Completes (.legacyRead a 1 []) s (fun t => t.leg.out = [s.qstat, s.qstat, s.legWord a.toNat]
        ∧ (a = 1 → t.leg.out.getD 2 0 = 0x0640) ∧ (a = 2 → t.leg.out.getD 2 0 = 0x0103) ∧ (0x610 ≤ a.toNat → t.leg.out.getD 2 0 = 0)
        ∧ bit (t.get LEG_STAT.QSTAT) 15 = false ∧ bit (t.get LEG_STAT.QSTAT) 11 = false ∧ bit (t.get LEG_STAT.QSTAT) 10 = false
        ∧ t.leg.snapT = (if a = 0x10 then some (s.qtime % 65536) else s.leg.snapT) ∧ RegsKeptBut [LEG_STAT] s t ∧ MemKept s t))
    ∧ (∀ a : BitVec 15, Completes (.legacyRead a 1 [0]) s (fun t => t.leg.out = [s.qstat, s.qstat, 0xFFFF]
        ∧ (a.toNat ≠ 0 → bit (t.get LEG_STAT.QSTAT) 10 = true) ∧ RegsKeptBut [LEG_STAT] s t ∧ MemKept s t))
    ∧ Completes (.legacyCsRise none) s (fun t => t.leg = s.leg ∧ AllKept s t)
    ∧ Completes (.legacyCsRise (some 0)) s (fun t => bit (t.get LEG_STAT.QSTAT) 15 = false ∧ bit (t.get LEG_STAT.QSTAT) 11 = false
        ∧ bit (t.get LEG_STAT.QSTAT) 10 = false ∧ RegsKeptBut [LEG_STAT] s t ∧ MemKept s t)
    ∧ (∀ (a : BitVec 15) (v : BitVec 16), Completes (.legacyWrite a [v]) s (fun t => t.leg.out = [s.qstat]
        ∧ (s.leg.wq.length < 64 → t.leg.wq = s.leg.wq ++ [⟨a.toNat, v.toNat, false⟩] ∧ RegsKeptBut [LEG_STAT] s t)
        ∧ (64 ≤ s.leg.wq.length → t.leg.wq = s.leg.wq ∧ bit (t.get LEG_STAT.QSTAT) 11 = true ∧ t.get LEG_XRES.RESULT = 3
            ∧ RegsKeptBut [LEG_STAT, LEG_XRES] s t) ∧ MemKept s t))
    ∧ (∀ h l : BitVec 16, s.leg.wq.length < 64 → Completes (.legacyWrite 0x10 [h, l]) s (fun t =>
        t.leg.wq = s.leg.wq ++ [⟨0x10, h.toNat * 65536 + l.toNat, true⟩] ∧ t.leg.out = [s.qstat] ∧ RegsKeptBut [LEG_STAT] s t ∧ MemKept s t)))
  ∧ (∀ (s : State) (r : List LegWr), s.up = true →
    (∀ (a v : Nat), (a ≤ 2 ∨ (5 ≤ a ∧ a < 0x500) ∨ (0x580 ≤ a ∧ a < 0x600) ∨ 0x610 ≤ a) → s.leg.wq = ⟨a, v, false⟩ :: r →
      Completes .legacyWriteExecute s (fun t => t.leg.wq = r ∧ LegIgnored s t))
    ∧ (s.quoster = true → ∀ v : BitVec 16,
      (s.leg.wq = ⟨3, v.toNat, false⟩ :: r → Completes .legacyWriteExecute s (fun t => exec (.qmodeWrite v) s = .next t ∧ t.leg.wq = r))
      ∧ (∀ g : Fin 16, s.leg.wq = ⟨0x600 + g, v.toNat, false⟩ :: r →
          Completes .legacyWriteExecute s (fun t => exec (.qdlyWrite g v) s = .next t ∧ t.leg.wq = r))))

/-- Compatibility mode: QMODE, QCMD, QTIME, QHI, QLO and QDLY act as their native commands (R511, R515, R516, R517, R518,
R519, R520, R521). -/
def Obligations.QuosterCommandsTranslate : Prop :=
  (∀ s : State, s.quoster = true → 64 ≤ s.leg.wq.length → ∀ (v : BitVec 16) (x : Instr × LegWr),
    x ∈ [((.qmodeWrite v : Instr), (⟨3, v.toNat, false⟩ : LegWr)), (.qhiWrite 0 v, ⟨0x500, v.toNat, false⟩), (.qloWrite 0 v, ⟨0x540, v.toNat, false⟩),
      (.qdlyWrite 0 v, ⟨0x600, v.toNat, false⟩), (.qcmdHornSilence, ⟨4, 0x5000, false⟩), (.qtimeWrite (v.setWidth 32), ⟨0x10, v.toNat, true⟩)] →
    s.leg.wq.contains x.2 = false → Completes x.1 s (fun t => bit (t.get LEG_STAT.QSTAT) 11 = true ∧ t.get LEG_XRES.RESULT = 3 ∧ t.leg.wq = s.leg.wq
      ∧ RegsKeptBut [LEG_STAT, LEG_XRES] s t ∧ MemKept s t))
  ∧ (∀ (s : State) (v : BitVec 16), s.legFirst 3 v.toNat false →
      (1 < v.toNat → Completes (.qmodeWrite v) s (fun t => bit (t.get LEG_STAT.QSTAT) 9 = true ∧ LegIgnored s t))
      ∧ (∀ n replaced, v.toNat ≤ 1 → s.mode ≠ 3 → s.starting = false → s.slotFor 0 = some (n, replaced) → Completes (.qmodeWrite v) s (fun t =>
          t.reg (TIM_SLOT_W0 n) = s.t.beat + W (s.minlead 0) ∧ t.get (TIM_SLOT_W1.STATE n) = 1 ∧ t.get (TIM_SLOT_W1.ACTION n) = 0
          ∧ t.get (TIM_SLOT_W1.SCOPE n) = 0 ∧ t.get (TIM_SLOT_W1.TAG n) = 0 ∧ t.t.slotArg.getD n 0 = W (if v = 1 then 2 else 0)
          ∧ t.t.slotIss.getD n 0 = s.ownIssuer ∧ t.get TIM_LSTAT.RESULT = replaced.toNat
          ∧ bit (t.get LEG_STAT.QSTAT) 9 = false ∧ t.get LEG_XRES.RESULT = 0 ∧ t.leg.wq = s.leg.wq.tail ∧ MemKept s t
          ∧ RegsKeptBut [TIM_SLOT_W0 n, TIM_SLOT_W1 n, TIM_LSTAT, TIM_MSTAT, SYS_MODE, LEG_STAT, LEG_XRES] s t)))
  ∧ (∀ s : State, s.commands → s.alm.cmds.length < 16 → ∀ (c : Instr) (op idx val : Nat),
      ((∃ n : Fin 128, c = .qcmdAckPoint n ∧ op = 1 ∧ idx = n ∧ val = 4096 + n)
        ∨ (∃ g : Fin 16, c = .qcmdAckGroup g ∧ op = 2 ∧ idx = g ∧ val = 8192 + g) ∨ (c = .qcmdAckAll ∧ op = 8 ∧ idx = 0 ∧ val = 12288)
        ∨ (∃ g : Fin 16, c = .qcmdResetFirstOut g ∧ op = 5 ∧ idx = g ∧ val = 16384 + g)) → s.legFirst 4 val false →
      Completes c s (fun t => t.alm.cmds = s.alm.cmds ++ [⟨almWord op 0 idx, false, 4, s.alm.cmdNo + 1, 0, 0⟩]
          ∧ t.flag ALM_CRES.PEND = true ∧ t.get LEG_XRES.RESULT = 0 ∧ t.leg.wq = s.leg.wq.tail ∧ RegsKeptBut [ALM_CRES, LEG_XRES] s t ∧ MemKept s t))
  ∧ (∀ s : State, (s.replays = false → s.legFirst 4 0x5000 false → Completes .qcmdHornSilence s (fun t =>
          t.get (BL_HSIG.SIG 1) = setBit (s.get (BL_HSIG.SIG 1)) 31 true ∧ t.leg.horn = some s.t.run ∧ t.get LEG_XRES.RESULT = 0
          ∧ t.leg.wq = s.leg.wq.tail ∧ RegsKeptBut [BL_HSIG 1, LEG_XRES] s t ∧ MemKept s t))
    ∧ (∀ v : BitVec 16, (v.toNat / 4096 = 0 ∨ 5 < v.toNat / 4096) → s.legFirst 4 v.toNat false →
        Completes (.qcmdInvalid v) s (fun t => bit (t.get LEG_STAT.QSTAT) 9 = true ∧ LegIgnored s t)))
  ∧ (∀ (s : State) (secs : BitVec 32), s.legFirst 0x10 secs.toNat true → s.alive 25 = true → legEpoch ≤ secs.toNat →
      Completes (.qtimeWrite secs) s (fun t =>
        (∃ u, exec .clkSet ((s.setReg CLK_SETD (dateWord ((secs.toNat - legEpoch) / 86400))).setReg CLK_SETT
              (timeWord ((secs.toNat - legEpoch) % 86400 / 3600) ((secs.toNat - legEpoch) % 3600 / 60) ((secs.toNat - legEpoch) % 60) 0)) = .next u
            ∧ (s.up = true → t.reg CLK_DATE = u.reg CLK_DATE ∧ t.reg CLK_TIME = u.reg CLK_TIME ∧ t.get CLK_CRES.RESULT = u.get CLK_CRES.RESULT))
        ∧ (s.clkSynced = true → t.get CLK_CRES.RESULT ≠ 0)
        ∧ (t.get CLK_CRES.RESULT = 0 → t.get LEG_XRES.RESULT = 0 ∧ t.reg LEG_STAT = s.reg LEG_STAT)
        ∧ (t.get CLK_CRES.RESULT ≠ 0 → t.get LEG_XRES.RESULT = 1 ∧ bit (t.get LEG_STAT.QSTAT) 9 = true ∧ bit (t.get LEG_STAT.QSTAT) 11 = true)
        ∧ RegsKeptBut [CLK_DATE, CLK_TIME, CLK_STAT, CLK_CRES, HST_ISRC, LEG_STAT, LEG_XRES] s t ∧ MemKept s t))
  ∧ (∀ (s : State) (c : Fin 64) (v : BitVec 16) (x : Instr × Nat × Nat), x ∈ [(.qhiWrite c v, 4, 0x500), (.qloWrite c v, 5, 0x540)] →
      s.legFirst (x.2.2 + c) v.toNat false → s.rewritable (commitAddr c) → s.rewritable (commitAddr c + x.2.1) →
      (s.tblLock = false → s.flag IMG_STAT.PREP = false → s.replays = false → s.alive (c / 8) = true → Completes x.1 s (fun t =>
          wbit (t.sramAt (commitAddr c + x.2.1)) 35 = decide (v ≠ 0x8000)
          ∧ fld (t.sramAt (commitAddr c + x.2.1)) 34 32 = fld (s.sramAt (commitAddr c + x.2.1)) 34 32
          ∧ (v = 0x8000 → fld (t.sramAt (commitAddr c + x.2.1)) 31 0 = fld (s.sramAt (commitAddr c + x.2.1)) 31 0)
          ∧ (v ≠ 0x8000 → -(2 ^ 31) ≤ legBack (fld (s.sramAt (commitAddr c)) 20 18) v.toNat →
              legBack (fld (s.sramAt (commitAddr c)) 20 18) v.toNat < 2 ^ 31 →
              fld (t.sramAt (commitAddr c + x.2.1)) 31 0 = unsign 32 (legBack (fld (s.sramAt (commitAddr c)) 20 18) v.toNat))
          ∧ GenUp (commitAddr c) s t ∧ ⟨FI_TSYNC (c / 8), W (2 ^ (c.val % 8)), .host, 27, s.phaseNo, true, false⟩ ∈ t.mem.pend
          ∧ t.get LEG_XRES.RESULT = 0 ∧ SramKeptBut [commitAddr c, commitAddr c + x.2.1] s t ∧ MramKept s t ∧ RegsKeptBut [LEG_XRES] s t))
      ∧ ((s.tblLock = true ∨ s.flag IMG_STAT.PREP = true) → Completes x.1 s (fun t => t.get LEG_XRES.RESULT = 2
          ∧ t.get LEG_XRES.ADDR = commitAddr c + x.2.1 ∧ bit (t.get LEG_STAT.QSTAT) 11 = true ∧ RegsKeptBut [LEG_STAT, LEG_XRES] s t ∧ MemKept s t)))
  ∧ (∀ (s : State) (g : Fin 16) (v : BitVec 16), s.legFirst (0x600 + g) v.toNat false →
      (v.toNat ≤ 409 → Completes (.qdlyWrite g v) s (fun t => t.leg.dly = s.leg.dly ++ [(g.val, v.toNat, s.t.run)]
          ∧ t.get LEG_XRES.RESULT = 0 ∧ RegsKeptBut [LEG_XRES] s t ∧ MemKept s t))
      ∧ (409 < v.toNat → Completes (.qdlyWrite g v) s (fun t => t.leg.dly = s.leg.dly ∧ LegIgnored s t)))
  ∧ (∀ (s : State) (b : Nat), s.up = true → s.leg.horn = some b →
      (1000 ≤ s.since b → s.replays = false → Completes .hornSilenceEnd s (fun t =>
        t.get (BL_HSIG.SIG 1) = setBit (s.get (BL_HSIG.SIG 1)) 31 false ∧ t.leg.horn = none ∧ RegsKeptBut [BL_HSIG 1] s t ∧ MemKept s t))
      ∧ (s.since b < 1000 → Completes .hornSilenceEnd s (fun t => t.leg = s.leg ∧ AllKept s t)))
  ∧ (∀ s : State, s.up = true →
      (s.t.usec ≠ 0 → Completes .qdlyRewrite s (fun t => t.leg = s.leg ∧ AllKept s t))
      ∧ (∀ g v b : Nat, s.t.usec = 0 → s.leg.dly = [(g, v, b)] → b < s.t.run → v ≤ 409 → s.tblLock = false → s.flag IMG_STAT.PREP = false →
        s.replays = false → s.alive 20 = true →
        (∀ n ∈ s.dlyPoints g, s.rewritable (commitAddr (184 + n)) ∧ s.rewritable (commitAddr (184 + n) + 2)) →
        Completes .qdlyRewrite s (fun t => t.leg.dly = [] ∧ t.get LEG_XRES.RESULT = 0
          ∧ (∀ n ∈ s.dlyPoints g, fld (t.sramAt (commitAddr (184 + n) + 2)) 35 24 = 10 * v
              ∧ fld (t.sramAt (commitAddr (184 + n) + 2)) 23 0 = fld (s.sramAt (commitAddr (184 + n) + 2)) 23 0
              ∧ GenUp (commitAddr (184 + n)) s t)
          ∧ ⟨ALM_TSYNC, W (2 ^ 35), .host, 27, s.phaseNo, true, false⟩ ∈ t.mem.pend
          ∧ SramKeptBut ((s.dlyPoints g).flatMap (fun n => [commitAddr (184 + n), commitAddr (184 + n) + 2])) s t
          ∧ MramKept s t ∧ RegsKeptBut [LEG_XRES] s t)))

/-- The legacy bus: frames with errors, duplicates, strangers, and what each type of telegram does (R524, R526, R527, R532,
R533, R535). -/
def Obligations.LegacyBusReceives : Prop :=
  ∀ (s : State) (p : Fin 2), s.up = true → s.busOn = true →
    Completes (.legacyFrameError p) s (fun t => CountsUp (LEG_ECNT.ERR p) s t ∧ RegsKeptBut [LEG_ECNT p, LEG_PST p] s t ∧ MemKept s t)
    ∧ (∀ (fr : List Byte) (x : Nat × Instr),
        x ∈ [(1, .legacyAlarmRx p fr), (2, .legacyAckRx p fr), (3, .legacyValueRx p fr), (4, .legacyHeartbeatRx p fr), (5, .legacyTimeRx p fr)] →
        (s.ownFrame p fr = true → Completes x.2 s (fun t => t.leg = s.leg ∧ AllKept s t))
        ∧ (s.ownFrame p fr = false → telegramOk fr = false → Completes x.2 s (fun t => CountsUp (LEG_ECNT.ERR p) s t
            ∧ RegsKeptBut [LEG_ECNT p, LEG_PST p] s t ∧ MemKept s t))
        ∧ (s.legTakes p x.1 fr true → Completes x.2 s (fun t => CountsUp (LEG_ECNT.DUP p) s t ∧ t.leg.seen = s.leg.seen ∧ t.alm = s.alm
            ∧ RegsKeptBut [LEG_ECNT p, LEG_PST p] s t ∧ MemKept s t))
        ∧ (s.legTakes p x.1 fr false → s.known (frameByte fr 1) = false → Completes x.2 s (fun t => CountsUp (LEG_ECNT.STRANGER p) s t
            ∧ t.leg.seen = keepSeen ⟨s.busOf p, frameByte fr 1, frameByte fr 4, s.t.run⟩ s.leg.seen ∧ t.alm = s.alm
            ∧ RegsKeptBut [LEG_ECNT p, LEG_PST p] s t ∧ MemKept s t))
        ∧ (s.legTakes p x.1 fr false → s.known (frameByte fr 1) = true → Completes x.2 s (fun t => t.flag (LEG_PST.IDLE p) = false ∧ (t.portOf p).edgeAt = s.t.run
            ∧ t.leg.seen = keepSeen ⟨s.busOf p, frameByte fr 1, frameByte fr 4, s.t.run⟩ s.leg.seen
            ∧ (frameByte fr 1 = s.get LEG_BCFG.ADDR → frameByte fr 1 ≠ 0 → t.flag (LEG_PST.CONF p) = true)
            ∧ (x.1 ≠ 2 → t.alm = s.alm) ∧ (x.1 = 2 ∨ x.1 = 3 ∨ x.1 = 5 → SramKept s t)
            ∧ SramKeptBut rxWords s t ∧ MramKept s t ∧ RegsKeptBut [LEG_PST p] s t)))
    ∧ (∀ (fr : List Byte) (i : Nat), s.legTakes p 1 fr false → s.known (frameByte fr 1) = true → frameByte fr 5 = 3 → frameByte fr 6 ≤ 127 →
        tsLess s.ts0 s.ts1 (s.sramAt (rxAddr i + 3)) (s.sramAt (rxAddr i + 4)) = false →
        (i ∈ s.rxEntries (s.legSrc p (frameByte fr 1)) (frameByte fr 6) → Completes (.legacyAlarmRx p fr) s (fun t =>
            wbit (t.sramAt (rxAddr i + 2)) 35 = decide (frameByte fr 7 / 32 = 1 ∨ frameByte fr 7 / 32 = 2)
            ∧ t.sramAt (rxAddr i + 3) = s.ts0 ∧ t.sramAt (rxAddr i + 4) = s.ts1))
        ∧ (i ∈ s.rxEntries (s.legSrc p (frameByte fr 1)) (128 + frameByte fr 6) → Completes (.legacyAlarmRx p fr) s (fun t =>
            wbit (t.sramAt (rxAddr i + 2)) 35 = decide (frameByte fr 7 / 32 = 1 ∨ frameByte fr 7 / 32 = 3)
            ∧ t.sramAt (rxAddr i + 3) = s.ts0 ∧ t.sramAt (rxAddr i + 4) = s.ts1)))
    ∧ (∀ (fr : List Byte) (i : Nat), s.legTakes p 4 fr false → s.known (frameByte fr 1) = true →
        i ∈ s.srcEntries (s.legSrc p (frameByte fr 1)) → Completes (.legacyHeartbeatRx p fr) s (fun t =>
            t.sramAt (rxAddr i + 5) = s.ts0 ∧ t.sramAt (rxAddr i + 6) = s.ts1))
    ∧ (∀ fr : List Byte, s.legTakes p 2 fr false → s.known (frameByte fr 1) = true →
        (s.flag LEG_BCFG.ACKIN = true → s.drives = true → s.almRuns = true → s.replays = false → (frameByte fr 2 = 0 ∨ frameByte fr 2 = s.get LEG_BCFG.ADDR) →
          s.alm.cmds.length < 16 → Completes (.legacyAckRx p fr) s (fun t => t.alm.cmds = s.alm.cmds
            ++ (if frameByte fr 6 = 1 then [⟨almWord 1 0 (frameByte fr 7), false, 2, 0, 0, 0⟩]
              else if frameByte fr 6 = 2 then [⟨almWord 2 0 (frameByte fr 7), false, 2, 0, 0, 0⟩]
              else if frameByte fr 6 = 3 then [⟨almWord 8 0 0, false, 2, 0, 0, 0⟩] else [])))
        ∧ (s.flag LEG_BCFG.ACKIN = false ∨ s.drives = false ∨ (frameByte fr 2 ≠ 0 ∧ frameByte fr 2 ≠ s.get LEG_BCFG.ADDR) →
          Completes (.legacyAckRx p fr) s (fun t => t.alm = s.alm)))

/-- The legacy bus: telegrams formed, sent, deferred, collided and dropped, and the test of a stuck line (R523, R525, R528,
R529, R530, R531, R535). -/
def Obligations.LegacyBusSends : Prop :=
  ∀ (s : State), s.up = true → s.busOn = true →
    (∀ (w : Word) (b : Nat), s.alm.chg = [(w, b)] → b < s.t.run → s.legTx = true → Completes .legacyAlarmForm s (fun t =>
        FormsLeg s t 1 (chgClass w) (chgEntry w)
        ∧ t.alm.chg = [] ∧ RegsKeptBut [LEG_PST 0, LEG_PST 1, LEG_BCNT 0, LEG_BCNT 1] s t ∧ MemKept s t))
    ∧ ((∀ x ∈ s.alm.chg, s.t.run ≤ x.2) → Completes .legacyAlarmForm s (fun t => t.alm.chg = s.alm.chg ∧ t.leg = s.leg ∧ AllKept s t))
    ∧ (s.legTx = false → Completes .legacyAlarmForm s (fun t => t.leg = s.leg ∧ AllKept s t))
    ∧ (s.legTx = false ∨ s.t.usec ≠ 750000 → Completes .legacyHeartbeatForm s (fun t => t.leg = s.leg ∧ AllKept s t)
        ∧ Completes .legacyValueForm s (fun t => t.leg = s.leg ∧ AllKept s t))
    ∧ (s.legTx = true → s.t.usec = 750000 → s.leg.formAt.get? 0 ≠ some s.t.run → Completes .legacyHeartbeatForm s (fun t =>
        FormsLeg s t 4 3 [s.qmode, min 255 (s.legCount [1, 3]), min 255 (s.legCount [1, 2]), if s.drives then 0 else 1]
        ∧ RegsKeptBut [LEG_PST 0, LEG_PST 1, LEG_BCNT 0, LEG_BCNT 1] s t ∧ MemKept s t))
    ∧ (s.legTx = true → s.t.usec = 750000 → s.leg.formAt.get? 1 ≠ some s.t.run → s.get LEG_BCFG.VPER ≠ 0 →
        s.t.round.toNat % s.get LEG_BCFG.VPER = 0 → (∀ p : Fin 2, (s.portOf p).q.length ≤ 18) → Completes .legacyValueForm s (fun t =>
        t.leg.seq = (s.leg.heard.getD s.leg.seq + 6) % 256 ∧ (∀ p : Fin 2, (t.portOf p).q.length = (s.portOf p).q.length + 6
          ∧ t.get (LEG_PST.QD p) = (s.portOf p).q.length + 6) ∧ RegsKeptBut [LEG_PST 0, LEG_PST 1, LEG_BCNT 0, LEG_BCNT 1] s t ∧ MemKept s t))
    ∧ (∀ p : Fin 2,
      (∀ (h : LegTx) (r : List LegTx), (s.portOf p).q = h :: r → s.lineIdle p = true → s.txEnabled p = true →
        (s.startDue p h = true → Completes (.legacyTransmitStart p) s (fun t =>
          t.portOf p = { s.portOf p with sending := true, txAt := s.t.run, edgeAt := s.t.run } ∧ t.flag (LEG_PST.IDLE p) = false
          ∧ RegsKeptBut [LEG_PST p] s t ∧ MemKept s t))
        ∧ (s.startDue p h = false → Completes (.legacyTransmitStart p) s (fun t => t.leg = s.leg ∧ AllKept s t)))
      ∧ ((s.portOf p).q = [] ∨ s.lineIdle p = false ∨ s.txEnabled p = false →
          Completes (.legacyTransmitStart p) s (fun t => t.leg = s.leg ∧ AllKept s t))
      ∧ ((s.portOf p).sending = false → Completes (.legacyStartDefer p) s (fun t =>
          t.portOf p = { s.portOf p with busy := true, edgeAt := s.t.run } ∧ t.flag (LEG_PST.IDLE p) = false ∧ RegsKeptBut [LEG_PST p] s t ∧ MemKept s t))
      ∧ (∀ (h : LegTx) (r : List LegTx), (s.portOf p).sending = true → (s.portOf p).q = h :: r →
          Completes (.legacyCollision p) s (fun t => CountsUp (LEG_ECNT.COLL p) s t ∧ t.flag (LEG_PST.IDLE p) = false ∧ (t.portOf p).sending = false
            ∧ (h.cls = 0 ∨ h.coll < 15 → (t.portOf p).q = { h with coll := h.coll + 1, w := min (wMax h.cls) (2 * (if h.w = 0 then wInit h.cls else h.w)) } :: r
                ∧ t.reg (LEG_BCNT p) = s.reg (LEG_BCNT p))
            ∧ (h.cls ≠ 0 ∧ 15 ≤ h.coll → (t.portOf p).q = r ∧ CountsUp (LEG_BCNT.DROP p) s t)
            ∧ RegsKeptBut [LEG_ECNT p, LEG_PST p, LEG_BCNT p] s t ∧ MemKept s t)
          ∧ (s.txBeats h ≤ s.since (s.portOf p).txAt → Completes (.legacyTransmitEnd p) s (fun t => CountsUp (LEG_BCNT.SENT p) s t
            ∧ t.get (LEG_PST.SEQ p) = (h.bytes.getD 3 0).toNat
            ∧ t.portOf p = { s.portOf p with q := r.map (fun y => { y with w := 0 }), sending := false, edgeAt := s.t.run }
            ∧ RegsKeptBut [LEG_PST p, LEG_BCNT p] s t ∧ MemKept s t))
          ∧ (s.since (s.portOf p).txAt < s.txBeats h → Completes (.legacyTransmitEnd p) s (fun t => t.leg = s.leg ∧ AllKept s t)))
      ∧ (s.flag (LEG_PST.STUCK p) = false → (s.portOf p).testing = false → 100000 ≤ s.since (s.portOf p).edgeAt →
          Completes (.legacyLineStuck p) s (fun t => t.flag (LEG_PST.IDLE p) = false ∧ (t.portOf p).sending = false
          ∧ (s.txEnabled p = true → (t.portOf p).testing = true ∧ (t.portOf p).q = (s.portOf p).q ∧ RegsKeptBut [LEG_PST p] s t)
          ∧ (s.txEnabled p = false → t.flag (LEG_PST.STUCK p) = true ∧ (t.portOf p).q = (s.portOf p).q.filter (·.cls == 0)
              ∧ t.get (LEG_BCNT.DROP p) = min (2 ^ 18 - 1) (s.get (LEG_BCNT.DROP p) + ((s.portOf p).q.filter (·.cls != 0)).length)
              ∧ RegsKeptBut [LEG_PST p, LEG_BCNT p] s t) ∧ MemKept s t))
      ∧ (∀ mark : Bool, (s.portOf p).testing = true → 10000 ≤ s.since (s.portOf p).txAt → Completes (.legacyDriverTestEnd p mark) s (fun t =>
          (t.portOf p).testing = false
          ∧ (mark = true → t.flag (LEG_PST.OWN p) = true ∧ (t.portOf p).q = (s.portOf p).q)
          ∧ (mark = false → t.flag (LEG_PST.STUCK p) = true ∧ (t.portOf p).q = (s.portOf p).q.filter (·.cls == 0))
          ∧ RegsKeptBut [LEG_PST p, LEG_BCNT p] s t ∧ MemKept s t))
      ∧ (s.flag (LEG_PST.STUCK p) = true → Completes (.legacyStuckClear p) s (fun t =>
          t.flag (LEG_PST.STUCK p) = decide (s.since (s.portOf p).edgeAt < 1000000) ∧ t.leg = s.leg ∧ RegsKeptBut [LEG_PST p] s t ∧ MemKept s t)))
end

