-- ==== Sys2Proof/Laws/Bits.lean ====
section
/-! SUPPORT. What a bit field reads after a field of the same word is written. -/
namespace Sys2Proof.Machine

variable {w v hi lo hi' lo' n : Nat}

/-- A field is what is left of its upper bits after the division by its place. -/
theorem bits_eq : bits w hi lo = w / 2 ^ lo % 2 ^ (hi + 1 - lo) := by simp [bits, Nat.shiftRight_eq_div_pow]

theorem bits_lt : bits w hi lo < 2 ^ (hi + 1 - lo) := by rw [bits_eq]; exact Nat.mod_lt _ (by positivity)

/-- A word cut at its field: the part above, the field, the part below. -/
theorem word_split (h : lo ≤ hi) :
    w = w / 2 ^ (hi + 1) * 2 ^ (hi + 1) + bits w hi lo * 2 ^ lo + w % 2 ^ lo := by
  have e : (2:Nat) ^ (hi + 1) = 2 ^ lo * 2 ^ (hi + 1 - lo) := by rw [← pow_add]; congr 1; omega
  have h1 := Nat.div_add_mod w (2 ^ lo)
  have h2 := Nat.div_add_mod (w / 2 ^ lo) (2 ^ (hi + 1 - lo))
  rw [Nat.div_div_eq_div_mul, ← e] at h2
  rw [bits_eq]
  generalize hm : w / 2 ^ lo % 2 ^ (hi + 1 - lo) = m at *
  generalize hq : w / 2 ^ (hi + 1) = q at *
  generalize hr : w % 2 ^ lo = r at *
  calc w = 2 ^ lo * (w / 2 ^ lo) + r := h1.symm
    _ = 2 ^ lo * (2 ^ (hi + 1 - lo) * q + m) + r := by rw [h2]
    _ = _ := by rw [e]; ring

/-- The word after a field write. -/
theorem setBits_eq (h : lo ≤ hi) :
    setBits w hi lo v = w / 2 ^ (hi + 1) * 2 ^ (hi + 1) + v % 2 ^ (hi + 1 - lo) * 2 ^ lo + w % 2 ^ lo := by
  have e := word_split (w := w) h
  simp only [setBits, Nat.shiftLeft_eq]
  generalize bits w hi lo * 2 ^ lo = m at *
  omega

theorem field_low_lt (h : lo ≤ hi) : v % 2 ^ (hi + 1 - lo) * 2 ^ lo + w % 2 ^ lo < 2 ^ (hi + 1) := by
  have e : (2:Nat) ^ (hi + 1) = 2 ^ (hi + 1 - lo) * 2 ^ lo := by rw [← pow_add]; congr 1; omega
  have h1 : v % 2 ^ (hi + 1 - lo) + 1 ≤ 2 ^ (hi + 1 - lo) := Nat.mod_lt _ (by positivity)
  have h2 : w % 2 ^ lo < 2 ^ lo := Nat.mod_lt _ (by positivity)
  have h3 := Nat.mul_le_mul_right (2 ^ lo) h1
  rw [e]; rw [Nat.add_mul, Nat.one_mul] at h3; omega

theorem setBits_div (h : lo ≤ hi) : setBits w hi lo v / 2 ^ (hi + 1) = w / 2 ^ (hi + 1) := by
  rw [setBits_eq h, Nat.add_assoc, Nat.mul_comm, Nat.mul_add_div (by positivity), Nat.div_eq_of_lt (field_low_lt h)]
  rfl

theorem setBits_mod (h : lo ≤ hi) : setBits w hi lo v % 2 ^ lo = w % 2 ^ lo := by
  have e : (2:Nat) ^ (hi + 1) = 2 ^ (hi + 1 - lo) * 2 ^ lo := by rw [← pow_add]; congr 1; omega
  rw [setBits_eq h, e, ← Nat.mul_assoc, ← Nat.add_mul, Nat.mul_add_mod_self_right, Nat.mod_mod]

/-- A field write stays in the word. -/
theorem setBits_lt (h : lo ≤ hi) (hn : hi < n) (hw : w < 2 ^ n) : setBits w hi lo v < 2 ^ n := by
  rw [← Nat.div_lt_one_iff (by positivity)]
  have e : (2:Nat) ^ n = 2 ^ (hi + 1) * 2 ^ (n - (hi + 1)) := by rw [← pow_add]; congr 1; omega
  rw [e, ← Nat.div_div_eq_div_mul, setBits_div h, Nat.div_div_eq_div_mul, ← e, Nat.div_lt_one_iff (by positivity)]
  exact hw

/-- The field written reads the value written. -/
theorem bits_setBits_same (h : lo ≤ hi) : bits (setBits w hi lo v) hi lo = v % 2 ^ (hi + 1 - lo) := by
  have e : (2:Nat) ^ (hi + 1) = 2 ^ (hi + 1 - lo) * 2 ^ lo := by rw [← pow_add]; congr 1; omega
  rw [bits_eq, setBits_eq h, e, ← Nat.mul_assoc, ← Nat.add_mul, Nat.mul_comm _ (2 ^ lo),
    Nat.mul_add_div (by positivity), Nat.div_eq_of_lt (Nat.mod_lt _ (by positivity)), Nat.add_zero,
    Nat.mul_add_mod_self_right, Nat.mod_mod]

/-- A field above or below reads as before. -/
theorem bits_setBits_other (h : lo ≤ hi) (hd : hi' < lo ∨ hi < lo') :
    bits (setBits w hi lo v) hi' lo' = bits w hi' lo' := by
  simp only [bits_eq]
  rcases hd with hd | hd
  · by_cases hl : lo' ≤ hi'
    · have e : (2:Nat) ^ lo = 2 ^ (hi' + 1) * 2 ^ (lo - (hi' + 1)) := by rw [← pow_add]; congr 1; omega
      have e2 : (2:Nat) ^ (hi' + 1) = 2 ^ lo' * 2 ^ (hi' + 1 - lo') := by rw [← pow_add]; congr 1; omega
      have hm : ∀ x : Nat, x / 2 ^ lo' % 2 ^ (hi' + 1 - lo') = x % 2 ^ lo % 2 ^ (hi' + 1) / 2 ^ lo' := by
        intro x
        rw [e, Nat.mod_mul_right_mod, e2, Nat.mod_mul_right_div_self]
      rw [hm, hm, setBits_mod h]
    · have : hi' + 1 - lo' = 0 := by omega
      simp [this, Nat.mod_one]
  · have e : (2:Nat) ^ lo' = 2 ^ (hi + 1) * 2 ^ (lo' - (hi + 1)) := by rw [← pow_add]; congr 1; omega
    rw [e, ← Nat.div_div_eq_div_mul, ← Nat.div_div_eq_div_mul, setBits_div h]

end Sys2Proof.Machine
end

