-- ==== Sys2Proof/Laws/Checks.lean ====
section
/-! SUPPORT. The size of the end-to-end check. -/
namespace Sys2Proof.Machine

theorem crc32cStep_lt {c : Nat} (b : Bool) (h : c < 2 ^ 32) : crc32cStep c b < 2 ^ 32 := by
  unfold crc32cStep
  have h2 : c / 2 < 2 ^ 32 := by omega
  simp only
  split
  · exact Nat.xor_lt_two_pow h2 (by norm_num)
  · exact h2

/-- A check is a number of 32 bits. -/
theorem crc32c_lt32 (l : List Word) : crc32c l < 2 ^ 32 := by
  have inner : ∀ (bs : List Bool) (c : Nat), c < 2 ^ 32 → bs.foldl crc32cStep c < 2 ^ 32 := by
    intro bs
    induction bs with
    | nil => exact fun c h => h
    | cons b bs ih => exact fun c h => ih _ (crc32cStep_lt b h)
  have outer : ∀ (ws : List Word) (c : Nat), c < 2 ^ 32 →
      ws.foldl (fun c w => (lsbBits 36 w.toNat).foldl crc32cStep c) c < 2 ^ 32 := by
    intro ws
    induction ws with
    | nil => exact fun c h => h
    | cons w ws ih => intro c h; rw [List.foldl_cons]; exact ih _ (inner _ c h)
  unfold crc32c
  exact Nat.xor_lt_two_pow (outer l _ (by norm_num)) (by norm_num)

/-- It fits a word. -/
theorem crc32c_lt (l : List Word) : crc32c l < 2 ^ 36 := lt_trans (crc32c_lt32 l) (by norm_num)

end Sys2Proof.Machine
end

