-- ==== Sys2Proof/Laws/Store.lean ====
section
/-! SUPPORT. What a sparse table reads after a write, and that every operation over it keeps the canonical form. -/
namespace Sys2Proof.Machine

open Sys2Proof

variable {d : Nat → Word} {m : Store} {a b lo : Nat} {w : Word}

/-- Reading the word just put in place. -/
@[simp] theorem Store.read_insert_same : Store.read d (Store.insert m a w) a = w := by
  induction m with
  | nil => simp [Store.insert, Store.read]
  | cons p r ih =>
    obtain ⟨b, v⟩ := p
    simp only [Store.insert]
    split
    · simp [Store.read]
    · split
      · simp [Store.read]
      · rename_i h; simp [Store.read, ih, Ne.symm h]

/-- Every other word reads as before. -/
theorem Store.read_insert_other (h : b ≠ a) : Store.read d (Store.insert m a w) b = Store.read d m b := by
  induction m with
  | nil => simp [Store.insert, Store.read, Ne.symm h]
  | cons p r ih =>
    obtain ⟨c, v⟩ := p
    simp only [Store.insert]
    split
    · simp [Store.read, Ne.symm h]
    · split
      · next hc => subst hc; simp [Store.read, Ne.symm h]
      · simp only [Store.read, ih]

/-- A word taken out reads as an unlisted one. -/
theorem Store.read_erase_same : Store.read d (m.filter (fun p => p.1 != a)) a = d a := by
  induction m with
  | nil => rfl
  | cons p r ih =>
    obtain ⟨c, v⟩ := p
    by_cases h : c = a
    · subst h; simpa using ih
    · simp [h, Store.read, ih]

theorem Store.read_erase_other (h : b ≠ a) :
    Store.read d (m.filter (fun p => p.1 != a)) b = Store.read d m b := by
  induction m with
  | nil => rfl
  | cons p r ih =>
    obtain ⟨c, v⟩ := p
    by_cases hc : c = a
    · subst hc; simpa [Store.read, Ne.symm h] using ih
    · simp [hc, Store.read, ih]

/-- A read after a write to the same address gives the word written. -/
@[simp] theorem Store.read_write_same : Store.read d (Store.write d m a w) a = w := by
  unfold Store.write
  split
  · next h => rw [Store.read_erase_same, h]
  · exact Store.read_insert_same

/-- A write leaves every other address alone. -/
theorem Store.read_write_other (h : b ≠ a) : Store.read d (Store.write d m a w) b = Store.read d m b := by
  unfold Store.write
  split
  · exact Store.read_erase_other h
  · exact Store.read_insert_other h

/-- Both laws at once. -/
theorem Store.read_write : Store.read d (Store.write d m a w) b = if b = a then w else Store.read d m b := by
  split
  · next h => subst h; simp
  · next h => exact Store.read_write_other h

/-! ### The canonical form -/

theorem Store.wfFrom_weaken {lo' : Nat} (h : lo' ≤ lo) (hm : Store.wfFrom d lo m = true) : Store.wfFrom d lo' m = true := by
  cases m with
  | nil => rfl
  | cons p r =>
    simp only [Store.wfFrom, Bool.and_eq_true, decide_eq_true_eq] at hm ⊢
    exact ⟨⟨by omega, hm.1.2⟩, hm.2⟩

theorem Store.wfFrom_filter (p : Nat × Word → Bool) (hm : Store.wfFrom d lo m = true) :
    Store.wfFrom d lo (m.filter p) = true := by
  induction m generalizing lo with
  | nil => rfl
  | cons x r ih =>
    simp only [Store.wfFrom, Bool.and_eq_true, decide_eq_true_eq] at hm
    simp only [List.filter_cons]
    split
    · simp only [Store.wfFrom, Bool.and_eq_true, decide_eq_true_eq]
      exact ⟨hm.1, ih hm.2⟩
    · exact Store.wfFrom_weaken (by omega) (ih hm.2)

theorem Store.wfFrom_insert (hw : w ≠ d a) (ha : lo ≤ a) (hm : Store.wfFrom d lo m = true) :
    Store.wfFrom d lo (Store.insert m a w) = true := by
  induction m generalizing lo with
  | nil => simpa [Store.insert, Store.wfFrom] using ⟨ha, hw⟩
  | cons x r ih =>
    obtain ⟨b, v⟩ := x
    simp only [Store.wfFrom, Bool.and_eq_true, decide_eq_true_eq] at hm
    simp only [Store.insert]
    split
    · next h => simp [Store.wfFrom, ha, hw, hm.2, hm.1.2]; omega
    · split
      · next h => subst h; simp [Store.wfFrom, ha, hw, hm.2]
      · simp only [Store.wfFrom, Bool.and_eq_true, decide_eq_true_eq]
        exact ⟨hm.1, ih (by omega) hm.2⟩

/-- A write keeps the canonical form. -/
theorem Store.wf_write (hm : Store.wf d m = true) : Store.wf d (Store.write d m a w) = true := by
  unfold Store.write
  split
  · exact Store.wfFrom_filter _ hm
  · next h => exact Store.wfFrom_insert h (Nat.zero_le _) hm

/-- Taking words out keeps the canonical form. -/
theorem Store.wf_filter (p : Nat × Word → Bool) (hm : Store.wf d m = true) : Store.wf d (m.filter p) = true :=
  Store.wfFrom_filter p hm

/-- The empty table is canonical. -/
theorem Store.wf_nil : Store.wf d [] = true := rfl

/-! ### Sparse tables of like things -/

variable {α : Type} {t : Tbl α} {k j : Nat} {x y : α}

@[simp] theorem Tbl.get?_set_same : Tbl.get? (Tbl.set t k x) k = some x := by
  induction t with
  | nil => simp [Tbl.set, Tbl.get?]
  | cons p r ih =>
    obtain ⟨i, v⟩ := p
    simp only [Tbl.set]
    split
    · simp [Tbl.get?]
    · split
      · simp [Tbl.get?]
      · next h => simp [Tbl.get?, ih, Ne.symm h]

theorem Tbl.get?_set_other (h : j ≠ k) : Tbl.get? (Tbl.set t k x) j = Tbl.get? t j := by
  induction t with
  | nil => simp [Tbl.set, Tbl.get?, Ne.symm h]
  | cons p r ih =>
    obtain ⟨i, v⟩ := p
    simp only [Tbl.set]
    split
    · simp [Tbl.get?, Ne.symm h]
    · split
      · next hc => subst hc; simp [Tbl.get?, Ne.symm h]
      · simp only [Tbl.get?, ih]

/-- The entry just set. -/
@[simp] theorem Tbl.getD_set_same : Tbl.getD (Tbl.set t k x) k y = x := by simp [Tbl.getD]

/-- Every other entry is as before. -/
theorem Tbl.getD_set_other (h : j ≠ k) : Tbl.getD (Tbl.set t k x) j y = Tbl.getD t j y := by
  simp [Tbl.getD, Tbl.get?_set_other h]

end Sys2Proof.Machine
end

