-- ==== Sys2Proof/Laws/State.lean ====
section
/-! SUPPORT. What each register and memory update of Ops changes, and that it changes nothing else: read after write for
registers, fields, flags and memory words, and one lemma per field of the state for each update. -/
namespace Sys2Proof.Machine

open Sys2Proof

variable {s : State} {f g : Fld} {a b v k : Nat} {w : Word} {x : Bool}

/-- A field lies in the word: bits HI down to LO, below 36. -/
def Fld.ok (f : Fld) : Bool := f.lo ≤ f.hi && f.hi < 36

/-- Two fields that share no bit: other registers, or bits apart in one. -/
def Fld.apart (f g : Fld) : Bool := f.addr != g.addr || f.hi < g.lo || g.hi < f.lo

/-! ### Registers -/

@[simp] theorem State.reg_setReg_same : (s.setReg a w).reg a = w := by simp [State.reg, State.setReg]

theorem State.reg_setReg_other (h : b ≠ a) : (s.setReg a w).reg b = s.reg b := by
  simp [State.reg, State.setReg, Store.read_write_other h]

theorem State.reg_put_other (h : b ≠ f.addr) : (s.put f v).reg b = s.reg b := State.reg_setReg_other h

/-- The field just written reads the value, cut to its width. -/
theorem State.get_put_same (h : f.ok = true) : (s.put f v).get f = v % 2 ^ (f.hi + 1 - f.lo) := by
  simp only [Fld.ok, Bool.and_eq_true, decide_eq_true_eq] at h
  simp only [State.get, State.put, State.reg_setReg_same, fld, BitVec.toNat_ofNat]
  rw [Nat.mod_eq_of_lt (setBits_lt h.1 h.2 (s.reg f.addr).isLt), bits_setBits_same h.1]

/-- A field that shares no bit with the one written reads as before. -/
theorem State.get_put_other (h : f.ok = true) (ha : g.apart f = true) : (s.put f v).get g = s.get g := by
  simp only [Fld.ok, Bool.and_eq_true, decide_eq_true_eq] at h
  by_cases e : g.addr = f.addr
  · simp only [Fld.apart, e, bne_self_eq_false, Bool.false_or, Bool.or_eq_true, decide_eq_true_eq] at ha
    simp only [State.get, State.put, e, State.reg_setReg_same, fld, BitVec.toNat_ofNat]
    rw [Nat.mod_eq_of_lt (setBits_lt h.1 h.2 (s.reg f.addr).isLt), bits_setBits_other h.1 ha]
  · simp only [State.get, State.reg_put_other e]

theorem State.get_setReg_other (h : g.addr ≠ a) : (s.setReg a w).get g = s.get g := by
  simp [State.get, State.reg_setReg_other h]

theorem State.get_setReg_same (h : f.addr = a) : (s.setReg a w).get f = fld w f.hi f.lo := by
  subst h; simp [State.get]

/-- A field is below its range. -/
theorem State.get_lt : s.get f < 2 ^ (f.hi + 1 - f.lo) := bits_lt

theorem State.flag_putB_same (h : f.ok = true) : (s.putB f x).flag f = x := by
  have : 2 ≤ 2 ^ (f.hi + 1 - f.lo) := by
    simp only [Fld.ok, Bool.and_eq_true, decide_eq_true_eq] at h
    calc 2 = 2 ^ 1 := rfl
      _ ≤ _ := Nat.pow_le_pow_right (by omega) (by omega)
  simp only [State.flag, State.putB, State.get_put_same h]
  cases x <;> simp [Nat.mod_eq_of_lt (show 1 < 2 ^ (f.hi + 1 - f.lo) by omega)]

theorem State.flag_put_other (h : f.ok = true) (ha : g.apart f = true) : (s.put f v).flag g = s.flag g := by
  simp [State.flag, State.get_put_other h ha]

theorem State.get_putB_same (h : f.ok = true) : (s.putB f x).get f = x.toNat := by
  have : 2 ≤ 2 ^ (f.hi + 1 - f.lo) := by
    simp only [Fld.ok, Bool.and_eq_true, decide_eq_true_eq] at h
    calc 2 = 2 ^ 1 := rfl
      _ ≤ _ := Nat.pow_le_pow_right (by omega) (by omega)
  simp only [State.putB, State.get_put_same h]
  refine Nat.mod_eq_of_lt ?_
  cases x
  · exact Nat.lt_of_lt_of_le (by decide) this
  · exact this

theorem State.get_putB_other (h : f.ok = true) (ha : g.apart f = true) : (s.putB f x).get g = s.get g :=
  State.get_put_other h ha

theorem State.flag_putB_other (h : f.ok = true) (ha : g.apart f = true) : (s.putB f x).flag g = s.flag g :=
  State.flag_put_other h ha

/-- A counter saturates at all ones (R5, code E). -/
theorem State.get_inc_same (h : f.ok = true) :
    (s.inc f k).get f = satAt (2 ^ (f.hi + 1 - f.lo) - 1) (s.get f + k) := by
  simp only [State.inc, State.get_put_same h]
  refine Nat.mod_eq_of_lt ?_
  have : 0 < 2 ^ (f.hi + 1 - f.lo) := by positivity
  simp only [satAt]; split <;> omega

theorem State.get_inc_other (h : f.ok = true) (ha : g.apart f = true) : (s.inc f k).get g = s.get g :=
  State.get_put_other h ha

theorem State.get_raise_same (h : f.ok = true) : (s.raise f).get f = 1 := by
  have : 2 ≤ 2 ^ (f.hi + 1 - f.lo) := by
    simp only [Fld.ok, Bool.and_eq_true, decide_eq_true_eq] at h
    calc 2 = 2 ^ 1 := rfl
      _ ≤ _ := Nat.pow_le_pow_right (by omega) (by omega)
  simp only [State.raise, State.get_put_same h]; exact Nat.mod_eq_of_lt (by omega)

/-! ### Memory -/

@[simp] theorem State.sramAt_setSram_same : (s.setSram a w).sramAt a = w := by simp [State.sramAt, State.setSram]
theorem State.sramAt_setSram_other (h : b ≠ a) : (s.setSram a w).sramAt b = s.sramAt b := by
  simp [State.sramAt, State.setSram, Store.read_write_other h]
@[simp] theorem State.mramAt_setSram : (s.setSram a w).mramAt b = s.mramAt b := rfl
@[simp] theorem State.mramAt_setMram_same : (s.setMram a w).mramAt a = w := by simp [State.mramAt, State.setMram]
theorem State.mramAt_setMram_other (h : b ≠ a) : (s.setMram a w).mramAt b = s.mramAt b := by
  simp [State.mramAt, State.setMram, Store.read_write_other h]
@[simp] theorem State.sramAt_setMram : (s.setMram a w).sramAt b = s.sramAt b := rfl
/-- A write clears the error pattern of its word and of no other (R23). -/
theorem State.sramPoison_setSram : (s.setSram a w).sramPoison b = (s.sramPoison b && b != a) := by
  simp only [State.sramPoison, State.setSram]
  by_cases h : b = a
  · subst h; simp
  · rw [Bool.eq_iff_iff]; simp [h]

/-! ### One lemma per field of the state and update -/

@[simp] theorem State.pending_setReg : (s.setReg a w).pending = s.pending := (rfl)
@[simp] theorem State.freeCtr_setReg : (s.setReg a w).freeCtr = s.freeCtr := (rfl)
@[simp] theorem State.life_setReg : (s.setReg a w).life = s.life := (rfl)
@[simp] theorem State.pins_setReg : (s.setReg a w).pins = s.pins := (rfl)
@[simp] theorem State.t_setReg : (s.setReg a w).t = s.t := (rfl)
@[simp] theorem State.mem_setReg : (s.setReg a w).mem = s.mem := (rfl)
@[simp] theorem State.hst_setReg : (s.setReg a w).hst = s.hst := (rfl)
@[simp] theorem State.onx_setReg : (s.setReg a w).onx = s.onx := (rfl)
@[simp] theorem State.sn_setReg : (s.setReg a w).sn = s.sn := (rfl)
@[simp] theorem State.jl_setReg : (s.setReg a w).jl = s.jl := (rfl)
@[simp] theorem State.cache_setReg : (s.setReg a w).cache = s.cache := (rfl)
@[simp] theorem State.chan_setReg : (s.setReg a w).chan = s.chan := (rfl)
@[simp] theorem State.isl_setReg : (s.setReg a w).isl = s.isl := (rfl)
@[simp] theorem State.tblLock_setReg : (s.setReg a w).tblLock = s.tblLock := (rfl)
@[simp] theorem State.cal_setReg : (s.setReg a w).cal = s.cal := (rfl)
@[simp] theorem State.bl_setReg : (s.setReg a w).bl = s.bl := (rfl)
@[simp] theorem State.alm_setReg : (s.setReg a w).alm = s.alm := (rfl)
@[simp] theorem State.opl_setReg : (s.setReg a w).opl = s.opl := (rfl)
@[simp] theorem State.lo_setReg : (s.setReg a w).lo = s.lo := (rfl)
@[simp] theorem State.dio_setReg : (s.setReg a w).dio = s.dio := (rfl)
@[simp] theorem State.spd_setReg : (s.setReg a w).spd = s.spd := (rfl)
@[simp] theorem State.clk_setReg : (s.setReg a w).clk = s.clk := (rfl)
@[simp] theorem State.img_setReg : (s.setReg a w).img = s.img := (rfl)
@[simp] theorem State.leg_setReg : (s.setReg a w).leg = s.leg := (rfl)
@[simp] theorem State.pending_put : (s.put f v).pending = s.pending := (rfl)
@[simp] theorem State.freeCtr_put : (s.put f v).freeCtr = s.freeCtr := (rfl)
@[simp] theorem State.life_put : (s.put f v).life = s.life := (rfl)
@[simp] theorem State.pins_put : (s.put f v).pins = s.pins := (rfl)
@[simp] theorem State.t_put : (s.put f v).t = s.t := (rfl)
@[simp] theorem State.mem_put : (s.put f v).mem = s.mem := (rfl)
@[simp] theorem State.hst_put : (s.put f v).hst = s.hst := (rfl)
@[simp] theorem State.onx_put : (s.put f v).onx = s.onx := (rfl)
@[simp] theorem State.sn_put : (s.put f v).sn = s.sn := (rfl)
@[simp] theorem State.jl_put : (s.put f v).jl = s.jl := (rfl)
@[simp] theorem State.cache_put : (s.put f v).cache = s.cache := (rfl)
@[simp] theorem State.chan_put : (s.put f v).chan = s.chan := (rfl)
@[simp] theorem State.isl_put : (s.put f v).isl = s.isl := (rfl)
@[simp] theorem State.tblLock_put : (s.put f v).tblLock = s.tblLock := (rfl)
@[simp] theorem State.cal_put : (s.put f v).cal = s.cal := (rfl)
@[simp] theorem State.bl_put : (s.put f v).bl = s.bl := (rfl)
@[simp] theorem State.alm_put : (s.put f v).alm = s.alm := (rfl)
@[simp] theorem State.opl_put : (s.put f v).opl = s.opl := (rfl)
@[simp] theorem State.lo_put : (s.put f v).lo = s.lo := (rfl)
@[simp] theorem State.dio_put : (s.put f v).dio = s.dio := (rfl)
@[simp] theorem State.spd_put : (s.put f v).spd = s.spd := (rfl)
@[simp] theorem State.clk_put : (s.put f v).clk = s.clk := (rfl)
@[simp] theorem State.img_put : (s.put f v).img = s.img := (rfl)
@[simp] theorem State.leg_put : (s.put f v).leg = s.leg := (rfl)
@[simp] theorem State.pending_putB : (s.putB f x).pending = s.pending := (rfl)
@[simp] theorem State.freeCtr_putB : (s.putB f x).freeCtr = s.freeCtr := (rfl)
@[simp] theorem State.life_putB : (s.putB f x).life = s.life := (rfl)
@[simp] theorem State.pins_putB : (s.putB f x).pins = s.pins := (rfl)
@[simp] theorem State.t_putB : (s.putB f x).t = s.t := (rfl)
@[simp] theorem State.mem_putB : (s.putB f x).mem = s.mem := (rfl)
@[simp] theorem State.hst_putB : (s.putB f x).hst = s.hst := (rfl)
@[simp] theorem State.onx_putB : (s.putB f x).onx = s.onx := (rfl)
@[simp] theorem State.sn_putB : (s.putB f x).sn = s.sn := (rfl)
@[simp] theorem State.jl_putB : (s.putB f x).jl = s.jl := (rfl)
@[simp] theorem State.cache_putB : (s.putB f x).cache = s.cache := (rfl)
@[simp] theorem State.chan_putB : (s.putB f x).chan = s.chan := (rfl)
@[simp] theorem State.isl_putB : (s.putB f x).isl = s.isl := (rfl)
@[simp] theorem State.tblLock_putB : (s.putB f x).tblLock = s.tblLock := (rfl)
@[simp] theorem State.cal_putB : (s.putB f x).cal = s.cal := (rfl)
@[simp] theorem State.bl_putB : (s.putB f x).bl = s.bl := (rfl)
@[simp] theorem State.alm_putB : (s.putB f x).alm = s.alm := (rfl)
@[simp] theorem State.opl_putB : (s.putB f x).opl = s.opl := (rfl)
@[simp] theorem State.lo_putB : (s.putB f x).lo = s.lo := (rfl)
@[simp] theorem State.dio_putB : (s.putB f x).dio = s.dio := (rfl)
@[simp] theorem State.spd_putB : (s.putB f x).spd = s.spd := (rfl)
@[simp] theorem State.clk_putB : (s.putB f x).clk = s.clk := (rfl)
@[simp] theorem State.img_putB : (s.putB f x).img = s.img := (rfl)
@[simp] theorem State.leg_putB : (s.putB f x).leg = s.leg := (rfl)
@[simp] theorem State.pending_inc : (s.inc f k).pending = s.pending := (rfl)
@[simp] theorem State.freeCtr_inc : (s.inc f k).freeCtr = s.freeCtr := (rfl)
@[simp] theorem State.life_inc : (s.inc f k).life = s.life := (rfl)
@[simp] theorem State.pins_inc : (s.inc f k).pins = s.pins := (rfl)
@[simp] theorem State.t_inc : (s.inc f k).t = s.t := (rfl)
@[simp] theorem State.mem_inc : (s.inc f k).mem = s.mem := (rfl)
@[simp] theorem State.hst_inc : (s.inc f k).hst = s.hst := (rfl)
@[simp] theorem State.onx_inc : (s.inc f k).onx = s.onx := (rfl)
@[simp] theorem State.sn_inc : (s.inc f k).sn = s.sn := (rfl)
@[simp] theorem State.jl_inc : (s.inc f k).jl = s.jl := (rfl)
@[simp] theorem State.cache_inc : (s.inc f k).cache = s.cache := (rfl)
@[simp] theorem State.chan_inc : (s.inc f k).chan = s.chan := (rfl)
@[simp] theorem State.isl_inc : (s.inc f k).isl = s.isl := (rfl)
@[simp] theorem State.tblLock_inc : (s.inc f k).tblLock = s.tblLock := (rfl)
@[simp] theorem State.cal_inc : (s.inc f k).cal = s.cal := (rfl)
@[simp] theorem State.bl_inc : (s.inc f k).bl = s.bl := (rfl)
@[simp] theorem State.alm_inc : (s.inc f k).alm = s.alm := (rfl)
@[simp] theorem State.opl_inc : (s.inc f k).opl = s.opl := (rfl)
@[simp] theorem State.lo_inc : (s.inc f k).lo = s.lo := (rfl)
@[simp] theorem State.dio_inc : (s.inc f k).dio = s.dio := (rfl)
@[simp] theorem State.spd_inc : (s.inc f k).spd = s.spd := (rfl)
@[simp] theorem State.clk_inc : (s.inc f k).clk = s.clk := (rfl)
@[simp] theorem State.img_inc : (s.inc f k).img = s.img := (rfl)
@[simp] theorem State.leg_inc : (s.inc f k).leg = s.leg := (rfl)
@[simp] theorem State.pending_incMod : (s.incMod f).pending = s.pending := (rfl)
@[simp] theorem State.freeCtr_incMod : (s.incMod f).freeCtr = s.freeCtr := (rfl)
@[simp] theorem State.life_incMod : (s.incMod f).life = s.life := (rfl)
@[simp] theorem State.pins_incMod : (s.incMod f).pins = s.pins := (rfl)
@[simp] theorem State.t_incMod : (s.incMod f).t = s.t := (rfl)
@[simp] theorem State.mem_incMod : (s.incMod f).mem = s.mem := (rfl)
@[simp] theorem State.hst_incMod : (s.incMod f).hst = s.hst := (rfl)
@[simp] theorem State.onx_incMod : (s.incMod f).onx = s.onx := (rfl)
@[simp] theorem State.sn_incMod : (s.incMod f).sn = s.sn := (rfl)
@[simp] theorem State.jl_incMod : (s.incMod f).jl = s.jl := (rfl)
@[simp] theorem State.cache_incMod : (s.incMod f).cache = s.cache := (rfl)
@[simp] theorem State.chan_incMod : (s.incMod f).chan = s.chan := (rfl)
@[simp] theorem State.isl_incMod : (s.incMod f).isl = s.isl := (rfl)
@[simp] theorem State.tblLock_incMod : (s.incMod f).tblLock = s.tblLock := (rfl)
@[simp] theorem State.cal_incMod : (s.incMod f).cal = s.cal := (rfl)
@[simp] theorem State.bl_incMod : (s.incMod f).bl = s.bl := (rfl)
@[simp] theorem State.alm_incMod : (s.incMod f).alm = s.alm := (rfl)
@[simp] theorem State.opl_incMod : (s.incMod f).opl = s.opl := (rfl)
@[simp] theorem State.lo_incMod : (s.incMod f).lo = s.lo := (rfl)
@[simp] theorem State.dio_incMod : (s.incMod f).dio = s.dio := (rfl)
@[simp] theorem State.spd_incMod : (s.incMod f).spd = s.spd := (rfl)
@[simp] theorem State.clk_incMod : (s.incMod f).clk = s.clk := (rfl)
@[simp] theorem State.img_incMod : (s.incMod f).img = s.img := (rfl)
@[simp] theorem State.leg_incMod : (s.incMod f).leg = s.leg := (rfl)
@[simp] theorem State.pending_putBit : (s.putBit f a x).pending = s.pending := (rfl)
@[simp] theorem State.freeCtr_putBit : (s.putBit f a x).freeCtr = s.freeCtr := (rfl)
@[simp] theorem State.life_putBit : (s.putBit f a x).life = s.life := (rfl)
@[simp] theorem State.pins_putBit : (s.putBit f a x).pins = s.pins := (rfl)
@[simp] theorem State.t_putBit : (s.putBit f a x).t = s.t := (rfl)
@[simp] theorem State.mem_putBit : (s.putBit f a x).mem = s.mem := (rfl)
@[simp] theorem State.hst_putBit : (s.putBit f a x).hst = s.hst := (rfl)
@[simp] theorem State.onx_putBit : (s.putBit f a x).onx = s.onx := (rfl)
@[simp] theorem State.sn_putBit : (s.putBit f a x).sn = s.sn := (rfl)
@[simp] theorem State.jl_putBit : (s.putBit f a x).jl = s.jl := (rfl)
@[simp] theorem State.cache_putBit : (s.putBit f a x).cache = s.cache := (rfl)
@[simp] theorem State.chan_putBit : (s.putBit f a x).chan = s.chan := (rfl)
@[simp] theorem State.isl_putBit : (s.putBit f a x).isl = s.isl := (rfl)
@[simp] theorem State.tblLock_putBit : (s.putBit f a x).tblLock = s.tblLock := (rfl)
@[simp] theorem State.cal_putBit : (s.putBit f a x).cal = s.cal := (rfl)
@[simp] theorem State.bl_putBit : (s.putBit f a x).bl = s.bl := (rfl)
@[simp] theorem State.alm_putBit : (s.putBit f a x).alm = s.alm := (rfl)
@[simp] theorem State.opl_putBit : (s.putBit f a x).opl = s.opl := (rfl)
@[simp] theorem State.lo_putBit : (s.putBit f a x).lo = s.lo := (rfl)
@[simp] theorem State.dio_putBit : (s.putBit f a x).dio = s.dio := (rfl)
@[simp] theorem State.spd_putBit : (s.putBit f a x).spd = s.spd := (rfl)
@[simp] theorem State.clk_putBit : (s.putBit f a x).clk = s.clk := (rfl)
@[simp] theorem State.img_putBit : (s.putBit f a x).img = s.img := (rfl)
@[simp] theorem State.leg_putBit : (s.putBit f a x).leg = s.leg := (rfl)
@[simp] theorem State.pending_raise : (s.raise f).pending = s.pending := (rfl)
@[simp] theorem State.freeCtr_raise : (s.raise f).freeCtr = s.freeCtr := (rfl)
@[simp] theorem State.life_raise : (s.raise f).life = s.life := (rfl)
@[simp] theorem State.pins_raise : (s.raise f).pins = s.pins := (rfl)
@[simp] theorem State.t_raise : (s.raise f).t = s.t := (rfl)
@[simp] theorem State.mem_raise : (s.raise f).mem = s.mem := (rfl)
@[simp] theorem State.hst_raise : (s.raise f).hst = s.hst := (rfl)
@[simp] theorem State.onx_raise : (s.raise f).onx = s.onx := (rfl)
@[simp] theorem State.sn_raise : (s.raise f).sn = s.sn := (rfl)
@[simp] theorem State.jl_raise : (s.raise f).jl = s.jl := (rfl)
@[simp] theorem State.cache_raise : (s.raise f).cache = s.cache := (rfl)
@[simp] theorem State.chan_raise : (s.raise f).chan = s.chan := (rfl)
@[simp] theorem State.isl_raise : (s.raise f).isl = s.isl := (rfl)
@[simp] theorem State.tblLock_raise : (s.raise f).tblLock = s.tblLock := (rfl)
@[simp] theorem State.cal_raise : (s.raise f).cal = s.cal := (rfl)
@[simp] theorem State.bl_raise : (s.raise f).bl = s.bl := (rfl)
@[simp] theorem State.alm_raise : (s.raise f).alm = s.alm := (rfl)
@[simp] theorem State.opl_raise : (s.raise f).opl = s.opl := (rfl)
@[simp] theorem State.lo_raise : (s.raise f).lo = s.lo := (rfl)
@[simp] theorem State.dio_raise : (s.raise f).dio = s.dio := (rfl)
@[simp] theorem State.spd_raise : (s.raise f).spd = s.spd := (rfl)
@[simp] theorem State.clk_raise : (s.raise f).clk = s.clk := (rfl)
@[simp] theorem State.img_raise : (s.raise f).img = s.img := (rfl)
@[simp] theorem State.leg_raise : (s.raise f).leg = s.leg := (rfl)
@[simp] theorem State.pending_setSram : (s.setSram a w).pending = s.pending := rfl
@[simp] theorem State.freeCtr_setSram : (s.setSram a w).freeCtr = s.freeCtr := rfl
@[simp] theorem State.life_setSram : (s.setSram a w).life = s.life := rfl
@[simp] theorem State.pins_setSram : (s.setSram a w).pins = s.pins := rfl
@[simp] theorem State.t_setSram : (s.setSram a w).t = s.t := rfl
@[simp] theorem State.hst_setSram : (s.setSram a w).hst = s.hst := rfl
@[simp] theorem State.onx_setSram : (s.setSram a w).onx = s.onx := rfl
@[simp] theorem State.sn_setSram : (s.setSram a w).sn = s.sn := rfl
@[simp] theorem State.jl_setSram : (s.setSram a w).jl = s.jl := rfl
@[simp] theorem State.cache_setSram : (s.setSram a w).cache = s.cache := rfl
@[simp] theorem State.chan_setSram : (s.setSram a w).chan = s.chan := rfl
@[simp] theorem State.isl_setSram : (s.setSram a w).isl = s.isl := rfl
@[simp] theorem State.tblLock_setSram : (s.setSram a w).tblLock = s.tblLock := rfl
@[simp] theorem State.cal_setSram : (s.setSram a w).cal = s.cal := rfl
@[simp] theorem State.bl_setSram : (s.setSram a w).bl = s.bl := rfl
@[simp] theorem State.alm_setSram : (s.setSram a w).alm = s.alm := rfl
@[simp] theorem State.opl_setSram : (s.setSram a w).opl = s.opl := rfl
@[simp] theorem State.lo_setSram : (s.setSram a w).lo = s.lo := rfl
@[simp] theorem State.dio_setSram : (s.setSram a w).dio = s.dio := rfl
@[simp] theorem State.spd_setSram : (s.setSram a w).spd = s.spd := rfl
@[simp] theorem State.clk_setSram : (s.setSram a w).clk = s.clk := rfl
@[simp] theorem State.img_setSram : (s.setSram a w).img = s.img := rfl
@[simp] theorem State.leg_setSram : (s.setSram a w).leg = s.leg := rfl
@[simp] theorem State.regs_setSram : (s.setSram a w).regs = s.regs := rfl
@[simp] theorem State.pending_setMram : (s.setMram a w).pending = s.pending := rfl
@[simp] theorem State.freeCtr_setMram : (s.setMram a w).freeCtr = s.freeCtr := rfl
@[simp] theorem State.life_setMram : (s.setMram a w).life = s.life := rfl
@[simp] theorem State.pins_setMram : (s.setMram a w).pins = s.pins := rfl
@[simp] theorem State.t_setMram : (s.setMram a w).t = s.t := rfl
@[simp] theorem State.hst_setMram : (s.setMram a w).hst = s.hst := rfl
@[simp] theorem State.onx_setMram : (s.setMram a w).onx = s.onx := rfl
@[simp] theorem State.sn_setMram : (s.setMram a w).sn = s.sn := rfl
@[simp] theorem State.jl_setMram : (s.setMram a w).jl = s.jl := rfl
@[simp] theorem State.cache_setMram : (s.setMram a w).cache = s.cache := rfl
@[simp] theorem State.chan_setMram : (s.setMram a w).chan = s.chan := rfl
@[simp] theorem State.isl_setMram : (s.setMram a w).isl = s.isl := rfl
@[simp] theorem State.tblLock_setMram : (s.setMram a w).tblLock = s.tblLock := rfl
@[simp] theorem State.cal_setMram : (s.setMram a w).cal = s.cal := rfl
@[simp] theorem State.bl_setMram : (s.setMram a w).bl = s.bl := rfl
@[simp] theorem State.alm_setMram : (s.setMram a w).alm = s.alm := rfl
@[simp] theorem State.opl_setMram : (s.setMram a w).opl = s.opl := rfl
@[simp] theorem State.lo_setMram : (s.setMram a w).lo = s.lo := rfl
@[simp] theorem State.dio_setMram : (s.setMram a w).dio = s.dio := rfl
@[simp] theorem State.spd_setMram : (s.setMram a w).spd = s.spd := rfl
@[simp] theorem State.clk_setMram : (s.setMram a w).clk = s.clk := rfl
@[simp] theorem State.img_setMram : (s.setMram a w).img = s.img := rfl
@[simp] theorem State.leg_setMram : (s.setMram a w).leg = s.leg := rfl
@[simp] theorem State.regs_setMram : (s.setMram a w).regs = s.regs := rfl
@[simp] theorem State.pending_settle : (settle s).pending = s.pending := rfl
@[simp] theorem State.freeCtr_settle : (settle s).freeCtr = s.freeCtr := rfl
@[simp] theorem State.life_settle : (settle s).life = s.life := rfl
@[simp] theorem State.t_settle : (settle s).t = s.t := rfl
@[simp] theorem State.mem_settle : (settle s).mem = s.mem := rfl
@[simp] theorem State.hst_settle : (settle s).hst = s.hst := rfl
@[simp] theorem State.onx_settle : (settle s).onx = s.onx := rfl
@[simp] theorem State.sn_settle : (settle s).sn = s.sn := rfl
@[simp] theorem State.jl_settle : (settle s).jl = s.jl := rfl
@[simp] theorem State.cache_settle : (settle s).cache = s.cache := rfl
@[simp] theorem State.chan_settle : (settle s).chan = s.chan := rfl
@[simp] theorem State.isl_settle : (settle s).isl = s.isl := rfl
@[simp] theorem State.tblLock_settle : (settle s).tblLock = s.tblLock := rfl
@[simp] theorem State.cal_settle : (settle s).cal = s.cal := rfl
@[simp] theorem State.bl_settle : (settle s).bl = s.bl := rfl
@[simp] theorem State.alm_settle : (settle s).alm = s.alm := rfl
@[simp] theorem State.opl_settle : (settle s).opl = s.opl := rfl
@[simp] theorem State.lo_settle : (settle s).lo = s.lo := rfl
@[simp] theorem State.dio_settle : (settle s).dio = s.dio := rfl
@[simp] theorem State.spd_settle : (settle s).spd = s.spd := rfl
@[simp] theorem State.clk_settle : (settle s).clk = s.clk := rfl
@[simp] theorem State.img_settle : (settle s).img = s.img := rfl
@[simp] theorem State.leg_settle : (settle s).leg = s.leg := rfl
@[simp] theorem State.regs_settle : (settle s).regs = s.regs := rfl
@[simp] theorem State.reg_setSram : (s.setSram a w).reg b = s.reg b := rfl
@[simp] theorem State.get_setSram : (s.setSram a w).get g = s.get g := rfl
@[simp] theorem State.flag_setSram : (s.setSram a w).flag g = s.flag g := rfl
@[simp] theorem State.mode_setSram : (s.setSram a w).mode = s.mode := rfl
@[simp] theorem State.pstate_setSram : (s.setSram a w).pstate = s.pstate := rfl
@[simp] theorem State.reg_setMram : (s.setMram a w).reg b = s.reg b := rfl
@[simp] theorem State.get_setMram : (s.setMram a w).get g = s.get g := rfl
@[simp] theorem State.flag_setMram : (s.setMram a w).flag g = s.flag g := rfl
@[simp] theorem State.mode_setMram : (s.setMram a w).mode = s.mode := rfl
@[simp] theorem State.pstate_setMram : (s.setMram a w).pstate = s.pstate := rfl
@[simp] theorem State.reg_settle : (settle s).reg b = s.reg b := rfl
@[simp] theorem State.get_settle : (settle s).get g = s.get g := rfl
@[simp] theorem State.flag_settle : (settle s).flag g = s.flag g := rfl
@[simp] theorem State.mode_settle : (settle s).mode = s.mode := rfl
@[simp] theorem State.pstate_settle : (settle s).pstate = s.pstate := rfl
@[simp] theorem State.sramAt_setReg : (s.setReg a w).sramAt b = s.sramAt b := (rfl)
@[simp] theorem State.mramAt_setReg : (s.setReg a w).mramAt b = s.mramAt b := (rfl)
@[simp] theorem State.sramAt_put : (s.put f v).sramAt b = s.sramAt b := (rfl)
@[simp] theorem State.mramAt_put : (s.put f v).mramAt b = s.mramAt b := (rfl)
@[simp] theorem State.sramAt_putB : (s.putB f x).sramAt b = s.sramAt b := (rfl)
@[simp] theorem State.mramAt_putB : (s.putB f x).mramAt b = s.mramAt b := (rfl)
@[simp] theorem State.sramAt_inc : (s.inc f k).sramAt b = s.sramAt b := (rfl)
@[simp] theorem State.mramAt_inc : (s.inc f k).mramAt b = s.mramAt b := (rfl)
@[simp] theorem State.sramAt_putBit : (s.putBit f a x).sramAt b = s.sramAt b := (rfl)
@[simp] theorem State.mramAt_putBit : (s.putBit f a x).mramAt b = s.mramAt b := (rfl)
@[simp] theorem State.sramAt_raise : (s.raise f).sramAt b = s.sramAt b := (rfl)
@[simp] theorem State.mramAt_raise : (s.raise f).mramAt b = s.mramAt b := (rfl)
@[simp] theorem State.sramAt_settle : (settle s).sramAt b = s.sramAt b := rfl
@[simp] theorem State.mramAt_settle : (settle s).mramAt b = s.mramAt b := rfl

@[simp] theorem State.pgOut_settle : (settle s).pins.pgOut = s.pins.pgOut := rfl
@[simp] theorem State.ppsOut_settle : (settle s).pins.ppsOut = s.pins.ppsOut := rfl
@[simp] theorem State.irqLow_settle : (settle s).pins.irqLow = s.irqHeld := rfl
@[simp] theorem State.safeReleased_settle : (settle s).pins.safeReleased = s.safeOut := rfl

/-! ### A record update that leaves the registers, the memory or the life cycle alone -/

section

variable {pending_ : List Instr} {freeCtr_ : Nat} {regs_ : Store} {life_ : Life} {pins_ : Pins} {t_ : TimeS} {mem_ : Mem} {hst_ : HostS} {onx_ : OnxS} {sn_ : SnS} {jl_ : JlS} {cache_ : Tbl PtCache} {chan_ : Tbl ChanS} {isl_ : Tbl IslS} {tblLock_ : Bool} {cal_ : CalS} {bl_ : BlS} {alm_ : AlmEng} {opl_ : OplS} {lo_ : Tbl LoS} {dio_ : Tbl DioS} {spd_ : Tbl SpdS} {clk_ : ClkS} {img_ : ImgS} {leg_ : LegS}

@[simp] theorem State.reg_with : State.reg ⟨pending_, freeCtr_, s.regs, life_, pins_, t_, mem_, hst_, onx_, sn_, jl_, cache_, chan_, isl_, tblLock_, cal_, bl_, alm_, opl_, lo_, dio_, spd_, clk_, img_, leg_⟩ a = s.reg a := rfl
@[simp] theorem State.get_with : State.get ⟨pending_, freeCtr_, s.regs, life_, pins_, t_, mem_, hst_, onx_, sn_, jl_, cache_, chan_, isl_, tblLock_, cal_, bl_, alm_, opl_, lo_, dio_, spd_, clk_, img_, leg_⟩ f = s.get f := rfl
@[simp] theorem State.flag_with : State.flag ⟨pending_, freeCtr_, s.regs, life_, pins_, t_, mem_, hst_, onx_, sn_, jl_, cache_, chan_, isl_, tblLock_, cal_, bl_, alm_, opl_, lo_, dio_, spd_, clk_, img_, leg_⟩ f = s.flag f := rfl
@[simp] theorem State.mode_with : State.mode ⟨pending_, freeCtr_, s.regs, life_, pins_, t_, mem_, hst_, onx_, sn_, jl_, cache_, chan_, isl_, tblLock_, cal_, bl_, alm_, opl_, lo_, dio_, spd_, clk_, img_, leg_⟩ = s.mode := rfl
@[simp] theorem State.pstate_with : State.pstate ⟨pending_, freeCtr_, s.regs, life_, pins_, t_, mem_, hst_, onx_, sn_, jl_, cache_, chan_, isl_, tblLock_, cal_, bl_, alm_, opl_, lo_, dio_, spd_, clk_, img_, leg_⟩ = s.pstate := rfl
@[simp] theorem State.alive_with : State.alive ⟨pending_, freeCtr_, s.regs, life_, pins_, t_, mem_, hst_, onx_, sn_, jl_, cache_, chan_, isl_, tblLock_, cal_, bl_, alm_, opl_, lo_, dio_, spd_, clk_, img_, leg_⟩ k = s.alive k := rfl
@[simp] theorem State.sramAt_with : State.sramAt ⟨pending_, freeCtr_, regs_, life_, pins_, t_, s.mem, hst_, onx_, sn_, jl_, cache_, chan_, isl_, tblLock_, cal_, bl_, alm_, opl_, lo_, dio_, spd_, clk_, img_, leg_⟩ a = s.sramAt a := rfl
@[simp] theorem State.mramAt_with : State.mramAt ⟨pending_, freeCtr_, regs_, life_, pins_, t_, s.mem, hst_, onx_, sn_, jl_, cache_, chan_, isl_, tblLock_, cal_, bl_, alm_, opl_, lo_, dio_, spd_, clk_, img_, leg_⟩ a = s.mramAt a := rfl
@[simp] theorem State.sramPoison_with : State.sramPoison ⟨pending_, freeCtr_, regs_, life_, pins_, t_, s.mem, hst_, onx_, sn_, jl_, cache_, chan_, isl_, tblLock_, cal_, bl_, alm_, opl_, lo_, dio_, spd_, clk_, img_, leg_⟩ a = s.sramPoison a := rfl
@[simp] theorem State.mramPoison_with : State.mramPoison ⟨pending_, freeCtr_, regs_, life_, pins_, t_, s.mem, hst_, onx_, sn_, jl_, cache_, chan_, isl_, tblLock_, cal_, bl_, alm_, opl_, lo_, dio_, spd_, clk_, img_, leg_⟩ a = s.mramPoison a := rfl
@[simp] theorem State.up_with : State.up ⟨pending_, freeCtr_, regs_, s.life, pins_, t_, mem_, hst_, onx_, sn_, jl_, cache_, chan_, isl_, tblLock_, cal_, bl_, alm_, opl_, lo_, dio_, spd_, clk_, img_, leg_⟩ = s.up := rfl

end

end Sys2Proof.Machine
end

