-- ==== Sys2Proof/Laws/Memory.lean ====
section
/-! SUPPORT. Every operation that writes memory keeps its canonical form (Mem.wf): single words, consecutive words, whole
regions copied from an image bank, the marks wiped by a clear, the words a cold reset forgets, a calibration bank written. -/
namespace Sys2Proof.Machine

open Sys2Proof

variable {d e : Nat → Word} {m n : Store} {lo mid hi a : Nat} {w : Word} {s : State}

/-! ### Pieces of a table -/

/-- Entries from a bound on, after entries below it. -/
theorem Store.wfFrom_append (hl : lo ≤ mid) (hm : Store.wfFrom d lo m = true) (hb : ∀ p ∈ m, p.1 < mid) (hn : Store.wfFrom d mid n = true) :
    Store.wfFrom d lo (m ++ n) = true := by
  induction m generalizing lo with
  | nil => exact Store.wfFrom_weaken hl hn
  | cons p r ih =>
    simp only [Store.wfFrom, List.cons_append, Bool.and_eq_true, decide_eq_true_eq] at hm ⊢
    have hp := hb p (List.mem_cons_self ..)
    exact ⟨hm.1, ih (by omega) hm.2 (fun q hq => hb q (List.mem_cons_of_mem _ hq))⟩

/-- Every entry lies at or above the bound. -/
theorem Store.le_of_wfFrom (hm : Store.wfFrom d lo m = true) : ∀ p ∈ m, lo ≤ p.1 := by
  induction m generalizing lo with
  | nil => simp
  | cons p r ih =>
    simp only [Store.wfFrom, Bool.and_eq_true, decide_eq_true_eq] at hm
    intro q hq
    rcases List.mem_cons.1 hq with rfl | h
    · exact hm.1.1
    · have := ih hm.2 q h; omega

/-- A canonical table whose entries all lie at or above a bound is canonical from there. -/
theorem Store.wfFrom_raise (hm : Store.wfFrom d lo m = true) (hb : ∀ p ∈ m, mid ≤ p.1) : Store.wfFrom d mid m = true := by
  cases m with
  | nil => rfl
  | cons p r =>
    simp only [Store.wfFrom, Bool.and_eq_true, decide_eq_true_eq] at hm ⊢
    exact ⟨⟨hb p (List.mem_cons_self ..), hm.1.2⟩, hm.2⟩

/-- A table moved, where its words differ from what their new places read as unlisted. -/
theorem Store.wfFrom_map (f : Nat → Nat) (hf : ∀ x y, lo ≤ x → x < y → f x < f y) (hm : Store.wfFrom d lo m = true)
    (he : ∀ p ∈ m, p.2 ≠ e (f p.1)) (ht : mid ≤ f lo) : Store.wfFrom e mid (m.map (fun p => (f p.1, p.2))) = true := by
  induction m generalizing lo mid with
  | nil => rfl
  | cons p r ih =>
    simp only [Store.wfFrom, Bool.and_eq_true, decide_eq_true_eq, List.map_cons, bne_iff_ne] at hm ⊢
    have h1 : f lo ≤ f p.1 := by
      rcases Nat.eq_or_lt_of_le hm.1.1 with h | h
      · rw [h]
      · exact Nat.le_of_lt (hf _ _ (Nat.le_refl _) h)
    have h2 := hf p.1 (p.1 + 1) hm.1.1 (by omega)
    exact ⟨⟨by omega, he p (List.mem_cons_self ..)⟩, ih (fun x y hx hy => hf x y (by omega) hy) hm.2 (fun q hq => he q (List.mem_cons_of_mem _ hq)) (by omega)⟩

theorem Store.ne_of_wfFrom (hm : Store.wfFrom d lo m = true) : ∀ p ∈ m, p.2 ≠ d p.1 := by
  induction m generalizing lo with
  | nil => simp
  | cons p r ih =>
    simp only [Store.wfFrom, Bool.and_eq_true, decide_eq_true_eq, bne_iff_ne] at hm
    intro q hq
    rcases List.mem_cons.1 hq with rfl | h
    · exact hm.1.2
    · exact ih hm.2 q h

/-- A window of a canonical table of words that read zero unlisted, put where words read zero unlisted. -/
theorem Store.wfFrom_window {to_ : Nat} (hm : Store.wf (fun _ => 0) m = true) (he : ∀ x, to_ ≤ x → x < to_ + (hi - lo) → e x = 0) :
    Store.wfFrom e to_ (m.window lo hi to_) = true := by
  have hf : Store.wfFrom (fun _ => 0) lo (m.filter (fun p => lo ≤ p.1 && p.1 < hi)) = true :=
    Store.wfFrom_raise (Store.wf_filter _ hm) (by intro p hp; simp at hp; exact hp.2.1)
  refine Store.wfFrom_map (fun x => x - lo + to_) (fun x y _ _ => by omega) hf ?_ (by omega)
  intro p hp
  have hz := Store.ne_of_wfFrom hf p hp
  have hr : lo ≤ p.1 ∧ p.1 < hi := by simp at hp; exact hp.2
  rw [he _ (by omega) (by omega)]
  exact hz

theorem Store.window_lt {to_ : Nat} : ∀ p ∈ m.window lo hi to_, p.1 < to_ + (hi - lo) := by
  intro p hp
  simp only [Store.window, List.mem_map, List.mem_filter, Bool.and_eq_true, decide_eq_true_eq] at hp
  obtain ⟨q, hq, rfl⟩ := hp
  simp only
  omega

/-- A region replaced by a canonical piece of it. -/
theorem Store.wf_splice {x : Store} {k : Nat} (hm : Store.wf d m = true) (hx : Store.wfFrom d lo x = true) (hb : ∀ p ∈ x, p.1 < lo + k) :
    Store.wf d (m.filter (fun p => p.1 < lo) ++ x ++ m.filter (fun p => lo + k ≤ p.1)) = true := by
  have h1 : Store.wfFrom d 0 (m.filter (fun p => p.1 < lo) ++ x) = true :=
    Store.wfFrom_append (Nat.zero_le _) (Store.wf_filter _ hm) (by intro p hp; simp at hp; exact hp.2) hx
  refine Store.wfFrom_append (mid := lo + k) (Nat.zero_le _) h1 ?_
    (Store.wfFrom_raise (Store.wf_filter _ hm) (by intro p hp; simp at hp; exact hp.2))
  intro p hp
  rcases List.mem_append.1 hp with h | h
  · have h := (List.mem_filter.1 h).2
    simp only [decide_eq_true_eq] at h
    omega
  · exact hb p h

/-! ### Memory operations -/

theorem Mem.wf_reset : State.reset.mem.wf = true := by rfl

theorem wf_setSram (h : s.mem.wf = true) : (s.setSram a w).mem.wf = true := by
  simp only [Mem.wf, Bool.and_eq_true] at h ⊢
  exact ⟨Store.wf_write h.1, h.2⟩

theorem wf_setMram (h : s.mem.wf = true) : (s.setMram a w).mem.wf = true := by
  simp only [Mem.wf, Bool.and_eq_true] at h ⊢
  exact ⟨h.1, Store.wf_write h.2⟩

/-- An operation repeated keeps what it keeps once. -/
theorem wf_foldl {α : Type} (f : State → α → State) (hf : ∀ s x, s.mem.wf = true → (f s x).mem.wf = true) (l : List α) :
    ∀ s : State, s.mem.wf = true → (l.foldl f s).mem.wf = true := by
  induction l with
  | nil => exact fun _ h => h
  | cons x r ih => exact fun s h => ih _ (hf s x h)

theorem wf_setSramWords {l : List Word} (h : s.mem.wf = true) : (s.setSramWords a l).mem.wf = true :=
  wf_foldl _ (fun _ _ h => wf_setSram h) _ _ h

theorem wf_setMramWords {l : List Word} (h : s.mem.wf = true) : (s.setMramWords a l).mem.wf = true :=
  wf_foldl _ (fun _ _ h => wf_setMram h) _ _ h

theorem wf_spoilSram (h : s.mem.wf = true) : (s.spoilSram a w).mem.wf = true := by
  have h := wf_setSram (a := a) (w := w) h
  simpa only [State.spoilSram, Mem.wf] using h

theorem wf_spoilMram (h : s.mem.wf = true) : (s.spoilMram a w).mem.wf = true := by
  have h := wf_setMram (a := a) (w := w) h
  simpa only [State.spoilMram, Mem.wf] using h

theorem wf_setMirror (h : s.mem.wf = true) : (s.setMirror a w).mem.wf = true := wf_setSram h

/-- A memory write among those of its phase (R17, R18), whatever its effect, if that keeps the form. -/
theorem wf_phaseStore {f : State → State} {req : Nat} (hf : (f s).mem.wf = true) : (s.phaseStore req a f).mem.wf = true := by
  have keep : ∀ t : State, ∀ l, t.mem.wf = true → ({ t with mem := { t.mem with phaseW := l } } : State).mem.wf = true := fun _ _ h => h
  unfold State.phaseStore
  refine keep _ _ ?_
  split
  · exact hf
  · split
    · split
      · exact wf_spoilSram hf
      · exact wf_setSram hf
    · split
      · exact wf_spoilMram hf
      · exact wf_setMram hf

theorem wf_wipeMarks {x : Nat} (h : s.mem.wf = true) : (s.wipeMarks x lo hi).mem.wf = true := by
  simp only [Mem.wf, Bool.and_eq_true] at h ⊢
  exact ⟨h.1, Store.wf_filter _ h.2⟩

/-- A region outside the mirror copied from an image bank. -/
theorem wf_copyBank {b off k dst : Nat} (hd : dst + k ≤ 0o400000 ∨ 0o407777 < dst) (h : s.mem.wf = true) : (s.copyBank b off k dst).mem.wf = true := by
  simp only [Mem.wf, Bool.and_eq_true, State.copyBank, Store.splice] at h ⊢
  refine ⟨Store.wf_splice h.1 (Store.wfFrom_window h.2 ?_) ?_, h.2⟩
  · intro x h1 h2
    simp only [sramReset]
    rw [if_neg (by omega)]
  · intro p hp
    have := Store.window_lt p hp
    omega

theorem wf_copyLattice {b : Nat} (h : s.mem.wf = true) : (s.copyLattice b).mem.wf = true := wf_copyBank (by omega) h

theorem wf_copyRx {b : Nat} (h : s.mem.wf = true) : (s.copyRx b lo hi).mem.wf = true := by
  unfold State.copyRx
  refine wf_foldl _ (fun _ _ h => wf_setSram h) _ _ ?_
  simp only [Mem.wf, Bool.and_eq_true] at h ⊢
  exact ⟨Store.wf_filter _ h.1, h.2⟩

/-- Every part of a section of step 3 is copied outside the mirror. -/
theorem tableParts_outside {x : Nat × Nat × Nat × Nat} (hx : x ∈ tableParts lo hi) :
    x.2.2.2 + x.1 + x.2.2.1 ≤ 0o400000 ∨ 0o407777 < x.2.2.2 + x.1 := by
  simp only [tableParts, List.mem_filterMap] at hx
  obtain ⟨y, hy, hx⟩ := hx
  split at hx
  · next hz =>
    obtain rfl := Option.some.inj hx
    simp only [tableSections, List.mem_cons, List.not_mem_nil, or_false] at hy
    rcases hy with rfl | rfl | rfl | rfl | rfl | rfl | rfl <;> simp only at hz ⊢ <;> omega
  · cases hx

theorem wf_copyTables {b : Nat} (h : s.mem.wf = true) : (s.copyTables b lo hi).mem.wf = true := by
  have all : ∀ l : List (Nat × Nat × Nat × Nat), (∀ x ∈ l, x ∈ tableParts lo hi) → ∀ s : State, s.mem.wf = true →
      (l.foldl (fun (s : State) (x : Nat × Nat × Nat × Nat) =>
        if x.2.2.2 == 0o700000 then s.copyRx b x.1 (x.1 + x.2.2.1) else s.copyBank b (x.2.1 + x.1) x.2.2.1 (x.2.2.2 + x.1)) s).mem.wf = true := by
    intro l
    induction l with
    | nil => exact fun _ _ h => h
    | cons x r ih =>
      intro hl s h
      refine ih (fun y hy => hl y (List.mem_cons_of_mem _ hy)) _ ?_
      beta_reduce
      split
      · exact wf_copyRx h
      · exact wf_copyBank (tableParts_outside (hl x (List.mem_cons_self ..))) h
  exact all _ (fun _ h => h) s h

/-- The words of a beat of a preparation (R463). -/
theorem wf_prepCopy {p : Prep} (h : s.mem.wf = true) : (s.prepCopy p lo hi).mem.wf = true := by
  unfold State.prepCopy
  split
  · exact wf_copyBank (by omega) h
  · split
    · exact h
    · exact wf_copyTables h
  · exact h

/-- What a cold reset leaves of memory. -/
theorem wf_forgotten (h : Store.wf mramReset s.mem.mram = true) : ({ s.mem with sram := [] } : Mem).wf = true := by
  simp only [Mem.wf, Bool.and_eq_true]
  exact ⟨rfl, h⟩

/-- A calibration bank written whole. -/
theorem wf_setCalBank {b : Nat} {body : Store} (hb : Store.wf (fun _ => 0) body = true) (h : s.mem.wf = true) :
    (s.setCalBank b body).mem.wf = true := by
  simp only [Mem.wf, Bool.and_eq_true, State.setCalBank, Store.splice] at h ⊢
  refine ⟨h.1, Store.wf_splice h.2 (Store.wfFrom_window hb (fun _ _ _ => rfl)) ?_⟩
  intro p hp
  have := Store.window_lt p hp
  omega

/-- A piece of a canonical table of words that read zero unlisted, in its own place. -/
theorem wfFrom_part (hm : Store.wf (fun _ => 0) m = true) : Store.wfFrom (fun _ => 0) lo (m.window lo hi lo) = true :=
  Store.wfFrom_window hm (fun _ _ _ => rfl)

theorem wf_calBank {b : Nat} (h : s.mem.wf = true) : Store.wf (fun _ => 0) (s.calBank b) = true := by
  simp only [Mem.wf, Bool.and_eq_true] at h
  exact Store.wfFrom_window h.2 (fun _ _ _ => rfl)

/-- Pieces given in rising order, each within its own stretch. -/
theorem wfFrom_flatMap (f : Nat → Store) (base k : Nat) (hw : ∀ i, Store.wfFrom d (base + k * i) (f i) = true)
    (hb : ∀ i, ∀ p ∈ f i, p.1 < base + k * (i + 1)) (n : Nat) : Store.wfFrom d base ((List.range n).flatMap f) = true := by
  have hall : ∀ n, Store.wfFrom d base ((List.range n).flatMap f) = true ∧ ∀ p ∈ (List.range n).flatMap f, p.1 < base + k * n := by
    intro n
    induction n with
    | zero => exact ⟨rfl, by simp⟩
    | succ n ih =>
      simp only [List.range_succ, List.flatMap_append, List.flatMap_cons, List.flatMap_nil, List.append_nil]
      refine ⟨Store.wfFrom_append (by omega) ih.1 ih.2 (hw n), ?_⟩
      intro p hp
      rcases List.mem_append.1 hp with h | h
      · have := ih.2 p h
        have : k * n ≤ k * (n + 1) := Nat.mul_le_mul_left _ (by omega)
        omega
      · exact hb n p h
  exact (hall n).1

/-- A factory section stands in its own place. -/
theorem wf_facSection {b k : Nat} {x : Store} (h : s.mem.wf = true) (hx : s.facSection b k = some x) :
    Store.wfFrom (fun _ => 0) (0o100 + 64 * k) x = true ∧ ∀ p ∈ x, p.1 < 0o100 + 64 * (k + 1) := by
  simp only [State.facSection] at hx
  split at hx
  · obtain rfl := Option.some.inj hx
    refine ⟨?_, ?_⟩
    · rw [Nat.mul_comm 64 k]; exact wfFrom_part (wf_calBank h)
    · intro p hp
      have := Store.window_lt p hp
      omega
  · cases hx

theorem wf_bareSection (k : Nat) :
    Store.wfFrom (fun _ => 0) (0o100 + 64 * k) (bareSection k) = true ∧ ∀ p ∈ bareSection k, p.1 < 0o100 + 64 * (k + 1) := by
  have one : (toCoef 1 != 0) = true := by decide +kernel
  have e : bareSection k = [1, 3, 5, 7, 9, 11, 13, 15, 17, 19, 20, 22].map (fun i => (0o100 + k * 64 + i, toCoef 1)) := rfl
  rw [e]
  generalize toCoef 1 = c at one
  refine ⟨?_, ?_⟩
  · simp only [List.map_cons, List.map_nil, Store.wfFrom, one, Bool.and_true, Bool.and_eq_true, decide_eq_true_eq]
    omega
  · intro p hp
    obtain ⟨i, hi, rfl⟩ := List.mem_map.1 hp
    simp only [List.mem_cons, List.not_mem_nil, or_false] at hi
    simp only
    omega

theorem wf_noBank (h : s.mem.wf = true) : Store.wf (fun _ => 0) s.noBank = true := by
  unfold State.noBank
  simp only
  generalize (if (calHeaderOk (s.calBank 1) && (!calHeaderOk (s.calBank 0)
    || decide ((calSeq (s.calBank 0)).toNat < (calSeq (s.calBank 1)).toNat))) = true then [1, 0] else [0, 1]) = order
  have piece : ∀ k, Store.wfFrom (fun _ => 0) (0o100 + 64 * k) ((order.findSome? (fun x => s.facSection x k)).getD (bareSection k)) = true
      ∧ ∀ p ∈ (order.findSome? (fun x => s.facSection x k)).getD (bareSection k), p.1 < 0o100 + 64 * (k + 1) := by
    intro k
    cases hf : order.findSome? (fun x => s.facSection x k) with
    | none => exact wf_bareSection k
    | some x =>
      obtain ⟨b, -, hb⟩ := List.exists_of_findSome?_eq_some hf
      exact wf_facSection h hb
  exact Store.wfFrom_weaken (Nat.zero_le _) (wfFrom_flatMap _ 0o100 64 (fun k => (piece k).1) (fun k => (piece k).2) 16)

/-- Three pieces in their places. -/
theorem wf_body {x y z : Store} (hx : Store.wf (fun _ => 0) x = true) (hy : Store.wf (fun _ => 0) y = true) (hz : Store.wf (fun _ => 0) z = true) :
    Store.wf (fun _ => 0) (x.window 0o100 0o2100 0o100 ++ y.window 0o2100 0o2500 0o2100 ++ z.window 0o3000 0o13000 0o3000) = true := by
  refine Store.wfFrom_append (mid := 0o3000) (by omega) (Store.wfFrom_append (mid := 0o2100) (by omega)
    (Store.wfFrom_weaken (Nat.zero_le _) (wfFrom_part hx)) ?_ (wfFrom_part hy)) ?_ (wfFrom_part hz)
  · intro p hp
    have := Store.window_lt p hp
    omega
  · intro p hp
    rcases List.mem_append.1 hp with q | q
    all_goals
      have := Store.window_lt p q
      omega

/-- Words written one after the other. -/
theorem wf_writes (l : List (Word × Nat)) : ∀ m : Store, Store.wf (fun _ => 0) m = true →
    Store.wf (fun _ => 0) (l.foldl (fun (m : Store) (p : Word × Nat) => m.write (fun _ => 0) (1 + p.2) p.1) m) = true := by
  induction l with
  | nil => exact fun _ h => h
  | cons p r ih => exact fun m h => ih _ (Store.wf_write h)

theorem State.mem_calEnd {r : Nat} : (s.calEnd r).mem = s.mem := by simp [State.calEnd]

/-- What is in force, and the body that a commit writes with the working copy. -/
theorem wf_calInForce (h : s.mem.wf = true) : Store.wf (fun _ => 0) s.calInForce = true := by
  unfold State.calInForce
  split
  · exact wf_noBank h
  · exact wf_calBank h

theorem wf_calBody (hw : Store.wf (fun _ => 0) s.cal.work = true) (h : s.mem.wf = true) : Store.wf (fun _ => 0) s.calBody = true :=
  wf_body (wf_calInForce h) hw hw

/-- The steps of a commit (R164): MAGIC zeroed, the body, the header, MAGIC; a header word that reads back wrong. -/
theorem wf_calBodyWrite (hw : Store.wf (fun _ => 0) s.cal.work = true) (h : s.mem.wf = true) :
    s.calBodyWrite.mem.wf = true := by
  unfold State.calBodyWrite
  rw [State.mem_put]
  exact wf_setCalBank (wf_calBody hw h) h

theorem wf_calHeaderWrite (h : s.mem.wf = true) : s.calHeaderWrite.mem.wf = true := by
  unfold State.calHeaderWrite
  simp only
  split
  · rw [State.mem_calEnd, State.mem_put]; exact h
  · rw [State.mem_put]; exact wf_setMramWords h

theorem wf_calSpoil (h : s.mem.wf = true) : s.calSpoil.mem.wf = true := wf_spoilMram h

theorem wf_calStep (hw : Store.wf (fun _ => 0) s.cal.work = true) (h : s.mem.wf = true) :
    s.calStep.mem.wf = true := by
  unfold State.calStep
  simp only
  split
  · split
    · exact wf_calBodyWrite hw h
    · exact h
  · split
    · rw [State.mem_put]; exact h
    · exact h
  · split
    · exact wf_calHeaderWrite h
    · exact h
  · split
    · rw [State.mem_put]; exact wf_setMram h
    · exact h
  · split
    · rw [State.mem_put]; exact h
    · exact h
  · exact h

theorem wf_calCommitRun {busy : Bool} (h : s.mem.wf = true) : (s.calCommitRun busy).mem.wf = true := by
  unfold State.calCommitRun
  split
  · exact h
  · simp only
    split
    · rw [State.mem_calEnd]; exact h
    · split
      · rw [State.mem_calEnd]; exact h
      · split
        · rw [State.mem_calEnd, State.mem_put]; exact h
        · simp only [State.mem_put, State.mem_putB, State.mem_setReg]
          exact wf_setMram (s := { s with cal := { s.cal with cmt := false } }) h

/-- A write of the working copy keeps its form. -/
theorem wf_setWork (hw : Store.wf (fun _ => 0) s.cal.work = true) : Store.wf (fun _ => 0) (s.setWork a w).cal.work = true := by
  unfold State.setWork
  simp only [State.calEdit, State.cal_putB]
  exact Store.wf_write hw

end Sys2Proof.Machine
end

