-- ==== Sys2Proof/Laws/Ops.lean ====
section
/-! SUPPORT. What each shared operation of Ops can change, said once: the registers it may write, and that memory, node time and
the life cycle stay. -/
namespace Sys2Proof.Machine

open Sys2Proof

variable {s : State} {f g : Fld} {a b v k n i : Nat} {w : Word} {x : Bool}

/-- One branch or the other. -/
theorem State.reg_ite (c : Prop) [Decidable c] (p q : State) : (if c then p else q).reg a = if c then p.reg a else q.reg a := by
  split <;> rfl
theorem State.get_ite (c : Prop) [Decidable c] (p q : State) : (if c then p else q).get g = if c then p.get g else q.get g := by
  split <;> rfl
theorem State.mem_ite (c : Prop) [Decidable c] (p q : State) : (if c then p else q).mem = if c then p.mem else q.mem := by
  split <;> rfl
theorem State.life_ite (c : Prop) [Decidable c] (p q : State) : (if c then p else q).life = if c then p.life else q.life := by
  split <;> rfl
theorem State.t_ite (c : Prop) [Decidable c] (p q : State) : (if c then p else q).t = if c then p.t else q.t := by
  split <;> rfl

/-- What every step of a fold keeps, the fold keeps. -/
theorem foldl_keeps {α β γ : Type} (p : β → γ) (f : β → α → β) (l : List α) (z : β) (h : ∀ z x, p (f z x) = p z) :
    p (l.foldl f z) = p z := by
  induction l generalizing z with
  | nil => rfl
  | cons x r ih => rw [List.foldl_cons, ih, h]

theorem State.get_raise_other (h : f.ok = true) (ha : g.apart f = true) : (s.raise f).get g = s.get g :=
  State.get_put_other h ha
theorem State.get_incMod_other (h : f.ok = true) (ha : g.apart f = true) : (s.incMod f).get g = s.get g :=
  State.get_put_other h ha
theorem State.get_putBit_other (h : f.ok = true) (ha : g.apart f = true) : (s.putBit f i x).get g = s.get g :=
  State.get_put_other h ha
theorem State.get_incMod_same (h : f.ok = true) : (s.incMod f).get f = (s.get f + 1) % 2 ^ (f.hi + 1 - f.lo) :=
  State.get_put_same h
theorem State.get_putBit_same (h : f.ok = true) :
    (s.putBit f i x).get f = setBit (s.get f) i x % 2 ^ (f.hi + 1 - f.lo) := State.get_put_same h
theorem State.reg_putB_other (h : b ≠ f.addr) : (s.putB f x).reg b = s.reg b := State.reg_put_other h
theorem State.reg_inc_other (h : b ≠ f.addr) : (s.inc f k).reg b = s.reg b := State.reg_put_other h
theorem State.reg_incMod_other (h : b ≠ f.addr) : (s.incMod f).reg b = s.reg b := State.reg_put_other h
theorem State.reg_putBit_other (h : b ≠ f.addr) : (s.putBit f i x).reg b = s.reg b := State.reg_put_other h
theorem State.reg_raise_other (h : b ≠ f.addr) : (s.raise f).reg b = s.reg b := State.reg_put_other h

/-! ### Triggers (R422) -/

section
variable {cls sub src : Nat} {ts0 ts1 ev0 ev1 : Word} {rs : Option Nat}

/-- A trigger changes the recorder alone: of the registers ONX_LOST, and beside them the recorder's queues. -/
theorem State.trigger_frame :
    (∀ a, a ≠ ONX_LOST → (s.trigger cls sub src ts0 ts1 ev0 ev1 rs).reg a = s.reg a)
      ∧ (s.trigger cls sub src ts0 ts1 ev0 ev1 rs).mem = s.mem ∧ (s.trigger cls sub src ts0 ts1 ev0 ev1 rs).life = s.life
      ∧ (s.trigger cls sub src ts0 ts1 ev0 ev1 rs).t = s.t ∧ (s.trigger cls sub src ts0 ts1 ev0 ev1 rs).jl = s.jl
      ∧ (s.trigger cls sub src ts0 ts1 ev0 ev1 rs).pins = s.pins := by
  unfold State.trigger
  split
  · exact ⟨fun _ _ => rfl, rfl, rfl, rfl, rfl, rfl⟩
  · dsimp only
    generalize (if cls ≤ 2 then 128 else 112) = cap
    split
    · exact ⟨fun a h => by rw [State.reg_inc_other h]; rfl, by simp, by simp, by simp, by simp, by simp⟩
    · split
      · exact ⟨fun a h => by rw [State.reg_inc_other h]; rfl, by simp, by simp, by simp, by simp, by simp⟩
      · split
        · exact ⟨fun a h => by rw [State.reg_inc_other h]; rfl, by simp, by simp, by simp, by simp, by simp⟩
        · split <;> exact ⟨fun _ _ => rfl, rfl, rfl, rfl, rfl, rfl⟩

theorem State.reg_trigger (h : a ≠ ONX_LOST) : (s.trigger cls sub src ts0 ts1 ev0 ev1 rs).reg a = s.reg a :=
  State.trigger_frame.1 a h
theorem State.get_trigger (h : g.addr ≠ ONX_LOST) : (s.trigger cls sub src ts0 ts1 ev0 ev1 rs).get g = s.get g := by
  simp only [State.get, State.reg_trigger h]
@[simp] theorem State.mem_trigger : (s.trigger cls sub src ts0 ts1 ev0 ev1 rs).mem = s.mem := State.trigger_frame.2.1
@[simp] theorem State.life_trigger : (s.trigger cls sub src ts0 ts1 ev0 ev1 rs).life = s.life := State.trigger_frame.2.2.1
@[simp] theorem State.t_trigger : (s.trigger cls sub src ts0 ts1 ev0 ev1 rs).t = s.t := State.trigger_frame.2.2.2.1
@[simp] theorem State.jl_trigger : (s.trigger cls sub src ts0 ts1 ev0 ev1 rs).jl = s.jl := State.trigger_frame.2.2.2.2.1
@[simp] theorem State.pins_trigger : (s.trigger cls sub src ts0 ts1 ev0 ev1 rs).pins = s.pins := State.trigger_frame.2.2.2.2.2

theorem State.reg_trigNow (h : a ≠ ONX_LOST) : (s.trigNow cls sub src ev0 ev1).reg a = s.reg a := State.reg_trigger h
theorem State.get_trigNow (h : g.addr ≠ ONX_LOST) : (s.trigNow cls sub src ev0 ev1).get g = s.get g := State.get_trigger h
@[simp] theorem State.mem_trigNow : (s.trigNow cls sub src ev0 ev1).mem = s.mem := State.mem_trigger
@[simp] theorem State.life_trigNow : (s.trigNow cls sub src ev0 ev1).life = s.life := State.life_trigger
@[simp] theorem State.t_trigNow : (s.trigNow cls sub src ev0 ev1).t = s.t := State.t_trigger
@[simp] theorem State.jl_trigNow : (s.trigNow cls sub src ev0 ev1).jl = s.jl := State.jl_trigger
theorem State.reg_trigWork (h : a ≠ ONX_LOST) : (s.trigWork cls sub src ev0 ev1).reg a = s.reg a := State.reg_trigger h
theorem State.get_trigWork (h : g.addr ≠ ONX_LOST) : (s.trigWork cls sub src ev0 ev1).get g = s.get g := State.get_trigger h
@[simp] theorem State.mem_trigWork : (s.trigWork cls sub src ev0 ev1).mem = s.mem := State.mem_trigger
@[simp] theorem State.life_trigWork : (s.trigWork cls sub src ev0 ev1).life = s.life := State.life_trigger
@[simp] theorem State.t_trigWork : (s.trigWork cls sub src ev0 ev1).t = s.t := State.t_trigger

end

/-! ### Discipline (R54, R56, R448) -/

theorem State.rateAbort_frame :
    (∀ a, a ≠ CLK_STAT → a ≠ CLK_RATE → s.rateAbort.reg a = s.reg a)
      ∧ s.rateAbort.mem = s.mem ∧ s.rateAbort.life = s.life ∧ s.rateAbort.t = s.t ∧ s.rateAbort.jl = s.jl := by
  by_cases h : (!s.flag CLK_STAT.WINRUN) = true
  · have e : s.rateAbort = s := by unfold State.rateAbort; rw [if_pos h]
    rw [e]; exact ⟨fun _ _ _ => rfl, rfl, rfl, rfl, rfl⟩
  · have e : ∃ c, s.rateAbort = (({ s with clk := c } : State).putB CLK_STAT.WINRUN false).putB CLK_RATE.ABORT true :=
      ⟨_, by unfold State.rateAbort; rw [if_neg h]⟩
    obtain ⟨c, e⟩ := e
    rw [e]
    refine ⟨fun a h1 h2 => ?_, ?_, ?_, ?_, ?_⟩
    · rw [State.reg_putB_other h2, State.reg_putB_other h1, State.reg_with]
    all_goals simp only [State.mem_putB, State.life_putB, State.t_putB, State.jl_putB]

theorem State.ratePtp_frame :
    (∀ a, a ≠ CLK_STAT → a ≠ CLK_RATE → s.ratePtp.reg a = s.reg a)
      ∧ s.ratePtp.mem = s.mem ∧ s.ratePtp.life = s.life ∧ s.ratePtp.t = s.t ∧ s.ratePtp.jl = s.jl := by
  unfold State.ratePtp
  split
  · exact State.rateAbort_frame
  · exact ⟨fun _ _ _ => rfl, rfl, rfl, rfl, rfl⟩

/-- The time since when node time is held over. -/
def State.heldFrom (s : State) : State :=
  if s.lockTrusted s.source54 then { s with t := { s.t with disc := { s.t.disc with holdAt := s.t.run } } } else s

theorem State.heldFrom_frame : s.heldFrom.regs = s.regs ∧ s.heldFrom.mem = s.mem ∧ s.heldFrom.life = s.life ∧ s.heldFrom.jl = s.jl
    ∧ ∃ n, s.heldFrom.t = { s.t with disc := { s.t.disc with holdAt := n } } := by
  unfold State.heldFrom
  split
  · exact ⟨rfl, rfl, rfl, rfl, s.t.run, rfl⟩
  · exact ⟨rfl, rfl, rfl, rfl, s.t.disc.holdAt, rfl⟩

/-- The discipline writes TIM_DSTAT, and what a rate window shows where one lapses; of node time, only since when it is held over. -/
theorem State.discipline_frame :
    (∀ a, a ≠ TIM_DSTAT → a ≠ CLK_STAT → a ≠ CLK_RATE → s.discipline.reg a = s.reg a)
      ∧ s.discipline.mem = s.mem ∧ s.discipline.life = s.life ∧ s.discipline.jl = s.jl
      ∧ ∃ n, s.discipline.t = { s.t with disc := { s.t.disc with holdAt := n } } := by
  have e : ∃ a b c d h, s.discipline = (((((s.heldFrom.put TIM_DSTAT.SRC a).putB TIM_DSTAT.LOCK b).putB TIM_DSTAT.TRUST c).putB
      TIM_DSTAT.HOLD d).put TIM_DSTAT.HOLDLEFT h).ratePtp := ⟨_, _, _, _, _, rfl⟩
  obtain ⟨a, b, c, d, h, e⟩ := e
  obtain ⟨q1, q2, q3, q4, q5⟩ := State.heldFrom_frame (s := s)
  generalize s.heldFrom = u at e q1 q2 q3 q4 q5
  rw [e]
  refine ⟨fun i h1 h2 h3 => ?_, ?_, ?_, ?_, ?_⟩
  · rw [State.ratePtp_frame.1 i h2 h3, State.reg_put_other h1, State.reg_putB_other h1, State.reg_putB_other h1, State.reg_putB_other h1,
      State.reg_put_other h1]
    simp only [State.reg, q1]
  · rw [State.ratePtp_frame.2.1]; simpa only [State.mem_put, State.mem_putB] using q2
  · rw [State.ratePtp_frame.2.2.1]; simpa only [State.life_put, State.life_putB] using q3
  · rw [State.ratePtp_frame.2.2.2.2]; simpa only [State.jl_put, State.jl_putB] using q4
  · rw [State.ratePtp_frame.2.2.2.1]; simpa only [State.t_put, State.t_putB] using q5

@[simp] theorem State.mem_discipline : s.discipline.mem = s.mem := State.discipline_frame.2.1
@[simp] theorem State.life_discipline : s.discipline.life = s.life := State.discipline_frame.2.2.1
@[simp] theorem State.jl_discipline : s.discipline.jl = s.jl := State.discipline_frame.2.2.2.1
@[simp] theorem State.beat_discipline : s.discipline.t.beat = s.t.beat := by obtain ⟨n, h⟩ := (State.discipline_frame (s := s)).2.2.2.2; rw [h]
@[simp] theorem State.run_discipline : s.discipline.t.run = s.t.run := by obtain ⟨n, h⟩ := (State.discipline_frame (s := s)).2.2.2.2; rw [h]
@[simp] theorem State.usec_discipline : s.discipline.t.usec = s.t.usec := by obtain ⟨n, h⟩ := (State.discipline_frame (s := s)).2.2.2.2; rw [h]

/-! ### Pair state (R381, R400) -/

@[simp] theorem State.mem_putInStep : s.putInStep.mem = s.mem := by simp [State.putInStep]
@[simp] theorem State.life_putInStep : s.putInStep.life = s.life := by simp [State.putInStep]
@[simp] theorem State.t_putInStep : s.putInStep.t = s.t := by simp [State.putInStep]
theorem State.reg_putInStep (h : a ≠ JL_STAT) : s.putInStep.reg a = s.reg a := State.reg_putB_other h

/-- Registers in which a change of pair state shows: the pair engine's, the interrupt source, the discipline and a rate window. -/
def pairRegs : List Nat := [JL_STAT, HST_ISRC, TIM_DSTAT, CLK_STAT, CLK_RATE]

/-- A change of pair state writes no other register. -/
theorem State.reg_setPstate (h : a ∉ pairRegs) : (s.setPstate n).reg a = s.reg a := by
  simp only [pairRegs, List.mem_cons, List.not_mem_nil, or_false, not_or] at h
  unfold State.setPstate
  split
  · rfl
  · dsimp only
    rw [State.discipline_frame.1 a h.2.2.1 h.2.2.2.1 h.2.2.2.2, State.reg_putInStep h.1, State.reg_with, State.reg_raise_other h.2.1,
      State.reg_put_other h.1, State.reg_put_other h.1]
@[simp] theorem State.mem_setPstate : (s.setPstate n).mem = s.mem := by unfold State.setPstate; split <;> simp
@[simp] theorem State.life_setPstate : (s.setPstate n).life = s.life := by unfold State.setPstate; split <;> simp
@[simp] theorem State.beat_setPstate : (s.setPstate n).t.beat = s.t.beat := by unfold State.setPstate; split <;> simp
@[simp] theorem State.run_setPstate : (s.setPstate n).t.run = s.t.run := by unfold State.setPstate; split <;> simp
@[simp] theorem State.usec_setPstate : (s.setPstate n).t.usec = s.t.usec := by unfold State.setPstate; split <;> simp

@[simp] theorem State.mem_setPartner : (s.setPartner n).mem = s.mem := by simp [State.setPartner]
@[simp] theorem State.life_setPartner : (s.setPartner n).life = s.life := by simp [State.setPartner]
@[simp] theorem State.t_setPartner : (s.setPartner n).t = s.t := by simp [State.setPartner]
theorem State.reg_setPartner (h : a ≠ JL_STAT) : (s.setPartner n).reg a = s.reg a := by
  unfold State.setPartner; rw [State.reg_putInStep h, State.reg_put_other h]

@[simp] theorem State.mem_setCause : (s.setCause n).mem = s.mem := by unfold State.setCause; simp
@[simp] theorem State.life_setCause : (s.setCause n).life = s.life := by unfold State.setCause; simp
@[simp] theorem State.t_setCause : (s.setCause n).t = s.t := by unfold State.setCause; simp
theorem State.reg_setCause (h : a ≠ JL_CAUSE) (h2 : a ≠ JL_CAUSEB) (h3 : a ≠ ONX_LOST) : (s.setCause n).reg a = s.reg a := by
  unfold State.setCause; dsimp only
  rw [State.reg_trigNow h3, State.reg_setReg_other h2, State.reg_put_other h]

/-- Giving up control touches what a change of pair state does, the cause and its state, and ONX_LOST. -/
theorem State.reg_giveUp (h : a ∉ pairRegs) (h3 : a ≠ JL_CAUSE) (h4 : a ≠ JL_CAUSEB) (h5 : a ≠ ONX_LOST) :
    (s.giveUp n).reg a = s.reg a := by
  unfold State.giveUp
  split
  · split
    · dsimp only; show (s.setCause n).reg a = _; exact State.reg_setCause h3 h4 h5
    · rfl
  · split
    · rw [State.reg_setPstate h, State.reg_setCause h3 h4 h5]
    · rfl
@[simp] theorem State.mem_giveUp : (s.giveUp n).mem = s.mem := by unfold State.giveUp; split <;> (try split) <;> simp
@[simp] theorem State.life_giveUp : (s.giveUp n).life = s.life := by unfold State.giveUp; split <;> (try split) <;> simp
@[simp] theorem State.beat_giveUp : (s.giveUp n).t.beat = s.t.beat := by unfold State.giveUp; split <;> (try split) <;> simp
@[simp] theorem State.run_giveUp : (s.giveUp n).t.run = s.t.run := by unfold State.giveUp; split <;> (try split) <;> simp

@[simp] theorem State.mem_record (r : JRec) : (s.record r).mem = s.mem := by unfold State.record; split <;> rfl
@[simp] theorem State.life_record (r : JRec) : (s.record r).life = s.life := by unfold State.record; split <;> rfl
@[simp] theorem State.t_record (r : JRec) : (s.record r).t = s.t := by unfold State.record; split <;> rfl
@[simp] theorem State.regs_record (r : JRec) : (s.record r).regs = s.regs := by unfold State.record; split <;> rfl

/-! ### SAFE causes (R41, R553) -/

@[simp] theorem State.mem_showCause : s.showCause.mem = s.mem := by unfold State.showCause; split <;> simp
@[simp] theorem State.life_showCause : s.showCause.life = s.life := by unfold State.showCause; split <;> simp
@[simp] theorem State.t_showCause : s.showCause.t = s.t := by unfold State.showCause; split <;> simp
@[simp] theorem State.jl_showCause : s.showCause.jl = s.jl := by unfold State.showCause; split <;> simp
theorem State.reg_showCause (h : a ≠ SYS_MODE) : s.showCause.reg a = s.reg a := by
  unfold State.showCause; split
  · rfl
  · exact State.reg_put_other h

@[simp] theorem State.mem_causeOn : (s.causeOn n).mem = s.mem := by
  unfold State.causeOn; dsimp only; split <;> (try split) <;> (try split) <;> simp
@[simp] theorem State.beat_causeOn : (s.causeOn n).t.beat = s.t.beat := by
  unfold State.causeOn; dsimp only; split <;> (try split) <;> (try split) <;> simp
@[simp] theorem State.run_causeOn : (s.causeOn n).t.run = s.t.run := by
  unfold State.causeOn; dsimp only; split <;> (try split) <;> (try split) <;> simp
@[simp] theorem State.mem_causeOff : (s.causeOff n).mem = s.mem := by
  unfold State.causeOff; dsimp only; split <;> (try split) <;> simp
@[simp] theorem State.t_causeOff : (s.causeOff n).t = s.t := by
  unfold State.causeOff; dsimp only; split <;> (try split) <;> simp

/-! ### Register writes waiting (R33) -/

@[simp] theorem State.regs_consume : (s.consume a w).regs = s.regs := rfl
@[simp] theorem State.life_consume : (s.consume a w).life = s.life := rfl
@[simp] theorem State.t_consume : (s.consume a w).t = s.t := rfl
@[simp] theorem State.get_consume : (s.consume a w).get g = s.get g := rfl
@[simp] theorem State.flag_consume : (s.consume a w).flag g = s.flag g := rfl
@[simp] theorem State.reg_consume : (s.consume a w).reg b = s.reg b := rfl
@[simp] theorem State.sramAt_consume : (s.consume a w).sramAt b = s.sramAt b := rfl
@[simp] theorem State.mramAt_consume : (s.consume a w).mramAt b = s.mramAt b := rfl
@[simp] theorem State.sramPoison_consume : (s.consume a w).sramPoison b = s.sramPoison b := rfl
@[simp] theorem State.mramPoison_consume : (s.consume a w).mramPoison b = s.mramPoison b := rfl

/-! ### The end of a command -/

theorem act_up {p : State → State} (h : s.up = true) : act s p = .next (settle (p s)) := by simp [act, done, h]
theorem act_down {p : State → State} (h : s.up = false) : act s p = .next (settle s) := by simp [act, done, h]

end Sys2Proof.Machine
end

