-- ==== Sys2Proof/Laws/Units.lean ====
section
/-! SUPPORT. What each update of a unit's own record changes, and that it changes nothing else: the record reads back, every other
field of the state stays, and with them the registers and the words of memory. -/
namespace Sys2Proof.Machine

open Sys2Proof

variable {s : State} {f : Fld} {a : Nat}

section
variable {p : Nat} {y : PtpPort}

@[simp] theorem State.ptpOf_setPtp_same : (s.setPtp p y).ptpOf p = y := by simp [State.ptpOf, State.setPtp]
theorem State.ptpOf_setPtp_other {q : Nat} (h : q ≠ p) : (s.setPtp p y).ptpOf q = s.ptpOf q := by simp [State.ptpOf, State.setPtp, Tbl.getD_set_other h]
@[simp] theorem State.pending_setPtp : (s.setPtp p y).pending = s.pending := (rfl)
@[simp] theorem State.freeCtr_setPtp : (s.setPtp p y).freeCtr = s.freeCtr := (rfl)
@[simp] theorem State.regs_setPtp : (s.setPtp p y).regs = s.regs := (rfl)
@[simp] theorem State.life_setPtp : (s.setPtp p y).life = s.life := (rfl)
@[simp] theorem State.pins_setPtp : (s.setPtp p y).pins = s.pins := (rfl)
@[simp] theorem State.t_setPtp : (s.setPtp p y).t = s.t := (rfl)
@[simp] theorem State.mem_setPtp : (s.setPtp p y).mem = s.mem := (rfl)
@[simp] theorem State.hst_setPtp : (s.setPtp p y).hst = s.hst := (rfl)
@[simp] theorem State.onx_setPtp : (s.setPtp p y).onx = s.onx := (rfl)
@[simp] theorem State.jl_setPtp : (s.setPtp p y).jl = s.jl := (rfl)
@[simp] theorem State.cache_setPtp : (s.setPtp p y).cache = s.cache := (rfl)
@[simp] theorem State.chan_setPtp : (s.setPtp p y).chan = s.chan := (rfl)
@[simp] theorem State.isl_setPtp : (s.setPtp p y).isl = s.isl := (rfl)
@[simp] theorem State.tblLock_setPtp : (s.setPtp p y).tblLock = s.tblLock := (rfl)
@[simp] theorem State.cal_setPtp : (s.setPtp p y).cal = s.cal := (rfl)
@[simp] theorem State.bl_setPtp : (s.setPtp p y).bl = s.bl := (rfl)
@[simp] theorem State.alm_setPtp : (s.setPtp p y).alm = s.alm := (rfl)
@[simp] theorem State.opl_setPtp : (s.setPtp p y).opl = s.opl := (rfl)
@[simp] theorem State.lo_setPtp : (s.setPtp p y).lo = s.lo := (rfl)
@[simp] theorem State.dio_setPtp : (s.setPtp p y).dio = s.dio := (rfl)
@[simp] theorem State.spd_setPtp : (s.setPtp p y).spd = s.spd := (rfl)
@[simp] theorem State.clk_setPtp : (s.setPtp p y).clk = s.clk := (rfl)
@[simp] theorem State.img_setPtp : (s.setPtp p y).img = s.img := (rfl)
@[simp] theorem State.leg_setPtp : (s.setPtp p y).leg = s.leg := (rfl)
@[simp] theorem State.reg_setPtp : (s.setPtp p y).reg a = s.reg a := (rfl)
@[simp] theorem State.get_setPtp : (s.setPtp p y).get f = s.get f := (rfl)
@[simp] theorem State.flag_setPtp : (s.setPtp p y).flag f = s.flag f := (rfl)
@[simp] theorem State.sramAt_setPtp : (s.setPtp p y).sramAt a = s.sramAt a := (rfl)
@[simp] theorem State.mramAt_setPtp : (s.setPtp p y).mramAt a = s.mramAt a := (rfl)

end

section
variable {n : Nat} {y : DioS}

@[simp] theorem State.dioOf_setDio_same : (s.setDio n y).dioOf n = y := by simp [State.dioOf, State.setDio]
theorem State.dioOf_setDio_other {m : Nat} (h : m ≠ n) : (s.setDio n y).dioOf m = s.dioOf m := by simp [State.dioOf, State.setDio, Tbl.getD_set_other h]
@[simp] theorem State.pending_setDio : (s.setDio n y).pending = s.pending := (rfl)
@[simp] theorem State.freeCtr_setDio : (s.setDio n y).freeCtr = s.freeCtr := (rfl)
@[simp] theorem State.regs_setDio : (s.setDio n y).regs = s.regs := (rfl)
@[simp] theorem State.life_setDio : (s.setDio n y).life = s.life := (rfl)
@[simp] theorem State.pins_setDio : (s.setDio n y).pins = s.pins := (rfl)
@[simp] theorem State.t_setDio : (s.setDio n y).t = s.t := (rfl)
@[simp] theorem State.mem_setDio : (s.setDio n y).mem = s.mem := (rfl)
@[simp] theorem State.hst_setDio : (s.setDio n y).hst = s.hst := (rfl)
@[simp] theorem State.onx_setDio : (s.setDio n y).onx = s.onx := (rfl)
@[simp] theorem State.sn_setDio : (s.setDio n y).sn = s.sn := (rfl)
@[simp] theorem State.jl_setDio : (s.setDio n y).jl = s.jl := (rfl)
@[simp] theorem State.cache_setDio : (s.setDio n y).cache = s.cache := (rfl)
@[simp] theorem State.chan_setDio : (s.setDio n y).chan = s.chan := (rfl)
@[simp] theorem State.isl_setDio : (s.setDio n y).isl = s.isl := (rfl)
@[simp] theorem State.tblLock_setDio : (s.setDio n y).tblLock = s.tblLock := (rfl)
@[simp] theorem State.cal_setDio : (s.setDio n y).cal = s.cal := (rfl)
@[simp] theorem State.bl_setDio : (s.setDio n y).bl = s.bl := (rfl)
@[simp] theorem State.alm_setDio : (s.setDio n y).alm = s.alm := (rfl)
@[simp] theorem State.opl_setDio : (s.setDio n y).opl = s.opl := (rfl)
@[simp] theorem State.lo_setDio : (s.setDio n y).lo = s.lo := (rfl)
@[simp] theorem State.spd_setDio : (s.setDio n y).spd = s.spd := (rfl)
@[simp] theorem State.clk_setDio : (s.setDio n y).clk = s.clk := (rfl)
@[simp] theorem State.img_setDio : (s.setDio n y).img = s.img := (rfl)
@[simp] theorem State.leg_setDio : (s.setDio n y).leg = s.leg := (rfl)
@[simp] theorem State.reg_setDio : (s.setDio n y).reg a = s.reg a := (rfl)
@[simp] theorem State.get_setDio : (s.setDio n y).get f = s.get f := (rfl)
@[simp] theorem State.flag_setDio : (s.setDio n y).flag f = s.flag f := (rfl)
@[simp] theorem State.sramAt_setDio : (s.setDio n y).sramAt a = s.sramAt a := (rfl)
@[simp] theorem State.mramAt_setDio : (s.setDio n y).mramAt a = s.mramAt a := (rfl)

end

section
variable {n : Nat} {y : ChanS}

@[simp] theorem State.chanOf_setChan_same : (s.setChan n y).chanOf n = y := by simp [State.chanOf, State.setChan]
theorem State.chanOf_setChan_other {m : Nat} (h : m ≠ n) : (s.setChan n y).chanOf m = s.chanOf m := by simp [State.chanOf, State.setChan, Tbl.getD_set_other h]
@[simp] theorem State.pending_setChan : (s.setChan n y).pending = s.pending := (rfl)
@[simp] theorem State.freeCtr_setChan : (s.setChan n y).freeCtr = s.freeCtr := (rfl)
@[simp] theorem State.regs_setChan : (s.setChan n y).regs = s.regs := (rfl)
@[simp] theorem State.life_setChan : (s.setChan n y).life = s.life := (rfl)
@[simp] theorem State.pins_setChan : (s.setChan n y).pins = s.pins := (rfl)
@[simp] theorem State.t_setChan : (s.setChan n y).t = s.t := (rfl)
@[simp] theorem State.mem_setChan : (s.setChan n y).mem = s.mem := (rfl)
@[simp] theorem State.hst_setChan : (s.setChan n y).hst = s.hst := (rfl)
@[simp] theorem State.onx_setChan : (s.setChan n y).onx = s.onx := (rfl)
@[simp] theorem State.sn_setChan : (s.setChan n y).sn = s.sn := (rfl)
@[simp] theorem State.jl_setChan : (s.setChan n y).jl = s.jl := (rfl)
@[simp] theorem State.cache_setChan : (s.setChan n y).cache = s.cache := (rfl)
@[simp] theorem State.isl_setChan : (s.setChan n y).isl = s.isl := (rfl)
@[simp] theorem State.tblLock_setChan : (s.setChan n y).tblLock = s.tblLock := (rfl)
@[simp] theorem State.cal_setChan : (s.setChan n y).cal = s.cal := (rfl)
@[simp] theorem State.bl_setChan : (s.setChan n y).bl = s.bl := (rfl)
@[simp] theorem State.alm_setChan : (s.setChan n y).alm = s.alm := (rfl)
@[simp] theorem State.opl_setChan : (s.setChan n y).opl = s.opl := (rfl)
@[simp] theorem State.lo_setChan : (s.setChan n y).lo = s.lo := (rfl)
@[simp] theorem State.dio_setChan : (s.setChan n y).dio = s.dio := (rfl)
@[simp] theorem State.spd_setChan : (s.setChan n y).spd = s.spd := (rfl)
@[simp] theorem State.clk_setChan : (s.setChan n y).clk = s.clk := (rfl)
@[simp] theorem State.img_setChan : (s.setChan n y).img = s.img := (rfl)
@[simp] theorem State.leg_setChan : (s.setChan n y).leg = s.leg := (rfl)
@[simp] theorem State.reg_setChan : (s.setChan n y).reg a = s.reg a := (rfl)
@[simp] theorem State.get_setChan : (s.setChan n y).get f = s.get f := (rfl)
@[simp] theorem State.flag_setChan : (s.setChan n y).flag f = s.flag f := (rfl)
@[simp] theorem State.sramAt_setChan : (s.setChan n y).sramAt a = s.sramAt a := (rfl)
@[simp] theorem State.mramAt_setChan : (s.setChan n y).mramAt a = s.mramAt a := (rfl)

end

section
variable {n : Nat} {y : IslS}

@[simp] theorem State.islOf_setIsl_same : (s.setIsl n y).islOf n = y := by simp [State.islOf, State.setIsl]
theorem State.islOf_setIsl_other {m : Nat} (h : m ≠ n) : (s.setIsl n y).islOf m = s.islOf m := by simp [State.islOf, State.setIsl, Tbl.getD_set_other h]
@[simp] theorem State.pending_setIsl : (s.setIsl n y).pending = s.pending := (rfl)
@[simp] theorem State.freeCtr_setIsl : (s.setIsl n y).freeCtr = s.freeCtr := (rfl)
@[simp] theorem State.regs_setIsl : (s.setIsl n y).regs = s.regs := (rfl)
@[simp] theorem State.life_setIsl : (s.setIsl n y).life = s.life := (rfl)
@[simp] theorem State.pins_setIsl : (s.setIsl n y).pins = s.pins := (rfl)
@[simp] theorem State.t_setIsl : (s.setIsl n y).t = s.t := (rfl)
@[simp] theorem State.mem_setIsl : (s.setIsl n y).mem = s.mem := (rfl)
@[simp] theorem State.hst_setIsl : (s.setIsl n y).hst = s.hst := (rfl)
@[simp] theorem State.onx_setIsl : (s.setIsl n y).onx = s.onx := (rfl)
@[simp] theorem State.sn_setIsl : (s.setIsl n y).sn = s.sn := (rfl)
@[simp] theorem State.jl_setIsl : (s.setIsl n y).jl = s.jl := (rfl)
@[simp] theorem State.cache_setIsl : (s.setIsl n y).cache = s.cache := (rfl)
@[simp] theorem State.chan_setIsl : (s.setIsl n y).chan = s.chan := (rfl)
@[simp] theorem State.tblLock_setIsl : (s.setIsl n y).tblLock = s.tblLock := (rfl)
@[simp] theorem State.cal_setIsl : (s.setIsl n y).cal = s.cal := (rfl)
@[simp] theorem State.bl_setIsl : (s.setIsl n y).bl = s.bl := (rfl)
@[simp] theorem State.alm_setIsl : (s.setIsl n y).alm = s.alm := (rfl)
@[simp] theorem State.opl_setIsl : (s.setIsl n y).opl = s.opl := (rfl)
@[simp] theorem State.lo_setIsl : (s.setIsl n y).lo = s.lo := (rfl)
@[simp] theorem State.dio_setIsl : (s.setIsl n y).dio = s.dio := (rfl)
@[simp] theorem State.spd_setIsl : (s.setIsl n y).spd = s.spd := (rfl)
@[simp] theorem State.clk_setIsl : (s.setIsl n y).clk = s.clk := (rfl)
@[simp] theorem State.img_setIsl : (s.setIsl n y).img = s.img := (rfl)
@[simp] theorem State.leg_setIsl : (s.setIsl n y).leg = s.leg := (rfl)
@[simp] theorem State.reg_setIsl : (s.setIsl n y).reg a = s.reg a := (rfl)
@[simp] theorem State.get_setIsl : (s.setIsl n y).get f = s.get f := (rfl)
@[simp] theorem State.flag_setIsl : (s.setIsl n y).flag f = s.flag f := (rfl)
@[simp] theorem State.sramAt_setIsl : (s.setIsl n y).sramAt a = s.sramAt a := (rfl)
@[simp] theorem State.mramAt_setIsl : (s.setIsl n y).mramAt a = s.mramAt a := (rfl)

end

section
variable {n : Nat} {y : PtCache}

@[simp] theorem State.cacheOf_setCache_same : (s.setCache n y).cacheOf n = y := by simp [State.cacheOf, State.setCache]
theorem State.cacheOf_setCache_other {m : Nat} (h : m ≠ n) : (s.setCache n y).cacheOf m = s.cacheOf m := by simp [State.cacheOf, State.setCache, Tbl.getD_set_other h]
@[simp] theorem State.pending_setCache : (s.setCache n y).pending = s.pending := (rfl)
@[simp] theorem State.freeCtr_setCache : (s.setCache n y).freeCtr = s.freeCtr := (rfl)
@[simp] theorem State.regs_setCache : (s.setCache n y).regs = s.regs := (rfl)
@[simp] theorem State.life_setCache : (s.setCache n y).life = s.life := (rfl)
@[simp] theorem State.pins_setCache : (s.setCache n y).pins = s.pins := (rfl)
@[simp] theorem State.t_setCache : (s.setCache n y).t = s.t := (rfl)
@[simp] theorem State.mem_setCache : (s.setCache n y).mem = s.mem := (rfl)
@[simp] theorem State.hst_setCache : (s.setCache n y).hst = s.hst := (rfl)
@[simp] theorem State.onx_setCache : (s.setCache n y).onx = s.onx := (rfl)
@[simp] theorem State.sn_setCache : (s.setCache n y).sn = s.sn := (rfl)
@[simp] theorem State.jl_setCache : (s.setCache n y).jl = s.jl := (rfl)
@[simp] theorem State.chan_setCache : (s.setCache n y).chan = s.chan := (rfl)
@[simp] theorem State.isl_setCache : (s.setCache n y).isl = s.isl := (rfl)
@[simp] theorem State.tblLock_setCache : (s.setCache n y).tblLock = s.tblLock := (rfl)
@[simp] theorem State.cal_setCache : (s.setCache n y).cal = s.cal := (rfl)
@[simp] theorem State.bl_setCache : (s.setCache n y).bl = s.bl := (rfl)
@[simp] theorem State.alm_setCache : (s.setCache n y).alm = s.alm := (rfl)
@[simp] theorem State.opl_setCache : (s.setCache n y).opl = s.opl := (rfl)
@[simp] theorem State.lo_setCache : (s.setCache n y).lo = s.lo := (rfl)
@[simp] theorem State.dio_setCache : (s.setCache n y).dio = s.dio := (rfl)
@[simp] theorem State.spd_setCache : (s.setCache n y).spd = s.spd := (rfl)
@[simp] theorem State.clk_setCache : (s.setCache n y).clk = s.clk := (rfl)
@[simp] theorem State.img_setCache : (s.setCache n y).img = s.img := (rfl)
@[simp] theorem State.leg_setCache : (s.setCache n y).leg = s.leg := (rfl)
@[simp] theorem State.reg_setCache : (s.setCache n y).reg a = s.reg a := (rfl)
@[simp] theorem State.get_setCache : (s.setCache n y).get f = s.get f := (rfl)
@[simp] theorem State.flag_setCache : (s.setCache n y).flag f = s.flag f := (rfl)
@[simp] theorem State.sramAt_setCache : (s.setCache n y).sramAt a = s.sramAt a := (rfl)
@[simp] theorem State.mramAt_setCache : (s.setCache n y).mramAt a = s.mramAt a := (rfl)

end

section
variable {n : Nat} {y : AlmS}

@[simp] theorem State.almOf_setAlm_same : (s.setAlm n y).almOf n = y := by simp [State.almOf, State.setAlm]
theorem State.almOf_setAlm_other {m : Nat} (h : m ≠ n) : (s.setAlm n y).almOf m = s.almOf m := by simp [State.almOf, State.setAlm, Tbl.getD_set_other h]
@[simp] theorem State.pending_setAlm : (s.setAlm n y).pending = s.pending := (rfl)
@[simp] theorem State.freeCtr_setAlm : (s.setAlm n y).freeCtr = s.freeCtr := (rfl)
@[simp] theorem State.regs_setAlm : (s.setAlm n y).regs = s.regs := (rfl)
@[simp] theorem State.life_setAlm : (s.setAlm n y).life = s.life := (rfl)
@[simp] theorem State.pins_setAlm : (s.setAlm n y).pins = s.pins := (rfl)
@[simp] theorem State.t_setAlm : (s.setAlm n y).t = s.t := (rfl)
@[simp] theorem State.mem_setAlm : (s.setAlm n y).mem = s.mem := (rfl)
@[simp] theorem State.hst_setAlm : (s.setAlm n y).hst = s.hst := (rfl)
@[simp] theorem State.onx_setAlm : (s.setAlm n y).onx = s.onx := (rfl)
@[simp] theorem State.sn_setAlm : (s.setAlm n y).sn = s.sn := (rfl)
@[simp] theorem State.jl_setAlm : (s.setAlm n y).jl = s.jl := (rfl)
@[simp] theorem State.cache_setAlm : (s.setAlm n y).cache = s.cache := (rfl)
@[simp] theorem State.chan_setAlm : (s.setAlm n y).chan = s.chan := (rfl)
@[simp] theorem State.isl_setAlm : (s.setAlm n y).isl = s.isl := (rfl)
@[simp] theorem State.tblLock_setAlm : (s.setAlm n y).tblLock = s.tblLock := (rfl)
@[simp] theorem State.cal_setAlm : (s.setAlm n y).cal = s.cal := (rfl)
@[simp] theorem State.bl_setAlm : (s.setAlm n y).bl = s.bl := (rfl)
@[simp] theorem State.opl_setAlm : (s.setAlm n y).opl = s.opl := (rfl)
@[simp] theorem State.lo_setAlm : (s.setAlm n y).lo = s.lo := (rfl)
@[simp] theorem State.dio_setAlm : (s.setAlm n y).dio = s.dio := (rfl)
@[simp] theorem State.spd_setAlm : (s.setAlm n y).spd = s.spd := (rfl)
@[simp] theorem State.clk_setAlm : (s.setAlm n y).clk = s.clk := (rfl)
@[simp] theorem State.img_setAlm : (s.setAlm n y).img = s.img := (rfl)
@[simp] theorem State.leg_setAlm : (s.setAlm n y).leg = s.leg := (rfl)
@[simp] theorem State.reg_setAlm : (s.setAlm n y).reg a = s.reg a := (rfl)
@[simp] theorem State.get_setAlm : (s.setAlm n y).get f = s.get f := (rfl)
@[simp] theorem State.flag_setAlm : (s.setAlm n y).flag f = s.flag f := (rfl)
@[simp] theorem State.sramAt_setAlm : (s.setAlm n y).sramAt a = s.sramAt a := (rfl)
@[simp] theorem State.mramAt_setAlm : (s.setAlm n y).mramAt a = s.mramAt a := (rfl)

end

section
variable {n : Nat} {y : LoS}

@[simp] theorem State.loOf_setLo_same : (s.setLo n y).loOf n = y := by simp [State.loOf, State.setLo]
theorem State.loOf_setLo_other {m : Nat} (h : m ≠ n) : (s.setLo n y).loOf m = s.loOf m := by simp [State.loOf, State.setLo, Tbl.getD_set_other h]
@[simp] theorem State.pending_setLo : (s.setLo n y).pending = s.pending := (rfl)
@[simp] theorem State.freeCtr_setLo : (s.setLo n y).freeCtr = s.freeCtr := (rfl)
@[simp] theorem State.regs_setLo : (s.setLo n y).regs = s.regs := (rfl)
@[simp] theorem State.life_setLo : (s.setLo n y).life = s.life := (rfl)
@[simp] theorem State.pins_setLo : (s.setLo n y).pins = s.pins := (rfl)
@[simp] theorem State.t_setLo : (s.setLo n y).t = s.t := (rfl)
@[simp] theorem State.mem_setLo : (s.setLo n y).mem = s.mem := (rfl)
@[simp] theorem State.hst_setLo : (s.setLo n y).hst = s.hst := (rfl)
@[simp] theorem State.onx_setLo : (s.setLo n y).onx = s.onx := (rfl)
@[simp] theorem State.sn_setLo : (s.setLo n y).sn = s.sn := (rfl)
@[simp] theorem State.jl_setLo : (s.setLo n y).jl = s.jl := (rfl)
@[simp] theorem State.cache_setLo : (s.setLo n y).cache = s.cache := (rfl)
@[simp] theorem State.chan_setLo : (s.setLo n y).chan = s.chan := (rfl)
@[simp] theorem State.isl_setLo : (s.setLo n y).isl = s.isl := (rfl)
@[simp] theorem State.tblLock_setLo : (s.setLo n y).tblLock = s.tblLock := (rfl)
@[simp] theorem State.cal_setLo : (s.setLo n y).cal = s.cal := (rfl)
@[simp] theorem State.bl_setLo : (s.setLo n y).bl = s.bl := (rfl)
@[simp] theorem State.alm_setLo : (s.setLo n y).alm = s.alm := (rfl)
@[simp] theorem State.opl_setLo : (s.setLo n y).opl = s.opl := (rfl)
@[simp] theorem State.dio_setLo : (s.setLo n y).dio = s.dio := (rfl)
@[simp] theorem State.spd_setLo : (s.setLo n y).spd = s.spd := (rfl)
@[simp] theorem State.clk_setLo : (s.setLo n y).clk = s.clk := (rfl)
@[simp] theorem State.img_setLo : (s.setLo n y).img = s.img := (rfl)
@[simp] theorem State.leg_setLo : (s.setLo n y).leg = s.leg := (rfl)
@[simp] theorem State.reg_setLo : (s.setLo n y).reg a = s.reg a := (rfl)
@[simp] theorem State.get_setLo : (s.setLo n y).get f = s.get f := (rfl)
@[simp] theorem State.flag_setLo : (s.setLo n y).flag f = s.flag f := (rfl)
@[simp] theorem State.sramAt_setLo : (s.setLo n y).sramAt a = s.sramAt a := (rfl)
@[simp] theorem State.mramAt_setLo : (s.setLo n y).mramAt a = s.mramAt a := (rfl)

end

section
variable {n : Nat} {y : SpdS}

@[simp] theorem State.spdOf_setSpd_same : (s.setSpd n y).spdOf n = y := by simp [State.spdOf, State.setSpd]
theorem State.spdOf_setSpd_other {m : Nat} (h : m ≠ n) : (s.setSpd n y).spdOf m = s.spdOf m := by simp [State.spdOf, State.setSpd, Tbl.getD_set_other h]
@[simp] theorem State.pending_setSpd : (s.setSpd n y).pending = s.pending := (rfl)
@[simp] theorem State.freeCtr_setSpd : (s.setSpd n y).freeCtr = s.freeCtr := (rfl)
@[simp] theorem State.regs_setSpd : (s.setSpd n y).regs = s.regs := (rfl)
@[simp] theorem State.life_setSpd : (s.setSpd n y).life = s.life := (rfl)
@[simp] theorem State.pins_setSpd : (s.setSpd n y).pins = s.pins := (rfl)
@[simp] theorem State.t_setSpd : (s.setSpd n y).t = s.t := (rfl)
@[simp] theorem State.mem_setSpd : (s.setSpd n y).mem = s.mem := (rfl)
@[simp] theorem State.hst_setSpd : (s.setSpd n y).hst = s.hst := (rfl)
@[simp] theorem State.onx_setSpd : (s.setSpd n y).onx = s.onx := (rfl)
@[simp] theorem State.sn_setSpd : (s.setSpd n y).sn = s.sn := (rfl)
@[simp] theorem State.jl_setSpd : (s.setSpd n y).jl = s.jl := (rfl)
@[simp] theorem State.cache_setSpd : (s.setSpd n y).cache = s.cache := (rfl)
@[simp] theorem State.chan_setSpd : (s.setSpd n y).chan = s.chan := (rfl)
@[simp] theorem State.isl_setSpd : (s.setSpd n y).isl = s.isl := (rfl)
@[simp] theorem State.tblLock_setSpd : (s.setSpd n y).tblLock = s.tblLock := (rfl)
@[simp] theorem State.cal_setSpd : (s.setSpd n y).cal = s.cal := (rfl)
@[simp] theorem State.bl_setSpd : (s.setSpd n y).bl = s.bl := (rfl)
@[simp] theorem State.alm_setSpd : (s.setSpd n y).alm = s.alm := (rfl)
@[simp] theorem State.opl_setSpd : (s.setSpd n y).opl = s.opl := (rfl)
@[simp] theorem State.lo_setSpd : (s.setSpd n y).lo = s.lo := (rfl)
@[simp] theorem State.dio_setSpd : (s.setSpd n y).dio = s.dio := (rfl)
@[simp] theorem State.clk_setSpd : (s.setSpd n y).clk = s.clk := (rfl)
@[simp] theorem State.img_setSpd : (s.setSpd n y).img = s.img := (rfl)
@[simp] theorem State.leg_setSpd : (s.setSpd n y).leg = s.leg := (rfl)
@[simp] theorem State.reg_setSpd : (s.setSpd n y).reg a = s.reg a := (rfl)
@[simp] theorem State.get_setSpd : (s.setSpd n y).get f = s.get f := (rfl)
@[simp] theorem State.flag_setSpd : (s.setSpd n y).flag f = s.flag f := (rfl)
@[simp] theorem State.sramAt_setSpd : (s.setSpd n y).sramAt a = s.sramAt a := (rfl)
@[simp] theorem State.mramAt_setSpd : (s.setSpd n y).mramAt a = s.mramAt a := (rfl)

end

section
variable {y : Prep}

@[simp] theorem State.pending_setPrep : (s.setPrep y).pending = s.pending := (rfl)
@[simp] theorem State.freeCtr_setPrep : (s.setPrep y).freeCtr = s.freeCtr := (rfl)
@[simp] theorem State.regs_setPrep : (s.setPrep y).regs = s.regs := (rfl)
@[simp] theorem State.life_setPrep : (s.setPrep y).life = s.life := (rfl)
@[simp] theorem State.pins_setPrep : (s.setPrep y).pins = s.pins := (rfl)
@[simp] theorem State.t_setPrep : (s.setPrep y).t = s.t := (rfl)
@[simp] theorem State.mem_setPrep : (s.setPrep y).mem = s.mem := (rfl)
@[simp] theorem State.hst_setPrep : (s.setPrep y).hst = s.hst := (rfl)
@[simp] theorem State.onx_setPrep : (s.setPrep y).onx = s.onx := (rfl)
@[simp] theorem State.sn_setPrep : (s.setPrep y).sn = s.sn := (rfl)
@[simp] theorem State.jl_setPrep : (s.setPrep y).jl = s.jl := (rfl)
@[simp] theorem State.cache_setPrep : (s.setPrep y).cache = s.cache := (rfl)
@[simp] theorem State.chan_setPrep : (s.setPrep y).chan = s.chan := (rfl)
@[simp] theorem State.isl_setPrep : (s.setPrep y).isl = s.isl := (rfl)
@[simp] theorem State.tblLock_setPrep : (s.setPrep y).tblLock = s.tblLock := (rfl)
@[simp] theorem State.cal_setPrep : (s.setPrep y).cal = s.cal := (rfl)
@[simp] theorem State.bl_setPrep : (s.setPrep y).bl = s.bl := (rfl)
@[simp] theorem State.alm_setPrep : (s.setPrep y).alm = s.alm := (rfl)
@[simp] theorem State.opl_setPrep : (s.setPrep y).opl = s.opl := (rfl)
@[simp] theorem State.lo_setPrep : (s.setPrep y).lo = s.lo := (rfl)
@[simp] theorem State.dio_setPrep : (s.setPrep y).dio = s.dio := (rfl)
@[simp] theorem State.spd_setPrep : (s.setPrep y).spd = s.spd := (rfl)
@[simp] theorem State.clk_setPrep : (s.setPrep y).clk = s.clk := (rfl)
@[simp] theorem State.leg_setPrep : (s.setPrep y).leg = s.leg := (rfl)
@[simp] theorem State.reg_setPrep : (s.setPrep y).reg a = s.reg a := (rfl)
@[simp] theorem State.get_setPrep : (s.setPrep y).get f = s.get f := (rfl)
@[simp] theorem State.flag_setPrep : (s.setPrep y).flag f = s.flag f := (rfl)
@[simp] theorem State.sramAt_setPrep : (s.setPrep y).sramAt a = s.sramAt a := (rfl)
@[simp] theorem State.mramAt_setPrep : (s.setPrep y).mramAt a = s.mramAt a := (rfl)

end

section
variable {n : Nat} {x : Bool}

@[simp] theorem State.pending_setCond : (s.setCond n x).pending = s.pending := (rfl)
@[simp] theorem State.freeCtr_setCond : (s.setCond n x).freeCtr = s.freeCtr := (rfl)
@[simp] theorem State.regs_setCond : (s.setCond n x).regs = s.regs := (rfl)
@[simp] theorem State.pins_setCond : (s.setCond n x).pins = s.pins := (rfl)
@[simp] theorem State.t_setCond : (s.setCond n x).t = s.t := (rfl)
@[simp] theorem State.mem_setCond : (s.setCond n x).mem = s.mem := (rfl)
@[simp] theorem State.hst_setCond : (s.setCond n x).hst = s.hst := (rfl)
@[simp] theorem State.onx_setCond : (s.setCond n x).onx = s.onx := (rfl)
@[simp] theorem State.sn_setCond : (s.setCond n x).sn = s.sn := (rfl)
@[simp] theorem State.jl_setCond : (s.setCond n x).jl = s.jl := (rfl)
@[simp] theorem State.cache_setCond : (s.setCond n x).cache = s.cache := (rfl)
@[simp] theorem State.chan_setCond : (s.setCond n x).chan = s.chan := (rfl)
@[simp] theorem State.isl_setCond : (s.setCond n x).isl = s.isl := (rfl)
@[simp] theorem State.tblLock_setCond : (s.setCond n x).tblLock = s.tblLock := (rfl)
@[simp] theorem State.cal_setCond : (s.setCond n x).cal = s.cal := (rfl)
@[simp] theorem State.bl_setCond : (s.setCond n x).bl = s.bl := (rfl)
@[simp] theorem State.alm_setCond : (s.setCond n x).alm = s.alm := (rfl)
@[simp] theorem State.opl_setCond : (s.setCond n x).opl = s.opl := (rfl)
@[simp] theorem State.lo_setCond : (s.setCond n x).lo = s.lo := (rfl)
@[simp] theorem State.dio_setCond : (s.setCond n x).dio = s.dio := (rfl)
@[simp] theorem State.spd_setCond : (s.setCond n x).spd = s.spd := (rfl)
@[simp] theorem State.clk_setCond : (s.setCond n x).clk = s.clk := (rfl)
@[simp] theorem State.img_setCond : (s.setCond n x).img = s.img := (rfl)
@[simp] theorem State.leg_setCond : (s.setCond n x).leg = s.leg := (rfl)
@[simp] theorem State.reg_setCond : (s.setCond n x).reg a = s.reg a := (rfl)
@[simp] theorem State.get_setCond : (s.setCond n x).get f = s.get f := (rfl)
@[simp] theorem State.flag_setCond : (s.setCond n x).flag f = s.flag f := (rfl)
@[simp] theorem State.sramAt_setCond : (s.setCond n x).sramAt a = s.sramAt a := (rfl)
@[simp] theorem State.mramAt_setCond : (s.setCond n x).mramAt a = s.mramAt a := (rfl)

end

section
variable {y : JlLink}

@[simp] theorem State.pending_setLink : (s.setLink y).pending = s.pending := (rfl)
@[simp] theorem State.freeCtr_setLink : (s.setLink y).freeCtr = s.freeCtr := (rfl)
@[simp] theorem State.regs_setLink : (s.setLink y).regs = s.regs := (rfl)
@[simp] theorem State.life_setLink : (s.setLink y).life = s.life := (rfl)
@[simp] theorem State.pins_setLink : (s.setLink y).pins = s.pins := (rfl)
@[simp] theorem State.t_setLink : (s.setLink y).t = s.t := (rfl)
@[simp] theorem State.mem_setLink : (s.setLink y).mem = s.mem := (rfl)
@[simp] theorem State.hst_setLink : (s.setLink y).hst = s.hst := (rfl)
@[simp] theorem State.onx_setLink : (s.setLink y).onx = s.onx := (rfl)
@[simp] theorem State.sn_setLink : (s.setLink y).sn = s.sn := (rfl)
@[simp] theorem State.cache_setLink : (s.setLink y).cache = s.cache := (rfl)
@[simp] theorem State.chan_setLink : (s.setLink y).chan = s.chan := (rfl)
@[simp] theorem State.isl_setLink : (s.setLink y).isl = s.isl := (rfl)
@[simp] theorem State.tblLock_setLink : (s.setLink y).tblLock = s.tblLock := (rfl)
@[simp] theorem State.cal_setLink : (s.setLink y).cal = s.cal := (rfl)
@[simp] theorem State.bl_setLink : (s.setLink y).bl = s.bl := (rfl)
@[simp] theorem State.alm_setLink : (s.setLink y).alm = s.alm := (rfl)
@[simp] theorem State.opl_setLink : (s.setLink y).opl = s.opl := (rfl)
@[simp] theorem State.lo_setLink : (s.setLink y).lo = s.lo := (rfl)
@[simp] theorem State.dio_setLink : (s.setLink y).dio = s.dio := (rfl)
@[simp] theorem State.spd_setLink : (s.setLink y).spd = s.spd := (rfl)
@[simp] theorem State.clk_setLink : (s.setLink y).clk = s.clk := (rfl)
@[simp] theorem State.img_setLink : (s.setLink y).img = s.img := (rfl)
@[simp] theorem State.leg_setLink : (s.setLink y).leg = s.leg := (rfl)
@[simp] theorem State.reg_setLink : (s.setLink y).reg a = s.reg a := (rfl)
@[simp] theorem State.get_setLink : (s.setLink y).get f = s.get f := (rfl)
@[simp] theorem State.flag_setLink : (s.setLink y).flag f = s.flag f := (rfl)
@[simp] theorem State.sramAt_setLink : (s.setLink y).sramAt a = s.sramAt a := (rfl)
@[simp] theorem State.mramAt_setLink : (s.setLink y).mramAt a = s.mramAt a := (rfl)

end

section
variable {y : LegS}

@[simp] theorem State.pending_setLeg : (s.setLeg y).pending = s.pending := (rfl)
@[simp] theorem State.freeCtr_setLeg : (s.setLeg y).freeCtr = s.freeCtr := (rfl)
@[simp] theorem State.regs_setLeg : (s.setLeg y).regs = s.regs := (rfl)
@[simp] theorem State.life_setLeg : (s.setLeg y).life = s.life := (rfl)
@[simp] theorem State.pins_setLeg : (s.setLeg y).pins = s.pins := (rfl)
@[simp] theorem State.t_setLeg : (s.setLeg y).t = s.t := (rfl)
@[simp] theorem State.mem_setLeg : (s.setLeg y).mem = s.mem := (rfl)
@[simp] theorem State.hst_setLeg : (s.setLeg y).hst = s.hst := (rfl)
@[simp] theorem State.onx_setLeg : (s.setLeg y).onx = s.onx := (rfl)
@[simp] theorem State.sn_setLeg : (s.setLeg y).sn = s.sn := (rfl)
@[simp] theorem State.jl_setLeg : (s.setLeg y).jl = s.jl := (rfl)
@[simp] theorem State.cache_setLeg : (s.setLeg y).cache = s.cache := (rfl)
@[simp] theorem State.chan_setLeg : (s.setLeg y).chan = s.chan := (rfl)
@[simp] theorem State.isl_setLeg : (s.setLeg y).isl = s.isl := (rfl)
@[simp] theorem State.tblLock_setLeg : (s.setLeg y).tblLock = s.tblLock := (rfl)
@[simp] theorem State.cal_setLeg : (s.setLeg y).cal = s.cal := (rfl)
@[simp] theorem State.bl_setLeg : (s.setLeg y).bl = s.bl := (rfl)
@[simp] theorem State.alm_setLeg : (s.setLeg y).alm = s.alm := (rfl)
@[simp] theorem State.opl_setLeg : (s.setLeg y).opl = s.opl := (rfl)
@[simp] theorem State.lo_setLeg : (s.setLeg y).lo = s.lo := (rfl)
@[simp] theorem State.dio_setLeg : (s.setLeg y).dio = s.dio := (rfl)
@[simp] theorem State.spd_setLeg : (s.setLeg y).spd = s.spd := (rfl)
@[simp] theorem State.clk_setLeg : (s.setLeg y).clk = s.clk := (rfl)
@[simp] theorem State.img_setLeg : (s.setLeg y).img = s.img := (rfl)
@[simp] theorem State.reg_setLeg : (s.setLeg y).reg a = s.reg a := (rfl)
@[simp] theorem State.get_setLeg : (s.setLeg y).get f = s.get f := (rfl)
@[simp] theorem State.flag_setLeg : (s.setLeg y).flag f = s.flag f := (rfl)
@[simp] theorem State.sramAt_setLeg : (s.setLeg y).sramAt a = s.sramAt a := (rfl)
@[simp] theorem State.mramAt_setLeg : (s.setLeg y).mramAt a = s.mramAt a := (rfl)

end

section
variable {n : Nat} {y : LegPort}

@[simp] theorem State.portOf_setPort_same : (s.setPort n y).portOf n = y := by simp [State.portOf, State.setPort, State.setLeg]
theorem State.portOf_setPort_other {m : Nat} (h : m ≠ n) : (s.setPort n y).portOf m = s.portOf m := by
  simp [State.portOf, State.setPort, State.setLeg, Tbl.getD_set_other h]
theorem State.reg_setPort (h : a ≠ LEG_PST n) : (s.setPort n y).reg a = s.reg a := by
  unfold State.setPort; rw [State.reg_put_other h, State.reg_put_other h]; rfl
@[simp] theorem State.pending_setPort : (s.setPort n y).pending = s.pending := by simp [State.setPort]
@[simp] theorem State.freeCtr_setPort : (s.setPort n y).freeCtr = s.freeCtr := by simp [State.setPort]
@[simp] theorem State.life_setPort : (s.setPort n y).life = s.life := by simp [State.setPort]
@[simp] theorem State.pins_setPort : (s.setPort n y).pins = s.pins := by simp [State.setPort]
@[simp] theorem State.t_setPort : (s.setPort n y).t = s.t := by simp [State.setPort]
@[simp] theorem State.mem_setPort : (s.setPort n y).mem = s.mem := by simp [State.setPort]
@[simp] theorem State.hst_setPort : (s.setPort n y).hst = s.hst := by simp [State.setPort]
@[simp] theorem State.onx_setPort : (s.setPort n y).onx = s.onx := by simp [State.setPort]
@[simp] theorem State.sn_setPort : (s.setPort n y).sn = s.sn := by simp [State.setPort]
@[simp] theorem State.jl_setPort : (s.setPort n y).jl = s.jl := by simp [State.setPort]
@[simp] theorem State.cache_setPort : (s.setPort n y).cache = s.cache := by simp [State.setPort]
@[simp] theorem State.chan_setPort : (s.setPort n y).chan = s.chan := by simp [State.setPort]
@[simp] theorem State.isl_setPort : (s.setPort n y).isl = s.isl := by simp [State.setPort]
@[simp] theorem State.tblLock_setPort : (s.setPort n y).tblLock = s.tblLock := by simp [State.setPort]
@[simp] theorem State.cal_setPort : (s.setPort n y).cal = s.cal := by simp [State.setPort]
@[simp] theorem State.bl_setPort : (s.setPort n y).bl = s.bl := by simp [State.setPort]
@[simp] theorem State.alm_setPort : (s.setPort n y).alm = s.alm := by simp [State.setPort]
@[simp] theorem State.opl_setPort : (s.setPort n y).opl = s.opl := by simp [State.setPort]
@[simp] theorem State.lo_setPort : (s.setPort n y).lo = s.lo := by simp [State.setPort]
@[simp] theorem State.dio_setPort : (s.setPort n y).dio = s.dio := by simp [State.setPort]
@[simp] theorem State.spd_setPort : (s.setPort n y).spd = s.spd := by simp [State.setPort]
@[simp] theorem State.clk_setPort : (s.setPort n y).clk = s.clk := by simp [State.setPort]
@[simp] theorem State.img_setPort : (s.setPort n y).img = s.img := by simp [State.setPort]

end

end Sys2Proof.Machine
end

