-- ==== Sys2Proof/WellFormed.lean ====
section
/-! DEFINITION. Which operands the hardware can bring to a command: the lengths, field widths and code ranges that the rules
fix for frames, telegrams and records. Every command has a meaning whatever its operands are; a well-formed one is one that
the wire, the port or the engine named by its rule can produce. -/
namespace Sys2Proof

open Sys2Proof.Machine

namespace WellFormed

/-- One record of a crosslink frame fits its first word: RTYPE, PHASE, the type field, and NW further words (R389). -/
def record (r : JRec) : Bool := r.rtype < 16 && r.phase < 4 && r.typ < 2 ^ 24 && r.words.length < 64

/-- Words that the records of a frame take. -/
def recordWords (l : List JRec) : Nat := (l.map (fun r => r.words.length + 1)).foldl (· + ·) 0

/-- The fields of a crosslink frame fit their places, and LEN is at most 256, of which 13 words hold no record (R388). -/
def frame (f : JFrame) : Bool :=
  f.kind < 16 && f.unit < 2 && f.pstate < 16 && f.ldig < 2 ^ 32 && f.edig < 2 ^ 32 && f.pseq < 2 ^ 32
    && (-2 ^ 34 ≤ f.step && f.step < 2 ^ 34) && f.recs.all record && recordWords f.recs ≤ 243

/-- N of a Shaone datagram is 6 to 324 (R356), its end-to-end check follows its words (R357), and TYPE (word 0, bits 31:28; R358) is
one of a command's types. -/
def telegram (types : List Nat) (t : List Word) : Bool :=
  7 ≤ t.length && t.length ≤ 325 && types.contains ((t.headD 0).toNat / 2 ^ 28 % 16)

/-- A REQUEST telegram with an operation (R366): OP in word 6, bits 35:32. -/
def request (op : Nat) (t : List Word) : Bool := telegram [7] t && (t.getD 6 0).toNat / 2 ^ 32 == op

/-- A frame of the legacy alarm bus: 8 bytes about a body of at most 48 (R523). -/
def legacyFrame (f : List Byte) : Bool := 8 ≤ f.length && f.length ≤ 56

/-- The opcodes of the host port (R477). -/
def hostOpcodes : List Byte := [0x03, 0x0B, 0x02, 0x12, 0x22, 0x32, 0x13, 0x1A, 0x05, 0x9F]

/-- Bit patterns found by one scan: at most one at an address. -/
def upsets : List UpsetAt → Bool
  | [] => true
  | u :: r => r.all (fun v => v.addr != u.addr) && upsets r

end WellFormed

/-- The operands of a command are ones the hardware can bring. -/
def Instr.wellFormed : Instr → Bool
  | .powerOn => true
  | .alwaysOnSettled => true
  | .coldResetEnd _ _ _ => true
  | .islandsPowered => true
  | .pinReset => true
  | .deferredResetStart => true
  | .resetHoldEnd => true
  | .brownoutWarning => true
  | .brownoutEnd => true
  | .brownoutSafeTimeout => true
  | .powerFailStop => true
  | .mramExamination => true
  | .onyxStartupScanEnd => true
  | .beatTick _ => true
  | .roundBoundary _ _ _ ups => WellFormed.upsets ups
  | .beatCounterWrap _ => true
  | .ppsOutFall => true
  | .ppsInEdge _ => true
  | .nodeTimeStep => true
  | .holdoverExpiry => true
  | .armModeChange _ _ => true
  | .armRoleSwap _ _ => true
  | .armTableSync _ _ => true
  | .armOutputCommit _ _ => true
  | .armScanStart _ _ => true
  | .armRecorderMark _ _ => true
  | .armInvalidAction _ _ => true
  | .launchCancel _ => true
  | .modeChange _ => true
  | .roleSwap _ => true
  | .roleSwapStandby _ => true
  | .tableSync _ => true
  | .outputCommit _ => true
  | .scanStart _ => true
  | .recorderMark _ => true
  | .interconnectRequest _ _ _ _ => true
  | .handshakeTimeout _ _ _ => true
  | .islandSupplyLoss _ => true
  | .islandHandshakeRestore _ => true
  | .mramPatrol ups => WellFormed.upsets ups
  | .latticeParityFail => true
  | .safeEntry => true
  | .watchdogExpiry => true
  | .watchdogSafeTimeout => true
  | .tsyncWrite _ _ => true
  | .entryReload _ _ => true
  | .reloadRetry _ _ => true
  | .valueStale _ => true
  | .conversionComplete _ _ _ _ _ _ _ => true
  | .comparatorAccept _ _ => true
  | .cjMeasurement _ _ => true
  | .fiStrigWrite _ _ => true
  | .scanPeriodTick _ _ => true
  | .fiStrobeLoss _ => true
  | .fiStrobeRestore _ => true
  | .sourceHoldExpiry _ => true
  | .calCapturePoint1 => true
  | .calCapturePoint2 => true
  | .captureComplete => true
  | .captureTimeout => true
  | .calComputeOffset => true
  | .calComputeTwoPoint => true
  | .calClearRecord => true
  | .calDiscard => true
  | .calWinWrite _ _ => true
  | .calCommit => true
  | .calCommitRun => true
  | .calCommitComplete _ => true
  | .calBankEffect => true
  | .latticeWave => true
  | .ondlyExpiry _ => true
  | .offdlyExpiry _ => true
  | .inhibitExpiry _ => true
  | .edgeStretchExpiry _ => true
  | .countWindowExpiry _ => true
  | .cellForceWrite _ _ => true
  | .hostSignalWrite _ _ => true
  | .alarmOnDelayExpiry _ => true
  | .alarmOffDelayExpiry _ => true
  | .ackPoint _ => true
  | .ackGroup _ => true
  | .shelve _ _ => true
  | .unshelve _ => true
  | .firstOutReset _ => true
  | .outOfService _ => true
  | .returnToService _ => true
  | .ackAll => true
  | .shelvingExpiry _ => true
  | .almTsyncWrite _ _ => true
  | .opalStageEscalation => true
  | .attendTimeExpiry => true
  | .deadmanIntervalExpiry => true
  | .deadmanPrewarnExpiry => true
  | .deadmanBlinkToggle => true
  | .opalAccept _ => true
  | .opalDeadmanReset => true
  | .opalSetDuty _ => true
  | .opalSetAway _ => true
  | .opalCancel => true
  | .oplTsyncWrite => true
  | .callTelegramForm => true
  | .loopRholdExpiry _ => true
  | .sinkChangeHoldEnd _ => true
  | .loopReadback _ _ _ _ _ => true
  | .loopFaultRaise _ _ => true
  | .loopFaultClear _ _ => true
  | .miswireRetestEnd _ _ => true
  | .fskRequest _ _ => true
  | .fskTransmitStart _ => true
  | .fskTransmitEnd _ => true
  | .fskCarrierDetect _ => true
  | .fskFrameReceive _ f _ _ => f.length ≤ 265
  | .fskReplyTimeout _ => true
  | .fskCollision _ => true
  | .dioInputAccept _ => true
  | .dioChatterEntry _ => true
  | .dioChatterExit _ => true
  | .dioStuckDetect _ => true
  | .dioBlankingEnd _ => true
  | .dioClampOnset _ => true
  | .dioOutputTrip _ _ _ => true
  | .dioDiagFault _ _ _ => true
  | .groupUvChange _ _ _ => true
  | .dioTripClear _ => true
  | .dioOfltWrite _ => true
  | .pwmReload _ => true
  | .pwmGateClose _ => true
  | .dioDutyWrite _ _ => true
  | .speedEdgeAccept _ _ _ _ _ => true
  | .standstillTimeout _ => true
  | .overrangeWindowEnd _ => true
  | .speedWiringFault _ _ _ => true
  | .speedMirrorWrite _ => true
  | .ssiFrameStart _ => true
  | .ssiFrameEnd _ _ _ => true
  | .tachtExpiry _ => true
  | .shipLinkUp _ _ _ => true
  | .shipLinkDown _ => true
  | .linkModeAlternate _ => true
  | .arpRequestRx _ _ _ => true
  | .igmpQueryRx _ _ => true
  | .ptpAnnounceRx _ _ _ _ _ _ => true
  | .ptpSyncRx _ _ _ _ _ _ => true
  | .ptpDelayRespRx _ _ _ _ _ => true
  | .ptpDelayReqSend _ => true
  | .ptpAnnounceTimeout _ => true
  | .valuesForm _ => true
  | .signalsForm => true
  | .sigstateForm => true
  | .alarmTelegramForm => true
  | .statusForm => true
  | .telegramTransmit => true
  | .signalsRx t _ _ => WellFormed.telegram [2] t
  | .sigstateRx t _ _ => WellFormed.telegram [3] t
  | .statusRx t => WellFormed.telegram [6] t
  | .otherTelegramRx t => WellFormed.telegram [1, 4, 5, 7, 8] t
  | .requestArmRx t => WellFormed.request 1 t
  | .requestAlmcmdRx t => WellFormed.request 2 t
  | .requestOplcmdRx t => WellFormed.request 3 t
  | .requestReadRx t => WellFormed.request 4 t
  | .requestReadrecRx t => WellFormed.request 5 t
  | .rxsigStale _ => true
  | .crosslinkFrameRx _ f _ => WellFormed.frame f
  | .carryRecordRx _ _ _ => true
  | .cmdRecordRx _ _ _ _ => true
  | .armRecordRx _ _ _ _ => true
  | .stateRecordRx _ _ l => 1 ≤ l.length && l.length ≤ 63
  | .joinRecordRx _ => true
  | .verdRecordRx _ _ => true
  | .replayMissing => true
  | .disagreementRaise _ => true
  | .disagreementClear _ => true
  | .witnessSend => true
  | .witnessRx _ => true
  | .witnessSilent => true
  | .crosslinkSilence => true
  | .releaseControl => true
  | .standbyTakeover => true
  | .refereeSelfCheckEnd _ => true
  | .refereeWindowOpen => true
  | .refereeVerdict => true
  | .observerTakeover => true
  | .autoSwapArm => true
  | .postSwapCheckEnd => true
  | .probationEnd => true
  | .seekTimeout => true
  | .sleepEntry => true
  | .wakeUp => true
  | .wakeGuardTimeout => true
  | .wakeSearchTimeout => true
  | .sleepPartitionTimeout => true
  | .jlGiveup => true
  | .jlResync => true
  | .jlSwapArm => true
  | .onyxSnapshot => true
  | .onyxRecordWrite => true
  | .onyxRecordWriteEnd => true
  | .oprHourRecord => true
  | .onxHtrigWrite _ => true
  | .onxRdselWrite _ _ => true
  | .onyxCopyComplete => true
  | .onxChallengeRequest _ => true
  | .onxChallengeReady => true
  | .onxClearCommand => true
  | .onyxClearStart => true
  | .onyxClearComplete => true
  | .onxChallengeLapse => true
  | .onxLockoutEnd => true
  | .calendarSecond => true
  | .oscillatorStop => true
  | .calendarDomainStart => true
  | .calendarSupplyChange _ _ => true
  | .clkSet => true
  | .clkShift _ => true
  | .clkCapture => true
  | .clkWindow => true
  | .rateWindowEnd _ => true
  | .imgOpen => true
  | .imgWdataWrite _ => true
  | .imgVerify => true
  | .imgVerifyComplete => true
  | .imgAbort => true
  | .imgApply => true
  | .imgCommit => true
  | .imageCommitRun => true
  | .imageCommitComplete _ => true
  | .imagePreparation => true
  | .imageApply _ => true
  | .safecellFirstResult => true
  | .imgKeyChallengeRequest _ => true
  | .imgKeyChallengeReady => true
  | .keySet => true
  | .keyRemove => true
  | .keyCommandRun => true
  | .hostRead _ _ ups => WellFormed.upsets ups
  | .hostReadChecked _ _ _ ups => WellFormed.upsets ups
  | .hostWrite _ _ => true
  | .hostWriteChecked _ _ _ => true
  | .hostWriteFixed _ _ => true
  | .hostWriteFixedChecked _ _ _ => true
  | .hostReadLock _ _ ups => WellFormed.upsets ups
  | .hostWriteUnlock _ _ _ _ => true
  | .hostReadStatus => true
  | .hostReadId => true
  | .hostBadOpcode op => !WellFormed.hostOpcodes.contains op
  | .hostCsRise _ _ ups => WellFormed.upsets ups
  | .hostWriteExecute => true
  | .registerWrite _ _ => true
  | .keyWordWrite _ _ => true
  | .keySequenceExpiry _ => true
  | .lockBreak => true
  | .lockRelease => true
  | .mgRead _ n ups => 1 ≤ n.toNat && n.toNat ≤ 32 && WellFormed.upsets ups
  | .mgWrite _ l _ => 1 ≤ l.length && l.length ≤ 32
  | .mgStatus => true
  | .mgBusStuck => true
  | .mgHoldoffEnd => true
  | .tapReset => true
  | .jtagExtest => true
  | .jtagSamplePreload => true
  | .jtagIdcode => true
  | .jtagClamp => true
  | .jtagHighz => true
  | .jtagDbgacc => true
  | .jtagDbgctl => true
  | .jtagBypass => true
  | .debugRead _ ups => WellFormed.upsets ups
  | .debugWrite _ _ => true
  | .debugHalt => true
  | .debugResume => true
  | .sysEnterSafe => true
  | .sysSafeExit => true
  | .sysWarmReset => true
  | .sysSoftReset => true
  | .sysHaltokSet => true
  | .sysHaltokClear => true
  | .sysInvalidCmd w => w == 0 || 6 < w.toNat
  | .legacyRead _ _ _ => true
  | .legacyWrite _ _ => true
  | .legacyCsRise _ => true
  | .legacyWriteExecute => true
  | .qmodeWrite _ => true
  | .qcmdAckPoint _ => true
  | .qcmdAckGroup _ => true
  | .qcmdAckAll => true
  | .qcmdResetFirstOut _ => true
  | .qcmdHornSilence => true
  | .qcmdInvalid _ => true
  | .hornSilenceEnd => true
  | .qtimeWrite _ => true
  | .qhiWrite _ _ => true
  | .qloWrite _ _ => true
  | .qdlyWrite _ _ => true
  | .qdlyRewrite => true
  | .legacyAlarmRx _ f => WellFormed.legacyFrame f
  | .legacyHeartbeatRx _ f => WellFormed.legacyFrame f
  | .legacyAckRx _ f => WellFormed.legacyFrame f
  | .legacyValueRx _ f => WellFormed.legacyFrame f
  | .legacyTimeRx _ f => WellFormed.legacyFrame f
  | .legacyAlarmForm => true
  | .legacyHeartbeatForm => true
  | .legacyValueForm => true
  | .legacyTransmitStart _ => true
  | .legacyStartDefer _ => true
  | .legacyCollision _ => true
  | .legacyTransmitEnd _ => true
  | .legacyLineStuck _ => true
  | .legacyDriverTestEnd _ _ => true
  | .legacyStuckClear _ => true
  | .loopSupplyOutOfLimits _ => true
  | .comparatorCrossing _ _ m => m.toNat ≤ 2 ^ 23
  | .dioRawChange _ _ => true
  | .speedRawTransition _ _ _ => true
  | .dioClampEnd _ => true
  | .crosslinkBlockLock _ _ => true
  | .crosslinkFrameDiscard _ => true
  | .witnessBadWord => true
  | .datagramDiscard _ => true
  | .legacyFrameError _ => true
  | .ptpFollowUpRx _ _ _ _ _ => true
  | .imgKeyChallengeLapse => true
  | .imgKeyLockoutEnd => true
  | .cellChargeChange _ => true

end Sys2Proof
end

