-- ==== Sys2Proof/Tests/Slice0.lean ====
section
/-! SUPPORT. Checks of the model's own text: ill-formed commands are refused, no word of the table spells a command, a few
results that the spec works out, and for every statement with hypotheses a machine and operands that meet them. -/
namespace Sys2Proof.Tests

open Sys2Proof Sys2Proof.Machine

set_option Elab.async false

/-! ### Small machines -/

/-- A machine with some register fields put to values. -/
def put (s : State) (l : List (Fld × Nat)) : State := l.foldl (fun (s : State) (p : Fld × Nat) => s.put p.1 p.2) s

/-- The machine of reset at a step of its start. -/
def bootAt (b : Boot) : State := { State.reset with life := { State.reset.life with boot := b } }

/-- A running node in RUN, every island used and alive. -/
def live : State :=
  put (bootAt .powered) [(SYS_MODE.MODE, 0), (SYS_MODE.STARTING, 0), (SYS_ISTAT.ALIVE, 2 ^ 29 - 1), (SYS_IUSE.USE, 2 ^ 29 - 1)]

/-- The same at another time. -/
def liveAt (t : TimeS) : State := { live with t := t }

/-- The same with other words of SRAM. -/
def liveMem (l : List (Nat × Word)) : State := l.foldl (fun (s : State) (p : Nat × Word) => s.setSram p.1 p.2) live

/-! ### Machines that meet the hypotheses of the statements: life cycle, time, launch -/

theorem wit_CommandsRunFirstInFirstOut : { live with pending := [.clkSet] }.pending = Instr.clkSet :: [] ∧ live.pending = [] := by decide

theorem wit_StepsKeepPinsInOrder : (settle live).pinsAgree := by unfold State.pinsAgree; decide

theorem wit_ColdStartSteps : State.reset.life.boot = .off ∧ (bootAt .settling).life.boot = .settling
    ∧ (bootAt .settled).life.boot = .settled ∧ (bootAt .timed).life.boot = .timed ∧ (bootAt .timed).life.held = 0 := by decide

def deferred (c : Nat) : State := { live with life := { live.life with deferred := some (c, 0) } }

/-- The node at a beat count. -/
def liveRun (n : Nat) : State := liveAt { live.t with run := n }

def heldFor (c n : Nat) : State := { liveRun n with life := { live.life with held := c } }

theorem wit_ResetsBegin : live.life.boot = .powered ∧ (bootAt .timed).life.boot = .timed
    ∧ (bootAt .settling).life.boot = .settling ∧ (bootAt .settled).life.boot = .settled
    ∧ (∀ c ∈ [4, 5, 6], (deferred c).up = true ∧ (deferred c).life.deferred = some (c, 0) ∧ 0 ≤ (deferred c).t.run)
    ∧ (∀ c ∈ [4, 5, 6], (heldFor c (holdBeats c)).life.held ≠ 0 ∧ holdBeats c ≤ (heldFor c (holdBeats c)).since 0
        ∧ (heldFor c (holdBeats c)).timed = true ∧ (heldFor c 0).since 0 < holdBeats c)
    ∧ (put live [(JL_STAT.PSTATE, 8)]).up = true ∧ (put live [(JL_STAT.PSTATE, 8)]).pstate = 8 ∧ live.pstate ≠ 8
    ∧ live.up = true ∧ live.life.examined = false ∧ live.alive 26 = true := by decide

def warnedFor (n : Nat) : State := { liveRun n with life := { live.life with warn := true } }

theorem wit_SupplyFailingAndReturning : live.life.boot ≠ .off ∧ live.life.warn = false ∧ (warnedFor 1000).life.boot ≠ .off
    ∧ (warnedFor 1000).life.warn = true ∧ (warnedFor 1000).timed = true ∧ (warnedFor 1000).holds 6 = false
    ∧ 1000 ≤ (warnedFor 1000).since (warnedFor 1000).life.warnAt ∧ (warnedFor 1999).since (warnedFor 1999).life.warnAt < 2000
    ∧ 2000 ≤ (warnedFor 2000).since (warnedFor 2000).life.warnAt
    ∧ (warnedFor 19999).since (warnedFor 19999).life.warnAt < 20000 ∧ 20000 ≤ (warnedFor 20000).since (warnedFor 20000).life.warnAt := by decide

theorem wit_NodeTimeAdvances : live.timed = true ∧ live.t.disc.stepPend = none ∧ live.t.usec < 999999
    ∧ (liveAt { live.t with usec := 999999 }).timed = true ∧ (liveAt { live.t with usec := 999999 }).t.usec = 999999
    ∧ (liveAt { live.t with beat := 68719476735#36 }).t.beat = 68719476735#36
    ∧ (liveAt { live.t with beat := 68719476735#36, usec := 999999 }).t.usec = 999999 := by decide

def stepping (d : Int) : State := liveAt { live.t with disc := { live.t.disc with stepPend := some d } }

theorem wit_TimeStepsKeepRoundEpoch : live.t.inOrder ∧ live.timed = true ∧ live.t.due = false ∧ live.t.usec < 999999
    ∧ (liveAt { live.t with beat := 999999, usec := 999999 }).t.inOrder ∧ (liveAt { live.t with due := true }).t.inOrder
    ∧ (liveAt { live.t with due := true }).t.due = true ∧ (liveAt { live.t with due := true }).t.usec = 0
    ∧ (bootAt .settled).life.boot = .settled
    ∧ (stepping 7).up = true ∧ (stepping 7).t.disc.stepPend = some 7 ∧ (stepping 7).t.usec = 0 ∧ (stepping 7).t.phase = 0 := by
  unfold TimeS.inOrder; decide

def ppsAt (n : Nat) : State := liveAt { live.t with run := n, disc := { live.t.disc with ppsLast := some 0 } }

/-- In holdover since the first beat, HOLDOVER one round, at a beat count. -/
def holding (n : Nat) : State := put (liveRun n) [(TIM_DSTAT.HOLD, 1), (TIM_DSTAT.TRUST, 1), (TIM_DISC.HOLDOVER, 1)]

theorem wit_NodeTimeStepAndPulses : (stepping (-5)).up = true ∧ (stepping (-5)).t.disc.stepPend = some (-5) ∧ (stepping (-5)).t.usec = 0
    ∧ (stepping (-5)).t.phase = 0 ∧ (∀ n : Fin 16, (stepping (-5)).armedSlot n = false) ∧ live.t.disc.stepPend = none
    ∧ (holding 1000000).up = true ∧ (holding 1000000).flag TIM_DSTAT.HOLD = true ∧ (holding 1000000).flag TIM_DSTAT.TRUST = true
    ∧ (holding 1000000).lockTrusted (holding 1000000).source54 = false
    ∧ (holding 1000000).get TIM_DISC.HOLDOVER * 1000000 ≤ (holding 1000000).since (holding 1000000).t.disc.holdAt
    ∧ (holding 999999).since (holding 999999).t.disc.holdAt < (holding 999999).get TIM_DISC.HOLDOVER * 1000000
    ∧ (holding 999999).lockTrusted (holding 999999).source54 = false
    ∧ (ppsAt 999900).t.disc.ppsLast = some 0 ∧ (ppsAt 1000100).since 0 ≤ 1000100
    ∧ ¬(999900 ≤ (ppsAt 999899).since 0 ∧ (ppsAt 999899).since 0 ≤ 1000100) := by decide

/-- A target and an argument in TIM_LTGT and TIM_LARG. -/
def aimed (target arg : Word) : State := (live.setReg TIM_LTGT target).setReg TIM_LARG arg

theorem wit_LaunchTargetTest : (aimed 7 0).up = true ∧ ((aimed 7 0).reg TIM_LTGT - (aimed 7 0).t.beat).toNat < 8
    ∧ 2 ^ 35 ≤ ((aimed 34359738368 0).reg TIM_LTGT - (aimed 34359738368 0).t.beat).toNat
    ∧ 8 ≤ ((aimed 8 0).reg TIM_LTGT - (aimed 8 0).t.beat).toNat
    ∧ ((aimed 8 0).reg TIM_LTGT - (aimed 8 0).t.beat).toNat < (aimed 8 0).minlead 1 := by decide

theorem wit_ArmingTakesASlot : (aimed 60000 0).up = true
    ∧ (∀ scope ∈ [0, 1, 2], targetTest ((aimed 60000000 0).reg TIM_LTGT) (aimed 60000000 0).t.beat ((aimed 60000000 0).minlead scope) = 0)
    ∧ (aimed 60000 0).mode ≠ 3 ∧ (aimed 60000 0).starting = false ∧ fld ((aimed 60000 0).reg TIM_LARG) 1 0 ≠ 3
    ∧ (aimed 60000 0).reg TIM_LARG = (aimed 60000 0).reg JL_EPOCH
    ∧ (∀ action ∈ [0, 1, 2, 3, 4, 5], (aimed 60000 0).slotFor action = some (0, false)) := by decide

/-- Slot n armed with an action, due. -/
def slotted (n action : Nat) : State := put live [(TIM_SLOT_W1.STATE n, 1), (TIM_SLOT_W1.ACTION n, action)]

theorem wit_ArmRefusalsAndCancel : (put live [(SYS_MODE.MODE, 3)]).mode = 3 ∧ (put live [(SYS_MODE.MODE, 3)]).up = true
    ∧ fld ((put live [(SYS_MODE.MODE, 3)]).reg TIM_LARG) 1 0 ≠ 3 ∧ (aimed 0 1).reg TIM_LARG ≠ (aimed 0 1).reg JL_EPOCH
    ∧ (slotted 0 0).armedSlot (fld ((slotted 0 0).reg TIM_LARG) 3 0) = true ∧ live.armedSlot (fld (live.reg TIM_LARG) 3 0) = false := by decide

theorem wit_LaunchesExecuteDueSlot : ∀ action ∈ [0, 1, 2, 3, 4, 5], (slotted 15 action).up = true ∧ (slotted 15 action).pstate ≠ 5
    ∧ (slotted 15 action).dueSlots.head? = some 15
    ∧ (slotted 15 action).get (TIM_SLOT_W1.ACTION 15) = action
    ∧ (slotted 15 action).alive 23 = true ∧ (slotted 15 action).pstate ≠ 2 := by decide

def detected (m : Nat) : State := { liveRun 1 with life := { live.life with det := m } }

theorem wit_SafeEntryTakesTheNode : ∀ m ∈ [1, 2, 255], (detected m).up = true ∧ (detected m).starting = false ∧ (detected m).life.det ≠ 0
    ∧ (detected m).life.det < 256 ∧ (detected m).mode ≠ 3 ∧ (detected m).life.detAt < (detected m).t.run := by decide


/-! ### Interconnect, host port, keyed sequences, service ports -/

/-- The node with an island not alive. -/
def without (i : Nat) : State := live.putBit SYS_ISTAT.ALIVE i false

/-- The word written in this phase by a requester served last. -/
def beaten (a : Nat) : State := { live with mem := { live.mem with phaseW := [⟨a, 28, 0, false⟩] } }

theorem wit_InterconnectAnswers : live.up = true ∧ isSram 0o100000 = true ∧ isSram 0o03777777 = true ∧ live.sramPoison 0o03777777 = false
    ∧ live.deaf 0o03777777 = false ∧ live.phaseOld 5 0o03777777 = none ∧ live.lockedAt 0o03777777 = false
    ∧ live.unbeaten 5 0o03777777 ∧ ¬ (beaten 0o03777777).unbeaten 5 0o03777777
    ∧ isSram 0o77777777 = false ∧ isMram 0o77777777 = false ∧ isReg 0o77777777 = false
    ∧ isSram (FI_STAT 5) = false ∧ (without 5).up = true ∧ (without 5).deaf (FI_STAT 5) = true
    ∧ targetOf (FI_STAT 5) = some 5 ∧ live.alive 5 = true ∧ live.flag SYS_HTOLOG.VALID = false
    ∧ live.htoThen 32 ≤ 32 ∧ 31 < live.htoThen 31
    ∧ live.used 5 = true ∧ dataIslands.contains 5 = true ∧ (without 5).alive 5 = false ∧ (without 5).used 5 = true := by
  unfold State.unbeaten; decide

/-- The watchdog expired at the first beat; and with rounds that the processor has not ended. -/
def expired (n : Nat) : State := put (liveRun n) [(SYS_WDOG.EXP, 1)]
def missing (n : Nat) : State := { live with hst := { live.hst with missed := n } }

theorem wit_PatrolAndWatchdog : live.up = true ∧ live.alive 26 = true ∧ live.mem.mramBad = [] ∧ isMram 0o17777777 = true
    ∧ live.flag SYS_DBG.HALTED = false ∧ live.flag SYS_WDOG.EXP = false ∧ 2 ≤ (missing 2).hst.missed ∧ (missing 1).hst.missed < 2
    ∧ (missing 2).up = true ∧ (expired 4000000).up = true ∧ (expired 4000000).flag SYS_WDOG.EXP = true ∧ (expired 4000000).holds 2 = false
    ∧ 4000000 ≤ (expired 4000000).since (expired 4000000).hst.expRun
    ∧ (expired 3999999).since (expired 3999999).hst.expRun < 4000000 := by decide

/-- A host-readable run of two words: the last of the free host area, and the first of the address space after it. -/
theorem wit_HostReadsReturnTheWords : live.native = true ∧ live.hst.wq = [] ∧ live.flag HST_CFG.CHKREQ = false
    ∧ (∀ i, i < 2 → live.readable (stepAddr 0o03777776 i))
    ∧ (put live [(HST_CFG.CHKREQ, 1)]).native = true ∧ (put live [(HST_CFG.CHKREQ, 1)]).flag HST_CFG.CHKREQ = true
    ∧ (0xFF : Byte) ∉ opcodes := by unfold State.readable; decide

/-- A header check and a tag that fail. -/
theorem wit_header_fails : (0 : Byte) ≠ headerCheck 0x0B 0o03777776 := by
  simp [headerCheck, crc8From, msbBits, crc8Step, bit, List.range, List.range.loop]
theorem wit_tag_fails : (0 : Byte) ≠ tagOf 5 := by
  simp [tagOf, crc8From, msbBits, crc8Step, bit, List.range, List.range.loop]

theorem wit_tags_good : ∀ p ∈ [((5 : Word), tagOf 5)], p.2 = tagOf p.1 := by simp

/-- The host port with words in its write queue. -/
def queued (l : List HostWr) : State := { live with hst := { live.hst with wq := l } }

theorem wit_HostWritesQueueInOrder : (queued (List.replicate 63 ⟨0, 0⟩)).native = true
    ∧ (queued (List.replicate 63 ⟨0, 0⟩)).flag HST_CFG.CHKREQ = false
    ∧ (queued (List.replicate 63 ⟨0, 0⟩)).hst.wq.length + [(5 : Word)].length ≤ 64
    ∧ (queued (List.replicate 64 ⟨0, 0⟩)).native = true ∧ (queued (List.replicate 64 ⟨0, 0⟩)).hst.wq.length = 64 := by decide

theorem wit_QueuedWriteExecutes : (queued [⟨0o02000000, 5⟩]).served = true ∧ (queued [⟨0o02000000, 5⟩]).hst.wq = ⟨0o02000000, 5⟩ :: []
    ∧ (queued [⟨0o02000000, 5⟩]).storable 0o02000000 ∧ (queued [⟨TIM_LTGT, 5⟩]).served = true ∧ (queued [⟨TIM_LTGT, 5⟩]).deaf TIM_LTGT = false
    ∧ isSram 0o77777777 = false ∧ isMram 0o77777777 = false ∧ isReg 0o77777777 = false
    ∧ (queued [⟨0o77777777, 5⟩]).flag HST_WRES.VALID = false ∧ 0o77777777 < 2 ^ 24 := by
  unfold State.storable State.unbeaten; decide

/-- The bus lock held at the first free host word. -/
def locked : State := put live [(HST_LOCK.HELD, 1), (HST_LOCK.ADDR, 0o02000000), (HST_STAT.LOCKED, 1)]

def lockedLong : State := { locked with hst := { locked.hst with lockAge := 16 } }

theorem wit_BusLockOfOneWord : live.native = true ∧ live.hst.wq = [] ∧ live.hst.lockAge < 16 ∧ live.readable 0o02000000 ∧ isFreeHost 0o02000000 = true
    ∧ live.flag HST_LOCK.HELD = false ∧ live.flag HST_WRES.VALID = false
    ∧ locked.native = true ∧ locked.served = true ∧ locked.hst.wq = [] ∧ locked.hst.lockAge < 16 ∧ locked.flag HST_LOCK.HELD = true
    ∧ locked.hst.held = [] ∧ locked.lockedAt 0o02000000 = true ∧ locked.storable 0o02000000
    ∧ lockedLong.served = true ∧ lockedLong.flag HST_LOCK.HELD = true ∧ 16 ≤ lockedLong.hst.lockAge := by
  unfold State.storable State.unbeaten State.readable; decide

/-- A path's keyed sequence after its first word. -/
def keyed : State := put live [(HST_KSTAT.HSTATE, 1), (HST_KSTAT.DSTATE, 1)]

def keyedLong : State := { keyed with hst := { keyed.hst with keyH := 64, keyD := 64 } }

theorem wit_KeyedSequencesAndRegisterWrites : live.served = true ∧ keyed.served = true
    ∧ (∀ debug : Bool, keyed.keyState (if debug then .debug else .host) = 1 ∧ keyed.keyAge (if debug then .debug else .host) < 64
        ∧ live.keyState (if debug then .debug else .host) = 0
        ∧ keyedLong.keyState (if debug then .debug else .host) ≠ 0 ∧ 64 ≤ keyedLong.keyAge (if debug then .debug else .host))
    ∧ keyedLong.served = true ∧ (0 : Word) ≠ key1 ∧ (0 : Word) ≠ key2 ∧ live.alive 25 = true ∧ (BitVec.ofNat 24 (CLK_BK 15)).toNat = CLK_BK 15
    ∧ (BitVec.ofNat 24 TIM_LTGT).toNat = TIM_LTGT ∧ (BitVec.ofNat 24 TIM_LARG).toNat = TIM_LARG ∧ live.deaf TIM_LTGT = false
    ∧ (BitVec.ofNat 24 TIM_MINLEAD).toNat = TIM_MINLEAD ∧ live.deaf TIM_MINLEAD = false
    ∧ isWk (BitVec.ofNat 24 SYS_CMD).toNat = true ∧ regRow (BitVec.ofNat 24 0o77777777).toNat = none := by decide

def wired : State := put live [(HST_MGCFG.EN, 1)]

theorem wit_TwoWirePort : wired.served = true ∧ wired.mgOn = true ∧ wired.readable 0o03777777
    ∧ (0 : Byte).toNat = 0 ∧ 32 < (33 : Byte).toNat ∧ wired.storable 0o03777777 ∧ wired.lockedAt 0o03777777 = false
    ∧ (liveRun 1000000).served = true ∧ 1000000 ≤ (liveRun 1000000).since (liveRun 1000000).hst.mgAt
    ∧ (liveRun 999999).since (liveRun 999999).hst.mgAt < 1000000 := by
  unfold State.storable State.unbeaten State.readable; decide

theorem wit_TestAccessPortInstructions : live.life.boot ≠ .off ∧ live.mode ≠ 3 ∧ live.starting = false
    ∧ (put live [(SYS_MODE.MODE, 3)]).life.boot ≠ .off ∧ (put live [(SYS_MODE.MODE, 3)]).mode = 3 := by decide

/-- The debug port with an instruction in its register. -/
def tapped (s : State) (ir : Nat) : State := { s with hst := { s.hst with ir := ir } }

theorem wit_DebugPortAccessAndHalt : (tapped live 8).served = true ∧ (tapped live 8).dbgReady = true ∧ (tapped live 8).readable 0o02000000
    ∧ (tapped live 8).storable 0o02000000 ∧ (tapped live 8).lockedAt 0o02000000 = false
    ∧ (tapped locked 8).served = true ∧ (tapped locked 8).dbgReady = true ∧ (tapped locked 8).storable 0o02000000 ∧ (tapped locked 8).lockedAt 0o02000000 = true
    ∧ (tapped live 9).hst.ir = 9 ∧ (tapped live 9).flag SYS_DBG.HALTED = false ∧ (tapped live 9).mode ≤ 1 ∧ (tapped live 9).starting = false
    ∧ (tapped live 9).flag SYS_DBG.HALTOK = false
    ∧ (tapped (put live [(SYS_MODE.MODE, 2)]) 9).hst.ir = 9 ∧ (tapped (put live [(SYS_MODE.MODE, 2)]) 9).mode = 2
    ∧ (tapped (put live [(SYS_DBG.HALTED, 1)]) 9).hst.ir = 9 ∧ (tapped (put live [(SYS_DBG.HALTED, 1)]) 9).flag SYS_DBG.HALTED = true := by
  unfold State.storable State.unbeaten State.readable; decide

/-- The node in SAFE, with the conditions of some causes holding. -/
def inSafe (conds : Nat) : State := { put live [(SYS_MODE.MODE, 3)] with life := { live.life with conds := conds } }

theorem wit_SystemCommands : live.served = true ∧ (put live [(SYS_MODE.STARTING, 1)]).starting = true ∧ live.starting = false ∧ live.mode ≠ 3
    ∧ (inSafe 2).served = true ∧ (inSafe 2).starting = false ∧ (inSafe 2).mode = 3 ∧ lowestCause (setBit (inSafe 2).life.conds 4 false) ≠ 0
    ∧ (inSafe 16).served = true ∧ (inSafe 16).mode = 3 ∧ lowestCause (setBit (inSafe 16).life.conds 4 false) = 0
    ∧ (inSafe 16).slotFor 0 = some (0, false) ∧ (inSafe 16).minlead 0 < 2 ^ 35 ∧ live.pstate ≠ 2
    ∧ (0 : Word).toNat = 0 ∧ 6 < (7 : Word).toNat := by decide


/-! ### Tables, field islands, calibration -/

/-- An entry of n words, zero but for those listed. -/
def ent (n : Nat) (l : List (Nat × Nat)) : List Word := (List.range n).map (fun i => W ((l.lookup i).getD 0))

/-- A machine with the adopted copy of a point. -/
def adopted (s : State) (p : Nat) (ws : List Word) : State := s.setCache p ⟨ws, 0, false, false, false⟩

/-- A machine whose unit checks points for reload, the first of them read in full, at a beat count. -/
def dueAt (u : Nat) (l : List Nat) (n : Nat) : State :=
  (liveRun n).setPass u { Pass.none with due := l, words := List.replicate ((entryAddrs (l.headD 0)).length + 1) 0 }

theorem wit_CheckedReload_adopts : ∀ p ∈ [0, 127, 128, 143, 144, 175, 176, 183, 184, 1207, 1208],
    let n := (entryAddrs p).length
    let s := dueAt (unitOf p) [p, p + 1] (n + 2)
    let r := s.passOf (unitOf p)
    s.up = true ∧ s.alive (unitOf p) = true ∧ r.due = p :: [p + 1] ∧ p ∉ [p + 1] ∧ r.miss = 0 ∧ r.words.length = n + 1
      ∧ r.words.getD n 0 = r.words.headD 0 ∧ s.validEntry p (r.words.take n) = true ∧ r.readAt + n + 2 ≤ s.t.run := by decide +kernel

/-- A channel whose reload has failed k times. -/
def retrying (k n : Nat) : State := (dueAt 0 [5] n).setCache 5 ⟨[], k, false, false, false⟩

/-- A node whose image has been applied. -/
def running : State := { live with life := { live.life with applied := true } }

theorem wit_CheckedReload_retries : (∀ k ∈ [1, 2, 3], ∀ n ∈ [0, (entryAddrs 5).length], (retrying k n).up = true ∧ (retrying k n).alive (unitOf 5) = true
      ∧ ((retrying k n).passOf (unitOf 5)).due = 5 :: [] ∧ ((retrying k n).passOf (unitOf 5)).miss = 0
      ∧ ((retrying k n).passOf (unitOf 5)).readAt ≤ (retrying k n).t.run
      ∧ (retrying k n).t.run - ((retrying k n).passOf (unitOf 5)).readAt ≤ (entryAddrs 5).length
      ∧ ((retrying k n).copyOf 5).tries ≠ 0 ∧ ((retrying k n).copyOf 5).tries < 4)
    ∧ (∀ u ∈ [0, 18, 20, 21], running.up = true ∧ running.takesTriggers u = true ∧ running.alive u = true ∧ running.dueOf u = []) := by decide

/-- Channel n in use: EN 1, in list 0, both comparators on. -/
def chanNode (n : Nat) : State := adopted live n (ent 64 [(0, 2 ^ 27 + 2 ^ 10), (3, 2 ^ 7 + 2 ^ 6)])

/-- Its raw comparator results changed at sample 3, some beats ago. -/
def crossed (n : Nat) : State :=
  let s := (chanNode n).setChan n { ChanS.fresh with seenH := some 3, seenL := some 3 }
  { s with t := (liveRun 100).t }

theorem wit_ComparatorsFollowTheirCrossings : (∀ n ∈ [0, 127], (chanNode n).up = true ∧ (chanNode n).enabled n = true ∧ (chanNode n).alive (fiOf n) = true
      ∧ ((crossed n).chanOf n).seenH = some 3 ∧ ((crossed n).chanOf n).seenL = some 3 ∧ (crossed n).up = true ∧ (crossed n).enabled n = true
      ∧ (crossed n).alive (fiOf n) = true ∧ 3 + ((crossed n).entry n).f 11 35 32 ≤ (crossed n).sampleNo
      ∧ ({ crossed n with t := (liveRun 0).t } : State).sampleNo < 3 + (({ crossed n with t := (liveRun 0).t } : State).entry n).f 11 35 32
      ∧ ((chanNode n).cacheOf n).forced = false ∧ ((chanNode n).chanOf n).owPres = false) ∧ live.alive 15 = true := by decide +kernel

def aConv : Conv := ⟨0, 0, ent 64 [], [], [], false, false, 0, 0, none⟩

/-- Island 0 converting, or idle, with fields of list 0 set. -/
def scanning (c : Option Conv) (l : List (Fld × Nat)) : State := put ((chanNode 0).setIsl 0 { IslS.fresh with conv := c }) l

theorem wit_ScanTriggersPendAndConvert :
    (let s := scanning (some aConv) [(FI_SLCFG.THOST 0 0, 1), (FI_SLCFG.MODE 0 0, 2)]
     s.up = true ∧ s.alive 0 = true ∧ s.flag (FI_SLCFG.THOST 0 0) = true ∧ 2 ≤ s.get (FI_SLCFG.MODE 0 0) ∧ (s.islOf 0).conv.isSome = true
       ∧ s.flag (FI_SLST.PEND 0 0) = false)
    ∧ (let s := scanning (some aConv) [(FI_SLCFG.MODE 0 0, 2), (FI_SLST.PEND 0 0, 1)]
       s.periodDue 0 0 = true ∧ (s.islOf 0).conv.isSome = true ∧ s.flag (FI_SLST.PEND 0 0) = true)
    ∧ (let s := scanning none [(FI_SLCFG.MODE 0 0, 2)]
       s.get (FI_SLCFG.MODE 0 0) = 2 ∧ s.micros % (orElse (s.get (FI_SLCFG.PERIOD 0 0)) 1000 * 1000) = 0 ∧ bit (s.islOf 0).ticked 0 = false
         ∧ s.t.phase = 0 ∧ (s.islOf 0).conv = none ∧ (s.islOf 0).passList = none ∧ (∀ m : Fin 8, s.flag (FI_SLST.PEND 0 m) = false)
         ∧ s.flag (FI_SLST.RUN 0 0) = false ∧ s.mode ≠ 1 ∧ (s.members 0 0).filter (s.convertible 0) = 0 :: [])
    ∧ (let s := scanning (some aConv) []
       (s.islOf 0).conv = some aConv ∧ aConv.ch < 8 ∧ aConv.list < 8 ∧ Entry.meas aConv.ent ≠ 2 ∧ aConv.start + aConv.len < s.t.run + 1) := by
  decide +kernel

/-- Channel 127 with a good result, in a list that runs. -/
def measured : State :=
  put ((chanNode 127).setChan 127 { ChanS.fresh with res := some (qword 0 5) }) [(FI_SLCFG.MODE 15 0, 2)]

/-- Channel 0 with the thermocouple curve whose cold junction reads nothing. -/
def thermo : State := adopted live 0 (ent 64 [(0, 2 ^ 27), (1, 8 * 2 ^ 30)])

/-- The same at a beat count. -/
def measuredAt (n : Nat) : State := { measured with t := (liveRun n).t }

/-- The source of channel 0 read last at the first beat. -/
def thermoAt (n : Nat) : State := { thermo.setChan 0 { ChanS.fresh with src := some (0, 0) } with t := (liveRun n).t }

theorem wit_StaleValuesAndTemperatureSources : measured.up = true ∧ (measured.chanOf 127).res = some (qword 0 5) ∧ measured.enabled 127 = true
    ∧ qBad (qOf (qword 0 5)) = false ∧ (measured.chanOf 127).stale = false ∧ (measured.cacheOf 127).forced = false
    ∧ (measured.cacheOf 127).q14 = false ∧ (measuredAt 5000001).inActiveList 127 = true
    ∧ (measuredAt 5000000).since ((measuredAt 5000000).chanOf 127).renewAt
        ≤ orElse (((measuredAt 5000000).entry 127).f 2 35 24) 50 * 100000 * (if (measuredAt 5000000).mode = 1 then (measuredAt 5000000).layDiv 127 else 1)
    ∧ orElse (((measuredAt 5000001).entry 127).f 2 35 24) 50 * 100000 * (if (measuredAt 5000001).mode = 1 then (measuredAt 5000001).layDiv 127 else 1)
        < (measuredAt 5000001).since ((measuredAt 5000001).chanOf 127).renewAt
    ∧ thermo.up = true ∧ (thermo.entry 0).readsSource = true ∧ thermo.liveSource 0 (thermo.entry 0) = none
    ∧ (thermoAt (thold (thermo.entry 0) * 1000000)).holdOver 0 (thermo.entry 0) = true
    ∧ (thermoAt (thold (thermo.entry 0) * 1000000 - 1)).holdOver 0 (thermo.entry 0) = false
    ∧ live.alive 15 = true ∧ live.pstate ≠ 6 ∧ (put live [(FI_SCHK.CJ 15, 1)]).flag (FI_SCHK.CJ 15) = true
    ∧ (liveAt { live.t with phase := 2 }).cjDue = true ∧ (liveAt { live.t with phase := 2 }).alive 15 = true ∧ live.cjDue = false := by decide +kernel

/-- A capture of channel 0 with some samples, at a beat count. -/
def capturing (s : State) (k n : Nat) : State :=
  { s with cal := { s.cal with capture := some ⟨0, 1, k, 8, 1, 1, 0⟩ }, t := { s.t with run := n } }
def maint : State := put live [(SYS_MODE.MODE, 2)]

theorem wit_CalibrationCaptures : live.up = true
    ∧ calWindow ((put live [(CAL_CHSEL.IDX, 127)]).get CAL_CHSEL.SEC) ((put live [(CAL_CHSEL.IDX, 127)]).get CAL_CHSEL.IDX)
        = some (0o3000 + 127 * 32, 32, List.range 10) ∧ 9 ∈ List.range 10
    ∧ calWindow ((put live [(CAL_CHSEL.SEC, 2)]).get CAL_CHSEL.SEC) ((put live [(CAL_CHSEL.SEC, 2)]).get CAL_CHSEL.IDX)
        = some (0o2100, 16, List.range 8) ∧ 0 ∈ List.range 8
    ∧ live.t.usec = 0 ∧ live.calBusy = false ∧ live.mode ≠ 2 ∧ maint.calBusy = false ∧ maint.mode = 2 ∧ maint.enabled maint.calCh = false
    ∧ (put (chanNode 0) [(SYS_MODE.MODE, 2)]).mode = 2 ∧ (put (chanNode 0) [(SYS_MODE.MODE, 2)]).enabled (put (chanNode 0) [(SYS_MODE.MODE, 2)]).calCh = true
    ∧ (put live [(CAL_CSTAT.RUN, 1)]).calBusy = true ∧ (put live [(CAL_CSTAT.RUN, 1)]).cal.cmd ≠ 1
    ∧ (put live [(CAL_CSTAT.RUN, 1)]).served = true ∧ (BitVec.ofNat 24 CAL_CMD).toNat = CAL_CMD ∧ fld (1 : Word) 3 0 = 1
    ∧ (capturing maint 16 0).mode = 2 ∧ (capturing maint 16 0).cal.capture = some ⟨0, 1, 16, 8, 1, 1, 0⟩
    ∧ orElse ((capturing maint 16 0).get CAL_NAVG.NAVG) 16 ≤ 16 ∧ 15 < orElse ((capturing maint 15 0).get CAL_NAVG.NAVG) 16
    ∧ (capturing live 16 0).cal.capture.isSome = true ∧ (capturing live 16 0).mode ≠ 2
    ∧ 10000000 ≤ (capturing maint 15 10000000).since 0 ∧ (capturing maint 15 9999999).since 0 < 10000000 := by decide +kernel

/-- A working copy with the noted conditions of both points of channel 0 and its reference and result words. -/
def captured (n1 n2 : Nat × Nat) (l : List (Nat × Rat)) : State :=
  { live with cal := { live.cal with notes := [(0, n1), (1, n2)], work := l.map (fun p => (0o3000 + p.1, toCoef p.2)) } }

theorem wit_CalibrationComputations_offset :
    (captured (1, 1) (1, 1) [(5, 1), (6, 1)]).up = true ∧ (captured (1, 1) (1, 1) [(5, 1), (6, 1)]).t.usec = 0
    ∧ (captured (1, 1) (1, 1) [(5, 1), (6, 1)]).calBusy = false ∧ (captured (1, 1) (1, 1) []).calNote 1 = (1, 1)
    ∧ (captured (1, 1) (1, 1) []).calNote 1 = (captured (1, 1) (1, 1) []).calNote 2
    ∧ (captured (1, 1) (1, 2) []).calNote 1 ≠ (captured (1, 1) (1, 2) []).calNote 2
    ∧ ((captured (1, 1) (1, 1) []).calNote 1).1 < 16 ∧ ((captured (1, 1) (1, 1) []).calNote 1).2 < 16
    ∧ (let s := captured (1, 1) (1, 1) [(5, 1), (6, 1)]
       calLimits 1 (coef (s.workAt (s.calOff + 6)) - coef (s.workAt (s.calOff + 5)))
          (fsOf (s.calNote 1).1 (s.entry s.calCh).wires (2 ^ ((s.calNote 1).2 - 1)) (s.entry s.calCh).inom) = true
       ∧ coef (s.workAt (s.calOff + 8)) ≠ coef (s.workAt (s.calOff + 6)))
    ∧ (let s := captured (1, 1) (1, 1) [(5, 1), (6, 4)]
       calLimits 1 (coef (s.workAt (s.calOff + 6)) - coef (s.workAt (s.calOff + 5)))
          (fsOf (s.calNote 1).1 (s.entry s.calCh).wires (2 ^ ((s.calNote 1).2 - 1)) (s.entry s.calCh).inom) = false)
    ∧ (let s := captured (1, 1) (1, 1) [(6, 1), (8, 1)]
       coef (s.workAt (s.calOff + 8)) = coef (s.workAt (s.calOff + 6))) := by decide +kernel

/-- A commit waiting, with words in the working copy. -/
def toCommit (work : Store) : State := { live with cal := { live.cal with cmt := true, work := work } }

/-- An image being prepared. -/
def preparing : State := { live with img := { live.img with prep := some ⟨0, 0, 1, 0, false, [], [], false⟩ } }

theorem wit_CalibrationCommits_run : (toCommit []).up = true ∧ (toCommit []).cal.cmt = true ∧ (toCommit []).t.usec = 0 ∧ (toCommit []).life.warn = false
    ∧ (toCommit []).starting = false ∧ (toCommit []).imageBusy = false
    ∧ (toCommit []).calBadRec = none ∧ (toCommit [(0o3000, W (2 ^ 35))]).cal.cmt = true ∧ (toCommit [(0o3000, W (2 ^ 35))]).starting = false
    ∧ (toCommit [(0o3000, W (2 ^ 35))]).calBadRec = some (0o3000 / 16) ∧ live.calBusy = false
    ∧ (put live [(SYS_MODE.STARTING, 1)]).starting = true ∧ (put live [(SYS_MODE.STARTING, 1)]).calBusy = false
    ∧ preparing.imageBusy = true ∧ preparing.calBusy = false ∧ preparing.starting = false
    ∧ (put live [(CAL_STAT.PEND, 1)]).flag CAL_STAT.PEND = true := by decide +kernel

/-- Bank B written with its checks right, the commit at step 6. -/
def committed : State :=
  let s := put (liveRun 49154) [(CAL_CSTAT.STEP, 6)]
  { s with
    cal := { s.cal with cmtBank := 1 }
    mem := { s.mem with mram := [(calBase 1, calMagic), (calBase 1 + 2, W (calBchk [])),
      (calBase 1 + 15, W (calHchk [(0, calMagic), (2, W (calBchk []))]))] } }

theorem calBchk_three (x y : Word) : calBchk [(0, calMagic), (2, x), (15, y)] = calBchk [] := by
  unfold calBchk Store.span
  refine congrArg crc32c (List.map_congr_left fun i _ => ?_)
  have a : (0 : Nat) ≠ 16 + i := by omega
  have b : (2 : Nat) ≠ 16 + i := by omega
  have c : (15 : Nat) ≠ 16 + i := by omega
  simp [Store.read, a, b, c]

theorem calHchk_three (x y : Word) : calHchk [(0, calMagic), (2, x), (15, y)] = calHchk [(0, calMagic), (2, x)] := by
  unfold calHchk Store.span
  refine congrArg (fun l => crc32c (calMagic :: l)) (List.map_congr_left fun i hi => ?_)
  have h : i < 14 := by simpa using hi
  have c : (15 : Nat) ≠ 1 + i := by omega
  simp [Store.read, c]

theorem window_three (b n : Nat) (m x y : Word) (h : 16 ≤ n) :
    Store.window [(b, m), (b + 2, x), (b + 15, y)] b (b + n) 0 = [(0, m), (2, x), (15, y)] := by
  have h1 : 0 < n := by omega
  have h2 : 2 < n := by omega
  have h3 : 15 < n := by omega
  simp [Store.window, h1, h2, h3]

theorem wit_CalibrationCommits_valid : committed.cal.cmtBank ≤ 1 ∧ committed.get CAL_CSTAT.STEP = 6 ∧ 49154 ≤ committed.calElapsed
    ∧ committed.calValid committed.cal.cmtBank = true := by
  refine ⟨Nat.le_refl 1, by decide, by decide, ?_⟩
  have h : committed.calBank 1 = [(0, calMagic), (2, W (calBchk [])), (15, W (calHchk [(0, calMagic), (2, W (calBchk []))]))] :=
    window_three _ _ _ _ _ (by decide)
  have e : committed.calPoison 1 = false := rfl
  show committed.calValid 1 = true
  unfold State.calValid
  rw [h, e]
  simp only [calHeaderOk, calBchk_three, calHchk_three]
  simp [Store.read]

/-! ### Lattice, alarms, Opal -/

def cellOfType (typ : Nat) : CellCfg := { parseCell [] with typ := typ, nin := 2, p1 := 5 <<< 10, ins := [0, 0] }

/-- A node in phase 1 of a beat. -/
def midBeat : State := liveAt { live.t with phase := 1 }

/-- A lattice at work with one cell and its state: input bits, own output, count and timer. -/
def cellNode (c typ ins : Nat) (own : Bool) (cnt timer : Nat) : State :=
  put { midBeat with bl := { live.bl with cfg := [(c, cellOfType typ)], cells := [(c, ⟨[(own, own)], own, own, false, ins, 0, cnt, timer, none, own⟩)] } }
    [(BL_STAT.RUN, 1)]

theorem wit_LatticeWaveEvaluatesEveryCell : live.up = true ∧ 4 ≤ (liveAt { live.t with phase := 4 }).t.phase
    ∧ (∀ typ ∈ [1, 3, 4, 5, 8, 12, 13], (cellNode 4095 typ 3 true 0 0).up = true
    ∧ (cellNode 4095 typ 3 true 0 0).still = false ∧ (cellNode 4095 typ 3 true 0 0).flag BL_STAT.RUN = true
    ∧ 1 ≤ (cellNode 4095 typ 3 true 0 0).t.phase ∧ (cellNode 4095 typ 3 true 0 0).t.phase ≤ 3 ∧ (cellNode 4095 typ 3 true 0 0).hst.wq = []
    ∧ (cellNode 4095 typ 3 true 0 0).bl.cfg.get? 4095 = some (cellOfType typ) ∧ (cellOfType typ).typ = typ)
    ∧ (let s : State := { liveAt { live.t with phase := 3 } with jl := { live.jl with stillUntil := some 5 } }
       s.up = true ∧ s.still = true ∧ s.t.phase = 3) := by decide +kernel

theorem wit_TimedCellsRunOut : (cellNode 0 6 1 false 0 0).up = true ∧ (cellNode 0 6 1 false 0 0).still = false
    ∧ (cellNode 0 6 1 false 0 0).flag BL_STAT.RUN = true ∧ (cellNode 0 6 1 false 0 0).t.phase = 1 ∧ (cellNode 0 6 1 false 0 0).hst.wq = []
    ∧ (cellNode 4095 6 1 false 0 0).expiryDue 4095 6 = true ∧ (cellNode 4095 6 1 false 0 1).expiryDue 4095 6 = false
    ∧ (cellNode 4095 7 0 true 0 0).expiryDue 4095 7 = true ∧ (cellNode 4095 7 0 true 0 1).expiryDue 4095 7 = false
    ∧ (cellNode 4095 11 0 true 0 0).expiryDue 4095 11 = true ∧ (cellNode 4095 11 0 true 0 1).expiryDue 4095 11 = false
    ∧ (cellNode 4095 2 0 true 0 0).expiryDue 4095 2 = true ∧ (cellNode 4095 2 0 true 0 1).expiryDue 4095 2 = false
    ∧ (cellNode 4095 10 0 true 1 4).expiryDue 4095 10 = true ∧ (cellNode 4095 10 0 true 1 3).expiryDue 4095 10 = false
    ∧ ((cellNode 4095 10 0 true 1 4).cellOf 4095).first = false := by decide +kernel

theorem wit_CellForcesHostSignalsAndParity : live.up = true ∧ live.starting = false ∧ live.mode ≠ 3 ∧ live.holds 1 = false := by decide

/-- One alarm point with its entry, its register's fields and whether it is shelved. -/
def almNode (n : Nat) (ws : List Word) (shelved : Bool) (l : List (Fld × Nat)) : State :=
  put { running with alm := { live.alm with pts := [(n, { AlmS.fresh with cache := ⟨ws, 0, false, false, false⟩, shelved := shelved })] } } l

/-- A point of PRI 1 in group 63, in use. -/
def almWords1 : List Word := ent 16 [(0, 2 ^ 27 + 2 ^ 24 + 63 * 2 ^ 18)]

theorem wit_AlarmAcknowledgeAndFirstOut : ∀ n ∈ [0, 1023],
    (let s := almNode n almWords1 false [(ALM_PST.STATE n, 1), (ALM_PST.DEL n, 1), (ALM_PST.BLK n, 0)]
     s.commands ∧ NotQueued s.alm.cmds (almWord 1 0 n) false ∧ s.ackable n = true ∧ (s.almEnt n).pri ≠ 0 ∧ s.almState n = 1 ∧ s.noOverlay n
     ∧ s.flag (ALM_PST.DEL n) = true ∧ n ∈ s.groupPoints 63 ∧ n ∈ s.almPoints ∧ (s.groupPoints 63).any s.unacked = true)
    ∧ (let s := almNode n almWords1 false [(ALM_PST.STATE n, 3), (ALM_PST.DEL n, 0), (ALM_PST.BLK n, 0)]
       s.almState n = 3 ∧ s.noOverlay n ∧ s.flag (ALM_PST.DEL n) = false)
    ∧ (let s := almNode n almWords1 false [(ALM_PST.STATE n, 2)]; (s.groupPoints 63).any s.unacked = false) := by
  unfold State.commands NotQueued State.noOverlay; decide +kernel

theorem wit_AlarmShelvingAndService :
    (let s := almNode 1023 almWords1 false [(ALM_PST.STATE 1023, 0)]
     s.commands ∧ NotQueued s.alm.cmds (almWord 3 65535 1023) false ∧ NotQueued s.alm.cmds (almWord 6 0 1023) true
     ∧ s.almState 1023 ≠ 7 ∧ 1023 ∈ s.almPoints ∧ s.workRoundDue = false)
    ∧ (let s : State := { almNode 1023 almWords1 true [(ALM_PST.STATE 1023, 4), (ALM_PST.DEL 1023, 0), (ALM_PST.BLK 1023, 0),
        (ALM_PST.SHLEFT 1023, 1)] with t := (liveRun 1).t }
       s.commands ∧ s.almState 1023 ≠ 7 ∧ (s.almOf 1023).shelved = true ∧ (s.almOf 1023).oos = false ∧ (s.almOf 1023).held = false
       ∧ s.workRoundDue = true ∧ s.get (ALM_PST.SHLEFT 1023) = 1
       ∧ s.flag (ALM_PST.BLK 1023) = false ∧ s.flag (ALM_PST.DEL 1023) = false ∧ 4 ≤ s.almState 1023) := by
  unfold State.commands NotQueued; decide +kernel

/-- The point with a cell that names it and delivers 1. -/
def fed (s : State) (n : Nat) : State :=
  { s with bl := { s.bl with cfg := [(0, { cellOfType 1 with almen := true, apt := n })], cells := [(0, ⟨[(true, false)], true, true, false, 0, 0, 0, 0, none, true⟩)] } }

/-- A point of PRI 1 that is to count ten samples more before D follows. -/
def delaying (run st : Nat) (del : Bool) : State :=
  let s := almNode 5 (ent 16 [(0, 2 ^ 27 + 2 ^ 24), (2, 2 ^ 12 + 1)]) false [(ALM_PST.STATE 5, st), (ALM_PST.DEL 5, del.toNat), (ALM_PST.BLK 5, 0)]
  { s with alm := { s.alm with pts := s.alm.pts.map (fun p => (p.1, { p.2 with run := run })) } }

theorem wit_AlarmDelaysFilterTheCondition :
    (∀ on : Bool, let n := if on then ((delaying 0 0 false).almEnt 5).nOn else ((delaying 0 0 false).almEnt 5).nOff
      (delaying n 0 (!on)).up = true ∧ (delaying n 0 (!on)).delayOver 5 on = true ∧ (delaying (n - 1) 0 on).delayOver 5 on = false
        ∧ (delaying n 0 (!on)).t.disc.stepPend = none)
    ∧ (let s := fed (almNode 5 almWords1 false [(ALM_PST.STATE 5, 0), (ALM_PST.DEL 5, 0), (ALM_PST.BLK 5, 0)]) 5
     s.up = true ∧ s.almState 5 ≠ 7 ∧ (s.almSample 5).1.1 = true ∧ s.flag (ALM_PST.DEL 5) = false ∧ s.almState 5 = 0 ∧ s.noOverlay 5
     ∧ s.floodHolds 5 = false ∧ (s.almEnt 5).pri = 1)
    ∧ (∀ st ∈ [1, 2, 3], let s := almNode 5 almWords1 false [(ALM_PST.STATE 5, st), (ALM_PST.DEL 5, 1), (ALM_PST.BLK 5, 0)]
       s.up = true ∧ s.almState 5 = st ∧ (s.almSample 5).1.1 = false ∧ s.flag (ALM_PST.DEL 5) = true ∧ s.noOverlay 5
       ∧ s.floodHolds 5 = false) := by unfold State.noOverlay; decide +kernel

/-- Opal at work with the dead-man function, at a stage of a call. -/
def opalNode (stage dmst : Nat) (offers : List Nat) : State :=
  put { running with opl := { live.opl with offers := offers, cache := ⟨ent 1232 [(0, 2 ^ 27), (7, 2 ^ 35)], 0, false, false, false⟩ } }
    [(OPL_STAT.STAGE, stage), (OPL_STAT.DMST, dmst)]

/-- The same with an unacknowledged alarm point that Opal calls for. -/
def offering (stage : Nat) : State :=
  let a := almNode 5 (ent 16 [(0, 2 ^ 27 + 2 ^ 24 + 2 ^ 13)]) false [(ALM_PST.STATE 5, 1), (OPL_STAT.STAGE, stage)]
  { a with opl := (opalNode stage 0 []).opl }

/-- Opal with beats spent in its stage and in its dead-man state. -/
def opalAt (stage dmst time dm : Nat) : State :=
  let s := opalNode stage dmst []
  { s with opl := { s.opl with time := time, dmTime := dm } }

theorem wit_OpalCommandsAndTimers : (opalNode 0 0 []).commands
    ∧ (∀ w keyed, NotQueued (opalNode 1 0 []).opl.cmds w keyed) ∧ (opalNode 1 0 []).stage ≠ 0
    ∧ (∀ st ∈ [1, 5], (opalNode st 0 []).opalOn = true ∧ (opalNode st 0 []).stage = st)
    ∧ (∀ st ∈ [1, 5], (opalAt st 0 999999999 0).stageOver = true ∧ (opalAt st 0 0 0).stageOver = false ∧ (opalAt st 0 0 0).t.disc.stepPend = none)
    ∧ (opalAt 7 0 299999999 0).stageOver = true ∧ (opalAt 7 0 299999998 0).stageOver = false
    ∧ (opalNode 7 0 []).stage = 7 ∧ (opalNode 7 0 []).openOffers = [] ∧ (offering 7).opalOn = true ∧ (offering 7).stage = 7 ∧ (offering 7).openOffers ≠ []
    ∧ (opalAt 0 1 0 1619999999).dmOver 1 = true ∧ (opalAt 0 1 0 1619999998).dmOver 1 = false
    ∧ (opalAt 0 2 0 179999999).dmOver 2 = true ∧ (opalAt 0 2 0 179999998).dmOver 2 = false
    ∧ (opalAt 0 2 0 499999).blinkOver = true ∧ (opalAt 0 2 0 499998).blinkOver = false
    ∧ (opalAt 0 1 0 1620000000).dmen = true ∧ (opalAt 0 1 0 1620000000).dmst = 1 ∧ (opalAt 0 1 0 1620000000).dmt ≤ (opalAt 0 1 0 1620000000).opl.dmTime
    ∧ (opalAt 0 2 0 180000000).dmst = 2 ∧ (opalAt 0 2 0 180000000).dmpre ≤ (opalAt 0 2 0 180000000).opl.dmTime := by
  refine ⟨by unfold State.commands; decide +kernel, by intro w k c h; exact absurd h (List.not_mem_nil), ?_⟩
  decide +kernel


/-! ### Loop outputs, modems, discretes, speeds -/

/-- Output 15 in use, with its entry's word 0 and what stands beside its registers. -/
def loNode (w0 : Nat) (d : LoS) (l : List (Fld × Nat)) : State :=
  put { adopted running 143 (ent 32 [(0, 2 ^ 27 + w0)]) with lo := [(15, d)] } l

/-- A machine at a beat count. -/
def atRun (s : State) (n : Nat) : State := { s with t := { s.t with run := n } }

theorem wit_LoopOutputsFollowTheirRows :
    (let s := loNode 0 { LoS.fresh with first := true } []; s.up = true ∧ s.loUsed 15 = true ∧ (s.loOf 15).first = true ∧ (s.loOf 15).seen = false
      ∧ (atRun s 5000000).since (s.loOf 15).adoptAt = (s.loEnt 15).rhold ∧ s.since (s.loOf 15).adoptAt < (s.loEnt 15).rhold)
    ∧ (let s := loNode 0 { LoS.fresh with range := true, seen := true, ost := some 10 } []
       s.loUsed 15 = true ∧ (s.loOf 15).range = true ∧ (s.loOf 15).seen = true ∧ (s.loOf 15).ost = some 10)
    ∧ (let s := loNode 0 { LoS.fresh with reconf := true, retest := true } []; (s.loOf 15).reconf = true ∧ (s.loOf 15).retest = true
      ∧ s.since (s.loOf 15).adoptAt < 10000 ∧ 10000 ≤ (atRun s 10000).since (s.loOf 15).adoptAt ∧ 10000 ≤ (atRun s 10000).since (s.loOf 15).retestAt)
    ∧ live.pstate ≠ 6 ∧ live.alive 16 = true ∧ live.t.usec % 1000 = 0 ∧ 2 ≤ (liveAt { live.t with phase := 2 }).t.phase
    ∧ (let s := loNode (2 ^ 26) LoS.fresh []; s.loUsed 15 = true ∧ (s.loEnt 15).sink = true ∧ s.faultTest 15 1 0 = true ∧ s.faultTest 15 2 100000 = false)
    ∧ (let s := atRun (put (loNode 0 LoS.fresh [(LO_OST.OPEN 15, 0)]) [(LO_STAT.DRV, 2 ^ 15)]) 140000
       s.bitOf LO_STAT.DRV 15 = true ∧ (s.loEnt 15).sink = false ∧ s.flag (LO_OST.OPEN 15) = false
       ∧ 40000 + s.faultTime 15 2 = s.since (s.loOf 15).chgAt ∧ 40000 + s.faultTime 15 5 = s.since (s.loOf 15).chgAt
       ∧ s.faultTest 15 2 (-200001) = true ∧ s.faultTest 15 3 3500000 = true ∧ s.faultTest 15 5 200001 = true ∧ s.faultTest 15 5 200000 = false
       ∧ s.faultTime 15 5 ≤ 100000) := by decide +kernel

/-- Output 15 with its modem in a state, a request in the free host area, and tries made. -/
def modem (mstate tries : Nat) (fq : List FskT) : State :=
  (loNode (2 ^ 25) { LoS.fresh with fq := fq, tries := tries, fwait := rt1 }
    [(LO_FST.MSTATE 15, mstate), (LO_OST.OSTATE 15, 8), (LO_STAT.DRV, 2 ^ 15), (LO_FTXA.ADDR, 0o02000000), (LO_FRXA.ADDR, 0o02000100)]).setSram
    0o02000000 0x02800082#36

/-- A short reply frame: delimiter, address, command, check byte. -/
def reply : List Byte := [0x06, 0x80, 0x00, 0x86]

theorem wit_ModemTransactions : live.up = true ∧ live.life.applied = false ∧ live.sramPoison (live.get LO_FTXA.ADDR) = false
    ∧ (let s := modem 0 0 (List.replicate 3 ⟨0o02000000, 0o02000100, 4⟩)
       s.up = true ∧ s.life.applied = true ∧ s.sramPoison (s.get LO_FTXA.ADDR) = false ∧ (s.loEnt 15).fsken = true ∧ s.get (LO_OST.OSTATE 15) ≠ 0
       ∧ s.get (LO_OST.OSTATE 15) ≠ 9
       ∧ s.get (LO_OST.OSTATE 15) ≠ 10 ∧ inFree (s.get LO_FTXA.ADDR) (ceilDiv 4 4) = true ∧ inFree (s.get LO_FTXA.ADDR) (ceilDiv 263 4) = true
       ∧ inFree (s.get LO_FRXA.ADDR) 66 = true ∧ s.bufByte (s.get LO_FTXA.ADDR) 0 = 0x02 ∧ (s.loOf 15).fq.length < 4)
    ∧ (let s := atRun (modem 1 0 [⟨0o02000000, 0o02000100, 4⟩]) rt1
       s.up = true ∧ (s.loOf 15).fq = ⟨0o02000000, 0o02000100, 4⟩ :: [] ∧ s.sramPoison 0o02000000 = false ∧ ceilDiv 4 4 = 1
       ∧ s.get (LO_FST.MSTATE 15) = 1 ∧ (s.loOf 15).carrier = false ∧ s.bitOf LO_STAT.DRV 15 = true
       ∧ (s.loOf 15).fwait ≤ s.since (s.loOf 15).quietAt)
    ∧ (∀ k ∈ [0, 1], let s := modem 2 k [⟨0o02000000, 0o02000100, 4⟩]
       s.up = true ∧ s.get (LO_FST.MSTATE 15) = 2 ∧ (if k = 0 then (s.loOf 15).tries ≤ (s.loEnt 15).retry else (s.loEnt 15).retry < (s.loOf 15).tries)
       ∧ (atRun s 91670).fskFrame 15 = (atRun s 91670).since (s.loOf 15).txAt)
    ∧ (∀ m ∈ [3, 4], let s := modem m 0 [⟨0o02000000, 0o02000100, 4⟩]
       s.up = true ∧ s.get (LO_FST.MSTATE 15) = m ∧ s.get (LO_FST.MSTATE 15) ≠ 2 ∧ s.get (LO_FST.MSTATE 15) ≠ 5 ∧ fskCheck reply = true ∧ 4 ≤ reply.length
       ∧ reply.length ≤ 264 ∧ fskKind reply = 6 ∧ fskMaster reply = true ∧ fskAddr reply = fskAddr (s.fskReqBytes 15)
       ∧ s.flag HST_LOCK.HELD = false ∧ 28 * fskChar ≤ (atRun s 256676).since (s.loOf 15).txAt) := by decide +kernel

/-- Discrete point 31 in use, with its entry's words and what stands beside its registers. -/
def dioNode (ws : List (Nat × Nat)) (d : DioS) (l : List (Fld × Nat)) : State :=
  put { adopted running 175 (ent 16 ws) with dio := [(31, d)] } l

theorem wit_DiscreteInputsFilter :
    (let s := dioNode [(0, 2 ^ 27)] { DioS.fresh with open_ := true } []
     s.up = true ∧ s.life.applied = true ∧ s.alive 17 = true ∧ s.isInput 31 = true ∧ (s.dioOf 31).raw ≠ true ∧ (s.dioOf 31).open_ = true)
    ∧ (let s := dioNode [(0, 2 ^ 27), (1, 2 ^ 12)] { DioS.fresh with open_ := true, raw := true } []
       s.isInput 31 = true ∧ s.bitOf DIO_CHAT.CHAT 31 = false ∧ (s.dioOf 31).open_ = true ∧ (s.dioEnt 31).chatn ≤ s.get (DIO_PST.REJ 31) + 1
       ∧ s.sampleNo + 1 < (s.dioOf 31).rawAt + (s.dioEnt 31).filtb
       ∧ (s.dioOf 31).rawAt + (s.dioEnt 31).filtb ≤ (atRun s 5000).sampleNo + 1 ∧ (s.dioOf 31).acc ≠ (s.dioOf 31).raw)
    ∧ (let s := dioNode [(0, 2 ^ 27), (1, 1)] { DioS.fresh with acc := true } [(DIO_CHAT.CHAT, 2 ^ 31)]
       s.isInput 31 = true ∧ s.bitOf DIO_CHAT.CHAT 31 = true ∧ (s.dioOf 31).rawAt + (s.dioEnt 31).quiet ≤ (atRun s 40000).sampleNo
       ∧ (s.dioEnt 31).stuckt ≠ 0 ∧ (s.dioOf 31).acc = true
       ∧ (s.dioEnt 31).stuckt * 1000000 ≤ (atRun s 1000000).since (s.dioOf 31).accAt) := by decide +kernel

/-- Output 31 on, with fields of its register. -/
def outNode (ws : List (Nat × Nat)) (d : DioS) (l : List (Fld × Nat)) : State := dioNode ((0, 2 ^ 27 + 2 ^ 26) :: ws) d l

theorem wit_DiscreteOutputsTripAndModulate :
    (let s := atRun (outNode [] { DioS.fresh with sw := true, itrip := 600, ovlt := 100000 } [(DIO_PST.CLAMP 31, 1), (DIO_PST.BLNK 31, 0)]) 100000
     s.up = true ∧ (s.dioOf 31).sw = true ∧ s.flag (DIO_PST.CLAMP 31) = true ∧ s.flag (DIO_PST.BLNK 31) = false
     ∧ 20 ≤ s.since (s.dioOf 31).clampAt ∧ (s.dioOf 31).itrip < 601 ∧ (s.dioOf 31).ovlt ≤ 100000 ∧ (s.dioOf 31).blank + 4 * 100000 ≤ s.sampleNo)
    ∧ (let s : State := { outNode [] DioS.fresh [(DIO_PST.CLAMP 31, 1), (DIO_PST.CLAMP 24, 1)] with
         dio := [(24, { DioS.fresh with sw := true, short := some 0 }), (31, { DioS.fresh with sw := true, short := some 0 })] }
       2 ≤ ((atRun s 100).shorts (31 / 8)).length ∧ ((atRun s 100).dioOf (8 * (31 / 8) + 7)).short.isSome = true
       ∧ ((atRun s 100).dioOf (8 * (31 / 8) + 7)).sw = true ∧ ((atRun s 99).shorts (31 / 8)).length < 2)
    ∧ (let s := outNode [] { DioS.fresh with sw := true } [(DIO_PST.CLAMP 31, 1), (DIO_PST.BLNK 31, 1)]
       s.flag (DIO_PST.BLNK 31) = true ∧ (s.dioOf 31).blank ≤ s.sampleNo ∧ s.flag (DIO_PST.CLAMP 31) = true ∧ (s.dioOf 31).sw = true)
    ∧ (let s := atRun (outNode [(8, 2 ^ 12)] { DioS.fresh with openAt := some 0, cmdOff := some 0 } [(DIO_PST.OSTATE 31, 2), (DIO_OFLT.TRIP, 2 ^ 31)]) 10000
       (s.dioOf 31).sw = false ∧ s.flag (DIO_GST.UV (31 / 8)) = false ∧ 2 ≤ s.get (DIO_PST.OSTATE 31) ∧ (s.dioEnt 31).b 8 12 = true
       ∧ s.dioCmd 31 = false ∧ s.tripped 31 = true ∧ 10000 ≤ s.since 0 ∧ (s.dioOf 31).cmdOff = some 0 ∧ (s.dioOf 31).openAt = some 0)
    ∧ (let s := dioNode [(0, 2 ^ 27 + 2 ^ 26 + 2 ^ 24), (3, 100 * 2 ^ 18)] { DioS.fresh with period := 100, gate := true, reloadAt := some 0 }
         [(DIO_ADUTY.ADUTY 31, 99)]
       s.up = true ∧ s.pwmRuns 31 = true ∧ (s.dioEnt 31).period ≠ 0 ∧ (atRun s 100).micros % (s.dioEnt 31).period = 0
       ∧ (s.dioOf 31).reloadAt ≠ some (atRun s 100).t.run ∧ (s.dioOf 31).late = none ∧ (s.dioOf 31).gate = true
       ∧ s.get (DIO_ADUTY.ADUTY 31) < (s.dioOf 31).period ∧ (s.dioOf 31).reloadAt = some 0 ∧ s.get (DIO_ADUTY.ADUTY 31) ≤ (atRun s 99).since 0
       ∧ s.reloadDue 31 = false ∧ (atRun s 100).reloadDue 31 = true ∧ (s.dioEnt 31).cmten = false) := by decide +kernel

/-- Speed input 7 in use, of a kind. -/
def spdNode (kind : Nat) (d : SpdS) (l : List (Fld × Nat)) : State :=
  put { adopted running 183 (ent 32 [(0, 2 ^ 27 + kind * 2 ^ 25), (4, 12 * 2 ^ 30)]) with spd := [(7, d)] } l

theorem wit_SpeedInputsMeasure : (∀ kind ∈ [0, 1, 2], let s := spdNode kind { SpdS.fresh with edges := [5] } []
      s.up = true ∧ s.spdUsed 7 = true ∧ (s.spdEnt 7).kind = kind ∧ s.wiringBad 7 = false ∧ s.flag (SPD_PST.QERR 7) = false
      ∧ (s.spdOf 7).edges.headD 0 < (atRun s 1).sampleOf 0
      ∧ (s.spdEnt 7).owoff = false ∧ (s.spdOf 7).still = false ∧ (s.spdOf 7).lastAt + (s.spdEnt 7).standt * 40000 = (atRun s 2000000).sampleNow
      ∧ s.micros % (s.spdEnt 7).ssiper = 0 ∧ (s.spdOf 7).frameAt ≠ some s.t.run ∧ s.alive 18 = true ∧ s.pstate ≠ 6
      ∧ s.t.usec % 1000 = 0 ∧ (s.spdOf 7).winAt ≠ some s.t.run)
    ∧ (let s := spdNode 0 { SpdS.fresh with raws := 51 } []; fmaxe (s.spdEnt 7) / 1000 < ((s.spdOf 7).raws : Rat))
    ∧ (let s := spdNode 0 { SpdS.fresh with raws := 45, winAt := some 0 } []
       ((s.spdOf 7).raws : Rat) ≤ fmaxe (s.spdEnt 7) / 1000 * 9 / 10 ∧ ((s.spdOf 7).raws : Rat) ≤ fmaxe (s.spdEnt 7) / 1000
       ∧ (s.spdOf 7).winAt = some s.t.run)
    ∧ (let s := spdNode 0 SpdS.fresh [(SPD_PST.SUP 7, 2)]; s.get (SPD_PST.SUP 7) = 2
       ∧ (s.spdEnt 7).tacht * 100000 = (atRun s 5000000).since (s.spdOf 7).tachtAt)
    ∧ (let s := spdNode 2 { SpdS.fresh with inFrame := true, frameAt := some 0 } []
       (s.spdEnt 7).kind = 2 ∧ (atRun s 1000).frameOver 7 = true ∧ s.frameOver 7 = false)
    ∧ (let s : State := { spdNode 0 { SpdS.fresh with mirDue := some 0 } [] with t := { running.t with phase := 2 } }
       s.t.phase = 2 ∧ s.mirrorDue 7 = true ∧ s.up = true) := by decide +kernel


/-! ### Ship network -/

/-- A unit on the network: identity 9, sending, port 0 linked with PTP, one list of values, role active. -/
def ship : State :=
  put running [(SN_ID.NID, 9), (SN_CFG.TXEN, 1), (SN_PST.LINK 0, 1), (SN_PCFG.MODE 0, 4), (SN_PCFG.MODE 1, 0), (SN_PCFG.PTPEN 0, 1), (SN_VL.EN 7, 1),
    (SN_VL.COUNT 7, 8), (SN_VL.FIRST 7, 0o310), (JL_STAT.ROLE, 1), (TIM_DSTAT.TRUST, 1)]

/-- The same with an exchange on port 0. -/
def withPtp (x : PtpPort) : State := ship.setPtp 0 x

theorem wit_ShipLinksAndTimeProtocol : ship.up = true ∧ ship.snOn = true ∧ ship.flag (SN_PST.LINK 0) = true
    ∧ ship.sn.tries.get? 0 = none ∧ ({ ship with sn := { ship.sn with tries := [(0, 1, 0)] } } : State).sn.tries.get? 0 = some (1, 0)
    ∧ (liveRun 999999).since 0 < 1000000 ∧ 1000000 ≤ (liveRun 1000000).since 0
    ∧ ship.portMode 0 ∈ [1, 2, 4, 5] ∧ ship.portMode 0 ∈ [2, 3, 4, 5] ∧ ship.portMode 1 ∉ [1, 2, 4, 5] ∧ ship.portMode 1 ∉ [2, 3, 4, 5]
    ∧ (put ship [(SN_PST.LINK 0, 0)]).flag (SN_PST.LINK 0) = false ∧ 4 ≤ (put ship [(SN_PST.LINK 0, 0)]).portMode 0
    ∧ ship.flag (SN_PCFG.PTPEN 0) = true ∧ ship.ptpTakes 0 (ship.get SN_CFG.PTPDOM) = true ∧ ship.get SN_CFG.PTPDOM < 256
    ∧ (ship.ptpOf 0).gm = none
    ∧ (let s := withPtp { PtpPort.fresh with gm := some 5, rank := 3, twoStep := some (2, 7), dreq := some 4 }
       s.ptpTakes 0 (s.get SN_CFG.PTPDOM) = true ∧ (s.ptpOf 0).gm.isSome = true ∧ (s.ptpOf 0).gm = some (5 : BitVec 64).toNat ∧ (s.ptpOf 0).gm ≠ some 6
       ∧ (2 : BitVec 16).toNat < (s.ptpOf 0).rank ∧ (s.ptpOf 0).twoStep = some ((2 : BitVec 16).toNat, 7)
       ∧ (s.ptpOf 0).dreq = some (4 : BitVec 16).toNat ∧ logBeats 1 (s.ptpOf 0).interval = (liveRun 1000000).since (s.ptpOf 0).dreqAt
       ∧ logBeats 3 (s.ptpOf 0).annIv = (liveRun 3000000).since (s.ptpOf 0).annAt) := by decide +kernel

def anEvent (priv : Bool) : LatEv := ⟨3, true, 5, priv, 0, 0, 0⟩
def aTele (priv : Bool) : Tele := ⟨priv, 0, [0, 0, 0, 0, 0, 0], 0, false⟩

/-- The unit at a µs of the round, in a beat that nothing has been formed in. -/
def shipAt (usec : Nat) : State := { ship with t := { ship.t with usec := usec, run := 1 } }

theorem wit_TelegramsFormAndLeave_onTime : ship.mayForm ∧ (shipAt 8000).mayForm ∧ (let s := shipAt 8000
      s.flag (SN_VL.EN 7) = true ∧ s.get (SN_VL.COUNT 7) ≠ 0 ∧ s.get (SN_VL.FIRST 7) + s.get (SN_VL.COUNT 7) ≤ 0o320
      ∧ s.valuesBeat 7 = true ∧ s.sn.formAt.get? 7 ≠ some s.t.run ∧ s.sramPoison 0o00400310 = false)
    ∧ (shipAt 250000).t.usec = 250000 ∧ (shipAt 250000).sn.formAt.get? 8 ≠ some (shipAt 250000).t.run
    ∧ (shipAt 500000).t.usec = 500000 ∧ (shipAt 500000).sn.formAt.get? 9 ≠ some (shipAt 500000).t.run := by
  unfold State.mayForm; decide +kernel

theorem wit_TelegramsFormAndLeave : (∀ priv : Bool, let s : State := { ship with t := { ship.t with beat := 9 }, bl := { ship.bl with netQ := List.replicate 106 (anEvent priv) } }
       s.mayForm ∧ s.bl.netQ = anEvent priv :: List.replicate 105 (anEvent priv) ∧ (anEvent priv).beat ≠ s.workBeat
       ∧ (s.bl.netQ.takeWhile (fun x => x.beat == (anEvent priv).beat)).length ≤ 106
       ∧ ∀ x ∈ s.bl.netQ.takeWhile (fun x => x.beat == (anEvent priv).beat), x.priv = priv)
    ∧ (∀ priv : Bool, ({ ship with sn := { ship.sn with almQ := [(priv, [1], 0)] } } : State).sn.almQ = (priv, [1], 0) :: [])
    ∧ ({ ship with sn := { ship.sn with callQ := [([1], 0)] } } : State).sn.callQ = ([1], 0) :: [] ∧ 0 < (shipAt 0).t.run ∧ ship.txPorts ≠ []
    ∧ ({ ship with sn := { ship.sn with txPriv := [aTele true], txOrd := [aTele false] } } : State).sn.txPriv = aTele true :: []
    ∧ (let s : State := { ship with sn := { ship.sn with txOrd := [aTele false] } }; s.sn.txPriv = [] ∧ s.sn.txOrd = aTele false :: [])
    ∧ (aTele true).hurt = false ∧ ({ aTele true with hurt := true } : Tele).hurt = true := by
  unfold State.mayForm; decide +kernel

/-- Words with their end-to-end check after them. -/
def checked (l : List Word) : List Word := l ++ [W (crc32c l)]

/-- A telegram of a type from identity 99 with ACT set, in a domain, and the words that follow its header. -/
def telegramOf (dom typ : Nat) (body : List Word) : List Word :=
  checked ([W (2 ^ 32 + typ <<< 28 + 2 ^ 25 + dom <<< 13 + 1), 99, 1, 0, 0, 0] ++ body)
def telegram (typ : Nat) (body : List Word) : List Word := telegramOf 0 typ body

/-- A request of an operation for identity 9, from identity 99. -/
def request (op : Nat) (body : List Word) : List Word := telegram 7 ([W (op <<< 32), 9] ++ body)

/-- The unit with identity 99 allowed to command, and a received-signal entry in use. -/
def managed : State :=
  ((put ship [(SN_MSRC.EN 15, 1), (SN_MSRC.SRCID 15, 99), (SN_MSRC.ARM 15, 1), (SN_MSRC.CMD 15, 1), (SN_MSRC.READ 15, 1),
    (OPL_CFG.NETACC, 1), (ONX_STAT.READY, 1)]).setSram (rxAddr 4095) (W (2 ^ 35 + 99))).setSram (rxAddr 4095 + 1) (W (5 <<< 24))

/-- A datagram with its check, of a length and a type that exist and from another node, is a telegram. -/
theorem badTele_checked (s : State) (l : List Word) (h1 : fld (hdr (checked l) 0) 35 32 = 1) (h2 : 6 ≤ l.length) (h3 : l.length ≤ 324)
    (h4 : hdrType (checked l) ∈ [1, 2, 3, 4, 5, 6, 7, 8]) (h5 : hdrSrc (checked l) ≠ s.get SN_ID.NID) : s.badTele (checked l) = none := by
  have hc : hdr (checked l) l.length = W (crc32c l) := by simp [hdr, checked]
  have ht : (checked l).take l.length = l := by simp [checked]
  have hn : (checked l).length - 1 = l.length := by simp [checked]
  have h6 : ¬ (hdrType (checked l) = 0 ∨ 9 ≤ hdrType (checked l)) := by
    intro h; simp only [List.mem_cons, List.not_mem_nil, or_false] at h4; omega
  have h7 : (W (crc32c l)).toNat = crc32c l := Nat.mod_eq_of_lt (crc32c_lt l)
  unfold State.badTele
  simp only [hn, hc, ht, h7, h1]
  simp [h5, Nat.not_lt.mpr h3, Nat.not_lt.mpr h2]
  omega

/-- A state telegram with every bit set. -/
def allStates : List Word := telegram 3 (List.replicate 256 0xFFFFFFFF#36)

theorem wit_TelegramsReceived_states : managed.hears 3 allStates ∧ hdrAct allStates = true
    ∧ wbit (hdr allStates 134) 5 = true ∧ wbit (hdr allStates (134 + 4095 / 32)) (4095 % 32) = true := by
  refine ⟨⟨by decide +kernel, by decide +kernel, badTele_checked _ _ (by decide +kernel) (by decide +kernel) (by decide +kernel)
    (by decide +kernel) (by decide +kernel), by decide +kernel, by decide +kernel⟩, by decide +kernel, by decide +kernel, by decide +kernel⟩

theorem wit_TelegramsReceived_signals :
    managed.hears 2 (telegram 2 [W (2 ^ 35 + 5 <<< 22), 0, 0]) ∧ hdrAct (telegram 2 [W (2 ^ 35 + 5 <<< 22), 0, 0]) = true
    ∧ hdrCount (telegram 2 [W (2 ^ 35 + 5 <<< 22), 0, 0]) = 1 ∧ managed.rxEntries 99 5 = [4095]
    ∧ tsLess 0 0 (managed.sramAt (rxAddr 4095 + 3)) (managed.sramAt (rxAddr 4095 + 4)) = false
    ∧ (let m := checked [W (2 ^ 32 + 2 <<< 28 + 1), 99, 1, 0, 0, 0]; managed.hears 2 m ∧ hdrAct m = false ∧ hdrPriv m = false)
    ∧ wbit (managed.sramAt (rxAddr 4095)) 35 = true ∧ wbit (managed.sramAt (rxAddr 4095 + 2)) 33 = false ∧ managed.t.usec = 0
    ∧ orElse (fld (managed.sramAt (rxAddr 4095 + 1)) 23 16) 3 * 1000000 ≤ (liveRun 3000000).since (managed.sn.rxAt.getD 4095 0)
    ∧ (let m := telegram 6 [managed.reg TIM_MDIG, 0, 0, 0, 0, 0]
       managed.hears 6 m ∧ hdrAct m = true ∧ fld (hdr m 0) 20 13 = managed.get TIM_MDOM.DOMAIN ∧ hdrSrc m ≠ managed.get SN_ID.NID
       ∧ managed.domNodes.length < 32 ∧ hdr m 6 = managed.reg TIM_MDIG)
    ∧ (let m := telegramOf 1 6 [5, 0, 0, 0, 0, 0]
       let s : State := { put managed [(TIM_MDOM.DOMAIN, 1)] with sn := { managed.sn with dom := [⟨99, 0, 1, 1, false, 1⟩] } }
       s.hears 6 m ∧ hdrAct m = true ∧ fld (hdr m 0) 20 13 = s.get TIM_MDOM.DOMAIN ∧ hdrSrc m ≠ s.get SN_ID.NID ∧ s.domNodes.length < 32
       ∧ hdr m 6 ≠ s.reg TIM_MDIG ∧ s.get TIM_MDOM.DOMAIN ≠ 0
       ∧ s.domNodes.find? (fun d => d.src == hdrSrc m) = some ⟨99, 0, 1, 1, false, 1⟩) := by
  unfold State.hears; decide +kernel

theorem executes_of (op : Nat) (perm : Nat → Fld) (m : List Word) (n : Nat) (h : managed.hears 7 m) (h1 : reqOp m = op)
    (h2 : fld (hdr m 7) 31 0 = managed.get SN_ID.NID) (h3 : managed.mgmtSource (hdrSrc m) = some n) (h4 : managed.flag (perm n) = true)
    (h5 : managed.reqShare m = 1) (h6 : reqRole m ≠ 3) : managed.executes op perm m := ⟨h, h1, h2, ⟨n, h3, h4⟩, h5, h6⟩

theorem wit_TelegramsReceived_requests :
    managed.executes 1 SN_MSRC.ARM (request 1 [100, 0, W (2 <<< 32)]) ∧ managed.executes 2 SN_MSRC.CMD (request 2 [5])
    ∧ managed.executes 3 SN_MSRC.CMD (request 3 [5]) ∧ managed.executes 4 SN_MSRC.READ (request 4 [0, 64])
    ∧ managed.executes 5 SN_MSRC.READ (request 5 [0, 8]) ∧ managed.executes 6 SN_MSRC.EN (request 6 []) := by
  refine ⟨?_, ?_, ?_, ?_, ?_, ?_⟩ <;>
    exact executes_of _ _ _ 15 (by unfold State.hears; decide +kernel) (by decide +kernel) (by decide +kernel) (by decide +kernel)
      (by decide +kernel) (by decide +kernel) (by decide +kernel)

theorem wit_TelegramsReceived_operands : fld (hdr (request 1 [100, 0, W (2 <<< 32)]) 0) 20 13 = managed.get TIM_MDOM.DOMAIN
    ∧ managed.flag TIM_DSTAT.TRUST = true ∧ fld (hdr (request 1 [100, 0, W (2 <<< 32)]) 10) 35 32 = 2
    ∧ fld (hdr (request 1 [100, 0, W (2 <<< 32)]) 10) 31 30 ≠ 3
    ∧ targetTest (hdr (request 1 [100, 0, W (2 <<< 32)]) 8) managed.t.beat 8 = 0 ∧ managed.slotFor 2 = some (0, false)
    ∧ managed.commands ∧ managed.alm.cmds.length < 16 ∧ managed.flag OPL_CFG.NETACC = true
    ∧ managed.opl.cmds.length < 8 ∧ managed.mayForm ∧ (hdr (request 4 [0, 64]) 9).toNat = 64 ∧ (hdr (request 4 [0, 64]) 8).toNat < 2 ^ 24
    ∧ (∀ i ∈ List.range 64, managed.sramPoison i = false) ∧ managed.flag ONX_STAT.READY = true
    ∧ (hdr (request 5 [0, 8]) 9).toNat = 8 ∧ fld (hdr (request 5 [W (2 ^ 35 + 16376), 8]) 8) 15 0 + 8 ≤ 16384
    ∧ (∀ k ∈ [1, 4, 5, 8], managed.hears k (telegram k [])) ∧ reqOp (request 6 []) = 6
    ∧ ship.hears 7 (request 4 [0, 64]) ∧ reqOp (request 4 [0, 64]) = 4 ∧ ship.mgmtSource 99 = none
    ∧ fld (hdr (request 4 [0, 64]) 7) 31 0 = ship.get SN_ID.NID ∧ fld (hdr [0] 0) 35 32 ≠ 1
    ∧ (∀ typ ∈ [0, 9], fld (hdr (telegram typ []) 0) 35 32 = 1 ∧ hdrType (telegram typ []) = typ) ∧ (telegram 1 (List.replicate 319 0)).length = 326
    ∧ (telegram 1 [0]).dropLast.length = 7 ∧ (hdr (telegram 1 [0]).dropLast 6).toNat ≠ crc32c ((telegram 1 [0]).dropLast.take 6) := by
  unfold State.mayForm State.hears State.commands; decide +kernel


/-! ### Pair operation -/

/-- A unit with its pair engine on, in a pair state, with what else its registers hold. -/
def paired (pstate : Nat) (l : List (Fld × Nat)) : State := put running ([(JL_CFG.EN, 1), (JL_STAT.PSTATE, pstate)] ++ l)

def withJl (s : State) (f : JlS → JlS) : State := { s with jl := f s.jl }

theorem wit_PairTakesAndGivesControl :
    (let s := withJl (paired 2 []) (fun j => { j with relAt := some 5 }); s.up = true ∧ (atRun s 5).releaseDue = true ∧ (atRun s 4).releaseDue = false
      ∧ (atRun s 4).ahead.releaseDue = true ∧ s.t.disc.stepPend = none)
    ∧ (∀ p ∈ [5, 7], let s := withJl (paired p []) (fun j => { j with takeAt := some 5 }); s.up = true ∧ (atRun s 5).takeoverDue = true
      ∧ (atRun s 4).takeoverDue = false ∧ (atRun s 4).ahead.takeoverDue = true)
    ∧ (let s := withJl (paired 6 []) (fun j => { j with deadAt := some 0 }); s.up = true ∧ s.pstate = 6 ∧ s.jl.deadAt = some 0
      ∧ 50000 ≤ (atRun s 50000).since 0 ∧ (atRun s 49999).since 0 < 50000)
    ∧ (let s := paired 1 []; s.up = true ∧ s.pairOn = true ∧ s.pstate = 1 ∧ orElse (s.get JL_CFG.SEEKR) 2 * 1000000 = (atRun s 2000000).aloneFor
      ∧ s.aloneFor < orElse (s.get JL_CFG.SEEKR) 2 * 1000000)
    ∧ (∀ r ∈ [0, 1], let s := put (slotted 15 1) [(JL_STAT.PSTATE, 5), (JL_STAT.REF, r)]
       s.up = true ∧ s.pstate = 5 ∧ s.dueSlots.head? = some 15 ∧ s.get (TIM_SLOT_W1.ACTION 15) = 1 ∧ s.flag JL_STAT.REF = (r == 1))
    ∧ live.alive 23 = true
    ∧ (let s := paired 2 [(JL_STAT.PARTNER, 5), (JL_SWAP.HOURS, 24), (JL_CFG.SWAPH, 0)]
       s.up = true ∧ s.jlRefusal = 0 ∧ s.jl.relBeat = none ∧ s.slotFor 1 = some (0, false) ∧ targetTest (s.boundaryAhead 2) s.t.beat (s.minlead 1) = 0
       ∧ s.alive 23 = true ∧ s.pairOn = true ∧ orElse (s.get JL_CFG.SWAPH) 24 ≠ 511 ∧ orElse (s.get JL_CFG.SWAPH) 24 ≤ s.get JL_SWAP.HOURS ∧ s.mode ≤ 1
       ∧ s.jl.partSleep = none ∧ s.get JL_STAT.PARTNER = 5 ∧ (∀ k : Fin 16, s.armedSlot k = false))
    ∧ live.jlRefusal ≠ 0 ∧ 3 ≤ (paired 3 []).pstate ∧ (paired 7 []).pstate ≤ 7 ∧ live.life.supAt = none
    ∧ (let s := withJl (paired 4 []) (fun j => { j with cleanRounds := 10 })
       s.up = true ∧ s.pairOn = true ∧ s.pstate = 4 ∧ orElse (s.get JL_CFG.PROBR) 10 = s.jl.cleanRounds)
    ∧ (let s : State := { paired 2 [(JL_STAT.PARTNER, 5)] with life := { live.life with supAt := some 0 } }
       s.life.supAt = some 0 ∧ 10000 ≤ (atRun s 10000).since 0 ∧ s.pstate = 2 ∧ s.get JL_STAT.PARTNER = 5 ∧ s.jl.relBeat = none) := by decide +kernel

/-- A frame of the active at beat 5 with an epoch. -/
def aFrame (epoch : Word) : JFrame :=
  { kind := 1, unit := 1, pstate := 2, giveup := false, cont := false, sleep := false, epoch := epoch, beat := 5, txt := 6, echoTx := 0, echoRx := 0
    mdig := 0, ldig := 0, edig := 0, stv := false, step := 0, rel := 0, ddf := false, pseq := 0, recs := [] }

/-- Both lanes in block lock. -/
def locking (pstate : Nat) : State := withJl (paired pstate []) (fun j => { j with link := { j.link with lockA := true, lockB := true } })

theorem wit_CrosslinkFrames : (locking 2).up = true ∧ (locking 2).pairOn = true
    ∧ (∀ lane : Bool, (if lane then (locking 2).jl.link.lockB else (locking 2).jl.link.lockA) = true)
    ∧ frameOk { aFrame 1 with pstate := 10 } = false ∧ frameOk (aFrame 1) = true ∧ (locking 2).jl.wake = 0
    ∧ ((locking 2).jl.link.rx.map (fun r => (r.beat, r.txt))) ≠ some ((aFrame 1).beat, (aFrame 1).txt)
    ∧ (let s := withJl (locking 5) (fun j => { j with link := { j.link with rx := some (aFrame 0) } })
       s.pairOn = true ∧ s.jl.wake = 0 ∧ (s.jl.link.rx.map (fun r => (r.beat, r.txt))) = some ((aFrame 1).beat, (aFrame 1).txt))
    ∧ (locking 2).pstate = 2 ∧ ((locking 2).reg JL_EPOCH).toNat < (aFrame 1).epoch.toNat
    ∧ (let s := atRun (withJl (locking 5) (fun j => { j with link := { j.link with lastA := some 0, lastB := some 1 } })) 16
       let s := put s [(JL_STAT.LNKA, 1), (JL_STAT.LNKB, 1)]
       s.laned = true ∧ 16 ≤ s.quietFor s.jl.link.lastA ∧ s.quietFor s.jl.link.lastB < 16 ∧ s.flag JL_STAT.LNKB = true
       ∧ 16 ≤ (atRun s 17).quietFor s.jl.link.lastB)
    ∧ (paired 5 []).jl.takeAt = none ∧ (paired 5 []).jl.wake = 0 ∧ (paired 5 []).jl.replayAt + 6 ≤ (atRun (paired 5 []) 6).t.run
    ∧ (paired 5 [(JL_STAT.WIT, 1)]).pairOn = true ∧ (paired 5 [(JL_STAT.WIT, 1)]).flag JL_STAT.WIT = true ∧ (paired 5 [(JL_STAT.WIT, 1)]).replays = true
    ∧ (paired 5 []).flag JL_STAT.WIT = false ∧ (paired 7 []).pairOn = true ∧ (paired 2 []).jl.partSleep = none
    ∧ (paired 5 []).jl.link.replay.any (fun r => r.beat == (paired 5 []).t.beat - 6 && r.complete) = false
    ∧ (paired 5 [(JL_STAT.LNKA, 1)]).laned = true := by decide +kernel

theorem wit_CarryRecords : (∀ a ∈ [0o100000, 0o600377], isTable a = true ∧ sramRight a = some true ∧ (paired 5 []).deaf a = false
      ∧ (paired 5 []).tableClosed a = false ∧ (paired 2 []).deaf a = false ∧ (paired 2 []).tableClosed a = false)
    ∧ (paired 2 []).pstate = 2 ∧ (∀ a, (paired 5 []).unbeaten 23 a) ∧ ∀ a, (paired 2 []).unbeaten 23 a :=
  ⟨by decide +kernel, by decide, fun _ p h => absurd h (List.not_mem_nil), fun _ p h => absurd h (List.not_mem_nil)⟩

theorem wit_CrosslinkRecords : (5 : Word) ≠ (paired 5 []).reg JL_EPOCH ∧ (0 : Word) = (paired 5 []).reg JL_EPOCH
    ∧ (paired 5 []).pairOn = true ∧ (paired 5 []).replays = true ∧ (paired 2 []).replays = false
    ∧ (paired 2 []).alm.cmds.length < 16 ∧ (paired 2 []).opl.cmds.length < 8 ∧ running.almRuns = true
    ∧ fld (W (5 <<< 32)) 35 32 = 5 ∧ fld (W (5 <<< 32)) 31 30 ≠ 3 ∧ targetTest 8 (paired 5 []).t.beat 8 = 0 ∧ (paired 5 []).slotFor 5 = some (0, false)
    ∧ (paired 3 []).pairOn = true ∧ (paired 3 []).pstate = 3 ∧ (cellNode 4095 3 0 true 0 0).bl.cfg.get? (4095 : BitVec 16).toNat = some (cellOfType 3)
    ∧ streamAddr streamTables 27087 = some (0o601000 + 1023) ∧ streamAddr streamTables 0 = some 0o100000
    ∧ (paired 1 []).pairOn = true ∧ (paired 1 []).pstate = 1 ∧ digestWords 0 = (paired 1 []).runDigest ∧ digestWords 1 ≠ (paired 1 []).runDigest
    ∧ (let s := withJl (paired 3 []) (fun j => { j with joinStep := 1 }); s.pairOn = true ∧ s.pstate = 3 ∧ s.jl.joinStep = 1
       ∧ digestWords 1 ≠ s.runDigest) := by decide +kernel

/-- A referee run from beat 0, its window open, with one output whose samples differ as given. -/
def refereeOf (act stb : Nat) : Referee := ⟨5, 0, 0, true, false, [⟨0, 10, act, stb, 0, true, true, none⟩]⟩

/-- A unit with such a run: one output whose samples differ as given. -/
def judging (pstate : Nat) (act stb : Nat) (l : List (Fld × Nat)) : State :=
  withJl (paired pstate ([(JL_STAT.REF, 1)] ++ l)) (fun j => { j with referee := some (refereeOf act stb) })

theorem wit_RefereeAndChecks : (paired 2 [(JL_STAT.PARTNER, 5)]).pairOn = true ∧ (paired 2 [(JL_STAT.PARTNER, 5)]).get JL_STAT.PARTNER = 5
    ∧ (paired 2 [(JL_STAT.PARTNER, 5)]).jl.referee = none ∧ (paired 2 [(JL_STAT.PARTNER, 5)]).jl.relBeat = none
    ∧ (judging 2 6 0 [(JL_STAT.PARTNER, 5)]).pairOn = true ∧ (judging 2 6 0 [(JL_STAT.PARTNER, 5)]).jl.referee.isSome = true
    ∧ (judging 2 6 0 [(JL_STAT.PARTNER, 5)]).get JL_STAT.PARTNER = 5
    ∧ (judging 5 0 6 []).up = true ∧ (judging 5 0 6 []).pstate = 5 ∧ (judging 5 0 6 []).jl.referee = some (refereeOf 0 6) ∧ (refereeOf 0 6).selfDone = false
    ∧ 32 ≤ (atRun (judging 5 0 6 []) 32).since (refereeOf 0 6).selfAt ∧ (refereeOf 0 6).open_ = true
    ∧ (judging 5 0 6 []).since (refereeOf 0 6).at_ < 64 + (judging 5 0 6 []).refLen
    ∧ 64 + (judging 5 0 6 []).refLen = (atRun (judging 5 0 6 []) 20064).since (refereeOf 0 6).at_
    ∧ verdictOf (refereeOf 0 6).outs = 2 ∧ verdictOf (refereeOf 5 5).outs = 1 ∧ verdictOf [] = 4
    ∧ (∀ d ∈ [5, 6], let s := atRun (withJl (paired 2 [(JL_STAT.PARTNER, 5)]) (fun j => { j with swapChk := some (refereeOf d 0) })) 20000
       s.up = true ∧ s.jl.swapChk = some (refereeOf d 0) ∧ (refereeOf d 0).at_ + s.refLen = s.t.run ∧ s.pstate = 2 ∧ s.get JL_STAT.PARTNER = 5
       ∧ s.jl.relBeat = none ∧ ((refereeOf d 0).outs.filter (fun o => 2 * o.fieldDiff ≤ o.n)).any (fun o => 2 * o.actDiff > o.n) = (d == 6)) := by
  decide +kernel

/-- A unit of a waking or sleeping pair, at a beat count and a µs of the round. -/
def resting (pstate wake usec : Nat) : State :=
  let s := withJl (paired pstate [(SYS_MODE.MODE, 1), (JL_LAY.SLEEPEN, 1)]) (fun j => { j with wake := wake, sleepSet := true })
  { s with t := { s.t with usec := usec } }

theorem wit_WitnessAndSleep : bit (0x8001 : BitVec 16).toNat 15 ≠ ((paired 7 []).unit == 1) ∧ crc4 (0x8001 : BitVec 16).toNat = (0x8001 : BitVec 16).toNat % 16
    ∧ crc4 (0x8000 : BitVec 16).toNat ≠ (0x8000 : BitVec 16).toNat % 16 ∧ bits (0xA00C : BitVec 16).toNat 14 12 = 2
    ∧ crc4 (0xA00C : BitVec 16).toNat = (0xA00C : BitVec 16).toNat % 16 ∧ (paired 7 []).pstate = 7 ∧ (paired 7 []).laned = false
    ∧ (paired 7 []).t.beat.toNat % 16 = 8 * (paired 7 []).unit ∧ (paired 7 []).jl.link.witAt ≠ some (paired 7 []).t.run
    ∧ (let s := atRun (put (paired 7 []) [(JL_STAT.WIT, 1)]) 48; s.flag JL_STAT.WIT = true ∧ 48 ≤ s.quietFor s.jl.link.lastWit)
    ∧ (let s := resting 5 0 0; s.up = true ∧ s.sleepDue = true ∧ (resting 5 0 999999).sleepDue = false ∧ (resting 5 0 999999).ahead.sleepDue = true)
    ∧ (let s := atRun (resting 9 0 900000) 10000000
       s.up = true ∧ s.pstate = 9 ∧ 900000 ≤ s.t.usec ∧ orElse (s.get JL_LAY.SLEEPR) 10 * 1000000 = s.since s.jl.stateAt)
    ∧ (∀ k ∈ [1, 2], let s := resting 3 k 0; s.up = true ∧ s.pstate = 3 ∧ s.jl.wake = k ∧ 1000000 ≤ (atRun s 1000000).since s.jl.stateAt
       ∧ 3000000 ≤ (atRun s 3000000).since s.jl.stateAt)
    ∧ (let s := atRun (withJl (paired 2 []) (fun j => { j with partSleep := some 0 })) 13000000
       s.up = true ∧ s.jl.partSleep = some 0 ∧ (orElse (s.get JL_LAY.SLEEPR) 10 + 3) * 1000000 = s.since 0 ∧ s.laned = false
       ∧ s.flag JL_STAT.WIT = false ∧ s.pstate = 2) := by decide +kernel

/-- A standby comparing point 159, whose halves disagree or agree. -/
def disagreeing (x : Bool) : State :=
  let s := dioNode [(0, 2 ^ 27)] DioS.fresh [(JL_CFG.EN, 1), (JL_STAT.PSTATE, 5), (disFld 159, (!x).toNat)]
  { s with jl := { s.jl with dis := [(159, { DisS.fresh with cmp := x })] } }


theorem wit_DisagreementsAppearAndClear : ∀ x : Bool, (disagreeing x).up = true ∧ (disagreeing x).comparing = true
    ∧ (((disagreeing x).disOf 159).cmp || ((disagreeing x).disOf 159).val) = x ∧ (disagreeing x).flag (disFld 159) = !x := by decide +kernel

/-! ### Calendar and recorder -/

def dateAt (time leap : Nat) : State := put (live.setReg CLK_TIME (timeWord (time / 3600) (time / 60 % 60) (time % 60) 0)) [(CLK_UTC.LEAP, leap)]

theorem wit_CalendarCountsAndCommands :
    (∀ x ∈ [(0, 0), (86397, 2), (86398, 0)], secOf ((dateAt x.1 x.2).reg CLK_TIME) = x.1 ∧ (dateAt x.1 x.2).get CLK_UTC.LEAP = x.2)
    ∧ (∀ leap ∈ [0, 1, 2], secOf ((dateAt 86399 leap).reg CLK_TIME) = 86399 ∧ (dateAt 86399 leap).get CLK_UTC.LEAP = leap)
    ∧ secOf ((dateAt 86398 2).reg CLK_TIME) = 86398 ∧ (dateAt 86398 2).get CLK_UTC.LEAP = 2
    ∧ secOf ((live.setReg CLK_TIME (timeWord 23 59 60 0)).reg CLK_TIME) = 86400
    ∧ live.timed = true ∧ live.clk.left ≠ 1 ∧ State.reset.timed = false ∧ ({ live with clk := { live.clk with count := 32767 } } : State).clk.left = 1
    ∧ live.up = true ∧ live.alive 25 = true ∧ live.windowOver = false ∧ (let s := atRun (put live [(CLK_STAT.WINRUN, 1)]) 3600000000
       s.up = true ∧ s.windowOver = true ∧ s.alive 25 = true)
    ∧ (put live [(CLK_CFG.AUTO, 0)]).flag CLK_CFG.AUTO = false := by decide +kernel

def withOnx (s : State) (f : OnxS → OnxS) : State := { s with onx := f s.onx }
def mramIs (s : State) (m : Store) : State := { s with mem := { s.mem with mram := m } }
def aTrig (cls sub : Nat) : Trig := ⟨cls, sub, 0, 0, 0, 0, 0, 0, 0, 0, 0, 0, 0, 0, 0, 0⟩
def aRec (cls : Nat) : Rec := ⟨aTrig cls 3, [], 0, 0, 0⟩

theorem wit_RecorderWritesAndReads :
    (let s := put live [(ONX_STAT.READY, 0)]; s.up = true ∧ s.onxUp = true ∧ s.flag ONX_STAT.READY = false ∧ s.mem.mramBad = [] ∧ s.newest = none)
    ∧ (mramIs live [(slotAddr 20479, markMode)]).newest = some 20479
    ∧ (let s := (put (withOnx live (fun o => { o with queue := List.replicate 111 (aRec 1) })) [(ONX_CCFG.EN 4, 1), (ONX_CCFG.COAL 4, 0)]).setReg ONX_OPR 3600
       s.up = true ∧ s.onx.depth < 112 ∧ s.t.usec = 0 ∧ s.reg ONX_OPR ≠ 0 ∧ (s.reg ONX_OPR).toNat % 3600 = 0 ∧ s.onx.hourAt ≠ s.reg ONX_OPR
       ∧ s.flag (ONX_CCFG.EN 4) = true ∧ s.flag (ONX_CCFG.COAL 4) = false)
    ∧ (∀ sub ∈ [2, 3], let s := withOnx live (fun o => { o with trigs := [aTrig 1 sub] })
       s.alive 24 = true ∧ s.onx.trigs = aTrig 1 sub :: [] ∧ s.snapDue = false ∧ 4 * ((aTrig 1 sub).at_ + 1) + 1 ≤ (atRun s 2).phaseNo
       ∧ s.mem.sramBad = [] ∧ s.mem.mramBad = [])
    ∧ (∀ cls ∈ [2, 3], let s := put (withOnx live (fun o => { o with queue := [aRec cls], tokens := 1 })) [(ONX_STAT.READY, 1)]
       s.up = true ∧ s.mayRecord = true ∧ s.onx.queue = aRec cls :: [] ∧ ((aRec cls).trig.cls ≤ 2 ∨ s.onx.tokens ≠ 0)
       ∧ (put s [(ONX_STAT.READY, 0)]).mayRecord = false)
    ∧ (∀ slot ∈ [4095, 4096], let w : Writing := ⟨slot, [(1, 5), (2, 6), (0, markMode)], 0⟩
       let s := withOnx live (fun o => { o with writing := some w })
       s.onx.writing = some w ∧ s.onxUp = true ∧ s.onx.clear = none ∧ (w.todo.map (·.1)).Nodup ∧ w.todo.length = (atRun s 2).t.run + 1 - w.next
       ∧ 2 = (atRun s 1).t.run + 1 - w.next ∧ 2 < w.todo.length)
    ∧ (put live [(ONX_STAT.READY, 1)]).flag ONX_STAT.READY = true
    ∧ (∀ area : Bool, let s := withOnx live (fun o => { o with copy := some (area, 4095) })
       s.onx.copy = some (area, 4095) ∧ s.onx.writing = none ∧ s.onxUp = true) := by decide +kernel

/-- A key of zeros in copy 0. -/
def zeroKey : List Byte := List.replicate 32 0
def keyWord63 : Word := W (crc32c (keyMagic :: List.replicate 62 0))
def keyHeld : State := put (mramIs live [(keyBase 0, keyMagic), (keyBase 0 + 63, keyWord63)]) [(ONX_STAT.READY, 1)]

/-- A clear asked for, its challenge of zeros standing, with an answer. -/
def answered (base : Nat) (s : State) (l : List Nat) : State := l.zipIdx.foldl (fun (s : State) (p : Nat × Nat) => s.setReg (base + p.2) (W p.1)) s
def clearing (l : List Nat) : State := answered (ONX_RESP 0) (withOnx keyHeld (fun o => { o with clrCmd := true, chal := some 0 })) l

/-- The right answer to the challenge of zeros under the key of zeros. -/
def rightAnswer : List Nat := beWords 8 (hmacSha256 zeroKey zeroKey)

theorem wit_AuthorisedClearing :
    (let s := withOnx live (fun o => { o with lockAt := some 0, chalReq := some 0, chal := some 0 })
     s.up = true ∧ s.onx.lockAt = some 0 ∧ s.alive 24 = true ∧ s.onx.chalReq.isSome = true ∧ s.onx.chal = some 0
     ∧ 64 * 1000000 ≤ (atRun s 64000000).since 0 ∧ 600 * 1000000 ≤ (atRun s 600000000).since 0)
    ∧ live.onx.lockAt = none ∧ live.onx.clrCmd = false
    ∧ (let s := put (withOnx live (fun o => { o with clrCmd := true })) [(ONX_STAT.READY, 0)]
       s.up = true ∧ s.onxUp = true ∧ s.onx.clrCmd = true ∧ s.t.usec = 0 ∧ s.flag ONX_STAT.READY = false)
    ∧ (let s := put (withOnx live (fun o => { o with clrCmd := true })) [(ONX_STAT.READY, 1)]
       s.flag ONX_STAT.READY = true ∧ s.onx.clear = none ∧ s.onx.chal = none ∧ s.recKey = none)
    ∧ (∀ x ∈ [(20479, 2), (20479, 4), (0, 4)], let c : Clear := ⟨x.1, 5, x.2, false, 0, 0, 0⟩
       let s := withOnx live (fun o => { o with clear := some c })
       s.up = true ∧ s.onxUp = true ∧ s.onx.clear = some c ∧ s.onx.writing = none ∧ s.wroteNow = false ∧ c.step = x.2
       ∧ s.t.run < c.at_ + 20480 ∧ c.at_ + 20480 ≤ (atRun s 20480).t.run) := by decide +kernel

theorem wit_AuthorisedClearing_key : (clearing []).up = true ∧ (clearing []).onxUp = true ∧ (clearing []).onx.clrCmd = true ∧ (clearing []).t.usec = 0
    ∧ (clearing []).flag ONX_STAT.READY = true ∧ (clearing []).onx.clear = none
    ∧ (clearing []).onx.lockAt = none ∧ (clearing []).onx.chal.isSome = true ∧ (clearing []).roundsPast (clearing []).onx.chal 64 = false
    ∧ (clearing []).onx.writing = none ∧ (clearing []).wroteNow = false := by decide +kernel

theorem wit_AuthorisedClearing_answers :
    (clearing []).regBytes (ONX_RESP 0) ≠ hmacSha256 zeroKey ((clearing []).regBytes (ONX_CHAL 0))
    ∧ (clearing rightAnswer).onx.chal.isSome = true
    ∧ (clearing rightAnswer).regBytes (ONX_RESP 0) = hmacSha256 zeroKey ((clearing rightAnswer).regBytes (ONX_CHAL 0)) := by decide +kernel

/-- A key of zeros is read where copy 0 holds MAGIC, zeros and the right check, and copy 1 nothing. -/
theorem recKey_zero (s : State) (x : Word) (hm : s.mem.mram = [(keyBase 0, keyMagic), (keyBase 0 + 63, x)]) (hb : s.mem.mramBad = [])
    (hx : x = W (crc32c (keyMagic :: List.replicate 62 0))) : s.recKey = some zeroKey := by
  have r : ∀ a, s.mramAt a = Store.read mramReset [(keyBase 0, keyMagic), (keyBase 0 + 63, x)] a := fun a => by rw [State.mramAt, hm]
  have w : s.mramWords (keyBase 0) 64 = keyMagic :: (List.replicate 62 0 ++ [x]) := by
    rw [State.mramWords, funext r]; rfl
  have w1 : (s.mramWords (keyBase 1) 64).headD 0 = 0 := by
    rw [State.mramWords, funext r]; rfl
  have k : s.mramWords (keyBase 0 + 2) 8 = List.replicate 8 0 := by
    rw [State.mramWords, funext r]; rfl
  have z : (List.replicate 8 (0 : Word)).flatMap (fun w => toBytes 4 (fld w 31 0)) = zeroKey := by decide
  have p : ∀ a, s.mramPoison a = false := fun a => by rw [State.mramPoison, hb]; rfl
  have v1 : s.keyCopyValid 1 = false := by
    have h : ((0 : Word) == keyMagic) = false := by decide
    simp only [State.keyCopyValid, w1, h, Bool.false_and]
  have v0 : s.keyCopyValid 0 = true := by
    have t : (keyMagic :: (List.replicate 62 (0 : Word) ++ [x])).take 63 = keyMagic :: List.replicate 62 0 := rfl
    have d : (((keyMagic :: (List.replicate 62 (0 : Word) ++ [x])).drop 10).take 53).all (· == 0) = true := rfl
    have g : (keyMagic :: (List.replicate 62 (0 : Word) ++ [x])).getD 63 0 = x := rfl
    simp only [State.keyCopyValid, w, t, d, g, ← hx, p, List.headD_cons, beq_self_eq_true, Bool.and_true]
    simp
  simp only [State.recKey, State.keyCopy, v0, v1, Option.map_some, k, z]

theorem wit_AuthorisedClearing_recKey : (clearing []).recKey = some zeroKey ∧ (clearing rightAnswer).recKey = some zeroKey :=
  ⟨recKey_zero _ keyWord63 rfl rfl rfl, recKey_zero _ keyWord63 rfl rfl rfl⟩


/-! ### Image controller -/

def withImg (s : State) (f : ImgS → ImgS) : State := { s with img := f s.img }

theorem wit_ImageSessionsAndCommits : live.up = true ∧ live.imgUp = true ∧ (live.flag IMG_STAT.SESSION || live.img.commit || live.imgOccupied) = false
    ∧ (put live [(IMG_STAT.SESSION, 1)]).flag IMG_STAT.SESSION = true
    ∧ (∀ n ∈ [0, 63, 64, imgSize - 1, imgSize], let s := put live [(IMG_STAT.SESSION, 1), (IMG_WCNT.CNT, n)]
       s.up = true ∧ s.imgUp = true ∧ s.flag IMG_STAT.SESSION = true ∧ s.get IMG_WCNT.CNT = n ∧ s.img.wq.length < 64)
    ∧ (let s := withImg (put live [(IMG_STAT.SESSION, 1), (IMG_WCNT.CNT, 200)]) (fun i => { i with wq := List.replicate 64 (136, 7) })
       s.flag IMG_STAT.SESSION = true ∧ s.get IMG_WCNT.CNT = 200 ∧ 64 ≤ s.img.wq.length ∧ s.img.wq ≠ [])
    ∧ (let s := withImg live (fun i => { i with verify := some 0 }); s.imgUp = true ∧ s.img.verify.isSome = true ∧ s.img.wq = []
       ∧ (s.img.verify.isSome || s.img.commit) = true ∧ s.flag IMG_STAT.SESSION = false
       ∧ (put s [(IMG_STAT.SESSION, 1)]).flag IMG_STAT.SESSION = true ∧ (put s [(IMG_STAT.SESSION, 1)]).get IMG_WCNT.CNT ≠ imgSize)
    ∧ (live.img.verify.isSome || live.img.commit) = false ∧ live.img.commit = false
    ∧ (∀ l ∈ [[], [(IMG_STAT.VERIFIED, 1)], [(IMG_STAT.VERIFIED, 1), (IMG_STAT.PREP, 1)]],
       let s := withImg (put live l) (fun i => { i with commit := true, staged := List.replicate 64 0 })
       s.up = true ∧ s.imgUp = true ∧ s.img.commit = true ∧ s.get IMG_CRES.STEP = 0 ∧ s.t.usec = 0 ∧ s.life.warn = false
       ∧ s.flag SYS_DBG.HALTED = false ∧ s.flag IMG_STAT.VERIFIED = (l != []) ∧ s.imgOccupied = (l.length == 2) ∧ s.img.staged.length = 64)
    ∧ (∀ n ∈ [0, 62], let s := atRun (withImg (put live [(IMG_CRES.STEP, 1)]) (fun i => { i with commit := true, staged := List.replicate 64 7 })) n
       s.img.commit = true ∧ s.get IMG_CRES.STEP = 1 ∧ s.imgElapsed = n ∧ n < 63 ∧ s.img.staged.length = 64)
    ∧ (∀ w ∈ [0, 7], let s := atRun (withImg (put live [(IMG_CRES.STEP, 3)]) (fun i => { i with commit := true, staged := List.replicate 64 (W w) })) 129
       s.img.commit = true ∧ s.get IMG_CRES.STEP = 3 ∧ 129 ≤ s.imgElapsed ∧ s.bankPoison s.img.target 0 64 = none
       ∧ (if w = 0 then s.bankHead s.img.target = s.img.staged else s.bankHead s.img.target ≠ s.img.staged))
    ∧ (∀ x ∈ [(0, 0), (1, 1), (1, 2)], let s := (put live [(IMG_CFG.MANUAL, x.1), (IMG_STAT.APPLYPEND, x.1)]).setReg IMG_ATGT (W x.2)
       s.imgUp = true ∧ s.replays = false ∧ s.flag IMG_STAT.PREP = false ∧ s.flag IMG_STAT.APPLYPEND = (x.1 == 1) ∧ s.reg IMG_ATGT = W x.2) := by decide +kernel

/-- An apply of bank A pending, due now. -/
def pending : State :=
  withImg (put live [(IMG_STAT.APPLYPEND, 1)]) (fun i => { i with applyAt := some 1 })

theorem pending_due : pending.up = true ∧ pending.imgUp = true ∧ pending.flag IMG_STAT.PREP = false ∧ pending.t.usec = 0
    ∧ pending.img.startup = none ∧ pending.img.resync = false ∧ pending.flag IMG_STAT.APPLYPEND = true ∧ pending.replays = false
    ∧ pending.img.applyAt = some 1 ∧ (1 : Word).toNat ≤ pending.t.round.toNat + 1
    ∧ pending.mramPoison (imgBase pending.img.pendBank + 0o1000) = false := by decide +kernel

/-- A preparation of bank A at a step, with words of it taken, at a beat count. -/
def copying (keep : Bool) (step done run : Nat) : State :=
  atRun (withImg (put running [(IMG_STAT.PREP, 1)]) (fun i => { i with prep := some ⟨0, 0, step, done, keep, [], [], false⟩ })) run

theorem wit_ImagePreparesAndApplies_copies : ∀ keep : Bool, ∀ x ∈ [(1, 0), (1, 3583), (2, 3584), (2, 265727), (3, 265728), (3, 303871)],
    let n := x.2 + 1 - prepBegin x.1
    let s := copying keep x.1 (n - 1) x.2
    let p : Prep := ⟨0, 0, x.1, n - 1, keep, [], [], false⟩
    s.up = true ∧ s.imgUp = true ∧ s.flag IMG_STAT.PREP = true ∧ s.img.prep = some p ∧ 1 ≤ x.1 ∧ x.1 ≤ 3 ∧ prepBegin x.1 ≤ s.since p.at_
    ∧ s.since p.at_ < prepBegin (x.1 + 1) ∧ n = s.since p.at_ + 1 - prepBegin x.1 ∧ s.prepPoison p p.done_ n = none := by decide +kernel

/-- A bank whose cell 0 has a type that no cell has. -/
theorem wit_ImagePreparesAndApplies_refused : (∀ m, (mramIs (copying false 2 262144 265728) m).img.prep = some ⟨0, 0, 2, 262144, false, [], [], false⟩)
    ∧ latticeFault ((mramIs (copying false 2 262144 265728) [(imgBase 0 + cellBase 0, W (31 <<< 31))]).bankAt 0) = some (0, 1) := by
  refine ⟨fun _ => rfl, ?_⟩
  have t : ∀ all k c b, 14 ≤ c.typ → cellWhy all k c b = 1 := fun all k c b h => by simp only [cellWhy]; simp [h]
  have c : 14 ≤ (parseCell ((List.range 64).map (fun i =>
      (mramIs (copying false 2 262144 265728) [(imgBase 0 + cellBase 0, W (31 <<< 31))]).bankAt 0 (cellBase 0 + i)))).typ := by decide +kernel
  generalize (mramIs (copying false 2 262144 265728) [(imgBase 0 + cellBase 0, W (31 <<< 31))]).bankAt 0 = rd at c ⊢
  have e : ∃ r, parseLattice rd = (0, parseCell ((List.range 64).map (fun i => rd (cellBase 0 + i)))) :: r :=
    ⟨_, by rw [parseLattice, show List.range 4096 = 0 :: (List.range 4095).map Nat.succ from List.range_succ_eq_map, List.map_cons]⟩
  obtain ⟨r, e⟩ := e
  simp only [latticeFault, e, List.findSome?_cons, t _ _ _ _ c]
  rfl

/-- Reading from words laid at rising places. -/
theorem read_laid (f : Nat → Nat) (x : Word) (l : List Nat) (a : Nat) :
    Store.read mramReset (l.map (fun k => (f k, x))) a = if ∃ k ∈ l, f k = a then x else 0 := by
  induction l with
  | nil => simp [Store.read, mramReset]
  | cons k l ih =>
    simp only [List.map_cons, Store.read, ih, List.mem_cons, exists_eq_or_imp]
    by_cases h : f k = a <;> simp [h]

/-- A bank of cells without configuration, their checks being the word given. -/
def emptyCells (m : Store) : State := mramIs (copying false 2 262144 265728) m

theorem emptyCells_word (m : Store) (x : Word) (hm : m = (List.range 4096).map (fun k => (imgBase 0 + (cellBase k + 63), x))) (k i : Nat)
    (hk : k < 4096) (hi : i < 64) : (emptyCells m).bankAt 0 (cellBase k + i) = if i = 63 then x else 0 := by
  have e : (emptyCells m).mem.mram = m := rfl
  rw [State.bankAt, State.mramAt, e, hm, read_laid (fun k => imgBase 0 + (cellBase k + 63))]
  by_cases h : i = 63
  · rw [if_pos ⟨k, by simpa using hk, by rw [h]⟩, if_pos h]
  · rw [if_neg, if_neg h]
    rintro ⟨j, -, e⟩
    simp only [cellBase] at e
    omega

theorem wit_ImagePreparesAndApplies_taken (m : Store) (x : Word) (hx : fld x 31 0 = crc32c (List.replicate 63 0))
    (hm : m = (List.range 4096).map (fun k => (imgBase 0 + (cellBase k + 63), x))) :
    latticeFault ((emptyCells m).bankAt 0) = none := by
  have word := emptyCells_word m x hm
  generalize (emptyCells m).bankAt 0 = rd at word ⊢
  have ws : ∀ k, k < 4096 → ((List.range 64).map (fun i => rd (cellBase k + i))) = List.replicate 63 0 ++ [x] := by
    intro k hk
    have e : (List.range 64).map (fun i => rd (cellBase k + i)) = (List.range 64).map (fun i => if i = 63 then x else 0) :=
      List.map_congr_left (fun i hi => word k i hk (by simpa using hi))
    rw [e]; rfl
  have ck : ∀ k, k < 4096 → cchkBad rd k = false := by
    intro k hk
    have e : (List.range 63).map (fun i => rd (cellBase k + i)) = List.replicate 63 0 := by
      have e' : (List.range 63).map (fun i => rd (cellBase k + i)) = (List.range 63).map (fun i => if i = 63 then x else 0) :=
        List.map_congr_left (fun i hi => by have h : i < 63 := by simpa using hi
                                            exact word k i hk (by omega))
      rw [e']; rfl
    rw [cchkBad, word k 63 hk (by omega), e, if_pos rfl, hx]
    simp
  have l : parseLattice rd = (List.range 4096).map (fun k => (k, parseCell (List.replicate 63 0 ++ [x]))) :=
    List.map_congr_left (fun k hk => by rw [ws k (by simpa using hk)])
  have w : ∀ all k, cellWhy all k (parseCell (List.replicate 63 0 ++ [x])) false = 0 := by
    intro all k
    have c : ∀ i, i < 63 → (List.replicate 63 0 ++ [x]).getD i (0 : Word) = 0 := fun i hi => by
      rw [List.getD_eq_getElem?_getD, List.getElem?_append_left (by simpa using hi)]; simp [hi, -List.reduceReplicate]
    have z : ∀ a b, fld (0 : Word) a b = 0 := fun a b => by simp [fld, bits]
    have y : ∀ a, wbit (0 : Word) a = false := fun a => by simp [wbit, bit]
    have typ : (parseCell (List.replicate 63 0 ++ [x])).typ = 0 := by simp only [parseCell, c 0 (by omega), z]
    have nin : (parseCell (List.replicate 63 0 ++ [x])).nin = 0 := by simp only [parseCell, c 0 (by omega), z]
    have ins : (parseCell (List.replicate 63 0 ++ [x])).ins = [] := by simp only [parseCell, c 0 (by omega), z]; rfl
    have al : (parseCell (List.replicate 63 0 ++ [x])).almen = false := by simp only [parseCell, c 3 (by omega), y]
    have tx : (parseCell (List.replicate 63 0 ++ [x])).txen = false := by simp only [parseCell, c 3 (by omega), y]
    generalize parseCell (List.replicate 63 0 ++ [x]) = cc at typ nin ins al tx ⊢
    simp [cellWhy, typ, nin, ins, al, tx, ninOk, paramBad]
  rw [latticeFault, l, List.findSome?_eq_none_iff]
  intro q hq
  obtain ⟨k, hk, rfl⟩ := List.mem_map.1 hq
  simp only [ck k (by simpa using hk), w]
  rfl

/-- A check in a word. -/
theorem fld_check (l : List Word) : fld (W (crc32c l)) 31 0 = crc32c l := by
  have h := crc32c_lt32 l
  generalize crc32c l = n at h ⊢
  simp only [fld, bits, BitVec.toNat_ofNat, Nat.shiftRight_zero]
  omega

/-- A bank that holds the checks of 4096 empty cells, read in full. -/
theorem wit_ImagePreparesAndApplies_prepared (m : Store) (hm : m = (List.range 4096).map (fun k => (imgBase 0 + (cellBase k + 63), W (crc32c (List.replicate 63 0))))) :
    (emptyCells m).up = true ∧ (emptyCells m).imgUp = true ∧ (emptyCells m).flag IMG_STAT.PREP = true
    ∧ (emptyCells m).img.prep = some ⟨0, 0, 2, 262144, false, [], [], false⟩ ∧ (emptyCells m).since 0 = 265728
    ∧ (emptyCells m).mramPoison (imgBase 0 + 0o10000) = false ∧ latticeFault ((emptyCells m).bankAt 0) = none ∧ (emptyCells m).img.resync = false :=
  ⟨by change (copying false 2 262144 265728).up = true; decide +kernel, by change (copying false 2 262144 265728).imgUp = true; decide +kernel,
    by change (copying false 2 262144 265728).flag IMG_STAT.PREP = true; decide +kernel, rfl, rfl,
    by change (copying false 2 262144 265728).mramPoison _ = false; decide +kernel,
    wit_ImagePreparesAndApplies_taken m _ (fld_check _) hm, rfl⟩

theorem wit_ImagePreparesAndApplies_applied :
    (∀ b ∈ [0, 1], let p : Prep := ⟨b, 0, 4, 0, false, [], [], false⟩
      let s := withImg live (fun i => { i with prep := some p })
      s.up = true ∧ s.imgUp = true ∧ s.img.prep = some p ∧ p.step = 4 ∧ p.startup = false ∧ b ≤ 1 ∧ s.t.usec = s.lag ∧ s.t.phase = 0)
    ∧ (∀ m ∈ [0, 2], let s := withImg live (fun i => { i with safeWait := some (m, 1), safeCell := some 4095 })
      s.up = true ∧ s.img.safeWait = some (m, 1) ∧ s.img.safeCell = some 4095 ∧ m < 3 ∧ s.t.run < 1 ∧ 1 ≤ (atRun s 1).t.run ∧ s.t.phase = 0)
    ∧ (let s := withImg live (fun i => { i with lockAt := some 0, chalReq := some 0, chal := some 0 })
       s.imgUp = true ∧ s.img.lockAt = some 0 ∧ s.img.chalReq.isSome = true ∧ s.img.chal = some 0
       ∧ 64 * 1000000 ≤ (atRun s 64000000).since 0 ∧ 600 * 1000000 ≤ (atRun s 600000000).since 0)
    ∧ live.img.lockAt = none ∧ live.img.keyCmd = 0 := by decide +kernel

/-- A key command at its boundary, the challenge of zeros standing, with an answer; a command other than 1 is a REMOVE. -/
def keying (cmd : Nat) (l : List Nat) : State :=
  answered (IMG_KRESP 0) ((withImg keyHeld (fun i => { i with keyCmd := cmd, chal := some 0 })).setReg (IMG_KNEW 7) 1) l

/-- The right answers to the challenge of zeros, under the key of zeros, of a SET and a REMOVE. -/
def setAnswer : List Nat := beWords 8 (hmacSha256 zeroKey (zeroKey ++ List.replicate 31 0 ++ [1]))
def removeAnswer : List Nat := beWords 8 (hmacSha256 zeroKey (zeroKey ++ zeroKey))

theorem wit_ImagePreparesAndApplies_keys : (∀ cmd ∈ [1, 2], (keying cmd []).up = true ∧ (keying cmd []).imgUp = true
      ∧ (keying cmd []).t.usec = 0 ∧ (keying cmd []).roundsPast (keying cmd []).img.chal 64 = false
      ∧ (keying cmd []).img.keyCmd = cmd ∧ (keying cmd []).keyBusy = false ∧ (keying cmd []).img.lockAt = none
      ∧ (put (keying cmd []) [(IMG_STAT.PREP, 1)]).keyBusy = true ∧ (withImg (keying cmd []) (fun i => { i with lockAt := some 0 })).img.lockAt.isSome = true
      ∧ (withImg (keying cmd []) (fun i => { i with lockAt := some 0 })).keyBusy = false
      ∧ (keying cmd []).reg (IMG_KNEW 7) ≠ 0 ∧ (withImg (keying cmd []) (fun i => { i with chal := none })).img.chal = none)
    ∧ (let s := withImg live (fun i => { i with keyCmd := 1 })
       s.img.keyCmd = 1 ∧ s.keyBusy = false ∧ s.recKey = none ∧ (∀ i : Fin 8, s.reg (IMG_KNEW i) = 0)
       ∧ (s.setReg (IMG_KNEW 0) 1).recKey = none ∧ (s.setReg (IMG_KNEW 0) 1).reg (IMG_KNEW (0 : Fin 8)) ≠ 0) := by decide +kernel

theorem wit_ImagePreparesAndApplies_recKey : (keying 1 []).recKey = some zeroKey ∧ (keying 1 setAnswer).recKey = some zeroKey
    ∧ (keying 2 []).recKey = some zeroKey ∧ (keying 2 removeAnswer).recKey = some zeroKey :=
  ⟨recKey_zero _ keyWord63 rfl rfl rfl, recKey_zero _ keyWord63 rfl rfl rfl, recKey_zero _ keyWord63 rfl rfl rfl, recKey_zero _ keyWord63 rfl rfl rfl⟩

theorem wit_ImagePreparesAndApplies_answers :
    (∀ cmd ∈ [1, 2], (keying cmd []).img.chal.isSome = true ∧ (keying cmd []).regBytes (IMG_KRESP 0) ≠ hmacSha256 zeroKey
      ((keying cmd []).regBytes (IMG_KCHAL 0) ++ (if (keying cmd []).img.keyCmd = 1 then (keying cmd []).regBytes (IMG_KNEW 0)
        else List.replicate 32 (0 : Byte))))
    ∧ (∀ x ∈ [(1, setAnswer), (2, removeAnswer)], (keying x.1 x.2).regBytes (IMG_KRESP 0) = hmacSha256 zeroKey
      ((keying x.1 x.2).regBytes (IMG_KCHAL 0) ++ (if (keying x.1 x.2).img.keyCmd = 1 then (keying x.1 x.2).regBytes (IMG_KNEW 0)
        else List.replicate 32 (0 : Byte)))) := by decide +kernel

/-! ### Quoster compatibility and the legacy bus -/

/-- A node in compatibility mode whose bus ports are in use; it drives and transmits as node 9. -/
def quosterNode (l : List (Fld × Nat)) : State :=
  put running ([(SYS_STRAP.COMPAT, 1), (LEG_BCFG.MODE, 2), (LEG_BCFG.TXEN, 1), (LEG_BCFG.ADDR, 9), (LEG_BCFG.ACKIN, 1), (LEG_BCFG.VPER, 1)] ++ l)

def withLeg (s : State) (f : LegS → LegS) : State := { s with leg := f s.leg }

/-- Legacy writes waiting. -/
def legWaiting (l : List LegWr) : State := withLeg (quosterNode []) (fun g => { g with wq := l })

theorem wit_QuosterTransactions : (legWaiting []).quoster = true ∧ (legWaiting []).up = true ∧ (1 : BitVec 15).toNat ≠ 0
    ∧ (legWaiting (List.replicate 63 ⟨3, 0, false⟩)).leg.wq.length < 64 ∧ 64 ≤ (legWaiting (List.replicate 64 ⟨3, 0, false⟩)).leg.wq.length
    ∧ (legWaiting (List.replicate 64 ⟨3, 0, false⟩)).quoster = true
    ∧ (∀ a ∈ [0, 2, 5, 0x4FF, 0x580, 0x5FF, 0x610, 0x7FFF], (a ≤ 2 ∨ (5 ≤ a ∧ a < 0x500) ∨ (0x580 ≤ a ∧ a < 0x600) ∨ 0x610 ≤ a)
        ∧ (legWaiting [⟨a, 1, false⟩]).leg.wq = ⟨a, 1, false⟩ :: [])
    ∧ (∀ a ∈ [3, 0x600, 0x60F], (legWaiting [⟨a, 1, false⟩]).quoster = true ∧ (legWaiting [⟨a, 1, false⟩]).leg.wq = ⟨a, 1, false⟩ :: []) := by decide +kernel

/-- An alarm point of the legacy range in group 5 and a rewrite waiting for that group. -/
def delayed : State := withLeg { quosterNode [(ALM_PST.STATE 127, 0)] with alm := { live.alm with pts := [(127, { AlmS.fresh with cache := ⟨ent 16 [(0, 2 ^ 27 + 2 ^ 24 + 5 * 2 ^ 18)], 0, false, false, false⟩ })] } }
  (fun g => { g with dly := [(5, 409, 0)] })

/-- Writes of a table that a full queue does not hold. -/
def fullQueue : State := legWaiting (List.replicate 64 ⟨5, 5, false⟩)

theorem wit_QuosterCommandsTranslate : (quosterNode []).quoster = true ∧ (quosterNode []).leg.wq = [] ∧ (quosterNode []).up = true
    ∧ (quosterNode []).mode ≠ 3 ∧ (quosterNode []).starting = false
    ∧ fullQueue.quoster = true ∧ 64 ≤ fullQueue.leg.wq.length ∧ fullQueue.leg.wq.contains ⟨4, 0x5000, false⟩ = false
    ∧ (∀ l ∈ [(3, 2), (4, 4096 + 127), (0x53F, 7), (0x60F, 410)], (legWaiting [⟨l.1, l.2, false⟩]).quoster = true
        ∧ (legWaiting [⟨l.1, l.2, false⟩]).leg.wq.head? = some ⟨l.1, l.2, false⟩)
    ∧ (quosterNode []).slotFor 0 = some (0, false) ∧ (quosterNode []).commands ∧ (quosterNode []).alm.cmds.length < 16
    ∧ (quosterNode []).alive 25 = true ∧ legEpoch ≤ (BitVec.ofNat 32 legEpoch).toNat ∧ (quosterNode [(CLK_CFG.SYNC, 1), (TIM_DSTAT.TRUST, 1)]).clkSynced = true
    ∧ (quosterNode []).tblLock = false ∧ (quosterNode []).flag IMG_STAT.PREP = false ∧ (∀ c : Fin 64, (quosterNode []).alive (c / 8) = true)
    ∧ (∀ c ∈ [0, 63], ∀ k ∈ [0, 4, 5], (quosterNode []).rewritable (commitAddr c + k))
    ∧ (∀ x ∈ [(0, 1000), (1, 0x7FFF), (1, 0x8001)], -(2 ^ 31) ≤ legBack x.1 x.2 ∧ legBack x.1 x.2 < 2 ^ 31)
    ∧ ({ quosterNode [] with tblLock := true } : State).quoster = true ∧ ({ quosterNode [] with tblLock := true } : State).tblLock = true
    ∧ (quosterNode [(IMG_STAT.PREP, 1)]).flag IMG_STAT.PREP = true := by
  unfold State.commands State.rewritable State.unbeaten; decide +kernel

theorem wit_QuosterCommandsTranslate_later :
    (let s := withLeg (quosterNode []) (fun g => { g with horn := some 0 })
     s.up = true ∧ s.leg.horn = some 0 ∧ 1000 ≤ (atRun s 1000).since 0 ∧ (atRun s 999).since 0 < 1000 ∧ s.replays = false)
    ∧ (let s := atRun delayed 1
       s.up = true ∧ s.t.usec = 0 ∧ s.leg.dly = [(5, 409, 0)] ∧ 0 < s.t.run ∧ s.tblLock = false ∧ s.flag IMG_STAT.PREP = false ∧ s.replays = false
       ∧ s.alive 20 = true ∧ s.dlyPoints 5 = [127] ∧ s.rewritable (commitAddr (184 + 127)) ∧ s.rewritable (commitAddr (184 + 127) + 2)) := by
  unfold State.rewritable State.unbeaten; decide +kernel

/-- A frame of the legacy bus with its delimiter and check (R523): source, destination, type, SEQ and data. -/
def legFrameOf (src dst typ seq : Nat) (data : List Nat) : List Byte :=
  let b := ([src, dst, typ, seq, data.length] ++ data).map (BitVec.ofNat 8)
  0xA5 :: (b ++ toBytes 2 (crc16 b))

/-- The node knows address 63, on bus 1, and receives its point 127's two signals into entries 0 and 1. -/
def listening (l : List (Fld × Nat)) : State :=
  [(rxAddr 0, W (2 ^ 35 + 4294967104 + 63)), (rxAddr 0 + 1, W (127 <<< 24)), (rxAddr 1, W (2 ^ 35 + 4294967104 + 63)), (rxAddr 1 + 1, W (255 <<< 24))].foldl
    (fun (s : State) (p : Nat × Word) => s.setSram p.1 p.2) (quosterNode ([(LEG_KNOWN.KNOWN 1, 2 ^ 31)] ++ l))

theorem wit_LegacyBusReceives : (listening []).up = true ∧ (listening []).busOn = true ∧ telegramOk [] = false
    ∧ (∀ typ ∈ [1, 2, 3, 4, 5], (listening []).legTakes 1 typ (legFrameOf 63 0 typ 7 [127, 32, 1]) false
        ∧ (listening []).legTakes 1 typ (legFrameOf 62 0 typ 7 []) false
        ∧ (withLeg (listening []) (fun g => { g with seen := [⟨1, 63, 7, 0⟩] })).legTakes 1 typ (legFrameOf 63 0 typ 7 []) true)
    ∧ (listening []).known 63 = true ∧ (listening []).known 62 = false ∧ frameByte (legFrameOf 62 0 1 7 []) 1 = 62
    ∧ (let s := quosterNode [(LEG_KNOWN.KNOWN 0, 2 ^ 9)]; s.known 9 = true ∧ s.get LEG_BCFG.ADDR = 9 ∧ (s.portOf 0).sending = false
       ∧ s.legTakes 0 1 (legFrameOf 9 0 1 7 []) false) := by
  unfold State.legTakes; decide +kernel

theorem wit_LegacyBusReceives_effects :
    frameByte (legFrameOf 63 0 1 7 [127, 32, 1]) 5 = 3 ∧ frameByte (legFrameOf 63 0 1 7 [127, 32, 1]) 6 = 127
    ∧ frameByte (legFrameOf 63 0 1 7 [127, 32, 1]) 1 = 63
    ∧ (∀ i ∈ [0, 1], tsLess (listening []).ts0 (listening []).ts1 ((listening []).sramAt (rxAddr i + 3)) ((listening []).sramAt (rxAddr i + 4)) = false)
    ∧ 0 ∈ (listening []).rxEntries ((listening []).legSrc 1 63) 127 ∧ 1 ∈ (listening []).rxEntries ((listening []).legSrc 1 63) (128 + 127)
    ∧ 1 ∈ (listening []).srcEntries ((listening []).legSrc 1 63)
    ∧ (∀ op ∈ [0, 1, 2, 3], ∀ dst ∈ [0, 9], frameByte (legFrameOf 63 dst 2 7 [op, 255]) 6 = op ∧ frameByte (legFrameOf 63 dst 2 7 [op, 255]) 2 = dst
        ∧ (listening []).legTakes 1 2 (legFrameOf 63 dst 2 7 [op, 255]) false)
    ∧ (listening []).flag LEG_BCFG.ACKIN = true ∧ (listening []).drives = true ∧ (listening []).almRuns = true ∧ (listening []).replays = false ∧ (listening []).alm.cmds.length < 16
    ∧ (listening []).get LEG_BCFG.ADDR = 9 ∧ (listening [(LEG_BCFG.ACKIN, 0)]).flag LEG_BCFG.ACKIN = false
    ∧ (listening [(JL_STAT.PSTATE, 5)]).drives = false
    ∧ frameByte (legFrameOf 63 8 2 7 [1, 255]) 2 ≠ 0 ∧ frameByte (legFrameOf 63 8 2 7 [1, 255]) 2 ≠ (listening []).get LEG_BCFG.ADDR := by
  unfold State.legTakes; decide +kernel

/-- Port 1 of a node at a beat count. -/
def porting (x : LegPort) (l : List (Fld × Nat)) (n : Nat) : State := atRun (withLeg (quosterNode l) (fun g => { g with ports := [(1, x)] })) n
def aLegTx (cls coll : Nat) : LegTx := ⟨cls, [9, 0, 4, 7, 0], 0, coll, 0⟩
def quiet (q : List LegTx) : LegPort := ⟨q, false, false, false, 0, 0⟩

theorem wit_LegacyBusSends : (quosterNode []).up = true ∧ (quosterNode []).busOn = true ∧ (quosterNode []).legTx = true
    ∧ (quosterNode [(LEG_BCFG.TXEN, 0)]).legTx = false ∧ (quosterNode [(LEG_BCFG.TXEN, 0)]).busOn = true ∧ (quosterNode []).get LEG_BCFG.VPER ≠ 0
    ∧ (let s : State := { quosterNode [] with alm := { live.alm with chg := [(5, 0)] } }
       s.alm.chg = [(5, 0)] ∧ 0 < (atRun s 1).t.run ∧ s.t.run ≤ 0 ∧ s.legTx = true)
    ∧ (let s : State := { quosterNode [] with t := { live.t with usec := 750000 } }
       s.legTx = true ∧ s.t.usec = 750000 ∧ s.leg.formAt.get? 0 ≠ some s.t.run ∧ s.leg.formAt.get? 1 ≠ some s.t.run
       ∧ s.t.round.toNat % s.get LEG_BCFG.VPER = 0 ∧ ∀ p : Fin 2, (s.portOf p).q.length ≤ 18)
    ∧ (quosterNode []).t.usec ≠ 750000 := by decide +kernel

theorem wit_LegacyBusSends_ports :
    (let s := porting (quiet [aLegTx 3 0]) [] ((44 + 4 * wBase 3) * (quosterNode []).bitBeats)
     (s.portOf 1).q = aLegTx 3 0 :: [] ∧ (s.portOf 1).sending = false ∧ (s.portOf 1).testing = false ∧ s.lineIdle 1 = true
       ∧ s.startDue 1 (aLegTx 3 0) = true ∧ (atRun s (s.t.run + 1)).startDue 1 (aLegTx 3 0) = false
       ∧ s.flag (LEG_PST.STUCK 1) = false ∧ s.txEnabled 1 = true ∧ s.busOn = true ∧ 100000 ≤ (atRun s 100000).since (s.portOf 1).edgeAt)
    ∧ (∀ c ∈ [0, 3], ∀ n ∈ [14, 15], let s := porting { quiet [aLegTx c n] with sending := true } [] 0
       (s.portOf 1).sending = true ∧ (s.portOf 1).q = aLegTx c n :: [] ∧ (aLegTx c n).cls = c ∧ (aLegTx c n).coll = n
       ∧ s.since (s.portOf 1).txAt < s.txBeats (aLegTx c n)
       ∧ s.txBeats (aLegTx c n) ≤ (atRun s (s.txBeats (aLegTx c n))).since (s.portOf 1).txAt)
    ∧ (porting (quiet []) [(LEG_PST.OWN 1, 1)] 0).txEnabled 1 = false
    ∧ (let s := porting { quiet [] with testing := true } [] 10000; (s.portOf 1).testing = true ∧ 10000 ≤ s.since (s.portOf 1).txAt)
    ∧ (quosterNode [(LEG_PST.STUCK 1, 1)]).flag (LEG_PST.STUCK 1) = true := by decide +kernel

/-! ### Commands that the hardware cannot bring -/

theorem test_decode_nothing : decodeTableWord 8 0 = none ∧ decodeTableWord 36 5 = none := ⟨rfl, rfl⟩

/-- A record of a frame whose RTYPE has five bits; too many record words; a field wider than its place (R388, R389). -/
theorem test_illformed_frame : (Instr.crosslinkFrameRx true { aFrame 0 with recs := [⟨16, 0, 0, []⟩] } 0).wellFormed = false
    ∧ (Instr.crosslinkFrameRx true { aFrame 0 with recs := List.replicate 4 ⟨1, 0, 0, List.replicate 60 0⟩ } 0).wellFormed = false
    ∧ (Instr.crosslinkFrameRx true { aFrame 0 with pstate := 16 } 0).wellFormed = false
    ∧ (Instr.crosslinkFrameRx true (aFrame 0) 0).wellFormed = true := by decide +kernel

/-- Too short a telegram, another TYPE, another OP (R356, R358, R366). -/
theorem test_illformed_telegram : (Instr.signalsRx [] 0 0).wellFormed = false
    ∧ (Instr.sigstateRx (telegram 2 []) 0 0).wellFormed = false ∧ (Instr.signalsRx (telegram 2 []) 0 0).wellFormed = true
    ∧ (Instr.statusRx (telegram 5 [])).wellFormed = false ∧ (Instr.otherTelegramRx (telegram 6 [])).wellFormed = false
    ∧ (∀ x ∈ [(1, Instr.requestArmRx), (2, Instr.requestAlmcmdRx), (3, Instr.requestOplcmdRx), (4, Instr.requestReadRx), (5, Instr.requestReadrecRx)],
        (x.2 (request 6 [])).wellFormed = false ∧ (x.2 (request x.1 [])).wellFormed = true) := by decide +kernel

/-- A legacy frame of 7 bytes (R523); an opcode of the table as a bad one (R477); a command that SYS_CMD has (R485 to R490). -/
theorem test_illformed_others : (Instr.legacyAlarmRx 0 (List.replicate 7 0)).wellFormed = false
    ∧ (Instr.legacyAckRx 0 (List.replicate 57 0)).wellFormed = false ∧ (Instr.hostBadOpcode 0x0B).wellFormed = false
    ∧ (Instr.hostBadOpcode 0x04).wellFormed = true ∧ (Instr.sysInvalidCmd 1).wellFormed = false ∧ (Instr.sysInvalidCmd 7).wellFormed = true
    ∧ (Instr.mramPatrol [⟨5, .single⟩, ⟨5, .single⟩]).wellFormed = false ∧ (Instr.mgRead 0 0 []).wellFormed = false
    ∧ (Instr.mgWrite 0 (List.replicate 33 0) false).wellFormed = false ∧ (Instr.stateRecordRx 0 0 []).wellFormed = false
    ∧ (Instr.fskFrameReceive 0 (List.replicate 266 0) false false).wellFormed = false := by decide +kernel

/-! ### Results that the spec works out -/

/-- 4.2 bar, good and held, and a timestamp (the examples of "The KZ936 at a glance"). -/
theorem test_quantity_word : qword 0 6720000 = 0o000031505000 ∧ qword 2 6720000 = 0o100031505000 := by decide +kernel
theorem test_timestamp : (put (liveAt { live.t with usec := 250000 }) [(TIM_DSTAT.TRUST, 1), (JL_STAT.PART, 0)]).ts1 2 = 0o172044120000 := by decide +kernel

/-- Node time at TS0 1,000,000,000 (the example after R52). -/
theorem test_node_time : (10 ^ 15) % 2 ^ 36 = 62894014464 ∧ beatOf (10 ^ 15) = 62894014464 := by decide +kernel

/-- The entry of AI27 (the example of "The channel table"). -/
theorem test_entry_address : commitAddr 27 = 0o00103300 ∧ Entry.stype [0o123241002000] = 5 ∧ Entry.uclass [0o123241002000] = 1
    ∧ Entry.gen [0o123241002000] = 41 ∧ Entry.gen [0o125241002000] = 42 := by decide +kernel

/-- The slot of the record with SEQ 30,000 (the example of "The Onyx black-box recorder"). -/
theorem test_recorder_slot : slotOf 30000 1000 - 4096 = 8520 ∧ slotAddr (slotOf 30000 1000) = 0o15524400 ∧ slotAddr (slotOf 30001 1000) = 0o15524440 := by decide +kernel

/-- 2031-07-15, a Tuesday, 10:20:30 (the example of "The calendar clock and backup domain"). -/
theorem test_calendar : dayOf 0o100304725200 = 11518 ∧ secOf 0o202014040000 = 37230 ∧ weekday 11518 = 2 ∧ dateWord 11518 = 0o100304725200
    ∧ (put ((live.setReg CLK_DATE 0o100304725200).setReg CLK_TIME 0o202014040000) [(CLK_UTC.UTCOFS, 37)]).calTs0 = 995192467 := by decide +kernel

/-- QVAL of 4.2 bar and of 773.15 K, and the code of a good value (the example of "Quoster compatibility"). -/
theorem test_legacy_values : qvalOf 1 0o000031505000 = 420 ∧ qvalOf 0 0o000301223146 = 5000 ∧ qvalOf 0 0o240301223146 = 5000 ∧ qstsCode 0 = 0 := by decide +kernel

/-- The entry of an ALARM for point 120: ACT_UNACK, first-out, PRI 2, group 5 (the example of "The legacy alarm bus"). -/
theorem test_legacy_alarm_entry : chgEntry (W (1 <<< 33 + 2 <<< 30 + 5 <<< 24 + 1 <<< 23 + 120 <<< 13)) = [0x78, 0x32, 0x05]
    ∧ chgClass (W (1 <<< 33 + 2 <<< 30 + 5 <<< 24 + 1 <<< 23 + 120 <<< 13)) = 1 := by decide +kernel

/-- SHA-256 and HMAC-SHA-256 give their known digests of the empty message and CRC-16 of "123456789" its known check. -/
theorem test_checks : (sha256 []).take 4 = [0xe3, 0xb0, 0xc4, 0x42] ∧ crc16 [0x31, 0x32, 0x33, 0x34, 0x35, 0x36, 0x37, 0x38, 0x39] = 0x29B1 := by decide +kernel

/-- Reset leaves the values that the rules give: SAFE and STARTING, the reset values of SYS_HTO and SYS_WDOG (chapter 19). -/
theorem test_reset_pending : State.reset.pending = [] ∧ State.reset.get SYS_HTO.HTO_BEATS = 32 := by decide +kernel

end Sys2Proof.Tests
end

namespace Sys2Proof.Machine

open Sys2Proof

/-! ## What a command keeps, from the parts of the state it leaves alone -/

section
variable {s t : State}

/-- Memory reads as before where its words and error patterns are the same. -/
theorem memKept_of_eq (hs : t.mem.sram = s.mem.sram) (hsb : t.mem.sramBad = s.mem.sramBad) (hm : t.mem.mram = s.mem.mram)
    (hmb : t.mem.mramBad = s.mem.mramBad) : MemKept s t := by
  refine ⟨fun a => ⟨?_, ?_⟩, fun a => ⟨?_, ?_⟩⟩
  · simp only [State.sramAt, hs]
  · simp only [State.sramPoison, hsb]
  · simp only [State.mramAt, hm]
  · simp only [State.mramPoison, hmb]

theorem memKept_of_mem_eq (h : t.mem = s.mem) : MemKept s t := memKept_of_eq (by rw [h]) (by rw [h]) (by rw [h]) (by rw [h])

theorem mramKept_of_eq (hm : t.mem.mram = s.mem.mram) (hmb : t.mem.mramBad = s.mem.mramBad) : MramKept s t := by
  refine fun a => ⟨?_, ?_⟩
  · simp only [State.mramAt, hm]
  · simp only [State.mramPoison, hmb]

/-- A register that reads as before has each of its fields as before. -/
theorem get_of_reg_eq {f : Fld} (h : t.reg f.addr = s.reg f.addr) : t.get f = s.get f := by simp only [State.get, h]

theorem RegsKeptBut.trans {u : State} {l : List Nat} (h : RegsKeptBut l s t) (h' : RegsKeptBut l t u) : RegsKeptBut l s u :=
  fun a ha => (h' a ha).trans (h a ha)

/-- The end of a command moves pins alone. -/
theorem allKept_settle : AllKept s (settle s) := ⟨fun _ => State.reg_settle, memKept_of_mem_eq State.mem_settle⟩

end

/-! ## The cold start (R545) -/

section
variable {s : State} {a c : Nat}

/-! ### What a reset loses (R544) -/

@[simp] theorem State.mem_pauseCommits (b : Bool) : (s.pauseCommits b).mem = s.mem := by
  unfold State.pauseCommits State.calPause State.imgPause State.calResume State.imgResume
  split <;> split <;> split <;> rfl

@[simp] theorem State.mem_loseWork : s.loseWork.mem = s.mem := by
  unfold State.loseWork
  dsimp only
  rw [foldl_keeps State.mem]
  · simp
  · intro z n
    rw [State.mem_ite]
    simp

@[simp] theorem State.mem_resetRegs (keep : Bool) (whole : Nat → Bool) : (s.resetRegs keep whole).mem = s.mem := rfl

/-- The islands lose the register writes that wait, and no word of memory. -/
@[simp] theorem State.mem_loseIslands : s.loseIslands.mem = { s.mem with pend := [] } := rfl

/-- A cold reset empties SRAM. -/
theorem State.sram_coldReset : (s.coldReset c).mem.sram = [] := rfl

/-- A cold reset leaves the words of MRAM as they were. -/
theorem State.mram_coldReset : (s.coldReset c).mem.mram = s.mem.mram := by
  unfold State.coldReset
  simp only [State.mem_putB, State.mem_put, State.mem_resetRegs, State.mem_loseIslands, State.mem_loseWork]

/-- A cold reset leaves the error patterns of MRAM as they were. -/
theorem State.mramBad_coldReset : (s.coldReset c).mem.mramBad = s.mem.mramBad := by
  unfold State.coldReset
  simp only [State.mem_putB, State.mem_put, State.mem_resetRegs, State.mem_loseIslands, State.mem_loseWork]

/-- A cold reset takes the beat count back to 0. -/
theorem State.beat_coldReset : (s.coldReset c).t.beat = 0 := rfl

/-- Every SRAM word reads its reset content after a cold reset (R539, log 2). -/
theorem State.sramAt_coldReset : (s.coldReset c).sramAt a = sramReset a := by
  unfold State.sramAt
  rw [State.sram_coldReset]
  rfl

/-- A cold reset shows its class. -/
theorem State.rclass_coldReset (h : c < 16) : (s.coldReset c).get SYS_RSTAT.RCLASS = c := by
  unfold State.coldReset
  dsimp only
  rw [State.get_with, State.get_putB_other (by decide) (by decide), State.get_put_same (by decide)]
  exact Nat.mod_eq_of_lt h

/-! ### Oscillator cycles (R438, R440, R441) -/

/-- Registers that the counting of oscillator cycles writes. -/
def countingRegs : List Nat := [CLK_DATE, CLK_TIME, CLK_STAT, CLK_UTC, HST_ISRC]

/-- A change that touches no register but those of the counting, and no memory. -/
def CountsOnly (s t : State) : Prop := RegsKeptBut countingRegs s t ∧ t.mem = s.mem

theorem CountsOnly.trans {s t u : State} (h : CountsOnly s t) (h' : CountsOnly t u) : CountsOnly s u :=
  ⟨h.1.trans h'.1, h'.2.trans h.2⟩

theorem countsOnly_refl : CountsOnly s s := ⟨fun _ _ => rfl, rfl⟩

theorem countsOnly_setReg {w : Word} (h : a ∈ countingRegs) : CountsOnly s (s.setReg a w) :=
  ⟨fun _ hb => State.reg_setReg_other (fun e => hb (e ▸ h)), rfl⟩

theorem countsOnly_put {f : Fld} {v : Nat} (h : f.addr ∈ countingRegs) : CountsOnly s (s.put f v) := countsOnly_setReg h

theorem countsOnly_oscStopped : CountsOnly s (s.oscStopped c) := by
  have h : CountsOnly s ((s.putB CLK_STAT.OSF true).put CLK_STAT.CAUSE c) :=
    (countsOnly_put (by decide)).trans (countsOnly_put (by decide))
  unfold State.oscStopped
  dsimp only
  split
  · exact h.trans (countsOnly_put (by decide))
  · exact h

theorem countsOnly_midnight : CountsOnly s s.midnight := by
  have h : CountsOnly s ((s.setReg CLK_DATE (dateWord (dayOf (s.reg CLK_DATE) + 1))).setReg CLK_TIME (timeWord 0 0 0 0)) :=
    (countsOnly_setReg (by decide)).trans (countsOnly_setReg (by decide))
  unfold State.midnight
  dsimp only
  split
  · exact h.trans countsOnly_oscStopped
  · exact h

theorem countsOnly_leapDone (up : Bool) : CountsOnly s (s.leapDone up) :=
  (countsOnly_put (by decide)).trans (countsOnly_put (by decide))

theorem countsOnly_advanceSecond : CountsOnly s s.advanceSecond := by
  unfold State.advanceSecond
  dsimp only
  split
  · exact countsOnly_midnight.trans (countsOnly_leapDone true)
  · split
    · exact countsOnly_setReg (by decide)
    · split
      · exact countsOnly_midnight.trans (countsOnly_leapDone false)
      · split
        · exact countsOnly_midnight
        · exact countsOnly_setReg (by decide)

theorem countsOnly_calendarSecond : CountsOnly s s.calendarSecond := by
  have h : CountsOnly s (({ s with clk := { s.clk with shift := 0, count := 0 } } : State).putB CLK_STAT.SHPEND false) :=
    CountsOnly.trans (t := { s with clk := { s.clk with shift := 0, count := 0 } }) countsOnly_refl (countsOnly_put (by decide))
  exact h.trans countsOnly_advanceSecond

theorem countsOnly_countOn (fuel n : Nat) : CountsOnly s (State.countOn fuel s n) := by
  induction fuel generalizing s n with
  | zero => exact countsOnly_refl
  | succ fuel ih =>
    unfold State.countOn
    split
    · exact CountsOnly.trans (t := { s with clk := { s.clk with count := s.clk.count + n } }) countsOnly_refl
        (countsOnly_put (by decide))
    · exact countsOnly_calendarSecond.trans (ih _)

theorem countsOnly_oscillate (n : BitVec 16) : CountsOnly s (s.oscillate n) := by
  unfold State.oscillate
  split
  · exact countsOnly_refl
  · exact countsOnly_countOn 5 n.toNat

/-! ### Node time and the legacy settings (R53, R536) -/

/-- Node time loaded from the calendar is in order. -/
theorem State.inOrder_loadTime : s.loadTime.t.inOrder := by
  constructor
  · exact Nat.mod_lt _ (by decide)
  · rfl

theorem State.mem_loadTime : s.loadTime.mem = s.mem := rfl

theorem State.reg_loadTime : s.loadTime.reg a = s.reg a := rfl

/-- Legacy settings that the personality and the user persistent area fix. -/
def legacyRegs : List Nat := [LEG_STAT, LEG_BCFG, LEG_KNOWN 0, LEG_KNOWN 1]

theorem State.reg_legacyDefaults (h : a ∉ legacyRegs) : s.legacyDefaults.reg a = s.reg a := by
  simp only [legacyRegs, List.mem_cons, List.not_mem_nil, or_false, not_or] at h
  obtain ⟨hstat, hbcfg, hk0, hk1⟩ := h
  unfold State.legacyDefaults
  dsimp only
  rw [State.reg_setReg_other hk1, State.reg_setReg_other hk0, State.reg_putB_other hbcfg, State.reg_putB_other hbcfg,
    State.reg_put_other hbcfg, State.reg_putB_other hstat, State.reg_setReg_other hbcfg]

@[simp] theorem State.mem_legacyDefaults : s.legacyDefaults.mem = s.mem := by simp [State.legacyDefaults]
@[simp] theorem State.t_legacyDefaults : s.legacyDefaults.t = s.t := by simp [State.legacyDefaults]

theorem State.reg_legacyLoad (h : a ∉ legacyRegs) : s.legacyLoad.reg a = s.reg a := by
  simp only [legacyRegs, List.mem_cons, List.not_mem_nil, or_false, not_or] at h
  obtain ⟨-, hbcfg, hk0, hk1⟩ := h
  unfold State.legacyLoad
  dsimp only
  split
  · rw [State.reg_setReg_other hk1, State.reg_setReg_other hk0, State.reg_setReg_other hbcfg]
  · rfl

@[simp] theorem State.mem_legacyLoad : s.legacyLoad.mem = s.mem := by
  unfold State.legacyLoad
  dsimp only
  split <;> simp

/-! ### The four steps (R545) -/

theorem completes_powerOn (h : s.life.boot = .off) : Completes .powerOn s (fun t => t.life.boot = .settling ∧ t.t.beat = 0
    ∧ t.get SYS_RSTAT.RCLASS = (if s.life.stopped then 3 else 1) ∧ (∀ a, t.sramAt a = sramReset a) ∧ MramKept s t) := by
  have hrun : exec .powerOn s = .next (settle { s.coldReset (if s.life.stopped then 3 else 1) with
      life := { (s.coldReset (if s.life.stopped then 3 else 1)).life with boot := .settling, stopped := false } }) := by
    show execPowerOn s = _
    unfold execPowerOn
    rw [if_neg (by simp [h])]
    rfl
  refine ⟨_, hrun, ?_, ?_, ?_, fun a => ?_, mramKept_of_eq ?_ ?_⟩
  · rw [State.life_settle]
  · simp only [State.t_settle, State.beat_coldReset]
  · rw [State.get_settle, State.get_with]
    exact State.rclass_coldReset (by split <;> decide)
  · simp only [State.sramAt_settle, State.sramAt_with, State.sramAt_coldReset]
  · simp only [State.mem_settle, State.mram_coldReset]
  · simp only [State.mem_settle, State.mramBad_coldReset]

theorem completes_alwaysOnSettled (h : s.life.boot = .settling) : Completes .alwaysOnSettled s (fun t =>
    t.life.boot = .settled ∧ t.get CLK_STAT.SUPPLY = 0 ∧ t.pins.pgOut = !s.life.warn ∧ RegsKeptBut [CLK_STAT] s t ∧ MemKept s t) := by
  have hrun : exec .alwaysOnSettled s = .next (settle { s.put CLK_STAT.SUPPLY 0 with
      life := { (s.put CLK_STAT.SUPPLY 0).life with boot := .settled }
      pins := { (s.put CLK_STAT.SUPPLY 0).pins with pgOut := !s.life.warn } }) := by
    show execAlwaysOnSettled s = _
    unfold execAlwaysOnSettled
    rw [if_neg (by simp [h])]
    rfl
  refine ⟨_, hrun, ?_, ?_, ?_, fun a ha => ?_, memKept_of_mem_eq ?_⟩
  · rw [State.life_settle]
  · rw [State.get_settle, State.get_with, State.get_put_same (by decide)]
    rfl
  · rw [State.pgOut_settle]
  · rw [State.reg_settle, State.reg_with, State.reg_put_other (List.ne_of_not_mem_cons ha)]
  · rw [State.mem_settle, State.mem_put]

/-- The state in which COLD_RESET_END, step 3, leaves the node before the SAFE cause is shown. -/
def State.timeStarted (s : State) (compat unit : Bool) (osc : BitVec 16) : State :=
  ((((s.putB SYS_STRAP.COMPAT compat).putB SYS_STRAP.UNIT unit).oscillate osc).loadTime.legacyDefaults)

/-- After the straps are sampled, step 3 leaves SYS_STRAP alone. -/
theorem State.reg_timeStarted (compat unit : Bool) (osc : BitVec 16) :
    (s.timeStarted compat unit osc).reg SYS_STRAP = ((s.putB SYS_STRAP.COMPAT compat).putB SYS_STRAP.UNIT unit).reg SYS_STRAP := by
  unfold State.timeStarted
  rw [State.reg_legacyDefaults (by decide), State.reg_loadTime]
  exact (countsOnly_oscillate osc).1 _ (by decide)

theorem State.mem_timeStarted (compat unit : Bool) (osc : BitVec 16) : (s.timeStarted compat unit osc).mem = s.mem := by
  unfold State.timeStarted
  rw [State.mem_legacyDefaults, State.mem_loadTime, (countsOnly_oscillate osc).2]
  rfl

theorem State.inOrder_timeStarted (compat unit : Bool) (osc : BitVec 16) : (s.timeStarted compat unit osc).t.inOrder := by
  unfold State.timeStarted
  rw [State.t_legacyDefaults]
  exact State.inOrder_loadTime

theorem completes_coldResetEnd (compat unit : Bool) (osc : BitVec 16) (h : s.life.boot = .settled) :
    Completes (.coldResetEnd compat unit osc) s (fun t => t.life.boot = .timed ∧ t.get SYS_STRAP.COMPAT = compat.toNat
      ∧ t.get SYS_STRAP.UNIT = unit.toNat ∧ t.t.inOrder ∧ MemKept s t) := by
  have hrun : exec (.coldResetEnd compat unit osc) s = .next (settle ({ s.timeStarted compat unit osc with
      life := { (s.timeStarted compat unit osc).life with boot := .timed } } : State).showCause) := by
    show execColdResetEnd compat unit osc s = _
    unfold execColdResetEnd
    rw [if_neg (by simp [h])]
    rfl
  have hstrap : ∀ f : Fld, f.addr = SYS_STRAP → (settle ({ s.timeStarted compat unit osc with
      life := { (s.timeStarted compat unit osc).life with boot := .timed } } : State).showCause).get f
        = ((s.putB SYS_STRAP.COMPAT compat).putB SYS_STRAP.UNIT unit).get f := by
    intro f hf
    refine get_of_reg_eq ?_
    rw [hf, State.reg_settle, State.reg_showCause (by decide), State.reg_with, State.reg_timeStarted]
  refine ⟨_, hrun, ?_, ?_, ?_, ?_, memKept_of_mem_eq ?_⟩
  · rw [State.life_settle, State.life_showCause]
  · rw [hstrap _ rfl, State.get_putB_other (by decide) (by decide), State.get_putB_same (by decide)]
  · rw [hstrap _ rfl, State.get_putB_same (by decide)]
  · simpa only [State.t_settle, State.t_showCause] using State.inOrder_timeStarted compat unit osc
  · simp only [State.mem_settle, State.mem_showCause, State.mem_timeStarted]

/-- The state of step 4 with every island alive and the legacy settings read. -/
def State.islandsAlive (s : State) : State := (s.put SYS_ISTAT.ALIVE (2 ^ 29 - 1)).legacyDefaults.legacyLoad

theorem State.alive_islandsAlive : s.islandsAlive.get SYS_ISTAT.ALIVE = 2 ^ 29 - 1 := by
  have hreg : s.islandsAlive.reg SYS_ISTAT = (s.put SYS_ISTAT.ALIVE (2 ^ 29 - 1)).reg SYS_ISTAT := by
    unfold State.islandsAlive
    rw [State.reg_legacyLoad (by decide), State.reg_legacyDefaults (by decide)]
  rw [get_of_reg_eq hreg, State.get_put_same (by decide)]
  rfl

theorem State.mem_islandsAlive : s.islandsAlive.mem = s.mem := by simp [State.islandsAlive]

theorem completes_islandsPowered (h : s.life.boot = .timed) (hheld : s.life.held = 0) : Completes .islandsPowered s (fun t =>
    t.life.boot = .powered ∧ t.get SYS_ISTAT.ALIVE = 2 ^ 29 - 1 ∧ MemKept s t) := by
  have hrun : exec .islandsPowered s = .next (settle { s.islandsAlive with
      life := { s.islandsAlive.life with boot := .powered, upAt := s.islandsAlive.t.run }
      onx := { s.islandsAlive.onx with scanAt := s.islandsAlive.t.run } }) := by
    show execIslandsPowered s = _
    unfold execIslandsPowered
    rw [if_neg (by simp [h, hheld])]
    rfl
  refine ⟨_, hrun, ?_, ?_, memKept_of_mem_eq ?_⟩
  · rw [State.life_settle]
  · rw [State.get_settle, State.get_with, State.alive_islandsAlive]
  · simp only [State.mem_settle, State.mem_islandsAlive]

end

/-- Settles O5: each step of the cold start by its own lemma; the counting of oscillator cycles in step 3 touches the
calendar alone. -/
theorem coldStartSteps : Obligations.ColdStartSteps := by
  unfold Obligations.ColdStartSteps
  exact fun _ => ⟨completes_powerOn, completes_alwaysOnSettled, completes_coldResetEnd, completes_islandsPowered⟩

section
variable {s t : State} {p q : Path} {a n last v : Nat} {w : Word} {debug : Bool} {l : List Nat} {pend : List PendWr}

/-! ## Commands of the ports -/

theorem portAct_served (h : s.served = true) (f : State → State) : portAct s f = .next (settle (f s)) := by
  unfold portAct done
  rw [if_pos h]

/-- The machine with other register writes waiting. -/
def State.withPend (s : State) (pend : List PendWr) : State := { s with mem := { s.mem with pend := pend } }

@[simp] theorem State.reg_withPend : (s.withPend pend).reg a = s.reg a := (rfl)
@[simp] theorem State.deaf_withPend : (s.withPend pend).deaf a = s.deaf a := (rfl)
@[simp] theorem State.written_withPend : (s.withPend pend).written a w = s.written a w := (rfl)
@[simp] theorem State.keyState_withPend : (s.withPend pend).keyState p = s.keyState p := (rfl)
@[simp] theorem State.keyAge_withPend : (s.withPend pend).keyAge p = s.keyAge p := (rfl)

/-- Waiting writes are no registers: what is kept from the machine with other writes waiting is kept from the machine. -/
theorem RegsKeptBut.of_withPend (h : RegsKeptBut l (s.withPend pend) t) : RegsKeptBut l s t :=
  fun a ha => (h a ha).trans State.reg_withPend

/-- Waiting writes are no words of memory. -/
theorem MemKept.of_withPend (h : MemKept (s.withPend pend) t) : MemKept s t := h

theorem memKept_of_mem_withPend (pend : List PendWr) (h : t.mem = (s.withPend pend).mem) : MemKept s t :=
  (memKept_of_mem_eq h).of_withPend

theorem allKept_withPend : AllKept s (settle (s.withPend pend)) :=
  ⟨fun _ => State.reg_settle.trans State.reg_withPend, memKept_of_mem_withPend pend State.mem_settle⟩

/-! ## Keyed sequences (R488 to R490) -/

/-! ### The key state and its age -/

theorem keyFld_addr : (keyFld p).addr = HST_KSTAT := by unfold keyFld; split <;> rfl

theorem keyFld_ok : (keyFld p).ok = true := by unfold keyFld; split <;> rfl

@[simp] theorem State.reg_setAge : (s.setAge p n).reg a = s.reg a := by unfold State.setAge; split <;> rfl
@[simp] theorem State.mem_setAge : (s.setAge p n).mem = s.mem := by unfold State.setAge; split <;> rfl
@[simp] theorem State.keyState_setAge : (s.setAge p n).keyState q = s.keyState q := get_of_reg_eq State.reg_setAge

@[simp] theorem State.keyAge_setAge : (s.setAge p n).keyAge p = n := by
  unfold State.setAge State.keyAge
  split <;> rfl

@[simp] theorem State.keyState_settle : (settle s).keyState p = s.keyState p := (rfl)
@[simp] theorem State.keyAge_settle : (settle s).keyAge p = s.keyAge p := (rfl)
@[simp] theorem State.keyAge_put {f : Fld} : (s.put f v).keyAge p = s.keyAge p := (rfl)

/-- The key state just written reads back. -/
theorem State.keyState_put (h : v < 4) : (s.put (keyFld p) v).keyState p = v := by
  have hw : (keyFld p).hi + 1 - (keyFld p).lo = 2 := by unfold keyFld; split <;> rfl
  unfold State.keyState
  rw [State.get_put_same keyFld_ok, hw]
  exact Nat.mod_eq_of_lt h

theorem State.reg_put_keyFld (h : a ≠ HST_KSTAT) : (s.put (keyFld p) v).reg a = s.reg a :=
  State.reg_put_other (keyFld_addr ▸ h)

/-! ### The end of a sequence -/

theorem State.reg_keyLast (h : a ∉ [HST_KSTAT, HST_ISRC]) : (s.keyLast p last n).reg a = s.reg a := by
  simp only [List.mem_cons, List.not_mem_nil, or_false, not_or] at h
  obtain ⟨hstat, hisrc⟩ := h
  unfold State.keyLast
  rw [State.reg_raise_other hisrc, State.reg_put_other hstat, State.reg_putB_other hstat, State.reg_put_other hstat]

@[simp] theorem State.mem_keyLast : (s.keyLast p last n).mem = s.mem := by simp [State.keyLast]

/-- LAST, LPATH and LADDR share no bit with a path's key state. -/
theorem State.keyState_keyLast : (s.keyLast p last n).keyState q = s.keyState q := by
  unfold State.keyState State.keyLast keyFld
  split <;>
    rw [State.get_raise_other (by decide) (by decide), State.get_put_other (by decide) (by decide),
      State.get_putB_other (by decide) (by decide), State.get_put_other (by decide) (by decide)]

theorem State.last_keyLast (h : last < 8) : (s.keyLast p last n).get HST_KSTAT.LAST = last := by
  unfold State.keyLast
  rw [State.get_raise_other (by decide) (by decide), State.get_put_other (by decide) (by decide),
    State.get_putB_other (by decide) (by decide), State.get_put_same (by decide)]
  exact Nat.mod_eq_of_lt h

theorem State.lpath_keyLast : (s.keyLast p last n).flag HST_KSTAT.LPATH = (p == .debug) := by
  unfold State.keyLast State.raise
  rw [State.flag_put_other (by decide) (by decide), State.flag_put_other (by decide) (by decide),
    State.flag_putB_same (by decide)]

theorem State.key_keyLast : (s.keyLast p last n).flag HST_ISRC.KEY = true := by
  unfold State.keyLast State.flag
  rw [State.get_raise_same (by decide)]
  rfl

/-- A sequence ends: the path's key state and its age return to 0, and LAST says why. -/
def State.seqEnd (s : State) (p : Path) (last a : Nat) : State := ((s.put (keyFld p) 0).setAge p 0).keyLast p last a

theorem State.regsKept_seqEnd : RegsKeptBut [HST_KSTAT, HST_ISRC] s (s.seqEnd p last n) := by
  intro a ha
  unfold State.seqEnd
  rw [State.reg_keyLast ha, State.reg_setAge, State.reg_put_keyFld (List.ne_of_not_mem_cons ha)]

theorem State.mem_seqEnd : (s.seqEnd p last n).mem = s.mem := by simp [State.seqEnd]

theorem State.keyState_seqEnd : (s.seqEnd p last n).keyState p = 0 := by
  unfold State.seqEnd
  rw [State.keyState_keyLast, State.keyState_setAge, State.keyState_put (by decide)]

/-! ### A write of HST_KEY (R488) and the expiry (R489) -/

theorem State.keyExpire_early (h : s.keyState p = 0 ∨ s.keyAge p < 64) : s.keyExpire p = s := by
  unfold State.keyExpire
  rw [if_pos (by simpa using h)]

theorem State.keyExpire_late (h : s.keyState p ≠ 0) (h64 : 64 ≤ s.keyAge p) : s.keyExpire p = s.seqEnd p 2 0 := by
  unfold State.keyExpire
  rw [if_neg (by simp [h, h64])]
  rfl

theorem State.keyExpire_frame : RegsKeptBut [HST_KSTAT, HST_ISRC] s (s.keyExpire p) ∧ (s.keyExpire p).mem = s.mem := by
  by_cases h : s.keyState p = 0 ∨ s.keyAge p < 64
  · rw [State.keyExpire_early h]
    exact ⟨fun _ _ => rfl, rfl⟩
  · rw [not_or, not_lt] at h
    rw [State.keyExpire_late h.1 h.2]
    exact ⟨State.regsKept_seqEnd, State.mem_seqEnd⟩

/-- HST_KEY is no register that a keyed sequence commands. -/
theorem isWk_key : isWk HST_KEY = false := by decide

theorem key2_ne_key1 : key2 ≠ key1 := by decide

/-- The first key word starts a sequence, whatever the key state. -/
theorem State.keyStep_key1 :
    (s.keyStep p HST_KEY key1 true).1 = ((s.keyExpire p).put (keyFld p) 1).setAge p 0 := by
  simp [State.keyStep]

/-- The second key word takes a running sequence to its second state. -/
theorem State.keyStep_key2 (h : s.keyState p = 1) (h64 : s.keyAge p < 64) :
    (s.keyStep p HST_KEY key2 true).1 = s.put (keyFld p) 2 := by
  simp [State.keyStep, State.keyExpire_early (.inr h64), h, key2_ne_key1]

/-- Any other word breaks a running sequence. -/
theorem State.keyStep_broken (h : s.keyState p = 1 ∧ w ≠ key2 ∨ s.keyState p = 2) (h64 : s.keyAge p < 64) (h1 : w ≠ key1) :
    (s.keyStep p HST_KEY w true).1 = s.seqEnd p 3 HST_KEY := by
  rcases h with ⟨h, h2⟩ | h
  · simp [State.keyStep, State.keyExpire_early (.inr h64), h, h1, h2, State.seqEnd]
  · simp [State.keyStep, State.keyExpire_early (.inr h64), h, h1, isWk_key, State.seqEnd]

/-- Without a sequence, any word but the first key word does nothing. -/
theorem State.keyStep_idle (h : s.keyState p = 0) (h1 : w ≠ key1) : (s.keyStep p HST_KEY w true).1 = s := by
  simp [State.keyStep, State.keyExpire_early (.inl h), h, h1, isWk_key]

/-! ### The two commands -/

theorem path_isDebug (hp : p = if debug then .debug else .host) : (p == .debug) = debug := by
  subst hp
  cases debug <;> rfl

theorem exec_keyWordWrite (h : s.served = true) (hp : p = if debug then .debug else .host) :
    ∃ pend, exec (.keyWordWrite debug w) s = .next (settle ((s.withPend pend).keyStep p HST_KEY w true).1) := by
  subst hp
  refine ⟨s.mem.pend.eraseP (fun x => x.addr == HST_KEY && x.w == w && x.path == (if debug then .debug else .host) && !x.waits), ?_⟩
  show execKeyWordWrite debug w s = _
  unfold execKeyWordWrite
  rw [portAct_served h]
  rfl

theorem exec_keySequenceExpiry (h : s.served = true) (hp : p = if debug then .debug else .host) :
    exec (.keySequenceExpiry debug) s = .next (settle (s.keyExpire p)) := by
  subst hp
  show execKeySequenceExpiry debug s = _
  unfold execKeySequenceExpiry
  rw [portAct_served h]

/-- A path's keyed sequence has ended: LAST says why, and of which path. -/
def SequenceEnds (p : Path) (debug : Bool) (last : Nat) (s t : State) : Prop :=
  t.keyState p = 0 ∧ t.get HST_KSTAT.LAST = last ∧ t.flag HST_KSTAT.LPATH = debug ∧ t.flag HST_ISRC.KEY = true
    ∧ RegsKeptBut [HST_KSTAT, HST_ISRC] s t ∧ MemKept s t

theorem SequenceEnds.of_withPend (h : SequenceEnds p debug last (s.withPend pend) t) : SequenceEnds p debug last s t := by
  obtain ⟨hstate, hlast, hpath, hkey, hregs, hmem⟩ := h
  exact ⟨hstate, hlast, hpath, hkey, hregs.of_withPend, hmem.of_withPend⟩

theorem sequenceEnds_seqEnd (hp : p = if debug then .debug else .host) (h : last < 8) :
    SequenceEnds p debug last s (settle (s.seqEnd p last n)) := by
  refine ⟨?_, ?_, ?_, ?_, fun a ha => ?_, memKept_of_mem_eq ?_⟩
  · rw [State.keyState_settle, State.keyState_seqEnd]
  · rw [State.get_settle, State.seqEnd, State.last_keyLast h]
  · rw [State.flag_settle, State.seqEnd, State.lpath_keyLast, path_isDebug hp]
  · rw [State.flag_settle, State.seqEnd, State.key_keyLast]
  · rw [State.reg_settle, State.regsKept_seqEnd a ha]
  · rw [State.mem_settle, State.mem_seqEnd]

theorem keyWordWrite_starts (h : s.served = true) (hp : p = if debug then .debug else .host) :
    Completes (.keyWordWrite debug key1) s (fun t => t.keyState p = 1 ∧ t.keyAge p = 0
      ∧ RegsKeptBut [HST_KSTAT, HST_ISRC] s t ∧ MemKept s t) := by
  obtain ⟨pend, hrun⟩ := exec_keyWordWrite (w := key1) h hp
  rw [State.keyStep_key1] at hrun
  obtain ⟨hregs, hmem⟩ := State.keyExpire_frame (s := s.withPend pend) (p := p)
  refine ⟨_, hrun, ?_, ?_, (hregs.trans fun a ha => ?_).of_withPend, memKept_of_mem_withPend pend ?_⟩
  · rw [State.keyState_settle, State.keyState_setAge, State.keyState_put (by decide)]
  · rw [State.keyAge_settle, State.keyAge_setAge]
  · rw [State.reg_settle, State.reg_setAge, State.reg_put_keyFld (List.ne_of_not_mem_cons ha)]
  · rw [State.mem_settle, State.mem_setAge, State.mem_put, hmem]

theorem keyWordWrite_second (h : s.served = true) (hp : p = if debug then .debug else .host) (h1 : s.keyState p = 1)
    (h64 : s.keyAge p < 64) : Completes (.keyWordWrite debug key2) s (fun t => t.keyState p = 2 ∧ t.keyAge p = s.keyAge p
      ∧ RegsKeptBut [HST_KSTAT] s t ∧ MemKept s t) := by
  obtain ⟨pend, hrun⟩ := exec_keyWordWrite (w := key2) h hp
  rw [State.keyStep_key2 (State.keyState_withPend.trans h1) (by simpa using h64)] at hrun
  refine ⟨_, hrun, ?_, ?_, fun a ha => ?_, memKept_of_mem_withPend pend ?_⟩
  · rw [State.keyState_settle, State.keyState_put (by decide)]
  · rw [State.keyAge_settle, State.keyAge_put, State.keyAge_withPend]
  · rw [State.reg_settle, State.reg_put_keyFld (List.ne_of_not_mem_cons ha), State.reg_withPend]
  · rw [State.mem_settle, State.mem_put]

theorem keyWordWrite_breaks (h : s.served = true) (hp : p = if debug then .debug else .host)
    (hk : s.keyState p = 1 ∧ w ≠ key2 ∨ s.keyState p = 2) (h64 : s.keyAge p < 64) (h1 : w ≠ key1) :
    Completes (.keyWordWrite debug w) s (SequenceEnds p debug 3 s) := by
  obtain ⟨pend, hrun⟩ := exec_keyWordWrite (w := w) h hp
  rw [State.keyStep_broken (by simpa using hk) (by simpa using h64) h1] at hrun
  exact ⟨_, hrun, (sequenceEnds_seqEnd hp (by decide)).of_withPend⟩

theorem keyWordWrite_idle (h : s.served = true) (hp : p = if debug then .debug else .host) (h0 : s.keyState p = 0)
    (h1 : w ≠ key1) : Completes (.keyWordWrite debug w) s (AllKept s) := by
  obtain ⟨pend, hrun⟩ := exec_keyWordWrite (w := w) h hp
  rw [State.keyStep_idle (State.keyState_withPend.trans h0) h1] at hrun
  exact ⟨_, hrun, allKept_withPend⟩

theorem keySequenceExpiry_ends (h : s.served = true) (hp : p = if debug then .debug else .host) (h0 : s.keyState p ≠ 0)
    (h64 : 64 ≤ s.keyAge p) : Completes (.keySequenceExpiry debug) s (SequenceEnds p debug 2 s) := by
  have hrun := exec_keySequenceExpiry h hp
  rw [State.keyExpire_late h0 h64] at hrun
  exact ⟨_, hrun, sequenceEnds_seqEnd hp (by decide)⟩

theorem keySequenceExpiry_early (h : s.served = true) (hp : p = if debug then .debug else .host)
    (he : s.keyState p = 0 ∨ s.keyAge p < 64) : Completes (.keySequenceExpiry debug) s (AllKept s) := by
  have hrun := exec_keySequenceExpiry h hp
  rw [State.keyExpire_early he] at hrun
  exact ⟨_, hrun, allKept_settle⟩

/-! ## Register writes taking effect (R33, R442) -/

/-- A write of a register by its command: of a keyed register nothing, of any other its effect (R33, R490). -/
theorem exec_registerWrite (h : s.served = true) (x : Addr) : ∃ pend, exec (.registerWrite x w) s
    = .next (settle (if isWk x.toNat then s.withPend pend else (s.withPend pend).regWrite x.toNat w)) := by
  refine ⟨takeWrite x.toNat w s.mem.pend, ?_⟩
  show execRegisterWrite x w s = _
  unfold execRegisterWrite
  rw [portAct_served h]
  rfl

/-- Registers whose write stores the implemented bits and does nothing else. -/
def plainRegs : List Nat := [TIM_LTGT, TIM_LARG, TIM_MINLEAD, TIM_MDOM, TIM_PPSO]

theorem isWk_plain : ∀ a ∈ plainRegs, isWk a = false := by decide

theorem State.regWrite_plain (h : a ∈ plainRegs) (hd : s.deaf a = false) : s.regWrite a w = s.setReg a (s.written a w) := by
  simp only [plainRegs, List.mem_cons, List.not_mem_nil, or_false] at h
  rcases h with rfl | rfl | rfl | rfl | rfl
  all_goals
    unfold State.regWrite
    rw [hd]
    rfl

theorem registerWrite_plain (h : s.served = true) {x : Addr} (hx : x.toNat ∈ plainRegs) (hd : s.deaf x.toNat = false) :
    Completes (.registerWrite x w) s (fun t => t.reg x.toNat = s.written x.toNat w ∧ RegsKeptBut [x.toNat] s t ∧ MemKept s t) := by
  obtain ⟨pend, hrun⟩ := exec_registerWrite (w := w) h x
  rw [isWk_plain _ hx, if_neg Bool.false_ne_true, State.regWrite_plain hx (State.deaf_withPend.trans hd)] at hrun
  refine ⟨_, hrun, ?_, fun a ha => ?_, memKept_of_mem_withPend pend ?_⟩
  · rw [State.reg_settle, State.reg_setReg_same, State.written_withPend]
  · rw [State.reg_settle, State.reg_setReg_other (List.ne_of_not_mem_cons ha), State.reg_withPend]
  · rw [State.mem_settle, State.mem_setReg]

/-- A register whose 36 bits are all read-write. -/
def wholeReg (a : Nat) : Bool := (regRow a).any (fun r => r.rw == 2 ^ 36 - 1 && r.w1c == 0)

/-- A register without bits of any other kind takes the word as it is. -/
theorem State.written_whole (h : wholeReg a = true) : s.written a w = w := by
  unfold wholeReg at h
  obtain ⟨r, hrow, hr⟩ := (Option.any_eq_true _ _).mp h
  obtain ⟨hrw, hw1c⟩ : r.rw = 2 ^ 36 - 1 ∧ r.w1c = 0 := by simpa using hr
  unfold State.written
  rw [hrow]
  have hall : W (2 ^ 36 - 1) = BitVec.allOnes 36 := rfl
  show ((s.reg a &&& ~~~W r.rw) ||| (w &&& W r.rw)) &&& ~~~(w &&& W r.w1c) = w
  rw [hrw, hw1c, hall, BitVec.not_allOnes, BitVec.and_zero, BitVec.zero_or, BitVec.and_allOnes, BitVec.and_zero, BitVec.not_zero,
    BitVec.and_allOnes]

/-! ### Backup words (R442) -/

theorem backup_facts : ∀ i : Fin 16, isWk (CLK_BK i) = false ∧ targetOf (CLK_BK i) = some 25 ∧ wholeReg (CLK_BK i) = true := by decide

/-- The write of a backup word stores it and clears its error bit. -/
theorem State.regWrite_backup (i : Fin 16) (hd : s.deaf (CLK_BK i) = false) :
    s.regWrite (CLK_BK i) w = (s.setReg (CLK_BK i) (s.written (CLK_BK i) w)).putBit CLK_STAT.BKERR i false := by
  unfold State.regWrite
  rw [hd]
  fin_cases i <;> rfl

@[simp] theorem State.bitOf_settle {f : Fld} : (settle s).bitOf f n = s.bitOf f n := (rfl)

/-- A bit just cleared is clear. -/
theorem State.bitOf_putBit_false {f : Fld} (h : f.ok = true) (hn : n < f.hi + 1 - f.lo) : (s.putBit f n false).bitOf f n = false := by
  have hbits : bits (setBit (s.get f) n false) n n = 0 := bits_setBits_same le_rfl
  unfold State.bitOf
  have hlt : setBit (s.get f) n false < 2 ^ (f.hi + 1 - f.lo) := setBits_lt le_rfl hn State.get_lt
  rw [State.get_putBit_same h, Nat.mod_eq_of_lt hlt]
  unfold bits at hbits
  unfold bit
  rw [Nat.add_sub_cancel_left, pow_one] at hbits
  rw [hbits]
  rfl

theorem registerWrite_backup (h : s.served = true) {x : Addr} {i : Fin 16} (h25 : s.alive 25 = true) (hx : x.toNat = CLK_BK i) :
    Completes (.registerWrite x w) s (fun t => t.reg x.toNat = w ∧ t.bitOf CLK_STAT.BKERR i = false
      ∧ RegsKeptBut [x.toNat, CLK_STAT] s t ∧ MemKept s t) := by
  obtain ⟨hwk, htarget, hwhole⟩ := backup_facts i
  have hd : s.deaf (CLK_BK i) = false := by simp only [State.deaf, htarget, h25, Bool.not_true]
  have hne : CLK_BK i ≠ CLK_STAT := by simp only [CLK_BK, CLK_STAT]; omega
  obtain ⟨pend, hrun⟩ := exec_registerWrite (w := w) h x
  rw [hx] at hrun ⊢
  rw [hwk, if_neg Bool.false_ne_true, State.regWrite_backup i (State.deaf_withPend.trans hd)] at hrun
  refine ⟨_, hrun, ?_, ?_, fun a ha => ?_, memKept_of_mem_withPend pend ?_⟩
  · rw [State.reg_settle, State.reg_putBit_other hne, State.reg_setReg_same, State.written_whole hwhole]
  · rw [State.bitOf_settle, State.bitOf_putBit_false (by decide) i.isLt]
  · simp only [List.mem_cons, List.not_mem_nil, or_false, not_or] at ha
    rw [State.reg_settle, State.reg_putBit_other ha.2, State.reg_setReg_other ha.1, State.reg_withPend]
  · rw [State.mem_settle, State.mem_putBit, State.mem_setReg]

/-- An address without a register takes no write (R31). -/
theorem State.regWrite_none (h : regRow a = none) : s.regWrite a w = s := by
  unfold State.regWrite
  rw [if_pos (by simp [h])]

theorem registerWrite_kept (h : s.served = true) {x : Addr} (hx : isWk x.toNat = true ∨ regRow x.toNat = none) :
    Completes (.registerWrite x w) s (AllKept s) := by
  obtain ⟨pend, hrun⟩ := exec_registerWrite (w := w) h x
  have hsame : (if isWk x.toNat then s.withPend pend else (s.withPend pend).regWrite x.toNat w) = s.withPend pend := by
    rcases hx with hwk | hrow
    · rw [if_pos hwk]
    · rw [State.regWrite_none hrow, ite_self]
  rw [hsame] at hrun
  exact ⟨_, hrun, allKept_withPend⟩

end

/-- Settles O22: the key words and the expiry by the case of the key state, the register writes by the register. -/
theorem keyedSequencesAndRegisterWrites : Obligations.KeyedSequencesAndRegisterWrites := by
  unfold Obligations.KeyedSequencesAndRegisterWrites
  intro s debug w p h hp
  refine ⟨keyWordWrite_starts h hp, keyWordWrite_second h hp, keyWordWrite_breaks h hp, keyWordWrite_idle h hp,
    keySequenceExpiry_ends h hp, keySequenceExpiry_early h hp, fun x hx hd => ?_, fun x i h25 hx => registerWrite_backup h h25 hx,
    fun x hx hd => registerWrite_plain h ?_ hd, fun x hx => registerWrite_kept h hx⟩
  · have hwhole : wholeReg x.toNat = true := by rcases hx with hx | hx <;> rw [hx] <;> decide
    have hplain : x.toNat ∈ plainRegs := by rcases hx with hx | hx <;> rw [hx] <;> decide
    have hwrite := registerWrite_plain (w := w) h hplain hd
    rwa [State.written_whole hwhole] at hwrite
  · rcases hx with hx | hx | hx <;> rw [hx] <;> decide

end Sys2Proof.Machine

namespace Sys2Proof.Machine

open Sys2Proof

/-! ## Pins and registers -/

section
variable {s : State}

/-- `settle` moves no register, so the pins it sets are those that the registers still ask for (R39, R487). -/
theorem State.pinsAgree_settle : (settle s).pinsAgree := ⟨State.irqLow_settle, State.safeReleased_settle⟩

theorem safe_done : Safe (done s) := ⟨settle s, rfl, State.pinsAgree_settle⟩

/-- Every row of the table has a meaning that ends in `done`. -/
theorem exec_eq_done (c : Instr) (s : State) : ∃ u, exec c s = done u := by
  cases c
  all_goals exact ⟨_, rfl⟩

theorem safe_exec (c : Instr) (s : State) : Safe (exec c s) := by
  obtain ⟨u, hu⟩ := exec_eq_done c s
  rw [hu]
  exact safe_done

theorem step_nil (h : s.pending = []) : step s = .next s := by
  unfold step
  rw [h]

theorem step_cons {c : Instr} {r : List Instr} (h : s.pending = c :: r) : step s = exec c { s with pending := r } := by
  unfold step
  rw [h]

end

/-- Settles O2: every meaning ends in `done`, which settles the pins. -/
theorem everyCommandCompletesWithPinsInOrder : Obligations.EveryCommandCompletesWithPinsInOrder := by
  unfold Obligations.EveryCommandCompletesWithPinsInOrder
  exact safe_exec

/-- Settles O3: on an empty queue the block idles, and every command settles the pins. -/
theorem stepsKeepPinsInOrder : Obligations.StepsKeepPinsInOrder := by
  unfold Obligations.StepsKeepPinsInOrder
  intro s hs
  cases hq : s.pending with
  | nil => exact ⟨s, step_nil hq, hs⟩
  | cons c r => rw [step_cons hq]; exact safe_exec c _

/-! ## The machine after reset -/

theorem State.armedSlot_reset : ∀ n : Fin 16, State.reset.armedSlot n = false := by decide

theorem State.mirror_reset (i : Fin 4096) : State.reset.mirror i = noValue := by
  have hin : 0o00400000 ≤ 0o00400000 + i.val ∧ 0o00400000 + i.val ≤ 0o00407777 := by omega
  show sramReset (0o00400000 + i.val) = noValue
  unfold sramReset
  rw [if_pos hin]

theorem State.pinsAgree_reset : State.reset.pinsAgree := by
  constructor
  · decide
  · decide

/-- Settles O4: each register by its Reset column, the mirror word by word. -/
theorem resetStateHolds : Obligations.ResetStateHolds := by
  unfold Obligations.ResetStateHolds
  refine ⟨?_, ?_, ?_, ?_, rfl, ?_, ?_, ?_, ?_, State.armedSlot_reset, State.mirror_reset, rfl, rfl, rfl, rfl, State.pinsAgree_reset⟩
  all_goals decide

/-! ## Work of the islands and engines, seen from the node's own registers -/

section
variable {s t u : State} {f : Fld} {a b i n v k : Nat} {w : Word} {x : Bool}

/-- The system and time registers (those below the field islands' block, but for the count of SRAM words that fail) and the life cycle
are as before. -/
def ControlKept (s t : State) : Prop := (∀ a, a < FI_CFG 0 → a ≠ SYS_ICHK1 → t.reg a = s.reg a) ∧ t.life = s.life

theorem ControlKept.trans (h : ControlKept s t) (h' : ControlKept t u) : ControlKept s u :=
  ⟨fun a ha hi => (h'.1 a ha hi).trans (h.1 a ha hi), h'.2.trans h.2⟩

theorem controlKept_of_eq (hr : t.regs = s.regs) (hl : t.life = s.life) : ControlKept s t :=
  ⟨fun _ _ _ => by simp only [State.reg, hr], hl⟩

theorem ControlKept.refl : ControlKept s s := controlKept_of_eq rfl rfl

/-- A write of a field above. -/
theorem ControlKept.put (h : ControlKept s t) (hf : FI_CFG 0 ≤ f.addr) : ControlKept s (t.put f v) :=
  h.trans ⟨fun _ ha _ => State.reg_put_other (by omega), State.life_put⟩

theorem ControlKept.putB (h : ControlKept s t) (hf : FI_CFG 0 ≤ f.addr) : ControlKept s (t.putB f x) := h.put hf

theorem ControlKept.putBit (h : ControlKept s t) (hf : FI_CFG 0 ≤ f.addr) : ControlKept s (t.putBit f i x) := h.put hf

theorem ControlKept.inc (h : ControlKept s t) (hf : FI_CFG 0 ≤ f.addr) : ControlKept s (t.inc f k) := h.put hf

theorem ControlKept.incMod (h : ControlKept s t) (hf : FI_CFG 0 ≤ f.addr) : ControlKept s (t.incMod f) := h.put hf

theorem ControlKept.raise (h : ControlKept s t) (hf : FI_CFG 0 ≤ f.addr) : ControlKept s (t.raise f) := h.put hf

theorem ControlKept.ite {p : Prop} [Decidable p] (ht : ControlKept s t) (hu : ControlKept s u) : ControlKept s (if p then t else u) := by
  split
  · exact ht
  · exact hu

theorem ControlKept.foldl {α : Type} {g : State → α → State} (hg : ∀ z y, ControlKept z (g z y)) (l : List α) (h : ControlKept s t) :
    ControlKept s (l.foldl g t) := by
  induction l generalizing t with
  | nil => exact h
  | cons y r ih => exact ih (h.trans (hg t y))

theorem ControlKept.reg (h : ControlKept s t) (ha : a < FI_CFG 0) (hi : a ≠ SYS_ICHK1) : t.reg a = s.reg a := h.1 a ha hi

theorem ControlKept.get (h : ControlKept s t) (hf : f.addr < FI_CFG 0) (hi : f.addr ≠ SYS_ICHK1) : t.get f = s.get f :=
  get_of_reg_eq (h.reg hf hi)

/-! ### A unit's own record -/

theorem controlKept_setChan {y : ChanS} : ControlKept s (s.setChan n y) := controlKept_of_eq rfl rfl

theorem controlKept_setLo {y : LoS} : ControlKept s (s.setLo n y) := controlKept_of_eq rfl rfl

theorem controlKept_setDio {y : DioS} : ControlKept s (s.setDio n y) := controlKept_of_eq rfl rfl

theorem controlKept_setSpd {y : SpdS} : ControlKept s (s.setSpd n y) := controlKept_of_eq rfl rfl

/-! ### Mirror words -/

theorem controlKept_publish : ControlKept s (s.publish i w) := controlKept_of_eq rfl rfl

theorem controlKept_trigNow {cls sub src : Nat} {ev0 ev1 : Word} : ControlKept s (s.trigNow cls sub src ev0 ev1) :=
  ⟨fun a ha _ => State.reg_trigNow (by rintro rfl; revert ha; decide), State.life_trigNow⟩

/-- The count of SRAM words that fail, the integrity trigger and its interrupt source. -/
theorem controlKept_sramFail {step isl addr resp : Nat} : ControlKept s ((s.inc SYS_ICHK1.FAIL).integrity step isl addr resp) := by
  have hinc : ControlKept s (s.inc SYS_ICHK1.FAIL) := ⟨fun a _ hi => State.reg_inc_other hi, State.life_inc⟩
  exact (hinc.trans controlKept_trigNow).raise (by decide)

/-- A clean read through the SRAM port. -/
theorem controlKept_sramRead {req : Nat} : ControlKept s (s.sramRead a .clean req).1 := by
  unfold State.sramRead
  dsimp only
  split
  · exact controlKept_sramFail
  · exact .refl

theorem controlKept_sramFetch {req : Nat} {l : List Nat} : ControlKept s (s.sramFetch req l) :=
  ControlKept.refl.foldl (fun _ _ => controlKept_sramRead) _

/-! ### Field islands -/

theorem controlKept_presentComp : ControlKept s (s.presentComp n) := by
  have hseen : ∀ (c : Prop) [Decidable c] (y : ChanS), ControlKept s (if c then s.setChan n y else s) :=
    fun c _ y => .ite controlKept_setChan .refl
  unfold State.presentComp
  exact .ite (hseen _ _) (((hseen _ _).putBit (Nat.le_add_right_of_le (by decide))).putBit (Nat.le_add_right_of_le (by decide)))

theorem controlKept_setRaw {y : Bool} : ControlKept s (s.setRaw n x y) :=
  ((ControlKept.refl.putBit (Nat.le_add_right_of_le (by decide))).putBit (Nat.le_add_right_of_le (by decide))).trans controlKept_setChan

theorem controlKept_refreshChan : ControlKept s (s.refreshChan n) := by
  have hpub : ∀ y z, ControlKept s (s.publishAs n y z) := fun _ _ => controlKept_of_eq rfl rfl
  exact ((hpub _ _).putBit (Nat.le_add_right_of_le (by decide))).putBit (Nat.le_add_right_of_le (by decide))

/-! ### Loop outputs, discrete points, speed inputs -/

theorem controlKept_loHold : ControlKept s s.loHold := ControlKept.refl.foldl (fun _ _ => controlKept_setLo) _

theorem controlKept_loSample : ControlKept s (s.loSample n) := by
  unfold State.loSample
  dsimp only
  split
  · exact .refl
  · exact controlKept_sramFetch.trans controlKept_setLo

theorem controlKept_loBeat : ControlKept s s.loBeat := ControlKept.refl.foldl (fun _ _ => controlKept_loSample) _

theorem controlKept_loPublish : ControlKept s (s.loPublish n) := .ite controlKept_publish .refl

theorem controlKept_dioHold : ControlKept s s.dioHold := ControlKept.refl.foldl (fun _ _ => controlKept_setDio) _

theorem dioPst_high : FI_CFG 0 ≤ DIO_PST n := Nat.le_add_right_of_le (by decide)

theorem dioGst_high : FI_CFG 0 ≤ DIO_GST n := Nat.le_add_right_of_le (by decide)

theorem controlKept_dioDrive : ControlKept s (s.dioDrive n) := by
  have hshown : ∀ c y d, ControlKept s (((s.put (DIO_PST.OSTATE n) c).putB (DIO_PST.CMD n) y).setDio n d) :=
    fun _ _ _ => ((ControlKept.refl.put dioPst_high).putB dioPst_high).trans controlKept_setDio
  have hclamps : ∀ {z : State} {g : Nat}, ControlKept z (z.dioClamps g) := ControlKept.refl.put dioGst_high
  unfold State.dioDrive
  dsimp only
  refine .ite ((hshown _ _ _).putB dioPst_high) (.ite ?_ (hshown _ _ _))
  exact (((hshown _ _ _).putB dioPst_high).putB dioPst_high).trans hclamps

theorem controlKept_dioDriveAll : ControlKept s s.dioDriveAll := ControlKept.refl.foldl (fun _ _ => controlKept_dioDrive) _

theorem spdPst_high : FI_CFG 0 ≤ SPD_PST n := Nat.le_add_right_of_le (by decide)

theorem spdCnt_high : FI_CFG 0 ≤ SPD_CNT n := Nat.le_add_right_of_le (by decide)

theorem controlKept_spdDecide : ControlKept s (s.spdDecide n v) := by
  unfold State.spdDecide
  dsimp only
  exact ((((controlKept_setSpd.put spdPst_high).putB spdPst_high).putB spdPst_high).putB spdPst_high).putB spdPst_high

theorem controlKept_setSup : ControlKept s (s.setSup n v) := by
  have hsup : ControlKept s (s.put (SPD_PST.SUP n) v) := ControlKept.refl.put spdPst_high
  have hwait : ∀ y, ControlKept s (if v == 2 then (s.put (SPD_PST.SUP n) v).setSpd n y else s.put (SPD_PST.SUP n) v) :=
    fun _ => .ite (hsup.trans controlKept_setSpd) hsup
  exact .ite ((hwait _).inc spdCnt_high) (.ite ((hwait _).inc spdCnt_high) (hwait _))

theorem controlKept_supEval : ControlKept s (s.supEval n) := by
  unfold State.supEval
  dsimp only
  split
  · exact .ite controlKept_setSup .refl
  · exact .ite controlKept_setSup (.ite controlKept_setSup .refl)
  · exact .ite controlKept_setSup .refl
  · exact .ite .refl controlKept_setSup
  · exact .refl

theorem controlKept_spdSettled : ControlKept s (s.spdSettled n) :=
  (controlKept_spdDecide.trans controlKept_supEval).trans controlKept_spdDecide

/-! ### Cached copies -/

theorem controlKept_showPoint : ControlKept s (s.showPoint n) := by
  have hdue : ControlKept s (s.dioDue (n - 144)) := controlKept_of_eq rfl rfl
  exact .ite (controlKept_refreshChan.trans controlKept_presentComp) (.ite controlKept_loPublish
    (.ite (hdue.trans controlKept_dioDrive) (.ite controlKept_spdSettled .refl)))

theorem controlKept_setCopy {c : PtCache} : ControlKept s (s.setCopy n c) :=
  .ite (controlKept_of_eq rfl rfl) (.ite (controlKept_of_eq rfl rfl) (controlKept_of_eq rfl rfl))

theorem cacheBlock_high : FI_CFG 0 ≤ (cacheBlock n).1 := by
  unfold cacheBlock
  split
  · exact Nat.le_add_right_of_le (by decide)
  · split
    · exact (by decide : FI_CFG 0 ≤ 0o40070360)
    · split
      · exact (by decide : FI_CFG 0 ≤ 0o40100360)
      · exact (by decide : FI_CFG 0 ≤ 0o40110360)

theorem forcedFld_high : FI_CFG 0 ≤ (forcedFld n).addr := Nat.le_add_right_of_le (Nat.le_add_right_of_le cacheBlock_high)

theorem fignFld_high : FI_CFG 0 ≤ (fignFld n).addr := Nat.le_add_right_of_le (Nat.le_add_right_of_le cacheBlock_high)

theorem stateFld_high : FI_CFG 0 ≤ (stateFld n).addr := by
  unfold stateFld
  split
  · exact Nat.le_add_right_of_le cacheBlock_high
  · split
    · exact Nat.le_add_right_of_le (by decide)
    · decide

theorem controlKept_endForces : ControlKept s s.endForces := by
  have hend : ∀ (z : State) (p : Nat), ControlKept z (((z.setCopy p { z.copyOf p with forced := false, fign := true }).putB
      (forcedFld p) false).putB (fignFld p) true) :=
    fun _ _ => (controlKept_setCopy.putB forcedFld_high).putB fignFld_high
  exact (ControlKept.refl.foldl hend _).foldl (fun _ _ => controlKept_showPoint) _

theorem controlKept_clearCellForces : ControlKept s s.clearCellForces :=
  ControlKept.refl.foldl (fun _ _ => (ControlKept.refl.putB (Nat.le_add_right_of_le (by decide))).putB (Nat.le_add_right_of_le (by decide))) _

theorem controlKept_captureModeAbort : ControlKept s s.captureModeAbort := by
  have hend : ControlKept s { s with cal := { s.cal with capture := none } } := controlKept_of_eq rfl rfl
  exact .ite (((hend.put (by decide)).putB (by decide)).raise (by decide)) .refl

end

/-! ## Entry to SAFE (R41) -/

section
variable {s t u : State} {f : Fld} {a b c i m n v k : Nat} {w : Word} {x : Bool} {Q : Nat → Prop}

/-! ### A mode takes effect (R39, R73) -/

/-- A change of mode is the write of MODE and of the mode digest between works that leave the node's own registers alone. -/
theorem State.setMode_split (m : Nat) : ∃ u, ControlKept s u ∧ ControlKept ((u.put SYS_MODE.MODE m).digestMode m) (s.setMode m) := by
  have hhold : ControlKept s (if 2 ≤ m && m != s.mode then s.loHold.dioHold else s) :=
    .ite (controlKept_loHold.trans controlKept_dioHold) .refl
  have hend : ∀ z : State, ControlKept z (if s.mode == 2 && m != 2 then z.endForces.clearCellForces.captureModeAbort else z) :=
    fun _ => .ite ((controlKept_endForces.trans controlKept_clearCellForces).trans controlKept_captureModeAbort) .refl
  have hlay : ∀ z : State, ControlKept z (if m == 1 && s.mode != 1 then
      { z with chan := z.chan.map (fun (p : Nat × ChanS) => (p.1, { p.2 with lay := 0 })) } else z) :=
    fun _ => .ite (controlKept_of_eq rfl rfl) .refl
  refine ⟨_, hhold, ?_⟩
  exact ((((hend _).trans (hlay _)).trans controlKept_loBeat).trans controlKept_dioDriveAll).raise (by decide)

theorem State.sysMode_setMode : (s.setMode m).reg SYS_MODE = (s.put SYS_MODE.MODE m).reg SYS_MODE := by
  obtain ⟨u, hsu, hut⟩ := State.setMode_split (s := s) m
  have hmode : u.reg SYS_MODE = s.reg SYS_MODE := hsu.reg (by decide) (by decide)
  rw [hut.reg (by decide) (by decide), State.digestMode, State.reg_setReg_other (by decide)]
  simp only [State.put, State.reg_setReg_same, hmode]

theorem State.life_setMode : (s.setMode m).life = s.life := by
  obtain ⟨u, hsu, hut⟩ := State.setMode_split (s := s) m
  rw [hut.2, State.digestMode, State.life_setReg, State.life_put, hsu.2]

/-! ### Slots cancelled (R67) -/

/-- The slot, where it is armed, holds an action of which something is true. -/
def State.armedHas (s : State) (n : Nat) (Q : Nat → Prop) : Prop := s.armedSlot n = true → Q (s.get (TIM_SLOT_W1.ACTION n))

theorem State.armedHas_of_reg_eq (hr : t.reg (TIM_SLOT_W1 n) = s.reg (TIM_SLOT_W1 n)) (h : s.armedHas n Q) : t.armedHas n Q := by
  have hact : t.get (TIM_SLOT_W1.ACTION n) = s.get (TIM_SLOT_W1.ACTION n) := get_of_reg_eq hr
  have hst : t.get (TIM_SLOT_W1.STATE n) = s.get (TIM_SLOT_W1.STATE n) := get_of_reg_eq hr
  unfold State.armedHas State.armedSlot at h ⊢
  rw [hst, hact]
  exact h

/-- The slot is cancelled where it is armed for the action. -/
def State.cancelSlot (s : State) (a n : Nat) : State :=
  if s.armedSlot n && s.get (TIM_SLOT_W1.ACTION n) == a then s.put (TIM_SLOT_W1.STATE n) 4 else s

theorem State.cancelAction_eq : s.cancelAction a = (List.range 16).foldl (fun z n => z.cancelSlot a n) s := rfl

theorem slotState_ok : (TIM_SLOT_W1.STATE n).ok = true := rfl

theorem State.reg_cancelSlot (h : b ≠ TIM_SLOT_W1 n) : (s.cancelSlot a n).reg b = s.reg b := by
  unfold State.cancelSlot
  split
  · exact State.reg_put_other h
  · rfl

theorem State.life_cancelSlot : (s.cancelSlot a n).life = s.life := by
  unfold State.cancelSlot
  split
  · exact State.life_put
  · rfl

/-- A cancelled slot is not armed. -/
theorem State.armedSlot_cancelled : (s.put (TIM_SLOT_W1.STATE n) 4).armedSlot n = false := by
  unfold State.armedSlot
  rw [State.get_put_same slotState_ok]
  rfl

theorem State.armedHas_cancelSlot_same : (s.cancelSlot a n).armedHas n (· ≠ a) := by
  unfold State.cancelSlot
  split
  · intro harm
    rw [State.armedSlot_cancelled] at harm
    exact absurd harm Bool.false_ne_true
  · next hno => exact fun harm hact => hno (by rw [harm, hact]; simp)

/-- What an armed slot holds survives the cancelling of any slot. -/
theorem State.armedHas_cancelSlot (h : s.armedHas n Q) : (s.cancelSlot a m).armedHas n Q := by
  by_cases hnm : n = m
  · subst hnm
    unfold State.cancelSlot
    split
    · intro harm
      rw [State.armedSlot_cancelled] at harm
      exact absurd harm Bool.false_ne_true
    · exact h
  · exact State.armedHas_of_reg_eq (State.reg_cancelSlot (by simp only [TIM_SLOT_W1]; omega)) h

theorem State.armedHas_cancelSlots (l : List Nat) (h : s.armedHas n Q) : (l.foldl (fun z m => z.cancelSlot a m) s).armedHas n Q := by
  induction l generalizing s with
  | nil => exact h
  | cons m r ih => exact ih (State.armedHas_cancelSlot h)

theorem State.armedHas_cancelled {l : List Nat} (hn : n ∈ l) : (l.foldl (fun z m => z.cancelSlot a m) s).armedHas n (· ≠ a) := by
  induction l generalizing s with
  | nil => exact absurd hn List.not_mem_nil
  | cons m r ih =>
    rcases List.mem_cons.mp hn with rfl | hr
    · exact State.armedHas_cancelSlots r State.armedHas_cancelSlot_same
    · exact ih hr

theorem State.armedHas_cancelAction (h : s.armedHas n Q) : (s.cancelAction a).armedHas n Q := by
  rw [State.cancelAction_eq]
  exact State.armedHas_cancelSlots _ h

theorem State.armedHas_cancelAction_same (hn : n < 16) : (s.cancelAction a).armedHas n (· ≠ a) := by
  rw [State.cancelAction_eq]
  exact State.armedHas_cancelled (List.mem_range.mpr hn)

theorem State.reg_cancelAction (h : b < TIM_SLOT_W1 0) : (s.cancelAction a).reg b = s.reg b := by
  rw [State.cancelAction_eq]
  refine foldl_keeps (fun z : State => z.reg b) _ _ _ (fun z n => State.reg_cancelSlot ?_)
  simp only [TIM_SLOT_W1] at h ⊢
  omega

theorem State.life_cancelAction : (s.cancelAction a).life = s.life := by
  rw [State.cancelAction_eq]
  exact foldl_keeps State.life _ _ _ (fun _ _ => State.life_cancelSlot)

/-! ### The entry -/

/-- The node in SAFE with a cause, before its armed mode changes and role swaps are cancelled. -/
def State.safeMode (s : State) (c : Nat) : State :=
  (({ s with life := { s.life with det := 0 } } : State).put SYS_MODE.SAFECAUSE c).setMode 3

/-- And after. -/
def State.safeCleared (s : State) (c : Nat) : State := (((s.safeMode c).cancelAction 0).cancelAction 1).clearPend

theorem State.enterSafe_eq (h : s.mode ≠ 3) :
    s.enterSafe c = (s.safeCleared c).trigNow 1 6 0 ((s.safeCleared c).reg SYS_MODE) 0 := by
  unfold State.enterSafe
  dsimp only
  rw [State.mode_with, if_neg (by simp [h])]
  rfl

/-- SYS_MODE in SAFE: the cause, the mode, no change pending. -/
theorem State.sysMode_enterSafe (h : s.mode ≠ 3) : (s.enterSafe c).reg SYS_MODE
    = ((((s.put SYS_MODE.SAFECAUSE c).put SYS_MODE.MODE 3).putB SYS_MODE.PEND false).put SYS_MODE.PMODE 0).reg SYS_MODE := by
  have hmode : (((s.safeMode c).cancelAction 0).cancelAction 1).reg SYS_MODE
      = ((s.put SYS_MODE.SAFECAUSE c).put SYS_MODE.MODE 3).reg SYS_MODE := by
    rw [State.reg_cancelAction (by decide), State.reg_cancelAction (by decide), State.safeMode, State.sysMode_setMode]
    rfl
  rw [State.enterSafe_eq h, State.reg_trigNow (by decide)]
  unfold State.safeCleared State.clearPend
  simp only [State.put, State.putB, State.reg_setReg_same, hmode]

theorem State.det_enterSafe (h : s.mode ≠ 3) : (s.enterSafe c).life.det = 0 := by
  rw [State.enterSafe_eq h, State.life_trigNow]
  unfold State.safeCleared State.clearPend State.safeMode
  rw [State.life_put, State.life_putB, State.life_cancelAction, State.life_cancelAction, State.life_setMode, State.life_put]

theorem State.armedSlot_enterSafe (h : s.mode ≠ 3) (hn : n < 16) : (s.enterSafe c).armedHas n (2 ≤ ·) := by
  have h0 : (s.safeCleared c).armedHas n (· ≠ 0) ∧ (s.safeCleared c).armedHas n (· ≠ 1) := by
    have hreg : (s.safeCleared c).reg (TIM_SLOT_W1 n) = (((s.safeMode c).cancelAction 0).cancelAction 1).reg (TIM_SLOT_W1 n) := by
      unfold State.safeCleared State.clearPend
      have hne : TIM_SLOT_W1 n ≠ SYS_MODE := by simp only [TIM_SLOT_W1, SYS_MODE]; omega
      rw [State.reg_put_other hne, State.reg_putB_other hne]
    exact ⟨State.armedHas_of_reg_eq hreg (State.armedHas_cancelAction (State.armedHas_cancelAction_same hn)),
      State.armedHas_of_reg_eq hreg (State.armedHas_cancelAction_same hn)⟩
  have hlost : TIM_SLOT_W1 n ≠ ONX_LOST := by simp only [TIM_SLOT_W1, ONX_LOST]; omega
  rw [State.enterSafe_eq h]
  refine State.armedHas_of_reg_eq (State.reg_trigNow hlost) (fun harm => ?_)
  have hne0 := h0.1 harm
  have hne1 := h0.2 harm
  omega

theorem lowestCause_lt : lowestCause m < 8 := by
  unfold lowestCause
  cases hl : (List.range 8).filter (fun c => c != 0 && bit m c) with
  | nil => decide
  | cons y r =>
    have hy : y ∈ (List.range 8).filter (fun c => c != 0 && bit m c) := hl ▸ List.mem_cons_self
    exact List.mem_range.mp (List.mem_filter.mp hy).1

theorem State.safeEntry_early (h : s.t.run ≤ s.life.detAt) : s.safeEntry = s := by
  unfold State.safeEntry
  rw [if_pos (by simp [h])]

theorem State.safeEntry_due (hst : s.starting = false) (hdet : s.life.det ≠ 0) (h : s.life.detAt < s.t.run) :
    s.safeEntry = s.enterSafe (lowestCause s.life.det) := by
  unfold State.safeEntry
  rw [if_neg (by simp [hst, hdet, h])]

theorem exec_safeEntry (hup : s.up = true) : exec .safeEntry s = .next (settle s.safeEntry) := act_up hup

theorem safeEntry_takes (hup : s.up = true) (hst : s.starting = false) (hdet : s.life.det ≠ 0) (hm : s.mode ≠ 3)
    (h : s.life.detAt < s.t.run) : Completes .safeEntry s (fun t => t.mode = 3 ∧ t.get SYS_MODE.SAFECAUSE = lowestCause s.life.det
      ∧ t.life.det = 0 ∧ t.pins.safeReleased = true ∧ t.flag SYS_MODE.PEND = false
      ∧ (∀ n : Fin 16, t.armedSlot n = true → 2 ≤ t.get (TIM_SLOT_W1.ACTION n))) := by
  have hrun := exec_safeEntry hup
  rw [State.safeEntry_due hst hdet h] at hrun
  have hfld : ∀ f : Fld, f.addr = SYS_MODE → (s.enterSafe (lowestCause s.life.det)).get f
      = ((((s.put SYS_MODE.SAFECAUSE (lowestCause s.life.det)).put SYS_MODE.MODE 3).putB SYS_MODE.PEND false).put SYS_MODE.PMODE 0).get f :=
    fun f hf => get_of_reg_eq (by rw [hf]; exact State.sysMode_enterSafe hm)
  have hmode : (s.enterSafe (lowestCause s.life.det)).mode = 3 := by
    unfold State.mode
    rw [hfld _ rfl, State.get_put_other (by decide) (by decide), State.get_putB_other (by decide) (by decide),
      State.get_put_same (by decide)]
    rfl
  refine ⟨_, hrun, ?_, ?_, ?_, ?_, ?_, fun n => ?_⟩
  · rw [State.mode_settle, hmode]
  · rw [State.get_settle, hfld _ rfl, State.get_put_other (by decide) (by decide), State.get_putB_other (by decide) (by decide),
      State.get_put_other (by decide) (by decide), State.get_put_same (by decide)]
    exact Nat.mod_eq_of_lt (lowestCause_lt.trans (by decide))
  · rw [State.life_settle, State.det_enterSafe hm]
  · rw [State.safeReleased_settle, State.safeOut, hmode]
    rfl
  · rw [State.flag_settle, State.flag, hfld _ rfl, State.get_put_other (by decide) (by decide), State.get_putB_same (by decide)]
    rfl
  · exact State.armedHas_of_reg_eq State.reg_settle (State.armedSlot_enterSafe hm n.isLt)

end

/-- Settles O15: the entry is due in a beat after the detection; the work of the islands it brings about leaves SYS_MODE alone. -/
theorem safeEntryTakesTheNode : Obligations.SafeEntryTakesTheNode := by
  unfold Obligations.SafeEntryTakesTheNode
  intro s hup hst hdet _ hm
  refine ⟨fun h => ?_, safeEntry_takes hup hst hdet hm⟩
  have hrun := exec_safeEntry hup
  rw [State.safeEntry_early h] at hrun
  exact ⟨_, hrun, State.mode_settle, by rw [State.life_settle], allKept_settle⟩

/-! ## Single bits -/

section
variable {w v hi lo i : Nat} {x : Bool}

theorem bits_one : bits w i i = (w >>> i) % 2 := by
  unfold bits
  rw [Nat.add_sub_cancel_left, pow_one]

/-- A field of one bit read as a flag. -/
theorem bits_one_ne_zero : (bits w i i != 0) = bit w i := by
  rw [bits_one]
  unfold bit
  rcases Nat.mod_two_eq_zero_or_one (w >>> i) with h | h
  · rw [h]; rfl
  · rw [h]; rfl

theorem bit_setBit_same : bit (setBit w i x) i = x := by
  have hbits : bits (setBit w i x) i i = x.toNat % 2 ^ (i + 1 - i) := bits_setBits_same le_rfl
  rw [← bits_one_ne_zero, hbits, Nat.add_sub_cancel_left]
  cases x
  · rfl
  · rfl

theorem bits_and : bits (w &&& v) hi lo = bits w hi lo &&& bits v hi lo := by
  unfold bits
  rw [Nat.shiftRight_and_distrib, Nat.and_mod_two_pow]

/-- A field whose bits a mask all has is the field of the masked word. -/
theorem bits_masked (h : bits v hi lo = 2 ^ (hi + 1 - lo) - 1) : bits (w &&& v) hi lo = bits w hi lo := by
  rw [bits_and, h, Nat.and_two_pow_sub_one_eq_mod]
  exact Nat.mod_eq_of_lt bits_lt

end

section
variable {s t u : State} {f : Fld} {a b c i m n v k : Nat} {w : Word} {x : Bool}

/-! ## SAFE causes (R41, R44, R553) -/

/-! ### What a change of pair state leaves alone: the lattice and the host port -/

/-- The lattice and the host port are as before. -/
def UnitsKept (s t : State) : Prop := t.bl = s.bl ∧ t.hst = s.hst

theorem UnitsKept.trans (h : UnitsKept s t) (h' : UnitsKept t u) : UnitsKept s u := ⟨h'.1.trans h.1, h'.2.trans h.2⟩

theorem UnitsKept.refl : UnitsKept s s := ⟨rfl, rfl⟩

theorem UnitsKept.put (h : UnitsKept s t) : UnitsKept s (t.put f v) := h.trans ⟨State.bl_put, State.hst_put⟩

theorem UnitsKept.ite {p : Prop} [Decidable p] (ht : UnitsKept s t) (hu : UnitsKept s u) : UnitsKept s (if p then t else u) := by
  split
  · exact ht
  · exact hu

theorem unitsKept_trigger {cls sub src : Nat} {ts0 ts1 ev0 ev1 : Word} {rs : Option Nat} :
    UnitsKept s (s.trigger cls sub src ts0 ts1 ev0 ev1 rs) := by
  have honx : ∀ o : OnxS, UnitsKept s { s with onx := o } := fun _ => ⟨rfl, rfl⟩
  unfold State.trigger
  dsimp only
  generalize (if cls ≤ 2 then 128 else 112) = cap
  refine .ite .refl ?_
  split
  · exact (honx _).put
  · split
    · exact (honx _).put
    · exact .ite (honx _).put (.ite (honx _) (honx _))

theorem unitsKept_rateAbort : UnitsKept s s.rateAbort := by
  have hclk : ∀ c : ClkS, UnitsKept s { s with clk := c } := fun _ => ⟨rfl, rfl⟩
  exact .ite .refl (hclk _).put.put

theorem unitsKept_heldFrom : UnitsKept s s.heldFrom := by
  have ht : ∀ y : TimeS, UnitsKept s { s with t := y } := fun _ => ⟨rfl, rfl⟩
  exact .ite (ht _) .refl

theorem unitsKept_discipline : UnitsKept s s.discipline := by
  have hrate : ∀ z : State, UnitsKept z z.ratePtp := fun _ => .ite unitsKept_rateAbort .refl
  exact (unitsKept_heldFrom.put.put.put.put.put).trans (hrate _)

theorem unitsKept_setPstate : UnitsKept s (s.setPstate n) := by
  have hjl : ∀ (z : State) (y : JlS), UnitsKept z { z with jl := y } := fun _ _ => ⟨rfl, rfl⟩
  exact .ite .refl (((UnitsKept.refl.put.put.put.trans (hjl _ _)).put).trans unitsKept_discipline)

theorem unitsKept_setCause : UnitsKept s (s.setCause n) := by
  have hset : ∀ z : State, UnitsKept z (z.setReg JL_CAUSEB s.t.beat) := fun _ => ⟨rfl, rfl⟩
  exact (UnitsKept.refl.put.trans (hset _)).trans unitsKept_trigger

theorem unitsKept_giveUp : UnitsKept s (s.giveUp n) := by
  have hjl : ∀ (z : State) (y : JlS), UnitsKept z { z with jl := y } := fun _ _ => ⟨rfl, rfl⟩
  exact .ite (.ite (unitsKept_setCause.trans (hjl _ _)) .refl) (.ite (unitsKept_setCause.trans unitsKept_setPstate) .refl)

theorem unitsKept_showCause : UnitsKept s s.showCause := .ite .refl UnitsKept.refl.put

/-! ### The condition of a cause begins to hold -/

/-- The condition of a cause stands; nothing follows from it yet. -/
def State.condOn (s : State) (c : Nat) : State := { s with life := { s.life with conds := setBit s.life.conds c true } }

/-- The entry that a cause brings is due; the first detection dates it. -/
def State.detect (s : State) (c : Nat) : State :=
  { s with life := { s.life with det := setBit s.life.det c true, detAt := if s.life.det == 0 then s.t.run else s.life.detAt } }

theorem State.causeOn_eq : s.causeOn c = if s.starting then (s.condOn c).showCause
    else if bit s.life.conds c || s.mode == 3 then s.condOn c
    else if c == 2 || c == 6 then (s.condOn c).detect c else ((s.condOn c).detect c).giveUp (pairCause c) := rfl

theorem unitsKept_causeOn : UnitsKept s (s.causeOn c) := by
  have hcond : UnitsKept s (s.condOn c) := ⟨rfl, rfl⟩
  have hdet : UnitsKept s ((s.condOn c).detect c) := ⟨rfl, rfl⟩
  rw [State.causeOn_eq]
  exact .ite (hcond.trans unitsKept_showCause) (.ite hcond (.ite hdet (hdet.trans unitsKept_giveUp)))

theorem State.conds_causeOn : (s.causeOn c).life.conds = setBit s.life.conds c true := by
  rw [State.causeOn_eq]
  split
  · rw [State.life_showCause]; rfl
  · split
    · rfl
    · split
      · rfl
      · rw [State.life_giveUp]; rfl

theorem State.holds_causeOn : (s.causeOn c).holds c = true := by
  unfold State.holds
  rw [State.conds_causeOn, bit_setBit_same]

/-- A cause detected while the node is up and not in SAFE makes its entry due (R41). -/
theorem State.det_causeOn (hst : s.starting = false) (hm : s.mode ≠ 3) (hc : s.holds c = false) :
    (s.causeOn c).life.det = setBit s.life.det c true := by
  unfold State.holds at hc
  have hno : ¬((bit s.life.conds c || s.mode == 3) = true) := by simp [hc, hm]
  rw [State.causeOn_eq, if_neg (by simp [hst]), if_neg hno]
  split
  · rfl
  · rw [State.life_giveUp]; rfl

/-- Registers in which a SAFE cause shows: SYS_MODE, and where control is given up, the pair engine's. -/
def causeRegs : List Nat := SYS_MODE :: JL_CAUSE :: JL_CAUSEB :: ONX_LOST :: pairRegs

theorem State.reg_causeOn (h : a ∉ causeRegs) : (s.causeOn c).reg a = s.reg a := by
  simp only [causeRegs, List.mem_cons, not_or] at h
  obtain ⟨hmode, hcause, hcauseb, hlost, hpair⟩ := h
  have hcond : (s.condOn c).reg a = s.reg a := rfl
  have hdet : ((s.condOn c).detect c).reg a = s.reg a := rfl
  rw [State.causeOn_eq]
  split
  · rw [State.reg_showCause hmode, hcond]
  · split
    · exact hcond
    · split
      · exact hdet
      · rw [State.reg_giveUp (by simpa using hpair) hcause hcauseb hlost, hdet]

/-- Causes 2 and 6 tell the pair engine nothing here. -/
theorem State.reg_causeOn_silent (hc : c = 2 ∨ c = 6) (h : a ≠ SYS_MODE) : (s.causeOn c).reg a = s.reg a := by
  rw [State.causeOn_eq]
  split
  · rw [State.reg_showCause h]; rfl
  · split
    · rfl
    · rw [if_pos (by rcases hc with rfl | rfl <;> rfl)]; rfl

/-! ## Lattice forces, host signals, parity (R37, R179, R192) -/

theorem State.regs_needCell : (s.needCell n).regs = s.regs := by
  unfold State.needCell
  split <;> rfl

theorem State.reg_needCell : (s.needCell n).reg a = s.reg a := by simp only [State.reg, State.regs_needCell]

theorem State.mem_needCell : (s.needCell n).mem = s.mem := by
  unfold State.needCell
  split <;> rfl

/-- The word that a write of BL_CFORCEn leaves: its own bits, and IGN where EN comes outside MAINTENANCE. -/
def State.cforceWord (s : State) (w : Word) : Nat :=
  setBits (w.toNat &&& 0xe00000fff) 32 32 (wbit w 35 && s.mode != 2).toNat

theorem State.cforceWord_lt : s.cforceWord w < 2 ^ 36 :=
  setBits_lt le_rfl (by decide) (Nat.and_lt_two_pow _ (by decide))

/-- A field of the word written, apart from IGN. -/
theorem State.bits_cforceWord {hi lo : Nat} (hd : hi < 32 ∨ 32 < lo) (hm : bits 0xe00000fff hi lo = 2 ^ (hi + 1 - lo) - 1) :
    bits (s.cforceWord w) hi lo = fld w hi lo := by
  unfold State.cforceWord
  rw [bits_setBits_other le_rfl hd, bits_masked hm]
  rfl

/-- The write of BL_CFORCEn, before a cell that has none gets its record. -/
def State.cforceSet (s : State) (n : Nat) (w : Word) : State := s.setReg (BL_CFORCE n) (W (s.cforceWord w))

theorem State.cellForce_eq : s.cellForce n w = if wbit w 35 then (s.cforceSet n w).needCell (fld w 11 0) else s.cforceSet n w := rfl

theorem State.reg_cellForce : (s.cellForce n w).reg a = (s.cforceSet n w).reg a := by
  rw [State.cellForce_eq, State.reg_ite, State.reg_needCell, ite_self]

theorem State.mem_cellForce : (s.cellForce n w).mem = s.mem := by
  rw [State.cellForce_eq, State.mem_ite, State.mem_needCell, ite_self, State.cforceSet, State.mem_setReg]

theorem State.reg_cellForce_other (h : a ≠ BL_CFORCE n) : (s.cellForce n w).reg a = s.reg a :=
  State.reg_cellForce.trans (State.reg_setReg_other h)

/-- A field of BL_CFORCEn after the write. -/
theorem State.get_cellForce (hf : f.addr = BL_CFORCE n) : (s.cellForce n w).get f = bits (s.cforceWord w) f.hi f.lo := by
  unfold State.get fld
  rw [hf, State.reg_cellForce, State.cforceSet, State.reg_setReg_same, BitVec.toNat_ofNat, Nat.mod_eq_of_lt State.cforceWord_lt]

/-- A flag that a write carries at bit i. -/
theorem State.flag_cellForce (hf : f.addr = BL_CFORCE n) (hhi : f.hi = i) (hlo : f.lo = i) (hi : 32 < i)
    (hm : bits 0xe00000fff i i = 1) : (s.cellForce n w).flag f = wbit w i := by
  unfold State.flag
  rw [State.get_cellForce hf, hhi, hlo, State.bits_cforceWord (.inr hi) (by rw [hm, Nat.add_sub_cancel_left]; rfl)]
  exact bits_one_ne_zero

theorem State.ign_cellForce : (s.cellForce n w).flag (BL_CFORCE.IGN n) = (wbit w 35 && s.mode != 2) := by
  unfold State.flag
  rw [State.get_cellForce rfl, bits_one_ne_zero]
  exact bit_setBit_same

theorem memKept_consume : MemKept s (s.consume a w) := memKept_of_eq rfl rfl rfl rfl

theorem MemKept.trans (h : MemKept s t) (h' : MemKept t u) : MemKept s u :=
  ⟨fun a => ⟨(h'.1 a).1.trans (h.1 a).1, (h'.1 a).2.trans (h.1 a).2⟩, fun a => ⟨(h'.2 a).1.trans (h.2 a).1, (h'.2 a).2.trans (h.2 a).2⟩⟩

theorem exec_cellForceWrite (hup : s.up = true) (n : Fin 8) :
    exec (.cellForceWrite n w) s = .next (settle ((s.consume (BL_CFORCE n.val) w).cellForce n.val w)) :=
  act_up (p := fun s => (s.consume (BL_CFORCE n.val) w).cellForce n.val w) hup

theorem cellForceWrite_sets (hup : s.up = true) (n : Fin 8) : Completes (.cellForceWrite n w) s (fun t =>
    t.get (BL_CFORCE.CELL n) = fld w 11 0 ∧ t.flag (BL_CFORCE.EN n) = wbit w 35 ∧ t.flag (BL_CFORCE.FO n) = wbit w 34
      ∧ t.flag (BL_CFORCE.FA n) = wbit w 33 ∧ t.flag (BL_CFORCE.IGN n) = (wbit w 35 && s.mode != 2)
      ∧ RegsKeptBut [BL_CFORCE n] s t ∧ MemKept s t) := by
  refine ⟨_, exec_cellForceWrite hup n, ?_, ?_, ?_, ?_, ?_, fun a ha => ?_, ?_⟩
  · rw [State.get_settle, State.get_cellForce rfl]
    exact State.bits_cforceWord (hi := 11) (lo := 0) (.inl (by decide)) (by decide)
  · rw [State.flag_settle]
    exact State.flag_cellForce rfl rfl rfl (by decide) (by decide)
  · rw [State.flag_settle]
    exact State.flag_cellForce rfl rfl rfl (by decide) (by decide)
  · rw [State.flag_settle]
    exact State.flag_cellForce rfl rfl rfl (by decide) (by decide)
  · rw [State.flag_settle, State.ign_cellForce]
    rfl
  · rw [State.reg_settle, State.reg_cellForce_other (List.ne_of_not_mem_cons ha), State.reg_consume]
  · exact memKept_consume.trans (memKept_of_mem_eq (by rw [State.mem_settle, State.mem_cellForce]))

theorem exec_hostSignalWrite (hup : s.up = true) (n : Fin 2) (v : BitVec 32) :
    exec (.hostSignalWrite n v) s = .next (settle ((s.consume (BL_HSIG n.val) (W v.toNat)).put (BL_HSIG.SIG n.val) v.toNat)) :=
  act_up (p := fun s => (s.consume (BL_HSIG n.val) (W v.toNat)).put (BL_HSIG.SIG n.val) v.toNat) hup

theorem hostSignalWrite_sets (hup : s.up = true) (n : Fin 2) (v : BitVec 32) : Completes (.hostSignalWrite n v) s (fun t =>
    t.get (BL_HSIG.SIG n) = v.toNat ∧ RegsKeptBut [BL_HSIG n] s t ∧ MemKept s t) := by
  refine ⟨_, exec_hostSignalWrite hup n v, ?_, fun a ha => ?_, ?_⟩
  · rw [State.get_settle, State.get_put_same rfl]
    exact Nat.mod_eq_of_lt v.isLt
  · rw [State.reg_settle, State.reg_put_other (List.ne_of_not_mem_cons ha), State.reg_consume]
  · exact memKept_consume.trans (memKept_of_mem_eq (by rw [State.mem_settle, State.mem_put]))

/-- The lattice with its parity failure noted. -/
def State.parityNoted (s : State) : State := { s with bl := { s.bl with parityBad := true } }

theorem exec_latticeParityFail (hup : s.up = true) : exec .latticeParityFail s = .next (settle (s.parityNoted.causeOn 1)) :=
  act_up (p := fun s => s.parityNoted.causeOn 1) hup

theorem latticeParityFail_detected (hup : s.up = true) : Completes .latticeParityFail s (fun t => t.holds 1 = true
    ∧ t.bl.parityBad = true ∧ MemKept s t
    ∧ (s.starting = false → s.mode ≠ 3 → s.holds 1 = false → bit t.life.det 1 = true)) := by
  refine ⟨_, exec_latticeParityFail hup, ?_, ?_, ?_, fun hst hm h1 => ?_⟩
  · exact State.holds_causeOn
  · rw [State.bl_settle, unitsKept_causeOn.1]
    rfl
  · exact memKept_of_mem_eq (by rw [State.mem_settle, State.mem_causeOn]; rfl)
  · rw [State.life_settle, State.det_causeOn (s := s.parityNoted) hst hm h1, bit_setBit_same]

end

/-- Settles O36: the write of a force by the bits of its word, the parity failure by what a SAFE cause brings about. -/
theorem cellForcesHostSignalsAndParity : Obligations.CellForcesHostSignalsAndParity := by
  unfold Obligations.CellForcesHostSignalsAndParity
  exact fun s hup => ⟨fun n v => cellForceWrite_sets hup n, hostSignalWrite_sets hup, latticeParityFail_detected hup⟩

section
variable {s t u : State} {f : Fld} {a b c i m n v k : Nat} {w : Word} {x : Bool} {ups : List UpsetAt}

/-! ## The MRAM patrol (R25) -/

/-- The patrol's reads: the words with a standing pattern, then those whose errors it finds. -/
def State.patrolRead (s : State) (ups : List UpsetAt) : State :=
  let old := s.mem.mramBad
  let s := old.foldl (fun (s : State) (a : Nat) => (s.mramRead a .clean 26).1) s
  ups.foldl (fun (s : State) (u : UpsetAt) =>
    if isMram u.addr.toNat && !old.contains u.addr.toNat then (s.mramRead u.addr.toNat u.kind 26).1 else s) s

/-- An error pattern stands in a bank. -/
def State.badIn (s : State) (lo n : Nat) : Bool := s.mem.mramBad.any (fun a => lo ≤ a && a < lo + n)

/-- What the patrol shows of the image bank that runs and the calibration bank in force. -/
def State.patrolShow (s : State) : State :=
  let t := if s.flag IMG_STAT.RUNNING && s.badIn (imgBase (s.get IMG_STAT.RUNBANK)) imgSize then s.putB IMG_STAT.INFBAD true else s
  if !t.flag CAL_STAT.NOVALID && s.badIn (calBase (t.get CAL_STAT.INFORCE)) calSize then t.putB CAL_STAT.INFBAD true else t

/-- One patrol more. -/
def State.patrolled (s : State) : State := { s with mem := { s.mem with patrols := s.mem.patrols + 1 } }

theorem State.reg_patrolled : s.patrolled.reg a = s.reg a := rfl

theorem memKept_patrolled : MemKept s s.patrolled := memKept_of_eq rfl rfl rfl rfl

theorem exec_mramPatrol (hup : s.up = true) (h26 : s.alive 26 = true) :
    exec (.mramPatrol ups) s = .next (settle (s.patrolRead ups).patrolShow.patrolled) := by
  have himg : ¬((!s.imgUp) = true) := by simp [State.imgUp, h26]
  have hrun : exec (.mramPatrol ups) s = act s (fun s => if !s.imgUp then s else (s.patrolRead ups).patrolShow.patrolled) := rfl
  rw [hrun, act_up hup, if_neg himg]

theorem State.patrolShow_clean (h : s.mem.mramBad = []) : s.patrolShow = s := by
  have hbad : ∀ lo n, s.badIn lo n = false := fun lo n => by
    unfold State.badIn
    rw [h]
    rfl
  unfold State.patrolShow
  dsimp only
  rw [hbad, Bool.and_false, if_neg Bool.false_ne_true, hbad, Bool.and_false, if_neg Bool.false_ne_true]

theorem State.patrolRead_nil (h : s.mem.mramBad = []) : s.patrolRead [] = s := by
  unfold State.patrolRead
  rw [h]
  rfl

/-- A single-bit error met by a read is counted as corrected (R24). -/
theorem State.mramRead_single {req : Nat} (h : s.mramPoison a = false) : (s.mramRead a .single req).1 = s.inc SYS_ICHK2.CORR := by
  unfold State.mramRead
  dsimp only
  rw [if_neg (by simp [h])]

theorem State.patrolRead_single {x : Addr} (h : s.mem.mramBad = []) (hx : isMram x.toNat = true) :
    s.patrolRead [⟨x, .single⟩] = s.inc SYS_ICHK2.CORR := by
  have hp : s.mramPoison x.toNat = false := by
    unfold State.mramPoison
    rw [h]
    rfl
  unfold State.patrolRead
  rw [h]
  dsimp only [List.foldl_nil, List.foldl_cons]
  rw [if_pos (by simp [hx]), State.mramRead_single hp]

theorem mramPatrol_clean (hup : s.up = true) (h26 : s.alive 26 = true) (h : s.mem.mramBad = []) :
    Completes (.mramPatrol []) s (fun t => t.mem.patrols = s.mem.patrols + 1 ∧ AllKept s t) := by
  have hrun := exec_mramPatrol (ups := []) hup h26
  rw [State.patrolRead_nil h, State.patrolShow_clean h] at hrun
  exact ⟨_, hrun, rfl, fun _ => State.reg_settle.trans State.reg_patrolled, memKept_patrolled.trans allKept_settle.2⟩

theorem mramPatrol_single {x : Addr} (hup : s.up = true) (h26 : s.alive 26 = true) (h : s.mem.mramBad = []) (hx : isMram x.toNat = true) :
    Completes (.mramPatrol [⟨x, .single⟩]) s (fun t => CountsUp SYS_ICHK2.CORR s t ∧ RegsKeptBut [SYS_ICHK2] s t ∧ MemKept s t
      ∧ t.mem.patrols = s.mem.patrols + 1) := by
  have hrun := exec_mramPatrol (ups := [⟨x, .single⟩]) hup h26
  rw [State.patrolRead_single h hx, State.patrolShow_clean (by rw [State.mem_inc, h])] at hrun
  have hinc : MemKept s (s.inc SYS_ICHK2.CORR) := memKept_of_mem_eq State.mem_inc
  refine ⟨_, hrun, ?_, fun b hb => ?_, (hinc.trans memKept_patrolled).trans allKept_settle.2, rfl⟩
  · unfold CountsUp
    rw [State.get_settle, get_of_reg_eq State.reg_patrolled, State.get_inc_same (by decide), satAt]
    split <;> omega
  · rw [State.reg_settle, State.reg_patrolled, State.reg_inc_other (List.ne_of_not_mem_cons hb)]

/-! ## The watchdog (R34, R44, R500) -/

/-- The expiry as SYS_WDOG shows it. -/
def State.expiryShown (s : State) : State := ((s.putB SYS_WDOG.EXP true).put SYS_WDOG.ROUNDS 0).inc SYS_WDOG.EXPS

/-- The expiry dated. -/
def State.expiryDated (s : State) (n : Nat) : State := { s with hst := { s.hst with expRun := n } }

/-- The expiry noted, at the round boundary that it belongs to. -/
def State.expired (s : State) : State := s.expiryShown.expiryDated (s.expiryShown.t.run - s.expiryShown.t.usec)

theorem State.reg_expiryDated : (s.expiryDated n).reg a = s.reg a := rfl

theorem State.mem_expiryDated : (s.expiryDated n).mem = s.mem := rfl

theorem State.expRun_expiryDated : (s.expiryDated n).hst.expRun = n := rfl

theorem State.t_expiryShown : s.expiryShown.t = s.t := by
  rw [State.expiryShown, State.t_inc, State.t_put, State.t_putB]

theorem State.mem_expired : s.expired.mem = s.mem := by
  rw [State.expired, State.mem_expiryDated, State.expiryShown, State.mem_inc, State.mem_put, State.mem_putB]

theorem State.watchdogExpire_due (hh : s.flag SYS_DBG.HALTED = false) (he : s.flag SYS_WDOG.EXP = false) (h : 2 ≤ s.hst.missed) :
    s.watchdogExpire = s.expired.giveUp 2 := by
  unfold State.watchdogExpire
  rw [if_neg (by simp [hh, he]; omega)]
  rfl

theorem State.watchdogExpire_early (h : s.hst.missed < 2) : s.watchdogExpire = s := by
  unfold State.watchdogExpire
  rw [if_pos (by simp [h])]

/-- The pair engine's work leaves SYS_WDOG alone. -/
theorem State.reg_wdog_expired : (s.expired.giveUp 2).reg SYS_WDOG = s.expiryShown.reg SYS_WDOG := by
  rw [State.reg_giveUp (by decide) (by decide) (by decide) (by decide), State.expired, State.reg_expiryDated]

theorem exec_watchdogExpiry (hup : s.up = true) : exec .watchdogExpiry s = .next (settle s.watchdogExpire) := act_up hup

theorem watchdogExpiry_due (hup : s.up = true) (hh : s.flag SYS_DBG.HALTED = false) (he : s.flag SYS_WDOG.EXP = false)
    (h : 2 ≤ s.hst.missed) : Completes .watchdogExpiry s (fun t => t.flag SYS_WDOG.EXP = true ∧ t.get SYS_WDOG.ROUNDS = 0
      ∧ CountsUp SYS_WDOG.EXPS s t ∧ t.hst.expRun = s.t.run - s.t.usec ∧ MemKept s t) := by
  have hrun := exec_watchdogExpiry hup
  rw [State.watchdogExpire_due hh he h] at hrun
  have hget : ∀ f : Fld, f.addr = SYS_WDOG → (settle (s.expired.giveUp 2)).get f
      = s.expiryShown.get f :=
    fun f hf => get_of_reg_eq (by rw [State.reg_settle, hf, State.reg_wdog_expired])
  refine ⟨_, hrun, ?_, ?_, ?_, ?_, memKept_of_mem_eq ?_⟩
  · unfold State.flag
    rw [hget _ rfl, State.expiryShown, State.get_inc_other (by decide) (by decide), State.get_put_other (by decide) (by decide),
      State.get_putB_same (by decide)]
    rfl
  · rw [hget _ rfl, State.expiryShown, State.get_inc_other (by decide) (by decide), State.get_put_same (by decide)]
    rfl
  · unfold CountsUp
    rw [hget _ rfl, State.expiryShown, State.get_inc_same (by decide), State.get_put_other (by decide) (by decide),
      State.get_putB_other (by decide) (by decide), satAt]
    split <;> omega
  · rw [State.hst_settle, unitsKept_giveUp.2, State.expired, State.expRun_expiryDated, State.t_expiryShown]
  · rw [State.mem_settle, State.mem_giveUp, State.mem_expired]

theorem watchdogExpiry_early (hup : s.up = true) (he : s.flag SYS_WDOG.EXP = false) (h : s.hst.missed < 2) :
    Completes .watchdogExpiry s (fun t => t.flag SYS_WDOG.EXP = false ∧ AllKept s t) := by
  have hrun := exec_watchdogExpiry hup
  rw [State.watchdogExpire_early h] at hrun
  exact ⟨_, hrun, State.flag_settle.trans he, allKept_settle⟩

theorem exec_watchdogSafeTimeout (hup : s.up = true) : exec .watchdogSafeTimeout s = .next (settle s.watchdogSafe) := act_up hup

theorem watchdogSafeTimeout_due (hup : s.up = true) (he : s.flag SYS_WDOG.EXP = true) (hc : s.holds 2 = false)
    (h : 4000000 ≤ s.since s.hst.expRun) : Completes .watchdogSafeTimeout s (fun t => t.holds 2 = true ∧ RegsKeptBut [SYS_MODE] s t
      ∧ MemKept s t) := by
  have hsafe : s.watchdogSafe = s.causeOn 2 := by
    unfold State.watchdogSafe
    rw [if_pos (by simp [he, hc, h])]
  have hrun := exec_watchdogSafeTimeout hup
  rw [hsafe] at hrun
  refine ⟨_, hrun, State.holds_causeOn, fun a ha => ?_, memKept_of_mem_eq ?_⟩
  · rw [State.reg_settle, State.reg_causeOn_silent (.inl rfl) (List.ne_of_not_mem_cons ha)]
  · rw [State.mem_settle, State.mem_causeOn]

theorem watchdogSafeTimeout_early (hup : s.up = true) (hc : s.holds 2 = false) (h : s.since s.hst.expRun < 4000000) :
    Completes .watchdogSafeTimeout s (fun t => t.holds 2 = false ∧ AllKept s t) := by
  have hsafe : s.watchdogSafe = s := by
    unfold State.watchdogSafe
    rw [if_neg (by simp [h])]
  have hrun := exec_watchdogSafeTimeout hup
  rw [hsafe] at hrun
  exact ⟨_, hrun, hc, allKept_settle⟩

end

/-- Settles O17: the patrol by what it reads, the watchdog by the rounds missed and the beats since its expiry. -/
theorem patrolAndWatchdog : Obligations.PatrolAndWatchdog := by
  unfold Obligations.PatrolAndWatchdog
  intro s hup
  exact ⟨mramPatrol_clean hup, fun _ => mramPatrol_single hup, fun hh he => ⟨watchdogExpiry_due hup hh he, watchdogExpiry_early hup he⟩,
    fun he hc => ⟨watchdogSafeTimeout_due hup he hc, watchdogSafeTimeout_early hup hc⟩⟩

/-! ## The host port's write queue (R28, R62, R481, R483) -/

section
variable {s t u : State} {f : Fld} {a b c i m n v k req : Nat} {w : Word} {x : Bool} {r : List HostWr} {g : State → State}

/-- The queue without its front word. -/
def State.dequeued (s : State) (r : List HostWr) : State := { s with hst := { s.hst with wq := r } }

theorem exec_hostWriteExecute (hs : s.served = true) (hq : s.hst.wq = ⟨a, w⟩ :: r) :
    exec .hostWriteExecute s = .next (settle ((s.dequeued r).hostWrite a w)) := by
  have hrun : exec .hostWriteExecute s = portAct s State.execute1 := rfl
  rw [hrun, portAct_served hs, State.execute1, hq]
  rfl

/-! ### Where an address lies (R27, R28) -/

theorem isSram_of_isFreeHost (h : isFreeHost a = true) : isSram a = true := by
  simp only [isFreeHost, isSram, Bool.and_eq_true, decide_eq_true_eq] at h ⊢
  exact h.2

theorem isReg_of_isSram (h : isSram a = true) : isReg a = false := by
  simp only [isSram, isReg, Bool.and_eq_false_iff, decide_eq_true_eq, decide_eq_false_iff_not] at h ⊢
  omega

theorem isMram_of_isSram (h : isSram a = true) : isMram a = false := by
  simp only [isSram, isMram, Bool.and_eq_false_iff, decide_eq_true_eq, decide_eq_false_iff_not] at h ⊢
  omega

theorem isSram_of_isReg (h : isReg a = true) : isSram a = false := by
  simp only [isSram, isReg, Bool.and_eq_true, decide_eq_true_eq, decide_eq_false_iff_not] at h ⊢
  omega

theorem isMram_of_isReg (h : isReg a = true) : isMram a = false := by
  simp only [isMram, isReg, Bool.and_eq_true, Bool.and_eq_false_iff, decide_eq_true_eq, decide_eq_false_iff_not] at h ⊢
  omega

theorem isTable_of_isFreeHost (h : isFreeHost a = true) : isTable a = false := by
  simp only [isFreeHost, Bool.and_eq_true, decide_eq_true_eq] at h
  simp only [isTable, Bool.or_eq_false_iff, Bool.and_eq_false_iff, decide_eq_false_iff_not]
  omega

theorem sramRight_of_isFreeHost (h : isFreeHost a = true) : sramRight a = some true := by
  simp only [isFreeHost, Bool.and_eq_true, decide_eq_true_eq] at h
  have hlow : ∀ lo hi : Nat, hi < 0o02000000 → (decide (lo ≤ a) && decide (a ≤ hi)) = false := by
    intro lo hi hhi
    simp only [Bool.and_eq_false_iff, decide_eq_false_iff_not]
    omega
  have hin : (decide (0o02000000 ≤ a) && decide (a ≤ 0o03777777)) = true := by simp [h]
  simp [sramRight, sramRegions, hlow, hin]

/-! ### Writes of memory in one phase (R17, R18) -/

/-- A requester served later has written the word in this phase. -/
def State.beaten (s : State) (req a : Nat) : Bool :=
  s.mem.phaseW.any (fun p => p.addr == a && p.req != req && serveKey req < serveKey p.req)

theorem State.beaten_false (h : s.unbeaten req a) : s.beaten req a = false := by
  unfold State.beaten
  rw [List.any_eq_false]
  intro p hp
  simp only [Bool.and_eq_true, beq_iff_eq, decide_eq_true_eq, not_and, not_lt]
  exact fun ha => h p hp ha.1

/-- The word and pattern that the phase's list keeps, noted with the write. -/
def State.noteWr (s : State) (p : PhaseWr) : State := { s with mem := { s.mem with phaseW := s.mem.phaseW ++ [p] } }

theorem State.phaseStore_sram (ha : isSram a = true) : s.phaseStore req a g
    = (if s.beaten req a then (if s.sramPoison a then (g s).spoilSram a (s.sramAt a) else (g s).setSram a (s.sramAt a)) else g s).noteWr
        ⟨a, req, s.sramAt a, s.sramPoison a⟩ := by
  have hle : a ≤ 0o03777777 := of_decide_eq_true ha
  unfold State.phaseStore
  dsimp only
  simp only [if_pos hle]
  show (if !s.beaten req a then g s else _ : State).noteWr _ = _
  cases s.beaten req a
  · rfl
  · rfl

end

section
variable {s t u : State} {f : Fld} {a b c i m n v k req code : Nat} {w : Word} {x : Bool} {r : List HostWr} {g : State → State} {p : Path}
  {l : List Nat}

/-! ### What is kept along several steps -/

theorem AllKept.trans (h : AllKept s t) (h' : AllKept t u) : AllKept s u := ⟨fun a => (h'.1 a).trans (h.1 a), h.2.trans h'.2⟩

/-- One word of SRAM is stored; no other word and no register changes. -/
def Stores (a : Nat) (w : Word) (s t : State) : Prop :=
  t.sramAt a = w ∧ t.sramPoison a = false ∧ SramKeptBut [a] s t ∧ MramKept s t ∧ RegsKept s t

theorem Stores.then_kept (h : Stores a w s t) (h' : AllKept t u) : Stores a w s u := by
  obtain ⟨hat, hpoison, hsram, hmram, hregs⟩ := h
  obtain ⟨hregs', hsram', hmram'⟩ := h'
  exact ⟨(hsram' a).1.trans hat, (hsram' a).2.trans hpoison,
    fun b hb => ⟨(hsram' b).1.trans (hsram b hb).1, (hsram' b).2.trans (hsram b hb).2⟩,
    fun b => ⟨(hmram' b).1.trans (hmram b).1, (hmram' b).2.trans (hmram b).2⟩, fun b => (hregs' b).trans (hregs b)⟩

theorem Stores.after_kept (h' : AllKept s t) (h : Stores a w t u) : Stores a w s u := by
  obtain ⟨hat, hpoison, hsram, hmram, hregs⟩ := h
  obtain ⟨hregs', hsram', hmram'⟩ := h'
  exact ⟨hat, hpoison, fun b hb => ⟨(hsram b hb).1.trans (hsram' b).1, (hsram b hb).2.trans (hsram' b).2⟩,
    fun b => ⟨(hmram b).1.trans (hmram' b).1, (hmram b).2.trans (hmram' b).2⟩, fun b => (hregs b).trans (hregs' b)⟩

theorem stores_setSram : Stores a w s (s.setSram a w) := by
  refine ⟨State.sramAt_setSram_same, ?_, fun b hb => ?_, fun _ => ⟨rfl, rfl⟩, fun _ => rfl⟩
  · rw [State.sramPoison_setSram]
    simp
  · have hne : b ≠ a := List.ne_of_not_mem_cons hb
    exact ⟨State.sramAt_setSram_other hne, by rw [State.sramPoison_setSram]; simp [hne]⟩

theorem allKept_noteWr {y : PhaseWr} : AllKept s (s.noteWr y) := ⟨fun _ => rfl, memKept_of_eq rfl rfl rfl rfl⟩

theorem allKept_await {live : Bool} : AllKept s (s.await a w p req live) := ⟨fun _ => rfl, memKept_of_eq rfl rfl rfl rfl⟩

theorem State.deaf_await {live : Bool} : (s.await a w p req live).deaf b = s.deaf b := rfl

theorem allKept_dequeued : AllKept s (s.dequeued r) := ⟨fun _ => rfl, memKept_of_eq rfl rfl rfl rfl⟩

/-- A write that no later-served requester has preceded in the phase stands (R17, R18). -/
theorem State.phaseStore_unbeaten (ha : isSram a = true) (h : s.unbeaten req a) :
    s.phaseStore req a g = (g s).noteWr ⟨a, req, s.sramAt a, s.sramPoison a⟩ := by
  rw [State.phaseStore_sram ha, State.beaten_false h, if_neg Bool.false_ne_true]

theorem stores_phaseStore (ha : isSram a = true) (h : s.unbeaten req a) :
    Stores a w s (s.phaseStore req a (fun z => z.setSram a w)) := by
  rw [State.phaseStore_unbeaten ha h]
  exact stores_setSram.then_kept allKept_noteWr

/-! ### The front word (R481) -/

theorem carriedPlace_of_isFreeHost (h : isFreeHost a = true) : carriedPlace a = false := by
  unfold carriedPlace
  rw [isTable_of_isFreeHost h, isReg_of_isSram (isSram_of_isFreeHost h), Bool.false_and, Bool.false_or]
  rfl

theorem State.writeCore_freeHost (hf : isFreeHost a = true) (hd : s.deaf a = false) :
    s.writeCore .host a w true 27 = ((s.phaseStore 27 a (fun z => z.setSram a w)).await a w .host 27 false, 0) := by
  have hsram := isSram_of_isFreeHost hf
  have hcarry : ∀ h : State → State, s.carry .host a w h = h s := fun h => by
    unfold State.carry
    rw [if_pos (by rw [carriedPlace_of_isFreeHost hf]; rfl)]
  have hopen : s.tableClosed a = false := by
    unfold State.tableClosed
    rw [isTable_of_isFreeHost hf, Bool.false_and]
  have hpath : ¬((Path.host == .engine) = true) := by decide
  have hclosed : ¬((((Path.host == .twoWire) && !isFreeHost a) || s.tableClosed a) = true) := by simp [hopen, hf]
  have hlock : ¬((isFreeHost a && (Path.host != .host) && s.lockedAt a) = true) := by simp
  unfold State.writeCore
  dsimp only
  rw [if_pos hsram, if_neg (by simp [hd]), if_neg hpath, sramRight_of_isFreeHost hf]
  dsimp only
  rw [if_neg hclosed, if_neg hlock, hcarry]
  simp only [hsram, if_true, State.sramStore]

theorem State.hostWrite_ok (h : (s.writeCore .host a w true 27).2 = 0) : s.hostWrite a w = (s.writeCore .host a w true 27).1 := by
  unfold State.hostWrite
  dsimp only
  rw [h]
  rfl

theorem hostWriteExecute_stores (hs : s.served = true) (hq : s.hst.wq = ⟨a, w⟩ :: r) (ha : s.storable a) :
    Completes .hostWriteExecute s (fun t => t.hst.wq = r ∧ t.sramAt a = w ∧ t.sramPoison a = false ∧ SramKeptBut [a] s t
      ∧ MramKept s t ∧ RegsKept s t) := by
  obtain ⟨hf, hd, hun⟩ := ha
  have hun' : (s.dequeued r).unbeaten 27 a := hun
  have hsram := isSram_of_isFreeHost hf
  have hcore := State.writeCore_freeHost (s := s.dequeued r) (w := w) hf hd
  have hrun := exec_hostWriteExecute hs hq
  rw [State.hostWrite_ok (by rw [hcore]), hcore] at hrun
  have hstore := ((stores_phaseStore (w := w) hsram hun').then_kept (allKept_await (a := a) (w := w) (p := .host) (req := 27)
    (live := false))).then_kept allKept_settle
  refine ⟨_, hrun, ?_, hstore.after_kept allKept_dequeued⟩
  dsimp only
  rw [State.phaseStore_unbeaten hsram hun']
  rfl

theorem State.writeCore_register (ha : isReg a = true) (hd : s.deaf a = false) :
    s.writeCore .host a w true 27 = (s.regAccept .host a w 27, 0) := by
  unfold State.writeCore
  dsimp only
  rw [if_neg (by simp [isSram_of_isReg ha]), if_neg (by simp [isMram_of_isReg ha]), if_pos ha, if_neg (by simp [hd]),
    if_neg (by decide), if_neg (by decide)]

/-- TIM_LTGT and TIM_LARG take the word at once (R62). -/
theorem State.regAccept_launch (ha : a = TIM_LTGT ∨ a = TIM_LARG) (hd : s.deaf a = false) :
    s.regAccept p a w req = (s.await a w p req false).setReg a w := by
  have hplain : a ∈ plainRegs := by rcases ha with rfl | rfl <;> decide
  have hwhole : wholeReg a = true := by rcases ha with rfl | rfl <;> decide
  unfold State.regAccept
  rw [if_pos (by rcases ha with rfl | rfl <;> rfl), State.regWrite_plain hplain (State.deaf_await.trans hd), State.written_whole hwhole]

theorem hostWriteExecute_launch (hs : s.served = true) (hq : s.hst.wq = ⟨a, w⟩ :: r) (ha : a = TIM_LTGT ∨ a = TIM_LARG)
    (hd : s.deaf a = false) : Completes .hostWriteExecute s (fun t => t.hst.wq = r ∧ t.reg a = w ∧ RegsKeptBut [a] s t ∧ MemKept s t) := by
  have hreg : isReg a = true := by rcases ha with rfl | rfl <;> decide
  have hcore := State.writeCore_register (s := s.dequeued r) (w := w) hreg hd
  have hrun := exec_hostWriteExecute hs hq
  rw [State.hostWrite_ok (by rw [hcore]), hcore, State.regAccept_launch (s := s.dequeued r) ha hd] at hrun
  have hkept := allKept_dequeued.trans (allKept_await (s := s.dequeued r) (a := a) (w := w) (p := .host) (req := 27) (live := false))
  refine ⟨_, hrun, ?_, ?_, fun b hb => ?_, hkept.2.trans (memKept_of_mem_eq ?_)⟩
  · rw [State.hst_settle, State.hst_setReg]
    rfl
  · rw [State.reg_settle, State.reg_setReg_same]
  · rw [State.reg_settle, State.reg_setReg_other (List.ne_of_not_mem_cons hb), hkept.1]
  · rw [State.mem_settle, State.mem_setReg]

/-! ### The result of a write (R483) -/

/-- HST_WRES shows a result, and its interrupt source is raised. -/
def ShowsResult (code a : Nat) (s t : State) : Prop :=
  t.flag HST_WRES.VALID = true ∧ t.get HST_WRES.RESULT = code ∧ t.get HST_WRES.ADDR = a ∧ t.flag HST_ISRC.WERR = true
    ∧ RegsKeptBut [HST_WRES, HST_ISRC] s t ∧ t.mem = s.mem ∧ t.hst = s.hst

theorem State.wres_shows (hv : s.flag HST_WRES.VALID = false) (hc : code < 16) (ha : a < 2 ^ 24) : ShowsResult code a s (s.wres code a) := by
  have heq : s.wres code a = (((s.putB HST_WRES.VALID true).put HST_WRES.RESULT code).put HST_WRES.ADDR a).raise HST_ISRC.WERR := by
    unfold State.wres
    rw [if_neg (by simp [hv])]
  rw [heq]
  refine ⟨?_, ?_, ?_, ?_, fun b hb => ?_, ?_, ?_⟩
  · unfold State.flag
    rw [State.get_raise_other (by decide) (by decide), State.get_put_other (by decide) (by decide),
      State.get_put_other (by decide) (by decide), State.get_putB_same (by decide)]
    rfl
  · rw [State.get_raise_other (by decide) (by decide), State.get_put_other (by decide) (by decide), State.get_put_same (by decide)]
    exact Nat.mod_eq_of_lt hc
  · rw [State.get_raise_other (by decide) (by decide), State.get_put_same (by decide)]
    exact Nat.mod_eq_of_lt ha
  · unfold State.flag
    rw [State.get_raise_same (by decide)]
    rfl
  · simp only [List.mem_cons, List.not_mem_nil, or_false, not_or] at hb
    rw [State.reg_raise_other hb.2, State.reg_put_other hb.1, State.reg_put_other hb.1, State.reg_putB_other hb.1]
  · rw [State.mem_raise, State.mem_put, State.mem_put, State.mem_putB]
  · rw [State.hst_raise, State.hst_put, State.hst_put, State.hst_putB]

theorem State.writeCore_unmapped (hsram : isSram a = false) (hmram : isMram a = false) (hreg : isReg a = false) :
    s.writeCore .host a w true 27 = (s.await a w .host 27 false, 6) := by
  unfold State.writeCore
  dsimp only
  rw [if_neg (by simp [hsram]), if_neg (by simp [hmram]), if_neg (by simp [hreg])]

theorem hostWriteExecute_unmapped (hs : s.served = true) (hq : s.hst.wq = ⟨a, w⟩ :: r) (hsram : isSram a = false)
    (hmram : isMram a = false) (hreg : isReg a = false) (hv : s.flag HST_WRES.VALID = false) (ha : a < 2 ^ 24) :
    Completes .hostWriteExecute s (fun t => t.hst.wq = r ∧ t.flag HST_WRES.VALID = true ∧ t.get HST_WRES.RESULT = 6
      ∧ t.get HST_WRES.ADDR = a ∧ t.flag HST_ISRC.WERR = true ∧ RegsKeptBut [HST_WRES, HST_ISRC] s t ∧ MemKept s t) := by
  have hwrite : (s.dequeued r).hostWrite a w = ((s.dequeued r).await a w .host 27 false).wres 6 a := by
    unfold State.hostWrite
    rw [State.writeCore_unmapped hsram hmram hreg]
    rfl
  have hrun := exec_hostWriteExecute hs hq
  rw [hwrite] at hrun
  have hkept := allKept_dequeued.trans (allKept_await (s := s.dequeued r) (a := a) (w := w) (p := .host) (req := 27) (live := false))
  obtain ⟨hvalid, hres, haddr, herr, hregs, hmem, hhst⟩ :=
    State.wres_shows (s := (s.dequeued r).await a w .host 27 false) (code := 6) hv (by decide) ha
  refine ⟨_, hrun, ?_, State.flag_settle.trans hvalid, State.get_settle.trans hres, State.get_settle.trans haddr,
    State.flag_settle.trans herr, fun b hb => ?_, (hkept.2.trans (memKept_of_mem_eq hmem)).trans allKept_settle.2⟩
  · rw [State.hst_settle, hhst]
    rfl
  · rw [State.reg_settle, hregs b hb, hkept.1]

end

/-- Settles O20: the front word by where its address lies. -/
theorem queuedWriteExecutes : Obligations.QueuedWriteExecutes := by
  unfold Obligations.QueuedWriteExecutes
  intro s a w r hs hq
  exact ⟨hostWriteExecute_stores hs hq, hostWriteExecute_launch hs hq, hostWriteExecute_unmapped hs hq⟩

/-! ## The SYS_CMD commands (R42, R501, R502, R539, R543) -/

section
variable {s t u : State} {f : Fld} {a b c i m n v k r : Nat} {w : Word} {x : Bool}

/-! ### A command is taken and its result shown -/

/-- The machine without a taken SYS_CMD value that acts now. -/
def State.untaken (s : State) (w : Word) : State := { s with hst := { s.hst with sysTaken := s.hst.sysTaken.erase w } }

theorem allKept_untaken : AllKept s (s.untaken w) := ⟨fun _ => rfl, memKept_of_eq rfl rfl rfl rfl⟩

/-- The machine with the result of a SYS_CMD command. -/
def State.sysShown (s : State) (w : Word) (r : Nat) : State := (s.untaken w).sysResult r

theorem State.reg_sysResult (h : a ≠ SYS_CRES) : (s.sysResult r).reg a = s.reg a := State.reg_put_other h

theorem State.result_sysResult (h : r < 16) : (s.sysResult r).get SYS_CRES.RESULT = r := by
  unfold State.sysResult
  rw [State.get_put_same (by decide)]
  exact Nat.mod_eq_of_lt h

theorem State.mem_sysResult : (s.sysResult r).mem = s.mem := State.mem_put

theorem State.reg_sysShown (h : a ≠ SYS_CRES) : (s.sysShown w r).reg a = s.reg a := State.reg_sysResult h

theorem State.result_sysShown (h : r < 16) : (s.sysShown w r).get SYS_CRES.RESULT = r := State.result_sysResult h

theorem State.mem_sysShown : (s.sysShown w r).mem = s.mem := State.mem_sysResult

/-- A refused command shows its result and changes nothing else. -/
theorem sysShown_only (h : r < 16) : (settle (s.sysShown w r)).get SYS_CRES.RESULT = r
    ∧ RegsKeptBut [SYS_CRES] s (settle (s.sysShown w r)) ∧ MemKept s (settle (s.sysShown w r)) := by
  refine ⟨?_, fun a ha => ?_, memKept_of_mem_eq ?_⟩
  · rw [State.get_settle, State.result_sysShown h]
  · rw [State.reg_settle, State.reg_sysShown (List.ne_of_not_mem_cons ha)]
  · rw [State.mem_settle, State.mem_sysShown]

/-! ### Enter SAFE, HALTOK, values without a meaning -/

theorem exec_sysEnterSafe (hs : s.served = true) : exec .sysEnterSafe s = .next (settle ((s.sysShown 1 0).causeOn 4)) :=
  portAct_served hs (fun s => s.sysNow 1)

theorem sysEnterSafe_sets (hs : s.served = true) : Completes .sysEnterSafe s (fun t => t.get SYS_CRES.RESULT = 0 ∧ t.holds 4 = true
    ∧ MemKept s t) := by
  refine ⟨_, exec_sysEnterSafe hs, ?_, State.holds_causeOn, memKept_of_mem_eq ?_⟩
  · rw [State.get_settle, get_of_reg_eq (State.reg_causeOn (by decide)), State.result_sysShown (by decide)]
  · rw [State.mem_settle, State.mem_causeOn, State.mem_sysShown]

theorem haltok_sets (h : (s.sysShown w 0).putB SYS_DBG.HALTOK x = u) : (settle u).flag SYS_DBG.HALTOK = x
    ∧ (settle u).get SYS_CRES.RESULT = 0 ∧ RegsKeptBut [SYS_CRES, SYS_DBG] s (settle u) ∧ MemKept s (settle u) := by
  subst h
  refine ⟨?_, ?_, fun a ha => ?_, memKept_of_mem_eq ?_⟩
  · rw [State.flag_settle, State.flag_putB_same (by decide)]
  · rw [State.get_settle, State.get_putB_other (by decide) (by decide), State.result_sysShown (by decide)]
  · simp only [List.mem_cons, List.not_mem_nil, or_false, not_or] at ha
    rw [State.reg_settle, State.reg_putB_other ha.2, State.reg_sysShown ha.1]
  · rw [State.mem_settle, State.mem_putB, State.mem_sysShown]

theorem exec_sysHaltokSet (hs : s.served = true) :
    exec .sysHaltokSet s = .next (settle ((s.sysShown 5 0).putB SYS_DBG.HALTOK true)) := portAct_served hs (fun s => s.sysNow 5)

theorem exec_sysHaltokClear (hs : s.served = true) :
    exec .sysHaltokClear s = .next (settle ((s.sysShown 6 0).putB SYS_DBG.HALTOK false)) := portAct_served hs (fun s => s.sysNow 6)

theorem State.sysCommand_invalid (hw : w.toNat = 0 ∨ 6 < w.toNat) : s.sysCommand w = s.sysResult 4 := by
  unfold State.sysCommand
  split
  case h_7 => rfl
  all_goals omega

theorem exec_sysInvalidCmd (hs : s.served = true) (hw : w.toNat = 0 ∨ 6 < w.toNat) :
    exec (.sysInvalidCmd w) s = .next (settle (s.sysShown w 4)) := by
  have hrun : exec (.sysInvalidCmd w) s = portAct s (fun s => if 1 ≤ w.toNat && w.toNat ≤ 6 then s else s.sysNow w) := rfl
  have hno : ¬((decide (1 ≤ w.toNat) && decide (w.toNat ≤ 6)) = true) := by
    simp only [Bool.and_eq_true, decide_eq_true_eq]
    omega
  rw [hrun, portAct_served hs, if_neg hno]
  exact congrArg _ (congrArg _ (State.sysCommand_invalid (s := s.untaken w) hw))

/-! ### Resets (R539, R543) -/

theorem State.commandReset_free (h : s.pstate ≠ 2 ∨ s.get JL_STAT.PARTNER ≠ 5) : s.commandReset c = s.startReset c := by
  have hno : ¬((s.pstate == 2 && s.get JL_STAT.PARTNER == 5) = true) := by
    simp only [Bool.and_eq_true, beq_iff_eq]
    rintro ⟨h2, h5⟩
    exact h.elim (absurd h2) (absurd h5)
  unfold State.commandReset
  rw [if_neg hno]

/-- The registers of a warm or soft reset that are the same for both. -/
def State.warmRegs (s : State) (c : Nat) : State :=
  (((s.loseWork.loseIslands.resetRegs true (fun a =>
      isClk a || a == SYS_STRAP || a == TIM_DSTAT || a == TIM_OFFS || a == TIM_FADJ || (c == 5 && softKept a))).put SYS_RSTAT.RCLASS c).put
    SYS_MODE.RSTCAUSE (s.get SYS_MODE.SAFECAUSE)).putB IMG_STAT.RUNNING false

theorem State.rclass_warmRegs (h : c < 16) : (s.warmRegs c).get SYS_RSTAT.RCLASS = c := by
  unfold State.warmRegs
  rw [State.get_putB_other (by decide) (by decide), State.get_put_other (by decide) (by decide), State.get_put_same (by decide)]
  exact Nat.mod_eq_of_lt h

theorem State.mem_warmRegs : (s.warmRegs c).mem = { s.mem with pend := [] } := by
  unfold State.warmRegs
  rw [State.mem_putB, State.mem_put, State.mem_put, State.mem_resetRegs, State.mem_loseIslands, State.mem_loseWork]

/-- A reset begins, held, in the state of step 3 of the start; memory stays. -/
def Restarts (c : Nat) (s t : State) : Prop :=
  t.get SYS_RSTAT.RCLASS = c ∧ t.life.held = c ∧ t.life.boot = .timed ∧ MemKept s t

/-- What the two classes do beside: a soft reset keeps the lanes and the clock's ports as they were in the old state, a warm reset
starts the host port afresh. -/
def State.warmBlocks (s old : State) (soft : Bool) (lanes : Nat × Nat) : State :=
  if soft then
    let s := ((s.putBit SYS_ISTAT.ALIVE 27 true).put JL_STAT.LNKA lanes.1).put JL_STAT.LNKB lanes.2
    { s with
      sn := { s.sn with ptp := old.sn.ptp, tries := old.sn.tries }
      jl := { s.jl with link := { s.jl.link with lockA := old.jl.link.lockA, lockB := old.jl.link.lockB } } }
  else { s.put TIM_DSTAT.STEPS 0 with hst := HostS.fresh }

/-- The reset is held from now on. -/
def State.warmHeld (s : State) (c : Nat) (ran : Bool) : State :=
  { s with
    img := { s.img with ranBefore := ran }
    mem := { s.mem with phaseW := [], deaf := 0 }
    life := { s.life.reset c s.t.run with boot := .timed } }

theorem State.warmReset_eq : s.warmReset c = ((s.warmRegs c).warmBlocks s.loseWork (c == 5)
    (s.get JL_STAT.LNKA, s.get JL_STAT.LNKB)).warmHeld c (s.flag IMG_STAT.RUNNING || s.img.ranBefore) := rfl

theorem State.rclass_warmBlocks {old : State} {lanes : Nat × Nat} : (s.warmBlocks old x lanes).get SYS_RSTAT.RCLASS = s.get SYS_RSTAT.RCLASS := by
  unfold State.warmBlocks
  dsimp only
  split
  · rw [State.get_with, State.get_put_other (by decide) (by decide), State.get_put_other (by decide) (by decide),
      State.get_putBit_other (by decide) (by decide)]
  · rw [State.get_with, State.get_put_other (by decide) (by decide)]

theorem State.mem_warmBlocks {old : State} {lanes : Nat × Nat} : (s.warmBlocks old x lanes).mem = s.mem := by
  unfold State.warmBlocks
  dsimp only
  split
  · rw [State.mem_put, State.mem_put, State.mem_putBit]
  · rw [State.mem_put]

theorem State.mem_warmHeld : (s.warmHeld c x).mem = { s.mem with phaseW := [], deaf := 0 } := rfl

theorem State.rclass_warmHeld : (s.warmHeld c x).get SYS_RSTAT.RCLASS = s.get SYS_RSTAT.RCLASS := rfl

theorem State.boot_warmHeld : (s.warmHeld c x).life.boot = .timed := rfl

theorem State.held_warmHeld (h : 3 < c) : (s.warmHeld c x).life.held = c := if_neg (by omega)

theorem State.mem_warmReset : (s.warmReset c).mem = { s.mem with pend := [], phaseW := [], deaf := 0 } := by
  rw [State.warmReset_eq, State.mem_warmHeld, State.mem_warmBlocks, State.mem_warmRegs]

theorem memKept_warmReset : MemKept s (s.warmReset c) := by
  have hmem := State.mem_warmReset (s := s) (c := c)
  exact memKept_of_eq (by rw [hmem]) (by rw [hmem]) (by rw [hmem]) (by rw [hmem])

theorem restarts_warmReset (h3 : 3 < c) (h16 : c < 16) : Restarts c s (s.warmReset c) := by
  refine ⟨?_, ?_, ?_, memKept_warmReset⟩
  all_goals rw [State.warmReset_eq]
  · rw [State.rclass_warmHeld, State.rclass_warmBlocks, State.rclass_warmRegs h16]
  · exact State.held_warmHeld h3
  · exact State.boot_warmHeld

theorem exec_sysWarmReset (hs : s.served = true) : exec .sysWarmReset s = .next (settle ((s.sysShown 3 0).commandReset 4)) :=
  portAct_served hs (fun s => s.sysNow 3)

theorem exec_sysSoftReset (hs : s.served = true) : exec .sysSoftReset s = .next (settle ((s.sysShown 4 0).commandReset 5)) :=
  portAct_served hs (fun s => s.sysNow 4)

theorem Restarts.settled (h : Restarts c (s.sysShown w 0) t) : Restarts c s (settle t) := by
  obtain ⟨hclass, hheld, hboot, hmem⟩ := h
  exact ⟨State.get_settle.trans hclass, hheld, hboot,
    ((memKept_of_mem_eq State.mem_sysShown).trans hmem).trans allKept_settle.2⟩

theorem State.free_sysShown (h : s.pstate ≠ 2 ∨ s.get JL_STAT.PARTNER ≠ 5) :
    (s.sysShown w r).pstate ≠ 2 ∨ (s.sysShown w r).get JL_STAT.PARTNER ≠ 5 := by
  have hreg : (s.sysShown w r).reg JL_STAT = s.reg JL_STAT := State.reg_sysShown (by decide)
  unfold State.pstate at h ⊢
  rwa [get_of_reg_eq (f := JL_STAT.PSTATE) hreg, get_of_reg_eq (f := JL_STAT.PARTNER) hreg]

theorem sysReset_restarts (h : s.pstate ≠ 2 ∨ s.get JL_STAT.PARTNER ≠ 5) (h3 : 3 < c) (h5 : c ≤ 5) :
    Restarts c s (settle ((s.sysShown w 0).commandReset c)) := by
  have hstart : (s.sysShown w 0).startReset c = (s.sysShown w 0).warmReset c := by
    unfold State.startReset
    rw [if_neg (by omega), if_pos h5]
  rw [State.commandReset_free (State.free_sysShown h), hstart]
  exact (restarts_warmReset h3 (by omega)).settled

/-! ### SAFE exit (R42) -/

/-- The machine with the condition of a SAFE cause withdrawn. -/
def State.condOff (s : State) (c : Nat) : State := { s with life := { s.life with conds := setBit s.life.conds c false } }

theorem State.causeOff_eq : s.causeOff c = if (s.condOff c).starting then (s.condOff c).showCause
    else if (s.condOff c).mode == 3 && (s.condOff c).get SYS_MODE.SAFECAUSE == c && lowestCause (s.condOff c).life.conds != 0 then
      (s.condOff c).put SYS_MODE.SAFECAUSE (lowestCause (s.condOff c).life.conds) else s.condOff c := rfl

/-- Withdrawing a condition shows at most another SAFE cause. -/
theorem State.causeOff_cases : s.causeOff c = s.condOff c ∨ ∃ v, s.causeOff c = (s.condOff c).put SYS_MODE.SAFECAUSE v := by
  rw [State.causeOff_eq]
  unfold State.showCause
  split
  · split
    · exact .inl rfl
    · exact .inr ⟨_, rfl⟩
  · split
    · exact .inr ⟨_, rfl⟩
    · exact .inl rfl

theorem State.reg_causeOff (h : a ≠ SYS_MODE) : (s.causeOff c).reg a = s.reg a := by
  obtain he | ⟨v, he⟩ := State.causeOff_cases (s := s) (c := c) <;> rw [he]
  · rfl
  · exact State.reg_put_other h

theorem State.mode_causeOff : (s.causeOff c).mode = s.mode := by
  obtain he | ⟨v, he⟩ := State.causeOff_cases (s := s) (c := c) <;> rw [he]
  · rfl
  · exact State.get_put_other (by decide) (by decide)

theorem State.conds_causeOff : (s.causeOff c).life.conds = setBit s.life.conds c false := by
  obtain he | ⟨v, he⟩ := State.causeOff_cases (s := s) (c := c) <;> rw [he]
  · rfl
  · rw [State.life_put, State.condOff]

/-- Where no other cause holds, withdrawing one changes nothing else. -/
theorem State.causeOff_last (hst : s.starting = false) (h : lowestCause (setBit s.life.conds c false) = 0) :
    s.causeOff c = s.condOff c := by
  have hst' : (s.condOff c).starting = false := hst
  have h' : lowestCause (s.condOff c).life.conds = 0 := h
  rw [State.causeOff_eq, hst', if_neg Bool.false_ne_true, h', if_neg (by simp)]

theorem State.mode_sysResult : (s.sysResult r).mode = s.mode := State.get_put_other (by decide) (by decide)

theorem exec_sysSafeExit (hs : s.served = true) : exec .sysSafeExit s = .next (settle (s.untaken 2).safeExit) :=
  portAct_served hs (fun s => s.sysNow 2)

theorem State.safeExit_starting (h : s.starting = true) : s.safeExit = s.sysResult 3 := if_pos h

theorem State.safeExit_outside (hst : s.starting = false) (h : s.mode ≠ 3) : s.safeExit = s.sysResult 1 := by
  unfold State.safeExit
  rw [hst, if_neg Bool.false_ne_true, if_pos (bne_iff_ne.mpr h)]

theorem State.safeExit_held (hst : s.starting = false) (hm : s.mode = 3) (h : lowestCause (setBit s.life.conds 4 false) ≠ 0) :
    s.safeExit = (s.causeOff 4).sysResult 2 := by
  unfold State.safeExit
  dsimp only
  rw [hst, if_neg Bool.false_ne_true, if_neg (by simp [hm]), State.conds_causeOff, if_pos (bne_iff_ne.mpr h)]

theorem sysSafeExit_starting (hs : s.served = true) (h : s.starting = true) : Completes .sysSafeExit s (fun t =>
    t.get SYS_CRES.RESULT = 3 ∧ RegsKeptBut [SYS_CRES] s t ∧ MemKept s t) := by
  have hexit : (s.untaken 2).safeExit = _ := State.safeExit_starting h
  have hrun := hexit ▸ exec_sysSafeExit hs
  exact ⟨_, hrun, sysShown_only (by decide)⟩

theorem sysSafeExit_outside (hs : s.served = true) (hst : s.starting = false) (h : s.mode ≠ 3) : Completes .sysSafeExit s (fun t =>
    t.get SYS_CRES.RESULT = 1 ∧ RegsKeptBut [SYS_CRES] s t ∧ MemKept s t) := by
  have hexit : (s.untaken 2).safeExit = _ := State.safeExit_outside hst h
  have hrun := hexit ▸ exec_sysSafeExit hs
  exact ⟨_, hrun, sysShown_only (by decide)⟩

theorem sysSafeExit_held (hs : s.served = true) (hst : s.starting = false) (hm : s.mode = 3)
    (h : lowestCause (setBit s.life.conds 4 false) ≠ 0) : Completes .sysSafeExit s (fun t =>
      t.get SYS_CRES.RESULT = 2 ∧ t.mode = 3 ∧ RegsKeptBut [SYS_CRES, SYS_MODE] s t ∧ MemKept s t) := by
  have hexit : (s.untaken 2).safeExit = _ := State.safeExit_held hst hm h
  have hrun := hexit ▸ exec_sysSafeExit hs
  refine ⟨_, hrun, ?_, ?_, fun a ha => ?_, memKept_of_mem_eq ?_⟩
  · rw [State.get_settle, State.result_sysResult (by decide)]
  · exact State.mode_settle.trans (State.mode_sysResult.trans (State.mode_causeOff.trans hm))
  · simp only [List.mem_cons, List.not_mem_nil, or_false, not_or] at ha
    rw [State.reg_settle, State.reg_sysResult ha.1, State.reg_causeOff ha.2]
    exact allKept_untaken.1 a
  · rw [State.mem_settle, State.mem_sysResult, State.mem_causeOff]
    rfl

/-! ### The mode change that SAFE exit arms (R42, R63, R64, R80) -/

theorem State.slotFor_of_regs_eq (h : ∀ n, t.reg (TIM_SLOT_W1 n) = s.reg (TIM_SLOT_W1 n)) : t.slotFor a = s.slotFor a := by
  have harm : ∀ n, t.armedSlot n = s.armedSlot n := fun n => congrArg (· == 1) (get_of_reg_eq (f := TIM_SLOT_W1.STATE n) (h n))
  have hact : ∀ n, t.get (TIM_SLOT_W1.ACTION n) = s.get (TIM_SLOT_W1.ACTION n) := fun n => get_of_reg_eq (h n)
  unfold State.slotFor
  simp only [harm, hact]

theorem targetTest_minlead (h8 : 8 ≤ m) (h : m < 2 ^ 35) : targetTest (w + W m) w m = 0 := by
  have hlead : (w + W m - w).toNat = m := by
    rw [BitVec.add_comm, BitVec.add_sub_cancel, BitVec.toNat_ofNat]
    omega
  unfold targetTest
  simp only [hlead]
  rw [if_neg (by simp; omega), if_neg (Nat.lt_irrefl m)]

/-- The word W1 of a slot armed with a mode change of the node alone. -/
def exitSlotWord : Word := W (0 <<< 32 + 0 <<< 30 + 0 <<< 14 + 1 <<< 11 + false.toNat <<< 10)

/-- The mode change to MAINTENANCE that SAFE exit arms. -/
def exitArm (w : Word) (i m : Nat) : Arm := ⟨w, 2, 0, 0, 0, i, false, m, true⟩

/-- The slot of the mode change written. -/
def State.slotSet (s : State) (n : Nat) (w : Word) (i : Nat) : State :=
  let s := (s.setReg (TIM_SLOT_W0 n) w).setReg (TIM_SLOT_W1 n) exitSlotWord
  { s with t := { s.t with slotArg := s.t.slotArg.set n 2, slotIss := s.t.slotIss.set n i } }

/-- A mode change to MAINTENANCE in its slot, pending. -/
def State.exitArmed (s : State) (n : Nat) (w : Word) (i r : Nat) : State :=
  (((s.slotSet n w i).putB SYS_MODE.PEND true).put SYS_MODE.PMODE (fld 2 1 0)).armResult r n

theorem exitArg_ok : argOk 0 2 = true := by decide

theorem State.arm_exit (h : s.slotFor 0 = some (n, x)) (ht : targetTest w s.t.beat m = 0) :
    s.arm (exitArm w i m) = (s.exitArmed n w i (if x then 1 else 0), true) := by
  unfold State.arm exitArm
  rw [if_neg (by simp; exact exitArg_ok)]
  simp only [ht, h]
  rw [if_neg (by simp), if_neg (by simp), if_neg (by simp)]
  rfl


theorem State.carryArm_exit : s.carryArm (exitArm w i m) = s := by
  unfold State.carryArm exitArm
  dsimp only
  rw [if_neg (by decide)]
  simp

/-- The machine with the values of a mode change issued. -/
def State.noteIssued (s : State) : State := { s with t := { s.t with issuedTag := some (0, 0, fld 2 1 0) } }

theorem State.issue_exit (h : s.slotFor 0 = some (n, x)) (ht : targetTest w s.t.beat m = 0) :
    ∃ u : State, s.issue (exitArm w i m) = u.noteIssued ∧ (u = s.exitArmed n w i (if x then 1 else 0)
      ∨ u = (s.exitArmed n w i (if x then 1 else 0)).put TIM_MSTAT.REISSUED 0) := by
  unfold State.issue
  rw [State.arm_exit h ht]
  dsimp only
  rw [State.carryArm_exit]
  exact ⟨_, rfl, ite_eq_or_eq _ _ _⟩

theorem State.slotFor_lt (h : s.slotFor 0 = some (n, x)) : n < 16 := by
  unfold State.slotFor at h
  simp only [Nat.zero_le, if_true] at h
  split at h
  next k hk =>
    cases h
    exact List.mem_range.mp (List.mem_of_find?_eq_some hk)
  next =>
    obtain ⟨k, hk, he⟩ := Option.map_eq_some_iff.mp h
    cases he
    exact List.mem_range.mp (List.mem_of_find?_eq_some hk)

theorem flag_of_reg_eq (h : t.reg f.addr = s.reg f.addr) : t.flag f = s.flag f := congrArg (· != 0) (get_of_reg_eq h)

/-- A mode change to MAINTENANCE is armed in slot n and pending. -/
def ArmsExit (n : Nat) (w : Word) (s t : State) : Prop :=
  t.get SYS_CRES.RESULT = s.get SYS_CRES.RESULT ∧ t.reg (TIM_SLOT_W1 n) = exitSlotWord ∧ t.reg (TIM_SLOT_W0 n) = w
    ∧ t.flag SYS_MODE.PEND = true ∧ t.get SYS_MODE.PMODE = 2 ∧ t.mem = s.mem

theorem armsExit_slotSet : ((s.slotSet n w i).reg (TIM_SLOT_W1 n)) = exitSlotWord ∧ (s.slotSet n w i).reg (TIM_SLOT_W0 n) = w := by
  have hne : TIM_SLOT_W0 n ≠ TIM_SLOT_W1 n := by simp only [TIM_SLOT_W0, TIM_SLOT_W1]; omega
  refine ⟨State.reg_setReg_same (s := s.setReg (TIM_SLOT_W0 n) w), ?_⟩
  exact (State.reg_setReg_other (s := s.setReg (TIM_SLOT_W0 n) w) hne).trans State.reg_setReg_same

theorem State.reg_slotSet (h0 : a ≠ TIM_SLOT_W0 n) (h1 : a ≠ TIM_SLOT_W1 n) : (s.slotSet n w i).reg a = s.reg a :=
  (State.reg_setReg_other (s := s.setReg (TIM_SLOT_W0 n) w) h1).trans (State.reg_setReg_other h0)

theorem State.mem_slotSet : (s.slotSet n w i).mem = s.mem := rfl

theorem State.reg_armResult (h : a ≠ TIM_LSTAT) : (s.armResult r k).reg a = s.reg a := by
  unfold State.armResult
  rw [State.reg_put_other h, State.reg_put_other h]

theorem State.reg_exitArmed (hp : a ≠ SYS_MODE) (hl : a ≠ TIM_LSTAT) : (s.exitArmed n w i r).reg a = (s.slotSet n w i).reg a := by
  unfold State.exitArmed
  rw [State.reg_armResult hl, State.reg_put_other hp, State.reg_putB_other hp]

theorem armsExit_exitArmed (hn : n < 16) : ArmsExit n w s (s.exitArmed n w i r) := by
  obtain ⟨h1, h0⟩ := armsExit_slotSet (s := s) (n := n) (w := w) (i := i)
  have hmode : (s.exitArmed n w i r).reg SYS_MODE = (((s.slotSet n w i).putB SYS_MODE.PEND true).put SYS_MODE.PMODE (fld 2 1 0)).reg SYS_MODE :=
    State.reg_armResult (by decide)
  refine ⟨?_, ?_, ?_, ?_, ?_, ?_⟩
  · refine get_of_reg_eq ?_
    rw [State.reg_exitArmed (by decide) (by decide)]
    exact State.reg_slotSet (by simp only [TIM_SLOT_W0]; omega) (by simp only [TIM_SLOT_W1]; omega)
  · rw [State.reg_exitArmed (by simp only [TIM_SLOT_W1, SYS_MODE]; omega) (by simp only [TIM_SLOT_W1, TIM_LSTAT]; omega), h1]
  · rw [State.reg_exitArmed (by simp only [TIM_SLOT_W0, SYS_MODE]; omega) (by simp only [TIM_SLOT_W0, TIM_LSTAT]; omega), h0]
  · rw [flag_of_reg_eq (f := SYS_MODE.PEND) hmode, State.flag_put_other (by decide) (by decide), State.flag_putB_same (by decide)]
  · rw [get_of_reg_eq (f := SYS_MODE.PMODE) hmode, State.get_put_same (by decide)]
    decide
  · unfold State.exitArmed State.armResult
    rw [State.mem_put, State.mem_put, State.mem_put, State.mem_putB, State.mem_slotSet]

theorem ArmsExit.put (h : ArmsExit n w s t) (hn : n < 16) : ArmsExit n w s (t.put TIM_MSTAT.REISSUED v) := by
  obtain ⟨hres, h1, h0, hpend, hpmode, hmem⟩ := h
  refine ⟨?_, ?_, ?_, ?_, ?_, State.mem_put.trans hmem⟩
  · rw [State.get_put_other (by decide) (by decide), hres]
  · rw [State.reg_put_other (by simp only [TIM_SLOT_W1]; omega), h1]
  · rw [State.reg_put_other (by simp only [TIM_SLOT_W0]; omega), h0]
  · rw [State.flag_put_other (by decide) (by decide), hpend]
  · rw [State.get_put_other (by decide) (by decide), hpmode]

theorem ArmsExit.noteIssued (h : ArmsExit n w s t) : ArmsExit n w s t.noteIssued := h

theorem armsExit_issue (h : s.slotFor 0 = some (n, x)) (ht : targetTest w s.t.beat m = 0) : ArmsExit n w s (s.issue (exitArm w i m)) := by
  have hn := State.slotFor_lt h
  obtain ⟨u, hu, rfl | rfl⟩ := State.issue_exit (i := i) h ht <;> rw [hu]
  · exact (armsExit_exitArmed hn).noteIssued
  · exact ((armsExit_exitArmed hn).put hn).noteIssued

theorem ArmsExit.settled (h : ArmsExit n w s t) : ArmsExit n w s (settle t) := h

theorem ArmsExit.armed (h : ArmsExit n w s t) : t.armedSlot n = true ∧ t.get (TIM_SLOT_W1.ACTION n) = 0 := by
  obtain ⟨-, h1, -⟩ := h
  have hget : ∀ hi lo, t.get ⟨TIM_SLOT_W1 n, hi, lo⟩ = fld exitSlotWord hi lo := fun hi lo => congrArg (fld · hi lo) h1
  have hstate : t.get (TIM_SLOT_W1.STATE n) = 1 := (hget 13 11).trans (by decide)
  exact ⟨beq_iff_eq.mpr hstate, (hget 35 32).trans (by decide)⟩

theorem State.safeExit_free (hst : s.starting = false) (hm : s.mode = 3) (h : lowestCause (setBit s.life.conds 4 false) = 0) :
    s.safeExit = ((s.condOff 4).sysResult 0).issue (exitArm (s.t.beat + W (s.minlead 0)) s.ownIssuer (s.minlead 0)) := by
  have hoff := State.causeOff_last hst h
  unfold State.safeExit
  dsimp only
  rw [hst, if_neg Bool.false_ne_true, if_neg (by simp [hm]), State.conds_causeOff, if_neg (by simp [h]), hoff]
  rfl

/-- The machine that SAFE exit arms: its command taken, the host's cause withdrawn, its result shown. -/
def State.leaving (s : State) : State := ((s.untaken 2).condOff 4).sysResult 0

theorem State.reg_leaving (h : a ≠ SYS_CRES) : s.leaving.reg a = s.reg a := (State.reg_sysResult h).trans rfl

theorem State.t_leaving : s.leaving.t = s.t := by
  unfold State.leaving State.sysResult
  rw [State.t_put]
  rfl

theorem State.result_leaving : s.leaving.get SYS_CRES.RESULT = 0 := State.result_sysResult (by decide)

theorem State.mem_leaving : s.leaving.mem = s.mem := State.mem_sysResult.trans rfl

theorem sysSafeExit_arms (hs : s.served = true) (hst : s.starting = false) (hm : s.mode = 3)
    (h : lowestCause (setBit s.life.conds 4 false) = 0) (hslot : s.slotFor 0 = some (n, x)) (hlead : s.minlead 0 < 2 ^ 35) :
    Completes .sysSafeExit s (fun t => t.get SYS_CRES.RESULT = 0 ∧ t.armedSlot n = true ∧ t.get (TIM_SLOT_W1.ACTION n) = 0
      ∧ t.reg (TIM_SLOT_W0 n) = s.t.beat + W (s.minlead 0) ∧ t.flag SYS_MODE.PEND = true ∧ t.get SYS_MODE.PMODE = 2 ∧ MemKept s t) := by
  have hexit : (s.untaken 2).safeExit = s.leaving.issue (exitArm (s.t.beat + W (s.minlead 0)) s.ownIssuer (s.minlead 0)) :=
    State.safeExit_free (s := s.untaken 2) hst hm h
  have hslot' : s.leaving.slotFor 0 = some (n, x) :=
    (State.slotFor_of_regs_eq fun _ => State.reg_leaving (by simp only [TIM_SLOT_W1, SYS_CRES]; omega)).trans hslot
  have htest : targetTest (s.t.beat + W (s.minlead 0)) s.leaving.t.beat (s.minlead 0) = 0 := by
    rw [State.t_leaving]
    exact targetTest_minlead (Nat.le_max_left _ _) hlead
  have harms := (armsExit_issue (i := s.ownIssuer) hslot' htest).settled
  obtain ⟨harmed, haction⟩ := harms.armed
  obtain ⟨hres, -, h0, hpend, hpmode, hmem⟩ := harms
  have hrun := hexit ▸ exec_sysSafeExit hs
  exact ⟨_, hrun, hres.trans State.result_leaving, harmed, haction, h0, hpend, hpmode, memKept_of_mem_eq (hmem.trans State.mem_leaving)⟩

end

/-- Settles O26. A command's value is taken off the list of those waiting and then acts at once; SAFE exit's mode change is armed at
the local lead itself, which the target test (R63) accepts. -/
theorem systemCommands : Obligations.SystemCommands := by
  intro s hs
  refine ⟨sysEnterSafe_sets hs, sysSafeExit_starting hs, sysSafeExit_outside hs, sysSafeExit_held hs, fun _ _ => sysSafeExit_arms hs,
    fun hfree => ⟨?_, ?_⟩, ⟨_, exec_sysHaltokSet hs, haltok_sets rfl⟩, ⟨_, exec_sysHaltokClear hs, haltok_sets rfl⟩,
    fun w hw => ⟨_, exec_sysInvalidCmd hs hw, sysShown_only (by decide)⟩⟩
  · exact ⟨_, exec_sysWarmReset hs, sysReset_restarts hfree (by decide) (by decide)⟩
  · exact ⟨_, exec_sysSoftReset hs, sysReset_restarts hfree (by decide) (by decide)⟩

/-! ## The interconnect (R17 to R22, R48, R579) -/

section
variable {s t u : State} {f : Fld} {a b i m n v k r : Nat} {w : Word} {x : Bool} {req : Fin 29} {y : Addr}

/-! ### Reads -/

theorem allKept_answer4 {tag : Byte} : AllKept s (s.answer4 w tag r) := ⟨fun _ => rfl, memKept_of_eq rfl rfl rfl rfl⟩

theorem exec_islandRead (hup : s.up = true) (hreq : req.val ≠ 27) : exec (.interconnectRequest req y none ⟨.clean, false⟩) s
    = .next (settle (s.islandRead req.val y.toNat .clean)) := by
  have hrun : exec (.interconnectRequest req y none ⟨.clean, false⟩) s = act s (fun s =>
      if req.val == 27 then let r := s.readAcc .host y.toNat .clean; r.1.answer4 r.2.w r.2.tag r.2.resp
      else s.islandRead req.val y.toNat .clean) := rfl
  rw [hrun, act_up hup, if_neg (by simpa using hreq)]

/-- A read's answer as the requester takes it. -/
theorem islandRead_answers {tag : Byte} (hup : s.up = true) (hreq : req.val ≠ 27)
    (h : s.islandRead req.val y.toNat .clean = s.answer4 w tag r) :
    Completes (.interconnectRequest req y none ⟨.clean, false⟩) s (fun t =>
      t.mem.lastWord = w ∧ t.mem.lastTag = tag ∧ t.mem.lastResp = r ∧ AllKept s t) := by
  have hrun := h ▸ exec_islandRead hup hreq
  exact ⟨_, hrun, rfl, rfl, rfl, allKept_answer4.trans allKept_settle⟩

theorem State.islandRead_sram (ha : isSram a = true) (hd : s.deaf a = false) (hp : s.sramPoison a = false)
    (ho : s.phaseOld n a = none) : s.islandRead n a .clean = s.answer4 (s.shown a) (tagOf (s.shown a)) 0 := by
  have hread : s.sramRead a .clean n = (s, s.sramAt a, tagOf (s.sramAt a), 0) := by
    unfold State.sramRead
    dsimp only
    rw [hp, if_neg Bool.false_ne_true]
  unfold State.islandRead
  dsimp only
  rw [hd, if_neg Bool.false_ne_true, if_pos ha, ho]
  simp only [hread]
  rfl

theorem State.deaf_unmapped (hs : isSram a = false) (hm : isMram a = false) (hr : isReg a = false) : s.deaf a = false := by
  have htgt : targetOf a = none := by
    unfold targetOf
    rw [hm, hr]
    rfl
  unfold State.deaf
  rw [htgt, hs, hr]
  rfl

theorem State.islandRead_unmapped (hs : isSram a = false) (hm : isMram a = false) (hr : isReg a = false) :
    s.islandRead n a .clean = s.answer4 0 (tagOf 0) 6 := by
  unfold State.islandRead
  dsimp only
  rw [State.deaf_unmapped hs hm hr, hs, hm, hr]
  rfl

theorem State.islandRead_deaf (hd : s.deaf a = true) : s.islandRead n a .clean = s.answer4 0 (tagOf 0) 4 := by
  unfold State.islandRead
  dsimp only
  rw [hd, if_pos rfl]

/-! ### Writes -/

theorem State.beaten_true (h : ¬ s.unbeaten n a) : s.beaten n a = true := by
  unfold State.unbeaten at h
  push Not at h
  obtain ⟨p, hp, haddr, hlt⟩ := h
  have hne : p.req ≠ n := fun he => absurd hlt (by rw [he]; exact Nat.lt_irrefl _)
  unfold State.beaten
  rw [List.any_eq_true]
  exact ⟨p, hp, by simp [haddr, hne, hlt]⟩

theorem State.sramPoison_spoilSram : (s.spoilSram a w).sramPoison b = (b == a || (s.setSram a w).sramPoison b) := rfl

theorem State.sramAt_spoilSram : (s.spoilSram a w).sramAt b = (s.setSram a w).sramAt b := rfl

/-- A word written over and put back reads as before. -/
theorem State.sramAt_restored : ((s.setSram a w).setSram a (s.sramAt a)).sramAt b = s.sramAt b := by
  by_cases hb : b = a
  · rw [hb, State.sramAt_setSram_same]
  · rw [State.sramAt_setSram_other hb, State.sramAt_setSram_other hb]

theorem allKept_restored (h : s.sramPoison a = false) : AllKept s ((s.setSram a w).setSram a (s.sramAt a)) := by
  refine ⟨fun _ => rfl, fun b => ⟨State.sramAt_restored, ?_⟩, fun _ => ⟨rfl, rfl⟩⟩
  rw [State.sramPoison_setSram, State.sramPoison_setSram]
  by_cases hb : b = a
  · simp [hb, h]
  · simp [hb]

theorem allKept_respoiled (h : s.sramPoison a = true) : AllKept s ((s.setSram a w).spoilSram a (s.sramAt a)) := by
  refine ⟨fun _ => rfl, fun b => ⟨State.sramAt_spoilSram.trans State.sramAt_restored, ?_⟩, fun _ => ⟨rfl, rfl⟩⟩
  rw [State.sramPoison_spoilSram, State.sramPoison_setSram, State.sramPoison_setSram]
  by_cases hb : b = a
  · simp [hb, h]
  · simp [beq_false_of_ne hb, bne_iff_ne.mpr hb]

/-- A write that a later-served requester has preceded in the phase leaves the word as it was. -/
theorem allKept_phaseStore (ha : isSram a = true) (h : ¬ s.unbeaten n a) : AllKept s (s.phaseStore n a (fun z => z.setSram a w)) := by
  rw [State.phaseStore_sram ha, State.beaten_true h, if_pos rfl]
  refine AllKept.trans ?_ allKept_noteWr
  cases hp : s.sramPoison a
  · exact allKept_restored hp
  · exact allKept_respoiled hp

theorem exec_islandWrite (hup : s.up = true) (hreq : req.val ≠ 27) (ha : isSram y.toNat = true) (hd : s.deaf y.toNat = false)
    (hl : s.lockedAt y.toNat = false) : exec (.interconnectRequest req y (some (w, tagOf w)) ⟨.clean, false⟩) s
      = .next (settle ((s.phaseStore req.val y.toNat (fun z => z.setSram y.toNat w)).answer4 0 0 0)) := by
  have hrun : exec (.interconnectRequest req y (some (w, tagOf w)) ⟨.clean, false⟩) s = act s (fun s =>
      let r := s.writeCore (if req.val == 27 then .host else .engine) y.toNat w (tagOf w == tagOf w) req.val
      (if req.val == 27 && r.2 != 0 then r.1.wres r.2 y.toNat else r.1).answer4 0 0 r.2) := rfl
  have h27 : (req.val == 27) = false := by simpa using hreq
  have hcore : s.writeCore .engine y.toNat w (tagOf w == tagOf w) req.val
      = (s.phaseStore req.val y.toNat (fun z => z.setSram y.toNat w), 0) := by
    unfold State.writeCore State.sramStore
    simp [ha, hd, hl]
  rw [hrun, act_up hup, h27]
  simp only [Bool.false_and, Bool.false_eq_true, if_false, hcore]

theorem AllKept.sramKeptBut {l : List Nat} (h : AllKept s t) : SramKeptBut l s t := fun b _ => h.2.1 b

theorem islandWrite_stores (hup : s.up = true) (hreq : req.val ≠ 27) (ha : isSram y.toNat = true) (hd : s.deaf y.toNat = false)
    (hl : s.lockedAt y.toNat = false) : Completes (.interconnectRequest req y (some (w, tagOf w)) ⟨.clean, false⟩) s (fun t =>
      t.mem.lastResp = 0 ∧ SramKeptBut [y.toNat] s t ∧ MramKept s t ∧ RegsKept s t
        ∧ (s.unbeaten req y.toNat → t.sramAt y.toNat = w ∧ t.sramPoison y.toNat = false)
        ∧ (¬ s.unbeaten req y.toNat → SramKept s t)) := by
  refine ⟨_, exec_islandWrite hup hreq ha hd hl, rfl, ?_⟩
  have hafter : AllKept (s.phaseStore req.val y.toNat (fun z => z.setSram y.toNat w))
      (settle ((s.phaseStore req.val y.toNat (fun z => z.setSram y.toNat w)).answer4 0 0 0)) := allKept_answer4.trans allKept_settle
  by_cases hbeat : s.unbeaten req.val y.toNat
  · obtain ⟨hat, hpoison, hsram, hmram, hregs⟩ := (stores_phaseStore (w := w) ha hbeat).then_kept hafter
    exact ⟨hsram, hmram, hregs, fun _ => ⟨hat, hpoison⟩, fun hno => absurd hbeat hno⟩
  · have hkept := (allKept_phaseStore (w := w) ha hbeat).trans hafter
    exact ⟨hkept.sramKeptBut, hkept.2.2, hkept.1, fun hyes => absurd hyes hbeat, fun _ => hkept.2.1⟩

/-! ### Handshake timeouts (R19, R20, R48) -/

theorem targetOf_sram (ha : isSram a = true) : targetOf a = none := by
  unfold targetOf
  rw [isMram_of_isSram ha, isReg_of_isSram ha]
  rfl

theorem mapped_of_targetOf (h : targetOf a = some i) : (isMram a || isReg a) = true := by
  by_contra hno
  obtain ⟨hm, hr⟩ := Bool.or_eq_false_iff.mp (Bool.eq_false_of_not_eq_true hno)
  unfold targetOf at h
  rw [hm, hr] at h
  cases h

theorem bit_of_lt (h : v < 2 ^ n) (hn : n ≤ i) : bit v i = false := by
  have hzero : v >>> i = 0 := by
    rw [Nat.shiftRight_eq_div_pow]
    exact Nat.div_eq_of_lt (h.trans_le (Nat.pow_le_pow_right (by decide) hn))
  unfold bit
  rw [hzero]
  rfl

theorem State.lt_of_alive (h : s.alive i = true) : i < 29 := by
  by_contra hno
  have hlt : s.get SYS_ISTAT.ALIVE < 2 ^ 29 := State.get_lt
  have hoff : s.alive i = false := bit_of_lt hlt (Nat.le_of_not_lt hno)
  exact absurd (hoff.symm.trans h) Bool.false_ne_true

theorem State.bitOf_putBit_same (h : f.ok = true) (hn : n < f.hi + 1 - f.lo) :
    (s.putBit f n x).bitOf f n = x := by
  have hlt : setBit (s.get f) n x < 2 ^ (f.hi + 1 - f.lo) := setBits_lt le_rfl hn State.get_lt
  unfold State.bitOf
  rw [State.get_putBit_same h, Nat.mod_eq_of_lt hlt, bit_setBit_same]

theorem State.reg_islandFell : (s.islandFell i).reg a = s.reg a := by
  unfold State.islandFell
  split
  · rfl
  · rfl

theorem State.mem_islandFell : (s.islandFell i).mem = s.mem := by
  unfold State.islandFell
  split
  · rfl
  · rfl

theorem State.alive_islandFell : (s.islandFell i).alive n = s.alive n :=
  congrArg (bit · n) (get_of_reg_eq (f := SYS_ISTAT.ALIVE) State.reg_islandFell)

theorem State.alive_settle : (settle s).alive n = s.alive n := State.bitOf_settle

theorem State.deaf_settle : (settle s).deaf a = s.deaf a := rfl

theorem State.alive_putBit_same (hi : i < 29) : (s.putBit SYS_ISTAT.ALIVE i x).alive i = x := State.bitOf_putBit_same (by decide) hi

/-- The first timeout's entry, with its interrupt source. -/
def State.htoShown (s : State) (n a i : Nat) : State :=
  ((((s.putB SYS_HTOLOG.VALID true).put SYS_HTOLOG.REQ n).put SYS_HTOLOG.TGT i).put SYS_HTOLOG.ADDR a).raise HST_ISRC.HTO

/-- A timeout logged: where one stands already, as a further one. -/
def State.htoLog (s : State) (n a i : Nat) : State := if s.flag SYS_HTOLOG.VALID then s.putB SYS_HTOLOG.OVF true else s.htoShown n a i

theorem State.reg_htoLog (hl : b ≠ SYS_HTOLOG) (hi : b ≠ HST_ISRC) : (s.htoLog n a i).reg b = s.reg b := by
  unfold State.htoLog State.htoShown
  split
  · exact State.reg_putB_other hl
  · rw [State.reg_raise_other hi, State.reg_put_other hl, State.reg_put_other hl, State.reg_put_other hl, State.reg_putB_other hl]

theorem State.mem_htoLog : (s.htoLog n a i).mem = s.mem := by
  unfold State.htoLog State.htoShown State.raise
  split
  · exact State.mem_putB
  · rw [State.mem_put, State.mem_put, State.mem_put, State.mem_put, State.mem_putB]

/-- The log shows a timeout of requester n on target i at address a. -/
def LogsTimeout (n i a : Nat) (t : State) : Prop :=
  t.flag SYS_HTOLOG.VALID = true ∧ t.get SYS_HTOLOG.REQ = n ∧ t.get SYS_HTOLOG.TGT = i ∧ t.get SYS_HTOLOG.ADDR = a

theorem LogsTimeout.of_reg (h : LogsTimeout n i a s) (hr : t.reg SYS_HTOLOG = s.reg SYS_HTOLOG) : LogsTimeout n i a t := by
  obtain ⟨hvalid, hreq, htgt, haddr⟩ := h
  exact ⟨(flag_of_reg_eq (f := SYS_HTOLOG.VALID) hr).trans hvalid, (get_of_reg_eq (f := SYS_HTOLOG.REQ) hr).trans hreq,
    (get_of_reg_eq (f := SYS_HTOLOG.TGT) hr).trans htgt, (get_of_reg_eq (f := SYS_HTOLOG.ADDR) hr).trans haddr⟩

theorem logsTimeout_htoShown (hn : n < 32) (hi : i < 32) (ha : a < 2 ^ 24) : LogsTimeout n i a (s.htoShown n a i) := by
  unfold State.htoShown State.raise
  refine ⟨?_, ?_, ?_, ?_⟩
  · rw [State.flag_put_other (by decide) (by decide), State.flag_put_other (by decide) (by decide),
      State.flag_put_other (by decide) (by decide), State.flag_put_other (by decide) (by decide), State.flag_putB_same (by decide)]
  · rw [State.get_put_other (by decide) (by decide), State.get_put_other (by decide) (by decide),
      State.get_put_other (by decide) (by decide), State.get_put_same (by decide)]
    exact Nat.mod_eq_of_lt hn
  · rw [State.get_put_other (by decide) (by decide), State.get_put_other (by decide) (by decide), State.get_put_same (by decide)]
    exact Nat.mod_eq_of_lt hi
  · rw [State.get_put_other (by decide) (by decide), State.get_put_same (by decide)]
    exact Nat.mod_eq_of_lt ha

/-- A target marked as not answering (R22). -/
def State.markDeaf (s : State) (i : Nat) : State := { s with mem := { s.mem with deaf := setBit s.mem.deaf i true } }

theorem State.timeout_island (hn : n ≠ 27) (ht : targetOf a = some i) (hi : i < 29) : s.timeout n a x
    = (((s.answer4 0 (poisonTag 0) 3).htoLog n a i).putBit SYS_ISTAT.ALIVE i false).islandFell i := by
  unfold State.timeout
  rw [ht, beq_false_of_ne hn]
  dsimp only
  rw [if_neg Bool.false_ne_true, if_pos hi]
  rfl

theorem State.timeout_sram (hn : n ≠ 27) (ha : isSram a = true) : s.timeout n a x
    = ((s.answer4 0 (poisonTag 0) 3).htoLog n a 29).markDeaf 0 := by
  unfold State.timeout
  rw [targetOf_sram ha, beq_false_of_ne hn, ha]
  dsimp only
  rw [if_neg Bool.false_ne_true, if_pos rfl, if_neg (Nat.lt_irrefl 29)]
  rfl

/-- Whether a timeout is one: its target is there, has not fallen silent before and is past its time. -/
def State.timesOut (s : State) (a age : Nat) : Bool :=
  !(s.deaf a || !(isSram a || isMram a || isReg a) || decide (age < s.htoThen age))

theorem exec_handshakeTimeout (hup : s.up = true) (age : BitVec 16) : exec (.handshakeTimeout (some req) y ⟨x, age⟩) s
    = .next (settle (if !s.timesOut y.toNat age.toNat then s else s.timeout req.val y.toNat x)) := by
  have hrun : exec (.handshakeTimeout (some req) y ⟨x, age⟩) s = act s (fun s =>
      if s.deaf y.toNat || !(isSram y.toNat || isMram y.toNat || isReg y.toNat) || age.toNat < s.htoThen age.toNat then s
      else s.timeout req.val y.toNat x) := rfl
  rw [hrun, act_up hup]
  unfold State.timesOut
  rw [Bool.not_not]

theorem handshakeTimeout_early (hup : s.up = true) (age : BitVec 16) (h : age.toNat < s.htoThen age.toNat) :
    Completes (.handshakeTimeout (some req) y ⟨x, age⟩) s (fun t => t.mem = s.mem ∧ AllKept s t) := by
  have hno : s.timesOut y.toNat age.toNat = false := by
    unfold State.timesOut
    rw [decide_eq_true h, Bool.or_true]
    rfl
  have hrun := exec_handshakeTimeout (req := req) (y := y) (x := x) hup age
  rw [hno, if_pos (by decide)] at hrun
  exact ⟨_, hrun, rfl, allKept_settle⟩

theorem exec_handshakeTimeout_due (hup : s.up = true) (age : BitVec 16) (hd : s.deaf y.toNat = false)
    (hm : (isSram y.toNat || isMram y.toNat || isReg y.toNat) = true) (h : s.htoThen age.toNat ≤ age.toNat) :
    exec (.handshakeTimeout (some req) y ⟨x, age⟩) s = .next (settle (s.timeout req.val y.toNat x)) := by
  have hyes : s.timesOut y.toNat age.toNat = true := by
    unfold State.timesOut
    rw [hd, hm, decide_eq_false (Nat.not_lt.mpr h)]
    rfl
  rw [exec_handshakeTimeout hup age, hyes, if_neg (by decide)]

theorem handshakeTimeout_island (hup : s.up = true) (age : BitVec 16) (hreq : req.val ≠ 27) (ht : targetOf y.toNat = some i)
    (hi : s.alive i = true) (h : s.htoThen age.toNat ≤ age.toNat) : Completes (.handshakeTimeout (some req) y ⟨x, age⟩) s (fun t =>
      t.mem.lastResp = 3 ∧ t.alive i = false ∧ MemKept s t ∧ RegsKeptBut [SYS_HTOLOG, SYS_ISTAT, HST_ISRC] s t
        ∧ (s.flag SYS_HTOLOG.VALID = false → LogsTimeout req i y.toNat t)) := by
  have hlt := State.lt_of_alive hi
  have hd : s.deaf y.toNat = false := by
    unfold State.deaf
    rw [ht]
    exact congrArg (!·) hi
  have hmap : (isSram y.toNat || isMram y.toNat || isReg y.toNat) = true := by
    rw [Bool.or_assoc, mapped_of_targetOf ht, Bool.or_true]
  have hrun := exec_handshakeTimeout_due (req := req) (x := x) hup age hd hmap h
  rw [State.timeout_island hreq ht hlt] at hrun
  have hmem : (settle ((((s.answer4 0 (poisonTag 0) 3).htoLog req y.toNat i).putBit SYS_ISTAT.ALIVE i false).islandFell i)).mem
      = (s.answer4 0 (poisonTag 0) 3).mem := by
    rw [State.mem_settle, State.mem_islandFell, State.mem_putBit, State.mem_htoLog]
  refine ⟨_, hrun, ?_, ?_, ?_, fun b hb => ?_, fun hv => ?_⟩
  · rw [hmem]
    rfl
  · rw [State.alive_settle, State.alive_islandFell, State.alive_putBit_same hlt]
  · exact allKept_answer4.2.trans (memKept_of_mem_eq hmem)
  · simp only [List.mem_cons, List.not_mem_nil, or_false, not_or] at hb
    obtain ⟨hl, hs, hi⟩ := hb
    rw [State.reg_settle, State.reg_islandFell, State.reg_putBit_other hs, State.reg_htoLog hl hi]
    rfl
  · have hshown : (s.answer4 0 (poisonTag 0) 3).htoLog req y.toNat i = (s.answer4 0 (poisonTag 0) 3).htoShown req y.toNat i :=
      if_neg (ne_true_of_eq_false hv)
    rw [hshown]
    refine (logsTimeout_htoShown (s := s.answer4 0 (poisonTag 0) 3) (req.isLt.trans (by decide)) (hlt.trans (by decide)) y.isLt).of_reg ?_
    rw [State.reg_settle, State.reg_islandFell, State.reg_putBit_other (by decide)]

theorem State.deaf_markDeaf (ha : isSram a = true) : (s.markDeaf 0).deaf a = true := by
  unfold State.deaf
  rw [targetOf_sram ha]
  dsimp only
  rw [if_pos ha]
  exact bit_setBit_same

theorem handshakeTimeout_sram (hup : s.up = true) (age : BitVec 16) (hreq : req.val ≠ 27) (ha : isSram y.toNat = true)
    (hd : s.deaf y.toNat = false) (h : s.htoThen age.toNat ≤ age.toNat) : Completes (.handshakeTimeout (some req) y ⟨x, age⟩) s (fun t =>
      t.mem.lastResp = 3 ∧ t.deaf y.toNat = true ∧ MemKept s t) := by
  have hrun := exec_handshakeTimeout_due (req := req) (x := x) hup age hd (by rw [ha]; rfl) h
  rw [State.timeout_sram hreq ha] at hrun
  have hmem : ((s.answer4 0 (poisonTag 0) 3).htoLog req y.toNat 29).mem = (s.answer4 0 (poisonTag 0) 3).mem := State.mem_htoLog
  refine ⟨_, hrun, ?_, State.deaf_settle.trans (State.deaf_markDeaf ha), ?_⟩
  · exact congrArg Mem.lastResp hmem
  · exact (allKept_answer4.2.trans (memKept_of_mem_eq hmem)).trans (memKept_of_eq rfl rfl rfl rfl)

/-! ### Islands going -/

theorem controlKept_setIsl {y : IslS} : ControlKept s (s.setIsl n y) := controlKept_of_eq rfl rfl

theorem controlKept_setPass {p : Pass} : ControlKept s (s.setPass n p) := by
  unfold State.setPass
  split
  · exact controlKept_of_eq rfl rfl
  · exact controlKept_of_eq rfl rfl
  · exact controlKept_setIsl

theorem controlKept_openTables : ControlKept s s.openTables := .ite (controlKept_of_eq rfl rfl) .refl

/-- The adopted copy of a point gone, with its forces (R97). -/
def State.dropCopy (s : State) (p : Nat) : State :=
  let s := (s.setCopy p ⟨[], 0, false, false, false⟩).put (stateFld p) 0
  if p < 184 then (s.putB (forcedFld p) false).putB (fignFld p) false else s

theorem controlKept_dropCopy : ControlKept s (s.dropCopy n) := by
  have hput : ControlKept s ((s.setCopy n ⟨[], 0, false, false, false⟩).put (stateFld n) 0) := controlKept_setCopy.put stateFld_high
  exact .ite ((hput.putB forcedFld_high).putB fignFld_high) hput

/-- A field island's channels lost. -/
def State.dropField (s : State) (k : Nat) : State :=
  let s := if (s.islOf k).wrote then s.incMod (FI_PASS.PASS k) else s
  let s := match (s.islOf k).passList with | some n => s.putB (FI_SLST.RUN k n) false | none => s
  let i := s.islOf k
  (pointsOf k).foldl (fun (s : State) (n : Nat) =>
    ((s.setChan n (s.chanOf n).lost).setRaw n false false).presentComp n) (s.setIsl k { IslS.fresh with lost := i.lost, quiet := i.quiet })

theorem controlKept_dropField : ControlKept s (s.dropField k) := by
  have hchan : ∀ (z : State) (n : Nat), ControlKept z (((z.setChan n (z.chanOf n).lost).setRaw n false false).presentComp n) :=
    fun _ _ => (controlKept_setChan.trans controlKept_setRaw).trans controlKept_presentComp
  have hpass : ControlKept s (if (s.islOf k).wrote then s.incMod (FI_PASS.PASS k) else s) :=
    .ite (ControlKept.refl.incMod (Nat.le_add_right_of_le (by decide))) .refl
  unfold State.dropField
  dsimp only
  refine ControlKept.foldl hchan _ (ControlKept.trans ?_ controlKept_setIsl)
  split
  · exact hpass.putB (Nat.le_add_right_of_le (Nat.le_add_right_of_le (by decide)))
  · exact hpass

theorem State.loseCopies_eq : s.loseCopies k =
    (let s := (pointsOf k).foldl State.dropCopy (s.setPass k Pass.none)
    let s : State :=
      if k < 16 then s.dropField k
      else if k == 16 then { s with lo := s.lo.map (fun (p : Nat × LoS) => (p.1, { LoS.fresh with fq := p.2.fq })) }
      else if k == 17 then { s with dio := s.dio.map (fun (p : Nat × DioS) => (p.1, { DioS.fresh with raw := p.2.raw })) }
      else if k == 18 then { s with spd := s.spd.map (fun (p : Nat × SpdS) => (p.1, SpdS.fresh)) }
      else if k == 21 then s.putB OPL_STAT.RUN false
      else s
    s.openTables) := rfl

theorem controlKept_loseCopies : ControlKept s (s.loseCopies k) := by
  have hcopies : ControlKept s ((pointsOf k).foldl State.dropCopy (s.setPass k Pass.none)) :=
    controlKept_setPass.foldl (fun _ _ => controlKept_dropCopy) _
  rw [State.loseCopies_eq]
  refine ControlKept.trans (hcopies.trans ?_) controlKept_openTables
  exact .ite controlKept_dropField (.ite (controlKept_of_eq rfl rfl) (.ite (controlKept_of_eq rfl rfl) (.ite (controlKept_of_eq rfl rfl)
    (.ite (ControlKept.refl.putB (by decide)) .refl))))

/-- The copies of an island that reads tables gone with it. -/
def State.islandDown (s : State) (i : Nat) : State :=
  if i < 19 || i == 20 || i == 21 then (s.putBit SYS_ISTAT.ALIVE i false).loseCopies i else s.putBit SYS_ISTAT.ALIVE i false

theorem controlKept_islandDown : ControlKept (s.putBit SYS_ISTAT.ALIVE i false) (s.islandDown i) := .ite controlKept_loseCopies .refl

theorem exec_islandSupplyLoss (hup : s.up = true) (i : Fin 29) (h : s.alive i = true) :
    exec (.islandSupplyLoss i) s = .next (settle ((s.islandDown i).islandFell i)) := by
  have hrun : exec (.islandSupplyLoss i) s = act s (fun s => if !s.alive i.val then s else (s.islandDown i).islandFell i) := rfl
  rw [hrun, act_up hup, h, if_neg (by decide)]

theorem islandSupplyLoss_falls (hup : s.up = true) (i : Fin 29) (h : s.alive i = true) : Completes (.islandSupplyLoss i) s (fun t =>
    t.alive i = false ∧ (s.used i = true → dataIslands.contains i.val = true → t.life.fell = true)) := by
  refine ⟨_, exec_islandSupplyLoss hup i h, ?_, fun hused hdata => ?_⟩
  · have halive : (s.islandDown i).alive i = (s.putBit SYS_ISTAT.ALIVE i false).alive i :=
      congrArg (bit · i.val) (controlKept_islandDown.get (f := SYS_ISTAT.ALIVE) (by decide) (by decide))
    rw [State.alive_settle, State.alive_islandFell, halive, State.alive_putBit_same i.isLt]
  · have hstill : (s.islandDown i).used i = true := by
      have hget : (s.islandDown i).get SYS_IUSE.USE = s.get SYS_IUSE.USE :=
        (controlKept_islandDown.get (by decide) (by decide)).trans (State.get_putBit_other (by decide) (by decide))
      exact (congrArg (bit · i.val) hget).trans hused
    have hfell : ((s.islandDown i).islandFell i).life.fell = true := by
      unfold State.islandFell
      rw [hstill, hdata]
      rfl
    exact hfell

/-! ### Islands coming (R48, R579) -/

theorem State.mem_publish : (s.publish n w).mem = (s.writeMirror n w).mem := rfl

theorem State.writeMirror_noValue : s.writeMirror n noValue = s.setSram (0o00400000 + n) noValue := by
  have hq : decide (qOf noValue ≤ 2) = false := by decide
  unfold State.writeMirror
  rw [hq, Bool.and_false, if_neg Bool.false_ne_true]
  rfl

theorem State.mem_publish_noValue : (s.publish n noValue).mem = (s.setSram (0o00400000 + n) noValue).mem :=
  State.mem_publish.trans (congrArg State.mem State.writeMirror_noValue)

theorem State.mirror_of_mem_eq (h : t.mem = s.mem) : t.mirror n = s.mirror n := by
  unfold State.mirror State.sramPoison State.sramAt
  rw [h]

theorem State.mirror_publish_noValue : (s.publish n noValue).mirror m = if m = n then noValue else s.mirror m := by
  rw [State.mirror_of_mem_eq State.mem_publish_noValue]
  unfold State.mirror
  rw [State.sramPoison_setSram]
  by_cases h : m = n
  · rw [h, State.sramAt_setSram_same]
    simp
  · have hne : 0o00400000 + m ≠ 0o00400000 + n := by omega
    rw [State.sramAt_setSram_other hne, bne_iff_ne.mpr hne, Bool.and_true, if_neg h]

theorem mirror_publishes (l : List Nat) : (l.foldl (fun z n => z.publish n noValue) s).mirror m = if m ∈ l then noValue else s.mirror m := by
  induction l generalizing s with
  | nil => rfl
  | cons n l ih =>
    rw [List.foldl_cons, ih, State.mirror_publish_noValue]
    by_cases hl : m ∈ l
    · rw [if_pos hl, if_pos (List.mem_cons_of_mem n hl)]
    · by_cases hn : m = n
      · rw [if_neg hl, if_pos hn, if_pos (by simp [hn])]
      · rw [if_neg hl, if_neg hn, if_neg (by simp [hn, hl])]

theorem OutsideMirrorKept.trans (h : OutsideMirrorKept s t) (h' : OutsideMirrorKept t u) : OutsideMirrorKept s u :=
  ⟨fun a ha => ⟨(h'.1 a ha).1.trans (h.1 a ha).1, (h'.1 a ha).2.trans (h.1 a ha).2⟩,
    fun a => ⟨(h'.2 a).1.trans (h.2 a).1, (h'.2 a).2.trans (h.2 a).2⟩⟩

theorem MemKept.outsideMirrorKept (h : MemKept s t) : OutsideMirrorKept s t := ⟨fun a _ => h.1 a, h.2⟩

theorem outsideMirrorKept_setSram (hn : n < 4096) : OutsideMirrorKept s (s.setSram (0o00400000 + n) w) := by
  refine ⟨fun a ha => ?_, fun _ => ⟨rfl, rfl⟩⟩
  have hne : a ≠ 0o00400000 + n := by omega
  refine ⟨State.sramAt_setSram_other hne, ?_⟩
  rw [State.sramPoison_setSram, bne_iff_ne.mpr hne, Bool.and_true]

theorem outsideMirrorKept_publish (hn : n < 4096) : OutsideMirrorKept s (s.publish n noValue) :=
  (outsideMirrorKept_setSram hn).trans (memKept_of_mem_eq State.mem_publish_noValue).outsideMirrorKept

theorem outsideMirrorKept_publishes {l : List Nat} (hl : ∀ n ∈ l, n < 4096) :
    OutsideMirrorKept s (l.foldl (fun z n => z.publish n noValue) s) := by
  induction l generalizing s with
  | nil => exact MemKept.outsideMirrorKept ⟨fun _ => ⟨rfl, rfl⟩, fun _ => ⟨rfl, rfl⟩⟩
  | cons n l ih =>
    exact (outsideMirrorKept_publish (hl n List.mem_cons_self)).trans (ih fun m hm => hl m (List.mem_cons_of_mem n hm))

/-- The mirror words of an island's points. -/
def pointWords (i : Nat) : List Nat :=
  if i < 16 then pointsOf i else match i with
    | 16 => (List.range 16).map (0o200 + ·)
    | 17 => (List.range 32).map (0o220 + ·)
    | 18 => (List.range 16).map (0o260 + ·)
    | _ => []

theorem pointWords_lt : ∀ i : Fin 29, ∀ n ∈ pointWords i, n < 4096 := by decide

theorem mem_pointWords (hi : i < 16) (j : Fin 8) : 8 * i + j ∈ pointWords i := by
  unfold pointWords pointsOf
  rw [if_pos hi, if_pos hi]
  exact List.mem_map.mpr ⟨j, List.mem_range.mpr j.isLt, rfl⟩

theorem State.emptyWords_eq : s.emptyWords i 15 = (pointWords i).foldl (fun z n => z.publish n noValue) s := rfl

theorem State.regs_emptyWords : (s.emptyWords i 15).regs = s.regs := foldl_keeps State.regs _ _ _ fun _ _ => rfl

theorem State.reg_emptyWords : (s.emptyWords i 15).reg a = s.reg a := by
  unfold State.reg
  rw [State.regs_emptyWords]

/-- An island's ALIVE and USE bits up. -/
def State.islandUp (s : State) (i : Nat) : State :=
  let s := (s.putBit SYS_ISTAT.ALIVE i true).putBit SYS_IUSE.USE i true
  { s with life := { s.life with rise := setBit s.life.rise i false } }

theorem State.islandBack_eq (ha : s.alive i = false) (hu : s.used i = true) : s.islandBack i =
    if ((s.islandUp i).emptyWords i 15).holds 3 && !((s.islandUp i).emptyWords i 15).deadUsed then
      ((s.islandUp i).emptyWords i 15).causeOff 3 else (s.islandUp i).emptyWords i 15 := by
  unfold State.islandBack
  rw [ha, hu]
  rfl

theorem State.reg_islandBack (ha : s.alive i = false) (hu : s.used i = true) (h : a ≠ SYS_MODE) :
    (s.islandBack i).reg a = (s.islandUp i).reg a := by
  rw [State.islandBack_eq ha hu]
  split
  · rw [State.reg_causeOff h, State.reg_emptyWords]
  · exact State.reg_emptyWords

theorem State.mem_islandBack (ha : s.alive i = false) (hu : s.used i = true) :
    (s.islandBack i).mem = ((s.islandUp i).emptyWords i 15).mem := by
  rw [State.islandBack_eq ha hu]
  split
  · exact State.mem_causeOff
  · rfl

theorem State.mem_islandUp : (s.islandUp i).mem = s.mem := by
  unfold State.islandUp
  dsimp only
  rw [State.mem_putBit, State.mem_putBit]

theorem State.reg_islandUp (hs : a ≠ SYS_ISTAT) (hu : a ≠ SYS_IUSE) : (s.islandUp i).reg a = s.reg a :=
  (State.reg_putBit_other (s := s.putBit SYS_ISTAT.ALIVE i true) hu).trans (State.reg_putBit_other hs)

theorem State.used_islandUp (hi : i < 29) : (s.islandUp i).used i = true :=
  State.bitOf_putBit_same (s := s.putBit SYS_ISTAT.ALIVE i true) (f := SYS_IUSE.USE) (by decide) hi

theorem State.alive_islandUp (hi : i < 29) : (s.islandUp i).alive i = true := by
  have hreg : (s.islandUp i).reg SYS_ISTAT = (s.putBit SYS_ISTAT.ALIVE i true).reg SYS_ISTAT :=
    State.reg_putBit_other (s := s.putBit SYS_ISTAT.ALIVE i true) (by decide)
  exact (congrArg (bit · i) (get_of_reg_eq (f := SYS_ISTAT.ALIVE) hreg)).trans (State.alive_putBit_same hi)

theorem exec_islandHandshakeRestore (hup : s.up = true) (i : Fin 29) :
    exec (.islandHandshakeRestore (i.castLE (by decide))) s = .next (settle (s.islandBack i)) := by
  have hrun : exec (.islandHandshakeRestore (i.castLE (by decide))) s = act s (fun s =>
      if i.val < 29 then s.islandBack i.val else { s with mem := { s.mem with deaf := setBit s.mem.deaf (i.val - 29) false } }) := rfl
  rw [hrun, act_up hup, if_pos i.isLt]

theorem islandHandshakeRestore_rises (hup : s.up = true) (i : Fin 29) (ha : s.alive i = false) (hu : s.used i = true) :
    Completes (.islandHandshakeRestore (i.castLE (by decide))) s (fun t =>
      t.alive i = true ∧ t.used i = true ∧ RegsKeptBut [SYS_ISTAT, SYS_IUSE, SYS_MODE] s t ∧ OutsideMirrorKept s t
        ∧ (∀ j : Fin 8, i.val < 16 → t.mirror (8 * i + j) = noValue)) := by
  have hmem : (settle (s.islandBack i)).mem = ((pointWords i).foldl (fun z n => z.publish n noValue) (s.islandUp i)).mem := by
    rw [State.mem_settle, State.mem_islandBack ha hu, State.emptyWords_eq]
  refine ⟨_, exec_islandHandshakeRestore hup i, ?_, ?_, fun b hb => ?_, ?_, fun j hi => ?_⟩
  · have halive := get_of_reg_eq (f := SYS_ISTAT.ALIVE) (State.reg_islandBack ha hu (by decide))
    exact (congrArg (bit · i.val) halive).trans (State.alive_islandUp i.isLt)
  · have hused := get_of_reg_eq (f := SYS_IUSE.USE) (State.reg_islandBack ha hu (by decide))
    exact (congrArg (bit · i.val) hused).trans (State.used_islandUp i.isLt)
  · simp only [List.mem_cons, List.not_mem_nil, or_false, not_or] at hb
    obtain ⟨hs, hus, hm⟩ := hb
    rw [State.reg_settle, State.reg_islandBack ha hu hm, State.reg_islandUp hs hus]
  · exact ((memKept_of_mem_eq State.mem_islandUp).outsideMirrorKept.trans (outsideMirrorKept_publishes (pointWords_lt i))).trans
      (memKept_of_mem_eq hmem).outsideMirrorKept
  · rw [State.mirror_of_mem_eq hmem, mirror_publishes, if_pos (mem_pointWords hi j)]

end

/-- Settles O16. A write that a later-served requester has preceded is stored and put back, so it leaves the word as it was; an
island that comes back publishes Q = 15 for its points and touches no word outside the mirror. -/
theorem interconnectAnswers : Obligations.InterconnectAnswers := by
  intro s req a hup
  refine ⟨fun hreq hs hd hp ho => islandRead_answers hup hreq (State.islandRead_sram hs hd hp ho), fun hreq hs hm hr => ?_,
    fun hreq hd => ?_, fun w hreq hs hd hl => islandWrite_stores hup hreq hs hd hl,
    fun i write age hreq ht hi h => handshakeTimeout_island hup age hreq ht hi h,
    fun write age hreq hs hd h => handshakeTimeout_sram hup age hreq hs hd h, fun write age h => handshakeTimeout_early hup age h,
    islandSupplyLoss_falls hup, islandHandshakeRestore_rises hup⟩
  · obtain ⟨t, hrun, -, -, hresp, hkept⟩ := islandRead_answers hup hreq (State.islandRead_unmapped hs hm hr)
    exact ⟨t, hrun, hresp, hkept⟩
  · obtain ⟨t, hrun, -, -, hresp, hkept⟩ := islandRead_answers hup hreq (State.islandRead_deaf hd)
    exact ⟨t, hrun, hresp, hkept⟩

end Sys2Proof.Machine

namespace Sys2Proof.Machine

open Sys2Proof

/-! ## The counts of node time (R50, R52) -/

section
variable {s : State} {x y z : TimeS}

/-- The counts of node time agree, and with them the boundary that is due and the step that waits. -/
structure SameCounts (x y : TimeS) : Prop where
  beat : x.beat = y.beat
  round : x.round = y.round
  usec : x.usec = y.usec
  phase : x.phase = y.phase
  repoch : x.repoch = y.repoch
  due : x.due = y.due
  stepPend : x.disc.stepPend = y.disc.stepPend

theorem SameCounts.refl : SameCounts x x := ⟨rfl, rfl, rfl, rfl, rfl, rfl, rfl⟩

theorem SameCounts.trans (h : SameCounts x y) (h' : SameCounts y z) : SameCounts x z :=
  ⟨h.beat.trans h'.beat, h.round.trans h'.round, h.usec.trans h'.usec, h.phase.trans h'.phase, h.repoch.trans h'.repoch,
    h.due.trans h'.due, h.stepPend.trans h'.stepPend⟩

/-- A beat of node time goes by the counts alone. -/
theorem SameCounts.tick (h : SameCounts x y) : SameCounts x.tick y.tick := by
  constructor <;> simp only [TimeS.tick, h.beat, h.round, h.usec, h.repoch, h.stepPend]

theorem SameCounts.inOrder (h : SameCounts x y) (hy : y.inOrder) : x.inOrder := by
  unfold TimeS.inOrder
  rw [h.usec, h.repoch, h.beat]
  exact hy

/-- The counts are the TIM block's own: they end as the block gives them, whatever the beat's work. -/
theorem sameCounts_keepCounts : SameCounts (s.keepCounts x).t x := ⟨rfl, rfl, rfl, rfl, rfl, rfl, rfl⟩

/-! ### One beat (R50, R52) -/

theorem TimeS.tick_within (h : x.usec < 999999) : x.tick.beat = x.beat + 1 ∧ x.tick.usec = x.usec + 1 ∧ x.tick.round = x.round
    ∧ x.tick.phase = 0 ∧ x.tick.due = false := by
  have hlt : ¬ x.usec + 1 ≥ 1000000 := by omega
  refine ⟨rfl, ?_, ?_, rfl, ?_⟩ <;> simp [TimeS.tick, hlt]

theorem TimeS.tick_over (h : x.usec = 999999) : x.tick.beat = x.beat + 1 ∧ x.tick.usec = 0 ∧ x.tick.round = x.round + 1
    ∧ x.tick.phase = 0 ∧ x.tick.due = true := by
  refine ⟨rfl, ?_, ?_, rfl, ?_⟩ <;> simp [TimeS.tick, h]

/-- The epoch moves on by one beat: 2^36 is 476,736 more than a multiple of the round (R52). -/
theorem wrapEpoch_epochOf {b : Nat} (h : b < 1000000) : wrapEpoch (epochOf 68719476735#36 b) = (999999 - b) % 1000000 := by
  have hbeat : (68719476735#36).toNat = 68719476735 := rfl
  unfold wrapEpoch epochOf
  rw [hbeat]
  omega

/-- A beat keeps the round epoch in order, across the wrap of the beat counter. -/
theorem TimeS.inOrder_tick (h : x.inOrder) : x.tick.inOrder := by
  obtain ⟨hlt, hepoch⟩ := h
  have husec : x.tick.usec = if x.usec = 999999 then 0 else x.usec + 1 := by
    simp only [TimeS.tick]
    split <;> split <;> omega
  have hrepoch : x.tick.repoch = if x.beat = 68719476735#36 then wrapEpoch x.repoch else x.repoch := by
    simp [TimeS.tick]
  have hbeat : x.tick.beat.toNat = if x.beat = 68719476735#36 then 0 else x.beat.toNat + 1 := by
    show (x.beat + 1).toNat = _
    split
    · next hb => rw [hb]; rfl
    · next hb => bv_omega
  constructor
  · rw [husec]; split <;> omega
  · rw [hrepoch, hepoch]
    by_cases hb : x.beat = 68719476735#36
    · rw [if_pos hb, hb, wrapEpoch_epochOf hlt]
      unfold epochOf
      rw [hbeat, if_pos hb, husec]
      split <;> omega
    · rw [if_neg hb]
      unfold epochOf
      rw [hbeat, if_neg hb, husec]
      split <;> omega

end

section
variable {s : State} {k : Tick} {tasks : Bool} {fails : BitVec 16} {ups : List UpsetAt}

/-! ### Boundaries, steps and beats (R50, R58) -/

/-- The work of a boundary leaves it due no more, and the counts as they stand. -/
theorem sameCounts_boundary : SameCounts (s.boundary tasks fails ups).t { s.t with due := false } := by
  unfold State.boundary
  exact sameCounts_keepCounts

theorem sameCounts_catchUp : SameCounts s.catchUp.t { s.t with due := false } := by
  unfold State.catchUp
  split
  · exact sameCounts_boundary
  · next h => exact ⟨rfl, rfl, rfl, rfl, rfl, Bool.eq_false_of_not_eq_true h, rfl⟩

theorem State.stepDue_none (h : s.t.disc.stepPend = none ∨ s.t.usec ≠ 0) : s.stepDue = s := by
  unfold State.stepDue
  split
  · next hd =>
    have husec : s.t.usec ≠ 0 := h.resolve_left (by rw [hd]; exact Option.some_ne_none _)
    rw [if_neg (by simp [husec])]
  · rfl

/-- The beat in force with what precedes its end: a boundary's work, then a step that waits. -/
def State.caughtUp (s : State) : State := if s.catchUp.up then s.catchUp.stepDue else s.catchUp

theorem State.caughtUp_unstepped (h : s.t.disc.stepPend = none ∨ s.t.usec ≠ 0) : s.caughtUp = s.catchUp := by
  have hsame := sameCounts_catchUp (s := s)
  unfold State.caughtUp
  rw [State.stepDue_none (by rw [hsame.stepPend, hsame.usec]; exact h), ite_self]

theorem sameCounts_beatRest : SameCounts s.beatRest.t s.caughtUp.t := by
  unfold State.beatRest
  exact sameCounts_keepCounts

/-- A beat that passes takes the counts from where its predecessor leaves them one beat on. -/
theorem sameCounts_beat (h : s.timed = true) : SameCounts (s.beat k).t s.caughtUp.t.tick := by
  unfold State.beat
  rw [if_neg (by simp [h])]
  exact sameCounts_keepCounts.trans sameCounts_beatRest.tick

/-- The same, where no step is applied. -/
theorem sameCounts_beat_unstepped (h : s.timed = true) (hstep : s.t.disc.stepPend = none ∨ s.t.usec ≠ 0) :
    SameCounts (s.beat k).t s.t.tick := by
  have hbeat := sameCounts_beat (k := k) h
  rw [State.caughtUp_unstepped hstep] at hbeat
  exact hbeat.trans sameCounts_catchUp.tick

theorem State.beat_within (h : s.timed = true) (hstep : s.t.disc.stepPend = none ∨ s.t.usec ≠ 0) (hlt : s.t.usec < 999999) :
    (s.beat k).t.beat = s.t.beat + 1 ∧ (s.beat k).t.usec = s.t.usec + 1 ∧ (s.beat k).t.round = s.t.round ∧ (s.beat k).t.phase = 0 := by
  have hsame := sameCounts_beat_unstepped (k := k) h hstep
  obtain ⟨hbeat, husec, hround, hphase, -⟩ := TimeS.tick_within hlt
  exact ⟨hsame.beat.trans hbeat, hsame.usec.trans husec, hsame.round.trans hround, hsame.phase.trans hphase⟩

theorem State.beat_over (h : s.timed = true) (hstep : s.t.disc.stepPend = none ∨ s.t.usec ≠ 0) (hover : s.t.usec = 999999) :
    (s.beat k).t.beat = s.t.beat + 1 ∧ (s.beat k).t.usec = 0 ∧ (s.beat k).t.round = s.t.round + 1 ∧ (s.beat k).t.phase = 0 := by
  have hsame := sameCounts_beat_unstepped (k := k) h hstep
  obtain ⟨hbeat, husec, hround, hphase, -⟩ := TimeS.tick_over hover
  exact ⟨hsame.beat.trans hbeat, hsame.usec.trans husec, hsame.round.trans hround, hsame.phase.trans hphase⟩

/-! ### The two commands -/

theorem exec_beatTick : exec (.beatTick k) s = .next (settle (s.beat k)) := rfl

theorem exec_beatCounterWrap (h : s.t.beat = 68719476735#36) : exec (.beatCounterWrap k) s = .next (settle (s.beat k)) := by
  show done (if s.t.beat == 68719476735#36 then s.beat k else s) = _
  rw [if_pos (beq_iff_eq.mpr h)]
  rfl

end

/-- Settles O8. What a beat does apart from its counts cannot touch them: each beat ends with the counts that the TIM block keeps. -/
theorem nodeTimeAdvances : Obligations.NodeTimeAdvances := by
  unfold Obligations.NodeTimeAdvances
  intro s k h hstep
  have hzero : (68719476735#36 : Word) + 1 = 0 := rfl
  refine ⟨fun hlt => ⟨_, exec_beatTick, State.beat_within h hstep hlt⟩, fun hover => ⟨_, exec_beatTick, State.beat_over h hstep hover⟩,
    fun hwrap hlt => ⟨_, exec_beatCounterWrap hwrap, ?_⟩, fun hwrap hover => ⟨_, exec_beatCounterWrap hwrap, ?_⟩⟩
  · have hbeat := State.beat_within (k := k) h hstep hlt
    rw [hwrap, hzero] at hbeat
    exact hbeat
  · have hbeat := State.beat_over (k := k) h hstep hover
    rw [hwrap, hzero] at hbeat
    exact hbeat

/-! ## Arming (R62 to R72, R80, R581) -/

section
variable {s t : State} {a : Arm} {b r k action scope tag m : Nat} {w : Word} {c : Instr}

/-! ### What an arm refused shows (R71, R80) -/

theorem State.result_armResult (h : r < 16) : (s.armResult r k).get TIM_LSTAT.RESULT = r := by
  unfold State.armResult
  rw [State.get_put_other (by decide) (by decide), State.get_put_same (by decide)]
  exact Nat.mod_eq_of_lt h

theorem State.slot_armResult (h : k < 16) : (s.armResult r k).get TIM_LSTAT.SLOT = k := by
  unfold State.armResult
  rw [State.get_put_same (by decide)]
  exact Nat.mod_eq_of_lt h

theorem State.mem_armResult : (s.armResult r k).mem = s.mem := by
  unfold State.armResult
  rw [State.mem_put, State.mem_put]

/-- TIM_LCMD shows a result and changes nothing else. -/
def ShowsOnly (r : Nat) (s t : State) : Prop := t.get TIM_LSTAT.RESULT = r ∧ RegsKeptBut [TIM_LSTAT] s t ∧ MemKept s t

theorem showsOnly_armResult (h : r < 16) : ShowsOnly r s (settle (s.armResult r k)) := by
  refine ⟨State.get_settle.trans (State.result_armResult h), fun b hb => ?_,
    memKept_of_mem_eq (State.mem_settle.trans State.mem_armResult)⟩
  rw [State.reg_settle, State.reg_armResult (List.ne_of_not_mem_cons hb)]

/-! ### The tests of an arm in their order (R62, R63, R64, R71; log 23) -/

/-- The tests before that of the target are passed: scope and argument in range, a mode change outside SAFE and the start-up interval,
a role swap with the epoch in force. -/
structure State.Admits (s : State) (a : Arm) : Prop where
  scope : a.scope ≠ 3
  arg : argOk a.action a.arg = true
  mode : a.action = 0 → s.mode ≠ 3 ∧ s.starting = false
  role : a.action = 1 → a.arg = s.reg JL_EPOCH

theorem State.arm_badArg (h : argOk a.action a.arg = false) : s.arm a = (s.armResult 5 0, false) := by
  unfold State.arm
  rw [if_pos (by simp [h])]

theorem State.arm_badState (hscope : a.scope ≠ 3) (harg : argOk a.action a.arg = true) (h0 : a.action = 0) (hexit : a.exit = false)
    (h : s.mode = 3 ∨ s.starting = true) : s.arm a = (s.armResult 6 0, false) := by
  unfold State.arm
  rw [if_neg (by simp [hscope, harg]), if_pos (by simp [h0, hexit, h])]

theorem State.arm_staleRole (hscope : a.scope ≠ 3) (harg : argOk a.action a.arg = true) (h1 : a.action = 1)
    (h : a.arg ≠ s.reg JL_EPOCH) : s.arm a = (s.armResult 7 0, false) := by
  unfold State.arm
  rw [if_neg (by simp [hscope, harg]), if_neg (by simp [h1]), if_pos (by simp [h1, h])]

theorem State.Admits.tests (h : s.Admits a) : (a.scope == 3 || !argOk a.action a.arg) = false
    ∧ (a.action == 0 && (s.mode == 3 || s.starting) && !a.exit) = false ∧ (a.action == 1 && a.arg != s.reg JL_EPOCH) = false := by
  refine ⟨by simp [h.scope, h.arg], ?_, ?_⟩
  · by_cases h0 : a.action = 0
    · simp [h.mode h0]
    · simp [h0]
  · by_cases h1 : a.action = 1
    · simp [h.role h1]
    · simp [h1]

/-- An arm that passes the tests before that of the target goes on to it. -/
theorem State.arm_badTarget (h : s.Admits a) (hr : targetTest a.target s.t.beat a.minlead ≠ 0) :
    s.arm a = (s.armResult (targetTest a.target s.t.beat a.minlead) 0, false) := by
  obtain ⟨hscope, hmode, hrole⟩ := h.tests
  unfold State.arm
  simp only [hscope, hmode, hrole, Bool.false_eq_true, if_false]
  rw [if_pos (bne_iff_ne.mpr hr)]

theorem State.issue_refused (h : s.arm a = (s.armResult r 0, false)) : s.issue a = s.armResult r 0 := by
  unfold State.issue
  rw [h]

/-- The arm that a write of TIM_LCMD makes (R62). -/
def State.hostArm (s : State) (action scope tag : Nat) : Arm :=
  ⟨s.reg TIM_LTGT, s.reg TIM_LARG, action, scope, tag, s.ownIssuer, false, s.minlead scope, false⟩

theorem State.lcmd_arm (h : action ≠ 15) : s.lcmd action scope tag = s.issue (s.hostArm action scope tag) := by
  unfold State.lcmd
  dsimp only
  rw [if_neg (by simpa using h)]
  rfl

/-- A write of TIM_LCMD whose arm is refused shows the result and changes nothing else. -/
theorem completes_refused (hrun : exec c s = .next (settle (s.lcmd action scope tag))) (h15 : action ≠ 15)
    (h : s.arm (s.hostArm action scope tag) = (s.armResult r 0, false)) (hr : r < 16) : Completes c s (ShowsOnly r s) := by
  rw [State.lcmd_arm h15, State.issue_refused h] at hrun
  exact ⟨_, hrun, showsOnly_armResult hr⟩

/-! ### The command of each row -/

theorem exec_armModeChange (hup : s.up = true) (scope : Fin 4) (tag : BitVec 16) :
    exec (.armModeChange scope tag) s = .next (settle (s.lcmd 0 scope tag.toNat)) :=
  act_up (p := fun s => s.lcmd 0 scope tag.toNat) hup
theorem exec_armRoleSwap (hup : s.up = true) (scope : Fin 4) (tag : BitVec 16) :
    exec (.armRoleSwap scope tag) s = .next (settle (s.lcmd 1 scope tag.toNat)) :=
  act_up (p := fun s => s.lcmd 1 scope tag.toNat) hup
theorem exec_armTableSync (hup : s.up = true) (scope : Fin 4) (tag : BitVec 16) :
    exec (.armTableSync scope tag) s = .next (settle (s.lcmd 2 scope tag.toNat)) :=
  act_up (p := fun s => s.lcmd 2 scope tag.toNat) hup
theorem exec_armOutputCommit (hup : s.up = true) (scope : Fin 4) (tag : BitVec 16) :
    exec (.armOutputCommit scope tag) s = .next (settle (s.lcmd 3 scope tag.toNat)) :=
  act_up (p := fun s => s.lcmd 3 scope tag.toNat) hup
theorem exec_armScanStart (hup : s.up = true) (scope : Fin 4) (tag : BitVec 16) :
    exec (.armScanStart scope tag) s = .next (settle (s.lcmd 4 scope tag.toNat)) :=
  act_up (p := fun s => s.lcmd 4 scope tag.toNat) hup
theorem exec_armRecorderMark (hup : s.up = true) (scope : Fin 4) (tag : BitVec 16) :
    exec (.armRecorderMark scope tag) s = .next (settle (s.lcmd 5 scope tag.toNat)) :=
  act_up (p := fun s => s.lcmd 5 scope tag.toNat) hup
theorem exec_armInvalidAction (hup : s.up = true) (action : Fin 9) (scope : Fin 4) :
    exec (.armInvalidAction action scope) s = .next (settle (s.lcmd (6 + action) scope 0)) :=
  act_up (p := fun s => s.lcmd (6 + action) scope 0) hup
theorem exec_launchCancel (hup : s.up = true) (scope : Fin 4) :
    exec (.launchCancel scope) s = .next (settle (s.lcmd 15 scope 0)) :=
  act_up (p := fun s => s.lcmd 15 scope 0) hup

/-! ### The target (R63) -/

theorem targetTest_past {g y : Word} (h : (g - y).toNat < 8 ∨ 2 ^ 35 ≤ (g - y).toNat) : targetTest g y m = 2 := by
  unfold targetTest
  dsimp only
  rw [if_pos (by simpa using h)]

theorem targetTest_late {g y : Word} (h8 : 8 ≤ (g - y).toNat) (h35 : (g - y).toNat < 2 ^ 35) (h : (g - y).toNat < m) :
    targetTest g y m = 3 := by
  unfold targetTest
  dsimp only
  generalize (g - y).toNat = lead at h8 h35 h
  rw [if_neg (by simp; omega), if_pos h]

theorem argOk_of_range (h2 : 2 ≤ action) (h5 : action ≤ 5) : argOk action w = true := by
  unfold argOk
  have h0 : action ≠ 0 := by omega
  simp [h5, h0]

/-- The actions that no rule but those of scope, argument and target can refuse. -/
theorem State.admits_plain (hscope : scope ≠ 3) (h2 : 2 ≤ action) (h5 : action ≤ 5) : s.Admits (s.hostArm action scope tag) :=
  ⟨hscope, argOk_of_range h2 h5, fun h0 => absurd h0 (by simp only [State.hostArm]; omega),
    fun h1 => absurd h1 (by simp only [State.hostArm]; omega)⟩

theorem completes_badTarget (hrun : exec c s = .next (settle (s.lcmd action scope tag))) (hscope : scope ≠ 3) (h2 : 2 ≤ action)
    (h5 : action ≤ 5) (hr : targetTest (s.reg TIM_LTGT) s.t.beat (s.minlead scope) = r) (hr0 : r ≠ 0) (h16 : r < 16) :
    Completes c s (ShowsOnly r s) := by
  refine completes_refused hrun (by omega) ?_ h16
  have hadm : s.Admits (s.hostArm action scope tag) := State.admits_plain hscope h2 h5
  have harm := State.arm_badTarget hadm (hr ▸ hr0 : targetTest (s.reg TIM_LTGT) s.t.beat (s.minlead scope) ≠ 0)
  rw [harm]
  exact congrArg (fun r => (s.armResult r 0, false)) hr

/-- Four of the ARM commands are arms of an action that only scope and target can refuse. -/
theorem exec_plainArm (hup : s.up = true) {scope : Fin 4} {tag : BitVec 16}
    (hc : c ∈ [.armTableSync scope tag, .armOutputCommit scope tag, .armScanStart scope tag, .armRecorderMark scope tag]) :
    ∃ action, 2 ≤ action ∧ action ≤ 5 ∧ exec c s = .next (settle (s.lcmd action scope tag.toNat)) := by
  simp only [List.mem_cons, List.not_mem_nil, or_false] at hc
  rcases hc with rfl | rfl | rfl | rfl
  · exact ⟨2, by decide, by decide, exec_armTableSync hup scope tag⟩
  · exact ⟨3, by decide, by decide, exec_armOutputCommit hup scope tag⟩
  · exact ⟨4, by decide, by decide, exec_armScanStart hup scope tag⟩
  · exact ⟨5, by decide, by decide, exec_armRecorderMark hup scope tag⟩

end

/-- Settles O11: the four actions have no test but that of the target, and a refused arm writes TIM_LSTAT alone. -/
theorem launchTargetTest : Obligations.LaunchTargetTest := by
  unfold Obligations.LaunchTargetTest
  intro s scope tag c hup hscope hc
  obtain ⟨action, h2, h5, hrun⟩ := exec_plainArm hup hc
  exact ⟨fun hpast => completes_badTarget hrun hscope h2 h5 (targetTest_past hpast) (by decide) (by decide),
    fun h8 h35 hlate => completes_badTarget hrun hscope h2 h5 (targetTest_late h8 h35 hlate) (by decide) (by decide)⟩

/-! ### Cancel (R581) -/

section
variable {s : State} {b n action scope tag : Nat} {w : Word}

theorem State.lcmd_cancel : s.lcmd 15 scope tag = s.cancel scope (fld (s.reg TIM_LARG) 3 0) := by
  unfold State.lcmd
  rfl

/-- An armed slot cancelled; a mode change with it is no longer pending. -/
def State.slotCancelled (s : State) (n : Nat) : State :=
  (if s.get (TIM_SLOT_W1.ACTION n) == 0 then s.clearPend else s).put (TIM_SLOT_W1.STATE n) 4

theorem State.cancel_armed (hscope : scope ≠ 3) (h : s.armedSlot n = true) : s.cancel scope n = (s.slotCancelled n).armResult 0 n := by
  unfold State.cancel
  rw [if_neg (by simpa using hscope)]
  dsimp only
  rw [if_pos h]
  rfl

theorem State.cancel_free (hscope : scope ≠ 3) (h : s.armedSlot n = false) : s.cancel scope n = s.armResult 0 n := by
  unfold State.cancel
  rw [if_neg (by simpa using hscope)]
  dsimp only
  rw [h, if_neg Bool.false_ne_true]

theorem State.reg_clearPend (h : b ≠ SYS_MODE) : s.clearPend.reg b = s.reg b := by
  unfold State.clearPend
  rw [State.reg_put_other h, State.reg_putB_other h]

theorem State.mem_clearPend : s.clearPend.mem = s.mem := by
  unfold State.clearPend
  rw [State.mem_put, State.mem_putB]

theorem State.pend_clearPend : s.clearPend.flag SYS_MODE.PEND = false := by
  unfold State.clearPend
  rw [State.flag_put_other (by decide) (by decide), State.flag_putB_same (by decide)]

theorem State.reg_slotCancelled (hm : b ≠ SYS_MODE) (hs : b ≠ TIM_SLOT_W1 n) : (s.slotCancelled n).reg b = s.reg b := by
  unfold State.slotCancelled
  rw [State.reg_put_other hs, State.reg_ite, State.reg_clearPend hm, ite_self]

theorem State.mem_slotCancelled : (s.slotCancelled n).mem = s.mem := by
  unfold State.slotCancelled
  rw [State.mem_put, State.mem_ite, State.mem_clearPend, ite_self]

theorem slotW1_ne_lstat (hn : n < 16) : TIM_SLOT_W1 n ≠ TIM_LSTAT := by simp only [TIM_SLOT_W1, TIM_LSTAT]; omega

theorem slotW1_ne_mode : TIM_SLOT_W1 n ≠ SYS_MODE := by simp only [TIM_SLOT_W1, SYS_MODE]; omega

theorem State.state_slotCancelled : (s.slotCancelled n).get (TIM_SLOT_W1.STATE n) = 4 := by
  unfold State.slotCancelled
  rw [State.get_put_same slotState_ok]
  rfl

theorem State.pend_slotCancelled (h : s.get (TIM_SLOT_W1.ACTION n) = 0) : (s.slotCancelled n).flag SYS_MODE.PEND = false := by
  have hreg : (s.slotCancelled n).reg SYS_MODE = s.clearPend.reg SYS_MODE := by
    unfold State.slotCancelled
    rw [if_pos (by simpa using h), State.reg_put_other slotW1_ne_mode.symm]
  rw [flag_of_reg_eq (f := SYS_MODE.PEND) hreg, State.pend_clearPend]

theorem launchCancel_armed (hup : s.up = true) {scope : Fin 4} (hscope : scope.val ≠ 3) (hn : n = fld (s.reg TIM_LARG) 3 0)
    (h : s.armedSlot n = true) : Completes (.launchCancel scope) s (fun t => t.get TIM_LSTAT.RESULT = 0 ∧ t.get TIM_LSTAT.SLOT = n
      ∧ t.get (TIM_SLOT_W1.STATE n) = 4 ∧ (s.get (TIM_SLOT_W1.ACTION n) = 0 → t.flag SYS_MODE.PEND = false)
      ∧ RegsKeptBut [TIM_LSTAT, SYS_MODE, TIM_SLOT_W1 n] s t ∧ MemKept s t) := by
  have h16 : n < 16 := hn ▸ bits_lt
  have hrun := exec_launchCancel hup scope
  rw [State.lcmd_cancel, ← hn, State.cancel_armed hscope h] at hrun
  refine ⟨_, hrun, State.get_settle.trans (State.result_armResult (by decide)), State.get_settle.trans (State.slot_armResult h16), ?_,
    fun h0 => ?_, fun b hb => ?_, memKept_of_mem_eq ?_⟩
  · have hreg : (settle ((s.slotCancelled n).armResult 0 n)).reg (TIM_SLOT_W1 n) = (s.slotCancelled n).reg (TIM_SLOT_W1 n) :=
      State.reg_settle.trans (State.reg_armResult (slotW1_ne_lstat h16))
    rw [get_of_reg_eq (f := TIM_SLOT_W1.STATE n) hreg, State.state_slotCancelled]
  · have hreg : (settle ((s.slotCancelled n).armResult 0 n)).reg SYS_MODE = (s.slotCancelled n).reg SYS_MODE :=
      State.reg_settle.trans (State.reg_armResult (by decide))
    rw [flag_of_reg_eq (f := SYS_MODE.PEND) hreg, State.pend_slotCancelled h0]
  · simp only [List.mem_cons, List.not_mem_nil, or_false, not_or] at hb
    obtain ⟨hl, hm, hs⟩ := hb
    rw [State.reg_settle, State.reg_armResult hl, State.reg_slotCancelled hm hs]
  · rw [State.mem_settle, State.mem_armResult, State.mem_slotCancelled]

theorem launchCancel_free (hup : s.up = true) {scope : Fin 4} (hscope : scope.val ≠ 3) (hn : n = fld (s.reg TIM_LARG) 3 0)
    (h : s.armedSlot n = false) : Completes (.launchCancel scope) s (fun t => t.get TIM_LSTAT.RESULT = 0 ∧ t.get TIM_LSTAT.SLOT = n
      ∧ RegsKeptBut [TIM_LSTAT] s t ∧ MemKept s t) := by
  have hrun := exec_launchCancel hup scope
  rw [State.lcmd_cancel, ← hn, State.cancel_free hscope h] at hrun
  obtain ⟨hres, hregs, hmem⟩ := showsOnly_armResult (s := s) (r := 0) (k := n) (by decide)
  exact ⟨_, hrun, hres, State.get_settle.trans (State.slot_armResult (hn ▸ bits_lt)), hregs, hmem⟩

theorem argOk_invalid (h : 6 ≤ action) : argOk action w = false := by
  unfold argOk
  rw [decide_eq_false (by omega : ¬ action ≤ 5), Bool.false_and]

theorem argOk_modeChange (h : fld w 1 0 ≠ 3) : argOk 0 w = true := by
  unfold argOk
  rw [beq_false_of_ne h]
  rfl

theorem argOk_roleSwap : argOk 1 w = true := rfl

end

/-- Settles O13: each refusal by the first test of `State.arm` that finds it, Cancel by the slot's state. -/
theorem armRefusalsAndCancel : Obligations.ArmRefusalsAndCancel := by
  unfold Obligations.ArmRefusalsAndCancel
  intro s scope tag hup hscope
  refine ⟨fun action => ?_, fun hmode harg => ?_, fun hrole => ?_, launchCancel_armed hup hscope rfl, launchCancel_free hup hscope rfl⟩
  · have h15 : 6 + action.val ≠ 15 := by omega
    exact completes_refused (exec_armInvalidAction hup action scope) h15 (State.arm_badArg (argOk_invalid (Nat.le_add_right _ _)))
      (by decide)
  · exact completes_refused (exec_armModeChange hup scope tag) (by decide)
      (State.arm_badState hscope (argOk_modeChange harg) rfl rfl hmode) (by decide)
  · exact completes_refused (exec_armRoleSwap hup scope tag) (by decide) (State.arm_staleRole hscope argOk_roleSwap rfl hrole)
      (by decide)

/-! ### A slot taken (R64, R66, R68) -/

section
variable {s t u : State} {a : Arm} {b n r k action : Nat} {x : Bool}

theorem slotFor_range (h : s.slotFor action = some (n, x)) : n < 16 := by
  have hfirst : ∀ p : Nat → Bool, ∀ k, (List.range 16).find? p = some k → k < 16 :=
    fun p k hk => List.mem_range.mp (List.mem_of_find?_eq_some hk)
  unfold State.slotFor at h
  dsimp only at h
  split at h
  next k hk =>
    cases h
    split at hk
    · exact hfirst _ _ hk
    · cases hk
  next =>
    obtain ⟨k, hk, he⟩ := Option.map_eq_some_iff.mp h
    cases he
    exact hfirst _ _ hk

/-- Word 1 of a slot armed. -/
def Arm.word (a : Arm) : Word :=
  W (a.action <<< 32 + a.scope <<< 30 + (if a.action == 0 then a.tag else 0) <<< 14 + 1 <<< 11 + a.received.toNat <<< 10)

/-- The slot holds the arm. -/
def State.slotFilled (s : State) (n : Nat) (a : Arm) : State :=
  let s := (s.setReg (TIM_SLOT_W0 n) a.target).setReg (TIM_SLOT_W1 n) a.word
  { s with t := { s.t with slotArg := s.t.slotArg.set n a.arg, slotIss := s.t.slotIss.set n a.issuer } }

/-- A mode change armed is pending. -/
def State.pendShown (s : State) (a : Arm) : State :=
  if a.action == 0 then (s.putB SYS_MODE.PEND true).put SYS_MODE.PMODE (fld a.arg 1 0) else s

/-- The arm in its slot, its result shown. -/
def State.armed (s : State) (n : Nat) (a : Arm) (x : Bool) : State := ((s.slotFilled n a).pendShown a).armResult (if x then 1 else 0) n

theorem State.arm_takes (h : s.Admits a) (ht : targetTest a.target s.t.beat a.minlead = 0) (hslot : s.slotFor a.action = some (n, x)) :
    s.arm a = (s.armed n a x, true) := by
  obtain ⟨hscope, hmode, hrole⟩ := h.tests
  unfold State.arm
  simp only [hscope, hmode, hrole, ht, hslot, Bool.false_eq_true, if_false]
  rfl

/-! ### What the slot reads -/

theorem slotW0_ne_slotW1 : TIM_SLOT_W0 n ≠ TIM_SLOT_W1 n := by simp only [TIM_SLOT_W0, TIM_SLOT_W1]; omega

theorem State.reg_slotFilled_w0 : (s.slotFilled n a).reg (TIM_SLOT_W0 n) = a.target :=
  (State.reg_setReg_other (s := s.setReg (TIM_SLOT_W0 n) a.target) slotW0_ne_slotW1).trans State.reg_setReg_same

theorem State.reg_slotFilled_w1 : (s.slotFilled n a).reg (TIM_SLOT_W1 n) = a.word :=
  State.reg_setReg_same (s := s.setReg (TIM_SLOT_W0 n) a.target)

theorem State.mem_slotFilled : (s.slotFilled n a).mem = s.mem := rfl

theorem State.slotArg_slotFilled {d : Word} : (s.slotFilled n a).t.slotArg.getD n d = a.arg := Tbl.getD_set_same

theorem State.reg_pendShown (h : b ≠ SYS_MODE) : (s.pendShown a).reg b = s.reg b := by
  unfold State.pendShown
  rw [State.reg_ite, State.reg_put_other h, State.reg_putB_other h, ite_self]

theorem State.mem_pendShown : (s.pendShown a).mem = s.mem := by
  unfold State.pendShown
  rw [State.mem_ite, State.mem_put, State.mem_putB, ite_self]

theorem State.t_pendShown : (s.pendShown a).t = s.t := by
  unfold State.pendShown
  rw [State.t_ite, State.t_put, State.t_putB, ite_self]

theorem State.pend_pendShown (h : a.action = 0) : (s.pendShown a).flag SYS_MODE.PEND = true := by
  unfold State.pendShown
  rw [if_pos (beq_iff_eq.mpr h), State.flag_put_other (by decide) (by decide), State.flag_putB_same (by decide)]

theorem State.pmode_pendShown (h : a.action = 0) : (s.pendShown a).get SYS_MODE.PMODE = fld a.arg 1 0 := by
  unfold State.pendShown
  rw [if_pos (beq_iff_eq.mpr h), State.get_put_same (by decide)]
  exact Nat.mod_eq_of_lt bits_lt

theorem State.t_armResult : (s.armResult r k).t = s.t := by
  unfold State.armResult
  rw [State.t_put, State.t_put]

theorem State.reg_armed (hm : b ≠ SYS_MODE) (hl : b ≠ TIM_LSTAT) : (s.armed n a x).reg b = (s.slotFilled n a).reg b := by
  unfold State.armed
  rw [State.reg_armResult hl, State.reg_pendShown hm]

theorem State.sysMode_armed : (s.armed n a x).reg SYS_MODE = ((s.slotFilled n a).pendShown a).reg SYS_MODE :=
  State.reg_armResult (by decide)

theorem State.mem_armed : (s.armed n a x).mem = s.mem := by
  unfold State.armed
  rw [State.mem_armResult, State.mem_pendShown, State.mem_slotFilled]

theorem State.t_armed : (s.armed n a x).t = (s.slotFilled n a).t := by
  unfold State.armed
  rw [State.t_armResult, State.t_pendShown]

/-! ### The fields of word 1 -/

/-- Word 1 as a sum of its fields at their places. -/
theorem Arm.toNat_word (h4 : a.action < 16) (hs : a.scope < 4) (ht : a.tag < 65536) : a.word.toNat = a.action * 2 ^ 32 + a.scope * 2 ^ 30
    + (if a.action == 0 then a.tag else 0) * 2 ^ 14 + 2 ^ 11 + a.received.toNat * 2 ^ 10 := by
  have htag : (if a.action == 0 then a.tag else 0) < 65536 := by split <;> omega
  have hrec : a.received.toNat < 2 := Bool.toNat_lt a.received
  unfold Arm.word
  simp only [BitVec.toNat_ofNat, Nat.shiftLeft_eq]
  omega

theorem Arm.fields_word (h4 : a.action < 16) (hs : a.scope < 4) (ht : a.tag < 65536) (hrec : a.received = false) :
    fld a.word 13 11 = 1 ∧ fld a.word 35 32 = a.action ∧ fld a.word 31 30 = a.scope ∧ fld a.word 10 10 = 0
      ∧ fld a.word 29 14 = (if a.action == 0 then a.tag else 0) := by
  have htag : (if a.action == 0 then a.tag else 0) < 65536 := by split <;> omega
  have hword := Arm.toNat_word h4 hs ht
  rw [hrec, Bool.toNat_false, Nat.zero_mul] at hword
  simp only [fld, bits_eq, hword]
  generalize (if a.action == 0 then a.tag else 0) = g at htag
  omega

/-! ### The arm carried on (R69, R366) -/

/-- Registers and memory as before but for the counts of telegrams dropped and of arms issued again; the slots' arguments as before. -/
def Carried (s t : State) : Prop := RegsKeptBut [SN_TXCNT, TIM_MSTAT] s t ∧ t.mem = s.mem ∧ t.t.slotArg = s.t.slotArg

theorem Carried.trans (h : Carried s t) (h' : Carried t u) : Carried s u :=
  ⟨h.1.trans h'.1, h'.2.1.trans h.2.1, h'.2.2.trans h.2.2⟩

theorem Carried.refl : Carried s s := ⟨fun _ _ => rfl, rfl, rfl⟩

theorem Carried.ite {p : Prop} [Decidable p] (ht : Carried s t) (hu : Carried s u) : Carried s (if p then t else u) := by
  split
  · exact ht
  · exact hu

theorem carried_inc {f : Fld} (h : f.addr = SN_TXCNT) : Carried s (s.inc f k) :=
  ⟨fun _ hb => State.reg_inc_other (h ▸ List.ne_of_not_mem_cons hb), State.mem_inc, congrArg TimeS.slotArg State.t_inc⟩

theorem carried_mstat {f : Fld} (h : f.addr = TIM_MSTAT) : Carried s (s.put f k) := by
  refine ⟨fun b hb => State.reg_put_other ?_, State.mem_put, congrArg TimeS.slotArg State.t_put⟩
  simp only [List.mem_cons, List.not_mem_nil, or_false, not_or] at hb
  exact h ▸ hb.2

/-- A telegram of the unit space uses no register but the count of those dropped. -/
theorem carried_formTele {typ grp count : Nat} {body : List Word} : Carried s (s.formTele typ false grp count body) := by
  have hsn : ∀ (z : State) (y : SnS), Carried z { z with sn := y } := fun _ _ => ⟨fun _ _ => rfl, rfl, rfl⟩
  unfold State.formTele
  dsimp only
  refine .ite .refl ?_
  rw [Bool.false_and]
  split
  · exact .refl
  · simp only [Bool.false_eq_true, if_false]
    exact .ite (hsn _ _) (.ite ((hsn _ _).trans (carried_inc rfl)) ((hsn _ _).trans (hsn _ _)))

theorem carried_carryArm : Carried s (s.carryArm a) := by
  have hsend : ∀ r : JRec, Carried s (s.sendRec r) := fun _ => ⟨fun _ _ => rfl, rfl, rfl⟩
  unfold State.carryArm
  exact .ite (Carried.trans (.ite (hsend _) .refl) carried_formTele) (.ite (hsend _) .refl)

/-- What follows an arm that has taken its slot: it is carried on, and a mode change noted as the last one issued here. -/
theorem carried_issue (h : s.arm a = (t, true)) : Carried t (s.issue a) := by
  have htag : ∀ (z : State) y, Carried z { z with t := { z.t with issuedTag := y } } := fun _ _ => ⟨fun _ _ => rfl, rfl, rfl⟩
  unfold State.issue
  rw [h]
  exact .ite ((carried_carryArm.trans (.ite .refl (carried_mstat rfl))).trans (htag _ _)) carried_carryArm

end

section
variable {s t : State} {b n action scope tag : Nat} {x : Bool} {c : Instr} {P : Nat → State → Prop}

/-! ### The six commands (R62, R64, R66, R68) -/

/-- The words of a slot lie apart from the other registers that an arm writes. -/
theorem slotWords_apart (hn : n < 16) (hb : b = TIM_SLOT_W0 n ∨ b = TIM_SLOT_W1 n) :
    b ∉ [SN_TXCNT, TIM_MSTAT] ∧ b ≠ SYS_MODE ∧ b ≠ TIM_LSTAT := by
  simp only [TIM_SLOT_W0, TIM_SLOT_W1] at hb
  simp only [SN_TXCNT, TIM_MSTAT, SYS_MODE, TIM_LSTAT, List.mem_cons, List.not_mem_nil, or_false]
  omega

/-- The machine has armed action and scope in slot n, with the host's target and argument. -/
theorem arms_armed (hn : n < 16) (h6 : action < 6) (hscope : scope < 4) (htag : tag < 65536)
    (h : Carried (s.armed n (s.hostArm action scope tag) x) t) :
    t.reg (TIM_SLOT_W0 n) = s.reg TIM_LTGT ∧ t.get (TIM_SLOT_W1.STATE n) = 1 ∧ t.get (TIM_SLOT_W1.ACTION n) = action
    ∧ t.get (TIM_SLOT_W1.SCOPE n) = scope ∧ t.get (TIM_SLOT_W1.ORIGIN n) = 0 ∧ t.t.slotArg.getD n 0 = s.reg TIM_LARG
    ∧ t.get TIM_LSTAT.RESULT = x.toNat ∧ t.get TIM_LSTAT.SLOT = n ∧ MemKept s t
    ∧ t.get (TIM_SLOT_W1.TAG n) = (if action == 0 then tag else 0) := by
  obtain ⟨hregs, hmem, harg⟩ := h
  have hslots : ∀ b, b = TIM_SLOT_W0 n ∨ b = TIM_SLOT_W1 n →
      t.reg b = (s.slotFilled n (s.hostArm action scope tag)).reg b := by
    intro b hb
    obtain ⟨hcar, hmode, hlstat⟩ := slotWords_apart hn hb
    rw [hregs b hcar, State.reg_armed hmode hlstat]
  have hw1 : t.reg (TIM_SLOT_W1 n) = (s.hostArm action scope tag).word := (hslots _ (.inr rfl)).trans State.reg_slotFilled_w1
  have hlstat : t.reg TIM_LSTAT = (s.armed n (s.hostArm action scope tag) x).reg TIM_LSTAT := hregs _ (by decide)
  have hres : (if x then 1 else 0) = x.toNat := by cases x <;> rfl
  obtain ⟨hst, hact, hsc, horig, htg⟩ := Arm.fields_word (a := s.hostArm action scope tag) (by simp only [State.hostArm]; omega) hscope htag rfl
  refine ⟨(hslots _ (.inl rfl)).trans State.reg_slotFilled_w0, ?_, ?_, ?_, ?_, ?_, ?_, ?_, memKept_of_mem_eq (hmem.trans State.mem_armed), ?_⟩
  · exact (congrArg (fld · 13 11) hw1).trans hst
  · exact (congrArg (fld · 35 32) hw1).trans hact
  · exact (congrArg (fld · 31 30) hw1).trans hsc
  · exact (congrArg (fld · 10 10) hw1).trans horig
  · rw [harg, State.t_armed]
    exact State.slotArg_slotFilled
  · rw [get_of_reg_eq (f := TIM_LSTAT.RESULT) hlstat, ← hres]
    exact State.result_armResult (by split <;> decide)
  · rw [get_of_reg_eq (f := TIM_LSTAT.SLOT) hlstat]
    exact State.slot_armResult hn
  · exact (congrArg (fld · 29 14) hw1).trans htg

/-- An arm of the host that passes its tests takes its slot. -/
theorem arms_of_admits (hrun : exec c s = .next (settle (s.lcmd action scope tag))) (h6 : action < 6) (hscope : scope < 4)
    (htag : tag < 65536) (hadm : s.Admits (s.hostArm action scope tag))
    (ht : targetTest (s.reg TIM_LTGT) s.t.beat (s.minlead scope) = 0)
    (hP : ∀ (n : Nat) (t : State), t.get (TIM_SLOT_W1.TAG n) = (if action == 0 then tag else 0) →
      t.reg SYS_MODE = ((s.slotFilled n (s.hostArm action scope tag)).pendShown (s.hostArm action scope tag)).reg SYS_MODE → P n t) :
    Arms c action scope s P := by
  intro n x hslot
  have hcar : Carried (s.armed n (s.hostArm action scope tag) x) (settle (s.issue (s.hostArm action scope tag))) :=
    (carried_issue (State.arm_takes hadm ht hslot)).trans ⟨fun _ _ => State.reg_settle, State.mem_settle, rfl⟩
  rw [State.lcmd_arm (by omega)] at hrun
  obtain ⟨hw0, hst, hact, hsc, horig, harg, hres, hsl, hmem, htg⟩ := arms_armed (slotFor_range hslot) h6 hscope htag hcar
  exact ⟨_, hrun, hw0, hst, hact, hsc, horig, harg, hres, hsl, hmem, hP n _ htg ((hcar.1 _ (by decide)).trans State.sysMode_armed)⟩

end

/-- Settles O12. An arm that passes its tests fills the slot; carrying it on uses no register but the count of telegrams dropped. -/
theorem armingTakesASlot : Obligations.ArmingTakesASlot := by
  unfold Obligations.ArmingTakesASlot
  intro s scope tag hup hscope ht
  have hplain : ∀ {c : Instr} {action : Nat}, exec c s = .next (settle (s.lcmd action scope tag.toNat)) → 2 ≤ action → action ≤ 5 →
      Arms c action scope s (fun _ _ => True) := fun hrun h2 h5 =>
    arms_of_admits hrun (by omega) scope.isLt tag.isLt (State.admits_plain hscope h2 h5) ht (fun _ _ _ _ => trivial)
  refine ⟨fun hmode hst harg => ?_, fun hrole => ?_, hplain (exec_armTableSync hup scope tag) (by decide) (by decide),
    hplain (exec_armOutputCommit hup scope tag) (by decide) (by decide), hplain (exec_armScanStart hup scope tag) (by decide) (by decide),
    hplain (exec_armRecorderMark hup scope tag) (by decide) (by decide)⟩
  · refine arms_of_admits (exec_armModeChange hup scope tag) (by decide) scope.isLt tag.isLt
      ⟨hscope, argOk_modeChange harg, fun _ => ⟨hmode, hst⟩, fun h1 => absurd h1 Nat.zero_ne_one⟩ ht (fun n t htg hreg => ⟨htg, ?_, ?_⟩)
    · exact (flag_of_reg_eq (f := SYS_MODE.PEND) hreg).trans (State.pend_pendShown rfl)
    · exact (get_of_reg_eq (f := SYS_MODE.PMODE) hreg).trans (State.pmode_pendShown rfl)
  · exact arms_of_admits (exec_armRoleSwap hup scope tag) (by decide) scope.isLt tag.isLt
      ⟨hscope, argOk_roleSwap, fun h0 => absurd h0 Nat.one_ne_zero, fun _ => hrole⟩ ht (fun _ _ _ _ => trivial)

/-! ## Steps of node time, holdover and pulses (R55 to R60) -/

section
variable {s t u : State} {f : Fld} {b n ns : Nat} {d : Int}

/-! ### A step that skips no armed slot (R58) -/

/-- The armed slots whose target a step moves node time past. -/
def State.lateSlots (s : State) (d : Int) : List Nat :=
  (List.range 16).filter (fun n => s.armedSlot n && ((s.reg (TIM_SLOT_W0 n) - s.slotNow n).toNat : Int) < d)

/-- Node time moved by a step, which waits no more. -/
def State.stepMoved (s : State) (d : Int) : State :=
  let s := s.setTime ((s.micros : Int) + d).toNat (W (unsign 36 ((s.t.beat.toNat : Int) + d)))
  { s with
    t := { s.t with disc := { s.t.disc with stepPend := none, slewLeft := 0 } }
    jl := { s.jl with stepAnn := none } }

theorem State.stepTime_eq : s.stepTime d = ((s.stepMoved d).inOrder (s.lateSlots d)).foldl (fun z n => z.runSlot true n)
    ((s.stepMoved d).inc TIM_DSTAT.STEPS) := rfl

theorem State.lateSlots_nil (h : ∀ n : Fin 16, s.armedSlot n = true → d ≤ ((s.reg (TIM_SLOT_W0 n) - s.slotNow n).toNat : Int)) :
    s.lateSlots d = [] := by
  unfold State.lateSlots
  rw [List.filter_eq_nil_iff]
  intro n hn hlate
  rw [Bool.and_eq_true, decide_eq_true_eq] at hlate
  exact absurd (h ⟨n, List.mem_range.mp hn⟩ hlate.1) (not_le.mpr hlate.2)

theorem State.stepTime_unskipped (h : s.lateSlots d = []) : s.stepTime d = (s.stepMoved d).inc TIM_DSTAT.STEPS := by
  rw [State.stepTime_eq, h]
  rfl

theorem State.stepDue_some (hd : s.t.disc.stepPend = some d) (husec : s.t.usec = 0) (hphase : s.t.phase = 0) : s.stepDue = s.stepTime d := by
  unfold State.stepDue
  rw [hd]
  dsimp only
  rw [if_pos (by simp [husec, hphase])]

theorem exec_nodeTimeStep (hup : s.up = true) : exec .nodeTimeStep s = .next (settle s.stepDue) := act_up hup

theorem State.reg_stepMoved : (s.stepMoved d).reg b = s.reg b := rfl

theorem State.mem_stepMoved : (s.stepMoved d).mem = s.mem := rfl

theorem State.beat_stepMoved : (s.stepMoved d).t.beat = W (unsign 36 ((s.t.beat.toNat : Int) + d)) := rfl

theorem State.stepPend_stepMoved : (s.stepMoved d).t.disc.stepPend = none := rfl

/-- A counter field after its increment (R5, code E). -/
theorem State.get_inc_min (h : f.ok = true) : (s.inc f).get f = min (2 ^ (f.hi + 1 - f.lo) - 1) (s.get f + 1) := by
  rw [State.get_inc_same h, satAt]
  split <;> omega

theorem nodeTimeStep_moves (hup : s.up = true) (hd : s.t.disc.stepPend = some d) (husec : s.t.usec = 0) (hphase : s.t.phase = 0)
    (h : s.lateSlots d = []) : Completes .nodeTimeStep s (fun t =>
      t.t.beat = W (unsign 36 ((s.t.beat.toNat : Int) + d)) ∧ t.t.disc.stepPend = none
        ∧ t.get TIM_DSTAT.STEPS = min 255 (s.get TIM_DSTAT.STEPS + 1) ∧ RegsKeptBut [TIM_DSTAT] s t ∧ MemKept s t) := by
  have hrun := exec_nodeTimeStep hup
  rw [State.stepDue_some hd husec hphase, State.stepTime_unskipped h] at hrun
  refine ⟨_, hrun, ?_, ?_, ?_, fun b hb => ?_, memKept_of_mem_eq ?_⟩
  · rw [State.t_settle, State.t_inc, State.beat_stepMoved]
  · rw [State.t_settle, State.t_inc, State.stepPend_stepMoved]
  · rw [State.get_settle, State.get_inc_min (by decide), get_of_reg_eq State.reg_stepMoved]
    rfl
  · rw [State.reg_settle, State.reg_inc_other (List.ne_of_not_mem_cons hb), State.reg_stepMoved]
  · rw [State.mem_settle, State.mem_inc, State.mem_stepMoved]

theorem nodeTimeStep_none (hup : s.up = true) (h : s.t.disc.stepPend = none ∨ s.t.usec ≠ 0) :
    Completes .nodeTimeStep s (fun t => t.t = s.t ∧ AllKept s t) := by
  have hrun := exec_nodeTimeStep hup
  rw [State.stepDue_none h] at hrun
  exact ⟨_, hrun, State.t_settle, allKept_settle⟩

/-! ### Holdover (R54, R56) -/

/-- Without a trusted lock, TRUST stands for HOLDOVER seconds after the last one. -/
def State.heldOver (s : State) : Bool :=
  !s.lockTrusted s.source54 && s.flag TIM_DSTAT.TRUST && decide (s.since s.t.disc.holdAt < s.get TIM_DISC.HOLDOVER * 1000000)

/-- The seconds of holdover that HOLDLEFT shows. -/
def State.holdLeft (s : State) : Nat :=
  if s.lockTrusted s.source54 then s.get TIM_DISC.HOLDOVER * 1000000 / 1000000
  else if s.heldOver then ceilDiv (s.get TIM_DISC.HOLDOVER * 1000000 - s.since s.t.disc.holdAt) 1000000 else 0

/-- TIM_DSTAT as the discipline shows it. -/
def State.disciplined (s : State) : State :=
  ((((s.heldFrom.put TIM_DSTAT.SRC s.source54).putB TIM_DSTAT.LOCK (s.source54 != 0)).putB TIM_DSTAT.TRUST
    (s.lockTrusted s.source54 || s.heldOver)).putB TIM_DSTAT.HOLD s.heldOver).put TIM_DSTAT.HOLDLEFT s.holdLeft

theorem State.discipline_eq : s.discipline = s.disciplined.ratePtp := rfl

/-- A rate window that lapses leaves TIM_DSTAT alone. -/
theorem State.dstat_discipline (hf : f.addr = TIM_DSTAT) : s.discipline.get f = s.disciplined.get f := by
  refine get_of_reg_eq ?_
  rw [State.discipline_eq, hf]
  exact State.ratePtp_frame.1 _ (by decide) (by decide)

theorem State.hold_discipline : s.discipline.flag TIM_DSTAT.HOLD = s.heldOver := by
  unfold State.flag
  rw [State.dstat_discipline rfl]
  exact (State.flag_put_other (by decide) (by decide)).trans (State.flag_putB_same (by decide))

theorem State.trust_discipline : s.discipline.flag TIM_DSTAT.TRUST = (s.lockTrusted s.source54 || s.heldOver) := by
  unfold State.flag
  rw [State.dstat_discipline rfl]
  exact ((State.flag_put_other (by decide) (by decide)).trans (State.flag_put_other (by decide) (by decide))).trans
    (State.flag_putB_same (by decide))

theorem State.holdLeft_discipline (hlock : s.lockTrusted s.source54 = false) (hheld : s.heldOver = false) :
    s.discipline.get TIM_DSTAT.HOLDLEFT = 0 := by
  have hzero : s.holdLeft = 0 := by
    unfold State.holdLeft
    rw [hlock, hheld]
    rfl
  rw [State.dstat_discipline rfl, State.disciplined, State.get_put_same (by decide), hzero]
  rfl

theorem exec_holdoverExpiry (hup : s.up = true) (hhold : s.flag TIM_DSTAT.HOLD = true) :
    exec .holdoverExpiry s = .next (settle s.discipline) := by
  have hrun : exec .holdoverExpiry s = act s (fun s => if s.flag TIM_DSTAT.HOLD then s.discipline else s) := rfl
  rw [hrun, act_up hup, if_pos hhold]

theorem holdoverExpiry_ends (hup : s.up = true) (hhold : s.flag TIM_DSTAT.HOLD = true) (hlock : s.lockTrusted s.source54 = false)
    (h : s.get TIM_DISC.HOLDOVER * 1000000 ≤ s.since s.t.disc.holdAt) : Completes .holdoverExpiry s (fun t =>
      t.flag TIM_DSTAT.HOLD = false ∧ t.flag TIM_DSTAT.TRUST = false ∧ t.get TIM_DSTAT.HOLDLEFT = 0 ∧ t.t.beat = s.t.beat
        ∧ MemKept s t) := by
  have hheld : s.heldOver = false := by
    unfold State.heldOver
    rw [decide_eq_false (not_lt.mpr h), Bool.and_false]
  refine ⟨_, exec_holdoverExpiry hup hhold, ?_, ?_, ?_, ?_, memKept_of_mem_eq ?_⟩
  · rw [State.flag_settle, State.hold_discipline, hheld]
  · rw [State.flag_settle, State.trust_discipline, hlock, hheld]
    rfl
  · rw [State.get_settle, State.holdLeft_discipline hlock hheld]
  · rw [State.t_settle, State.beat_discipline]
  · rw [State.mem_settle, State.mem_discipline]

theorem holdoverExpiry_early (hup : s.up = true) (hhold : s.flag TIM_DSTAT.HOLD = true) (htrust : s.flag TIM_DSTAT.TRUST = true)
    (hlock : s.lockTrusted s.source54 = false) (h : s.since s.t.disc.holdAt < s.get TIM_DISC.HOLDOVER * 1000000) :
    Completes .holdoverExpiry s (fun t => t.flag TIM_DSTAT.HOLD = true ∧ t.flag TIM_DSTAT.TRUST = true ∧ MemKept s t) := by
  have hheld : s.heldOver = true := by
    unfold State.heldOver
    rw [hlock, htrust, decide_eq_true h]
    rfl
  refine ⟨_, exec_holdoverExpiry hup hhold, ?_, ?_, memKept_of_mem_eq ?_⟩
  · rw [State.flag_settle, State.hold_discipline, hheld]
  · rw [State.flag_settle, State.trust_discipline, hheld, Bool.or_true]
  · rw [State.mem_settle, State.mem_discipline]

/-! ### PPS_IN (R55, R57) -/

/-- Memory, the beat count and what is noted of PPS_IN are as before. -/
def PulsesKept (s t : State) : Prop :=
  t.mem = s.mem ∧ t.t.beat = s.t.beat ∧ t.t.disc.ppsLast = s.t.disc.ppsLast ∧ t.t.disc.ppsGood = s.t.disc.ppsGood

theorem PulsesKept.trans (h : PulsesKept s t) (h' : PulsesKept t u) : PulsesKept s u :=
  ⟨h'.1.trans h.1, h'.2.1.trans h.2.1, h'.2.2.1.trans h.2.2.1, h'.2.2.2.trans h.2.2.2⟩

theorem PulsesKept.refl : PulsesKept s s := ⟨rfl, rfl, rfl, rfl⟩

theorem PulsesKept.ite {p : Prop} [Decidable p] (ht : PulsesKept s t) (hu : PulsesKept s u) : PulsesKept s (if p then t else u) := by
  split
  · exact ht
  · exact hu

theorem pulsesKept_put {v : Nat} : PulsesKept s (s.put f v) := by
  unfold PulsesKept
  rw [State.mem_put, State.t_put]
  exact ⟨rfl, rfl, rfl, rfl⟩

theorem pulsesKept_discipline : PulsesKept s s.discipline := by
  obtain ⟨-, hmem, -, -, n, ht⟩ := State.discipline_frame (s := s)
  unfold PulsesKept
  rw [hmem, ht]
  exact ⟨rfl, rfl, rfl, rfl⟩

theorem pulsesKept_slewRate : PulsesKept s s.slewRate := by
  have hfree : PulsesKept s s.free.2 := ⟨rfl, rfl, rfl, rfl⟩
  exact hfree.trans pulsesKept_put

theorem pulsesKept_awaitStep {o : Option Int} : PulsesKept s (s.awaitStep o) := by
  have hjl : ∀ (z : State) (y : JlS), PulsesKept z { z with jl := y } := fun _ _ => ⟨rfl, rfl, rfl, rfl⟩
  have hstep : PulsesKept s { s with t := { s.t with disc := { s.t.disc with stepPend := o } } } := ⟨rfl, rfl, rfl, rfl⟩
  exact .ite (hstep.trans (hjl _ _)) hstep

/-- A measured offset is slewed away or awaits a step; PPS_IN's own record stands. -/
theorem pulsesKept_correct : PulsesKept s (s.correct d) := by
  have hslew : ∀ (z : State) (i : Int), PulsesKept z ({ z with t := { z.t with disc := { z.t.disc with slewLeft := i } } } : State).slewRate :=
    fun z i => PulsesKept.trans (t := { z with t := { z.t with disc := { z.t.disc with slewLeft := i } } }) ⟨rfl, rfl, rfl, rfl⟩
      pulsesKept_slewRate
  unfold State.correct
  refine pulsesKept_put.trans (.ite ?_ (.ite .refl pulsesKept_awaitStep))
  exact .ite (hslew _ _) ((hslew _ _).trans pulsesKept_awaitStep)

/-- The interval since the last edge is a round within 100 beats (R55). -/
def State.ppsRegular (s : State) : Bool :=
  match s.t.disc.ppsLast with
  | some b => 999900 ≤ s.since b && s.since b ≤ 1000100
  | none => false

/-- An edge noted at the beat in force. -/
def State.ppsNoted (s : State) : State :=
  { s with t := { s.t with disc := { s.t.disc with
      ppsLast := some s.t.run, ppsGood := if s.ppsRegular then min 4 (s.t.disc.ppsGood + 1) else 0 } } }

theorem pulsesKept_ppsEdge : PulsesKept s.ppsNoted (s.ppsEdge ns) :=
  PulsesKept.ite (pulsesKept_discipline.trans pulsesKept_correct) pulsesKept_discipline

theorem State.ppsRegular_some (h : s.t.disc.ppsLast = some n) : s.ppsRegular = true ↔ 999900 ≤ s.since n ∧ s.since n ≤ 1000100 := by
  unfold State.ppsRegular
  rw [h]
  simp

theorem State.ppsRegular_none (h : s.t.disc.ppsLast = none) : s.ppsRegular = false := by
  unfold State.ppsRegular
  rw [h]

theorem exec_ppsInEdge (hup : s.up = true) (ns : Fin 1000) : exec (.ppsInEdge ns) s = .next (settle (s.ppsEdge ns)) :=
  act_up (p := fun s => s.ppsEdge ns) hup

theorem ppsInEdge_noted (hup : s.up = true) (ns : Fin 1000) : Completes (.ppsInEdge ns) s (fun t => t.t.disc.ppsLast = some s.t.run
    ∧ (∀ b, s.t.disc.ppsLast = some b → 999900 ≤ s.since b ∧ s.since b ≤ 1000100 → t.t.disc.ppsGood = min 4 (s.t.disc.ppsGood + 1))
    ∧ (∀ b, s.t.disc.ppsLast = some b → ¬(999900 ≤ s.since b ∧ s.since b ≤ 1000100) → t.t.disc.ppsGood = 0)
    ∧ (s.t.disc.ppsLast = none → t.t.disc.ppsGood = 0) ∧ MemKept s t ∧ t.t.beat = s.t.beat) := by
  obtain ⟨hmem, hbeat, hlast, hgood⟩ := pulsesKept_ppsEdge (s := s) (ns := ns)
  refine ⟨_, exec_ppsInEdge hup ns, hlast, fun b hb h => ?_, fun b hb h => ?_, fun hb => ?_, memKept_of_mem_eq (State.mem_settle.trans hmem),
    hbeat⟩
  · exact hgood.trans (if_pos ((State.ppsRegular_some hb).mpr h))
  · exact hgood.trans (if_neg fun hreg => h ((State.ppsRegular_some hb).mp hreg))
  · exact hgood.trans (if_neg (by rw [State.ppsRegular_none hb]; exact Bool.false_ne_true))

/-! ### PPS_OUT (R60, R80) -/

theorem timed_of_up (hup : s.up = true) : s.timed = true := by
  unfold State.up at hup
  unfold State.timed
  rw [hup, Bool.or_true]

theorem orElse_one {v : Nat} : orElse v 1 = max 1 v := by
  unfold orElse
  split
  · next h => rw [beq_iff_eq.mp h]; rfl
  · next h => simp only [beq_iff_eq] at h; omega

theorem State.ppsOut_ppsFall : s.ppsFall.pins.ppsOut = (s.pins.ppsOut && decide (s.since s.t.ppsAt < max 1 (s.get TIM_PPSO.WIDTH))) := by
  unfold State.ppsFall
  rw [orElse_one]
  split
  · next h =>
    rw [Bool.and_eq_true, decide_eq_true_eq] at h
    rw [decide_eq_false (not_lt.mpr h.2), Bool.and_false]
  · next h =>
    rw [Bool.and_eq_true, decide_eq_true_eq, not_and, not_le] at h
    cases hout : s.pins.ppsOut
    · rfl
    · rw [decide_eq_true (h hout)]
      rfl

theorem allKept_ppsFall : AllKept s s.ppsFall := by
  unfold State.ppsFall
  split
  · exact ⟨fun _ => rfl, memKept_of_eq rfl rfl rfl rfl⟩
  · exact ⟨fun _ => rfl, memKept_of_eq rfl rfl rfl rfl⟩

theorem exec_ppsOutFall (hup : s.up = true) : exec .ppsOutFall s = .next (settle s.ppsFall) := by
  show done (if s.timed then s.ppsFall else s) = _
  rw [if_pos (timed_of_up hup)]
  rfl

theorem ppsOutFall_falls (hup : s.up = true) : Completes .ppsOutFall s (fun t =>
    t.pins.ppsOut = (s.pins.ppsOut && decide (s.since s.t.ppsAt < max 1 (s.get TIM_PPSO.WIDTH))) ∧ AllKept s t) :=
  ⟨_, exec_ppsOutFall hup, State.ppsOut_settle.trans State.ppsOut_ppsFall, allKept_ppsFall.trans allKept_settle⟩

end

/-- Settles O10: the step by the slots it skips (none), holdover by the beats since the last trusted lock, the pulses by their
intervals. -/
theorem nodeTimeStepAndPulses : Obligations.NodeTimeStepAndPulses := by
  unfold Obligations.NodeTimeStepAndPulses
  exact fun s hup => ⟨fun d hd husec hphase h => nodeTimeStep_moves hup hd husec hphase (State.lateSlots_nil h), nodeTimeStep_none hup,
    holdoverExpiry_ends hup, holdoverExpiry_early hup, ppsInEdge_noted hup, ppsOutFall_falls hup⟩

/-! ## Actions at their target beat (R64 to R68, R73, R79, R410) -/

section
variable {s : State} {c : Instr} {b n m action st tag iss : Nat} {late : Bool} {P : State → Prop}

/-! ### The end of a slot's action (R68) -/

/-- An island that the slot's action names is not alive. -/
def State.slotDead (s : State) (n : Nat) : Bool :=
  (s.namedIslands (s.get (TIM_SLOT_W1.ACTION n)) (s.t.slotArg.getD n 0)).any (fun i => !s.alive i)

/-- The slot ends in a state; any but EXECUTED raises the launch interrupt source. -/
def State.slotEnded (s : State) (n st : Nat) : State :=
  if st == 2 then s.put (TIM_SLOT_W1.STATE n) st else (s.put (TIM_SLOT_W1.STATE n) st).raise HST_ISRC.LAUNCH

theorem State.runSlot_eq : s.runSlot late n = (s.runAction n).slotEnded n (if late then 5 else if s.slotDead n then 3 else 2) := rfl

theorem State.reg_slotEnded (hw : b ≠ TIM_SLOT_W1 n) (hi : b ≠ HST_ISRC) : (s.slotEnded n st).reg b = s.reg b := by
  unfold State.slotEnded
  rw [State.reg_ite, State.reg_raise_other hi, State.reg_put_other hw, ite_self]

theorem State.mem_slotEnded : (s.slotEnded n st).mem = s.mem := by
  unfold State.slotEnded
  rw [State.mem_ite, State.mem_raise, State.mem_put, ite_self]

theorem State.t_slotEnded : (s.slotEnded n st).t = s.t := by
  unfold State.slotEnded
  rw [State.t_ite, State.t_raise, State.t_put, ite_self]

theorem State.state_slotEnded (hn : n < 16) (h8 : st < 8) : (s.slotEnded n st).get (TIM_SLOT_W1.STATE n) = st := by
  have hput : (s.put (TIM_SLOT_W1.STATE n) st).get (TIM_SLOT_W1.STATE n) = st := by
    rw [State.get_put_same slotState_ok]
    exact Nat.mod_eq_of_lt h8
  have hne : TIM_SLOT_W1 n ≠ HST_ISRC := by simp only [TIM_SLOT_W1, HST_ISRC]; omega
  have hraise : ((s.put (TIM_SLOT_W1.STATE n) st).raise HST_ISRC.LAUNCH).get (TIM_SLOT_W1.STATE n) = st :=
    (get_of_reg_eq (f := TIM_SLOT_W1.STATE n) (State.reg_raise_other hne)).trans hput
  unfold State.slotEnded
  rw [State.get_ite, hput, hraise, ite_self]

theorem State.launch_due (hdue : s.dueSlots.head? = some n) (hact : s.get (TIM_SLOT_W1.ACTION n) = action) :
    s.launch action n = (s.runAction n).slotEnded n (if s.slotDead n then 3 else 2) := by
  unfold State.launch
  rw [if_pos (by simp [hdue, hact]), State.runSlot_eq, if_neg Bool.false_ne_true]

/-- A launch command whose slot is the first due runs its action and ends the slot. -/
theorem launches_of_action (hrun : exec c s = .next (settle (s.launch action n))) (hn : n < 16)
    (hP : s.get (TIM_SLOT_W1.ACTION n) = action → P (settle ((s.runAction n).slotEnded n (if s.slotDead n then 3 else 2)))) :
    Launches c action n s P := by
  intro hdue hact
  rw [State.launch_due hdue hact] at hrun
  refine ⟨_, hrun, ?_, hP hact⟩
  rw [State.get_settle, State.state_slotEnded hn (by split <;> decide), State.slotDead, hact]

/-! ### The commands -/

theorem exec_modeChange (hup : s.up = true) (slot : Fin 16) : exec (.modeChange slot) s = .next (settle (s.launch 0 slot)) :=
  act_up (p := fun s => s.launch 0 slot) hup
theorem exec_tableSync (hup : s.up = true) (slot : Fin 16) : exec (.tableSync slot) s = .next (settle (s.launch 2 slot)) :=
  act_up (p := fun s => s.launch 2 slot) hup
theorem exec_outputCommit (hup : s.up = true) (slot : Fin 16) : exec (.outputCommit slot) s = .next (settle (s.launch 3 slot)) :=
  act_up (p := fun s => s.launch 3 slot) hup
theorem exec_scanStart (hup : s.up = true) (slot : Fin 16) : exec (.scanStart slot) s = .next (settle (s.launch 4 slot)) :=
  act_up (p := fun s => s.launch 4 slot) hup
theorem exec_recorderMark (hup : s.up = true) (slot : Fin 16) : exec (.recorderMark slot) s = .next (settle (s.launch 5 slot)) :=
  act_up (p := fun s => s.launch 5 slot) hup

/-- ROLE_SWAP is the active's; the standby's share has a row of its own (R410). -/
theorem exec_roleSwap (hup : s.up = true) (hp : s.pstate ≠ 5) (slot : Fin 16) :
    exec (.roleSwap slot) s = .next (settle (s.launch 1 slot)) := by
  have hrun : exec (.roleSwap slot) s = act s (fun s => if s.pstate == 5 then s else s.launch 1 slot) := rfl
  rw [hrun, act_up hup, if_neg (by simpa using hp)]

/-! ### The action of each code (R64) -/

theorem State.runAction_mode (h : s.get (TIM_SLOT_W1.ACTION n) = 0) : s.runAction n = s.modeChange n := by
  unfold State.runAction
  rw [h]
  rfl

theorem State.runAction_swap (h : s.get (TIM_SLOT_W1.ACTION n) = 1) :
    s.runAction n = if !s.alive 23 then s else if s.pstate == 5 then s.standbySwap else s.roleSwap := by
  unfold State.runAction
  rw [h]
  rfl

theorem State.runAction_mark (h : s.get (TIM_SLOT_W1.ACTION n) = 5) :
    s.runAction n = if s.alive 24 then s.trigSlot n 3 0 n (s.t.slotArg.getD n 0) else s := by
  unfold State.runAction
  rw [h]
  rfl

/-! ### Mode changes (R64, R73, R79) -/

theorem State.mode_clearPend : s.clearPend.mode = s.mode :=
  (State.get_put_other (s := s.putB SYS_MODE.PEND false) (by decide) (by decide)).trans (State.get_putB_other (by decide) (by decide))

theorem State.mode_setMode (h : m < 4) : (s.setMode m).mode = m := by
  unfold State.mode
  rw [get_of_reg_eq (f := SYS_MODE.MODE) State.sysMode_setMode, State.get_put_same (by decide)]
  exact Nat.mod_eq_of_lt h

theorem State.pend_setMode : (s.setMode m).flag SYS_MODE.PEND = s.flag SYS_MODE.PEND := by
  rw [flag_of_reg_eq (f := SYS_MODE.PEND) State.sysMode_setMode, State.flag_put_other (by decide) (by decide)]

theorem State.reg_digestTag (h : b ≠ TIM_MDIG) : (s.digestTag tag iss).reg b = s.reg b := State.reg_setReg_other h

/-- A mode change applied anew: the mode, its digest, and the recorder's trigger. -/
def State.modeApplied (s : State) (m tag iss : Nat) : State := (s.clearPend.setMode m).digestTag tag iss

theorem State.modeChange_cases : (s.modeChange n = s.clearPend ∧ s.mode = fld (s.t.slotArg.getD n 0) 1 0)
    ∨ ∃ u : State, u = s.modeApplied (fld (s.t.slotArg.getD n 0) 1 0) (s.get (TIM_SLOT_W1.TAG n)) (s.t.slotIss.getD n 0)
      ∧ s.modeChange n = u.trigSlot n 1 7 0 (u.reg TIM_MDIG) := by
  unfold State.modeChange
  dsimp only
  split
  · next h =>
    rw [Bool.and_eq_true, beq_iff_eq, beq_iff_eq, State.mode_clearPend] at h
    exact .inl ⟨rfl, h.2⟩
  · exact .inr ⟨_, rfl, rfl⟩

/-- After a mode change SYS_MODE shows the mode of its argument and no change pending. -/
theorem State.sysMode_modeChange : (s.modeChange n).mode = fld (s.t.slotArg.getD n 0) 1 0
    ∧ (s.modeChange n).flag SYS_MODE.PEND = false := by
  obtain ⟨he, hmode⟩ | ⟨u, hu, he⟩ := State.modeChange_cases (s := s) (n := n)
  · rw [he, State.mode_clearPend]
    exact ⟨hmode, State.pend_clearPend⟩
  · have hreg : (s.modeChange n).reg SYS_MODE = (s.clearPend.setMode (fld (s.t.slotArg.getD n 0) 1 0)).reg SYS_MODE := by
      rw [he]
      refine (State.reg_trigger (by decide)).trans ?_
      rw [hu]
      exact State.reg_digestTag (by decide)
    constructor
    · exact (get_of_reg_eq (f := SYS_MODE.MODE) hreg).trans (State.mode_setMode bits_lt)
    · rw [flag_of_reg_eq (f := SYS_MODE.PEND) hreg, State.pend_setMode, State.pend_clearPend]

/-! ### Role swaps (R410) -/

theorem State.roleSwap_skips (h : s.pstate ≠ 2 ∨ s.get JL_STAT.PARTNER ≠ 5 ∨ s.flag JL_STAT.REF = true) :
    s.roleSwap = s.inc JL_SWAP.SKIPS := by
  have hno : (s.pstate == 2 && s.get JL_STAT.PARTNER == 5 && !s.flag JL_STAT.REF) = false := by
    rcases h with h | h | h <;> simp [h]
  unfold State.roleSwap
  rw [hno, if_neg Bool.false_ne_true]

theorem State.mem_trigSlot {cls sub src : Nat} {ev0 : Word} : (s.trigSlot n cls sub src ev0).mem = s.mem := State.mem_trigger

theorem modeChange_launches (hup : s.up = true) (slot : Fin 16) :
    Launches (.modeChange slot) 0 slot s (fun t => t.mode = fld (s.t.slotArg.getD slot 0) 1 0 ∧ t.flag SYS_MODE.PEND = false) := by
  refine launches_of_action (exec_modeChange hup slot) slot.isLt (fun hact => ?_)
  have hreg : ∀ st, (settle ((s.runAction slot).slotEnded slot st)).reg SYS_MODE = (s.modeChange slot).reg SYS_MODE := fun st => by
    rw [State.reg_settle, State.reg_slotEnded slotW1_ne_mode.symm (by decide), State.runAction_mode hact]
  obtain ⟨hmode, hpend⟩ := State.sysMode_modeChange (s := s) (n := slot)
  exact ⟨(get_of_reg_eq (f := SYS_MODE.MODE) (hreg _)).trans hmode, (flag_of_reg_eq (f := SYS_MODE.PEND) (hreg _)).trans hpend⟩

theorem roleSwap_launches (hup : s.up = true) (hp : s.pstate ≠ 5) (slot : Fin 16) : Launches (.roleSwap slot) 1 slot s (fun t =>
    s.alive 23 = true → (s.pstate ≠ 2 ∨ s.get JL_STAT.PARTNER ≠ 5 ∨ s.flag JL_STAT.REF = true) →
      t.get JL_SWAP.SKIPS = min (2 ^ (JL_SWAP.SKIPS.hi + 1 - JL_SWAP.SKIPS.lo) - 1) (s.get JL_SWAP.SKIPS + 1) ∧ MemKept s t) := by
  refine launches_of_action (exec_roleSwap hup hp slot) slot.isLt (fun hact halive hskip => ?_)
  have hrun : s.runAction slot = s.inc JL_SWAP.SKIPS := by
    rw [State.runAction_swap hact, halive, if_neg (by decide), if_neg (by simpa using hp), State.roleSwap_skips hskip]
  have hne : JL_SWAP ≠ TIM_SLOT_W1 slot := by simp only [TIM_SLOT_W1, JL_SWAP]; omega
  rw [hrun]
  refine ⟨?_, memKept_of_mem_eq ?_⟩
  · rw [State.get_settle, get_of_reg_eq (f := JL_SWAP.SKIPS) (State.reg_slotEnded hne (by decide)), State.get_inc_min (by decide)]
  · rw [State.mem_settle, State.mem_slotEnded, State.mem_inc]

theorem recorderMark_launches (hup : s.up = true) (slot : Fin 16) : Launches (.recorderMark slot) 5 slot s (fun t => MemKept s t) := by
  refine launches_of_action (exec_recorderMark hup slot) slot.isLt (fun hact => memKept_of_mem_eq ?_)
  rw [State.mem_settle, State.mem_slotEnded, State.runAction_mark hact, State.mem_ite, State.mem_trigSlot, ite_self]

end

/-- Settles O14. Every launch command ends its slot after the action, so the slot's state goes by the islands alone. -/
theorem launchesExecuteDueSlot : Obligations.LaunchesExecuteDueSlot := by
  unfold Obligations.LaunchesExecuteDueSlot
  intro s slot hup
  exact ⟨modeChange_launches hup slot, fun hp => roleSwap_launches hup hp slot,
    launches_of_action (exec_tableSync hup slot) slot.isLt fun _ => trivial,
    launches_of_action (exec_outputCommit hup slot) slot.isLt fun _ => trivial,
    launches_of_action (exec_scanStart hup slot) slot.isLt fun _ => trivial, recorderMark_launches hup slot⟩

/-! ## Node time through the islands' work (R50)

The islands and engines write their own records and registers; of node time, an action of a launch slot can move only the moment since
which the discipline holds over. -/

section
variable {s : State} {a i k n m v req cls sub src : Nat} {w ev0 : Word} {x : Bool}

/-! ### Reads of the islands -/

@[simp] theorem State.t_integrity {step isl addr resp : Nat} : (s.integrity step isl addr resp).t = s.t := by
  unfold State.integrity
  rw [State.t_raise, State.t_trigNow]

@[simp] theorem State.t_sramRead_clean : (s.sramRead a .clean req).1.t = s.t := by
  unfold State.sramRead
  dsimp only
  split
  · rw [State.t_integrity, State.t_inc]
  · rfl

@[simp] theorem State.t_sramFetch {l : List Nat} : (s.sramFetch req l).t = s.t :=
  foldl_keeps State.t _ _ _ fun _ _ => State.t_sramRead_clean

/-! ### Loop outputs -/

@[simp] theorem State.t_loHold : s.loHold.t = s.t := foldl_keeps State.t _ _ _ fun _ _ => State.t_setLo

@[simp] theorem State.t_loSample : (s.loSample n).t = s.t := by
  unfold State.loSample State.mirrorFetch
  dsimp only
  split
  · rfl
  · rw [State.t_setLo, State.t_sramFetch]

@[simp] theorem State.t_loBeat : s.loBeat.t = s.t := foldl_keeps State.t _ _ _ fun _ _ => State.t_loSample

@[simp] theorem State.t_publish : (s.publish i w).t = s.t := rfl

@[simp] theorem State.t_loPublish : (s.loPublish n).t = s.t := by
  unfold State.loPublish
  rw [State.t_ite, State.t_publish, ite_self]

@[simp] theorem State.t_loCommit : (s.loCommit n).t = s.t := by
  unfold State.loCommit
  dsimp only
  rw [State.t_ite, State.t_setLo, ite_self]

/-! ### Discrete points -/

@[simp] theorem State.t_dioHold : s.dioHold.t = s.t := foldl_keeps State.t _ _ _ fun _ _ => State.t_setDio

@[simp] theorem State.t_dioDue : (s.dioDue n).t = s.t := State.t_setDio

@[simp] theorem State.t_dioClamps : (s.dioClamps n).t = s.t := State.t_put

@[simp] theorem State.t_dioDrive : (s.dioDrive n).t = s.t := by
  unfold State.dioDrive
  simp only [State.t_ite, State.t_setDio, State.t_putB, State.t_put, State.t_dioClamps, ite_self]

@[simp] theorem State.t_dioDriveAll : s.dioDriveAll.t = s.t := foldl_keeps State.t _ _ _ fun _ _ => State.t_dioDrive

@[simp] theorem State.t_dutyRegs : (s.dutyRegs n).t = s.t := by
  unfold State.dutyRegs
  rw [State.t_putB, State.t_put]

@[simp] theorem State.t_dioCommit : (s.dioCommit n).t = s.t :=
  foldl_keeps State.t _ _ _ fun _ _ => by simp only [State.t_ite, State.t_dutyRegs, State.t_setDio, ite_self]

/-! ### Channels and speed inputs -/

@[simp] theorem State.t_refreshChan : (s.refreshChan n).t = s.t := by
  have hpub : ∀ y z, (s.publishAs n y z).t = s.t := fun _ _ => rfl
  unfold State.refreshChan State.writeChan
  simp only [State.t_putBit, hpub]

@[simp] theorem State.t_presentComp : (s.presentComp n).t = s.t := by
  unfold State.presentComp
  simp only [State.t_ite, State.t_putBit, State.t_setChan, ite_self]

@[simp] theorem State.t_spdDecide {y : Nat} : (s.spdDecide n y).t = s.t := by
  unfold State.spdDecide
  simp only [State.t_putB, State.t_put, State.t_setSpd]

@[simp] theorem State.t_setSup : (s.setSup n v).t = s.t := by
  unfold State.setSup
  simp only [State.t_ite, State.t_inc, State.t_setSpd, State.t_put, ite_self]

@[simp] theorem State.t_supEval : (s.supEval n).t = s.t := by
  unfold State.supEval
  dsimp only
  split <;> simp only [State.t_ite, State.t_setSup, ite_self]

@[simp] theorem State.t_spdSettled : (s.spdSettled n).t = s.t := by
  unfold State.spdSettled State.spdSettle
  rw [State.t_spdDecide, State.t_supEval, State.t_spdDecide]

@[simp] theorem State.t_showPoint : (s.showPoint n).t = s.t := by
  unfold State.showPoint
  simp only [State.t_ite, State.t_presentComp, State.t_refreshChan, State.t_loPublish, State.t_dioDrive, State.t_dioDue,
    State.t_spdSettled, ite_self]

/-! ### Cached copies and reloads -/

@[simp] theorem State.t_setCopy {c : PtCache} : (s.setCopy n c).t = s.t := by
  have hset : (s.setCache n c).t = s.t ∧ ∀ y, (s.setAlm (n - 184) y).t = s.t := ⟨rfl, fun _ => rfl⟩
  unfold State.setCopy
  simp only [State.t_ite, hset.1, hset.2, ite_self]

@[simp] theorem State.t_endForces : s.endForces.t = s.t := by
  unfold State.endForces
  dsimp only
  rw [foldl_keeps State.t _ _ _ fun _ _ => State.t_showPoint]
  exact foldl_keeps State.t _ _ _ fun _ _ => by rw [State.t_putB, State.t_putB, State.t_setCopy]

@[simp] theorem State.t_setPass {p : Pass} : (s.setPass n p).t = s.t := by
  unfold State.setPass
  split <;> rfl

@[simp] theorem State.t_showPending : (s.showPending n).t = s.t := by
  unfold State.showPending
  rw [State.t_ite, State.t_put, ite_self]

@[simp] theorem State.t_showFirst : (s.showFirst n).t = s.t := by
  unfold State.showFirst
  simp only [State.t_ite, State.t_sramFetch, State.t_setPass, State.t_showPending, ite_self]

@[simp] theorem State.t_readOn : (s.readOn n).t = s.t := by
  unfold State.readOn
  dsimp only
  split
  · rfl
  · simp only [State.t_ite, State.t_sramFetch, State.t_setPass, State.t_showFirst, ite_self]

@[simp] theorem State.t_trigReload {l : List Nat} : (s.trigReload n l x).t = s.t := by
  have htries : ∀ z : State, (l.foldl (fun (z : State) (p : Nat) =>
      if (z.copyOf p).tries == 0 then z else z.setCopy p { z.copyOf p with tries := 0 }) z).t = z.t :=
    fun z => foldl_keeps State.t _ _ _ fun _ _ => by rw [State.t_ite, State.t_setCopy, ite_self]
  unfold State.trigReload
  dsimp only
  split
  · rfl
  · split
    · exact State.t_setPass
    · rw [State.t_readOn, State.t_setPass, htries]

@[simp] theorem State.t_tsync : (s.tsync n v).t = s.t := State.t_trigReload

/-! ### Scan lists -/

@[simp] theorem State.t_scanPend : (s.scanPend k n).t = s.t := by
  unfold State.scanPend
  simp only [State.t_ite, State.t_putB, State.t_inc, ite_self]

@[simp] theorem State.t_countLay {l : List Nat} : (s.countLay k l).t = s.t := by
  unfold State.countLay
  rw [State.t_ite, foldl_keeps State.t _ _ _ fun _ _ => State.t_setChan, ite_self]

@[simp] theorem State.t_beginConv {j : Nat} {l : List Nat} : (s.beginConv k n j l).t = s.t := State.t_setIsl

@[simp] theorem State.t_startPass : (s.startPass k).t = s.t := by
  unfold State.startPass
  split
  · rfl
  · dsimp only
    split
    · simp only [State.t_beginConv, State.t_setIsl, State.t_countLay, State.t_putB]
    · simp only [State.t_incMod, State.t_setIsl, State.t_countLay, State.t_putB]

@[simp] theorem State.t_scanTrigger : (s.scanTrigger k n).t = s.t := by
  unfold State.scanTrigger State.idleStart
  simp only [State.t_ite, State.t_startPass, State.t_scanPend, ite_self]

/-! ### Modes -/

@[simp] theorem State.t_clearCellForces : s.clearCellForces.t = s.t :=
  foldl_keeps State.t _ _ _ fun _ _ => by rw [State.t_putB, State.t_putB]

@[simp] theorem State.t_captureModeAbort : s.captureModeAbort.t = s.t := by
  unfold State.captureModeAbort State.calEnd
  rw [State.t_ite, State.t_raise, State.t_putB, State.t_put, ite_self]

@[simp] theorem State.t_clearPend : s.clearPend.t = s.t := by
  unfold State.clearPend
  rw [State.t_put, State.t_putB]

@[simp] theorem State.t_setMode : (s.setMode m).t = s.t := by
  have hlay : ∀ (z : State) (c : Bool), (if c then ({ z with chan := z.chan.map (fun (p : Nat × ChanS) => (p.1, { p.2 with lay := 0 })) } :
      State) else z).t = z.t := fun z c => by cases c <;> rfl
  unfold State.setMode
  dsimp only
  rw [State.t_raise, State.t_dioDriveAll, State.t_loBeat, hlay]
  simp only [State.t_ite, State.t_captureModeAbort, State.t_clearCellForces, State.t_endForces, State.digestMode, State.t_setReg,
    State.t_put, State.t_dioHold, State.t_loHold, ite_self]

@[simp] theorem State.t_trigSlot : (s.trigSlot n cls sub src ev0).t = s.t := State.t_trigger

@[simp] theorem State.t_modeChange : (s.modeChange n).t = s.t := by
  obtain ⟨he, -⟩ | ⟨u, hu, he⟩ := State.modeChange_cases (s := s) (n := n)
  · rw [he, State.t_clearPend]
  · rw [he, State.t_trigSlot, hu, State.modeApplied, State.digestTag, State.t_setReg, State.t_setMode, State.t_clearPend]

end

section
variable {s t u : State} {n : Nat} {late : Bool} {d : Int} {tk : Tick} {tasks : Bool}
  {fails : BitVec 16} {ups : List UpsetAt}

/-! ### Role swaps and the discipline (R54, R384, R410) -/

/-- Node time is as before, but for the moment since which the discipline holds over. -/
def TimeKept (s t : State) : Prop := ∃ n, t.t = { s.t with disc := { s.t.disc with holdAt := n } }

theorem timeKept_of_eq (h : t.t = s.t) : TimeKept s t := ⟨s.t.disc.holdAt, h⟩

theorem TimeKept.refl : TimeKept s s := timeKept_of_eq rfl

theorem TimeKept.trans (h : TimeKept s t) (h' : TimeKept t u) : TimeKept s u := by
  obtain ⟨n, h⟩ := h
  obtain ⟨m, h'⟩ := h'
  exact ⟨m, by rw [h', h]⟩

theorem TimeKept.ite {p : Prop} [Decidable p] (ht : TimeKept s t) (hu : TimeKept s u) : TimeKept s (if p then t else u) := by
  split
  · exact ht
  · exact hu

theorem TimeKept.foldl {α : Type} {g : State → α → State} (hg : ∀ z y, TimeKept z (g z y)) (l : List α) (h : TimeKept s t) :
    TimeKept s (l.foldl g t) := by
  induction l generalizing t with
  | nil => exact h
  | cons y r ih => exact ih (h.trans (hg t y))

theorem TimeKept.sameCounts (h : TimeKept s t) : SameCounts t.t s.t := by
  obtain ⟨n, h⟩ := h
  rw [h]
  exact ⟨rfl, rfl, rfl, rfl, rfl, rfl, rfl⟩

theorem timeKept_setPstate : TimeKept s (s.setPstate n) := by
  unfold State.setPstate
  refine .ite .refl ?_
  refine TimeKept.trans (timeKept_of_eq ?_) State.discipline_frame.2.2.2.2
  rw [State.t_putInStep]
  dsimp only
  rw [State.t_raise, State.t_put, State.t_put]

@[simp] theorem State.t_roleChange : s.roleChange.t = s.t := by
  unfold State.roleChange
  dsimp only
  rw [State.t_trigNow]
  dsimp only
  rw [State.t_put, State.t_setReg]

@[simp] theorem State.t_redrive : s.redrive.t = s.t := by
  unfold State.redrive
  rw [State.t_dioDriveAll, State.t_loBeat]

@[simp] theorem State.t_refEnd : s.refEnd.t = s.t := State.t_putB

@[simp] theorem State.t_replayClear : s.replayClear.t = s.t := rfl

theorem timeKept_becomeActive : TimeKept s s.becomeActive := by
  have hjl : ∀ (z : State) (y : JlS), ({ z with jl := y } : State).roleChange.t = z.t := fun _ _ => State.t_roleChange
  unfold State.becomeActive
  dsimp only
  refine (TimeKept.trans (timeKept_of_eq ?_) timeKept_setPstate).trans (timeKept_of_eq State.t_redrive)
  rw [hjl, State.t_setLink, State.t_replayClear, State.t_refEnd]

theorem timeKept_roleSwap : TimeKept s s.roleSwap := by
  have hjl : ∀ (z : State) (y : JlS), TimeKept z { z with jl := y } := fun _ _ => timeKept_of_eq rfl
  have hswap : TimeKept s ((s.roleChange.setPstate 5).inc JL_SWAP.SWAPS) :=
    ((timeKept_of_eq State.t_roleChange).trans timeKept_setPstate).trans (timeKept_of_eq State.t_inc)
  exact .ite (((hswap.trans (hjl _ _)).trans (hjl _ _)).trans (timeKept_of_eq State.t_redrive)) (timeKept_of_eq State.t_inc)

theorem timeKept_standbySwap : TimeKept s s.standbySwap := by
  have hjl : ∀ (z : State) (y : JlS), TimeKept z { z with jl := y } := fun _ _ => timeKept_of_eq rfl
  exact .ite (timeKept_of_eq State.t_inc) (((timeKept_becomeActive.trans (timeKept_of_eq State.t_setPartner)).trans
    (timeKept_of_eq State.t_inc)).trans (hjl _ _))

/-! ### The action of a launch slot (R64) -/

theorem timeKept_runAction : TimeKept s (s.runAction n) := by
  unfold State.runAction
  dsimp only
  split
  · exact timeKept_of_eq State.t_modeChange
  · exact .ite .refl (.ite timeKept_standbySwap timeKept_roleSwap)
  · exact TimeKept.refl.foldl (fun _ _ => timeKept_of_eq State.t_tsync) _
  · have hlo : TimeKept s (if s.alive 16 then (setIdx (fld (s.t.slotArg.getD n 0) 15 0) 16).foldl State.loCommit s else s) :=
      .ite (TimeKept.refl.foldl (fun _ _ => timeKept_of_eq State.t_loCommit) _) .refl
    exact .ite (hlo.foldl (fun _ _ => timeKept_of_eq State.t_dioCommit) _) hlo
  · exact TimeKept.refl.foldl (fun _ _ => .ite (timeKept_of_eq State.t_scanTrigger) .refl) _
  · exact .ite (timeKept_of_eq State.t_trigSlot) .refl

theorem timeKept_runSlot : TimeKept s (s.runSlot late n) := by
  rw [State.runSlot_eq]
  exact timeKept_runAction.trans (timeKept_of_eq State.t_slotEnded)

/-! ### A step of node time (R58) -/

/-- The actions that a step skips leave the counts as the step sets them. -/
theorem sameCounts_stepTime : SameCounts (s.stepTime d).t (s.stepMoved d).t := by
  rw [State.stepTime_eq]
  exact ((timeKept_of_eq State.t_inc).foldl (fun _ _ => timeKept_runSlot) _).sameCounts

theorem State.inOrder_stepMoved : (s.stepMoved d).t.inOrder := ⟨Nat.mod_lt _ (by decide), rfl⟩

theorem State.inOrder_stepTime : (s.stepTime d).t.inOrder := sameCounts_stepTime.inOrder State.inOrder_stepMoved

theorem State.inOrder_stepDue (h : s.t.inOrder) : s.stepDue.t.inOrder := by
  unfold State.stepDue
  split
  · split
    · exact State.inOrder_stepTime
    · exact h
  · exact h

/-! ### Beats and boundaries keep node time in order (R50, R52) -/

theorem State.inOrder_catchUp (h : s.t.inOrder) : s.catchUp.t.inOrder := sameCounts_catchUp.inOrder h

theorem State.inOrder_caughtUp (h : s.t.inOrder) : s.caughtUp.t.inOrder := by
  unfold State.caughtUp
  split
  · exact State.inOrder_stepDue (State.inOrder_catchUp h)
  · exact State.inOrder_catchUp h

theorem State.inOrder_beat (h : s.t.inOrder) : (s.beat tk).t.inOrder := by
  by_cases ht : s.timed = true
  · exact (sameCounts_beat ht).inOrder (TimeS.inOrder_tick (State.inOrder_caughtUp h))
  · unfold State.beat
    rw [if_pos (by simpa using ht)]
    exact h

theorem State.inOrder_boundary (h : s.t.inOrder) : (s.boundary tasks fails ups).t.inOrder := sameCounts_boundary.inOrder h

theorem exec_roundBoundary : exec (.roundBoundary tk tasks fails ups) s = .next (settle (s.round tk tasks fails ups)) := rfl

theorem State.round_due (ht : s.timed = true) (h : s.t.due = true) : s.round tk tasks fails ups = s.boundary tasks fails ups := by
  unfold State.round
  rw [if_neg (by simp [ht]), if_pos h]

theorem State.round_last (ht : s.timed = true) (h : s.t.due = false) (hlast : s.t.usec = 999999) :
    s.round tk tasks fails ups = (s.beat tk).boundary tasks fails ups := by
  unfold State.round
  rw [if_neg (by simp [ht]), if_neg (by simp [h]), if_pos (by simp [hlast])]

theorem State.round_within (ht : s.timed = true) (h : s.t.due = false) (hlt : s.t.usec < 999999) : s.round tk tasks fails ups = s := by
  unfold State.round
  rw [if_neg (by simp [ht]), if_neg (by simp [h]), if_neg (by simp; omega)]

theorem roundBoundary_due (hs : s.t.inOrder) (ht : s.timed = true) (h : s.t.due = true) (husec : s.t.usec = 0) :
    Completes (.roundBoundary tk tasks fails ups) s (fun t => t.t.inOrder ∧ t.t.usec = 0 ∧ t.t.due = false ∧ t.t.beat = s.t.beat
      ∧ t.t.round = s.t.round) := by
  have hsame := sameCounts_boundary (s := s) (tasks := tasks) (fails := fails) (ups := ups)
  have hrun := exec_roundBoundary (s := s) (tk := tk) (tasks := tasks) (fails := fails) (ups := ups)
  rw [State.round_due ht h] at hrun
  exact ⟨_, hrun, State.inOrder_boundary hs, hsame.usec.trans husec, hsame.due, hsame.beat, hsame.round⟩

theorem roundBoundary_last (hs : s.t.inOrder) (ht : s.timed = true) (h : s.t.due = false) (hlast : s.t.usec = 999999) :
    Completes (.roundBoundary tk tasks fails ups) s (fun t => t.t.inOrder ∧ t.t.usec = 0 ∧ t.t.due = false
      ∧ t.t.beat = s.t.beat + 1 ∧ t.t.round = s.t.round + 1) := by
  have hstep : s.t.disc.stepPend = none ∨ s.t.usec ≠ 0 := .inr (by omega)
  obtain ⟨hbeat, husec, hround, -⟩ := State.beat_over (k := tk) ht hstep hlast
  have hsame := sameCounts_boundary (s := s.beat tk) (tasks := tasks) (fails := fails) (ups := ups)
  have hrun := exec_roundBoundary (s := s) (tk := tk) (tasks := tasks) (fails := fails) (ups := ups)
  rw [State.round_last ht h hlast] at hrun
  exact ⟨_, hrun, State.inOrder_boundary (State.inOrder_beat hs), hsame.usec.trans husec, hsame.due, hsame.beat.trans hbeat,
    hsame.round.trans hround⟩

theorem roundBoundary_within (ht : s.timed = true) (h : s.t.due = false) (hlt : s.t.usec < 999999) :
    Completes (.roundBoundary tk tasks fails ups) s (fun t => t.t = s.t ∧ AllKept s t) := by
  have hrun := exec_roundBoundary (s := s) (tk := tk) (tasks := tasks) (fails := fails) (ups := ups)
  rw [State.round_within ht h hlt] at hrun
  exact ⟨_, hrun, State.t_settle, allKept_settle⟩

theorem beatCounterWrap_inOrder (hs : s.t.inOrder) : Completes (.beatCounterWrap tk) s (fun t => t.t.inOrder) := by
  by_cases hb : s.t.beat = 68719476735#36
  · exact ⟨_, exec_beatCounterWrap hb, State.inOrder_beat hs⟩
  · have hrun : exec (.beatCounterWrap tk) s = done (if s.t.beat == 68719476735#36 then s.beat tk else s) := rfl
    rw [if_neg (by simpa using hb)] at hrun
    exact ⟨_, hrun, hs⟩

theorem nodeTimeStep_inOrder (hup : s.up = true) (hd : s.t.disc.stepPend = some d) (husec : s.t.usec = 0) (hphase : s.t.phase = 0) :
    Completes .nodeTimeStep s (fun t => t.t.inOrder ∧ t.t.disc.stepPend = none) := by
  have hrun := exec_nodeTimeStep hup
  rw [State.stepDue_some hd husec hphase] at hrun
  exact ⟨_, hrun, State.inOrder_stepTime, sameCounts_stepTime.stepPend⟩

end

/-- Settles O9. The counts move by `TimeS.tick` and by a step alone; a tick keeps the epoch, at the wrap by R52's offset, and a step
sets it anew, which the late actions it runs leave alone. -/
theorem timeStepsKeepRoundEpoch : Obligations.TimeStepsKeepRoundEpoch := by
  unfold Obligations.TimeStepsKeepRoundEpoch
  refine ⟨fun s k hs => ⟨_, exec_beatTick, State.inOrder_beat hs⟩, fun s k hs => beatCounterWrap_inOrder hs,
    fun s k tasks fails ups hs ht => ⟨roundBoundary_due hs ht, roundBoundary_last hs ht, roundBoundary_within ht⟩,
    fun s compat unit osc h => ?_, fun s d hup => nodeTimeStep_inOrder hup⟩
  obtain ⟨t, hrun, -, -, -, horder, -⟩ := completes_coldResetEnd compat unit osc h
  exact ⟨t, hrun, horder⟩

end Sys2Proof.Machine

namespace Sys2Proof.Machine

open Sys2Proof

/-! ## The checked reload (R93, R94) -/

/-- Channel 0 stands twice in its island's pass and has failed three attempts; of the present one, begun a beat ago, no word has been
read. -/
def listedTwice : State :=
  { State.reset with
    regs := [(SYS_ISTAT, W (2 ^ 29 - 1))]
    life := { State.reset.life with boot := .powered }
    t := { State.reset.t with run := 1 }
    cache := [(0, ⟨[], 3, false, false, false⟩)]
    isl := [(0, { IslS.fresh with reload := { Pass.none with due := [0, 0] } })] }

/-- The fourth failure ends the first of the two, and the second begins in the same beat: PENDING, not EXHAUSTED. -/
theorem stateFld_listedTwice_timeout : (listedTwice.reloadPoint 0 true).get (stateFld 0) = 2 := by decide

/-- Refutes O27 at its second part, which, unlike the first, does not keep the point out of the rest of the pass. Triggers list no point
twice (R92), but over every state the fourth failure's EXHAUSTED can be overwritten by the point's own next reload. -/
theorem not_checkedReloadAdoptsOrKeeps : ¬ Obligations.CheckedReloadAdoptsOrKeeps := by
  unfold Obligations.CheckedReloadAdoptsOrKeeps
  rintro ⟨-, hretry, -⟩
  have hup : listedTwice.up = true := by decide
  obtain ⟨t, hrun, -, hstate, -⟩ := hretry listedTwice 0 _ [0] hup (by decide) rfl rfl rfl (by decide) (by decide) (by decide) (by decide)
  have hexec : exec (.reloadRetry 0 true) listedTwice = .next (settle (listedTwice.reloadPoint 0 true)) :=
    act_up (p := fun s => if (s.copyOf 0).tries == 0 then s else s.reloadPoint 0 true) hup
  obtain rfl : settle (listedTwice.reloadPoint 0 true) = t := Host.Outcome.next.inj (hexec.symm.trans hrun)
  rw [State.get_settle, Fin.val_zero, stateFld_listedTwice_timeout] at hstate
  exact absurd hstate (by decide)

/-! ## Stale values and temperature sources (R101, R119, R153) -/

section
variable {s t u : State} {n i : Nat} {w : Word}

/-! ### A word of the live value mirror (R99, R406) -/

/-- The isolated observer alone rewrites what an island writes, and good words alone. -/
theorem State.writeMirror_unmarked (h : s.pstate ≠ 6 ∨ 2 < qOf w) : s.writeMirror i w = s.setMirror i w := by
  have hmark : ¬(s.pstate == 6 && decide (qOf w ≤ 2)) = true := by
    rw [Bool.and_eq_true, beq_iff_eq, decide_eq_true_eq]
    omega
  unfold State.writeMirror
  rw [if_neg hmark]

theorem State.mirror_setMirror_same : (s.setMirror i w).mirror i = w := by
  obtain ⟨hword, hpoison, -⟩ := stores_setSram (s := s) (a := 0o00400000 + i) (w := w)
  have hread : ¬(s.setMirror i w).sramPoison (0o00400000 + i) = true := ne_true_of_eq_false hpoison
  unfold State.mirror
  rw [if_neg hread]
  exact hword

/-- The mirror word `i` reads `w`; every other word of memory is as before. -/
def MirrorShows (i : Nat) (w : Word) (s t : State) : Prop :=
  t.mirror i = w ∧ SramKeptBut [0o00400000 + i] s t ∧ MramKept s t

theorem mirrorShows_setMirror : MirrorShows i w s (s.setMirror i w) := by
  obtain ⟨-, -, hsram, hmram, -⟩ := stores_setSram (s := s) (a := 0o00400000 + i) (w := w)
  exact ⟨State.mirror_setMirror_same, hsram, hmram⟩

theorem MirrorShows.before_kept (h : MirrorShows i w u t) (hu : MemKept s u) : MirrorShows i w s t := by
  obtain ⟨hword, hsram, hmram⟩ := h
  exact ⟨hword, fun a ha => ⟨(hsram a ha).1.trans (hu.1 a).1, (hsram a ha).2.trans (hu.1 a).2⟩,
    fun a => ⟨(hmram a).1.trans (hu.2 a).1, (hmram a).2.trans (hu.2 a).2⟩⟩

/-- Of memory alone. -/
theorem MirrorShows.of_mem_eq (h : MirrorShows i w s u) (ht : t.mem = u.mem) : MirrorShows i w s t := by
  obtain ⟨hsram, hmram⟩ := memKept_of_mem_eq ht
  obtain ⟨hword, hsram', hmram'⟩ := h
  exact ⟨(State.mirror_of_mem_eq ht).trans hword, fun a ha => ⟨(hsram a).1.trans (hsram' a ha).1, (hsram a).2.trans (hsram' a ha).2⟩,
    fun a => ⟨(hmram a).1.trans (hmram' a).1, (hmram a).2.trans (hmram' a).2⟩⟩

theorem mirrorShows_publish (h : s.pstate ≠ 6 ∨ 2 < qOf w) : MirrorShows i w s (s.publish i w) :=
  mirrorShows_setMirror.of_mem_eq (State.mem_publish.trans (congrArg State.mem (State.writeMirror_unmarked h)))

theorem State.reg_publish {a : Nat} : (s.publish i w).reg a = s.reg a := rfl

theorem State.mem_refreshChan : (s.refreshChan n).mem = (s.writeMirror n (s.chanWord n true)).mem := rfl

theorem State.chanOf_refreshChan {m : Nat} : (s.refreshChan n).chanOf m = s.chanOf m := rfl

theorem State.chanOf_settle : (settle s).chanOf n = s.chanOf n := rfl

theorem mirrorShows_refreshChan (h : s.pstate ≠ 6 ∨ 2 < qOf (s.chanWord n true)) :
    MirrorShows n (s.chanWord n true) s (s.refreshChan n) :=
  mirrorShows_setMirror.of_mem_eq (State.mem_refreshChan.trans (congrArg State.mem (State.writeMirror_unmarked h)))

/-! ### VALUE_STALE (R101, R129) -/

theorem State.staleTime_eq :
    s.staleTime n = orElse ((s.entry n).f 2 35 24) 50 * 100000 * (if s.mode = 1 then s.layDiv n else 1) := by
  unfold State.staleTime
  simp only [beq_iff_eq]

/-- A quality that is not bad is at most 6 (R9, R10). -/
theorem le_six_of_not_qBad {q : Nat} (h : qBad q = false) : q ≤ 6 := by
  simp only [qBad, Bool.or_eq_false_iff, decide_eq_false_iff_not, beq_eq_false_iff_ne] at h
  omega

theorem qOf_qword_four {v : Nat} : qOf (qword 4 v) = 4 := by
  have hv : v % 2 ^ 32 < 2 ^ 32 := Nat.mod_lt _ (by decide)
  unfold qOf qword fld bits
  rw [BitVec.toNat_ofNat, Nat.shiftRight_eq_div_pow]
  omega

/-- The channel marked stale. -/
def State.staled (s : State) (n : Nat) : State := s.setChan n { s.chanOf n with stale := true }

theorem State.chanOf_staled : (s.staled n).chanOf n = { s.chanOf n with stale := true } := State.chanOf_setChan_same

theorem State.mem_staled : (s.staled n).mem = s.mem := State.mem_setChan

/-- Step 4 of R100: the value kept, its quality 4. -/
theorem State.chanWord_staled (hen : s.enabled n = true) (hforced : (s.cacheOf n).forced = false) (hq14 : (s.cacheOf n).q14 = false)
    (hactive : s.inActiveList n = true) (hres : (s.chanOf n).res = some w) (hgood : qBad (qOf w) = false) :
    (s.staled n).chanWord n true = qword 4 (fld w 31 0) := by
  have hkept : (s.staled n).cacheOf n = s.cacheOf n ∧ (s.staled n).entry n = s.entry n ∧ (s.staled n).inActiveList n = s.inActiveList n :=
    ⟨rfl, rfl, rfl⟩
  obtain ⟨hentry, hon⟩ : (s.entry n).isEmpty = false ∧ (s.entry n).en = true := by
    simpa only [State.enabled, Bool.and_eq_true, Bool.not_eq_true'] using hen
  unfold State.chanWord State.chanWordBy
  simp [hkept, State.chanOf_staled, hforced, hentry, hon, hq14, hactive, hres, hgood, le_six_of_not_qBad hgood]

theorem State.makeStale_young (hres : (s.chanOf n).res = some w) (hyoung : s.since (s.chanOf n).renewAt ≤ s.staleTime n) :
    s.makeStale n = s := by
  unfold State.makeStale
  simp only [hres]
  exact if_neg (by simp [hyoung])

theorem State.makeStale_old (hres : (s.chanOf n).res = some w) (hen : s.enabled n = true) (hgood : qBad (qOf w) = false)
    (hfresh : (s.chanOf n).stale = false) (hold : s.staleTime n < s.since (s.chanOf n).renewAt) :
    s.makeStale n = (s.staled n).refreshChan n := by
  unfold State.makeStale State.staled
  simp only [hres]
  rw [if_pos (by simp [hen, hgood, hfresh, hold])]

theorem exec_valueStale (hup : s.up = true) (ch : Fin 128) : exec (.valueStale ch) s = .next (settle (s.makeStale ch)) :=
  act_up (p := fun s => s.makeStale ch) hup

theorem valueStale_young (hup : s.up = true) (ch : Fin 128) (hres : (s.chanOf ch).res = some w)
    (hyoung : s.since (s.chanOf ch).renewAt ≤ s.staleTime ch) : Completes (.valueStale ch) s (fun t => t.chan = s.chan ∧ AllKept s t) := by
  have hrun := exec_valueStale hup ch
  rw [State.makeStale_young hres hyoung] at hrun
  exact ⟨_, hrun, State.chan_settle, allKept_settle⟩

theorem valueStale_old (hup : s.up = true) (ch : Fin 128) (hres : (s.chanOf ch).res = some w) (hen : s.enabled ch = true)
    (hgood : qBad (qOf w) = false) (hfresh : (s.chanOf ch).stale = false) (hforced : (s.cacheOf ch).forced = false)
    (hq14 : (s.cacheOf ch).q14 = false) (hactive : s.inActiveList ch = true)
    (hold : s.staleTime ch < s.since (s.chanOf ch).renewAt) :
    Completes (.valueStale ch) s (fun t => (t.chanOf ch).stale = true ∧ MirrorShows ch (qword 4 (fld w 31 0)) s t) := by
  have hrun := exec_valueStale hup ch
  have hword : (s.staled ch).chanWord ch true = qword 4 (fld w 31 0) := State.chanWord_staled hen hforced hq14 hactive hres hgood
  have hshows := mirrorShows_refreshChan (s := s.staled ch) (n := ch) (.inr (by rw [hword, qOf_qword_four]; decide))
  rw [State.makeStale_old hres hen hgood hfresh hold] at hrun
  rw [hword] at hshows
  refine ⟨_, hrun, ?_, (hshows.before_kept (memKept_of_mem_eq State.mem_staled)).of_mem_eq State.mem_settle⟩
  rw [State.chanOf_settle, State.chanOf_refreshChan, State.chanOf_staled]

/-! ### SOURCE_HOLD_EXPIRY (R153) -/

theorem State.sourceOut_held (h : s.holdOver n (s.entry n) = false) : s.sourceOut n = s := if_neg (by simp [h])

theorem State.sourceOut_over (hreads : (s.entry n).readsSource = true) (hdead : s.liveSource n (s.entry n) = none)
    (hover : s.holdOver n (s.entry n) = true) : s.sourceOut n = s ∧ (s.chanOf n).srcOut = true
      ∨ s.sourceOut n = s.setChan n { s.chanOf n with srcOut := true } := by
  unfold State.sourceOut
  cases hout : (s.chanOf n).srcOut
  · exact .inr (if_pos (by simp [hreads, hdead, hover]))
  · exact .inl ⟨if_neg (by simp), rfl⟩

theorem exec_sourceHoldExpiry (hup : s.up = true) (ch : Fin 128) :
    exec (.sourceHoldExpiry ch) s = .next (settle (s.sourceOut ch)) :=
  act_up (p := fun s => s.sourceOut ch) hup

theorem sourceHoldExpiry_held (hup : s.up = true) (ch : Fin 128) (h : s.holdOver ch (s.entry ch) = false) :
    Completes (.sourceHoldExpiry ch) s (fun t => t.chan = s.chan ∧ AllKept s t) := by
  have hrun := exec_sourceHoldExpiry hup ch
  rw [State.sourceOut_held h] at hrun
  exact ⟨_, hrun, State.chan_settle, allKept_settle⟩

theorem sourceHoldExpiry_over (hup : s.up = true) (ch : Fin 128) (hreads : (s.entry ch).readsSource = true)
    (hdead : s.liveSource ch (s.entry ch) = none) (hover : s.holdOver ch (s.entry ch) = true) :
    Completes (.sourceHoldExpiry ch) s (fun t => (t.chanOf ch).srcOut = true ∧ AllKept s t) := by
  have hrun := exec_sourceHoldExpiry hup ch
  obtain ⟨he, hout⟩ | he := State.sourceOut_over hreads hdead hover
  · rw [he] at hrun
    exact ⟨_, hrun, hout, allKept_settle⟩
  · rw [he] at hrun
    have hkept : AllKept s (s.setChan ch { s.chanOf ch with srcOut := true }) := ⟨fun _ => rfl, memKept_of_mem_eq rfl⟩
    exact ⟨_, hrun, congrArg ChanS.srcOut State.chanOf_setChan_same, hkept.trans allKept_settle⟩

/-! ### CJ_MEASUREMENT (R119) -/

theorem exec_cjMeasurement (hup : s.up = true) (k : Fin 16) (raw : BitVec 24) : exec (.cjMeasurement k raw) s
    = .next (settle (if !s.alive k || !s.cjDue then s
        else (s.put (FI_CJRAW.RAW k) raw.toNat).publish (0o300 + k) (s.cjWord k raw.toInt))) :=
  act_up (p := fun s => if !s.alive k || !s.cjDue then s
    else (s.put (FI_CJRAW.RAW k) raw.toNat).publish (0o300 + k) (s.cjWord k raw.toInt)) hup

theorem cjMeasurement_idle (hup : s.up = true) (k : Fin 16) (raw : BitVec 24) (hdue : s.cjDue = false) :
    Completes (.cjMeasurement k raw) s (fun t => AllKept s t) := by
  have hrun := exec_cjMeasurement hup k raw
  rw [if_pos (by simp [hdue])] at hrun
  exact ⟨_, hrun, allKept_settle⟩

theorem State.pstate_put_cjRaw {k v : Nat} : (s.put (FI_CJRAW.RAW k) v).pstate = s.pstate :=
  get_of_reg_eq (State.reg_put_other (by dsimp only; omega))

theorem State.cjWord_failed {k : Nat} {raw : Int} (h : s.flag (FI_SCHK.CJ k) = true) : s.cjWord k raw = qword 12 0 := if_pos h

theorem cjMeasurement_due (hup : s.up = true) (k : Fin 16) (raw : BitVec 24) (halive : s.alive k = true) (hdue : s.cjDue = true)
    (hpstate : s.pstate ≠ 6) : Completes (.cjMeasurement k raw) s (fun t => t.get (FI_CJRAW.RAW k) = raw.toNat
      ∧ MirrorShows (0o300 + k) (s.cjWord k raw.toInt) s t ∧ RegsKeptBut [FI_CJRAW k] s t) := by
  have hpub := mirrorShows_publish (s := s.put (FI_CJRAW.RAW k) raw.toNat) (i := 0o300 + k) (w := s.cjWord k raw.toInt)
    (.inl (by rwa [State.pstate_put_cjRaw]))
  have hrun := exec_cjMeasurement hup k raw
  rw [if_neg (by simp [halive, hdue])] at hrun
  refine ⟨_, hrun, ?_, (hpub.before_kept (memKept_of_mem_eq State.mem_put)).of_mem_eq State.mem_settle, fun a ha => ?_⟩
  · rw [State.get_settle, get_of_reg_eq State.reg_publish, State.get_put_same rfl]
    exact Nat.mod_eq_of_lt raw.isLt
  · rw [State.reg_settle, State.reg_publish, State.reg_put_other (List.ne_of_not_mem_cons ha)]

end

/-- Settles O30. A stale value and a cold-junction word each rewrite one mirror word; with a failed cold-junction check its value is 0
(log 33). -/
theorem staleValuesAndTemperatureSources : Obligations.StaleValuesAndTemperatureSources := by
  unfold Obligations.StaleValuesAndTemperatureSources
  intro s hup
  refine ⟨fun ch w hres hen hgood hfresh => ⟨fun hyoung => ?_, fun hforced hq14 hactive hold => ?_⟩,
    fun ch hreads hdead => ⟨sourceHoldExpiry_over hup ch hreads hdead, sourceHoldExpiry_held hup ch⟩,
    fun k raw halive hdue hpstate => ?_, cjMeasurement_idle hup⟩
  · rw [← State.staleTime_eq] at hyoung
    exact valueStale_young hup ch hres hyoung
  · rw [← State.staleTime_eq] at hold
    exact valueStale_old hup ch hres hen hgood hfresh hforced hq14 hactive hold
  · obtain ⟨t, hrun, hraw, ⟨hword, hsram, hmram⟩, hregs⟩ := cjMeasurement_due hup k raw halive hdue hpstate
    have haddr : 0o00400000 + (0o300 + k.val) = 0o00400300 + k.val := by omega
    exact ⟨t, hrun, hraw, hword, fun hcheck => hword.trans (State.cjWord_failed hcheck), haddr ▸ hsram, hmram, hregs⟩

end Sys2Proof.Machine

namespace Sys2Proof.Machine

open Sys2Proof

/-! ## Comparators and strobes of a field island (R134, R135, R180) -/

section
variable {s t u : State} {n i j k : Nat} {f g : Fld}

/-! ### Registers and their bits -/

theorem State.bitOf_putBit_other {x : Bool} (h : f.ok = true) (ha : g.apart f = true) : (s.putBit f i x).bitOf g j = s.bitOf g j :=
  congrArg (bit · j) (State.get_putBit_other h ha)

theorem bitOf_of_reg_eq (h : t.reg f.addr = s.reg f.addr) : t.bitOf f i = s.bitOf f i := congrArg (bit · i) (get_of_reg_eq h)

theorem State.chanOf_of_chan_eq (h : t.chan = s.chan) : t.chanOf n = s.chanOf n := by
  unfold State.chanOf
  rw [h]

theorem State.islOf_of_isl_eq (h : t.isl = s.isl) : t.islOf k = s.islOf k := by
  unfold State.islOf
  rw [h]

theorem State.entry_of_enabled (h : s.enabled n = true) : (s.entry n).isEmpty = false ∧ (s.entry n).en = true := by
  simpa only [State.enabled, Bool.and_eq_true, Bool.not_eq_true'] using h

/-! ### COMPARATOR_CROSSING (R134) -/

section
variable {h l : Bool}

/-- Channel n's raw comparator outputs read `h` and `l`; no other register and no memory word has changed. -/
def ShowsRaw (n : Nat) (h l : Bool) (s t : State) : Prop :=
  t.bitOf (FI_CBITS.HRAW (fiOf n)) (n % 8) = h ∧ t.bitOf (FI_CBITS.LRAW (fiOf n)) (n % 8) = l
    ∧ RegsKeptBut [FI_CBITS (fiOf n)] s t ∧ MemKept s t

/-- The raw bits alone. -/
def State.rawPut (s : State) (n : Nat) (h l : Bool) : State :=
  (s.putBit (FI_CBITS.HRAW (fiOf n)) (n % 8) h).putBit (FI_CBITS.LRAW (fiOf n)) (n % 8) l

theorem showsRaw_rawPut : ShowsRaw n h l s (s.rawPut n h l) := by
  have hmod : n % 8 < 8 := Nat.mod_lt _ (by decide)
  refine ⟨?_, State.bitOf_putBit_same rfl hmod, fun a ha => ?_, memKept_of_mem_eq (State.mem_putBit.trans State.mem_putBit)⟩
  · calc (s.rawPut n h l).bitOf (FI_CBITS.HRAW (fiOf n)) (n % 8)
      _ = (s.putBit (FI_CBITS.HRAW (fiOf n)) (n % 8) h).bitOf (FI_CBITS.HRAW (fiOf n)) (n % 8) :=
        State.bitOf_putBit_other rfl (by simp [Fld.apart])
      _ = h := State.bitOf_putBit_same rfl hmod
  · have hne : a ≠ FI_CBITS (fiOf n) := List.ne_of_not_mem_cons ha
    exact (State.reg_putBit_other hne).trans (State.reg_putBit_other hne)

theorem State.setRaw_eq : ∃ c : ChanS, s.setRaw n h l = (s.rawPut n h l).setChan n c ∧ c.level = (s.chanOf n).level := ⟨_, rfl, rfl⟩

theorem ShowsRaw.before_allKept (hs : ShowsRaw n h l s u) (ht : AllKept u t) : ShowsRaw n h l s t := by
  obtain ⟨hhigh, hlow, hregs, hmem⟩ := hs
  obtain ⟨hregs', hmem'⟩ := ht
  exact ⟨(bitOf_of_reg_eq (hregs' _)).trans hhigh, (bitOf_of_reg_eq (hregs' _)).trans hlow, fun a ha => (hregs' a).trans (hregs a ha),
    hmem.trans hmem'⟩

theorem ShowsRaw.after_allKept (hu : AllKept s u) (hs : ShowsRaw n h l u t) : ShowsRaw n h l s t := by
  obtain ⟨hhigh, hlow, hregs, hmem⟩ := hs
  obtain ⟨hregs', hmem'⟩ := hu
  exact ⟨hhigh, hlow, fun a ha => (hregs a ha).trans (hregs' a), hmem'.trans hmem⟩

theorem allKept_setChan {c : ChanS} : AllKept s (s.setChan n c) := ⟨fun _ => State.reg_setChan, memKept_of_mem_eq State.mem_setChan⟩

theorem showsRaw_setRaw : ShowsRaw n h l s (s.setRaw n h l) := by
  obtain ⟨c, hc, -⟩ := State.setRaw_eq (s := s) (n := n) (h := h) (l := l)
  rw [hc]
  exact showsRaw_rawPut.before_allKept allKept_setChan

theorem State.level_setRaw : ((s.setRaw n h l).chanOf n).level = (s.chanOf n).level := by
  obtain ⟨c, hc, hlevel⟩ := State.setRaw_eq (s := s) (n := n) (h := h) (l := l)
  rw [hc, State.chanOf_setChan_same, hlevel]

end

/-- The input level seen last, before the comparators compare it. -/
def State.levelSeen (s : State) (n : Nat) (x : Int) : State := s.setChan n { s.chanOf n with level := some x }

theorem State.level_levelSeen {x : Int} : ((s.levelSeen n x).chanOf n).level = some x := congrArg ChanS.level State.chanOf_setChan_same

/-- Trims DACj of the high and the low comparator of channel n (R584; log 33). -/
def State.highTrim (s : State) (n : Nat) : Word := (s.factory (fiOf n)).getD (23 + 2 * (n % 8)) 0
def State.lowTrim (s : State) (n : Nat) : Word := (s.factory (fiOf n)).getD (24 + 2 * (n % 8)) 0

theorem State.crossing_eq {x : Int} (hen : s.enabled n = true) (halive : s.alive (fiOf n) = true) : s.crossing n x
    = (s.levelSeen n x).setRaw n ((s.entry n).highOut (s.highTrim n) x (s.bitOf (FI_CBITS.HRAW (fiOf n)) (n % 8)))
        ((s.entry n).lowOut (s.lowTrim n) x (s.bitOf (FI_CBITS.LRAW (fiOf n)) (n % 8))) := by
  have hcompare : s.crossing n x = (s.levelSeen n x).compare n := if_neg (by simp [hen, halive])
  rw [hcompare]
  unfold State.compare
  simp only [State.level_levelSeen]
  rfl

/-- Output of a comparator that is enabled or not: 1 above one level, 0 beyond the other, else as it was (R134). -/
theorem hysteresis_eq {p q : Prop} [Decidable p] [Decidable q] {on last : Bool} :
    (if !on then false else if p then true else if q then false else last) = (on && (decide p || (!decide q && last))) := by
  cases on
  · rfl
  · by_cases hp : p
    · simp [hp]
    · by_cases hq : q
      · simp [hp, hq]
      · simp [hp, hq]

section
variable {e : Entry} {trim : Word} {x c : Rat} {last : Bool}

/-- `c` is the code that the driven DAC stands for, its own offset included. -/
theorem Entry.highOut_enabled (hen : e.en = true) (hc : c = dacCode (e.f 3 35 24) trim + (offTrim trim).1) : e.highOut trim x last
    = (e.b 3 7 && (decide (c * 4096 - 8388608 < x) || (!decide (x < (c - e.chys) * 4096 - 8388608) && last))) := by
  have hset : dacLevel (dacCode (e.f 3 35 24) trim) trim = c * 4096 - 8388608 := by rw [hc]; rfl
  have hclear : dacLevel (dacCode (e.f 3 35 24) trim - e.chys) trim = (c - e.chys) * 4096 - 8388608 := by
    rw [hc]
    unfold dacLevel
    ring
  unfold Entry.highOut
  simp only [hen, hset, hclear, Bool.not_true, Bool.false_or, gt_iff_lt]
  exact hysteresis_eq

theorem Entry.lowOut_enabled (hen : e.en = true) (hc : c = dacCode (e.f 3 23 12) trim + (offTrim trim).1) : e.lowOut trim x last
    = (e.b 3 6 && (decide (x < c * 4096 - 8388608) || (!decide ((c + e.chys) * 4096 - 8388608 < x) && last))) := by
  have hset : dacLevel (dacCode (e.f 3 23 12) trim) trim = c * 4096 - 8388608 := by rw [hc]; rfl
  have hclear : dacLevel (dacCode (e.f 3 23 12) trim + e.chys) trim = (c + e.chys) * 4096 - 8388608 := by
    rw [hc]
    unfold dacLevel
    ring
  unfold Entry.lowOut
  simp only [hen, hset, hclear, Bool.not_true, Bool.false_or, gt_iff_lt]
  exact hysteresis_eq

end

theorem comparatorCrossing_compares (hup : s.up = true) (ch : Fin 128) (neg : Bool) (mag : BitVec 24) {x : Int}
    (hx : x = if neg then -(mag.toNat : Int) else mag.toNat) (hen : s.enabled ch = true) (halive : s.alive (fiOf ch) = true) :
    Completes (.comparatorCrossing ch neg mag) s (fun t => (t.chanOf ch).level = some x
      ∧ ShowsRaw ch ((s.entry ch).highOut (s.highTrim ch) x (s.bitOf (FI_CBITS.HRAW (fiOf ch)) (ch % 8)))
          ((s.entry ch).lowOut (s.lowTrim ch) x (s.bitOf (FI_CBITS.LRAW (fiOf ch)) (ch % 8))) s t) := by
  have hrun : exec (.comparatorCrossing ch neg mag) s = .next (settle (s.crossing ch x)) := by
    rw [hx]
    exact act_up (p := fun s => s.crossing ch (if neg then -mag.toNat else mag.toNat)) hup
  rw [State.crossing_eq hen halive] at hrun
  refine ⟨_, hrun, ?_, (ShowsRaw.after_allKept allKept_setChan showsRaw_setRaw).before_allKept allKept_settle⟩
  rw [State.chanOf_settle, State.level_setRaw, State.level_levelSeen]

/-! ### COMPARATOR_ACCEPT (R135) -/

/-- Raw output, accepted bit and event bits of the high or the low comparators of an island. -/
def compRaw (high : Bool) (k : Nat) : Fld := cond high (FI_CBITS.HRAW k) (FI_CBITS.LRAW k)
def compAcc (high : Bool) (k : Nat) : Fld := cond high (FI_CBITS.HACC k) (FI_CBITS.LACC k)
def compEvt (high : Bool) (k : Nat) : Fld := cond high (FI_CEVT.HEVT k) (FI_CEVT.LEVT k)

theorem compEvt_apart {high : Bool} : (compEvt high k).addr ≠ FI_CBITS k := by
  cases high
  · dsimp only [compEvt, cond_false, FI_CEVT.LEVT, FI_CBITS]
    omega
  · dsimp only [compEvt, cond_true, FI_CEVT.HEVT, FI_CBITS]
    omega

/-- The first sample of a change, and the accepted bit, of the high or the low comparator. -/
def ChanS.seen (c : ChanS) (high : Bool) : Option Nat := cond high c.seenH c.seenL
def ChanS.acc (c : ChanS) (high : Bool) : Bool := cond high c.accH c.accL

/-- The channel with its raw output accepted. -/
def ChanS.accepting (c : ChanS) (high raw : Bool) : ChanS :=
  cond high { c with accH := raw, seenH := none } { c with accL := raw, seenL := none }

/-- A change accepted, before it is presented. -/
def State.accepted (s : State) (n : Nat) (high : Bool) : State :=
  (s.setChan n ((s.chanOf n).accepting high (s.bitOf (compRaw high (fiOf n)) (n % 8)))).putBit (compEvt high (fiOf n)) (n % 8) true

section
variable {high : Bool} {at_ : Nat}

theorem State.acceptComp_seen (hseen : (s.chanOf n).seen high = some at_) : s.acceptComp n high
    = if s.sampleNo < at_ + (s.entry n).f 11 35 32 || !s.alive (fiOf n) then s else (s.accepted n high).presentComp n := by
  cases high
  · have hlow : (s.chanOf n).seenL = some at_ := hseen
    unfold State.acceptComp
    simp only [hlow, Bool.false_eq_true, if_false]
    rfl
  · have hhigh : (s.chanOf n).seenH = some at_ := hseen
    unfold State.acceptComp
    simp only [hhigh, if_true]
    rfl

theorem State.chanOf_accepted :
    (s.accepted n high).chanOf n = (s.chanOf n).accepting high (s.bitOf (compRaw high (fiOf n)) (n % 8)) :=
  (State.chanOf_of_chan_eq State.chan_putBit).trans State.chanOf_setChan_same

theorem ChanS.acc_accepting {c : ChanS} {raw : Bool} : (c.accepting high raw).acc high = raw := by
  cases high
  · rfl
  · rfl

theorem ChanS.owPres_accepting {c : ChanS} {raw : Bool} : (c.accepting high raw).owPres = c.owPres := by
  cases high
  · rfl
  · rfl

theorem State.acc_accepted : ((s.accepted n high).chanOf n).acc high = s.bitOf (compRaw high (fiOf n)) (n % 8) := by
  rw [State.chanOf_accepted, ChanS.acc_accepting]

theorem State.owPres_accepted : ((s.accepted n high).chanOf n).owPres = (s.chanOf n).owPres := by
  rw [State.chanOf_accepted, ChanS.owPres_accepting]

theorem State.evt_accepted : (s.accepted n high).bitOf (compEvt high (fiOf n)) (n % 8) = true := by
  have hmod : n % 8 < 8 := Nat.mod_lt _ (by decide)
  cases high
  · exact State.bitOf_putBit_same (f := FI_CEVT.LEVT (fiOf n)) rfl hmod
  · exact State.bitOf_putBit_same (f := FI_CEVT.HEVT (fiOf n)) rfl hmod

/-- A channel's own bits, before its island presents them, kept for CFAIL = 2 where nothing stands over them (R85). -/
def State.bitsHeld (s : State) (n : Nat) : State :=
  if !(s.entry n).isEmpty && (s.entry n).en && !((s.chanOf n).owPres && s.bitOf (FI_CCTL.OWCF (fiOf n)) (n % 8)) then
    s.setChan n { s.chanOf n with heldH := (s.compBits n).1, heldL := (s.compBits n).2 }
  else s

theorem State.bitsHeld_cases : s.bitsHeld n = s
    ∨ s.bitsHeld n = s.setChan n { s.chanOf n with heldH := (s.compBits n).1, heldL := (s.compBits n).2 } := by
  unfold State.bitsHeld
  split
  · exact .inr rfl
  · exact .inl rfl

theorem State.reg_bitsHeld {a : Nat} : (s.bitsHeld n).reg a = s.reg a := by
  obtain h | h := State.bitsHeld_cases (s := s) (n := n)
  · rw [h]
  · rw [h]; rfl

theorem State.mem_bitsHeld : (s.bitsHeld n).mem = s.mem := by
  obtain h | h := State.bitsHeld_cases (s := s) (n := n)
  · rw [h]
  · rw [h]; rfl

theorem State.acc_bitsHeld : ((s.bitsHeld n).chanOf n).acc high = (s.chanOf n).acc high := by
  obtain h | h := State.bitsHeld_cases (s := s) (n := n)
  · rw [h]
  · rw [h, State.chanOf_setChan_same]; rfl

/-- The presented bits already read so, or they are written. -/
theorem State.presentComp_cases :
    s.presentComp n = s.bitsHeld n ∧ s.bitOf (FI_CBITS.HACC (fiOf n)) (n % 8) = (s.compBits n).1
      ∧ s.bitOf (FI_CBITS.LACC (fiOf n)) (n % 8) = (s.compBits n).2
    ∨ s.presentComp n = ((s.bitsHeld n).putBit (FI_CBITS.HACC (fiOf n)) (n % 8) (s.compBits n).1).putBit (FI_CBITS.LACC (fiOf n)) (n % 8)
        (s.compBits n).2 := by
  have heq : s.presentComp n = if (s.bitsHeld n).bitOf (FI_CBITS.HACC (fiOf n)) (n % 8) == (s.compBits n).1
        && (s.bitsHeld n).bitOf (FI_CBITS.LACC (fiOf n)) (n % 8) == (s.compBits n).2 then s.bitsHeld n
      else ((s.bitsHeld n).putBit (FI_CBITS.HACC (fiOf n)) (n % 8) (s.compBits n).1).putBit (FI_CBITS.LACC (fiOf n)) (n % 8)
        (s.compBits n).2 := rfl
  rw [heq, bitOf_of_reg_eq State.reg_bitsHeld, bitOf_of_reg_eq State.reg_bitsHeld]
  split
  case isTrue h =>
    rw [Bool.and_eq_true, beq_iff_eq, beq_iff_eq] at h
    exact .inl ⟨rfl, h⟩
  case isFalse => exact .inr rfl

theorem State.reg_presentComp {a : Nat} (h : a ≠ FI_CBITS (fiOf n)) : (s.presentComp n).reg a = s.reg a := by
  obtain ⟨he, -⟩ | he := State.presentComp_cases (s := s) (n := n)
  · rw [he, State.reg_bitsHeld]
  · rw [he, State.reg_putBit_other h, State.reg_putBit_other h, State.reg_bitsHeld]

theorem State.mem_presentComp : (s.presentComp n).mem = s.mem := by
  obtain ⟨he, -⟩ | he := State.presentComp_cases (s := s) (n := n)
  · rw [he, State.mem_bitsHeld]
  · rw [he, State.mem_putBit, State.mem_putBit, State.mem_bitsHeld]

theorem State.acc_presentComp : ((s.presentComp n).chanOf n).acc high = (s.chanOf n).acc high := by
  obtain ⟨he, -⟩ | he := State.presentComp_cases (s := s) (n := n)
  · rw [he, State.acc_bitsHeld]
  · rw [he]
    exact State.acc_bitsHeld

theorem State.bitOf_presentComp :
    (s.presentComp n).bitOf (compAcc high (fiOf n)) (n % 8) = cond high (s.compBits n).1 (s.compBits n).2 := by
  have hmod : n % 8 < 8 := Nat.mod_lt _ (by decide)
  obtain ⟨he, hh, hl⟩ | he := State.presentComp_cases (s := s) (n := n)
  · rw [he, bitOf_of_reg_eq State.reg_bitsHeld]
    cases high
    · exact hl
    · exact hh
  · rw [he]
    cases high
    · exact State.bitOf_putBit_same (f := FI_CBITS.LACC (fiOf n)) rfl hmod
    · exact (State.bitOf_putBit_other (f := FI_CBITS.LACC (fiOf n)) (g := FI_CBITS.HACC (fiOf n)) rfl (by simp [Fld.apart])).trans
        (State.bitOf_putBit_same rfl hmod)

/-- Nothing stands over an enabled channel's own bits (R126, R135). -/
theorem State.compBits_own (hen : s.enabled n = true) (hforced : (s.cacheOf n).forced = false) (how : (s.chanOf n).owPres = false) :
    s.compBits n = ((s.chanOf n).accH, (s.chanOf n).accL) := by
  obtain ⟨hentry, hon⟩ := State.entry_of_enabled hen
  unfold State.compBits
  simp [hentry, hforced, hon, how]

theorem exec_comparatorAccept (hup : s.up = true) (ch : Fin 128) :
    exec (.comparatorAccept ch high) s = .next (settle (s.acceptComp ch high)) :=
  act_up (p := fun s => s.acceptComp ch high) hup

theorem comparatorAccept_early (hup : s.up = true) (ch : Fin 128) (high : Bool) (hseen : (s.chanOf ch).seen high = some at_)
    (h : s.sampleNo < at_ + (s.entry ch).f 11 35 32) :
    Completes (.comparatorAccept ch high) s (fun t => t.chan = s.chan ∧ AllKept s t) := by
  have hrun := exec_comparatorAccept (high := high) hup ch
  rw [State.acceptComp_seen hseen, if_pos (by simp [h])] at hrun
  exact ⟨_, hrun, State.chan_settle, allKept_settle⟩

theorem comparatorAccept_due (hup : s.up = true) (ch : Fin 128) (high : Bool) (hen : s.enabled ch = true)
    (halive : s.alive (fiOf ch) = true) (hseen : (s.chanOf ch).seen high = some at_) (h : at_ + (s.entry ch).f 11 35 32 ≤ s.sampleNo) :
    Completes (.comparatorAccept ch high) s (fun t => (t.chanOf ch).acc high = s.bitOf (compRaw high (fiOf ch)) (ch % 8)
      ∧ t.bitOf (compEvt high (fiOf ch)) (ch % 8) = true
      ∧ ((s.cacheOf ch).forced = false → (s.chanOf ch).owPres = false →
          t.bitOf (compAcc high (fiOf ch)) (ch % 8) = s.bitOf (compRaw high (fiOf ch)) (ch % 8)) ∧ MemKept s t) := by
  have hrun := exec_comparatorAccept (high := high) hup ch
  rw [State.acceptComp_seen hseen, if_neg (by simp [h, halive])] at hrun
  refine ⟨_, hrun, State.acc_presentComp.trans State.acc_accepted, ?_, fun hforced how => ?_, memKept_of_mem_eq State.mem_presentComp⟩
  · exact (bitOf_of_reg_eq (State.reg_presentComp compEvt_apart)).trans State.evt_accepted
  · have hown := State.compBits_own (s := s.accepted ch high) hen hforced (State.owPres_accepted.trans how)
    calc ((s.accepted ch high).presentComp ch).bitOf (compAcc high (fiOf ch)) (ch % 8)
      _ = ((s.accepted ch high).chanOf ch).acc high := by rw [State.bitOf_presentComp, hown]; rfl
      _ = s.bitOf (compRaw high (fiOf ch)) (ch % 8) := State.acc_accepted

end

/-! ### FI_STROBE_LOSS and FI_STROBE_RESTORE (R180) -/

/-- The lattice's input stage has the island's strobes lost, or not; no other register and no memory word has changed. -/
def StrobesAre (k : Nat) (lost : Bool) (s t : State) : Prop :=
  t.bitOf BL_STAT.DEADISL k = lost ∧ (t.islOf k).lost = lost ∧ RegsKeptBut [BL_STAT] s t ∧ MemKept s t

theorem StrobesAre.settled {lost : Bool} (h : StrobesAre k lost s t) : StrobesAre k lost s (settle t) := h

theorem strobesAre_marked {lost : Bool} (hk : k < 16) :
    StrobesAre k lost s ((s.setIsl k { s.islOf k with lost := lost, quiet := 0 }).putBit BL_STAT.DEADISL k lost) :=
  ⟨State.bitOf_putBit_same rfl hk, congrArg IslS.lost ((State.islOf_of_isl_eq State.isl_putBit).trans State.islOf_setIsl_same),
    fun _ ha => (State.reg_putBit_other (List.ne_of_not_mem_cons ha)).trans State.reg_setIsl,
    memKept_of_mem_eq (State.mem_putBit.trans State.mem_setIsl)⟩

theorem fiStrobeLoss_marks (hup : s.up = true) (k : Fin 16) : Completes (.fiStrobeLoss k) s (StrobesAre k true s) :=
  ⟨_, act_up (p := fun s => s.strobesLost k) hup, (strobesAre_marked k.isLt).settled⟩

theorem fiStrobeRestore_unmarks (hup : s.up = true) (k : Fin 16) (halive : s.alive k = true) :
    Completes (.fiStrobeRestore k) s (StrobesAre k false s) := by
  have hrun : exec (.fiStrobeRestore k) s = .next (settle (if s.alive k then s.strobesBack k else s)) :=
    act_up (p := fun s => if s.alive k then s.strobesBack k else s) hup
  rw [if_pos halive] at hrun
  exact ⟨_, hrun, (strobesAre_marked k.isLt).settled⟩

end

/-- Settles O28. Each comparator follows the level its driven code stands for, DACj being its own offset (log 33); the high and the low
comparator accept by one argument. -/
theorem comparatorsFollowTheirCrossings : Obligations.ComparatorsFollowTheirCrossings := by
  unfold Obligations.ComparatorsFollowTheirCrossings
  refine fun s hup => ⟨fun ch neg mag e level x ch_ cl dh dl hen halive he hlevel hx hdh hdl hch hcl => ?_,
    fun ch _ hen halive hseen => ⟨comparatorAccept_early hup ch true hseen, comparatorAccept_due hup ch true hen halive hseen⟩,
    fun ch _ hen halive hseen => ⟨comparatorAccept_early hup ch false hseen, comparatorAccept_due hup ch false hen halive hseen⟩,
    fiStrobeLoss_marks hup, fiStrobeRestore_unmarks hup⟩
  obtain ⟨-, hon⟩ := State.entry_of_enabled hen
  obtain ⟨t, hrun, hseen, hhigh, hlow, hkept⟩ := comparatorCrossing_compares hup ch neg mag hlevel hen halive
  subst he hx
  rw [hdh] at hch
  rw [hdl] at hcl
  exact ⟨t, hrun, hseen, hhigh.trans (Entry.highOut_enabled hon hch), hlow.trans (Entry.lowOut_enabled hon hcl), hkept⟩

end Sys2Proof.Machine

namespace Sys2Proof.Machine

open Sys2Proof

/-! ## Scan triggers and conversions (R115, R128, R130 to R133) -/

section
variable {s t u : State} {k n j : Nat} {f : Fld} {l : List Nat}

/-! ### Updates of registers alone -/

/-- Of registers only those in `l` can differ; what the field islands do, and memory, are as before. -/
def RegsOnly (l : List Nat) (s t : State) : Prop := RegsKeptBut l s t ∧ t.isl = s.isl ∧ t.mem = s.mem

theorem RegsOnly.refl : RegsOnly l s s := ⟨fun _ _ => rfl, rfl, rfl⟩

theorem RegsOnly.put {v : Nat} (h : RegsOnly l s t) (hf : f.addr ∈ l) : RegsOnly l s (t.put f v) := by
  obtain ⟨hregs, hisl, hmem⟩ := h
  refine ⟨fun a ha => (State.reg_put_other ?_).trans (hregs a ha), State.isl_put.trans hisl, State.mem_put.trans hmem⟩
  rintro rfl
  exact ha hf

theorem RegsOnly.ite {p : Prop} [Decidable p] (ht : RegsOnly l s t) (hu : RegsOnly l s u) : RegsOnly l s (if p then t else u) := by
  split
  · exact ht
  · exact hu

/-! ### A trigger (R130, R131) -/

theorem regsOnly_scanPend : RegsOnly [FI_SLST k n] s (s.scanPend k n) := by
  have hput : ∀ {z : State} {g : Fld} {v : Nat}, RegsOnly [FI_SLST k n] s z → g.addr = FI_SLST k n →
      RegsOnly [FI_SLST k n] s (z.put g v) := fun hz hg => hz.put (List.mem_singleton.mpr hg)
  exact .ite .refl (.ite (hput (hput .refl rfl) rfl) (.ite (hput (hput .refl rfl) rfl) (hput .refl rfl)))

/-- A list in no pass becomes pending. -/
theorem State.scanPend_idle (hmode : 2 ≤ s.get (FI_SLCFG.MODE k n)) (hpend : s.flag (FI_SLST.PEND k n) = false)
    (hrun : s.flag (FI_SLST.RUN k n) = false) : s.scanPend k n = s.putB (FI_SLST.PEND k n) true := by
  unfold State.scanPend
  rw [if_neg (Nat.not_lt.mpr hmode), if_neg (by simp [hpend]), if_neg (by simp [hrun])]

/-- A list in its pass becomes pending with OVR. -/
theorem State.scanPend_running (hmode : 2 ≤ s.get (FI_SLCFG.MODE k n)) (hpend : s.flag (FI_SLST.PEND k n) = false)
    (hrun : s.flag (FI_SLST.RUN k n) = true) :
    s.scanPend k n = (s.putB (FI_SLST.PEND k n) true).putB (FI_SLST.OVR k n) true := by
  unfold State.scanPend
  rw [if_neg (Nat.not_lt.mpr hmode), if_neg (by simp [hpend]), if_pos hrun]

/-- A pending list counts the drop. -/
theorem State.scanPend_pending (hmode : 2 ≤ s.get (FI_SLCFG.MODE k n)) (hpend : s.flag (FI_SLST.PEND k n) = true) :
    s.scanPend k n = (s.inc (FI_SLST.DROPS k n)).putB (FI_SLST.OVR k n) true := by
  unfold State.scanPend
  rw [if_neg (Nat.not_lt.mpr hmode), if_pos hpend]

theorem State.scanPend_pends (hmode : 2 ≤ s.get (FI_SLCFG.MODE k n)) (hpend : s.flag (FI_SLST.PEND k n) = false) :
    (s.scanPend k n).flag (FI_SLST.PEND k n) = true
      ∧ (s.flag (FI_SLST.RUN k n) = true → (s.scanPend k n).flag (FI_SLST.OVR k n) = true) := by
  cases hrun : s.flag (FI_SLST.RUN k n)
  · rw [State.scanPend_idle hmode hpend hrun]
    exact ⟨State.flag_putB_same rfl, fun h => absurd h Bool.false_ne_true⟩
  · rw [State.scanPend_running hmode hpend hrun]
    exact ⟨(State.flag_putB_other rfl (by simp [Fld.apart])).trans (State.flag_putB_same rfl), fun _ => State.flag_putB_same rfl⟩

theorem State.scanPend_drops (hmode : 2 ≤ s.get (FI_SLCFG.MODE k n)) (hpend : s.flag (FI_SLST.PEND k n) = true) :
    (s.scanPend k n).flag (FI_SLST.PEND k n) = true ∧ CountsUp (FI_SLST.DROPS k n) s (s.scanPend k n)
      ∧ (s.scanPend k n).flag (FI_SLST.OVR k n) = true := by
  rw [State.scanPend_pending hmode hpend]
  refine ⟨?_, ?_, State.flag_putB_same rfl⟩
  · calc ((s.inc (FI_SLST.DROPS k n)).putB (FI_SLST.OVR k n) true).flag (FI_SLST.PEND k n)
      _ = (s.inc (FI_SLST.DROPS k n)).flag (FI_SLST.PEND k n) := State.flag_putB_other rfl (by simp [Fld.apart])
      _ = s.flag (FI_SLST.PEND k n) := State.flag_put_other rfl (by simp [Fld.apart])
      _ = true := hpend
  · exact (State.get_putB_other rfl (by simp [Fld.apart])).trans (State.get_inc_min rfl)

theorem State.idleStart_busy (h : (s.islOf k).conv.isSome = true) : s.idleStart k = s := by
  have hconv : (s.islOf k).conv.isNone = false := by rw [← Option.not_isSome, h]; rfl
  exact if_neg (by simp [hconv])

theorem State.idleStart_idle (halive : s.alive k = true) (hphase : s.t.phase = 0) (hconv : (s.islOf k).conv = none)
    (hpass : (s.islOf k).passList = none) : s.idleStart k = s.startPass k := if_pos (by simp [halive, hphase, hconv, hpass])

theorem State.islOf_scanPend : (s.scanPend k n).islOf k = s.islOf k := by
  obtain ⟨-, hisl, -⟩ := regsOnly_scanPend (s := s) (k := k) (n := n)
  exact State.islOf_of_isl_eq hisl

/-- While the converter runs, a trigger only marks its list. -/
theorem State.idleStart_scanPend_busy (h : (s.islOf k).conv.isSome = true) : (s.scanPend k n).idleStart k = s.scanPend k n :=
  State.idleStart_busy (by rw [State.islOf_scanPend, h])

/-! ### FI_STRIG_WRITE -/

theorem setIdx_single : ∀ n : Fin 8, setIdx (BitVec.ofNat 8 (2 ^ n.val)).toNat 8 = [n.val] := by decide

/-- A host trigger for list n alone, while the converter runs (R130). -/
theorem State.strig_single {mask : Nat} (halive : s.alive k = true) (hmask : setIdx mask 8 = [n])
    (hthost : s.flag (FI_SLCFG.THOST k n) = true) (hconv : (s.islOf k).conv.isSome = true) : s.strig k mask = s.scanPend k n := by
  have hidle : (s.scanPend k n).idleStart k = s.scanPend k n := State.idleStart_scanPend_busy hconv
  unfold State.strig
  rw [hmask]
  simp [halive, hthost, hidle]

theorem exec_fiStrigWrite (hup : s.up = true) (k : Fin 16) (mask : BitVec 8) : exec (.fiStrigWrite k mask) s
    = .next (settle ((s.consume (FI_STRIG k) (W mask.toNat)).strig k mask.toNat)) :=
  act_up (p := fun s => (s.consume (FI_STRIG k) (W mask.toNat)).strig k mask.toNat) hup

theorem fiStrigWrite_pends (hup : s.up = true) (k : Fin 16) (n : Fin 8) (halive : s.alive k = true)
    (hthost : s.flag (FI_SLCFG.THOST k n) = true) (hmode : 2 ≤ s.get (FI_SLCFG.MODE k n)) (hconv : (s.islOf k).conv.isSome = true)
    (hpend : s.flag (FI_SLST.PEND k n) = false) :
    Completes (.fiStrigWrite k (BitVec.ofNat 8 (2 ^ n.val))) s (fun t => t.flag (FI_SLST.PEND k n) = true
      ∧ (s.flag (FI_SLST.RUN k n) = true → t.flag (FI_SLST.OVR k n) = true) ∧ RegsKeptBut [FI_SLST k n] s t ∧ MemKept s t) := by
  have hrun := exec_fiStrigWrite hup k (BitVec.ofNat 8 (2 ^ n.val))
  rw [State.strig_single (s := s.consume (FI_STRIG k) (W (BitVec.ofNat 8 (2 ^ n.val)).toNat)) halive (setIdx_single n) hthost hconv] at hrun
  obtain ⟨hpends, hovr⟩ := State.scanPend_pends (s := s.consume (FI_STRIG k) (W (BitVec.ofNat 8 (2 ^ n.val)).toNat)) hmode hpend
  obtain ⟨hregs, -, hmem⟩ := regsOnly_scanPend (s := s.consume (FI_STRIG k) (W (BitVec.ofNat 8 (2 ^ n.val)).toNat)) (k := k) (n := n)
  exact ⟨_, hrun, hpends, hovr, hregs, memKept_consume.trans (memKept_of_mem_eq hmem)⟩

/-! ### SCAN_PERIOD_TICK -/

/-- The list's period timer marked as having ticked in this beat. -/
def State.tickMarked (s : State) (k n : Nat) : State := s.setIsl k { s.islOf k with ticked := setBit (s.islOf k).ticked n true }

theorem State.islOf_tickMarked : (s.tickMarked k n).islOf k = { s.islOf k with ticked := setBit (s.islOf k).ticked n true } :=
  State.islOf_setIsl_same

theorem State.mem_tickMarked : (s.tickMarked k n).mem = s.mem := State.mem_setIsl

theorem State.periodTick_due (hdue : s.periodDue k n = true) (halive : s.alive k = true) :
    s.periodTick k n = ((s.tickMarked k n).scanPend k n).idleStart k := by
  have halive' : (s.tickMarked k n).alive k = true := halive
  calc s.periodTick k n
    _ = (s.tickMarked k n).scanTrigger k n := if_neg (by simp [hdue])
    _ = ((s.tickMarked k n).scanPend k n).idleStart k := if_pos halive'

theorem State.mode_of_periodDue (hdue : s.periodDue k n = true) : s.get (FI_SLCFG.MODE k n) = 2 := by
  simp only [State.periodDue, Bool.and_eq_true, beq_iff_eq] at hdue
  obtain ⟨⟨⟨hmode, -⟩, -⟩, -⟩ := hdue
  exact hmode

theorem exec_scanPeriodTick (hup : s.up = true) (k : Fin 16) (n : Fin 8) :
    exec (.scanPeriodTick k n) s = .next (settle (s.periodTick k n)) := act_up (p := fun s => s.periodTick k n) hup

theorem scanPeriodTick_drops (hup : s.up = true) (k : Fin 16) (n : Fin 8) (halive : s.alive k = true) (hdue : s.periodDue k n = true)
    (hconv : (s.islOf k).conv.isSome = true) (hpend : s.flag (FI_SLST.PEND k n) = true) :
    Completes (.scanPeriodTick k n) s (fun t => t.flag (FI_SLST.PEND k n) = true ∧ CountsUp (FI_SLST.DROPS k n) s t
      ∧ t.flag (FI_SLST.OVR k n) = true ∧ RegsKeptBut [FI_SLST k n] s t ∧ MemKept s t) := by
  have hmode : 2 ≤ (s.tickMarked k n).get (FI_SLCFG.MODE k n) := Nat.le_of_eq (State.mode_of_periodDue hdue).symm
  have hbusy : ((s.tickMarked k n).islOf k).conv.isSome = true := by rwa [State.islOf_tickMarked]
  have hrun := exec_scanPeriodTick hup k n
  rw [State.periodTick_due hdue halive, State.idleStart_scanPend_busy hbusy] at hrun
  obtain ⟨hpends, hdrops, hovr⟩ := State.scanPend_drops (s := s.tickMarked k n) hmode hpend
  obtain ⟨hregs, -, hmem⟩ := regsOnly_scanPend (s := s.tickMarked k n) (k := k) (n := n)
  exact ⟨_, hrun, hpends, hdrops, hovr, hregs, memKept_of_mem_eq (hmem.trans State.mem_tickMarked)⟩

/-! ### The start of a pass (R115, R128, R133) -/

/-- The only pending list is the next to run (R132). -/
theorem State.nextList_only (hn : n < 8) (hpend : s.flag (FI_SLST.PEND k n) = true) (hmode : 2 ≤ s.get (FI_SLCFG.MODE k n))
    (hother : ∀ m < n, s.flag (FI_SLST.PEND k m) = false) : s.nextList k = some n := by
  have hfind : (List.range 8).find? (fun m => s.flag (FI_SLST.PEND k m) && 2 ≤ s.get (FI_SLCFG.MODE k m)) = some n :=
    List.find?_range_eq_some.mpr ⟨by simp [hpend, hmode], List.mem_range.mpr hn, fun m hm => by simp [hother m hm]⟩
  unfold State.nextList
  rw [hfind]

/-- List n marked running, no longer pending. -/
def State.runMarked (s : State) (k n : Nat) : State := (s.putB (FI_SLST.PEND k n) false).putB (FI_SLST.RUN k n) true

theorem State.reg_runMarked {a : Nat} (h : a ≠ FI_SLST k n) : (s.runMarked k n).reg a = s.reg a :=
  (State.reg_putB_other h).trans (State.reg_putB_other h)

theorem State.flags_runMarked : (s.runMarked k n).flag (FI_SLST.RUN k n) = true ∧ (s.runMarked k n).flag (FI_SLST.PEND k n) = false :=
  ⟨State.flag_putB_same rfl, (State.flag_putB_other rfl (by simp [Fld.apart])).trans (State.flag_putB_same rfl)⟩

theorem State.mem_runMarked : (s.runMarked k n).mem = s.mem := State.mem_putB.trans State.mem_putB

theorem State.mode_runMarked : (s.runMarked k n).mode = s.mode := by
  refine get_of_reg_eq (State.reg_runMarked ?_)
  dsimp only [SYS_MODE.MODE, FI_SLST]
  omega

theorem State.listMode_runMarked : (s.runMarked k n).get (FI_SLCFG.MODE k n) = s.get (FI_SLCFG.MODE k n) := by
  refine get_of_reg_eq (State.reg_runMarked ?_)
  dsimp only [FI_SLCFG.MODE, FI_SLST]
  omega

theorem State.entry_of_cache_eq (h : t.cache = s.cache) : t.entry n = s.entry n := by
  unfold State.entry State.cacheOf
  rw [h]

theorem State.members_of_cache_eq (h : t.cache = s.cache) : t.members k n = s.members k n := by
  unfold State.members
  simp only [State.entry_of_cache_eq h]

theorem State.convertible_of_cache_eq (h : t.cache = s.cache) : t.convertible k j = s.convertible k j := by
  unfold State.convertible State.enabled
  rw [State.entry_of_cache_eq h]

theorem State.cache_runMarked : (s.runMarked k n).cache = s.cache := State.cache_putB.trans State.cache_putB

/-- A pass of list n begun on channel j, with the members `r` to follow. -/
def State.passStarted (s : State) (k n j : Nat) (r : List Nat) : State :=
  ((s.runMarked k n).setIsl k { (s.runMarked k n).islOf k with wrote := false }).beginConv k n j r

section
variable {r : List Nat}

/-- A triggered list outside LAY-UP runs on its first convertible member. -/
theorem State.startPass_converts (hnext : s.nextList k = some n) (hlist : s.get (FI_SLCFG.MODE k n) ≠ 1) (hmode : s.mode ≠ 1)
    (hcan : (s.members k n).filter (s.convertible k) = j :: r) : s.startPass k = s.passStarted k n j r := by
  obtain ⟨u, hu⟩ : ∃ u, u = s.runMarked k n := ⟨_, rfl⟩
  have hmode' : (u.mode == 1) = false := beq_eq_false_iff_ne.mpr (by rwa [hu, State.mode_runMarked])
  have hlist' : (u.get (FI_SLCFG.MODE k n) == 1) = false := beq_eq_false_iff_ne.mpr (by rwa [hu, State.listMode_runMarked])
  have hlay : u.countLay k (u.members k n) = u := if_neg (by simp [hmode'])
  have hcan' : (u.members k n).filter (fun m => u.convertible k m && (u.mode != 1
      || (u.chanOf (8 * k + m)).lay % u.layDiv (8 * k + m) == 0)) = j :: r := by
    have hcache : u.cache = s.cache := by rw [hu, State.cache_runMarked]
    simp only [bne, hmode', Bool.not_false, Bool.true_or, Bool.and_true, State.members_of_cache_eq hcache,
      State.convertible_of_cache_eq hcache]
    exact hcan
  unfold State.startPass
  rw [hnext]
  unfold State.runMarked at hu
  simp only [← hu, hcan', hlay, hlist', Bool.false_and, Bool.false_eq_true, if_false]
  unfold State.passStarted State.runMarked
  rw [← hu]

/-- List n runs on channel j of island k, and is not pending. -/
def PassRuns (k n j : Nat) (r : List Nat) (t : State) : Prop :=
  (t.islOf k).passList = some n ∧ (t.islOf k).passLeft = r ∧ (t.islOf k).conv.map (fun c => (c.list, c.ch)) = some (n, j)
    ∧ t.flag (FI_SLST.RUN k n) = true ∧ t.flag (FI_SLST.PEND k n) = false

theorem State.reg_passStarted {a : Nat} : (s.passStarted k n j r).reg a = (s.runMarked k n).reg a :=
  State.reg_setIsl.trans State.reg_setIsl

theorem State.mem_passStarted : (s.passStarted k n j r).mem = s.mem :=
  (State.mem_setIsl.trans State.mem_setIsl).trans State.mem_runMarked

theorem passRuns_passStarted : PassRuns k n j r (s.passStarted k n j r) := by
  have hisl : ∃ i : IslS, (s.passStarted k n j r).islOf k = i ∧ i.passList = some n ∧ i.passLeft = r
      ∧ i.conv.map (fun c => (c.list, c.ch)) = some (n, j) := ⟨_, State.islOf_setIsl_same, rfl, rfl, rfl⟩
  obtain ⟨i, hi, hlist, hleft, hconv⟩ := hisl
  obtain ⟨hrun, hpend⟩ := State.flags_runMarked (s := s) (k := k) (n := n)
  unfold PassRuns
  rw [hi]
  exact ⟨hlist, hleft, hconv, (flag_of_reg_eq State.reg_passStarted).trans hrun, (flag_of_reg_eq State.reg_passStarted).trans hpend⟩

/-- A trigger at phase 0 for a list of an idle converter, no list being pending, begins its pass (R133). -/
theorem State.idleStart_scanPend_idle (hn : n < 8) (hlist : s.get (FI_SLCFG.MODE k n) = 2) (halive : s.alive k = true)
    (hphase : s.t.phase = 0) (hconv : (s.islOf k).conv = none) (hpass : (s.islOf k).passList = none)
    (hpend : ∀ m ≤ n, s.flag (FI_SLST.PEND k m) = false) (hidle : s.flag (FI_SLST.RUN k n) = false) (hmode : s.mode ≠ 1)
    (hcan : (s.members k n).filter (s.convertible k) = j :: r) :
    (s.scanPend k n).idleStart k = (s.putB (FI_SLST.PEND k n) true).passStarted k n j r := by
  have hisl : (s.scanPend k n).islOf k = s.islOf k := State.islOf_scanPend
  rw [State.scanPend_idle (Nat.le_of_eq hlist.symm) (hpend n le_rfl) hidle] at hisl ⊢
  obtain ⟨u, hu⟩ : ∃ u, u = s.putB (FI_SLST.PEND k n) true := ⟨_, rfl⟩
  rw [← hu] at hisl ⊢
  have hreg : ∀ a, a ≠ FI_SLST k n → u.reg a = s.reg a := fun a ha => by rw [hu, State.reg_putB_other ha]
  have hcache : u.cache = s.cache := by rw [hu, State.cache_putB]
  have halive' : u.alive k = true := (bitOf_of_reg_eq (hreg _ (by dsimp only [SYS_ISTAT.ALIVE, FI_SLST]; omega))).trans halive
  have hmode' : u.mode ≠ 1 := by
    have heq : u.mode = s.mode := get_of_reg_eq (hreg _ (by dsimp only [SYS_MODE.MODE, FI_SLST]; omega))
    rwa [heq]
  have hlist' : u.get (FI_SLCFG.MODE k n) = 2 :=
    (get_of_reg_eq (hreg _ (by dsimp only [FI_SLCFG.MODE, FI_SLST]; omega))).trans hlist
  have hnext : u.nextList k = some n :=
    State.nextList_only hn (by rw [hu]; exact State.flag_putB_same rfl) (Nat.le_of_eq hlist'.symm) fun m hm =>
      (flag_of_reg_eq (hreg _ (by dsimp only [FI_SLST.PEND, FI_SLST]; omega))).trans (hpend m hm.le)
  have hcan' : (u.members k n).filter (u.convertible k) = j :: r := by
    have hconvertible : u.convertible k = s.convertible k := funext fun _ => State.convertible_of_cache_eq hcache
    rw [State.members_of_cache_eq hcache, hconvertible, hcan]
  rw [State.idleStart_idle halive' (by rw [hu, State.t_putB, hphase]) (by rw [hisl, hconv]) (by rw [hisl, hpass])]
  exact State.startPass_converts hnext (by rw [hlist']; decide) hmode' hcan'

theorem PassRuns.settled (h : PassRuns k n j r t) : PassRuns k n j r (settle t) := h

theorem scanPeriodTick_starts (hup : s.up = true) (k : Fin 16) (n : Fin 8) (halive : s.alive k = true)
    (hdue : s.periodDue k n = true) (hphase : s.t.phase = 0) (hconv : (s.islOf k).conv = none) (hpass : (s.islOf k).passList = none)
    (hpend : ∀ m : Fin 8, s.flag (FI_SLST.PEND k m) = false) (hidle : s.flag (FI_SLST.RUN k n) = false) (hmode : s.mode ≠ 1)
    (hcan : (s.members k n).filter (s.convertible k) = j :: r) :
    Completes (.scanPeriodTick k n) s (fun t => PassRuns k n j r t ∧ MemKept s t) := by
  have hrun := exec_scanPeriodTick hup k n
  have hget : ∀ f : Fld, (s.tickMarked k n).get f = s.get f := fun _ => State.get_setIsl
  have hflag : ∀ f : Fld, (s.tickMarked k n).flag f = s.flag f := fun _ => State.flag_setIsl
  have hcache : (s.tickMarked k n).cache = s.cache := State.cache_setIsl
  have hconvertible : (s.tickMarked k n).convertible k = s.convertible k := funext fun _ => State.convertible_of_cache_eq hcache
  rw [State.periodTick_due hdue halive, State.idleStart_scanPend_idle n.isLt
    ((hget _).trans (State.mode_of_periodDue hdue)) ((congrArg (bit · k) (hget _)).trans halive)
    ((congrArg TimeS.phase State.t_setIsl).trans hphase) (by rw [State.islOf_tickMarked, hconv]) (by rw [State.islOf_tickMarked, hpass])
    (fun m hm => (hflag _).trans (hpend ⟨m, by omega⟩)) ((hflag _).trans hidle) (fun h => hmode ((hget _).symm.trans h))
    (by rw [State.members_of_cache_eq hcache, hconvertible, hcan])] at hrun
  refine ⟨_, hrun, PassRuns.settled passRuns_passStarted, ?_⟩
  exact memKept_of_mem_eq ((State.mem_settle.trans State.mem_passStarted).trans (State.mem_putB.trans State.mem_tickMarked))

end

end

end Sys2Proof.Machine

namespace Sys2Proof.Machine

open Sys2Proof

/-! ## The end of a conversion (R115, R116, R131, R132) -/

section
variable {s t u : State} {k j n a : Nat} {c : Conv}

/-! ### The completion step reads the temperature source (R152) -/

/-- Channels, field islands, time and memory are as before. -/
def FieldKept (s t : State) : Prop := t.chan = s.chan ∧ t.isl = s.isl ∧ t.t = s.t ∧ t.mem = s.mem

theorem FieldKept.refl : FieldKept s s := ⟨rfl, rfl, rfl, rfl⟩

theorem FieldKept.trans (h : FieldKept s t) (h' : FieldKept t u) : FieldKept s u := by
  obtain ⟨hchan, hisl, ht, hmem⟩ := h
  obtain ⟨hchan', hisl', ht', hmem'⟩ := h'
  exact ⟨hchan'.trans hchan, hisl'.trans hisl, ht'.trans ht, hmem'.trans hmem⟩

theorem FieldKept.put {f : Fld} {v : Nat} (h : FieldKept s t) : FieldKept s (t.put f v) :=
  h.trans ⟨State.chan_put, State.isl_put, State.t_put, State.mem_put⟩

theorem FieldKept.ite {p : Prop} [Decidable p] (ht : FieldKept s t) (hu : FieldKept s u) : FieldKept s (if p then t else u) := by
  split
  · exact ht
  · exact hu

theorem fieldKept_trigger {cls sub src : Nat} {ts0 ts1 ev0 ev1 : Word} {rs : Option Nat} :
    FieldKept s (s.trigger cls sub src ts0 ts1 ev0 ev1 rs) := by
  have honx : ∀ o : OnxS, FieldKept s { s with onx := o } := fun _ => ⟨rfl, rfl, rfl, rfl⟩
  unfold State.trigger
  dsimp only
  generalize (if cls ≤ 2 then 128 else 112) = cap
  refine .ite .refl ?_
  split
  · exact (honx _).put
  · split
    · exact (honx _).put
    · exact .ite (honx _).put (.ite (honx _) (honx _))

theorem fieldKept_sramRead {req : Nat} : FieldKept s (s.sramRead a .clean req).1 := by
  unfold State.sramRead
  dsimp only
  split
  · exact (FieldKept.refl.put.trans fieldKept_trigger).put
  · exact .refl

theorem fieldKept_sramFetch {req : Nat} {l : List Nat} : FieldKept s (s.sramFetch req l) := by
  unfold State.sramFetch
  generalize l.filter s.sramPoison = bad
  induction bad generalizing s with
  | nil => exact .refl
  | cons a bad ih => exact fieldKept_sramRead.trans ih

/-- The conversion in progress goes on, with the source it has sampled. -/
theorem State.sampleSource_conv (hconv : (s.islOf k).conv = some c) : ∃ src,
    ((s.sampleSource k).islOf k).conv = some { c with src := src }
    ∧ (s.sampleSource k).chan = s.chan ∧ (s.sampleSource k).t = s.t ∧ (s.sampleSource k).mem = s.mem := by
  unfold State.sampleSource
  simp only [hconv]
  split
  · exact ⟨c.src, hconv, rfl, rfl, rfl⟩
  · have hfetch : FieldKept s (match sourceIdx (8 * k + c.ch) c.ent with | some x => s.mirrorFetch k x | none => s) := by
      split
      · exact fieldKept_sramFetch
      · exact .refl
    obtain ⟨hchan, -, ht, hmem⟩ := hfetch
    exact ⟨_, congrArg IslS.conv State.islOf_setIsl_same, State.chan_setIsl.trans hchan, State.t_setIsl.trans ht,
      State.mem_setIsl.trans hmem⟩

/-! ### The result (R116, R117) -/

theorem State.convs_sourceFor {e : Entry} {live : Option (Int × Nat)} : (s.sourceFor n e live).2.convs = (s.chanOf n).convs := by
  unfold State.sourceFor
  dsimp only
  split
  · split
    · rfl
    · rfl
  · rfl

section
variable {r1 r2 : Int} {parity testOpen compliance : Bool} {found : Terminals}

/-- Only a three-wire conversion, which measures twice, shows another raw result than its first. -/
theorem State.raw_result (h : Entry.meas c.ent ≠ 2) : (s.result k c r1 r2 parity testOpen compliance found).2.1 = r1 :=
  if_neg (by simpa using h)

theorem State.diag_result : (s.result k c r1 r2 true testOpen compliance found).1 = 12 := rfl

/-- The channel has counted the conversion, and its value is renewed. -/
theorem State.chan_result : (s.result k c r1 r2 parity testOpen compliance found).2.2.2.convs = (s.chanOf (8 * k + c.ch)).convs + 1
    ∧ (s.result k c r1 r2 parity testOpen compliance found).2.2.2.stale = false := by
  refine ⟨?_, rfl⟩
  have hsource : (s.result k c r1 r2 parity testOpen compliance found).2.2.2.convs
      = (if Entry.readsSource c.ent then s.sourceFor (8 * k + c.ch) c.ent (c.src.getD (s.liveSource (8 * k + c.ch) c.ent))
          else (none, s.chanOf (8 * k + c.ch))).2.convs + 1 := rfl
  rw [hsource]
  split
  · rw [State.convs_sourceFor]
  · rfl

end

/-! ### What follows the raw result -/

/-- The channel with its result, and its raw word (R116). -/
def State.rawShown (s : State) (k j diag : Nat) (raw : Int) (y : ChanS) : State :=
  ((s.setChan (8 * k + j) y).put (FI_RAW.DQ k j) diag).put (FI_RAW.RAW k j) (unsign 24 raw)

/-- The parity check shown, the record sent, the mirror word written, a capture fed. -/
def State.wordWritten (s : State) (k : Nat) (c : Conv) (diag : Nat) (sig : Rat) (parity : Bool) : State :=
  let s := s.putB (FI_SCHK.PAR k) parity
  let s := s.record ⟨5, 2, 8 * k + c.ch, [s.reg (FI_RAW k c.ch)]⟩
  (s.writeChan (8 * k + c.ch) c.ent).feedCapture (8 * k + c.ch) diag sig c.ent

/-- The converter idle again, and the pass over with its last member. -/
def State.cycleEnded (s : State) (k : Nat) (c : Conv) : State :=
  let i := s.islOf k
  let s := if i.wrote then s else s.incMod (FI_PASS.PASS k)
  let s := s.setIsl k { i with conv := none, wrote := true }
  if i.passLeft.isEmpty then s.endPass k c.list else s

/-- The conversion that has completed, its result known. -/
def State.converted (s : State) (k : Nat) (c : Conv) (parity : Bool) (p : Nat × Int × Rat × ChanS) : State :=
  ((s.rawShown k c.ch p.1 p.2.1 p.2.2.2).wordWritten k c p.1 p.2.2.1 parity).cycleEnded k c

theorem State.complete_due {r1 r2 : Int} {parity testOpen compliance : Bool} {found : Terminals}
    (hconv : ((s.sampleSource k).islOf k).conv = some c)
    (hdue : c.start + c.len < (s.sampleSource k).t.run + 1
      ∨ c.start + c.len = (s.sampleSource k).t.run + 1 ∧ 2 ≤ (s.sampleSource k).ph) :
    s.complete k r1 r2 parity testOpen compliance found
      = (s.sampleSource k).converted k c parity ((s.sampleSource k).result k c r1 r2 parity testOpen compliance found) := by
  have hno : ¬(decide ((s.sampleSource k).t.run + 1 < c.start + c.len)
      || ((s.sampleSource k).t.run + 1 == c.start + c.len && decide ((s.sampleSource k).ph < 2))) = true := by
    simp only [Bool.or_eq_true, Bool.and_eq_true, decide_eq_true_eq, beq_iff_eq]
    omega
  unfold State.complete
  simp only [hconv]
  rw [if_neg hno]
  rfl

/-! ### What follows keeps the result, and of memory writes one mirror word -/

theorem SramKeptBut.trans {l : List Nat} (h : SramKeptBut l s t) (h' : SramKeptBut l t u) : SramKeptBut l s u :=
  fun b hb => ⟨(h' b hb).1.trans (h b hb).1, (h' b hb).2.trans (h b hb).2⟩

theorem MramKept.trans (h : MramKept s t) (h' : MramKept t u) : MramKept s u :=
  fun b => ⟨(h' b).1.trans (h b).1, (h' b).2.trans (h b).2⟩

theorem MemKept.sramKeptBut {l : List Nat} (h : MemKept s t) : SramKeptBut l s t := fun b _ => h.1 b

/-- Channel j's raw word of island k and every channel are as before, and of memory all but the mirror word of channel j. -/
def ResultKept (k j : Nat) (s t : State) : Prop :=
  t.reg (FI_RAW k j) = s.reg (FI_RAW k j) ∧ t.chan = s.chan ∧ SramKeptBut [0o00400000 + (8 * k + j)] s t ∧ MramKept s t

theorem resultKept_of_mem_eq (hreg : t.reg (FI_RAW k j) = s.reg (FI_RAW k j)) (hchan : t.chan = s.chan) (hmem : t.mem = s.mem) :
    ResultKept k j s t :=
  ⟨hreg, hchan, (memKept_of_mem_eq hmem).sramKeptBut, (memKept_of_mem_eq hmem).2⟩

theorem ResultKept.refl : ResultKept k j s s := resultKept_of_mem_eq rfl rfl rfl

theorem ResultKept.trans (h : ResultKept k j s t) (h' : ResultKept k j t u) : ResultKept k j s u := by
  obtain ⟨hreg, hchan, hsram, hmram⟩ := h
  obtain ⟨hreg', hchan', hsram', hmram'⟩ := h'
  exact ⟨hreg'.trans hreg, hchan'.trans hchan, hsram.trans hsram', hmram.trans hmram'⟩

theorem ResultKept.ite {p : Prop} [Decidable p] (ht : ResultKept k j s t) (hu : ResultKept k j s u) :
    ResultKept k j s (if p then t else u) := by
  split
  · exact ht
  · exact hu

theorem ResultKept.put {f : Fld} {v : Nat} (h : ResultKept k j s t) (hf : FI_RAW k j ≠ f.addr) : ResultKept k j s (t.put f v) :=
  h.trans (resultKept_of_mem_eq (State.reg_put_other hf) State.chan_put State.mem_put)

theorem ResultKept.setIsl {i : IslS} (h : ResultKept k j s t) : ResultKept k j s (t.setIsl k i) :=
  h.trans (resultKept_of_mem_eq State.reg_setIsl State.chan_setIsl State.mem_setIsl)

theorem ResultKept.record {r : JRec} (h : ResultKept k j s t) : ResultKept k j s (t.record r) := by
  have hchan : (t.record r).chan = t.chan := by
    unfold State.record
    split
    · rfl
    · rfl
  have hreg : (t.record r).reg (FI_RAW k j) = t.reg (FI_RAW k j) := by
    unfold State.reg
    rw [State.regs_record]
  exact h.trans (resultKept_of_mem_eq hreg hchan (State.mem_record r))

theorem resultKept_publishAs {w seen : Word} : ResultKept k j s (s.publishAs (8 * k + j) w seen) := by
  have hword : ∀ v, ResultKept k j s (s.setSram (0o00400000 + (8 * k + j)) v) := fun v => by
    obtain ⟨-, -, hsram, hmram, hregs⟩ := stores_setSram (s := s) (a := 0o00400000 + (8 * k + j)) (w := v)
    exact ⟨hregs _, State.chan_setSram, hsram, hmram⟩
  exact (hword _).trans (resultKept_of_mem_eq rfl rfl rfl)

section
variable (hj : j < 8)
include hj

theorem resultKept_writeChan {e : Entry} : ResultKept k j s (s.writeChan (8 * k + j) e) := by
  have haddr : FI_RAW k j ≠ FI_LBITS (fiOf (8 * k + j)) := by
    dsimp only [FI_RAW, FI_LBITS, fiOf]
    omega
  exact (resultKept_publishAs.put haddr).put haddr

theorem resultKept_feedCapture {diag : Nat} {sig : Rat} {e : Entry} : ResultKept k j s (s.feedCapture n diag sig e) := by
  have hstat : FI_RAW k j ≠ CAL_CSTAT := by
    dsimp only [FI_RAW, CAL_CSTAT]
    omega
  have hisrc : FI_RAW k j ≠ HST_ISRC := by
    dsimp only [FI_RAW, HST_ISRC]
    omega
  have hcal : ∀ y : CalS, ResultKept k j s { s with cal := y } := fun _ => resultKept_of_mem_eq rfl rfl rfl
  unfold State.feedCapture
  split
  · exact .ite (.ite ((((hcal _).put hstat).put hstat).put hisrc) ((hcal _).put hstat)) .refl
  · exact .refl

theorem ResultKept.endPass (h : ResultKept k j s t) (hn : n < 8) : ResultKept k j s (t.endPass k n) := by
  have hpass : FI_RAW k j ≠ FI_PASS k := by
    dsimp only [FI_RAW, FI_PASS]
    omega
  have hlist : FI_RAW k j ≠ FI_SLST k n := by
    dsimp only [FI_RAW, FI_SLST]
    omega
  exact (((ResultKept.ite (h.put hpass) h).setIsl).put hlist).put hlist

end

theorem resultKept_wordWritten {diag : Nat} {sig : Rat} {parity : Bool} (hj : c.ch < 8) :
    ResultKept k c.ch s (s.wordWritten k c diag sig parity) := by
  have hpar : FI_RAW k c.ch ≠ FI_SCHK k := by
    dsimp only [FI_RAW, FI_SCHK]
    omega
  exact (((ResultKept.refl.put hpar).record).trans (resultKept_writeChan hj)).trans (resultKept_feedCapture hj)

theorem resultKept_cycleEnded (hj : c.ch < 8) (hlist : c.list < 8) : ResultKept k c.ch s (s.cycleEnded k c) := by
  have hpass : FI_RAW k c.ch ≠ FI_PASS k := by
    dsimp only [FI_RAW, FI_PASS]
    omega
  have hidle : ∀ i : IslS, ResultKept k c.ch s ((if (s.islOf k).wrote then s else s.incMod (FI_PASS.PASS k)).setIsl k i) :=
    fun _ => (ResultKept.ite .refl (ResultKept.refl.put hpass)).setIsl
  exact .ite ((hidle _).endPass hj hlist) (hidle _)

theorem resultKept_converted {parity : Bool} {p : Nat × Int × Rat × ChanS} (hj : c.ch < 8) (hlist : c.list < 8) :
    ResultKept k c.ch (s.rawShown k c.ch p.1 p.2.1 p.2.2.2) (s.converted k c parity p) :=
  (resultKept_wordWritten hj).trans (resultKept_cycleEnded hj hlist)

/-! ### CONVERSION_COMPLETE -/

theorem unsign_toInt (r : BitVec 24) : unsign 24 r.toInt = r.toNat := by
  unfold unsign
  rw [BitVec.toInt_eq_toNat_bmod, Int.bmod_emod]
  exact_mod_cast Nat.mod_eq_of_lt r.isLt

theorem State.raw_rawShown {diag : Nat} {y : ChanS} (r : BitVec 24) :
    (s.rawShown k j diag r.toInt y).get (FI_RAW.RAW k j) = r.toNat := by
  have hput : (s.rawShown k j diag r.toInt y).get (FI_RAW.RAW k j) = unsign 24 r.toInt % 2 ^ 24 := State.get_put_same rfl
  rw [hput, unsign_toInt, Nat.mod_eq_of_lt r.isLt]

theorem State.dq_rawShown {diag : Nat} {raw : Int} {y : ChanS} (h : diag < 16) : (s.rawShown k j diag raw y).get (FI_RAW.DQ k j) = diag :=
  calc (s.rawShown k j diag raw y).get (FI_RAW.DQ k j)
    _ = ((s.setChan (8 * k + j) y).put (FI_RAW.DQ k j) diag).get (FI_RAW.DQ k j) := State.get_put_other rfl (by simp [Fld.apart])
    _ = diag % 16 := State.get_put_same rfl
    _ = diag := Nat.mod_eq_of_lt h

theorem State.chanOf_rawShown {diag : Nat} {raw : Int} {y : ChanS} : (s.rawShown k j diag raw y).chanOf (8 * k + j) = y :=
  (State.chanOf_of_chan_eq (State.chan_put.trans State.chan_put)).trans State.chanOf_setChan_same

theorem State.mem_rawShown {diag : Nat} {raw : Int} {y : ChanS} : (s.rawShown k j diag raw y).mem = s.mem :=
  (State.mem_put.trans State.mem_put).trans State.mem_setChan

/-- The channel's raw word and count, and the mirror word as the only one written, at the end of its conversion. -/
def ShowsConversion (k j raw : Nat) (parity : Bool) (s t : State) : Prop :=
  t.get (FI_RAW.RAW k j) = raw ∧ (parity = true → t.get (FI_RAW.DQ k j) = 12)
    ∧ (t.chanOf (8 * k + j)).convs = (s.chanOf (8 * k + j)).convs + 1 ∧ (t.chanOf (8 * k + j)).stale = false
    ∧ SramKeptBut [0o00400000 + (8 * k + j)] s t ∧ MramKept s t

theorem showsConversion_converted {r1 : BitVec 24} {r2 : Int} {parity testOpen compliance : Bool} {found : Terminals} (hj : c.ch < 8)
    (hlist : c.list < 8) (hmeas : Entry.meas c.ent ≠ 2) : ShowsConversion k c.ch r1.toNat parity s
      (s.converted k c parity (s.result k c r1.toInt r2 parity testOpen compliance found)) := by
  obtain ⟨p, hp⟩ : ∃ p, p = s.result k c r1.toInt r2 parity testOpen compliance found := ⟨_, rfl⟩
  have hraw : p.2.1 = r1.toInt := by rw [hp, State.raw_result hmeas]
  have hdiag : parity = true → p.1 = 12 := fun h => by
    subst h
    rw [hp, State.diag_result]
  obtain ⟨hconvs, hstale⟩ : p.2.2.2.convs = (s.chanOf (8 * k + c.ch)).convs + 1 ∧ p.2.2.2.stale = false := by
    rw [hp]
    exact State.chan_result
  rw [← hp]
  obtain ⟨hreg, hchan, hsram, hmram⟩ := resultKept_converted (s := s) (k := k) (parity := parity) (p := p) hj hlist
  have hmem : MemKept s (s.rawShown k c.ch p.1 p.2.1 p.2.2.2) := memKept_of_mem_eq State.mem_rawShown
  have hchanOf : (s.converted k c parity p).chanOf (8 * k + c.ch) = p.2.2.2 := (State.chanOf_of_chan_eq hchan).trans State.chanOf_rawShown
  refine ⟨?_, fun h => ?_, ?_, ?_, hmem.sramKeptBut.trans hsram, hmem.2.trans hmram⟩
  · rw [get_of_reg_eq hreg, hraw, State.raw_rawShown]
  · rw [get_of_reg_eq hreg, hdiag h, State.dq_rawShown (by decide)]
  · rw [hchanOf, hconvs]
  · rw [hchanOf, hstale]

theorem ShowsConversion.settled {raw : Nat} {parity : Bool} (h : ShowsConversion k j raw parity s t) :
    ShowsConversion k j raw parity s (settle t) := h

/-- Of the state before, the channels and memory alone. -/
theorem ShowsConversion.of_eq {raw : Nat} {parity : Bool} (h : ShowsConversion k j raw parity u t) (hchan : u.chan = s.chan)
    (hmem : u.mem = s.mem) : ShowsConversion k j raw parity s t := by
  obtain ⟨hraw, hdq, hconvs, hstale, hsram, hmram⟩ := h
  have hkept : MemKept s u := memKept_of_mem_eq hmem
  rw [State.chanOf_of_chan_eq hchan] at hconvs
  exact ⟨hraw, hdq, hconvs, hstale, hkept.sramKeptBut.trans hsram, hkept.2.trans hmram⟩

theorem conversionComplete_shows (hup : s.up = true) (k : Fin 16) (r1 r2 : BitVec 24) (parity testOpen compliance : Bool)
    (found : Terminals) (halive : s.alive k = true) (hconv : (s.islOf k).conv = some c) (hj : c.ch < 8) (hlist : c.list < 8)
    (hmeas : Entry.meas c.ent ≠ 2) (hdue : c.start + c.len < s.t.run + 1 ∨ c.start + c.len = s.t.run + 1 ∧ 2 ≤ s.ph) :
    Completes (.conversionComplete k r1 r2 parity testOpen compliance found) s (ShowsConversion k c.ch r1.toNat parity s) := by
  have hrun : exec (.conversionComplete k r1 r2 parity testOpen compliance found) s
      = .next (settle (if s.alive k then s.complete k r1.toInt r2.toInt parity testOpen compliance found else s)) :=
    act_up (p := fun s => if s.alive k then s.complete k r1.toInt r2.toInt parity testOpen compliance found else s) hup
  obtain ⟨src, hsrc, hchan, ht, hmem⟩ := State.sampleSource_conv hconv
  have hph : (s.sampleSource k).ph = s.ph := by
    unfold State.ph
    rw [ht]
  rw [if_pos halive, State.complete_due hsrc (by rw [ht, hph]; exact hdue)] at hrun
  exact ⟨_, hrun, ((showsConversion_converted (c := { c with src := src }) hj hlist hmeas).of_eq hchan hmem).settled⟩

end

/-- Settles O29. A trigger while the converter runs marks its list alone; at an idle converter it begins the pass; the end of a
conversion shows its result and writes one mirror word. -/
theorem scanTriggersPendAndConvert : Obligations.ScanTriggersPendAndConvert := by
  unfold Obligations.ScanTriggersPendAndConvert
  refine fun s k n hup halive => ⟨fun hthost hmode hconv hpend => fiStrigWrite_pends hup k n halive hthost hmode hconv hpend,
    fun hdue hconv hpend => scanPeriodTick_drops hup k n halive hdue hconv hpend,
    fun j r hmode hmicros hticked hphase hconv hpass hpend hidle hnode hcan => ?_,
    fun c r1 r2 parity testOpen compliance found hconv hj hlist hmeas hdue =>
      conversionComplete_shows hup k r1 r2 parity testOpen compliance found halive hconv hj hlist hmeas hdue⟩
  have hdue : s.periodDue k n = true := by simp [State.periodDue, hmode, hmicros, hticked, halive]
  obtain ⟨t, hrun, ⟨hlist, hleft, hconvs, hruns, hpended⟩, hmem⟩ :=
    scanPeriodTick_starts hup k n halive hdue hphase hconv hpass hpend hidle hnode hcan
  exact ⟨t, hrun, hlist, hleft, hconvs, hruns, hpended, hmem⟩

end Sys2Proof.Machine

namespace Sys2Proof.Machine

open Sys2Proof

/-! ## A write of CAL_CMD (R33, R170) -/

/-- The 4096 addresses from FI_STRIG 0 on reach past the field islands into the CAL block, so that a write of CAL_CMD is taken for
one of a field island's settings: its word is stored, and no command is taken. -/
theorem State.regWrite_calCmd {s : State} {w : Word} (hd : s.deaf CAL_CMD = false) :
    s.regWrite CAL_CMD w = s.setReg CAL_CMD (s.written CAL_CMD w) := by
  unfold State.regWrite
  rw [hd]
  rfl

/-- A running node with a command of the calibration store waiting for its round boundary. -/
def captureWaiting : State :=
  { State.reset with
    regs := [(SYS_ISTAT, W (2 ^ 29 - 1))]
    life := { State.reset.life with boot := .powered }
    cal := { State.reset.cal with cmd := 1 } }

/-- Refutes O31 at its part on CAL_CMD: with a CAPTURE waiting, a second write of its code leaves RESULT at 0 and shows no BUSY. -/
theorem not_calibrationCaptures : ¬ Obligations.CalibrationCaptures := by
  unfold Obligations.CalibrationCaptures
  intro h
  have hup : captureWaiting.up = true := by decide
  have hserved : captureWaiting.served = true := by decide
  have hdeaf : captureWaiting.deaf CAL_CMD = false := by decide
  have hres : captureWaiting.get CAL_CSTAT.RESULT = 0 := by decide
  have hwk : ¬isWk CAL_CMD = true := by decide
  obtain ⟨-, -, hbusy, -⟩ := h captureWaiting hup
  obtain ⟨t, hrun, hshown, -⟩ := hbusy (BitVec.ofNat 24 CAL_CMD) 1 hserved rfl (by decide) (by decide) (by decide) (by decide)
  obtain ⟨pend, hexec⟩ := exec_registerWrite (w := 1) hserved (BitVec.ofNat 24 CAL_CMD)
  have haddr : (BitVec.ofNat 24 CAL_CMD).toNat = CAL_CMD := rfl
  rw [haddr, if_neg hwk, State.regWrite_calCmd (State.deaf_withPend.trans hdeaf)] at hexec
  obtain rfl := Host.Outcome.next.inj (hexec.symm.trans hrun)
  rw [State.get_settle, State.get_setReg_other (by decide)] at hshown
  exact absurd (hres.symm.trans hshown) (by decide)

end Sys2Proof.Machine

namespace Sys2Proof.Machine

open Sys2Proof

/-! ## Commands of the calibration store (R161, R170) -/

section
variable {s t u : State} {i : Instr} {f : Fld} {n o r v x : Nat} {w : Word} {l : List Nat}

/-! ### Registers kept through a write -/

theorem RegsKeptBut.put (h : RegsKeptBut l s t) (hf : f.addr ∈ l) : RegsKeptBut l s (t.put f v) := by
  refine fun a ha => (State.reg_put_other ?_).trans (h a ha)
  rintro rfl
  exact ha hf

theorem regsKeptBut_of_regs_eq (h : t.regs = s.regs) : RegsKeptBut l s t := fun a _ => by
  unfold State.reg
  rw [h]

/-! ### Words of the working copy (R161) -/

theorem State.workAt_of_work_eq (h : t.cal.work = s.cal.work) : t.workAt o = s.workAt o := by
  unfold State.workAt
  rw [h]

theorem State.work_setWork : (s.setWork o w).cal.work = s.cal.work.write (fun _ => 0) o w := rfl

/-- The working copy's word just written reads back, every other as before. -/
theorem State.workAt_setWork : (s.setWork o w).workAt x = if x = o then w else s.workAt x := by
  unfold State.workAt
  rw [State.work_setWork, Store.read_write]

theorem State.mem_setWork : (s.setWork o w).mem = s.mem := by
  unfold State.setWork State.calEdit
  rw [State.mem_putB]

/-- EDIT compares the working copy with the bank in force (R170). -/
theorem State.edit_calEdit : s.calEdit.flag CAL_STAT.EDIT = (calRecords s.cal.work != calRecords s.calInForce) := State.flag_putB_same rfl

/-! ### The end of a command (R170) -/

/-- A command has ended: its result shown, RUN clear, the interrupt source set, no capture left; no other register, nothing else of
the store and no memory has changed. -/
def CalEnded (r : Nat) (s t : State) : Prop :=
  t.get CAL_CSTAT.RESULT = r ∧ t.flag CAL_CSTAT.RUN = false ∧ t.flag HST_ISRC.CAL = true ∧ t.cal = { s.cal with capture := none }
    ∧ RegsKeptBut [CAL_CSTAT, HST_ISRC] s t ∧ t.mem = s.mem

/-- A field apart from those that the end of a command writes. -/
theorem State.get_calEnd (hres : f.apart CAL_CSTAT.RESULT = true) (hrun : f.apart CAL_CSTAT.RUN = true)
    (hsrc : f.apart HST_ISRC.CAL = true) : (s.calEnd r).get f = s.get f :=
  (State.get_raise_other rfl hsrc).trans ((State.get_putB_other rfl hrun).trans (State.get_put_other rfl hres))

theorem State.flag_raise_same (h : f.ok = true) : (s.raise f).flag f = true := by
  unfold State.flag
  rw [State.get_raise_same h]
  rfl

theorem calEnded_calEnd (hr : r < 16) : CalEnded r s (s.calEnd r) := by
  refine ⟨?_, ?_, State.flag_raise_same rfl, rfl, ?_, State.mem_calEnd⟩
  · have hput : (s.calEnd r).get CAL_CSTAT.RESULT = r % 16 :=
      (State.get_raise_other rfl rfl).trans ((State.get_putB_other rfl rfl).trans (State.get_put_same rfl))
    exact hput.trans (Nat.mod_eq_of_lt hr)
  · exact (State.flag_put_other rfl rfl).trans (State.flag_putB_same rfl)
  · have hcal : RegsKeptBut [CAL_CSTAT, HST_ISRC] s { s with cal := { s.cal with capture := none } } := regsKeptBut_of_regs_eq rfl
    exact ((hcal.put (f := CAL_CSTAT.RESULT) (by decide)).put (f := CAL_CSTAT.RUN) (by decide)).put (f := HST_ISRC.CAL) (by decide)

theorem CalEnded.settled (h : CalEnded r s t) : CalEnded r s (settle t) := h

/-! ### A command at its round boundary (R170) -/

/-- The command that waited is taken. -/
def State.calTaken (s : State) : State := { s with cal := { s.cal with cmd := 0 } }

theorem State.calBegin_idle (husec : s.t.usec = 0) (hbusy : s.calBusy = false) : s.calBegin n = s.calTaken.calRun n := by
  unfold State.calBegin
  rw [if_neg (by simp [husec]), if_pos (by simp [hbusy])]
  rfl

/-- A row that begins its command with the store idle, where the command ends at once. -/
theorem completes_calRun {P : State → Prop} (hup : s.up = true) (hrow : exec i s = act s (fun s => s.calBegin n)) (husec : s.t.usec = 0)
    (hbusy : s.calBusy = false) (hr : r < 16) (hends : s.calTaken.calRun n = u.calEnd r)
    (hP : ∀ t, CalEnded r u t → P t) : Completes i s P := by
  refine ⟨settle (u.calEnd r), ?_, hP _ (calEnded_calEnd hr).settled⟩
  rw [hrow, act_up (p := fun s => s.calBegin n) hup, State.calBegin_idle husec hbusy, hends]

/-! ### COMPUTE (R159, R163) -/

/-- Gain and offset that a COMPUTE finds. -/
def State.foundGain (s : State) (two : Bool) : Rat :=
  if two then (coef (s.workAt (s.calOff + 7)) - coef (s.workAt (s.calOff + 5)))
    / (coef (s.workAt (s.calOff + 8)) - coef (s.workAt (s.calOff + 6))) else 1
def State.foundOffset (s : State) (two : Bool) : Rat :=
  if two then (if s.foundGain two == 0 then 0 else coef (s.workAt (s.calOff + 6)) - coef (s.workAt (s.calOff + 5)) / s.foundGain two)
  else coef (s.workAt (s.calOff + 6)) - coef (s.workAt (s.calOff + 5))

/-- Both are within the limits of R163. -/
def State.foundOk (s : State) (two : Bool) : Bool :=
  calLimits (s.foundGain two) (s.foundOffset two)
    (fsOf (s.calNote 1).1 (s.entry s.calCh).wires (2 ^ ((s.calNote 1).2 - 1)) (s.entry s.calCh).inom)

/-- Word 0 of a computed record: CALD, METHOD, CSTYPE, CGAIN. -/
def recordHead (two : Bool) (note : Nat × Nat) : Word := W (2 ^ 35 + (if two then 2 else 1) <<< 33 + note.1 <<< 29 + note.2 <<< 25)

/-- The computed record in the working copy. -/
def State.computed (s : State) (two : Bool) : State :=
  (((s.setWork s.calOff (recordHead two (s.calNote 1))).setWork (s.calOff + 1) (toCoef (s.foundOffset two))).setWork (s.calOff + 2)
    (toCoef (s.foundGain two))).setWork (s.calOff + 3) s.ts0

theorem State.calCompute_eq (two : Bool) : s.calCompute two =
    if two && s.calNote 2 != s.calNote 1 then s.calEnd 7
    else if two && coef (s.workAt (s.calOff + 8)) == coef (s.workAt (s.calOff + 6)) then s.calEnd 8
    else if s.foundOk two then (s.computed two).calEnd 0 else s.calEnd 8 := by
  unfold State.calCompute State.foundOk State.computed State.foundOffset State.foundGain recordHead
  dsimp only [Prod.mk.eta]
  simp only [Bool.not_eq_true', ← Bool.not_eq_true, ite_not]

theorem State.calCompute_offset : s.calCompute false = if s.foundOk false then (s.computed false).calEnd 0 else s.calEnd 8 := by
  rw [State.calCompute_eq, Bool.false_and, Bool.false_and, if_neg Bool.false_ne_true, if_neg Bool.false_ne_true]

theorem State.calCompute_mismatch (h : s.calNote 1 ≠ s.calNote 2) : s.calCompute true = s.calEnd 7 := by
  rw [State.calCompute_eq, if_pos (by simpa using h.symm)]

theorem State.calCompute_flat (hnote : s.calNote 1 = s.calNote 2)
    (h : coef (s.workAt (s.calOff + 8)) = coef (s.workAt (s.calOff + 6))) : s.calCompute true = s.calEnd 8 := by
  rw [State.calCompute_eq, if_neg (by simp [hnote]), if_pos (by simpa using h)]

theorem State.calCompute_twoPoint (hnote : s.calNote 1 = s.calNote 2)
    (h : coef (s.workAt (s.calOff + 8)) ≠ coef (s.workAt (s.calOff + 6))) :
    s.calCompute true = if s.foundOk true then (s.computed true).calEnd 0 else s.calEnd 8 := by
  rw [State.calCompute_eq, if_neg (by simp [hnote]), if_neg (by simpa using h)]

theorem bit_two_pow_add (h : v < 2 ^ n) : bit (2 ^ n + v) n = true := by
  unfold bit
  rw [Nat.shiftRight_eq_div_pow, Nat.add_div_left _ (by positivity), Nat.div_eq_of_lt h]
  rfl

theorem wbit_recordHead {two : Bool} {note : Nat × Nat} (hstype : note.1 < 16) (hgain : note.2 < 16) :
    wbit (recordHead two note) 35 = true := by
  obtain ⟨rest, hrest⟩ : ∃ k, k = (if two then 2 else 1) <<< 33 + note.1 <<< 29 + note.2 <<< 25 := ⟨_, rfl⟩
  have hmethod : (if two then 2 else 1) ≤ 2 := by cases two <;> decide
  have hlt : rest < 2 ^ 35 := by
    rw [hrest]
    norm_num only [Nat.shiftLeft_eq]
    omega
  have hhead : recordHead two note = W (2 ^ 35 + rest) := by
    unfold recordHead
    rw [hrest, Nat.add_assoc, Nat.add_assoc, Nat.add_assoc]
  have htwice : 2 ^ 35 + rest < 2 ^ 36 := by
    rw [pow_succ 2 35]
    omega
  unfold wbit
  rw [hhead, BitVec.toNat_ofNat, Nat.mod_eq_of_lt htwice, bit_two_pow_add hlt]

/-- The record after a COMPUTE: CALD, offset, gain and date. -/
theorem State.workAt_computed {two : Bool} (hstype : (s.calNote 1).1 < 16) (hgain : (s.calNote 1).2 < 16) :
    wbit ((s.computed two).workAt s.calOff) 35 = true ∧ (s.computed two).workAt (s.calOff + 1) = toCoef (s.foundOffset two)
      ∧ (s.computed two).workAt (s.calOff + 2) = toCoef (s.foundGain two) ∧ (s.computed two).workAt (s.calOff + 3) = s.t.round := by
  have hhead : (s.computed two).workAt s.calOff = recordHead two (s.calNote 1) := by simp [State.computed, State.workAt_setWork]
  refine ⟨hhead ▸ wbit_recordHead hstype hgain, ?_, ?_, ?_⟩
  · simp [State.computed, State.workAt_setWork]
  · simp [State.computed, State.workAt_setWork]
  · simp [State.computed, State.workAt_setWork, State.ts0]

theorem State.mem_computed {two : Bool} : (s.computed two).mem = s.mem := by
  unfold State.computed
  rw [State.mem_setWork, State.mem_setWork, State.mem_setWork, State.mem_setWork]

/-- What every COMPUTE, CLEAR and DISCARD leaves (R170). -/
theorem CalEnded.shows (h : CalEnded r u t) (hmem : u.mem = s.mem) :
    t.get CAL_CSTAT.RESULT = r ∧ t.cal.work = u.cal.work ∧ t.flag CAL_CSTAT.RUN = false ∧ t.flag HST_ISRC.CAL = true ∧ MemKept s t := by
  obtain ⟨hres, hrun, hsrc, hcal, -, hm⟩ := h
  exact ⟨hres, by rw [hcal], hrun, hsrc, memKept_of_mem_eq (hm.trans hmem)⟩

/-! ### CLEAR and DISCARD (R161, R170) -/

/-- CALD = 0 in the selected record. -/
def State.cleared (s : State) : State := s.setWork s.calOff (W (setBit (s.workAt s.calOff).toNat 35 false))

theorem wbit_cleared : wbit (W (setBit w.toNat 35 false)) 35 = false := by
  have hlt : setBit w.toNat 35 false < 2 ^ 36 := setBits_lt le_rfl (by decide) w.isLt
  unfold wbit
  rw [BitVec.toNat_ofNat, Nat.mod_eq_of_lt hlt, bit_setBit_same]

/-- The working copy loaded again. -/
def State.reloaded (s : State) : State :=
  ({ s with cal := { s.cal with work := s.calInForce, notes := [] } } : State).putB CAL_STAT.EDIT false

end

/-- Settles O32: each command ends at once, with what it leaves in the working copy. -/
theorem calibrationComputations : Obligations.CalibrationComputations := by
  unfold Obligations.CalibrationComputations
  intro s hup husec hbusy hstype hgain
  refine ⟨fun hok => ?_, fun hbad => ?_, fun hnote => ?_, fun hnote hflat => ?_, fun hnote hslope => ?_, ?_, ?_⟩
  · have hends : s.calTaken.calCompute false = (s.calTaken.computed false).calEnd 0 := State.calCompute_offset.trans (if_pos hok)
    refine completes_calRun hup rfl husec hbusy (by decide) hends fun t ht => ?_
    obtain ⟨hcald, hoffs, hfgain, hdate⟩ := State.workAt_computed (s := s.calTaken) (two := false) hstype hgain
    obtain ⟨hres, hwork, hrest⟩ := ht.shows (s := s) State.mem_computed
    have hat : ∀ o, t.workAt o = (s.calTaken.computed false).workAt o := fun _ => State.workAt_of_work_eq hwork
    exact ⟨hres, (congrArg (wbit · 35) (hat _)).trans hcald, (hat _).trans hoffs, (hat _).trans hfgain, (hat _).trans hdate, hrest⟩
  · have hends : s.calTaken.calCompute false = s.calTaken.calEnd 8 := State.calCompute_offset.trans (if_neg (ne_true_of_eq_false hbad))
    exact completes_calRun hup rfl husec hbusy (by decide) hends fun t ht => ht.shows rfl
  · have hends : s.calTaken.calCompute true = s.calTaken.calEnd 7 := State.calCompute_mismatch hnote
    exact completes_calRun hup rfl husec hbusy (by decide) hends fun t ht => ht.shows rfl
  · have hends : s.calTaken.calCompute true = s.calTaken.calEnd 8 := State.calCompute_flat hnote hflat
    exact completes_calRun hup rfl husec hbusy (by decide) hends fun t ht => ht.shows rfl
  · have heq : s.calTaken.calCompute true
        = if s.calTaken.foundOk true then (s.calTaken.computed true).calEnd 0 else s.calTaken.calEnd 8 :=
      State.calCompute_twoPoint hnote hslope
    by_cases hok : s.calTaken.foundOk true = true
    · refine completes_calRun hup rfl husec hbusy (by decide) (heq.trans (if_pos hok)) fun t ht => ?_
      obtain ⟨hcald, -, hfgain, hdate⟩ := State.workAt_computed (s := s.calTaken) (two := true) hstype hgain
      obtain ⟨hres, hwork, hrest⟩ := ht.shows (s := s) State.mem_computed
      have hat : ∀ o, t.workAt o = (s.calTaken.computed true).workAt o := fun _ => State.workAt_of_work_eq hwork
      exact ⟨.inr ⟨hres, (congrArg (wbit · 35) (hat _)).trans hcald, (hat _).trans hdate, (hat _).trans hfgain⟩, hrest⟩
    · refine completes_calRun hup rfl husec hbusy (by decide) (heq.trans (if_neg hok)) fun t ht => ?_
      obtain ⟨hres, hwork, hrest⟩ := ht.shows (s := s) rfl
      exact ⟨.inl ⟨hres, hwork⟩, hrest⟩
  · refine completes_calRun (u := s.calTaken.cleared) hup rfl husec hbusy (by decide) rfl fun t ht => ?_
    obtain ⟨hres, hwork, hrest⟩ := ht.shows (s := s) State.mem_setWork
    have hat : ∀ o, t.workAt o = s.calTaken.cleared.workAt o := fun _ => State.workAt_of_work_eq hwork
    refine ⟨hres, ?_, fun o ho => ?_, hrest⟩
    · have hword := (hat s.calOff).trans (State.workAt_setWork.trans (if_pos rfl))
      rw [hword, wbit_cleared]
    · exact (hat o).trans (State.workAt_setWork.trans (if_neg ho))
  · refine completes_calRun (u := s.calTaken.reloaded) hup rfl husec hbusy (by decide) rfl fun t ht => ?_
    obtain ⟨hres, hwork, hrest⟩ := ht.shows (s := s) State.mem_putB
    obtain ⟨-, -, -, hcal, hregs, -⟩ := ht
    have hedit : s.calTaken.reloaded.flag CAL_STAT.EDIT = false := State.flag_putB_same rfl
    exact ⟨hres, (flag_of_reg_eq (hregs _ (by decide))).trans hedit, hwork, by rw [hcal]; rfl, hrest⟩

end Sys2Proof.Machine

namespace Sys2Proof.Machine

open Sys2Proof

/-! ## Calibration commits (R164 to R166) -/

section
variable {s t u : State} {f : Fld} {a b n r lo hi : Nat} {w : Word} {m : Store}

/-! ### Memory words one at a time -/

theorem State.mramPoison_setMram : (s.setMram a w).mramPoison b = (s.mramPoison b && b != a) := by
  simp only [State.mramPoison, State.setMram]
  by_cases h : b = a
  · subst h; simp
  · rw [Bool.eq_iff_iff]; simp [h]

theorem mramKeptBut_setMram : MramKeptBut [a] s (s.setMram a w) := fun b hb => by
  have hne : b ≠ a := List.ne_of_not_mem_cons hb
  exact ⟨State.mramAt_setMram_other hne, by rw [State.mramPoison_setMram]; simp [hne]⟩

theorem mramKeptBut_spoilMram : MramKeptBut [a] s (s.spoilMram a w) := fun b hb => by
  have hne : b ≠ a := List.ne_of_not_mem_cons hb
  obtain ⟨hat, hpoison⟩ := mramKeptBut_setMram (s := s) (w := w) b hb
  have hcons : (s.spoilMram a w).mramPoison b = (b == a || (s.setMram a w).mramPoison b) := rfl
  refine ⟨hat, ?_⟩
  rw [hcons, hpoison, beq_false_of_ne hne, Bool.false_or]

theorem MramKeptBut.of_mem_eq {l : List Nat} (h : MramKeptBut l s u) (hmem : t.mem = u.mem) : MramKeptBut l s t := fun b hb => by
  obtain ⟨hat, hpoison⟩ := h b hb
  obtain ⟨-, hmram⟩ := memKept_of_mem_eq hmem
  exact ⟨(hmram b).1.trans hat, (hmram b).2.trans hpoison⟩

theorem SramKept.of_mem_eq (h : SramKept s u) (hmem : t.mem = u.mem) : SramKept s t := fun b => by
  obtain ⟨hat, hpoison⟩ := h b
  obtain ⟨hsram, -⟩ := memKept_of_mem_eq hmem
  exact ⟨(hsram b).1.trans hat, (hsram b).2.trans hpoison⟩

/-! ### A bank and its validity (R156, R167) -/

/-- A window of a table that starts at 0 shows the table's words. -/
theorem Store.read_window (h : n < hi - lo) : (m.window lo hi 0).read (fun _ => 0) n = m.read mramReset (lo + n) := by
  induction m with
  | nil => rfl
  | cons p rest ih =>
    obtain ⟨a, v⟩ := p
    unfold Store.window at ih ⊢
    rw [List.filter_cons]
    split
    · next hin =>
      simp only [Bool.and_eq_true, decide_eq_true_eq] at hin
      rw [List.map_cons, Store.read, Store.read, ih]
      by_cases ha : a = lo + n
      · rw [if_pos (by omega), if_pos ha]
      · rw [if_neg (by omega), if_neg ha]
    · next hout =>
      simp only [Bool.and_eq_true, decide_eq_true_eq] at hout
      rw [ih, Store.read, if_neg (by omega)]

theorem State.calValid_of_mem_eq (h : t.mem = s.mem) : t.calValid b = s.calValid b := by
  unfold State.calValid State.calBank State.calPoison
  rw [h]

theorem State.calBank_of_mem_eq (h : t.mem = s.mem) : t.calBank b = s.calBank b := by
  unfold State.calBank
  rw [h]

theorem State.calValid_magic (h : s.mramAt (calBase b) ≠ calMagic) : s.calValid b = false := by
  have hword : (s.calBank b).read (fun _ => 0) 0 = s.mramAt (calBase b) := Store.read_window (by rw [Nat.add_sub_cancel_left]; decide)
  unfold State.calValid
  simp only [hword, beq_false_of_ne h, Bool.false_and]

theorem State.calValid_poison (h : s.calPoison b = true) : s.calValid b = false := by
  unfold State.calValid
  simp only [h, Bool.not_true, Bool.and_false]

/-! ### A keyed COMMIT (R164, R165, R170) -/

theorem exec_calCommit (hup : s.up = true) : exec .calCommit s = .next (settle (s.calCommit s.imageBusy)) :=
  act_up (p := fun s => s.calCommit s.imageBusy) hup

theorem State.calCommit_waits (hbusy : s.calBusy = false) (hstart : s.starting = false) :
    s.calCommit false = { s with cal := { s.cal with cmt := true } } := by
  unfold State.calCommit
  rw [hbusy, hstart]
  rfl

/-- A refusal of a COMMIT that came with the store idle. -/
def State.commitRefused (s : State) (r : Nat) : State := (s.put CAL_CSTAT.RESULT r).raise HST_ISRC.CAL

theorem State.calCommit_starting {image : Bool} (hbusy : s.calBusy = false) (hstart : s.starting = true) :
    s.calCommit image = s.commitRefused 10 := by
  unfold State.calCommit
  rw [hbusy, hstart]
  rfl

theorem State.calCommit_image (hbusy : s.calBusy = false) (hstart : s.starting = false) : s.calCommit true = s.commitRefused 1 := by
  unfold State.calCommit
  rw [hbusy, hstart]
  rfl

theorem State.result_commitRefused (hr : r < 16) : (s.commitRefused r).get CAL_CSTAT.RESULT = r := by
  unfold State.commitRefused
  rw [State.get_raise_other rfl rfl, State.get_put_same rfl]
  exact Nat.mod_eq_of_lt hr

theorem regsKeptBut_commitRefused : RegsKeptBut [CAL_CSTAT, HST_ISRC] s (s.commitRefused r) := by
  have hself : RegsKeptBut [CAL_CSTAT, HST_ISRC] s s := regsKeptBut_of_regs_eq rfl
  exact (hself.put (f := CAL_CSTAT.RESULT) (by decide)).put (f := HST_ISRC.CAL) (by decide)

theorem State.mem_commitRefused : (s.commitRefused r).mem = s.mem := State.mem_raise.trans State.mem_put

theorem calCommit_refused (hup : s.up = true) (hr : r < 16) (h : s.calCommit s.imageBusy = s.commitRefused r) :
    Completes .calCommit s (fun t => t.get CAL_CSTAT.RESULT = r ∧ RegsKeptBut [CAL_CSTAT, HST_ISRC] s t ∧ MemKept s t) := by
  have hrun := exec_calCommit hup
  rw [h] at hrun
  exact ⟨_, hrun, State.get_settle.trans (State.result_commitRefused hr),
    fun a ha => State.reg_settle.trans (regsKeptBut_commitRefused a ha),
    memKept_of_mem_eq (State.mem_settle.trans State.mem_commitRefused)⟩

/-! ### The commit at its boundary (R164, R165) -/

/-- The commit that waited is taken. -/
def State.commitTaken (s : State) : State := { s with cal := { s.cal with cmt := false } }

/-- The flag and the SEQ register of a bank. -/
def bankFlag (b : Nat) : Fld := if b == 0 then CAL_STAT.AVALID else CAL_STAT.BVALID
def bankSeq (b : Nat) : Nat := if b == 0 then CAL_SEQA else CAL_SEQB

/-- A bank without MAGIC, which shows as not valid. -/
def State.bankDropped (s : State) (b : Nat) : State :=
  (((s.setMram (calBase b) 0).putB (bankFlag b) false).setReg (bankSeq b) 0).putB CAL_STAT.EQSEQ false

/-- A commit runs, in its first step. -/
def State.stepOne (s : State) (b : Nat) : State :=
  (({ s with cal := { s.cal with cmtBank := b, cmtAt := s.t.run, pausedAt := none } } : State).putB CAL_CSTAT.RUN true).put CAL_CSTAT.STEP 1

/-- A commit refuses its first bad record, or begins with step 1. -/
def State.commitBegun (s : State) : State :=
  match s.calBadRec with
  | some r => (s.put CAL_CSTAT.BADREC r).calEnd 9
  | none => (s.bankDropped s.calTarget).stepOne s.calTarget

theorem State.calCommitRun_due {image : Bool} (hcmt : s.cal.cmt = true) (husec : s.t.usec = 0) (hwarn : s.life.warn = false)
    (hstart : s.starting = false) (himage : image = false) : s.calCommitRun image = s.commitTaken.commitBegun := by
  have hdue : ¬(!s.cal.cmt || s.t.usec != 0 || s.life.warn) = true := by simp [hcmt, husec, hwarn]
  have hstart' : ¬s.commitTaken.starting = true := ne_true_of_eq_false hstart
  exact (if_neg hdue).trans ((if_neg hstart').trans (if_neg (ne_true_of_eq_false himage)))

theorem State.calCommitRun_waits {image : Bool} (husec : s.t.usec ≠ 0) : s.calCommitRun image = s :=
  if_pos (by simp [husec])

theorem exec_calCommitRun (hup : s.up = true) : exec .calCommitRun s = .next (settle (s.calCommitRun s.imageBusy)) :=
  act_up (p := fun s => s.calCommitRun s.imageBusy) hup

theorem exec_calCommitRun_due (hup : s.up = true) (hcmt : s.cal.cmt = true) (husec : s.t.usec = 0) (hwarn : s.life.warn = false)
    (hstart : s.starting = false) (himage : s.imageBusy = false) : exec .calCommitRun s = .next (settle s.commitTaken.commitBegun) := by
  rw [exec_calCommitRun hup, State.calCommitRun_due hcmt husec hwarn hstart himage]

/-- The number of a record fits BADREC. -/
theorem State.calBadRec_lt (h : s.calBadRec = some r) : r < 2 ^ 12 := by
  unfold State.calBadRec at h
  dsimp only at h
  split at h
  · next n hn =>
    have hmem := List.mem_range.mp (List.mem_of_find?_eq_some hn)
    simp only [Option.some.injEq] at h
    omega
  · obtain ⟨n, hn, rfl⟩ := Option.map_eq_some_iff.mp h
    have hmem := List.mem_range.mp (List.mem_of_find?_eq_some hn)
    omega

theorem State.commitBegun_bad (h : s.calBadRec = some r) : s.commitBegun = (s.put CAL_CSTAT.BADREC r).calEnd 9 := by
  unfold State.commitBegun
  rw [h]

theorem State.commitBegun_good (h : s.calBadRec = none) : s.commitBegun = (s.bankDropped s.calTarget).stepOne s.calTarget := by
  unfold State.commitBegun
  rw [h]

theorem calCommitRun_refuses (hup : s.up = true) (hcmt : s.cal.cmt = true) (husec : s.t.usec = 0) (hwarn : s.life.warn = false)
    (hstart : s.starting = false) (himage : s.imageBusy = false) (hbad : s.calBadRec = some r) :
    Completes .calCommitRun s (fun t => t.get CAL_CSTAT.RESULT = 9 ∧ t.get CAL_CSTAT.BADREC = r ∧ t.cal.cmt = false ∧ MemKept s t) := by
  have hrun := exec_calCommitRun_due hup hcmt husec hwarn hstart himage
  rw [State.commitBegun_bad (s := s.commitTaken) hbad] at hrun
  obtain ⟨hres, -, -, hcal, -, hmem⟩ := (calEnded_calEnd (s := s.commitTaken.put CAL_CSTAT.BADREC r) (r := 9) (by decide)).settled
  have hrec : (s.commitTaken.put CAL_CSTAT.BADREC r).get CAL_CSTAT.BADREC = r :=
    (State.get_put_same rfl).trans (Nat.mod_eq_of_lt (State.calBadRec_lt hbad))
  refine ⟨_, hrun, hres, ?_, ?_, memKept_of_mem_eq (hmem.trans State.mem_put)⟩
  · rw [State.get_settle, State.get_calEnd rfl rfl rfl, hrec]
  · rw [hcal]
    rfl

/-! ### Step 1 (R164) -/

theorem bankFlag_eq : bankFlag b = if b = 0 then CAL_STAT.AVALID else CAL_STAT.BVALID := by
  unfold bankFlag
  simp only [beq_iff_eq]

/-- A bank's flag lies in CAL_STAT, apart from EQSEQ and INFORCE. -/
theorem bankFlag_place : (bankFlag b).ok = true ∧ (bankFlag b).apart CAL_STAT.EQSEQ = true
    ∧ CAL_STAT.INFORCE.apart (bankFlag b) = true ∧ (bankFlag b).addr = CAL_STAT := by
  have h : bankFlag b = CAL_STAT.AVALID ∨ bankFlag b = CAL_STAT.BVALID := ite_eq_or_eq _ _ _
  rcases h with h | h
  · rw [h]; decide
  · rw [h]; decide

theorem bankSeq_ne : CAL_STAT ≠ bankSeq b := by
  have h : bankSeq b = CAL_SEQA ∨ bankSeq b = CAL_SEQB := ite_eq_or_eq _ _ _
  rcases h with h | h
  · rw [h]; decide
  · rw [h]; decide

theorem State.flag_bankDropped : (s.bankDropped b).flag (bankFlag b) = false := by
  obtain ⟨hok, hapart, -, haddr⟩ := bankFlag_place (b := b)
  have hput : ((s.setMram (calBase b) 0).putB (bankFlag b) false).flag (bankFlag b) = false := State.flag_putB_same hok
  unfold State.bankDropped
  rw [State.flag_putB_other rfl hapart, flag_of_reg_eq (State.reg_setReg_other (haddr ▸ bankSeq_ne)), hput]

theorem State.inforce_bankDropped : (s.bankDropped b).get CAL_STAT.INFORCE = s.get CAL_STAT.INFORCE := by
  obtain ⟨hok, -, hapart, -⟩ := bankFlag_place (b := b)
  unfold State.bankDropped
  rw [State.get_putB_other rfl rfl, State.get_setReg_other bankSeq_ne, State.get_putB_other hok hapart, State.get_setMram]

theorem State.mem_bankDropped : (s.bankDropped b).mem = (s.setMram (calBase b) 0).mem := by
  unfold State.bankDropped
  rw [State.mem_putB, State.mem_setReg, State.mem_putB]

theorem State.mem_stepOne : (s.stepOne b).mem = s.mem := by
  unfold State.stepOne
  rw [State.mem_put, State.mem_putB]

theorem State.cal_stepOne : (s.stepOne b).cal = { s.cal with cmtBank := b, cmtAt := s.t.run, pausedAt := none } := by
  unfold State.stepOne
  rw [State.cal_put, State.cal_putB]

theorem State.run_stepOne : (s.stepOne b).flag CAL_CSTAT.RUN = true := by
  unfold State.stepOne
  rw [State.flag_put_other rfl rfl, State.flag_putB_same rfl]

theorem State.step_stepOne : (s.stepOne b).get CAL_CSTAT.STEP = 1 := by
  unfold State.stepOne
  rw [State.get_put_same rfl]
  rfl

theorem regsKeptBut_stepOne : RegsKeptBut [CAL_CSTAT] s (s.stepOne b) := by
  have hcal : RegsKeptBut [CAL_CSTAT] s { s with cal := { s.cal with cmtBank := b, cmtAt := s.t.run, pausedAt := none } } :=
    regsKeptBut_of_regs_eq rfl
  exact (hcal.put (f := CAL_CSTAT.RUN) (by decide)).put (f := CAL_CSTAT.STEP) (by decide)

theorem calCommitRun_begins (hup : s.up = true) (hcmt : s.cal.cmt = true) (husec : s.t.usec = 0) (hwarn : s.life.warn = false)
    (hstart : s.starting = false) (himage : s.imageBusy = false) (hgood : s.calBadRec = none) :
    Completes .calCommitRun s (fun t => t.flag CAL_CSTAT.RUN = true ∧ t.get CAL_CSTAT.STEP = 1 ∧ t.cal.cmtBank = s.calTarget
      ∧ t.get CAL_STAT.INFORCE = s.get CAL_STAT.INFORCE ∧ t.flag (if s.calTarget = 0 then CAL_STAT.AVALID else CAL_STAT.BVALID) = false
      ∧ t.mramAt (calBase s.calTarget) = 0 ∧ t.calValid s.calTarget = false
      ∧ SramKept s t ∧ MramKeptBut [calBase s.calTarget] s t) := by
  obtain ⟨b, hb⟩ : ∃ b, b = s.calTarget := ⟨_, rfl⟩
  have hrun := exec_calCommitRun_due hup hcmt husec hwarn hstart himage
  rw [State.commitBegun_good (s := s.commitTaken) hgood, show s.commitTaken.calTarget = b from hb.symm] at hrun
  rw [← hb, ← bankFlag_eq]
  have hmem : (settle ((s.commitTaken.bankDropped b).stepOne b)).mem = (s.setMram (calBase b) 0).mem :=
    State.mem_settle.trans (State.mem_stepOne.trans State.mem_bankDropped)
  have hstat : ((s.commitTaken.bankDropped b).stepOne b).reg CAL_STAT = (s.commitTaken.bankDropped b).reg CAL_STAT :=
    regsKeptBut_stepOne _ (by decide)
  have hmagic : (settle ((s.commitTaken.bankDropped b).stepOne b)).mramAt (calBase b) = 0 := by
    have hword : (s.setMram (calBase b) 0).mramAt (calBase b) = 0 := State.mramAt_setMram_same
    obtain ⟨-, hmram⟩ := memKept_of_mem_eq hmem
    exact (hmram _).1.trans hword
  obtain ⟨-, -, -, hflag⟩ := bankFlag_place (b := b)
  have hzero : (0 : Word) ≠ calMagic := by decide
  have hinvalid := State.calValid_magic (hmagic.trans_ne hzero)
  refine ⟨_, hrun, ?_, ?_, ?_, ?_, ?_, hmagic, hinvalid, ?_, mramKeptBut_setMram.of_mem_eq hmem⟩
  · rw [State.flag_settle, State.run_stepOne]
  · rw [State.get_settle, State.step_stepOne]
  · rw [State.cal_settle, State.cal_stepOne]
  · rw [State.get_settle, get_of_reg_eq (f := CAL_STAT.INFORCE) hstat, State.inforce_bankDropped]
    rfl
  · rw [State.flag_settle, flag_of_reg_eq (hflag ▸ hstat), State.flag_bankDropped]
  · exact SramKept.of_mem_eq (u := s.setMram (calBase b) 0) (fun _ => ⟨rfl, rfl⟩) hmem

/-! ### Step 6: the read-back (R164) -/

/-- In its last step no step of a commit falls due. -/
theorem State.calSteps_six (h : s.get CAL_CSTAT.STEP = 6) : s.calSteps = s := by
  have hstep : s.calStep = s := by
    unfold State.calStep
    rw [h]
    rfl
  unfold State.calSteps
  rw [hstep, hstep, hstep, hstep, hstep, ite_self]

/-- The read-back is over: no step runs. -/
def State.stepsOver (s : State) : State := s.put CAL_CSTAT.STEP 0

/-- The bank written is in force, to take effect at the next boundary (R164, R166). -/
def State.putInForce (s : State) (b : Nat) : State :=
  let m := s.calBank b
  let s := if b == 0 then (s.setReg CAL_SEQA (calSeq m)).putB CAL_STAT.AVALID true else (s.setReg CAL_SEQB (calSeq m)).putB CAL_STAT.BVALID true
  (((s.put CAL_STAT.INFORCE b).putB CAL_STAT.PEND true).putB CAL_STAT.INFBAD false).putB CAL_STAT.NOVALID false

/-- How a commit ends after its read-back. -/
def State.readBack (s : State) : State :=
  if !s.calValid s.cal.cmtBank then s.calEnd 11 else (s.putInForce s.cal.cmtBank).calEdit.calEnd 0

theorem State.calCommitDone_early {mismatch : Bool} (hstep : s.get CAL_CSTAT.STEP = 6) (h : s.calElapsed < 49154) :
    s.calCommitDone mismatch = s := by
  unfold State.calCommitDone
  rw [State.calSteps_six hstep]
  exact if_pos (by simp [h])

theorem State.calCommitDone_due {mismatch : Bool} (hstep : s.get CAL_CSTAT.STEP = 6) (h : 49154 ≤ s.calElapsed) :
    s.calCommitDone mismatch = (if mismatch then s.calSpoil else s).stepsOver.readBack := by
  unfold State.calCommitDone
  rw [State.calSteps_six hstep]
  exact if_neg (by simp [hstep, h])

theorem State.readBack_bad (h : s.calValid s.cal.cmtBank = false) : s.readBack = s.calEnd 11 := if_pos (by simp [h])

theorem State.readBack_good (h : s.calValid s.cal.cmtBank = true) : s.readBack = (s.putInForce s.cal.cmtBank).calEdit.calEnd 0 :=
  if_neg (by simp [h])

theorem exec_calCommitComplete {mismatch : Bool} (hup : s.up = true) :
    exec (.calCommitComplete mismatch) s = .next (settle (s.calCommitDone mismatch)) := act_up (p := fun s => s.calCommitDone mismatch) hup

/-- A header word with an error pattern makes its bank invalid. -/
theorem State.calPoison_calSpoil : s.calSpoil.calPoison s.cal.cmtBank = true := by
  have hin : (decide (calBase s.cal.cmtBank ≤ calBase s.cal.cmtBank + 15)
      && decide (calBase s.cal.cmtBank + 15 < calBase s.cal.cmtBank + calSize)) = true := by
    rw [Bool.and_eq_true, decide_eq_true_eq, decide_eq_true_eq]
    exact ⟨Nat.le_add_right _ _, Nat.add_lt_add_left (by decide) _⟩
  exact Bool.or_eq_true_iff.mpr (.inl hin)

theorem calCommitComplete_mismatch (hup : s.up = true) (hstep : s.get CAL_CSTAT.STEP = 6) (h : 49154 ≤ s.calElapsed) :
    Completes (.calCommitComplete true) s (fun t => t.get CAL_CSTAT.RESULT = 11
      ∧ t.get CAL_STAT.INFORCE = s.get CAL_STAT.INFORCE ∧ t.flag CAL_CSTAT.RUN = false ∧ t.calValid s.cal.cmtBank = false
      ∧ SramKept s t ∧ MramKeptBut [calBase s.cal.cmtBank + 15] s t) := by
  have hover : s.calSpoil.stepsOver.mem = s.calSpoil.mem := State.mem_put
  have hbad : s.calSpoil.stepsOver.calValid s.cal.cmtBank = false := by
    rw [State.calValid_of_mem_eq hover, State.calValid_poison State.calPoison_calSpoil]
  have hrun := exec_calCommitComplete (mismatch := true) hup
  rw [State.calCommitDone_due hstep h, if_pos rfl, State.readBack_bad (s := s.calSpoil.stepsOver) hbad] at hrun
  obtain ⟨hres, hstop, -, -, hregs, hmem⟩ := (calEnded_calEnd (s := s.calSpoil.stepsOver) (r := 11) (by decide)).settled
  have hmem' := hmem.trans hover
  have hinforce : s.calSpoil.stepsOver.get CAL_STAT.INFORCE = s.get CAL_STAT.INFORCE := State.get_put_other rfl rfl
  refine ⟨_, hrun, hres, (get_of_reg_eq (hregs _ (by decide))).trans hinforce, hstop, ?_, ?_, mramKeptBut_spoilMram.of_mem_eq hmem'⟩
  · rw [State.calValid_of_mem_eq hmem, hbad]
  · exact SramKept.of_mem_eq (u := s.calSpoil) (fun _ => ⟨rfl, rfl⟩) hmem'

theorem State.mem_putInForce : (s.putInForce b).mem = s.mem := by
  unfold State.putInForce
  dsimp only
  split
  · simp only [State.mem_putB, State.mem_put, State.mem_setReg]
  · simp only [State.mem_putB, State.mem_put, State.mem_setReg]

theorem State.cal_putInForce : (s.putInForce b).cal = s.cal := by
  unfold State.putInForce
  dsimp only
  split
  · simp only [State.cal_putB, State.cal_put, State.cal_setReg]
  · simp only [State.cal_putB, State.cal_put, State.cal_setReg]

theorem State.mem_calEdit : s.calEdit.mem = s.mem := State.mem_putB

theorem State.get_calEdit (h : f.apart CAL_STAT.EDIT = true) : s.calEdit.get f = s.get f := State.get_putB_other rfl h

theorem State.flag_calEdit (h : f.apart CAL_STAT.EDIT = true) : s.calEdit.flag f = s.flag f := State.flag_putB_other rfl h

/-- What CAL_STAT shows of the bank in force. -/
theorem State.stat_putInForce (hb : b ≤ 1) : (s.putInForce b).get CAL_STAT.INFORCE = b ∧ (s.putInForce b).flag CAL_STAT.PEND = true
    ∧ (s.putInForce b).flag CAL_STAT.NOVALID = false := by
  unfold State.putInForce
  dsimp only
  generalize (if b == 0 then (s.setReg CAL_SEQA (calSeq (s.calBank b))).putB CAL_STAT.AVALID true
    else (s.setReg CAL_SEQB (calSeq (s.calBank b))).putB CAL_STAT.BVALID true) = u
  refine ⟨?_, ?_, State.flag_putB_same rfl⟩
  · rw [State.get_putB_other rfl rfl, State.get_putB_other rfl rfl, State.get_putB_other rfl rfl, State.get_put_same rfl]
    exact Nat.mod_eq_of_lt (Nat.lt_succ_of_le hb)
  · rw [State.flag_putB_other rfl rfl, State.flag_putB_other rfl rfl, State.flag_putB_same rfl]

theorem calCommitComplete_succeeds (hup : s.up = true) (hstep : s.get CAL_CSTAT.STEP = 6) (h : 49154 ≤ s.calElapsed)
    (hb : s.cal.cmtBank ≤ 1) (hvalid : s.calValid s.cal.cmtBank = true) :
    Completes (.calCommitComplete false) s (fun t => t.get CAL_CSTAT.RESULT = 0 ∧ t.get CAL_STAT.INFORCE = s.cal.cmtBank
      ∧ t.flag CAL_STAT.PEND = true ∧ t.flag CAL_STAT.NOVALID = false
      ∧ t.flag CAL_STAT.EDIT = (calRecords s.cal.work != calRecords (s.calBank s.cal.cmtBank))
      ∧ t.flag CAL_CSTAT.RUN = false ∧ MemKept s t) := by
  obtain ⟨u, hu⟩ : ∃ u, u = s.stepsOver.putInForce s.cal.cmtBank := ⟨_, rfl⟩
  have hover : s.stepsOver.mem = s.mem := State.mem_put
  have hcal : s.stepsOver.cal = s.cal := State.cal_put
  have hgood : s.stepsOver.calValid s.cal.cmtBank = true := (State.calValid_of_mem_eq hover).trans hvalid
  have hrun := exec_calCommitComplete (mismatch := false) hup
  rw [State.calCommitDone_due hstep h, if_neg Bool.false_ne_true, State.readBack_good (s := s.stepsOver) hgood,
    hcal, ← hu] at hrun
  obtain ⟨hres, hstop, -, -, hregs, hmem⟩ := (calEnded_calEnd (s := u.calEdit) (r := 0) (by decide)).settled
  obtain ⟨hinforce, hpend, hnovalid⟩ := State.stat_putInForce (s := s.stepsOver) hb
  rw [← hu] at hinforce hpend hnovalid
  have humem : u.mem = s.mem := by rw [hu, State.mem_putInForce, hover]
  have hwork : u.cal = s.cal := by rw [hu, State.cal_putInForce, hcal]
  have hbank : u.calInForce = s.calBank s.cal.cmtBank := by
    unfold State.calInForce
    rw [hnovalid, if_neg Bool.false_ne_true, hinforce, State.calBank_of_mem_eq humem]
  have hstat : (settle (u.calEdit.calEnd 0)).reg CAL_STAT = u.calEdit.reg CAL_STAT := hregs _ (by decide)
  refine ⟨_, hrun, hres, ?_, ?_, ?_, ?_, hstop, memKept_of_mem_eq (hmem.trans (State.mem_calEdit.trans humem))⟩
  · rw [get_of_reg_eq (f := CAL_STAT.INFORCE) hstat, State.get_calEdit rfl, hinforce]
  · rw [flag_of_reg_eq (f := CAL_STAT.PEND) hstat, State.flag_calEdit rfl, hpend]
  · rw [flag_of_reg_eq (f := CAL_STAT.NOVALID) hstat, State.flag_calEdit rfl, hnovalid]
  · rw [flag_of_reg_eq (f := CAL_STAT.EDIT) hstat, State.edit_calEdit, hwork, hbank]

/-! ### The bank's effect (R166, R422) -/

theorem State.cal_trigger {cls sub src : Nat} {ts0 ts1 ev0 ev1 : Word} {rs : Option Nat} :
    (s.trigger cls sub src ts0 ts1 ev0 ev1 rs).cal = s.cal := by
  have hite : ∀ (c : Prop) [Decidable c] (p q : State), p.cal = s.cal → q.cal = s.cal → (if c then p else q).cal = s.cal := by
    intro c _ p q hp hq
    split
    · exact hp
    · exact hq
  unfold State.trigger
  dsimp only
  generalize (if cls ≤ 2 then 128 else 112) = cap
  refine hite _ _ _ rfl ?_
  split
  · exact State.cal_inc
  · split
    · exact State.cal_inc
    · exact hite _ _ _ State.cal_inc (hite _ _ _ rfl rfl)

/-- The islands use the bank in force. -/
def State.bankUsed (s : State) : State :=
  ({ s with cal := { s.cal with cur := s.calBank (s.get CAL_STAT.INFORCE), uncal := false } } : State).putB CAL_STAT.PEND false

theorem State.calEffect_due (hpend : s.flag CAL_STAT.PEND = true) (husec : s.t.usec = 0) :
    ∃ ev0 ev1, s.calEffect = s.bankUsed.trigNow 1 9 0 ev0 ev1 := by
  have hdue : ¬(!s.flag CAL_STAT.PEND || s.t.usec != 0) = true := by simp [hpend, husec]
  exact ⟨_, _, if_neg hdue⟩

theorem State.calEffect_early (husec : s.t.usec ≠ 0) : s.calEffect = s := if_pos (by simp [husec])

theorem exec_calBankEffect (hup : s.up = true) : exec .calBankEffect s = .next (settle s.calEffect) :=
  act_up (p := fun s => s.calEffect) hup

theorem calBankEffect_adopts (hup : s.up = true) (hpend : s.flag CAL_STAT.PEND = true) (husec : s.t.usec = 0) :
    Completes .calBankEffect s (fun t => t.cal.cur = s.calBank (s.get CAL_STAT.INFORCE)
      ∧ t.cal.uncal = false ∧ t.flag CAL_STAT.PEND = false ∧ MemKept s t) := by
  obtain ⟨ev0, ev1, heffect⟩ := State.calEffect_due hpend husec
  have hrun := exec_calBankEffect hup
  rw [heffect] at hrun
  have hcal : (settle (s.bankUsed.trigNow 1 9 0 ev0 ev1)).cal = s.bankUsed.cal := State.cal_trigger
  have hstat : (settle (s.bankUsed.trigNow 1 9 0 ev0 ev1)).reg CAL_STAT = s.bankUsed.reg CAL_STAT := State.reg_trigNow (by decide)
  have hcleared : s.bankUsed.flag CAL_STAT.PEND = false := State.flag_putB_same rfl
  refine ⟨_, hrun, ?_, ?_, (flag_of_reg_eq hstat).trans hcleared, memKept_of_mem_eq (State.mem_trigNow.trans State.mem_putB)⟩
  · rw [hcal]
    rfl
  · rw [hcal]
    rfl

end

/-- Settles O33: the refusals, step 1 and the read-back each by their branch; of MRAM a commit's start writes MAGIC, a header that reads
back wrong its last word (log 34). -/
theorem calibrationCommits : Obligations.CalibrationCommits := by
  unfold Obligations.CalibrationCommits
  refine fun s hup => ⟨fun hbusy hstart himage => ?_, fun hbusy hstart => ?_, fun hbusy hstart himage => ?_,
    fun r hcmt husec hwarn hstart himage hbad => calCommitRun_refuses hup hcmt husec hwarn hstart himage hbad,
    calCommitRun_begins hup, fun _ husec => ?_, fun hstep hearly mismatch => ?_, calCommitComplete_mismatch hup,
    calCommitComplete_succeeds hup, calBankEffect_adopts hup, fun _ husec => ?_⟩
  · have hrun := exec_calCommit hup
    rw [himage, State.calCommit_waits hbusy hstart] at hrun
    exact ⟨_, hrun, rfl, fun _ => State.reg_settle, memKept_of_mem_eq State.mem_settle⟩
  · exact calCommit_refused hup (by decide) (State.calCommit_starting hbusy hstart)
  · exact calCommit_refused hup (by decide) (himage ▸ State.calCommit_image hbusy hstart)
  · refine ⟨settle s, ?_, rfl, allKept_settle⟩
    rw [exec_calCommitRun hup, State.calCommitRun_waits husec]
  · refine ⟨settle s, ?_, allKept_settle⟩
    rw [exec_calCommitComplete hup, State.calCommitDone_early hstep hearly]
  · refine ⟨settle s, ?_, rfl, allKept_settle⟩
    rw [exec_calBankEffect hup, State.calEffect_early husec]

end Sys2Proof.Machine

namespace Sys2Proof.Machine

open Sys2Proof

/-! ## The lattice's waves (R172 to R174, R181, R182, R192, R410) -/

section
variable {s t u : State} {f : Fld} {a c i k n v req cls sub src : Nat} {w ev0 ev1 : Word} {x high : Bool}

/-! ### What a wave's results rest on -/

/-- What the results of a wave rest on is as before: the configurations and states of the cells, the run flag, the forces, the counts of
node time, the moment until which the engines stand still, and the words that wait at the host port. -/
structure WaveKept (s t : State) : Prop where
  cfg : t.bl.cfg = s.bl.cfg
  cells : t.bl.cells = s.bl.cells
  run : t.flag BL_STAT.RUN = s.flag BL_STAT.RUN
  force : ∀ n, n < 8 → t.reg (BL_CFORCE n) = s.reg (BL_CFORCE n)
  time : t.t = s.t
  stillUntil : t.jl.stillUntil = s.jl.stillUntil
  wq : t.hst.wq = s.hst.wq

/-- A register that holds neither the run flag nor a force. -/
abbrev LatticeApart (a : Nat) : Prop := a ≠ BL_STAT ∧ (a < BL_CFORCE 0 ∨ BL_HSIG 0 ≤ a)

theorem latticeApart_of_le (h : BL_HSIG 0 ≤ a) : LatticeApart a := ⟨by simp only [BL_STAT, BL_HSIG] at *; omega, .inr h⟩

theorem WaveKept.refl : WaveKept s s := ⟨rfl, rfl, rfl, fun _ _ => rfl, rfl, rfl, rfl⟩

theorem WaveKept.trans (h : WaveKept s t) (h' : WaveKept t u) : WaveKept s u :=
  ⟨h'.cfg.trans h.cfg, h'.cells.trans h.cells, h'.run.trans h.run, fun n hn => (h'.force n hn).trans (h.force n hn),
    h'.time.trans h.time, h'.stillUntil.trans h.stillUntil, h'.wq.trans h.wq⟩

/-- A write of a register apart. -/
theorem waveKept_setReg (ha : LatticeApart a) : WaveKept s (s.setReg a w) := by
  obtain ⟨hrun, hforce⟩ := ha
  refine ⟨rfl, rfl, flag_of_reg_eq (State.reg_setReg_other (Ne.symm hrun)), fun n hn => State.reg_setReg_other ?_, rfl, rfl, rfl⟩
  simp only [BL_CFORCE, BL_HSIG] at hforce ⊢
  omega

theorem WaveKept.put (h : WaveKept s t) (hf : LatticeApart f.addr) : WaveKept s (t.put f v) := h.trans (waveKept_setReg hf)

theorem WaveKept.putB (h : WaveKept s t) (hf : LatticeApart f.addr) : WaveKept s (t.putB f x) := h.put hf

theorem WaveKept.putBit (h : WaveKept s t) (hf : LatticeApart f.addr) : WaveKept s (t.putBit f i x) := h.put hf

theorem WaveKept.inc (h : WaveKept s t) (hf : LatticeApart f.addr) : WaveKept s (t.inc f k) := h.put hf

theorem WaveKept.incMod (h : WaveKept s t) (hf : LatticeApart f.addr) : WaveKept s (t.incMod f) := h.put hf

theorem WaveKept.raise (h : WaveKept s t) (hf : LatticeApart f.addr) : WaveKept s (t.raise f) := h.put hf

theorem WaveKept.ite {p : Prop} [Decidable p] (ht : WaveKept s t) (hu : WaveKept s u) : WaveKept s (if p then t else u) := by
  split
  · exact ht
  · exact hu

theorem WaveKept.foldl {α : Type} {g : State → α → State} (hg : ∀ z y, WaveKept z (g z y)) (l : List α) (h : WaveKept s t) :
    WaveKept s (l.foldl g t) := by
  induction l generalizing t with
  | nil => exact h
  | cons y r ih => exact ih (h.trans (hg t y))

/-- Work on other parts of the state. -/
theorem waveKept_of_eq (hb : t.bl = s.bl) (hr : t.regs = s.regs) (ht : t.t = s.t) (hj : t.jl = s.jl) (hh : t.hst = s.hst) : WaveKept s t := by
  have hreg : ∀ a, t.reg a = s.reg a := fun _ => by simp only [State.reg, hr]
  exact ⟨by rw [hb], by rw [hb], flag_of_reg_eq (hreg _), fun _ _ => hreg _, ht, by rw [hj], by rw [hh]⟩

theorem WaveKept.still (h : WaveKept s t) : t.still = s.still := by
  unfold State.still
  rw [h.stillUntil, h.time]

theorem WaveKept.cellOf (h : WaveKept s t) : t.cellOf c = s.cellOf c := by
  unfold State.cellOf
  rw [h.cells]

theorem WaveKept.forceOf (h : WaveKept s t) : t.forceOf c = s.forceOf c := by
  have hget : ∀ n < 8, ∀ f : Fld, f.addr = BL_CFORCE n → t.get f = s.get f :=
    fun n hn f hf => get_of_reg_eq (by rw [hf]; exact h.force n hn)
  have hflag : ∀ n < 8, ∀ f : Fld, f.addr = BL_CFORCE n → t.flag f = s.flag f :=
    fun n hn f hf => by simp only [State.flag, hget n hn f hf]
  unfold State.forceOf
  rw [List.find?_congr (fun n hn => by
    have hn := List.mem_range.mp hn
    rw [hflag n hn (BL_CFORCE.EN n) rfl, hflag n hn (BL_CFORCE.IGN n) rfl, hget n hn (BL_CFORCE.CELL n) rfl])]
  cases hfind : (List.range 8).find? (fun n => s.flag (BL_CFORCE.EN n) && !s.flag (BL_CFORCE.IGN n) && s.get (BL_CFORCE.CELL n) == c) with
  | none => rfl
  | some n =>
    have hn := List.mem_range.mp (List.mem_of_find?_eq_some hfind)
    simp only [Option.map_some, hflag n hn (BL_CFORCE.FO n) rfl, hflag n hn (BL_CFORCE.FA n) rfl]

/-! ### Records of the units, mirror words, triggers -/

theorem waveKept_setChan {y : ChanS} : WaveKept s (s.setChan n y) := waveKept_of_eq rfl rfl rfl rfl rfl

theorem waveKept_setIsl {y : IslS} : WaveKept s (s.setIsl k y) := waveKept_of_eq rfl rfl rfl rfl rfl

theorem waveKept_setLo {y : LoS} : WaveKept s (s.setLo n y) := waveKept_of_eq rfl rfl rfl rfl rfl

theorem waveKept_setDio {y : DioS} : WaveKept s (s.setDio n y) := waveKept_of_eq rfl rfl rfl rfl rfl

theorem waveKept_setSpd {y : SpdS} : WaveKept s (s.setSpd n y) := waveKept_of_eq rfl rfl rfl rfl rfl

theorem waveKept_publish : WaveKept s (s.publish i w) := ⟨rfl, rfl, rfl, fun _ _ => rfl, rfl, rfl, rfl⟩

theorem waveKept_trigger {ts0 ts1 : Word} {rs : Option Nat} : WaveKept s (s.trigger cls sub src ts0 ts1 ev0 ev1 rs) := by
  have hunits : UnitsKept s (s.trigger cls sub src ts0 ts1 ev0 ev1 rs) := unitsKept_trigger
  have hreg : ∀ b, b ≠ ONX_LOST → (s.trigger cls sub src ts0 ts1 ev0 ev1 rs).reg b = s.reg b := fun _ => State.reg_trigger
  refine ⟨by rw [hunits.1], by rw [hunits.1], flag_of_reg_eq (hreg _ (by decide)), fun n hn => hreg _ ?_, State.t_trigger,
    by rw [State.jl_trigger], by rw [hunits.2]⟩
  simp only [BL_CFORCE, ONX_LOST]
  omega

/-! ### Snapshots and the observer's look, before the wave (R407, R425) -/

theorem waveKept_integrity {step isl addr resp : Nat} : WaveKept s (s.integrity step isl addr resp) := waveKept_trigger.raise (by decide)

theorem waveKept_sramFetch {l : List Nat} : WaveKept s (s.sramFetch req l) := by
  refine WaveKept.refl.foldl (fun z b => ?_) _
  unfold State.sramRead
  dsimp only
  split
  · exact (WaveKept.refl.inc (by decide)).trans waveKept_integrity
  · exact .refl

theorem waveKept_mramFetch {l : List Nat} : WaveKept s (s.mramFetch req l) := by
  refine WaveKept.refl.foldl (fun z b => ?_) _
  unfold State.mramRead
  dsimp only
  split
  · exact (WaveKept.refl.inc (by decide)).trans waveKept_integrity
  · exact .refl

theorem waveKept_snapshot : WaveKept s s.snapshot := by
  have honx : ∀ o : OnxS, WaveKept s { s with onx := o } := fun _ => waveKept_of_eq rfl rfl rfl rfl rfl
  unfold State.snapshot
  split
  · exact .refl
  · exact ((honx _).trans waveKept_sramFetch).trans waveKept_mramFetch

theorem waveKept_snapAll : WaveKept s (State.snapAll k s) := by
  induction k generalizing s with
  | zero => exact .refl
  | succ k ih => exact .ite (waveKept_snapshot.trans ih) .refl

theorem waveKept_deadSample : WaveKept s s.deadSample := .ite .refl ⟨rfl, rfl, rfl, fun _ _ => rfl, rfl, rfl, rfl⟩

/-- A wave of phases 1 to 3 enters a state that differs in nothing it rests on, and at phase 3 the state itself. -/
theorem State.wave_enters (h1 : 1 ≤ s.t.phase) (h3 : s.t.phase ≤ 3) (hq : s.hst.wq = []) :
    ∃ u, WaveKept s u ∧ (s.t.phase = 3 → u = s) ∧ s.wave = u.enterWave := by
  have hserve : ∀ z : State, WaveKept s z → (if z.served then z.execute1 else z) = z := fun z hz => by
    unfold State.execute1
    rw [hz.wq, hq]
    exact ite_self _
  have hphase : s.t.phase = 1 ∨ s.t.phase = 2 ∨ s.t.phase = 3 := by omega
  unfold State.wave
  rw [if_neg (by omega)]
  obtain h | h | h := hphase
  · have hkept : WaveKept s (State.snapAll 144 s) := waveKept_snapAll
    refine ⟨_, hkept, by omega, ?_⟩
    simp only [h, hserve _ hkept]
  · have hkept : WaveKept s s.deadSample := waveKept_deadSample
    refine ⟨_, hkept, by omega, ?_⟩
    simp only [h, hserve _ hkept]
  · refine ⟨s, .refl, fun _ => rfl, ?_⟩
    simp only [h, hserve _ .refl]

/-! ### Strobes and comparators (R135, R180) -/

/-- A bit of DEADISL, which stands beside the run flag. -/
theorem WaveKept.putDeadisl (h : WaveKept s t) : WaveKept s (t.putBit BL_STAT.DEADISL i x) := by
  have hput : ∀ v, WaveKept t (t.put BL_STAT.DEADISL v) := fun v => by
    refine ⟨congrArg BlS.cfg State.bl_put, congrArg BlS.cells State.bl_put, State.flag_put_other (by decide) (by decide),
      fun n _ => State.reg_put_other ?_, State.t_put, congrArg JlS.stillUntil State.jl_put, congrArg HostS.wq State.hst_put⟩
    simp only [BL_CFORCE]
    omega
  exact h.trans (hput _)

theorem waveKept_strobe : WaveKept s (s.strobe k) := by
  have hlost : WaveKept s (s.strobesLost k) := waveKept_setIsl.putDeadisl
  have hback : WaveKept s (s.strobesBack k) := waveKept_setIsl.putDeadisl
  exact .ite (.ite (.ite .refl waveKept_setIsl) (.ite waveKept_setIsl (hlost.trans waveKept_setIsl)))
    (.ite .refl (.ite waveKept_setIsl (.ite hback waveKept_setIsl)))

theorem latticeApart_compBits : LatticeApart (FI_CBITS k) := by
  simp only [LatticeApart, FI_CBITS, BL_STAT, BL_CFORCE, BL_HSIG]
  omega

theorem latticeApart_compEvents : LatticeApart (FI_CEVT k) := by
  simp only [LatticeApart, FI_CEVT, BL_STAT, BL_CFORCE, BL_HSIG]
  omega

theorem waveKept_presentComp : WaveKept s (s.presentComp n) := by
  have hheld : ∀ (p : Prop) [Decidable p] (y : ChanS), WaveKept s (if p then s.setChan n y else s) := fun _ _ _ => .ite waveKept_setChan .refl
  unfold State.presentComp
  exact .ite (hheld _ _) (((hheld _ _).putBit latticeApart_compBits).putBit latticeApart_compBits)

theorem waveKept_acceptComp : WaveKept s (s.acceptComp n high) := by
  have hset : ∀ y f, f.addr = FI_CEVT (fiOf n) → WaveKept s ((s.setChan n y).putBit f (n % 8) true) :=
    fun _ _ hf => waveKept_setChan.putBit (hf ▸ latticeApart_compEvents)
  unfold State.acceptComp
  dsimp only
  generalize (if high then (s.chanOf n).seenH else (s.chanOf n).seenL) = seen
  cases seen with
  | none => exact .refl
  | some at_ => exact .ite .refl ((WaveKept.ite (hset _ _ rfl) (hset _ _ rfl)).trans waveKept_presentComp)

theorem waveKept_sampleComps : WaveKept s s.sampleComps :=
  WaveKept.refl.foldl (fun _ _ => waveKept_acceptComp.trans waveKept_acceptComp) _

/-! ### Discrete points (R303 to R314) -/

theorem latticeApart_dioPst : LatticeApart (DIO_PST n) := latticeApart_of_le (Nat.le_add_right_of_le (by decide))

theorem latticeApart_dioGst : LatticeApart (DIO_GST n) := latticeApart_of_le (Nat.le_add_right_of_le (by decide))

theorem latticeApart_dioCnt : LatticeApart (DIO_CNT n) := latticeApart_of_le (Nat.le_add_right_of_le (by decide))

theorem waveKept_dioDrive : WaveKept s (s.dioDrive n) := by
  have hshown : ∀ o y d, WaveKept s (((s.put (DIO_PST.OSTATE n) o).putB (DIO_PST.CMD n) y).setDio n d) :=
    fun _ _ _ => ((WaveKept.refl.put latticeApart_dioPst).putB latticeApart_dioPst).trans waveKept_setDio
  have hclamps : ∀ {z : State} {g : Nat}, WaveKept z (z.dioClamps g) := WaveKept.refl.put latticeApart_dioGst
  unfold State.dioDrive
  dsimp only
  refine .ite ((hshown _ _ _).putB latticeApart_dioPst) (.ite ?_ (hshown _ _ _))
  exact (((hshown _ _ _).putB latticeApart_dioPst).putB latticeApart_dioPst).trans hclamps

theorem waveKept_dioOutputs : WaveKept s s.dioOutputs := WaveKept.refl.foldl (fun _ _ => .ite waveKept_dioDrive .refl) _

theorem waveKept_dioTrip : WaveKept s (s.dioTrip n v) := by
  have htrip : WaveKept s (((s.putBit DIO_OFLT.TRIP n true).put (DIO_PST.FCAUSE n) v).inc (DIO_CNT.TRIPS n)) :=
    ((WaveKept.refl.putBit (by decide)).put latticeApart_dioPst).inc latticeApart_dioCnt
  exact .ite .refl ((htrip.trans waveKept_dioDrive).trans waveKept_setDio)

theorem waveKept_dioAccept : WaveKept s (s.dioAccept n x) := by
  have hacc : ∀ d, WaveKept s (((s.setDio n d).putBit DIO_EVT.EVT n true).put (DIO_PST.REJ n) 0) :=
    fun _ => (waveKept_setDio.putBit (by decide)).put latticeApart_dioPst
  exact .ite (hacc _) ((hacc _).putBit (by decide))

theorem waveKept_dioSettled : WaveKept s (s.dioSettled n) := .ite .refl (.ite waveKept_setDio waveKept_dioAccept)

theorem waveKept_chatterExit : WaveKept s (s.chatterExit n) := by
  have hleft : ∀ d, WaveKept s (((s.putBit DIO_CHAT.CHAT n false).put (DIO_PST.REJ n) 0).setDio n d) :=
    fun _ => ((WaveKept.refl.putBit (by decide)).put latticeApart_dioPst).trans waveKept_setDio
  exact .ite .refl (.ite (hleft _) ((hleft _).trans waveKept_dioAccept))

theorem waveKept_blankEnd : WaveKept s (s.blankEnd n) := by
  have hend : WaveKept s (s.putB (DIO_PST.BLNK n) false) := WaveKept.refl.putB latticeApart_dioPst
  exact .ite (.ite (hend.trans waveKept_dioTrip) hend) .refl

theorem waveKept_dioPhase : WaveKept s s.dioPhase := by
  have hpoints : ∀ l : List Nat, WaveKept s (l.foldl (fun (z : State) (n : Nat) => ((z.dioSettled n).chatterExit n).blankEnd n) s) :=
    fun l => WaveKept.refl.foldl (fun _ _ => (waveKept_dioSettled.trans waveKept_chatterExit).trans waveKept_blankEnd) l
  exact .ite .refl (.ite ((hpoints _).put (by decide)) (hpoints _))

theorem waveKept_dioFlush : WaveKept s s.dioFlush :=
  .ite .refl (WaveKept.refl.foldl (fun _ _ => .ite (waveKept_publish.trans waveKept_setDio) .refl) _)

theorem waveKept_dioSigs : WaveKept s s.dioSigs := WaveKept.refl.foldl (fun _ _ => .ite .refl waveKept_setDio) _

/-! ### Speed inputs and loop outputs (R267, R291, R339, R448) -/

theorem waveKept_rateAbort : WaveKept s s.rateAbort := by
  have hclk : ∀ y : ClkS, WaveKept s { s with clk := y } := fun _ => waveKept_of_eq rfl rfl rfl rfl rfl
  exact .ite .refl (((hclk _).putB (by decide)).putB (by decide))

theorem waveKept_spdMirror : WaveKept s (s.spdMirror n) := by
  have hwords : ∀ y, WaveKept s (((s.publish (0o260 + n) (s.speedWord n)).publish (0o270 + n) (s.posWord n)).setSpd n y) :=
    fun _ => (waveKept_publish.trans waveKept_publish).trans waveKept_setSpd
  exact .ite .refl (.ite ((hwords _).trans waveKept_rateAbort) (hwords _))

theorem waveKept_spdFlush : WaveKept s s.spdFlush := WaveKept.refl.foldl (fun _ _ => .ite waveKept_spdMirror .refl) _

theorem waveKept_spdPresent : WaveKept s s.spdPresent := waveKept_of_eq rfl rfl rfl rfl rfl

theorem waveKept_loForm : WaveKept s (s.loForm n) := by
  have hseen : ∀ (p : Prop) [Decidable p] (y : LoS), WaveKept s (if p then s.setLo n y else s) := fun _ _ _ => .ite waveKept_setLo .refl
  exact .ite waveKept_setLo ((hseen _ _).trans waveKept_setLo)

theorem waveKept_loPhase1 : WaveKept s s.loPhase1 := .ite (WaveKept.refl.foldl (fun _ _ => waveKept_loForm) _) .refl

theorem latticeApart_loFst : LatticeApart (LO_FST n) := latticeApart_of_le (Nat.le_add_right_of_le (by decide))

theorem latticeApart_loOst : LatticeApart (LO_OST n) := latticeApart_of_le (Nat.le_add_right_of_le (by decide))

theorem latticeApart_loRb : LatticeApart (LO_RB n) := latticeApart_of_le (Nat.le_add_right_of_le (by decide))

theorem waveKept_fskEnd {result rxlen : Nat} : WaveKept s (s.fskEnd n result rxlen) := by
  have hshown : ∀ y r l m, WaveKept s ((((((s.setLo n y).put (LO_FST.RESULT n) r).put (LO_FST.RXLEN n) l).put (LO_FST.TRIES n) m).incMod
      (LO_FST.DONE n)).fskQd n) := fun _ _ _ _ =>
    ((((waveKept_setLo.put latticeApart_loFst).put latticeApart_loFst).put latticeApart_loFst).incMod latticeApart_loFst).put
      latticeApart_loFst
  exact ((hshown _ _ _ _).put latticeApart_loFst).raise (by decide)

theorem waveKept_fskFollow {was drv : Bool} : WaveKept s (s.fskFollow n was drv) := by
  have hcancel : WaveKept s (s.fskCancel n) := WaveKept.refl.foldl (fun _ _ => waveKept_fskEnd) _
  exact .ite (.ite .refl (waveKept_setLo.put latticeApart_loFst)) (hcancel.put latticeApart_loFst)

theorem waveKept_loShow : WaveKept s (s.loShow n) := by
  unfold State.loShow
  dsimp only
  split
  · exact .refl
  · refine WaveKept.trans ?_ waveKept_fskFollow
    refine WaveKept.putB (WaveKept.putBit ?_ (by decide)) latticeApart_loRb
    exact ((((waveKept_setLo.put latticeApart_loOst).put latticeApart_loOst).putB latticeApart_loOst).putB latticeApart_loOst).putB
      latticeApart_loOst

theorem waveKept_loPhase2 : WaveKept s s.loPhase2 := .ite (WaveKept.refl.foldl (fun _ _ => waveKept_loShow) _) .refl

/-! ### The inputs of a wave (R179, R390, R393) -/

theorem waveKept_showAlarms : WaveKept s s.showAlarms := .ite .refl (waveKept_of_eq rfl rfl rfl rfl rfl)

theorem waveKept_presentLims : WaveKept s (s.presentLims k) := .ite .refl ⟨rfl, rfl, rfl, fun _ _ => rfl, rfl, rfl, rfl⟩

/-- The mirror words written since the last phase 2 are presented. -/
def State.presentWords (s : State) : State :=
  let now := s.bl.written.foldl (fun (t : Tbl Word) (p : Nat × Word) => t.set p.1 p.2) s.bl.presented
  { s with bl := { s.bl with presented := now, written := [] } }

/-- Opal's station outputs reach the discrete island. -/
def State.opalOuts (s : State) : State :=
  let outs := s.get OPL_CALLED.STA
  if s.opl.outs == outs then s else ({ s with opl := { s.opl with outs := outs } }).dioOutputs

theorem State.phase2_eq :
    s.phase2 = (List.range 16).foldl State.presentLims s.dioFlush.spdFlush.loPhase2.showAlarms.opalOuts.presentWords := rfl

theorem waveKept_opalOuts : WaveKept s s.opalOuts := by
  have hopl : ∀ o : OplS, WaveKept s { s with opl := o } := fun _ => waveKept_of_eq rfl rfl rfl rfl rfl
  exact .ite .refl ((hopl _).trans waveKept_dioOutputs)

theorem waveKept_presentWords : WaveKept s s.presentWords := ⟨rfl, rfl, rfl, fun _ _ => rfl, rfl, rfl, rfl⟩

theorem waveKept_phase2 : WaveKept s s.phase2 := by
  have hdue : WaveKept s s.dioFlush.spdFlush.loPhase2 := (waveKept_dioFlush.trans waveKept_spdFlush).trans waveKept_loPhase2
  rw [State.phase2_eq]
  exact (((hdue.trans waveKept_showAlarms).trans waveKept_opalOuts).trans waveKept_presentWords).foldl (fun _ _ => waveKept_presentLims) _

theorem waveKept_applyReplay : WaveKept s s.applyReplay := by
  unfold State.applyReplay
  split
  · exact .refl
  · exact ⟨rfl, rfl, rfl, fun _ _ => rfl, rfl, rfl, rfl⟩

theorem waveKept_recordInputs : WaveKept s s.recordInputs := ⟨rfl, rfl, rfl, fun _ _ => rfl, rfl, rfl, rfl⟩

theorem waveKept_digestPhase : WaveKept s s.digestPhase := ⟨rfl, rfl, rfl, fun _ _ => rfl, rfl, rfl, rfl⟩

/-! ### A wave in three parts: inputs presented, cells evaluated, outputs followed -/

/-- The inputs that the phase presents. -/
def State.waveInputs (s : State) : State :=
  let s := ((List.range 16).foldl State.strobe s.sampleComps.dioPhase).spdPresent
  let s := if s.t.phase == 1 then s.loPhase1 else if s.t.phase == 2 then s.phase2 else s
  let s := if s.replays then s.applyReplay else if s.pstate == 2 then s.recordInputs else s
  s.digestPhase

/-- The cells of a running lattice take their results. -/
def State.waveCells (s : State) : State :=
  if s.flag BL_STAT.RUN then { s with bl := { s.bl with cells := s.bl.cfg.foldl (waveCell s) [] } } else s

/-- What follows from the outputs delivered next; the phase passes. -/
def State.waveOutputs (s : State) : State :=
  let s := s.deliver.recordCells
  let risen := (s.bl.cfg.map (·.1)).filter (fun c => s.outO c && !s.prevO c)
  let moved := (s.bl.cfg.map (·.1)).any (fun c => s.outO c != s.prevO c)
  let s := { s with t := { s.t with phase := min (s.t.phase + 1) 4 } }
  let s := risen.foldl State.cellScan s
  (if moved then s.dioOutputs else s).dioSigs

theorem State.waveIn_eq : s.waveIn = s.waveInputs.waveCells.waveOutputs := rfl

theorem waveKept_waveInputs : WaveKept s s.waveInputs := by
  have hstrobes : WaveKept s (((List.range 16).foldl State.strobe s.sampleComps.dioPhase).spdPresent) :=
    ((waveKept_sampleComps.trans waveKept_dioPhase).foldl (fun _ _ => waveKept_strobe) _).trans waveKept_spdPresent
  have hphase : ∀ z : State, WaveKept z (if z.t.phase == 1 then z.loPhase1 else if z.t.phase == 2 then z.phase2 else z) :=
    fun _ => .ite waveKept_loPhase1 (.ite waveKept_phase2 .refl)
  have hpair : ∀ z : State, WaveKept z (if z.replays then z.applyReplay else if z.pstate == 2 then z.recordInputs else z) :=
    fun _ => .ite waveKept_applyReplay (.ite waveKept_recordInputs .refl)
  exact ((hstrobes.trans (hphase _)).trans (hpair _)).trans waveKept_digestPhase

/-! ### What the outputs bring leaves the cells (R130, R190, R424) -/

theorem waveKept_cellEvent {cf : CellCfg} {o : Bool} : WaveKept s (s.cellEvent c cf o) := by
  have hq : ∀ (z : State) (b : BlS), b.cfg = z.bl.cfg → b.cells = z.bl.cells → WaveKept z { z with bl := b } :=
    fun _ _ hcfg hcells => ⟨hcfg, hcells, rfl, fun _ _ => rfl, rfl, rfl, rfl⟩
  have htx : WaveKept s (if cf.txen then
      if s.bl.netQ.length ≥ 256 then s.inc BL_QOVF.TXLOST
      else { s with bl := { s.bl with
        netQ := s.bl.netQ ++ [⟨c, o, cf.txidx, cf.priv, (s.waveStamp (c / 256)).1, (s.waveStamp (c / 256)).2, s.workBeat⟩] } }
    else s) := .ite (.ite (WaveKept.refl.inc (by decide)) (hq _ _ rfl rfl)) .refl
  exact .ite (.ite (htx.inc (by decide)) (htx.trans (hq _ _ rfl rfl))) htx

theorem waveKept_deliver : WaveKept s s.deliver := by
  have hevents : ∀ l : List (Nat × CellCfg), WaveKept s
      (l.foldl (fun z p => if z.outO p.1 != z.prevO p.1 then z.cellEvent p.1 p.2 (z.outO p.1) else z) s) :=
    fun l => WaveKept.refl.foldl (fun _ _ => .ite waveKept_cellEvent .refl) l
  have hdue : ∀ (z : State) (l : List Nat), WaveKept z { z with bl := { z.bl with changed := l } } :=
    fun _ _ => ⟨rfl, rfl, rfl, fun _ _ => rfl, rfl, rfl, rfl⟩
  exact (hevents _).trans (hdue _ _)

theorem waveKept_recordCells : WaveKept s s.recordCells := by
  have hq : WaveKept s { s with bl := { s.bl with recQ := [] } } := ⟨rfl, rfl, rfl, fun _ _ => rfl, rfl, rfl, rfl⟩
  exact .ite .refl (hq.foldl (fun _ _ => waveKept_trigger) _)

@[simp] theorem State.bl_beginConv {j : Nat} {l : List Nat} : (s.beginConv k n j l).bl = s.bl := State.bl_setIsl

@[simp] theorem State.bl_countLay {l : List Nat} : (s.countLay k l).bl = s.bl := by
  unfold State.countLay
  split
  · exact foldl_keeps State.bl _ _ _ fun _ _ => State.bl_setChan
  · rfl

@[simp] theorem State.bl_startPass : (s.startPass k).bl = s.bl := by
  unfold State.startPass
  split
  · rfl
  · dsimp only
    split
    · rw [State.bl_beginConv, State.bl_setIsl, State.bl_countLay, State.bl_putB, State.bl_putB]
    · rw [State.bl_incMod, State.bl_putB, State.bl_setIsl, State.bl_countLay, State.bl_putB, State.bl_putB]

@[simp] theorem State.bl_scanPend : (s.scanPend k n).bl = s.bl := by
  unfold State.scanPend
  split
  · rfl
  · split
    · rw [State.bl_putB, State.bl_inc]
    · split
      · rw [State.bl_putB, State.bl_putB]
      · exact State.bl_putB

@[simp] theorem State.bl_scanTrigger : (s.scanTrigger k n).bl = s.bl := by
  unfold State.scanTrigger State.idleStart
  split
  · dsimp only
    split
    · rw [State.bl_startPass, State.bl_scanPend]
    · exact State.bl_scanPend
  · rfl

theorem State.cellScan_keeps {γ : Type} (p : State → γ) (h : ∀ z k n, p (State.scanTrigger z k n) = p z) : p (s.cellScan c) = p s := by
  refine foldl_keeps p _ _ _ fun z k => ?_
  split
  · refine foldl_keeps p _ _ _ fun y n => ?_
    split
    · exact h y k n
    · rfl
  · rfl

/-- The wave's outputs bring about what they do, the cells keep their results, and of node time the phase passes. -/
theorem State.waveOutputs_frame : s.waveOutputs.bl.cells = s.bl.cells ∧ s.waveOutputs.t = { s.t with phase := min (s.t.phase + 1) 4 } := by
  have hrec : WaveKept s s.deliver.recordCells := waveKept_deliver.trans waveKept_recordCells
  have hscan : ∀ (l : List Nat) (z : State), (l.foldl State.cellScan z).bl = z.bl ∧ (l.foldl State.cellScan z).t = z.t := fun l z =>
    ⟨foldl_keeps State.bl _ _ _ fun _ _ => State.cellScan_keeps State.bl fun _ _ _ => State.bl_scanTrigger,
      foldl_keeps State.t _ _ _ fun _ _ => State.cellScan_keeps State.t fun _ _ _ => State.t_scanTrigger⟩
  have hout : ∀ (z : State) (m : Bool), WaveKept z (if m then z.dioOutputs else z).dioSigs :=
    fun _ _ => (WaveKept.ite waveKept_dioOutputs .refl).trans waveKept_dioSigs
  constructor
  · exact ((hout _ _).cells.trans (congrArg BlS.cells (hscan _ _).1)).trans hrec.cells
  · refine ((hout _ _).time.trans (hscan _ _).2).trans ?_
    show { s.deliver.recordCells.t with phase := min (s.deliver.recordCells.t.phase + 1) 4 } = _
    rw [hrec.time]

end

/-! ## The results of the cells (R181 to R183, R192) -/

section
variable {s u : State} {c k typ ins n : Nat} {w : Word} {cf : CellCfg} {st : CellS} {now : Tbl CellS} {cfg : Tbl CellCfg}
  {α : Type} {t r : Tbl α} {v : α}

/-! ### One cell -/

/-- Every type ends with its own O among what the cell keeps, beside the input bits of the wave. -/
theorem evalCell_keeps : (evalCell cf st ins w n).2.own = (evalCell cf st ins w n).1.1 ∧ (evalCell cf st ins w n).2.ins = ins := by
  unfold evalCell
  dsimp only
  repeat' split
  all_goals exact ⟨rfl, rfl⟩

theorem evalCell_thr (h : cf.typ = 1) : (evalCell cf st ins w n).2.own = (evalCell cf st ins w n).2.res := by
  simp only [evalCell, h]

theorem evalCell_and (h : cf.typ = 3) : (evalCell cf st ins w n).2.own = ((evalCell cf st ins w n).2.n == cf.nin) := by
  simp only [evalCell, h]

theorem evalCell_any (h : cf.typ = 4 ∨ cf.typ = 12) : (evalCell cf st ins w n).2.own = decide (1 ≤ (evalCell cf st ins w n).2.n) := by
  rcases h with h | h
  · simp only [evalCell, h, ge_iff_le]
  · simp only [evalCell, h, ge_iff_le]

theorem evalCell_vote (h : cf.typ = 5) :
    (evalCell cf st ins w n).2.own = decide (fld cf.p0 4 0 ≤ (evalCell cf st ins w n).2.n) := by
  simp only [evalCell, h, ge_iff_le]

theorem evalCell_latch (h : cf.typ = 8) : (evalCell cf st ins w n).2.own
    = if wbit cf.p0 35 then bit ins 0 || (st.own && !bit ins 1) else !bit ins 1 && (bit ins 0 || st.own) := by
  simp only [evalCell, h]

theorem evalCell_opal (h : cf.typ = 13) : (evalCell cf st ins w n).2.own = bit ins 0 := by
  simp only [evalCell, h]

/-! ### Timed cells whose length has run out -/

theorem evalCell_ondly (h : cf.typ = 6) (ht : st.timer = 0) : (evalCell cf st ins w n).2.own = bit ins 0 := by
  cases hin : bit ins 0
  · simp [evalCell, h, hin]
  · simp [evalCell, h, hin, ht]

theorem evalCell_offdly (h : cf.typ = 7) (ht : st.timer = 0) : (evalCell cf st ins w n).2.own = bit ins 0 := by
  cases hin : bit ins 0
  · simp [evalCell, h, hin, ht]
  · simp [evalCell, h, hin]

theorem evalCell_inhibit (h : cf.typ = 11) (ht : st.timer = 0) : (evalCell cf st ins w n).2.own = (bit ins 0 && !bit ins 1) := by
  cases hblock : bit ins 1
  · simp [evalCell, h, hblock, ht]
  · simp [evalCell, h, hblock]

theorem evalCell_edge (h : cf.typ = 2) (ht : st.timer = 0) (hin : bit ins 0 = bit st.ins 0) : (evalCell cf st ins w n).2.own = false := by
  have hprev : bit (if st.first then ins else st.ins) 0 = bit ins 0 := by
    cases st.first
    · exact hin.symm
    · rfl
  simp [evalCell, h, ht, hprev]

/-- The window over, the count starts at 0, and a rise of this wave counts. -/
theorem evalCell_count (h : cf.typ = 10) (hfirst : st.first = false) (hlen : timedLen cf.p1 ≠ 0) (ht : timedLen cf.p1 ≤ st.timer + 1) :
    (evalCell cf st ins w n).2.cnt = if bit ins 1 then 0 else if bit ins 0 && !bit st.ins 0 then 1 else 0 := by
  simp [evalCell, h, hfirst, hlen, ht, satAt]

theorem State.expiryDue_iff : s.expiryDue c typ = true ↔ ∃ cf, s.bl.cfg.get? c = some cf ∧ cf.typ = typ ∧ runsOut cf (s.cellOf c) = true := by
  unfold State.expiryDue
  cases s.bl.cfg.get? c with
  | none => simp
  | some cf => simp

/-! ### The cells of a wave (R172, R173) -/

theorem Tbl.get?_append_of_some (h : t.get? c = some v) : Tbl.get? (t ++ r) c = some v := by
  induction t with
  | nil => exact absurd h (by simp [Tbl.get?])
  | cons p t ih =>
    obtain ⟨i, y⟩ := p
    simp only [Tbl.get?, List.cons_append] at h ⊢
    split
    · next hi => rwa [if_pos hi] at h
    · next hi => exact ih (by rwa [if_neg hi] at h)

theorem Tbl.get?_append_of_none (h : t.get? c = none) : Tbl.get? (t ++ r) c = r.get? c := by
  induction t with
  | nil => rfl
  | cons p t ih =>
    obtain ⟨i, y⟩ := p
    simp only [Tbl.get?, List.cons_append] at h ⊢
    split
    · next hi => rw [if_pos hi] at h; cases h
    · next hi => exact ih (by rwa [if_neg hi] at h)

/-- The state a cell takes in a wave, from the wave's input bits, tested word and number: the force or the own result is what its
consumers get. -/
def State.cellAfter (s : State) (c : Nat) (cf : CellCfg) (ins : Nat) (w : Word) (n : Nat) : CellS :=
  let r := evalCell cf (s.cellOf c) ins w n
  { r.2 with hist := ((s.forceOf c).getD r.1 :: (s.cellOf c).hist).take 17 }

theorem waveCell_eq : ∃ ins w n, waveCell s now (c, cf) = now ++ [(c, s.cellAfter c cf ins w n)] := ⟨_, _, _, rfl⟩

/-- A cell evaluated keeps its state through the rest of the wave. -/
theorem get?_waveCells_of_some {y : CellS} (h : now.get? c = some y) : Tbl.get? (cfg.foldl (waveCell s) now) c = some y := by
  induction cfg generalizing now with
  | nil => exact h
  | cons p r ih => exact ih (Tbl.get?_append_of_some h)

/-- Each configured cell is evaluated once, under the first configuration that stands for it. -/
theorem get?_waveCells (hcf : cfg.get? c = some cf) (h : now.get? c = none) :
    ∃ ins w n, Tbl.get? (cfg.foldl (waveCell s) now) c = some (s.cellAfter c cf ins w n) := by
  induction cfg generalizing now with
  | nil => exact absurd hcf (by simp [Tbl.get?])
  | cons p r ih =>
    obtain ⟨i, y⟩ := p
    obtain ⟨ins, w, n, heq⟩ := waveCell_eq (s := s) (now := now) (c := i) (cf := y)
    simp only [Tbl.get?] at hcf
    rw [List.foldl_cons, heq]
    split at hcf
    · next hi =>
      subst hi
      cases hcf
      exact ⟨ins, w, n, get?_waveCells_of_some (by rw [Tbl.get?_append_of_none h]; simp [Tbl.get?])⟩
    · next hi => exact ih hcf (by rw [Tbl.get?_append_of_none h]; simp [Tbl.get?, hi])

theorem State.cellOf_waveCells (hrun : s.flag BL_STAT.RUN = true) (hcf : s.bl.cfg.get? c = some cf) :
    ∃ ins w n, s.waveCells.cellOf c = s.cellAfter c cf ins w n := by
  obtain ⟨ins, w, n, hget⟩ := get?_waveCells (s := s) (now := []) hcf rfl
  refine ⟨ins, w, n, ?_⟩
  unfold State.waveCells State.cellOf Tbl.getD
  rw [if_pos hrun]
  dsimp only
  rw [hget]
  rfl

/-! ### The wave of a phase (R410) -/

theorem State.enterWave_still (h3 : s.t.phase ≤ 3) (hst : s.still = true) :
    s.enterWave = ({ s with t := { s.t with phase := min (s.t.phase + 1) 4 } } : State).newPhase := by
  unfold State.enterWave
  rw [if_neg (by omega), if_pos hst]

theorem State.enterWave_moving (h3 : s.t.phase ≤ 3) (hst : s.still = false) : s.enterWave = s.waveIn.newPhase := by
  unfold State.enterWave
  rw [if_neg (by omega), if_neg (by simp [hst])]

theorem State.t_waveIn : s.waveIn.t = { s.t with phase := min (s.t.phase + 1) 4 } := by
  have hcells : s.waveInputs.waveCells.t = s.waveInputs.t := by
    unfold State.waveCells
    rw [State.t_ite, ite_self]
  rw [State.waveIn_eq, State.waveOutputs_frame.2, hcells, waveKept_waveInputs.time]

theorem State.cellAfter_kept (h : WaveKept s u) : u.cellAfter c cf ins w n = s.cellAfter c cf ins w n := by
  unfold State.cellAfter
  rw [h.cellOf, h.forceOf]

theorem State.cellOf_waveIn (hrun : s.flag BL_STAT.RUN = true) (hcf : s.bl.cfg.get? c = some cf) :
    ∃ ins w n, s.waveIn.cellOf c = s.cellAfter c cf ins w n := by
  have hin : WaveKept s s.waveInputs := waveKept_waveInputs
  obtain ⟨ins, w, n, hcell⟩ := State.cellOf_waveCells (s := s.waveInputs) (hin.run.trans hrun) ((congrArg (Tbl.get? · c) hin.cfg).trans hcf)
  refine ⟨ins, w, n, ?_⟩
  calc s.waveIn.cellOf c
    _ = s.waveInputs.waveCells.cellOf c := by rw [State.waveIn_eq]; unfold State.cellOf; rw [State.waveOutputs_frame.1]
    _ = s.waveInputs.cellAfter c cf ins w n := hcell
    _ = s.cellAfter c cf ins w n := State.cellAfter_kept hin

theorem State.phase_wave (h1 : 1 ≤ s.t.phase) (h3 : s.t.phase ≤ 3) (hq : s.hst.wq = []) : s.wave.t.phase = s.t.phase + 1 := by
  obtain ⟨u, hu, -, hwave⟩ := State.wave_enters h1 h3 hq
  have hu3 : u.t.phase ≤ 3 := by rw [hu.time]; exact h3
  have hphase : s.wave.t.phase = min (u.t.phase + 1) 4 := by
    rw [hwave]
    cases hst : u.still with
    | true => rw [State.enterWave_still hu3 hst]; rfl
    | false => rw [State.enterWave_moving hu3 hst]; exact congrArg TimeS.phase State.t_waveIn
  rw [hphase, hu.time]
  omega

theorem State.wave_still (h : s.t.phase = 3) (hq : s.hst.wq = []) (hst : s.still = true) : s.wave.bl = s.bl ∧ AllKept s s.wave := by
  obtain ⟨u, -, hu, hwave⟩ := State.wave_enters (by omega) (by omega) hq
  rw [hwave, hu h, State.enterWave_still (by omega) hst]
  exact ⟨rfl, fun _ => rfl, fun _ => ⟨rfl, rfl⟩, fun _ => ⟨rfl, rfl⟩⟩

/-- A wave of a running lattice gives each configured cell its result for the wave's inputs. -/
theorem State.cellOf_wave (h1 : 1 ≤ s.t.phase) (h3 : s.t.phase ≤ 3) (hq : s.hst.wq = []) (hst : s.still = false)
    (hrun : s.flag BL_STAT.RUN = true) (hcf : s.bl.cfg.get? c = some cf) : ∃ ins w n, s.wave.cellOf c = s.cellAfter c cf ins w n := by
  obtain ⟨u, hu, -, hwave⟩ := State.wave_enters h1 h3 hq
  obtain ⟨ins, w, n, hcell⟩ := State.cellOf_waveIn (hu.run.trans hrun) ((congrArg (Tbl.get? · c) hu.cfg).trans hcf)
  refine ⟨ins, w, n, ?_⟩
  rw [hwave, State.enterWave_moving (hu.time ▸ h3) (hu.still.trans hst)]
  exact hcell.trans (State.cellAfter_kept hu)

theorem State.wave_over (h : 4 ≤ s.t.phase) : s.wave = s := if_pos h

theorem exec_latticeWave (hup : s.up = true) : exec .latticeWave s = .next (settle s.wave) := act_up hup

/-- What a consumer gets of the wave: the force that stands on the cell, or its own O. -/
theorem State.hist_cellAfter : (s.cellAfter c cf ins w n).hist.head?.map (·.1)
    = some (match s.forceOf c with | some f => f.1 | none => (s.cellAfter c cf ins w n).own) := by
  have hown : (s.cellAfter c cf ins w n).own = (evalCell cf (s.cellOf c) ins w n).1.1 := evalCell_keeps.1
  rw [hown]
  unfold State.cellAfter
  cases s.forceOf c with
  | none => rfl
  | some f => rfl

end

/-- Settles O34: what a phase does before and after the evaluation leaves the cells alone, and each type's result is its branch of the
evaluation. -/
theorem latticeWaveEvaluatesEveryCell : Obligations.LatticeWaveEvaluatesEveryCell := by
  unfold Obligations.LatticeWaveEvaluatesEveryCell
  refine fun s hup => ⟨fun h4 => ?_, fun h1 h3 hq => ⟨_, exec_latticeWave hup, State.phase_wave h1 h3 hq, fun hst hphase => ?_,
    fun hst hrun c cf hcf => ?_⟩⟩
  · refine ⟨settle s, ?_, rfl, rfl, allKept_settle⟩
    rw [exec_latticeWave hup, State.wave_over h4]
  · obtain ⟨hbl, hkept⟩ := State.wave_still hphase hq hst
    exact ⟨congrArg BlS.cells hbl, hkept⟩
  · obtain ⟨ins, w, n, hcell⟩ := State.cellOf_wave h1 h3 hq hst hrun hcf
    have hins : (s.cellAfter c cf ins w n).ins = ins := evalCell_keeps.2
    rw [show (settle s.wave).cellOf c = s.cellAfter c cf ins w n from hcell, hins]
    exact ⟨evalCell_thr, evalCell_and, evalCell_any, evalCell_vote, evalCell_latch, evalCell_opal, State.hist_cellAfter⟩

/-! ## The wave that ends a timed cell's length (R181, R182) -/

section
variable {s : State} {typ : Nat} {c : Fin 4096} {i : Instr} {cf : CellCfg} {st : CellS}

theorem exec_ondlyExpiry (hup : s.up = true) : exec (.ondlyExpiry c) s = .next (settle (s.expire c 6)) := act_up hup

theorem exec_offdlyExpiry (hup : s.up = true) : exec (.offdlyExpiry c) s = .next (settle (s.expire c 7)) := act_up hup

theorem exec_inhibitExpiry (hup : s.up = true) : exec (.inhibitExpiry c) s = .next (settle (s.expire c 11)) := act_up hup

theorem exec_edgeStretchExpiry (hup : s.up = true) : exec (.edgeStretchExpiry c) s = .next (settle (s.expire c 2)) := act_up hup

theorem exec_countWindowExpiry (hup : s.up = true) : exec (.countWindowExpiry c) s = .next (settle (s.expire c 10)) := act_up hup

/-- A length that a timer counts down has run out with the timer at 0. -/
theorem timer_of_runsOut (htyp : cf.typ = 2 ∨ cf.typ = 6 ∨ cf.typ = 7 ∨ cf.typ = 11) (h : runsOut cf st = true) : st.timer = 0 := by
  rcases htyp with htyp | htyp | htyp | htyp
  all_goals
    simp only [runsOut, htyp, Bool.and_eq_true, beq_iff_eq] at h
    exact h.2

theorem window_of_runsOut (htyp : cf.typ = 10) (h : runsOut cf st = true) :
    timedLen cf.p1 ≠ 0 ∧ timedLen cf.p1 ≤ st.timer + 1 := by
  simp only [runsOut, htyp, Bool.and_eq_true, bne_iff_ne, decide_eq_true_eq] at h
  obtain ⟨⟨hlen, -⟩, hover⟩ := h
  exact ⟨hlen, hover⟩

/-- A command of a timed cell is the wave where that wave ends the cell's length. -/
theorem expiry_completes {P : CellS → Prop} (hrun : exec i s = .next (settle (s.expire c typ))) (hst : s.still = false)
    (hlat : s.flag BL_STAT.RUN = true) (h1 : 1 ≤ s.t.phase) (h3 : s.t.phase ≤ 3) (hq : s.hst.wq = [])
    (hP : ∀ cf ins w n, cf.typ = typ → runsOut cf (s.cellOf c) = true → P (s.cellAfter c cf ins w n)) (hdue : s.expiryDue c typ = true) :
    Completes i s (fun t => P (t.cellOf c)) := by
  obtain ⟨cf, hcf, htyp, hout⟩ := State.expiryDue_iff.mp hdue
  obtain ⟨ins, w, n, hcell⟩ := State.cellOf_wave h1 h3 hq hst hlat hcf
  have hwave : s.expire c typ = s.wave := if_pos hdue
  have hafter : (settle (s.expire c typ)).cellOf c = s.cellAfter c cf ins w n := by rw [hwave]; exact hcell
  refine ⟨_, hrun, ?_⟩
  dsimp only
  rw [hafter]
  exact hP cf ins w n htyp hout

/-- Before that wave it finds the length still running (log 9). -/
theorem expiry_early (hrun : exec i s = .next (settle (s.expire c typ))) (hdue : s.expiryDue c typ = false) :
    Completes i s (fun t => t.bl = s.bl ∧ AllKept s t) := by
  have hidle : s.expire c typ = s := if_neg (by simp [hdue])
  refine ⟨settle s, ?_, rfl, allKept_settle⟩
  rw [hrun, hidle]

end

/-- Settles O35: each command is the wave or nothing, and a cell whose length has run out takes the branch of its type without a timer. -/
theorem timedCellsRunOut : Obligations.TimedCellsRunOut := by
  unfold Obligations.TimedCellsRunOut
  intro s c hup hst hlat h1 h3 hq
  have hins : ∀ cf ins w n, (s.cellAfter c cf ins w n).ins = ins := fun _ _ _ _ => evalCell_keeps.2
  refine ⟨?ondly, expiry_early (exec_ondlyExpiry hup), ?offdly, expiry_early (exec_offdlyExpiry hup),
    ?inhibit, expiry_early (exec_inhibitExpiry hup), ?edge, expiry_early (exec_edgeStretchExpiry hup),
    ?count, expiry_early (exec_countWindowExpiry hup)⟩
  case ondly =>
    refine expiry_completes (P := fun y => y.own = bit y.ins 0) (exec_ondlyExpiry hup) hst hlat h1 h3 hq fun cf ins w n htyp hout => ?_
    rw [hins]
    exact evalCell_ondly htyp (timer_of_runsOut (by simp [htyp]) hout)
  case offdly =>
    refine expiry_completes (P := fun y => y.own = bit y.ins 0) (exec_offdlyExpiry hup) hst hlat h1 h3 hq fun cf ins w n htyp hout => ?_
    rw [hins]
    exact evalCell_offdly htyp (timer_of_runsOut (by simp [htyp]) hout)
  case inhibit =>
    refine expiry_completes (P := fun y => y.own = (bit y.ins 0 && !bit y.ins 1)) (exec_inhibitExpiry hup) hst hlat h1 h3 hq
      fun cf ins w n htyp hout => ?_
    rw [hins]
    exact evalCell_inhibit htyp (timer_of_runsOut (by simp [htyp]) hout)
  case edge =>
    refine expiry_completes (P := fun y => bit y.ins 0 = bit (s.cellOf c).ins 0 → y.own = false) (exec_edgeStretchExpiry hup) hst hlat h1 h3
      hq fun cf ins w n htyp hout => ?_
    rw [hins]
    exact evalCell_edge htyp (timer_of_runsOut (by simp [htyp]) hout)
  case count =>
    refine expiry_completes (P := fun y => (s.cellOf c).first = false → y.cnt ≤ 1 ∧ (bit y.ins 0 = bit (s.cellOf c).ins 0 → y.cnt = 0))
      (exec_countWindowExpiry hup) hst hlat h1 h3 hq fun cf ins w n htyp hout hfirst => ?_
    obtain ⟨hlen, hover⟩ := window_of_runsOut htyp hout
    have hcnt : (s.cellAfter c cf ins w n).cnt = if bit ins 1 then 0 else if bit ins 0 && !bit (s.cellOf c).ins 0 then 1 else 0 :=
      evalCell_count htyp hfirst hlen hover
    rw [hins, hcnt]
    constructor
    · split
      · exact Nat.zero_le 1
      · split <;> omega
    · intro hin
      simp [hin]

end Sys2Proof.Machine

namespace Sys2Proof.Machine

open Sys2Proof

/-! ## The alarm engine's work on its points (R211 to R222) -/

section
variable {s t u z : State} {f : Fld} {a g m n v k st : Nat} {w : Word} {x : Bool} {l : List Nat}

/-! ### A point as it stands -/

/-- A point stands as before: its register, and what the engine keeps beside it. -/
structure SamePoint (n : Nat) (s t : State) : Prop where
  reg : t.reg (ALM_PST n) = s.reg (ALM_PST n)
  alm : t.almOf n = s.almOf n

theorem SamePoint.refl : SamePoint n s s := ⟨rfl, rfl⟩

theorem SamePoint.trans (h : SamePoint n s t) (h' : SamePoint n t u) : SamePoint n s u := ⟨h'.reg.trans h.reg, h'.alm.trans h.alm⟩

theorem SamePoint.get (h : SamePoint n s t) (hf : f.addr = ALM_PST n) : t.get f = s.get f := get_of_reg_eq (by rw [hf, h.reg])

theorem SamePoint.flag (h : SamePoint n s t) (hf : f.addr = ALM_PST n) : t.flag f = s.flag f := congrArg (· != 0) (h.get hf)

theorem SamePoint.state (h : SamePoint n s t) : t.almState n = s.almState n := h.get rfl

theorem SamePoint.ent (h : SamePoint n s t) : t.almEnt n = s.almEnt n := congrArg (fun y : AlmS => y.cache.words) h.alm

theorem SamePoint.noOverlay (h : SamePoint n s t) (hs : s.noOverlay n) : t.noOverlay n := by
  unfold State.noOverlay
  rw [h.alm, h.flag (f := ALM_PST.BLK n) rfl]
  exact hs

theorem SamePoint.unacked (h : SamePoint n s t) : t.unacked n = s.unacked n := by
  unfold State.unacked
  rw [h.state]

theorem SamePoint.ackable (h : SamePoint n s t) : t.ackable n = s.ackable n := by
  unfold State.ackable
  rw [h.unacked, h.ent]

theorem samePoint_settle : SamePoint n s (settle s) := ⟨rfl, rfl⟩

/-- Work on the points of a list one after another, each leaving the other points as they stand, keeps of a point what its own
work keeps. -/
theorem foldl_keeps_point {p : State → Nat → State} {Q : State → Prop}
    (hother : ∀ z, ∀ m ∈ l, m ≠ n → SamePoint n z (p z m)) (hQ : ∀ {z z'}, SamePoint n z z' → Q z → Q z')
    (hown : ∀ z, Q z → Q (p z n)) (hs : Q s) : Q (l.foldl p s) := by
  refine List.foldlRecOn l p hs fun z hz m hm => ?_
  by_cases hmn : m = n
  · rw [hmn]
    exact hown z hz
  · exact hQ (hother z m hm hmn) hz

/-- Of a point of the list, such work establishes what its own work establishes and then keeps. -/
theorem foldl_reaches_point {p : State → Nat → State} {Q : State → Prop} (hn : n ∈ l)
    (hother : ∀ z, ∀ m ∈ l, m ≠ n → SamePoint n z (p z m)) (hQ : ∀ {z z'}, SamePoint n z z' → Q z → Q z')
    (hfirst : ∀ z, SamePoint n s z → Q (p z n)) (hown : ∀ z, Q z → Q (p z n)) : Q (l.foldl p s) := by
  obtain ⟨l₁, l₂, hl, hnot⟩ := List.eq_append_cons_of_mem hn
  subst hl
  rw [List.foldl_append, List.foldl_cons]
  refine foldl_keeps_point (fun z m hm => hother z m ?_) hQ hown (hfirst _ (List.foldlRecOn l₁ p .refl fun z hz m hm => ?_))
  · exact List.mem_append_right _ (List.mem_cons_of_mem _ hm)
  · exact hz.trans (hother z m (List.mem_append_left _ hm) fun e => hnot (e ▸ hm))

/-! ### What work on a point writes -/

/-- Registers that show a change of a point's state, and its first-out flag. -/
def changeRegs (n : Nat) : List Nat := [ALM_PST n, ALM_PT_W0 n, ALM_PT_W1 n, HST_ISRC, ONX_LOST, LEG_STAT]

/-- The engine has worked on the registers of point n: its state, and, unless `noCap` names its group, the group's first-out; D, the
block and SHLEFT stay, as do what is kept beside the registers, the commands' count and all of memory. -/
structure PointWork (noCap : List Nat) (n : Nat) (s t : State) : Prop where
  regs : ∀ a, a ∉ changeRegs n → (a = ALM_GST (s.almEnt n).group → (s.almEnt n).group ∈ noCap) → t.reg a = s.reg a
  fields : ∀ f ∈ [ALM_PST.DEL n, ALM_PST.BLK n, ALM_PST.SHLEFT n], t.get f = s.get f
  pts : t.alm.pts = s.alm.pts
  cmdNo : t.alm.cmdNo = s.alm.cmdNo
  mem : t.mem = s.mem

theorem addr_of_pointField (hf : f ∈ [ALM_PST.DEL n, ALM_PST.BLK n, ALM_PST.SHLEFT n]) : f.addr = ALM_PST n := by
  simp only [List.mem_cons, List.not_mem_nil, or_false] at hf
  rcases hf with rfl | rfl | rfl <;> rfl

theorem almOf_of_pts_eq (h : t.alm.pts = s.alm.pts) : t.almOf n = s.almOf n := by simp only [State.almOf, h]

theorem almEnt_of_pts_eq (h : t.alm.pts = s.alm.pts) : t.almEnt n = s.almEnt n := by simp only [State.almEnt, almOf_of_pts_eq h]

theorem PointWork.trans (h : PointWork l n s t) (h' : PointWork l n t u) : PointWork l n s u where
  regs a ha hg := (h'.regs a ha (by rw [almEnt_of_pts_eq h.pts]; exact hg)).trans (h.regs a ha hg)
  fields f hf := (h'.fields f hf).trans (h.fields f hf)
  pts := h'.pts.trans h.pts
  cmdNo := h'.cmdNo.trans h.cmdNo
  mem := h'.mem.trans h.mem

theorem pointWork_of_eq (hr : t.regs = s.regs) (hp : t.alm.pts = s.alm.pts) (hc : t.alm.cmdNo = s.alm.cmdNo) (hm : t.mem = s.mem) :
    PointWork l n s t where
  regs a _ _ := by simp only [State.reg, hr]
  fields f _ := by simp only [State.get, State.reg, hr]
  pts := hp
  cmdNo := hc
  mem := hm

theorem PointWork.refl : PointWork l n s s := pointWork_of_eq rfl rfl rfl rfl

theorem PointWork.ite {p : Prop} [Decidable p] (ht : PointWork l n s t) (hu : PointWork l n s u) :
    PointWork l n s (if p then t else u) := by
  split
  · exact ht
  · exact hu

/-- A write of another register that work on the point may write. -/
theorem pointWork_setReg (ha : a ∈ changeRegs n ∨ a = ALM_GST (s.almEnt n).group ∧ (s.almEnt n).group ∉ l) (hne : a ≠ ALM_PST n) :
    PointWork l n s (s.setReg a w) where
  regs b hb hg := by
    refine State.reg_setReg_other fun e => ?_
    subst e
    rcases ha with ha | ⟨ha, hl⟩
    · exact hb ha
    · exact hl (hg ha)
  fields f hf := State.get_setReg_other (by rw [addr_of_pointField hf]; exact hne.symm)
  pts := rfl
  cmdNo := rfl
  mem := rfl

/-- A write of one of the point's fields STATE, BWHY and FO. -/
theorem pointWork_put (hf : f ∈ [ALM_PST.STATE n, ALM_PST.BWHY n, ALM_PST.FO n]) : PointWork l n s (s.put f v) := by
  simp only [List.mem_cons, List.not_mem_nil, or_false] at hf
  have haddr : f.addr = ALM_PST n := by rcases hf with rfl | rfl | rfl <;> rfl
  refine ⟨fun b hb _ => State.reg_put_other fun e => hb ?_, fun g hg => State.get_put_other ?_ ?_, rfl, rfl, rfl⟩
  · rw [e, haddr]
    exact List.mem_cons_self
  · rcases hf with rfl | rfl | rfl <;> rfl
  · simp only [List.mem_cons, List.not_mem_nil, or_false] at hg
    rcases hf with rfl | rfl | rfl <;> rcases hg with rfl | rfl | rfl <;> simp [Fld.apart]

@[simp] theorem State.alm_trigger {cls sub src : Nat} {ts0 ts1 ev0 ev1 : Word} {rs : Option Nat} :
    (s.trigger cls sub src ts0 ts1 ev0 ev1 rs).alm = s.alm := by
  unfold State.trigger
  dsimp only
  generalize (if cls ≤ 2 then 128 else 112) = cap
  split
  · rfl
  · split
    · exact State.alm_inc
    · split
      · exact State.alm_inc
      · split
        · exact State.alm_inc
        · split <;> rfl

end

section
variable {s t u z : State} {f : Fld} {a g m n v k st : Nat} {w : Word} {x : Bool} {l : List Nat} {e : Entry}

theorem pst_ne_onxLost (hn : n < 1024) : ALM_PST n ≠ ONX_LOST := by simp only [ALM_PST, ONX_LOST]; omega

theorem pst_ne_isrc (hn : n < 1024) : ALM_PST n ≠ HST_ISRC := by simp only [ALM_PST, HST_ISRC]; omega

theorem pst_ne_legStat (hn : n < 1024) : ALM_PST n ≠ LEG_STAT := by simp only [ALM_PST, LEG_STAT]; omega

theorem pst_ne_gst (hg : g < 64) : ALM_PST n ≠ ALM_GST g := by simp only [ALM_PST, ALM_GST]; omega

theorem pst_ne_stamp : ALM_PST n ≠ ALM_PT_W0 n ∧ ALM_PST n ≠ ALM_PT_W1 n := by simp only [ALM_PST, ALM_PT_W0, ALM_PT_W1]; omega

theorem Entry.group_lt : e.group < 64 := bits_lt

theorem pointWork_trigWork {cls sub src : Nat} {ev0 ev1 : Word} (hn : n < 1024) : PointWork l n s (s.trigWork cls sub src ev0 ev1) where
  regs a ha _ := State.reg_trigWork fun e => ha (by simp [changeRegs, e])
  fields f hf := State.get_trigWork (by rw [addr_of_pointField hf]; exact pst_ne_onxLost hn)
  pts := by simp only [State.trigWork, State.alm_trigger]
  cmdNo := by simp only [State.trigWork, State.alm_trigger]
  mem := State.mem_trigWork

/-! ### A change of state (R213, R228 to R231) -/

/-- A new state shows with its stamp and the interrupt source. -/
def State.stateShown (s : State) (n st : Nat) : State :=
  (((s.put (ALM_PST.STATE n) st).setReg (ALM_PT_W0 n) s.wts0).setReg (ALM_PT_W1 n) s.wts1).raise HST_ISRC.ALARM

/-- The recorder is told, where the entry asks for it. -/
def State.stateRecorded (s : State) (n : Nat) (e : Entry) : State := if e.b 0 15 then s.trigWork 4 1 n (s.reg (ALM_PST n)) 0 else s

/-- The ship network is told, where the entry asks for it. -/
def State.statePublished (s : State) (n : Nat) (e : Entry) : State :=
  if e.b 0 16 then
    { s with sn := { s.sn with almQ := s.sn.almQ ++ [(e.pri == 1, [s.almWordA n, W (e.f 3 35 20 <<< 20), s.wts0, s.wts1], s.t.run)] } }
  else s

/-- The legacy host and bus are told of points 0 to 127. -/
def State.stateLegacy (s : State) (n : Nat) : State :=
  if n < 128 then
    let s := s.putBit LEG_STAT.QSTAT 15 true
    if s.legTx then { s with alm := { s.alm with chg := s.alm.chg ++ [(s.almWordA n, s.t.run)] } } else s
  else s

theorem State.almSet_eq : s.almSet n st = if s.almState n == st then s
    else (((s.stateShown n st).stateRecorded n (s.almEnt n)).statePublished n (s.almEnt n)).stateLegacy n := rfl

theorem pointWork_stateShown (hn : n < 1024) : PointWork l n s (s.stateShown n st) := by
  have hshow : PointWork l n s (s.put (ALM_PST.STATE n) st) := pointWork_put (by simp)
  have hw0 : ∀ z : State, PointWork l n z (z.setReg (ALM_PT_W0 n) s.wts0) := fun _ =>
    pointWork_setReg (.inl (by simp [changeRegs])) pst_ne_stamp.1.symm
  have hw1 : ∀ z : State, PointWork l n z (z.setReg (ALM_PT_W1 n) s.wts1) := fun _ =>
    pointWork_setReg (.inl (by simp [changeRegs])) pst_ne_stamp.2.symm
  have hraise : ∀ z : State, PointWork l n z (z.raise HST_ISRC.ALARM) := fun _ =>
    pointWork_setReg (.inl (by simp [changeRegs])) (pst_ne_isrc hn).symm
  exact ((hshow.trans (hw0 _)).trans (hw1 _)).trans (hraise _)

theorem pointWork_stateRecorded (hn : n < 1024) : PointWork l n s (s.stateRecorded n e) := .ite (pointWork_trigWork hn) .refl

theorem pointWork_statePublished : PointWork l n s (s.statePublished n e) := by
  have hsn : ∀ y : SnS, PointWork l n s { s with sn := y } := fun _ => pointWork_of_eq rfl rfl rfl rfl
  exact .ite (hsn _) .refl

theorem pointWork_stateLegacy (hn : n < 1024) : PointWork l n s (s.stateLegacy n) := by
  have hattn : PointWork l n s (s.putBit LEG_STAT.QSTAT 15 true) :=
    pointWork_setReg (.inl (by simp [changeRegs])) (pst_ne_legStat hn).symm
  have hchg : ∀ (z : State) (y : List (Word × Nat)), PointWork l n z { z with alm := { z.alm with chg := y } } := fun _ _ =>
    pointWork_of_eq rfl rfl rfl rfl
  exact .ite (.ite (hattn.trans (hchg _ _)) hattn) .refl

theorem pointWork_almSet (hn : n < 1024) : PointWork l n s (s.almSet n st) := by
  rw [State.almSet_eq]
  exact .ite .refl ((((pointWork_stateShown hn).trans (pointWork_stateRecorded hn)).trans pointWork_statePublished).trans
    (pointWork_stateLegacy hn))

/-- What tells of a change of state leaves the point's own register. -/
theorem State.pst_stateTold (hn : n < 1024) :
    (((s.stateRecorded n e).statePublished n e).stateLegacy n).reg (ALM_PST n) = s.reg (ALM_PST n) := by
  have hrec : (s.stateRecorded n e).reg (ALM_PST n) = s.reg (ALM_PST n) := by
    unfold State.stateRecorded
    split
    · exact State.reg_trigWork (pst_ne_onxLost hn)
    · rfl
  have hpub : ∀ z : State, (z.statePublished n e).reg (ALM_PST n) = z.reg (ALM_PST n) := fun z => by
    unfold State.statePublished
    split
    · exact State.reg_with
    · rfl
  have hleg : ∀ z : State, (z.stateLegacy n).reg (ALM_PST n) = z.reg (ALM_PST n) := fun z => by
    unfold State.stateLegacy
    dsimp only
    split
    · rw [State.reg_ite, State.reg_with, ite_self, State.reg_putBit_other (pst_ne_legStat hn)]
    · rfl
  rw [hleg, hpub, hrec]

theorem State.pst_stateShown (hn : n < 1024) : (s.stateShown n st).reg (ALM_PST n) = (s.put (ALM_PST.STATE n) st).reg (ALM_PST n) := by
  unfold State.stateShown
  rw [State.reg_raise_other (pst_ne_isrc hn), State.reg_setReg_other pst_ne_stamp.2, State.reg_setReg_other pst_ne_stamp.1]

theorem State.almState_almSet (hn : n < 1024) (hst : st < 8) : (s.almSet n st).almState n = st := by
  rw [State.almSet_eq]
  split
  · next h => exact beq_iff_eq.mp h
  · have hreg := (State.pst_stateTold (s := s.stateShown n st) (e := s.almEnt n) hn).trans (State.pst_stateShown hn)
    calc _ = (s.put (ALM_PST.STATE n) st).get (ALM_PST.STATE n) := get_of_reg_eq hreg
      _ = st := (State.get_put_same rfl).trans (Nat.mod_eq_of_lt hst)

/-! ### First-out (R221, R222) -/

theorem pointWork_foTrigger (hn : n < 1024) : PointWork l n s (s.foTrigger g) := by
  unfold State.foTrigger
  exact pointWork_trigWork hn

theorem pointWork_capture (hn : n < 1024) : PointWork l n s (s.capture n l) := by
  unfold State.capture
  dsimp only
  split
  · next h =>
    have hl : (s.almEnt n).group ∉ l := by
      simp only [Bool.and_eq_true, Bool.not_eq_true', List.contains_eq_mem, decide_eq_false_iff_not] at h
      exact h.2
    have hgst : ∀ (z : State) (f : Fld) (v : Nat), f.addr = ALM_GST (s.almEnt n).group → z.alm.pts = s.alm.pts →
        PointWork l n z (z.put f v) := fun z f v hf hz =>
      pointWork_setReg (.inr (by rw [almEnt_of_pts_eq hz]; exact ⟨hf, hl⟩)) (by rw [hf]; exact (pst_ne_gst Entry.group_lt).symm)
    have hvalid := hgst s (ALM_GST.FOVALID (s.almEnt n).group) true.toNat rfl rfl
    have hpt := hgst (s.putB (ALM_GST.FOVALID (s.almEnt n).group) true) (ALM_GST.FOPT (s.almEnt n).group) n rfl
      (congrArg AlmEng.pts State.alm_putB)
    exact ((hvalid.trans hpt).trans (pointWork_put (by simp))).trans (pointWork_foTrigger hn)
  · exact .refl

/-! ### The transitions of a point (R213, R214, R224, R227) -/

/-- The hold by its group's flood, while D is 1, that stands over the point already. -/
def State.heldOn (s : State) (n : Nat) : Bool := (s.almOf n).held && s.flag (ALM_PST.DEL n) && s.floodHolds n

/-- The row for NORMAL applies: the point is NORMAL or may leave an overlay. -/
def State.fromNormal (s : State) (n : Nat) : Bool := s.almState n == 0 || decide (s.almState n ≥ 4)

/-- The hold by a flood that the transitions leave. -/
def State.heldNext (s : State) (n : Nat) : Bool :=
  s.heldOn n || (!((s.almOf n).oos || (s.almOf n).shelved || s.flag (ALM_PST.BLK n) || s.heldOn n) && s.fromNormal n
    && s.flag (ALM_PST.DEL n) && s.floodHolds n)

/-- The state that R213 and R214 give a point without overlay. -/
def State.baseNext (s : State) (n : Nat) : Nat :=
  let d := s.flag (ALM_PST.DEL n)
  let act := if (s.almEnt n).pri == 0 then 2 else 1
  if s.fromNormal n then (if d then act else 0)
  else match s.almState n with
    | 1 => if d then act else if (s.almEnt n).pri == 0 then 0 else 3
    | 2 => if d then 2 else 0
    | _ => if d then act else if (s.almEnt n).pri == 0 then 0 else 3

/-- The state that the transitions give a point in use. -/
def State.stateNext (s : State) (n : Nat) : Nat :=
  if (s.almOf n).oos then 6
  else if (s.almOf n).shelved then 4
  else if s.flag (ALM_PST.BLK n) || s.heldNext n then 5
  else s.baseNext n

/-- The hold takes effect. -/
def State.noteHeld (s : State) (n : Nat) (h : Bool) : State :=
  if h == (s.almOf n).held then s else s.setAlm n { s.almOf n with held := h }

/-- BWHY shows why the point is BLOCKED. -/
def State.showWhy (s : State) (n why : Nat) : State := if s.get (ALM_PST.BWHY n) == why then s else s.put (ALM_PST.BWHY n) why

theorem State.almTrans_unused (h : s.almState n = 7) : s.almTrans l n = s := if_pos (beq_iff_eq.mpr h)

theorem State.almTrans_used (h : s.almState n ≠ 7) : ∃ why, s.almTrans l n =
    (if s.almState n == 0 && s.stateNext n == 1 then ((s.noteHeld n (s.heldNext n)).showWhy n why).capture n l
      else (s.noteHeld n (s.heldNext n)).showWhy n why).almSet n (s.stateNext n) :=
  ⟨if s.stateNext n == 5 then (if s.flag (ALM_PST.BLK n) then 1 else 2) else 0, if_neg (by simp [h])⟩

theorem State.regs_noteHeld : (s.noteHeld n x).regs = s.regs := by unfold State.noteHeld; split <;> rfl

theorem State.reg_noteHeld : (s.noteHeld n x).reg a = s.reg a := by simp only [State.reg, State.regs_noteHeld]

theorem State.mem_noteHeld : (s.noteHeld n x).mem = s.mem := by unfold State.noteHeld; split <;> rfl

theorem State.cmdNo_noteHeld : (s.noteHeld n x).alm.cmdNo = s.alm.cmdNo := by unfold State.noteHeld; split <;> rfl

theorem State.almOf_noteHeld : (s.noteHeld n x).almOf n = { s.almOf n with held := x } := by
  unfold State.noteHeld
  split
  · next h => rw [beq_iff_eq.mp h]
  · exact State.almOf_setAlm_same

theorem State.almOf_noteHeld_other (h : m ≠ n) : (s.noteHeld n x).almOf m = s.almOf m := by
  unfold State.noteHeld
  split
  · rfl
  · exact State.almOf_setAlm_other h

theorem State.almEnt_noteHeld : (s.noteHeld n x).almEnt n = s.almEnt n := by
  unfold State.almEnt
  rw [State.almOf_noteHeld]

theorem pointWork_showWhy : PointWork l n s (s.showWhy n v) := .ite .refl (pointWork_put (by simp))

/-- After the hold, the transitions are work on the point's registers. -/
theorem pointWork_almTrans (hn : n < 1024) (h : s.almState n ≠ 7) : PointWork l n (s.noteHeld n (s.heldNext n)) (s.almTrans l n) := by
  obtain ⟨why, htrans⟩ := State.almTrans_used (l := l) h
  rw [htrans]
  exact PointWork.trans (.ite (pointWork_showWhy.trans (pointWork_capture hn)) pointWork_showWhy) (pointWork_almSet hn)

theorem State.baseNext_lt : s.baseNext n < 4 := by
  unfold State.baseNext
  dsimp only
  repeat' split
  all_goals omega

theorem State.stateNext_lt : s.stateNext n < 8 := by
  have hbase := State.baseNext_lt (s := s) (n := n)
  unfold State.stateNext
  split_ifs <;> omega

theorem State.almState_almTrans (hn : n < 1024) (h : s.almState n ≠ 7) : (s.almTrans l n).almState n = s.stateNext n := by
  obtain ⟨why, htrans⟩ := State.almTrans_used (l := l) h
  rw [htrans]
  exact State.almState_almSet hn State.stateNext_lt

theorem State.almOf_almTrans (hn : n < 1024) (h : s.almState n ≠ 7) :
    (s.almTrans l n).almOf n = { s.almOf n with held := s.heldNext n } := by
  rw [almOf_of_pts_eq (pointWork_almTrans hn h).pts, State.almOf_noteHeld]

end

section
variable {s t u z : State} {f : Fld} {a g m n v k st : Nat} {w : Word} {x : Bool} {l : List Nat} {e : Entry} {c : Instr}

theorem reg_almTrans (hn : n < 1024) (ha : a ∉ changeRegs n) (hg : a = ALM_GST (s.almEnt n).group → (s.almEnt n).group ∈ l) :
    (s.almTrans l n).reg a = s.reg a := by
  by_cases h : s.almState n = 7
  · rw [State.almTrans_unused h]
  · exact ((pointWork_almTrans hn h).regs a ha (by rw [State.almEnt_noteHeld]; exact hg)).trans State.reg_noteHeld

theorem State.mem_almTrans (hn : n < 1024) : (s.almTrans l n).mem = s.mem := by
  by_cases h : s.almState n = 7
  · rw [State.almTrans_unused h]
  · exact (pointWork_almTrans hn h).mem.trans State.mem_noteHeld

theorem get_almTrans (hn : n < 1024) (hf : f ∈ [ALM_PST.DEL n, ALM_PST.BLK n, ALM_PST.SHLEFT n]) : (s.almTrans l n).get f = s.get f := by
  by_cases h : s.almState n = 7
  · rw [State.almTrans_unused h]
  · exact ((pointWork_almTrans hn h).fields f hf).trans (get_of_reg_eq State.reg_noteHeld)

/-- The registers of a point are not among those of the work on another. -/
theorem pst_not_mem_changeRegs (hn : n < 1024) (hmn : m ≠ n) (hm : m < 1024) : ALM_PST n ∉ changeRegs m := by
  simp only [changeRegs, ALM_PST, ALM_PT_W0, ALM_PT_W1, HST_ISRC, ONX_LOST, LEG_STAT, List.mem_cons, List.not_mem_nil, or_false]
  omega

theorem samePoint_almTrans (hn : n < 1024) (hm : m < 1024) (hmn : m ≠ n) : SamePoint n s (s.almTrans l m) where
  reg := reg_almTrans hm (pst_not_mem_changeRegs hn hmn hm) fun e => absurd e (pst_ne_gst Entry.group_lt)
  alm := by
    by_cases h : s.almState m = 7
    · rw [State.almTrans_unused h]
    · rw [almOf_of_pts_eq (pointWork_almTrans hm h).pts, State.almOf_noteHeld_other hmn.symm]

/-! ### The states (R213, R214) -/

theorem State.stateNext_oos (h : (s.almOf n).oos = true) : s.stateNext n = 6 := if_pos h

theorem State.stateNext_shelved (ho : (s.almOf n).oos = false) (h : (s.almOf n).shelved = true) : s.stateNext n = 4 := by
  unfold State.stateNext
  rw [if_neg (by simp [ho]), if_pos h]

theorem State.stateNext_blocked (ho : (s.almOf n).oos = false) (hs : (s.almOf n).shelved = false) (h : s.flag (ALM_PST.BLK n) = true) :
    s.stateNext n = 5 := by
  unfold State.stateNext
  rw [if_neg (by simp [ho]), if_neg (by simp [hs]), if_pos (by simp [h])]

/-- A flood takes hold of no point that is acknowledged or annunciating, and of none whose D is 0 (R224). -/
theorem State.heldNext_free (hov : s.noOverlay n)
    (h : s.floodHolds n = false ∨ s.fromNormal n = false ∨ s.flag (ALM_PST.DEL n) = false) : s.heldNext n = false := by
  obtain ⟨-, -, hheld, -⟩ := hov
  unfold State.heldNext State.heldOn
  rw [hheld]
  rcases h with h | h | h <;> simp [h]

theorem State.stateNext_free (hov : s.noOverlay n)
    (h : s.floodHolds n = false ∨ s.fromNormal n = false ∨ s.flag (ALM_PST.DEL n) = false) : s.stateNext n = s.baseNext n := by
  have hheld := State.heldNext_free hov h
  obtain ⟨ho, hs, -, hb⟩ := hov
  unfold State.stateNext
  rw [if_neg (by simp [ho]), if_neg (by simp [hs]), if_neg (by simp [hb, hheld])]

theorem State.baseNext_normal (h : s.almState n = 0 ∨ 4 ≤ s.almState n) :
    s.baseNext n = if s.flag (ALM_PST.DEL n) then (if (s.almEnt n).pri = 0 then 2 else 1) else 0 := by
  unfold State.baseNext State.fromNormal
  rw [if_pos (by simpa using h)]
  simp

theorem State.fromNormal_annunciating (h : s.almState n = 1 ∨ s.almState n = 2 ∨ s.almState n = 3) : s.fromNormal n = false := by
  unfold State.fromNormal
  rcases h with h | h | h <;> rw [h] <;> rfl

theorem State.baseNext_unacked (h : s.almState n = 1 ∨ s.almState n = 3) :
    s.baseNext n = if s.flag (ALM_PST.DEL n) then (if (s.almEnt n).pri = 0 then 2 else 1) else if (s.almEnt n).pri = 0 then 0 else 3 := by
  have hfrom : s.fromNormal n = false := State.fromNormal_annunciating (h.imp_right .inr)
  unfold State.baseNext
  rw [if_neg (by simp [hfrom])]
  rcases h with h | h <;> simp [h]

theorem State.baseNext_acked (h : s.almState n = 2) : s.baseNext n = if s.flag (ALM_PST.DEL n) then 2 else 0 := by
  have hfrom : s.fromNormal n = false := State.fromNormal_annunciating (.inr (.inl h))
  unfold State.baseNext
  rw [if_neg (by simp [hfrom])]
  simp [h]

/-! ### The filter of a point's condition (R206, R209) -/

/-- D follows C with the next sample. -/
def State.delayFlips (s : State) (n : Nat) : Bool :=
  let c := (s.almSample n).1.1
  let d := s.flag (ALM_PST.DEL n)
  c != d && decide ((if c == d then 0 else (s.almOf n).run + 1) > if c then (s.almEnt n).nOn else (s.almEnt n).nOff)

theorem State.delayFlips_eq : s.delayFlips n = ((s.almSample n).1.1 != s.flag (ALM_PST.DEL n)
    && decide ((if (s.almSample n).1.1 then (s.almEnt n).nOn else (s.almEnt n).nOff) ≤ (s.almOf n).run)) := by
  unfold State.delayFlips
  by_cases h : (s.almSample n).1.1 = s.flag (ALM_PST.DEL n)
  · simp [h]
  · simp [h]

theorem exec_alarmOnDelayExpiry (hup : s.up = true) (n : Fin 1024) :
    exec (.alarmOnDelayExpiry n) s = .next (settle (s.beatIf (s.delayOver n true))) := act_up hup

theorem exec_alarmOffDelayExpiry (hup : s.up = true) (n : Fin 1024) :
    exec (.alarmOffDelayExpiry n) s = .next (settle (s.beatIf (s.delayOver n false))) := act_up hup

/-- A command that is the next beat where something is due. -/
theorem isBeatIf_of_exec (hup : s.up = true) (hrun : exec c s = .next (settle (s.beatIf x))) : IsBeatIf c x s := by
  unfold State.beatIf at hrun
  refine ⟨fun hx hstep => ?_, fun hx => ?_⟩
  · rw [if_pos hx] at hrun
    have hsame := sameCounts_beat_unstepped (k := ⟨0, false, false⟩) (timed_of_up hup) hstep
    exact ⟨_, hrun, hsame.beat, hsame.phase⟩
  · rw [if_neg (by simp [hx])] at hrun
    exact ⟨_, hrun, State.t_settle, allKept_settle⟩

/-- The word of ALM_PSTn with what a sample shows. -/
def sampledWord (w : Word) (c d k nofeed confl : Bool) : Word :=
  W (setBit (setBit (setBit (setBit (setBit w.toNat 32 c) 31 d) 30 k) 23 nofeed) 22 confl)

/-- A register written only where its word changes holds the word. -/
theorem writeIfNew_frame : RegsKeptBut [a] s (if w == s.reg a then s else s.setReg a w)
    ∧ (if w == s.reg a then s else s.setReg a w).reg a = w := by
  split
  · next h => exact ⟨fun _ _ => rfl, (beq_iff_eq.mp h).symm⟩
  · exact ⟨fun b hb => State.reg_setReg_other (List.ne_of_not_mem_cons hb), State.reg_setReg_same⟩

/-- The filter writes the point's register alone: C, D and what else the sample shows. -/
theorem almFilter_frame : RegsKeptBut [ALM_PST n] s (s.almFilter n).1 ∧ ∃ k nofeed confl, (s.almFilter n).1.reg (ALM_PST n)
    = sampledWord (s.reg (ALM_PST n)) (s.almSample n).1.1
        (if s.delayFlips n then (s.almSample n).1.1 else s.flag (ALM_PST.DEL n)) k nofeed confl := by
  have hcount : ∀ (p : Prop) [Decidable p] (y : AlmS) (b : Nat), (if p then s else s.setAlm n y).reg b = s.reg b := fun p _ y b => by
    rw [State.reg_ite, State.reg_setAlm, ite_self]
  unfold State.almFilter State.delayFlips
  obtain ⟨⟨c, k⟩, nofeed, confl⟩ := s.almSample n
  dsimp only
  refine ⟨fun b hb => (writeIfNew_frame.1 b hb).trans (hcount _ _ b), k, nofeed, confl, writeIfNew_frame.2.trans ?_⟩
  rw [hcount]
  rfl

theorem setBit_lt {i j : Nat} (hi : i < j) (h : v < 2 ^ j) : setBit v i x < 2 ^ j := setBits_lt le_rfl hi h

theorem bits_setBit_same {i : Nat} : bits (setBit v i x) i i = x.toNat := by
  have h : bits (setBit v i x) i i = x.toNat % 2 ^ (i + 1 - i) := bits_setBits_same le_rfl
  rw [h, Nat.add_sub_cancel_left, pow_one, Nat.mod_eq_of_lt (Bool.toNat_lt x)]

theorem bits_setBit_other {i j : Nat} (h : j ≠ i) : bits (setBit v i x) j j = bits v j j := bits_setBits_other le_rfl (by omega)

theorem toNat_sampledWord {c d k nofeed confl : Bool} : (sampledWord w c d k nofeed confl).toNat
    = setBit (setBit (setBit (setBit (setBit w.toNat 32 c) 31 d) 30 k) 23 nofeed) 22 confl := by
  unfold sampledWord
  rw [BitVec.toNat_ofNat]
  refine Nat.mod_eq_of_lt ?_
  iterate 5 refine setBit_lt (by decide) ?_
  exact w.isLt

theorem fld_sampledWord_cond {c d k nofeed confl : Bool} : fld (sampledWord w c d k nofeed confl) 32 32 = c.toNat := by
  unfold fld
  rw [toNat_sampledWord, bits_setBit_other (by decide), bits_setBit_other (by decide), bits_setBit_other (by decide),
    bits_setBit_other (by decide), bits_setBit_same]

theorem fld_sampledWord_del {c d k nofeed confl : Bool} : fld (sampledWord w c d k nofeed confl) 31 31 = d.toNat := by
  unfold fld
  rw [toNat_sampledWord, bits_setBit_other (by decide), bits_setBit_other (by decide), bits_setBit_other (by decide), bits_setBit_same]

theorem almFilter_shows (n : Nat) : (s.almFilter n).1.flag (ALM_PST.COND n) = (s.almSample n).1.1
    ∧ RegsKeptBut [ALM_PST n] s (s.almFilter n).1
    ∧ (s.almFilter n).1.flag (ALM_PST.DEL n) = if s.delayFlips n then (s.almSample n).1.1 else s.flag (ALM_PST.DEL n) := by
  obtain ⟨hkept, k, nofeed, confl, hword⟩ := almFilter_frame (s := s) (n := n)
  have hflag : ∀ b : Bool, (b.toNat != 0) = b := by decide
  refine ⟨?_, hkept, ?_⟩
  · unfold State.flag State.get
    rw [hword, fld_sampledWord_cond, hflag]
  · rw [State.flag, State.get, hword, fld_sampledWord_del, hflag]

/-- The transitions give a point in use the state of the overlay that stands highest, or else that of its row. -/
theorem almTrans_states {n : Nat} (hn : n < 1024) (h : s.almState n ≠ 7) (l : List Nat) :
    ((s.almOf n).oos = true → (s.almTrans l n).almState n = 6)
    ∧ ((s.almOf n).oos = false → (s.almOf n).shelved = true → (s.almTrans l n).almState n = 4)
    ∧ ((s.almOf n).oos = false → (s.almOf n).shelved = false → s.flag (ALM_PST.BLK n) = true → (s.almTrans l n).almState n = 5)
    ∧ (s.noOverlay n → s.floodHolds n = false → (s.almTrans l n).almState n = s.baseNext n) := by
  rw [State.almState_almTrans hn h]
  exact ⟨State.stateNext_oos, State.stateNext_shelved, State.stateNext_blocked, fun hov hfl => State.stateNext_free hov (.inl hfl)⟩

end

/-- Settles O39. The beat's filter writes one register; the transitions give a point the state of its highest overlay, or that of its
row; an expiry is the next beat where one sample is left of the delay. -/
theorem alarmDelaysFilterTheCondition : Obligations.AlarmDelaysFilterTheCondition := by
  unfold Obligations.AlarmDelaysFilterTheCondition
  intro s n hup
  refine ⟨isBeatIf_of_exec hup (exec_alarmOnDelayExpiry hup n), isBeatIf_of_exec hup (exec_alarmOffDelayExpiry hup n), ?_,
    fun h l => ?_⟩
  · have hshow := almFilter_shows (s := s) n.val
    rw [State.delayFlips_eq] at hshow
    exact hshow
  · obtain ⟨hoos, hshelved, hblocked, hfree⟩ := almTrans_states n.isLt h l
    refine ⟨hoos, hshelved, hblocked, fun hov hfl => ?_⟩
    rw [hfree hov hfl]
    exact ⟨State.baseNext_normal, State.baseNext_unacked, State.baseNext_acked⟩

/-! ## The alarm engine's commands (R213 to R222, R232) -/

section
variable {s t u z : State} {f : Fld} {a g m n v k st res op arg : Nat} {w : Word} {x d keyed : Bool} {l : List Nat} {c : EngCmd} {i : Instr}
  {y : AlmS}

/-! ### The registers in which the engine shows its work -/

theorem mem_alarmRegs_point (hn : n < 1024) (ha : a ∈ [ALM_PST n, ALM_PT_W0 n, ALM_PT_W1 n]) : a ∈ alarmRegs :=
  List.mem_append_right _ (List.mem_flatMap.mpr ⟨n, List.mem_range.mpr hn, ha⟩)

theorem mem_alarmRegs_group (hg : g < 64) : ALM_GST g ∈ alarmRegs :=
  List.mem_append_left _ (List.mem_append_right _ (List.mem_map.mpr ⟨g, List.mem_range.mpr hg, rfl⟩))

theorem mem_alarmRegs_shared (ha : a ∈ [ALM_CRES, HST_ISRC, ONX_LOST, LEG_STAT]) : a ∈ alarmRegs :=
  List.mem_append_left _ (List.mem_append_left _ ha)

/-- The engine has worked: of the registers only its own are written, and of these not the result of a command. -/
structure AlarmWork (s t : State) : Prop where
  regs : ∀ a, a ∉ alarmRegs ∨ a = ALM_CRES → t.reg a = s.reg a
  cmdNo : t.alm.cmdNo = s.alm.cmdNo
  mem : t.mem = s.mem

theorem AlarmWork.refl : AlarmWork s s := ⟨fun _ _ => rfl, rfl, rfl⟩

theorem AlarmWork.trans (h : AlarmWork s t) (h' : AlarmWork t u) : AlarmWork s u :=
  ⟨fun a ha => (h'.regs a ha).trans (h.regs a ha), h'.cmdNo.trans h.cmdNo, h'.mem.trans h.mem⟩

theorem AlarmWork.foldl {p : State → Nat → State} (hp : ∀ z, ∀ n ∈ l, AlarmWork z (p z n)) : AlarmWork s (l.foldl p s) :=
  List.foldlRecOn l p .refl fun z hz n hn => hz.trans (hp z n hn)

theorem not_mem_changeRegs (hn : n < 1024) (ha : a ∉ alarmRegs ∨ a = ALM_CRES) : a ∉ changeRegs n := by
  rcases ha with ha | ha
  · refine fun hmem => ha ?_
    rcases List.mem_append.mp (show a ∈ [ALM_PST n, ALM_PT_W0 n, ALM_PT_W1 n] ++ [HST_ISRC, ONX_LOST, LEG_STAT] from hmem) with h | h
    · exact mem_alarmRegs_point hn h
    · exact mem_alarmRegs_shared (List.mem_cons_of_mem _ h)
  · simp only [ha, changeRegs, ALM_CRES, ALM_PST, ALM_PT_W0, ALM_PT_W1, HST_ISRC, ONX_LOST, LEG_STAT, List.mem_cons, List.not_mem_nil,
      or_false]
    omega

theorem ne_gst (hg : g < 64) (ha : a ∉ alarmRegs ∨ a = ALM_CRES) : a ≠ ALM_GST g := by
  rcases ha with ha | ha
  · exact fun e => ha (e ▸ mem_alarmRegs_group hg)
  · simp only [ha, ALM_CRES, ALM_GST]
    omega

theorem alarmWork_almTrans (hn : n < 1024) : AlarmWork s (s.almTrans l n) where
  regs a ha := reg_almTrans hn (not_mem_changeRegs hn ha) fun e => absurd e (ne_gst Entry.group_lt ha)
  cmdNo := by
    by_cases h : s.almState n = 7
    · rw [State.almTrans_unused h]
    · exact (pointWork_almTrans hn h).cmdNo.trans State.cmdNo_noteHeld
  mem := State.mem_almTrans hn

theorem PointWork.alarmWork (h : PointWork l n s t) (hn : n < 1024) : AlarmWork s t :=
  ⟨fun a ha => h.regs a (not_mem_changeRegs hn ha) fun e => absurd e (ne_gst Entry.group_lt ha), h.cmdNo, h.mem⟩

theorem AlarmWork.put (h : AlarmWork s t) (hf : f.addr ∈ alarmRegs) (hne : f.addr ≠ ALM_CRES) : AlarmWork s (t.put f v) where
  regs a ha := by
    refine (State.reg_put_other fun e => ?_).trans (h.regs a ha)
    subst e
    exact ha.elim (fun ha => ha hf) hne
  cmdNo := (congrArg AlmEng.cmdNo State.alm_put).trans h.cmdNo
  mem := State.mem_put.trans h.mem

/-! ### Points in use -/

theorem State.mem_almPoints : n ∈ s.almPoints ↔ n ∈ s.alm.pts.map (·.1) ∧ n < 1024 ∧ s.almState n ≠ 7 := by
  simp [State.almPoints, List.mem_filter]

theorem lt_of_mem_almPoints (h : n ∈ s.almPoints) : n < 1024 := (State.mem_almPoints.mp h).2.1

theorem lt_of_mem_groupPoints (h : n ∈ s.groupPoints g) : n < 1024 := lt_of_mem_almPoints (List.mem_of_mem_filter h)

/-- The indices of a sparse table after an entry is set. -/
theorem Tbl.mem_keys_set {α : Type} {q : Tbl α} {j : Nat} {e : α} :
    n ∈ (Tbl.set q j e).map (·.1) ↔ n = j ∨ n ∈ q.map (·.1) := by
  induction q with
  | nil => simp [Tbl.set]
  | cons p r ih =>
    obtain ⟨b, e'⟩ := p
    unfold Tbl.set
    split_ifs with hlt heq
    · simp
    · simp [heq]
    · simp only [List.map_cons, List.mem_cons, ih]
      tauto

/-! ### The transitions of every point -/

theorem alarmWork_almTransAll : AlarmWork s (s.almTransAll l) :=
  AlarmWork.foldl fun _ _ hn => alarmWork_almTrans (lt_of_mem_almPoints hn)

/-- What a point's own transitions keep of it, the transitions of every point keep. -/
theorem almTransAll_keeps {Q : State → Prop} (hn : n < 1024) (hQ : ∀ {z z'}, SamePoint n z z' → Q z → Q z')
    (hown : ∀ z, Q z → Q (z.almTrans l n)) (hs : Q s) : Q (s.almTransAll l) :=
  foldl_keeps_point (fun _ _ hm hne => samePoint_almTrans hn (lt_of_mem_almPoints hm) hne) hQ hown hs

/-- A point stands in a state without overlay, its D as given. -/
def State.rests (s : State) (n st : Nat) (d : Bool) : Prop := s.almState n = st ∧ s.noOverlay n ∧ s.flag (ALM_PST.DEL n) = d

theorem SamePoint.rests (h : SamePoint n s t) (hs : s.rests n st d) : t.rests n st d := by
  obtain ⟨hst, hov, hd⟩ := hs
  exact ⟨h.state.trans hst, h.noOverlay hov, (h.flag rfl).trans hd⟩

theorem flag_almTrans (hn : n < 1024) (hf : f ∈ [ALM_PST.DEL n, ALM_PST.BLK n, ALM_PST.SHLEFT n]) : (s.almTrans l n).flag f = s.flag f :=
  congrArg (· != 0) (get_almTrans hn hf)

/-- An acknowledged point whose D is 1, and a normal one whose D is 0, stay. -/
theorem rests_almTrans (hn : n < 1024) (h : st = 2 ∧ d = true ∨ st = 0 ∧ d = false) (hs : s.rests n st d) :
    (s.almTrans l n).rests n st d := by
  obtain ⟨hst, hov, hd⟩ := hs
  have hused : s.almState n ≠ 7 := by rcases h with ⟨rfl, -⟩ | ⟨rfl, -⟩ <;> omega
  have hquiet : s.floodHolds n = false ∨ s.fromNormal n = false ∨ s.flag (ALM_PST.DEL n) = false := by
    rcases h with ⟨rfl, -⟩ | ⟨-, rfl⟩
    · exact .inr (.inl (State.fromNormal_annunciating (.inr (.inl hst))))
    · exact .inr (.inr hd)
  refine ⟨?_, ?_, (flag_almTrans hn (by simp)).trans hd⟩
  · rw [State.almState_almTrans hn hused, State.stateNext_free hov hquiet]
    rcases h with ⟨rfl, rfl⟩ | ⟨rfl, rfl⟩
    · rw [State.baseNext_acked hst, hd]
      rfl
    · rw [State.baseNext_normal (.inl hst), hd]
      rfl
  · have hheld := State.heldNext_free hov hquiet
    obtain ⟨ho, hsh, -, hb⟩ := hov
    unfold State.noOverlay
    rw [State.almOf_almTrans hn hused, flag_almTrans hn (by simp)]
    exact ⟨ho, hsh, hheld, hb⟩

/-! ### A command of the host, given now (R215, R232, R233) -/

/-- The host has given one command more. -/
def State.numbered (s : State) : State := { s with alm := { s.alm with cmdNo := s.alm.cmdNo + 1 } }

/-- The command is the host's latest, and a record tells the partner of it. -/
def State.hostTaken (s : State) (w : Word) (keyed : Bool) : State := s.numbered.record ⟨9, 0, keyed.toNat <<< 22, [w]⟩

/-- The command as the engine applies it. -/
def State.hostCmd (s : State) (w : Word) (keyed : Bool) : EngCmd := ⟨w, keyed, 0, s.alm.cmdNo + 1, 0, 0⟩

/-- Groups in which a command applied with a result has reset the first-out. -/
def resetGroups (w : Word) (res : Nat) : List Nat := if fld w 35 32 == 5 && res == 0 then [fld w 5 0] else []

theorem State.regs_hostTaken : (s.hostTaken w keyed).regs = s.regs := by unfold State.hostTaken; rw [State.regs_record]; rfl

theorem State.reg_hostTaken : (s.hostTaken w keyed).reg a = s.reg a := by simp only [State.reg, State.regs_hostTaken]

theorem State.flag_hostTaken : (s.hostTaken w keyed).flag f = s.flag f := flag_of_reg_eq State.reg_hostTaken

theorem State.mem_hostTaken : (s.hostTaken w keyed).mem = s.mem := by unfold State.hostTaken; rw [State.mem_record]; rfl

theorem State.alm_record {r : JRec} : (s.record r).alm = s.alm := by unfold State.record; split <;> rfl

theorem State.alm_hostTaken : (s.hostTaken w keyed).alm = { s.alm with cmdNo := s.alm.cmdNo + 1 } := by
  unfold State.hostTaken
  rw [State.alm_record]
  rfl

theorem samePoint_hostTaken : SamePoint n s (s.hostTaken w keyed) :=
  ⟨State.reg_hostTaken, almOf_of_pts_eq (by rw [State.alm_hostTaken])⟩

theorem State.almPoints_hostTaken : (s.hostTaken w keyed).almPoints = s.almPoints := by
  simp only [State.almPoints, State.alm_hostTaken, samePoint_hostTaken.state]

theorem State.groupPoints_hostTaken : (s.hostTaken w keyed).groupPoints g = s.groupPoints g := by
  simp only [State.groupPoints, State.almPoints_hostTaken, samePoint_hostTaken.ent]

/-- A command of the host is recorded, applied and reported. -/
theorem State.almCommand_host (hvia : c.via = 0) (happly : (s.record ⟨9, 0, c.keyed.toNat <<< 22, [c.w]⟩).almApply c = (u, res, k)) :
    s.almCommand c = (u.almCres c res k, resetGroups c.w res) := by
  have hwords : s.almWords c = [c.w] := if_neg (by simp [hvia])
  have hreport : ∀ z : State, z.almReport c res k = z.almCres c res k := fun z => by
    simp only [State.almReport, hvia]
  unfold State.almCommand
  dsimp only
  rw [hwords, List.foldl_cons, List.foldl_nil, happly, hreport]
  rfl

/-- A command not in the queue is applied at once; transitions follow. -/
theorem almNow_host (hc : s.commands) (hq : NotQueued s.alm.cmds w keyed)
    (happly : (s.hostTaken w keyed).almApply (s.hostCmd w keyed) = (u, res, k)) :
    s.almNow w keyed = (u.almCres (s.hostCmd w keyed) res k).almTransAll (resetGroups w res) := by
  obtain ⟨-, hruns, hrep⟩ := hc
  have hnone : s.alm.cmds.find? (fun c => c.w == w && c.keyed == keyed) = none :=
    List.find?_eq_none.mpr fun c hmem => by simpa using hq c hmem
  have hnow : s.almNow w keyed
      = (s.numbered.almCommand (s.hostCmd w keyed)).1.almTransAll (s.numbered.almCommand (s.hostCmd w keyed)).2 := by
    unfold State.almNow
    rw [hnone]
    exact if_neg (by simp [hruns, hrep])
  have hcmd : s.numbered.almCommand (s.hostCmd w keyed) = (u.almCres (s.hostCmd w keyed) res k, resetGroups w res) :=
    State.almCommand_host rfl happly
  rw [hnow, hcmd]

/-- ALM_CRES as a command's result leaves it. -/
def State.cresShown (s : State) (res changed : Nat) : State :=
  ((s.put ALM_CRES.RESULT res).put ALM_CRES.CHANGED changed).putB ALM_CRES.PEND false

/-- LEG_STAT shows whether a command of QCMD was refused. -/
def State.qcmdShown (s : State) (legacy err : Bool) : State :=
  if legacy || s.leg.viaQ then ({ s with leg := { s.leg with viaQ := false } } : State).putBit LEG_STAT.QSTAT 9 err else s

theorem State.reg_qcmdShown (h : a ≠ LEG_STAT) : (s.qcmdShown x d).reg a = s.reg a := by
  unfold State.qcmdShown
  rw [State.reg_ite, State.reg_putBit_other h, State.reg_with, ite_self]

theorem State.alm_qcmdShown : (s.qcmdShown x d).alm = s.alm := by
  unfold State.qcmdShown
  split
  · exact State.alm_putBit
  · rfl

theorem State.mem_qcmdShown : (s.qcmdShown x d).mem = s.mem := by
  unfold State.qcmdShown
  split
  · exact State.mem_putBit
  · rfl

theorem State.almCres_latest (h : c.rqid = s.alm.cmdNo) :
    s.almCres c res k = (s.cresShown res k).qcmdShown (c.via == 4) (res != 0 && res != 1) := by
  unfold State.almCres State.qcmdShown State.cresShown
  simp only [h, bne_self_eq_false, Bool.false_eq_true, if_false]

theorem State.reg_almCres (h : c.rqid = s.alm.cmdNo) (hl : a ≠ LEG_STAT) : (s.almCres c res k).reg a = (s.cresShown res k).reg a := by
  rw [State.almCres_latest h, State.reg_qcmdShown hl]

theorem State.alm_cresShown : (s.cresShown res k).alm = s.alm := by
  unfold State.cresShown
  rw [State.alm_putB, State.alm_put, State.alm_put]

theorem State.alm_almCres (h : c.rqid = s.alm.cmdNo) : (s.almCres c res k).alm = s.alm := by
  rw [State.almCres_latest h, State.alm_qcmdShown, State.alm_cresShown]

theorem State.mem_almCres (h : c.rqid = s.alm.cmdNo) : (s.almCres c res k).mem = s.mem := by
  rw [State.almCres_latest h, State.mem_qcmdShown]
  unfold State.cresShown
  rw [State.mem_putB, State.mem_put, State.mem_put]

theorem State.reg_cresShown (h : a ≠ ALM_CRES) : (s.cresShown res k).reg a = s.reg a := by
  unfold State.cresShown
  rw [State.reg_putB_other h, State.reg_put_other h, State.reg_put_other h]

theorem samePoint_almCres (h : c.rqid = s.alm.cmdNo) (hn : n < 1024) : SamePoint n s (s.almCres c res k) where
  reg := by
    have hne : ALM_PST n ≠ ALM_CRES := by simp only [ALM_PST, ALM_CRES]; omega
    rw [State.reg_almCres h (pst_ne_legStat hn), State.reg_cresShown hne]
  alm := almOf_of_pts_eq (by rw [State.alm_almCres h])

theorem cresShown_fields (hres : res < 16) : (s.cresShown res k).get ALM_CRES.RESULT = res
    ∧ (s.cresShown res k).get ALM_CRES.CHANGED = k % 2048
    ∧ (s.cresShown res k).flag ALM_CRES.PEND = false := by
  unfold State.cresShown
  refine ⟨?_, ?_, State.flag_putB_same (by decide)⟩
  · rw [State.get_putB_other (by decide) (by decide), State.get_put_other (by decide) (by decide), State.get_put_same (by decide)]
    exact Nat.mod_eq_of_lt hres
  · rw [State.get_putB_other (by decide) (by decide), State.get_put_same (by decide)]
    rfl

/-- A command has ended with a result and a count of points changed; nothing but the engine's own registers is written. -/
structure CommandEnds (res k : Nat) (s t : State) : Prop where
  result : t.get ALM_CRES.RESULT = res
  changed : t.get ALM_CRES.CHANGED = k % 2048
  pend : t.flag ALM_CRES.PEND = false
  regs : RegsKeptBut alarmRegs s t
  mem : MemKept s t

/-- The state in which a command of the host ends, from the one its application leaves. -/
def State.hostEnds (s u : State) (w : Word) (keyed : Bool) (res k : Nat) : State :=
  (u.almCres (s.hostCmd w keyed) res k).almTransAll (resetGroups w res)

theorem AlarmWork.cmdNo_host (h : AlarmWork (s.hostTaken w keyed) u) : (s.hostCmd w keyed).rqid = u.alm.cmdNo := by
  rw [h.cmdNo, State.alm_hostTaken]
  rfl

theorem commandEnds_hostEnds (hwork : AlarmWork (s.hostTaken w keyed) u) (hres : res < 16) :
    CommandEnds res k s (settle (s.hostEnds u w keyed res k)) := by
  have hno := hwork.cmdNo_host
  have hwork' : AlarmWork (u.almCres (s.hostCmd w keyed) res k) (s.hostEnds u w keyed res k) := alarmWork_almTransAll
  have hcres : (s.hostEnds u w keyed res k).reg ALM_CRES = (u.cresShown res k).reg ALM_CRES :=
    (hwork'.regs _ (.inr rfl)).trans (State.reg_almCres hno (by decide))
  obtain ⟨hresult, hchanged, hpend⟩ := cresShown_fields (s := u) (k := k) hres
  refine ⟨?_, ?_, ?_, fun a ha => ?_, memKept_of_mem_eq ?_⟩
  · exact State.get_settle.trans ((get_of_reg_eq hcres).trans hresult)
  · exact State.get_settle.trans ((get_of_reg_eq hcres).trans hchanged)
  · exact State.flag_settle.trans ((flag_of_reg_eq hcres).trans hpend)
  · have hc : a ≠ ALM_CRES := fun e => ha (e ▸ mem_alarmRegs_shared (by simp))
    have hl : a ≠ LEG_STAT := fun e => ha (e ▸ mem_alarmRegs_shared (by simp))
    rw [State.reg_settle, hwork'.regs a (.inl ha), State.reg_almCres hno hl, State.reg_cresShown hc, hwork.regs a (.inl ha),
      State.reg_hostTaken]
  · rw [State.mem_settle, hwork'.mem, State.mem_almCres hno, hwork.mem, State.mem_hostTaken]

/-- A command of the host is applied, its result reported, and transitions follow. -/
theorem exec_host (hc : s.commands) (hrun : exec i s = act s (fun z => z.almNow w keyed)) (hq : NotQueued s.alm.cmds w keyed)
    (happly : (s.hostTaken w keyed).almApply (s.hostCmd w keyed) = (u, res, k)) :
    exec i s = .next (settle (s.hostEnds u w keyed res k)) := by
  rw [hrun, act_up hc.1, almNow_host hc hq happly]
  rfl

/-- What the application of a command establishes of a point, and the point's own transitions keep, holds when the command has ended. -/
theorem hostEnds_point {Q : State → Prop} (hwork : AlarmWork (s.hostTaken w keyed) u) (hn : n < 1024)
    (hQ : ∀ {z z'}, SamePoint n z z' → Q z → Q z') (hown : ∀ z, Q z → Q (z.almTrans (resetGroups w res) n)) (hu : Q u) :
    Q (settle (s.hostEnds u w keyed res k)) :=
  hQ samePoint_settle (almTransAll_keeps hn hQ hown (hQ (samePoint_almCres hwork.cmdNo_host hn) hu))

theorem rests_hostEnds (hwork : AlarmWork (s.hostTaken w keyed) u) (hn : n < 1024) (h : st = 2 ∧ d = true ∨ st = 0 ∧ d = false)
    (hu : u.rests n st d) : (settle (s.hostEnds u w keyed res k)).rests n st d :=
  hostEnds_point hwork hn SamePoint.rests (fun _ => rests_almTrans hn h) hu

/-! ### The fields of a command's word (R215) -/

theorem fld_almWord (hop : op < 16) (harg : arg < 65536) (hk : k < 65536) : fld (almWord op arg k) 35 32 = op
    ∧ fld (almWord op arg k) 31 16 = arg ∧ fld (almWord op arg k) 9 0 = k % 1024 ∧ fld (almWord op arg k) 5 0 = k % 64 := by
  have hw : (almWord op arg k).toNat = op * 2 ^ 32 + arg * 2 ^ 16 + k := by
    unfold almWord
    rw [BitVec.toNat_ofNat, Nat.shiftLeft_eq, Nat.shiftLeft_eq]
    exact Nat.mod_eq_of_lt (by omega)
  unfold fld
  simp only [bits_eq, hw]
  norm_num
  omega

end

/-! ## Acknowledgement and first-out reset (R216, R222) -/

section
variable {s t u z : State} {f : Fld} {a g m n v k st res op arg : Nat} {w : Word} {x d keyed : Bool} {l : List Nat} {c : EngCmd} {i : Instr}
  {y : AlmS} {p : State × Nat}

/-! ### What each operation does -/

theorem State.almApply_ackPoint (hop : fld c.w 35 32 = 1) (hn : fld c.w 9 0 = n) : s.almApply c
    = if s.almState n = 7 then (s, 3, 0) else ((s.ack n).1, if (s.ack n).2.toNat == 0 then 1 else 0, (s.ack n).2.toNat) := by
  subst hn
  unfold State.almApply
  simp only [hop, counted, Bool.not_eq_true', bne_eq_false_iff_eq]

theorem State.almApply_ackGroup (hop : fld c.w 35 32 = 2) (hg : fld c.w 5 0 = g) : s.almApply c
    = ((s.ackAll (s.groupPoints g)).1, if (s.ackAll (s.groupPoints g)).2 == 0 then 1 else 0, (s.ackAll (s.groupPoints g)).2) := by
  subst hg
  unfold State.almApply
  simp only [hop, counted]

theorem State.almApply_ackAll (hop : fld c.w 35 32 = 8) (hvia : c.via = 0) : s.almApply c
    = ((s.ackAll s.almPoints).1, if (s.ackAll s.almPoints).2 == 0 then 1 else 0, (s.ackAll s.almPoints).2) := by
  unfold State.almApply
  simp [hop, counted, hvia]

theorem State.almApply_firstOut (hop : fld c.w 35 32 = 5) (hg : fld c.w 5 0 = g) : s.almApply c
    = if (s.groupPoints g).any s.unacked then (s, 6, 0) else if s.flag (ALM_GST.FOVALID g) then (s.foClear g, 0, 1) else (s, 1, 0) := by
  subst hg
  unfold State.almApply
  simp only [hop]

/-! ### Acknowledging points -/

theorem State.ackable_iff : s.ackable n = true ↔ (s.almState n = 1 ∨ s.almState n = 3) ∧ (s.almEnt n).pri ≠ 0 := by
  simp [State.ackable, State.unacked]

theorem State.ack_active (h : s.almState n = 1) (hp : (s.almEnt n).pri ≠ 0) : s.ack n = (s.almSet n 2, true) := by
  simp [State.ack, h, hp]

theorem State.ack_returned (h : s.almState n = 3) (hp : (s.almEnt n).pri ≠ 0) : s.ack n = (s.almSet n 0, true) := by
  simp [State.ack, h, hp]

theorem State.ack_ackable (h : s.ackable n = true) : ∃ st, s.ack n = (s.almSet n st, true) := by
  obtain ⟨h1 | h3, hp⟩ := State.ackable_iff.mp h
  · exact ⟨2, State.ack_active h1 hp⟩
  · exact ⟨0, State.ack_returned h3 hp⟩

theorem State.ack_idle (h : s.ackable n = false) : s.ack n = (s, false) := by
  have hnot : ¬((s.almState n = 1 ∨ s.almState n = 3) ∧ (s.almEnt n).pri ≠ 0) := fun hc => by simp [State.ackable_iff.mpr hc] at h
  unfold State.ack
  by_cases hp : (s.almEnt n).pri = 0
  · simp [hp]
  · rw [if_neg (by simpa using hp)]
    split
    · next h1 => exact absurd ⟨.inl h1, hp⟩ hnot
    · next h3 => exact absurd ⟨.inr h3, hp⟩ hnot
    · rfl

theorem State.ack_snd : (s.ack n).2 = s.ackable n := by
  by_cases h : s.ackable n = true
  · obtain ⟨st, hack⟩ := State.ack_ackable h
    rw [hack, h]
  · rw [State.ack_idle (Bool.eq_false_of_not_eq_true h), Bool.eq_false_of_not_eq_true h]

/-- An acknowledgement is work on the point's registers. -/
theorem pointWork_ack (hn : n < 1024) : PointWork l n s (s.ack n).1 := by
  by_cases h : s.ackable n = true
  · obtain ⟨st, hack⟩ := State.ack_ackable h
    rw [hack]
    exact pointWork_almSet hn
  · rw [State.ack_idle (Bool.eq_false_of_not_eq_true h)]
    exact .refl

theorem PointWork.samePoint (h : PointWork l m s t) (hn : n < 1024) (hm : m < 1024) (hmn : m ≠ n) : SamePoint n s t :=
  ⟨h.regs _ (pst_not_mem_changeRegs hn hmn hm) fun e => absurd e (pst_ne_gst Entry.group_lt), almOf_of_pts_eq h.pts⟩

theorem samePoint_ack (hn : n < 1024) (hm : m < 1024) (hmn : m ≠ n) : SamePoint n s (s.ack m).1 :=
  (pointWork_ack (l := []) hm).samePoint hn hm hmn

/-- A point without overlay rests in the state it is given. -/
theorem rests_almSet (hn : n < 1024) (hst : st < 8) (hov : s.noOverlay n) (hd : s.flag (ALM_PST.DEL n) = d) :
    (s.almSet n st).rests n st d := by
  have hwork : PointWork [] n s (s.almSet n st) := pointWork_almSet hn
  have hflag : ∀ f ∈ [ALM_PST.DEL n, ALM_PST.BLK n, ALM_PST.SHLEFT n], (s.almSet n st).flag f = s.flag f := fun f hf =>
    congrArg (· != 0) (hwork.fields f hf)
  refine ⟨State.almState_almSet hn hst, ?_, (hflag _ (by simp)).trans hd⟩
  unfold State.noOverlay
  rw [almOf_of_pts_eq hwork.pts, hflag _ (by simp)]
  exact hov

/-- An active point whose D holds comes to rest as acknowledged. -/
theorem rests_ack_active (hn : n < 1024) (hp : (s.almEnt n).pri ≠ 0) (hst : s.almState n = 1) (hov : s.noOverlay n)
    (hd : s.flag (ALM_PST.DEL n) = true) : (s.ack n).1.rests n 2 true := by
  rw [State.ack_active hst hp]
  exact rests_almSet hn (by decide) hov hd

/-- A returned point whose D has ended comes to rest as normal. -/
theorem rests_ack_returned (hn : n < 1024) (hp : (s.almEnt n).pri ≠ 0) (hst : s.almState n = 3) (hov : s.noOverlay n)
    (hd : s.flag (ALM_PST.DEL n) = false) : (s.ack n).1.rests n 0 false := by
  rw [State.ack_returned hst hp]
  exact rests_almSet hn (by decide) hov hd

/-- An acknowledged point is not acknowledged again. -/
theorem rests_ack_acked (h : s.rests n 2 d) : (s.ack n).1.rests n 2 d := by
  have hidle : s.ackable n = false := by simp [State.ackable, State.unacked, h.1]
  rw [State.ack_idle hidle]
  exact h

/-! ### Acknowledging a list of points -/

/-- One point of a list is acknowledged, and counted where it changes. -/
def ackStep (p : State × Nat) (n : Nat) : State × Nat := ((p.1.ack n).1, p.2 + (p.1.ack n).2.toNat)

theorem foldl_ackStep_fst : (l.foldl ackStep p).1 = l.foldl (fun z n => (z.ack n).1) p.1 := by
  induction l generalizing p with
  | nil => rfl
  | cons n l ih => exact ih

/-- The count stays 0 just where no point of the list can be acknowledged. -/
theorem foldl_ackStep_snd : (l.foldl ackStep p).2 = 0 ↔ p.2 = 0 ∧ l.any p.1.ackable = false := by
  induction l generalizing p with
  | nil => simp
  | cons n l ih =>
    rw [List.foldl_cons, ih]
    unfold ackStep
    by_cases h : p.1.ackable n = true
    · simp [State.ack_snd, h]
    · have hno := Bool.eq_false_of_not_eq_true h
      simp [State.ack_idle hno, hno]

theorem State.ackAll_fst : (s.ackAll l).1 = l.foldl (fun z n => (z.ack n).1) s := foldl_ackStep_fst

theorem State.ackAll_result : (if (s.ackAll l).2 == 0 then 1 else 0) = if l.any s.ackable then 0 else 1 := by
  have hzero : (s.ackAll l).2 = 0 ↔ l.any s.ackable = false := foldl_ackStep_snd.trans (by simp)
  by_cases h : l.any s.ackable = true
  · have hne : (s.ackAll l).2 ≠ 0 := fun e => by simp [hzero.mp e] at h
    rw [if_neg (by simpa using hne), if_pos h]
  · rw [if_pos (beq_iff_eq.mpr (hzero.mpr (Bool.eq_false_of_not_eq_true h))), if_neg h]

theorem alarmWork_ackAll (hl : ∀ n ∈ l, n < 1024) : AlarmWork s (s.ackAll l).1 := by
  rw [State.ackAll_fst]
  exact AlarmWork.foldl fun _ n hn => (pointWork_ack (l := []) (hl n hn)).alarmWork (hl n hn)

/-- Every active point of the list whose D holds comes to rest as acknowledged. -/
theorem rests_ackAll (hl : ∀ n ∈ l, n < 1024) (hn : n ∈ l) (hp : (s.almEnt n).pri ≠ 0) (hst : s.almState n = 1)
    (hov : s.noOverlay n) (hd : s.flag (ALM_PST.DEL n) = true) : (s.ackAll l).1.rests n 2 true := by
  rw [State.ackAll_fst]
  refine foldl_reaches_point hn (fun z m hm hne => samePoint_ack (hl n hn) (hl m hm) hne) SamePoint.rests (fun z hz => ?_)
    fun _ => rests_ack_acked
  exact rests_ack_active (hl n hn) (by rw [hz.ent]; exact hp) (hz.state.trans hst) (hz.noOverlay hov) ((hz.flag rfl).trans hd)

/-! ### First-out reset -/

theorem alarmWork_trigWork {cls sub src : Nat} {ev0 ev1 : Word} : AlarmWork s (s.trigWork cls sub src ev0 ev1) where
  regs a ha := State.reg_trigWork fun e => by
    subst e
    exact ha.elim (fun ha => ha (mem_alarmRegs_shared (by simp))) (by decide)
  cmdNo := by simp only [State.trigWork, State.alm_trigger]
  mem := State.mem_trigWork

theorem alarmWork_foClear (hg : g < 64) : AlarmWork s (s.foClear g) := by
  have hpt : s.get (ALM_GST.FOPT g) < 1024 := State.get_lt
  have hpst : ALM_PST (s.get (ALM_GST.FOPT g)) ≠ ALM_CRES := by simp only [ALM_PST, ALM_CRES]; omega
  have hgst : ∀ {z : State} {f : Fld} {v : Nat}, f.addr = ALM_GST g → AlarmWork s z → AlarmWork s (z.put f v) := fun hf hz =>
    hz.put (by rw [hf]; exact mem_alarmRegs_group hg) (by rw [hf]; exact (ne_gst hg (.inr rfl)).symm)
  unfold State.foClear
  dsimp only
  split
  · have hfo := AlarmWork.refl.put (s := s) (f := ALM_PST.FO (s.get (ALM_GST.FOPT g))) (v := false.toNat)
      (mem_alarmRegs_point hpt (by simp)) hpst
    have hvalid := hgst (f := ALM_GST.FOVALID g) (v := false.toNat) rfl hfo
    have hfopt := hgst (f := ALM_GST.FOPT g) (v := 0) rfl hvalid
    exact hfopt.trans alarmWork_trigWork
  · exact .refl

theorem gst_ne_onxLost (hg : g < 64) : ALM_GST g ≠ ONX_LOST := by simp only [ALM_GST, ONX_LOST]; omega

theorem State.fovalid_foClear (hg : g < 64) (h : s.flag (ALM_GST.FOVALID g) = true) : (s.foClear g).flag (ALM_GST.FOVALID g) = false := by
  unfold State.foClear State.foTrigger
  dsimp only
  rw [if_pos h, flag_of_reg_eq (State.reg_trigWork (gst_ne_onxLost hg)), State.flag_put_other rfl (by simp [Fld.apart])]
  exact State.flag_putB_same rfl

/-- No transition captures a first-out in a group that `l` names. -/
theorem State.gst_almTransAll (hg : g < 64) (h : g ∈ l) : (s.almTransAll l).reg (ALM_GST g) = s.reg (ALM_GST g) := by
  refine List.foldlRecOn (motive := fun z : State => z.reg (ALM_GST g) = s.reg (ALM_GST g)) _ _ rfl fun z hz m hm => ?_
  have hlt := lt_of_mem_almPoints hm
  refine (reg_almTrans hlt ?_ fun e => ?_).trans hz
  · simp only [changeRegs, ALM_GST, ALM_PST, ALM_PT_W0, ALM_PT_W1, HST_ISRC, ONX_LOST, LEG_STAT, List.mem_cons, List.not_mem_nil, or_false]
    omega
  · have hgroup : g = (z.almEnt m).group := by simpa only [ALM_GST, Nat.add_left_cancel_iff, Nat.mul_right_inj two_ne_zero] using e
    exact hgroup ▸ h

/-! ### The commands -/

/-- An acknowledgement of a point as the engine applies it. -/
theorem apply_ackPoint (hn : n < 1024) : (s.hostTaken (almWord 1 0 n) x).almApply (s.hostCmd (almWord 1 0 n) x)
    = (((s.hostTaken (almWord 1 0 n) x).ack n).1, (if s.almState n = 7 then 3 else if s.ackable n then 0 else 1), (s.ackable n).toNat) := by
  obtain ⟨hop, -, hidx, -⟩ := fld_almWord (op := 1) (arg := 0) (k := n) (by decide) (by decide) (by omega)
  rw [Nat.mod_eq_of_lt hn] at hidx
  rw [State.almApply_ackPoint (c := s.hostCmd (almWord 1 0 n) x) hop hidx, samePoint_hostTaken.state]
  split
  · next h =>
    have hidle : s.ackable n = false := by simp [State.ackable, State.unacked, h]
    rw [State.ack_idle (samePoint_hostTaken.ackable.trans hidle), hidle]
    rfl
  · rw [State.ack_snd, samePoint_hostTaken.ackable]
    cases s.ackable n <;> rfl

theorem completes_ackPoint (hc : s.commands) (n : Fin 1024) (hq : NotQueued s.alm.cmds (almWord 1 0 n) false) :
    Completes (.ackPoint n) s (fun t =>
      t.get ALM_CRES.RESULT = (if s.almState n = 7 then 3 else if s.ackable n then 0 else 1)
      ∧ t.get ALM_CRES.CHANGED = (s.ackable n).toNat ∧ t.flag ALM_CRES.PEND = false
      ∧ ((s.almEnt n).pri ≠ 0 → s.almState n = 1 → s.noOverlay n → s.flag (ALM_PST.DEL n) = true → t.almState n = 2)
      ∧ ((s.almEnt n).pri ≠ 0 → s.almState n = 3 → s.noOverlay n → s.flag (ALM_PST.DEL n) = false → t.almState n = 0)
      ∧ RegsKeptBut alarmRegs s t ∧ MemKept s t) := by
  have hwork : AlarmWork (s.hostTaken (almWord 1 0 n) false) ((s.hostTaken (almWord 1 0 n) false).ack n).1 :=
    (pointWork_ack (l := []) n.isLt).alarmWork n.isLt
  have hsame : SamePoint n s (s.hostTaken (almWord 1 0 n) false) := samePoint_hostTaken
  obtain ⟨hresult, hchanged, hpend, hregs, hmem⟩ := commandEnds_hostEnds (k := (s.ackable n).toNat)
    (res := if s.almState n = 7 then 3 else if s.ackable n then 0 else 1) hwork (by split_ifs <;> decide)
  refine ⟨_, exec_host hc rfl hq (apply_ackPoint n.isLt), hresult, ?_, hpend, fun hp hst hov hd => ?_, fun hp hst hov hd => ?_,
    hregs, hmem⟩
  · exact hchanged.trans (Nat.mod_eq_of_lt (lt_of_lt_of_le (Bool.toNat_lt _) (by decide)))
  · exact (rests_hostEnds hwork n.isLt (.inl ⟨rfl, rfl⟩) (rests_ack_active n.isLt (by rw [hsame.ent]; exact hp) (hsame.state.trans hst)
      (hsame.noOverlay hov) ((hsame.flag rfl).trans hd))).1
  · exact (rests_hostEnds hwork n.isLt (.inr ⟨rfl, rfl⟩) (rests_ack_returned n.isLt (by rw [hsame.ent]; exact hp)
      (hsame.state.trans hst) (hsame.noOverlay hov) ((hsame.flag rfl).trans hd))).1

/-- A command that acknowledges every point of a list. -/
theorem completes_ackList (hc : s.commands) (hrun : exec i s = act s (fun z => z.almNow w keyed)) (hq : NotQueued s.alm.cmds w keyed)
    (hl : ∀ n ∈ l, n < 1024) (happly : (s.hostTaken w keyed).almApply (s.hostCmd w keyed) = (((s.hostTaken w keyed).ackAll l).1,
      (if ((s.hostTaken w keyed).ackAll l).2 == 0 then 1 else 0), ((s.hostTaken w keyed).ackAll l).2)) :
    Completes i s (fun t => t.get ALM_CRES.RESULT = (if l.any s.ackable then 0 else 1) ∧ t.flag ALM_CRES.PEND = false
      ∧ (∀ n ∈ l, (s.almEnt n).pri ≠ 0 → s.almState n = 1 → s.noOverlay n → s.flag (ALM_PST.DEL n) = true → t.almState n = 2)
      ∧ RegsKeptBut alarmRegs s t ∧ MemKept s t) := by
  have hany : l.any (s.hostTaken w keyed).ackable = l.any s.ackable :=
    congrArg l.any (funext fun _ => samePoint_hostTaken.ackable)
  have hwork : AlarmWork (s.hostTaken w keyed) ((s.hostTaken w keyed).ackAll l).1 := alarmWork_ackAll hl
  rw [State.ackAll_result, hany] at happly
  obtain ⟨hresult, -, hpend, hregs, hmem⟩ := commandEnds_hostEnds (res := if l.any s.ackable then 0 else 1)
    (k := ((s.hostTaken w keyed).ackAll l).2) hwork (by split_ifs <;> decide)
  refine ⟨_, exec_host hc hrun hq happly, hresult, hpend, fun n hn hp hst hov hd => ?_, hregs, hmem⟩
  have hsame : SamePoint n s (s.hostTaken w keyed) := samePoint_hostTaken
  exact (rests_hostEnds hwork (hl n hn) (.inl ⟨rfl, rfl⟩) (rests_ackAll hl hn (by rw [hsame.ent]; exact hp) (hsame.state.trans hst)
    (hsame.noOverlay hov) ((hsame.flag rfl).trans hd))).1

theorem apply_ackGroup (hg : g < 64) : (s.hostTaken (almWord 2 0 g) x).almApply (s.hostCmd (almWord 2 0 g) x)
    = (((s.hostTaken (almWord 2 0 g) x).ackAll (s.groupPoints g)).1,
      (if ((s.hostTaken (almWord 2 0 g) x).ackAll (s.groupPoints g)).2 == 0 then 1 else 0),
      ((s.hostTaken (almWord 2 0 g) x).ackAll (s.groupPoints g)).2) := by
  obtain ⟨hop, -, -, hgrp⟩ := fld_almWord (op := 2) (arg := 0) (k := g) (by decide) (by decide) (by omega)
  rw [Nat.mod_eq_of_lt hg] at hgrp
  rw [State.almApply_ackGroup (c := s.hostCmd (almWord 2 0 g) x) hop hgrp, State.groupPoints_hostTaken]

theorem apply_ackAll : (s.hostTaken (almWord 8 0 0) x).almApply (s.hostCmd (almWord 8 0 0) x)
    = (((s.hostTaken (almWord 8 0 0) x).ackAll s.almPoints).1,
      (if ((s.hostTaken (almWord 8 0 0) x).ackAll s.almPoints).2 == 0 then 1 else 0),
      ((s.hostTaken (almWord 8 0 0) x).ackAll s.almPoints).2) := by
  obtain ⟨hop, -⟩ := fld_almWord (op := 8) (arg := 0) (k := 0) (by decide) (by decide) (by decide)
  rw [State.almApply_ackAll (c := s.hostCmd (almWord 8 0 0) x) hop rfl, State.almPoints_hostTaken]

/-- The result of a first-out reset (R222). -/
def State.firstOutResult (s : State) (g : Nat) : Nat :=
  if (s.groupPoints g).any s.unacked then 6 else if s.flag (ALM_GST.FOVALID g) then 0 else 1

theorem State.firstOutResult_lt : s.firstOutResult g < 16 := by
  unfold State.firstOutResult
  split_ifs <;> decide

/-- A first-out reset as the engine applies it. -/
theorem apply_firstOut (hg : g < 64) : ∃ u k, AlarmWork (s.hostTaken (almWord 5 0 g) x) u
    ∧ (s.hostTaken (almWord 5 0 g) x).almApply (s.hostCmd (almWord 5 0 g) x)
      = (u, s.firstOutResult g, k)
    ∧ ((s.groupPoints g).any s.unacked = false → s.flag (ALM_GST.FOVALID g) = true → u.flag (ALM_GST.FOVALID g) = false) := by
  obtain ⟨hop, -, -, hgrp⟩ := fld_almWord (op := 5) (arg := 0) (k := g) (by decide) (by decide) (by omega)
  rw [Nat.mod_eq_of_lt hg] at hgrp
  have hflag : (s.hostTaken (almWord 5 0 g) x).flag (ALM_GST.FOVALID g) = s.flag (ALM_GST.FOVALID g) := State.flag_hostTaken
  have hany : (s.groupPoints g).any (s.hostTaken (almWord 5 0 g) x).unacked = (s.groupPoints g).any s.unacked :=
    congrArg (s.groupPoints g).any (funext fun _ => samePoint_hostTaken.unacked)
  unfold State.firstOutResult
  rw [State.almApply_firstOut (c := s.hostCmd (almWord 5 0 g) x) hop hgrp, State.groupPoints_hostTaken, hany, hflag]
  by_cases hun : (s.groupPoints g).any s.unacked = true
  · rw [if_pos hun, if_pos hun]
    exact ⟨_, _, .refl, rfl, fun h => absurd h (by simp [hun])⟩
  · rw [if_neg hun, if_neg hun]
    by_cases hv : s.flag (ALM_GST.FOVALID g) = true
    · rw [if_pos hv, if_pos hv]
      exact ⟨_, _, alarmWork_foClear hg, rfl, fun _ _ => State.fovalid_foClear hg (hflag.trans hv)⟩
    · rw [if_neg hv, if_neg hv]
      exact ⟨_, _, .refl, rfl, fun _ h => absurd h hv⟩

theorem completes_firstOutReset (hc : s.commands) (g : Fin 64) (hq : NotQueued s.alm.cmds (almWord 5 0 g) false) :
    Completes (.firstOutReset g) s (fun t =>
      t.get ALM_CRES.RESULT = s.firstOutResult g ∧ t.flag ALM_CRES.PEND = false
      ∧ ((s.groupPoints g).any s.unacked = false → s.flag (ALM_GST.FOVALID g) = true → t.flag (ALM_GST.FOVALID g) = false)
      ∧ RegsKeptBut alarmRegs s t ∧ MemKept s t) := by
  obtain ⟨u, k, hwork, happly, hcleared⟩ := apply_firstOut (s := s) (x := false) g.isLt
  obtain ⟨hresult, -, hpend, hregs, hmem⟩ := commandEnds_hostEnds (k := k) hwork State.firstOutResult_lt
  refine ⟨_, exec_host hc rfl hq happly, hresult, hpend, fun hun hv => ?_, hregs, hmem⟩
  have hreset : g.val ∈ resetGroups (almWord 5 0 g) (s.firstOutResult g) := by
    obtain ⟨hop, -, -, hgrp⟩ := fld_almWord (op := 5) (arg := 0) (k := g.val) (by decide) (by decide) (by omega)
    simp [resetGroups, State.firstOutResult, hop, hgrp, hun, hv, Nat.mod_eq_of_lt g.isLt]
  have hgst : (s.hostEnds u (almWord 5 0 g) false (s.firstOutResult g) k).reg (ALM_GST g) = u.reg (ALM_GST g) := by
    unfold State.hostEnds
    have hl : ALM_GST g ≠ LEG_STAT := by simp only [ALM_GST, LEG_STAT]; omega
    rw [State.gst_almTransAll g.isLt hreset, State.reg_almCres hwork.cmdNo_host hl, State.reg_cresShown (ne_gst g.isLt (.inr rfl)).symm]
  exact State.flag_settle.trans ((flag_of_reg_eq hgst).trans (hcleared hun hv))

end

/-- Settles O37. An acknowledged point comes to rest, and no transition moves it; a reset first-out is not captured again in its beat. -/
theorem alarmAcknowledgeAndFirstOut : Obligations.AlarmAcknowledgeAndFirstOut := by
  unfold Obligations.AlarmAcknowledgeAndFirstOut
  intro s hc
  exact ⟨completes_ackPoint hc,
    fun g hq => completes_ackList hc rfl hq (fun _ => lt_of_mem_groupPoints) (apply_ackGroup g.isLt),
    fun hq => completes_ackList hc rfl hq (fun _ => lt_of_mem_almPoints) apply_ackAll,
    completes_firstOutReset hc⟩

/-! ## Shelving and service (R213 to R218) -/

section
variable {s t u z : State} {f : Fld} {a g m n v k st res op arg : Nat} {w : Word} {x d keyed : Bool} {l : List Nat} {c : EngCmd} {i : Instr}
  {y : AlmS}

/-! ### The service of a point -/

/-- A point is in the same service: out of service or not, shelved or not, with the same time left. -/
structure SameService (n : Nat) (s t : State) : Prop where
  oos : (t.almOf n).oos = (s.almOf n).oos
  shelved : (t.almOf n).shelved = (s.almOf n).shelved
  shleft : t.get (ALM_PST.SHLEFT n) = s.get (ALM_PST.SHLEFT n)

theorem SameService.refl : SameService n s s := ⟨rfl, rfl, rfl⟩

theorem SameService.trans (h : SameService n s t) (h' : SameService n t u) : SameService n s u :=
  ⟨h'.oos.trans h.oos, h'.shelved.trans h.shelved, h'.shleft.trans h.shleft⟩

theorem SamePoint.service (h : SamePoint n s t) : SameService n s t := ⟨by rw [h.alm], by rw [h.alm], h.get rfl⟩

/-- Transitions leave the service of a point. -/
theorem sameService_almTrans (hn : n < 1024) : SameService n s (s.almTrans l n) := by
  by_cases h : s.almState n = 7
  · rw [State.almTrans_unused h]
    exact .refl
  · have halm := State.almOf_almTrans (l := l) hn h
    exact ⟨by rw [halm], by rw [halm], get_almTrans hn (by simp)⟩

theorem sameService_hostEnds (hwork : AlarmWork (s.hostTaken w keyed) u) (hn : n < 1024) :
    SameService n u (settle (s.hostEnds u w keyed res k)) :=
  hostEnds_point hwork hn (fun h hs => hs.trans h.service) (fun _ hs => hs.trans (sameService_almTrans hn)) .refl

/-- A point in use whose service gives it a state shows that state when a command has ended. -/
theorem almState_hostEnds (hwork : AlarmWork (s.hostTaken w keyed) u) (hn : n ∈ u.almPoints) (hst : st ≠ 7)
    (hnext : ∀ z, SameService n u z → z.stateNext n = st) : (settle (s.hostEnds u w keyed res k)).almState n = st := by
  have hlt := lt_of_mem_almPoints hn
  have hno := hwork.cmdNo_host
  have hsame : SamePoint n u (u.almCres (s.hostCmd w keyed) res k) := samePoint_almCres hno hlt
  obtain ⟨hkey, -, hused⟩ := State.mem_almPoints.mp hn
  have hmem : n ∈ (u.almCres (s.hostCmd w keyed) res k).almPoints :=
    State.mem_almPoints.mpr ⟨by rw [State.alm_almCres hno]; exact hkey, hlt, by rw [hsame.state]; exact hused⟩
  have hown : ∀ z, SameService n u z → z.almState n ≠ 7 →
      SameService n u (z.almTrans (resetGroups w res) n) ∧ (z.almTrans (resetGroups w res) n).almState n = st := fun z hz h7 =>
    ⟨hz.trans (sameService_almTrans hlt), (State.almState_almTrans hlt h7).trans (hnext z hz)⟩
  have hall : SameService n u (s.hostEnds u w keyed res k) ∧ (s.hostEnds u w keyed res k).almState n = st := by
    refine foldl_reaches_point (Q := fun z => SameService n u z ∧ z.almState n = st) hmem
      (fun z m hm hne => samePoint_almTrans hlt (lt_of_mem_almPoints hm) hne) (fun h hs => ⟨hs.1.trans h.service, h.state.trans hs.2⟩)
      (fun z hz => ?_) fun z hz => hown z hz.1 (by rw [hz.2]; exact hst)
    exact hown z (hsame.service.trans hz.service) (by rw [hz.state, hsame.state]; exact hused)
  exact samePoint_settle.state.trans hall.2

/-! ### Changes of service -/

/-- A command changes what is kept of a point, and its time left. -/
def State.serve (s : State) (n : Nat) (y : AlmS) (v : Nat) : State := (s.setAlm n y).put (ALM_PST.SHLEFT n) v

theorem State.almOf_serve : (s.serve n y v).almOf n = y := by
  unfold State.serve
  rw [almOf_of_pts_eq (congrArg AlmEng.pts State.alm_put)]
  exact State.almOf_setAlm_same

theorem State.shleft_serve (hv : v < 2 ^ 18) : (s.serve n y v).get (ALM_PST.SHLEFT n) = v :=
  (State.get_put_same rfl).trans (Nat.mod_eq_of_lt hv)

theorem State.almState_serve : (s.serve n y v).almState n = s.almState n := State.get_put_other rfl (by simp [Fld.apart])

theorem alarmWork_setAlm : AlarmWork s (s.setAlm n y) := ⟨fun _ _ => State.reg_setAlm, rfl, State.mem_setAlm⟩

theorem alarmWork_serve (hn : n < 1024) : AlarmWork s (s.serve n y v) :=
  alarmWork_setAlm.put (mem_alarmRegs_point hn (by simp)) (by simp only [ALM_CRES]; omega)

theorem State.mem_almPoints_serve (hn : n < 1024) (h : s.almState n ≠ 7) : n ∈ (s.serve n y v).almPoints :=
  State.mem_almPoints.mpr ⟨Tbl.mem_keys_set.mpr (.inl rfl), hn, by rw [State.almState_serve]; exact h⟩

/-! ### What each operation does (R216 to R218) -/

theorem State.almApply_shelve (hop : fld c.w 35 32 = 3) (harg : fld c.w 31 16 = arg) (hn : fld c.w 9 0 = n) (h : s.almState n ≠ 7) :
    s.almApply c = if (s.almEnt n).b 0 14 = false ∨ (s.almEnt n).pri = 1 ∨ (s.almOf n).oos = true then (s, 4, 0)
      else if (s.almEnt n).shmax < arg then (s, 5, 0)
      else (s.serve n { s.almOf n with shelved := true } (60 * orElse arg (s.almEnt n).shmax), 0, 1) := by
  subst harg hn
  unfold State.almApply
  simp [hop, h, State.serve, or_assoc]

theorem State.almApply_unshelve (hop : fld c.w 35 32 = 4) (hn : fld c.w 9 0 = n) (h : s.almState n ≠ 7) :
    s.almApply c = if (s.almOf n).shelved then (s.serve n { s.almOf n with shelved := false } 0, 0, 1) else (s, 1, 0) := by
  subst hn
  unfold State.almApply
  simp [hop, h, State.serve]

theorem State.almApply_outOfService (hop : fld c.w 35 32 = 6) (hn : fld c.w 9 0 = n) (hk : c.keyed = true) (h : s.almState n ≠ 7) :
    s.almApply c = if (s.almOf n).oos then (s, 1, 0) else (s.serve n { s.almOf n with oos := true, shelved := false } 0, 0, 1) := by
  subst hn
  unfold State.almApply
  simp [hop, h, hk, State.serve]

theorem State.almApply_return (hop : fld c.w 35 32 = 7) (hn : fld c.w 9 0 = n) (hk : c.keyed = true) (h : s.almState n ≠ 7) :
    s.almApply c = if (s.almOf n).oos then (s.setAlm n { s.almOf n with oos := false }, 0, 1) else (s, 1, 0) := by
  subst hn
  unfold State.almApply
  simp [hop, h, hk]

/-! ### The commands -/

/-- A command about the service of a point, applied by the host: how it ends, the service it leaves, and the state of that service. -/
theorem completes_service (hc : s.commands) (hrun : exec i s = act s (fun z => z.almNow w keyed)) (hq : NotQueued s.alm.cmds w keyed)
    (hn : n < 1024) (happly : (s.hostTaken w keyed).almApply (s.hostCmd w keyed) = (u, res, k))
    (hwork : AlarmWork (s.hostTaken w keyed) u) (hres : res < 16) :
    Completes i s (fun t => CommandEnds res k s t ∧ SameService n u t
      ∧ ∀ st, st ≠ 7 → n ∈ u.almPoints → (∀ z, SameService n u z → z.stateNext n = st) → t.almState n = st) :=
  ⟨_, exec_host hc hrun hq happly, commandEnds_hostEnds hwork hres, sameService_hostEnds hwork hn,
    fun _ hst hmem hnext => almState_hostEnds hwork hmem hst hnext⟩

theorem fields_almWord (hop : op < 16) (harg : arg < 65536) (hn : n < 1024) :
    fld (almWord op arg n) 35 32 = op ∧ fld (almWord op arg n) 31 16 = arg ∧ fld (almWord op arg n) 9 0 = n := by
  obtain ⟨h1, h2, h3, -⟩ := fld_almWord (k := n) hop harg (by omega)
  exact ⟨h1, h2, h3.trans (Nat.mod_eq_of_lt hn)⟩

theorem Entry.shmax_lt {e : Entry} : e.shmax < 4096 := by
  have hf : e.f 2 11 0 < 4096 := bits_lt
  unfold Entry.shmax orElse
  split <;> omega

/-- The time of a shelving fits SHLEFT (R217). -/
theorem shelfTime_lt {e : Entry} (h : arg ≤ e.shmax) : 60 * orElse arg e.shmax < 2 ^ 18 := by
  have hmax := Entry.shmax_lt (e := e)
  unfold orElse
  split <;> omega

/-- SHELVE ends with a result: accepted, it shelves the point for its time, which a point in use shows; refused, it leaves both. -/
def ShelveEnds (res arg n : Nat) (s t : State) : Prop :=
  t.get ALM_CRES.RESULT = res
  ∧ (t.get ALM_CRES.RESULT = 0 → (t.almOf n).shelved = true
      ∧ t.get (ALM_PST.SHLEFT n) = 60 * orElse arg (s.almEnt n).shmax ∧ (n ∈ s.almPoints → t.almState n = 4))
  ∧ (t.get ALM_CRES.RESULT ≠ 0 → (t.almOf n).shelved = (s.almOf n).shelved ∧ t.get (ALM_PST.SHLEFT n) = s.get (ALM_PST.SHLEFT n))
  ∧ RegsKeptBut alarmRegs s t ∧ MemKept s t

theorem shelve_refused (hc : s.commands) (n : Fin 1024) (m : BitVec 16) (hq : NotQueued s.alm.cmds (almWord 3 m.toNat n) false)
    (happly : (s.hostTaken (almWord 3 m.toNat n) false).almApply (s.hostCmd (almWord 3 m.toNat n) false)
      = (s.hostTaken (almWord 3 m.toNat n) false, res, 0)) (hres : res < 16) (h0 : res ≠ 0) :
    Completes (.shelve n m) s (ShelveEnds res m.toNat n s) := by
  obtain ⟨t, hrun, hends, hserv, -⟩ := completes_service (i := .shelve n m) hc rfl hq n.isLt happly .refl hres
  have hkept := samePoint_hostTaken.service.trans hserv
  exact ⟨t, hrun, hends.result, fun h => absurd (hends.result.symm.trans h) h0, fun _ => ⟨hkept.shelved, hkept.shleft⟩, hends.regs,
    hends.mem⟩

theorem completes_shelve (hc : s.commands) (n : Fin 1024) (m : BitVec 16) (hq : NotQueued s.alm.cmds (almWord 3 m.toNat n) false)
    (hused : s.almState n ≠ 7) : Completes (.shelve n m) s (ShelveEnds
      (if (s.almEnt n).b 0 14 = false ∨ (s.almEnt n).pri = 1 ∨ (s.almOf n).oos = true then 4
        else if (s.almEnt n).shmax < m.toNat then 5 else 0) m.toNat n s) := by
  obtain ⟨hop, harg, hidx⟩ := fields_almWord (op := 3) (by decide) m.isLt n.isLt
  have hsame : SamePoint n s (s.hostTaken (almWord 3 m.toNat n) false) := samePoint_hostTaken
  have hused' : (s.hostTaken (almWord 3 m.toNat n) false).almState n ≠ 7 := by rw [hsame.state]; exact hused
  have happly := State.almApply_shelve (c := s.hostCmd (almWord 3 m.toNat n) false) hop harg hidx hused'
  rw [hsame.ent, hsame.alm] at happly
  split_ifs at happly ⊢ with hno hrange
  · exact shelve_refused hc n m hq happly (by decide) (by decide)
  · exact shelve_refused hc n m hq happly (by decide) (by decide)
  · obtain ⟨t, hrun, hends, hserv, hstate⟩ := completes_service (i := .shelve n m) hc rfl hq n.isLt happly
      (alarmWork_serve n.isLt) (by decide)
    have hleft := hserv.shleft.trans (State.shleft_serve (shelfTime_lt (Nat.le_of_not_lt hrange)))
    refine ⟨t, hrun, hends.result, fun _ => ⟨hserv.shelved.trans (by rw [State.almOf_serve]), hleft, fun _ => ?_⟩,
      fun h => absurd hends.result h, hends.regs, hends.mem⟩
    have hin : (s.almOf n).oos = false := Bool.eq_false_of_not_eq_true fun h => hno (.inr (.inr h))
    exact hstate 4 (by decide) (State.mem_almPoints_serve n.isLt hused') fun z hz =>
      State.stateNext_shelved (hz.oos.trans (by rw [State.almOf_serve]; exact hin)) (hz.shelved.trans (by rw [State.almOf_serve]))

theorem completes_unshelve (hc : s.commands) (n : Fin 1024) (hq : NotQueued s.alm.cmds (almWord 4 0 n) false) (hused : s.almState n ≠ 7) :
    Completes (.unshelve n) s (fun t => t.get ALM_CRES.RESULT = (if (s.almOf n).shelved then 0 else 1)
      ∧ (t.almOf n).shelved = false ∧ ((s.almOf n).shelved = true → t.get (ALM_PST.SHLEFT n) = 0)
      ∧ RegsKeptBut alarmRegs s t ∧ MemKept s t) := by
  obtain ⟨hop, -, hidx⟩ := fields_almWord (op := 4) (arg := 0) (by decide) (by decide) n.isLt
  have hsame : SamePoint n s (s.hostTaken (almWord 4 0 n) false) := samePoint_hostTaken
  have happly := State.almApply_unshelve (s := s.hostTaken (almWord 4 0 n) false) (c := s.hostCmd (almWord 4 0 n) false)
    hop hidx (by rw [hsame.state]; exact hused)
  rw [hsame.alm] at happly
  split_ifs at happly ⊢ with hsh
  · obtain ⟨t, hrun, hends, hserv, -⟩ := completes_service (i := .unshelve n) hc rfl hq n.isLt happly
      (alarmWork_serve n.isLt) (by decide)
    exact ⟨t, hrun, hends.result, hserv.shelved.trans (by rw [State.almOf_serve]),
      fun _ => hserv.shleft.trans (State.shleft_serve (by decide)), hends.regs, hends.mem⟩
  · obtain ⟨t, hrun, hends, hserv, -⟩ := completes_service (i := .unshelve n) hc rfl hq n.isLt happly .refl (by decide)
    have hkept := hsame.service.trans hserv
    exact ⟨t, hrun, hends.result, hkept.shelved.trans (Bool.eq_false_of_not_eq_true hsh), fun h => absurd h hsh, hends.regs, hends.mem⟩

theorem completes_outOfService (hc : s.commands) (n : Fin 1024) (hq : NotQueued s.alm.cmds (almWord 6 0 n) true)
    (hused : s.almState n ≠ 7) :
    Completes (.outOfService n) s (fun t => t.get ALM_CRES.RESULT = (if (s.almOf n).oos then 1 else 0) ∧ (t.almOf n).oos = true
      ∧ ((s.almOf n).oos = false → (t.almOf n).shelved = false ∧ t.get (ALM_PST.SHLEFT n) = 0)
      ∧ (n.val ∈ s.almPoints → t.almState n = 6) ∧ RegsKeptBut alarmRegs s t ∧ MemKept s t) := by
  obtain ⟨hop, -, hidx⟩ := fields_almWord (op := 6) (arg := 0) (by decide) (by decide) n.isLt
  have hsame : SamePoint n s (s.hostTaken (almWord 6 0 n) true) := samePoint_hostTaken
  have hused' : (s.hostTaken (almWord 6 0 n) true).almState n ≠ 7 := by rw [hsame.state]; exact hused
  have happly := State.almApply_outOfService (c := s.hostCmd (almWord 6 0 n) true) hop hidx rfl hused'
  rw [hsame.alm] at happly
  split_ifs at happly ⊢ with hoos
  · obtain ⟨t, hrun, hends, hserv, hstate⟩ := completes_service (i := .outOfService n) hc rfl hq n.isLt happly .refl (by decide)
    have hout : ((s.hostTaken (almWord 6 0 n) true).almOf n).oos = true := by rw [hsame.alm]; exact hoos
    refine ⟨t, hrun, hends.result, hserv.oos.trans hout, fun h => absurd hoos (by simp [h]), fun hmem => ?_, hends.regs, hends.mem⟩
    exact hstate 6 (by decide) (by rw [State.almPoints_hostTaken]; exact hmem) fun z hz => State.stateNext_oos (hz.oos.trans hout)
  · obtain ⟨t, hrun, hends, hserv, hstate⟩ := completes_service (i := .outOfService n) hc rfl hq n.isLt happly
      (alarmWork_serve n.isLt) (by decide)
    refine ⟨t, hrun, hends.result, hserv.oos.trans (by rw [State.almOf_serve]), fun _ =>
      ⟨hserv.shelved.trans (by rw [State.almOf_serve]), hserv.shleft.trans (State.shleft_serve (by decide))⟩, fun _ => ?_,
      hends.regs, hends.mem⟩
    exact hstate 6 (by decide) (State.mem_almPoints_serve n.isLt hused') fun z hz =>
      State.stateNext_oos (hz.oos.trans (by rw [State.almOf_serve]))

theorem completes_returnToService (hc : s.commands) (n : Fin 1024) (hq : NotQueued s.alm.cmds (almWord 7 0 n) true)
    (hused : s.almState n ≠ 7) : Completes (.returnToService n) s (fun t => t.get ALM_CRES.RESULT = (if (s.almOf n).oos then 0 else 1)
      ∧ (t.almOf n).oos = false ∧ RegsKeptBut alarmRegs s t ∧ MemKept s t) := by
  obtain ⟨hop, -, hidx⟩ := fields_almWord (op := 7) (arg := 0) (by decide) (by decide) n.isLt
  have hsame : SamePoint n s (s.hostTaken (almWord 7 0 n) true) := samePoint_hostTaken
  have happly := State.almApply_return (s := s.hostTaken (almWord 7 0 n) true) (c := s.hostCmd (almWord 7 0 n) true)
    hop hidx rfl (by rw [hsame.state]; exact hused)
  rw [hsame.alm] at happly
  split_ifs at happly ⊢ with hoos
  · obtain ⟨t, hrun, hends, hserv, -⟩ := completes_service (i := .returnToService n) hc rfl hq n.isLt happly
      alarmWork_setAlm (by decide)
    exact ⟨t, hrun, hends.result, hserv.oos.trans (by rw [State.almOf_setAlm_same]), hends.regs, hends.mem⟩
  · obtain ⟨t, hrun, hends, hserv, -⟩ := completes_service (i := .returnToService n) hc rfl hq n.isLt happly .refl (by decide)
    exact ⟨t, hrun, hends.result, (hsame.service.trans hserv).oos.trans (Bool.eq_false_of_not_eq_true hoos), hends.regs, hends.mem⟩

/-! ### The end of a shelving (R217) -/

theorem exec_shelvingExpiry (hup : s.up = true) (n : Fin 1024) : exec (.shelvingExpiry n) s = .next (settle (s.shelfExpiry n)) := act_up hup

/-- The last round of a shelving ends it. -/
theorem State.shelfRound_last (h : s.get (ALM_PST.SHLEFT n) = 1) :
    s.shelfRound n = (s.put (ALM_PST.SHLEFT n) 0).setAlm n { s.almOf n with shelved := false } := by
  unfold State.shelfRound
  dsimp only
  rw [h, if_neg (by decide), if_pos (by decide), almOf_of_pts_eq (congrArg AlmEng.pts State.alm_put)]

theorem alarmWork_shelfRound (hn : n < 1024) (h : s.get (ALM_PST.SHLEFT n) = 1) : AlarmWork s (s.shelfRound n) := by
  rw [State.shelfRound_last h]
  exact (AlarmWork.refl.put (mem_alarmRegs_point hn (by simp)) (by simp only [ALM_CRES]; omega)).trans alarmWork_setAlm

theorem State.shelfExpiry_due (hc : s.commands) (hused : s.almState n ≠ 7) (hdue : s.workRoundDue = true)
    (h : s.get (ALM_PST.SHLEFT n) = 1) : s.shelfExpiry n = (s.shelfRound n).almTrans [] n := by
  obtain ⟨-, hruns, -⟩ := hc
  exact if_pos (by simp [hdue, hruns, hused, h])

theorem shelvingExpiry_ends (hc : s.commands) (n : Fin 1024) (hused : s.almState n ≠ 7) (hdue : s.workRoundDue = true)
    (h : s.get (ALM_PST.SHLEFT n) = 1) : Completes (.shelvingExpiry n) s (fun t => (t.almOf n).shelved = false
      ∧ t.get (ALM_PST.SHLEFT n) = 0
      ∧ ((s.almOf n).oos = false → (s.almOf n).held = false → s.flag (ALM_PST.BLK n) = false → s.flag (ALM_PST.DEL n) = false →
          4 ≤ s.almState n → t.almState n = 0) ∧ RegsKeptBut alarmRegs s t ∧ MemKept s t) := by
  have hrun := exec_shelvingExpiry hc.1 n
  rw [State.shelfExpiry_due hc hused hdue h] at hrun
  have halm : (s.shelfRound n).almOf n = { s.almOf n with shelved := false } := by
    rw [State.shelfRound_last h, State.almOf_setAlm_same]
  have hleft : (s.shelfRound n).get (ALM_PST.SHLEFT n) = 0 := by
    rw [State.shelfRound_last h, State.get_setAlm]
    exact State.get_put_same rfl
  have hget : ∀ f ∈ [ALM_PST.STATE n.val, ALM_PST.DEL n, ALM_PST.BLK n], (s.shelfRound n).get f = s.get f := fun f hf => by
    rw [State.shelfRound_last h, State.get_setAlm]
    simp only [List.mem_cons, List.not_mem_nil, or_false] at hf
    refine State.get_put_other rfl ?_
    rcases hf with rfl | rfl | rfl <;> simp [Fld.apart]
  have hst : (s.shelfRound n).almState n = s.almState n := hget _ (by simp)
  have hserv : SameService n (s.shelfRound n) ((s.shelfRound n).almTrans [] n) := sameService_almTrans n.isLt
  have hwork : AlarmWork s ((s.shelfRound n).almTrans [] n) := (alarmWork_shelfRound n.isLt h).trans (alarmWork_almTrans n.isLt)
  refine ⟨_, hrun, hserv.shelved.trans (by rw [halm]), hserv.shleft.trans hleft, fun ho hh hb hd h4 => ?_,
    fun a ha => State.reg_settle.trans (hwork.regs a (.inl ha)), memKept_of_mem_eq (State.mem_settle.trans hwork.mem)⟩
  have hd' : (s.shelfRound n).flag (ALM_PST.DEL n) = false := (congrArg (· != 0) (hget (ALM_PST.DEL n) (by simp))).trans hd
  have hov : (s.shelfRound n).noOverlay n := by
    unfold State.noOverlay
    rw [halm]
    exact ⟨ho, rfl, hh, (congrArg (· != 0) (hget (ALM_PST.BLK n) (by simp))).trans hb⟩
  refine samePoint_settle.state.trans ?_
  rw [State.almState_almTrans n.isLt (by rw [hst]; exact hused), State.stateNext_free hov (.inr (.inr hd')),
    State.baseNext_normal (.inr (by rw [hst]; exact h4)), hd']
  rfl

theorem shelvingExpiry_early (hc : s.commands) (n : Fin 1024) (hdue : s.workRoundDue = false) :
    Completes (.shelvingExpiry n) s (fun t => t.alm = s.alm ∧ AllKept s t) := by
  have hrun := exec_shelvingExpiry hc.1 n
  have hearly : s.shelfExpiry n = s := if_neg (by simp [hdue])
  rw [hearly] at hrun
  exact ⟨_, hrun, State.alm_settle, allKept_settle⟩

end

/-- Settles O38. Commands set a point's service, which no transition changes, and the transitions show it; the last round of a shelving ends
it and gives a point without overlay whose D is 0 the state NORMAL. -/
theorem alarmShelvingAndService : Obligations.AlarmShelvingAndService := by
  unfold Obligations.AlarmShelvingAndService
  intro s hc
  exact ⟨completes_shelve hc, completes_unshelve hc, completes_outOfService hc, completes_returnToService hc, shelvingExpiry_ends hc,
    shelvingExpiry_early hc⟩

end Sys2Proof.Machine

namespace Sys2Proof.Machine

open Sys2Proof

/-! ## Opal (R242 to R253) -/

section
variable {s t u : State} {f g : Fld} {a i k n p st v : Nat} {clear : Bool} {l l' : List Fld} {m : List Nat}

/-! ### What Opal's work writes -/

/-- Of the registers the fields of the list alone are written; Opal's count of commands and all of memory stay. -/
structure OpalWork (l : List Fld) (s t : State) : Prop where
  fields : ∀ g : Fld, (∀ f ∈ l, g.apart f = true) → t.get g = s.get g
  cmdNo : t.opl.cmdNo = s.opl.cmdNo
  mem : t.mem = s.mem

theorem OpalWork.trans (h : OpalWork l s t) (h' : OpalWork l t u) : OpalWork l s u :=
  ⟨fun g hg => (h'.fields g hg).trans (h.fields g hg), h'.cmdNo.trans h.cmdNo, h'.mem.trans h.mem⟩

theorem OpalWork.mono (h : OpalWork l s t) (hl : l ⊆ l') : OpalWork l' s t :=
  ⟨fun g hg => h.fields g fun f hf => hg f (hl hf), h.cmdNo, h.mem⟩

theorem opalWork_of_eq (hr : t.regs = s.regs) (hc : t.opl.cmdNo = s.opl.cmdNo) (hm : t.mem = s.mem) : OpalWork l s t :=
  ⟨fun g _ => by simp only [State.get, State.reg, hr], hc, hm⟩

theorem opalWork_withOpl {y : OplS} (hc : y.cmdNo = s.opl.cmdNo) : OpalWork l s { s with opl := y } := opalWork_of_eq rfl hc rfl

theorem OpalWork.refl : OpalWork l s s := opalWork_of_eq rfl rfl rfl

theorem OpalWork.put (h : OpalWork l s t) (hf : f ∈ l) (hok : f.ok = true) : OpalWork l s (t.put f v) :=
  ⟨fun g hg => (State.get_put_other hok (hg f hf)).trans (h.fields g hg), h.cmdNo, h.mem⟩

theorem opalWork_put (hok : f.ok = true) : OpalWork [f] s (s.put f v) := OpalWork.refl.put List.mem_cons_self hok

theorem OpalWork.ite {q : Prop} [Decidable q] (ht : OpalWork l s t) (hu : OpalWork l s u) : OpalWork l s (if q then t else u) := by
  split
  · exact ht
  · exact hu

/-- A register none of whose fields is listed reads as before. -/
theorem OpalWork.reg (h : OpalWork l s t) (ha : ∀ f ∈ l, a ≠ f.addr) : t.reg a = s.reg a := by
  have hword : ∀ z : State, z.get ⟨a, 35, 0⟩ = (z.reg a).toNat := fun z => by
    unfold State.get fld
    rw [bits_eq, pow_zero, Nat.div_one]
    exact Nat.mod_eq_of_lt (z.reg a).isLt
  have hget := h.fields ⟨a, 35, 0⟩ fun f hf => by simp [Fld.apart, ha f hf]
  rw [hword, hword] at hget
  exact BitVec.eq_of_toNat_eq hget

theorem OpalWork.regsKept (h : OpalWork l s t) (hl : ∀ f ∈ l, f.addr ∈ opalRegs) : RegsKeptBut opalRegs s t :=
  fun _ ha => h.reg fun f hf e => ha (e ▸ hl f hf)

/-! ### Fields shown where they change -/

/-- A field takes a value where it does not hold it. -/
def State.shows (s : State) (f : Fld) (v : Nat) : State := if s.get f == v then s else s.put f v

theorem opalWork_shows (hok : f.ok = true) : OpalWork [f] s (s.shows f v) := .ite .refl (opalWork_put hok)

theorem State.opl_shows : (s.shows f v).opl = s.opl := by unfold State.shows; split <;> rfl

theorem State.showStations_eq : s.showStations = s.shows OPL_CALLED.STA s.staMask := rfl

/-- What follows a command shows the stations, the open offers and the time left. -/
theorem opalWork_opalSettle : OpalWork [OPL_CALLED.STA, OPL_STAT.NOPEN, OPL_LEFT.LEFT] s s.opalSettle :=
  have hsta : OpalWork _ s s.showStations := (opalWork_shows rfl).mono (by simp)
  have hopen : OpalWork _ s.showStations s.showStations.showOffers := (opalWork_shows rfl).mono (by simp)
  have hleft : OpalWork _ s.showStations.showOffers s.opalSettle := (opalWork_shows rfl).mono (by simp)
  (hsta.trans hopen).trans hleft

theorem State.opl_opalSettle : s.opalSettle.opl = s.opl :=
  State.opl_shows.trans (State.opl_shows.trans State.opl_shows)

/-! ### The stage, and the engineers called (R245, R247) -/

theorem opalWork_setStage : OpalWork [OPL_STAT.STAGE, OPL_STAT.NOENG, HST_ISRC.OPAL] s (s.setStage st) := by
  have htime : OpalWork [OPL_STAT.STAGE, OPL_STAT.NOENG, HST_ISRC.OPAL] s { s with opl := { s.opl with time := 0 } } :=
    opalWork_withOpl rfl
  have hnone := htime.put (f := OPL_STAT.NOENG) (v := false.toNat) (by simp) rfl
  exact .ite hnone ((hnone.put (by simp) rfl).put (by simp) rfl)

theorem State.stage_setStage (h : st < 8) : (s.setStage st).stage = st := by
  unfold State.setStage
  dsimp only
  split
  · next he => exact beq_iff_eq.mp he
  · refine (State.get_raise_other rfl rfl).trans ((State.get_put_same rfl).trans ?_)
    exact Nat.mod_eq_of_lt h

theorem State.opl_setStage : (s.setStage st).opl = { s.opl with time := 0 } := by unfold State.setStage; dsimp only; split <;> rfl

theorem opalWork_uncall : OpalWork [OPL_CALLED.ENG] s s.uncall := .ite .refl (opalWork_put rfl)

theorem State.called_uncall : s.uncall.called = 0 := by
  unfold State.uncall
  split
  · next h => exact beq_iff_eq.mp h
  · exact (State.get_put_same rfl).trans rfl

theorem State.opl_uncall : s.uncall.opl = s.opl := by unfold State.uncall; split <;> rfl

theorem opalWork_callPos : OpalWork [OPL_CALLED.ENG] s (s.callPos p) :=
  (opalWork_put rfl).trans (opalWork_withOpl rfl)

theorem State.stage_callPos : (s.callPos p).stage = s.stage := opalWork_callPos.fields _ (by decide)

theorem State.stage_enterDuty : s.enterDuty.stage = 2 := by
  have hset : (s.uncall.setStage 2).stage = 2 := State.stage_setStage (by decide)
  unfold State.enterDuty
  dsimp only
  split
  · exact State.stage_callPos.trans hset
  · exact hset

theorem State.stage_enterAll : s.enterAll.stage = 6 := by
  have hset : ((s.setStage 6).inc OPL_CNT.ESC).stage = 6 := (State.get_inc_other rfl rfl).trans (State.stage_setStage (by decide))
  unfold State.enterAll
  dsimp only
  refine (State.get_putB_other rfl rfl).trans ?_
  refine List.foldlRecOn (motive := fun z : State => z.stage = 6) _ _ hset fun z hz m _ => ?_
  split
  · exact (State.get_putBit_other rfl rfl).trans hz
  · exact hz

/-- A BACK stage that finds no engineer passes to ALL. -/
theorem State.stage_enterBack (h : k ≤ 3) : (s.enterBack k).stage = 2 + k ∨ (s.enterBack k).stage = 6 := by
  have hset : ((s.setStage (2 + k)).inc OPL_CNT.ESC).stage = 2 + k :=
    (State.get_inc_other rfl rfl).trans (State.stage_setStage (by omega))
  unfold State.enterBack
  dsimp only
  split
  · exact .inl (State.stage_callPos.trans hset)
  · exact .inr State.stage_enterAll

/-- From BACKk or DUTY a stage goes on to the next BACK stage, where there is one, or to ALL. -/
theorem State.stage_enterNext {q : Prop} [Decidable q] (h : k ≤ 3) :
    (if q then s.enterBack k else s.enterAll).stage = 2 + k ∨ (if q then s.enterBack k else s.enterAll).stage = 6 := by
  split
  · exact State.stage_enterBack h
  · exact .inr State.stage_enterAll

/-- A stage that has reached its length goes on to a later one (R246). -/
theorem State.stage_escalate (h1 : 1 ≤ s.stage) (h5 : s.stage ≤ 5) : s.stage < s.escalate.stage ∧ s.escalate.stage ≤ 6 := by
  unfold State.escalate
  split
  case h_1 h => rw [h, State.stage_enterDuty]; decide
  case h_2 h =>
    have hnext := State.stage_enterNext (s := s) (k := 1) (q := s.nback ≥ 1) (by decide)
    omega
  case h_3 h =>
    have hnext := State.stage_enterNext (s := s) (k := 2) (q := s.nback ≥ 2) (by decide)
    omega
  case h_4 h =>
    have hnext := State.stage_enterNext (s := s) (k := 3) (q := s.nback ≥ 3) (by decide)
    omega
  case h_5 h => rw [h, State.stage_enterAll]; decide
  case h_6 n1 n2 n3 n4 n5 =>
    simp only [imp_false] at n1 n2 n3 n4 n5
    omega

/-! ### Call telegrams (R255) -/

/-- A call telegram joins the ship network's queue; its message number may take a free value. -/
theorem State.queueCall_frame : (s.queueCall clear m).regs = s.regs ∧ (s.queueCall clear m).opl = s.opl
    ∧ (s.queueCall clear m).mem = s.mem := by
  have hmsg : s.topMsg.2.regs = s.regs ∧ s.topMsg.2.opl = s.opl ∧ s.topMsg.2.mem = s.mem := by
    unfold State.topMsg
    dsimp only
    split <;> exact ⟨rfl, rfl, rfl⟩
  unfold State.queueCall
  split
  · exact ⟨rfl, rfl, rfl⟩
  · cases clear
    · exact hmsg
    · exact ⟨rfl, rfl, rfl⟩

theorem opalWork_queueCall : OpalWork l s (s.queueCall clear m) :=
  have ⟨hregs, hopl, hmem⟩ := State.queueCall_frame (s := s) (clear := clear) (m := m)
  opalWork_of_eq hregs (congrArg OplS.cmdNo hopl) hmem

theorem opalWork_sendCall : OpalWork l s s.sendCall :=
  opalWork_of_eq State.queueCall_frame.1 rfl State.queueCall_frame.2.2

theorem opalWork_sendClear : OpalWork l s s.sendClear := opalWork_queueCall

/-! ### The end of a call (R249, R251) -/

/-- Nobody is called and no priority stands: the call is at the stage, and the stations follow. -/
def State.stopCall (s : State) (st : Nat) : State := ((s.uncall.setStage st).put OPL_STAT.PPRI 0).showStations

/-- The fields that the end of a call writes. -/
def stopFlds : List Fld :=
  [OPL_STAT.STAGE, OPL_STAT.NOENG, OPL_STAT.PPRI, OPL_CALLED.ENG, OPL_CALLED.STA, HST_ISRC.OPAL]

theorem opalWork_stopCall : OpalWork stopFlds s (s.stopCall st) :=
  have huncall : OpalWork stopFlds s s.uncall := opalWork_uncall.mono (by simp [stopFlds])
  have hstage : OpalWork stopFlds s.uncall (s.uncall.setStage st) := opalWork_setStage.mono (by simp [stopFlds])
  have hpri : OpalWork stopFlds s ((s.uncall.setStage st).put OPL_STAT.PPRI 0) := (huncall.trans hstage).put (by simp [stopFlds]) rfl
  hpri.trans ((opalWork_shows rfl).mono (by simp [stopFlds]))

theorem State.stopCall_shows (h : st < 8) :
    (s.stopCall st).stage = st ∧ (s.stopCall st).called = 0 ∧ (s.stopCall st).get OPL_STAT.PPRI = 0 := by
  have hsta : ∀ g : Fld, g.apart OPL_CALLED.STA = true →
      (s.stopCall st).get g = ((s.uncall.setStage st).put OPL_STAT.PPRI 0).get g := fun g hg =>
    (opalWork_shows rfl).fields g (by simpa using hg)
  refine ⟨?_, ?_, ?_⟩
  · exact (hsta _ rfl).trans ((State.get_put_other rfl rfl).trans (State.stage_setStage h))
  · calc _ = (s.uncall.setStage st).called := (hsta _ rfl).trans (State.get_put_other rfl rfl)
      _ = s.uncall.called := opalWork_setStage.fields _ (by decide)
      _ = 0 := State.called_uncall
  · exact (hsta _ rfl).trans ((State.get_put_same rfl).trans rfl)

theorem State.opl_stopCall : (s.stopCall st).opl = { s.opl with time := 0 } := by
  unfold State.stopCall
  rw [State.showStations_eq, State.opl_shows, State.opl_put, State.opl_setStage, State.opl_uncall]

theorem State.toIdle_eq : s.toIdle
    = if s.stage == 0 then s.stopCall 0 else { (s.stopCall 0).sendClear with opl := { (s.stopCall 0).opl with time := 0, targets := [] } } := rfl

theorem State.toIdle_shows : s.toIdle.stage = 0 ∧ s.toIdle.called = 0 ∧ s.toIdle.get OPL_STAT.PPRI = 0 := by
  have hstop := State.stopCall_shows (s := s) (st := 0) (by decide)
  have hsent : ∀ g : Fld, (s.stopCall 0).sendClear.get g = (s.stopCall 0).get g := fun g =>
    (opalWork_sendClear (l := [])).fields g (by simp)
  rw [State.toIdle_eq]
  split
  · exact hstop
  · exact ⟨(hsent _).trans hstop.1, (hsent _).trans hstop.2.1, (hsent _).trans hstop.2.2⟩

theorem opalWork_toIdle : OpalWork stopFlds s s.toIdle := by
  rw [State.toIdle_eq]
  exact .ite opalWork_stopCall
    (opalWork_stopCall.trans (opalWork_of_eq State.queueCall_frame.1 rfl State.queueCall_frame.2.2))

theorem State.accepted_toIdle : s.toIdle.opl.accepted = s.opl.accepted := by
  have hstop : (s.stopCall 0).opl.accepted = s.opl.accepted := by rw [State.opl_stopCall]
  rw [State.toIdle_eq]
  split
  · exact hstop
  · exact hstop

/-! ### Acceptance (R249) -/

/-- An acceptance at the station is taken: it accepts, and it sounds. -/
def State.takes (s : State) (i : Nat) : Bool := s.opalOn && wbit (s.station i) 21 && s.sounds i

/-- Who accepts at a station: its engineer, or 31 at a public one. -/
def State.acceptor (s : State) (i : Nat) : Nat := if fld (s.station i) 35 34 = 2 then 31 else (s.cabinOf i).getD 0

/-- The acceptance is recorded and counted, every open offer marked. -/
def State.acceptedBy (s : State) (e : Nat) : State := ((s.put OPL_STAT.ACCENG e).inc OPL_CNT.ACCS).markAll

theorem opalWork_markAll : OpalWork l s s.markAll := opalWork_withOpl rfl

/-- A station that sounds and is no public one is an engineer's. -/
theorem State.cabinOf_of_sounds (h : s.sounds i = true) (hk : fld (s.station i) 35 34 ≠ 2) : ∃ e, s.cabinOf i = some e := by
  unfold State.sounds at h
  dsimp only at h
  split at h
  · split at h
    · next e he => exact ⟨e, he⟩
    · exact absurd h (by decide)
  · next h2 => exact absurd h2 hk
  · exact absurd h (by decide)

theorem State.acceptor_lt : s.acceptor i < 32 := by
  unfold State.acceptor
  split
  · decide
  · cases he : s.cabinOf i with
    | none => decide
    | some e =>
      have hlt : e < 16 := List.mem_range.mp (List.mem_of_find?_eq_some he)
      exact lt_trans hlt (by decide)

theorem State.accept_taken (h : s.takes i = true) : s.accept i = (((s.acceptedBy (s.acceptor i)).stopCall 7).sendClear, true) := by
  simp only [State.takes, Bool.and_eq_true] at h
  obtain ⟨⟨hon, hacc⟩, hsounds⟩ := h
  unfold State.accept State.acceptor
  by_cases hk : fld (s.station i) 35 34 = 2
  · simp [hon, hacc, hsounds, hk]
    rfl
  · obtain ⟨e, he⟩ := State.cabinOf_of_sounds hsounds hk
    simp [hon, hacc, hsounds, hk, he]
    rfl

theorem State.accept_ignored (h : s.takes i = false) : s.accept i = (s, false) := by
  unfold State.takes at h
  unfold State.accept
  dsimp only
  rw [← Bool.not_and, ← Bool.not_and, h]
  rfl

/-- The fields that a taken acceptance writes. -/
def acceptFlds : List Fld := OPL_STAT.ACCENG :: OPL_CNT.ACCS :: stopFlds

theorem opalWork_accept : OpalWork acceptFlds s (s.accept i).1 := by
  cases h : s.takes i
  · rw [State.accept_ignored h]
    exact .refl
  · rw [State.accept_taken h]
    have hwho : OpalWork acceptFlds s (s.put OPL_STAT.ACCENG (s.acceptor i)) := OpalWork.refl.put (by simp [acceptFlds]) rfl
    have hcount : OpalWork acceptFlds s ((s.put OPL_STAT.ACCENG (s.acceptor i)).inc OPL_CNT.ACCS) :=
      hwho.put (by simp [acceptFlds]) rfl
    have hstop : OpalWork acceptFlds (s.acceptedBy (s.acceptor i)) ((s.acceptedBy (s.acceptor i)).stopCall 7) :=
      opalWork_stopCall.mono (by simp [acceptFlds])
    exact ((hcount.trans opalWork_markAll).trans hstop).trans opalWork_sendClear

/-- A taken acceptance stops the call, and shows who took it. -/
theorem State.accept_shows (h : s.takes i = true) : (s.accept i).1.get OPL_STAT.ACCENG = s.acceptor i
    ∧ CountsUp OPL_CNT.ACCS s (s.accept i).1 ∧ (s.accept i).1.stage = 7 ∧ (s.accept i).1.called = 0
    ∧ (s.accept i).1.get OPL_STAT.PPRI = 0 ∧ (s.accept i).1.opl.accepted = s.opl.offers := by
  rw [State.accept_taken h]
  have hsent : ∀ g : Fld, ((s.acceptedBy (s.acceptor i)).stopCall 7).sendClear.get g
      = ((s.acceptedBy (s.acceptor i)).stopCall 7).get g := fun g => (opalWork_sendClear (l := [])).fields g (by simp)
  have hkept : ∀ g ∈ [OPL_STAT.ACCENG, OPL_CNT.ACCS], ((s.acceptedBy (s.acceptor i)).stopCall 7).get g
      = ((s.put OPL_STAT.ACCENG (s.acceptor i)).inc OPL_CNT.ACCS).get g := fun g hg =>
    (opalWork_stopCall.fields g (by revert g; decide)).trans ((opalWork_markAll (l := [])).fields g (by simp))
  obtain ⟨hstage, hcalled, hpri⟩ := State.stopCall_shows (s := s.acceptedBy (s.acceptor i)) (st := 7) (by decide)
  refine ⟨?_, ?_, (hsent _).trans hstage, (hsent _).trans hcalled, (hsent _).trans hpri, ?_⟩
  · calc _ = ((s.put OPL_STAT.ACCENG (s.acceptor i)).inc OPL_CNT.ACCS).get OPL_STAT.ACCENG := (hsent _).trans (hkept _ (by simp))
      _ = (s.put OPL_STAT.ACCENG (s.acceptor i)).get OPL_STAT.ACCENG := State.get_inc_other rfl rfl
      _ = s.acceptor i := (State.get_put_same rfl).trans (Nat.mod_eq_of_lt State.acceptor_lt)
  · unfold CountsUp
    rw [hsent, hkept _ (by simp), State.get_inc_min rfl, State.get_put_other rfl rfl]
  · have hopl : ((s.acceptedBy (s.acceptor i)).stopCall 7).sendClear.opl = ((s.acceptedBy (s.acceptor i)).stopCall 7).opl :=
      State.queueCall_frame.2.1
    rw [hopl, State.opl_stopCall]
    rfl

/-! ### A command of the host, given now (R251, R256) -/

variable {w : Word} {keyed : Bool} {c : EngCmd} {op arg res : Nat} {ins : Instr}

/-- The command is the host's latest, and a record tells the partner of it. -/
def State.oplTaken (s : State) (w : Word) (keyed : Bool) : State :=
  State.record { s with opl := { s.opl with cmdNo := s.opl.cmdNo + 1 } } ⟨9, 0, 2 ^ 23 + keyed.toNat <<< 22, [w]⟩

/-- The command as Opal applies it. -/
def State.oplHostCmd (s : State) (w : Word) (keyed : Bool) : EngCmd := ⟨w, keyed, 0, s.opl.cmdNo + 1, 0, 0⟩

/-- OPL_CRES as a command's result leaves it. -/
def State.oplShown (s : State) (res : Nat) : State := (s.put OPL_CRES.RESULT res).putB OPL_CRES.PEND false

theorem State.opl_oplShown : (s.oplShown res).opl = s.opl := by
  unfold State.oplShown
  rw [State.opl_putB, State.opl_put]

theorem State.opl_oplTaken : (s.oplTaken w keyed).opl = { s.opl with cmdNo := s.opl.cmdNo + 1 } := by
  unfold State.oplTaken State.record
  split <;> rfl

theorem State.reg_oplTaken : (s.oplTaken w keyed).reg a = s.reg a := by
  unfold State.oplTaken State.reg
  rw [State.regs_record]

theorem State.get_oplTaken : (s.oplTaken w keyed).get f = s.get f := get_of_reg_eq State.reg_oplTaken

theorem State.mem_oplTaken : (s.oplTaken w keyed).mem = s.mem := by
  unfold State.oplTaken
  rw [State.mem_record]

theorem State.cache_oplTaken : (s.oplTaken w keyed).opl.cache = s.opl.cache := by rw [State.opl_oplTaken]

theorem State.nrot_oplTaken : (s.oplTaken w keyed).nrot = s.nrot := by
  unfold State.nrot State.opalHead
  rw [State.cache_oplTaken]

theorem State.station_oplTaken : (s.oplTaken w keyed).station i = s.station i := by
  unfold State.station
  rw [State.cache_oplTaken]

theorem State.cabinOf_oplTaken : (s.oplTaken w keyed).cabinOf i = s.cabinOf i := by
  unfold State.cabinOf State.engineer State.opalWord
  rw [State.cache_oplTaken]

theorem State.sounds_oplTaken : (s.oplTaken w keyed).sounds i = s.sounds i := by
  unfold State.sounds State.stage State.called
  rw [State.station_oplTaken, State.cabinOf_oplTaken, State.get_oplTaken, State.get_oplTaken]

theorem State.takes_oplTaken : (s.oplTaken w keyed).takes i = s.takes i := by
  unfold State.takes State.opalOn
  rw [State.station_oplTaken, State.sounds_oplTaken, State.cache_oplTaken]

theorem State.acceptor_oplTaken : (s.oplTaken w keyed).acceptor i = s.acceptor i := by
  unfold State.acceptor
  rw [State.station_oplTaken, State.cabinOf_oplTaken]

/-- A command not in the queue is applied at once and its result reported. -/
theorem oplNow_host (hc : s.commands) (hq : NotQueued s.opl.cmds w keyed)
    (happly : (s.oplTaken w keyed).oplApply (s.oplHostCmd w keyed) = (u, res)) (hno : u.opl.cmdNo = s.opl.cmdNo + 1) :
    s.oplNow w keyed = (u.oplShown res).opalSettle := by
  obtain ⟨-, hruns, hrep⟩ := hc
  have hnone : s.opl.cmds.find? (fun c => c.w == w && c.keyed == keyed) = none :=
    List.find?_eq_none.mpr fun c hmem => by simpa using hq c hmem
  have hreport : u.oplReport (s.oplHostCmd w keyed) res = u.oplShown res := if_neg (by simp [State.oplHostCmd, hno])
  have hnow : s.oplNow w keyed = (((s.oplTaken w keyed).oplApply (s.oplHostCmd w keyed)).1.oplReport (s.oplHostCmd w keyed)
      ((s.oplTaken w keyed).oplApply (s.oplHostCmd w keyed)).2).opalSettle := by
    unfold State.oplNow
    rw [hnone]
    exact if_neg (by simp [hruns, hrep])
  rw [hnow, happly, hreport]

/-- A command has ended with a result: the state shows what its application left, and only Opal's registers are written. -/
structure OpalEnds (res : Nat) (s u t : State) : Prop where
  result : t.get OPL_CRES.RESULT = res
  pend : t.flag OPL_CRES.PEND = false
  fields : ∀ g ∈ [OPL_STAT.STAGE, OPL_STAT.PPRI, OPL_STAT.DMST, OPL_STAT.ACCENG, OPL_CALLED.ENG, OPL_DUTY.POS, OPL_AWAY.AWAY, OPL_CNT.ACCS],
    t.get g = u.get g
  opl : t.opl = u.opl
  regs : RegsKeptBut opalRegs s t
  mem : MemKept s t

/-- A command of the host is applied by work that writes Opal's registers alone, and ends with its result. -/
theorem completes_oplNow (hc : s.commands) (hrun : exec ins s = act s (fun z => z.oplNow w keyed)) (hq : NotQueued s.opl.cmds w keyed)
    (happly : (s.oplTaken w keyed).oplApply (s.oplHostCmd w keyed) = (u, res)) (hwork : OpalWork l (s.oplTaken w keyed) u)
    (hl : ∀ f ∈ l, f.addr ∈ opalRegs) (hres : res < 16) : Completes ins s (OpalEnds res s u) := by
  have hno : u.opl.cmdNo = s.opl.cmdNo + 1 := by rw [hwork.cmdNo, State.opl_oplTaken]
  have hshown : OpalWork [OPL_CRES.RESULT, OPL_CRES.PEND] u (u.oplShown res) := (OpalWork.refl.put (by simp) rfl).put (by simp) rfl
  have hsettle : OpalWork _ (u.oplShown res) (u.oplShown res).opalSettle := opalWork_opalSettle
  refine ⟨settle (u.oplShown res).opalSettle, by rw [hrun, act_up hc.1, oplNow_host hc hq happly hno], ?_, ?_, fun g hg => ?_, ?_,
    fun a ha => ?_, memKept_of_mem_eq ?_⟩
  · calc _ = (u.oplShown res).get OPL_CRES.RESULT := hsettle.fields _ (by decide)
      _ = (u.put OPL_CRES.RESULT res).get OPL_CRES.RESULT := State.get_putB_other rfl rfl
      _ = res := (State.get_put_same rfl).trans (Nat.mod_eq_of_lt hres)
  · have hget : (settle (u.oplShown res).opalSettle).get OPL_CRES.PEND = (u.oplShown res).get OPL_CRES.PEND :=
      hsettle.fields _ (by decide)
    exact (congrArg (· != 0) hget).trans (State.flag_putB_same rfl)
  · exact (hsettle.fields g (by revert g; decide)).trans (hshown.fields g (by revert g; decide))
  · exact State.opl_settle.trans (State.opl_opalSettle.trans State.opl_oplShown)
  · calc _ = (u.oplShown res).reg a := hsettle.regsKept (by decide) a ha
      _ = u.reg a := hshown.regsKept (by decide) a ha
      _ = s.reg a := (hwork.regsKept hl a ha).trans State.reg_oplTaken
  · exact hsettle.mem.trans (hshown.mem.trans (hwork.mem.trans State.mem_oplTaken))

/-! ### What each operation does (R251) -/

theorem fld_oplWord (hop : op < 16) (harg : arg < 65536) : fld (oplWord op arg) 35 32 = op ∧ fld (oplWord op arg) 15 0 = arg := by
  have hw : (oplWord op arg).toNat = op * 2 ^ 32 + arg := by
    unfold oplWord
    rw [BitVec.toNat_ofNat, Nat.shiftLeft_eq]
    exact Nat.mod_eq_of_lt (by omega)
  unfold fld
  rw [bits_eq, bits_eq, hw]
  omega

theorem State.oplApply_acceptTaken (hop : fld c.w 35 32 = 1) (harg : fld c.w 15 0 = arg) (harg8 : arg < 8) (h : s.takes arg = true) :
    s.oplApply c = ((s.accept arg).1, 0) := by
  subst harg
  unfold State.oplApply
  simp [hop, Nat.not_le.mpr harg8, State.accept_taken h]

theorem State.oplApply_acceptIgnored (hop : fld c.w 35 32 = 1) (harg : fld c.w 15 0 = arg) (harg8 : arg < 8) (h : s.takes arg = false) :
    s.oplApply c = (s, 4) := by
  subst harg
  unfold State.oplApply
  simp [hop, Nat.not_le.mpr harg8, State.accept_ignored h]

/-- The dead-man function enters a state, its time starting. -/
def State.dmSet (s : State) (v : Nat) : State := { s.put OPL_STAT.DMST v with opl := { s.opl with dmTime := 0 } }

theorem opalWork_dmSet : OpalWork [OPL_STAT.DMST] s (s.dmSet v) :=
  have hput : OpalWork [OPL_STAT.DMST] s (s.put OPL_STAT.DMST v) := opalWork_put rfl
  hput.trans (opalWork_withOpl rfl)

theorem State.dmst_dmSet (h : v < 4) : (s.dmSet v).dmst = v := by
  unfold State.dmSet State.dmst
  rw [State.get_with, State.get_put_same rfl]
  exact Nat.mod_eq_of_lt h

theorem State.dmTime_dmSet : (s.dmSet v).opl.dmTime = 0 := rfl

theorem State.dmReset_off (h : s.dmst = 0) : s.dmReset = (s, false) := if_pos (beq_iff_eq.mpr h)

theorem State.dmReset_running (h : s.dmst ≠ 0) : s.dmReset = (s.dmSet 1, true) := if_neg (by simpa using h)

theorem State.oplApply_resetOff (hop : fld c.w 35 32 = 2) (hvia : c.via = 0) (h : s.dmst = 0) : s.oplApply c = (s, 1) := by
  unfold State.oplApply
  simp [hop, hvia, State.dmReset_off h]

theorem State.oplApply_resetRunning (hop : fld c.w 35 32 = 2) (hvia : c.via = 0) (h : s.dmst ≠ 0) :
    s.oplApply c = (s.dmSet 1, 0) := by
  unfold State.oplApply
  simp [hop, hvia, State.dmReset_running h]

theorem State.oplApply_setDuty (hop : fld c.w 35 32 = 3) (harg : fld c.w 15 0 = arg) : s.oplApply c
    = if s.nrot ≤ arg then (s, 3) else if s.get OPL_DUTY.POS = arg then (s, 1) else (s.put OPL_DUTY.POS arg, 0) := by
  subst harg
  unfold State.oplApply
  simp [hop]

theorem State.oplApply_setAway (hop : fld c.w 35 32 = 4) (harg : fld c.w 15 0 = arg) :
    s.oplApply c = if s.get OPL_AWAY.AWAY = arg then (s, 1) else (s.put OPL_AWAY.AWAY arg, 0) := by
  subst harg
  unfold State.oplApply
  simp [hop]

theorem State.oplApply_cancel (hop : fld c.w 35 32 = 5) (hkey : c.keyed = true) (h : s.stage ≠ 0) :
    s.oplApply c = (s.markAll.toIdle, 0) := by
  unfold State.oplApply
  simp [hop, hkey, h]

/-! ### The commands -/

theorem completes_setDuty (hc : s.commands) (p : Fin 16) (hq : NotQueued s.opl.cmds (oplWord 3 p) false) :
    Completes (.opalSetDuty p) s (fun t =>
      t.get OPL_CRES.RESULT = (if s.nrot ≤ p then 3 else if s.get OPL_DUTY.POS = p then 1 else 0) ∧ t.flag OPL_CRES.PEND = false
      ∧ t.get OPL_DUTY.POS = (if s.nrot ≤ p then s.get OPL_DUTY.POS else p.val) ∧ RegsKeptBut opalRegs s t ∧ MemKept s t) := by
  obtain ⟨hop, harg⟩ := fld_oplWord (op := 3) (arg := p) (by decide) (by omega)
  have happly := State.oplApply_setDuty (s := s.oplTaken (oplWord 3 p) false) (c := s.oplHostCmd (oplWord 3 p) false) hop harg
  rw [State.nrot_oplTaken, State.get_oplTaken] at happly
  split_ifs at happly ⊢ with hrot hpos
  · obtain ⟨t, hrun, hends⟩ := completes_oplNow (ins := .opalSetDuty p) (l := []) hc rfl hq happly .refl (by simp) (by decide)
    exact ⟨t, hrun, hends.result, hends.pend, (hends.fields _ (by simp)).trans State.get_oplTaken, hends.regs, hends.mem⟩
  · obtain ⟨t, hrun, hends⟩ := completes_oplNow (ins := .opalSetDuty p) (l := []) hc rfl hq happly .refl (by simp) (by decide)
    exact ⟨t, hrun, hends.result, hends.pend, (hends.fields _ (by simp)).trans (State.get_oplTaken.trans hpos), hends.regs, hends.mem⟩
  · obtain ⟨t, hrun, hends⟩ := completes_oplNow (ins := .opalSetDuty p) hc rfl hq happly (opalWork_put rfl) (by decide) (by decide)
    have hput : t.get OPL_DUTY.POS = p.val % 16 := (hends.fields _ (by simp)).trans (State.get_put_same rfl)
    exact ⟨t, hrun, hends.result, hends.pend, hput.trans (Nat.mod_eq_of_lt p.isLt), hends.regs, hends.mem⟩

theorem completes_setAway (hc : s.commands) (m : BitVec 16) (hq : NotQueued s.opl.cmds (oplWord 4 m.toNat) false) :
    Completes (.opalSetAway m) s (fun t =>
      t.get OPL_CRES.RESULT = (if s.get OPL_AWAY.AWAY = m.toNat then 1 else 0) ∧ t.flag OPL_CRES.PEND = false
      ∧ t.get OPL_AWAY.AWAY = m.toNat ∧ RegsKeptBut opalRegs s t ∧ MemKept s t) := by
  obtain ⟨hop, harg⟩ := fld_oplWord (op := 4) (arg := m.toNat) (by decide) m.isLt
  have happly := State.oplApply_setAway (s := s.oplTaken (oplWord 4 m.toNat) false) (c := s.oplHostCmd (oplWord 4 m.toNat) false) hop harg
  rw [State.get_oplTaken] at happly
  split_ifs at happly ⊢ with haway
  · obtain ⟨t, hrun, hends⟩ := completes_oplNow (ins := .opalSetAway m) (l := []) hc rfl hq happly .refl (by simp) (by decide)
    exact ⟨t, hrun, hends.result, hends.pend, (hends.fields _ (by simp)).trans (State.get_oplTaken.trans haway), hends.regs, hends.mem⟩
  · obtain ⟨t, hrun, hends⟩ := completes_oplNow (ins := .opalSetAway m) hc rfl hq happly (opalWork_put rfl) (by decide) (by decide)
    have hput : t.get OPL_AWAY.AWAY = m.toNat % 2 ^ 16 := (hends.fields _ (by simp)).trans (State.get_put_same rfl)
    exact ⟨t, hrun, hends.result, hends.pend, hput.trans (Nat.mod_eq_of_lt m.isLt), hends.regs, hends.mem⟩

theorem completes_deadmanReset (hc : s.commands) (hq : NotQueued s.opl.cmds (oplWord 2 0) false) :
    Completes .opalDeadmanReset s (fun t =>
      t.get OPL_CRES.RESULT = (if s.dmst = 0 then 1 else 0) ∧ t.dmst = (if s.dmst = 0 then 0 else 1)
      ∧ (s.dmst ≠ 0 → t.opl.dmTime = 0) ∧ RegsKeptBut opalRegs s t ∧ MemKept s t) := by
  obtain ⟨hop, -⟩ := fld_oplWord (op := 2) (arg := 0) (by decide) (by decide)
  have hsame : (s.oplTaken (oplWord 2 0) false).dmst = s.dmst := State.get_oplTaken
  by_cases h0 : s.dmst = 0
  · have happly := State.oplApply_resetOff (c := s.oplHostCmd (oplWord 2 0) false) hop rfl (hsame.trans h0)
    obtain ⟨t, hrun, hends⟩ := completes_oplNow (ins := .opalDeadmanReset) (l := []) hc rfl hq happly .refl (by simp) (by decide)
    rw [if_pos h0, if_pos h0]
    exact ⟨t, hrun, hends.result, (hends.fields _ (by simp)).trans (hsame.trans h0), fun h => absurd h0 h, hends.regs, hends.mem⟩
  · have happly := State.oplApply_resetRunning (c := s.oplHostCmd (oplWord 2 0) false) hop rfl (by rw [hsame]; exact h0)
    obtain ⟨t, hrun, hends⟩ := completes_oplNow (ins := .opalDeadmanReset) hc rfl hq happly opalWork_dmSet (by decide) (by decide)
    rw [if_neg h0, if_neg h0]
    exact ⟨t, hrun, hends.result, (hends.fields _ (by simp)).trans (State.dmst_dmSet (by decide)),
      fun _ => (congrArg OplS.dmTime hends.opl).trans State.dmTime_dmSet, hends.regs, hends.mem⟩

theorem completes_cancel (hc : s.commands) (hq : NotQueued s.opl.cmds (oplWord 5 0) true) (h0 : s.stage ≠ 0) :
    Completes .opalCancel s (fun t =>
      t.get OPL_CRES.RESULT = 0 ∧ t.stage = 0 ∧ t.called = 0 ∧ t.get OPL_STAT.PPRI = 0 ∧ t.opl.accepted = s.opl.offers
      ∧ RegsKeptBut opalRegs s t ∧ MemKept s t) := by
  obtain ⟨hop, -⟩ := fld_oplWord (op := 5) (arg := 0) (by decide) (by decide)
  have hsame : (s.oplTaken (oplWord 5 0) true).stage = s.stage := State.get_oplTaken
  have happly := State.oplApply_cancel (c := s.oplHostCmd (oplWord 5 0) true) hop rfl (by rw [hsame]; exact h0)
  obtain ⟨t, hrun, hends⟩ := completes_oplNow (ins := .opalCancel) hc rfl hq happly
    (opalWork_markAll.trans opalWork_toIdle) (by decide) (by decide)
  obtain ⟨hstage, hcalled, hpri⟩ := State.toIdle_shows (s := (s.oplTaken (oplWord 5 0) true).markAll)
  refine ⟨t, hrun, hends.result, (hends.fields _ (by simp)).trans hstage, (hends.fields _ (by simp)).trans hcalled,
    (hends.fields _ (by simp)).trans hpri, ?_, hends.regs, hends.mem⟩
  calc t.opl.accepted = (s.oplTaken (oplWord 5 0) true).opl.offers := by rw [hends.opl, State.accepted_toIdle]; rfl
    _ = s.opl.offers := by rw [State.opl_oplTaken]

theorem completes_accept (hc : s.commands) (i : Fin 8) (hq : NotQueued s.opl.cmds (oplWord 1 i) false) :
    Completes (.opalAccept i) s (fun t => t.get OPL_CRES.RESULT = (if s.takes i then 0 else 4)
      ∧ (t.get OPL_CRES.RESULT = 0 → t.get OPL_STAT.ACCENG = s.acceptor i ∧ CountsUp OPL_CNT.ACCS s t ∧ t.stage = 7 ∧ t.called = 0
          ∧ t.get OPL_STAT.PPRI = 0 ∧ t.opl.accepted = s.opl.offers)
      ∧ (t.get OPL_CRES.RESULT ≠ 0 → t.stage = s.stage ∧ t.called = s.called) ∧ RegsKeptBut opalRegs s t ∧ MemKept s t) := by
  obtain ⟨hop, harg⟩ := fld_oplWord (op := 1) (arg := i) (by decide) (by omega)
  have hsame : (s.oplTaken (oplWord 1 i) false).takes i = s.takes i := State.takes_oplTaken
  by_cases h : s.takes i = true
  · have happly := State.oplApply_acceptTaken (c := s.oplHostCmd (oplWord 1 i) false) hop harg i.isLt (hsame.trans h)
    obtain ⟨t, hrun, hends⟩ := completes_oplNow (ins := .opalAccept i) hc rfl hq happly opalWork_accept (by decide) (by decide)
    obtain ⟨hwho, hcount, hstage, hcalled, hpri, hmarks⟩ := State.accept_shows (hsame.trans h)
    rw [if_pos h]
    refine ⟨t, hrun, hends.result, fun _ => ⟨?_, ?_, ?_, ?_, ?_, ?_⟩, fun h => absurd hends.result h, hends.regs, hends.mem⟩
    · exact (hends.fields _ (by simp)).trans (hwho.trans State.acceptor_oplTaken)
    · unfold CountsUp at hcount ⊢
      rw [hends.fields _ (by simp), hcount, State.get_oplTaken]
    · exact (hends.fields _ (by simp)).trans hstage
    · exact (hends.fields _ (by simp)).trans hcalled
    · exact (hends.fields _ (by simp)).trans hpri
    · rw [hends.opl, hmarks, State.opl_oplTaken]
  · have happly := State.oplApply_acceptIgnored (c := s.oplHostCmd (oplWord 1 i) false) hop harg i.isLt
      (hsame.trans (Bool.eq_false_of_not_eq_true h))
    obtain ⟨t, hrun, hends⟩ := completes_oplNow (ins := .opalAccept i) (l := []) hc rfl hq happly .refl (by simp) (by decide)
    rw [if_neg h]
    have hkept : ∀ g ∈ [OPL_STAT.STAGE, OPL_CALLED.ENG], t.get g = s.get g := fun g hg =>
      (hends.fields g (by revert g; decide)).trans State.get_oplTaken
    exact ⟨t, hrun, hends.result, fun h => absurd (hends.result.symm.trans h) (by decide),
      fun _ => ⟨hkept _ (by simp), hkept _ (by simp)⟩, hends.regs, hends.mem⟩

end

section
variable {s z : State}

/-! ### The calling process in the beat of work (R244 to R246, R250) -/

/-- The accepted marks of the offers open now; in ACCEPTED a new offer of no higher priority is marked as it opens (R250). -/
def State.marks (s : State) : List Nat :=
  let acc := s.opl.accepted.filter (s.openOffers.map (·.id)).contains
  if s.stage == 7 then
    acc ++ ((s.openOffers.filter (fun o => !s.opl.offers.contains o.id)).filter (fun o => o.pri ≥ s.opl.pri && !o.all)).map (·.id)
  else acc

/-- Open offers without an accepted mark. -/
def State.unmarked (s : State) : List Offer := s.openOffers.filter (fun o => !s.marks.contains o.id)

/-- The open offers are formed, and the process priority follows them (R245). -/
def State.offersFormed (s : State) : State :=
  let z := State.shows { s with opl := { s.opl with offers := s.openOffers.map (·.id), accepted := s.marks } } OPL_STAT.PPRI
    (topPri s.unmarked)
  if topPri s.unmarked != 0 && z.opl.pri != topPri s.unmarked then { z with opl := { z.opl with pri := topPri s.unmarked } } else z

/-- The attend time is over: every mark is removed (R250). -/
def State.unattended (s z : State) : State :=
  State.put { z with opl := { z.opl with accepted := [], pri := topPri s.openOffers } } OPL_STAT.PPRI (topPri s.openOffers)

/-- The process, its offers open, goes on by its rules. -/
def State.advanced (s z : State) : State :=
  if s.unmarked.any (·.all) then (if s.stage == 6 then z else (if s.stage == 7 then z.uncall else z).enterAll)
  else if s.stage == 0 then (if s.unmarked.isEmpty then z else escalateDue 7 (z.setStage 1))
  else if s.stage == 7 then
    if !s.unmarked.isEmpty then z.enterDuty
    else if z.opl.time ≥ z.tattOf z.opl.pri then
      if s.openOffers.any (·.all) then (s.unattended z).enterAll else (s.unattended z).enterDuty
    else z
  else escalateDue 7 z

/-- A change of a calling stage or of the engineers called sends a call telegram (R255). -/
def State.callShown (s z : State) : State :=
  if (z.showStations.stage, z.showStations.called) != (s.stage, s.called) && calling z.showStations.stage then z.showStations.sendCall
  else z.showStations

theorem State.callingStep_eq : s.callingStep = if s.openOffers.isEmpty then (if s.stage == 0 then s.offersFormed else s.offersFormed.toIdle)
    else s.callShown (s.advanced s.offersFormed) := rfl

theorem State.stage_callShown : (s.callShown z).stage = z.stage := by
  have hsta : z.showStations.stage = z.stage := (opalWork_shows rfl).fields _ (by decide)
  unfold State.callShown
  split
  · exact ((opalWork_sendCall (l := [])).fields _ (by simp)).trans hsta
  · exact hsta

/-- While every offer is marked, the process keeps the priority whose attend time runs. -/
theorem State.opl_offersFormed (h : s.unmarked = []) :
    s.offersFormed.opl = { s.opl with offers := s.openOffers.map (·.id), accepted := s.marks } := by
  unfold State.offersFormed
  rw [h]
  exact State.opl_shows

/-- An attendance that has run out calls again (R250). -/
theorem State.calling_advanced (h : s.stage = 7) (hdue : s.tattOf s.opl.pri ≤ s.opl.time) :
    calling (s.advanced s.offersFormed).stage = true := by
  have hduty : ∀ z : State, calling z.enterDuty.stage = true := fun z => by rw [State.stage_enterDuty]; rfl
  have hall : ∀ z : State, calling z.enterAll.stage = true := fun z => by rw [State.stage_enterAll]; rfl
  unfold State.advanced
  by_cases hany : s.unmarked.any (·.all) = true
  · rw [if_pos hany, if_neg (by simp [h])]
    exact hall _
  · rw [if_neg hany, if_neg (by simp [h]), if_pos (by simp [h])]
    by_cases hleft : s.unmarked = []
    · have htime : s.offersFormed.opl.time ≥ s.offersFormed.tattOf s.offersFormed.opl.pri := by
        unfold State.tattOf State.opalHead at hdue ⊢
        rw [State.opl_offersFormed hleft]
        exact hdue
      rw [if_neg (by simp [hleft]), if_pos htime]
      split
      · exact hall _
      · exact hduty _
    · rw [if_pos (by simpa using hleft)]
      exact hduty _

theorem State.callingStep_ended (h : s.stage = 7) (hl : s.openOffers = []) : s.callingStep.stage = 0 := by
  rw [State.callingStep_eq, if_pos (by simp [hl]), if_neg (by simp [h])]
  exact State.toIdle_shows.1

theorem State.callingStep_again (h : s.stage = 7) (hl : s.openOffers ≠ []) (hdue : s.tattOf s.opl.pri ≤ s.opl.time) :
    calling s.callingStep.stage = true := by
  rw [State.callingStep_eq, if_neg (by simpa using hl), State.stage_callShown]
  exact State.calling_advanced h hdue

/-! ### The dead-man timer (R253) -/

/-- With neither ONCELL's fall nor a reset, a dead-man state that has lasted its time ends. -/
theorem State.deadman_due (hen : s.dmen = true)
    (h : s.dmst = 1 ∧ s.dmt ≤ s.opl.dmTime ∨ s.dmst = 2 ∧ s.dmpre ≤ s.opl.dmTime) : s.deadman true false false = s.dmSet (s.dmst + 1) := by
  unfold State.deadman
  rcases h with ⟨hst, hdue⟩ | ⟨hst, hdue⟩
  · simp [hen, hst, hdue, State.dmEnd, State.dmSet]
  · simp [hen, hst, hdue, State.dmEnd, State.dmSet]

theorem State.deadman_off {on on1 rst : Bool} (h : s.dmen = false ∨ on = false) : (s.deadman on on1 rst).dmst = 0 := by
  have hoff : s.deadman on on1 rst = if s.dmst == 0 then s else s.dmSet 0 := if_pos (by simpa using h)
  rw [hoff]
  split
  · next h0 => exact beq_iff_eq.mp h0
  · exact State.dmst_dmSet (by decide)

/-- In PREWARN the output of station DMSTA follows the half periods. -/
theorem State.staMask_prewarn (hon : s.opalOn = true) (h : s.dmst = 2) :
    bit s.staMask (fld (s.opalHead 7) 34 32) = decide (s.opl.dmTime / 500000 % 2 = 0) := by
  unfold State.staMask
  rw [if_neg (by simp [hon]), if_pos (by simp [h]), bit_setBit_same]
  rfl

/-! ### The rows of the running times (R246, R250, R253) -/

/-- A row that is the next beat where something is due. -/
theorem isBeatIf_of_act {ins : Instr} (hup : s.up = true) (due : State → Bool)
    (hrun : exec ins s = act s (fun z => z.beatIf (due z))) : IsBeatIf ins (due s) s :=
  isBeatIf_of_exec hup (hrun.trans (act_up hup))

end

/-- Settles O40. A command leaves what its operation wrote, as what follows shows other fields; a call ends by one and the same work; the
stage grows with every branch of the escalation. -/
theorem opalCommandsAndTimers : Obligations.OpalCommandsAndTimers := by
  unfold Obligations.OpalCommandsAndTimers
  intro s hc
  have hup := hc.1
  refine ⟨completes_setDuty hc, completes_setAway hc, completes_deadmanReset hc, completes_cancel hc, completes_accept hc,
    isBeatIf_of_act hup (fun z => z.stageOver && z.stage != 7) rfl, isBeatIf_of_act hup (fun z => z.stageOver && z.stage == 7) rfl,
    isBeatIf_of_act hup (fun z => z.dmOver 1) rfl, isBeatIf_of_act hup (fun z => z.dmOver 2) rfl,
    isBeatIf_of_act hup State.blinkOver rfl, State.stage_escalate, fun h => ⟨State.callingStep_ended h, State.callingStep_again h⟩, fun hen hst hdue => ?_, fun hen hst hdue => ?_,
    fun _ _ _ => State.deadman_off, State.staMask_prewarn⟩
  · rw [State.deadman_due hen (.inl ⟨hst, hdue⟩), hst]
    exact ⟨State.dmst_dmSet (by decide), State.dmTime_dmSet⟩
  · rw [State.deadman_due hen (.inr ⟨hst, hdue⟩), hst]
    exact State.dmst_dmSet (by decide)

end Sys2Proof.Machine

namespace Sys2Proof.Machine

open Sys2Proof

/-! ## Loop outputs (R267, R272, R273, R278 to R280) -/

section
variable {s t u : State} {P : State → Prop} {ins : Instr} {f g : Fld} {a i n v k row : Nat} {w : Word} {x : Bool} {y : LoS} {l l' : List Nat}

/-- A row of the running node ends in what its work leaves. -/
theorem completes_of_act {work : State → State} (hup : s.up = true) (hrun : exec ins s = act s work) (h : P (settle (work s))) :
    Completes ins s P := ⟨_, hrun.trans (act_up hup), h⟩

/-! ### What the loop island's work writes -/

/-- Of the registers the listed ones alone are written, and no word of memory. -/
structure LoopWork (l : List Nat) (s t : State) : Prop where
  regs : RegsKeptBut l s t
  mem : MemKept s t

theorem LoopWork.trans (h : LoopWork l s t) (h' : LoopWork l t u) : LoopWork l s u := ⟨h.regs.trans h'.regs, h.mem.trans h'.mem⟩

theorem loopWork_of_eq (hr : t.regs = s.regs) (hm : t.mem = s.mem) : LoopWork l s t :=
  ⟨regsKeptBut_of_regs_eq hr, memKept_of_mem_eq hm⟩

theorem LoopWork.refl : LoopWork l s s := loopWork_of_eq rfl rfl

theorem loopWork_setLo : LoopWork l s (s.setLo n y) := loopWork_of_eq rfl rfl

theorem LoopWork.put (h : LoopWork l s t) (hf : f.addr ∈ l) : LoopWork l s (t.put f v) :=
  ⟨h.regs.put hf, h.mem.trans (memKept_of_mem_eq State.mem_put)⟩

theorem LoopWork.putB (h : LoopWork l s t) (hf : f.addr ∈ l) : LoopWork l s (t.putB f x) := h.put hf

theorem LoopWork.mono (h : LoopWork l s t) (hl : l ⊆ l') : LoopWork l' s t := ⟨fun a ha => h.regs a fun hm => ha (hl hm), h.mem⟩

theorem LoopWork.ite {q : Prop} [Decidable q] (ht : LoopWork l s t) (hu : LoopWork l s u) : LoopWork l s (if q then t else u) := by
  split
  · exact ht
  · exact hu

theorem LoopWork.foldl {α : Type} {h : State → α → State} (hh : ∀ z c, LoopWork l z (h z c)) (m : List α) : LoopWork l s (m.foldl h s) := by
  induction m generalizing s with
  | nil => exact .refl
  | cons c r ih => exact (hh s c).trans ih

theorem LoopWork.settled (h : LoopWork l s t) : LoopWork l s (settle t) :=
  ⟨fun a ha => State.reg_settle.trans (h.regs a ha), h.mem.trans allKept_settle.2⟩

theorem LoopWork.kept (h : LoopWork l s t) : RegsKeptBut l s t ∧ MemKept s t := ⟨h.regs, h.mem⟩

theorem LoopWork.get (h : LoopWork l s t) (hg : g.addr ∉ l) : t.get g = s.get g := get_of_reg_eq (h.regs _ hg)

theorem LoopWork.bitOf (h : LoopWork l s t) (hg : g.addr ∉ l) : t.bitOf g i = s.bitOf g i := bitOf_of_reg_eq (h.regs _ hg)

theorem LoopWork.allKept (h : LoopWork [] s t) : AllKept s t := ⟨fun a => h.regs a List.not_mem_nil, h.mem⟩

theorem State.loOf_of_lo_eq (h : t.lo = s.lo) : t.loOf n = s.loOf n := by
  unfold State.loOf
  rw [h]

theorem State.loOf_settle : (settle s).loOf n = s.loOf n := State.loOf_of_lo_eq State.lo_settle

theorem State.loEnt_of_cache_eq (h : t.cache = s.cache) : t.loEnt n = s.loEnt n := by
  unfold State.loEnt State.entry State.cacheOf
  rw [h]

/-! ### Phase 1: the row formed (R267, R273, R274) -/

/-- The first update takes place where the source word has been written. -/
def State.loUpdated (s : State) (n : Nat) : State :=
  if (s.loOf n).seen && ((s.loOf n).first || (s.loOf n).range) then
    s.setLo n { s.loOf n with first := false, range := false, full := (s.loOf n).range && !(s.loOf n).first }
  else s

/-- No row decides what awaits a first update or the end of a SINK change. -/
theorem State.loSetpoint_keeps : (s.loSetpoint n row).first = (s.loOf n).first ∧ (s.loSetpoint n row).range = (s.loOf n).range
    ∧ (s.loSetpoint n row).reconf = (s.loOf n).reconf := by
  unfold State.loSetpoint
  dsimp only
  split <;> exact ⟨rfl, rfl, rfl⟩

/-- What phase 1 forms for an output in use, its first update done where it is due. -/
theorem State.loForm_used (h : s.loUsed n = true) : ∃ y : LoS, s.loForm n = (s.loUpdated n).setLo n y
    ∧ y.first = ((s.loUpdated n).loOf n).first ∧ y.range = ((s.loUpdated n).loOf n).range
    ∧ y.reconf = ((s.loUpdated n).loOf n).reconf
    ∧ y.ost = some (if !(s.loUpdated n).drives then 10 else if (s.loUpdated n).faultOff n then 9 else (s.loUpdated n).loRow n) := by
  obtain ⟨hfirst, hrange, hreconf⟩ := State.loSetpoint_keeps (s := s.loUpdated n) (n := n) (row := (s.loUpdated n).loRow n)
  exact ⟨_, if_neg (by simp [h]), hfirst, hrange, hreconf, rfl⟩

theorem State.loUpdated_unseen (h : (s.loOf n).seen = false) : s.loUpdated n = s := if_neg (by simp [h])

/-- Once the source word has been written no first update is awaited. -/
theorem State.loUpdated_seen (h : (s.loOf n).seen = true) :
    ((s.loUpdated n).loOf n).first = false ∧ ((s.loUpdated n).loOf n).range = false := by
  unfold State.loUpdated
  split
  · rw [State.loOf_setLo_same]
    exact ⟨rfl, rfl⟩
  · next hno => simpa [h] using hno

theorem State.loUsed_setLo (h : y.reconf = (s.loOf n).reconf) : (s.setLo n y).loUsed n = s.loUsed n := by
  unfold State.loUsed
  rw [State.loOf_setLo_same, h]
  rfl

theorem State.loUsed_loUpdated : (s.loUpdated n).loUsed n = s.loUsed n := by
  unfold State.loUpdated
  split
  · exact State.loUsed_setLo rfl
  · rfl

theorem loopWork_loUpdated : LoopWork l s (s.loUpdated n) := .ite loopWork_setLo .refl

theorem loForm_shows (h : s.loUsed n = true) : (s.loForm n).loUsed n = true
    ∧ ((s.loOf n).seen = false → ((s.loForm n).loOf n).ost = some (if !s.drives then 10 else if s.faultOff n then 9 else s.loRow n))
    ∧ ((s.loOf n).seen = true → ((s.loForm n).loOf n).first = false ∧ ((s.loForm n).loOf n).range = false)
    ∧ AllKept s (s.loForm n) := by
  obtain ⟨y, hform, hfirst, hrange, hreconf, host⟩ := State.loForm_used h
  rw [hform, State.loOf_setLo_same, State.loUsed_setLo hreconf, State.loUsed_loUpdated]
  refine ⟨h, fun hseen => ?_, fun hseen => ?_, (loopWork_loUpdated.trans loopWork_setLo).allKept⟩
  · rw [host, State.loUpdated_unseen hseen]
  · rw [hfirst, hrange]
    exact State.loUpdated_seen hseen

/-! ### The modem's transactions end (R298, R299) -/

theorem loopWork_fskEnd {r m : Nat} : LoopWork [LO_FST n, HST_ISRC] s (s.fskEnd n r m) := by
  have hfst : LO_FST n ∈ [LO_FST n, HST_ISRC] := List.mem_cons_self
  exact ((((((loopWork_setLo.put hfst).put hfst).put hfst).put hfst).put hfst).put hfst).put (by simp)

theorem loopWork_fskFollow {was drv : Bool} : LoopWork [LO_FST n, HST_ISRC] s (s.fskFollow n was drv) := by
  have hfst : LO_FST n ∈ [LO_FST n, HST_ISRC] := List.mem_cons_self
  have hcancel : LoopWork [LO_FST n, HST_ISRC] s (s.fskCancel n) := .foldl (fun _ _ => loopWork_fskEnd) _
  exact .ite (.ite .refl (loopWork_setLo.put hfst)) (hcancel.put hfst)

/-! ### Phase 2: the row shown (R267) -/

/-- The registers of an output show its row, its setpoint and what goes with them. -/
def State.rowShown (s : State) (n k setpt : Nat) (shdw trim lim drv : Bool) : State :=
  ((((((s.put (LO_OST.OSTATE n) k).put (LO_OST.SETPT n) setpt).putB (LO_OST.SHDW n) shdw).putB (LO_OST.TRIM n) trim).putB
    (LO_OST.LIMIT n) lim).putBit LO_STAT.DRV n drv).putB (LO_RB.DRV n) drv

theorem State.loShow_some (h : (s.loOf n).ost = some k) : ∃ y setpt shdw trim lim,
    s.loShow n = ((s.setLo n y).rowShown n k setpt shdw trim lim (decide (1 ≤ k) && decide (k ≤ 8))).fskFollow n
      (s.bitOf LO_STAT.DRV n) (decide (1 ≤ k) && decide (k ≤ 8)) := by
  unfold State.loShow
  simp only [h]
  exact ⟨_, _, _, _, _, rfl⟩

section
variable {setpt : Nat} {shdw trim lim drv : Bool}

theorem loopWork_rowShown : LoopWork [LO_OST n, LO_RB n, LO_STAT] s (s.rowShown n k setpt shdw trim lim drv) := by
  have host : LO_OST n ∈ [LO_OST n, LO_RB n, LO_STAT] := List.mem_cons_self
  exact ((((((LoopWork.refl.put host).put host).put host).put host).put host).put (by simp)).put (by simp)

theorem State.ostate_rowShown (hk : k < 16) : (s.rowShown n k setpt shdw trim lim drv).get (LO_OST.OSTATE n) = k := by
  have hapart : ∀ q : State, ((q.putBit LO_STAT.DRV n drv).putB (LO_RB.DRV n) drv).get (LO_OST.OSTATE n) = q.get (LO_OST.OSTATE n) := fun q =>
    (State.get_putB_other rfl (by simp [Fld.apart])).trans (State.get_putBit_other rfl (by simp [Fld.apart]))
  unfold State.rowShown
  rw [hapart, State.get_putB_other rfl (by simp [Fld.apart]), State.get_putB_other rfl (by simp [Fld.apart]),
    State.get_putB_other rfl (by simp [Fld.apart]), State.get_put_other rfl (by simp [Fld.apart]), State.get_put_same rfl]
  exact Nat.mod_eq_of_lt hk

theorem State.drv_rowShown (hn : n < 16) : (s.rowShown n k setpt shdw trim lim drv).bitOf LO_STAT.DRV n = drv :=
  (bitOf_of_reg_eq (State.reg_putB_other (by simp; omega))).trans (State.bitOf_putBit_same rfl hn)

end

theorem loShow_shows (n : Fin 16) (hk : k ≤ 10) (h : (s.loOf n).ost = some k) : (s.loShow n).get (LO_OST.OSTATE n) = k
    ∧ (s.loShow n).bitOf LO_STAT.DRV n = (decide (1 ≤ k) && decide (k ≤ 8)) ∧ RegsKeptBut (loopRegs n) s (s.loShow n)
    ∧ MemKept s (s.loShow n) := by
  obtain ⟨y, setpt, shdw, trim, lim, hshow⟩ := State.loShow_some h
  have hn := n.isLt
  rw [hshow]
  refine ⟨?_, ?_, LoopWork.kept (((loopWork_setLo (y := y)).trans (loopWork_rowShown.mono ?_)).trans (loopWork_fskFollow.mono ?_))⟩
  · exact (loopWork_fskFollow.get (by simp [HST_ISRC]; omega)).trans (State.ostate_rowShown (by omega))
  · exact (loopWork_fskFollow.bitOf (by simp [HST_ISRC, LO_FST]; omega)).trans (State.drv_rowShown hn)
  · simp [loopRegs]
  · simp [loopRegs]

/-! ### RHOLD and the change of SINK run out (R272, R273) -/

theorem loopRholdExpiry_due (hup : s.up = true) (n : Fin 16) (hwait : (s.loOf n).first = true ∨ (s.loOf n).range = true)
    (hseen : (s.loOf n).seen = false) (hdue : (s.loEnt n).rhold ≤ s.since (s.loOf n).adoptAt) :
    Completes (.loopRholdExpiry n) s (fun t => (t.loOf n).seen = true ∧ AllKept s t) := by
  have hend : s.rholdEnd n = s.setLo n { s.loOf n with seen := true } := if_pos (by simp [hwait, hseen, hdue])
  refine completes_of_act (work := fun z => z.rholdEnd n) hup rfl ?_
  rw [hend, State.loOf_settle, State.loOf_setLo_same]
  exact ⟨rfl, loopWork_setLo.settled.allKept⟩

theorem loopRholdExpiry_early (hup : s.up = true) (n : Fin 16) (hdue : s.since (s.loOf n).adoptAt < (s.loEnt n).rhold) :
    Completes (.loopRholdExpiry n) s (fun t => t.lo = s.lo ∧ AllKept s t) := by
  have hwait : s.rholdEnd n = s := if_neg (by simp [hdue])
  refine completes_of_act (work := fun z => z.rholdEnd n) hup rfl ?_
  rw [hwait]
  exact ⟨rfl, allKept_settle⟩

theorem sinkChangeHoldEnd_due (hup : s.up = true) (n : Fin 16) (hreconf : (s.loOf n).reconf = true)
    (hdue : 10000 ≤ s.since (s.loOf n).adoptAt) :
    Completes (.sinkChangeHoldEnd n) s (fun t => (t.loOf n).reconf = false ∧ AllKept s t) := by
  have hend : s.reconfEnd n = s.setLo n { s.loOf n with reconf := false } := if_pos (by simp [hreconf, hdue])
  refine completes_of_act (work := fun z => z.reconfEnd n) hup rfl ?_
  rw [hend, State.loOf_settle, State.loOf_setLo_same]
  exact ⟨rfl, loopWork_setLo.settled.allKept⟩

theorem sinkChangeHoldEnd_early (hup : s.up = true) (n : Fin 16) (hdue : s.since (s.loOf n).adoptAt < 10000) :
    Completes (.sinkChangeHoldEnd n) s (fun t => t.lo = s.lo ∧ AllKept s t) := by
  have hwait : s.reconfEnd n = s := if_neg (by simp [hdue])
  refine completes_of_act (work := fun z => z.reconfEnd n) hup rfl ?_
  rw [hwait]
  exact ⟨rfl, allKept_settle⟩

/-! ### The readback (R278) -/

/-- What a change of a table's entries keeps of each, it keeps of the entry read. -/
theorem Tbl.getD_map_keeps {α β : Type} (p : α → β) (h : Nat × α → Nat × α) (hkey : ∀ c, (h c).1 = c.1) (hval : ∀ c, p (h c).2 = p c.2)
    (m : Tbl α) (d : α) : p (Tbl.getD (m.map h) k d) = p (Tbl.getD m k d) := by
  induction m with
  | nil => rfl
  | cons c r ih =>
    unfold Tbl.getD at ih ⊢
    simp only [List.map_cons, Tbl.get?, hkey]
    split
    · exact hval c
    · exact ih

/-- The outputs that see a mirror word written keep their measured currents. -/
theorem State.meas_publish : ((s.publish i w).loOf n).meas = (s.loOf n).meas :=
  Tbl.getD_map_keeps LoS.meas _ (fun c => by split <;> rfl) (fun c => by split <;> rfl) s.lo LoS.fresh

theorem State.loWord_publish : (s.publish i w).loWord n = s.loWord n := by
  unfold State.loWord
  rw [State.meas_publish]
  rfl

/-- What a measurement shows in the readback register. -/
def State.rbShown (s : State) (n : Nat) (cur : Int) (vld vterm : Nat) (neg live : Bool) : State :=
  ((((s.setLo n { s.loOf n with meas := cur }).put (LO_RB.VLD n) vld).put (LO_RB.VTERM n) vterm).putB (LO_RB.NEG n) neg).putB
    (LO_RB.LIVE n) live

section
variable {cur : Int} {vld vterm : Nat} {neg live : Bool}

theorem loopWork_rbShown : LoopWork [LO_RB n] s (s.rbShown n cur vld vterm neg live) := by
  have hrb : LO_RB n ∈ [LO_RB n] := List.mem_cons_self
  exact (((loopWork_setLo.put hrb).put hrb).put hrb).put hrb

theorem State.rbShown_shows (hvld : vld < 2 ^ 12) (hvterm : vterm < 2 ^ 12) : (s.rbShown n cur vld vterm neg live).get (LO_RB.VLD n) = vld
    ∧ (s.rbShown n cur vld vterm neg live).get (LO_RB.VTERM n) = vterm ∧ (s.rbShown n cur vld vterm neg live).flag (LO_RB.NEG n) = neg
    ∧ (s.rbShown n cur vld vterm neg live).flag (LO_RB.LIVE n) = live := by
  unfold State.rbShown
  refine ⟨?_, ?_, ?_, State.flag_putB_same rfl⟩
  · rw [State.get_putB_other rfl (by simp [Fld.apart]), State.get_putB_other rfl (by simp [Fld.apart]),
      State.get_put_other rfl (by simp [Fld.apart]), State.get_put_same rfl]
    exact Nat.mod_eq_of_lt hvld
  · rw [State.get_putB_other rfl (by simp [Fld.apart]), State.get_putB_other rfl (by simp [Fld.apart]), State.get_put_same rfl]
    exact Nat.mod_eq_of_lt hvterm
  · rw [State.flag_putB_other rfl (by simp [Fld.apart]), State.flag_putB_same rfl]

theorem State.meas_rbShown : ((s.rbShown n cur vld vterm neg live).loOf n).meas = cur := by
  have hlo : (s.rbShown n cur vld vterm neg live).lo = (s.setLo n { s.loOf n with meas := cur }).lo := rfl
  rw [State.loOf_of_lo_eq hlo, State.loOf_setLo_same]

/-- A measurement is shown in the readback register, and the readback word published. -/
theorem State.readback_eq : s.readback n cur vld vterm neg
    = (s.rbShown n cur vld vterm neg (decide (orElse ((s.loEnt n).f 11 35 24) 50 ≤ vld))).loPublish n := by
  have hent : ((((s.setLo n { s.loOf n with meas := cur }).put (LO_RB.VLD n) vld).put (LO_RB.VTERM n) vterm).putB (LO_RB.NEG n) neg).loEnt n
      = s.loEnt n := State.loEnt_of_cache_eq (by simp)
  unfold State.readback State.rbShown
  dsimp only
  rw [hent]

end

theorem State.meas_loPublish : ((s.loPublish n).loOf i).meas = (s.loOf i).meas := by
  unfold State.loPublish
  split
  · exact State.meas_publish
  · rfl

theorem State.reg_loPublish : (s.loPublish n).reg a = s.reg a := by
  unfold State.loPublish
  split
  · exact State.reg_publish
  · rfl

theorem State.loWord_loPublish : (s.loPublish n).loWord i = s.loWord i := by
  unfold State.loPublish
  split
  · exact State.loWord_publish
  · rfl

/-- With the island alive the mirror word shows the readback word; without, no memory is written. -/
theorem State.loPublish_writes (h : s.pstate ≠ 6) : (s.alive 16 = true → (s.loPublish n).mirror (0o200 + n) = s.loWord n)
    ∧ SramKeptBut (if s.alive 16 then [0o00400200 + n] else []) s (s.loPublish n) ∧ MramKept s (s.loPublish n) := by
  have haddr : 0o00400000 + (0o200 + n) = 0o00400200 + n := by omega
  have hshow : MirrorShows (0o200 + n) (s.loWord n) s (s.publish (0o200 + n) (s.loWord n)) := mirrorShows_publish (.inl h)
  unfold State.loPublish
  by_cases halive : s.alive 16 = true
  · obtain ⟨hword, hsram, hmram⟩ := hshow
    rw [haddr] at hsram
    rw [if_pos halive, if_pos halive]
    exact ⟨fun _ => hword, hsram, hmram⟩
  · rw [if_neg halive]
    exact ⟨fun h => absurd h halive, fun _ _ => ⟨rfl, rfl⟩, fun _ => ⟨rfl, rfl⟩⟩

/-- A measurement of the stage that falls due (R278): 1000 beats, from phase 2 on. -/
theorem loopReadback_shows (hup : s.up = true) (n : Fin 16) (cur : BitVec 32) (vld vterm : BitVec 12) (neg : Bool) (hps : s.pstate ≠ 6)
    (husec : s.t.usec % 1000 = 0) (hphase : 2 ≤ s.t.phase) : Completes (.loopReadback n cur vld vterm neg) s (fun t =>
      (t.loOf n).meas = cur.toInt ∧ t.get (LO_RB.VLD n) = vld.toNat ∧ t.get (LO_RB.VTERM n) = vterm.toNat
      ∧ t.flag (LO_RB.NEG n) = neg ∧ t.flag (LO_RB.LIVE n) = decide (orElse ((s.loEnt n).f 11 35 24) 50 ≤ vld.toNat)
      ∧ (s.alive 16 = true → t.mirror (0o200 + n) = t.loWord n) ∧ RegsKeptBut [LO_RB n] s t
      ∧ SramKeptBut (if s.alive 16 then [0o00400200 + n] else []) s t ∧ MramKept s t) := by
  have hph : 2 ≤ s.ph := le_min hphase (by decide)
  refine completes_of_act (work := fun z => if z.t.usec % 1000 == 0 && 2 ≤ z.ph then z.readback n cur.toInt vld.toNat vterm.toNat neg else z)
    hup rfl ?_
  rw [if_pos (by simp [husec, hph]), State.readback_eq]
  generalize decide (orElse ((s.loEnt n).f 11 35 24) 50 ≤ vld.toNat) = live
  obtain ⟨hvld, hvterm, hneg, hlive⟩ := State.rbShown_shows (s := s) (n := n) (cur := cur.toInt) (neg := neg) (live := live) vld.isLt
    vterm.isLt
  have hwork : LoopWork [LO_RB n] s (s.rbShown n cur.toInt vld.toNat vterm.toNat neg live) := loopWork_rbShown
  have hmeas : ((s.rbShown n cur.toInt vld.toNat vterm.toNat neg live).loOf n).meas = cur.toInt := State.meas_rbShown
  generalize s.rbShown n cur.toInt vld.toNat vterm.toNat neg live = u at *
  have hrb : SYS_ISTAT ∉ [LO_RB n.val] ∧ JL_STAT ∉ [LO_RB n.val] := by
    simp only [List.mem_singleton, SYS_ISTAT, JL_STAT, LO_RB]
    omega
  have halive : u.alive 16 = s.alive 16 := hwork.bitOf hrb.1
  obtain ⟨hmirror, hsram, hmram⟩ := State.loPublish_writes (s := u) (n := n) (fun h => hps ((hwork.get hrb.2).symm.trans h))
  rw [halive] at hmirror hsram
  have hreg : ∀ a, (settle (u.loPublish n)).reg a = u.reg a := fun _ => State.reg_settle.trans State.reg_loPublish
  refine ⟨?_, (get_of_reg_eq (hreg _)).trans hvld, (get_of_reg_eq (hreg _)).trans hvterm, (flag_of_reg_eq (hreg _)).trans hneg,
    (flag_of_reg_eq (hreg _)).trans hlive, fun h => ?_, fun a ha => (hreg a).trans (hwork.regs a ha), ?_, ?_⟩
  · rw [State.loOf_settle, State.meas_loPublish, hmeas]
  · calc (settle (u.loPublish n)).mirror (0o200 + n) = (u.loPublish n).mirror (0o200 + n) := State.mirror_of_mem_eq State.mem_settle
      _ = u.loWord n := hmirror h
      _ = (settle (u.loPublish n)).loWord n := State.loWord_loPublish.symm
  · exact (hwork.mem.sramKeptBut.trans hsram).trans allKept_settle.2.sramKeptBut
  · exact (hwork.mem.2.trans hmram).trans allKept_settle.2.2

/-! ### Faults of the stage (R279, R280) -/

theorem loFault_facts {f : Nat} : (loFault n f).ok = true ∧ (loFault n f).addr = LO_OST n := by
  unfold loFault
  split <;> exact ⟨rfl, rfl⟩

/-- A fault's flag takes a value. -/
theorem loFault_put {f : Nat} : (settle (s.putB (loFault n f) x)).flag (loFault n f) = x
    ∧ RegsKeptBut [LO_OST n] s (settle (s.putB (loFault n f) x)) ∧ MemKept s (settle (s.putB (loFault n f) x)) := by
  obtain ⟨hok, haddr⟩ := loFault_facts (n := n) (f := f)
  exact ⟨State.flag_settle.trans (State.flag_putB_same hok),
    ((LoopWork.refl (l := [LO_OST n])).putB (List.mem_singleton.mpr haddr)).settled.kept⟩

section
variable {n : Fin 16} {fault : Fin 6} {cur : BitVec 32} {held : BitVec 24}

theorem loopFaultRaise_met (hup : s.up = true) (hreverse : fault.val = 1 → s.loUsed n = true ∧ (s.loEnt n).sink = true)
    (hdrv : fault.val ≠ 1 → s.bitOf LO_STAT.DRV n = true) (hmiswire : fault.val = 0 → (s.loEnt n).sink = false)
    (hdev : fault.val = 5 → s.flag (LO_OST.OPEN n) = false)
    (hsettled : fault.val = 2 ∨ fault.val = 5 → 40000 + s.faultTime n fault ≤ s.since (s.loOf n).chgAt)
    (htest : s.faultTest n fault cur.toInt = true) (htime : s.faultTime n fault ≤ held.toNat) :
    Completes (.loopFaultRaise n ⟨fault, cur, held⟩) s (fun t => t.flag (loFault n fault) = true ∧ RegsKeptBut [LO_OST n] s t ∧ MemKept s t) := by
  have hraise : s.faultRaise n fault cur.toInt held.toNat = s.putB (loFault n fault) true := by
    refine if_pos ?_
    rw [htest, decide_eq_true htime, Bool.and_true, Bool.and_true, Bool.and_eq_true]
    constructor
    · by_cases h1 : fault.val = 1
      · simp [h1, hreverse h1]
      · by_cases h0 : fault.val = 0
        · simp [h0, hdrv h1, hmiswire h0]
        · by_cases h5 : fault.val = 5
          · simp [h5, hdrv h1, hdev h5]
          · simp [h1, h0, h5, hdrv h1]
    · split
      · next h => exact decide_eq_true (hsettled (by simpa using h))
      · rfl
  refine completes_of_act (work := fun z => z.faultRaise n fault cur.toInt held.toNat) hup rfl ?_
  rw [hraise]
  exact loFault_put

theorem loopFaultRaise_unmet (hup : s.up = true) (h : s.faultTest n fault cur.toInt = false ∨ held.toNat < s.faultTime n fault) :
    Completes (.loopFaultRaise n ⟨fault, cur, held⟩) s (AllKept s) := by
  have hno : s.faultRaise n fault cur.toInt held.toNat = s := if_neg (by
    rcases h with h | h
    · simp [h]
    · simp [Nat.not_le.mpr h])
  refine completes_of_act (work := fun z => z.faultRaise n fault cur.toInt held.toNat) hup rfl ?_
  rw [hno]
  exact allKept_settle

theorem loopFaultClear_kept (hup : s.up = true) (h : fault.val = 0 ∨ held.toNat < 100000) :
    Completes (.loopFaultClear n ⟨fault, held⟩) s (AllKept s) := by
  have hno : s.faultClear n fault held.toNat = s := if_pos (by simpa using h)
  refine completes_of_act (work := fun z => z.faultClear n fault held.toNat) hup rfl ?_
  rw [hno]
  exact allKept_settle

theorem loopFaultClear_cleared (hup : s.up = true) (h0 : fault.val ≠ 0) (h : 100000 ≤ held.toNat) :
    Completes (.loopFaultClear n ⟨fault, held⟩) s (fun t => t.flag (loFault n fault) = false ∧ RegsKeptBut [LO_OST n] s t ∧ MemKept s t) := by
  have hclear : s.faultClear n fault held.toNat = s.putB (loFault n fault) false := if_neg (by simp [h0, h])
  refine completes_of_act (work := fun z => z.faultClear n fault held.toNat) hup rfl ?_
  rw [hclear]
  exact loFault_put

end

/-- A retest keeps MISWIRE where its test was met again, and clears it otherwise (R280). -/
theorem miswireRetestEnd_decides (hup : s.up = true) (n : Fin 16) (again : Bool) (hretest : (s.loOf n).retest = true)
    (hdue : 10000 ≤ s.since (s.loOf n).retestAt) : Completes (.miswireRetestEnd n again) s (fun t => (t.loOf n).retest = false
      ∧ t.flag (LO_OST.MISWIRE n) = (again && s.flag (LO_OST.MISWIRE n)) ∧ RegsKeptBut [LO_OST n] s t ∧ MemKept s t) := by
  have hend : s.retestEnd n again = if again then s.setLo n { s.loOf n with retest := false }
      else (s.setLo n { s.loOf n with retest := false }).putB (LO_OST.MISWIRE n) false := if_pos (by simp [hretest, hdue])
  have hover : ((s.setLo n { s.loOf n with retest := false }).loOf n).retest = false := by rw [State.loOf_setLo_same]
  have hflag : (s.setLo n { s.loOf n with retest := false }).flag (LO_OST.MISWIRE n) = s.flag (LO_OST.MISWIRE n) := State.flag_setLo
  have hwork : LoopWork [LO_OST n] s (s.setLo n { s.loOf n with retest := false }) := loopWork_setLo
  generalize s.setLo n { s.loOf n with retest := false } = z at *
  refine completes_of_act (work := fun z => z.retestEnd n again) hup rfl ?_
  rw [hend]
  cases again with
  | true =>
    rw [if_pos rfl, State.loOf_settle, State.flag_settle]
    exact ⟨hover, hflag, hwork.settled.kept⟩
  | false =>
    rw [if_neg Bool.false_ne_true, State.loOf_settle, State.flag_settle, State.loOf_of_lo_eq State.lo_putB, State.flag_putB_same rfl]
    exact ⟨hover, rfl, (hwork.putB (List.mem_singleton.mpr rfl)).settled.kept⟩

end

/-- Settles O41. The row formed leaves what awaits a first update; what shows a row and a readback writes the output's own registers; a fault
is raised and cleared by one flag. -/
theorem loopOutputsFollowTheirRows : Obligations.LoopOutputsFollowTheirRows := by
  unfold Obligations.LoopOutputsFollowTheirRows
  intro s n hup
  exact ⟨loForm_shows, fun _ hk h => loShow_shows n hk h,
    fun hwait hseen => ⟨loopRholdExpiry_due hup n hwait hseen, loopRholdExpiry_early hup n⟩,
    fun hreconf => ⟨sinkChangeHoldEnd_due hup n hreconf, sinkChangeHoldEnd_early hup n⟩,
    loopReadback_shows hup n,
    fun _ _ _ => loopFaultRaise_met hup, fun _ _ _ => loopFaultRaise_unmet hup,
    fun _ _ => ⟨loopFaultClear_kept hup, loopFaultClear_cleared hup⟩,
    miswireRetestEnd_decides hup n⟩

end Sys2Proof.Machine

namespace Sys2Proof.Machine

open Sys2Proof

/-! ## The FSK modem (R289 to R298) -/

section
variable {s t z : State} {f : Fld} {a k len n r m : Nat} {l : List Nat} {words : List Word} {c : FskT} {q : List FskT}

/-- The modem's status stands in a register of its own. -/
theorem loFst_apart (hn : n < 16) : LO_FST n ≠ HST_ISRC ∧ LO_FST n ≠ LO_FRES := by
  simp only [LO_FST, HST_ISRC, LO_FRES]
  omega

/-- A read of words without an error pattern changes nothing. -/
theorem State.sramFetch_clean (h : ∀ a ∈ l, s.sramPoison a = false) : s.sramFetch k l = s := by
  unfold State.sramFetch
  rw [List.filter_eq_nil_iff.mpr fun a ha => by simp [h a ha]]
  rfl

/-! ### Requests (R297) -/

theorem State.sramFetch_put {v : Nat} (hclean : s.sramPoison a = false) : (s.put f v).sramFetch k [a] = s.put f v :=
  State.sramFetch_clean fun b hb => by rw [((memKept_of_mem_eq State.mem_put).1 b).2, List.mem_singleton.mp hb, hclean]

theorem State.fskRequest_starting (hclean : s.sramPoison (s.get LO_FTXA.ADDR) = false) (happ : s.life.applied = false) :
    s.fskRequest n len = s.put LO_FRES.RESULT 6 := by
  unfold State.fskRequest
  simp [happ, State.sramFetch_put hclean]

/-- A request that meets the rules joins the queue. -/
def State.fskQueued (s : State) (n len : Nat) : State :=
  ((s.put LO_FRES.RESULT 0).setLo n { s.loOf n with fq := (s.loOf n).fq ++ [⟨s.get LO_FTXA.ADDR, s.get LO_FRXA.ADDR, len⟩] }).put
    (LO_FST.QD n) ((s.loOf n).fq.length + 1)

/-- A request queued starts an idle modem (R297, R298). -/
def State.fskTaken (s : State) (n len : Nat) : State :=
  if (s.fskQueued n len).get (LO_FST.MSTATE n) == 0 then (s.fskQueued n len).put (LO_FST.MSTATE n) 1 else s.fskQueued n len

/-- A request that no rule refuses is taken. -/
theorem State.fskRequest_taken (hclean : s.sramPoison (s.get LO_FTXA.ADDR) = false) (happ : s.life.applied = true)
    (hen : (s.loEnt n).fsken = true) (h0 : s.get (LO_OST.OSTATE n) ≠ 0) (h9 : s.get (LO_OST.OSTATE n) ≠ 9) (h10 : s.get (LO_OST.OSTATE n) ≠ 10)
    (htx : inFree (s.get LO_FTXA.ADDR) (ceilDiv len 4) = true) (hrx : inFree (s.get LO_FRXA.ADDR) 66 = true) (h4 : 4 ≤ len) (h263 : len ≤ 263)
    (hdelim : s.bufByte (s.get LO_FTXA.ADDR) 0 = 0x02 ∨ s.bufByte (s.get LO_FTXA.ADDR) 0 = 0x82) (hroom : (s.loOf n).fq.length < 4) :
    s.fskRequest n len = s.fskTaken n len := by
  have hlen : ¬(len < 4 ∨ 263 < len) := by omega
  have hbyte : ¬(s.bufByte (s.get LO_FTXA.ADDR) 0 ≠ 0x02 ∧ s.bufByte (s.get LO_FTXA.ADDR) 0 ≠ 0x82) := by tauto
  unfold State.fskRequest State.fskTaken State.fskQueued State.fskQd
  simp [happ, hen, h0, h9, h10, htx, hrx, hlen, hbyte, Nat.not_le.mpr hroom, State.sramFetch_put hclean]

theorem loopWork_fskQueued : LoopWork [LO_FRES, LO_FST n] s (s.fskQueued n len) :=
  ((LoopWork.refl.put (by simp)).trans loopWork_setLo).put (by simp)

theorem State.fskQueued_shows (hn : n < 16) (hroom : (s.loOf n).fq.length < 4) : (s.fskQueued n len).get LO_FRES.RESULT = 0
    ∧ ((s.fskQueued n len).loOf n).fq = (s.loOf n).fq ++ [⟨s.get LO_FTXA.ADDR, s.get LO_FRXA.ADDR, len⟩]
    ∧ (s.fskQueued n len).get (LO_FST.QD n) = (s.loOf n).fq.length + 1
    ∧ (s.fskQueued n len).get (LO_FST.MSTATE n) = s.get (LO_FST.MSTATE n) := by
  have hres : LO_FST n ≠ LO_FRES := (loFst_apart hn).2
  unfold State.fskQueued
  refine ⟨?_, ?_, ?_, ?_⟩
  · rw [State.get_put_other rfl (by simp [Fld.apart, hres.symm]), State.get_setLo, State.get_put_same rfl]
    rfl
  · rw [State.loOf_of_lo_eq State.lo_put, State.loOf_setLo_same]
  · rw [State.get_put_same rfl]
    exact Nat.mod_eq_of_lt (show _ < 8 by omega)
  · rw [State.get_put_other rfl (by simp [Fld.apart]), State.get_setLo, State.get_put_other rfl (by simp [Fld.apart, hres])]

theorem State.fskTaken_shows (hn : n < 16) (hroom : (s.loOf n).fq.length < 4) : (s.fskTaken n len).get LO_FRES.RESULT = 0
    ∧ ((s.fskTaken n len).loOf n).fq = (s.loOf n).fq ++ [⟨s.get LO_FTXA.ADDR, s.get LO_FRXA.ADDR, len⟩]
    ∧ (s.fskTaken n len).get (LO_FST.QD n) = (s.loOf n).fq.length + 1
    ∧ (s.fskTaken n len).get (LO_FST.MSTATE n) = (if s.get (LO_FST.MSTATE n) = 0 then 1 else s.get (LO_FST.MSTATE n))
    ∧ LoopWork [LO_FRES, LO_FST n] s (s.fskTaken n len) := by
  obtain ⟨hresult, hfq, hqd, hmstate⟩ := State.fskQueued_shows (len := len) hn hroom
  have hwork : LoopWork [LO_FRES, LO_FST n] s (s.fskQueued n len) := loopWork_fskQueued
  unfold State.fskTaken
  rw [hmstate]
  by_cases hidle : s.get (LO_FST.MSTATE n) = 0
  · rw [if_pos (by simp [hidle]), if_pos hidle, State.loOf_of_lo_eq State.lo_put]
    refine ⟨?_, hfq, ?_, ?_, hwork.put (by simp)⟩
    · rw [State.get_put_other rfl (by simp [Fld.apart, (loFst_apart hn).2.symm]), hresult]
    · rw [State.get_put_other rfl (by simp [Fld.apart]), hqd]
    · rw [State.get_put_same rfl]
      rfl
  · rw [if_neg (by simp [hidle]), if_neg hidle]
    exact ⟨hresult, hfq, hqd, hmstate, hwork⟩

theorem fskRequest_starting (hup : s.up = true) (n : Fin 16) (len : BitVec 9) (hclean : s.sramPoison (s.get LO_FTXA.ADDR) = false)
    (happ : s.life.applied = false) : Completes (.fskRequest n len) s (fun t => t.get LO_FRES.RESULT = 6
      ∧ t.loOf n = s.loOf n ∧ RegsKeptBut [LO_FRES] s t ∧ MemKept s t) := by
  refine completes_of_act (work := fun z => (z.consume LO_FREQ (W (n.val <<< 32 + len.toNat))).fskRequest n len.toNat) hup rfl ?_
  have hwork : LoopWork [LO_FRES] s (s.consume LO_FREQ (W (n.val <<< 32 + len.toNat))) := ⟨fun _ _ => rfl, memKept_consume⟩
  have hlo : (s.consume LO_FREQ (W (n.val <<< 32 + len.toNat))).lo = s.lo := rfl
  have hrun := State.fskRequest_starting (s := s.consume LO_FREQ (W (n.val <<< 32 + len.toNat))) (n := n) (len := len.toNat) hclean happ
  generalize s.consume LO_FREQ (W (n.val <<< 32 + len.toNat)) = u at *
  rw [hrun, State.get_settle, State.get_put_same rfl, State.loOf_settle, State.loOf_of_lo_eq (State.lo_put.trans hlo)]
  exact ⟨rfl, rfl, (hwork.put (by simp)).settled.kept⟩

theorem fskRequest_queues (hup : s.up = true) (n : Fin 16) (len : BitVec 9) (hclean : s.sramPoison (s.get LO_FTXA.ADDR) = false)
    (happ : s.life.applied = true) (hen : (s.loEnt n).fsken = true) (h0 : s.get (LO_OST.OSTATE n) ≠ 0) (h9 : s.get (LO_OST.OSTATE n) ≠ 9)
    (h10 : s.get (LO_OST.OSTATE n) ≠ 10) (htx : inFree (s.get LO_FTXA.ADDR) (ceilDiv len.toNat 4) = true)
    (hrx : inFree (s.get LO_FRXA.ADDR) 66 = true) (h4 : 4 ≤ len.toNat) (h263 : len.toNat ≤ 263)
    (hdelim : s.bufByte (s.get LO_FTXA.ADDR) 0 = 0x02 ∨ s.bufByte (s.get LO_FTXA.ADDR) 0 = 0x82) (hroom : (s.loOf n).fq.length < 4) :
    Completes (.fskRequest n len) s (fun t => t.get LO_FRES.RESULT = 0
      ∧ (t.loOf n).fq = (s.loOf n).fq ++ [⟨s.get LO_FTXA.ADDR, s.get LO_FRXA.ADDR, len.toNat⟩]
      ∧ t.get (LO_FST.QD n) = (s.loOf n).fq.length + 1
      ∧ t.get (LO_FST.MSTATE n) = (if s.get (LO_FST.MSTATE n) = 0 then 1 else s.get (LO_FST.MSTATE n))
      ∧ RegsKeptBut [LO_FRES, LO_FST n] s t ∧ MemKept s t) := by
  refine completes_of_act (work := fun z => (z.consume LO_FREQ (W (n.val <<< 32 + len.toNat))).fskRequest n len.toNat) hup rfl ?_
  have hwork : LoopWork [LO_FRES, LO_FST n] s (s.consume LO_FREQ (W (n.val <<< 32 + len.toNat))) := ⟨fun _ _ => rfl, memKept_consume⟩
  obtain ⟨hresult, hfq, hqd, hmstate, hwork'⟩ := State.fskTaken_shows (s := s.consume LO_FREQ (W (n.val <<< 32 + len.toNat)))
    (len := len.toNat) n.isLt hroom
  have htaken := State.fskRequest_taken (s := s.consume LO_FREQ (W (n.val <<< 32 + len.toNat))) hclean happ hen h0 h9 h10 htx hrx h4 h263
    hdelim hroom
  rw [htaken, State.get_settle, State.get_settle, State.get_settle, State.loOf_settle]
  exact ⟨hresult, hfq, hqd, hmstate, (hwork.trans hwork').settled.kept⟩

/-! ### Transmission and carrier (R290 to R293) -/

theorem State.fskStart_ready (hq : (s.loOf n).fq = c :: q) (hclean : ∀ i, i < ceilDiv c.len 4 → s.sramPoison (c.txa + i) = false)
    (hm : s.get (LO_FST.MSTATE n) = 1) (hquiet : (s.loOf n).carrier = false) (hdrv : s.bitOf LO_STAT.DRV n = true)
    (hwait : (s.loOf n).fwait ≤ s.since (s.loOf n).quietAt) : s.fskStart n
      = (s.setLo n { s.loOf n with tries := (s.loOf n).tries + 1, txAt := s.t.run }).put (LO_FST.MSTATE n) 2 := by
  unfold State.fskStart
  simp only [hq]
  rw [if_pos (by simp [hm, hquiet, hdrv, hwait])]
  refine State.sramFetch_clean fun a ha => ?_
  obtain ⟨i, hi, rfl⟩ := List.mem_map.mp ha
  rw [((memKept_of_mem_eq State.mem_put).1 _).2]
  exact hclean i (List.mem_range.mp hi)

/-- The modem's record and its state change together. -/
theorem fskMoved_shows {y : LoS} {v : Nat} (hv : v < 8) : ((s.setLo n y).put (LO_FST.MSTATE n) v).get (LO_FST.MSTATE n) = v
    ∧ ((s.setLo n y).put (LO_FST.MSTATE n) v).loOf n = y
    ∧ LoopWork [LO_FST n] s ((s.setLo n y).put (LO_FST.MSTATE n) v) := by
  refine ⟨?_, ?_, loopWork_setLo.put (List.mem_singleton.mpr rfl)⟩
  · rw [State.get_put_same rfl]
    exact Nat.mod_eq_of_lt hv
  · rw [State.loOf_of_lo_eq State.lo_put, State.loOf_setLo_same]

theorem fskTransmitStart_sends (hup : s.up = true) (n : Fin 16) (hq : (s.loOf n).fq = c :: q)
    (hclean : ∀ i, i < ceilDiv c.len 4 → s.sramPoison (c.txa + i) = false) (hm : s.get (LO_FST.MSTATE n) = 1)
    (hquiet : (s.loOf n).carrier = false) (hdrv : s.bitOf LO_STAT.DRV n = true) (hwait : (s.loOf n).fwait ≤ s.since (s.loOf n).quietAt) :
    Completes (.fskTransmitStart n) s (fun t => t.get (LO_FST.MSTATE n) = 2 ∧ (t.loOf n).tries = (s.loOf n).tries + 1
      ∧ RegsKeptBut [LO_FST n] s t ∧ MemKept s t) := by
  refine completes_of_act (work := fun z => z.fskStart n) hup rfl ?_
  rw [State.fskStart_ready hq hclean hm hquiet hdrv hwait]
  obtain ⟨hstate, hrec, hwork⟩ := fskMoved_shows (s := s) (n := n) (y := { s.loOf n with tries := (s.loOf n).tries + 1, txAt := s.t.run })
    (show 2 < 8 by decide)
  rw [State.get_settle, State.loOf_settle, hrec]
  exact ⟨hstate, rfl, hwork.settled.kept⟩

theorem fskTransmitEnd_opens (hup : s.up = true) (n : Fin 16) (hm : s.get (LO_FST.MSTATE n) = 2)
    (hsent : s.fskFrame n ≤ s.since (s.loOf n).txAt) : Completes (.fskTransmitEnd n) s (fun t => t.get (LO_FST.MSTATE n) = 3
      ∧ (t.loOf n).fwait = rt1 ∧ RegsKeptBut [LO_FST n] s t ∧ MemKept s t) := by
  have hend : s.fskSent n = (s.setLo n { s.loOf n with fwait := rt1, quietAt := s.t.run, txAt := s.t.run }).put (LO_FST.MSTATE n) 3 :=
    if_pos (by simp [hm, hsent])
  refine completes_of_act (work := fun z => z.fskSent n) hup rfl ?_
  obtain ⟨hstate, hrec, hwork⟩ := fskMoved_shows (s := s) (n := n) (y := { s.loOf n with fwait := rt1, quietAt := s.t.run, txAt := s.t.run })
    (show 3 < 8 by decide)
  rw [hend, State.get_settle, State.loOf_settle, hrec]
  exact ⟨hstate, rfl, hwork.settled.kept⟩

theorem fskCarrierDetect_marks (hup : s.up = true) (n : Fin 16) (h2 : s.get (LO_FST.MSTATE n) ≠ 2) (h5 : s.get (LO_FST.MSTATE n) ≠ 5) :
    Completes (.fskCarrierDetect n) s (fun t => (t.loOf n).carrier = true
      ∧ t.get (LO_FST.MSTATE n) = (if s.get (LO_FST.MSTATE n) = 3 then 4 else s.get (LO_FST.MSTATE n))
      ∧ RegsKeptBut [LO_FST n] s t ∧ MemKept s t) := by
  have hlt : s.get (LO_FST.MSTATE n) < 8 := State.get_lt
  have hv : (if s.get (LO_FST.MSTATE n) = 3 then 4 else s.get (LO_FST.MSTATE n)) < 8 := by
    split
    · decide
    · exact hlt
  refine completes_of_act (work := fun z => if z.get (LO_FST.MSTATE n) == 5 || z.get (LO_FST.MSTATE n) == 2 then z
    else (z.setLo n { z.loOf n with carrier := true }).put (LO_FST.MSTATE n) (if z.get (LO_FST.MSTATE n) == 3 then 4 else z.get (LO_FST.MSTATE n)))
    hup rfl ?_
  rw [if_neg (by simp [h2, h5])]
  simp only [beq_iff_eq]
  obtain ⟨hstate, hrec, hwork⟩ := fskMoved_shows (s := s) (n := n) (y := { s.loOf n with carrier := true }) hv
  rw [State.get_settle, State.loOf_settle, hrec]
  exact ⟨rfl, hstate, hwork.settled.kept⟩

/-! ### The end of a transaction and of a try (R295, R298) -/

/-- A transaction has ended with its result and the length of its reply. -/
structure FskEnded (n r m : Nat) (s t : State) : Prop where
  result : t.get (LO_FST.RESULT n) = r
  length : t.get (LO_FST.RXLEN n) = m
  done : t.get (LO_FST.DONE n) = (s.get (LO_FST.DONE n) + 1) % 8192
  source : t.flag HST_ISRC.FSK = true
  queue : (t.loOf n).fq = (s.loOf n).fq.tail

theorem fskEnded_fskEnd (hn : n < 16) (hr : r < 16) (hm : m < 512) : FskEnded n r m s (s.fskEnd n r m) := by
  have hend : ∃ y j k i, s.fskEnd n r m = (((((((s.setLo n y).put (LO_FST.RESULT n) r).put (LO_FST.RXLEN n) m).put (LO_FST.TRIES n) j).incMod
      (LO_FST.DONE n)).put (LO_FST.QD n) k).put (LO_FST.MSTATE n) i).raise HST_ISRC.FSK ∧ y.fq = (s.loOf n).fq.tail :=
    ⟨_, _, _, _, rfl, rfl⟩
  obtain ⟨y, j, k, i, hend, hfq⟩ := hend
  have hlast : ∀ (z : State) (g : Fld), g.apart (LO_FST.QD n) = true → g.apart (LO_FST.MSTATE n) = true → g.apart HST_ISRC.FSK = true →
      (((z.put (LO_FST.QD n) k).put (LO_FST.MSTATE n) i).raise HST_ISRC.FSK).get g = z.get g := fun z g hqd hms hisrc =>
    (State.get_raise_other rfl hisrc).trans ((State.get_put_other rfl hms).trans (State.get_put_other rfl hqd))
  rw [hend]
  refine ⟨?_, ?_, ?_, ?_, ?_⟩
  · rw [hlast _ _ (by simp [Fld.apart]) (by simp [Fld.apart]) (by simp [Fld.apart]), State.get_incMod_other rfl (by simp [Fld.apart]),
      State.get_put_other rfl (by simp [Fld.apart]), State.get_put_other rfl (by simp [Fld.apart]), State.get_put_same rfl]
    exact Nat.mod_eq_of_lt hr
  · rw [hlast _ _ (by simp [Fld.apart]) (by simp [Fld.apart]) (by simp [Fld.apart]), State.get_incMod_other rfl (by simp [Fld.apart]),
      State.get_put_other rfl (by simp [Fld.apart]), State.get_put_same rfl]
    exact Nat.mod_eq_of_lt hm
  · rw [hlast _ _ (by simp [Fld.apart]) (by simp [Fld.apart]) (by simp [Fld.apart, (loFst_apart hn).1]), State.get_incMod_same rfl,
      State.get_put_other rfl (by simp [Fld.apart]), State.get_put_other rfl (by simp [Fld.apart]),
      State.get_put_other rfl (by simp [Fld.apart]), State.get_setLo]
    rfl
  · unfold State.flag
    rw [State.get_raise_same rfl]
    rfl
  · rw [State.loOf_of_lo_eq (s := s.setLo n y) (by simp), State.loOf_setLo_same, hfq]

/-- A try ends in the state `t`: it is repeated, or the transaction ends with the result. -/
theorem tryEnd_decides (hn : n < 16) (hr : r < 16) (hcnt : f.addr = LO_FCNT n) (hz : LoopWork [LO_FCNT n] s z) (hcount : CountsUp f s z)
    (hent : z.loEnt n = s.loEnt n) (htries : (z.loOf n).tries = (s.loOf n).tries) (hfq : (z.loOf n).fq = (s.loOf n).fq)
    (ht : t = settle (z.tryEnd n r)) : CountsUp f s t
      ∧ ((s.loOf n).tries ≤ (s.loEnt n).retry → t.get (LO_FST.MSTATE n) = 1 ∧ (t.loOf n).fq = (s.loOf n).fq)
      ∧ ((s.loEnt n).retry < (s.loOf n).tries → t.get (LO_FST.RESULT n) = r ∧ (t.loOf n).fq = (s.loOf n).fq.tail
          ∧ t.flag HST_ISRC.FSK = true)
      ∧ RegsKeptBut [LO_FCNT n, LO_FST n, HST_ISRC] s t ∧ MemKept s t := by
  have hover : z.tryEnd n r = if (s.loOf n).tries ≤ (s.loEnt n).retry then z.put (LO_FST.MSTATE n) 1 else z.fskEnd n r 0 := by
    unfold State.tryEnd
    dsimp only
    rw [htries, hent]
  have hput : LoopWork [LO_FST n, HST_ISRC] z (z.put (LO_FST.MSTATE n) 1) := LoopWork.refl.put (by simp)
  have htry : LoopWork [LO_FST n, HST_ISRC] z (z.tryEnd n r) := hover ▸ .ite hput loopWork_fskEnd
  have hwork : LoopWork [LO_FCNT n, LO_FST n, HST_ISRC] s (z.tryEnd n r) := (hz.mono (by simp)).trans (htry.mono (by simp))
  have hapart : f.addr ∉ [LO_FST n, HST_ISRC] := by
    rw [hcnt]
    simp only [List.mem_cons, List.not_mem_nil, or_false, LO_FCNT, LO_FST, HST_ISRC]
    omega
  subst ht
  refine ⟨?_, fun hle => ?_, fun hlt => ?_, hwork.settled.kept⟩
  · unfold CountsUp at hcount ⊢
    rw [State.get_settle, htry.get hapart, hcount]
  · rw [hover, if_pos hle, State.get_settle, State.get_put_same rfl, State.loOf_settle, State.loOf_of_lo_eq State.lo_put]
    exact ⟨rfl, hfq⟩
  · have hended : FskEnded n r 0 z (z.fskEnd n r 0) := fskEnded_fskEnd hn hr (by decide)
    rw [hover, if_neg (Nat.not_le.mpr hlt), State.get_settle, State.loOf_settle, State.flag_settle]
    exact ⟨hended.result, hended.queue.trans (congrArg List.tail hfq), hended.source⟩

theorem fskReplyTimeout_ends (hup : s.up = true) (n : Fin 16) (hm : s.get (LO_FST.MSTATE n) = 3)
    (hdue : 28 * fskChar ≤ s.since (s.loOf n).txAt) : Completes (.fskReplyTimeout n) s (fun t => CountsUp (LO_FCNT.NOREPLY n) s t
      ∧ ((s.loOf n).tries ≤ (s.loEnt n).retry → t.get (LO_FST.MSTATE n) = 1 ∧ (t.loOf n).fq = (s.loOf n).fq)
      ∧ ((s.loEnt n).retry < (s.loOf n).tries → t.get (LO_FST.RESULT n) = 1 ∧ (t.loOf n).fq = (s.loOf n).fq.tail
          ∧ t.flag HST_ISRC.FSK = true) ∧ RegsKeptBut [LO_FCNT n, LO_FST n, HST_ISRC] s t ∧ MemKept s t) := by
  have hover : s.fskNoReply n = (s.inc (LO_FCNT.NOREPLY n)).tryEnd n 1 := if_pos (by simp [hm, hdue])
  have hlo : (s.inc (LO_FCNT.NOREPLY n)).loOf n = s.loOf n := State.loOf_of_lo_eq State.lo_inc
  refine completes_of_act (work := fun z => z.fskNoReply n) hup rfl ?_
  rw [hover]
  exact tryEnd_decides n.isLt (by decide) rfl (LoopWork.refl.put (by simp)) (State.get_inc_min rfl)
    (State.loEnt_of_cache_eq State.cache_inc) (congrArg LoS.tries hlo) (congrArg LoS.fq hlo) rfl

theorem fskCollision_ends (hup : s.up = true) (n : Fin 16) (hm : s.get (LO_FST.MSTATE n) = 2) :
    Completes (.fskCollision n) s (fun t => CountsUp (LO_FCNT.COLL n) s t
      ∧ ((s.loOf n).tries ≤ (s.loEnt n).retry → t.get (LO_FST.MSTATE n) = 1 ∧ (t.loOf n).fq = (s.loOf n).fq)
      ∧ ((s.loEnt n).retry < (s.loOf n).tries → t.get (LO_FST.RESULT n) = 2 ∧ (t.loOf n).fq = (s.loOf n).fq.tail
          ∧ t.flag HST_ISRC.FSK = true) ∧ RegsKeptBut [LO_FCNT n, LO_FST n, HST_ISRC] s t ∧ MemKept s t) := by
  refine completes_of_act (work := fun z => if z.get (LO_FST.MSTATE n) == 2 then
    ((z.setLo n { z.loOf n with fwait := rt1, quietAt := z.t.run }).inc (LO_FCNT.COLL n)).tryEnd n 2 else z) hup rfl ?_
  rw [if_pos (by simp [hm])]
  have hlo : ((s.setLo n { s.loOf n with fwait := rt1, quietAt := s.t.run }).inc (LO_FCNT.COLL n)).loOf n
      = { s.loOf n with fwait := rt1, quietAt := s.t.run } := (State.loOf_of_lo_eq State.lo_inc).trans State.loOf_setLo_same
  have hcount : CountsUp (LO_FCNT.COLL n) s ((s.setLo n { s.loOf n with fwait := rt1, quietAt := s.t.run }).inc (LO_FCNT.COLL n)) := by
    unfold CountsUp
    rw [State.get_inc_min rfl, State.get_setLo]
  have hwork : LoopWork [LO_FCNT n] s ((s.setLo n { s.loOf n with fwait := rt1, quietAt := s.t.run }).inc (LO_FCNT.COLL n)) :=
    loopWork_setLo.put (List.mem_singleton.mpr rfl)
  exact tryEnd_decides n.isLt (by decide) rfl hwork hcount (State.loEnt_of_cache_eq (State.cache_inc.trans State.cache_setLo))
    (by rw [hlo]) (by rw [hlo]) rfl

/-! ### The reply (R293, R297, R298) -/

theorem State.setSramWords_cons {v : Word} : s.setSramWords a (v :: words) = (s.setSram a v).setSramWords (a + 1) words := by
  unfold State.setSramWords
  rw [List.zipIdx_cons, List.foldl_cons, List.zipIdx_succ, List.foldl_map]
  simp only [Nat.add_zero, Nat.add_assoc, Nat.add_comm 1]

/-- Outside consecutive words stored SRAM is as before, and each of them reads back. -/
theorem State.sramAt_setSramWords : (∀ b, b < a ∨ a + words.length ≤ b → (s.setSramWords a words).sramAt b = s.sramAt b
      ∧ (s.setSramWords a words).sramPoison b = s.sramPoison b)
    ∧ ∀ i, i < words.length → (s.setSramWords a words).sramAt (a + i) = words.getD i 0 := by
  induction words generalizing s a with
  | nil => exact ⟨fun _ _ => ⟨rfl, rfl⟩, fun _ hi => absurd hi (Nat.not_lt_zero _)⟩
  | cons v rest ih =>
    obtain ⟨hout, hin⟩ := ih (s := s.setSram a v) (a := a + 1)
    obtain ⟨hfirst, -, hkept, -⟩ := stores_setSram (s := s) (a := a) (w := v)
    rw [State.setSramWords_cons, List.length_cons]
    refine ⟨fun b hb => ?_, fun i hi => ?_⟩
    · have hne : b ≠ a := by omega
      obtain ⟨hat, hpoison⟩ := hkept b (by simpa using hne)
      obtain ⟨hat', hpoison'⟩ := hout b (by omega)
      exact ⟨hat'.trans hat, hpoison'.trans hpoison⟩
    · cases i with
      | zero => exact (hout a (by omega)).1.trans hfirst
      | succ i =>
        have hplace : a + (i + 1) = a + 1 + i := by omega
        rw [hplace, List.getD_cons_succ, hin i (by omega)]

theorem setSramWords_frame : SramKeptBut ((List.range words.length).map (a + ·)) s (s.setSramWords a words) ∧ MramKept s (s.setSramWords a words)
    ∧ (s.setSramWords a words).regs = s.regs ∧ (s.setSramWords a words).lo = s.lo := by
  refine ⟨fun b hb => State.sramAt_setSramWords.1 b ?_, ?_, foldl_keeps State.regs _ _ _ fun _ _ => State.regs_setSram,
    foldl_keeps State.lo _ _ _ fun _ _ => State.lo_setSram⟩
  · by_contra hno
    exact hb (List.mem_map.mpr ⟨b - a, List.mem_range.mpr (by omega), by omega⟩)
  · exact mramKept_of_eq (foldl_keeps (fun z : State => z.mem.mram) _ _ _ fun _ _ => rfl)
      (foldl_keeps (fun z : State => z.mem.mramBad) _ _ _ fun _ _ => rfl)

/-- With no word locked, words written to the free host area are stored (R491). -/
theorem State.freeWrites_unlocked (m : List (Word × Nat)) (h : s.flag HST_LOCK.HELD = false) :
    m.foldl (fun z p => z.freeWrite .engine (a + p.2) p.1) s = m.foldl (fun z p => z.setSram (a + p.2) p.1) s := by
  induction m generalizing s with
  | nil => rfl
  | cons p r ih =>
    have hstore : s.freeWrite .engine (a + p.2) p.1 = s.setSram (a + p.2) p.1 := if_neg (by simp [State.lockedAt, h])
    rw [List.foldl_cons, List.foldl_cons, hstore]
    exact ih h

theorem State.fskReqBytes_setLo {y : LoS} (h : y.fq = (s.loOf n).fq) : (s.setLo n y).fskReqBytes n = s.fskReqBytes n := by
  unfold State.fskReqBytes State.bufByte
  simp only [State.loOf_setLo_same, State.sramAt_setLo, h]

/-- The carrier of a reply has ended, and with it RT2 begins (R291). -/
def State.replied (s : State) (n : Nat) : State :=
  let z := s.setLo n { s.loOf n with carrier := false, quietAt := s.t.run }
  z.setLo n { z.loOf n with fwait := rt2 }

theorem State.fq_replied : ((s.replied n).loOf n).fq = (s.loOf n).fq := by
  unfold State.replied
  dsimp only
  rw [State.loOf_setLo_same, State.loOf_setLo_same]

/-- A good reply awaited is stored at the reply address, and ends the transaction. -/
theorem State.fskReceive_reply {fr : List Byte} (hm : s.get (LO_FST.MSTATE n) = 3 ∨ s.get (LO_FST.MSTATE n) = 4) (hcheck : fskCheck fr = true)
    (h4 : 4 ≤ fr.length) (h264 : fr.length ≤ 264) (hkind : fskKind fr = 6) (hmaster : fskMaster fr = true)
    (haddr : fskAddr fr = fskAddr (s.fskReqBytes n)) (hlock : s.flag HST_LOCK.HELD = false) : s.fskReceive n fr false
      = ((s.replied n).setSramWords ((s.loOf n).fq.headD ⟨0, 0, 0⟩).rxa (bytesToWords fr)).fskEnd n 0 fr.length := by
  have h2 : ¬(s.get (LO_FST.MSTATE n) == 2) = true := by
    rw [beq_iff_eq]
    omega
  have h5 : ¬(s.get (LO_FST.MSTATE n) == 5 || s.get (LO_FST.MSTATE n) == 2) = true := by
    rw [Bool.or_eq_true, beq_iff_eq, beq_iff_eq]
    omega
  have hbytes : (s.setLo n { s.loOf n with carrier := false, quietAt := s.t.run }).fskReqBytes n = s.fskReqBytes n :=
    State.fskReqBytes_setLo rfl
  have hlock' : (s.replied n).flag HST_LOCK.HELD = false := hlock
  unfold State.fskReceive
  dsimp only
  rw [if_neg h2, if_neg h5, hbytes, if_pos (by simp [hcheck, h4, hkind, hmaster, haddr, hm]), if_neg (by omega)]
  change ((bytesToWords fr).zipIdx.foldl (fun z p => z.freeWrite .engine ((((s.replied n).loOf n).fq.headD ⟨0, 0, 0⟩).rxa + p.2) p.1)
    (s.replied n)).fskEnd n 0 fr.length = _
  rw [State.fq_replied, State.freeWrites_unlocked _ hlock']
  rfl

theorem fskFrameReceive_ends (hup : s.up = true) (n : Fin 16) (fr : List Byte)
    (hm : s.get (LO_FST.MSTATE n) = 3 ∨ s.get (LO_FST.MSTATE n) = 4) (hcheck : fskCheck fr = true)
    (h4 : 4 ≤ fr.length) (h264 : fr.length ≤ 264) (hkind : fskKind fr = 6) (hmaster : fskMaster fr = true)
    (haddr : fskAddr fr = fskAddr (s.fskReqBytes n)) (hlock : s.flag HST_LOCK.HELD = false) :
    Completes (.fskFrameReceive n fr false false) s (fun t => t.get (LO_FST.RESULT n) = 0 ∧ t.get (LO_FST.RXLEN n) = fr.length
      ∧ (t.loOf n).fq = (s.loOf n).fq.tail ∧ t.get (LO_FST.DONE n) = (s.get (LO_FST.DONE n) + 1) % 8192 ∧ t.flag HST_ISRC.FSK = true
      ∧ (∀ i, i < (bytesToWords fr).length →
          t.sramAt (((s.loOf n).fq.headD ⟨0, 0, 0⟩).rxa + i) = (bytesToWords fr).getD i 0)
      ∧ SramKeptBut ((List.range (bytesToWords fr).length).map (((s.loOf n).fq.headD ⟨0, 0, 0⟩).rxa + ·)) s t ∧ MramKept s t
      ∧ RegsKeptBut [LO_FST n, HST_ISRC] s t) := by
  have hfq : ((s.replied n).loOf n).fq = (s.loOf n).fq := State.fq_replied
  have hstart : LoopWork [LO_FST n, HST_ISRC] s (s.replied n) := loopWork_setLo.trans loopWork_setLo
  refine completes_of_act (work := fun z => z.fskReceive n fr (false || false)) hup rfl ?_
  rw [Bool.or_self, State.fskReceive_reply hm hcheck h4 h264 hkind hmaster haddr hlock]
  generalize ((s.loOf n).fq.headD ⟨0, 0, 0⟩).rxa = a
  obtain ⟨-, hin⟩ := State.sramAt_setSramWords (s := s.replied n) (a := a) (words := bytesToWords fr)
  obtain ⟨hsram, hmram, hregs, hlo⟩ := setSramWords_frame (s := s.replied n) (a := a) (words := bytesToWords fr)
  generalize (s.replied n).setSramWords a (bytesToWords fr) = u at *
  have hended : FskEnded n 0 fr.length u (u.fskEnd n 0 fr.length) := fskEnded_fskEnd n.isLt (by decide) (by omega)
  have hwork : LoopWork [LO_FST n, HST_ISRC] u (settle (u.fskEnd n 0 fr.length)) := loopWork_fskEnd.settled
  have hreg : ∀ b, u.reg b = s.reg b := fun b => congrArg (Store.read regReset · b) hregs
  refine ⟨?_, ?_, ?_, ?_, ?_, fun i hi => (hwork.mem.1 _).1.trans (hin i hi), ?_, ?_, fun b hb => (hwork.regs b hb).trans (hreg b)⟩
  · rw [State.get_settle, hended.result]
  · rw [State.get_settle, hended.length]
  · rw [State.loOf_settle, hended.queue, State.loOf_of_lo_eq hlo, hfq]
  · rw [State.get_settle, hended.done, get_of_reg_eq (hreg _)]
  · rw [State.flag_settle, hended.source]
  · exact (hstart.mem.sramKeptBut.trans hsram).trans hwork.mem.sramKeptBut
  · exact (hstart.mem.2.trans hmram).trans hwork.mem.2

end

/-- Settles O42, where log 31 (PRESUMED) reads a frame's kind, master bit and address as the HART data link fixes them. A try and a transaction
end by one and the same work, and a reply's words are stored one after another. -/
theorem modemTransactions : Obligations.ModemTransactions := by
  unfold Obligations.ModemTransactions
  intro s n hup
  exact ⟨fun len hclean => ⟨fskRequest_starting hup n len hclean, fskRequest_queues hup n len hclean⟩,
    fun _ _ => fskTransmitStart_sends hup n, fskTransmitEnd_opens hup n, fskCarrierDetect_marks hup n, fskFrameReceive_ends hup n,
    fskReplyTimeout_ends hup n, fskCollision_ends hup n⟩

end Sys2Proof.Machine

namespace Sys2Proof.Machine

open Sys2Proof

/-! ## Discrete points: their record and their registers (R303, R326) -/

section
variable {s t u : State} {n k v : Nat} {f g : Fld} {x : Bool} {y : DioS} {l : List Nat}

theorem loopWork_setDio : LoopWork l s (s.setDio n y) := loopWork_of_eq rfl rfl

theorem LoopWork.putBit (h : LoopWork l s t) (hf : f.addr ∈ l) : LoopWork l s (t.putBit f k x) := h.put hf

theorem LoopWork.inc (h : LoopWork l s t) (hf : f.addr ∈ l) : LoopWork l s (t.inc f) := h.put hf

@[simp] theorem State.dioOf_put : (s.put f v).dioOf n = s.dioOf n := rfl
@[simp] theorem State.dioOf_putB : (s.putB f x).dioOf n = s.dioOf n := rfl
@[simp] theorem State.dioOf_putBit : (s.putBit f k x).dioOf n = s.dioOf n := rfl
@[simp] theorem State.dioOf_inc : (s.inc f).dioOf n = s.dioOf n := rfl
@[simp] theorem State.dioOf_settle : (settle s).dioOf n = s.dioOf n := rfl

theorem State.dioEnt_of_cache_eq (h : t.cache = s.cache) : t.dioEnt n = s.dioEnt n := by
  unfold State.dioEnt State.entry State.cacheOf
  rw [h]

@[simp] theorem State.bitOf_setDio : (s.setDio n y).bitOf f k = s.bitOf f k := rfl

@[simp] theorem State.dioEnt_put : (s.put f v).dioEnt n = s.dioEnt n := State.dioEnt_of_cache_eq State.cache_put
@[simp] theorem State.dioEnt_putBit : (s.putBit f k x).dioEnt n = s.dioEnt n := State.dioEnt_of_cache_eq State.cache_putBit
@[simp] theorem State.dioEnt_inc : (s.inc f).dioEnt n = s.dioEnt n := State.dioEnt_of_cache_eq State.cache_inc
@[simp] theorem State.dioEnt_setDio : (s.setDio k y).dioEnt n = s.dioEnt n := State.dioEnt_of_cache_eq State.cache_setDio

theorem State.dioOf_dioDue_same : (s.dioDue n).dioOf n = { s.dioOf n with due := true } := State.dioOf_setDio_same

theorem loopWork_dioDue : LoopWork l s (s.dioDue n) := loopWork_setDio

/-- A counter that later work leaves alone has gone up all the same. -/
theorem CountsUp.of_get_eq (h : CountsUp f s t) (hkept : u.get f = t.get f) : CountsUp f s u := hkept.trans h

theorem countsUp_inc (hok : f.ok = true) (hf : t.get f = s.get f) : CountsUp f s (t.inc f) := by
  unfold CountsUp
  rw [State.get_inc_min hok, hf]

end

/-! ## Discrete inputs (R303 to R307) -/

section
variable {s t : State} {n : Nat} {v level : Bool}

/-! ### A raw change and its rejection (R303, R305) -/

/-- The raw change taken: on a filtered input it waits to be accepted. -/
def State.rawTaken (s : State) (n : Nat) (level : Bool) : State :=
  s.setDio n { s.dioOf n with raw := level, open_ := s.isInput n, rawAt := s.sampleNo }

/-- A rejection counted; the one that brings the count to CHATN enters chatter. -/
def State.rejectionCounted (s : State) (n : Nat) : State :=
  let t := s.inc (DIO_PST.REJ n)
  if t.get (DIO_PST.REJ n) ≥ (t.dioEnt n).chatn && !t.bitOf DIO_CHAT.CHAT n then t.enterChatter n else t

theorem State.rawChange_same (h : (s.dioOf n).raw = level) : s.rawChange n level = s := if_pos (by simp [h])

theorem State.isInput_rawTaken : (s.rawTaken n level).isInput n = s.isInput n := rfl

theorem State.rawChange_moved (h : (s.dioOf n).raw ≠ level) : s.rawChange n level
    = if s.isInput n && (s.dioOf n).open_ then (s.rawTaken n level).rejectionCounted n else s.rawTaken n level := by
  rw [← State.isInput_rawTaken (level := level)]
  exact if_neg (by simp [h])

theorem loopWork_enterChatter : LoopWork [DIO_CHAT, DIO_CNT n] s (s.enterChatter n) :=
  ((LoopWork.refl.putBit (by simp)).inc (by simp)).trans loopWork_dioDue

theorem State.dioOf_enterChatter : (s.enterChatter n).dioOf n = { s.dioOf n with due := true } := State.dioOf_dioDue_same

theorem enterChatter_counts (hn : n < 32) :
    (s.enterChatter n).bitOf DIO_CHAT.CHAT n = true ∧ CountsUp (DIO_CNT.CHATS n) s (s.enterChatter n) := by
  have hcount : CountsUp (DIO_CNT.CHATS n) s ((s.putBit DIO_CHAT.CHAT n true).inc (DIO_CNT.CHATS n)) :=
    countsUp_inc rfl (State.get_putBit_other rfl (by simp [Fld.apart]; omega))
  have hchat : ((s.putBit DIO_CHAT.CHAT n true).inc (DIO_CNT.CHATS n)).bitOf DIO_CHAT.CHAT n = true :=
    (bitOf_of_reg_eq (State.reg_inc_other (by simp; omega))).trans (State.bitOf_putBit_same rfl hn)
  exact ⟨hchat, hcount⟩

/-- Whether or not it enters chatter, a rejection is counted, and the point's level, acceptance and waiting stay. -/
theorem rejectionCounted_counts : CountsUp (DIO_PST.REJ n) s (s.rejectionCounted n)
    ∧ ((s.rejectionCounted n).dioOf n).raw = (s.dioOf n).raw ∧ ((s.rejectionCounted n).dioOf n).open_ = (s.dioOf n).open_
    ∧ ((s.rejectionCounted n).dioOf n).acc = (s.dioOf n).acc ∧ LoopWork (inputRegs n) s (s.rejectionCounted n) := by
  have hcount : CountsUp (DIO_PST.REJ n) s (s.inc (DIO_PST.REJ n)) := countsUp_inc rfl rfl
  have hwork : LoopWork (inputRegs n) s (s.inc (DIO_PST.REJ n)) := LoopWork.refl.inc (by simp [inputRegs])
  unfold State.rejectionCounted
  dsimp only
  split
  · rw [State.dioOf_enterChatter, State.dioOf_inc]
    exact ⟨hcount.of_get_eq (loopWork_enterChatter.get (by simp [DIO_CHAT]; omega)), rfl, rfl, rfl,
      hwork.trans (loopWork_enterChatter.mono (by simp [inputRegs]))⟩
  · rw [State.dioOf_inc]
    exact ⟨hcount, rfl, rfl, rfl, hwork⟩

theorem dioRawChange_taken (hup : s.up = true) (n : Fin 32) (level : Bool) (happ : s.life.applied = true) (halive : s.alive 17 = true) :
    Completes (.dioRawChange n level) s (fun t => (t.dioOf n).raw = level
      ∧ (s.isInput n = true → (s.dioOf n).raw ≠ level → (t.dioOf n).open_ = true
          ∧ ((s.dioOf n).open_ = true → CountsUp (DIO_PST.REJ n) s t))
      ∧ RegsKeptBut (inputRegs n) s t ∧ MemKept s t) := by
  have hwork : (if !s.life.applied || !s.alive 17 then s else s.rawChange n level) = s.rawChange n level := if_neg (by simp [happ, halive])
  refine completes_of_act (work := fun z => if !z.life.applied || !z.alive 17 then z else z.rawChange n level) hup rfl ?_
  rw [hwork]
  by_cases hsame : (s.dioOf n).raw = level
  · rw [State.rawChange_same hsame]
    exact ⟨hsame, fun _ hne => absurd hsame hne, LoopWork.refl.settled.kept⟩
  · have htaken : (s.rawTaken n level).dioOf n = { s.dioOf n with raw := level, open_ := s.isInput n, rawAt := s.sampleNo } :=
      State.dioOf_setDio_same
    have htakenWork : LoopWork (inputRegs n) s (s.rawTaken n level) := loopWork_setDio
    rw [State.rawChange_moved hsame]
    split
    · obtain ⟨hcount, hraw, hopen, -, hwork⟩ := rejectionCounted_counts (s := s.rawTaken n level) (n := n)
      rw [htaken] at hraw hopen
      exact ⟨hraw, fun hin _ => ⟨hopen.trans hin, fun _ => hcount⟩, (htakenWork.trans hwork).settled.kept⟩
    · next hno =>
      rw [State.dioOf_settle, htaken]
      exact ⟨rfl, fun hin _ => ⟨hin, fun hopen => absurd (by simp [hin, hopen]) hno⟩, htakenWork.settled.kept⟩

/-! ### Chatter begins (R305) -/

/-- CHATN is a field of eight bits, or its default 8. -/
theorem Entry.chatn_le {e : Entry} : e.chatn ≤ 255 := by
  have hlt : e.f 1 19 12 < 2 ^ 8 := bits_lt
  unfold Entry.chatn orElse
  split <;> omega

theorem State.rejectionCounted_chatters (hfull : (s.dioEnt n).chatn ≤ s.get (DIO_PST.REJ n) + 1) (hchat : s.bitOf DIO_CHAT.CHAT n = false) :
    s.rejectionCounted n = (s.inc (DIO_PST.REJ n)).enterChatter n := by
  have hle : (s.dioEnt n).chatn ≤ 255 := Entry.chatn_le
  have hrej : (s.inc (DIO_PST.REJ n)).get (DIO_PST.REJ n) = min 255 (s.get (DIO_PST.REJ n) + 1) := State.get_inc_min rfl
  have hkept : (s.inc (DIO_PST.REJ n)).bitOf DIO_CHAT.CHAT n = false := (bitOf_of_reg_eq (State.reg_inc_other (by simp; omega))).trans hchat
  unfold State.rejectionCounted
  dsimp only
  rw [if_pos ?_]
  rw [hrej, hkept, State.dioEnt_inc]
  simp only [Bool.not_false, Bool.and_true, decide_eq_true_eq]
  omega

theorem dioChatterEntry_enters (hup : s.up = true) (n : Fin 32) (hin : s.isInput n = true) (hopen : (s.dioOf n).open_ = true)
    (hfull : (s.dioEnt n).chatn ≤ s.get (DIO_PST.REJ n) + 1) (hchat : s.bitOf DIO_CHAT.CHAT n = false) :
    Completes (.dioChatterEntry n) s (fun t => t.bitOf DIO_CHAT.CHAT n = true ∧ CountsUp (DIO_CNT.CHATS n) s t
      ∧ (t.dioOf n).acc = (s.dioOf n).acc ∧ RegsKeptBut (inputRegs n) s t ∧ MemKept s t) := by
  have hraw : s.rawChange n (!(s.dioOf n).raw) = (s.rawTaken n (!(s.dioOf n).raw)).rejectionCounted n :=
    (State.rawChange_moved (by simp)).trans (if_pos (by simp [hin, hopen]))
  refine completes_of_act (work := fun z => if z.isInput n && (z.dioOf n).open_ && z.get (DIO_PST.REJ n) + 1 ≥ (z.dioEnt n).chatn then
    z.rawChange n (!(z.dioOf n).raw) else z) hup rfl ?_
  rw [if_pos (by simp [hin, hopen, hfull]), hraw]
  have htaken : ((s.rawTaken n (!(s.dioOf n).raw)).dioOf n).acc = (s.dioOf n).acc := by
    unfold State.rawTaken
    rw [State.dioOf_setDio_same]
  have htakenWork : LoopWork (inputRegs n) s (s.rawTaken n (!(s.dioOf n).raw)) := loopWork_setDio
  obtain ⟨-, -, -, hacc, hwork⟩ := rejectionCounted_counts (s := s.rawTaken n (!(s.dioOf n).raw)) (n := n)
  have henter := State.rejectionCounted_chatters (s := s.rawTaken n (!(s.dioOf n).raw)) (n := n) hfull hchat
  obtain ⟨hset, hcount⟩ := enterChatter_counts (s := (s.rawTaken n (!(s.dioOf n).raw)).inc (DIO_PST.REJ n)) n.isLt
  rw [← henter] at hset hcount
  have hcnt : ((s.rawTaken n (!(s.dioOf n).raw)).inc (DIO_PST.REJ n)).get (DIO_CNT.CHATS n) = s.get (DIO_CNT.CHATS n) :=
    (State.get_inc_other rfl (by simp [Fld.apart])).trans rfl
  unfold CountsUp at hcount
  rw [hcnt] at hcount
  exact ⟨hset, hcount, hacc.trans htaken, (htakenWork.trans hwork).settled.kept⟩

/-! ### A level accepted (R304, R307) -/

/-- What accepting a level shows. -/
structure AcceptShown (n : Nat) (v : Bool) (t : State) : Prop where
  acc : (t.dioOf n).acc = v
  settled : (t.dioOf n).open_ = false
  event : t.bitOf DIO_EVT.EVT n = true
  rejections : t.get (DIO_PST.REJ n) = 0
  unstuck : v = false → t.bitOf DIO_STUCK.STUCK n = false

theorem loopWork_dioAccept : LoopWork [DIO_PST n, DIO_STUCK, DIO_EVT] s (s.dioAccept n v) := by
  have hshown : ∀ y, LoopWork [DIO_PST n, DIO_STUCK, DIO_EVT] s (((s.setDio n y).putBit DIO_EVT.EVT n true).put (DIO_PST.REJ n) 0) :=
    fun _ => (loopWork_setDio.putBit (by simp)).put (by simp)
  exact .ite (hshown _) ((hshown _).putBit (by simp))

theorem acceptShown_dioAccept (hn : n < 32) : AcceptShown n v (s.dioAccept n v) := by
  have hrec : ((s.dioAccept n v).dioOf n) = { s.dioOf n with acc := v, open_ := false, due := true, accAt := s.t.run } := by
    unfold State.dioAccept
    dsimp only
    split <;> simp
  have hevt : ∀ y, (((s.setDio n y).putBit DIO_EVT.EVT n true).put (DIO_PST.REJ n) 0).bitOf DIO_EVT.EVT n = true := fun y =>
    (bitOf_of_reg_eq (State.reg_put_other (by simp; omega))).trans (State.bitOf_putBit_same rfl hn)
  have hrej : ∀ y, (((s.setDio n y).putBit DIO_EVT.EVT n true).put (DIO_PST.REJ n) 0).get (DIO_PST.REJ n) = 0 := fun y =>
    State.get_put_same rfl
  refine ⟨by rw [hrec], by rw [hrec], ?_, ?_, fun hv => ?_⟩
  · cases v
    · exact (State.bitOf_putBit_other rfl (by decide)).trans (hevt _)
    · exact hevt _
  · cases v
    · exact (State.get_putBit_other rfl (by simp [Fld.apart]; omega)).trans (hrej _)
    · exact hrej _
  · subst hv
    exact State.bitOf_putBit_same rfl hn

theorem State.dioSettled_early (h : s.sampleNo + 1 < (s.dioOf n).rawAt + (s.dioEnt n).filtb) : s.dioSettled n = s := if_pos (by simp [h])

theorem State.dioSettled_due (hin : s.isInput n = true) (hchat : s.bitOf DIO_CHAT.CHAT n = false) (hopen : (s.dioOf n).open_ = true)
    (hdue : (s.dioOf n).rawAt + (s.dioEnt n).filtb ≤ s.sampleNo + 1) : s.dioSettled n
      = if ((s.dioOf n).raw != (s.dioEnt n).inv) == (s.dioOf n).acc then s.setDio n { s.dioOf n with open_ := false }
        else s.dioAccept n ((s.dioOf n).raw != (s.dioEnt n).inv) := if_neg (by simp [hin, hchat, hopen, hdue])

theorem dioInputAccept_early (hup : s.up = true) (n : Fin 32) (h : s.sampleNo + 1 < (s.dioOf n).rawAt + (s.dioEnt n).filtb) :
    Completes (.dioInputAccept n) s (fun t => t.dio = s.dio ∧ AllKept s t) := by
  refine completes_of_act (work := fun z => z.dioSettled n) hup rfl ?_
  rw [State.dioSettled_early h]
  exact ⟨rfl, allKept_settle⟩

theorem dioInputAccept_due (hup : s.up = true) (n : Fin 32) (hin : s.isInput n = true) (hchat : s.bitOf DIO_CHAT.CHAT n = false)
    (hopen : (s.dioOf n).open_ = true) (hdue : (s.dioOf n).rawAt + (s.dioEnt n).filtb ≤ s.sampleNo + 1) :
    Completes (.dioInputAccept n) s (fun t => (t.dioOf n).acc = ((s.dioOf n).raw != (s.dioEnt n).inv) ∧ (t.dioOf n).open_ = false
      ∧ ((s.dioOf n).acc ≠ (t.dioOf n).acc → t.bitOf DIO_EVT.EVT n = true ∧ t.get (DIO_PST.REJ n) = 0
          ∧ ((t.dioOf n).acc = false → t.bitOf DIO_STUCK.STUCK n = false))
      ∧ ((s.dioOf n).acc = (t.dioOf n).acc → RegsKept s t) ∧ RegsKeptBut (inputRegs n) s t ∧ MemKept s t) := by
  refine completes_of_act (work := fun z => z.dioSettled n) hup rfl ?_
  rw [State.dioSettled_due hin hchat hopen hdue]
  simp only [State.dioOf_settle, State.bitOf_settle, State.get_settle]
  split
  · next hsame =>
    have hwork : LoopWork [] s (s.setDio n { s.dioOf n with open_ := false }) := loopWork_setDio
    rw [State.dioOf_setDio_same]
    exact ⟨(beq_iff_eq.mp hsame).symm, rfl, fun hne => absurd rfl hne, fun _ => hwork.settled.allKept.1,
      (hwork.mono (List.nil_subset _)).settled.kept⟩
  · next hmoved =>
    obtain ⟨hacc, hsettled, hevt, hrej, hunstuck⟩ := acceptShown_dioAccept (s := s) (v := (s.dioOf n).raw != (s.dioEnt n).inv) n.isLt
    rw [beq_iff_eq] at hmoved
    exact ⟨hacc, hsettled, fun _ => ⟨hevt, hrej, fun hv => hunstuck (hacc.symm.trans hv)⟩, fun hsame => absurd (hacc.symm.trans hsame.symm) hmoved,
      (loopWork_dioAccept.mono (by simp [inputRegs])).settled.kept⟩

/-! ### Chatter ends (R306) -/

/-- Chatter left with its rejections cleared; the level stands, and is still to be accepted where it differs. -/
def State.chatterLeft (s : State) (n : Nat) : State :=
  ((s.putBit DIO_CHAT.CHAT n false).put (DIO_PST.REJ n) 0).setDio n { s.dioOf n with open_ := false, due := true }

theorem State.chatterExit_quiet (hin : s.isInput n = true) (hchat : s.bitOf DIO_CHAT.CHAT n = true)
    (hquiet : (s.dioOf n).rawAt + (s.dioEnt n).quiet ≤ s.sampleNo) : s.chatterExit n
      = if ((s.dioOf n).raw != (s.dioEnt n).inv) == (s.dioOf n).acc then s.chatterLeft n
        else (s.chatterLeft n).dioAccept n ((s.dioOf n).raw != (s.dioEnt n).inv) := by
  unfold State.chatterExit
  dsimp only
  rw [if_neg (by simp [hin, hchat, hquiet]), State.dioEnt_setDio, State.dioEnt_put, State.dioEnt_putBit]
  rfl

theorem State.dioOf_chatterLeft : (s.chatterLeft n).dioOf n = { s.dioOf n with open_ := false, due := true } := State.dioOf_setDio_same

theorem chatterLeft_clears (hn : n < 32) : (s.chatterLeft n).bitOf DIO_CHAT.CHAT n = false ∧ (s.chatterLeft n).get (DIO_PST.REJ n) = 0
    ∧ LoopWork (inputRegs n) s (s.chatterLeft n) := by
  unfold State.chatterLeft
  refine ⟨?_, ?_, ?_⟩
  · rw [State.bitOf_setDio, bitOf_of_reg_eq (State.reg_put_other (by simp; omega)), State.bitOf_putBit_same rfl hn]
  · rw [State.get_setDio, State.get_put_same rfl, Nat.zero_mod]
  · exact ((LoopWork.refl.putBit (by simp [inputRegs])).put (by simp [inputRegs])).trans loopWork_setDio

theorem dioChatterExit_leaves (hup : s.up = true) (n : Fin 32) (hin : s.isInput n = true) (hchat : s.bitOf DIO_CHAT.CHAT n = true)
    (hquiet : (s.dioOf n).rawAt + (s.dioEnt n).quiet ≤ s.sampleNo) :
    Completes (.dioChatterExit n) s (fun t => t.bitOf DIO_CHAT.CHAT n = false ∧ t.get (DIO_PST.REJ n) = 0 ∧ (t.dioOf n).open_ = false
      ∧ (t.dioOf n).acc = ((s.dioOf n).raw != (s.dioEnt n).inv) ∧ RegsKeptBut (inputRegs n) s t ∧ MemKept s t) := by
  obtain ⟨hleft, hrej, hwork⟩ := chatterLeft_clears (s := s) n.isLt
  refine completes_of_act (work := fun z => z.chatterExit n) hup rfl ?_
  rw [State.chatterExit_quiet hin hchat hquiet]
  simp only [State.dioOf_settle, State.bitOf_settle, State.get_settle]
  split
  · next hsame =>
    rw [State.dioOf_chatterLeft]
    exact ⟨hleft, hrej, rfl, (beq_iff_eq.mp hsame).symm, hwork.settled.kept⟩
  · obtain ⟨hacc, hsettled, -, hrejAcc, -⟩ :=
      acceptShown_dioAccept (s := s.chatterLeft n) (v := (s.dioOf n).raw != (s.dioEnt n).inv) n.isLt
    exact ⟨(loopWork_dioAccept.bitOf (by simp [DIO_PST]; omega)).trans hleft, hrejAcc, hsettled, hacc,
      (hwork.trans (loopWork_dioAccept.mono (by simp [inputRegs]))).settled.kept⟩

/-! ### A stuck input (R307) -/

theorem dioStuckDetect_sets (hup : s.up = true) (n : Fin 32) (hin : s.isInput n = true) (hk : (s.dioEnt n).stuckt ≠ 0)
    (hacc : (s.dioOf n).acc = true) (hdue : (s.dioEnt n).stuckt * 1000000 ≤ s.since (s.dioOf n).accAt) :
    Completes (.dioStuckDetect n) s (fun t => t.bitOf DIO_STUCK.STUCK n = true ∧ RegsKeptBut [DIO_STUCK] s t ∧ MemKept s t) := by
  have hset : s.stuck n = s.putBit DIO_STUCK.STUCK n true := if_pos (by simp [hin, hk, hacc, hdue])
  refine completes_of_act (work := fun z => z.stuck n) hup rfl ?_
  rw [hset, State.bitOf_settle]
  exact ⟨State.bitOf_putBit_same rfl n.isLt, (LoopWork.refl.putBit (by simp)).settled.kept⟩

end

/-- Settles O43: a raw change counts the one before it as rejected, and both the end of the filter and the end of chatter accept a level by
the same work. -/
theorem discreteInputsFilter : Obligations.DiscreteInputsFilter := by
  unfold Obligations.DiscreteInputsFilter
  intro s n hup
  exact ⟨dioRawChange_taken hup n, fun hin hchat hopen => ⟨dioInputAccept_early hup n, dioInputAccept_due hup n hin hchat hopen⟩,
    dioChatterEntry_enters hup n, dioChatterExit_leaves hup n, dioStuckDetect_sets hup n⟩

end Sys2Proof.Machine

namespace Sys2Proof.Machine

open Sys2Proof

/-! ## The switch of a discrete output (R309, R310, R324) -/

section
variable {s t : State} {n m k g v c : Nat} {f : Fld} {x : Bool} {y : DioS} {l : List Nat}

@[simp] theorem State.get_dioDue : (s.dioDue n).get f = s.get f := rfl
@[simp] theorem State.flag_dioDue : (s.dioDue n).flag f = s.flag f := rfl
@[simp] theorem State.tripped_dioDue : (s.dioDue n).tripped m = s.tripped m := rfl
@[simp] theorem State.tripped_settle : (settle s).tripped m = s.tripped m := rfl

theorem State.dio_setDio : (s.setDio n y).dio = s.dio.set n y := rfl

theorem State.dioOf_of_dio_eq (h : t.dio = s.dio) : t.dioOf n = s.dioOf n := by
  unfold State.dioOf
  rw [h]

theorem LoopWork.flag (h : LoopWork l s t) (hf : f.addr ∉ l) : t.flag f = s.flag f := flag_of_reg_eq (h.regs _ hf)

/-- What OSTATE shows. -/
def State.outRow (s : State) (n : Nat) : Nat :=
  if !s.isOutput n then 0 else if !s.drives then 1 else if s.tripped n then 2 else (s.dioCommand n).1

/-- The PWM gate decides in the row that applies. -/
def State.gateActs (s : State) (n : Nat) : Bool :=
  (s.dioEnt n).pwm && ((s.dioCommand n).1 == 7 || (s.dioCommand n).1 == 5 || ((s.dioCommand n).1 == 3 && (s.dioEnt n).safeState == 2))

/-- The switch is to stand closed. -/
def State.switchClosed (s : State) (n : Nat) : Bool :=
  decide (s.outRow n ≥ 3) && (s.isOutput n && (s.dioCommand n).2) && (!s.gateActs n || (s.dioOf n).gate)

/-- A trip opens the switch, whatever is commanded. -/
theorem State.switchClosed_tripped (h : s.tripped n = true) : s.switchClosed n = false := by
  have hrow : s.outRow n ≤ 2 := by
    unfold State.outRow
    split
    · decide
    · split
      · decide
      · decide
  have hlow : ¬s.outRow n ≥ 3 := by omega
  unfold State.switchClosed
  simp [hlow]

/-- A closed gate opens the switch in a row in which the gate acts. -/
theorem State.switchClosed_gate (hacts : s.gateActs n = true) (hgate : (s.dioOf n).gate = false) : s.switchClosed n = false := by
  unfold State.switchClosed
  simp [hacts, hgate]

/-- The work on a point's switch: the record `y` left, of its registers DIO_PST without FCAUSE, and NCLAMP of its group. -/
structure SwitchWork (n : Nat) (y : DioS) (s t : State) : Prop where
  record : t.dio = s.dio.set n y
  work : LoopWork [DIO_PST n, DIO_GST (n / 8)] s t
  cause : t.get (DIO_PST.FCAUSE n) = s.get (DIO_PST.FCAUSE n)

theorem SwitchWork.put (h : SwitchWork n y s t) (hok : f.ok = true) (hf : f.addr ∈ [DIO_PST n, DIO_GST (n / 8)])
    (hapart : (DIO_PST.FCAUSE n).apart f = true) : SwitchWork n y s (t.put f v) :=
  ⟨h.record, h.work.put hf, (State.get_put_other hok hapart).trans h.cause⟩

theorem SwitchWork.dioOf_same (h : SwitchWork n y s t) : t.dioOf n = y :=
  (State.dioOf_of_dio_eq (s := s.setDio n y) h.record).trans State.dioOf_setDio_same

theorem SwitchWork.dioOf_other (h : SwitchWork n y s t) (hm : m ≠ n) : t.dioOf m = s.dioOf m :=
  (State.dioOf_of_dio_eq (s := s.setDio n y) h.record).trans (State.dioOf_setDio_other hm)

theorem SwitchWork.tripped (h : SwitchWork n y s t) : t.tripped m = s.tripped m :=
  h.work.bitOf (by simp [DIO_PST, DIO_GST]; omega)

/-- OSTATE and CMD shown, and the record left. -/
theorem switchWork_shown : SwitchWork n y s (((s.put (DIO_PST.OSTATE n) v).putB (DIO_PST.CMD n) x).setDio n y) := by
  refine ⟨?_, ((LoopWork.refl.put (by simp)).putB (by simp)).trans loopWork_setDio, ?_⟩
  · rw [State.dio_setDio, State.dio_putB, State.dio_put]
  · rw [State.get_setDio, State.get_putB_other rfl (by simp [Fld.apart]), State.get_put_other rfl (by simp [Fld.apart])]

theorem State.blnk_shown : (((s.put (DIO_PST.OSTATE n) v).putB (DIO_PST.CMD n) x).setDio n y).flag (DIO_PST.BLNK n)
    = s.flag (DIO_PST.BLNK n) := by
  rw [State.flag_setDio, State.flag_putB_other rfl (by simp [Fld.apart]), State.flag_put_other rfl (by simp [Fld.apart])]

/-- What a PWM period goes by stays: the gate, the period in force, the last reload. -/
def DioS.SamePwm (y d : DioS) : Prop := y.gate = d.gate ∧ y.period = d.period ∧ y.reloadAt = d.reloadAt

/-- The switch closes with blanking, opens with blanking and clamp ended, or stands as it stood. -/
theorem State.dioDrive_eq : ∃ v x y₁ y₂ y₃, s.dioDrive n
      = (if s.switchClosed n && !(s.dioOf n).sw then
          (((s.put (DIO_PST.OSTATE n) v).putB (DIO_PST.CMD n) x).setDio n y₁).putB (DIO_PST.BLNK n) true
        else if !s.switchClosed n && (s.dioOf n).sw then
          (((((s.put (DIO_PST.OSTATE n) v).putB (DIO_PST.CMD n) x).setDio n y₂).putB (DIO_PST.BLNK n) false).putB
            (DIO_PST.CLAMP n) false).dioClamps (n / 8)
        else ((s.put (DIO_PST.OSTATE n) v).putB (DIO_PST.CMD n) x).setDio n y₃)
    ∧ y₁.sw = true ∧ y₂.sw = false ∧ y₃.sw = (s.dioOf n).sw
    ∧ y₁.SamePwm (s.dioOf n) ∧ y₂.SamePwm (s.dioOf n) ∧ y₃.SamePwm (s.dioOf n) :=
  ⟨_, _, _, _, _, rfl, rfl, rfl, rfl, ⟨rfl, rfl, rfl⟩, ⟨rfl, rfl, rfl⟩, ⟨rfl, rfl, rfl⟩⟩

/-- Driving a point: its switch comes to stand as its row, its trip and its gate say, its PWM period stays, and no blanking begins where the
switch is to be open. -/
theorem dioDrive_switches : ∃ y : DioS, SwitchWork n y s (s.dioDrive n) ∧ y.sw = s.switchClosed n ∧ y.SamePwm (s.dioOf n)
    ∧ (s.switchClosed n = false → s.flag (DIO_PST.BLNK n) = false → (s.dioDrive n).flag (DIO_PST.BLNK n) = false) := by
  obtain ⟨v, x, y₁, y₂, y₃, hdrive, hclose, hopen, hstay, hpwm₁, hpwm₂, hpwm₃⟩ := State.dioDrive_eq (s := s) (n := n)
  rw [hdrive]
  split
  · next hcase =>
    obtain ⟨hclosed, -⟩ := Bool.and_eq_true_iff.mp hcase
    exact ⟨y₁, switchWork_shown.put rfl (by simp) (by simp [Fld.apart]), hclose.trans hclosed.symm, hpwm₁, fun hno => by simp [hclosed] at hno⟩
  · next hno =>
    split
    · next hcase =>
      obtain ⟨hclosed, -⟩ := Bool.and_eq_true_iff.mp hcase
      refine ⟨y₂, ?_, hopen.trans (by simpa using hclosed), hpwm₂, fun _ _ => ?_⟩
      · exact ((switchWork_shown.put rfl (by simp) (by simp [Fld.apart])).put rfl (by simp) (by simp [Fld.apart])).put rfl (by simp)
          (by simp [Fld.apart]; omega)
      · unfold State.dioClamps
        rw [State.flag_put_other rfl (by simp [Fld.apart]), State.flag_putB_other rfl (by simp [Fld.apart]), State.flag_putB_same rfl]
    · next hno' =>
      refine ⟨y₃, switchWork_shown, hstay.trans ?_, hpwm₃, fun _ hblank => State.blnk_shown.trans hblank⟩
      cases hclosed : s.switchClosed n with
      | true => simpa [hclosed] using hno
      | false => simpa [hclosed] using hno'

end

/-! ## Trips (R312, R314, R315) -/

section
variable {s t z : State} {n m k g c : Nat} {f : Fld} {x : Bool} {l : List Nat}

theorem State.flag_inc_other {f' : Fld} (hok : f.ok = true) (hapart : f'.apart f = true) : (s.inc f).flag f' = s.flag f' :=
  State.flag_put_other hok hapart

/-! ### Bits of the trip register -/

theorem bit_setBit_other {w i : Nat} (h : m ≠ i) : bit (setBit w i x) m = bit w m := by
  rw [← bits_one_ne_zero, bits_setBit_other h, bits_one_ne_zero]

theorem State.bitOf_putBit_ne (hok : f.ok = true) (hn : n < f.hi + 1 - f.lo) (hm : m ≠ n) : (s.putBit f n x).bitOf f m = s.bitOf f m := by
  have hlt : setBit (s.get f) n x < 2 ^ (f.hi + 1 - f.lo) := setBits_lt le_rfl hn State.get_lt
  unfold State.bitOf
  rw [State.get_putBit_same hok, Nat.mod_eq_of_lt hlt, bit_setBit_other hm]

/-! ### One output trips (R312) -/

/-- A trip stands: its bit, its cause, and the switch open. -/
structure TripStands (n c : Nat) (t : State) : Prop where
  bit : t.tripped n = true
  cause : t.get (DIO_PST.FCAUSE n) = c
  opened : (t.dioOf n).sw = false

/-- A trip marked and counted, before the switch follows. -/
def State.tripMarked (s : State) (n c : Nat) : State := ((s.putBit DIO_OFLT.TRIP n true).put (DIO_PST.FCAUSE n) c).inc (DIO_CNT.TRIPS n)

theorem State.dioTrip_open (h : (s.dioOf n).sw = false) : s.dioTrip n c = s := if_pos (by simp [h])

theorem State.dioTrip_closed (h : (s.dioOf n).sw = true) : s.dioTrip n c = ((s.tripMarked n c).dioDrive n).dioDue n := if_neg (by simp [h])

theorem loopWork_tripMarked : LoopWork [DIO_OFLT, DIO_PST n, DIO_CNT n] s (s.tripMarked n c) :=
  ((LoopWork.refl.putBit (by simp)).put (by simp)).inc (by simp)

theorem State.dioOf_tripMarked : (s.tripMarked n c).dioOf m = s.dioOf m := by
  unfold State.tripMarked
  rw [State.dioOf_inc, State.dioOf_put, State.dioOf_putBit]

theorem State.tripped_tripMarked (hn : n < 32) : (s.tripMarked n c).tripped m = (s.tripped m || m == n) := by
  have hmarked : (s.tripMarked n c).tripped m = (s.putBit DIO_OFLT.TRIP n true).bitOf DIO_OFLT.TRIP m :=
    bitOf_of_reg_eq ((State.reg_inc_other (by simp; omega)).trans (State.reg_put_other (by simp; omega)))
  rw [hmarked]
  by_cases hm : m = n
  · subst hm
    rw [State.bitOf_putBit_same rfl hn, beq_self_eq_true, Bool.or_true]
  · rw [State.bitOf_putBit_ne rfl hn hm, beq_false_of_ne hm, Bool.or_false]
    rfl

theorem tripMarked_shows (hc : c < 8) : (s.tripMarked n c).get (DIO_PST.FCAUSE n) = c ∧ CountsUp (DIO_CNT.TRIPS n) s (s.tripMarked n c) := by
  unfold State.tripMarked
  refine ⟨?_, countsUp_inc rfl ?_⟩
  · rw [State.get_inc_other rfl (by simp [Fld.apart]), State.get_put_same rfl]
    exact Nat.mod_eq_of_lt hc
  · rw [State.get_put_other rfl (by simp [Fld.apart]), State.get_putBit_other rfl (by simp [Fld.apart]; omega)]

/-- A closed switch trips: the trip stands and is counted, and no blanking goes on. -/
theorem dioTrip_trips (hn : n < 32) (hc : c < 8) (hsw : (s.dioOf n).sw = true) : TripStands n c (s.dioTrip n c)
    ∧ CountsUp (DIO_CNT.TRIPS n) s (s.dioTrip n c)
    ∧ (s.flag (DIO_PST.BLNK n) = false → (s.dioTrip n c).flag (DIO_PST.BLNK n) = false) := by
  have hbit : (s.tripMarked n c).tripped n = true := by rw [State.tripped_tripMarked hn, beq_self_eq_true, Bool.or_true]
  have hopen : (s.tripMarked n c).switchClosed n = false := State.switchClosed_tripped hbit
  obtain ⟨hcause, hcount⟩ := tripMarked_shows (s := s) (n := n) hc
  obtain ⟨y, hwork, hsw', -, hblank⟩ := dioDrive_switches (s := s.tripMarked n c) (n := n)
  rw [State.dioTrip_closed hsw]
  refine ⟨⟨?_, ?_, ?_⟩, ?_, fun hno => ?_⟩
  · rw [State.tripped_dioDue, hwork.tripped, hbit]
  · rw [State.get_dioDue, hwork.cause, hcause]
  · rw [State.dioOf_dioDue_same, hwork.dioOf_same]
    exact hsw'.trans hopen
  · refine hcount.of_get_eq ?_
    rw [State.get_dioDue, hwork.work.get (by simp [DIO_PST, DIO_GST]; omega)]
  · rw [State.flag_dioDue]
    refine hblank hopen ?_
    unfold State.tripMarked
    rw [State.flag_inc_other rfl (by simp [Fld.apart]), State.flag_put_other rfl (by simp [Fld.apart])]
    exact (flag_of_reg_eq (State.reg_putBit_other (by simp; omega))).trans hno

/-- The registers a trip may write. -/
def tripRegs (n : Nat) : List Nat := [DIO_PST n, DIO_OFLT, DIO_CNT n, DIO_GST (n / 8)]

theorem tripRegs_output : tripRegs n ⊆ outputRegs n := by simp [tripRegs, outputRegs]

theorem loopWork_dioDrive : LoopWork [DIO_PST n, DIO_GST (n / 8)] s (s.dioDrive n) := by
  obtain ⟨y, hwork, -⟩ := dioDrive_switches (s := s) (n := n)
  exact hwork.work

theorem State.dioOf_dioDrive_other (hm : m ≠ n) : (s.dioDrive n).dioOf m = s.dioOf m := by
  obtain ⟨y, hwork, -⟩ := dioDrive_switches (s := s) (n := n)
  exact hwork.dioOf_other hm

theorem State.tripped_dioDrive : (s.dioDrive n).tripped m = s.tripped m := by
  obtain ⟨y, hwork, -⟩ := dioDrive_switches (s := s) (n := n)
  exact hwork.tripped

theorem loopWork_dioTrip : LoopWork (tripRegs n) s (s.dioTrip n c) :=
  .ite .refl (((loopWork_tripMarked.mono (by simp [tripRegs])).trans (loopWork_dioDrive.mono (by simp [tripRegs]))).trans loopWork_dioDue)

theorem State.dioOf_dioTrip_other (hm : m ≠ n) : (s.dioTrip n c).dioOf m = s.dioOf m := by
  cases hsw : (s.dioOf n).sw with
  | false => rw [State.dioTrip_open hsw]
  | true =>
    rw [State.dioTrip_closed hsw]
    unfold State.dioDue
    rw [State.dioOf_setDio_other hm, State.dioOf_dioDrive_other hm, State.dioOf_tripMarked]

/-- No trip clears another's bit. -/
theorem State.tripped_dioTrip (hn : n < 32) (h : s.tripped m = true) : (s.dioTrip n c).tripped m = true := by
  cases hsw : (s.dioOf n).sw with
  | false => rwa [State.dioTrip_open hsw]
  | true =>
    rw [State.dioTrip_closed hsw]
    rw [State.tripped_dioDue, State.tripped_dioDrive, State.tripped_tripMarked hn, h, Bool.true_or]

/-! ### A group trips (R314) -/

/-- A trip that stands goes on standing through every further one: its own switch is open. -/
theorem TripStands.dioTrip (h : TripStands m c s) (hm : m < 32) (hn : n < 32) : TripStands m c (s.dioTrip n k) := by
  by_cases hmn : m = n
  · subst hmn
    rwa [State.dioTrip_open h.opened]
  · refine ⟨State.tripped_dioTrip hn h.bit, (loopWork_dioTrip.get ?_).trans h.cause, ?_⟩
    · simp [tripRegs, DIO_PST, DIO_OFLT, DIO_CNT, DIO_GST]
      omega
    · rw [State.dioOf_dioTrip_other hmn, h.opened]

theorem TripStands.of_work (h : TripStands m c s) (hwork : LoopWork l s t) (hdio : t.dio = s.dio) (hoflt : DIO_OFLT ∉ l)
    (hpst : DIO_PST m ∉ l) : TripStands m c t :=
  ⟨(hwork.bitOf hoflt).trans h.bit, (hwork.get hpst).trans h.cause, (congrArg DioS.sw (State.dioOf_of_dio_eq hdio)).trans h.opened⟩

/-- What one step of a fold establishes where nothing before it spoils its premise, and every later step keeps, the fold establishes. -/
theorem foldl_establishes {α : Type} {p : State → α → State} {P Q : State → Prop} {q : List α} {a : α} (ha : a ∈ q) (hP : P s)
    (hother : ∀ z, ∀ b ∈ q, b ≠ a → P z → P (p z b)) (hown : ∀ z, P z → Q (p z a)) (hkeep : ∀ z, ∀ b ∈ q, Q z → Q (p z b)) :
    Q (q.foldl p s) := by
  obtain ⟨l₁, l₂, rfl, hnot⟩ := List.eq_append_cons_of_mem ha
  rw [List.foldl_append, List.foldl_cons]
  refine List.foldlRecOn l₂ p (hown _ (List.foldlRecOn l₁ p hP fun z hz b hb => ?_)) fun z hz b hb => ?_
  · exact hother z b (List.mem_append_left _ hb) (fun e => hnot (e ▸ hb)) hz
  · exact hkeep z b (List.mem_append_right _ (List.mem_cons_of_mem _ hb)) hz

/-- Each closed switch of a list that trips is tripped. -/
theorem tripStands_foldl (hl : ∀ n ∈ l, n < 32) (hc : c < 8) (hm : m ∈ l) (hsw : (s.dioOf m).sw = true) :
    TripStands m c (l.foldl (fun z n => z.dioTrip n c) s) := by
  refine foldl_establishes (P := fun z => (z.dioOf m).sw = true) hm hsw (fun z n _ hn hz => ?_)
    (fun z hz => (dioTrip_trips (hl m hm) hc hz).1) (fun z n hn hz => hz.dioTrip (hl m hm) (hl n hn))
  rwa [State.dioOf_dioTrip_other hn.symm]

/-- The outputs of a group in short clamp. -/
def State.inShort (s : State) (g : Nat) : List Nat := ((List.range 8).map (8 * g + ·)).filter (fun n => (s.dioOf n).short.isSome)

theorem State.groupTrip_met (h : 2 ≤ (s.shorts g).length) :
    s.groupTrip g = ((s.inShort g).foldl (fun z n => z.dioTrip n 3) s).putB (DIO_GST.MULTI g) true := if_neg (by omega)

theorem State.mem_inShort : m ∈ s.inShort g ↔ (∃ i < 8, m = 8 * g + i) ∧ (s.dioOf m).short.isSome = true := by
  simp only [State.inShort, List.mem_filter, List.mem_map, List.mem_range, eq_comm]

theorem tripRegs_group {i : Nat} (hi : i < 8) : tripRegs (8 * g + i) ⊆ groupRegs g := by
  have hg : (8 * g + i) / 8 = g := by omega
  intro a ha
  simp only [tripRegs, hg, List.mem_cons, List.not_mem_nil, or_false] at ha
  simp only [groupRegs, List.mem_cons, List.mem_flatMap, List.mem_range, List.not_mem_nil, or_false]
  obtain rfl | rfl | rfl | rfl := ha
  · exact .inr (.inr ⟨i, hi, .inl rfl⟩)
  · exact .inl rfl
  · exact .inr (.inr ⟨i, hi, .inr rfl⟩)
  · exact .inr (.inl rfl)

theorem loopWork_groupTrips : LoopWork (groupRegs g) s ((s.inShort g).foldl (fun z n => z.dioTrip n 3) s) := by
  refine List.foldlRecOn _ _ .refl fun z hz n hn => hz.trans ?_
  obtain ⟨⟨i, hi, rfl⟩, -⟩ := State.mem_inShort.mp hn
  exact loopWork_dioTrip.mono (tripRegs_group hi)

theorem groupTrip_trips (hg : g < 4) (h : 2 ≤ (s.shorts g).length) : (s.groupTrip g).flag (DIO_GST.MULTI g) = true
    ∧ (∀ i < 8, (s.dioOf (8 * g + i)).short.isSome = true → (s.dioOf (8 * g + i)).sw = true → TripStands (8 * g + i) 3 (s.groupTrip g))
    ∧ LoopWork (groupRegs g) s (s.groupTrip g) := by
  rw [State.groupTrip_met h]
  refine ⟨State.flag_putB_same rfl, fun i hi hshort hsw => ?_, loopWork_groupTrips.putB (by simp [groupRegs])⟩
  have hlt : ∀ n ∈ s.inShort g, n < 32 := fun n hn => by
    obtain ⟨⟨j, hj, rfl⟩, -⟩ := State.mem_inShort.mp hn
    omega
  have hstands := tripStands_foldl hlt (show 3 < 8 by decide) (State.mem_inShort.mpr ⟨⟨i, hi, rfl⟩, hshort⟩) hsw
  exact hstands.of_work (LoopWork.refl.putB (List.mem_singleton.mpr rfl)) State.dio_putB (by simp [DIO_OFLT]; omega) (by simp [DIO_PST]; omega)

/-! ### The tests of R312 -/

/-- A test of one output is met. -/
theorem State.tripTest_met {ma held : Nat} (h : c = 1 ∨ c = 2
      ∨ (c = 4 ∧ s.flag (DIO_PST.CLAMP n) = true ∧ s.flag (DIO_PST.BLNK n) = false ∧ 20 ≤ s.since (s.dioOf n).clampAt)
      ∨ (c = 5 ∧ s.flag (DIO_PST.BLNK n) = false ∧ (s.dioOf n).itrip < ma ∧ (s.dioOf n).ovlt ≤ held
          ∧ (s.dioOf n).blank + 4 * held ≤ s.sampleNo)) : s.tripTest n c ma held = s.dioTrip n c := by
  obtain rfl | rfl | ⟨rfl, hclamp, hblank, hdue⟩ | ⟨rfl, hblank, hcur, htime, hpast⟩ := h
  · rfl
  · rfl
  · exact if_pos (by simp [hclamp, hblank, hdue])
  · exact if_pos (by simp [hblank, hcur, htime, hpast])

theorem dioOutputTrip_trips (hup : s.up = true) (n : Fin 32) (c : Fin 8) (ma : BitVec 16) (held : BitVec 24) (hsw : (s.dioOf n).sw = true)
    (h : c.val = 1 ∨ c.val = 2 ∨ (c.val = 4 ∧ s.flag (DIO_PST.CLAMP n) = true ∧ s.flag (DIO_PST.BLNK n) = false
          ∧ 20 ≤ s.since (s.dioOf n).clampAt)
        ∨ (c.val = 5 ∧ s.flag (DIO_PST.BLNK n) = false ∧ (s.dioOf n).itrip < ma.toNat ∧ (s.dioOf n).ovlt ≤ held.toNat
          ∧ (s.dioOf n).blank + 4 * held.toNat ≤ s.sampleNo)) :
    Completes (.dioOutputTrip n c ⟨ma, held⟩) s (fun t => t.tripped n = true ∧ t.get (DIO_PST.FCAUSE n) = c.val
      ∧ CountsUp (DIO_CNT.TRIPS n) s t ∧ (t.dioOf n).sw = false ∧ RegsKeptBut (outputRegs n) s t ∧ MemKept s t) := by
  refine completes_of_act (work := fun z => z.tripTest n c ma.toNat held.toNat) hup rfl ?_
  rw [State.tripTest_met h]
  obtain ⟨hstands, hcount, -⟩ := dioTrip_trips n.isLt c.isLt hsw
  exact ⟨hstands.bit, hstands.cause, hcount, hstands.opened, (loopWork_dioTrip.mono tripRegs_output).settled.kept⟩

theorem dioOutputTrip_group (hup : s.up = true) (n : Fin 32) (ma : BitVec 16) (held : BitVec 24) (h : 2 ≤ (s.shorts (n / 8)).length) :
    Completes (.dioOutputTrip n 3 ⟨ma, held⟩) s (fun t => t.flag (DIO_GST.MULTI (n / 8)) = true
      ∧ (∀ i : Fin 8, (s.dioOf (8 * (n / 8) + i)).short.isSome = true → (s.dioOf (8 * (n / 8) + i)).sw = true →
          t.tripped (8 * (n / 8) + i) = true ∧ t.get (DIO_PST.FCAUSE (8 * (n / 8) + i)) = 3 ∧ (t.dioOf (8 * (n / 8) + i)).sw = false)
      ∧ RegsKeptBut (groupRegs (n / 8)) s t ∧ MemKept s t) := by
  obtain ⟨hmulti, htrips, hwork⟩ := groupTrip_trips (show n.val / 8 < 4 by omega) h
  refine completes_of_act (work := fun z => z.groupTrip (n / 8)) hup rfl ⟨hmulti, fun i hshort hsw => ?_, hwork.settled.kept⟩
  obtain ⟨hbit, hcause, hopened⟩ := htrips i i.isLt hshort hsw
  exact ⟨hbit, hcause, hopened⟩

/-! ### Blanking ends (R310) -/

theorem State.blankEnd_due (hblank : s.flag (DIO_PST.BLNK n) = true) (hdue : (s.dioOf n).blank ≤ s.sampleNo) : s.blankEnd n
    = if (s.putB (DIO_PST.BLNK n) false).flag (DIO_PST.CLAMP n) then (s.putB (DIO_PST.BLNK n) false).dioTrip n 4
      else s.putB (DIO_PST.BLNK n) false := if_pos (by simp [hblank, hdue])

theorem dioBlankingEnd_ends (hup : s.up = true) (n : Fin 32) (hblank : s.flag (DIO_PST.BLNK n) = true)
    (hdue : (s.dioOf n).blank ≤ s.sampleNo) : Completes (.dioBlankingEnd n) s (fun t => t.flag (DIO_PST.BLNK n) = false
      ∧ (s.flag (DIO_PST.CLAMP n) = false → RegsKeptBut [DIO_PST n] s t)
      ∧ (s.flag (DIO_PST.CLAMP n) = true → (s.dioOf n).sw = true → t.tripped n = true ∧ t.get (DIO_PST.FCAUSE n) = 4
          ∧ (t.dioOf n).sw = false) ∧ RegsKeptBut (outputRegs n) s t ∧ MemKept s t) := by
  have hended : (s.putB (DIO_PST.BLNK n) false).flag (DIO_PST.BLNK n) = false := State.flag_putB_same rfl
  have hclamp : (s.putB (DIO_PST.BLNK n) false).flag (DIO_PST.CLAMP n) = s.flag (DIO_PST.CLAMP n) :=
    State.flag_putB_other rfl (by simp [Fld.apart])
  have hwork : LoopWork [DIO_PST n] s (s.putB (DIO_PST.BLNK n) false) := LoopWork.refl.putB (by simp)
  have hwork' : LoopWork (outputRegs n) s (s.putB (DIO_PST.BLNK n) false) := hwork.mono (by simp [outputRegs])
  refine completes_of_act (work := fun z => z.blankEnd n) hup rfl ?_
  rw [State.blankEnd_due hblank hdue, hclamp]
  simp only [State.flag_settle, State.tripped_settle, State.get_settle, State.dioOf_settle]
  cases hc : s.flag (DIO_PST.CLAMP n) with
  | false =>
    rw [if_neg Bool.false_ne_true]
    exact ⟨hended, fun _ => hwork.settled.regs, fun hno => absurd hno Bool.false_ne_true, hwork'.settled.kept⟩
  | true =>
    have hkept := (hwork'.trans (loopWork_dioTrip (c := 4) |>.mono tripRegs_output)).settled.kept
    rw [if_pos rfl]
    cases hsw : (s.dioOf n).sw with
    | false =>
      have hsw' : ((s.putB (DIO_PST.BLNK n) false).dioOf n).sw = false := by rwa [State.dioOf_putB]
      refine ⟨?_, fun hno => absurd hno.symm Bool.false_ne_true, fun _ hno => absurd hno Bool.false_ne_true, hkept⟩
      rw [State.dioTrip_open hsw']
      exact hended
    | true =>
      have hsw' : ((s.putB (DIO_PST.BLNK n) false).dioOf n).sw = true := by rwa [State.dioOf_putB]
      obtain ⟨⟨hbit, hcause, hopened⟩, -, hblank'⟩ := dioTrip_trips n.isLt (show 4 < 8 by decide) hsw'
      exact ⟨hblank' hended, fun hno => absurd hno.symm Bool.false_ne_true, fun _ _ => ⟨hbit, hcause, hopened⟩, hkept⟩

/-! ### The clamp (R311, R326) -/

/-- NCLAMP shows how many outputs of the group show CLAMP. -/
theorem dioClamps_counts : (s.dioClamps g).get (DIO_GST.NCLAMP g)
      = ((List.range 8).filter (fun i => (s.dioClamps g).flag (DIO_PST.CLAMP (8 * g + i)))).length
    ∧ (∀ m, (s.dioClamps g).flag (DIO_PST.CLAMP m) = s.flag (DIO_PST.CLAMP m))
    ∧ LoopWork [DIO_GST g] s (s.dioClamps g) := by
  have hkept : ∀ m, (s.dioClamps g).flag (DIO_PST.CLAMP m) = s.flag (DIO_PST.CLAMP m) := fun m =>
    State.flag_put_other rfl (by simp [Fld.apart])
  have hle : ((List.range 8).filter (fun i => s.flag (DIO_PST.CLAMP (8 * g + i)))).length ≤ 8 := List.length_filter_le _ _
  refine ⟨?_, hkept, LoopWork.refl.put (by simp)⟩
  simp only [hkept]
  exact (State.get_put_same rfl).trans (Nat.mod_eq_of_lt (show _ < 16 by omega))

end

end Sys2Proof.Machine

namespace Sys2Proof.Machine

open Sys2Proof

section
variable {s t z : State} {n m g v : Nat} {f : Fld} {x : Bool} {y : DioS} {l : List Nat}

/-! ### The clamp begins and ends (R311) -/

/-- The record taken and CLAMP shown, with the count of its group. -/
def State.clampShown (s : State) (n : Nat) (y : DioS) (x : Bool) : State := ((s.setDio n y).putB (DIO_PST.CLAMP n) x).dioClamps (n / 8)

theorem clampShown_settles : (settle (s.clampShown n y x)).flag (DIO_PST.CLAMP n) = x ∧ (settle (s.clampShown n y x)).dioOf n = y
    ∧ (settle (s.clampShown n y x)).get (DIO_GST.NCLAMP (n / 8))
      = ((List.range 8).filter (fun i => (settle (s.clampShown n y x)).flag (DIO_PST.CLAMP (8 * (n / 8) + i)))).length
    ∧ RegsKeptBut [DIO_PST n, DIO_GST (n / 8)] s (settle (s.clampShown n y x)) ∧ MemKept s (settle (s.clampShown n y x)) := by
  obtain ⟨hcount, hkept, hwork⟩ := dioClamps_counts (s := (s.setDio n y).putB (DIO_PST.CLAMP n) x) (g := n / 8)
  have hstart : LoopWork [DIO_PST n, DIO_GST (n / 8)] s ((s.setDio n y).putB (DIO_PST.CLAMP n) x) := loopWork_setDio.putB (by simp)
  have hflag : ∀ f, (settle (s.clampShown n y x)).flag f = (s.clampShown n y x).flag f := fun _ => State.flag_settle
  simp only [hflag]
  refine ⟨(hkept n).trans (State.flag_putB_same rfl), ?_, ?_, (hstart.trans (hwork.mono (by simp))).settled.kept⟩
  · unfold State.clampShown State.dioClamps
    rw [State.dioOf_settle, State.dioOf_put, State.dioOf_putB, State.dioOf_setDio_same]
  · rw [State.get_settle]
    exact hcount

/-- The record of an output whose clamp begins, or goes on, with or without a short. -/
def State.clamped (s : State) (n : Nat) (short : Bool) : DioS :=
  { s.dioOf n with
    clampAt := if s.flag (DIO_PST.CLAMP n) then (s.dioOf n).clampAt else s.t.run
    short := if short then some ((s.dioOf n).short.getD s.t.run) else none }

theorem State.clampOnset_closed {short : Bool} (h : (s.dioOf n).sw = true) :
    s.clampOnset n short = s.clampShown n (s.clamped n short) true := by
  unfold State.clampOnset State.clampShown State.clamped
  dsimp only
  rw [if_neg (by simp [h])]

theorem dioClampOnset_shows (hup : s.up = true) (n : Fin 32) (short : Bool) (hsw : (s.dioOf n).sw = true) :
    Completes (.dioClampOnset ⟨n, short⟩) s (fun t => t.flag (DIO_PST.CLAMP n) = true ∧ (t.dioOf n).short.isSome = short
      ∧ t.get (DIO_GST.NCLAMP (n / 8)) = ((List.range 8).filter (fun i => t.flag (DIO_PST.CLAMP (8 * (n / 8) + i)))).length
      ∧ RegsKeptBut [DIO_PST n, DIO_GST (n / 8)] s t ∧ MemKept s t) := by
  have hshort : (s.clamped n short).short.isSome = short := by cases short <;> rfl
  obtain ⟨hclamp, hrec, hcount, hkept⟩ := clampShown_settles (s := s) (n := n) (y := s.clamped n short) (x := true)
  refine completes_of_act (work := fun z => z.clampOnset n short) hup rfl ?_
  rw [State.clampOnset_closed hsw]
  exact ⟨hclamp, (congrArg (fun y => y.short.isSome) hrec).trans hshort, hcount, hkept⟩

theorem dioClampEnd_shows (hup : s.up = true) (n : Fin 32) :
    Completes (.dioClampEnd n) s (fun t => t.flag (DIO_PST.CLAMP n) = false ∧ (t.dioOf n).short = none
      ∧ t.get (DIO_GST.NCLAMP (n / 8)) = ((List.range 8).filter (fun i => t.flag (DIO_PST.CLAMP (8 * (n / 8) + i)))).length
      ∧ RegsKeptBut [DIO_PST n, DIO_GST (n / 8)] s t ∧ MemKept s t) := by
  obtain ⟨hclamp, hrec, hcount, hkept⟩ := clampShown_settles (s := s) (n := n) (y := { s.dioOf n with short := none }) (x := false)
  exact completes_of_act (work := fun z => z.clampShown n { z.dioOf n with short := none } false) hup rfl
    ⟨hclamp, congrArg DioS.short hrec, hcount, hkept⟩

/-! ### Diagnostics (R313, R314) -/

theorem loopWork_dioCause : LoopWork [DIO_PST n] s (s.dioCause n) := .ite .refl (LoopWork.refl.put (by simp))

theorem State.dio_dioCause : (s.dioCause n).dio = s.dio := by
  unfold State.dioCause
  split
  · rfl
  · exact State.dio_put

theorem State.dioOf_dioCause : (s.dioCause n).dioOf m = s.dioOf m := State.dioOf_of_dio_eq State.dio_dioCause

/-- With no trip standing, FCAUSE shows the diagnosis in force. -/
theorem State.fcause_dioCause (h : s.tripped n = false) :
    (s.dioCause n).get (DIO_PST.FCAUSE n) = if (s.dioOf n).ol then 6 else if (s.dioOf n).stb then 7 else 0 := by
  have hlt : (if (s.dioOf n).ol then 6 else if (s.dioOf n).stb then 7 else 0) < 8 := by
    split
    · decide
    · split <;> decide
  have hput : s.dioCause n = s.put (DIO_PST.FCAUSE n) (if (s.dioOf n).ol then 6 else if (s.dioOf n).stb then 7 else 0) := if_neg (by simp [h])
  rw [hput]
  exact (State.get_put_same rfl).trans (Nat.mod_eq_of_lt hlt)

/-- The record of an output with OL (`ol`) or STB come or gone. -/
def DioS.diagnosed (y : DioS) (ol raised : Bool) : DioS := if ol then { y with ol := raised, due := true } else { y with stb := raised, due := true }

/-- OL or STB taken, and FCAUSE with it. -/
def State.diagTaken (s : State) (n : Nat) (ol raised : Bool) : State := (s.setDio n ((s.dioOf n).diagnosed ol raised)).dioCause n

theorem State.diagFault_taken {ol raised : Bool} (h : raised = true → (s.dioOf n).sw = false ∧ s.flag (DIO_GST.UV (n / 8)) = false
      ∧ (if ol then 2 else 1) ≤ s.get (DIO_PST.OSTATE n) ∧ (ol = true → (s.dioEnt n).b 8 12 = true)) :
    s.diagFault n ol raised = s.diagTaken n ol raised := by
  refine if_neg ?_
  cases raised with
  | false => simp
  | true =>
    obtain ⟨hsw, huv, hrow, hen⟩ := h rfl
    cases ol with
    | false =>
      have hrow : 1 ≤ s.get (DIO_PST.OSTATE n) := hrow
      simp [hsw, huv, hrow]
    | true =>
      have hrow : 2 ≤ s.get (DIO_PST.OSTATE n) := hrow
      simp [hsw, huv, hen, hrow]

theorem State.dioOf_diagTaken {ol raised : Bool} : (s.diagTaken n ol raised).dioOf n = (s.dioOf n).diagnosed ol raised :=
  State.dioOf_dioCause.trans State.dioOf_setDio_same

theorem State.dioOf_diagTaken_other {ol raised : Bool} (hm : m ≠ n) : (s.diagTaken n ol raised).dioOf m = s.dioOf m :=
  State.dioOf_dioCause.trans (State.dioOf_setDio_other hm)

theorem loopWork_diagTaken {ol raised : Bool} : LoopWork [DIO_PST n] s (s.diagTaken n ol raised) := loopWork_setDio.trans loopWork_dioCause

theorem diagTaken_shows {ol raised : Bool} : (s.diagTaken n ol raised).dioOf n = (s.dioOf n).diagnosed ol raised
    ∧ (s.tripped n = false → (s.diagTaken n ol raised).get (DIO_PST.FCAUSE n)
        = (if ((s.diagTaken n ol raised).dioOf n).ol then 6 else if ((s.diagTaken n ol raised).dioOf n).stb then 7 else 0))
    ∧ LoopWork [DIO_PST n] s (s.diagTaken n ol raised) := by
  refine ⟨State.dioOf_diagTaken, fun hno => ?_, loopWork_diagTaken⟩
  unfold State.diagTaken
  rw [State.fcause_dioCause (s := s.setDio n ((s.dioOf n).diagnosed ol raised)) hno, State.dioOf_dioCause]

/-- For how many beats the switch has stood open. -/
def State.openFor (s : State) (n : Nat) : Nat := match (s.dioOf n).openAt with | some t => s.since t | none => s.t.run

theorem dioDiagFault_shows (hup : s.up = true) (n : Fin 32) (ol raised : Bool) (held : BitVec 24) (hheld : 10000 ≤ held.toNat)
    (h : raised = true → (s.dioOf n).sw = false ∧ s.flag (DIO_GST.UV (n / 8)) = false ∧ (if ol then 2 else 1) ≤ s.get (DIO_PST.OSTATE n)
      ∧ (ol = true → (s.dioEnt n).b 8 12 = true) ∧ 10000 ≤ s.openFor n) :
    Completes (.dioDiagFault n ol ⟨raised, held⟩) s (fun t => (if ol then (t.dioOf n).ol else (t.dioOf n).stb) = raised
      ∧ (s.tripped n = false → t.get (DIO_PST.FCAUSE n) = (if (t.dioOf n).ol then 6 else if (t.dioOf n).stb then 7 else 0))
      ∧ RegsKeptBut [DIO_PST n] s t ∧ MemKept s t) := by
  have hlong : ¬(decide (held.toNat < 10000) || (raised && decide (s.openFor n < 10000))) = true := by
    cases raised with
    | false => simpa using hheld
    | true =>
      obtain ⟨-, -, -, -, hopen⟩ := h rfl
      simp [hheld, hopen]
  have htaken : s.diagFault n ol raised = s.diagTaken n ol raised := State.diagFault_taken fun hr => by
    obtain ⟨hsw, huv, hrow, hen, -⟩ := h hr
    exact ⟨hsw, huv, hrow, hen⟩
  refine completes_of_act (work := fun z => if decide (held.toNat < 10000) || (raised && decide (z.openFor n < 10000)) then z
    else z.diagFault n ol raised) hup rfl ?_
  rw [if_neg hlong, htaken]
  obtain ⟨hrec, hcause, hwork⟩ := diagTaken_shows (s := s) (n := n) (ol := ol) (raised := raised)
  generalize s.diagTaken n ol raised = u at *
  refine ⟨?_, hcause, hwork.settled.kept⟩
  rw [State.dioOf_settle, hrec]
  unfold DioS.diagnosed
  cases ol <;> rfl

/-! ### Undervoltage of a group (R314) -/

/-- DGS shown, and UV once it has stood 1 ms. -/
def State.uvShown (s : State) (g : Nat) (uv : Bool) (held vgs : Nat) : State :=
  if held < 1000 then s.put (DIO_GST.VGS g) vgs else (s.put (DIO_GST.VGS g) vgs).putB (DIO_GST.UV g) uv

/-- OL and STB of an output dropped. -/
def State.diagDropped (s : State) (n : Nat) : State := (s.diagFault n true false).diagFault n false false

/-- OL and STB of a group's outputs dropped. -/
def State.groupDropped (s : State) (g : Nat) : State := (List.range 8).foldl (fun z i => z.diagDropped (8 * g + i)) s

theorem uvShown_shows {uv : Bool} {held vgs : Nat} (hvgs : vgs < 2 ^ 12) :
    (s.uvShown g uv held vgs).flag (DIO_GST.UV g) = (if held < 1000 then s.flag (DIO_GST.UV g) else uv)
    ∧ (s.uvShown g uv held vgs).get (DIO_GST.VGS g) = vgs ∧ LoopWork (groupRegs g) s (s.uvShown g uv held vgs) := by
  have hshown : (s.put (DIO_GST.VGS g) vgs).get (DIO_GST.VGS g) = vgs := (State.get_put_same rfl).trans (Nat.mod_eq_of_lt hvgs)
  have hwork : LoopWork (groupRegs g) s (s.put (DIO_GST.VGS g) vgs) := LoopWork.refl.put (by simp [groupRegs])
  unfold State.uvShown
  split
  · exact ⟨State.flag_put_other rfl (by simp [Fld.apart]), hshown, hwork⟩
  · exact ⟨State.flag_putB_same rfl, (State.get_putB_other rfl (by simp [Fld.apart])).trans hshown, hwork.putB (by simp [groupRegs])⟩

theorem State.diagDropped_eq : s.diagDropped n = (s.diagTaken n true false).diagTaken n false false := by
  have hno : ∀ p : Prop, false = true → p := fun _ h => absurd h Bool.false_ne_true
  unfold State.diagDropped
  rw [State.diagFault_taken (hno _), State.diagFault_taken (hno _)]

theorem loopWork_diagDropped : LoopWork [DIO_PST n] s (s.diagDropped n) := by
  rw [State.diagDropped_eq]
  exact loopWork_diagTaken.trans loopWork_diagTaken

/-- An output free of OL and STB. -/
def State.undiagnosed (s : State) (n : Nat) : Prop := (s.dioOf n).ol = false ∧ (s.dioOf n).stb = false

theorem undiagnosed_diagDropped : (s.diagDropped n).undiagnosed n := by
  unfold State.undiagnosed
  rw [State.diagDropped_eq, State.dioOf_diagTaken, State.dioOf_diagTaken]
  exact ⟨rfl, rfl⟩

theorem State.undiagnosed.diagDropped (h : s.undiagnosed m) : (s.diagDropped n).undiagnosed m := by
  by_cases hm : m = n
  · subst hm
    exact undiagnosed_diagDropped
  · unfold State.undiagnosed
    rw [State.diagDropped_eq, State.dioOf_diagTaken_other hm, State.dioOf_diagTaken_other hm]
    exact h

theorem groupDropped_drops : (∀ i < 8, (s.groupDropped g).undiagnosed (8 * g + i))
    ∧ LoopWork ((List.range 8).map fun i => DIO_PST (8 * g + i)) s (s.groupDropped g) := by
  refine ⟨fun i hi => ?_, List.foldlRecOn _ _ .refl fun z hz i hi => hz.trans (loopWork_diagDropped.mono ?_)⟩
  · exact foldl_establishes (P := fun _ => True) (Q := fun z => z.undiagnosed (8 * g + i)) (List.mem_range.mpr hi) trivial
      (fun _ _ _ _ _ => trivial) (fun _ _ => undiagnosed_diagDropped) fun _ _ _ h => h.diagDropped
  · exact List.cons_subset.mpr ⟨List.mem_map_of_mem hi, List.nil_subset _⟩

theorem groupUvChange_shows (hup : s.up = true) (g : Fin 4) (uv : Bool) (vgs : BitVec 12) (held : BitVec 24) :
    Completes (.groupUvChange g ⟨uv, held⟩ vgs) s (fun t =>
      t.flag (DIO_GST.UV g) = (if held.toNat < 1000 then s.flag (DIO_GST.UV g) else uv) ∧ t.get (DIO_GST.VGS g) = vgs.toNat
      ∧ (t.flag (DIO_GST.UV g) = true → ∀ i : Fin 8, (t.dioOf (8 * g + i)).ol = false ∧ (t.dioOf (8 * g + i)).stb = false)
      ∧ RegsKeptBut (groupRegs g) s t ∧ MemKept s t) := by
  obtain ⟨huv, hvgs, hwork⟩ := uvShown_shows (s := s) (g := g) (uv := uv) (held := held.toNat) vgs.isLt
  obtain ⟨hdrop, hdropWork⟩ := groupDropped_drops (s := s.uvShown g uv held.toNat vgs.toNat) (g := g)
  have hapart : DIO_GST g ∉ (List.range 8).map fun i => DIO_PST (8 * g + i) := by
    simp only [List.mem_map, List.mem_range, DIO_PST, DIO_GST, not_exists, not_and]
    omega
  have hsub : ((List.range 8).map fun i => DIO_PST (8 * g + i)) ⊆ groupRegs g := by
    intro a ha
    obtain ⟨i, hi, rfl⟩ := List.mem_map.mp ha
    exact tripRegs_group (List.mem_range.mp hi) (by simp [tripRegs])
  refine completes_of_act (work := fun z => if (z.uvShown g uv held.toNat vgs.toNat).flag (DIO_GST.UV g) then
    (z.uvShown g uv held.toNat vgs.toNat).groupDropped g else z.uvShown g uv held.toNat vgs.toNat) hup rfl ?_
  split
  · generalize (s.uvShown g uv held.toNat vgs.toNat).groupDropped g = u at *
    exact ⟨(hdropWork.flag hapart).trans huv, (hdropWork.get hapart).trans hvgs, fun _ i => hdrop i i.isLt,
      (hwork.trans (hdropWork.mono hsub)).settled.kept⟩
  · next hno => exact ⟨huv, hvgs, fun h => absurd h hno, hwork.settled.kept⟩

/-! ### A trip clears (R315) -/

/-- The trip bit of an output cleared, before FCAUSE and the switch follow. -/
def State.tripUnmarked (s : State) (n : Nat) : State := s.putBit DIO_OFLT.TRIP n false

theorem State.tripClear_untripped (h : s.tripped n = false) : s.tripClear n = s := if_neg (by simp [h])

theorem State.tripClear_tripped (h : s.tripped n = true) : s.tripClear n = (((s.tripUnmarked n).dioCause n).dioDrive n).dioDue n := if_pos h

theorem State.tripped_tripUnmarked (hn : n < 32) : (s.tripUnmarked n).tripped m = (s.tripped m && m != n) := by
  by_cases hm : m = n
  · subst hm
    rw [bne_self_eq_false, Bool.and_false]
    exact State.bitOf_putBit_same rfl hn
  · rw [bne_iff_ne.mpr hm, Bool.and_true]
    exact State.bitOf_putBit_ne rfl hn hm

theorem State.tripped_dioCause : (s.dioCause n).tripped m = s.tripped m :=
  loopWork_dioCause.bitOf (by simp [DIO_PST]; omega)

theorem loopWork_tripClear : LoopWork (outputRegs n) s (s.tripClear n) := by
  have hunmarked : LoopWork (outputRegs n) s (s.tripUnmarked n) := LoopWork.refl.putBit (by simp [outputRegs])
  exact .ite (((hunmarked.trans (loopWork_dioCause.mono (by simp [outputRegs]))).trans (loopWork_dioDrive.mono (by simp [outputRegs]))).trans
    loopWork_dioDue) .refl

/-- Of all trips the point's own is cleared. -/
theorem State.tripped_tripClear (hn : n < 32) : (s.tripClear n).tripped m = (s.tripped m && m != n) := by
  cases htrip : s.tripped n with
  | false =>
    rw [State.tripClear_untripped htrip]
    by_cases hm : m = n
    · rw [hm, htrip, Bool.false_and]
    · rw [bne_iff_ne.mpr hm, Bool.and_true]
  | true =>
    rw [State.tripClear_tripped htrip, State.tripped_dioDue, State.tripped_dioDrive, State.tripped_dioCause, State.tripped_tripUnmarked hn]

theorem State.tripTimeout_due {a : Nat} (ha : (s.dioOf n).cmdOff = some a) (hdue : 1000 ≤ s.since a) (hcmd : s.dioCmd n = false) :
    s.tripTimeout n = s.tripClear n := by
  unfold State.tripTimeout
  rw [ha]
  exact if_pos (by simp [hdue, hcmd])

theorem dioTripClear_clears (hup : s.up = true) (n : Fin 32) (a : Nat) (ha : (s.dioOf n).cmdOff = some a) (hdue : 1000 ≤ s.since a)
    (hcmd : s.dioCmd n = false) : Completes (.dioTripClear n) s (fun t =>
      t.tripped n = false ∧ RegsKeptBut (outputRegs n) s t ∧ MemKept s t) := by
  refine completes_of_act (work := fun z => z.tripTimeout n) hup rfl ?_
  rw [State.tripTimeout_due ha hdue hcmd, State.tripped_settle, State.tripped_tripClear n.isLt, bne_self_eq_false, Bool.and_false]
  exact ⟨rfl, loopWork_tripClear.settled.kept⟩

/-- Trips cleared one after another: those of the list are clear, the others stand. -/
theorem State.tripped_foldl_tripClear (hl : ∀ n ∈ l, n < 32) : (l.foldl State.tripClear s).tripped m = (s.tripped m && !l.contains m) := by
  induction l generalizing s with
  | nil => simp
  | cons n r ih =>
    rw [List.foldl_cons, ih (fun k hk => hl k (List.mem_cons_of_mem _ hk)), State.tripped_tripClear (hl n List.mem_cons_self),
      List.contains_cons, Bool.not_or, Bool.and_assoc]
    rfl

theorem setIdx_contains {w : Nat} (hm : m < 32) : (setIdx w 32).contains m = bit w m := by
  rw [Bool.eq_iff_iff, List.contains_iff_mem]
  simp [setIdx, hm]

theorem dioOfltWrite_clears (hup : s.up = true) (mask : BitVec 32) : Completes (.dioOfltWrite mask) s (fun t =>
    (∀ k : Fin 32, t.tripped k = (s.tripped k && !bit mask.toNat k)) ∧ MemKept s t) := by
  have hlt : ∀ n ∈ setIdx mask.toNat 32, n < 32 := fun n hn => List.mem_range.mp (List.mem_filter.mp hn).1
  have hmem : ∀ z : State, MemKept z (z.ofltWrite mask.toNat) := fun z =>
    List.foldlRecOn (motive := MemKept z) _ _ (memKept_of_mem_eq rfl) fun u hu n _ => hu.trans loopWork_tripClear.mem
  refine completes_of_act (work := fun z => (z.consume DIO_OFLT (W mask.toNat)).ofltWrite mask.toNat) hup rfl ⟨fun k => ?_, ?_⟩
  · have htripped : (s.consume DIO_OFLT (W mask.toNat)).tripped k = s.tripped k := rfl
    rw [State.tripped_settle]
    refine (State.tripped_foldl_tripClear hlt).trans ?_
    rw [setIdx_contains k.isLt, htripped]
  · exact (memKept_consume.trans (hmem _)).trans allKept_settle.2

/-! ## Pulse-width modulation (R317 to R320) -/

theorem loopWork_dutyRegs : LoopWork [DIO_DUTY n, DIO_PST n] s (s.dutyRegs n) := (LoopWork.refl.put (by simp)).putB (by simp)

theorem State.dio_dutyRegs : (s.dutyRegs n).dio = s.dio := by
  unfold State.dutyRegs
  rw [State.dio_putB, State.dio_put]

/-! ### A reload instant (R317, R320) -/

/-- The active duty of a reload that takes the period of the entry. -/
def State.reloadDuty (s : State) (n : Nat) : Nat := min (s.dioOf n).pduty (s.dioEnt n).period

/-- The record a reload leaves. -/
def State.reloadRec (s : State) (n : Nat) : DioS :=
  { s.dioOf n with period := (s.dioEnt n).period, gate := s.reloadDuty n != 0, reloadAt := some s.t.run, late := none }

/-- A reload before the switch follows. -/
def State.reloadTaken (s : State) (n : Nat) : State :=
  (((s.setDio n (s.reloadRec n)).put (DIO_ADUTY.ADUTY n) (s.reloadDuty n)).dutyRegs n)

theorem State.reloadDue_entry (hrun : s.pwmRuns n = true) (hper : (s.dioEnt n).period ≠ 0) (hat : s.micros % (s.dioEnt n).period = 0)
    (hnew : (s.dioOf n).reloadAt ≠ some s.t.run) : s.reloadDue n = true := by
  unfold State.reloadDue
  simp [hrun, hper, hat, hnew]

theorem State.pwmReload_entry (hrun : s.pwmRuns n = true) (hper : (s.dioEnt n).period ≠ 0) (hat : s.micros % (s.dioEnt n).period = 0)
    (hnew : (s.dioOf n).reloadAt ≠ some s.t.run) (hlate : (s.dioOf n).late = none) : s.pwmReload n = (s.reloadTaken n).dioDrive n := by
  have hdue := State.reloadDue_entry hrun hper hat hnew
  have hperiod : ((s.dioEnt n).period != 0 && s.micros % (s.dioEnt n).period == 0) = true := by simp [hper, hat]
  unfold State.pwmReload
  dsimp only
  rw [if_neg (by simp [hdue]), if_pos hperiod, hlate]
  rfl

theorem Entry.period_lt {e : Entry} : e.period < 2 ^ 18 := bits_lt

theorem reloadTaken_shows : (s.reloadTaken n).dioOf n = s.reloadRec n ∧ (s.reloadTaken n).get (DIO_ADUTY.ADUTY n) = s.reloadDuty n
    ∧ LoopWork (outputRegs n) s (s.reloadTaken n) := by
  have hlt : s.reloadDuty n < 2 ^ 18 := (Nat.min_le_right _ _).trans_lt Entry.period_lt
  have hwork : LoopWork (outputRegs n) s ((s.setDio n (s.reloadRec n)).put (DIO_ADUTY.ADUTY n) (s.reloadDuty n)) :=
    loopWork_setDio.put (by simp [outputRegs])
  unfold State.reloadTaken
  refine ⟨?_, ?_, hwork.trans (loopWork_dutyRegs.mono (by simp [outputRegs]))⟩
  · rw [State.dioOf_of_dio_eq State.dio_dutyRegs, State.dioOf_put, State.dioOf_setDio_same]
  · rw [loopWork_dutyRegs.get (by simp [DIO_DUTY, DIO_PST]), State.get_put_same rfl]
    exact Nat.mod_eq_of_lt hlt

theorem pwmReload_reloads (hup : s.up = true) (n : Fin 32) (hrun : s.pwmRuns n = true) (hper : (s.dioEnt n).period ≠ 0)
    (hat : s.micros % (s.dioEnt n).period = 0) (hnew : (s.dioOf n).reloadAt ≠ some s.t.run) (hlate : (s.dioOf n).late = none) :
    Completes (.pwmReload n) s (fun t => t.get (DIO_ADUTY.ADUTY n) = min (s.dioOf n).pduty (s.dioEnt n).period
      ∧ (t.dioOf n).period = (s.dioEnt n).period ∧ (t.dioOf n).reloadAt = some s.t.run
      ∧ (t.dioOf n).gate = (min (s.dioOf n).pduty (s.dioEnt n).period != 0) ∧ RegsKeptBut (outputRegs n) s t ∧ MemKept s t) := by
  obtain ⟨hrec, hduty, hwork⟩ := reloadTaken_shows (s := s) (n := n)
  obtain ⟨y, hswitch, -, ⟨hgate, hperiod, hat'⟩, -⟩ := dioDrive_switches (s := s.reloadTaken n) (n := n)
  rw [hrec] at hgate hperiod hat'
  have hkept : ((s.reloadTaken n).dioDrive n).get (DIO_ADUTY.ADUTY n) = s.reloadDuty n :=
    (hswitch.work.get (by simp [DIO_PST, DIO_GST]; omega)).trans hduty
  refine completes_of_act (work := fun z => z.pwmReload n) hup rfl ?_
  rw [State.pwmReload_entry hrun hper hat hnew hlate, State.get_settle, State.dioOf_settle, hswitch.dioOf_same]
  exact ⟨hkept, hperiod, hat', hgate, (hwork.trans (loopWork_dioDrive.mono (by simp [outputRegs]))).settled.kept⟩

/-! ### The gate closes (R317) -/

/-- The gate closed, before the switch follows. -/
def State.gateShut (s : State) (n : Nat) : State := s.setDio n { s.dioOf n with gate := false }

theorem State.gateClose_due {a : Nat} (hrun : s.pwmRuns n = true) (hgate : (s.dioOf n).gate = true)
    (hduty : s.get (DIO_ADUTY.ADUTY n) < (s.dioOf n).period) (ha : (s.dioOf n).reloadAt = some a)
    (hover : s.get (DIO_ADUTY.ADUTY n) ≤ s.since a) : s.gateClose n = (s.gateShut n).dioDrive n := by
  unfold State.gateClose State.gateShut
  simp [hrun, hgate, hduty, ha, hover]

/-- Which row applies does not hang on the gate. -/
theorem State.dioCommand_gateShut : (s.gateShut n).dioCommand n = s.dioCommand n := by
  have hent : (s.gateShut n).dioEnt n = s.dioEnt n := State.dioEnt_setDio
  have hrec : (s.gateShut n).dioOf n = { s.dioOf n with gate := false } := State.dioOf_setDio_same
  unfold State.dioCommand
  rw [hent, hrec]
  rfl

theorem State.gateActs_row7 (hpwm : (s.dioEnt n).pwm = true) (hrow : (s.dioCommand n).1 = 7) : s.gateActs n = true := by
  unfold State.gateActs
  simp [hpwm, hrow]

theorem State.pwm_of_runs (hrun : s.pwmRuns n = true) : (s.dioEnt n).pwm = true := by
  unfold State.pwmRuns at hrun
  simp only [Bool.and_eq_true] at hrun
  exact hrun.1.1.2

theorem pwmGateClose_closes (hup : s.up = true) (n : Fin 32) (a : Nat) (hrun : s.pwmRuns n = true) (hgate : (s.dioOf n).gate = true)
    (hduty : s.get (DIO_ADUTY.ADUTY n) < (s.dioOf n).period) (ha : (s.dioOf n).reloadAt = some a)
    (hover : s.get (DIO_ADUTY.ADUTY n) ≤ s.since a) : Completes (.pwmGateClose n) s (fun t => (t.dioOf n).gate = false
      ∧ ((s.dioCommand n).1 = 7 → (t.dioOf n).sw = false) ∧ RegsKeptBut (outputRegs n) s t ∧ MemKept s t) := by
  have hshut : ((s.gateShut n).dioOf n).gate = false := congrArg DioS.gate State.dioOf_setDio_same
  have hpwm : ((s.gateShut n).dioEnt n).pwm = true := (congrArg Entry.pwm State.dioEnt_setDio).trans (State.pwm_of_runs hrun)
  have hwork : LoopWork (outputRegs n) s (s.gateShut n) := loopWork_setDio
  obtain ⟨y, hswitch, hsw, ⟨hgate', -, -⟩, -⟩ := dioDrive_switches (s := s.gateShut n) (n := n)
  refine completes_of_act (work := fun z => z.gateClose n) hup rfl ?_
  rw [State.gateClose_due hrun hgate hduty ha hover, State.dioOf_settle, hswitch.dioOf_same]
  refine ⟨hgate'.trans hshut, fun hrow => hsw.trans ?_, (hwork.trans (loopWork_dioDrive.mono (by simp [outputRegs]))).settled.kept⟩
  exact State.switchClosed_gate (State.gateActs_row7 hpwm ((congrArg Prod.fst State.dioCommand_gateShut).trans hrow)) hshut

/-! ### A duty written (R318, R319) -/

/-- The record with a duty written: the commit shadow with CMTEN = 1, the pending duty otherwise. -/
def State.dutyTaken (s : State) (n v : Nat) : DioS := if (s.dioEnt n).cmten then { s.dioOf n with shadow := v } else { s.dioOf n with pduty := v }

theorem takeDuty_shows (hv : v < 2 ^ 18) : (s.takeDuty n v).get (DIO_DUTY.DUTY n) = v ∧ (s.takeDuty n v).dioOf n = s.dutyTaken n v
    ∧ LoopWork [DIO_DUTY n, DIO_PST n] s (s.takeDuty n v) := by
  have hshown : (if ((s.setDio n (s.dutyTaken n v)).dioEnt n).cmten then ((s.setDio n (s.dutyTaken n v)).dioOf n).shadow
      else ((s.setDio n (s.dutyTaken n v)).dioOf n).pduty) = v := by
    rw [State.dioEnt_setDio, State.dioOf_setDio_same]
    unfold State.dutyTaken
    split <;> rfl
  have htake : s.takeDuty n v = (s.setDio n (s.dutyTaken n v)).dutyRegs n := rfl
  rw [htake]
  refine ⟨?_, ?_, loopWork_setDio.trans loopWork_dutyRegs⟩
  · unfold State.dutyRegs
    dsimp only
    rw [State.get_putB_other rfl (by simp [Fld.apart]), State.get_put_same rfl, hshown]
    exact Nat.mod_eq_of_lt hv
  · rw [State.dioOf_of_dio_eq State.dio_dutyRegs, State.dioOf_setDio_same]

theorem dioDutyWrite_waits (hup : s.up = true) (n : Fin 32) (v : BitVec 18) (hdue : s.reloadDue n = true) (hcmt : (s.dioEnt n).cmten = false) :
    Completes (.dioDutyWrite n v) s (fun t => (t.dioOf n).late = some v.toNat ∧ AllKept s t) := by
  have hstart : LoopWork [] s (s.consume (DIO_DUTY n) (W v.toNat)) := ⟨fun _ _ => rfl, memKept_consume⟩
  have hwait : (s.consume (DIO_DUTY n) (W v.toNat)).dutyWrite n v.toNat
      = (s.consume (DIO_DUTY n) (W v.toNat)).setDio n { s.dioOf n with late := some v.toNat } :=
    if_pos (Bool.and_eq_true_iff.mpr ⟨hdue, congrArg not hcmt⟩)
  refine completes_of_act (work := fun z => (z.consume (DIO_DUTY n) (W v.toNat)).dutyWrite n v.toNat) hup rfl ?_
  rw [hwait, State.dioOf_settle, State.dioOf_setDio_same]
  exact ⟨rfl, (hstart.trans loopWork_setDio).settled.allKept⟩

theorem dioDutyWrite_takes (hup : s.up = true) (n : Fin 32) (v : BitVec 18) (h : s.reloadDue n = false ∨ (s.dioEnt n).cmten = true) :
    Completes (.dioDutyWrite n v) s (fun t => t.get (DIO_DUTY.DUTY n) = v.toNat
      ∧ (t.dioOf n).shadow = (if (s.dioEnt n).cmten then v.toNat else (s.dioOf n).shadow)
      ∧ (t.dioOf n).pduty = (if (s.dioEnt n).cmten then (s.dioOf n).pduty else v.toNat)
      ∧ RegsKeptBut [DIO_DUTY n, DIO_PST n] s t ∧ MemKept s t) := by
  have hstart : LoopWork [DIO_DUTY n, DIO_PST n] s (s.consume (DIO_DUTY n) (W v.toNat)) := ⟨fun _ _ => rfl, memKept_consume⟩
  have htake : (s.consume (DIO_DUTY n) (W v.toNat)).dutyWrite n v.toNat = (s.consume (DIO_DUTY n) (W v.toNat)).takeDuty n v.toNat := by
    refine if_neg fun hno => ?_
    obtain ⟨hdue, hcmt⟩ := Bool.and_eq_true_iff.mp hno
    obtain h | h := h
    · exact absurd (h.symm.trans hdue) Bool.false_ne_true
    · exact absurd (hcmt.symm.trans (congrArg not h)) (by decide)
  have htaken : (s.consume (DIO_DUTY n) (W v.toNat)).dutyTaken n v.toNat = s.dutyTaken n v.toNat := rfl
  obtain ⟨hduty, hrec, hwork⟩ := takeDuty_shows (s := s.consume (DIO_DUTY n) (W v.toNat)) (n := n) v.isLt
  refine completes_of_act (work := fun z => (z.consume (DIO_DUTY n) (W v.toNat)).dutyWrite n v.toNat) hup rfl ?_
  rw [htake, State.get_settle, State.dioOf_settle, hduty, hrec, htaken]
  refine ⟨rfl, ?_, ?_, (hstart.trans hwork).settled.kept⟩
  · unfold State.dutyTaken
    split <;> rfl
  · unfold State.dutyTaken
    split <;> rfl

end

/-- Settles O44: every trip opens its switch by the one work that drives a point, a group's trips are one fold of it, and so are the
switch's moves at a reload and at the end of the duty. -/
theorem discreteOutputsTripAndModulate : Obligations.DiscreteOutputsTripAndModulate := by
  unfold Obligations.DiscreteOutputsTripAndModulate
  intro s n hup
  exact ⟨fun c ma held hsw h => dioOutputTrip_trips hup n c ma held hsw h, dioOutputTrip_group hup n, dioBlankingEnd_ends hup n,
    dioClampOnset_shows hup n, dioClampEnd_shows hup n, fun ol raised held hheld h => dioDiagFault_shows hup n ol raised held hheld h,
    fun g uv vgs held => groupUvChange_shows hup g uv vgs held, fun a ha hdue hcmd _ => dioTripClear_clears hup n a ha hdue hcmd,
    dioOfltWrite_clears hup, pwmReload_reloads hup n, fun a => pwmGateClose_closes hup n a,
    fun v => ⟨fun ⟨hdue, hcmt⟩ => dioDutyWrite_waits hup n v hdue hcmt, dioDutyWrite_takes hup n v⟩⟩

end Sys2Proof.Machine

namespace Sys2Proof.Machine

open Sys2Proof

/-! ## The command queue (00_scope.md) -/

theorem step_of_pending {c : Instr} {s : State} {r : List Instr} (h : s.pending = c :: r) : step s = exec c { s with pending := r } := by
  unfold step
  rw [h]

theorem step_of_idle {s : State} (h : s.pending = []) : step s = .next s := by
  unfold step
  rw [h]

/-- Settles O1: a step goes by the front of the queue. -/
theorem commandsRunFirstInFirstOut : Obligations.CommandsRunFirstInFirstOut := by
  unfold Obligations.CommandsRunFirstInFirstOut
  exact ⟨fun _ _ _ h => step_of_pending h, fun _ h => step_of_idle h⟩

end Sys2Proof.Machine
namespace Sys2Proof.Machine

open Sys2Proof

section
variable {s t u : State} {P : State → Prop} {ins : Instr} {f : Fld} {a b i n req code : Nat} {w : Word} {x : Bool} {p : Path}
  {l l' : List Nat} {work : State → State} {y : Addr}

/-! ## The ports' commands: what they run and what they keep -/

/-- A row of the test access port with power ends in what its work leaves. -/
theorem completes_of_tapAct (hs : s.life.boot ≠ .off) (hrun : exec ins s = tapAct s work) (h : P (settle (work s))) : Completes ins s P := by
  refine ⟨_, hrun.trans ?_, h⟩
  unfold tapAct done
  rw [if_neg (by simpa using hs)]

theorem LoopWork.raise (h : LoopWork l s t) (hf : f.addr ∈ l) : LoopWork l s (t.raise f) := h.put hf

theorem loopWork_of_allKept (h : AllKept s t) : LoopWork l s t := ⟨fun a _ => h.1 a, h.2⟩

/-- A row that runs as its meaning says: the meaning is then taken apart by its name. -/
theorem completes_of_exec {o : Host.Outcome State Fault Refusal} (hrun : exec ins s = o) (h : ∃ t, o = .next t ∧ P t) : Completes ins s P := by
  obtain ⟨t, ht, hp⟩ := h
  exact ⟨t, hrun.trans ht, hp⟩

theorem act_ends (hup : s.up = true) (h : P (settle (work s))) : ∃ t, act s work = .next t ∧ P t := ⟨_, act_up hup, h⟩

theorem portAct_ends (hs : s.served = true) (h : P (settle (work s))) : ∃ t, portAct s work = .next t ∧ P t :=
  ⟨_, portAct_served hs work, h⟩

theorem hostAct_ends (hs : s.native = true) (h : P (settle (work s))) : ∃ t, hostAct s work = .next t ∧ P t := by
  refine ⟨_, ?_, h⟩
  unfold hostAct done
  rw [if_pos hs]

/-! ## The test access port (R495, R496) -/

theorem loadIr_loads : (s.loadIr n x).hst.ir = n ∧ (s.loadIr n x).flag SYS_DBG.SCAN = x ∧ LoopWork [SYS_DBG] s (s.loadIr n x) :=
  ⟨by simp [State.loadIr], State.flag_putB_same rfl, (loopWork_of_eq (s := s) (t := { s with hst := { s.hst with ir := n } }) rfl rfl).putB (by simp)⟩

/-- An instruction is loaded with its code. -/
theorem tap_loads (hb : s.life.boot ≠ .off) (hrun : exec ins s = tapAct s (fun z => z.loadIr n x)) :
    Completes ins s (fun t => t.hst.ir = n ∧ t.flag SYS_DBG.SCAN = x ∧ RegsKeptBut [SYS_DBG] s t ∧ MemKept s t) := by
  obtain ⟨hir, hscan, hwork⟩ := loadIr_loads (s := s) (n := n) (x := x)
  refine completes_of_tapAct (work := fun z => z.loadIr n x) hb hrun ?_
  rw [State.hst_settle, State.flag_settle]
  exact ⟨hir, hscan, hwork.settled.kept⟩

/-- A boundary-scan instruction is loaded in SAFE or the start-up interval. -/
theorem tap_scans (hb : s.life.boot ≠ .off) (hrun : exec ins s = tapAct s (fun z => z.scanIr n)) (h : s.mode = 3 ∨ s.starting = true) :
    Completes ins s (fun t => t.hst.ir = n ∧ t.flag SYS_DBG.SCAN = true ∧ RegsKeptBut [SYS_DBG] s t ∧ MemKept s t) := by
  have hscan : s.scanIr n = s.loadIr n true := if_pos (by simpa [Or.comm] using h)
  obtain ⟨hir, hflag, hwork⟩ := loadIr_loads (s := s) (n := n) (x := true)
  refine completes_of_tapAct (work := fun z => z.scanIr n) hb hrun ?_
  rw [hscan, State.hst_settle, State.flag_settle]
  exact ⟨hir, hflag, hwork.settled.kept⟩

/-- Elsewhere it is refused, with BYPASS in its place. -/
theorem tap_refuses (hb : s.life.boot ≠ .off) (hrun : exec ins s = tapAct s (fun z => z.scanIr n)) (hmode : s.mode ≠ 3)
    (hstart : s.starting = false) : Completes ins s (fun t => t.hst.ir = 31 ∧ t.flag SYS_DBG.SCAN = false
      ∧ t.flag SYS_DBG.REFUSED = true ∧ RegsKeptBut [SYS_DBG] s t ∧ MemKept s t) := by
  have hscan : s.scanIr n = (s.loadIr 31 false).putB SYS_DBG.REFUSED true := if_neg (by simp [hmode, hstart])
  obtain ⟨hir, hflag, hwork⟩ := loadIr_loads (s := s) (n := 31) (x := false)
  refine completes_of_tapAct (work := fun z => z.scanIr n) hb hrun ?_
  rw [hscan, State.hst_settle, State.flag_settle, State.flag_settle, State.hst_putB]
  exact ⟨hir, (State.flag_putB_other rfl rfl).trans hflag, State.flag_putB_same rfl, (hwork.putB (by simp)).settled.kept⟩

end

/-- Settles O24: each row loads its code, or answers for a boundary-scan instruction by mode. -/
theorem testAccessPortInstructions : Obligations.TestAccessPortInstructions := by
  unfold Obligations.TestAccessPortInstructions
  refine fun s hb => ⟨fun p hp => ?_, fun p hp => ?_⟩
  · simp only [List.mem_cons, List.not_mem_nil, or_false] at hp
    obtain rfl | rfl | rfl | rfl | rfl | rfl := hp <;> exact tap_loads hb rfl
  · simp only [List.mem_cons, List.not_mem_nil, or_false] at hp
    obtain rfl | rfl | rfl := hp <;> exact ⟨tap_scans hb rfl, tap_refuses hb rfl⟩

end Sys2Proof.Machine

namespace Sys2Proof.Machine

open Sys2Proof

section
variable {s t u : State} {P : State → Prop} {ins : Instr} {f : Fld} {a b i n req code : Nat} {w : Word} {x : Bool} {p : Path}
  {l l' : List Nat} {y : Addr} {o : List OutWord}

/-! ## Reads through a port (R478, R484, R494) -/

/-- A readable word as a port answers it. -/
def State.answerOf (s : State) (a : Nat) : OutWord := ⟨0xA, s.shown a, tagOf (s.shown a), 0⟩

theorem upsetAt_nil : upsetAt [] a = .clean := rfl

theorem State.readAcc_readable (h : s.readable a) : s.readAcc p a .clean = (s, s.answerOf a) := by
  obtain ⟨hsram, hright, hdeaf, hpoison⟩ := h
  have hread : s.sramRead a .clean 27 = (s, s.sramAt a, tagOf (s.sramAt a), 0) := by
    unfold State.sramRead
    dsimp only
    rw [hpoison, if_neg Bool.false_ne_true]
  have hopen : (sramRight a).isNone = false := by rw [← Option.not_isSome, hright]; rfl
  unfold State.readAcc
  dsimp only
  rw [if_pos hsram, hdeaf, if_neg Bool.false_ne_true, hopen, if_neg Bool.false_ne_true, hread]
  rfl

theorem readRun_readable : ∀ (n i : Nat), (∀ j, i ≤ j → j < i + n → s.readable (stepAddr y j)) →
    readRun p [] y i n s = (s, (List.range' i n).map (fun j => s.answerOf (stepAddr y j)))
  | 0, _, _ => rfl
  | n + 1, i, h => by
    have hhead : s.readAcc p (stepAddr y i) (upsetAt [] (stepAddr y i)) = (s, s.answerOf (stepAddr y i)) :=
      State.readAcc_readable (h i le_rfl (by omega))
    have htail := readRun_readable n (i + 1) (fun j hj hj' => h j (by omega) (by omega))
    unfold readRun
    dsimp only
    rw [hhead, htail, List.range'_succ, List.map_cons]

theorem readRun_words {p : Path} (h : ∀ i, i < n → s.readable (stepAddr y i)) : readRun p [] y 0 n s = (s, s.taggedWords y n) := by
  rw [readRun_readable n 0 (fun j _ hj => h j (by omega)), ← List.range_eq_range']
  rfl

theorem map_plain_taggedWords : (s.taggedWords y n).map OutWord.plain = s.plainWords y n := by
  unfold State.taggedWords State.plainWords
  rw [List.map_map]
  rfl

theorem State.drain_empty (h : s.hst.wq = []) : s.drain = s := by
  unfold State.drain
  rw [h]
  rfl

@[simp] theorem State.out_give : (s.give o).hst.out = o := rfl
@[simp] theorem State.get_give : (s.give o).get f = s.get f := rfl
@[simp] theorem State.flag_give : (s.give o).flag f = s.flag f := rfl

theorem allKept_give : AllKept s (s.give o) := ⟨fun _ => rfl, memKept_of_eq rfl rfl rfl rfl⟩

theorem loopWork_give : LoopWork l s (s.give o) := loopWork_of_allKept allKept_give

theorem AllKept.settled (h : AllKept s t) : AllKept s (settle t) := h.trans allKept_settle

/-! ### Transactions refused (R477, R479) -/

theorem badOp_shows : s.badOp.hst.out = [] ∧ s.badOp.flag HST_STAT.BADOP = true ∧ LoopWork [HST_STAT] s s.badOp := by
  have hbad : s.badOp = (s.putB HST_STAT.BADOP true).give [] := by simp [State.badOp, State.give]
  rw [hbad, State.flag_give]
  exact ⟨State.out_give, State.flag_putB_same rfl, (LoopWork.refl.putB (by simp)).trans loopWork_give⟩

theorem headerBad_shows : s.headerBad.flag HST_STAT.HDRERR = true ∧ CountsUp HST_ERRCNT.HDRERRS s s.headerBad
    ∧ LoopWork [HST_STAT, HST_ERRCNT] s s.headerBad := by
  refine ⟨?_, ?_, (LoopWork.refl.putB (by simp)).inc (by simp)⟩
  · exact (State.flag_put_other rfl rfl).trans (State.flag_putB_same rfl)
  · exact countsUp_inc rfl (State.get_putB_other rfl rfl)

/-! ### The transactions (R476 to R482, R503) -/

theorem hostRead_words (hs : s.native = true) (hq : s.hst.wq = []) {m : BitVec 12} (h : ∀ i, i < m.toNat → s.readable (stepAddr y i))
    (hchk : s.flag HST_CFG.CHKREQ = false) :
    Completes (.hostRead y m []) s (fun t => t.hst.out = s.plainWords y m.toNat ∧ AllKept s t) := by
  refine completes_of_exec (o := execHostRead y m [] s) rfl (hostAct_ends hs ?_)
  unfold State.noPlain
  rw [hchk, if_neg Bool.false_ne_true, State.drain_empty hq, readRun_words h]
  dsimp only
  rw [map_plain_taggedWords, State.hst_settle, State.out_give]
  exact ⟨rfl, allKept_give.settled⟩

theorem hostReadChecked_words (hs : s.native = true) (hq : s.hst.wq = []) {m : BitVec 12} (h : ∀ i, i < m.toNat → s.readable (stepAddr y i)) :
    Completes (.hostReadChecked (headerCheck 0x0B y) y m []) s (fun t => t.hst.out = s.taggedWords y m.toNat ∧ AllKept s t) := by
  refine completes_of_exec (o := execHostReadChecked _ y m [] s) rfl (hostAct_ends hs ?_)
  rw [if_neg (by simp), State.drain_empty hq, readRun_words h]
  dsimp only
  rw [State.hst_settle, State.out_give]
  exact ⟨rfl, allKept_give.settled⟩

theorem hostReadChecked_headerBad (hs : s.native = true) {m : BitVec 12} {check : Byte} (hc : check ≠ headerCheck 0x0B y) :
    Completes (.hostReadChecked check y m []) s (fun t => t.hst.out = badWords m.toNat ∧ t.flag HST_STAT.HDRERR = true
      ∧ CountsUp HST_ERRCNT.HDRERRS s t ∧ RegsKeptBut [HST_STAT, HST_ERRCNT] s t ∧ MemKept s t) := by
  obtain ⟨hflag, hcount, hwork⟩ := headerBad_shows (s := s)
  refine completes_of_exec (o := execHostReadChecked check y m [] s) rfl (hostAct_ends hs ?_)
  rw [if_pos (by simpa using hc), State.hst_settle, State.out_give, State.flag_settle, State.flag_give]
  exact ⟨rfl, hflag, hcount.of_get_eq (State.get_settle.trans State.get_give), (hwork.trans loopWork_give).settled.kept⟩

/-- An unlisted opcode, or one treated as unlisted. -/
theorem completes_badOp (work : State → State) (hs : s.native = true) (hrun : exec ins s = hostAct s work) (hbad : work s = s.badOp) :
    Completes ins s (fun t => t.hst.out = [] ∧ t.flag HST_STAT.BADOP = true ∧ RegsKeptBut [HST_STAT] s t ∧ MemKept s t) := by
  obtain ⟨hout, hflag, hwork⟩ := badOp_shows (s := s)
  refine completes_of_exec hrun (hostAct_ends hs ?_)
  rw [hbad, State.hst_settle, State.flag_settle]
  exact ⟨hout, hflag, hwork.settled.kept⟩

theorem hostRead_plainRefused (hs : s.native = true) {m : BitVec 12} (hchk : s.flag HST_CFG.CHKREQ = true) :
    Completes (.hostRead y m []) s (fun t => t.hst.out = [] ∧ t.flag HST_STAT.BADOP = true ∧ RegsKeptBut [HST_STAT] s t ∧ MemKept s t) :=
  completes_badOp (fun z => if z.noPlain then z.badOp
    else let r := readRun .host [] y 0 m.toNat z.drain; r.1.give (r.2.map OutWord.plain)) hs rfl (if_pos hchk)

theorem hostBadOpcode_refused (hs : s.native = true) {op : Byte} (hop : op ∉ opcodes) :
    Completes (.hostBadOpcode op) s (fun t => t.hst.out = [] ∧ t.flag HST_STAT.BADOP = true ∧ RegsKeptBut [HST_STAT] s t ∧ MemKept s t) :=
  completes_badOp (fun z => if opcodes.contains op then z else z.badOp) hs rfl (if_neg (by rwa [List.contains_iff_mem]))

/-- A read of a register's view: one word in plain form. -/
theorem completes_view (hs : s.native = true) (hq : s.hst.wq = [])
    (hrun : exec ins s = hostAct s (fun z => z.drain.give [⟨0xA, z.drain.view a, 0, 0⟩])) :
    Completes ins s (fun t => t.hst.out = [⟨0xA, s.view a, 0, 0⟩] ∧ AllKept s t) := by
  refine completes_of_exec hrun (hostAct_ends hs ?_)
  rw [State.drain_empty hq, State.hst_settle, State.out_give]
  exact ⟨rfl, allKept_give.settled⟩

theorem hostCsRise_keeps (hs : s.native = true) (hq : s.hst.wq = []) (h : x = true → s.readable y.toNat) :
    Completes (.hostCsRise x y []) s (fun t => AllKept s t) := by
  refine completes_of_exec (o := execHostCsRise x y [] s) rfl (hostAct_ends hs ?_)
  cases x with
  | false => exact allKept_settle
  | true =>
    rw [if_pos rfl, State.drain_empty hq, upsetAt_nil, State.readAcc_readable (h rfl)]
    exact allKept_settle

end

/-- Settles O18: a run of readable words is answered word by word, and neither the reads nor the answer touch a register. -/
theorem hostReadsReturnTheWords : Obligations.HostReadsReturnTheWords := by
  unfold Obligations.HostReadsReturnTheWords
  intro s a n hs hq
  exact ⟨hostRead_words hs hq, hostReadChecked_words hs hq, fun _ => hostReadChecked_headerBad hs,
    hostRead_plainRefused hs, fun _ => hostBadOpcode_refused hs,
    completes_view hs hq rfl, completes_view hs hq rfl, fun _ => hostCsRise_keeps hs hq⟩

end Sys2Proof.Machine

namespace Sys2Proof.Machine

open Sys2Proof

section
variable {s t u : State} {P : State → Prop} {ins : Instr} {f : Fld} {a b i n req code : Nat} {w : Word} {x : Bool} {p : Path}
  {l l' : List Nat} {y : Addr} {o : List OutWord} {r : List HostWr}

/-! ## Writes of the host port (R477, R479, R481 to R483) -/

theorem State.enqueue_room (h : s.hst.wq.length < 64) : s.enqueue a w = s.dequeued (s.hst.wq ++ [⟨a, w⟩]) := if_neg (by omega)

theorem State.dequeued_wq : s.dequeued s.hst.wq = s := rfl

/-- Words that find room join the queue in their order. -/
theorem foldl_enqueue {α : Type} (addr : α → Nat) (word : α → Word) : ∀ (m : List α) (s : State), s.hst.wq.length + m.length ≤ 64 →
    m.foldl (fun (z : State) c => z.enqueue (addr c) (word c)) s = s.dequeued (s.hst.wq ++ m.map (fun c => ⟨addr c, word c⟩))
  | [], s, _ => by rw [List.map_nil, List.append_nil]; rfl
  | c :: m, s, h => by
    rw [List.length_cons] at h
    have hrest := foldl_enqueue addr word m (s.dequeued (s.hst.wq ++ [⟨addr c, word c⟩])) (by simp [State.dequeued]; omega)
    rw [List.foldl_cons, State.enqueue_room (by omega), hrest, List.map_cons]
    exact congrArg s.dequeued (List.append_assoc _ _ _)

/-- A transaction whose words all join the queue. -/
def Queued (r : List HostWr) (s t : State) : Prop := t.hst.wq = s.hst.wq ++ r ∧ t.hst.out = [] ∧ AllKept s t

theorem queued_settled : Queued r s (settle ((s.dequeued (s.hst.wq ++ r)).give [])) :=
  ⟨rfl, rfl, (allKept_dequeued.trans allKept_give).settled⟩

/-- The address of each word of a plain or fixed transaction. -/
def placeOf (y : Addr) (fixed : Bool) (i : Nat) : Nat := if fixed then y.toNat else stepAddr y i

theorem writePlain_queues {m : List Word} (hchk : s.flag HST_CFG.CHKREQ = false) (hroom : s.hst.wq.length + m.length ≤ 64) :
    Queued (m.zipIdx.map (fun c => ⟨placeOf y x c.2, c.1⟩)) s (settle (s.writePlain y x m)) := by
  have hplain : s.writePlain y x m
      = (m.zipIdx.foldl (fun (z : State) (c : Word × Nat) => z.enqueue (placeOf y x c.2) c.1) s).give [] :=
    if_neg (by simp [State.noPlain, hchk])
  rw [hplain, foldl_enqueue (fun c : Word × Nat => placeOf y x c.2) (fun c => c.1) m.zipIdx s (by simpa using hroom)]
  exact queued_settled

theorem State.enqueueChecked_good : s.enqueueChecked a w (tagOf w) = s.enqueue a w := if_pos (by simp)

theorem foldl_enqueueChecked {m : List (Word × Byte)} (h : ∀ c ∈ m, c.2 = tagOf c.1) (place : Nat → Nat) :
    m.zipIdx.foldl (fun (z : State) (c : (Word × Byte) × Nat) => z.enqueueChecked (place c.2) c.1.1 c.1.2) s
      = m.zipIdx.foldl (fun (z : State) (c : (Word × Byte) × Nat) => z.enqueue (place c.2) c.1.1) s := by
  refine List.foldl_ext _ _ _ fun z c hc => ?_
  rw [h c.1 (List.fst_mem_of_mem_zipIdx hc), State.enqueueChecked_good]

theorem writeChecked_queues {op : Byte} {m : List (Word × Byte)} (htag : ∀ c ∈ m, c.2 = tagOf c.1)
    (hroom : s.hst.wq.length + m.length ≤ 64) : Queued (m.zipIdx.map (fun c => ⟨placeOf y x c.2, c.1.1⟩)) s
      (settle (s.writeChecked op (headerCheck op y) y x m)) := by
  have hheader : s.writeChecked op (headerCheck op y) y x m
      = (m.zipIdx.foldl (fun (z : State) (c : (Word × Byte) × Nat) => z.enqueueChecked (placeOf y x c.2) c.1.1 c.1.2) s).give [] :=
    if_neg (by simp)
  rw [hheader, foldl_enqueueChecked htag,
    foldl_enqueue (fun c : (Word × Byte) × Nat => placeOf y x c.2) (fun c => c.1.1) m.zipIdx s (by simpa using hroom)]
  exact queued_settled

/-- At a fixed address a word's place in the transaction does not matter. -/
theorem map_zipIdx_fst {α β : Type} (g : α → β) (m : List α) : m.zipIdx.map (fun c => g c.1) = m.map g := by
  have h : (fun c : α × Nat => g c.1) = g ∘ Prod.fst := rfl
  rw [h, ← List.map_map, List.zipIdx_map_fst]

/-! ### Words lost (R479, R481, R483) -/

/-- A result shown, or one that stands already, writes HST_WRES and HST_ISRC alone. -/
theorem loopWork_wres (ha : HST_WRES ∈ l) (hi : HST_ISRC ∈ l) : LoopWork l s (s.wres code a) := by
  unfold State.wres
  exact LoopWork.ite LoopWork.refl (((LoopWork.refl.putB ha).put ha).put ha |>.raise hi)

theorem State.hst_wres : (s.wres code a).hst = s.hst := by
  unfold State.wres
  split
  · rfl
  · simp

/-- A word lost: its flag and its counter go up, the queue stays. -/
def LosesWord (g h : Fld) (s t : State) : Prop :=
  t.hst.wq = s.hst.wq ∧ t.flag g = true ∧ CountsUp h s t ∧ MemKept s t ∧ RegsKeptBut [HST_STAT, HST_ERRCNT, HST_WRES, HST_ISRC] s t

theorem losesWord {g h : Fld} (hg : g.ok = true) (hh : h.ok = true) (hgaddr : g.addr = HST_STAT) (hhaddr : h.addr = HST_ERRCNT) :
    LosesWord g h s (settle ((((s.putB g true).inc h).wres code a).give [])) := by
  have hapart : HST_STAT ≠ HST_ERRCNT := by decide
  have hwres : LoopWork [HST_WRES, HST_ISRC] ((s.putB g true).inc h) (((s.putB g true).inc h).wres code a) :=
    loopWork_wres (by simp) (by simp)
  have hwork : LoopWork [HST_STAT, HST_ERRCNT, HST_WRES, HST_ISRC] s (((s.putB g true).inc h).wres code a) :=
    ((LoopWork.refl.putB (by simp [hgaddr])).inc (by simp [hhaddr])).trans (hwres.mono (by simp))
  have hgkept : g.addr ∉ [HST_WRES, HST_ISRC] := by rw [hgaddr]; decide
  have hhkept : h.addr ∉ [HST_WRES, HST_ISRC] := by rw [hhaddr]; decide
  have hflag : (((s.putB g true).inc h).wres code a).flag g = true := by
    rw [hwres.flag hgkept, State.inc, State.flag_put_other hh (by simp [Fld.apart, hgaddr, hhaddr, hapart]), State.flag_putB_same hg]
  have hcount : CountsUp h s ((s.putB g true).inc h) :=
    countsUp_inc hh (State.get_putB_other hg (by simp [Fld.apart, hgaddr, hhaddr, hapart.symm]))
  obtain ⟨hregs, hmem⟩ := (hwork.trans loopWork_give).settled.kept
  refine ⟨?_, ?_, hcount.of_get_eq ?_, hmem, hregs⟩
  · rw [State.hst_settle]
    exact (congrArg HostS.wq State.hst_wres).trans (by simp)
  · rw [State.flag_settle, State.flag_give, hflag]
  · rw [State.get_settle, State.get_give, hwres.get hhkept]

/-! ### The transactions -/

theorem hostWrite_queues (hs : s.native = true) (m : List Word) (hchk : s.flag HST_CFG.CHKREQ = false)
    (hroom : s.hst.wq.length + m.length ≤ 64) :
    Completes (.hostWrite y m) s (Queued (m.zipIdx.map (fun c => ⟨stepAddr y c.2, c.1⟩)) s) :=
  completes_of_exec (o := execHostWrite y m s) rfl (hostAct_ends hs (writePlain_queues hchk hroom))

theorem hostWriteFixed_queues (hs : s.native = true) (m : List Word) (hchk : s.flag HST_CFG.CHKREQ = false)
    (hroom : s.hst.wq.length + m.length ≤ 64) : Completes (.hostWriteFixed y m) s (Queued (m.map (fun v => ⟨y.toNat, v⟩)) s) := by
  have hqueued := writePlain_queues (x := true) (y := y) hchk hroom
  rw [← map_zipIdx_fst]
  exact completes_of_exec (o := execHostWriteFixed y m s) rfl (hostAct_ends hs hqueued)

theorem hostWriteChecked_queues (hs : s.native = true) (m : List (Word × Byte)) (htag : ∀ c ∈ m, c.2 = tagOf c.1)
    (hroom : s.hst.wq.length + m.length ≤ 64) : Completes (.hostWriteChecked (headerCheck 0x12 y) y m) s
      (Queued (m.zipIdx.map (fun c => ⟨stepAddr y c.2, c.1.1⟩)) s) :=
  completes_of_exec (o := execHostWriteChecked _ y m s) rfl (hostAct_ends hs (writeChecked_queues htag hroom))

theorem hostWriteFixedChecked_queues (hs : s.native = true) (m : List (Word × Byte)) (htag : ∀ c ∈ m, c.2 = tagOf c.1)
    (hroom : s.hst.wq.length + m.length ≤ 64) : Completes (.hostWriteFixedChecked (headerCheck 0x32 y) y m) s
      (Queued (m.map (fun c => ⟨y.toNat, c.1⟩)) s) := by
  have hqueued := writeChecked_queues (x := true) (y := y) (op := 0x32) htag hroom
  rw [← map_zipIdx_fst (fun c : Word × Byte => (⟨y.toNat, c.1⟩ : HostWr))]
  exact completes_of_exec (o := execHostWriteFixedChecked _ y m s) rfl (hostAct_ends hs hqueued)

theorem hostWrite_overflows (hs : s.native = true) (v : Word) (hchk : s.flag HST_CFG.CHKREQ = false) (hfull : s.hst.wq.length = 64) :
    Completes (.hostWrite y [v]) s (LosesWord HST_STAT.WOVF HST_ERRCNT.WOVFS s) := by
  have hlost : s.writePlain y false [v] = (((s.putB HST_STAT.WOVF true).inc HST_ERRCNT.WOVFS).wres 10 (stepAddr y 0)).give [] :=
    (if_neg (by simp [State.noPlain, hchk])).trans (congrArg (State.give · []) (if_pos (by omega)))
  refine completes_of_exec (o := execHostWrite y [v] s) rfl (hostAct_ends hs ?_)
  rw [hlost]
  exact losesWord rfl rfl rfl rfl

theorem hostWriteChecked_badTag (hs : s.native = true) (v : Word) (tag : Byte) (htag : tag ≠ tagOf v) :
    Completes (.hostWriteChecked (headerCheck 0x12 y) y [(v, tag)]) s (LosesWord HST_STAT.TAGERR HST_ERRCNT.TAGERRS s) := by
  have hlost : s.writeChecked 0x12 (headerCheck 0x12 y) y false [(v, tag)]
      = (((s.putB HST_STAT.TAGERR true).inc HST_ERRCNT.TAGERRS).wres 9 (stepAddr y 0)).give [] :=
    (if_neg (by simp)).trans (congrArg (State.give · []) (if_neg (by simpa using htag)))
  refine completes_of_exec (o := execHostWriteChecked _ y [(v, tag)] s) rfl (hostAct_ends hs ?_)
  rw [hlost]
  exact losesWord rfl rfl rfl rfl

end

/-- Settles O19: the words of a transaction join the queue one after the other; a word lost shows in its flag and its counter. -/
theorem hostWritesQueueInOrder : Obligations.HostWritesQueueInOrder := by
  unfold Obligations.HostWritesQueueInOrder
  intro s a hs
  exact ⟨hostWrite_queues hs, hostWriteFixed_queues hs, hostWriteChecked_queues hs, hostWriteFixedChecked_queues hs,
    hostWrite_overflows hs, hostWriteChecked_badTag hs⟩

end Sys2Proof.Machine

namespace Sys2Proof.Machine

open Sys2Proof

section
variable {s t u : State} {P : State → Prop} {ins : Instr} {f : Fld} {a b i n req code : Nat} {w v : Word} {x : Bool} {p : Path}
  {l l' : List Nat} {y : Addr} {o : List OutWord} {r : List HostWr}

/-! ## The bus lock (R491, R492) -/

/-- A word of the free area has no unused bits. -/
theorem sramUnused_of_isFreeHost (h : isFreeHost a = true) : sramUnused a = 0 := by
  simp only [isFreeHost, Bool.and_eq_true, decide_eq_true_eq] at h
  unfold sramUnused
  repeat rw [if_neg (by simp only [Bool.and_eq_true, decide_eq_true_eq]; omega)]

theorem State.shown_freeHost (h : isFreeHost a = true) : s.shown a = s.sramAt a := by
  unfold State.shown sramShown
  rw [sramUnused_of_isFreeHost h]
  exact BitVec.and_allOnes

/-- A lock within its 16 beats stands. -/
theorem State.lockCheck_young (h : s.hst.lockAge < 16) : s.lockCheck = s := if_neg (by omega)

theorem State.lockCheck_free (h : s.flag HST_LOCK.HELD = false) : s.lockCheck = s := by
  unfold State.lockCheck State.breakLock
  rw [h]
  simp

/-- The lock's age at its start. -/
def State.ageFreed (s : State) : State := { s with hst := { s.hst with lockAge := 0 } }

theorem State.ageFreed_eq : ({ s with hst := { s.hst with lockAge := 0 } } : State) = s.ageFreed := rfl

@[simp] theorem State.get_ageFreed : s.ageFreed.get f = s.get f := rfl
@[simp] theorem State.flag_ageFreed : s.ageFreed.flag f = s.flag f := rfl

theorem allKept_ageFreed : AllKept s s.ageFreed := ⟨fun _ => rfl, memKept_of_eq rfl rfl rfl rfl⟩

theorem State.out_settle_give : (settle (s.give o)).hst.out = o := rfl
theorem State.lockedAt_settle_give : (settle (s.give o)).lockedAt a = s.lockedAt a := rfl

/-- The lock as it is taken on a word. -/
def State.lockTaken (s : State) (a : Nat) : State := (((s.putB HST_LOCK.HELD true).put HST_LOCK.ADDR a).putB HST_STAT.LOCKED true).ageFreed

theorem lockTaken_locks (ha : a < 2 ^ 24) : (s.lockTaken a).lockedAt a = true ∧ (s.lockTaken a).flag HST_STAT.LOCKED = true
    ∧ LoopWork [HST_LOCK, HST_STAT] s (s.lockTaken a) := by
  have hheld : (s.lockTaken a).flag HST_LOCK.HELD = true := by
    rw [State.lockTaken, State.flag_ageFreed, State.flag_putB_other rfl rfl, State.flag_put_other rfl rfl, State.flag_putB_same rfl]
  have haddr : (s.lockTaken a).get HST_LOCK.ADDR = a := by
    rw [State.lockTaken, State.get_ageFreed, State.get_putB_other rfl rfl, State.get_put_same rfl]
    exact Nat.mod_eq_of_lt ha
  have hwork : LoopWork [HST_LOCK, HST_STAT] s (((s.putB HST_LOCK.HELD true).put HST_LOCK.ADDR a).putB HST_STAT.LOCKED true) :=
    ((LoopWork.refl.putB (by simp)).put (by simp)).putB (by simp)
  refine ⟨?_, State.flag_ageFreed.trans (State.flag_putB_same rfl), hwork.trans (loopWork_of_allKept allKept_ageFreed)⟩
  unfold State.lockedAt
  rw [hheld, haddr]
  simp

theorem hostReadLock_takes (hs : s.native = true) (hq : s.hst.wq = []) (hage : s.hst.lockAge < 16) (hread : s.readable y.toNat)
    (hfree : isFreeHost y.toNat = true) (hlock : s.flag HST_LOCK.HELD = false) :
    Completes (.hostReadLock (headerCheck 0x13 y) y []) s (fun t => t.hst.out = [⟨0xA, s.sramAt y.toNat, tagOf (s.sramAt y.toNat), 0⟩]
      ∧ t.lockedAt y.toNat = true ∧ t.flag HST_STAT.LOCKED = true ∧ t.hst.lockAge = 0 ∧ RegsKeptBut [HST_LOCK, HST_STAT] s t ∧ MemKept s t) := by
  obtain ⟨hat, hshown, hwork⟩ := lockTaken_locks (s := s) y.isLt
  have hword : s.answerOf y.toNat = ⟨0xA, s.sramAt y.toNat, tagOf (s.sramAt y.toNat), 0⟩ := by
    rw [State.answerOf, State.shown_freeHost hfree]
  refine completes_of_exec (o := execHostReadLock _ y [] s) rfl (hostAct_ends hs ?_)
  rw [if_neg (by simp)]
  dsimp only
  rw [State.drain_empty hq, State.lockCheck_young hage, if_neg (by simp [hfree, hlock]), upsetAt_nil, State.readAcc_readable hread, hword]
  rw [State.ageFreed_eq, ← State.lockTaken, State.out_settle_give, State.lockedAt_settle_give, State.flag_settle, State.flag_give]
  exact ⟨rfl, hat, hshown, rfl, (hwork.trans loopWork_give).settled.kept⟩

theorem hostReadLock_denied (hs : s.native = true) (hq : s.hst.wq = []) (hage : s.hst.lockAge < 16) (hlock : s.flag HST_LOCK.HELD = true) :
    Completes (.hostReadLock (headerCheck 0x13 y) y []) s (fun t => t.hst.out = [⟨0x5, 0, tagOf 0, 5⟩] ∧ AllKept s t) := by
  refine completes_of_exec (o := execHostReadLock _ y [] s) rfl (hostAct_ends hs ?_)
  rw [if_neg (by simp)]
  dsimp only
  rw [State.drain_empty hq, State.lockCheck_young hage, if_pos (by simp [hlock]), State.hst_settle, State.out_give]
  exact ⟨rfl, allKept_give.settled⟩

/-! ### The lock ends -/

/-- The lock's registers once it has ended. -/
def State.lockFreed (s : State) : State := ((s.putB HST_LOCK.HELD false).putB HST_STAT.LOCKED false).ageFreed

theorem State.unlock_eq : s.unlock = s.lockFreed.unhold := rfl

theorem lockFreed_frees : s.lockFreed.flag HST_LOCK.HELD = false ∧ s.lockFreed.flag HST_STAT.LOCKED = false
    ∧ LoopWork [HST_LOCK, HST_STAT] s s.lockFreed := by
  have hwork : LoopWork [HST_LOCK, HST_STAT] s ((s.putB HST_LOCK.HELD false).putB HST_STAT.LOCKED false) :=
    (LoopWork.refl.putB (by simp)).putB (by simp)
  refine ⟨?_, State.flag_ageFreed.trans (State.flag_putB_same rfl), hwork.trans (loopWork_of_allKept allKept_ageFreed)⟩
  rw [State.lockFreed, State.flag_ageFreed, State.flag_putB_other rfl rfl, State.flag_putB_same rfl]

/-- A debug access is done. -/
def State.dbgDone (s : State) : State := { s with hst := { s.hst with dbgState := 2, dbgResp := 0 } }

/-- One held write proceeds; a debug write is then done. -/
def State.proceed (s : State) (h : HeldWr) : State :=
  if h.path == .debug then (s.setSram h.addr h.w).dbgDone else s.setSram h.addr h.w

/-- No write is held any more. -/
def State.noneHeld (s : State) : State := { s with hst := { s.hst with held := [] } }

theorem allKept_noneHeld : AllKept s s.noneHeld := ⟨fun _ => rfl, memKept_of_eq rfl rfl rfl rfl⟩

theorem State.unhold_eq : s.unhold = s.hst.held.foldl State.proceed s.noneHeld := rfl

/-- Registers, MRAM and the list of held writes are as before. -/
def HoldKept (s t : State) : Prop := t.regs = s.regs ∧ t.mem.mram = s.mem.mram ∧ t.mem.mramBad = s.mem.mramBad ∧ t.hst.held = s.hst.held

theorem holdKept_proceed {h : HeldWr} : HoldKept s (s.proceed h) := by
  unfold State.proceed
  split <;> exact ⟨rfl, rfl, rfl, rfl⟩

theorem holdKept_foldl : ∀ (m : List HeldWr) (s : State), HoldKept s (m.foldl State.proceed s)
  | [], _ => ⟨rfl, rfl, rfl, rfl⟩
  | h :: m, s => by
    obtain ⟨hregs, hmram, hbad, hheld⟩ := holdKept_foldl m (s.proceed h)
    obtain ⟨hregs', hmram', hbad', hheld'⟩ := holdKept_proceed (s := s) (h := h)
    exact ⟨hregs.trans hregs', hmram.trans hmram', hbad.trans hbad', hheld.trans hheld'⟩

/-- Held writes store in SRAM alone, and none stays held. -/
theorem unhold_frame : s.unhold.regs = s.regs ∧ MramKept s s.unhold ∧ s.unhold.hst.held = [] := by
  obtain ⟨hregs, hmram, hbad, hheld⟩ := holdKept_foldl s.hst.held s.noneHeld
  rw [State.unhold_eq]
  exact ⟨hregs, mramKept_of_eq hmram hbad, hheld⟩

theorem State.unhold_none (h : s.hst.held = []) : s.unhold = s.noneHeld := by
  rw [State.unhold_eq, h]
  rfl

/-- What the end of a lock leaves, held writes stored. -/
def LockEnds (s t : State) : Prop :=
  t.flag HST_LOCK.HELD = false ∧ t.flag HST_STAT.LOCKED = false ∧ t.hst.held = [] ∧ RegsKeptBut [HST_LOCK, HST_STAT] s t ∧ MramKept s t

theorem lockEnds_unlock : LockEnds s s.unlock := by
  obtain ⟨hheld, hshown, hwork⟩ := lockFreed_frees (s := s)
  obtain ⟨hregs, hmram, hnone⟩ := unhold_frame (s := s.lockFreed)
  have hreg : ∀ c, s.lockFreed.unhold.reg c = s.lockFreed.reg c := fun c => by simp only [State.reg, hregs]
  rw [State.unlock_eq]
  refine ⟨?_, ?_, hnone, fun c hc => (hreg c).trans (hwork.regs c hc), MramKept.trans hwork.mem.2 hmram⟩
  · exact (flag_of_reg_eq (hreg _)).trans hheld
  · exact (flag_of_reg_eq (hreg _)).trans hshown

theorem LockEnds.settled (h : LockEnds s t) : LockEnds s (settle t) := by
  obtain ⟨hheld, hshown, hnone, hregs, hmram⟩ := h
  exact ⟨hheld, hshown, hnone, hregs.trans fun _ _ => State.reg_settle, MramKept.trans hmram allKept_settle.2.2⟩

/-- With no write held the memory stays whole. -/
theorem memKept_unlock (h : s.hst.held = []) : MemKept s s.unlock := by
  obtain ⟨-, -, hwork⟩ := lockFreed_frees (s := s)
  have hnone : s.lockFreed.hst.held = [] := by simpa [State.lockFreed, State.ageFreed] using h
  rw [State.unlock_eq, State.unhold_none hnone]
  exact hwork.mem.trans allKept_noneHeld.2

/-! ### The commands -/

/-- A write of the locked word that no other requester overrides: the word stored, with the port's own record of it. -/
theorem hostWrite_stores (ha : s.storable a) : Stores a w s (s.hostWrite a w) ∧ (s.hostWrite a w).hst = s.hst := by
  obtain ⟨hfree, hdeaf, hun⟩ := ha
  have hcore := State.writeCore_freeHost (s := s) (w := w) hfree hdeaf
  rw [State.hostWrite_ok (by rw [hcore]), hcore]
  refine ⟨(stores_phaseStore (isSram_of_isFreeHost hfree) hun).then_kept allKept_await, ?_⟩
  dsimp only
  rw [State.phaseStore_unbeaten (isSram_of_isFreeHost hfree) hun]
  rfl

/-- The body of WRITE UNLOCK with a good header and tag. -/
def State.unlockWrite (s : State) (a : Nat) (w : Word) : State := if s.lockedAt a then (s.hostWrite a w).unlock else s.wres 8 a

theorem hostWriteUnlock_ends (hs : s.native = true) (hq : s.hst.wq = []) (hcheck : s.lockCheck = s)
    (h : P (settle ((s.give []).unlockWrite y.toNat w))) : Completes (.hostWriteUnlock (headerCheck 0x1A y) y w (tagOf w)) s P := by
  refine completes_of_exec (o := execHostWriteUnlock _ y w _ s) rfl (hostAct_ends hs ?_)
  rw [if_neg (by simp), State.drain_empty hq, hcheck]
  dsimp only
  rw [if_neg (by simp)]
  exact h

theorem hostWriteUnlock_stores (hs : s.native = true) (hq : s.hst.wq = []) (hage : s.hst.lockAge < 16) (hheld : s.hst.held = [])
    (ha : s.storable y.toNat) (hlock : s.lockedAt y.toNat = true) :
    Completes (.hostWriteUnlock (headerCheck 0x1A y) y w (tagOf w)) s (fun t => t.sramAt y.toNat = w ∧ t.flag HST_LOCK.HELD = false
      ∧ t.flag HST_STAT.LOCKED = false ∧ SramKeptBut [y.toNat] s t ∧ MramKept s t ∧ RegsKeptBut [HST_LOCK, HST_STAT] s t) := by
  have ha' : (s.give []).storable y.toNat := ha
  have hlock' : (s.give []).lockedAt y.toNat = true := hlock
  obtain ⟨hstore, hhst⟩ := hostWrite_stores (w := w) ha'
  have hnone : ((s.give []).hostWrite y.toNat w).hst.held = [] := (congrArg HostS.held hhst).trans hheld
  obtain ⟨hheld', hshown, -, hregs, -⟩ := (lockEnds_unlock (s := (s.give []).hostWrite y.toNat w)).settled
  have hmem := (memKept_unlock hnone).trans allKept_settle.2
  obtain ⟨hat, -, hsram, hmram, hkept⟩ := hstore.after_kept allKept_give
  refine hostWriteUnlock_ends hs hq (State.lockCheck_young hage) ?_
  rw [State.unlockWrite, if_pos hlock']
  exact ⟨(hmem.1 _).1.trans hat, hheld', hshown, fun c hc => ⟨(hmem.1 c).1.trans (hsram c hc).1, (hmem.1 c).2.trans (hsram c hc).2⟩,
    MramKept.trans hmram hmem.2, fun c hc => (hregs c hc).trans (hkept c)⟩

theorem hostWriteUnlock_late (hs : s.native = true) (hq : s.hst.wq = []) (hlock : s.flag HST_LOCK.HELD = false)
    (hvalid : s.flag HST_WRES.VALID = false) : Completes (.hostWriteUnlock (headerCheck 0x1A y) y w (tagOf w)) s (fun t =>
      t.get HST_WRES.RESULT = 8 ∧ t.get HST_WRES.ADDR = y.toNat ∧ RegsKeptBut [HST_WRES, HST_ISRC] s t ∧ MemKept s t) := by
  have hvalid' : (s.give []).flag HST_WRES.VALID = false := hvalid
  have hno : (s.give []).lockedAt y.toNat = false := by
    unfold State.lockedAt
    rw [State.flag_give, hlock, Bool.false_and]
  obtain ⟨-, hresult, haddr, -, -, -, -⟩ := State.wres_shows (code := 8) hvalid' (by decide) y.isLt
  have hwork : LoopWork [HST_WRES, HST_ISRC] s ((s.give []).wres 8 y.toNat) := loopWork_give.trans (loopWork_wres (by simp) (by simp))
  refine hostWriteUnlock_ends hs hq (State.lockCheck_free hlock) ?_
  rw [State.unlockWrite, if_neg (by simp [hno])]
  exact ⟨hresult, haddr, hwork.settled.kept⟩

theorem lockRelease_ends (hs : s.served = true) (hlock : s.flag HST_LOCK.HELD = true) : Completes .lockRelease s (LockEnds s) := by
  have hkept : AllKept s (s.consume HST_LOCK (W (2 ^ 34))) := ⟨fun _ => rfl, memKept_consume⟩
  have hwrite : (s.consume HST_LOCK (W (2 ^ 34))).lockWrite (W (2 ^ 34)) = (s.consume HST_LOCK (W (2 ^ 34))).unlock :=
    if_pos (Bool.and_eq_true_iff.mpr ⟨by decide, hlock⟩)
  obtain ⟨hheld, hshown, hnone, hregs, hmram⟩ := (lockEnds_unlock (s := s.consume HST_LOCK (W (2 ^ 34)))).settled
  refine completes_of_exec (o := execLockRelease s) rfl (portAct_ends hs ?_)
  rw [hwrite]
  exact ⟨hheld, hshown, hnone, fun c hc => (hregs c hc).trans (hkept.1 c), MramKept.trans hkept.2.2 hmram⟩

theorem lockBreak_early (hs : s.served = true) (hage : s.hst.lockAge < 16) : Completes .lockBreak s (fun t => AllKept s t) := by
  refine completes_of_exec (o := execLockBreak s) rfl (portAct_ends hs ?_)
  rw [State.lockCheck_young hage]
  exact allKept_settle

/-- What breaking shows, before the lock ends. -/
def State.breakShown (s : State) : State := ((s.putB HST_STAT.LOCKBRK true).raise HST_ISRC.LOCK).inc HST_ERRCNT.LOCKBRKS

/-- The end of a lock leaves the fields of the other registers. -/
theorem get_unlock (hf : f.apart HST_LOCK.HELD = true) (hf' : f.apart HST_STAT.LOCKED = true) : s.unlock.get f = s.get f := by
  obtain ⟨hregs, -, -⟩ := unhold_frame (s := s.lockFreed)
  have hreg : s.lockFreed.unhold.reg f.addr = s.lockFreed.reg f.addr := by simp only [State.reg, hregs]
  rw [State.unlock_eq, get_of_reg_eq hreg, State.lockFreed, State.get_ageFreed, State.get_putB_other rfl hf', State.get_putB_other rfl hf]

theorem lockBreak_breaks (hs : s.served = true) (hlock : s.flag HST_LOCK.HELD = true) (hage : 16 ≤ s.hst.lockAge) :
    Completes .lockBreak s (fun t => t.flag HST_LOCK.HELD = false ∧ t.flag HST_STAT.LOCKED = false ∧ t.flag HST_STAT.LOCKBRK = true
      ∧ CountsUp HST_ERRCNT.LOCKBRKS s t ∧ t.flag HST_ISRC.LOCK = true ∧ t.hst.held = [] ∧ MramKept s t) := by
  have hbreak : s.lockCheck = s.breakShown.unlock := by
    unfold State.lockCheck State.breakLock
    rw [if_pos hage, if_neg (by simp [hlock])]
    rfl
  have hbrk : s.breakShown.get HST_STAT.LOCKBRK = 1 := by
    rw [State.breakShown, State.get_inc_other rfl rfl, State.get_raise_other rfl rfl, State.get_putB_same rfl]
    rfl
  have hisrc : s.breakShown.get HST_ISRC.LOCK = 1 := by
    rw [State.breakShown, State.get_inc_other rfl rfl, State.get_raise_same rfl]
  have hcount : CountsUp HST_ERRCNT.LOCKBRKS s s.breakShown :=
    countsUp_inc rfl ((State.get_raise_other rfl rfl).trans (State.get_putB_other rfl rfl))
  have hmem : s.breakShown.mem = s.mem := by simp [State.breakShown]
  obtain ⟨hheld, hshown, hnone, -, hmram⟩ := (lockEnds_unlock (s := s.breakShown)).settled
  refine completes_of_exec (o := execLockBreak s) rfl (portAct_ends hs ?_)
  rw [hbreak]
  refine ⟨hheld, hshown, ?_, hcount.of_get_eq ?_, ?_, hnone, MramKept.trans (memKept_of_mem_eq hmem).2 hmram⟩
  · rw [State.flag_settle, State.flag, get_unlock rfl rfl, hbrk]
    rfl
  · rw [State.get_settle, get_unlock rfl rfl]
  · rw [State.flag_settle, State.flag, get_unlock rfl rfl, hisrc]
    rfl

end

/-- Settles O21, where logs 18 and 19 read what a refused READ LOCK and an unlocked WRITE UNLOCK answer: the lock is taken as the word is
read, and its end, its release and its breaking are one operation. -/
theorem busLockOfOneWord : Obligations.BusLockOfOneWord := by
  unfold Obligations.BusLockOfOneWord
  intro s a w
  exact ⟨hostReadLock_takes, hostReadLock_denied, hostWriteUnlock_stores, hostWriteUnlock_late, lockRelease_ends, lockBreak_early,
    lockBreak_breaks⟩

end Sys2Proof.Machine

namespace Sys2Proof.Machine

open Sys2Proof

section
variable {s t u : State} {P : State → Prop} {ins : Instr} {f : Fld} {a b i n req code : Nat} {w v : Word} {x : Bool} {p : Path}
  {l l' : List Nat} {y : Addr} {o : List OutWord}

/-! ## Writes of the free area by the other ports (R28, R491) -/

theorem State.carry_freeHost (ha : isFreeHost a = true) (g : State → State) : s.carry p a w g = g s := by
  unfold State.carry
  rw [if_pos (by rw [carriedPlace_of_isFreeHost ha]; rfl)]

theorem State.tableClosed_freeHost (ha : isFreeHost a = true) : s.tableClosed a = false := by
  unfold State.tableClosed
  rw [isTable_of_isFreeHost ha, Bool.false_and]

/-- A word of the free area that no lock holds is stored. -/
theorem State.writeCore_unlocked (ha : isFreeHost a = true) (hd : s.deaf a = false) (hp : p ≠ .engine) (hlock : s.lockedAt a = false) :
    s.writeCore p a w true 27 = ((s.phaseStore 27 a (fun z => z.setSram a w)).await a w p 27 false, 0) := by
  have hsram := isSram_of_isFreeHost ha
  have hopen : ¬((((p == .twoWire) && !isFreeHost a) || s.tableClosed a) = true) := by simp [State.tableClosed_freeHost ha, ha]
  unfold State.writeCore
  dsimp only
  rw [if_pos hsram, if_neg (by simp [hd]), if_neg (by simpa using hp), sramRight_of_isFreeHost ha]
  dsimp only
  rw [if_neg hopen, if_neg (by simp [hlock]), State.carry_freeHost ha]
  simp only [hsram, if_true, State.sramStore]

/-- A locked word takes no write of another port than the host's: the write is held. -/
theorem State.writeCore_locked (ha : isFreeHost a = true) (hd : s.deaf a = false) (hp : p ≠ .engine) (hh : p ≠ .host)
    (hlock : s.lockedAt a = true) : s.writeCore p a w true 27 = ((s.freeWrite p a w).await a w p 27 false, 0) := by
  have hsram := isSram_of_isFreeHost ha
  have hopen : ¬((((p == .twoWire) && !isFreeHost a) || s.tableClosed a) = true) := by simp [State.tableClosed_freeHost ha, ha]
  unfold State.writeCore
  dsimp only
  rw [if_pos hsram, if_neg (by simp [hd]), if_neg (by simpa using hp), sramRight_of_isFreeHost ha]
  dsimp only
  rw [if_neg hopen, if_pos (by simp [hlock, ha, hh])]

/-- The write of a storable word by another port, and the port's own record with it. -/
theorem writeCore_stores (ha : s.storable a) (hp : p ≠ .engine) (hlock : s.lockedAt a = false) :
    Stores a w s (s.writeCore p a w true 27).1 ∧ (s.writeCore p a w true 27).1.hst = s.hst ∧ (s.writeCore p a w true 27).2 = 0 := by
  obtain ⟨hfree, hdeaf, hun⟩ := ha
  rw [State.writeCore_unlocked hfree hdeaf hp hlock]
  refine ⟨(stores_phaseStore (isSram_of_isFreeHost hfree) hun).then_kept allKept_await, ?_, rfl⟩
  dsimp only
  rw [State.phaseStore_unbeaten (isSram_of_isFreeHost hfree) hun]
  rfl

/-! ## The 2-wire port (R493, R494) -/

theorem stepAddr_zero : stepAddr y 0 = y.toNat := by
  unfold stepAddr
  simp

@[simp] theorem State.mgOut_mgGive : (s.mgGive o).hst.mgOut = o := rfl
@[simp] theorem State.get_mgGive : (s.mgGive o).get f = s.get f := rfl
@[simp] theorem State.flag_mgGive : (s.mgGive o).flag f = s.flag f := rfl

theorem allKept_mgGive : AllKept s (s.mgGive o) := ⟨fun _ => rfl, memKept_of_eq rfl rfl rfl rfl⟩

theorem mgRead_word (hs : s.served = true) (hon : s.mgOn = true) (h : s.readable y.toNat) : Completes (.mgRead y 1 []) s (fun t =>
    t.hst.mgOut = [⟨0xA, s.shown y.toNat, tagOf (s.shown y.toNat), 0⟩] ∧ AllKept s t) := by
  have hrun : readRun .twoWire [] y 0 1 s = (s, [s.answerOf y.toNat]) := by
    rw [readRun_words (fun i hi => by rw [Nat.lt_one_iff.mp hi, stepAddr_zero]; exact h), State.taggedWords]
    simp [stepAddr_zero, State.answerOf]
  refine completes_of_exec (o := execMgRead y 1 [] s) rfl (portAct_ends hs ?_)
  rw [if_neg (by simp [hon]), if_neg (by decide), show (1 : Byte).toNat = 1 from rfl, hrun]
  dsimp only
  rw [State.hst_settle, State.mgOut_mgGive]
  exact ⟨rfl, allKept_mgGive.settled⟩

theorem mgRead_badCount (hs : s.served = true) (c : Byte) (hon : s.mgOn = true) (hc : c.toNat = 0 ∨ 32 < c.toNat) :
    Completes (.mgRead y c []) s (fun t => t.hst.mgOut = [] ∧ AllKept s t) := by
  refine completes_of_exec (o := execMgRead y c [] s) rfl (portAct_ends hs ?_)
  rw [if_neg (by simp [hon]), if_pos (by simpa using hc), State.hst_settle, State.mgOut_mgGive]
  exact ⟨rfl, allKept_mgGive.settled⟩

theorem mgWrite_stores (hs : s.served = true) (hon : s.mgOn = true) (ha : s.storable y.toNat) (hlock : s.lockedAt y.toNat = false) :
    Completes (.mgWrite y [w] true) s (fun t => t.sramAt y.toNat = w ∧ t.sramPoison y.toNat = false ∧ SramKeptBut [y.toNat] s t
      ∧ MramKept s t ∧ RegsKept s t) := by
  obtain ⟨hstore, -, -⟩ := writeCore_stores (p := .twoWire) (w := w) ha (by decide) hlock
  refine completes_of_exec (o := execMgWrite y [w] true s) rfl (portAct_ends hs ?_)
  rw [if_neg (by simp [hon]), if_neg (by decide), if_neg (by simp), List.zipIdx_singleton, List.foldl_cons, List.foldl_nil, stepAddr_zero]
  exact hstore.then_kept allKept_settle

theorem mgWrite_badPec (hs : s.served = true) (m : List Word) (hon : s.mgOn = true) : Completes (.mgWrite y m false) s (fun t =>
    t.flag HST_MGSTAT.PECERR = true ∧ CountsUp HST_MGSTAT.PECERRS s t ∧ RegsKeptBut [HST_MGSTAT] s t ∧ MemKept s t) := by
  have hcount : CountsUp HST_MGSTAT.PECERRS s ((s.putB HST_MGSTAT.PECERR true).inc HST_MGSTAT.PECERRS) :=
    countsUp_inc rfl (State.get_putB_other rfl rfl)
  have hwork : LoopWork [HST_MGSTAT] s ((s.putB HST_MGSTAT.PECERR true).inc HST_MGSTAT.PECERRS) :=
    (LoopWork.refl.putB (by simp)).inc (by simp)
  refine completes_of_exec (o := execMgWrite y m false s) rfl (portAct_ends hs ?_)
  rw [if_neg (by simp [hon]), if_pos Bool.not_false]
  refine ⟨?_, hcount.of_get_eq State.get_settle, hwork.settled.kept⟩
  rw [State.flag_settle, State.inc, State.flag_put_other rfl rfl, State.flag_putB_same rfl]

theorem mgStatus_view (hs : s.served = true) (hon : s.mgOn = true) : Completes .mgStatus s (fun t =>
    t.hst.mgOut = [⟨0xA, s.view HST_MGSTAT, 0, 0⟩] ∧ AllKept s t) := by
  refine completes_of_exec (o := execMgStatus s) rfl (portAct_ends hs ?_)
  rw [if_pos hon, State.hst_settle, State.mgOut_mgGive]
  exact ⟨rfl, allKept_mgGive.settled⟩

/-- The moment the port left the bus. -/
def State.mgLeft (s : State) : State := { s with hst := { s.hst with mgAt := s.t.run } }

theorem State.mgLeft_eq : ({ s with hst := { s.hst with mgAt := s.t.run } } : State) = s.mgLeft := rfl

@[simp] theorem State.get_mgLeft : s.mgLeft.get f = s.get f := rfl
@[simp] theorem State.flag_mgLeft : s.mgLeft.flag f = s.flag f := rfl

theorem allKept_mgLeft : AllKept s s.mgLeft := ⟨fun _ => rfl, memKept_of_eq rfl rfl rfl rfl⟩

/-- What a stuck bus shows. -/
def State.stuckShown (s : State) : State := ((s.putB HST_MGSTAT.STUCK true).putB HST_MGSTAT.HOLDOFF true).inc HST_MGSTAT.STUCKS

theorem stuckShown_shows : s.stuckShown.flag HST_MGSTAT.STUCK = true ∧ s.stuckShown.flag HST_MGSTAT.HOLDOFF = true
    ∧ CountsUp HST_MGSTAT.STUCKS s s.stuckShown ∧ LoopWork [HST_MGSTAT] s s.stuckShown := by
  refine ⟨?_, ?_, countsUp_inc rfl ((State.get_putB_other rfl rfl).trans (State.get_putB_other rfl rfl)),
    ((LoopWork.refl.putB (by simp)).putB (by simp)).inc (by simp)⟩
  · rw [State.stuckShown, State.inc, State.flag_put_other rfl rfl, State.flag_putB_other rfl rfl, State.flag_putB_same rfl]
  · rw [State.stuckShown, State.inc, State.flag_put_other rfl rfl, State.flag_putB_same rfl]

theorem mgBusStuck_shows (hs : s.served = true) (hon : s.mgOn = true) : Completes .mgBusStuck s (fun t =>
    t.flag HST_MGSTAT.STUCK = true ∧ t.flag HST_MGSTAT.HOLDOFF = true ∧ CountsUp HST_MGSTAT.STUCKS s t ∧ t.flag HST_ISRC.MG = true
      ∧ t.hst.mgOut = [] ∧ RegsKeptBut [HST_MGSTAT, HST_ISRC] s t ∧ MemKept s t) := by
  have hen : s.flag HST_MGCFG.EN = true := (Bool.and_eq_true_iff.mp hon).1
  obtain ⟨hstuck, hoff, hcount, hwork⟩ := stuckShown_shows (s := s)
  have hall : LoopWork [HST_MGSTAT, HST_ISRC] s ((s.stuckShown.mgLeft.raise HST_ISRC.MG).mgGive []) :=
    (((hwork.mono (by simp)).trans (loopWork_of_allKept allKept_mgLeft)).raise (by simp)).trans (loopWork_of_allKept allKept_mgGive)
  have hkept : ∀ g : Fld, g.apart HST_ISRC.MG = true → ((s.stuckShown.mgLeft.raise HST_ISRC.MG).mgGive []).get g = s.stuckShown.get g :=
    fun g hg => by rw [State.get_mgGive, State.get_raise_other rfl hg, State.get_mgLeft]
  refine completes_of_exec (o := execMgBusStuck s) rfl (portAct_ends hs ?_)
  rw [if_neg (by simp [hen])]
  dsimp only
  rw [State.mgLeft_eq, ← State.stuckShown]
  refine ⟨?_, ?_, hcount.of_get_eq ?_, ?_, rfl, hall.settled.kept⟩
  · rw [State.flag_settle, State.flag, hkept _ rfl]
    exact hstuck
  · rw [State.flag_settle, State.flag, hkept _ rfl]
    exact hoff
  · rw [State.get_settle, hkept _ rfl]
  · rw [State.flag_settle, State.flag_mgGive, State.flag, State.get_raise_same rfl]
    rfl

theorem mgHoldoffEnd_ends (hs : s.served = true) (h : 1000000 ≤ s.since s.hst.mgAt) : Completes .mgHoldoffEnd s (fun t =>
    t.flag HST_MGSTAT.HOLDOFF = false ∧ RegsKeptBut [HST_MGSTAT] s t ∧ MemKept s t) := by
  have hwork : LoopWork [HST_MGSTAT] s (s.putB HST_MGSTAT.HOLDOFF false) := LoopWork.refl.putB (by simp)
  refine completes_of_exec (o := execMgHoldoffEnd s) rfl (portAct_ends hs ?_)
  rw [if_neg (by omega), State.flag_settle]
  exact ⟨State.flag_putB_same rfl, hwork.settled.kept⟩

theorem mgHoldoffEnd_early (hs : s.served = true) (h : s.since s.hst.mgAt < 1000000) :
    Completes .mgHoldoffEnd s (fun t => AllKept s t) := by
  refine completes_of_exec (o := execMgHoldoffEnd s) rfl (portAct_ends hs ?_)
  rw [if_pos h]
  exact allKept_settle

end

/-- Settles O23, where log 51 answers a count of 0 or above 32 with nothing: each row while the port takes part in the bus, and the
hold-off by the beats since the port left it. -/
theorem twoWirePort : Obligations.TwoWirePort := by
  unfold Obligations.TwoWirePort
  intro s a w hs
  exact ⟨mgRead_word hs, mgRead_badCount hs, mgWrite_stores hs, mgWrite_badPec hs, mgStatus_view hs, mgBusStuck_shows hs,
    mgHoldoffEnd_ends hs, mgHoldoffEnd_early hs⟩

end Sys2Proof.Machine

namespace Sys2Proof.Machine

open Sys2Proof

section
variable {s t u : State} {P : State → Prop} {ins : Instr} {f : Fld} {a b i n req code d : Nat} {w v : Word} {x : Bool} {p : Path}
  {l l' : List Nat} {y : Addr} {o : List OutWord}

/-! ## The debug port (R491, R497 to R499) -/

/-- What an access leaves in the data register of the debug port. -/
def State.dbgLeft (s : State) (d a r : Nat) (w : Word) : State :=
  { s with hst := { s.hst with dbgState := d, dbgAddr := a, dbgResp := r, dbgData := w } }

theorem State.dbgLeft_eq {r : Nat} : ({ s with hst := { s.hst with dbgState := d, dbgAddr := a, dbgResp := r, dbgData := w } } : State)
    = s.dbgLeft d a r w := rfl

theorem allKept_dbgLeft {r : Nat} : AllKept s (s.dbgLeft d a r w) := ⟨fun _ => rfl, memKept_of_eq rfl rfl rfl rfl⟩

@[simp] theorem State.get_dbgLeft {r : Nat} : (s.dbgLeft d a r w).get f = s.get f := rfl

theorem debugRead_done (hs : s.served = true) (hready : s.dbgReady = true) (h : s.readable y.toNat) :
    Completes (.debugRead y []) s (fun t => t.hst.dbgState = 2 ∧ t.hst.dbgResp = 0 ∧ t.hst.dbgData = s.shown y.toNat
      ∧ t.hst.dbgAddr = y.toNat ∧ AllKept s t) := by
  refine completes_of_exec (o := execDebugRead y [] s) rfl (portAct_ends hs ?_)
  rw [if_neg (by simp [hready]), upsetAt_nil, State.readAcc_readable h]
  exact ⟨rfl, rfl, rfl, rfl, allKept_dbgLeft.settled⟩

theorem debugWrite_ends (hs : s.served = true) (hready : s.dbgReady = true)
    (h : P (settle (((s.inc SYS_DBG.DWRITES).writeCore .debug y.toNat w true 27).1.dbgLeft
      (if isFreeHost y.toNat && s.lockedAt y.toNat then 1 else 2) y.toNat
      ((s.inc SYS_DBG.DWRITES).writeCore .debug y.toNat w true 27).2 w))) : Completes (.debugWrite y w) s P := by
  refine completes_of_exec (o := execDebugWrite y w s) rfl (portAct_ends hs ?_)
  rw [if_neg (by simp [hready])]
  exact h

theorem State.lockedAt_inc {k : Nat} (hok : f.ok = true) (hf : f.addr ≠ HST_LOCK) : (s.inc f k).lockedAt a = s.lockedAt a := by
  have hapart : ∀ g : Fld, g.addr = HST_LOCK → g.apart f = true := fun g hg => by simp [Fld.apart, hg, hf.symm]
  unfold State.lockedAt State.flag
  rw [State.get_inc_other hok (hapart _ rfl), State.get_inc_other hok (hapart _ rfl)]

theorem State.storable_inc {k : Nat} (hf : f.addr ≠ SYS_ISTAT) (h : s.storable a) : (s.inc f k).storable a := by
  obtain ⟨hfree, hdeaf, hun⟩ := h
  have halive : (s.inc f k).alive = s.alive := funext fun i => bitOf_of_reg_eq (State.reg_inc_other hf.symm)
  refine ⟨hfree, ?_, hun⟩
  unfold State.deaf
  rw [halive, State.mem_inc]
  exact hdeaf

/-- The count of debug writes. -/
theorem loopWork_dwrites : LoopWork [SYS_DBG] s (s.inc SYS_DBG.DWRITES) := LoopWork.refl.inc (by simp)

theorem debugWrite_stores (hs : s.served = true) (hready : s.dbgReady = true) (ha : s.storable y.toNat) (hlock : s.lockedAt y.toNat = false) :
    Completes (.debugWrite y w) s (fun t => t.hst.dbgState = 2 ∧ t.hst.dbgResp = 0 ∧ t.sramAt y.toNat = w ∧ SramKeptBut [y.toNat] s t
      ∧ MramKept s t ∧ CountsUp SYS_DBG.DWRITES s t ∧ RegsKeptBut [SYS_DBG] s t) := by
  have hlock' : (s.inc SYS_DBG.DWRITES).lockedAt y.toNat = false := (State.lockedAt_inc rfl (by decide)).trans hlock
  obtain ⟨hstore, -, hresp⟩ := writeCore_stores (p := .debug) (w := w) (State.storable_inc (k := 1) (f := SYS_DBG.DWRITES) (by decide) ha) (by decide) hlock'
  obtain ⟨hregs, hmem⟩ := (loopWork_dwrites (s := s)).kept
  obtain ⟨hat, -, hsram, hmram, hkept⟩ := hstore.then_kept allKept_dbgLeft.settled
  refine debugWrite_ends hs hready ?_
  rw [hlock, Bool.and_false, if_neg Bool.false_ne_true, hresp]
  refine ⟨rfl, rfl, hat, fun c hc => ⟨(hsram c hc).1.trans (hmem.1 c).1, (hsram c hc).2.trans (hmem.1 c).2⟩,
    MramKept.trans hmem.2 hmram, (countsUp_inc rfl rfl).of_get_eq (get_of_reg_eq (hkept _)), fun c hc => (hkept c).trans (hregs c hc)⟩

theorem debugWrite_held (hs : s.served = true) (hready : s.dbgReady = true) (ha : s.storable y.toNat) (hlock : s.lockedAt y.toNat = true) :
    Completes (.debugWrite y w) s (fun t => t.hst.dbgState = 1 ∧ t.hst.held = s.hst.held ++ [⟨.debug, y.toNat, w⟩]
      ∧ CountsUp SYS_DBG.DWRITES s t ∧ MemKept s t) := by
  have hlock' : (s.inc SYS_DBG.DWRITES).lockedAt y.toNat = true := (State.lockedAt_inc rfl (by decide)).trans hlock
  obtain ⟨hfree, hdeaf, -⟩ := State.storable_inc (k := 1) (f := SYS_DBG.DWRITES) (by decide) ha
  obtain ⟨-, hmem⟩ := (loopWork_dwrites (s := s)).kept
  have hfreeWrite : ∀ z : State, z.lockedAt y.toNat = true →
      AllKept z (z.freeWrite .debug y.toNat w) ∧ (z.freeWrite .debug y.toNat w).hst.held = z.hst.held ++ [⟨.debug, y.toNat, w⟩] := fun z hz => by
    unfold State.freeWrite
    rw [if_pos hz]
    exact ⟨⟨fun _ => rfl, memKept_of_eq rfl rfl rfl rfl⟩, rfl⟩
  obtain ⟨hkept, hheld⟩ := hfreeWrite _ hlock'
  have hall := ((hkept.trans (allKept_await (a := y.toNat) (w := w) (p := .debug) (req := 27) (live := false))).trans
    (allKept_dbgLeft (d := 1) (a := y.toNat) (r := 0) (w := w))).settled
  refine debugWrite_ends hs hready ?_
  rw [hlock, hfree, Bool.and_true, if_pos rfl, State.writeCore_locked hfree hdeaf (by decide) (by decide) hlock']
  exact ⟨rfl, hheld.trans (by rw [State.hst_inc]), (countsUp_inc rfl rfl).of_get_eq (get_of_reg_eq (hall.1 _)), hmem.trans hall.2⟩

/-! ### HALT and RESUME -/

/-- Whether a halt came after the watchdog's expiry. -/
def State.haltNoted (s : State) (x : Bool) : State := { s with hst := { s.hst with haltedLate := x } }

theorem State.haltNoted_eq : ({ s with hst := { s.hst with haltedLate := x } } : State) = s.haltNoted x := rfl

@[simp] theorem State.regs_haltNoted : (s.haltNoted x).regs = s.regs := rfl
@[simp] theorem State.mem_haltNoted : (s.haltNoted x).mem = s.mem := rfl

theorem State.regs_pauseCommits : (s.pauseCommits x).regs = s.regs := by
  unfold State.pauseCommits State.calPause State.imgPause State.calResume State.imgResume
  split <;> split <;> split <;> rfl

theorem State.calPause_isSome : s.calPause.cal.pausedAt.isSome = true := by
  unfold State.calPause
  split
  · assumption
  · rfl

theorem State.imgPause_isSome : s.imgPause.img.pausedAt.isSome = true := by
  unfold State.imgPause
  split
  · assumption
  · rfl

theorem State.calResume_isSome : s.calResume.cal.pausedAt.isSome = false := by
  unfold State.calResume
  split
  · rfl
  · next h => rw [h]; rfl

theorem State.imgResume_isSome : s.imgResume.img.pausedAt.isSome = false := by
  unfold State.imgResume
  split
  · rfl
  · next h => rw [h]; rfl

theorem State.cal_imgPause : s.imgPause.cal = s.cal := by
  unfold State.imgPause
  split <;> rfl

theorem State.cal_imgResume : s.imgResume.cal = s.cal := by
  unfold State.imgResume
  split <;> rfl

/-- Both commits stand still exactly from a pause on. -/
theorem pauseCommits_pauses : (s.pauseCommits x).img.pausedAt.isSome = x ∧ (s.pauseCommits x).cal.pausedAt.isSome = x := by
  cases x with
  | true => exact ⟨State.imgPause_isSome, (congrArg (·.pausedAt.isSome) State.cal_imgPause).trans State.calPause_isSome⟩
  | false => exact ⟨State.imgResume_isSome, (congrArg (·.pausedAt.isSome) State.cal_imgResume).trans State.calResume_isSome⟩

/-- HALTED and FROZEN written, what the halt met noted, and both commits paused or resumed. -/
def State.haltSet (s : State) (halted frozen late paused : Bool) : State :=
  (((s.putB SYS_DBG.HALTED halted).putB SYS_WDOG.FROZEN frozen).haltNoted late).pauseCommits paused

/-- A halt or its end as it shows, memory and the other registers standing. -/
def HaltShows (halted frozen paused : Bool) (s t : State) : Prop :=
  t.flag SYS_DBG.HALTED = halted ∧ t.flag SYS_WDOG.FROZEN = frozen ∧ t.img.pausedAt.isSome = paused ∧ t.cal.pausedAt.isSome = paused
    ∧ RegsKeptBut [SYS_DBG, SYS_WDOG] s t ∧ MemKept s t

theorem haltSet_shows {halted frozen late paused : Bool} : HaltShows halted frozen paused s (settle (s.haltSet halted frozen late paused)) := by
  have hregs : (s.haltSet halted frozen late paused).regs = ((s.putB SYS_DBG.HALTED halted).putB SYS_WDOG.FROZEN frozen).regs :=
    State.regs_pauseCommits.trans State.regs_haltNoted
  have hmem : (s.haltSet halted frozen late paused).mem = ((s.putB SYS_DBG.HALTED halted).putB SYS_WDOG.FROZEN frozen).mem :=
    (State.mem_pauseCommits paused).trans State.mem_haltNoted
  have hflag : ∀ g, (s.haltSet halted frozen late paused).flag g = ((s.putB SYS_DBG.HALTED halted).putB SYS_WDOG.FROZEN frozen).flag g :=
    fun g => flag_of_reg_eq (by simp only [State.reg, hregs])
  have hwork : LoopWork [SYS_DBG, SYS_WDOG] s (s.haltSet halted frozen late paused) :=
    ((LoopWork.refl.putB (by simp)).putB (by simp)).trans (loopWork_of_eq hregs hmem)
  obtain ⟨himg, hcal⟩ := pauseCommits_pauses (s := ((s.putB SYS_DBG.HALTED halted).putB SYS_WDOG.FROZEN frozen).haltNoted late) (x := paused)
  unfold HaltShows
  rw [State.flag_settle, State.flag_settle, State.img_settle, State.cal_settle, hflag, hflag, State.flag_putB_other rfl rfl,
    State.flag_putB_same rfl, State.flag_putB_same rfl]
  exact ⟨rfl, rfl, himg, hcal, hwork.settled.kept⟩

theorem debugHalt_halts (hs : s.served = true) (hir : s.hst.ir = 9) (hno : s.flag SYS_DBG.HALTED = false)
    (hmode : s.mode = 2 ∨ s.mode = 3 ∨ s.starting = true ∨ s.flag SYS_DBG.HALTOK = true) : Completes .debugHalt s (fun t =>
      t.flag SYS_DBG.HALTED = true ∧ t.flag SYS_WDOG.FROZEN = !s.flag SYS_WDOG.EXP ∧ t.img.pausedAt.isSome = true
        ∧ t.cal.pausedAt.isSome = true ∧ RegsKeptBut [SYS_DBG, SYS_WDOG] s t ∧ MemKept s t) := by
  refine completes_of_exec (o := execDebugHalt s) rfl (portAct_ends hs ?_)
  rw [if_neg (by simp [hir, hno]), if_neg (by simpa [or_assoc, imp_iff_not_or] using hmode)]
  dsimp only
  rw [State.haltNoted_eq, ← State.haltSet]
  exact haltSet_shows

theorem debugHalt_refused (hs : s.served = true) (hir : s.hst.ir = 9) (hno : s.flag SYS_DBG.HALTED = false) (hmode : s.mode ≤ 1)
    (hstart : s.starting = false) (hok : s.flag SYS_DBG.HALTOK = false) : Completes .debugHalt s (fun t =>
      t.flag SYS_DBG.HALTED = false ∧ t.flag SYS_DBG.REFUSED = true ∧ RegsKeptBut [SYS_DBG] s t ∧ MemKept s t) := by
  have hwork : LoopWork [SYS_DBG] s (s.putB SYS_DBG.REFUSED true) := LoopWork.refl.putB (by simp)
  have h2 : s.mode ≠ 2 := by omega
  have h3 : s.mode ≠ 3 := by omega
  refine completes_of_exec (o := execDebugHalt s) rfl (portAct_ends hs ?_)
  rw [if_neg (by simp [hir, hno]), if_pos (by simp [h2, h3, hstart, hok]), State.flag_settle, State.flag_settle,
    State.flag_putB_other rfl rfl, State.flag_putB_same rfl]
  exact ⟨hno, rfl, hwork.settled.kept⟩

theorem debugResume_resumes (hs : s.served = true) (hir : s.hst.ir = 9) (hhalt : s.flag SYS_DBG.HALTED = true) :
    Completes .debugResume s (fun t => t.flag SYS_DBG.HALTED = false ∧ t.flag SYS_WDOG.FROZEN = false
      ∧ t.img.pausedAt.isSome = s.life.warn ∧ t.cal.pausedAt.isSome = s.life.warn ∧ RegsKeptBut [SYS_DBG, SYS_WDOG] s t ∧ MemKept s t) := by
  have hlife : ((s.putB SYS_DBG.HALTED false).putB SYS_WDOG.FROZEN false).life = s.life := by simp
  refine completes_of_exec (o := execDebugResume s) rfl (portAct_ends hs ?_)
  rw [if_neg (by simp [hir, hhalt])]
  dsimp only
  rw [State.haltNoted_eq, ← State.haltSet, hlife]
  exact haltSet_shows

end

/-- Settles O25: an access by what the port's read and write of the word answer, HALT and RESUME by the two flags they write. -/
theorem debugPortAccessAndHalt : Obligations.DebugPortAccessAndHalt := by
  unfold Obligations.DebugPortAccessAndHalt
  intro s a w hs
  exact ⟨debugRead_done hs, debugWrite_stores hs, debugWrite_held hs, debugHalt_halts hs, debugHalt_refused hs, debugResume_resumes hs⟩

end Sys2Proof.Machine

namespace Sys2Proof.Machine

open Sys2Proof

section
variable {s t u : State} {f : Fld} {a b i n c v : Nat} {w : Word} {x : Bool}

/-! ## What a change of the pair's state leaves alone (R400) -/

/-- The registers, the recorder, the calendar, node time and the pair engine as in another state. -/
def State.pairPartsOf (t s : State) : State := { t with regs := s.regs, onx := s.onx, clk := s.clk, t := s.t, jl := s.jl }

/-- All other parts of the state are as before. -/
def PairKept (s t : State) : Prop := t.pairPartsOf s = s

theorem PairKept.refl : PairKept s s := rfl

theorem PairKept.trans (h : PairKept s t) (h' : PairKept t u) : PairKept s u := by
  have hu : u.pairPartsOf s = (u.pairPartsOf t).pairPartsOf s := rfl
  unfold PairKept
  rw [hu, h']
  exact h

theorem pairKept_put : PairKept s (s.put f v) := rfl
theorem pairKept_setReg : PairKept s (s.setReg a w) := rfl

theorem PairKept.put (h : PairKept s t) : PairKept s (t.put f v) := h.trans pairKept_put

theorem PairKept.ite {p : Prop} [Decidable p] (ht : PairKept s t) (hu : PairKept s u) : PairKept s (if p then t else u) := by
  split
  · exact ht
  · exact hu

theorem PairKept.life (h : PairKept s t) : t.life = s.life := (congrArg State.life h : (t.pairPartsOf s).life = s.life)
theorem PairKept.pins (h : PairKept s t) : t.pins = s.pins := (congrArg State.pins h : (t.pairPartsOf s).pins = s.pins)
theorem PairKept.img (h : PairKept s t) : t.img = s.img := (congrArg State.img h : (t.pairPartsOf s).img = s.img)
theorem PairKept.cal (h : PairKept s t) : t.cal = s.cal := (congrArg State.cal h : (t.pairPartsOf s).cal = s.cal)
theorem PairKept.mem (h : PairKept s t) : t.mem = s.mem := (congrArg State.mem h : (t.pairPartsOf s).mem = s.mem)

theorem pairKept_onx (o : OnxS) : PairKept s { s with onx := o } := rfl
theorem pairKept_jl (j : JlS) : PairKept s { s with jl := j } := rfl
theorem pairKept_clk (k : ClkS) : PairKept s { s with clk := k } := rfl
theorem pairKept_time (y : TimeS) : PairKept s { s with t := y } := rfl

theorem pairKept_trigger {cls sub src : Nat} {ts0 ts1 ev0 ev1 : Word} {rs : Option Nat} :
    PairKept s (s.trigger cls sub src ts0 ts1 ev0 ev1 rs) := by
  unfold State.trigger
  dsimp only
  generalize (if cls ≤ 2 then 128 else 112) = cap
  refine .ite .refl ?_
  split
  · exact (pairKept_onx _).put
  · split
    · exact (pairKept_onx _).put
    · exact .ite (pairKept_onx _).put (.ite (pairKept_onx _) (pairKept_onx _))

theorem pairKept_rateAbort : PairKept s s.rateAbort := .ite .refl (pairKept_clk _).put.put

theorem pairKept_ratePtp : PairKept s s.ratePtp := .ite pairKept_rateAbort .refl

theorem pairKept_heldFrom : PairKept s s.heldFrom := .ite (pairKept_time _) .refl

theorem pairKept_discipline : PairKept s s.discipline := pairKept_heldFrom.put.put.put.put.put.trans pairKept_ratePtp

theorem pairKept_setPstate : PairKept s (s.setPstate n) :=
  .ite .refl ((PairKept.refl.put.put.put.trans (pairKept_jl _)).put.trans pairKept_discipline)

theorem pairKept_setCause : PairKept s (s.setCause n) := (PairKept.refl.put.trans pairKept_setReg).trans pairKept_trigger

theorem pairKept_giveUp : PairKept s (s.giveUp n) :=
  .ite (.ite (pairKept_setCause.trans (pairKept_jl _)) .refl) (.ite (pairKept_setCause.trans pairKept_setPstate) .refl)

/-! ## The supply (R499, R544, R548, R549, R553) -/

/-- A warning noted, with PG_OUT low. -/
def State.warned (s : State) : State := { s with life := { s.life with warn := true, warnAt := s.t.run }, pins := { s.pins with pgOut := false } }

theorem State.mode_of_reg_eq (h : t.reg SYS_MODE = s.reg SYS_MODE) : t.mode = s.mode := get_of_reg_eq h

theorem State.life_pauseCommits : (s.pauseCommits x).life = s.life := by
  unfold State.pauseCommits State.calPause State.imgPause State.calResume State.imgResume
  split <;> split <;> split <;> rfl

theorem State.pins_pauseCommits : (s.pauseCommits x).pins = s.pins := by
  unfold State.pauseCommits State.calPause State.imgPause State.calResume State.imgResume
  split <;> split <;> split <;> rfl

/-- The power-fail trigger, and control given up, in the running node. -/
def State.warnTold (s : State) : State := if s.up then (s.trigNow 1 3 0 (s.reg SYS_MODE) 0).giveUp 4 else s

theorem pairKept_warnTold : PairKept s s.warnTold := .ite (pairKept_trigger.trans pairKept_giveUp) .refl

theorem State.mode_warnTold : s.warnTold.mode = s.mode := by
  refine State.mode_of_reg_eq ?_
  unfold State.warnTold
  split
  · rw [State.reg_giveUp (by decide) (by decide) (by decide) (by decide), State.reg_trigNow (by decide)]
  · rfl

theorem brownoutWarning_warns (hb : s.life.boot ≠ .off) (hno : s.life.warn = false) : Completes .brownoutWarning s (fun t =>
    t.life.warn = true ∧ t.pins.pgOut = false ∧ t.img.pausedAt.isSome = true ∧ t.cal.pausedAt.isSome = true ∧ MemKept s t
      ∧ t.mode = s.mode) := by
  have hkept := pairKept_warnTold (s := s.warned.pauseCommits true)
  have hrun : exec .brownoutWarning s = .next (settle (s.warned.pauseCommits true).warnTold) :=
    congrArg (fun z => done z) (if_neg (by simp [hb, hno]))
  obtain ⟨himg, hcal⟩ := pauseCommits_pauses (s := s.warned) (x := true)
  have hmem : (s.warned.pauseCommits true).mem = s.mem := State.mem_pauseCommits true
  refine ⟨_, hrun, ?_, ?_, ?_, ?_, memKept_of_mem_eq (State.mem_settle.trans (hkept.mem.trans hmem)), ?_⟩
  · rw [State.life_settle, hkept.life, State.life_pauseCommits]
    rfl
  · rw [State.pgOut_settle, hkept.pins, State.pins_pauseCommits]
    rfl
  · rw [State.img_settle, hkept.img, himg]
  · rw [State.cal_settle, hkept.cal, hcal]
  · rw [State.mode_settle, State.mode_warnTold]
    exact State.mode_of_reg_eq (by simp only [State.reg, State.regs_pauseCommits]; rfl)

/-- The warning over, PG_OUT high again where the always-on domain has settled. -/
def State.unwarned (s : State) : State :=
  { s with life := { s.life with warn := false }, pins := { s.pins with pgOut := s.life.boot != .off && s.life.boot != .settling } }

/-- The condition of a cause ends: SYS_MODE alone can show it. -/
theorem causeOff_frame : LoopWork [SYS_MODE] s (s.causeOff c) ∧ (s.causeOff c).life.warn = s.life.warn ∧ (s.causeOff c).pins = s.pins
    ∧ (s.causeOff c).img = s.img ∧ (s.causeOff c).cal = s.cal := by
  have hcond : LoopWork [SYS_MODE] s (s.condOff c) := loopWork_of_eq rfl rfl
  obtain h | ⟨v, h⟩ := State.causeOff_cases (s := s) (c := c)
  · rw [h]
    exact ⟨hcond, rfl, rfl, rfl, rfl⟩
  · rw [h, State.life_put, State.pins_put, State.img_put, State.cal_put]
    exact ⟨hcond.put (by simp), rfl, rfl, rfl, rfl⟩

theorem State.holds_causeOff : (s.causeOff c).holds c = false := by
  unfold State.holds
  rw [State.conds_causeOff, bit_setBit_same]

theorem brownoutEnd_ends (hwarn : s.life.warn = true) (h : s.timed = false ∨ 1000 ≤ s.since s.life.warnAt) :
    Completes .brownoutEnd s (fun t => t.life.warn = false ∧ t.img.pausedAt.isSome = s.flag SYS_DBG.HALTED
      ∧ t.cal.pausedAt.isSome = s.flag SYS_DBG.HALTED ∧ t.holds 6 = false
      ∧ t.pins.pgOut = (s.life.boot != .off && s.life.boot != .settling) ∧ RegsKeptBut [SYS_MODE] s t ∧ MemKept s t) := by
  have hover : ¬((!s.life.warn || (s.timed && decide (s.since s.life.warnAt < 1000))) = true) := by
    obtain h | h := h
    · simp [hwarn, h]
    · simp [hwarn, Nat.not_lt.mpr h]
  have hrun : exec .brownoutEnd s = .next (settle ((s.unwarned.pauseCommits (s.flag SYS_DBG.HALTED)).causeOff 6)) :=
    congrArg (fun z => done z) (if_neg hover)
  obtain ⟨himg, hcal⟩ := pauseCommits_pauses (s := s.unwarned) (x := s.flag SYS_DBG.HALTED)
  obtain ⟨hwork, hlife, hpins, himg', hcal'⟩ := causeOff_frame (s := s.unwarned.pauseCommits (s.flag SYS_DBG.HALTED)) (c := 6)
  have hpaused : LoopWork [SYS_MODE] s (s.unwarned.pauseCommits (s.flag SYS_DBG.HALTED)) :=
    loopWork_of_eq State.regs_pauseCommits (State.mem_pauseCommits _)
  refine ⟨_, hrun, ?_, ?_, ?_, State.holds_causeOff, ?_, (hpaused.trans hwork).settled.kept⟩
  · rw [State.life_settle, hlife, State.life_pauseCommits]
    rfl
  · rw [State.img_settle, himg', himg]
  · rw [State.cal_settle, hcal', hcal]
  · rw [State.pgOut_settle, hpins, State.pins_pauseCommits]
    rfl

theorem exec_brownoutSafeTimeout : exec .brownoutSafeTimeout s = .next (settle s.brownoutSafe) := rfl

theorem brownoutSafe_due (hwarn : s.life.warn = true) (htimed : s.timed = true) (hno : s.holds 6 = false)
    (h : 20000 ≤ s.since s.life.warnAt) : s.brownoutSafe = s.causeOn 6 := if_pos (by simp [hwarn, htimed, hno, h])

theorem State.warn_causeOn_silent (hc : c = 2 ∨ c = 6) : (s.causeOn c).life.warn = s.life.warn := by
  rw [State.causeOn_eq]
  split
  · rw [State.life_showCause]; rfl
  · split
    · rfl
    · rw [if_pos (by rcases hc with rfl | rfl <;> rfl)]; rfl

/-- Out of the start-up interval the condition of cause 6 shows nowhere yet. -/
theorem State.regs_causeOn_silent (hc : c = 2 ∨ c = 6) (hst : s.starting = false) : (s.causeOn c).regs = s.regs := by
  rw [State.causeOn_eq, if_neg (by simp [hst])]
  split
  · rfl
  · rw [if_pos (by rcases hc with rfl | rfl <;> rfl)]; rfl

theorem brownoutSafeTimeout_holds (hwarn : s.life.warn = true) (htimed : s.timed = true) (hno : s.holds 6 = false)
    (h : 20000 ≤ s.since s.life.warnAt) : Completes .brownoutSafeTimeout s (fun t => t.holds 6 = true ∧ t.life.warn = true
      ∧ (s.starting = false → RegsKept s t) ∧ RegsKeptBut [SYS_MODE] s t ∧ MemKept s t) := by
  have hkept : MemKept s (settle (s.causeOn 6)) := (memKept_of_mem_eq State.mem_causeOn).trans allKept_settle.2
  refine ⟨_, exec_brownoutSafeTimeout, ?_⟩
  rw [brownoutSafe_due hwarn htimed hno h]
  refine ⟨State.holds_causeOn, ?_, fun hst a => ?_, fun a ha => ?_, hkept⟩
  · rw [State.life_settle, State.warn_causeOn_silent (Or.inr rfl), hwarn]
  · rw [State.reg_settle]
    simp only [State.reg, State.regs_causeOn_silent (Or.inr rfl) hst]
  · rw [State.reg_settle, State.reg_causeOn_silent (Or.inr rfl) (List.ne_of_not_mem_cons ha)]

theorem brownoutSafeTimeout_early (hno : s.holds 6 = false) (h : s.since s.life.warnAt < 20000) :
    Completes .brownoutSafeTimeout s (fun t => t.holds 6 = false ∧ AllKept s t) := by
  have hearly : s.brownoutSafe = s := if_neg (by simp [Nat.not_le.mpr h])
  refine ⟨_, exec_brownoutSafeTimeout, ?_⟩
  rw [hearly]
  exact ⟨hno, allKept_settle⟩

theorem powerFailStop_stops (hb : s.life.boot ≠ .off) (hwarn : s.life.warn = true) : Completes .powerFailStop s (fun t =>
    t.life.boot = .off ∧ t.life.stopped = true ∧ t.get SYS_RSTAT.RCLASS = 3 ∧ t.pins.pgOut = false
      ∧ (∀ a, t.sramAt a = sramReset a) ∧ MramKept s t) := by
  have hrun : exec .powerFailStop s = .next (settle (s.coldReset 3)) := congrArg (fun z => done z) (if_neg (by simp [hb, hwarn]))
  exact ⟨_, hrun, rfl, rfl, State.get_settle.trans (State.rclass_coldReset (by decide)), rfl, fun _ => State.sramAt_settle.trans State.sramAt_coldReset,
    (mramKept_of_eq State.mram_coldReset State.mramBad_coldReset).trans allKept_settle.2.2⟩

theorem powerFailStop_unwarned (hwarn : s.life.warn = false) : Completes .powerFailStop s (fun t => AllKept s t) := by
  have hrun : exec .powerFailStop s = .next (settle s) := congrArg (fun z => done z) (if_pos (by simp [hwarn]))
  exact ⟨_, hrun, allKept_settle⟩

end

/-- Settles O7, with log 2's content of SRAM after the cold reset: a warning and its end pause and resume the commits, the SAFE cause is one
that tells the pair engine nothing, and the stop is a cold reset of class 3. -/
theorem supplyFailingAndReturning : Obligations.SupplyFailingAndReturning := by
  unfold Obligations.SupplyFailingAndReturning
  intro s
  exact ⟨brownoutWarning_warns, brownoutEnd_ends, fun hwarn htimed hno => ⟨brownoutSafeTimeout_holds hwarn htimed hno, brownoutSafeTimeout_early hno⟩,
    powerFailStop_stops, powerFailStop_unwarned⟩

end Sys2Proof.Machine

namespace Sys2Proof.Machine

open Sys2Proof

section
variable {s t u : State} {P : State → Prop} {ins : Instr} {f : Fld} {a b i n c v : Nat} {w : Word} {x keep : Bool} {whole : Nat → Bool}
  {l l' : List Nat}

/-! ## What a reset makes of the registers (R539 to R544) -/

theorem keptWord_regReset : keptWord a (regReset a) = regReset a := by
  unfold keptWord
  generalize regReset a = r
  generalize W (keepOf a) = k
  ext j hj
  simp only [BitVec.getElem_or, BitVec.getElem_and, BitVec.getElem_not]
  cases r[j] <;> cases k[j] <;> rfl

/-- The entry a reset makes of a register's. -/
def resetEntry (keep : Bool) (whole : Nat → Bool) (p : Nat × Word) : Option (Nat × Word) :=
  if whole p.1 then some p else if keep && keptWord p.1 p.2 != regReset p.1 then some (p.1, keptWord p.1 p.2) else none

theorem State.regs_resetRegs : (s.resetRegs keep whole).regs = s.regs.filterMap (resetEntry keep whole) := rfl

theorem resetEntry_whole (h : whole a = true) : resetEntry keep whole (a, w) = some (a, w) := if_pos h

theorem resetEntry_lost (h : whole a = false) : resetEntry false whole (a, w) = none := by
  unfold resetEntry
  rw [if_neg (by simp [h]), if_neg (by simp)]

theorem resetEntry_kept (h : whole a = false) : resetEntry true whole (a, w) = some (a, keptWord a w) ∨ resetEntry true whole (a, w) = none := by
  unfold resetEntry
  rw [if_neg (by simp [h])]
  split
  · exact .inl rfl
  · exact .inr rfl

theorem resetEntry_other (h : b ≠ a) (m : Store) : Store.read regReset ((resetEntry keep whole (b, w)).toList ++ m) a = Store.read regReset m a := by
  have hone : ∀ v, Store.read regReset ((some (b, v) : Option (Nat × Word)).toList ++ m) a = Store.read regReset m a := fun v => if_neg h
  unfold resetEntry
  split
  · exact hone w
  · split
    · exact hone _
    · rfl

theorem filterMap_resetEntry (p : Nat × Word) (r : Store) : (p :: r).filterMap (resetEntry keep whole)
    = (resetEntry keep whole p).toList ++ r.filterMap (resetEntry keep whole) := by
  rw [List.filterMap_cons]
  cases resetEntry keep whole p <;> rfl

/-- A register kept whole reads as before. -/
theorem Store.read_resetWhole (h : whole a = true) : ∀ m : Store,
    Store.read regReset (m.filterMap (resetEntry keep whole)) a = Store.read regReset m a
  | [] => rfl
  | (b, v) :: r => by
    have ih := Store.read_resetWhole h r
    rw [filterMap_resetEntry, Store.read]
    split
    · next hb =>
      subst hb
      rw [resetEntry_whole h]
      exact if_pos rfl
    · next hb => rw [resetEntry_other hb, ih]

/-- Without kept bits every other register reads its Reset column. -/
theorem Store.read_resetLost (h : whole a = false) : ∀ m : Store,
    Store.read regReset (m.filterMap (resetEntry false whole)) a = regReset a
  | [] => rfl
  | (b, v) :: r => by
    have ih := Store.read_resetLost h r
    rw [filterMap_resetEntry]
    by_cases hb : b = a
    · subst hb
      rw [resetEntry_lost h]
      exact ih
    · rw [resetEntry_other hb, ih]

/-- With them it reads what the kept bits leave of some word. -/
theorem Store.read_resetKept (h : whole a = false) : ∀ m : Store,
    ∃ v, Store.read regReset (m.filterMap (resetEntry true whole)) a = keptWord a v
  | [] => ⟨regReset a, keptWord_regReset.symm⟩
  | (b, v) :: r => by
    obtain ⟨v', ih⟩ := Store.read_resetKept h r
    rw [filterMap_resetEntry]
    by_cases hb : b = a
    · subst hb
      obtain hk | hk := resetEntry_kept (w := v) h
      · exact ⟨v, by rw [hk]; exact if_pos rfl⟩
      · exact ⟨v', by rw [hk]; exact ih⟩
    · exact ⟨v', by rw [resetEntry_other hb, ih]⟩

theorem State.reg_resetRegs_whole (h : whole a = true) : (s.resetRegs keep whole).reg a = s.reg a := Store.read_resetWhole h s.regs

theorem State.reg_resetRegs_lost (h : whole a = false) : (s.resetRegs false whole).reg a = regReset a := Store.read_resetLost h s.regs

theorem State.reg_resetRegs_kept (h : whole a = false) : ∃ v, (s.resetRegs true whole).reg a = keptWord a v := Store.read_resetKept h s.regs

/-! ### What is lost (R544) -/

/-- Registers in which the loss of work shows. -/
def lossRegs : List Nat := [HST_KSTAT, HST_STAT, HST_LOCK, SYS_DBG, SYS_WDOG] ++ (List.range 16).map LO_FST

theorem LoopWork.setReg (h : LoopWork l s t) (ha : a ∈ l) : LoopWork l s (t.setReg a w) :=
  h.trans ⟨fun _ hb => State.reg_setReg_other fun he => hb (he ▸ ha), memKept_of_mem_eq State.mem_setReg⟩

theorem loopWork_pauseCommits : LoopWork l s (s.pauseCommits x) := loopWork_of_eq State.regs_pauseCommits (State.mem_pauseCommits x)

/-- The transactions of one output that have no completion. -/
def State.loseFsk (s : State) (n : Nat) : State :=
  if (s.loOf n).fq.isEmpty then s
  else (s.put (LO_FST.QD n) 0).put (LO_FST.MSTATE n) (if s.get (LO_FST.MSTATE n) == 5 then 5 else 0)

/-- The host port's registers after the loss. -/
def State.hostLost (s : State) : State :=
  ((((s.put HST_KSTAT.HSTATE 0).put HST_KSTAT.DSTATE 0).putB HST_STAT.LOCKED false).setReg HST_LOCK 0).putB SYS_DBG.HALTED false

/-- The registers that the loss of work writes, written. -/
def State.lossShown (s : State) : State :=
  (List.range 16).foldl State.loseFsk ((s.hostLost.putB SYS_WDOG.FROZEN false).pauseCommits s.hostLost.life.warn)

theorem loopWork_loseFsk (hn : n < 16) : LoopWork lossRegs s (s.loseFsk n) := by
  have hmem : LO_FST n ∈ lossRegs := List.mem_append_right _ (List.mem_map_of_mem (List.mem_range.mpr hn))
  exact .ite .refl ((LoopWork.refl.put hmem).put hmem)

theorem loopWork_foldl_mem {α : Type} {g : State → α → State} : ∀ (m : List α) (s : State), (∀ z, ∀ y ∈ m, LoopWork l z (g z y)) →
    LoopWork l s (m.foldl g s)
  | [], _, _ => .refl
  | y :: m, s, h => (h s y List.mem_cons_self).trans (loopWork_foldl_mem m (g s y) fun z c hc => h z c (List.mem_cons_of_mem y hc))

theorem loopWork_lossShown : LoopWork lossRegs s s.lossShown := by
  have hin : ∀ b ∈ [HST_KSTAT, HST_STAT, HST_LOCK, SYS_DBG, SYS_WDOG], b ∈ lossRegs := fun b hb => List.mem_append_left _ hb
  refine LoopWork.trans ?_ (loopWork_foldl_mem _ _ fun z m hm => loopWork_loseFsk (List.mem_range.mp hm))
  exact ((((((LoopWork.refl.put (hin _ (by simp))).put (hin _ (by simp))).putB (hin _ (by simp))).setReg (hin _ (by simp))).putB
    (hin _ (by simp))).putB (hin _ (by simp))).trans loopWork_pauseCommits

theorem State.regs_loseWork : s.loseWork.regs = s.lossShown.regs := by
  unfold State.loseWork
  dsimp only
  rfl

theorem State.reg_loseWork (h : a ∉ lossRegs) : s.loseWork.reg a = s.reg a := by
  have hreg : s.loseWork.reg a = s.lossShown.reg a := by simp only [State.reg, State.regs_loseWork]
  exact hreg.trans (loopWork_lossShown.regs a h)

/-- The registers of the calendar domain and those in which the loss shows are apart. -/
theorem not_loss_of_isClk (h : isClk a = true) : a ∉ lossRegs := by
  have hall : ∀ b ∈ lossRegs, isClk b = false := by decide
  exact fun hm => Bool.false_ne_true ((hall a hm).symm.trans h)

/-! ## PIN_RESET (R539, R545) -/

theorem State.reg_coldReset (h : a ≠ SYS_RSTAT) (hi : a ≠ IMG_STAT) :
    (s.coldReset c).reg a = (s.loseWork.loseIslands.resetRegs false isClk).reg a := by
  unfold State.coldReset
  dsimp only
  rw [State.reg_with, State.reg_putB_other hi, State.reg_put_other h]

theorem State.reg_loseIslands : s.loseIslands.reg a = s.reg a := rfl

theorem State.reg_coldReset_clk (h : isClk a = true) : (s.coldReset c).reg a = s.reg a := by
  have hrstat : a ≠ SYS_RSTAT := fun he => by rw [he] at h; exact absurd h (by decide)
  have himg : a ≠ IMG_STAT := fun he => by rw [he] at h; exact absurd h (by decide)
  rw [State.reg_coldReset hrstat himg, State.reg_resetRegs_whole h, State.reg_loseIslands, State.reg_loseWork (not_loss_of_isClk h)]

theorem State.reg_coldReset_lost (h : isClk a = false) (hr : a ≠ SYS_RSTAT) (hi : a ≠ IMG_STAT) : (s.coldReset c).reg a = regReset a :=
  (State.reg_coldReset hr hi).trans (State.reg_resetRegs_lost h)

theorem mramKept_coldReset : MramKept s (s.coldReset c) := mramKept_of_eq State.mram_coldReset State.mramBad_coldReset

theorem pinReset_running (h : s.life.boot = .timed ∨ s.life.boot = .powered) : Completes .pinReset s (fun t => t.life.boot = .settled
    ∧ t.life.rclass = 2 ∧ t.get SYS_RSTAT.RCLASS = 2 ∧ t.t.beat = 0 ∧ (∀ a, t.sramAt a = sramReset a) ∧ MramKept s t
    ∧ (∀ a, isClk a = true → t.reg a = s.reg a)
    ∧ (∀ a, isClk a = false → a ≠ SYS_RSTAT → a ≠ IMG_STAT → t.reg a = regReset a)) := by
  have hrun : exec .pinReset s = .next (settle (s.coldReset 2)) := by
    have hmeaning : exec .pinReset s = execPinReset s := rfl
    rw [hmeaning, execPinReset]
    obtain h | h := h <;> rw [h] <;> rfl
  exact ⟨_, hrun, rfl, rfl, State.get_settle.trans (State.rclass_coldReset (by decide)), rfl,
    fun _ => State.sramAt_settle.trans State.sramAt_coldReset, mramKept_coldReset.trans allKept_settle.2.2,
    fun _ hc => State.reg_settle.trans (State.reg_coldReset_clk hc), fun _ hc hr hi => State.reg_settle.trans (State.reg_coldReset_lost hc hr hi)⟩

/-- The class of a cold reset that goes on. -/
def State.classNoted (s : State) : State := { s with life := { s.life with rclass := 2 } }

/-- The class noted and shown. -/
def State.classTaken (s : State) : State := s.classNoted.put SYS_RSTAT.RCLASS 2

theorem pinReset_starting (h : s.life.boot = .settling ∨ s.life.boot = .settled) : Completes .pinReset s (fun t =>
    t.life.boot = s.life.boot ∧ t.life.rclass = min 2 s.life.rclass ∧ RegsKeptBut [SYS_RSTAT] s t ∧ MemKept s t
      ∧ (2 < s.life.rclass → t.get SYS_RSTAT.RCLASS = 2)) := by
  have hrun : exec .pinReset s = .next (settle (if s.life.rclass ≤ 2 then s else s.classTaken)) := by
    have hmeaning : exec .pinReset s = execPinReset s := rfl
    rw [hmeaning, execPinReset]
    obtain h | h := h <;> rw [h] <;> rfl
  refine ⟨_, hrun, ?_⟩
  split
  · next hle => exact ⟨rfl, (Nat.min_eq_right hle).symm, fun _ _ => State.reg_settle, allKept_settle.2, fun hlt => absurd hle (by omega)⟩
  · next hgt =>
    have hclass : (settle s.classTaken).life = s.classNoted.life := State.life_settle.trans State.life_put
    have hwork : LoopWork [SYS_RSTAT] s s.classTaken := (loopWork_of_eq (s := s) (t := s.classNoted) rfl rfl).put (by simp)
    rw [hclass]
    exact ⟨rfl, (Nat.min_eq_left (Nat.le_of_not_le hgt)).symm, hwork.settled.kept.1, hwork.settled.kept.2,
      fun _ => State.get_settle.trans (State.get_put_same rfl)⟩

/-! ## Deferred resets (R541, R543) -/

/-- A register without kept bits reads its Reset column. -/
theorem State.reg_resetRegs_unkept (h : whole a = false) (hk : keepOf a = 0) : (s.resetRegs true whole).reg a = regReset a := by
  obtain ⟨v, hv⟩ := State.reg_resetRegs_kept (s := s) h
  rw [hv, keptWord, hk]
  simp only [W, BitVec.and_zero, BitVec.zero_or, BitVec.not_zero, BitVec.and_allOnes]

theorem State.sysMode_resetRegs (h : whole SYS_MODE = false) : (s.resetRegs true whole).reg SYS_MODE = regReset SYS_MODE :=
  State.reg_resetRegs_unkept h (by decide)

theorem State.reg_warmBlocks {old : State} {lanes : Nat × Nat} (h : a ∉ [SYS_ISTAT, JL_STAT, TIM_DSTAT]) :
    (s.warmBlocks old x lanes).reg a = s.reg a := by
  simp only [List.mem_cons, List.not_mem_nil, or_false, not_or] at h
  obtain ⟨hi, hj, ht⟩ := h
  unfold State.warmBlocks
  dsimp only
  split
  · rw [State.reg_with, State.reg_put_other hj, State.reg_put_other hj, State.reg_putBit_other hi]
  · rw [State.reg_with, State.reg_put_other ht]

theorem State.reg_warmHeld : (s.warmHeld c x).reg a = s.reg a := rfl

/-- SYS_MODE after a warm or soft reset: its Reset column, with the old cause in RSTCAUSE. -/
theorem State.get_warmReset {g : Fld} (hg : g.addr = SYS_MODE) : (s.warmReset c).get g = (s.warmRegs c).get g := by
  have hapart : (s.warmReset c).reg SYS_MODE = (s.warmRegs c).reg SYS_MODE := by
    rw [State.warmReset_eq, State.reg_warmHeld, State.reg_warmBlocks (by decide)]
  exact get_of_reg_eq (hg ▸ hapart)

theorem State.get_warmRegs {g : Fld} (hg : g.addr = SYS_MODE) (ha : g.apart SYS_MODE.RSTCAUSE = true) :
    (s.warmRegs c).get g = fld (regReset SYS_MODE) g.hi g.lo := by
  have hrstat : g.apart SYS_RSTAT.RCLASS = true := by simp [Fld.apart, hg, show SYS_MODE ≠ SYS_RSTAT by decide]
  have himg : g.apart IMG_STAT.RUNNING = true := by simp [Fld.apart, hg, show SYS_MODE ≠ IMG_STAT by decide]
  rw [State.warmRegs, State.get_putB_other rfl himg, State.get_put_other rfl ha, State.get_put_other rfl hrstat, State.get, hg,
    State.reg_resetRegs_unkept (by cases c == 5 <;> decide) (by decide)]

theorem State.rstCause_warmRegs : (s.warmRegs c).get SYS_MODE.RSTCAUSE = s.get SYS_MODE.SAFECAUSE := by
  rw [State.warmRegs, State.get_putB_other rfl rfl, State.get_put_same rfl]
  exact Nat.mod_eq_of_lt State.get_lt

theorem warmReset_starts : (s.warmReset c).mode = 3 ∧ (s.warmReset c).starting = true ∧ (s.warmReset c).get SYS_MODE.SAFECAUSE = 0
    ∧ (s.warmReset c).get SYS_MODE.RSTCAUSE = s.get SYS_MODE.SAFECAUSE := by
  refine ⟨?_, ?_, ?_, (State.get_warmReset rfl).trans State.rstCause_warmRegs⟩
  · rw [State.mode, State.get_warmReset rfl, State.get_warmRegs rfl rfl]
    rfl
  · rw [State.starting, State.flag, State.get_warmReset rfl, State.get_warmRegs rfl rfl]
    rfl
  · rw [State.get_warmReset rfl, State.get_warmRegs rfl rfl]
    rfl

theorem State.t_pauseCommits : (s.pauseCommits x).t = s.t := by
  unfold State.pauseCommits State.calPause State.imgPause State.calResume State.imgResume
  split <;> split <;> split <;> rfl

theorem State.t_loseFsk : (s.loseFsk n).t = s.t := by
  unfold State.loseFsk
  split
  · rfl
  · rw [State.t_put, State.t_put]

theorem State.t_hostLost : s.hostLost.t = s.t := by simp [State.hostLost]

theorem State.t_loseWork : s.loseWork.t = s.t := by
  have hshown : s.loseWork.t = s.lossShown.t := by
    unfold State.loseWork
    dsimp only
    rfl
  rw [hshown, State.lossShown, foldl_keeps State.t _ _ _ fun _ _ => State.t_loseFsk, State.t_pauseCommits, State.t_putB, State.t_hostLost]

theorem State.run_loseIslands : s.loseIslands.t.run = s.t.run := rfl

theorem State.t_resetRegs : (s.resetRegs keep whole).t = s.t := rfl

theorem State.run_warmRegs : (s.warmRegs c).t.run = s.t.run := by
  rw [State.warmRegs, State.t_putB, State.t_put, State.t_put, State.t_resetRegs, State.run_loseIslands, State.t_loseWork]

theorem State.t_warmBlocks {old : State} {lanes : Nat × Nat} : (s.warmBlocks old x lanes).t = s.t := by
  unfold State.warmBlocks
  dsimp only
  split
  · rw [State.t_put, State.t_put, State.t_putBit]
  · rw [State.t_put]

theorem State.life_warmHeld : (s.warmHeld c x).life = { s.life.reset c s.t.run with boot := .timed } := rfl

/-- What is held of a warm or soft reset: its class from now on, nothing deferred. -/
theorem life_warmReset (h : 3 < c) : (s.warmReset c).life.held = c ∧ (s.warmReset c).life.heldAt = s.t.run
    ∧ (s.warmReset c).life.deferred = none := by
  rw [State.warmReset_eq, State.life_warmHeld, State.t_warmBlocks, State.run_warmRegs]
  exact ⟨if_neg (by omega), rfl, rfl⟩

/-! ### A resync (R541) -/

/-- The registers of a resync. -/
def State.resyncRegs (s : State) : State := (s.loseWork.resetRegs true (fun a => !resyncs a)).put SYS_RSTAT.RCLASS 6

/-- A resync with its engines started afresh, before its interrupt source is raised. -/
def State.resyncBlocks (s : State) (hours : Word) : State :=
  { s with
    hst := { s.hst with wq := [] }
    bl := State.reset.bl, alm := State.reset.alm, opl := State.reset.opl, jl := { State.reset.jl with opRoundRole := hours }
    img := { s.img with resync := true }
    life := { s.life with held := 6, heldAt := s.t.run, deferred := none } }

theorem State.resyncReset_eq : s.resyncReset = (s.resyncRegs.resyncBlocks s.jl.opRoundRole).raise HST_ISRC.ROLE := by
  unfold State.resyncReset State.resyncBlocks State.resyncRegs
  dsimp only

theorem State.reg_resyncBlocks : (s.resyncBlocks w).reg a = s.reg a := rfl
theorem State.mem_resyncBlocks : (s.resyncBlocks w).mem = s.mem := rfl
theorem State.life_resyncBlocks : (s.resyncBlocks w).life = { s.life with held := 6, heldAt := s.t.run, deferred := none } := rfl
theorem State.resync_resyncBlocks : (s.resyncBlocks w).img.resync = true := rfl

theorem State.reg_resyncReset (h : a ≠ HST_ISRC) (hr : a ≠ SYS_RSTAT) :
    s.resyncReset.reg a = (s.loseWork.resetRegs true (fun a => !resyncs a)).reg a := by
  rw [State.resyncReset_eq, State.reg_raise_other h, State.reg_resyncBlocks, State.resyncRegs, State.reg_put_other hr]

theorem State.reg_resyncReset_lost (h : resyncs a = true) (hk : keepOf a = 0) : s.resyncReset.reg a = regReset a := by
  have hne : ∀ b, resyncs b = false → a ≠ b := fun b hb he => Bool.false_ne_true ((he ▸ hb).symm.trans h)
  rw [State.reg_resyncReset (hne _ (by decide)) (hne _ (by decide)), State.reg_resetRegs_unkept (by simp [h]) hk]

theorem State.mem_resyncReset : s.resyncReset.mem = s.mem := by
  rw [State.resyncReset_eq, State.mem_raise, State.mem_resyncBlocks, State.resyncRegs, State.mem_put, State.mem_resetRegs, State.mem_loseWork]

theorem State.mode_resyncReset : s.resyncReset.mode = s.mode := by
  refine State.mode_of_reg_eq ?_
  rw [State.reg_resyncReset (by decide) (by decide), State.reg_resetRegs_whole (by decide), State.reg_loseWork (by decide)]

theorem State.rclass_resyncReset : s.resyncReset.get SYS_RSTAT.RCLASS = 6 := by
  have hreg : s.resyncReset.reg SYS_RSTAT = s.resyncRegs.reg SYS_RSTAT := by
    rw [State.resyncReset_eq, State.reg_raise_other (by decide), State.reg_resyncBlocks]
  rw [get_of_reg_eq hreg, State.resyncRegs, State.get_put_same rfl]
  rfl

theorem State.run_resyncRegs : s.resyncRegs.t.run = s.t.run := by
  rw [State.resyncRegs, State.t_put, State.t_resetRegs, State.t_loseWork]

theorem life_resyncReset : s.resyncReset.life.held = 6 ∧ s.resyncReset.life.heldAt = s.t.run ∧ s.resyncReset.life.deferred = none
    ∧ s.resyncReset.img.resync = true := by
  rw [State.resyncReset_eq, State.life_raise, State.img_raise, State.life_resyncBlocks, State.resync_resyncBlocks]
  dsimp only
  exact ⟨rfl, State.run_resyncRegs, rfl, rfl⟩

/-! ### The deferred reset's beat -/

/-- What a reset of class 4, 5 or 6 begins with. -/
def Begins (c : Nat) (s t : State) : Prop :=
  t.get SYS_RSTAT.RCLASS = c ∧ t.life.held = c ∧ t.life.heldAt = s.t.run ∧ t.life.deferred = none ∧ MemKept s t
    ∧ (if c = 6 then t.mode = s.mode ∧ t.img.resync = true
       else t.mode = 3 ∧ t.starting = true ∧ t.get SYS_MODE.SAFECAUSE = 0 ∧ t.get SYS_MODE.RSTCAUSE = s.get SYS_MODE.SAFECAUSE)

theorem begins_startReset (hc : c = 4 ∨ c = 5 ∨ c = 6) : Begins c s (s.startReset c) := by
  by_cases h6 : c = 6
  · subst h6
    obtain ⟨hheld, hat, hdef, hresync⟩ := life_resyncReset (s := s)
    exact ⟨State.rclass_resyncReset, hheld, hat, hdef, memKept_of_mem_eq State.mem_resyncReset, State.mode_resyncReset, hresync⟩
  · have hwarm : s.startReset c = s.warmReset c := by
      unfold State.startReset
      rw [if_neg (by omega), if_pos (by omega)]
    obtain ⟨hclass, -, -, hmem⟩ := restarts_warmReset (s := s) (c := c) (by omega) (by omega)
    obtain ⟨hheld, hat, hdef⟩ := life_warmReset (s := s) (c := c) (by omega)
    rw [hwarm]
    refine ⟨hclass, hheld, hat, hdef, hmem, ?_⟩
    rw [if_neg h6]
    exact warmReset_starts

theorem Begins.settled (h : Begins c s t) : Begins c s (settle t) := by
  obtain ⟨hclass, hheld, hat, hdef, hmem, hmode⟩ := h
  refine ⟨State.get_settle.trans hclass, ?_, ?_, ?_, hmem.trans allKept_settle.2, ?_⟩
  · rwa [State.life_settle]
  · rwa [State.life_settle]
  · rwa [State.life_settle]
  · rw [State.mode_settle, State.img_settle, State.starting, State.flag_settle, State.get_settle, State.get_settle]
    exact hmode

theorem deferredResetStart_begins {d : Nat} (hup : s.up = true) (hd : s.life.deferred = some (c, d)) (hc : c = 4 ∨ c = 5 ∨ c = 6)
    (hdue : d ≤ s.t.run) : Completes .deferredResetStart s (Begins c s) := by
  have hstart : s.deferredReset = s.startReset c := by
    unfold State.deferredReset
    rw [hd]
    exact if_pos hdue
  refine completes_of_exec (o := execDeferredResetStart s) rfl (act_ends hup ?_)
  rw [hstart]
  exact (begins_startReset hc).settled

theorem deferredResetStart_early {d : Nat} (hup : s.up = true) (hd : s.life.deferred = some (c, d)) (hearly : s.t.run < d) :
    Completes .deferredResetStart s (fun t => t.life.deferred = some (c, d) ∧ AllKept s t) := by
  have hwait : s.deferredReset = s := by
    unfold State.deferredReset
    rw [hd]
    exact if_neg (by omega)
  refine completes_of_exec (o := execDeferredResetStart s) rfl (act_ends hup ?_)
  rw [hwait, State.life_settle]
  exact ⟨hd, allKept_settle⟩

/-! ## The end of a hold (R539, R553) -/

/-- The hold over. -/
def State.unheld (s : State) : State := { s with life := { s.life with held := 0 } }

theorem State.holdEnd_due (hheld : s.life.held ≠ 0) (h : holdBeats s.life.held ≤ s.since s.life.heldAt) :
    s.holdEnd = if s.life.held == 6 then s.unheld else s.unheld.showCause := if_neg (by simp [hheld, h])

theorem resetHoldEnd_ends (hheld : s.life.held ≠ 0) (h : holdBeats s.life.held ≤ s.since s.life.heldAt) (htimed : s.timed = true) :
    Completes .resetHoldEnd s (fun t => t.life.held = 0 ∧ RegsKeptBut [SYS_MODE] s t ∧ MemKept s t
      ∧ (if s.life.held = 6 then RegsKept s t else t.get SYS_MODE.SAFECAUSE = lowestCause s.life.conds)) := by
  have hkept : AllKept s s.unheld := ⟨fun _ => rfl, memKept_of_eq rfl rfl rfl rfl⟩
  have hshow : s.unheld.showCause = s.unheld.put SYS_MODE.SAFECAUSE (lowestCause s.life.conds) := by
    have htimed' : s.unheld.timed = true := htimed
    unfold State.showCause
    rw [htimed']
    rfl
  refine ⟨settle s.holdEnd, rfl, ?_⟩
  rw [State.holdEnd_due hheld h]
  dsimp only
  by_cases h6 : s.life.held = 6
  · rw [if_pos (by simp [h6]), if_pos h6]
    exact ⟨rfl, fun b _ => hkept.settled.1 b, hkept.settled.2, hkept.settled.1⟩
  · have hwork : LoopWork [SYS_MODE] s (s.unheld.put SYS_MODE.SAFECAUSE (lowestCause s.life.conds)) :=
      (loopWork_of_allKept hkept).put (by simp)
    rw [if_neg (by simp [h6]), if_neg h6, hshow, State.life_settle, State.life_put, State.get_settle, State.get_put_same rfl]
    exact ⟨rfl, hwork.settled.kept.1, hwork.settled.kept.2, Nat.mod_eq_of_lt (lowestCause_lt.trans_le (by decide))⟩

theorem resetHoldEnd_early (h : s.since s.life.heldAt < holdBeats s.life.held) :
    Completes .resetHoldEnd s (fun t => t.life.held = s.life.held ∧ AllKept s t) := by
  have hwait : s.holdEnd = s := if_pos (by simp [h])
  refine ⟨settle s.holdEnd, rfl, ?_⟩
  rw [hwait]
  exact ⟨rfl, allKept_settle⟩

/-! ## JL_RESYNC (R414, R541) -/

theorem jlResync_restarts (hup : s.up = true) (h8 : s.pstate = 8) : Completes .jlResync s (fun t => t.get SYS_RSTAT.RCLASS = 6
    ∧ t.life.held = 6 ∧ t.img.resync = true ∧ t.pstate = 0 ∧ t.drives = false ∧ t.mode = s.mode ∧ MemKept s t
    ∧ (∀ a, resyncs a = true → keepOf a = 0 → t.reg a = regReset a)) := by
  have hpstate : (s.jlResult 0).pstate = 8 := (get_of_reg_eq (State.reg_put_other (by decide))).trans h8
  have hreset : s.jlResync = (s.jlResult 0).resyncReset := by
    unfold State.jlResync
    rw [if_neg (by simp [h8]), State.commandReset_free (.inl (by rw [hpstate]; decide))]
    rfl
  obtain ⟨hheld, -, -, hresync⟩ := life_resyncReset (s := s.jlResult 0)
  have hstat : (s.jlResult 0).resyncReset.reg JL_STAT = regReset JL_STAT := State.reg_resyncReset_lost (by decide) (by decide)
  have hmode : (s.jlResult 0).mode = s.mode := State.mode_of_reg_eq (State.reg_put_other (by decide))
  refine completes_of_exec (o := execJlResync s) rfl (act_ends hup ?_)
  rw [hreset]
  refine ⟨State.get_settle.trans State.rclass_resyncReset, ?_, ?_, ?_, ?_, ?_, ?_, fun a ha hk => State.reg_settle.trans (State.reg_resyncReset_lost ha hk)⟩
  · rw [State.life_settle, hheld]
  · rw [State.img_settle, hresync]
  · rw [State.pstate_settle, State.pstate, State.get]
    rw [show JL_STAT.PSTATE.addr = JL_STAT from rfl, hstat]
    decide
  · rw [State.drives, State.img_settle, hresync, Bool.not_true, Bool.and_false]
  · rw [State.mode_settle, State.mode_resyncReset, hmode]
  · exact (memKept_of_mem_eq (State.mem_resyncReset.trans State.mem_put)).trans allKept_settle.2

theorem jlResync_refused (hup : s.up = true) (h8 : s.pstate ≠ 8) : Completes .jlResync s (fun t =>
    t.get JL_CRES.RESULT = 3 ∧ RegsKeptBut [JL_CRES] s t ∧ MemKept s t) := by
  have hwork : LoopWork [JL_CRES] s (s.jlResult 3) := LoopWork.refl.put (by simp)
  have hresult : s.jlResync = s.jlResult 3 := if_pos (by simp [h8])
  refine completes_of_exec (o := execJlResync s) rfl (act_ends hup ?_)
  rw [hresult]
  exact ⟨State.get_settle.trans (State.get_put_same rfl), hwork.settled.kept⟩

/-! ## The examination of MRAM (R551) -/

/-- Registers in which an uncorrectable word of MRAM shows. -/
def fetchRegs : List Nat := [SYS_ICHK2, ONX_LOST, HST_ISRC]

/-- Of the registers the listed ones alone are written; memory is the same, word for word and pattern for pattern. -/
structure RegWork (l : List Nat) (s t : State) : Prop where
  regs : RegsKeptBut l s t
  mem : t.mem = s.mem

theorem RegWork.refl : RegWork l s s := ⟨fun _ _ => rfl, rfl⟩

theorem RegWork.trans (h : RegWork l s t) (h' : RegWork l t u) : RegWork l s u := ⟨h.regs.trans h'.regs, h'.mem.trans h.mem⟩

theorem RegWork.mono (h : RegWork l s t) (hl : l ⊆ l') : RegWork l' s t := ⟨fun a ha => h.regs a fun hm => ha (hl hm), h.mem⟩

theorem RegWork.put (h : RegWork l s t) (hf : f.addr ∈ l) : RegWork l s (t.put f v) :=
  h.trans ⟨fun _ ha => State.reg_put_other fun he => ha (he ▸ hf), State.mem_put⟩

theorem RegWork.putB (h : RegWork l s t) (hf : f.addr ∈ l) : RegWork l s (t.putB f x) := h.put hf

theorem RegWork.setReg (h : RegWork l s t) (ha : a ∈ l) : RegWork l s (t.setReg a w) :=
  h.trans ⟨fun _ hb => State.reg_setReg_other fun he => hb (he ▸ ha), State.mem_setReg⟩

theorem RegWork.ite {q : Prop} [Decidable q] (ht : RegWork l s t) (hu : RegWork l s u) : RegWork l s (if q then t else u) := by
  split
  · exact ht
  · exact hu

theorem RegWork.loop (h : RegWork l s t) : LoopWork l s t := ⟨h.regs, memKept_of_mem_eq h.mem⟩

theorem RegWork.get (h : RegWork l s t) (hf : f.addr ∉ l) : t.get f = s.get f := get_of_reg_eq (h.regs _ hf)

theorem RegWork.flag (h : RegWork l s t) (hf : f.addr ∉ l) : t.flag f = s.flag f := flag_of_reg_eq (h.regs _ hf)

theorem regWork_trigger {cls sub src : Nat} {ts0 ts1 ev0 ev1 : Word} {rs : Option Nat} (hl : ONX_LOST ∈ l) :
    RegWork l s (s.trigger cls sub src ts0 ts1 ev0 ev1 rs) :=
  ⟨fun _ ha => State.reg_trigger fun he => ha (he ▸ hl), State.mem_trigger⟩

theorem regWork_mramRead {req : Nat} : RegWork fetchRegs s (s.mramRead a .clean req).1 := by
  unfold State.mramRead
  dsimp only
  split
  · have hinc : RegWork fetchRegs s (s.inc SYS_ICHK2.FAIL) := RegWork.refl.put (by simp [fetchRegs])
    exact (hinc.trans (regWork_trigger (by simp [fetchRegs]))).put (by simp [fetchRegs])
  · exact .refl

theorem RegWork.foldl {α : Type} {g : State → α → State} (hg : ∀ z y, RegWork l z (g z y)) : ∀ (m : List α) (s : State), RegWork l s (m.foldl g s)
  | [], _ => .refl
  | y :: m, s => (hg s y).trans (RegWork.foldl hg m (g s y))

theorem regWork_mramFetch {req : Nat} {m : List Nat} : RegWork fetchRegs s (s.mramFetch req m) := RegWork.foldl (fun _ _ => regWork_mramRead) _ _

theorem State.keyCopy_of_mem_eq (h : t.mem = s.mem) : t.keyCopy = s.keyCopy := by
  unfold State.keyCopy State.keyCopyValid State.mramWords State.mramPoison State.mramAt
  rw [h]

/-- A bank's validity hangs on MRAM and the personality alone. -/
theorem State.bankValid_of_mem_eq (h : t.mem = s.mem) (hc : t.compat = s.compat) : t.bankValid b = s.bankValid b := by
  unfold State.bankValid State.bankHead State.bankPoison State.bankDigest State.bankAt State.mramWords State.mramAt
  rw [h, hc]

theorem showKey_shows : s.showKey.flag IMG_STAT.KEY = s.keyCopy.isSome ∧ RegWork [ONX_STAT, IMG_STAT] s s.showKey :=
  ⟨State.flag_putB_same rfl, (RegWork.refl.putB (by simp)).putB (by simp)⟩

/-- The registers in which the calibration bank in force is shown. -/
def calShownRegs : List Nat := [CAL_STAT, CAL_SEQA, CAL_SEQB]

/-- The two calibration banks as found, shown. -/
def State.calBanksShown (s : State) (va vb eq : Bool) (sa sb : Word) (b : Nat) : State :=
  ((((((s.putB CAL_STAT.AVALID va).putB CAL_STAT.BVALID vb).putB CAL_STAT.EQSEQ eq).putB CAL_STAT.NOVALID (!va && !vb)).setReg CAL_SEQA sa).setReg
    CAL_SEQB sb).put CAL_STAT.INFORCE b

/-- Another calibration store beside the same registers. -/
def State.withCal (s : State) (y : CalS) : State := { s with cal := y }

theorem State.flag_withCal {y : CalS} : (s.withCal y).flag f = s.flag f := rfl

theorem regWork_withCal {y : CalS} : RegWork l s (s.withCal y) := ⟨fun _ _ => rfl, rfl⟩

theorem State.calSelect_eq : ∃ eq sa sb b y, s.calSelect = (s.calBanksShown (s.calValid 0) (s.calValid 1) eq sa sb b).withCal y :=
  ⟨_, _, _, _, _, rfl⟩

theorem calBanksShown_shows {va vb eq : Bool} {sa sb : Word} : (s.calBanksShown va vb eq sa sb b).flag CAL_STAT.AVALID = va
    ∧ (s.calBanksShown va vb eq sa sb b).flag CAL_STAT.BVALID = vb ∧ RegWork calShownRegs s (s.calBanksShown va vb eq sa sb b) := by
  refine ⟨?_, ?_, ?_⟩
  · unfold State.calBanksShown State.flag
    rw [State.get_put_other rfl rfl, State.get_setReg_other (by decide), State.get_setReg_other (by decide), State.get_putB_other rfl rfl,
      State.get_putB_other rfl rfl, State.get_putB_other rfl rfl]
    exact State.flag_putB_same rfl
  · unfold State.calBanksShown State.flag
    rw [State.get_put_other rfl rfl, State.get_setReg_other (by decide), State.get_setReg_other (by decide), State.get_putB_other rfl rfl,
      State.get_putB_other rfl rfl]
    exact State.flag_putB_same rfl
  · have hs : CAL_STAT ∈ calShownRegs := by simp [calShownRegs]
    exact ((((((RegWork.refl.putB hs).putB hs).putB hs).putB hs).setReg (by simp [calShownRegs])).setReg (by simp [calShownRegs])).put hs

theorem calSelect_shows : s.calSelect.flag CAL_STAT.AVALID = s.calValid 0 ∧ s.calSelect.flag CAL_STAT.BVALID = s.calValid 1
    ∧ RegWork calShownRegs s s.calSelect := by
  obtain ⟨eq, sa, sb, b, y, h⟩ := State.calSelect_eq (s := s)
  obtain ⟨ha, hb, hwork⟩ := calBanksShown_shows (s := s) (b := b) (va := s.calValid 0) (vb := s.calValid 1) (eq := eq) (sa := sa) (sb := sb)
  rw [h, State.flag_withCal, State.flag_withCal]
  exact ⟨ha, hb, hwork.trans regWork_withCal⟩

/-- The registers in which the image banks are shown. -/
def bankRegs : List Nat := [IMG_STAT, IMG_SEQA, IMG_SEQB]

theorem regWork_showBank : RegWork bankRegs s (s.showBank b x w) := by
  have hs : IMG_STAT ∈ bankRegs := by simp [bankRegs]
  have heq : RegWork bankRegs s (if x then s else s.putB IMG_STAT.EQSEQ false) := .ite .refl (RegWork.refl.putB hs)
  exact .ite ((heq.putB hs).setReg (by simp [bankRegs])) ((heq.putB hs).setReg (by simp [bankRegs]))

theorem State.key_showBank : (s.showBank b x w).flag IMG_STAT.KEY = s.flag IMG_STAT.KEY := by
  have heq : (if x then s else s.putB IMG_STAT.EQSEQ false).flag IMG_STAT.KEY = s.flag IMG_STAT.KEY := by
    split
    · rfl
    · exact State.flag_putB_other rfl rfl
  unfold State.showBank
  dsimp only
  split
  · rw [flag_of_reg_eq (State.reg_setReg_other (by decide)), State.flag_putB_other rfl rfl, heq]
  · rw [flag_of_reg_eq (State.reg_setReg_other (by decide)), State.flag_putB_other rfl rfl, heq]

/-- Both image banks as found, shown. -/
def State.banksShown (s : State) (va vb eq : Bool) (sa sb : Word) : State :=
  (((s.showBank 0 va sa).showBank 1 vb sb).putB IMG_STAT.EQSEQ eq).putB IMG_STAT.NOVALID (!va && !vb)

theorem banksShown_shows {va vb eq : Bool} {sa sb : Word} : (s.banksShown va vb eq sa sb).flag IMG_STAT.NOVALID = (!va && !vb)
    ∧ (s.banksShown va vb eq sa sb).flag IMG_STAT.KEY = s.flag IMG_STAT.KEY ∧ RegWork bankRegs s (s.banksShown va vb eq sa sb) := by
  have hs : IMG_STAT ∈ bankRegs := by simp [bankRegs]
  refine ⟨State.flag_putB_same rfl, ?_, ((regWork_showBank.trans regWork_showBank).putB hs).putB hs⟩
  rw [State.banksShown, State.flag_putB_other rfl rfl, State.flag_putB_other rfl rfl, State.key_showBank, State.key_showBank]

/-- Another image controller beside the same registers. -/
def State.withImg (s : State) (y : ImgS) : State := { s with img := y }

theorem State.flag_withImg {y : ImgS} : (s.withImg y).flag f = s.flag f := rfl

theorem regWork_withImg {y : ImgS} : RegWork l s (s.withImg y) := ⟨fun _ _ => rfl, rfl⟩

/-- The banks shown; with none valid SAFE cause 7 holds, otherwise the bank to start is noted. -/
theorem State.imgSelect_cases : ∃ eq sa sb, (s.imgSelect = (s.banksShown (s.bankValid 0) (s.bankValid 1) eq sa sb).causeOn 7)
    ∨ ∃ y, s.imgSelect = (s.banksShown (s.bankValid 0) (s.bankValid 1) eq sa sb).withImg y := by
  refine ⟨s.bankValid 0 && s.bankValid 1 && s.bankAt 0 1 == s.bankAt 1 1, s.bankAt 0 1, s.bankAt 1 1, ?_⟩
  unfold State.imgSelect
  dsimp only
  split
  · exact .inl rfl
  · exact .inr ⟨_, rfl⟩

theorem regWork_causeOn : RegWork causeRegs s (s.causeOn c) := ⟨fun _ ha => State.reg_causeOn ha, State.mem_causeOn⟩

theorem imgSelect_shows : s.imgSelect.flag IMG_STAT.NOVALID = (!s.bankValid 0 && !s.bankValid 1)
    ∧ s.imgSelect.flag IMG_STAT.KEY = s.flag IMG_STAT.KEY ∧ RegWork (bankRegs ++ causeRegs) s s.imgSelect := by
  obtain ⟨eq, sa, sb, h⟩ := State.imgSelect_cases (s := s)
  obtain ⟨hno, hkey, hwork⟩ := banksShown_shows (s := s) (va := s.bankValid 0) (vb := s.bankValid 1) (eq := eq) (sa := sa) (sb := sb)
  have hwide := hwork.mono (List.subset_append_left bankRegs causeRegs)
  obtain h | ⟨y, h⟩ := h
  · rw [h, regWork_causeOn.flag (by decide), regWork_causeOn.flag (by decide)]
    exact ⟨hno, hkey, hwide.trans (regWork_causeOn.mono (List.subset_append_right _ _))⟩
  · rw [h, State.flag_withImg, State.flag_withImg]
    exact ⟨hno, hkey, hwide.trans regWork_withImg⟩

/-- The examination noted as made. -/
def State.examinedNoted (s : State) : State := { s with life := { s.life with examined := true } }

/-- Both parts of the memory read, their uncorrectable words told. -/
def State.mramTold (s : State) : State := s.examinedNoted.mramFetch 26 (s.mem.mramBad.filter examines)

theorem regWork_mramTold : RegWork fetchRegs s s.mramTold :=
  RegWork.trans (t := s.examinedNoted) ⟨fun _ _ => rfl, rfl⟩ regWork_mramFetch

theorem State.examine_due (hno : s.life.examined = false) (himg : s.alive 26 = true) : s.examine = s.mramTold.showKey.calSelect.imgSelect :=
  if_neg (by simp [hno, State.imgUp, himg])

theorem State.life_mramFetch {req : Nat} {m : List Nat} : (s.mramFetch req m).life = s.life := by
  refine foldl_keeps State.life _ _ _ fun z b => ?_
  unfold State.mramRead State.integrity
  dsimp only
  split
  · rw [State.life_raise, State.life_trigNow, State.life_inc]
  · rfl

theorem State.life_calSelect : s.calSelect.life = s.life := by
  obtain ⟨eq, sa, sb, b, y, h⟩ := State.calSelect_eq (s := s)
  have hcal : ∀ z : State, (z.withCal y).life = z.life := fun _ => rfl
  rw [h, hcal, State.calBanksShown, State.life_put, State.life_setReg, State.life_setReg, State.life_putB, State.life_putB, State.life_putB,
    State.life_putB]

theorem State.examined_causeOn : (s.causeOn c).life.examined = s.life.examined := by
  rw [State.causeOn_eq]
  split
  · rw [State.life_showCause]; rfl
  · split
    · rfl
    · split
      · rfl
      · rw [State.life_giveUp]; rfl

theorem State.life_showBank : (s.showBank b x w).life = s.life := by
  have heq : (if x then s else s.putB IMG_STAT.EQSEQ false).life = s.life := by
    split
    · rfl
    · rw [State.life_putB]
  unfold State.showBank
  dsimp only
  split <;> rw [State.life_setReg, State.life_putB, heq]

theorem State.life_banksShown {va vb eq : Bool} {sa sb : Word} : (s.banksShown va vb eq sa sb).life = s.life := by
  rw [State.banksShown, State.life_putB, State.life_putB, State.life_showBank, State.life_showBank]

theorem State.examined_imgSelect : s.imgSelect.life.examined = s.life.examined := by
  obtain ⟨eq, sa, sb, h | ⟨y, h⟩⟩ := State.imgSelect_cases (s := s)
  · rw [h, State.examined_causeOn, State.life_banksShown]
  · have himg : ∀ z : State, (z.withImg y).life = z.life := fun _ => rfl
    rw [h, himg, State.life_banksShown]

theorem State.life_showKey : s.showKey.life = s.life := by
  unfold State.showKey
  rw [State.life_putB, State.life_putB]

theorem State.examined_examine (hno : s.life.examined = false) (himg : s.alive 26 = true) : s.examine.life.examined = true := by
  rw [State.examine_due hno himg, State.examined_imgSelect, State.life_calSelect, State.life_showKey, State.mramTold, State.life_mramFetch]
  rfl

theorem mramExamination_shows (hup : s.up = true) (hno : s.life.examined = false) (himg : s.alive 26 = true) :
    Completes .mramExamination s (fun t => t.life.examined = true ∧ t.flag CAL_STAT.AVALID = s.calValid 0
      ∧ t.flag CAL_STAT.BVALID = s.calValid 1 ∧ t.flag IMG_STAT.NOVALID = (!s.bankValid 0 && !s.bankValid 1)
      ∧ t.flag IMG_STAT.KEY = s.keyCopy.isSome ∧ MemKept s t) := by
  obtain ⟨hkey, hkeyWork⟩ := showKey_shows (s := s.mramTold)
  obtain ⟨hcalA, hcalB, hcalWork⟩ := calSelect_shows (s := s.mramTold.showKey)
  obtain ⟨hnone, hkey', himgWork⟩ := imgSelect_shows (s := s.mramTold.showKey.calSelect)
  have hshowMem : s.mramTold.showKey.mem = s.mem := hkeyWork.mem.trans regWork_mramTold.mem
  have hselMem : s.mramTold.showKey.calSelect.mem = s.mem := hcalWork.mem.trans hshowMem
  have hstrap : s.mramTold.showKey.calSelect.compat = s.compat :=
    ((hcalWork.flag (by decide)).trans (hkeyWork.flag (by decide))).trans (regWork_mramTold.flag (by decide))
  refine completes_of_exec (o := execMramExamination s) rfl (act_ends hup ?_)
  refine ⟨State.examined_examine hno himg, ?_, ?_, ?_, ?_, ?_⟩
  all_goals rw [State.examine_due hno himg]
  · rw [State.flag_settle, himgWork.flag (by decide), hcalA, State.calValid_of_mem_eq hshowMem]
  · rw [State.flag_settle, himgWork.flag (by decide), hcalB, State.calValid_of_mem_eq hshowMem]
  · rw [State.flag_settle, hnone, State.bankValid_of_mem_eq hselMem hstrap, State.bankValid_of_mem_eq hselMem hstrap]
  · rw [State.flag_settle, hkey', hcalWork.flag (by decide), hkey, State.keyCopy_of_mem_eq regWork_mramTold.mem]
  · exact (memKept_of_mem_eq (himgWork.mem.trans hselMem)).trans allKept_settle.2

theorem mramExamination_idle (hup : s.up = true) (h : s.life.examined = true ∨ s.alive 26 = false) :
    Completes .mramExamination s (fun t => AllKept s t) := by
  have hidle : s.examine = s := if_pos (by simpa [State.imgUp] using h)
  refine completes_of_exec (o := execMramExamination s) rfl (act_ends hup ?_)
  rw [hidle]
  exact allKept_settle

end

/-- Settles O6, with log 2's content of SRAM after a cold reset: the registers go by what a reset keeps of each, and the examination by
what the banks hold, which its own reads leave alone. -/
theorem resetsBegin : Obligations.ResetsBegin := by
  unfold Obligations.ResetsBegin
  intro s
  exact ⟨pinReset_running, pinReset_starting, fun c b hup hd hc => ⟨deferredResetStart_begins hup hd hc, deferredResetStart_early hup hd⟩,
    resetHoldEnd_ends, resetHoldEnd_early, jlResync_restarts, jlResync_refused, mramExamination_shows, mramExamination_idle⟩

end Sys2Proof.Machine

namespace Sys2Proof.Machine

open Sys2Proof

section
variable {s t u : State} {P : State → Prop} {ins : Instr} {f : Fld} {a b c g i n v k : Nat} {w : Word} {x : Bool} {l l' : List Nat} {y : LegS}

/-! ## The legacy port (R504 to R521) -/

/-- A row of the legacy framing ends in what its work leaves. -/
theorem quosterAct_ends {work : State → State} (hs : s.quoster = true) (h : P (settle (work s))) : ∃ t, quosterAct s work = .next t ∧ P t := by
  refine ⟨_, ?_, h⟩
  unfold quosterAct done
  rw [if_pos hs]

@[simp] theorem State.leg_setLeg : (s.setLeg y).leg = y := rfl

theorem loopWork_setLeg : LoopWork l s (s.setLeg y) := loopWork_of_eq rfl rfl

/-! ### Registers as they read (R510 to R520) -/

/-- The parts that legacy registers show are the same, LEG_STAT aside. -/
structure LegSame (s t : State) : Prop where
  regs : ∀ b, b ≠ LEG_STAT → t.reg b = s.reg b
  mem : t.mem = s.mem
  alm : t.alm = s.alm
  cache : t.cache = s.cache
  time : t.t = s.t
  snap : t.leg.snapT = s.leg.snapT

theorem LegSame.get (h : LegSame s t) (hf : f.addr ≠ LEG_STAT) : t.get f = s.get f := get_of_reg_eq (h.regs _ hf)

theorem LegSame.mode (h : LegSame s t) : t.mode = s.mode := h.get (by decide)

theorem LegSame.qmode (h : LegSame s t) : t.qmode = s.qmode := by
  unfold State.qmode State.starting State.flag
  rw [h.mode, h.get (by decide)]

theorem LegSame.qtime (h : LegSame s t) : t.qtime = s.qtime := by
  unfold State.qtime
  rw [h.time, h.get (by decide)]

theorem LegSame.mirror (h : LegSame s t) : t.mirror n = s.mirror n := by
  unfold State.mirror State.sramPoison State.sramAt
  rw [h.mem]

theorem LegSame.entry (h : LegSame s t) : t.entry n = s.entry n := by
  unfold State.entry State.cacheOf
  rw [h.cache]

theorem LegSame.qval (h : LegSame s t) : t.qval c = s.qval c := by
  unfold State.qval
  rw [h.entry, h.mirror]

theorem LegSame.qsts (h : LegSame s t) : t.qsts c = s.qsts c := by
  have hhi : t.get (FI_LBITS.LHI (c / 8)) = s.get (FI_LBITS.LHI (c / 8)) := h.get (by simp only [LEG_STAT]; omega)
  have hlo : t.get (FI_LBITS.LLO (c / 8)) = s.get (FI_LBITS.LLO (c / 8)) := h.get (by simp only [LEG_STAT]; omega)
  unfold State.qsts State.bitOf
  rw [h.mirror, hhi, hlo]

theorem LegSame.qdisc (h : LegSame s t) : t.qdisc b = s.qdisc b := by
  unfold State.qdisc
  simp only [h.mirror]

theorem LegSame.qao (h : LegSame s t) : t.qao n = s.qao n := by
  unfold State.qao
  rw [h.mirror]

theorem LegSame.qspd (h : LegSame s t) : t.qspd n = s.qspd n := by
  unfold State.qspd
  rw [h.mirror, h.entry]

theorem LegSame.almEnt (h : LegSame s t) : t.almEnt n = s.almEnt n := by
  unfold State.almEnt State.almOf
  rw [h.alm]

theorem LegSame.qalm (h : LegSame s t) (hn : n < 128) : t.qalm n = s.qalm n := by
  have hreg : t.reg (ALM_PST n) = s.reg (ALM_PST n) := h.regs _ (by simp only [ALM_PST, LEG_STAT]; omega)
  unfold State.qalm State.almPstWord
  rw [h.almEnt, h.alm, hreg]

theorem LegSame.qgrp (h : LegSame s t) : t.qgrp g = s.qgrp g := by
  unfold State.qgrp State.almGstWord
  rw [h.alm]

theorem LegSame.legPoints (h : LegSame s t) : t.legPoints g = s.legPoints g := by
  have hpoints : t.almPoints = s.almPoints := by
    unfold State.almPoints
    rw [h.alm]
    refine List.filter_congr fun m _ => ?_
    by_cases hm : m < 1024
    · have hstate : t.almState m = s.almState m := h.get (by simp only [LEG_STAT]; omega)
      rw [hstate]
    · simp [hm]
  unfold State.legPoints State.groupPoints
  simp only [hpoints, h.almEnt]

theorem LegSame.qdly (h : LegSame s t) : t.qdly g = s.qdly g := by
  unfold State.qdly
  rw [h.legPoints]
  split
  · rfl
  · rw [h.almEnt]

theorem LegSame.qlimit (h : LegSame s t) : t.qlimit c k = s.qlimit c k := by
  unfold State.qlimit
  rw [h.entry]

/-- Every register but QSTAT reads as before where these parts and bit 9 of QSTAT are the same. -/
theorem LegSame.legWord (h : LegSame s t) (ha : a ≠ 0) (hbit : bit (t.get LEG_STAT.QSTAT) 9 = bit (s.get LEG_STAT.QSTAT) 9) :
    t.legWord a = s.legWord a := by
  have hres : t.get ALM_CRES.RESULT = s.get ALM_CRES.RESULT := h.get (by decide)
  unfold State.legWord
  rw [h.qmode, hbit, hres, h.qtime, h.snap, h.qval, h.qsts, h.qdisc, h.qdisc, h.qao, h.qspd, h.qgrp, h.qlimit, h.qlimit, h.qdly,
    if_neg (show ¬((a == 0) = true) by simpa using ha), if_neg (show ¬((a == 0) = true) by simpa using ha)]
  by_cases halm : 0x400 ≤ a ∧ a < 0x480
  · rw [h.qalm (by omega)]
  · have hno : (decide (0x400 ≤ a) && decide (a < 0x480)) = false := by simpa using halm
    simp only [hno, Bool.false_eq_true, if_false]

/-! ### Reads and the select (R506 to R509, R513, R514) -/

theorem bitOf_qstatClear : s.qstatClear.bitOf LEG_STAT.QSTAT i
    = (if i = 15 ∨ i = 11 ∨ i = 10 then false else s.bitOf LEG_STAT.QSTAT i) := by
  unfold State.qstatClear
  by_cases h10 : i = 10
  · rw [if_pos (by omega), h10]
    exact State.bitOf_putBit_same rfl (by decide)
  rw [State.bitOf_putBit_ne rfl (by decide) h10]
  by_cases h11 : i = 11
  · rw [if_pos (by omega), h11]
    exact State.bitOf_putBit_same rfl (by decide)
  rw [State.bitOf_putBit_ne rfl (by decide) h11]
  by_cases h15 : i = 15
  · rw [if_pos (by omega), h15]
    exact State.bitOf_putBit_same rfl (by decide)
  · rw [State.bitOf_putBit_ne rfl (by decide) h15, if_neg (by omega)]

theorem loopWork_qstatClear : LoopWork [LEG_STAT] s s.qstatClear :=
  ((LoopWork.refl.putBit (by simp)).putBit (by simp)).putBit (by simp)

theorem State.leg_qstatClear : s.qstatClear.leg = s.leg := by simp [State.qstatClear]

theorem legSame_qstatClear : LegSame s s.qstatClear :=
  ⟨fun _ hb => loopWork_qstatClear.regs _ (by simpa using hb), by simp [State.qstatClear], by simp [State.qstatClear],
    by simp [State.qstatClear], by simp [State.qstatClear], congrArg LegS.snapT State.leg_qstatClear⟩

theorem State.legWord_qstatClear (ha : a ≠ 0) : s.qstatClear.legWord a = s.legWord a :=
  legSame_qstatClear.legWord ha (bitOf_qstatClear)

theorem State.legWord_zero : s.legWord 0 = s.qstat := rfl

theorem State.legRead_zero : s.legRead 0 = (s.qstatClear, s.qstat) := rfl

/-- What a read of another address leaves: QTIME's low word captured with its high word. -/
def State.snapTaken (s : State) (a : Nat) : State := if a = 0x10 then s.setLeg { s.leg with snapT := some (s.qtime % 65536) } else s

theorem State.legRead_other (ha : a ≠ 0) : s.legRead a = (s.snapTaken a, s.legWord a) := by
  unfold State.legRead State.snapTaken
  dsimp only
  rw [if_neg (by simpa using ha)]
  by_cases h : a = 0x10
  · rw [if_pos (by simpa using h), if_pos h]
  · rw [if_neg (by simpa using h), if_neg h]

theorem loopWork_snapTaken : LoopWork l s (s.snapTaken a) := .ite loopWork_setLeg .refl

theorem State.get_snapTaken : (s.snapTaken a).get f = s.get f := get_of_reg_eq ((loopWork_snapTaken (l := [])).regs _ List.not_mem_nil)

theorem State.snapT_snapTaken : (s.snapTaken a).leg.snapT = if a = 0x10 then some (s.qtime % 65536) else s.leg.snapT := by
  unfold State.snapTaken
  split <;> rfl

/-- The words a transaction shifts out. -/
def State.shiftOut (s : State) (o : List Nat) : State := s.setLeg { s.leg with out := o }

@[simp] theorem State.out_shiftOut {o : List Nat} : (s.shiftOut o).leg.out = o := rfl
@[simp] theorem State.get_shiftOut {o : List Nat} : (s.shiftOut o).get f = s.get f := rfl
@[simp] theorem State.wq_shiftOut {o : List Nat} : (s.shiftOut o).leg.wq = s.leg.wq := rfl
@[simp] theorem State.snapT_shiftOut {o : List Nat} : (s.shiftOut o).leg.snapT = s.leg.snapT := rfl

theorem loopWork_shiftOut {o : List Nat} : LoopWork l s (s.shiftOut o) := loopWork_setLeg

/-- One word read in time. -/
theorem legRun_one {a : BitVec 15} (ha : a.toNat ≠ 0) : legRun [] a.toNat 0 1 s = (s.snapTaken a.toNat, [s.legWord a.toNat]) := by
  have haddr : (a.toNat + 0) % 32768 = a.toNat := Nat.mod_eq_of_lt a.isLt
  unfold legRun
  dsimp only
  rw [haddr, State.legRead_other ha]
  rfl

/-- One word fetched too late. -/
theorem legRun_late {a : BitVec 15} : legRun [0] a.toNat 0 1 s = ((s.legRead a.toNat).1.putBit LEG_STAT.QSTAT 10 true, [0xFFFF]) := by
  have haddr : (a.toNat + 0) % 32768 = a.toNat := Nat.mod_eq_of_lt a.isLt
  unfold legRun
  dsimp only
  rw [haddr]
  rfl

theorem legacyRead_ends (hs : s.quoster = true) {q : BitVec 15} {late : List (BitVec 12)}
    (h : P (settle ((legRun (late.map (·.toNat)) q.toNat 0 1 s.qstatClear).1.shiftOut
      (s.qstat :: s.qstat :: (legRun (late.map (·.toNat)) q.toNat 0 1 s.qstatClear).2)))) : Completes (.legacyRead q 1 late) s P :=
  completes_of_exec (o := execLegacyRead q 1 late s) rfl (quosterAct_ends hs h)

theorem qstat_rc_cleared : bit (s.qstatClear.get LEG_STAT.QSTAT) 15 = false ∧ bit (s.qstatClear.get LEG_STAT.QSTAT) 11 = false
    ∧ bit (s.qstatClear.get LEG_STAT.QSTAT) 10 = false :=
  ⟨bitOf_qstatClear, bitOf_qstatClear, bitOf_qstatClear⟩

/-- Addresses from the end of the map on read 0. -/
theorem State.legWord_beyond (h : 0x610 ≤ a) : s.legWord a = 0 := by
  unfold State.legWord
  repeat rw [if_neg (by simp only [beq_iff_eq, Bool.and_eq_true, decide_eq_true_eq]; omega)]

theorem legacyRead_word (hs : s.quoster = true) (q : BitVec 15) (hq : q.toNat ≠ 0) : Completes (.legacyRead q 1 []) s (fun t =>
    t.leg.out = [s.qstat, s.qstat, s.legWord q.toNat] ∧ (q = 1 → t.leg.out.getD 2 0 = 0x0640) ∧ (q = 2 → t.leg.out.getD 2 0 = 0x0103)
      ∧ (0x610 ≤ q.toNat → t.leg.out.getD 2 0 = 0) ∧ bit (t.get LEG_STAT.QSTAT) 15 = false ∧ bit (t.get LEG_STAT.QSTAT) 11 = false
      ∧ bit (t.get LEG_STAT.QSTAT) 10 = false ∧ t.leg.snapT = (if q = 0x10 then some (s.qtime % 65536) else s.leg.snapT)
      ∧ RegsKeptBut [LEG_STAT] s t ∧ MemKept s t) := by
  obtain ⟨h15, h11, h10⟩ := qstat_rc_cleared (s := s)
  have hq10 : (q.toNat = 0x10) = (q = 0x10) := propext (by rw [← BitVec.toNat_inj]; rfl)
  refine legacyRead_ends hs ?_
  rw [List.map_nil, legRun_one hq, State.legWord_qstatClear hq, State.leg_settle, State.out_shiftOut, State.get_settle, State.get_shiftOut,
    State.get_snapTaken, State.snapT_shiftOut, State.snapT_snapTaken, legSame_qstatClear.qtime, State.leg_qstatClear]
  refine ⟨rfl, ?_, ?_, fun h => State.legWord_beyond h, h15, h11, h10, by simp only [hq10],
    ((loopWork_qstatClear.trans loopWork_snapTaken).trans loopWork_shiftOut).settled.kept⟩
  · rintro rfl
    rfl
  · rintro rfl
    rfl

theorem loopWork_legRead : LoopWork [LEG_STAT] s (s.legRead a).1 := by
  by_cases ha : a = 0
  · rw [ha, State.legRead_zero]
    exact loopWork_qstatClear
  · rw [State.legRead_other ha]
    exact loopWork_snapTaken

theorem legacyRead_late (hs : s.quoster = true) (q : BitVec 15) : Completes (.legacyRead q 1 [0]) s (fun t =>
    t.leg.out = [s.qstat, s.qstat, 0xFFFF] ∧ (q.toNat ≠ 0 → bit (t.get LEG_STAT.QSTAT) 10 = true) ∧ RegsKeptBut [LEG_STAT] s t ∧ MemKept s t) := by
  have hlate : ∀ z : State, (z.putBit LEG_STAT.QSTAT 10 true).bitOf LEG_STAT.QSTAT 10 = true := fun _ => State.bitOf_putBit_same rfl (by decide)
  have hmap : ([0] : List (BitVec 12)).map (·.toNat) = [0] := rfl
  refine legacyRead_ends hs ?_
  rw [hmap, legRun_late, State.leg_settle, State.out_shiftOut, State.get_settle, State.get_shiftOut]
  exact ⟨rfl, fun _ => hlate _, (((loopWork_qstatClear.trans loopWork_legRead).putBit (by simp)).trans loopWork_shiftOut).settled.kept⟩

theorem legacyCsRise_nothing (hs : s.quoster = true) : Completes (.legacyCsRise none) s (fun t => t.leg = s.leg ∧ AllKept s t) :=
  completes_of_exec (o := execLegacyCsRise none s) rfl (quosterAct_ends hs ⟨State.leg_settle, allKept_settle⟩)

theorem legacyCsRise_status (hs : s.quoster = true) : Completes (.legacyCsRise (some 0)) s (fun t => bit (t.get LEG_STAT.QSTAT) 15 = false
    ∧ bit (t.get LEG_STAT.QSTAT) 11 = false ∧ bit (t.get LEG_STAT.QSTAT) 10 = false ∧ RegsKeptBut [LEG_STAT] s t ∧ MemKept s t) := by
  obtain ⟨h15, h11, h10⟩ := qstat_rc_cleared (s := s)
  refine completes_of_exec (o := execLegacyCsRise (some 0) s) rfl (quosterAct_ends hs ?_)
  dsimp only
  rw [State.get_settle]
  exact ⟨h15, h11, h10, loopWork_qstatClear.settled.kept⟩

/-! ### Writes and their queue (R506, R517, R521) -/

theorem State.legEnqueue_room {x : LegWr} (h : s.leg.wq.length < 64) : s.legEnqueue x = s.setLeg { s.leg with wq := s.leg.wq ++ [x] } := if_neg (by omega)

theorem State.legEnqueue_full {x : LegWr} (h : 64 ≤ s.leg.wq.length) : s.legEnqueue x = s.wign.xres 3 := if_pos h

theorem legacyWrite_ends (hs : s.quoster = true) {q : BitVec 15} {vs : List (BitVec 16)}
    (h : P (settle (((legEntries q.toNat (vs.map (·.toNat))).foldl State.legEnqueue s.qstatClear).shiftOut [s.qstat]))) :
    Completes (.legacyWrite q vs) s P :=
  completes_of_exec (o := execLegacyWrite q vs s) rfl (quosterAct_ends hs h)

/-- A full queue: the write is discarded. -/
theorem wignored_shows (hv : v < 16) : (s.wign.xres v).leg = s.leg ∧ (s.wign.xres v).bitOf LEG_STAT.QSTAT 11 = true ∧ (s.wign.xres v).get LEG_XRES.RESULT = v
    ∧ LoopWork [LEG_STAT, LEG_XRES] s (s.wign.xres v) := by
  refine ⟨by simp [State.wign, State.xres], ?_, (State.get_put_same rfl).trans (Nat.mod_eq_of_lt hv), (LoopWork.refl.putBit (by simp)).put (by simp)⟩
  unfold State.xres State.wign
  rw [bitOf_of_reg_eq (State.reg_put_other (by decide))]
  exact State.bitOf_putBit_same rfl (by decide)

theorem legacyWrite_word (hs : s.quoster = true) (q : BitVec 15) (d : BitVec 16) : Completes (.legacyWrite q [d]) s (fun t =>
    t.leg.out = [s.qstat]
      ∧ (s.leg.wq.length < 64 → t.leg.wq = s.leg.wq ++ [⟨q.toNat, d.toNat, false⟩] ∧ RegsKeptBut [LEG_STAT] s t)
      ∧ (64 ≤ s.leg.wq.length → t.leg.wq = s.leg.wq ∧ bit (t.get LEG_STAT.QSTAT) 11 = true ∧ t.get LEG_XRES.RESULT = 3
          ∧ RegsKeptBut [LEG_STAT, LEG_XRES] s t) ∧ MemKept s t) := by
  have hentries : legEntries q.toNat ([d].map (·.toNat)) = [⟨q.toNat, d.toNat, false⟩] := by
    simp only [List.map_cons, List.map_nil, legEntries, Nat.mod_eq_of_lt (show q.toNat < 32768 from q.isLt)]
  refine legacyWrite_ends hs ?_
  rw [hentries, List.foldl_cons, List.foldl_nil, State.leg_settle, State.out_shiftOut, State.wq_shiftOut, State.get_settle, State.get_settle,
    State.get_shiftOut, State.get_shiftOut]
  by_cases hroom : s.leg.wq.length < 64
  · have hwork : LoopWork [LEG_STAT] s (s.qstatClear.legEnqueue ⟨q.toNat, d.toNat, false⟩) := by
      rw [State.legEnqueue_room (by rwa [State.leg_qstatClear])]
      exact loopWork_qstatClear.trans loopWork_setLeg
    have hkept := (hwork.trans (loopWork_shiftOut (o := [s.qstat]))).settled.kept
    refine ⟨rfl, fun _ => ⟨?_, hkept.1⟩, fun hfull => absurd hroom (Nat.not_lt.mpr hfull), hkept.2⟩
    rw [State.legEnqueue_room (by rwa [State.leg_qstatClear]), State.leg_setLeg, State.leg_qstatClear]
  · obtain ⟨hleg, hbit, hres, hwork⟩ := wignored_shows (s := s.qstatClear) (v := 3) (by decide)
    have hfull : 64 ≤ s.qstatClear.leg.wq.length := by rw [State.leg_qstatClear]; exact Nat.le_of_not_lt hroom
    rw [State.legEnqueue_full hfull, hleg, State.leg_qstatClear]
    have hboth : LoopWork [LEG_STAT, LEG_XRES] s s.qstatClear := loopWork_qstatClear.mono (by simp)
    obtain ⟨hregs, hmem⟩ := ((hboth.trans hwork).trans (loopWork_shiftOut (o := [s.qstat]))).settled.kept
    exact ⟨rfl, fun h => absurd h hroom, fun _ => ⟨rfl, hbit, hres, hregs⟩, hmem⟩

theorem legacyWrite_time (hs : s.quoster = true) (h m : BitVec 16) (hroom : s.leg.wq.length < 64) : Completes (.legacyWrite 0x10 [h, m]) s (fun t =>
    t.leg.wq = s.leg.wq ++ [⟨0x10, h.toNat * 65536 + m.toNat, true⟩] ∧ t.leg.out = [s.qstat] ∧ RegsKeptBut [LEG_STAT] s t ∧ MemKept s t) := by
  have hentries : legEntries (0x10 : BitVec 15).toNat ([h, m].map (·.toNat)) = [⟨0x10, h.toNat * 65536 + m.toNat, true⟩] := rfl
  refine legacyWrite_ends hs ?_
  rw [hentries, List.foldl_cons, List.foldl_nil, State.legEnqueue_room (by rwa [State.leg_qstatClear]), State.leg_settle, State.out_shiftOut,
    State.wq_shiftOut, State.leg_setLeg, State.leg_qstatClear]
  exact ⟨rfl, rfl, ((loopWork_qstatClear.trans loopWork_setLeg).trans loopWork_shiftOut).settled.kept⟩

/-! ### The first write of the queue is executed (R515, R520, R521) -/

/-- The queue with its first write taken. -/
def State.legTaken (s : State) (r : List LegWr) : State := s.setLeg { s.leg with wq := r }

theorem legacyWriteExecute_ends (hup : s.up = true) {r : List LegWr} {x : LegWr} (hq : s.leg.wq = x :: r)
    (h : P (settle ((s.legTaken r).legWrite x))) : Completes .legacyWriteExecute s P := by
  refine completes_of_exec (o := execLegacyWriteExecute s) rfl (act_ends hup ?_)
  rw [hq]
  exact h

/-- No register takes a write of the address. -/
def legNoWrite (a : Nat) : Prop := a ≤ 2 ∨ (5 ≤ a ∧ a < 0x500) ∨ (0x580 ≤ a ∧ a < 0x600) ∨ 0x610 ≤ a

theorem State.legWrite_nowhere (h : legNoWrite a) : s.legWrite ⟨a, v, false⟩ = s.ignored := by
  unfold legNoWrite at h
  unfold State.legWrite
  dsimp only
  rw [if_neg Bool.false_ne_true]
  repeat rw [if_neg (by simp only [beq_iff_eq, Bool.and_eq_true, decide_eq_true_eq]; omega)]

theorem legacyWriteExecute_ignores (hup : s.up = true) {r : List LegWr} (ha : legNoWrite a) (hq : s.leg.wq = ⟨a, v, false⟩ :: r) :
    Completes .legacyWriteExecute s (fun t => t.leg.wq = r ∧ LegIgnored s t) := by
  obtain ⟨hleg, hbit, hres, hwork⟩ := wignored_shows (s := s.legTaken r) (v := 1) (by decide)
  refine legacyWriteExecute_ends hup hq ?_
  rw [State.legWrite_nowhere ha, State.ignored, State.leg_settle, hleg, LegIgnored, State.get_settle, State.get_settle]
  exact ⟨rfl, hbit, hres, ((loopWork_setLeg (y := { s.leg with wq := r })).trans hwork).settled.kept⟩

/-- A legacy write as a command of its own, with it first in the queue: that write alone is executed. -/
theorem quosterWrite_first (hs : s.quoster = true) {r : List LegWr} {g : State → State} {pair : Bool} (hq : s.leg.wq = ⟨a, v, pair⟩ :: r) :
    quosterWrite s a v pair g = .next (settle (g (s.legTaken r))) := by
  unfold quosterWrite quosterAct done
  dsimp only
  rw [if_pos hs, hq, if_pos (by simp), List.takeWhile_cons_of_neg (by simp), List.dropWhile_cons_of_neg (by simp)]
  rfl

/-! An arm leaves the legacy port alone. -/

theorem State.leg_ite {p : Prop} [Decidable p] : (if p then s else t).leg = if p then s.leg else t.leg := apply_ite State.leg p s t

theorem State.leg_setT {y : TimeS} : ({ s with t := y } : State).leg = s.leg := rfl

theorem State.leg_formTele {typ grp count : Nat} {body : List Word} : (s.formTele typ x grp count body).leg = s.leg := by
  unfold State.formTele
  dsimp only
  rw [State.leg_ite]
  split
  · rfl
  · split
    · rfl
    · simp only [State.leg_ite, State.leg_inc, State.leg_put, ite_self]

theorem State.leg_sendRec {r : JRec} : (s.sendRec r).leg = s.leg := rfl

theorem State.leg_carryArm {y : Arm} : (s.carryArm y).leg = s.leg := by
  unfold State.carryArm State.requestArm
  simp only [State.leg_ite, State.leg_formTele, State.leg_sendRec, ite_self]

theorem State.leg_armResult : (s.armResult n k).leg = s.leg := by
  unfold State.armResult
  rw [State.leg_put, State.leg_put]

theorem State.leg_slotFilled {y : Arm} : (s.slotFilled n y).leg = s.leg := rfl

theorem State.leg_armed {y : Arm} : (s.armed n y x).leg = s.leg := by
  unfold State.armed State.pendShown
  rw [State.leg_armResult, State.leg_ite, State.leg_put, State.leg_putB, ite_self, State.leg_slotFilled]

/-- An arm either refuses, showing its result, or takes a slot. -/
theorem State.arm_cases {y : Arm} : (∃ r, s.arm y = (s.armResult r 0, false)) ∨ ∃ n x, s.arm y = (s.armed n y x, true) := by
  unfold State.arm
  split
  · exact .inl ⟨5, rfl⟩
  split
  · exact .inl ⟨6, rfl⟩
  split
  · exact .inl ⟨7, rfl⟩
  dsimp only
  split
  · exact .inl ⟨_, rfl⟩
  split
  · exact .inl ⟨4, rfl⟩
  · exact .inr ⟨_, _, rfl⟩

theorem State.leg_issue {y : Arm} : (s.issue y).leg = s.leg := by
  obtain ⟨r, h⟩ | ⟨n, x, h⟩ := State.arm_cases (s := s) (y := y)
  · rw [State.issue_refused h, State.leg_armResult]
  · unfold State.issue
    rw [h]
    dsimp only
    rw [State.leg_ite, State.leg_setT, State.leg_ite, State.leg_put, ite_self, ite_self, State.leg_carryArm, State.leg_armed]

theorem State.wq_qmodeWrite : (s.qmodeWrite v).leg.wq = s.leg.wq := by
  unfold State.qmodeWrite State.cmdErr State.ignored State.xres State.wign
  simp only [State.leg_ite, State.leg_put, State.leg_putBit, State.leg_issue, ite_self]

theorem State.wq_qdlyWrite : (s.qdlyWrite g v).leg.wq = s.leg.wq := by
  unfold State.qdlyWrite State.ignored State.xres State.wign
  split
  · simp only [State.leg_put, State.leg_putBit]
  · rw [State.leg_setLeg]

theorem State.legWrite_qmode : s.legWrite ⟨3, v, false⟩ = s.qmodeWrite v := by
  unfold State.legWrite
  dsimp only
  rw [if_neg Bool.false_ne_true, if_pos (by decide)]

theorem State.legWrite_qdly (hg : g < 16) : s.legWrite ⟨0x600 + g, v, false⟩ = s.qdlyWrite g v := by
  unfold State.legWrite
  dsimp only
  rw [if_neg Bool.false_ne_true, if_neg (by simp only [beq_iff_eq]; omega), if_neg (by simp only [beq_iff_eq]; omega),
    if_neg (by simp only [Bool.and_eq_true, decide_eq_true_eq]; omega), if_neg (by simp only [Bool.and_eq_true, decide_eq_true_eq]; omega),
    if_pos (by simp only [Bool.and_eq_true, decide_eq_true_eq]; omega), Nat.add_sub_cancel_left]

theorem legacyWriteExecute_qmode (hup : s.up = true) (hs : s.quoster = true) {r : List LegWr} (d : BitVec 16) (hq : s.leg.wq = ⟨3, d.toNat, false⟩ :: r) :
    Completes .legacyWriteExecute s (fun t => exec (.qmodeWrite d) s = .next t ∧ t.leg.wq = r) := by
  have hexec : exec (.qmodeWrite d) s = .next (settle ((s.legTaken r).qmodeWrite d.toNat)) :=
    quosterWrite_first (g := fun z => z.qmodeWrite d.toNat) hs hq
  refine legacyWriteExecute_ends hup hq ?_
  rw [State.legWrite_qmode, hexec, State.leg_settle, State.wq_qmodeWrite]
  exact ⟨rfl, rfl⟩

theorem legacyWriteExecute_qdly (hup : s.up = true) (hs : s.quoster = true) {r : List LegWr} (d : BitVec 16) (g : Fin 16)
    (hq : s.leg.wq = ⟨0x600 + g, d.toNat, false⟩ :: r) :
    Completes .legacyWriteExecute s (fun t => exec (.qdlyWrite g d) s = .next t ∧ t.leg.wq = r) := by
  have hexec : exec (.qdlyWrite g d) s = .next (settle ((s.legTaken r).qdlyWrite g d.toNat)) :=
    quosterWrite_first (g := fun z => z.qdlyWrite g d.toNat) hs hq
  refine legacyWriteExecute_ends hup hq ?_
  rw [State.legWrite_qdly g.isLt, hexec, State.leg_settle, State.wq_qdlyWrite]
  exact ⟨rfl, rfl⟩

end

/-- Settles O57: each transaction ends in its settled work, and a queued write is its own command's work. -/
theorem quosterTransactions : Obligations.QuosterTransactions :=
  ⟨fun _ hs => ⟨legacyRead_word hs, legacyRead_late hs, legacyCsRise_nothing hs, legacyCsRise_status hs, legacyWrite_word hs, legacyWrite_time hs⟩,
    fun _ _ hup => ⟨fun _ _ ha hq => legacyWriteExecute_ignores hup ha hq,
      fun hs d => ⟨legacyWriteExecute_qmode hup hs d, legacyWriteExecute_qdly hup hs d⟩⟩⟩

end Sys2Proof.Machine

namespace Sys2Proof.Machine

open Sys2Proof

section
variable {s t u : State} {P : State → Prop} {ins : Instr} {f g : Fld} {a b c i k n v : Nat} {w : Word} {l : List Nat} {x : LegTx} {p q : Nat} {y : LegPort}

/-! ## The legacy bus (R522 to R535) -/

/-- A row of the legacy bus ends in what its work leaves. -/
theorem busAct_ends {work : State → State} (hup : s.up = true) (hbus : s.busOn = true) (h : P (settle (work s))) : ∃ t, busAct s work = .next t ∧ P t := by
  refine act_ends hup ?_
  rwa [if_pos hbus]

/-- A row of the legacy bus that is not due leaves the bus and everything else alone. -/
theorem bus_idle : (settle s).leg = s.leg ∧ AllKept s (settle s) := ⟨State.leg_settle, allKept_settle⟩

/-! ### A port and its registers -/

theorem State.portOf_of_leg (h : t.leg = s.leg) : t.portOf p = s.portOf p := by
  unfold State.portOf
  rw [h]

theorem State.portOf_settle : (settle s).portOf p = s.portOf p := State.portOf_of_leg State.leg_settle
theorem State.portOf_put : (s.put f v).portOf p = s.portOf p := State.portOf_of_leg State.leg_put
theorem State.portOf_putB {z : Bool} : (s.putB f z).portOf p = s.portOf p := State.portOf_of_leg State.leg_putB
theorem State.portOf_inc : (s.inc f k).portOf p = s.portOf p := State.portOf_of_leg State.leg_inc

theorem loopWork_setPort (h : LEG_PST p ∈ l) : LoopWork l s (s.setPort p y) := ((loopWork_setLeg (l := l)).put h).put h

theorem Fld.apart_of_bits (h : f.hi < g.lo ∨ g.hi < f.lo) : f.apart g = true := by
  simp only [Fld.apart, Bool.or_eq_true, bne_iff_ne, decide_eq_true_eq]
  omega

theorem Fld.apart_of_addr (h : f.addr ≠ g.addr) : f.apart g = true := by
  simp only [Fld.apart, Bool.or_eq_true, bne_iff_ne, decide_eq_true_eq]
  exact .inl (.inl h)

theorem State.get_setPort (hqd : f.apart (LEG_PST.QD p) = true) (hatt : f.apart (LEG_PST.ATT p) = true) : (s.setPort p y).get f = s.get f := by
  unfold State.setPort
  rw [State.get_put_other rfl hatt, State.get_put_other rfl hqd]
  rfl

theorem State.get_setPort_addr (h : f.addr ≠ LEG_PST p) : (s.setPort p y).get f = s.get f := get_of_reg_eq (State.reg_setPort h)

theorem State.qd_setPort (h : y.q.length < 64) : (s.setPort p y).get (LEG_PST.QD p) = y.q.length := by
  unfold State.setPort
  rw [State.get_put_other rfl (Fld.apart_of_bits (.inl (by decide : (27 : Nat) < 28))), State.get_put_same rfl]
  exact Nat.mod_eq_of_lt h

theorem State.flag_setPort (h : f.lo > 31) : (s.setPort p y).flag f = s.flag f :=
  congrArg (· != 0) (State.get_setPort (Fld.apart_of_bits (.inr (Nat.lt_trans (by decide : 27 < 31) h))) (Fld.apart_of_bits (.inr h)))

theorem State.since_setPort : (s.setPort p y).since a = s.since a := by
  unfold State.since
  rw [State.t_setPort]

/-! ### Queues and telegrams formed (R525, R530) -/

/-- Places of a queue for a telegram of the class. -/
def places (c : Nat) : Nat := if c = 0 then 32 else 24

theorem queue_places : (if (x.cls == 0) = true then 32 else 24) = places x.cls := if_congr beq_iff_eq rfl rfl

theorem State.queueTx_room (h : (s.portOf p).q.length < places x.cls) :
    s.queueTx x p = s.setPort p { s.portOf p with q := placeTx x (s.portOf p).sending (s.portOf p).q } := by
  unfold State.queueTx
  dsimp only
  rw [queue_places, if_neg (Nat.not_le.mpr h)]

theorem State.queueTx_full (h : places x.cls ≤ (s.portOf p).q.length) : s.queueTx x p = s.inc (LEG_BCNT.DROP p) := by
  unfold State.queueTx
  dsimp only
  rw [queue_places, if_pos h]

theorem length_placeTx {sending : Bool} {r : List LegTx} : (placeTx x sending r).length = r.length + 1 := by
  have hsplit : ∀ z : List LegTx, (z.filter (fun e => decide (e.cls ≤ x.cls))).length + (z.filter (fun e => !decide (e.cls ≤ x.cls))).length = z.length :=
    fun z => (List.length_eq_length_filter_add _).symm
  unfold placeTx
  split
  · next h z =>
    simp only [List.length_append, List.length_cons]
    have := hsplit z
    omega
  · simp only [List.length_append, List.length_cons]
    have := hsplit r
    omega

/-- What a port shows of its queue. -/
structure PortSame (p : Nat) (s t : State) : Prop where
  port : t.portOf p = s.portOf p
  depth : t.get (LEG_PST.QD p) = s.get (LEG_PST.QD p)
  dropped : t.get (LEG_BCNT.DROP p) = s.get (LEG_BCNT.DROP p)

theorem portSame_queueTx (hp : p < 2) (hq : q < 2) (h : p ≠ q) : PortSame p s (s.queueTx x q) := by
  by_cases hroom : (s.portOf q).q.length < places x.cls
  · rw [State.queueTx_room hroom]
    exact ⟨State.portOf_setPort_other h, State.get_setPort_addr (by simp only [LEG_PST]; omega),
      State.get_setPort_addr (by simp only [LEG_PST]; omega)⟩
  · rw [State.queueTx_full (Nat.le_of_not_lt hroom)]
    exact ⟨State.portOf_inc, State.get_inc_other rfl (Fld.apart_of_addr (by simp only; omega)),
      State.get_inc_other rfl (Fld.apart_of_addr (by simp only; omega))⟩

/-- A telegram stands in its place in the queue of a port, or was dropped and counted. -/
def TakesTx (x : LegTx) (p : Nat) (s t : State) : Prop :=
  ((s.portOf p).q.length < places x.cls → (t.portOf p).q = placeTx x (s.portOf p).sending (s.portOf p).q
      ∧ t.get (LEG_PST.QD p) = (s.portOf p).q.length + 1)
  ∧ (places x.cls ≤ (s.portOf p).q.length → (t.portOf p).q = (s.portOf p).q ∧ CountsUp (LEG_BCNT.DROP p) s t)

theorem places_le : places c ≤ 32 := by unfold places; split <;> omega

theorem takesTx_queueTx : TakesTx x p s (s.queueTx x p) := by
  constructor
  · intro hroom
    rw [State.queueTx_room hroom, State.portOf_setPort_same, State.qd_setPort (by rw [length_placeTx]; have := places_le (c := x.cls); omega)]
    exact ⟨rfl, length_placeTx⟩
  · intro hfull
    rw [State.queueTx_full hfull, State.portOf_inc]
    exact ⟨rfl, countsUp_inc rfl rfl⟩

theorem TakesTx.after (h : PortSame p s t) (hq : TakesTx x p t u) : TakesTx x p s u := by
  unfold TakesTx CountsUp at *
  rwa [h.port, h.dropped] at hq

theorem TakesTx.before (hq : TakesTx x p s t) (h : PortSame p t u) : TakesTx x p s u := by
  unfold TakesTx CountsUp at *
  rwa [h.port, h.depth, h.dropped]

/-- Registers of the queues of both ports. -/
def queueRegs : List Nat := [LEG_PST 0, LEG_PST 1, LEG_BCNT 0, LEG_BCNT 1]

theorem loopWork_queueTx (hp : p < 2) : LoopWork queueRegs s (s.queueTx x p) := by
  have hpst : LEG_PST p ∈ queueRegs ∧ LEG_BCNT p ∈ queueRegs := by
    revert p
    decide
  by_cases hroom : (s.portOf p).q.length < places x.cls
  · rw [State.queueTx_room hroom]
    exact loopWork_setPort hpst.1
  · rw [State.queueTx_full (Nat.le_of_not_lt hroom)]
    exact LoopWork.refl.inc hpst.2

/-- The telegram as formed. -/
def State.telegram (s : State) (typ cls : Nat) (data : List Nat) : LegTx :=
  ⟨cls, ([s.get LEG_BCFG.ADDR, 0, cls * 64 + typ, (s.leg.heard.getD s.leg.seq + 1) % 256, data.length] ++ data).map (BitVec.ofNat 8), s.t.run, 0, 0⟩

/-- SEQ has gone on. -/
def State.seqNext (s : State) : State := s.setLeg { s.leg with seq := (s.leg.heard.getD s.leg.seq + 1) % 256, heard := none }

theorem State.formLeg_eq {typ cls : Nat} {data : List Nat} :
    s.formLeg typ cls data = (s.seqNext.queueTx (s.telegram typ cls data) 0).queueTx (s.telegram typ cls data) 1 := rfl

theorem seq_queueTx : (s.queueTx x p).leg.seq = s.leg.seq ∧ (s.queueTx x p).leg.heard = s.leg.heard := by
  by_cases hroom : (s.portOf p).q.length < places x.cls
  · rw [State.queueTx_room hroom]
    unfold State.setPort
    rw [State.leg_put, State.leg_put, State.leg_setLeg]
    exact ⟨rfl, rfl⟩
  · rw [State.queueTx_full (Nat.le_of_not_lt hroom), State.leg_inc]
    exact ⟨rfl, rfl⟩

theorem seq_formLeg {typ cls : Nat} {data : List Nat} :
    (s.formLeg typ cls data).leg.seq = (s.leg.heard.getD s.leg.seq + 1) % 256 ∧ (s.formLeg typ cls data).leg.heard = none := by
  rw [State.formLeg_eq, seq_queueTx.1, seq_queueTx.1, seq_queueTx.2, seq_queueTx.2]
  exact ⟨rfl, rfl⟩

theorem loopWork_formLeg {typ cls : Nat} {data : List Nat} : LoopWork queueRegs s (s.formLeg typ cls data) := by
  rw [State.formLeg_eq]
  exact (loopWork_setLeg.trans (loopWork_queueTx (by decide))).trans (loopWork_queueTx (by decide))

theorem portSame_seqNext : PortSame p s s.seqNext := ⟨rfl, rfl, rfl⟩

theorem takesTx_formLeg {typ cls : Nat} {data : List Nat} (p : Fin 2) : TakesTx (s.telegram typ cls data) p s (s.formLeg typ cls data) := by
  rw [State.formLeg_eq]
  match p with
  | 0 => exact (takesTx_queueTx.after portSame_seqNext).before (portSame_queueTx (by decide) (by decide) (by decide))
  | 1 => exact (takesTx_queueTx.after (portSame_queueTx (by decide) (by decide) (by decide))).after portSame_seqNext

theorem formsLeg_formLeg {typ cls : Nat} {data : List Nat} : FormsLeg s (s.formLeg typ cls data) typ cls data := by
  refine ⟨seq_formLeg.1, seq_formLeg.2, fun p => ?_⟩
  rw [seq_formLeg.1]
  exact takesTx_formLeg p

theorem State.alm_queueTx : (s.queueTx x p).alm = s.alm := by
  by_cases hroom : (s.portOf p).q.length < places x.cls
  · rw [State.queueTx_room hroom, State.alm_setPort]
  · rw [State.queueTx_full (Nat.le_of_not_lt hroom), State.alm_inc]

theorem State.alm_formLeg {typ cls : Nat} {data : List Nat} : (s.formLeg typ cls data).alm = s.alm := by
  rw [State.formLeg_eq, State.alm_queueTx, State.alm_queueTx]
  rfl

/-- The changes waiting for an ALARM have been taken. -/
def State.chgTaken (s : State) : State := { s with alm := { s.alm with chg := [] } }

theorem State.alm_chgTaken : s.chgTaken.alm.chg = [] := rfl

theorem loopWork_chgTaken : LoopWork l s s.chgTaken := loopWork_of_eq rfl rfl

theorem chgClass_cases : chgClass w = 0 ∨ chgClass w = 1 ∨ chgClass w = 2 := by
  unfold chgClass
  split
  · exact .inl rfl
  · exact .inr (.inl rfl)
  · exact .inr (.inr rfl)

/-- One change due: its ALARM is formed. -/
theorem State.legAlarmForm_one (hchg : s.alm.chg = [(w, b)]) (hdue : b < s.t.run) (htx : s.legTx = true) :
    s.legAlarmForm = s.chgTaken.formLeg 1 (chgClass w) (chgEntry w) := by
  have hlater : ¬s.t.run ≤ b := Nat.not_le.mpr hdue
  have hsame : s.chgTaken.legTx = s.legTx := rfl
  have htaken : ({ s with alm := { s.alm with chg := [] } } : State) = s.chgTaken := rfl
  unfold State.legAlarmForm
  simp only [hchg, List.filter_cons, List.filter_nil, decide_eq_true hdue, decide_eq_false hlater, if_true, Bool.false_eq_true, if_false,
    List.isEmpty_cons, htaken, hsame, htx, Bool.not_true, List.foldl_cons, List.foldl_nil, insertChg]
  obtain h | h | h := chgClass_cases (w := w)
  all_goals simp [h, chunks]

/-- No change of a beat before waits. -/
theorem State.legAlarmForm_none (h : ∀ z ∈ s.alm.chg, s.t.run ≤ z.2) : s.legAlarmForm = s := by
  have hnone : s.alm.chg.filter (fun z => decide (z.2 < s.t.run)) = [] :=
    List.filter_eq_nil_iff.mpr fun z hz => by simpa using h z hz
  unfold State.legAlarmForm
  simp only [hnone, List.isEmpty_nil, if_true]

/-- A telegram formed in a state that agrees on the port and the registers. -/
theorem FormsLeg.of_start {typ cls : Nat} {data : List Nat} (hseq : u.leg.seq = s.leg.seq) (hheard : u.leg.heard = s.leg.heard)
    (hports : u.leg.ports = s.leg.ports) (hregs : ∀ g, u.get g = s.get g) (hrun : u.t.run = s.t.run) (h : FormsLeg u t typ cls data) :
    FormsLeg s t typ cls data := by
  have hport : ∀ p : Nat, u.portOf p = s.portOf p := fun p => by
    unfold State.portOf
    rw [hports]
  simpa only [FormsLeg, CountsUp, hseq, hheard, hport, hregs, hrun] using h

theorem FormsLeg.settled {typ cls : Nat} {data : List Nat} (h : FormsLeg s t typ cls data) : FormsLeg s (settle t) typ cls data := by
  simpa only [FormsLeg, CountsUp, State.leg_settle, State.portOf_settle, State.get_settle] using h

theorem legacyAlarmForm_one (hup : s.up = true) (hbus : s.busOn = true) (hchg : s.alm.chg = [(w, b)]) (hdue : b < s.t.run) (htx : s.legTx = true) :
    Completes .legacyAlarmForm s (fun t => FormsLeg s t 1 (chgClass w) (chgEntry w) ∧ t.alm.chg = []
      ∧ RegsKeptBut [LEG_PST 0, LEG_PST 1, LEG_BCNT 0, LEG_BCNT 1] s t ∧ MemKept s t) := by
  refine completes_of_exec (o := execLegacyAlarmForm s) rfl (busAct_ends hup hbus ?_)
  rw [State.legAlarmForm_one hchg hdue htx]
  refine ⟨?_, ?_, (loopWork_chgTaken.trans loopWork_formLeg).settled.kept⟩
  · exact (FormsLeg.of_start (u := s.chgTaken) rfl rfl rfl (fun _ => rfl) rfl formsLeg_formLeg).settled
  · rw [State.alm_settle, State.alm_formLeg, State.alm_chgTaken]

theorem legacyAlarmForm_none (hup : s.up = true) (hbus : s.busOn = true) (h : ∀ z ∈ s.alm.chg, s.t.run ≤ z.2) :
    Completes .legacyAlarmForm s (fun t => t.alm.chg = s.alm.chg ∧ t.leg = s.leg ∧ AllKept s t) := by
  refine completes_of_exec (o := execLegacyAlarmForm s) rfl (busAct_ends hup hbus ?_)
  rw [State.legAlarmForm_none h, State.alm_settle]
  exact ⟨rfl, bus_idle⟩

/-- A silent unit forms no ALARM. -/
theorem legAlarmForm_silent (htx : s.legTx = false) : s.legAlarmForm.leg = s.leg ∧ LoopWork [] s s.legAlarmForm := by
  unfold State.legAlarmForm
  dsimp only
  split
  · exact ⟨rfl, .refl⟩
  · have hsame : ∀ y : AlmEng, ({ s with alm := y } : State).legTx = s.legTx := fun _ => rfl
    have hkept : ∀ y : AlmEng, LoopWork [] s { s with alm := y } := fun _ => loopWork_of_eq rfl rfl
    rw [hsame, htx, Bool.not_false, if_pos rfl]
    exact ⟨rfl, hkept _⟩

theorem legacyAlarmForm_silent (hup : s.up = true) (hbus : s.busOn = true) (htx : s.legTx = false) :
    Completes .legacyAlarmForm s (fun t => t.leg = s.leg ∧ AllKept s t) := by
  obtain ⟨hleg, hwork⟩ := legAlarmForm_silent htx
  refine completes_of_exec (o := execLegacyAlarmForm s) rfl (busAct_ends hup hbus ?_)
  rw [State.leg_settle]
  exact ⟨hleg, hwork.settled.allKept⟩

/-! ### HEARTBEAT and VALUE, once in their beat (R525) -/

/-- The forming of telegram `k` is noted. -/
def State.formNoted (s : State) (k : Nat) : State := s.setLeg { s.leg with formAt := s.leg.formAt.set k s.t.run }

theorem State.legOnce_silent {work : State → State} (h : s.legTx = false ∨ s.t.usec ≠ 750000) : s.legOnce k work = s := by
  refine if_pos ?_
  obtain h | h := h
  · simp [h]
  · simp [h]

theorem State.legOnce_due {work : State → State} (htx : s.legTx = true) (hbeat : s.t.usec = 750000) (hnew : s.leg.formAt.get? k ≠ some s.t.run) :
    s.legOnce k work = work (s.formNoted k) := by
  refine if_neg ?_
  simp [htx, hbeat, hnew]

theorem State.legValueForm_silent (h : s.legTx = false ∨ s.t.usec ≠ 750000) : s.legValueForm = s := by
  unfold State.legValueForm
  dsimp only
  rw [State.legOnce_silent h, ite_self]

theorem legacyForms_silent (hup : s.up = true) (hbus : s.busOn = true) (h : s.legTx = false ∨ s.t.usec ≠ 750000) :
    Completes .legacyHeartbeatForm s (fun t => t.leg = s.leg ∧ AllKept s t) ∧ Completes .legacyValueForm s (fun t => t.leg = s.leg ∧ AllKept s t) := by
  constructor
  · refine completes_of_exec (o := execLegacyHeartbeatForm s) rfl (busAct_ends hup hbus ?_)
    rw [State.legHeartbeatForm, State.legOnce_silent h]
    exact bus_idle
  · refine completes_of_exec (o := execLegacyValueForm s) rfl (busAct_ends hup hbus ?_)
    rw [State.legValueForm_silent h]
    exact bus_idle

theorem State.satAt_eq_min : satAt n k = min n k := by
  unfold satAt
  split <;> omega

theorem legacyHeartbeatForm_due (hup : s.up = true) (hbus : s.busOn = true) (htx : s.legTx = true) (hbeat : s.t.usec = 750000)
    (hnew : s.leg.formAt.get? 0 ≠ some s.t.run) : Completes .legacyHeartbeatForm s (fun t =>
      FormsLeg s t 4 3 [s.qmode, min 255 (s.legCount [1, 3]), min 255 (s.legCount [1, 2]), if s.drives then 0 else 1]
      ∧ RegsKeptBut [LEG_PST 0, LEG_PST 1, LEG_BCNT 0, LEG_BCNT 1] s t ∧ MemKept s t) := by
  have hmode : (s.formNoted 0).qmode = s.qmode := rfl
  have hcount : ∀ m, (s.formNoted 0).legCount m = s.legCount m := fun _ => rfl
  have hdrives : (s.formNoted 0).drives = s.drives := rfl
  have hbyte : (!s.drives).toNat = if s.drives then 0 else 1 := by cases s.drives <;> rfl
  refine completes_of_exec (o := execLegacyHeartbeatForm s) rfl (busAct_ends hup hbus ?_)
  rw [State.legHeartbeatForm, State.legOnce_due htx hbeat hnew, hmode, hcount, hcount, hdrives, hbyte, State.satAt_eq_min, State.satAt_eq_min]
  exact ⟨(FormsLeg.of_start (u := s.formNoted 0) rfl rfl rfl (fun _ => rfl) rfl formsLeg_formLeg).settled, (loopWork_setLeg.trans loopWork_formLeg).settled.kept⟩

/-- So many telegrams of class 3 have been formed, with room for every one. -/
def FormedRun (n : Nat) (s t : State) : Prop :=
  t.leg.seq = (s.leg.heard.getD s.leg.seq + n) % 256 ∧ t.leg.heard = none
    ∧ ∀ p : Fin 2, (t.portOf p).q.length = (s.portOf p).q.length + n ∧ t.get (LEG_PST.QD p) = (s.portOf p).q.length + n

theorem FormedRun.first {typ : Nat} {data : List Nat} (hroom : ∀ p : Fin 2, (s.portOf p).q.length < 24) : FormedRun 1 s (s.formLeg typ 3 data) := by
  refine ⟨seq_formLeg.1, seq_formLeg.2, fun p => ?_⟩
  obtain ⟨hq, hdepth⟩ := (takesTx_formLeg (typ := typ) (cls := 3) (data := data) p).1 (hroom p)
  exact ⟨by rw [hq, length_placeTx], hdepth⟩

theorem FormedRun.next {typ : Nat} {data : List Nat} (h : FormedRun n s t) (hroom : ∀ p : Fin 2, (s.portOf p).q.length + n < 24) :
    FormedRun (n + 1) s (t.formLeg typ 3 data) := by
  obtain ⟨hseq, hheard, hports⟩ := h
  obtain ⟨hseq', hheard', hports'⟩ := FormedRun.first (typ := typ) (data := data) (s := t) fun p => (hports p).1 ▸ hroom p
  refine ⟨?_, hheard', fun p => ?_⟩
  · rw [hseq', hheard, Option.getD_none, hseq]
    omega
  · rw [(hports' p).1, (hports' p).2, (hports p).1]
    exact ⟨rfl, rfl⟩

theorem FormedRun.foldl {data : State → List Nat → List Nat} {typ : Nat} (l : List (List Nat)) (h : FormedRun n s t)
    (hroom : ∀ p : Fin 2, (s.portOf p).q.length + n + l.length ≤ 24) :
    FormedRun (n + l.length) s (l.foldl (fun z d => z.formLeg typ 3 (data z d)) t) := by
  induction l generalizing n t with
  | nil => exact h
  | cons d r ih =>
    rw [List.foldl_cons, List.length_cons, Nat.add_comm r.length, ← Nat.add_assoc]
    refine ih (h.next fun p => ?_) fun p => ?_
    all_goals
      have := hroom p
      rw [List.length_cons] at this
      omega

theorem loopWork_formRun {data : State → List Nat → List Nat} {typ : Nat} (l : List (List Nat)) :
    LoopWork queueRegs s (l.foldl (fun z d => z.formLeg typ 3 (data z d)) s) := by
  induction l generalizing s with
  | nil => exact .refl
  | cons d r ih => exact loopWork_formLeg.trans ih

theorem State.legValueForm_due (htx : s.legTx = true) (hbeat : s.t.usec = 750000) (hnew : s.leg.formAt.get? 1 ≠ some s.t.run)
    (hper : s.get LEG_BCFG.VPER ≠ 0) (hround : s.t.round.toNat % s.get LEG_BCFG.VPER = 0) :
    s.legValueForm = (chunks 12 6 (List.range 64)).foldl (fun z d => z.formLeg 3 3 (d.flatMap z.valueEntry)) (s.formNoted 1) := by
  unfold State.legValueForm
  dsimp only
  rw [if_neg (by simp [hper, hround]), State.legOnce_due htx hbeat hnew]

theorem legacyValueForm_due (hup : s.up = true) (hbus : s.busOn = true) (htx : s.legTx = true) (hbeat : s.t.usec = 750000)
    (hnew : s.leg.formAt.get? 1 ≠ some s.t.run) (hper : s.get LEG_BCFG.VPER ≠ 0) (hround : s.t.round.toNat % s.get LEG_BCFG.VPER = 0)
    (hroom : ∀ p : Fin 2, (s.portOf p).q.length ≤ 18) : Completes .legacyValueForm s (fun t =>
      t.leg.seq = (s.leg.heard.getD s.leg.seq + 6) % 256 ∧ (∀ p : Fin 2, (t.portOf p).q.length = (s.portOf p).q.length + 6
        ∧ t.get (LEG_PST.QD p) = (s.portOf p).q.length + 6) ∧ RegsKeptBut [LEG_PST 0, LEG_PST 1, LEG_BCNT 0, LEG_BCNT 1] s t ∧ MemKept s t) := by
  have hchunks : ∃ d r, chunks 12 6 (List.range 64) = d :: r ∧ r.length = 5 := ⟨_, _, rfl, rfl⟩
  obtain ⟨d, r, hchunks, hlen⟩ := hchunks
  have hport : ∀ p : Fin 2, ((s.formNoted 1).portOf p).q.length ≤ 18 := hroom
  obtain ⟨hseq, -, hports⟩ := FormedRun.foldl (typ := 3) (data := fun z d => d.flatMap z.valueEntry) r
    (FormedRun.first (s := s.formNoted 1) (typ := 3) (data := d.flatMap (s.formNoted 1).valueEntry) fun p => Nat.lt_of_le_of_lt (hport p) (by decide))
    fun p => by have := hport p; omega
  have hwork := (loopWork_setLeg (l := queueRegs)).trans (loopWork_formRun (s := s.formNoted 1) (typ := 3) (data := fun z d => d.flatMap z.valueEntry) (d :: r))
  refine completes_of_exec (o := execLegacyValueForm s) rfl (busAct_ends hup hbus ?_)
  rw [State.legValueForm_due htx hbeat hnew hper hround, hchunks, State.leg_settle]
  rw [hlen] at hseq hports
  refine ⟨hseq, fun p => ?_, hwork.settled.kept⟩
  rw [State.portOf_settle, State.get_settle]
  exact hports p

/-! ### Access to the line (R528 to R531) -/

section
variable {h : LegTx} {r : List LegTx}

theorem State.startTx_due (hq : (s.portOf p).q = h :: r) (hidle : s.lineIdle p = true) (hen : s.txEnabled p = true) (hdue : s.startDue p h = true) :
    s.startTx p = (s.setPort p { s.portOf p with sending := true, txAt := s.t.run, edgeAt := s.t.run }).putB (LEG_PST.IDLE p) false := by
  unfold State.startTx
  simp only [hq, hidle, hen, hdue, Bool.not_true, Bool.or_self, Bool.false_eq_true, if_false]

theorem State.startTx_waits (hq : (s.portOf p).q = h :: r) (hwait : s.lineIdle p = false ∨ s.txEnabled p = false ∨ s.startDue p h = false) :
    s.startTx p = s := by
  unfold State.startTx
  rw [hq]
  refine if_pos ?_
  obtain hw | hw | hw := hwait
  all_goals simp [hw]

theorem State.startTx_none (h : (s.portOf p).q = [] ∨ s.lineIdle p = false ∨ s.txEnabled p = false) : s.startTx p = s := by
  cases hq : (s.portOf p).q with
  | nil =>
    unfold State.startTx
    rw [hq]
  | cons x r =>
    rw [hq] at h
    obtain h | h | h := h
    · exact nomatch h
    · exact State.startTx_waits hq (.inl h)
    · exact State.startTx_waits hq (.inr (.inl h))

theorem legacyTransmitStart_due (hup : s.up = true) (hbus : s.busOn = true) (p : Fin 2) (hq : (s.portOf p).q = h :: r) (hidle : s.lineIdle p = true)
    (hen : s.txEnabled p = true) (hdue : s.startDue p h = true) : Completes (.legacyTransmitStart p) s (fun t =>
      t.portOf p = { s.portOf p with sending := true, txAt := s.t.run, edgeAt := s.t.run } ∧ t.flag (LEG_PST.IDLE p) = false
      ∧ RegsKeptBut [LEG_PST p] s t ∧ MemKept s t) := by
  refine completes_of_exec (o := execLegacyTransmitStart p s) rfl (busAct_ends hup hbus ?_)
  rw [State.startTx_due hq hidle hen hdue, State.portOf_settle, State.portOf_putB, State.portOf_setPort_same, State.flag_settle]
  exact ⟨rfl, State.flag_putB_same rfl, ((loopWork_setPort (by simp)).putB (by simp)).settled.kept⟩

theorem legacyTransmitStart_idle (hup : s.up = true) (hbus : s.busOn = true) (p : Fin 2) (hnone : s.startTx p = s) :
    Completes (.legacyTransmitStart p) s (fun t => t.leg = s.leg ∧ AllKept s t) := by
  refine completes_of_exec (o := execLegacyTransmitStart p s) rfl (busAct_ends hup hbus ?_)
  rw [hnone]
  exact bus_idle

/-! #### An edge, and a collision -/

variable {z : Bool}

theorem State.portOf_lineEdge : (s.lineEdge p z).portOf p = { s.portOf p with busy := z, edgeAt := s.t.run } := by
  unfold State.lineEdge
  rw [State.portOf_putB, State.portOf_setPort_same]

theorem State.idle_lineEdge : (s.lineEdge p z).flag (LEG_PST.IDLE p) = false := State.flag_putB_same rfl

theorem loopWork_lineEdge (h : LEG_PST p ∈ l) : LoopWork l s (s.lineEdge p z) := (loopWork_setPort h).putB h

theorem legacyStartDefer_waits (hup : s.up = true) (hbus : s.busOn = true) (p : Fin 2) (hsend : (s.portOf p).sending = false) :
    Completes (.legacyStartDefer p) s (fun t => t.portOf p = { s.portOf p with busy := true, edgeAt := s.t.run } ∧ t.flag (LEG_PST.IDLE p) = false
      ∧ RegsKeptBut [LEG_PST p] s t ∧ MemKept s t) := by
  refine completes_of_exec (o := execLegacyStartDefer p s) rfl (busAct_ends hup hbus ?_)
  rw [if_neg (by simp [hsend]), State.portOf_settle, State.portOf_lineEdge, State.flag_settle]
  exact ⟨rfl, State.idle_lineEdge, (loopWork_lineEdge (by simp)).settled.kept⟩

/-- The registers of a port. -/
theorem portRegs_apart : LEG_ECNT p ≠ LEG_PST p ∧ LEG_BCNT p ≠ LEG_PST p ∧ LEG_ECNT p ≠ LEG_BCNT p := by
  simp only [LEG_ECNT, LEG_PST, LEG_BCNT]
  omega

/-- What every collision shows first. -/
def State.collisionShown (s : State) (p : Nat) : State := (s.inc (LEG_ECNT.COLL p)).putB (LEG_PST.IDLE p) false

/-- The port after a collision, the telegrams it then holds in `m`. -/
def LegPort.collided (y : LegPort) (now : Nat) (m : List LegTx) : LegPort := { y with q := m, sending := false, busy := true, edgeAt := now }

theorem loopWork_collisionShown : LoopWork [LEG_ECNT p, LEG_PST p, LEG_BCNT p] s (s.collisionShown p) :=
  (LoopWork.refl.inc (by simp)).putB (by simp)

theorem State.coll_collisionShown : CountsUp (LEG_ECNT.COLL p) s (s.collisionShown p) :=
  (countsUp_inc rfl rfl).of_get_eq (State.get_put_other rfl (Fld.apart_of_addr portRegs_apart.1))

theorem State.idle_collisionShown : (s.collisionShown p).flag (LEG_PST.IDLE p) = false := State.flag_putB_same rfl

theorem State.bcnt_collisionShown : (s.collisionShown p).reg (LEG_BCNT p) = s.reg (LEG_BCNT p) :=
  (State.reg_put_other portRegs_apart.2.1).trans (State.reg_inc_other portRegs_apart.2.2.symm)

theorem State.collide_eq (hsend : (s.portOf p).sending = true) (hq : (s.portOf p).q = h :: r) : s.collide p
    = if h.cls ≠ 0 ∧ 15 ≤ h.coll then ((s.collisionShown p).inc (LEG_BCNT.DROP p)).setPort p ((s.portOf p).collided s.t.run r)
      else (s.collisionShown p).setPort p ((s.portOf p).collided s.t.run (h.collided :: r)) := by
  have htest : (((h.cls != 0) && decide (h.coll + 1 ≥ 16)) = true) = (h.cls ≠ 0 ∧ 15 ≤ h.coll) := by simp
  unfold State.collide
  simp only [hsend, hq]
  simp only [htest]
  rfl

theorem legacyCollision_shows (hup : s.up = true) (hbus : s.busOn = true) (p : Fin 2) (hsend : (s.portOf p).sending = true) (hq : (s.portOf p).q = h :: r) :
    Completes (.legacyCollision p) s (fun t => CountsUp (LEG_ECNT.COLL p) s t ∧ t.flag (LEG_PST.IDLE p) = false ∧ (t.portOf p).sending = false
      ∧ (h.cls = 0 ∨ h.coll < 15 → (t.portOf p).q = { h with coll := h.coll + 1, w := min (wMax h.cls) (2 * (if h.w = 0 then wInit h.cls else h.w)) } :: r
          ∧ t.reg (LEG_BCNT p) = s.reg (LEG_BCNT p))
      ∧ (h.cls ≠ 0 ∧ 15 ≤ h.coll → (t.portOf p).q = r ∧ CountsUp (LEG_BCNT.DROP p) s t)
      ∧ RegsKeptBut [LEG_ECNT p, LEG_PST p, LEG_BCNT p] s t ∧ MemKept s t) := by
  have hwindow : h.collided = { h with coll := h.coll + 1, w := min (wMax h.cls) (2 * (if h.w = 0 then wInit h.cls else h.w)) } := by
    simp only [LegTx.collided, LegTx.window, orElse, beq_iff_eq]
  have hcoll : (LEG_ECNT.COLL p).addr ≠ LEG_PST p := portRegs_apart.1
  have hdrop : (LEG_BCNT.DROP p).addr ≠ LEG_PST p := portRegs_apart.2.1
  refine completes_of_exec (o := execLegacyCollision p s) rfl (busAct_ends hup hbus ?_)
  rw [State.collide_eq hsend hq, CountsUp, CountsUp, State.get_settle, State.get_settle, State.flag_settle, State.portOf_settle, State.reg_settle]
  by_cases hlast : h.cls ≠ 0 ∧ 15 ≤ h.coll
  · have hothers : (LEG_ECNT.COLL p).apart (LEG_BCNT.DROP p) = true := Fld.apart_of_addr portRegs_apart.2.2
    rw [if_pos hlast, State.portOf_setPort_same, State.get_setPort_addr hcoll, State.get_inc_other rfl hothers, State.get_setPort_addr hdrop,
      State.flag_setPort (by decide : (35 : Nat) > 31), State.flag_inc_other rfl (Fld.apart_of_addr portRegs_apart.2.1.symm)]
    refine ⟨State.coll_collisionShown, State.idle_collisionShown, rfl, fun hno => ?_, fun _ => ⟨rfl, ?_⟩, ?_⟩
    · omega
    · exact countsUp_inc rfl (get_of_reg_eq State.bcnt_collisionShown)
    · exact ((loopWork_collisionShown.inc (by simp)).trans (loopWork_setPort (by simp))).settled.kept
  · rw [if_neg hlast, State.portOf_setPort_same, State.get_setPort_addr hcoll, State.flag_setPort (by decide : (35 : Nat) > 31), State.reg_setPort hdrop,
      ← hwindow]
    exact ⟨State.coll_collisionShown, State.idle_collisionShown, rfl, fun _ => ⟨rfl, State.bcnt_collisionShown⟩, fun hyes => absurd hyes hlast,
      (loopWork_collisionShown.trans (loopWork_setPort (by simp))).settled.kept⟩

/-! #### A telegram sent -/

theorem State.sent_done (hsend : (s.portOf p).sending = true) (hq : (s.portOf p).q = h :: r) (hdone : s.txBeats h ≤ s.since (s.portOf p).txAt) :
    s.sent p = ((s.inc (LEG_BCNT.SENT p)).put (LEG_PST.SEQ p) (h.bytes.getD 3 0).toNat).setPort p ((s.portOf p).next s.t.run) := by
  unfold State.sent
  simp only [hsend, hq]
  exact if_neg (Nat.not_lt.mpr hdone)

theorem State.sent_early (hsend : (s.portOf p).sending = true) (hq : (s.portOf p).q = h :: r) (hearly : s.since (s.portOf p).txAt < s.txBeats h) :
    s.sent p = s := by
  unfold State.sent
  simp only [hsend, hq]
  exact if_pos hearly

theorem legacyTransmitEnd_done (hup : s.up = true) (hbus : s.busOn = true) (p : Fin 2) (hsend : (s.portOf p).sending = true) (hq : (s.portOf p).q = h :: r)
    (hdone : s.txBeats h ≤ s.since (s.portOf p).txAt) : Completes (.legacyTransmitEnd p) s (fun t => CountsUp (LEG_BCNT.SENT p) s t
      ∧ t.get (LEG_PST.SEQ p) = (h.bytes.getD 3 0).toNat
      ∧ t.portOf p = { s.portOf p with q := r.map (fun y => { y with w := 0 }), sending := false, edgeAt := s.t.run }
      ∧ RegsKeptBut [LEG_PST p, LEG_BCNT p] s t ∧ MemKept s t) := by
  have hsent : (LEG_BCNT.SENT p).addr ≠ LEG_PST p := portRegs_apart.2.1
  have hqd : (LEG_PST.SEQ p).apart (LEG_PST.QD p) = true := Fld.apart_of_bits (.inl (by decide : (7 : Nat) < 22))
  have hatt : (LEG_PST.SEQ p).apart (LEG_PST.ATT p) = true := Fld.apart_of_bits (.inl (by decide : (7 : Nat) < 28))
  have hnext : (s.portOf p).next s.t.run = { s.portOf p with q := r.map (fun y => { y with w := 0 }), sending := false, edgeAt := s.t.run } := by
    unfold LegPort.next
    rw [hq, List.tail_cons]
  refine completes_of_exec (o := execLegacyTransmitEnd p s) rfl (busAct_ends hup hbus ?_)
  rw [State.sent_done hsend hq hdone, CountsUp, State.get_settle, State.get_settle, State.portOf_settle, State.portOf_setPort_same,
    State.get_setPort_addr hsent, State.get_setPort hqd hatt, State.get_put_same rfl, State.get_put_other rfl (Fld.apart_of_addr hsent)]
  exact ⟨countsUp_inc rfl rfl, Nat.mod_eq_of_lt (BitVec.isLt _), hnext,
    (((LoopWork.refl.inc (by simp)).put (by simp)).trans (loopWork_setPort (by simp))).settled.kept⟩

theorem legacyTransmitEnd_early (hup : s.up = true) (hbus : s.busOn = true) (p : Fin 2) (hsend : (s.portOf p).sending = true) (hq : (s.portOf p).q = h :: r)
    (hearly : s.since (s.portOf p).txAt < s.txBeats h) : Completes (.legacyTransmitEnd p) s (fun t => t.leg = s.leg ∧ AllKept s t) := by
  refine completes_of_exec (o := execLegacyTransmitEnd p s) rfl (busAct_ends hup hbus ?_)
  rw [State.sent_early hsend hq hearly]
  exact bus_idle

end

/-! #### A stuck line, its test and its clearing -/

/-- The telegrams that a stuck line drops. -/
def LegPort.dropped (y : LegPort) : Nat := (y.q.filter (·.cls != 0)).length

/-- The port of a line stuck by another. -/
def LegPort.stuck (y : LegPort) (now : Nat) : LegPort :=
  { y with q := y.q.filter (·.cls == 0), sending := false, testing := false, busy := false, edgeAt := now }

theorem State.busStuck_eq :
    s.busStuck p = ((s.putB (LEG_PST.STUCK p) true).inc (LEG_BCNT.DROP p) (s.portOf p).dropped).setPort p ((s.portOf p).stuck s.t.run) := by
  unfold State.busStuck
  dsimp only
  rw [State.t_putB]
  rfl

theorem loopWork_busStuck : LoopWork [LEG_PST p, LEG_BCNT p] s (s.busStuck p) := by
  have hdrop : LoopWork [LEG_PST p, LEG_BCNT p] s ((s.putB (LEG_PST.STUCK p) true).inc (LEG_BCNT.DROP p) (s.portOf p).dropped) :=
    (LoopWork.refl.putB (by simp)).put (by simp)
  rw [State.busStuck_eq]
  exact hdrop.trans (loopWork_setPort (by simp))

theorem State.portOf_busStuck : (s.busStuck p).portOf p = (s.portOf p).stuck s.t.run := by
  rw [State.busStuck_eq, State.portOf_setPort_same]

theorem State.stuck_busStuck : (s.busStuck p).flag (LEG_PST.STUCK p) = true := by
  rw [State.busStuck_eq, State.flag_setPort (by decide : (34 : Nat) > 31)]
  exact (State.flag_put_other rfl (Fld.apart_of_addr portRegs_apart.2.1.symm)).trans (State.flag_putB_same rfl)

theorem State.idle_busStuck : (s.busStuck p).flag (LEG_PST.IDLE p) = s.flag (LEG_PST.IDLE p) := by
  rw [State.busStuck_eq, State.flag_setPort (by decide : (35 : Nat) > 31)]
  exact (State.flag_put_other rfl (Fld.apart_of_addr portRegs_apart.2.1.symm)).trans
    (State.flag_putB_other rfl (Fld.apart_of_bits (.inr (by decide : (34 : Nat) < 35))))

theorem State.drop_busStuck : (s.busStuck p).get (LEG_BCNT.DROP p) = min (2 ^ 18 - 1) (s.get (LEG_BCNT.DROP p) + (s.portOf p).dropped) := by
  rw [State.busStuck_eq, State.get_setPort_addr portRegs_apart.2.1, State.get_inc_same rfl, State.satAt_eq_min,
    State.get_putB_other rfl (Fld.apart_of_addr portRegs_apart.2.1)]
  rfl

/-- The port while its own driver is tested. -/
def LegPort.tested (y : LegPort) (now : Nat) : LegPort := { y with sending := false, testing := true, txAt := now }

theorem State.txEnabled_idle : (s.putB (LEG_PST.IDLE p) false).txEnabled p = s.txEnabled p := by
  have hlow : ∀ g : Fld, g.addr < LEG_PST 0 → (s.putB (LEG_PST.IDLE p) false).get g = s.get g := fun g hg =>
    State.get_putB_other rfl (Fld.apart_of_addr (Nat.ne_of_lt (Nat.lt_of_lt_of_le hg (Nat.le_add_right _ _))))
  have hown : (s.putB (LEG_PST.IDLE p) false).flag (LEG_PST.OWN p) = s.flag (LEG_PST.OWN p) :=
    State.flag_putB_other rfl (Fld.apart_of_bits (.inl (by decide : (33 : Nat) < 35)))
  unfold State.txEnabled
  rw [hown]
  unfold State.legTx State.drives State.pstate State.flag
  rw [State.img_putB, hlow _ (by decide), hlow _ (by decide), hlow _ (by decide), hlow _ (by decide)]

theorem State.lineStuck_begins (hstuck : s.flag (LEG_PST.STUCK p) = false) (htest : (s.portOf p).testing = false) (hlong : 100000 ≤ s.since (s.portOf p).edgeAt) :
    s.lineStuck p = if s.txEnabled p then (s.putB (LEG_PST.IDLE p) false).setPort p ((s.portOf p).tested s.t.run)
      else (s.putB (LEG_PST.IDLE p) false).busStuck p := by
  have hshort : ¬s.since (s.portOf p).edgeAt < 100000 := Nat.not_lt.mpr hlong
  have hen := State.txEnabled_idle (s := s) (p := p)
  unfold State.lineStuck
  simp only [hstuck, htest, hshort, hen, decide_false, Bool.or_self, Bool.false_eq_true, if_false]
  rfl

theorem legacyLineStuck_begins (hup : s.up = true) (hbus : s.busOn = true) (p : Fin 2) (hstuck : s.flag (LEG_PST.STUCK p) = false)
    (htest : (s.portOf p).testing = false) (hlong : 100000 ≤ s.since (s.portOf p).edgeAt) :
    Completes (.legacyLineStuck p) s (fun t => t.flag (LEG_PST.IDLE p) = false ∧ (t.portOf p).sending = false
      ∧ (s.txEnabled p = true → (t.portOf p).testing = true ∧ (t.portOf p).q = (s.portOf p).q ∧ RegsKeptBut [LEG_PST p] s t)
      ∧ (s.txEnabled p = false → t.flag (LEG_PST.STUCK p) = true ∧ (t.portOf p).q = (s.portOf p).q.filter (·.cls == 0)
          ∧ t.get (LEG_BCNT.DROP p) = min (2 ^ 18 - 1) (s.get (LEG_BCNT.DROP p) + ((s.portOf p).q.filter (·.cls != 0)).length)
          ∧ RegsKeptBut [LEG_PST p, LEG_BCNT p] s t) ∧ MemKept s t) := by
  refine completes_of_exec (o := execLegacyLineStuck p s) rfl (busAct_ends hup hbus ?_)
  rw [State.lineStuck_begins hstuck htest hlong, State.flag_settle, State.flag_settle, State.portOf_settle, State.get_settle]
  by_cases hen : s.txEnabled p = true
  · have hidle : LoopWork [LEG_PST p] s (s.putB (LEG_PST.IDLE p) false) := LoopWork.refl.putB (by simp)
    have hkept := (hidle.trans (loopWork_setPort (p := p) (y := (s.portOf p).tested s.t.run) (by simp))).settled.kept
    rw [if_pos hen, State.portOf_setPort_same, State.flag_setPort (by decide : (35 : Nat) > 31)]
    exact ⟨State.flag_putB_same rfl, rfl, fun _ => ⟨rfl, rfl, hkept.1⟩, fun hno => absurd hen (by simp [hno]), hkept.2⟩
  · have hidle : LoopWork [LEG_PST p, LEG_BCNT p] s (s.putB (LEG_PST.IDLE p) false) := LoopWork.refl.putB (by simp)
    have hkept := (hidle.trans loopWork_busStuck).settled.kept
    rw [if_neg hen, State.portOf_busStuck, State.idle_busStuck, State.stuck_busStuck, State.drop_busStuck, State.portOf_putB,
      State.get_putB_other rfl (Fld.apart_of_addr portRegs_apart.2.1)]
    exact ⟨State.flag_putB_same rfl, rfl, fun hyes => absurd hyes hen, fun _ => ⟨rfl, rfl, rfl, hkept.1⟩, hkept.2⟩

theorem State.testEnd_over {z : Bool} (htest : (s.portOf p).testing = true) (hover : 10000 ≤ s.since (s.portOf p).txAt) :
    s.testEnd p z = if z then (s.setPort p { s.portOf p with testing := false, edgeAt := s.t.run }).putB (LEG_PST.OWN p) true else s.busStuck p := by
  unfold State.testEnd
  dsimp only
  rw [if_neg (by simp [htest, hover])]

theorem legacyDriverTestEnd_shows (hup : s.up = true) (hbus : s.busOn = true) (p : Fin 2) (mark : Bool) (htest : (s.portOf p).testing = true)
    (hover : 10000 ≤ s.since (s.portOf p).txAt) : Completes (.legacyDriverTestEnd p mark) s (fun t => (t.portOf p).testing = false
      ∧ (mark = true → t.flag (LEG_PST.OWN p) = true ∧ (t.portOf p).q = (s.portOf p).q)
      ∧ (mark = false → t.flag (LEG_PST.STUCK p) = true ∧ (t.portOf p).q = (s.portOf p).q.filter (·.cls == 0))
      ∧ RegsKeptBut [LEG_PST p, LEG_BCNT p] s t ∧ MemKept s t) := by
  refine completes_of_exec (o := execLegacyDriverTestEnd p mark s) rfl (busAct_ends hup hbus ?_)
  rw [State.testEnd_over htest hover, State.flag_settle, State.flag_settle, State.portOf_settle]
  cases mark with
  | true =>
    rw [if_pos rfl, State.portOf_putB, State.portOf_setPort_same]
    exact ⟨rfl, fun _ => ⟨State.flag_putB_same rfl, rfl⟩, fun h => absurd h (by decide), ((loopWork_setPort (by simp)).putB (by simp)).settled.kept⟩
  | false =>
    rw [if_neg Bool.false_ne_true, State.portOf_busStuck, State.stuck_busStuck]
    exact ⟨rfl, fun h => absurd h (by decide), fun _ => ⟨rfl, rfl⟩, loopWork_busStuck.settled.kept⟩

theorem legacyStuckClear_shows (hup : s.up = true) (hbus : s.busOn = true) (p : Fin 2) (hstuck : s.flag (LEG_PST.STUCK p) = true) :
    Completes (.legacyStuckClear p) s (fun t => t.flag (LEG_PST.STUCK p) = decide (s.since (s.portOf p).edgeAt < 1000000) ∧ t.leg = s.leg
      ∧ RegsKeptBut [LEG_PST p] s t ∧ MemKept s t) := by
  refine completes_of_exec (o := execLegacyStuckClear p s) rfl (busAct_ends hup hbus ?_)
  unfold State.stuckClear
  rw [hstuck, Bool.true_and, State.flag_settle, State.leg_settle]
  by_cases hlong : 1000000 ≤ s.since (s.portOf p).edgeAt
  · rw [if_pos (decide_eq_true hlong), decide_eq_false (Nat.not_lt.mpr hlong)]
    exact ⟨State.flag_putB_same rfl, State.leg_putB, (LoopWork.refl.putB (by simp)).settled.kept⟩
  · rw [if_neg (by simpa using hlong), decide_eq_true (Nat.lt_of_not_le hlong)]
    exact ⟨hstuck, rfl, LoopWork.refl.settled.kept⟩

end

/-- Settles O60: each row of the bus is its port's own change; log 39's choice of the rounds of VALUE is a hypothesis of its clause. -/
theorem legacyBusSends : Obligations.LegacyBusSends :=
  fun _ hup hbus => ⟨fun _ _ hchg hdue htx => legacyAlarmForm_one hup hbus hchg hdue htx, legacyAlarmForm_none hup hbus, legacyAlarmForm_silent hup hbus,
    legacyForms_silent hup hbus, legacyHeartbeatForm_due hup hbus, legacyValueForm_due hup hbus, fun p =>
    ⟨fun _ _ hq hidle hen => ⟨fun hdue => legacyTransmitStart_due hup hbus p hq hidle hen hdue,
        fun hno => legacyTransmitStart_idle hup hbus p (State.startTx_waits hq (.inr (.inr hno)))⟩,
      fun hnone => legacyTransmitStart_idle hup hbus p (State.startTx_none hnone), legacyStartDefer_waits hup hbus p,
      fun _ _ hsend hq => ⟨legacyCollision_shows hup hbus p hsend hq, legacyTransmitEnd_done hup hbus p hsend hq,
        legacyTransmitEnd_early hup hbus p hsend hq⟩,
      legacyLineStuck_begins hup hbus p, legacyDriverTestEnd_shows hup hbus p, legacyStuckClear_shows hup hbus p⟩⟩

end Sys2Proof.Machine

namespace Sys2Proof.Machine

open Sys2Proof

section
variable {s t u z : State} {P : State → Prop} {f g : Fld} {a b c i j k n v src idx seq : Nat} {w : Word} {l : List Nat} {p : Nat} {x : Bool} {m : Store}
  {d : Nat → Word}

/-! ## The received-signal table (R373) -/

/-! ### Words listed in a store -/

theorem Store.mem_insert_other {e : Nat × Word} (h : e.1 ≠ a) : e ∈ Store.insert m a w ↔ e ∈ m := by
  have hne : ∀ v : Word, e ≠ (a, v) := fun v he => h (congrArg Prod.fst he)
  induction m with
  | nil => simp [Store.insert, hne]
  | cons q r ih =>
    obtain ⟨b, v⟩ := q
    unfold Store.insert
    split
    · simp [hne]
    · split
      · next hab => subst hab; simp [hne]
      · simp [ih]

theorem Store.mem_write_other {e : Nat × Word} (h : e.1 ≠ a) : e ∈ Store.write d m a w ↔ e ∈ m := by
  unfold Store.write
  split
  · simp [List.mem_filter, h]
  · exact Store.mem_insert_other h

/-- An entry that the table lists with source and index. -/
theorem State.mem_rxEntries : i ∈ s.rxEntries src idx ↔ i < 4096 ∧ fld (s.sramAt (rxAddr i + 1)) 35 24 = idx
    ∧ ∃ w, (rxAddr i, w) ∈ s.mem.sram ∧ wbit w 35 = true ∧ fld w 31 0 = src := by
  unfold State.rxEntries
  simp only [List.mem_filterMap, Option.ite_none_right_eq_some, Bool.and_eq_true, decide_eq_true_eq, beq_iff_eq, Option.some.injEq, rxAddr]
  constructor
  · rintro ⟨⟨b, w⟩, hmem, ⟨⟨⟨⟨⟨hlo, hhi⟩, halign⟩, hbit⟩, hsrc⟩, hidx⟩, rfl⟩
    have hb : 229376 + 8 * ((b - 229376) / 8) = b := by omega
    simp only [hb]
    exact ⟨by omega, hidx, w, hmem, hbit, hsrc⟩
  · rintro ⟨hi, hidx, w, hmem, hbit, hsrc⟩
    exact ⟨_, hmem, ⟨⟨⟨⟨⟨by omega, by omega⟩, by omega⟩, hbit⟩, hsrc⟩, hidx⟩, by omega⟩

theorem State.mem_srcEntries : i ∈ s.srcEntries src ↔ i < 4096 ∧ ∃ w, (rxAddr i, w) ∈ s.mem.sram ∧ wbit w 35 = true ∧ fld w 31 0 = src := by
  unfold State.srcEntries
  simp only [List.mem_filterMap, Option.ite_none_right_eq_some, Bool.and_eq_true, decide_eq_true_eq, beq_iff_eq, Option.some.injEq, rxAddr]
  constructor
  · rintro ⟨⟨b, w⟩, hmem, ⟨⟨⟨⟨hlo, hhi⟩, halign⟩, hbit⟩, hsrc⟩, rfl⟩
    have hb : 229376 + 8 * ((b - 229376) / 8) = b := by omega
    simp only [hb]
    exact ⟨by omega, w, hmem, hbit, hsrc⟩
  · rintro ⟨hi, w, hmem, hbit, hsrc⟩
    exact ⟨_, hmem, ⟨⟨⟨⟨by omega, by omega⟩, by omega⟩, hbit⟩, hsrc⟩, by omega⟩

/-! ### Work on the table alone -/

/-- Only words of the table and the beats of their update have changed; the words that say what an entry receives have not. -/
structure RxWork (s t : State) : Prop where
  regs : ∀ b, t.reg b = s.reg b
  sram : SramKeptBut rxWords s t
  mram : MramKept s t
  time : t.t = s.t
  leg : t.leg = s.leg
  alm : t.alm = s.alm
  listed : ∀ i w, (rxAddr i, w) ∈ t.mem.sram ↔ (rxAddr i, w) ∈ s.mem.sram
  named : ∀ i, t.sramAt (rxAddr i + 1) = s.sramAt (rxAddr i + 1)

theorem RxWork.refl : RxWork s s := ⟨fun _ => rfl, fun _ _ => ⟨rfl, rfl⟩, fun _ => ⟨rfl, rfl⟩, rfl, rfl, rfl, fun _ _ => Iff.rfl, fun _ => rfl⟩

theorem RxWork.trans (h : RxWork s t) (h' : RxWork t u) : RxWork s u where
  regs b := (h'.regs b).trans (h.regs b)
  sram b hb := ⟨(h'.sram b hb).1.trans (h.sram b hb).1, (h'.sram b hb).2.trans (h.sram b hb).2⟩
  mram b := ⟨(h'.mram b).1.trans (h.mram b).1, (h'.mram b).2.trans (h.mram b).2⟩
  time := h'.time.trans h.time
  leg := h'.leg.trans h.leg
  alm := h'.alm.trans h.alm
  listed i w := (h'.listed i w).trans (h.listed i w)
  named i := (h'.named i).trans (h.named i)

theorem RxWork.get (h : RxWork s t) : t.get f = s.get f := get_of_reg_eq (h.regs _)

theorem RxWork.flag (h : RxWork s t) : t.flag f = s.flag f := flag_of_reg_eq (h.regs _)

theorem RxWork.ts0 (h : RxWork s t) : t.ts0 = s.ts0 := congrArg TimeS.round h.time

theorem RxWork.ts1 (h : RxWork s t) : t.ts1 = s.ts1 := by
  unfold State.ts1
  rw [h.time, h.flag, h.flag]

theorem RxWork.rxEntries (h : RxWork s t) : i ∈ t.rxEntries src idx ↔ i ∈ s.rxEntries src idx := by
  simp only [State.mem_rxEntries, h.named, h.listed]

theorem rxAddr_mem (hi : i < 4096) (hk : k < 8) : rxAddr i + k ∈ rxWords :=
  List.mem_map.mpr ⟨8 * i + k, List.mem_range.mpr (by omega), (Nat.add_assoc ..).symm⟩

theorem rxWork_setSram (hi : i < 4096) (hk : 2 ≤ k) (hk' : k < 8) : RxWork s (s.setSram (rxAddr i + k) w) where
  regs _ := State.reg_setSram
  sram b hb := by
    have hne : b ≠ rxAddr i + k := fun h => hb (h ▸ rxAddr_mem hi hk')
    refine ⟨State.sramAt_setSram_other hne, ?_⟩
    rw [State.sramPoison_setSram]
    simp [hne]
  mram _ := ⟨rfl, rfl⟩
  time := State.t_setSram
  leg := State.leg_setSram
  alm := State.alm_setSram
  listed j v := Store.mem_write_other (by simp only [rxAddr]; omega)
  named j := State.sramAt_setSram_other (by simp only [rxAddr]; omega)

theorem rxWork_setRxAt {y : SnS} : RxWork s { s with sn := y } :=
  ⟨fun _ => rfl, fun _ _ => ⟨rfl, rfl⟩, fun _ => ⟨rfl, rfl⟩, rfl, rfl, rfl, fun _ _ => Iff.rfl, fun _ => rfl⟩

theorem RxWork.foldl {α : Type} {step : State → α → State} (l : List α) (h : ∀ y ∈ l, ∀ z, RxWork z (step z y)) : RxWork s (l.foldl step s) := by
  induction l generalizing s with
  | nil => exact .refl
  | cons y r ih =>
    exact (h y List.mem_cons_self s).trans (ih fun y' hy' => h y' (List.mem_cons_of_mem _ hy'))

/-! ### An update of an entry (R373) -/

variable {u0 u1 r0 r1 : Word}

/-- An entry's value and times as an update gives them. -/
def State.rxValued (s : State) (i : Nat) (x : Bool) (seq : Nat) (u0 u1 r0 : Word) : State :=
  (((s.setSram (rxAddr i + 2) (W (x.toNat <<< 35 + x.toNat <<< 34 + seq))).setSram (rxAddr i + 3) u0).setSram (rxAddr i + 4) u1).setSram
    (rxAddr i + 5) r0

/-- The count of an entry's updates goes on, with the last word of its times. -/
def State.rxCounted (s : State) (i : Nat) (r1 : Word) : State :=
  (s.setSram (rxAddr i + 6) r1).setSram (rxAddr i + 7) (W (satAt 262143 (fld (s.sramAt (rxAddr i + 7)) 35 18 + 1) <<< 18))

/-- An entry as an update leaves it. -/
def State.rxWritten (s : State) (i : Nat) (x : Bool) (seq : Nat) (u0 u1 r0 r1 : Word) : State := (s.rxValued i x seq u0 u1 r0).rxCounted i r1

/-- The beat of an entry's update is noted. -/
def State.rxNoted (s : State) (i : Nat) : State := { s with sn := { s.sn with rxAt := s.sn.rxAt.set i s.t.run } }

theorem rxWork_rxNoted : RxWork s (s.rxNoted i) := rxWork_setRxAt

theorem State.sramAt_rxNoted : (s.rxNoted i).sramAt a = s.sramAt a := rfl

theorem State.rxUpdate_older (h : tsLess u0 u1 (s.sramAt (rxAddr i + 3)) (s.sramAt (rxAddr i + 4)) = true) :
    s.rxUpdate i x seq u0 u1 r0 r1 = s := if_pos h

theorem State.rxUpdate_newer (h : tsLess u0 u1 (s.sramAt (rxAddr i + 3)) (s.sramAt (rxAddr i + 4)) = false) : s.rxUpdate i x seq u0 u1 r0 r1
    = (s.rxWritten i x seq u0 u1 r0 r1).rxNoted i := by
  unfold State.rxUpdate
  dsimp only
  rw [h, if_neg Bool.false_ne_true]
  unfold State.rxNoted State.rxWritten State.rxCounted State.rxValued
  rfl

theorem rxWork_rxWritten (hi : i < 4096) : RxWork s (s.rxWritten i x seq u0 u1 r0 r1) := by
  have hset : ∀ (z : State) (k : Nat) (w : Word), 2 ≤ k → k < 8 → RxWork z (z.setSram (rxAddr i + k) w) := fun _ _ _ => rxWork_setSram hi
  exact (((((hset _ 2 _ (by decide) (by decide)).trans (hset _ 3 _ (by decide) (by decide))).trans (hset _ 4 _ (by decide) (by decide))).trans
    (hset _ 5 _ (by decide) (by decide))).trans (hset _ 6 _ (by decide) (by decide))).trans (hset _ 7 _ (by decide) (by decide))

theorem rxWork_rxUpdate (hi : i < 4096) : RxWork s (s.rxUpdate i x seq u0 u1 r0 r1) := by
  cases h : tsLess u0 u1 (s.sramAt (rxAddr i + 3)) (s.sramAt (rxAddr i + 4)) with
  | true =>
    rw [State.rxUpdate_older h]
    exact .refl
  | false =>
    rw [State.rxUpdate_newer h]
    exact (rxWork_rxWritten hi).trans rxWork_rxNoted

/-- The words of an entry that an update gives. -/
theorem State.sramAt_rxWritten : (s.rxWritten i x seq u0 u1 r0 r1).sramAt (rxAddr i + 2) = W (x.toNat <<< 35 + x.toNat <<< 34 + seq)
    ∧ (s.rxWritten i x seq u0 u1 r0 r1).sramAt (rxAddr i + 3) = u0 ∧ (s.rxWritten i x seq u0 u1 r0 r1).sramAt (rxAddr i + 4) = u1
    ∧ (s.rxWritten i x seq u0 u1 r0 r1).sramAt (rxAddr i + 5) = r0 ∧ (s.rxWritten i x seq u0 u1 r0 r1).sramAt (rxAddr i + 6) = r1
    ∧ (s.rxWritten i x seq u0 u1 r0 r1).sramAt (rxAddr i + 7) = W (satAt 262143 (fld (s.sramAt (rxAddr i + 7)) 35 18 + 1) <<< 18) := by
  unfold State.rxWritten State.rxCounted State.rxValued
  refine ⟨?_, ?_, ?_, ?_, ?_, ?_⟩
  all_goals simp [State.sramAt_setSram_other]

theorem State.sramAt_rxWritten_other (h : j ≠ i) (hk : k < 8) : (s.rxWritten i x seq u0 u1 r0 r1).sramAt (rxAddr j + k) = s.sramAt (rxAddr j + k) := by
  have hne : ∀ n, n < 8 → rxAddr j + k ≠ rxAddr i + n := fun n hn => by
    unfold rxAddr
    omega
  unfold State.rxWritten State.rxCounted State.rxValued
  rw [State.sramAt_setSram_other (hne 7 (by decide)), State.sramAt_setSram_other (hne 6 (by decide)), State.sramAt_setSram_other (hne 5 (by decide)),
    State.sramAt_setSram_other (hne 4 (by decide)), State.sramAt_setSram_other (hne 3 (by decide)), State.sramAt_setSram_other (hne 2 (by decide))]

theorem State.sramAt_rxUpdate_other (h : j ≠ i) (hk : k < 8) : (s.rxUpdate i x seq u0 u1 r0 r1).sramAt (rxAddr j + k) = s.sramAt (rxAddr j + k) := by
  cases hnew : tsLess u0 u1 (s.sramAt (rxAddr i + 3)) (s.sramAt (rxAddr i + 4)) with
  | true => rw [State.rxUpdate_older hnew]
  | false =>
    rw [State.rxUpdate_newer hnew, State.sramAt_rxNoted]
    exact State.sramAt_rxWritten_other h hk

theorem wbit_rxValue (h : seq < 2 ^ 34) : wbit (W (x.toNat <<< 35 + x.toNat <<< 34 + seq)) 35 = x := by
  cases x with
  | true => simp [wbit, bit]; omega
  | false => simp [wbit, bit]; omega

theorem tsLess_self : tsLess u0 u1 u0 u1 = false := by simp [tsLess]

/-- An entry shows a value, updated at a time. -/
def RxShows (i : Nat) (x : Bool) (u0 u1 : Word) (t : State) : Prop :=
  wbit (t.sramAt (rxAddr i + 2)) 35 = x ∧ t.sramAt (rxAddr i + 3) = u0 ∧ t.sramAt (rxAddr i + 4) = u1

theorem rxShows_rxUpdate (hseq : seq < 2 ^ 34) (h : tsLess u0 u1 (s.sramAt (rxAddr i + 3)) (s.sramAt (rxAddr i + 4)) = false) :
    RxShows i x u0 u1 (s.rxUpdate i x seq u0 u1 r0 r1) := by
  obtain ⟨hval, h3, h4, -⟩ := State.sramAt_rxWritten (s := s) (i := i) (x := x) (seq := seq) (u0 := u0) (u1 := u1) (r0 := r0) (r1 := r1)
  rw [State.rxUpdate_newer h, RxShows, State.sramAt_rxNoted, State.sramAt_rxNoted, State.sramAt_rxNoted, hval]
  exact ⟨wbit_rxValue hseq, h3, h4⟩

theorem RxShows.other (h : RxShows i x u0 u1 s) (hji : i ≠ j) {x' : Bool} {seq' : Nat} {v0 v1 q0 q1 : Word} :
    RxShows i x u0 u1 (s.rxUpdate j x' seq' v0 v1 q0 q1) := by
  unfold RxShows
  rwa [State.sramAt_rxUpdate_other hji (by decide), State.sramAt_rxUpdate_other hji (by decide), State.sramAt_rxUpdate_other hji (by decide)]

/-- An entry set at the time of the state, as a received signal sets it. -/
def State.rxSet (x : Bool) (seq : Nat) (s : State) (i : Nat) : State := s.rxUpdate i x seq s.ts0 s.ts1 s.ts0 s.ts1

/-- Entries set to a value at the time of the state. -/
def State.rxSetAll (s : State) (l : List Nat) (x : Bool) (seq : Nat) : State := l.foldl (State.rxSet x seq) s

theorem rxWork_rxSet (hi : i < 4096) : RxWork s (s.rxSet x seq i) := rxWork_rxUpdate hi

theorem rxWork_rxSetAll (hl : ∀ i ∈ l, i < 4096) : RxWork s (s.rxSetAll l x seq) := .foldl l fun i hi _ => rxWork_rxSet (hl i hi)

theorem State.rxSetAll_cons : s.rxSetAll (j :: l) x seq = (s.rxSet x seq j).rxSetAll l x seq := rfl

theorem State.sramAt_rxSet_other (h : j ≠ i) (hk : k < 8) : (s.rxSet x seq i).sramAt (rxAddr j + k) = s.sramAt (rxAddr j + k) :=
  State.sramAt_rxUpdate_other h hk

theorem State.sramAt_rxSetAll_other (h : j ∉ l) (hk : k < 8) : (s.rxSetAll l x seq).sramAt (rxAddr j + k) = s.sramAt (rxAddr j + k) := by
  induction l generalizing s with
  | nil => rfl
  | cons i r ih =>
    rw [State.rxSetAll_cons, ih (List.not_mem_of_not_mem_cons h)]
    exact State.sramAt_rxSet_other (List.ne_of_not_mem_cons h) hk

theorem RxShows.set (h : RxShows i x u0 u1 s) (h0 : s.ts0 = u0) (h1 : s.ts1 = u1) (hseq : seq < 2 ^ 34) : RxShows i x u0 u1 (s.rxSet x seq j) := by
  subst h0 h1
  unfold State.rxSet
  by_cases hij : i = j
  · subst hij
    refine rxShows_rxUpdate hseq ?_
    rw [h.2.1, h.2.2]
    exact tsLess_self
  · exact h.other hij

theorem RxShows.setAll (h : RxShows i x u0 u1 s) (h0 : s.ts0 = u0) (h1 : s.ts1 = u1) (hseq : seq < 2 ^ 34) (hl : ∀ i ∈ l, i < 4096) :
    RxShows i x u0 u1 (s.rxSetAll l x seq) := by
  induction l generalizing s with
  | nil => exact h
  | cons j r ih =>
    have hwork : RxWork s (s.rxSet x seq j) := rxWork_rxSet (hl j List.mem_cons_self)
    rw [State.rxSetAll_cons]
    exact ih (h.set h0 h1 hseq) (hwork.ts0.trans h0) (hwork.ts1.trans h1) fun i hi => hl i (List.mem_cons_of_mem _ hi)

theorem rxShows_rxSetAll (hi : i ∈ l) (h0 : s.ts0 = u0) (h1 : s.ts1 = u1) (hseq : seq < 2 ^ 34) (hl : ∀ i ∈ l, i < 4096)
    (h : tsLess u0 u1 (s.sramAt (rxAddr i + 3)) (s.sramAt (rxAddr i + 4)) = false) : RxShows i x u0 u1 (s.rxSetAll l x seq) := by
  induction l generalizing s with
  | nil => exact absurd hi List.not_mem_nil
  | cons j r ih =>
    have hwork : RxWork s (s.rxSet x seq j) := rxWork_rxSet (hl j List.mem_cons_self)
    have hr : ∀ i ∈ r, i < 4096 := fun i hi => hl i (List.mem_cons_of_mem _ hi)
    rw [State.rxSetAll_cons]
    by_cases hij : i = j
    · subst hij
      subst h0 h1
      have hstep : RxShows i x s.ts0 s.ts1 (s.rxSet x seq i) := rxShows_rxUpdate hseq h
      exact hstep.setAll hwork.ts0 hwork.ts1 hseq hr
    · refine ih ((List.mem_cons.mp hi).resolve_left hij) (hwork.ts0.trans h0) (hwork.ts1.trans h1) hr ?_
      rwa [State.sramAt_rxSet_other hij (by decide), State.sramAt_rxSet_other hij (by decide)]

end

section
variable {s t u z : State} {P : State → Prop} {f g : Fld} {a b c i j k n v src idx typ : Nat} {w : Word} {l : List Nat} {p : Nat} {x : Bool} {fr : List Byte}

/-! ## Frames received on the legacy bus (R524, R526, R527, R532, R533, R535) -/

/-- What every frame of an accepted number leaves before its type is looked at. -/
def State.frameTaken (s : State) (p : Nat) (fr : List Byte) : State :=
  let own := frameByte fr 1 == s.get LEG_BCFG.ADDR && frameByte fr 1 != 0
  let s := s.lineEdge p false
  let x : LegSeen := ⟨s.busOf p, frameByte fr 1, frameByte fr 4, s.t.run⟩
  let s := s.setLeg { s.leg with seen := keepSeen x s.leg.seen }
  let s := if own then s.putB (LEG_PST.CONF p) true else s
  if own && !s.drives then s.setLeg { s.leg with heard := some x.seq } else s

theorem State.legFrame_own (h : s.ownFrame p fr = true) : s.legFrame p fr = s := if_pos h

theorem State.leg_lineEdge : (s.lineEdge p x).leg = { s.leg with ports := s.leg.ports.set p { s.portOf p with busy := x, edgeAt := s.t.run } } := by
  unfold State.lineEdge State.setPort
  rw [State.leg_putB, State.leg_put, State.leg_put, State.leg_setLeg]

theorem State.t_lineEdge : (s.lineEdge p x).t = s.t := by
  unfold State.lineEdge
  rw [State.t_putB, State.t_setPort]

theorem State.alm_lineEdge : (s.lineEdge p x).alm = s.alm := by
  unfold State.lineEdge
  rw [State.alm_putB, State.alm_setPort]

theorem State.busOf_of_get (h : t.get LEG_BCFG.MODE = s.get LEG_BCFG.MODE) : t.busOf p = s.busOf p := by
  unfold State.busOf
  rw [h]

theorem pst_ne_low (h : a < LEG_PST 0) : a ∉ [LEG_PST p] := by
  simp only [LEG_PST, List.mem_singleton] at *
  omega

theorem State.seen_lineEdge : (s.lineEdge p x).leg.seen = s.leg.seen := by rw [State.leg_lineEdge]

theorem State.since_lineEdge : (s.lineEdge p x).since a = s.since a := by
  unfold State.since
  rw [State.t_lineEdge]

theorem State.busOf_lineEdge : (s.lineEdge p x).busOf b = s.busOf b :=
  State.busOf_of_get ((loopWork_lineEdge (l := [LEG_PST p]) (by simp)).get (pst_ne_low (by decide)))

theorem State.legFrame_bad (hown : s.ownFrame p fr = false) (h : telegramOk fr = false) : s.legFrame p fr = (s.lineEdge p false).inc (LEG_ECNT.ERR p) := by
  unfold State.legFrame
  unfold State.ownFrame at hown
  simp only [hown, h, Bool.not_false, if_true, Bool.false_eq_true, if_false]

theorem State.legFrame_dup (h : s.legTakes p typ fr true) : s.legFrame p fr = (s.lineEdge p false).inc (LEG_ECNT.DUP p) := by
  obtain ⟨hown, hok, -, hseen⟩ := h
  unfold State.ownFrame at hown
  unfold State.legFrame
  simp only [hown, hok, Bool.not_true, Bool.false_eq_true, if_false]
  refine if_pos ?_
  simpa only [State.seen_lineEdge, State.busOf_lineEdge, State.since_lineEdge] using hseen

theorem State.legFrame_taken (h : s.legTakes p typ fr false) : s.legFrame p fr
    = if (s.frameTaken p fr).known (frameByte fr 1) then (s.frameTaken p fr).legApply p fr else (s.frameTaken p fr).inc (LEG_ECNT.STRANGER p) := by
  obtain ⟨hown, hok, -, hseen⟩ := h
  unfold State.ownFrame at hown
  unfold State.legFrame
  simp only [hown, hok, Bool.not_true, Bool.false_eq_true, if_false]
  refine (if_neg ?_).trans rfl
  simpa only [State.seen_lineEdge, State.busOf_lineEdge, State.since_lineEdge, Bool.not_eq_true] using hseen

/-- What a frame of an accepted number changes: its port's register, its port, the record of frames. -/
structure FrameTaken (p : Nat) (fr : List Byte) (s t : State) : Prop where
  regs : ∀ b, b ≠ LEG_PST p → t.reg b = s.reg b
  mem : t.mem = s.mem
  time : t.t = s.t
  alm : t.alm = s.alm
  img : t.img = s.img
  life : t.life = s.life
  idle : t.flag (LEG_PST.IDLE p) = false
  edge : (t.portOf p).edgeAt = s.t.run
  seen : t.leg.seen = keepSeen ⟨s.busOf p, frameByte fr 1, frameByte fr 4, s.t.run⟩ s.leg.seen
  conf : frameByte fr 1 = s.get LEG_BCFG.ADDR → frameByte fr 1 ≠ 0 → t.flag (LEG_PST.CONF p) = true

/-- The record of frames is replaced. -/
def State.setSeen (s : State) (q : List LegSeen) : State := s.setLeg { s.leg with seen := q }

theorem State.seen_setSeen {q : List LegSeen} : (s.setSeen q).leg.seen = q := rfl
theorem State.portOf_setSeen {q : List LegSeen} : (s.setSeen q).portOf p = s.portOf p := rfl
theorem State.flag_setSeen {q : List LegSeen} : (s.setSeen q).flag f = s.flag f := rfl

/-- The record of the frame is kept. -/
def State.frameSeen (s : State) (p : Nat) (fr : List Byte) : State :=
  (s.lineEdge p false).setSeen
    (keepSeen ⟨(s.lineEdge p false).busOf p, frameByte fr 1, frameByte fr 4, (s.lineEdge p false).t.run⟩ (s.lineEdge p false).leg.seen)

/-- The frame bears the node's own address. -/
def State.frameOwn (s : State) (fr : List Byte) : Bool := frameByte fr 1 == s.get LEG_BCFG.ADDR && frameByte fr 1 != 0

/-- A port that hears the node's own address from another shows it. -/
def State.frameConf (s : State) (p : Nat) (own : Bool) : State := if own then s.putB (LEG_PST.CONF p) true else s

/-- A silent unit keeps the number it hears from the node's own address. -/
def State.frameHeard (s : State) (own : Bool) (fr : List Byte) : State :=
  if own && !s.drives then s.setLeg { s.leg with heard := some (frameByte fr 4) } else s

theorem State.frameTaken_eq : s.frameTaken p fr = ((s.frameSeen p fr).frameConf p (s.frameOwn fr)).frameHeard (s.frameOwn fr) fr := by
  unfold State.frameTaken State.frameHeard State.frameConf State.frameSeen State.frameOwn State.setSeen
  dsimp only

variable {own : Bool}

theorem State.seen_frameSeen : (s.frameSeen p fr).leg.seen = keepSeen ⟨s.busOf p, frameByte fr 1, frameByte fr 4, s.t.run⟩ s.leg.seen := by
  unfold State.frameSeen
  rw [State.seen_setSeen, State.busOf_lineEdge, State.t_lineEdge, State.seen_lineEdge]

theorem State.portOf_setLeg {y : LegS} (h : y.ports = s.leg.ports) : (s.setLeg y).portOf p = s.portOf p := by
  unfold State.portOf
  rw [State.leg_setLeg, h]

theorem State.edge_frameSeen : ((s.frameSeen p fr).portOf p).edgeAt = s.t.run := by
  unfold State.frameSeen
  rw [State.portOf_setSeen, State.portOf_lineEdge]

theorem State.portOf_frameConf : (s.frameConf p own).portOf p = s.portOf p := by
  unfold State.frameConf
  split
  · exact State.portOf_putB
  · rfl

theorem State.portOf_frameHeard : (s.frameHeard own fr).portOf p = s.portOf p := by
  unfold State.frameHeard
  split
  · exact State.portOf_setLeg rfl
  · rfl

theorem State.seen_frameConf : (s.frameConf p own).leg.seen = s.leg.seen := by
  unfold State.frameConf
  rw [State.leg_ite, State.leg_putB, ite_self]

theorem State.seen_frameHeard : (s.frameHeard own fr).leg.seen = s.leg.seen := by
  unfold State.frameHeard
  split <;> rfl

theorem State.reg_frameHeard : (s.frameHeard own fr).reg b = s.reg b := by
  unfold State.frameHeard
  split <;> rfl

theorem State.flag_frameHeard : (s.frameHeard own fr).flag f = s.flag f := flag_of_reg_eq State.reg_frameHeard

theorem State.flag_frameConf (h : f.apart (LEG_PST.CONF p) = true) : (s.frameConf p own).flag f = s.flag f := by
  unfold State.frameConf
  split
  · exact State.flag_putB_other rfl h
  · rfl

theorem State.conf_frameConf (h : own = true) : (s.frameConf p own).flag (LEG_PST.CONF p) = true := by
  unfold State.frameConf
  rw [if_pos h]
  exact State.flag_putB_same rfl

theorem loopWork_frameTaken : LoopWork [LEG_PST p] s (s.frameTaken p fr) := by
  have hseen : LoopWork [LEG_PST p] s (s.frameSeen p fr) := (loopWork_lineEdge (by simp)).trans loopWork_setLeg
  have hconf : ∀ z : State, LoopWork [LEG_PST p] z (z.frameConf p (s.frameOwn fr)) := fun z => .ite (LoopWork.refl.putB (by simp)) .refl
  rw [State.frameTaken_eq]
  exact (hseen.trans (hconf _)).trans (.ite loopWork_setLeg .refl)

/-- A part of the state that neither the line, the record of frames nor a flag of the port touches. -/
theorem State.frameTaken_part {α : Type} (part : State → α) (hline : ∀ z : State, part (z.lineEdge p false) = part z)
    (hleg : ∀ (z : State) y, part (z.setLeg y) = part z) (hput : ∀ z : State, part (z.putB (LEG_PST.CONF p) true) = part z) :
    part (s.frameTaken p fr) = part s := by
  rw [State.frameTaken_eq]
  unfold State.frameHeard State.frameConf State.frameSeen State.setSeen
  rw [apply_ite part, hleg, ite_self, apply_ite part, hput, ite_self, hleg, hline]

theorem frameTaken_taken : FrameTaken p fr s (s.frameTaken p fr) where
  regs b hb := loopWork_frameTaken.regs b (by simpa using hb)
  mem := State.frameTaken_part State.mem (fun _ => by simp [State.lineEdge]) (fun _ _ => rfl) fun _ => State.mem_putB
  time := State.frameTaken_part State.t (fun _ => State.t_lineEdge) (fun _ _ => rfl) fun _ => State.t_putB
  alm := State.frameTaken_part State.alm (fun _ => State.alm_lineEdge) (fun _ _ => rfl) fun _ => State.alm_putB
  img := State.frameTaken_part State.img (fun _ => by simp [State.lineEdge]) (fun _ _ => rfl) fun _ => State.img_putB
  life := State.frameTaken_part State.life (fun _ => by simp [State.lineEdge]) (fun _ _ => rfl) fun _ => State.life_putB
  idle := by
    rw [State.frameTaken_eq, State.flag_frameHeard, State.flag_frameConf (Fld.apart_of_bits (.inr (by decide : (32 : Nat) < 35))), State.frameSeen, State.flag_setSeen]
    exact State.idle_lineEdge
  edge := by rw [State.frameTaken_eq, State.portOf_frameHeard, State.portOf_frameConf, State.edge_frameSeen]
  seen := by rw [State.frameTaken_eq, State.seen_frameHeard, State.seen_frameConf, State.seen_frameSeen]
  conf h h0 := by
    rw [State.frameTaken_eq, State.flag_frameHeard]
    exact State.conf_frameConf (by simp [State.frameOwn, h, h ▸ h0])

/-! ### What a telegram does by its type (R524, R532, R533) -/

theorem frameByte_lt : frameByte fr i < 256 := BitVec.isLt _

/-- The entries of an alarm's two signals. -/
def State.alarmSet (s : State) (p : Nat) (fr : List Byte) (n code : Nat) : State :=
  let z := s.rxSetAll (s.rxEntries (s.legSrc p (frameByte fr 1)) n) (code == 1 || code == 2) (frameByte fr 4)
  z.rxSetAll (z.rxEntries (s.legSrc p (frameByte fr 1)) (128 + n)) (code == 1 || code == 3) (frameByte fr 4)

theorem State.legAlarm_eq : s.legAlarm p fr k
    = if frameByte fr (6 + 3 * k) > 127 then s else s.alarmSet p fr (frameByte fr (6 + 3 * k)) (frameByte fr (7 + 3 * k) / 32) := rfl

theorem rxEntries_lt : ∀ i ∈ s.rxEntries src idx, i < 4096 := fun _ hi => (State.mem_rxEntries.mp hi).1

theorem rxWork_alarmSet {n code : Nat} : RxWork s (s.alarmSet p fr n code) := (rxWork_rxSetAll rxEntries_lt).trans (rxWork_rxSetAll rxEntries_lt)

theorem rxWork_legAlarms : RxWork s (s.legAlarms p fr) := by
  refine .foldl _ fun k _ z => ?_
  rw [State.legAlarm_eq]
  split
  · exact .refl
  · exact rxWork_alarmSet

theorem rxShows_alarmSet_value {n code : Nat} (hi : i ∈ s.rxEntries (s.legSrc p (frameByte fr 1)) n)
    (h : tsLess s.ts0 s.ts1 (s.sramAt (rxAddr i + 3)) (s.sramAt (rxAddr i + 4)) = false) :
    RxShows i (code == 1 || code == 2) s.ts0 s.ts1 (s.alarmSet p fr n code) := by
  have hseq : frameByte fr 4 < 2 ^ 34 := Nat.lt_trans frameByte_lt (by decide)
  have hfirst := rxShows_rxSetAll (x := code == 1 || code == 2) hi rfl rfl hseq rxEntries_lt h
  have hwork : RxWork s (s.rxSetAll (s.rxEntries (s.legSrc p (frameByte fr 1)) n) (code == 1 || code == 2) (frameByte fr 4)) := rxWork_rxSetAll rxEntries_lt
  have hout : i ∉ (s.rxSetAll (s.rxEntries (s.legSrc p (frameByte fr 1)) n) (code == 1 || code == 2) (frameByte fr 4)).rxEntries
      (s.legSrc p (frameByte fr 1)) (128 + n) := by
    rw [hwork.rxEntries, State.mem_rxEntries]
    intro ⟨_, hidx, _⟩
    have := (State.mem_rxEntries.mp hi).2.1
    omega
  unfold State.alarmSet RxShows
  rw [State.sramAt_rxSetAll_other hout (by decide), State.sramAt_rxSetAll_other hout (by decide), State.sramAt_rxSetAll_other hout (by decide)]
  exact hfirst

theorem rxShows_alarmSet_unacked {n code : Nat} (hi : i ∈ s.rxEntries (s.legSrc p (frameByte fr 1)) (128 + n))
    (h : tsLess s.ts0 s.ts1 (s.sramAt (rxAddr i + 3)) (s.sramAt (rxAddr i + 4)) = false) :
    RxShows i (code == 1 || code == 3) s.ts0 s.ts1 (s.alarmSet p fr n code) := by
  have hwork : RxWork s (s.rxSetAll (s.rxEntries (s.legSrc p (frameByte fr 1)) n) (code == 1 || code == 2) (frameByte fr 4)) := rxWork_rxSetAll rxEntries_lt
  have hout : i ∉ s.rxEntries (s.legSrc p (frameByte fr 1)) n := fun hin => by
    have := (State.mem_rxEntries.mp hi).2.1
    have := (State.mem_rxEntries.mp hin).2.1
    omega
  refine rxShows_rxSetAll (hwork.rxEntries.mpr hi) hwork.ts0 hwork.ts1 (Nat.lt_trans frameByte_lt (by decide)) rxEntries_lt ?_
  rwa [State.sramAt_rxSetAll_other hout (by decide), State.sramAt_rxSetAll_other hout (by decide)]

/-- The age of an entry begins again. -/
def State.rxRefresh (s : State) (i : Nat) : State := ((s.setSram (rxAddr i + 5) s.ts0).setSram (rxAddr i + 6) s.ts1).rxNoted i

theorem State.legHeartbeat_eq : s.legHeartbeat p fr = (s.srcEntries (s.legSrc p (frameByte fr 1))).foldl State.rxRefresh s := rfl

theorem rxWork_rxRefresh (hi : i < 4096) : RxWork s (s.rxRefresh i) :=
  ((rxWork_setSram hi (by decide) (by decide)).trans (rxWork_setSram hi (by decide) (by decide))).trans rxWork_rxNoted

theorem srcEntries_lt : ∀ i ∈ s.srcEntries src, i < 4096 := fun _ hi => (State.mem_srcEntries.mp hi).1

theorem rxWork_legHeartbeat : RxWork s (s.legHeartbeat p fr) := .foldl _ fun i hi _ => rxWork_rxRefresh (srcEntries_lt i hi)

theorem State.sramAt_rxRefresh_same : (s.rxRefresh i).sramAt (rxAddr i + 5) = s.ts0 ∧ (s.rxRefresh i).sramAt (rxAddr i + 6) = s.ts1 := by
  unfold State.rxRefresh
  rw [State.sramAt_rxNoted, State.sramAt_rxNoted, State.sramAt_setSram_other (by omega), State.sramAt_setSram_same, State.sramAt_setSram_same]
  exact ⟨rfl, rfl⟩

theorem State.sramAt_rxRefresh_other (h : j ≠ i) (hk : k < 8) : (s.rxRefresh i).sramAt (rxAddr j + k) = s.sramAt (rxAddr j + k) := by
  have hne : ∀ n, n < 8 → rxAddr j + k ≠ rxAddr i + n := fun n hn => by
    unfold rxAddr
    omega
  unfold State.rxRefresh
  rw [State.sramAt_rxNoted, State.sramAt_setSram_other (hne 6 (by decide)), State.sramAt_setSram_other (hne 5 (by decide))]

/-- An entry received at a time. -/
def RxFresh (i : Nat) (u0 u1 : Word) (t : State) : Prop := t.sramAt (rxAddr i + 5) = u0 ∧ t.sramAt (rxAddr i + 6) = u1

theorem RxFresh.refresh {u0 u1 : Word} (h : j = i ∨ RxFresh i u0 u1 s) (h0 : s.ts0 = u0) (h1 : s.ts1 = u1) : RxFresh i u0 u1 (s.rxRefresh j) := by
  by_cases hij : i = j
  · subst hij
    unfold RxFresh
    rw [State.sramAt_rxRefresh_same.1, State.sramAt_rxRefresh_same.2]
    exact ⟨h0, h1⟩
  · unfold RxFresh
    rw [State.sramAt_rxRefresh_other hij (by decide), State.sramAt_rxRefresh_other hij (by decide)]
    exact h.resolve_left (Ne.symm hij)

theorem rxFresh_foldl {u0 u1 : Word} (hi : i ∈ l ∨ RxFresh i u0 u1 s) (h0 : s.ts0 = u0) (h1 : s.ts1 = u1) (hl : ∀ i ∈ l, i < 4096) :
    RxFresh i u0 u1 (l.foldl State.rxRefresh s) := by
  induction l generalizing s with
  | nil => exact hi.resolve_left List.not_mem_nil
  | cons j r ih =>
    have hwork : RxWork s (s.rxRefresh j) := rxWork_rxRefresh (hl j List.mem_cons_self)
    rw [List.foldl_cons]
    refine ih ?_ (hwork.ts0.trans h0) (hwork.ts1.trans h1) fun i hi => hl i (List.mem_cons_of_mem _ hi)
    by_cases hfresh : j = i ∨ RxFresh i u0 u1 s
    · exact .inr (.refresh hfresh h0 h1)
    · rw [not_or] at hfresh
      exact .inl ((List.mem_cons.mp (hi.resolve_right hfresh.2)).resolve_left (Ne.symm hfresh.1))

/-! #### ACK -/

/-- Alarm commands appended. -/
def State.cmdsPut (s : State) (m : List EngCmd) : State := { s with alm := { s.alm with cmds := s.alm.cmds ++ m } }

theorem State.cmds_cmdsPut {m : List EngCmd} : (s.cmdsPut m).alm.cmds = s.alm.cmds ++ m := rfl
theorem State.reg_cmdsPut {m : List EngCmd} : (s.cmdsPut m).reg b = s.reg b := rfl
theorem State.leg_cmdsPut {m : List EngCmd} : (s.cmdsPut m).leg = s.leg := rfl
theorem State.mem_cmdsPut {m : List EngCmd} : (s.cmdsPut m).mem = s.mem := rfl

/-- A command of the legacy bus is queued where the engine runs and has room, and lost otherwise. -/
theorem State.almQueue_bus {w : Word} : s.almQueue ⟨w, false, 2, 0, 0, 0⟩
    = if s.almRuns = true ∧ s.replays = false ∧ s.alm.cmds.length < 16 then s.cmdsPut [⟨w, false, 2, 0, 0, 0⟩] else s := by
  unfold State.almQueue
  simp only [Nat.reduceBEq, Bool.or_self, Bool.false_eq_true, if_false, State.almReport]
  cases hruns : s.almRuns with
  | false => simp
  | true =>
    cases hrep : s.replays with
    | true => simp
    | false =>
      by_cases hroom : s.alm.cmds.length < 16
      · simp [hroom, Nat.not_le.mpr hroom, State.cmdsPut]
      · simp [hroom, Nat.le_of_not_lt hroom]

/-- The command that an ACK asks for. -/
def ackCmds (fr : List Byte) : List EngCmd :=
  if frameByte fr 6 = 1 then [⟨almWord 1 0 (frameByte fr 7), false, 2, 0, 0, 0⟩]
  else if frameByte fr 6 = 2 then [⟨almWord 2 0 (frameByte fr 7), false, 2, 0, 0, 0⟩]
  else if frameByte fr 6 = 3 then [⟨almWord 8 0 0, false, 2, 0, 0, 0⟩] else []

/-- A port takes ACKs from the destination of a frame. -/
def State.takesAck (s : State) (fr : List Byte) : Bool :=
  s.flag LEG_BCFG.ACKIN && s.drives && (frameByte fr 2 == 0 || frameByte fr 2 == s.get LEG_BCFG.ADDR)

theorem State.cmdsPut_nil : s.cmdsPut [] = s := by
  unfold State.cmdsPut
  rw [List.append_nil]

theorem State.legAck_eq : s.legAck fr = if s.takesAck fr = true ∧ s.almRuns = true ∧ s.replays = false ∧ s.alm.cmds.length < 16
    then s.cmdsPut (ackCmds fr) else s := by
  have htest : (!s.flag LEG_BCFG.ACKIN || !s.drives || !(frameByte fr 2 == 0 || frameByte fr 2 == s.get LEG_BCFG.ADDR)) = !s.takesAck fr := by
    rw [State.takesAck, Bool.not_and, Bool.not_and]
  unfold State.legAck
  dsimp only
  rw [htest]
  cases htakes : s.takesAck fr with
  | false => simp
  | true =>
    simp only [Bool.not_true, Bool.false_eq_true, if_false, State.almQueue_bus, true_and, ackCmds]
    split
    · next h => simp [h]
    · next h => simp [h]
    · next h => simp [h]
    · next h1 h2 h3 =>
      rw [if_neg h1, if_neg h2, if_neg h3, State.cmdsPut_nil, ite_self]

/-! ### The rows (R524) -/

/-- A telegram row with its type. -/
def LegRow (p : Fin 2) (fr : List Byte) (row : Nat × Instr) : Prop :=
  row ∈ [(1, .legacyAlarmRx p fr), (2, .legacyAckRx p fr), (3, .legacyValueRx p fr), (4, .legacyHeartbeatRx p fr), (5, .legacyTimeRx p fr)]

theorem legRow_ends (hup : s.up = true) (hbus : s.busOn = true) {p : Fin 2} {row : Nat × Instr} (hrow : LegRow p fr row)
    (h : P (settle (s.legFrame p fr))) : Completes row.2 s P := by
  have hends : ∃ t, busAct s (fun s => s.legFrame p.val fr) = .next t ∧ P t := busAct_ends hup hbus h
  simp only [LegRow, List.mem_cons, List.not_mem_nil, or_false] at hrow
  obtain rfl | rfl | rfl | rfl | rfl := hrow
  · exact completes_of_exec (o := execLegacyAlarmRx p fr s) rfl hends
  · exact completes_of_exec (o := execLegacyAckRx p fr s) rfl hends
  · exact completes_of_exec (o := execLegacyValueRx p fr s) rfl hends
  · exact completes_of_exec (o := execLegacyHeartbeatRx p fr s) rfl hends
  · exact completes_of_exec (o := execLegacyTimeRx p fr s) rfl hends

theorem countsUp_settle {f : Fld} : CountsUp f s (settle t) ↔ CountsUp f s t := by rw [CountsUp, CountsUp, State.get_settle]

/-- A frame counted at its port and otherwise left alone. -/
theorem counted_lineEdge {f : Fld} (hok : f.ok = true) (hf : f.addr = LEG_ECNT p) :
    CountsUp f s (settle ((s.lineEdge p false).inc f)) ∧ RegsKeptBut [LEG_ECNT p, LEG_PST p] s (settle ((s.lineEdge p false).inc f))
      ∧ MemKept s (settle ((s.lineEdge p false).inc f)) := by
  have hne : f.addr ∉ [LEG_PST p] := by
    rw [hf, List.mem_singleton]
    exact portRegs_apart.1
  refine ⟨countsUp_settle.mpr (countsUp_inc hok ((loopWork_lineEdge (l := [LEG_PST p]) (by simp)).get hne)), ?_⟩
  exact ((loopWork_lineEdge (by simp)).inc (by simp [hf])).settled.kept

theorem legacyFrameError_counts (hup : s.up = true) (hbus : s.busOn = true) (p : Fin 2) :
    Completes (.legacyFrameError p) s (fun t => CountsUp (LEG_ECNT.ERR p) s t ∧ RegsKeptBut [LEG_ECNT p, LEG_PST p] s t ∧ MemKept s t) :=
  completes_of_exec (o := execLegacyFrameError p s) rfl (busAct_ends hup hbus (counted_lineEdge rfl rfl))

section
variable {p : Fin 2} {row : Nat × Instr}

theorem legRow_own (hup : s.up = true) (hbus : s.busOn = true) (hrow : LegRow p fr row) (hown : s.ownFrame p fr = true) :
    Completes row.2 s (fun t => t.leg = s.leg ∧ AllKept s t) := by
  refine legRow_ends hup hbus hrow ?_
  rw [State.legFrame_own hown]
  exact bus_idle

theorem legRow_bad (hup : s.up = true) (hbus : s.busOn = true) (hrow : LegRow p fr row) (hown : s.ownFrame p fr = false) (hbad : telegramOk fr = false) :
    Completes row.2 s (fun t => CountsUp (LEG_ECNT.ERR p) s t ∧ RegsKeptBut [LEG_ECNT p, LEG_PST p] s t ∧ MemKept s t) := by
  refine legRow_ends hup hbus hrow ?_
  rw [State.legFrame_bad hown hbad]
  exact counted_lineEdge rfl rfl

theorem legRow_dup (hup : s.up = true) (hbus : s.busOn = true) (hrow : LegRow p fr row) (hdup : s.legTakes p typ fr true) :
    Completes row.2 s (fun t => CountsUp (LEG_ECNT.DUP p) s t ∧ t.leg.seen = s.leg.seen ∧ t.alm = s.alm
      ∧ RegsKeptBut [LEG_ECNT p, LEG_PST p] s t ∧ MemKept s t) := by
  obtain ⟨hcount, hkept⟩ := counted_lineEdge (s := s) (p := p) (f := LEG_ECNT.DUP p) rfl rfl
  refine legRow_ends hup hbus hrow ?_
  rw [State.legFrame_dup hdup]
  refine ⟨hcount, ?_, ?_, hkept⟩
  · rw [State.leg_settle, State.leg_inc, State.seen_lineEdge]
  · rw [State.alm_settle, State.alm_inc, State.alm_lineEdge]

theorem FrameTaken.known (h : FrameTaken p fr s t) : t.known a = s.known a := by
  unfold State.known
  by_cases ha : a ≤ 63
  · rw [get_of_reg_eq (h.regs _ (by simp only [LEG_PST]; omega))]
  · simp [ha]

theorem legRow_stranger (hup : s.up = true) (hbus : s.busOn = true) (hrow : LegRow p fr row) (htakes : s.legTakes p typ fr false)
    (hunknown : s.known (frameByte fr 1) = false) : Completes row.2 s (fun t => CountsUp (LEG_ECNT.STRANGER p) s t
      ∧ t.leg.seen = keepSeen ⟨s.busOf p, frameByte fr 1, frameByte fr 4, s.t.run⟩ s.leg.seen ∧ t.alm = s.alm
      ∧ RegsKeptBut [LEG_ECNT p, LEG_PST p] s t ∧ MemKept s t) := by
  have htaken := frameTaken_taken (s := s) (p := p) (fr := fr)
  have hwork : LoopWork [LEG_ECNT p, LEG_PST p] s (s.frameTaken p fr) := loopWork_frameTaken.mono (by simp)
  refine legRow_ends hup hbus hrow ?_
  rw [State.legFrame_taken htakes, htaken.known, hunknown, if_neg Bool.false_ne_true, countsUp_settle, State.leg_settle, State.leg_inc, State.alm_settle,
    State.alm_inc]
  exact ⟨countsUp_inc rfl (get_of_reg_eq (htaken.regs _ portRegs_apart.1)), htaken.seen, htaken.alm, (hwork.inc (by simp)).settled.kept⟩

/-! #### A known sender's telegram -/

/-- What a telegram does by its type: words of the received-signal table, alarm commands. -/
structure LegWork (typ : Nat) (s t : State) : Prop where
  regs : ∀ b, t.reg b = s.reg b
  sram : SramKeptBut rxWords s t
  mram : MramKept s t
  leg : t.leg = s.leg
  alm : typ ≠ 2 → t.alm = s.alm
  still : typ = 2 ∨ typ = 3 ∨ typ = 5 → SramKept s t

theorem LegWork.of_rxWork (h : RxWork s t) (htyp : typ ≠ 2 ∧ typ ≠ 3 ∧ typ ≠ 5) : LegWork typ s t :=
  ⟨h.regs, h.sram, h.mram, h.leg, fun _ => h.alm, fun ht => absurd ht (by omega)⟩

theorem legWork_still (hregs : ∀ b, t.reg b = s.reg b) (hmem : t.mem = s.mem) (hleg : t.leg = s.leg) (halm : typ ≠ 2 → t.alm = s.alm) : LegWork typ s t := by
  obtain ⟨hsram, hmram⟩ := memKept_of_mem_eq hmem
  exact ⟨hregs, fun b _ => hsram b, hmram, hleg, halm, fun _ => hsram⟩

theorem State.legApply_alarm (h : frameByte fr 3 % 64 = 1) : s.legApply p fr = s.legAlarms p fr := by
  unfold State.legApply
  simp only [h]

theorem State.legApply_ack (h : frameByte fr 3 % 64 = 2) : s.legApply p fr = s.legAck fr := by
  unfold State.legApply
  simp only [h]

theorem State.legApply_heartbeat (h : frameByte fr 3 % 64 = 4) : s.legApply p fr = s.legHeartbeat p fr := by
  unfold State.legApply
  simp only [h]

theorem State.legApply_nothing (h : frameByte fr 3 % 64 = 3 ∨ frameByte fr 3 % 64 = 5) : s.legApply p fr = s := by
  unfold State.legApply
  obtain h | h := h
  all_goals simp only [h]

theorem legWork_legAck : LegWork 2 s (s.legAck fr) := by
  rw [State.legAck_eq]
  split
  · exact legWork_still (fun _ => State.reg_cmdsPut) State.mem_cmdsPut State.leg_cmdsPut fun h => absurd rfl h
  · exact legWork_still (fun _ => rfl) rfl rfl fun _ => rfl

theorem legWork_legApply (htyp : frameByte fr 3 % 64 = typ) (hrow : typ = 1 ∨ typ = 2 ∨ typ = 3 ∨ typ = 4 ∨ typ = 5) :
    LegWork typ s (s.legApply p fr) := by
  obtain rfl | rfl | rfl | rfl | rfl := hrow
  · rw [State.legApply_alarm htyp]
    exact .of_rxWork rxWork_legAlarms (by decide)
  · rw [State.legApply_ack htyp]
    exact legWork_legAck
  · rw [State.legApply_nothing (.inl htyp)]
    exact legWork_still (fun _ => rfl) rfl rfl fun _ => rfl
  · rw [State.legApply_heartbeat htyp]
    exact .of_rxWork rxWork_legHeartbeat (by decide)
  · rw [State.legApply_nothing (.inr htyp)]
    exact legWork_still (fun _ => rfl) rfl rfl fun _ => rfl

theorem legRow_types (hrow : LegRow p fr row) : row.1 = 1 ∨ row.1 = 2 ∨ row.1 = 3 ∨ row.1 = 4 ∨ row.1 = 5 := by
  simp only [LegRow, List.mem_cons, List.not_mem_nil, or_false] at hrow
  obtain rfl | rfl | rfl | rfl | rfl := hrow
  all_goals simp

theorem legRow_known (hup : s.up = true) (hbus : s.busOn = true) (hrow : LegRow p fr row) (htakes : s.legTakes p row.1 fr false)
    (hknown : s.known (frameByte fr 1) = true) : Completes row.2 s (fun t => t.flag (LEG_PST.IDLE p) = false ∧ (t.portOf p).edgeAt = s.t.run
      ∧ t.leg.seen = keepSeen ⟨s.busOf p, frameByte fr 1, frameByte fr 4, s.t.run⟩ s.leg.seen
      ∧ (frameByte fr 1 = s.get LEG_BCFG.ADDR → frameByte fr 1 ≠ 0 → t.flag (LEG_PST.CONF p) = true)
      ∧ (row.1 ≠ 2 → t.alm = s.alm) ∧ (row.1 = 2 ∨ row.1 = 3 ∨ row.1 = 5 → SramKept s t)
      ∧ SramKeptBut rxWords s t ∧ MramKept s t ∧ RegsKeptBut [LEG_PST p] s t) := by
  have htaken := frameTaken_taken (s := s) (p := p) (fr := fr)
  have hwork : LegWork row.1 (s.frameTaken p fr) ((s.frameTaken p fr).legApply p fr) := legWork_legApply htakes.2.2.1 (legRow_types hrow)
  obtain ⟨hsram, hmram⟩ := memKept_of_mem_eq htaken.mem
  refine legRow_ends hup hbus hrow ?_
  rw [State.legFrame_taken htakes, htaken.known, hknown, if_pos rfl, State.flag_settle, State.flag_settle, State.portOf_settle, State.leg_settle,
    State.alm_settle, State.portOf_of_leg hwork.leg, hwork.leg, flag_of_reg_eq (hwork.regs _), flag_of_reg_eq (hwork.regs _)]
  refine ⟨htaken.idle, htaken.edge, htaken.seen, htaken.conf, fun h => (hwork.alm h).trans htaken.alm, fun h b => ?_, fun b hb => ?_, fun b => ?_, fun b hb => ?_⟩
  · exact ⟨(hwork.still h b).1.trans (hsram b).1, (hwork.still h b).2.trans (hsram b).2⟩
  · exact ⟨(hwork.sram b hb).1.trans (hsram b).1, (hwork.sram b hb).2.trans (hsram b).2⟩
  · exact ⟨(hwork.mram b).1.trans (hmram b).1, (hwork.mram b).2.trans (hmram b).2⟩
  · exact (State.reg_settle.trans (hwork.regs b)).trans (htaken.regs b (by simpa using hb))

/-! #### The effects of ALARM, HEARTBEAT and ACK -/

theorem FrameTaken.get_low (h : FrameTaken p fr s t) (hf : f.addr < LEG_PST 0) : t.get f = s.get f :=
  get_of_reg_eq (h.regs _ (by simp only [LEG_PST] at *; omega))

theorem FrameTaken.flag_low (h : FrameTaken p fr s t) (hf : f.addr < LEG_PST 0) : t.flag f = s.flag f := congrArg (· != 0) (h.get_low hf)

theorem FrameTaken.ts0 (h : FrameTaken p fr s t) : t.ts0 = s.ts0 := congrArg TimeS.round h.time

theorem FrameTaken.ts1 (h : FrameTaken p fr s t) : t.ts1 = s.ts1 := by
  unfold State.ts1
  rw [h.time, h.flag_low (by decide), h.flag_low (by decide)]

theorem FrameTaken.sramAt (h : FrameTaken p fr s t) : t.sramAt a = s.sramAt a := by
  unfold State.sramAt
  rw [h.mem]

theorem FrameTaken.legSrc (h : FrameTaken p fr s t) : t.legSrc p a = s.legSrc p a := by
  unfold State.legSrc
  rw [State.busOf_of_get (h.get_low (by decide))]

theorem FrameTaken.rxEntries (h : FrameTaken p fr s t) : i ∈ t.rxEntries src idx ↔ i ∈ s.rxEntries src idx := by
  simp only [State.mem_rxEntries, h.sramAt, h.mem]

theorem FrameTaken.srcEntries (h : FrameTaken p fr s t) : i ∈ t.srcEntries src ↔ i ∈ s.srcEntries src := by
  simp only [State.mem_srcEntries, h.mem]

/-- An ALARM of one entry, taken from a known sender. -/
theorem State.legFrame_oneAlarm (htakes : s.legTakes p 1 fr false) (hknown : s.known (frameByte fr 1) = true) (hone : frameByte fr 5 = 3)
    (hpoint : frameByte fr 6 ≤ 127) : s.legFrame p fr = (s.frameTaken p fr).alarmSet p fr (frameByte fr 6) (frameByte fr 7 / 32) := by
  have hrange : List.range (min 16 (frameByte fr 5 / 3)) = [0] := by rw [hone]; rfl
  rw [State.legFrame_taken htakes, frameTaken_taken.known, hknown, if_pos rfl, State.legApply_alarm htakes.2.2.1, State.legAlarms, hrange,
    List.foldl_cons, List.foldl_nil, State.legAlarm_eq]
  exact if_neg (Nat.not_lt.mpr hpoint)

theorem RxShows.alarm {c : Nat} (h : RxShows i (frameByte fr 7 / 32 == 1 || frameByte fr 7 / 32 == c) s.ts0 s.ts1 t) :
    wbit ((settle t).sramAt (rxAddr i + 2)) 35 = decide (frameByte fr 7 / 32 = 1 ∨ frameByte fr 7 / 32 = c)
      ∧ (settle t).sramAt (rxAddr i + 3) = s.ts0 ∧ (settle t).sramAt (rxAddr i + 4) = s.ts1 := by
  obtain ⟨hval, h3, h4⟩ := h
  have hdecide : decide (frameByte fr 7 / 32 = 1 ∨ frameByte fr 7 / 32 = c) = (frameByte fr 7 / 32 == 1 || frameByte fr 7 / 32 == c) := by
    rw [Bool.decide_or]
    rfl
  rw [State.sramAt_settle, State.sramAt_settle, State.sramAt_settle, hdecide]
  exact ⟨hval, h3, h4⟩

theorem legacyAlarmRx_sets (hup : s.up = true) (hbus : s.busOn = true) (htakes : s.legTakes p 1 fr false) (hknown : s.known (frameByte fr 1) = true)
    (hone : frameByte fr 5 = 3) (hpoint : frameByte fr 6 ≤ 127)
    (hnew : tsLess s.ts0 s.ts1 (s.sramAt (rxAddr i + 3)) (s.sramAt (rxAddr i + 4)) = false) :
    (i ∈ s.rxEntries (s.legSrc p (frameByte fr 1)) (frameByte fr 6) → Completes (.legacyAlarmRx p fr) s (fun t =>
        wbit (t.sramAt (rxAddr i + 2)) 35 = decide (frameByte fr 7 / 32 = 1 ∨ frameByte fr 7 / 32 = 2)
        ∧ t.sramAt (rxAddr i + 3) = s.ts0 ∧ t.sramAt (rxAddr i + 4) = s.ts1))
    ∧ (i ∈ s.rxEntries (s.legSrc p (frameByte fr 1)) (128 + frameByte fr 6) → Completes (.legacyAlarmRx p fr) s (fun t =>
        wbit (t.sramAt (rxAddr i + 2)) 35 = decide (frameByte fr 7 / 32 = 1 ∨ frameByte fr 7 / 32 = 3)
        ∧ t.sramAt (rxAddr i + 3) = s.ts0 ∧ t.sramAt (rxAddr i + 4) = s.ts1)) := by
  have htaken := frameTaken_taken (s := s) (p := p) (fr := fr)
  have hnew' : tsLess (s.frameTaken p fr).ts0 (s.frameTaken p fr).ts1 ((s.frameTaken p fr).sramAt (rxAddr i + 3))
      ((s.frameTaken p fr).sramAt (rxAddr i + 4)) = false := by
    rwa [htaken.ts0, htaken.ts1, htaken.sramAt, htaken.sramAt]
  refine ⟨fun hi => legRow_ends (row := (1, .legacyAlarmRx p fr)) hup hbus List.mem_cons_self ?_,
    fun hi => legRow_ends (row := (1, .legacyAlarmRx p fr)) hup hbus List.mem_cons_self ?_⟩
  · rw [State.legFrame_oneAlarm htakes hknown hone hpoint, ← htaken.ts0, ← htaken.ts1]
    rw [← htaken.legSrc, ← htaken.rxEntries] at hi
    exact (rxShows_alarmSet_value hi hnew').alarm
  · rw [State.legFrame_oneAlarm htakes hknown hone hpoint, ← htaken.ts0, ← htaken.ts1]
    rw [← htaken.legSrc, ← htaken.rxEntries] at hi
    exact (rxShows_alarmSet_unacked hi hnew').alarm

theorem legacyHeartbeatRx_refreshes (hup : s.up = true) (hbus : s.busOn = true) (htakes : s.legTakes p 4 fr false) (hknown : s.known (frameByte fr 1) = true)
    (hi : i ∈ s.srcEntries (s.legSrc p (frameByte fr 1))) :
    Completes (.legacyHeartbeatRx p fr) s (fun t => t.sramAt (rxAddr i + 5) = s.ts0 ∧ t.sramAt (rxAddr i + 6) = s.ts1) := by
  have htaken := frameTaken_taken (s := s) (p := p) (fr := fr)
  have hrow : LegRow p fr (4, .legacyHeartbeatRx p fr) := by simp [LegRow]
  refine legRow_ends hup hbus hrow ?_
  rw [State.legFrame_taken htakes, htaken.known, hknown, if_pos rfl, State.legApply_heartbeat htakes.2.2.1, State.legHeartbeat_eq,
    State.sramAt_settle, State.sramAt_settle, ← htaken.ts0, ← htaken.ts1]
  rw [← htaken.legSrc, ← htaken.srcEntries] at hi
  exact rxFresh_foldl (.inl hi) rfl rfl srcEntries_lt

theorem FrameTaken.pstate (h : FrameTaken p fr s t) : t.pstate = s.pstate := h.get_low (by decide)

theorem FrameTaken.takesAck (h : FrameTaken p fr s t) : t.takesAck fr = s.takesAck fr := by
  unfold State.takesAck State.drives
  rw [h.flag_low (by decide), h.pstate, h.img, h.get_low (by decide)]

theorem State.legFrame_ack (htakes : s.legTakes p 2 fr false) (hknown : s.known (frameByte fr 1) = true) :
    s.legFrame p fr = if s.takesAck fr = true ∧ s.almRuns = true ∧ s.replays = false ∧ s.alm.cmds.length < 16
      then (s.frameTaken p fr).cmdsPut (ackCmds fr) else s.frameTaken p fr := by
  have htaken := frameTaken_taken (s := s) (p := p) (fr := fr)
  have hruns : (s.frameTaken p fr).almRuns = s.almRuns := by
    unfold State.almRuns
    rw [htaken.life, htaken.img]
  have hreplays : (s.frameTaken p fr).replays = s.replays := by
    unfold State.replays
    rw [htaken.pstate]
  rw [State.legFrame_taken htakes, htaken.known, hknown, if_pos rfl, State.legApply_ack htakes.2.2.1, State.legAck_eq, htaken.takesAck, hruns, hreplays,
    htaken.alm]

theorem legacyAckRx_queues (hup : s.up = true) (hbus : s.busOn = true) (htakes : s.legTakes p 2 fr false) (hknown : s.known (frameByte fr 1) = true) :
    (s.flag LEG_BCFG.ACKIN = true → s.drives = true → s.almRuns = true → s.replays = false → (frameByte fr 2 = 0 ∨ frameByte fr 2 = s.get LEG_BCFG.ADDR) →
      s.alm.cmds.length < 16 → Completes (.legacyAckRx p fr) s (fun t => t.alm.cmds = s.alm.cmds
        ++ (if frameByte fr 6 = 1 then [⟨almWord 1 0 (frameByte fr 7), false, 2, 0, 0, 0⟩]
          else if frameByte fr 6 = 2 then [⟨almWord 2 0 (frameByte fr 7), false, 2, 0, 0, 0⟩]
          else if frameByte fr 6 = 3 then [⟨almWord 8 0 0, false, 2, 0, 0, 0⟩] else [])))
    ∧ (s.flag LEG_BCFG.ACKIN = false ∨ s.drives = false ∨ (frameByte fr 2 ≠ 0 ∧ frameByte fr 2 ≠ s.get LEG_BCFG.ADDR) →
      Completes (.legacyAckRx p fr) s (fun t => t.alm = s.alm)) := by
  have halm : (s.frameTaken p fr).alm = s.alm := frameTaken_taken.alm
  have hrow : LegRow p fr (2, .legacyAckRx p fr) := by simp [LegRow]
  refine ⟨fun hin hdrives hruns hreplays hdst hroom => legRow_ends hup hbus hrow ?_, fun hno => legRow_ends hup hbus hrow ?_⟩
  · have hyes : s.takesAck fr = true := by simp [State.takesAck, hin, hdrives, hdst]
    rw [State.legFrame_ack htakes hknown, if_pos ⟨hyes, hruns, hreplays, hroom⟩, State.alm_settle, State.cmds_cmdsPut, halm]
    rfl
  · have hskip : s.takesAck fr = false := by
      obtain h | h | ⟨h0, h1⟩ := hno
      · simp [State.takesAck, h]
      · simp [State.takesAck, h]
      · simp [State.takesAck, h0, h1]
    rw [State.legFrame_ack htakes hknown, if_neg (by simp [hskip]), State.alm_settle, halm]

end

end

/-- Settles O59: a frame goes through its checks, and a known sender's telegram does what its type says; log 56's record of strangers' frames and
the node's own address heard from another are stated in its clauses. -/
theorem legacyBusReceives : Obligations.LegacyBusReceives :=
  fun _ p hup hbus => ⟨legacyFrameError_counts hup hbus p, fun _ _ hrow => ⟨legRow_own hup hbus hrow, legRow_bad hup hbus hrow, legRow_dup hup hbus hrow,
      legRow_stranger hup hbus hrow, legRow_known hup hbus hrow⟩,
    fun _ _ htakes hknown hone hpoint hnew => legacyAlarmRx_sets hup hbus htakes hknown hone hpoint hnew,
    fun _ _ htakes hknown hi => legacyHeartbeatRx_refreshes hup hbus htakes hknown hi, fun _ htakes hknown => legacyAckRx_queues hup hbus htakes hknown⟩

end Sys2Proof.Machine

namespace Sys2Proof.Machine

open Sys2Proof

section
variable {s t u : State} {P : State → Prop} {f g : Fld} {a b c i k n v : Nat} {w : Word} {l : List Nat} {x : Bool} {y : ClkS}

/-! ## The calendar domain (R437 to R451) -/

/-- A command of the calendar domain ends in what its work leaves, the unit up or not. -/
theorem done_ends {o : Host.Outcome State Fault Refusal} (ho : o = done t) (h : P (settle t)) : ∃ z, o = .next z ∧ P z := ⟨_, ho, h⟩

/-- The calendar beside its registers is replaced. -/
def State.setClk (s : State) (y : ClkS) : State := { s with clk := y }

theorem State.clk_setClk : (s.setClk y).clk = y := rfl
theorem State.reg_setClk : (s.setClk y).reg b = s.reg b := rfl
theorem State.get_setClk : (s.setClk y).get f = s.get f := rfl
theorem State.flag_setClk : (s.setClk y).flag f = s.flag f := rfl
theorem loopWork_setClk : LoopWork l s (s.setClk y) := loopWork_of_eq rfl rfl

/-! ### The end of a second (R438, R440, R441, R447) -/

/-- Registers that the end of a second changes. -/
def secondRegs : List Nat := [CLK_DATE, CLK_TIME, CLK_STAT, CLK_UTC, HST_ISRC]

theorem loopWork_oscStopped (hstat : CLK_STAT ∈ l) (hisrc : HST_ISRC ∈ l) : LoopWork l s (s.oscStopped n) :=
  .ite ((((LoopWork.refl.putB hstat).put hstat)).raise hisrc) ((LoopWork.refl.putB hstat).put hstat)

theorem State.flag_oscStopped (hosf : f.apart CLK_STAT.OSF = true) (hcause : f.apart CLK_STAT.CAUSE = true) (hisrc : f.addr ≠ HST_ISRC) :
    (s.oscStopped n).flag f = s.flag f := by
  unfold State.oscStopped
  dsimp only
  split
  · unfold State.raise
    rw [flag_of_reg_eq (State.reg_put_other hisrc), State.flag_put_other rfl hcause, State.flag_putB_other rfl hosf]
  · rw [State.flag_put_other rfl hcause, State.flag_putB_other rfl hosf]

theorem State.clk_oscStopped : (s.oscStopped n).clk = s.clk := by
  unfold State.oscStopped
  dsimp only
  split <;> simp

/-- A step of the calendar within the end of a second. -/
structure Second (s t : State) : Prop where
  work : LoopWork secondRegs s t
  shift : t.flag CLK_STAT.SHPEND = s.flag CLK_STAT.SHPEND
  clk : t.clk = s.clk

theorem Second.setReg (hb : b = CLK_DATE ∨ b = CLK_TIME) : Second s (s.setReg b w) where
  work := by
    refine LoopWork.refl.setReg ?_
    obtain rfl | rfl := hb
    all_goals decide
  shift := flag_of_reg_eq (State.reg_setReg_other (by obtain rfl | rfl := hb <;> decide))
  clk := State.clk_setReg

theorem Second.trans (h : Second s t) (h' : Second t u) : Second s u := ⟨h.work.trans h'.work, h'.shift.trans h.shift, h'.clk.trans h.clk⟩

/-- Midnight as the fields show it. -/
def State.midnightShown (s : State) : State := (s.setReg CLK_DATE (dateWord (dayOf (s.reg CLK_DATE) + 1))).setReg CLK_TIME (timeWord 0 0 0 0)

theorem State.midnight_eq : s.midnight
    = if dayOf (s.reg CLK_DATE) + 1 ≥ calendarDays then s.midnightShown.oscStopped 3 else s.midnightShown := rfl

theorem midnight_second : Second s s.midnight := by
  have hshown : Second s s.midnightShown := (Second.setReg (.inl rfl)).trans (.setReg (.inr rfl))
  rw [State.midnight_eq]
  split
  · exact hshown.trans ⟨loopWork_oscStopped (by decide) (by decide), State.flag_oscStopped rfl rfl (by decide), State.clk_oscStopped⟩
  · exact hshown

theorem midnight_reg (hstat : b ≠ CLK_STAT) (hisrc : b ≠ HST_ISRC) : s.midnight.reg b = s.midnightShown.reg b := by
  rw [State.midnight_eq]
  split
  · exact (loopWork_oscStopped (l := [CLK_STAT, HST_ISRC]) (by simp) (by simp)).regs b (by simp [hstat, hisrc])
  · rfl

theorem midnight_shows : s.midnight.reg CLK_TIME = timeWord 0 0 0 0 ∧ s.midnight.reg CLK_DATE = dateWord (dayOf (s.reg CLK_DATE) + 1)
    ∧ s.midnight.reg CLK_UTC = s.reg CLK_UTC := by
  rw [midnight_reg (by decide) (by decide), midnight_reg (by decide) (by decide), midnight_reg (by decide) (by decide)]
  unfold State.midnightShown
  rw [State.reg_setReg_same, State.reg_setReg_other (by decide), State.reg_setReg_same, State.reg_setReg_other (by decide),
    State.reg_setReg_other (by decide)]
  exact ⟨rfl, rfl, rfl⟩

theorem leapDone_second : Second s (s.leapDone x) where
  work := (LoopWork.refl.put (by decide)).put (by decide)
  shift := (State.flag_put_other rfl rfl).trans (State.flag_put_other rfl rfl)
  clk := by
    unfold State.leapDone
    rw [State.clk_put, State.clk_put]

theorem leapDone_shows : (s.leapDone x).get CLK_UTC.UTCOFS = (s.get CLK_UTC.UTCOFS + (if x then 1 else 255)) % 256 ∧ (s.leapDone x).get CLK_UTC.LEAP = 0
    ∧ (s.leapDone x).reg CLK_TIME = s.reg CLK_TIME ∧ (s.leapDone x).reg CLK_DATE = s.reg CLK_DATE := by
  unfold State.leapDone
  rw [State.get_put_other rfl rfl, State.get_put_same rfl, State.get_put_same rfl, State.reg_put_other (by decide), State.reg_put_other (by decide),
    State.reg_put_other (by decide), State.reg_put_other (by decide)]
  exact ⟨rfl, rfl, rfl, rfl⟩

/-- The date and time a second later (R438, R440). -/
structure Advanced (s t : State) : Prop where
  second : Second s t
  usual : secOf (s.reg CLK_TIME) < 86398 ∨ (secOf (s.reg CLK_TIME) = 86398 ∧ s.get CLK_UTC.LEAP ≠ 2) →
    t.reg CLK_TIME = timeWord ((secOf (s.reg CLK_TIME) + 1) / 3600) ((secOf (s.reg CLK_TIME) + 1) / 60 % 60) ((secOf (s.reg CLK_TIME) + 1) % 60) 0
      ∧ t.reg CLK_DATE = s.reg CLK_DATE ∧ t.reg CLK_UTC = s.reg CLK_UTC
  inserted : secOf (s.reg CLK_TIME) = 86399 ∧ s.get CLK_UTC.LEAP = 1 →
    t.reg CLK_TIME = timeWord 23 59 60 0 ∧ t.reg CLK_DATE = s.reg CLK_DATE ∧ t.reg CLK_UTC = s.reg CLK_UTC
  day : secOf (s.reg CLK_TIME) = 86399 ∧ s.get CLK_UTC.LEAP ≠ 1 → t.reg CLK_TIME = timeWord 0 0 0 0
      ∧ t.reg CLK_DATE = dateWord (dayOf (s.reg CLK_DATE) + 1) ∧ t.reg CLK_UTC = s.reg CLK_UTC
  afterInserted : 86400 ≤ secOf (s.reg CLK_TIME) → t.reg CLK_TIME = timeWord 0 0 0 0 ∧ t.reg CLK_DATE = dateWord (dayOf (s.reg CLK_DATE) + 1)
      ∧ t.get CLK_UTC.UTCOFS = (s.get CLK_UTC.UTCOFS + 1) % 256 ∧ t.get CLK_UTC.LEAP = 0
  omitted : secOf (s.reg CLK_TIME) = 86398 ∧ s.get CLK_UTC.LEAP = 2 → t.reg CLK_TIME = timeWord 0 0 0 0
      ∧ t.reg CLK_DATE = dateWord (dayOf (s.reg CLK_DATE) + 1) ∧ t.get CLK_UTC.UTCOFS = (s.get CLK_UTC.UTCOFS + 255) % 256 ∧ t.get CLK_UTC.LEAP = 0

theorem State.advanceSecond_afterInserted (h : 86400 ≤ secOf (s.reg CLK_TIME)) : s.advanceSecond = s.midnight.leapDone true := if_pos h

theorem State.advanceSecond_inserted (h : secOf (s.reg CLK_TIME) = 86399) (hleap : s.get CLK_UTC.LEAP = 1) :
    s.advanceSecond = s.setReg CLK_TIME (timeWord 23 59 60 0) := by
  unfold State.advanceSecond
  simp [h, hleap]

theorem State.advanceSecond_omitted (h : secOf (s.reg CLK_TIME) = 86398) (hleap : s.get CLK_UTC.LEAP = 2) : s.advanceSecond = s.midnight.leapDone false := by
  unfold State.advanceSecond
  simp [h, hleap]

theorem State.advanceSecond_day (h : secOf (s.reg CLK_TIME) = 86399) (hleap : s.get CLK_UTC.LEAP ≠ 1) : s.advanceSecond = s.midnight := by
  unfold State.advanceSecond
  simp [h, hleap]

theorem State.advanceSecond_usual (h : secOf (s.reg CLK_TIME) < 86398 ∨ (secOf (s.reg CLK_TIME) = 86398 ∧ s.get CLK_UTC.LEAP ≠ 2)) : s.advanceSecond
    = s.setReg CLK_TIME (timeWord ((secOf (s.reg CLK_TIME) + 1) / 3600) ((secOf (s.reg CLK_TIME) + 1) / 60 % 60) ((secOf (s.reg CLK_TIME) + 1) % 60) 0) := by
  unfold State.advanceSecond
  dsimp only
  rw [if_neg (by omega), if_neg (by simp only [Bool.and_eq_true, beq_iff_eq]; omega), if_neg (by simp only [Bool.and_eq_true, beq_iff_eq]; omega),
    if_neg (by simp only [beq_iff_eq]; omega)]

theorem advanceSecond_advances : Advanced s s.advanceSecond := by
  obtain ⟨htime, hdate, hutc⟩ := midnight_shows (s := s)
  have hset : ∀ w, (s.setReg CLK_TIME w).reg CLK_TIME = w ∧ (s.setReg CLK_TIME w).reg CLK_DATE = s.reg CLK_DATE
      ∧ (s.setReg CLK_TIME w).reg CLK_UTC = s.reg CLK_UTC := fun w =>
    ⟨State.reg_setReg_same, State.reg_setReg_other (by decide), State.reg_setReg_other (by decide)⟩
  by_cases hafter : 86400 ≤ secOf (s.reg CLK_TIME)
  · obtain ⟨hofs, hleap, htime', hdate'⟩ := leapDone_shows (s := s.midnight) (x := true)
    rw [State.advanceSecond_afterInserted hafter]
    exact ⟨midnight_second.trans leapDone_second, fun h => absurd hafter (by omega), fun h => absurd hafter (by omega), fun h => absurd hafter (by omega),
      fun _ => ⟨htime'.trans htime, hdate'.trans hdate, hofs.trans (by rw [get_of_reg_eq hutc]; rfl), hleap⟩, fun h => absurd hafter (by omega)⟩
  by_cases hins : secOf (s.reg CLK_TIME) = 86399 ∧ s.get CLK_UTC.LEAP = 1
  · rw [State.advanceSecond_inserted hins.1 hins.2]
    exact ⟨.setReg (.inr rfl), fun h => absurd hins.1 (by omega), fun _ => hset _, fun h => absurd hins.2 h.2, fun h => absurd h hafter,
      fun h => absurd hins.1 (by omega)⟩
  by_cases homit : secOf (s.reg CLK_TIME) = 86398 ∧ s.get CLK_UTC.LEAP = 2
  · obtain ⟨hofs, hleap, htime', hdate'⟩ := leapDone_shows (s := s.midnight) (x := false)
    rw [State.advanceSecond_omitted homit.1 homit.2]
    exact ⟨midnight_second.trans leapDone_second, fun h => absurd homit (by omega), fun h => absurd homit.1 (by omega), fun h => absurd homit.1 (by omega),
      fun h => absurd h hafter, fun _ => ⟨htime'.trans htime, hdate'.trans hdate, hofs.trans (by rw [get_of_reg_eq hutc]; rfl), hleap⟩⟩
  by_cases hday : secOf (s.reg CLK_TIME) = 86399
  · rw [State.advanceSecond_day hday fun h => hins ⟨hday, h⟩]
    exact ⟨midnight_second, fun h => absurd hday (by omega), fun h => absurd h hins, fun _ => ⟨htime, hdate, hutc⟩, fun h => absurd h hafter,
      fun h => absurd h homit⟩
  · have husual : secOf (s.reg CLK_TIME) < 86398 ∨ (secOf (s.reg CLK_TIME) = 86398 ∧ s.get CLK_UTC.LEAP ≠ 2) := by omega
    rw [State.advanceSecond_usual husual]
    exact ⟨.setReg (.inr rfl), fun _ => hset _, fun h => absurd h.1 hday, fun h => absurd h.1 hday, fun h => absurd h hafter, fun h => absurd h homit⟩

/-- A second begins: no shift pending, no cycle counted. -/
def State.secondBegun (s : State) : State := (s.setClk { s.clk with shift := 0, count := 0 }).putB CLK_STAT.SHPEND false

theorem State.clk_secondBegun : s.secondBegun.clk.shift = 0 ∧ s.secondBegun.clk.count = 0 := by
  unfold State.secondBegun
  rw [State.clk_putB]
  exact ⟨rfl, rfl⟩

theorem State.reg_secondBegun (h : b ≠ CLK_STAT) : s.secondBegun.reg b = s.reg b := State.reg_putB_other h

theorem State.calendarSecond_eq : s.calendarSecond = s.secondBegun.advanceSecond.trimSecond := rfl

/-- What the trim adds, and the remainder that it carries on. -/
def State.trimClk (s : State) : ClkS :=
  let r := s.clk.rem + signed 12 (s.get CLK_TRIM.TRIM) * 32768
  let a := if r ≥ 0 then r / 10000000 else -((-r) / 10000000)
  { s.clk with rem := r - a * 10000000, adj := a }

theorem State.trimSecond_eq : s.trimSecond = s.setClk s.trimClk := rfl

theorem State.trimClk_keeps : s.trimClk.shift = s.clk.shift ∧ s.trimClk.count = s.clk.count := ⟨rfl, rfl⟩

theorem calendarSecond_early (htimed : s.timed = true) (hleft : s.clk.left ≠ 1) :
    Completes .calendarSecond s (fun t => t.clk = s.clk ∧ AllKept s t) := by
  refine completes_of_exec (o := execCalendarSecond s) rfl (done_ends rfl ?_)
  rw [htimed, if_pos (by simp [hleft]), State.clk_settle]
  exact ⟨rfl, allKept_settle⟩

/-- A second ends. -/
theorem calendarSecond_ends (hnow : s.timed = false ∨ s.clk.left = 1) : Completes .calendarSecond s (fun t =>
    t.clk.count = 0 ∧ t.flag CLK_STAT.SHPEND = false ∧ t.clk.shift = 0
    ∧ (secOf (s.reg CLK_TIME) < 86398 ∨ (secOf (s.reg CLK_TIME) = 86398 ∧ s.get CLK_UTC.LEAP ≠ 2) →
        t.reg CLK_TIME = timeWord ((secOf (s.reg CLK_TIME) + 1) / 3600) ((secOf (s.reg CLK_TIME) + 1) / 60 % 60)
          ((secOf (s.reg CLK_TIME) + 1) % 60) 0 ∧ t.reg CLK_DATE = s.reg CLK_DATE ∧ t.reg CLK_UTC = s.reg CLK_UTC)
    ∧ (secOf (s.reg CLK_TIME) = 86399 ∧ s.get CLK_UTC.LEAP = 1 →
        t.reg CLK_TIME = timeWord 23 59 60 0 ∧ t.reg CLK_DATE = s.reg CLK_DATE ∧ t.reg CLK_UTC = s.reg CLK_UTC)
    ∧ (secOf (s.reg CLK_TIME) = 86399 ∧ s.get CLK_UTC.LEAP ≠ 1 → t.reg CLK_TIME = timeWord 0 0 0 0
        ∧ t.reg CLK_DATE = dateWord (dayOf (s.reg CLK_DATE) + 1) ∧ t.reg CLK_UTC = s.reg CLK_UTC)
    ∧ (86400 ≤ secOf (s.reg CLK_TIME) → t.reg CLK_TIME = timeWord 0 0 0 0 ∧ t.reg CLK_DATE = dateWord (dayOf (s.reg CLK_DATE) + 1)
        ∧ t.get CLK_UTC.UTCOFS = (s.get CLK_UTC.UTCOFS + 1) % 256 ∧ t.get CLK_UTC.LEAP = 0)
    ∧ (secOf (s.reg CLK_TIME) = 86398 ∧ s.get CLK_UTC.LEAP = 2 → t.reg CLK_TIME = timeWord 0 0 0 0
        ∧ t.reg CLK_DATE = dateWord (dayOf (s.reg CLK_DATE) + 1)
        ∧ t.get CLK_UTC.UTCOFS = (s.get CLK_UTC.UTCOFS + 255) % 256 ∧ t.get CLK_UTC.LEAP = 0)
    ∧ RegsKeptBut [CLK_DATE, CLK_TIME, CLK_STAT, CLK_UTC, HST_ISRC] s t ∧ MemKept s t) := by
  have hadv := advanceSecond_advances (s := s.secondBegun)
  have hbegun : LoopWork secondRegs s s.secondBegun := loopWork_setClk.putB (by decide)
  have hshift : s.secondBegun.flag CLK_STAT.SHPEND = false := State.flag_putB_same rfl
  have htime : s.secondBegun.reg CLK_TIME = s.reg CLK_TIME := State.reg_secondBegun (by decide)
  have hdate : s.secondBegun.reg CLK_DATE = s.reg CLK_DATE := State.reg_secondBegun (by decide)
  have hutc : s.secondBegun.reg CLK_UTC = s.reg CLK_UTC := State.reg_secondBegun (by decide)
  obtain ⟨hsecond, husual, hins, hday, hafter, homit⟩ := hadv
  have hleap : s.secondBegun.get CLK_UTC.LEAP = s.get CLK_UTC.LEAP := get_of_reg_eq hutc
  have hofs : s.secondBegun.get CLK_UTC.UTCOFS = s.get CLK_UTC.UTCOFS := get_of_reg_eq hutc
  rw [htime, hdate, hutc, hleap] at husual
  rw [htime, hdate, hutc, hleap] at hins
  rw [htime, hdate, hutc, hleap] at hday
  rw [htime, hdate, hofs] at hafter
  rw [htime, hdate, hofs, hleap] at homit
  refine completes_of_exec (o := execCalendarSecond s) rfl (done_ends rfl ?_)
  rw [if_neg (by obtain h | h := hnow <;> simp [h]), State.calendarSecond_eq, State.trimSecond_eq]
  simp only [State.clk_settle, State.flag_settle, State.reg_settle, State.get_settle, State.clk_setClk, State.flag_setClk, State.reg_setClk, State.get_setClk,
    State.trimClk_keeps, hsecond.clk, hsecond.shift, hshift, State.clk_secondBegun]
  exact ⟨trivial, trivial, trivial, husual, hins, hday, hafter, homit, ((hbegun.trans hsecond.work).trans loopWork_setClk).settled.kept⟩

/-! ### Oscillator, domain start, supply and cell (R437, R441, R442) -/

theorem oscillatorStop_shows : Completes .oscillatorStop s (fun t => t.flag CLK_STAT.OSF = true ∧ t.get CLK_STAT.CAUSE = 2
    ∧ (s.up = true → t.flag HST_ISRC.CLK = true) ∧ RegsKeptBut [CLK_STAT, HST_ISRC] s t ∧ MemKept s t) := by
  have hshown : ((s.putB CLK_STAT.OSF true).put CLK_STAT.CAUSE 2).flag CLK_STAT.OSF = true
      ∧ ((s.putB CLK_STAT.OSF true).put CLK_STAT.CAUSE 2).get CLK_STAT.CAUSE = 2 :=
    ⟨(State.flag_put_other rfl rfl).trans (State.flag_putB_same rfl), State.get_put_same rfl⟩
  have hup : ((s.putB CLK_STAT.OSF true).put CLK_STAT.CAUSE 2).up = s.up := by
    unfold State.up
    rw [State.life_put, State.life_putB]
  have hkept := (loopWork_oscStopped (s := s) (n := 2) (l := [CLK_STAT, HST_ISRC]) (by simp) (by simp)).settled.kept
  refine completes_of_exec (o := execOscillatorStop s) rfl (done_ends rfl ⟨?_, ?_, ?_, hkept⟩)
  all_goals unfold State.oscStopped
  all_goals dsimp only
  all_goals rw [hup]
  · rw [State.flag_settle]
    split
    · exact (flag_of_reg_eq (State.reg_put_other (by decide))).trans hshown.1
    · exact hshown.1
  · rw [State.get_settle]
    split
    · exact (State.get_put_other rfl rfl).trans hshown.2
    · exact hshown.2
  · intro h
    rw [if_pos h, State.flag_settle]
    exact State.flag_putB_same (x := true) rfl

/-- Registers of the calendar domain. -/
def clkDomain (a : Nat) : Bool := CLK_DATE ≤ a && a ≤ CLK_BK 15

/-- A store without the words at addresses of a kind. -/
theorem Store.read_filter {d : Nat → Word} {m : Store} {q : Nat → Bool} :
    Store.read d (m.filter fun e => !q e.1) a = if q a then d a else Store.read d m a := by
  induction m with
  | nil => simp [Store.read]
  | cons e r ih =>
    obtain ⟨b, w⟩ := e
    by_cases hb : q b = true
    · rw [List.filter_cons_of_neg (by simp [hb]), ih, Store.read]
      by_cases hba : b = a
      · subst hba
        rw [if_pos hb, if_pos hb]
      · rw [if_neg hba]
    · rw [List.filter_cons_of_pos (by simp [hb]), Store.read, Store.read, ih]
      by_cases hba : b = a
      · subst hba
        rw [if_pos rfl, if_pos rfl, if_neg hb]
      · rw [if_neg hba, if_neg hba]

/-- The domain without its state. -/
def State.clkLost (s : State) : State := { s with regs := s.regs.filter (fun e => !clkDomain e.1), clk := ClkS.fresh }

theorem State.reg_clkLost : s.clkLost.reg a = if clkDomain a then regReset a else s.reg a := Store.read_filter

theorem State.mem_clkLost : s.clkLost.mem = s.mem := rfl

theorem calendarDomainStart_resets : Completes .calendarDomainStart s (fun t => (∀ a, CLK_DATE ≤ a → a ≤ CLK_BK 15 → t.reg a = regReset a)
    ∧ (∀ a, a < CLK_DATE ∨ CLK_BK 15 < a → t.reg a = s.reg a) ∧ MemKept s t) := by
  refine completes_of_exec (o := execCalendarDomainStart s) rfl (done_ends (t := s.clkLost) rfl ?_)
  refine ⟨fun a hlo hhi => ?_, fun a hout => ?_, ?_⟩
  · rw [State.reg_settle]
    exact State.reg_clkLost.trans (if_pos (by simp [clkDomain, hlo, hhi]))
  · rw [State.reg_settle]
    exact State.reg_clkLost.trans (if_neg (by simp only [clkDomain, Bool.and_eq_true, decide_eq_true_eq]; omega))
  · exact (memKept_of_mem_eq State.mem_clkLost).trans allKept_settle.2

theorem calendarSupplyChange_shows (vsup vbk : Bool) : Completes (.calendarSupplyChange vsup vbk) s (fun t =>
    t.get CLK_STAT.SUPPLY = (if vsup then 0 else if vbk then 1 else 2) ∧ t.flag CLK_STAT.VBKOK = vbk ∧ RegsKeptBut [CLK_STAT] s t ∧ MemKept s t) := by
  refine completes_of_exec (o := execCalendarSupplyChange vsup vbk s) rfl (done_ends rfl ?_)
  rw [State.get_settle, State.flag_settle, State.get_putB_other rfl rfl, State.get_put_same rfl, State.flag_putB_same rfl]
  refine ⟨?_, rfl, ((LoopWork.refl.put (by simp)).putB (by simp)).settled.kept⟩
  cases vsup <;> cases vbk <;> rfl

theorem cellChargeChange_shows (low : Bool) : Completes (.cellChargeChange low) s (fun t => t.flag CLK_STAT.CELLLOW = low
    ∧ RegsKeptBut [CLK_STAT] s t ∧ MemKept s t) := by
  refine completes_of_exec (o := execCellChargeChange low s) rfl (done_ends rfl ?_)
  rw [State.flag_settle, State.flag_putB_same rfl]
  exact ⟨rfl, (LoopWork.refl.putB (by simp)).settled.kept⟩

/-! ### Commands of CLK_CMD (R444, R445, R448, R449) -/

/-- A command ends with a result and its interrupt source. -/
def State.clkAnswered (s : State) (r : Nat) : State := (s.put CLK_CRES.RESULT r).raise HST_ISRC.CLK

theorem State.result_clkAnswered (hr : n < 16) : (s.clkAnswered n).get CLK_CRES.RESULT = n := by
  unfold State.clkAnswered
  rw [State.get_raise_other rfl rfl, State.get_put_same rfl]
  exact Nat.mod_eq_of_lt hr

theorem State.isrc_clkAnswered : (s.clkAnswered n).flag HST_ISRC.CLK = true := State.flag_putB_same (x := true) rfl

theorem State.reg_clkAnswered (hres : b ≠ CLK_CRES) (hisrc : b ≠ HST_ISRC) : (s.clkAnswered n).reg b = s.reg b :=
  (State.reg_put_other hisrc).trans (State.reg_put_other hres)

theorem State.clk_clkAnswered : (s.clkAnswered n).clk = s.clk := by
  unfold State.clkAnswered
  rw [State.clk_raise, State.clk_put]

theorem LoopWork.answered (h : LoopWork l s t) (hres : CLK_CRES ∈ l) (hisrc : HST_ISRC ∈ l) : LoopWork l s (t.clkAnswered n) :=
  (h.put hres).raise hisrc

theorem loopWork_consume : LoopWork l s (s.consume a w) := ⟨fun _ _ => rfl, memKept_consume⟩

theorem State.clk_consume : (s.consume a w).clk = s.clk := rfl

/-! #### SET -/

/-- A calendar loaded. -/
def State.calendarLoaded (s : State) (e w : Word) : State := (((s.setReg CLK_DATE e).setReg CLK_TIME w).putB CLK_STAT.OSF false).setClk
  { s.clk with shift := 0, count := fld w 14 0 }

theorem State.loadCalendar_eq {e : Word} : s.loadCalendar e w = (s.calendarLoaded e w).putB CLK_STAT.SHPEND false := by
  unfold State.loadCalendar State.calendarLoaded State.setClk
  dsimp only
  rw [State.clk_putB, State.clk_setReg, State.clk_setReg]

/-- Registers that SET changes. -/
def setRegs : List Nat := [CLK_DATE, CLK_TIME, CLK_STAT, CLK_CRES, HST_ISRC]

theorem loadCalendar_shows {e : Word} : (s.loadCalendar e w).reg CLK_DATE = e ∧ (s.loadCalendar e w).reg CLK_TIME = w
    ∧ (s.loadCalendar e w).flag CLK_STAT.OSF = false ∧ (s.loadCalendar e w).flag CLK_STAT.SHPEND = false ∧ LoopWork setRegs s (s.loadCalendar e w) := by
  rw [State.loadCalendar_eq]
  refine ⟨?_, ?_, ?_, State.flag_putB_same rfl, ?_⟩
  · rw [State.reg_putB_other (by decide), State.calendarLoaded, State.reg_setClk, State.reg_putB_other (by decide), State.reg_setReg_other (by decide),
      State.reg_setReg_same]
  · rw [State.reg_putB_other (by decide), State.calendarLoaded, State.reg_setClk, State.reg_putB_other (by decide), State.reg_setReg_same]
  · rw [State.flag_putB_other rfl rfl, State.calendarLoaded, State.flag_setClk, State.flag_putB_same rfl]
  · exact ((((LoopWork.refl.setReg (by decide)).setReg (by decide)).putB (by decide)).trans loopWork_setClk).putB (by decide)

theorem fld_timeWord {h m sec subs : Nat} (hsubs : subs < 32768) : fld (timeWord h m sec subs) 14 0 = subs := by
  simp only [fld, bits, timeWord, BitVec.toNat_ofNat, Nat.shiftLeft_eq, Nat.shiftRight_zero]
  omega

/-- The reading that SET loads. -/
def setReading (w : Word) : Word := timeWord (bcdVal (fld w 35 30)) (bcdVal (fld w 29 23)) (bcdVal (fld w 22 16)) (fld w 14 0)

theorem State.clkSetTo_refused {e : Word} (h : settable e w = false) : s.clkSetTo e w = (s, 1) := by
  unfold State.clkSetTo
  rw [h]
  rfl

theorem State.clkSetTo_synced {e : Word} (h : settable e w = true) (hsync : s.clkSynced = true) : s.clkSetTo e w = (s, 2) := by
  unfold State.clkSetTo
  rw [h, hsync]
  rfl

theorem State.clkSetTo_loads {e : Word} (h : settable e w = true) (hsync : s.clkSynced = false) :
    s.clkSetTo e w = (s.loadCalendar (dateWord (dayOf e)) (setReading w), 0) := by
  unfold State.clkSetTo
  rw [h, hsync, Bool.not_true, if_neg Bool.false_ne_true, if_neg Bool.false_ne_true]
  rfl

/-- What a command leaves before it is answered, and its result. -/
def State.clkStep (s : State) (cmd arg : Nat) : State × Nat :=
  match cmd with
  | 1 => s.clkSetTo (s.reg CLK_SETD) (s.reg CLK_SETT)
  | 2 => s.clkShiftBy arg
  | 3 => (s.clkCapture, 0)
  | 4 => if s.rateSource then ({ s with clk := { s.clk with want := true } }, 0) else (s, 5)
  | _ => (s, 4)

theorem State.clkCommand_eq {cmd arg : Nat} (h : s.alive 25 = true) : s.clkCommand cmd arg = (s.clkStep cmd arg).1.clkAnswered (s.clkStep cmd arg).2 := by
  unfold State.clkCommand
  rw [h]
  rfl

/-- A command of CLK_CMD, taken from the writes waiting, ends with the answer to its work. -/
theorem clkCommand_ends {cmd arg : Nat} (hup : s.up = true) (halive : s.alive 25 = true)
    (h : P (settle (((s.consume CLK_CMD (clkWord cmd arg)).clkStep cmd arg).1.clkAnswered ((s.consume CLK_CMD (clkWord cmd arg)).clkStep cmd arg).2))) :
    ∃ t, act s (fun s => (s.consume CLK_CMD (clkWord cmd arg)).clkCommand cmd arg) = .next t ∧ P t := by
  have hthere : (s.consume CLK_CMD (clkWord cmd arg)).alive 25 = true := halive
  refine act_ends hup ?_
  rwa [State.clkCommand_eq hthere]

/-- A command refused. -/
theorem clkAnswered_refusal (hr : n < 16) : (settle ((s.consume a w).clkAnswered n)).get CLK_CRES.RESULT = n
    ∧ (settle ((s.consume a w).clkAnswered n)).clk = s.clk ∧ (settle ((s.consume a w).clkAnswered n)).flag HST_ISRC.CLK = true
    ∧ LoopWork [CLK_CRES, HST_ISRC] s (settle ((s.consume a w).clkAnswered n)) := by
  rw [State.get_settle, State.clk_settle, State.flag_settle]
  exact ⟨State.result_clkAnswered hr, State.clk_clkAnswered, State.isrc_clkAnswered, (loopWork_consume.answered (by simp) (by simp)).settled⟩

theorem clkSet_answers (hup : s.up = true) (halive : s.alive 25 = true) : Completes .clkSet s (fun t =>
    t.get CLK_CRES.RESULT = (if settable (s.reg CLK_SETD) (s.reg CLK_SETT) = false then 1 else if s.clkSynced then 2 else 0)
    ∧ (t.get CLK_CRES.RESULT = 0 → t.reg CLK_DATE = dateWord (dayOf (s.reg CLK_SETD))
        ∧ fld (t.reg CLK_TIME) 14 0 = fld (s.reg CLK_SETT) 14 0 ∧ t.flag CLK_STAT.OSF = false ∧ t.flag CLK_STAT.SHPEND = false)
    ∧ (t.get CLK_CRES.RESULT ≠ 0 → t.reg CLK_DATE = s.reg CLK_DATE ∧ t.reg CLK_TIME = s.reg CLK_TIME)
    ∧ t.flag HST_ISRC.CLK = true ∧ RegsKeptBut [CLK_DATE, CLK_TIME, CLK_STAT, CLK_CRES, HST_ISRC] s t ∧ MemKept s t) := by
  have hkept : ∀ n, LoopWork [CLK_CRES, HST_ISRC] s (settle ((s.consume CLK_CMD (clkWord 1 0)).clkAnswered n)) →
      (settle ((s.consume CLK_CMD (clkWord 1 0)).clkAnswered n)).reg CLK_DATE = s.reg CLK_DATE
        ∧ (settle ((s.consume CLK_CMD (clkWord 1 0)).clkAnswered n)).reg CLK_TIME = s.reg CLK_TIME :=
    fun n hwork => ⟨hwork.regs _ (by decide), hwork.regs _ (by decide)⟩
  have hstep : (s.consume CLK_CMD (clkWord 1 0)).clkStep 1 0 = (s.consume CLK_CMD (clkWord 1 0)).clkSetTo (s.reg CLK_SETD) (s.reg CLK_SETT) := rfl
  have hsynced : (s.consume CLK_CMD (clkWord 1 0)).clkSynced = s.clkSynced := rfl
  refine completes_of_exec (o := execClkSet s) rfl (clkCommand_ends hup halive ?_)
  rw [hstep]
  cases hset : settable (s.reg CLK_SETD) (s.reg CLK_SETT) with
  | false =>
    obtain ⟨hres, -, hisrc, hwork⟩ := clkAnswered_refusal (s := s) (a := CLK_CMD) (w := clkWord 1 0) (n := 1) (by decide)
    rw [State.clkSetTo_refused hset]
    exact ⟨hres, fun h => absurd (hres.symm.trans h) (by decide), fun _ => hkept _ hwork, hisrc, (hwork.mono (by simp)).kept⟩
  | true =>
    cases hsync : s.clkSynced with
    | true =>
      obtain ⟨hres, -, hisrc, hwork⟩ := clkAnswered_refusal (s := s) (a := CLK_CMD) (w := clkWord 1 0) (n := 2) (by decide)
      rw [State.clkSetTo_synced hset (hsynced.trans hsync)]
      exact ⟨hres, fun h => absurd (hres.symm.trans h) (by decide), fun _ => hkept _ hwork, hisrc, (hwork.mono (by simp)).kept⟩
    | false =>
      obtain ⟨hdate, htime, hosf, hshift, hwork⟩ := loadCalendar_shows (s := s.consume CLK_CMD (clkWord 1 0)) (e := dateWord (dayOf (s.reg CLK_SETD)))
        (w := setReading (s.reg CLK_SETT))
      have hall : LoopWork setRegs s ((s.consume CLK_CMD (clkWord 1 0)).loadCalendar (dateWord (dayOf (s.reg CLK_SETD))) (setReading (s.reg CLK_SETT))) :=
        loopWork_consume.trans hwork
      rw [State.clkSetTo_loads hset (hsynced.trans hsync)]
      simp only [State.get_settle, State.reg_settle, State.flag_settle, State.result_clkAnswered (show 0 < 16 by decide)]
      rw [State.reg_clkAnswered (by decide) (by decide), State.reg_clkAnswered (by decide) (by decide),
        flag_of_reg_eq (State.reg_clkAnswered (by decide) (by decide)), flag_of_reg_eq (State.reg_clkAnswered (by decide) (by decide)), htime]
      exact ⟨rfl, fun _ => ⟨hdate, fld_timeWord bits_lt, hosf, hshift⟩, fun h => absurd rfl h, State.isrc_clkAnswered,
        (hall.answered (by decide) (by decide)).settled.kept⟩

/-! #### SHIFT -/

theorem signed_toNat (r : BitVec 16) : signed 16 r.toNat = r.toInt := by
  have hlt := r.isLt
  rw [BitVec.toInt_eq_toNat_cond]
  unfold signed
  rw [Nat.mod_eq_of_lt hlt]
  split
  · rw [if_pos (by omega)]
  · rw [if_neg (by omega)]

/-- A shift set pending. -/
def State.shiftSet (s : State) (r : BitVec 16) : State := (s.setClk { s.clk with shift := r.toInt }).putB CLK_STAT.SHPEND true

theorem State.clkShiftBy_eq {r : BitVec 16} : s.clkShiftBy r.toNat = if r.toNat = 32768 then (s, 4) else if s.flag CLK_STAT.SHPEND then (s, 3)
    else if s.clkSynced then (s, 2) else if r = 0 then (s, 6) else (s.shiftSet r, 0) := by
  have hzero : (r.toNat = 0) = (r = 0) := propext (by rw [← BitVec.toNat_inj]; rfl)
  unfold State.clkShiftBy State.shiftSet
  rw [Nat.mod_eq_of_lt r.isLt, signed_toNat]
  simp only [beq_iff_eq, hzero]
  rfl

/-- The result of SHIFT. -/
def State.shiftResult (s : State) (r : BitVec 16) : Nat :=
  if r.toNat = 32768 then 4 else if s.flag CLK_STAT.SHPEND then 3 else if s.clkSynced then 2 else if r = 0 then 6 else 0

theorem State.clkShiftBy_cases {r : BitVec 16} : s.clkShiftBy r.toNat = (if s.shiftResult r = 0 then s.shiftSet r else s, s.shiftResult r)
    ∧ s.shiftResult r < 16 := by
  rw [State.clkShiftBy_eq]
  unfold State.shiftResult
  split
  · exact ⟨rfl, by decide⟩
  split
  · exact ⟨rfl, by decide⟩
  split
  · exact ⟨rfl, by decide⟩
  split
  · exact ⟨rfl, by decide⟩
  · exact ⟨rfl, by decide⟩

theorem shiftSet_shows {r : BitVec 16} : (s.shiftSet r).flag CLK_STAT.SHPEND = true ∧ (s.shiftSet r).clk.shift = r.toInt := by
  refine ⟨State.flag_putB_same rfl, ?_⟩
  unfold State.shiftSet
  rw [State.clk_putB, State.clk_setClk]

/-- A shift accepted. -/
theorem clkAnswered_shift {r : BitVec 16} : (settle (((s.consume a w).shiftSet r).clkAnswered 0)).get CLK_CRES.RESULT = 0
    ∧ (settle (((s.consume a w).shiftSet r).clkAnswered 0)).flag CLK_STAT.SHPEND = true
    ∧ (settle (((s.consume a w).shiftSet r).clkAnswered 0)).clk.shift = r.toInt
    ∧ (settle (((s.consume a w).shiftSet r).clkAnswered 0)).flag HST_ISRC.CLK = true
    ∧ LoopWork [CLK_STAT, CLK_CRES, HST_ISRC] s (settle (((s.consume a w).shiftSet r).clkAnswered 0)) := by
  obtain ⟨hpend, hshift⟩ := shiftSet_shows (s := s.consume a w) (r := r)
  have hset : LoopWork [CLK_STAT, CLK_CRES, HST_ISRC] s ((s.consume a w).shiftSet r) := (loopWork_consume.trans loopWork_setClk).putB (by simp)
  rw [State.get_settle, State.flag_settle, State.flag_settle, State.clk_settle, State.clk_clkAnswered,
    flag_of_reg_eq (f := CLK_STAT.SHPEND) (State.reg_clkAnswered (by decide) (by decide))]
  exact ⟨State.result_clkAnswered (by decide), hpend, hshift, State.isrc_clkAnswered, (hset.answered (by simp) (by simp)).settled⟩

theorem clkShift_answers (hup : s.up = true) (halive : s.alive 25 = true) (r : BitVec 16) : Completes (.clkShift r) s (fun t =>
    t.get CLK_CRES.RESULT = (if r.toNat = 32768 then 4 else if s.flag CLK_STAT.SHPEND then 3 else if s.clkSynced then 2 else if r = 0 then 6 else 0)
    ∧ (t.get CLK_CRES.RESULT = 0 → t.flag CLK_STAT.SHPEND = true ∧ t.clk.shift = r.toInt)
    ∧ (t.get CLK_CRES.RESULT ≠ 0 → t.clk.shift = s.clk.shift) ∧ t.flag HST_ISRC.CLK = true
    ∧ RegsKeptBut [CLK_STAT, CLK_CRES, HST_ISRC] s t ∧ MemKept s t) := by
  have hstep : (s.consume CLK_CMD (clkWord 2 r.toNat)).clkStep 2 r.toNat = (s.consume CLK_CMD (clkWord 2 r.toNat)).clkShiftBy r.toNat := rfl
  have hres : (s.consume CLK_CMD (clkWord 2 r.toNat)).shiftResult r = s.shiftResult r := by
    unfold State.shiftResult State.clkSynced
    rw [State.flag_consume, State.flag_consume, State.flag_consume]
  obtain ⟨hshift, hlt⟩ := State.clkShiftBy_cases (s := s.consume CLK_CMD (clkWord 2 r.toNat)) (r := r)
  rw [hres] at hshift hlt
  refine completes_of_exec (o := execClkShift r s) rfl (clkCommand_ends hup halive ?_)
  rw [hstep, hshift, ← State.shiftResult]
  by_cases hok : s.shiftResult r = 0
  · obtain ⟨hr, hpend, hamount, hisrc, hwork⟩ := clkAnswered_shift (s := s) (a := CLK_CMD) (w := clkWord 2 r.toNat) (r := r)
    rw [if_pos hok, hok]
    exact ⟨hr, fun _ => ⟨hpend, hamount⟩, fun h => absurd hr h, hisrc, hwork.kept⟩
  · obtain ⟨hr, hclk, hisrc, hwork⟩ := clkAnswered_refusal (s := s) (a := CLK_CMD) (w := clkWord 2 r.toNat) hlt
    rw [if_neg hok]
    exact ⟨hr, fun h => absurd (hr.symm.trans h) hok, fun _ => congrArg ClkS.shift hclk, hisrc, (hwork.mono (by simp)).kept⟩

/-! #### CAPTURE and WINDOW -/

theorem clkCapture_answers (hup : s.up = true) (halive : s.alive 25 = true) : Completes .clkCapture s (fun t => t.get CLK_CRES.RESULT = 0
    ∧ t.reg (CLK_CAP 0) = s.reg CLK_DATE ∧ t.reg (CLK_CAP 1) = s.reg CLK_TIME ∧ t.reg (CLK_CAP 2) = s.ts0 ∧ t.reg (CLK_CAP 3) = s.ts1
    ∧ t.flag HST_ISRC.CLK = true ∧ RegsKeptBut [CLK_CAP 0, CLK_CAP 1, CLK_CAP 2, CLK_CAP 3, CLK_CRES, HST_ISRC] s t ∧ MemKept s t) := by
  have hstep : (s.consume CLK_CMD (clkWord 3 0)).clkStep 3 0 = ((s.consume CLK_CMD (clkWord 3 0)).clkCapture, 0) := rfl
  have hcap : ∀ z : State, z.clkCapture.reg (CLK_CAP 0) = z.reg CLK_DATE ∧ z.clkCapture.reg (CLK_CAP 1) = z.reg CLK_TIME
      ∧ z.clkCapture.reg (CLK_CAP 2) = z.ts0 ∧ z.clkCapture.reg (CLK_CAP 3) = z.ts1 := fun z => by
    unfold State.clkCapture
    refine ⟨?_, ?_, ?_, State.reg_setReg_same⟩
    · rw [State.reg_setReg_other (by decide), State.reg_setReg_other (by decide), State.reg_setReg_other (by decide), State.reg_setReg_same]
    · rw [State.reg_setReg_other (by decide), State.reg_setReg_other (by decide), State.reg_setReg_same]
    · rw [State.reg_setReg_other (by decide), State.reg_setReg_same]
  have hwork : LoopWork [CLK_CAP 0, CLK_CAP 1, CLK_CAP 2, CLK_CAP 3, CLK_CRES, HST_ISRC] s (s.consume CLK_CMD (clkWord 3 0)).clkCapture :=
    (((loopWork_consume.setReg (by simp)).setReg (by simp)).setReg (by simp)).setReg (by simp)
  obtain ⟨h0, h1, h2, h3⟩ := hcap (s.consume CLK_CMD (clkWord 3 0))
  refine completes_of_exec (o := execClkCapture s) rfl (clkCommand_ends hup halive ?_)
  rw [hstep]
  simp only [State.get_settle, State.reg_settle, State.flag_settle]
  rw [State.reg_clkAnswered (by decide) (by decide), State.reg_clkAnswered (by decide) (by decide), State.reg_clkAnswered (by decide) (by decide),
    State.reg_clkAnswered (by decide) (by decide)]
  exact ⟨State.result_clkAnswered (by decide), h0, h1, h2, h3, State.isrc_clkAnswered, (hwork.answered (by simp) (by simp)).settled.kept⟩

/-- A rate window is asked for. -/
def State.windowWanted (s : State) : State := s.setClk { s.clk with want := true }

theorem clkWindow_answers (hup : s.up = true) (halive : s.alive 25 = true) : Completes .clkWindow s (fun t =>
    t.get CLK_CRES.RESULT = (if s.rateSource then 0 else 5) ∧ (s.rateSource = true → t.clk.want = true) ∧ t.flag HST_ISRC.CLK = true
    ∧ RegsKeptBut [CLK_CRES, HST_ISRC] s t ∧ MemKept s t) := by
  have hstep : (s.consume CLK_CMD (clkWord 4 0)).clkStep 4 0
      = if s.rateSource then ((s.consume CLK_CMD (clkWord 4 0)).windowWanted, 0) else (s.consume CLK_CMD (clkWord 4 0), 5) := rfl
  have hwork : LoopWork [CLK_CRES, HST_ISRC] s (s.consume CLK_CMD (clkWord 4 0)).windowWanted := loopWork_consume.trans loopWork_setClk
  refine completes_of_exec (o := execClkWindow s) rfl (clkCommand_ends hup halive ?_)
  rw [hstep]
  cases hsource : s.rateSource with
  | true =>
    simp only [if_true, State.get_settle, State.clk_settle, State.flag_settle, State.clk_clkAnswered]
    exact ⟨State.result_clkAnswered (by decide), fun _ => rfl, State.isrc_clkAnswered, (hwork.answered (by simp) (by simp)).settled.kept⟩
  | false =>
    obtain ⟨hres, -, hisrc, hkept⟩ := clkAnswered_refusal (s := s) (a := CLK_CMD) (w := clkWord 4 0) (n := 5) (by decide)
    exact ⟨hres, fun h => absurd h Bool.false_ne_true, hisrc, hkept.kept⟩

/-! #### The end of a rate window (R448) -/

theorem rateWindowEnd_early (hup : s.up = true) {err : BitVec 24} (h : s.windowOver = false) :
    Completes (.rateWindowEnd err) s (fun t => t.clk = s.clk ∧ AllKept s t) := by
  refine completes_of_exec (o := execRateWindowEnd err s) rfl (act_ends hup ?_)
  rw [State.rateEnd, if_pos (by simp [h]), State.clk_settle]
  exact ⟨rfl, allKept_settle⟩

/-- The error that a window has measured. -/
def State.rateShown (s : State) (err : BitVec 24) : State :=
  (((s.putB CLK_STAT.WINRUN false).putB CLK_RATE.ABORT false).putB CLK_RATE.VALID true).put CLK_RATE.ERR err.toNat

/-- TRIM changed by the error. -/
def State.trimmedBy (s : State) (err : BitVec 24) : State := s.put CLK_TRIM.TRIM (trimBy (s.get CLK_TRIM.TRIM) err.toNat)

theorem State.rateEnd_over {err : BitVec 24} (h : s.windowOver = true) (halive : s.alive 25 = true) : s.rateEnd err
    = if s.flag CLK_CFG.AUTO then ((s.rateShown err).trimmedBy err).windowWanted.rateStart else s.rateShown err := by
  have hauto : (s.rateShown err).flag CLK_CFG.AUTO = s.flag CLK_CFG.AUTO :=
    flag_of_reg_eq ((((LoopWork.refl (l := [CLK_STAT, CLK_RATE])).putB (by simp)).putB (by simp)).putB (by simp) |>.put (by simp) |>.regs _ (by decide))
  unfold State.rateEnd
  rw [h, halive, if_neg (by decide)]
  dsimp only
  rw [← State.rateShown, hauto]
  rfl

/-- What the start and the lapse of a rate window leave: the error last measured, and TRIM. -/
structure RateKept (s t : State) : Prop where
  work : LoopWork [CLK_STAT, CLK_RATE, CLK_CRES] s t
  valid : t.flag CLK_RATE.VALID = s.flag CLK_RATE.VALID
  err : t.get CLK_RATE.ERR = s.get CLK_RATE.ERR

theorem RateKept.refl : RateKept s s := ⟨.refl, rfl, rfl⟩

theorem RateKept.trans (h : RateKept s t) (h' : RateKept t u) : RateKept s u :=
  ⟨h.work.trans h'.work, h'.valid.trans h.valid, h'.err.trans h.err⟩

theorem RateKept.ite {q : Prop} [Decidable q] (ht : RateKept s t) (hu : RateKept s u) : RateKept s (if q then t else u) := by
  split
  · exact ht
  · exact hu

theorem rateKept_setClk : RateKept s (s.setClk y) := ⟨loopWork_setClk, rfl, rfl⟩

theorem rateKept_put (hf : f = CLK_STAT.WINRUN ∨ f = CLK_RATE.ABORT ∨ f = CLK_CRES.RESULT) : RateKept s (s.put f v) := by
  obtain rfl | rfl | rfl := hf
  all_goals exact ⟨LoopWork.refl.put (by simp), State.flag_put_other rfl rfl, State.get_put_other rfl rfl⟩

theorem rateKept_ratePtp : RateKept s s.ratePtp := by
  have habort : RateKept s s.rateAbort :=
    .ite .refl ((rateKept_setClk.trans (rateKept_put (.inl rfl))).trans (rateKept_put (.inr (.inl rfl))))
  exact .ite habort .refl

theorem rateKept_rateStart : RateKept s s.rateStart := by
  have hrun : ∀ z : State, RateKept z (z.putB CLK_STAT.WINRUN true).ratePtp := fun z => (rateKept_put (.inl rfl)).trans rateKept_ratePtp
  unfold State.rateStart
  dsimp only
  exact .ite .refl (.ite (rateKept_setClk.trans (rateKept_put (.inr (.inr rfl)))) ((rateKept_setClk (s := s)).trans (rateKept_setClk.trans (hrun _))))

theorem unsign_lt {n : Nat} {z : Int} : unsign n z < 2 ^ n := by
  have hpos : (0 : Int) < (2 ^ n : Nat) := by positivity
  have hlt := Int.emod_lt_of_pos z hpos
  have hnonneg := Int.emod_nonneg z (ne_of_gt hpos)
  unfold unsign
  omega

theorem rateShown_shows {err : BitVec 24} : (s.rateShown err).flag CLK_RATE.VALID = true ∧ (s.rateShown err).get CLK_RATE.ERR = err.toNat
    ∧ (s.rateShown err).flag CLK_STAT.WINRUN = false ∧ (s.rateShown err).flag CLK_RATE.ABORT = false
    ∧ LoopWork [CLK_STAT, CLK_RATE, CLK_TRIM, CLK_CRES] s (s.rateShown err) := by
  unfold State.rateShown
  refine ⟨?_, ?_, ?_, ?_, (((LoopWork.refl.putB (by simp)).putB (by simp)).putB (by simp)).put (by simp)⟩
  · rw [State.flag_put_other rfl rfl, State.flag_putB_same rfl]
  · rw [State.get_put_same rfl]
    exact Nat.mod_eq_of_lt err.isLt
  · rw [State.flag_put_other rfl rfl, State.flag_putB_other rfl rfl, State.flag_putB_other rfl rfl, State.flag_putB_same rfl]
  · rw [State.flag_put_other rfl rfl, State.flag_putB_other rfl rfl, State.flag_putB_same rfl]

theorem State.reg_rateShown {err : BitVec 24} (hstat : b ≠ CLK_STAT) (hrate : b ≠ CLK_RATE) : (s.rateShown err).reg b = s.reg b := by
  unfold State.rateShown
  rw [State.reg_put_other hrate, State.reg_putB_other hrate, State.reg_putB_other hrate, State.reg_putB_other hstat]

theorem rateWindowEnd_over (hup : s.up = true) (halive : s.alive 25 = true) {err : BitVec 24} (h : s.windowOver = true) :
    Completes (.rateWindowEnd err) s (fun t => t.flag CLK_RATE.VALID = true ∧ t.get CLK_RATE.ERR = err.toNat
      ∧ t.get CLK_TRIM.TRIM = (if s.flag CLK_CFG.AUTO then trimBy (s.get CLK_TRIM.TRIM) err.toNat else s.get CLK_TRIM.TRIM)
      ∧ (s.flag CLK_CFG.AUTO = false → t.flag CLK_STAT.WINRUN = false ∧ t.flag CLK_RATE.ABORT = false)
      ∧ RegsKeptBut [CLK_STAT, CLK_RATE, CLK_TRIM, CLK_CRES] s t ∧ MemKept s t) := by
  obtain ⟨hvalid, herr, hrun, habort, hwork⟩ := rateShown_shows (s := s) (err := err)
  have htrim : (s.rateShown err).get CLK_TRIM.TRIM = s.get CLK_TRIM.TRIM := get_of_reg_eq (State.reg_rateShown (by decide) (by decide))
  refine completes_of_exec (o := execRateWindowEnd err s) rfl (act_ends hup ?_)
  rw [State.rateEnd_over h halive, State.flag_settle, State.flag_settle, State.flag_settle, State.get_settle, State.get_settle]
  cases hauto : s.flag CLK_CFG.AUTO with
  | false =>
    rw [if_neg Bool.false_ne_true, if_neg Bool.false_ne_true]
    exact ⟨hvalid, herr, htrim, fun _ => ⟨hrun, habort⟩, hwork.settled.kept⟩
  | true =>
    have hstart := rateKept_rateStart (s := ((s.rateShown err).trimmedBy err).windowWanted)
    have htrimmed : ((s.rateShown err).trimmedBy err).windowWanted.get CLK_TRIM.TRIM = trimBy (s.get CLK_TRIM.TRIM) err.toNat := by
      rw [State.windowWanted, State.get_setClk, State.trimmedBy, State.get_put_same rfl, htrim]
      exact Nat.mod_eq_of_lt unsign_lt
    have hkept : ∀ g : Fld, g.addr ≠ CLK_TRIM → ((s.rateShown err).trimmedBy err).windowWanted.get g = (s.rateShown err).get g := fun g hg => by
      rw [State.windowWanted, State.get_setClk, State.trimmedBy, State.get_put_other rfl (Fld.apart_of_addr hg)]
    have hall : LoopWork [CLK_STAT, CLK_RATE, CLK_TRIM, CLK_CRES] s ((s.rateShown err).trimmedBy err).windowWanted :=
      (hwork.put (by simp)).trans loopWork_setClk
    rw [if_pos rfl, if_pos rfl]
    refine ⟨hstart.valid.trans ?_, (hstart.err.trans (hkept _ (by decide))).trans herr, (hstart.work.get (by decide)).trans htrimmed,
      fun hno => absurd hno (by decide), (hall.trans (hstart.work.mono (by simp))).settled.kept⟩
    exact (congrArg (· != 0) (hkept CLK_RATE.VALID (by decide))).trans hvalid

end

/-- Settles O52: each row of the domain is one update of it; the order of the refusals and the answer to a shift of -32768 are log 47's. -/
theorem calendarCountsAndCommands : Obligations.CalendarCountsAndCommands :=
  ⟨fun _ htimed hleft => calendarSecond_early htimed hleft, fun _ hnow => calendarSecond_ends hnow, fun _ => oscillatorStop_shows,
    fun _ => calendarDomainStart_resets, fun _ vsup vbk => calendarSupplyChange_shows vsup vbk, fun _ low => cellChargeChange_shows low,
    fun _ hup halive => ⟨clkSet_answers hup halive, clkShift_answers hup halive, clkCapture_answers hup halive, clkWindow_answers hup halive,
      fun _ h => rateWindowEnd_early hup h, fun _ h => rateWindowEnd_over hup halive h⟩⟩

end Sys2Proof.Machine

namespace Sys2Proof.Machine

open Sys2Proof

section
variable {s t u z : State} {P : State → Prop} {f g : Fld} {a b c i j k n v : Nat} {w : Word} {l l' : List Nat} {x : Bool} {o : OnxS} {m : List (Nat × Word)}
  {cls sub src : Nat} {ev0 ev1 : Word}

/-! ## The recorder (R419 to R435) -/

/-- The recorder beside its registers is replaced. -/
def State.setOnx (s : State) (o : OnxS) : State := { s with onx := o }

theorem State.onx_setOnx : (s.setOnx o).onx = o := rfl
theorem State.reg_setOnx : (s.setOnx o).reg b = s.reg b := rfl
theorem State.get_setOnx : (s.setOnx o).get f = s.get f := rfl
theorem State.flag_setOnx : (s.setOnx o).flag f = s.flag f := rfl
theorem State.mem_setOnx : (s.setOnx o).mem = s.mem := rfl
theorem State.t_setOnx : (s.setOnx o).t = s.t := rfl
theorem State.mramAt_setOnx : (s.setOnx o).mramAt a = s.mramAt a := rfl

theorem regWork_setOnx : RegWork l s (s.setOnx o) := ⟨fun _ _ => rfl, rfl⟩

theorem RegWork.allKept (h : RegWork [] s t) : AllKept s (settle t) := h.loop.settled.allKept

/-! ### Triggers accepted (R422, R423, R427) -/

/-- A trigger as it is accepted now. -/
def State.trigOf (s : State) (cls sub src : Nat) (ev0 ev1 : Word) : Trig :=
  { cls := cls, sub := sub, src := src, ts0 := s.ts0, ts1 := s.ts1, ev0 := ev0, ev1 := ev1, rset := s.classSet cls
    role := s.get JL_STAT.ROLE, mode := s.mode, ssig := s.ssigOf (s.classSet cls), lost := 0, coal := 0
    lts0 := s.ts0, lts1 := s.ts1, at_ := s.t.run }

/-- Triggers appended. -/
def State.trigPut (s : State) (y : Trig) : State := s.setOnx { s.onx with trigs := s.onx.trigs ++ [y] }

theorem State.trigs_trigPut {y : Trig} : (s.trigPut y).onx.trigs = s.onx.trigs ++ [y] := rfl

theorem regWork_trigPut {y : Trig} : RegWork l s (s.trigPut y) := regWork_setOnx

/-- A trigger whose class is enabled and not merged, with room. -/
theorem State.trigNow_accepted (hen : cls < 3 ∨ s.flag (ONX_CCFG.EN (cls - 3)) = true) (hcoal : cls < 4 ∨ s.flag (ONX_CCFG.COAL (cls - 3)) = false)
    (hroom : s.onx.depth < 112) (hsub : ¬(cls = 1 ∧ sub = 3)) : s.trigNow cls sub src ev0 ev1 = s.trigPut (s.trigOf cls sub src ev0 ev1) := by
  have hon : (decide (3 ≤ cls) && !s.flag (ONX_CCFG.EN (cls - 3))) = false := by
    obtain h | h := hen
    · simp [h]
    · simp [h]
  have hmay : (decide (4 ≤ cls) && s.flag (ONX_CCFG.COAL (cls - 3))) = false := by
    obtain h | h := hcoal
    · simp [h]
    · simp [h]
  have hbelow : ¬s.onx.depth ≥ (if cls ≤ 2 then 128 else 112) := by split <;> omega
  have hlast : ¬(cls == 1 && sub == 3) = true := by simpa using hsub
  unfold State.trigNow State.trigger
  simp only [hon, hmay, hbelow, hlast, Bool.false_eq_true, if_false]
  rfl

/-! ### Snapshots (R424, R425, R427) -/

theorem State.mramFetch_clean (h : ∀ a ∈ l, s.mramPoison a = false) : s.mramFetch k l = s := by
  unfold State.mramFetch
  rw [List.filter_eq_nil_iff.mpr fun a ha => by simp [h a ha]]
  rfl

/-- The first trigger formed into a record. -/
def State.snapTaken1 (s : State) (y : Trig) (r : List Trig) : State :=
  s.setOnx { s.onx with trigs := r, queue := if y.cls == 1 && y.sub == 3 then s.formRec y :: s.onx.queue else s.onx.queue ++ [s.formRec y], lostNew := 0 }

theorem State.snapshot_eq {y : Trig} {r : List Trig} (h : s.onx.trigs = y :: r) : s.snapshot = (s.snapTaken1 y r).snapFetch y.rset := by
  unfold State.snapshot
  rw [h]
  rfl

theorem State.snapFetch_clean (hsram : s.mem.sramBad = []) (hmram : s.mem.mramBad = []) : s.snapFetch n = s := by
  have hs : ∀ a, s.sramPoison a = false := fun a => by simp [State.sramPoison, hsram]
  have hm : ∀ a, s.mramPoison a = false := fun a => by simp [State.mramPoison, hmram]
  unfold State.snapFetch
  dsimp only
  rw [State.sramFetch_clean fun a _ => hs a, State.mramFetch_clean fun a _ => hm a]

theorem onyxSnapshot_early (hup : s.up = true) (h : s.snapDue = false) : Completes .onyxSnapshot s (fun t => t.onx = s.onx ∧ AllKept s t) := by
  refine completes_of_exec (o := execOnyxSnapshot s) rfl (act_ends hup ?_)
  rw [h, if_neg Bool.false_ne_true, State.onx_settle]
  exact ⟨rfl, allKept_settle⟩

theorem onyxSnapshot_due (hup : s.up = true) {y : Trig} {r : List Trig} (halive : s.alive 24 = true) (htrigs : s.onx.trigs = y :: r)
    (hdue : 4 * (y.at_ + 1) + 1 ≤ s.phaseNo) (hsram : s.mem.sramBad = []) (hmram : s.mem.mramBad = []) :
    Completes .onyxSnapshot s (fun t => t.onx.trigs = r ∧ t.onx.lostNew = 0
      ∧ t.onx.queue = (if y.cls = 1 ∧ y.sub = 3 then s.formRec y :: s.onx.queue else s.onx.queue ++ [s.formRec y]) ∧ AllKept s t) := by
  have hsnap : s.snapDue = true := by
    unfold State.snapDue
    rw [htrigs]
    simp [halive, hdue]
  have hfirst : ((y.cls == 1 && y.sub == 3) = true) = (y.cls = 1 ∧ y.sub = 3) := by simp
  refine completes_of_exec (o := execOnyxSnapshot s) rfl (act_ends hup ?_)
  rw [hsnap, if_pos rfl, State.snapshot_eq htrigs, State.snapFetch_clean (s := s.snapTaken1 y r) hsram hmram, State.onx_settle]
  refine ⟨rfl, rfl, ?_, (regWork_setOnx (l := [])).allKept⟩
  unfold State.snapTaken1
  rw [State.onx_setOnx]
  simp only [hfirst]

/-! ### Hour records and host triggers (R422) -/

/-- The hour's record is noted as made. -/
def State.hourNoted (s : State) : State := s.setOnx { s.onx with hourAt := s.reg ONX_OPR }

theorem oprHourRecord_due (hup : s.up = true) (hroom : s.onx.depth < 112) (husec : s.t.usec = 0) (hopr : s.reg ONX_OPR ≠ 0)
    (hfull : (s.reg ONX_OPR).toNat % 3600 = 0) (hnew : s.onx.hourAt ≠ s.reg ONX_OPR) : Completes .oprHourRecord s (fun t => ∃ x,
      t.onx.trigs = s.onx.trigs ++ [x] ∧ x.cls = 1 ∧ x.sub = 2 ∧ x.ev0 = s.reg ONX_OPR ∧ x.ts0 = s.ts0 ∧ x.ts1 = s.ts1 ∧ AllKept s t) := by
  have hrecord : s.hourRecord = s.hourNoted.trigPut (s.hourNoted.trigOf 1 2 0 (s.reg ONX_OPR) 0) := by
    rw [← State.trigNow_accepted (.inl (by decide)) (.inl (by decide)) (s := s.hourNoted) hroom (by decide)]
    unfold State.hourRecord
    dsimp only
    rw [if_pos (by simpa [husec, hfull, hnew] using hopr)]
    rfl
  refine completes_of_exec (o := execOprHourRecord s) rfl (act_ends hup ?_)
  rw [hrecord, State.onx_settle, State.trigs_trigPut]
  exact ⟨_, rfl, rfl, rfl, rfl, rfl, rfl, ((regWork_setOnx (l := [])).trans regWork_trigPut).allKept⟩

theorem oprHourRecord_early (hup : s.up = true) (h : s.t.usec ≠ 0 ∨ s.onx.hourAt = s.reg ONX_OPR) :
    Completes .oprHourRecord s (fun t => t.onx = s.onx ∧ AllKept s t) := by
  have hrecord : s.hourRecord = s := by
    unfold State.hourRecord
    refine if_neg ?_
    obtain h | h := h
    · simp [h]
    · simp [h]
  refine completes_of_exec (o := execOprHourRecord s) rfl (act_ends hup ?_)
  rw [hrecord, State.onx_settle]
  exact ⟨rfl, allKept_settle⟩

theorem onxHtrigWrite_accepted (hup : s.up = true) (hroom : s.onx.depth < 112) (w : Word) (hen : s.flag (ONX_CCFG.EN 4) = true)
    (hcoal : s.flag (ONX_CCFG.COAL 4) = false) : Completes (.onxHtrigWrite w) s (fun t => ∃ x, t.onx.trigs = s.onx.trigs ++ [x] ∧ x.cls = 7
      ∧ x.ev0 = w ∧ x.ts0 = s.ts0 ∧ x.ts1 = s.ts1 ∧ AllKept s t) := by
  have htrig : (s.consume ONX_HTRIG w).hostTrigger w = (s.consume ONX_HTRIG w).trigPut ((s.consume ONX_HTRIG w).trigOf 7 0 0 w 0) :=
    State.trigNow_accepted (.inr hen) (.inr hcoal) hroom (by decide)
  refine completes_of_exec (o := execOnxHtrigWrite w s) rfl (act_ends hup ?_)
  rw [htrig, State.onx_settle, State.trigs_trigPut]
  exact ⟨_, rfl, rfl, rfl, rfl, rfl, (loopWork_consume.trans (regWork_trigPut (l := [])).loop).settled.allKept⟩

/-! ### Words written to MRAM -/

/-- Registers but those listed, SRAM, and MRAM but the words listed, are as before. -/
structure MramWork (l l' : List Nat) (s t : State) : Prop where
  regs : RegsKeptBut l s t
  sram : SramKept s t
  mram : MramKeptBut l' s t

theorem MramWork.trans {l1 l2 : List Nat} (h : MramWork l1 l2 s t) (h' : MramWork l1 l2 t u) : MramWork l1 l2 s u where
  regs := h.regs.trans h'.regs
  sram b := ⟨(h'.sram b).1.trans (h.sram b).1, (h'.sram b).2.trans (h.sram b).2⟩
  mram b hb := ⟨(h'.mram b hb).1.trans (h.mram b hb).1, (h'.mram b hb).2.trans (h.mram b hb).2⟩

theorem RegWork.mramWork (h : RegWork l s t) : MramWork l l' s t :=
  ⟨h.regs, (memKept_of_mem_eq h.mem).1, fun b _ => (memKept_of_mem_eq h.mem).2 b⟩

theorem MramWork.refl : MramWork l l' s s := RegWork.refl.mramWork

theorem MramWork.mono {l1 l2 : List Nat} (h : MramWork l l' s t) (hl : l ⊆ l1) (hl' : l' ⊆ l2) : MramWork l1 l2 s t :=
  ⟨fun b hb => h.regs b fun hm => hb (hl hm), h.sram, fun b hb => h.mram b fun hm => hb (hl' hm)⟩

theorem mramWork_setMram (h : a ∈ l') : MramWork l l' s (s.setMram a w) where
  regs _ _ := rfl
  sram _ := ⟨rfl, rfl⟩
  mram b hb := by
    have hne : b ≠ a := fun he => hb (he ▸ h)
    refine ⟨State.mramAt_setMram_other hne, ?_⟩
    rw [State.mramPoison_setMram]
    simp [hne]

theorem MramWork.settled (h : MramWork l l' s t) : MramWork l l' s (settle t) where
  regs b hb := State.reg_settle.trans (h.regs b hb)
  sram b := h.sram b
  mram b hb := h.mram b hb

/-- Words put at offsets of an address. -/
def State.wordsPut (s : State) (b : Nat) (m : List (Nat × Word)) : State := m.foldl (fun z e => z.setMram (b + e.1) e.2) s

theorem mramWork_wordsPut (h : ∀ e ∈ m, b + e.1 ∈ l') : MramWork l l' s (s.wordsPut b m) := by
  induction m generalizing s with
  | nil => exact .refl
  | cons e r ih => exact (mramWork_setMram (h e List.mem_cons_self)).trans (ih fun e' he' => h e' (List.mem_cons_of_mem _ he'))

theorem mramWork_wordsPut_self : MramWork l (m.map (b + ·.1)) s (s.wordsPut b m) :=
  mramWork_wordsPut fun e he => List.mem_map.mpr ⟨e, he, rfl⟩

theorem State.mramAt_wordsPut {e : Nat × Word} (hnodup : (m.map (·.1)).Nodup) (he : e ∈ m) : (s.wordsPut b m).mramAt (b + e.1) = e.2 := by
  induction m generalizing s with
  | nil => exact absurd he List.not_mem_nil
  | cons d r ih =>
    rw [List.map_cons, List.nodup_cons] at hnodup
    obtain rfl | he := List.mem_cons.mp he
    · have hkept : MramWork [] (r.map (b + ·.1)) (s.setMram (b + e.1) e.2) ((s.setMram (b + e.1) e.2).wordsPut b r) := mramWork_wordsPut_self
      refine (hkept.mram _ fun hin => ?_).1.trans State.mramAt_setMram_same
      obtain ⟨d, hd, hoff⟩ := List.mem_map.mp hin
      exact hnodup.1 (List.mem_map.mpr ⟨d, hd, Nat.add_left_cancel hoff⟩)
    · exact ih hnodup.2 he

theorem State.onx_wordsPut : (s.wordsPut b m).onx = s.onx := by
  induction m generalizing s with
  | nil => rfl
  | cons e r ih => exact ih.trans State.onx_setMram

theorem State.t_wordsPut : (s.wordsPut b m).t = s.t := by
  induction m generalizing s with
  | nil => rfl
  | cons e r ih => exact ih.trans State.t_setMram

/-! ### Writing a record (R421, R428, R430) -/

variable {y : Writing}

/-- A record in progress, its first words written. -/
def Writing.on (y : Writing) (k : Nat) : Writing := { y with todo := y.todo.drop k, next := y.next + k }

/-- The record in progress is replaced. -/
def State.setWriting (s : State) (y : Option Writing) : State := s.setOnx { s.onx with writing := y }

theorem State.writing_setWriting {y : Option Writing} : (s.setWriting y).onx.writing = y := rfl
theorem State.clear_setWriting {y : Option Writing} : (s.setWriting y).onx.clear = s.onx.clear := rfl

/-- The words of the record in progress whose beats have come. -/
def State.wordsOn (s : State) (y : Writing) (k : Nat) : State :=
  (s.wordsPut (slotAddr y.slot) (y.todo.take k)).setWriting (some (y.on (y.todo.take k).length))

theorem State.writeOn_eq (h : s.onx.writing = some y) : s.writeOn = s.wordsOn y (s.t.run + 1 - y.next) := by
  unfold State.writeOn
  rw [h]
  rfl

theorem State.writing_wordsOn : (s.wordsOn y k).onx.writing = some (y.on (y.todo.take k).length) := rfl

theorem State.clear_wordsOn : (s.wordsOn y k).onx.clear = s.onx.clear :=
  State.clear_setWriting.trans (congrArg OnxS.clear State.onx_wordsPut)

theorem mramWork_setWriting {y : Option Writing} : MramWork l l' s (s.setWriting y) := regWork_setOnx.mramWork

theorem mramWork_wordsOn : MramWork l ((y.todo.take k).map (slotAddr y.slot + ·.1)) s (s.wordsOn y k) := mramWork_wordsPut_self.trans mramWork_setWriting

theorem State.mramAt_wordsOn {e : Nat × Word} (hnodup : (y.todo.map (·.1)).Nodup) (he : e ∈ y.todo.take k) :
    (s.wordsOn y k).mramAt (slotAddr y.slot + e.1) = e.2 := by
  refine State.mramAt_wordsPut (hnodup.sublist ?_) he
  exact (List.take_sublist k y.todo).map _

/-- A record goes on: words of it wait. -/
theorem State.recordEnd_goes (h : s.onx.writing = some y) (hk : s.t.run + 1 - y.next < y.todo.length) :
    s.recordEnd = s.wordsOn y (s.t.run + 1 - y.next) := by
  have hlen : (y.todo.take (s.t.run + 1 - y.next)).length = s.t.run + 1 - y.next := List.length_take_of_le (Nat.le_of_lt hk)
  have hwaits : (!(y.todo.drop (s.t.run + 1 - y.next)).isEmpty) = true := by
    simpa using hk
  unfold State.recordEnd
  dsimp only
  rw [State.writeOn_eq h, State.writing_wordsOn, hlen]
  exact if_pos hwaits

/-- The record is over; the beat of its last word is kept. -/
def State.recordOver (s : State) (y : Writing) : State := s.setOnx { s.onx with writing := none, wroteAt := some (y.next - 1) }

/-- What the end of a record in a slot shows, and what it lets a clear go on to. -/
def State.recordNext (s : State) (y : Writing) : State :=
  match s.onx.clear with
  | none => if y.slot < 4096 then s.put ONX_STAT.NPERM (y.slot + 1) else s
  | some c =>
    match c.step with
    | 0 => s
    | 1 => s.setOnx { s.onx with clear := some { c with step := 2, at_ := y.next } }
    | _ => s.setOnx { s.onx with clear := some { c with step := 4 } }

/-- A record whose last word's beat has come. -/
theorem State.recordEnd_ends (h : s.onx.writing = some y) (hk : y.todo.length ≤ s.t.run + 1 - y.next) :
    s.recordEnd = ((s.wordsOn y (s.t.run + 1 - y.next)).recordOver (y.on y.todo.length)).recordNext (y.on y.todo.length) := by
  have htake : y.todo.take (s.t.run + 1 - y.next) = y.todo := List.take_of_length_le hk
  have hnone : (!(y.on y.todo.length).todo.isEmpty) = false := by simp [Writing.on]
  unfold State.recordEnd
  dsimp only
  rw [State.writeOn_eq h, State.writing_wordsOn, htake]
  refine (if_neg (by simp [hnone])).trans ?_
  rfl

theorem State.recordEnd_idle (h : s.onx.writing = none) : s.recordEnd = s := by
  have hwrite : s.writeOn = s := by
    unfold State.writeOn
    rw [h]
  unfold State.recordEnd
  dsimp only
  rw [hwrite, h]

theorem recordNext_work : MramWork [ONX_STAT] l' s (s.recordNext y) ∧ (s.recordNext y).onx.writing = s.onx.writing := by
  unfold State.recordNext
  split
  · split
    · exact ⟨(RegWork.refl.put (by simp)).mramWork, by rw [State.onx_put]⟩
    · exact ⟨.refl, rfl⟩
  · split
    · exact ⟨.refl, rfl⟩
    · exact ⟨regWork_setOnx.mramWork, rfl⟩
    · exact ⟨regWork_setOnx.mramWork, rfl⟩

theorem State.nperm_recordNext (h : s.onx.clear = none) (hslot : y.slot < 4096) : (s.recordNext y).get ONX_STAT.NPERM = y.slot + 1 := by
  unfold State.recordNext
  rw [h]
  refine (congrArg (State.get · ONX_STAT.NPERM) (if_pos hslot)).trans ((State.get_put_same rfl).trans ?_)
  exact Nat.mod_eq_of_lt (by simp only; omega)

theorem State.writing_recordOver : (s.recordOver y).onx.writing = none := rfl
theorem State.clear_recordOver : (s.recordOver y).onx.clear = s.onx.clear := rfl

theorem onyxRecordWriteEnd_ends (hup : s.up = true) (honx : s.onxUp = true) (h : s.onx.writing = some y) (hnodup : (y.todo.map (·.1)).Nodup)
    (hk : y.todo.length ≤ s.t.run + 1 - y.next) : Completes .onyxRecordWriteEnd s (fun t => t.onx.writing = none
      ∧ (∀ p ∈ y.todo, t.mramAt (slotAddr y.slot + p.1) = p.2)
      ∧ (s.onx.clear = none → y.slot < 4096 → t.get ONX_STAT.NPERM = y.slot + 1)
      ∧ RegsKeptBut [ONX_STAT] s t ∧ SramKept s t ∧ MramKeptBut (y.todo.map (slotAddr y.slot + ·.1)) s t) := by
  have htake : y.todo.take (s.t.run + 1 - y.next) = y.todo := List.take_of_length_le hk
  have hwords : MramWork [ONX_STAT] (y.todo.map (slotAddr y.slot + ·.1)) s (s.wordsOn y (s.t.run + 1 - y.next)) := by
    have := mramWork_wordsOn (l := [ONX_STAT]) (s := s) (y := y) (k := s.t.run + 1 - y.next)
    rwa [htake] at this
  have hover : ∀ z : State, MramWork [ONX_STAT] [] z (z.recordOver (y.on y.todo.length)) := fun _ => regWork_setOnx.mramWork
  obtain ⟨hnext, hwriting⟩ := recordNext_work (l' := []) (s := (s.wordsOn y (s.t.run + 1 - y.next)).recordOver (y.on y.todo.length))
    (y := y.on y.todo.length)
  have hafter := (hover (s.wordsOn y (s.t.run + 1 - y.next))).trans hnext
  obtain ⟨hregs, hsram, hmram⟩ := (hwords.trans (hafter.mono (List.Subset.refl _) (List.nil_subset _))).settled
  refine completes_of_exec (o := execOnyxRecordWriteEnd s) rfl (act_ends hup ?_)
  rw [honx, if_pos rfl, State.recordEnd_ends h hk] at *
  refine ⟨?_, fun p hp => ?_, fun hclear hslot => ?_, hregs, hsram, hmram⟩
  · rw [State.onx_settle, hwriting, State.writing_recordOver]
  · rw [State.mramAt_settle, (hafter.mram _ List.not_mem_nil).1]
    exact State.mramAt_wordsOn hnodup (by rwa [htake])
  · rw [State.get_settle]
    exact State.nperm_recordNext (State.clear_recordOver.trans (State.clear_wordsOn.trans hclear)) hslot

theorem onyxRecordWriteEnd_goes (hup : s.up = true) (honx : s.onxUp = true) (h : s.onx.writing = some y) (hnodup : (y.todo.map (·.1)).Nodup)
    (hk : k = s.t.run + 1 - y.next) (hlt : k < y.todo.length) : Completes .onyxRecordWriteEnd s (fun t =>
      t.onx.writing = some { y with todo := y.todo.drop k, next := y.next + k }
      ∧ (∀ p ∈ y.todo.take k, t.mramAt (slotAddr y.slot + p.1) = p.2)
      ∧ RegsKept s t ∧ SramKept s t ∧ MramKeptBut ((y.todo.take k).map (slotAddr y.slot + ·.1)) s t) := by
  subst hk
  have hlen : (y.todo.take (s.t.run + 1 - y.next)).length = s.t.run + 1 - y.next := List.length_take_of_le (Nat.le_of_lt hlt)
  obtain ⟨hregs, hsram, hmram⟩ := (mramWork_wordsOn (l := []) (s := s) (y := y) (k := s.t.run + 1 - y.next)).settled
  refine completes_of_exec (o := execOnyxRecordWriteEnd s) rfl (act_ends hup ?_)
  rw [honx, if_pos rfl, State.recordEnd_goes h hlt, State.onx_settle, State.writing_wordsOn, hlen]
  refine ⟨rfl, fun p hp => ?_, fun b => hregs b List.not_mem_nil, hsram, hmram⟩
  rw [State.mramAt_settle]
  exact State.mramAt_wordsOn hnodup hp

/-! ### A record begins (R420, R421, R428) -/

/-- The first record of the queue is taken, with its token. -/
def State.recTaken (s : State) (e : Rec) (r : List Rec) : State :=
  s.setOnx { s.onx with queue := r, tokens := if e.trig.cls ≤ 2 then s.onx.tokens else s.onx.tokens - 1 }

/-- Words of a record, the first of them written in its beat. -/
theorem State.beginWords_eq {mm : Bool} {ws : List Word} :
    s.beginWords n mm ws = (s.setWriting (some ⟨n, writeOrder mm ws, s.t.run⟩)).wordsOn ⟨n, writeOrder mm ws, s.t.run⟩ 1 := by
  have hone : s.t.run + 1 - s.t.run = 1 := Nat.add_sub_cancel_left ..
  unfold State.beginWords
  refine (State.writeOn_eq (y := ⟨n, writeOrder mm ws, s.t.run⟩) rfl).trans ?_
  dsimp only
  rw [hone]
  rfl

theorem writeOrder_head {mm : Bool} {ws : List Word} : (writeOrder mm ws).take 1 = [(0, if mm then 0 else crcMode)] := by
  cases mm <;> rfl

theorem beginWords_shows {mm : Bool} {ws : List Word} : (s.beginWords n mm ws).onx.writing = some ⟨n, (writeOrder mm ws).drop 1, s.t.run + 1⟩
    ∧ (s.beginWords n mm ws).mramAt (slotAddr n) = (if mm then 0 else crcMode) ∧ MramWork l [slotAddr n] s (s.beginWords n mm ws) := by
  have hwork := (mramWork_setWriting (l := l) (l' := [slotAddr n]) (s := s) (y := some ⟨n, writeOrder mm ws, s.t.run⟩)).trans
    ((mramWork_wordsOn (y := ⟨n, writeOrder mm ws, s.t.run⟩) (k := 1)).mono (List.Subset.refl _) (by rw [writeOrder_head]; simp))
  rw [State.beginWords_eq, State.writing_wordsOn, writeOrder_head]
  refine ⟨rfl, ?_, hwork⟩
  unfold State.wordsOn
  rw [writeOrder_head]
  exact State.mramAt_setMram_same

/-- A record begun as the next in sequence. -/
theorem State.beginRec_eq {e : Rec} : s.beginRec e = (s.setReg ONX_SEQ (s.reg ONX_SEQ + 1)).beginWords (slotOf (s.reg ONX_SEQ) (s.reg ONX_CSEQ))
    (!s.flag ONX_CFG.SAFEM) (e.words s.unit (s.reg ONX_SEQ) (s.reg ONX_CSEQ) (if !s.flag ONX_CFG.SAFEM then markMode else crcMode)) := rfl

theorem beginRec_work {e : Rec} : (s.beginRec e).reg ONX_SEQ = s.reg ONX_SEQ + 1
    ∧ MramWork [ONX_SEQ] [slotAddr (slotOf (s.reg ONX_SEQ) (s.reg ONX_CSEQ))] s (s.beginRec e) := by
  rw [State.beginRec_eq]
  refine ⟨?_, (RegWork.refl.setReg (by simp)).mramWork.trans beginWords_shows.2.2⟩
  exact ((beginWords_shows (l := [])).2.2.regs _ List.not_mem_nil).trans State.reg_setReg_same

theorem onyxRecordWrite_idle (hup : s.up = true) (h : s.mayRecord = false ∨ s.onx.queue = []) :
    Completes .onyxRecordWrite s (fun t => t.onx = s.onx ∧ AllKept s t) := by
  have hidle : s.recordStart = s := by
    unfold State.recordStart
    split
    · rfl
    · next e r hq =>
      refine if_pos ?_
      obtain h | h := h
      · simp [h]
      · rw [h] at hq
        exact nomatch hq
  refine completes_of_exec (o := execOnyxRecordWrite s) rfl (act_ends hup ?_)
  rw [hidle, State.onx_settle]
  exact ⟨rfl, allKept_settle⟩

theorem State.recordStart_due {e : Rec} {r : List Rec} (hmay : s.mayRecord = true) (hq : s.onx.queue = e :: r) (htoken : e.trig.cls ≤ 2 ∨ s.onx.tokens ≠ 0) :
    s.recordStart = (s.recTaken e r).beginRec e := by
  have htest : (!s.mayRecord || (!decide (e.trig.cls ≤ 2) && s.onx.tokens == 0)) = false := by
    obtain h | h := htoken
    · simp [hmay, h]
    · simp [hmay, h]
  unfold State.recordStart
  rw [hq]
  dsimp only
  rw [htest, if_neg Bool.false_ne_true]
  simp only [State.recTaken, State.setOnx]

/-- What stands beside the record in progress is as before it began. -/
theorem State.onx_beginWords {α : Type} (part : OnxS → α) (hpart : ∀ (o : OnxS) y, part { o with writing := y } = part o) {mm : Bool} {ws : List Word} :
    part (s.beginWords n mm ws).onx = part s.onx := by
  rw [State.beginWords_eq]
  exact (hpart _ _).trans ((congrArg part State.onx_wordsPut).trans (hpart _ _))

theorem onyxRecordWrite_begins (hup : s.up = true) {e : Rec} {r : List Rec} (hmay : s.mayRecord = true) (hq : s.onx.queue = e :: r)
    (htoken : e.trig.cls ≤ 2 ∨ s.onx.tokens ≠ 0) : Completes .onyxRecordWrite s (fun t =>
      let mm := !s.flag ONX_CFG.SAFEM
      let slot := slotOf (s.reg ONX_SEQ) (s.reg ONX_CSEQ)
      t.onx.queue = r ∧ t.reg ONX_SEQ = s.reg ONX_SEQ + 1
      ∧ t.onx.tokens = (if e.trig.cls ≤ 2 then s.onx.tokens else s.onx.tokens - 1)
      ∧ t.onx.writing = some ⟨slot, (writeOrder mm (e.words s.unit (s.reg ONX_SEQ) (s.reg ONX_CSEQ) (if mm then markMode else crcMode))).drop 1, s.t.run + 1⟩
      ∧ t.mramAt (slotAddr slot) = (if mm then 0 else crcMode)
      ∧ RegsKeptBut [ONX_SEQ] s t ∧ SramKept s t ∧ MramKeptBut [slotAddr slot] s t) := by
  obtain ⟨hseq, hwork⟩ := beginRec_work (s := s.recTaken e r) (e := e)
  obtain ⟨hwriting, hmark, -⟩ := beginWords_shows (l := []) (s := (s.recTaken e r).setReg ONX_SEQ (s.reg ONX_SEQ + 1))
    (n := slotOf (s.reg ONX_SEQ) (s.reg ONX_CSEQ)) (mm := !s.flag ONX_CFG.SAFEM)
    (ws := e.words s.unit (s.reg ONX_SEQ) (s.reg ONX_CSEQ) (if !s.flag ONX_CFG.SAFEM then markMode else crcMode))
  have hbegin : (s.recTaken e r).beginRec e = ((s.recTaken e r).setReg ONX_SEQ (s.reg ONX_SEQ + 1)).beginWords (slotOf (s.reg ONX_SEQ) (s.reg ONX_CSEQ))
      (!s.flag ONX_CFG.SAFEM) (e.words s.unit (s.reg ONX_SEQ) (s.reg ONX_CSEQ) (if !s.flag ONX_CFG.SAFEM then markMode else crcMode)) := State.beginRec_eq
  have htaken : MramWork [ONX_SEQ] [slotAddr (slotOf (s.reg ONX_SEQ) (s.reg ONX_CSEQ))] s (s.recTaken e r) := regWork_setOnx.mramWork
  obtain ⟨hregs, hsram, hmram⟩ := (htaken.trans hwork).settled
  refine completes_of_exec (o := execOnyxRecordWrite s) rfl (act_ends hup ?_)
  rw [State.recordStart_due hmay hq htoken]
  dsimp only
  rw [State.onx_settle, State.reg_settle, State.mramAt_settle]
  rw [hbegin] at hseq hregs hsram hmram ⊢
  refine ⟨?_, hseq, ?_, hwriting, hmark, hregs, hsram, hmram⟩
  · rw [State.onx_beginWords OnxS.queue (fun _ _ => rfl), State.onx_setReg]
    rfl
  · rw [State.onx_beginWords OnxS.tokens (fun _ _ => rfl), State.onx_setReg]
    rfl

/-! ### Reading a slot (R432) -/

/-- The copy asked for is over. -/
def State.copyAnswered (s : State) (r : Nat) : State := ((s.put ONX_RDST.RESULT r).putB ONX_RDST.DONE true).raise HST_ISRC.ONX

theorem State.copyDone_eq : s.copyDone n = (s.copyAnswered n).setOnx { (s.copyAnswered n).onx with copy := none } := rfl

theorem copyDone_shows (hn : n < 4) : (s.copyDone n).get ONX_RDST.RESULT = n ∧ (s.copyDone n).flag ONX_RDST.DONE = true
    ∧ (s.copyDone n).flag HST_ISRC.ONX = true ∧ (s.copyDone n).onx.copy = none ∧ RegWork [ONX_RDST, HST_ISRC] s (s.copyDone n) := by
  have hwork : RegWork [ONX_RDST, HST_ISRC] s (s.copyAnswered n) := ((RegWork.refl.put (by simp)).putB (by simp)).put (by simp)
  rw [State.copyDone_eq, State.get_setOnx, State.flag_setOnx, State.flag_setOnx]
  refine ⟨?_, ?_, State.flag_putB_same (x := true) rfl, rfl, hwork.trans regWork_setOnx⟩
  · unfold State.copyAnswered
    rw [State.get_raise_other rfl rfl, State.get_putB_other rfl rfl, State.get_put_same rfl]
    exact Nat.mod_eq_of_lt hn
  · unfold State.copyAnswered State.raise
    rw [State.flag_put_other rfl rfl, State.flag_putB_same rfl]

/-- The slot asked for, as ONX_RDSEL and ONX_RDST show it. -/
def State.rdselShown (s : State) (area : Bool) (idx : Nat) : State :=
  (((s.putB ONX_RDSEL.AREA area).put ONX_RDSEL.IDX idx).putB ONX_RDST.DONE false).put ONX_RDST.RESULT 0

theorem State.rdselWrite_eq {area : Bool} {idx : Nat} : s.rdselWrite area idx = if !area && idx ≥ 4096 then (s.rdselShown area idx).copyDone 2
    else if !(s.rdselShown area idx).flag ONX_STAT.READY then (s.rdselShown area idx).copyDone 3
    else (s.rdselShown area idx).setOnx { (s.rdselShown area idx).onx with copy := some (area, idx), copyAt := (s.rdselShown area idx).t.run } := rfl

/-- Registers that a write of ONX_RDSEL changes. -/
def rdselRegs : List Nat := [ONX_RDSEL, ONX_RDST, HST_ISRC]

theorem rdselShown_shows {area : Bool} {idx : Nat} (hidx : idx < 16384) : (s.rdselShown area idx).flag ONX_RDSEL.AREA = area
    ∧ (s.rdselShown area idx).get ONX_RDSEL.IDX = idx ∧ (s.rdselShown area idx).flag ONX_RDST.DONE = false
    ∧ (s.rdselShown area idx).flag ONX_STAT.READY = s.flag ONX_STAT.READY ∧ RegWork rdselRegs s (s.rdselShown area idx) := by
  unfold State.rdselShown
  refine ⟨?_, ?_, ?_, ?_, (((RegWork.refl.putB (by decide)).put (by decide)).putB (by decide)).put (by decide)⟩
  · rw [State.flag_put_other rfl rfl, State.flag_putB_other rfl rfl, State.flag_put_other rfl rfl, State.flag_putB_same rfl]
  · rw [State.get_put_other rfl rfl, State.get_putB_other rfl rfl, State.get_put_same rfl]
    exact Nat.mod_eq_of_lt hidx
  · rw [State.flag_put_other rfl rfl, State.flag_putB_same rfl]
  · rw [State.flag_put_other rfl rfl, State.flag_putB_other rfl rfl, State.flag_put_other rfl rfl, State.flag_putB_other rfl rfl]

theorem onxRdselWrite_answers (hup : s.up = true) (area : Bool) (idx : Fin 16384) : Completes (.onxRdselWrite area idx) s (fun t =>
    t.flag ONX_RDSEL.AREA = area ∧ t.get ONX_RDSEL.IDX = idx
    ∧ ((area = false ∧ 4096 ≤ idx.val) ∨ s.flag ONX_STAT.READY = false → t.flag ONX_RDST.DONE = true ∧ t.flag HST_ISRC.ONX = true
        ∧ t.get ONX_RDST.RESULT = (if area = false ∧ 4096 ≤ idx.val then 2 else 3))
    ∧ (¬(area = false ∧ 4096 ≤ idx.val) → s.flag ONX_STAT.READY = true → t.flag ONX_RDST.DONE = false ∧ t.onx.copy = some (area, idx.val))
    ∧ RegsKeptBut [ONX_RDSEL, ONX_RDST, HST_ISRC] s t ∧ MemKept s t) := by
  refine completes_of_exec (o := execOnxRdselWrite area idx s) rfl (act_ends hup ?_)
  generalize hz : (s.consume ONX_RDSEL (W (area.toNat <<< 35 + idx.val))) = z
  have hconsume : LoopWork rdselRegs s z := hz ▸ loopWork_consume
  have hready : z.flag ONX_STAT.READY = s.flag ONX_STAT.READY := hconsume.flag (by decide)
  obtain ⟨harea, hidx, hdone, hready', hshown⟩ := rdselShown_shows (s := z) (area := area) idx.isLt
  have hrange : ((!area && decide (idx.val ≥ 4096)) = true) = (area = false ∧ 4096 ≤ idx.val) := by simp
  have hall := hconsume.trans hshown.loop
  rw [State.flag_settle, State.flag_settle, State.flag_settle, State.get_settle, State.get_settle, State.onx_settle, State.rdselWrite_eq]
  simp only [hrange, hready', hready]
  by_cases hout : area = false ∧ 4096 ≤ idx.val
  · obtain ⟨hres, hend, hisrc, -, hwork⟩ := copyDone_shows (s := z.rdselShown area idx) (n := 2) (by decide)
    rw [if_pos hout, if_pos hout, hwork.flag (by decide), hwork.get (by decide)]
    exact ⟨harea, hidx, fun _ => ⟨hend, hisrc, hres⟩, fun hno => absurd hout hno, (hall.trans (hwork.mono (by decide)).loop).settled.kept⟩
  · rw [if_neg hout, if_neg hout]
    cases hr : s.flag ONX_STAT.READY with
    | false =>
      obtain ⟨hres, hend, hisrc, -, hwork⟩ := copyDone_shows (s := z.rdselShown area idx) (n := 3) (by decide)
      rw [Bool.not_false, if_pos rfl, hwork.flag (by decide), hwork.get (by decide)]
      exact ⟨harea, hidx, fun _ => ⟨hend, hisrc, hres⟩, fun _ hno => absurd hno (by decide), (hall.trans (hwork.mono (by decide)).loop).settled.kept⟩
    | true =>
      rw [Bool.not_true, if_neg Bool.false_ne_true, State.flag_setOnx, State.flag_setOnx, State.get_setOnx, State.onx_setOnx]
      refine ⟨harea, hidx, fun h => absurd h ?_, fun _ _ => ⟨hdone, rfl⟩, (hall.trans regWork_setOnx.loop).settled.kept⟩
      exact fun h => h.elim hout (by decide)

/-- Words put into registers by their number from an address. -/
def State.regsPut (s : State) (b : Nat) (r : List (Word × Nat)) : State := r.foldl (fun z e => z.setReg (b + e.2) e.1) s

theorem regWork_regsPut {r : List (Word × Nat)} (h : ∀ e ∈ r, b + e.2 ∈ l) : RegWork l s (s.regsPut b r) := by
  induction r generalizing s with
  | nil => exact .refl
  | cons e r ih => exact (RegWork.refl.setReg (h e List.mem_cons_self)).trans (ih fun e' he' => h e' (List.mem_cons_of_mem _ he'))

theorem State.reg_regsPut {r : List (Word × Nat)} {e : Word × Nat} (hnodup : (r.map (·.2)).Nodup) (he : e ∈ r) : (s.regsPut b r).reg (b + e.2) = e.1 := by
  induction r generalizing s with
  | nil => exact absurd he List.not_mem_nil
  | cons d r ih =>
    rw [List.map_cons, List.nodup_cons] at hnodup
    obtain rfl | he := List.mem_cons.mp he
    · have hkept : RegWork (r.map (b + ·.2)) (s.setReg (b + e.2) e.1) ((s.setReg (b + e.2) e.1).regsPut b r) :=
        regWork_regsPut fun d hd => List.mem_map.mpr ⟨d, hd, rfl⟩
      refine (hkept.regs _ fun hin => ?_).trans State.reg_setReg_same
      obtain ⟨d, hd, hoff⟩ := List.mem_map.mp hin
      exact hnodup.1 (List.mem_map.mpr ⟨d, hd, Nat.add_left_cancel hoff⟩)
    · exact ih hnodup.2 he

theorem State.copyWords_eq : s.copyWords n = s.regsPut (ONX_RD 0) ((s.slotWords n).zipIdx) := by
  unfold State.copyWords State.regsPut
  refine congrArg (fun step => List.foldl step s ((s.slotWords n).zipIdx)) (funext fun z => funext fun e => ?_)
  rw [show ONX_RD 0 + e.2 = ONX_RD e.2 from rfl]

/-- The words copied, as they stand in ONX_RD. -/
theorem State.reg_copyWords (j : Fin 32) : (s.copyWords n).reg (ONX_RD j) = s.mramAt (slotAddr n + j) := by
  have hnodup : (((s.slotWords n).zipIdx).map (·.2)).Nodup := by
    rw [List.zipIdx_map_snd]
    exact List.nodup_range'
  have hmem : (s.mramAt (slotAddr n + j), j.val) ∈ (s.slotWords n).zipIdx := by
    rw [List.mk_mem_zipIdx_iff_getElem?]
    simp [State.slotWords, State.mramWords]
  rw [State.copyWords_eq]
  exact State.reg_regsPut hnodup hmem

/-- The registers of a copy. -/
def copyRegs : List Nat := [ONX_RDST, HST_ISRC, SYS_ICHK2, ONX_LOST] ++ (List.range 32).map ONX_RD

theorem regWork_copyWords : RegWork copyRegs s (s.copyWords n) := by
  rw [State.copyWords_eq]
  refine regWork_regsPut fun e he => List.mem_append_right _ (List.mem_map.mpr ⟨e.2, ?_, rfl⟩)
  have hlt := List.snd_lt_of_mem_zipIdx he
  simpa [State.slotWords, State.mramWords] using hlt

theorem State.slotValid_of_mem_eq (h : t.mem = s.mem) : t.slotValid n = s.slotValid n := by
  unfold State.slotValid State.slotWords State.mramWords State.mramPoison State.mramAt
  rw [h]

/-- The slot of an area's index. -/
def slotOfArea (area : Bool) (i : Nat) : Nat := if area then 4096 + i else i

/-- A copy made, the slot's words fetched. -/
theorem State.copyRun_made {area : Bool} (hcopy : s.onx.copy = some (area, i)) (hidle : s.onx.writing = none) :
    s.copyRun = ((s.mramFetch 24 ((List.range 32).map (slotAddr (slotOfArea area i) + ·))).copyWords (slotOfArea area i)).copyDone
      (if s.slotValid (slotOfArea area i) then 0 else 1) := by
  have hvalid : (s.mramFetch 24 ((List.range 32).map (slotAddr (slotOfArea area i) + ·))).slotValid (slotOfArea area i) = s.slotValid (slotOfArea area i) :=
    State.slotValid_of_mem_eq regWork_mramFetch.mem
  unfold State.copyRun
  rw [hcopy]
  dsimp only
  rw [hidle, ← hvalid]
  rfl

theorem onyxCopyComplete_busy (hup : s.up = true) (honx : s.onxUp = true) {area : Bool} (hcopy : s.onx.copy = some (area, i))
    (hbusy : s.onx.writing.isSome = true) : Completes .onyxCopyComplete s (fun t => t.onx = s.onx ∧ AllKept s t) := by
  have hwaits : s.copyRun = s := by
    unfold State.copyRun
    rw [hcopy]
    exact if_pos hbusy
  refine completes_of_exec (o := execOnyxCopyComplete s) rfl (act_ends hup ?_)
  rw [honx, if_pos rfl, hwaits, State.onx_settle]
  exact ⟨rfl, allKept_settle⟩

theorem onyxCopyComplete_made (hup : s.up = true) (honx : s.onxUp = true) {area : Bool} (hcopy : s.onx.copy = some (area, i))
    (hidle : s.onx.writing = none) : Completes .onyxCopyComplete s (fun t =>
      (∀ j : Fin 32, t.reg (ONX_RD j) = s.mramAt (slotAddr (if area then 4096 + i else i) + j))
      ∧ t.get ONX_RDST.RESULT = (if s.slotValid (if area then 4096 + i else i) then 0 else 1) ∧ t.flag ONX_RDST.DONE = true
      ∧ t.flag HST_ISRC.ONX = true ∧ t.onx.copy = none
      ∧ RegsKeptBut ([ONX_RDST, HST_ISRC, SYS_ICHK2, ONX_LOST] ++ (List.range 32).map ONX_RD) s t ∧ MemKept s t) := by
  have hfetch : RegWork copyRegs s (s.mramFetch 24 ((List.range 32).map (slotAddr (slotOfArea area i) + ·))) := regWork_mramFetch.mono (by decide)
  obtain ⟨hres, hdone, hisrc, hcopied, hend⟩ := copyDone_shows (n := if s.slotValid (slotOfArea area i) then 0 else 1)
    (s := (s.mramFetch 24 ((List.range 32).map (slotAddr (slotOfArea area i) + ·))).copyWords (slotOfArea area i)) (by split <;> decide)
  refine completes_of_exec (o := execOnyxCopyComplete s) rfl (act_ends hup ?_)
  rw [honx, if_pos rfl, State.copyRun_made hcopy hidle, State.get_settle, State.flag_settle, State.flag_settle, State.onx_settle]
  refine ⟨fun j => ?_, hres, hdone, hisrc, hcopied, ((hfetch.trans regWork_copyWords).trans (hend.mono (by decide))).loop.settled.kept⟩
  have hrd : ONX_RD j ∉ [ONX_RDST, HST_ISRC] := by
    simp only [ONX_RD, ONX_RDST, HST_ISRC, List.mem_cons, List.not_mem_nil, or_false]
    omega
  rw [State.reg_settle, hend.regs _ hrd, State.reg_copyWords, State.mramAt, State.mramAt, hfetch.mem]
  rfl

/-! ### The start-up scan (R429, R431) -/

/-- An empty recorder. -/
def State.scanNone (s : State) : State := (((s.setReg ONX_SEQ 0).setReg ONX_CSEQ 0).setReg ONX_PCC 0).setReg ONX_OPR 0

/-- The registers taken from the newest record. -/
def State.scanTaken (s : State) (i : Nat) : State :=
  ((((s.setReg ONX_SEQ (s.mramAt (slotAddr i + 1) + 1)).setReg ONX_CSEQ (s.mramAt (slotAddr i + 2))).setReg ONX_PCC (s.mramAt (slotAddr i + 4))).setReg
    ONX_OPR (s.mramAt (slotAddr i + 5))).put ONX_STAT.NPERM (min 4096 ((s.mramAt (slotAddr i + 1) - s.mramAt (slotAddr i + 2)).toNat + 1))

/-- What the newest record leads to: a clear taken up, or the slots of an older clear invalidated. -/
def State.scanFound (s : State) (i : Nat) : State :=
  if fld (s.mramAt (slotAddr i + 3)) 35 28 == 0x14 then
    ((s.scanTaken i).setOnx { (s.scanTaken i).onx with
      clear := some ⟨i, s.mramAt (slotAddr i + 1), 2, true, s.mramAt (slotAddr i + 2), s.t.run, 0⟩ }).putB ONX_STAT.CLRRUN true
  else s.markedSlots.foldl (fun (x : State) (j : Nat) =>
    if s.slotValid j && s.mramAt (slotAddr j + 2) != s.mramAt (slotAddr i + 2) then x.setMram (slotAddr j) 0 else x) (s.scanTaken i)

/-- What the scan finds. -/
def State.scanRead (s : State) : State := match s.newest with | none => s.scanNone | some i => s.scanFound i

/-- The power cycle counted after a reset of the class. -/
def State.scanCounted (s : State) (cls : Nat) : State := if cls ≤ 3 then s.setReg ONX_PCC (s.reg ONX_PCC + 1) else s

/-- READY shows, and the records waiting take the life counters. -/
def State.scanShown (s : State) : State :=
  (s.putB ONX_STAT.READY true).setOnx { (s.putB ONX_STAT.READY true).onx with
    queue := (s.putB ONX_STAT.READY true).onx.queue.map (fun r =>
      { r with pcc := (s.putB ONX_STAT.READY true).reg ONX_PCC, opr := (s.putB ONX_STAT.READY true).reg ONX_OPR }) }

theorem State.scanEnd_eq (hclean : ∀ a, inRecords a = true → s.mramPoison a = false) : s.scanEnd
    = (s.scanRead.scanCounted s.life.rclass).scanShown.trigNow 1 1 0 (W (s.scanRead.scanCounted s.life.rclass).scanShown.life.rclass) 0 := by
  have hfetch : s.mramFetch 24 (s.mem.mramBad.filter inRecords) = s :=
    State.mramFetch_clean fun a ha => hclean a (List.mem_filter.mp ha).2
  unfold State.scanEnd
  rw [hfetch]
  unfold State.scanShown State.scanCounted State.scanRead State.scanFound State.scanTaken State.scanNone State.setOnx
  rfl


/-- Registers that the scan shows. -/
def scanRegs : List Nat := [ONX_SEQ, ONX_CSEQ, ONX_PCC, ONX_OPR, ONX_STAT, ONX_LOST]

theorem scanNone_shows : s.scanNone.reg ONX_SEQ = 0 ∧ s.scanNone.reg ONX_CSEQ = 0 ∧ s.scanNone.reg ONX_PCC = 0 ∧ s.scanNone.reg ONX_OPR = 0
    ∧ RegWork scanRegs s s.scanNone := by
  unfold State.scanNone
  refine ⟨?_, ?_, ?_, State.reg_setReg_same, (((RegWork.refl.setReg (by decide)).setReg (by decide)).setReg (by decide)).setReg (by decide)⟩
  · rw [State.reg_setReg_other (by decide), State.reg_setReg_other (by decide), State.reg_setReg_other (by decide), State.reg_setReg_same]
  · rw [State.reg_setReg_other (by decide), State.reg_setReg_other (by decide), State.reg_setReg_same]
  · rw [State.reg_setReg_other (by decide), State.reg_setReg_same]

theorem scanTaken_shows : (s.scanTaken i).reg ONX_SEQ = s.mramAt (slotAddr i + 1) + 1 ∧ (s.scanTaken i).reg ONX_CSEQ = s.mramAt (slotAddr i + 2)
    ∧ (s.scanTaken i).reg ONX_OPR = s.mramAt (slotAddr i + 5) ∧ RegWork scanRegs s (s.scanTaken i) := by
  unfold State.scanTaken
  rw [State.reg_put_other (by decide), State.reg_put_other (by decide), State.reg_put_other (by decide)]
  refine ⟨?_, ?_, State.reg_setReg_same,
    ((((RegWork.refl.setReg (by decide)).setReg (by decide)).setReg (by decide)).setReg (by decide)).put (by decide)⟩
  · rw [State.reg_setReg_other (by decide), State.reg_setReg_other (by decide), State.reg_setReg_other (by decide), State.reg_setReg_same]
  · rw [State.reg_setReg_other (by decide), State.reg_setReg_other (by decide), State.reg_setReg_same]

/-- Registers but those listed and SRAM are as before. -/
structure SramWork (l : List Nat) (s t : State) : Prop where
  regs : RegsKeptBut l s t
  sram : SramKept s t

theorem SramWork.trans (h : SramWork l s t) (h' : SramWork l t u) : SramWork l s u :=
  ⟨h.regs.trans h'.regs, fun b => ⟨(h'.sram b).1.trans (h.sram b).1, (h'.sram b).2.trans (h.sram b).2⟩⟩

theorem SramWork.mono {l1 : List Nat} (h : SramWork l s t) (hl : l ⊆ l1) : SramWork l1 s t := ⟨fun b hb => h.regs b fun hm => hb (hl hm), h.sram⟩

theorem RegWork.sramWork (h : RegWork l s t) : SramWork l s t := ⟨h.regs, (memKept_of_mem_eq h.mem).1⟩

theorem MramWork.sramWork (h : MramWork l l' s t) : SramWork l s t := ⟨h.regs, h.sram⟩

theorem sramWork_foldl {α : Type} {step : State → α → State} (h : ∀ z y, SramWork l z (step z y)) (r : List α) : SramWork l s (r.foldl step s) := by
  induction r generalizing s with
  | nil => exact RegWork.refl.sramWork
  | cons y r ih => exact (h s y).trans ih

theorem SramWork.settled (h : SramWork l s t) : SramWork l s (settle t) := ⟨fun b hb => State.reg_settle.trans (h.regs b hb), fun b => h.sram b⟩

/-- What the newest record leads to changes ONX_STAT alone of the registers. -/
theorem scanFound_work : SramWork [ONX_STAT] (s.scanTaken i) (s.scanFound i) := by
  have hwipe : ∀ (z : State) (j : Nat), SramWork [ONX_STAT] z
      (if s.slotValid j && s.mramAt (slotAddr j + 2) != s.mramAt (slotAddr i + 2) then z.setMram (slotAddr j) 0 else z) := fun z j => by
    split
    · exact (mramWork_setMram (l' := [slotAddr j]) (by simp)).sramWork
    · exact RegWork.refl.sramWork
  unfold State.scanFound
  split
  · exact (regWork_setOnx.putB (by simp)).sramWork
  · exact sramWork_foldl hwipe _

theorem scanCounted_work {cls : Nat} : RegWork [ONX_PCC] s (s.scanCounted cls) := .ite (RegWork.refl.setReg (by simp)) .refl

theorem scanShown_shows : s.scanShown.flag ONX_STAT.READY = true ∧ RegWork [ONX_STAT] s s.scanShown := by
  unfold State.scanShown
  refine ⟨?_, (RegWork.refl.putB (by simp)).trans regWork_setOnx⟩
  rw [State.flag_setOnx, State.flag_putB_same rfl]

theorem onyxStartupScanEnd_takes (hup : s.up = true) (honx : s.onxUp = true) (hready : s.flag ONX_STAT.READY = false)
    (hclean : ∀ a, inRecords a = true → s.mramPoison a = false) : Completes .onyxStartupScanEnd s (fun t =>
      t.flag ONX_STAT.READY = true ∧ SramKept s t
      ∧ (s.newest = none → t.reg ONX_SEQ = 0 ∧ t.reg ONX_CSEQ = 0 ∧ t.reg ONX_OPR = 0
          ∧ t.reg ONX_PCC = (if s.life.rclass ≤ 3 then 1 else 0) ∧ MramKept s t)
      ∧ (∀ i, s.newest = some i → t.reg ONX_SEQ = s.mramAt (slotAddr i + 1) + 1 ∧ t.reg ONX_CSEQ = s.mramAt (slotAddr i + 2)
          ∧ t.reg ONX_OPR = s.mramAt (slotAddr i + 5))
      ∧ RegsKeptBut [ONX_SEQ, ONX_CSEQ, ONX_PCC, ONX_OPR, ONX_STAT, ONX_LOST] s t) := by
  obtain ⟨hshown, hstat⟩ := scanShown_shows (s := s.scanRead.scanCounted s.life.rclass)
  generalize hy : (s.scanRead.scanCounted s.life.rclass).scanShown.life.rclass = y
  have hcounted := scanCounted_work (s := s.scanRead) (cls := s.life.rclass)
  have htrig : RegWork [ONX_LOST] (s.scanRead.scanCounted s.life.rclass).scanShown ((s.scanRead.scanCounted s.life.rclass).scanShown.trigNow 1 1 0 (W y) 0) :=
    regWork_trigger (by simp)
  have hafter : RegWork [ONX_PCC, ONX_STAT, ONX_LOST] s.scanRead ((s.scanRead.scanCounted s.life.rclass).scanShown.trigNow 1 1 0 (W y) 0) :=
    ((hcounted.mono (by simp)).trans (hstat.mono (by simp))).trans (htrig.mono (by simp))
  refine completes_of_exec (o := execOnyxStartupScanEnd s) rfl (act_ends hup ?_)
  rw [honx, hready, Bool.not_false, Bool.and_true, if_pos rfl, State.scanEnd_eq hclean, hy, State.flag_settle]
  simp only [State.reg_settle]
  refine ⟨(htrig.flag (by decide)).trans hshown, ?_⟩
  cases hnewest : s.newest with
  | none =>
    have hread : s.scanRead = s.scanNone := by
      unfold State.scanRead
      rw [hnewest]
    obtain ⟨hseq, hcseq, hpcc, hopr, hwork⟩ := scanNone_shows (s := s)
    rw [hread] at hafter hcounted hstat htrig ⊢
    have hall := hwork.trans (hafter.mono (by decide))
    obtain ⟨hregs, hmem⟩ := hall.loop.settled.kept
    refine ⟨hmem.1, fun _ => ⟨(hafter.regs _ (by decide)).trans hseq, (hafter.regs _ (by decide)).trans hcseq, (hafter.regs _ (by decide)).trans hopr,
      ?_, hmem.2⟩, fun _ hno => (nomatch hno), hregs⟩
    rw [htrig.regs _ (by decide), hstat.regs _ (by decide), State.scanCounted, State.reg_ite, State.reg_setReg_same, hpcc]
    rfl
  | some i =>
    have hread : s.scanRead = s.scanFound i := by
      unfold State.scanRead
      rw [hnewest]
    obtain ⟨hseq, hcseq, hopr, hwork⟩ := scanTaken_shows (s := s) (i := i)
    have hfound := scanFound_work (s := s) (i := i)
    rw [hread] at hafter ⊢
    obtain ⟨hregs, hsram⟩ := ((hwork.sramWork.trans (hfound.mono (by decide))).trans (hafter.sramWork.mono (by decide))).settled
    refine ⟨hsram, fun hno => (nomatch hno), fun j hj => ?_, hregs⟩
    obtain rfl := Option.some.inj hj
    exact ⟨(hafter.regs _ (by decide)).trans ((hfound.regs _ (by decide)).trans hseq), (hafter.regs _ (by decide)).trans ((hfound.regs _ (by decide)).trans hcseq),
      (hafter.regs _ (by decide)).trans ((hfound.regs _ (by decide)).trans hopr)⟩

end

/-- Settles O53: each row is one update of the recorder, its registers and the words of one slot. That PCC is 1 after a cold reset of an empty
recorder is log 46's choice; RANGE comes before NOTREADY as the model tests them. -/
theorem recorderWritesAndReads : Obligations.RecorderWritesAndReads :=
  ⟨fun _ hup honx hready hclean => onyxStartupScanEnd_takes hup honx hready hclean,
    fun _ hup hroom => ⟨oprHourRecord_due hup hroom, oprHourRecord_early hup, onxHtrigWrite_accepted hup hroom⟩,
    fun _ hup => ⟨onyxSnapshot_early hup, fun _ _ halive htrigs hdue hsram hmram => onyxSnapshot_due hup halive htrigs hdue hsram hmram⟩,
    fun _ hup => ⟨onyxRecordWrite_idle hup, fun _ _ hmay hq htoken => onyxRecordWrite_begins hup hmay hq htoken⟩,
    fun _ _ hup honx h hnodup => ⟨onyxRecordWriteEnd_ends hup honx h hnodup, fun _ hk hlt => onyxRecordWriteEnd_goes hup honx h hnodup hk hlt⟩,
    fun _ area idx hup => onxRdselWrite_answers hup area idx,
    fun _ _ _ hup honx hcopy => ⟨onyxCopyComplete_busy hup honx hcopy, onyxCopyComplete_made hup honx hcopy⟩⟩

end Sys2Proof.Machine

namespace Sys2Proof.Machine

open Sys2Proof

section
variable {s t u z : State} {P : State → Prop} {f g : Fld} {a b c i j k n v : Nat} {w : Word} {l l' : List Nat} {x : Bool} {o : OnxS}

/-! ## Authorised clearing of the recorder (R434, R435, R473) -/

/-! ### Challenges and lock-outs -/

/-- Recorder state replaced, in a state after a write taken from those waiting. -/
theorem loopWork_setOnx : LoopWork l s (s.setOnx o) := regWork_setOnx.loop

theorem onxChallengeRequest_answers (hup : s.up = true) (w : Word) : Completes (.onxChallengeRequest w) s (fun t =>
    (s.onx.lockAt.isSome = true → t.get ONX_CRES.RESULT = 4 ∧ RegsKeptBut [ONX_CRES] s t)
    ∧ (s.onx.lockAt = none → t.onx.chal = none ∧ t.onx.chalReq = some s.t.run ∧ RegsKept s t) ∧ MemKept s t) := by
  refine completes_of_exec (o := execOnxChallengeRequest w s) rfl (act_ends hup ?_)
  generalize hz : s.consume ONX_CHREQ w = z
  have hwork : LoopWork [] s z := hz ▸ loopWork_consume
  have honx : z.onx = s.onx := by rw [← hz]; rfl
  have hrun : z.t.run = s.t.run := by rw [← hz]; rfl
  unfold State.chalRequest
  rw [honx]
  cases hlock : s.onx.lockAt with
  | some b =>
    have hput := ((hwork.mono (by simp)).put (f := ONX_CRES.RESULT) (v := 4) (l := [ONX_CRES]) (by simp)).settled.kept
    rw [Option.isSome_some, if_pos rfl, State.get_settle, State.get_put_same rfl]
    exact ⟨fun _ => ⟨rfl, hput.1⟩, fun h => (nomatch h), hput.2⟩
  | none =>
    have hset : LoopWork [] s (z.setOnx { s.onx with chal := none, chalReq := some z.t.run }) := hwork.trans loopWork_setOnx
    have hkept := hset.settled.allKept
    rw [Option.isSome_none, if_neg Bool.false_ne_true]
    refine ⟨fun h => (nomatch h), fun _ => ?_, hkept.2⟩
    rw [State.onx_settle, hrun]
    exact ⟨rfl, rfl, hrun ▸ hkept.1⟩

/-- A random word placed in a challenge. -/
def State.drawWord (b : Nat) (s : State) (i : Nat) : State :=
  { s.setReg (b + i) (W (Config.randomWord s.freeCtr).toNat) with freeCtr := s.freeCtr + 1 }

theorem State.reg_drawWord : (s.drawWord b i).reg a = (s.setReg (b + i) (W (Config.randomWord s.freeCtr).toNat)).reg a := rfl

theorem regWork_drawWord (h : b + i ∈ l) : RegWork l s (s.drawWord b i) := ⟨(RegWork.refl.setReg h).regs, rfl⟩

theorem regWork_drawWords (m : List Nat) (h : ∀ i ∈ m, b + i ∈ l) : RegWork l s (m.foldl (State.drawWord b) s) := by
  induction m generalizing s with
  | nil => exact .refl
  | cons i r ih => exact (regWork_drawWord (h i List.mem_cons_self)).trans (ih fun j hj => h j (List.mem_cons_of_mem _ hj))

theorem State.t_drawWords (m : List Nat) : (m.foldl (State.drawWord b) s).t = s.t := by
  induction m generalizing s with
  | nil => rfl
  | cons i r ih => exact ih

theorem State.drawChallenge_eq : s.drawChallenge b n v
    = ((((List.range 6).foldl (State.drawWord b) s)).setReg (b + 6) (W (n % 2 ^ 32))).setReg (b + 7) (W (v % 2 ^ 32)) := rfl

/-- Registers of a challenge from an address. -/
theorem drawChallenge_shows : (s.drawChallenge b n v).reg (b + 6) = W (n % 2 ^ 32) ∧ (s.drawChallenge b n v).reg (b + 7) = W (v % 2 ^ 32)
    ∧ (s.drawChallenge b n v).t = s.t ∧ RegWork ((List.range 8).map (b + ·)) s (s.drawChallenge b n v) := by
  have hdraw : RegWork ((List.range 8).map (b + ·)) s ((List.range 6).foldl (State.drawWord b) s) :=
    regWork_drawWords _ fun i hi => List.mem_map.mpr ⟨i, List.mem_range.mpr (Nat.lt_trans (List.mem_range.mp hi) (by decide)), rfl⟩
  rw [State.drawChallenge_eq]
  refine ⟨?_, State.reg_setReg_same, ?_, (hdraw.setReg ?_).setReg ?_⟩
  · rw [State.reg_setReg_other (by omega), State.reg_setReg_same]
  · rw [State.t_setReg, State.t_setReg, State.t_drawWords]
  · exact List.mem_map.mpr ⟨6, by decide, rfl⟩
  · exact List.mem_map.mpr ⟨7, by decide, rfl⟩

theorem onxChallengeReady_places (hup : s.up = true) (halive : s.alive 24 = true) (hreq : s.onx.chalReq.isSome = true) :
    Completes .onxChallengeReady s (fun t => t.onx.chal = some s.t.run ∧ t.onx.chalReq = none ∧ t.reg (ONX_CHAL 6) = W ((s.reg ONX_SEQ).toNat % 2 ^ 32)
      ∧ t.reg (ONX_CHAL 7) = W ((s.reg ONX_PCC).toNat % 2 ^ 32) ∧ RegsKeptBut ((List.range 8).map ONX_CHAL) s t ∧ MemKept s t) := by
  obtain ⟨h6, h7, ht, hwork⟩ := drawChallenge_shows (s := s) (b := ONX_CHAL 0) (n := (s.reg ONX_SEQ).toNat) (v := (s.reg ONX_PCC).toNat)
  have hplace : s.challengePlace = (s.drawChallenge (ONX_CHAL 0) (s.reg ONX_SEQ).toNat (s.reg ONX_PCC).toNat).setOnx
      { (s.drawChallenge (ONX_CHAL 0) (s.reg ONX_SEQ).toNat (s.reg ONX_PCC).toNat).onx with
        chalReq := none, chal := some (s.drawChallenge (ONX_CHAL 0) (s.reg ONX_SEQ).toNat (s.reg ONX_PCC).toNat).t.run } := by
    refine if_neg ?_
    simp [halive, Option.isSome_iff_ne_none.mp hreq]
  refine completes_of_exec (o := execOnxChallengeReady s) rfl (act_ends hup ?_)
  rw [hplace, State.onx_settle, State.onx_setOnx, State.reg_settle, State.reg_settle, State.reg_setOnx, State.reg_setOnx, ht]
  exact ⟨rfl, rfl, h6, h7, (hwork.trans regWork_setOnx).loop.settled.kept⟩

theorem onxClearCommand_waits (hup : s.up = true) : Completes .onxClearCommand s (fun t => t.onx.clrCmd = true ∧ AllKept s t) := by
  have hcmd : s.clearCommand 1 = s.setOnx { s.onx with clrCmd := true } := if_pos rfl
  refine completes_of_exec (o := execOnxClearCommand s) rfl (act_ends hup ?_)
  rw [hcmd, State.onx_settle, State.onx_setOnx]
  exact ⟨rfl, (regWork_setOnx (l := [])).allKept⟩

theorem onxChallengeLapse_lapses (hup : s.up = true) (hchal : s.onx.chal = some b) : Completes .onxChallengeLapse s (fun t =>
    t.onx.chal = (if 64 * 1000000 ≤ s.since b then none else some b) ∧ AllKept s t) := by
  have hlapse : s.challengeLapse = if 64 * 1000000 ≤ s.since b then s.setOnx { s.onx with chal := none } else s := by
    unfold State.challengeLapse State.roundsPast
    rw [hchal]
    simp only [decide_eq_true_eq]
    rfl
  refine completes_of_exec (o := execOnxChallengeLapse s) rfl (act_ends hup ?_)
  rw [hlapse, State.onx_settle]
  split
  · exact ⟨rfl, (regWork_setOnx (l := [])).allKept⟩
  · exact ⟨hchal, allKept_settle⟩

theorem onxLockoutEnd_ends (hup : s.up = true) (hlock : s.onx.lockAt = some b) : Completes .onxLockoutEnd s (fun t =>
    t.onx.lockAt = (if 600 * 1000000 ≤ s.since b then none else some b) ∧ AllKept s t) := by
  have hend : s.lockoutEnd = if 600 * 1000000 ≤ s.since b then s.setOnx { s.onx with lockAt := none } else s := by
    unfold State.lockoutEnd State.roundsPast
    rw [hlock]
    simp only [decide_eq_true_eq]
    rfl
  refine completes_of_exec (o := execOnxLockoutEnd s) rfl (act_ends hup ?_)
  rw [hend, State.onx_settle]
  split
  · exact ⟨rfl, (regWork_setOnx (l := [])).allKept⟩
  · exact ⟨hlock, allKept_settle⟩

/-! ### A clear command at its round boundary (R434) -/

theorem onyxClearStart_idle (hup : s.up = true) (honx : s.onxUp = true) (h : s.onx.clrCmd = false ∨ s.t.usec ≠ 0) :
    Completes .onyxClearStart s (fun t => t.onx = s.onx ∧ AllKept s t) := by
  have hidle : s.clearStart = s := by
    refine if_pos ?_
    obtain h | h := h
    · simp [h]
    · simp [h]
  refine completes_of_exec (o := execOnyxClearStart s) rfl (act_ends hup ?_)
  rw [honx, if_pos rfl, hidle, State.onx_settle]
  exact ⟨rfl, allKept_settle⟩

/-- The command is taken. -/
def State.clearTaken (s : State) : State := s.setOnx { s.onx with clrCmd := false }

/-- The challenge is used up. -/
def State.chalUsed (s : State) : State := s.setOnx { s.onx with chal := none }

/-- A wrong answer counted. -/
def State.answerWrong (s : State) : State := s.setOnx { s.onx with
  badRun := if s.onx.badRun + 1 ≥ 3 then 0 else s.onx.badRun + 1, lockAt := if s.onx.badRun + 1 ≥ 3 then some s.t.run else none }

/-- A right answer shown. -/
def State.answerRight (s : State) : State := ((s.setOnx { s.onx with badRun := 0 }).put ONX_CRES.RESULT 0).putB ONX_STAT.CLRRUN true

/-- A clear that waits for the end of the record in progress. -/
def State.clearWaits (s : State) : State := s.setOnx { s.onx with clear := some ⟨0, 0, 0, false, s.reg ONX_CSEQ, 0, 0⟩ }

/-- What the answer leads to. -/
def State.clearAnswer (s : State) (key : List Byte) : State :=
  if s.regBytes (ONX_RESP 0) != hmacSha256 key (s.regBytes (ONX_CHAL 0)) then s.answerWrong.clearRefused 2
  else if s.answerRight.onx.writing.isSome || s.answerRight.wroteNow then s.answerRight.clearWaits else s.answerRight.clearStep1

/-- The command as it is judged once it is taken. -/
def State.clearJudged (s : State) : State :=
  if !s.flag ONX_STAT.READY || s.onx.clear.isSome then s.clearRefused 5
  else if s.onx.lockAt.isSome then s.clearRefused 4
  else match s.recKey with
    | none => s.clearRefused 3
    | some key => if s.onx.chal.isNone || s.roundsPast s.onx.chal 64 then s.clearRefused 1 else s.chalUsed.clearAnswer key

theorem State.clearStart_due (hcmd : s.onx.clrCmd = true) (husec : s.t.usec = 0) : s.clearStart = s.clearTaken.clearJudged := by
  unfold State.clearStart
  rw [if_neg (by simp [hcmd, husec])]
  rfl

theorem clearRefused_shows (hn : n < 16) : (s.clearRefused n).get ONX_CRES.RESULT = n ∧ (s.clearRefused n).get ONX_CRES.TRIES = (s.get ONX_CRES.TRIES + 1) % 2 ^ 32
    ∧ (s.clearRefused n).onx = s.onx ∧ RegWork [ONX_CRES] s (s.clearRefused n) := by
  unfold State.clearRefused State.incMod
  refine ⟨?_, ?_, ?_, (RegWork.refl.put (by simp)).put (by simp)⟩
  · rw [State.get_put_other rfl rfl, State.get_put_same rfl]
    exact Nat.mod_eq_of_lt hn
  · rw [State.get_put_same rfl, State.get_put_other rfl rfl]
    rfl
  · rw [State.onx_put, State.onx_put]

/-- A state whose memory, key, answer and time of rounds are as before judges a command alike. -/
theorem State.recKey_of_mem_eq (h : t.mem = s.mem) : t.recKey = s.recKey := by
  unfold State.recKey State.mramWords State.mramAt
  rw [State.keyCopy_of_mem_eq h, h]

theorem State.recKey_clearTaken : s.clearTaken.recKey = s.recKey := State.recKey_of_mem_eq rfl

/-- A refusal leaves the recorder as the taken command does. -/
theorem refused_shows (hn : n < 16) (hcause : s.clearJudged = s.clearRefused n) (hcmd : s.onx.clrCmd = false) :
    (settle s.clearJudged).get ONX_CRES.RESULT = n ∧ (settle s.clearJudged).get ONX_CRES.TRIES = (s.get ONX_CRES.TRIES + 1) % 2 ^ 32
    ∧ (settle s.clearJudged).onx.clrCmd = false ∧ LoopWork [ONX_CRES] s (settle s.clearJudged) := by
  obtain ⟨hres, htries, honx, hwork⟩ := clearRefused_shows (s := s) hn
  rw [hcause, State.get_settle, State.get_settle, State.onx_settle, honx]
  exact ⟨hres, htries, hcmd, hwork.loop.settled⟩

theorem State.clearJudged_busy (h : s.flag ONX_STAT.READY = false ∨ s.onx.clear.isSome = true) : s.clearJudged = s.clearRefused 5 := by
  refine if_pos ?_
  obtain h | h := h
  · simp [h]
  · simp [h]

theorem State.clearJudged_locked (hready : s.flag ONX_STAT.READY = true) (hclear : s.onx.clear = none) (hlock : s.onx.lockAt.isSome = true) :
    s.clearJudged = s.clearRefused 4 := by
  unfold State.clearJudged
  rw [if_neg (by simp [hready, hclear]), if_pos hlock]

theorem State.clearJudged_noKey (hready : s.flag ONX_STAT.READY = true) (hclear : s.onx.clear = none) (hlock : s.onx.lockAt.isSome = false)
    (hkey : s.recKey = none) : s.clearJudged = s.clearRefused 3 := by
  unfold State.clearJudged
  rw [if_neg (by simp [hready, hclear]), if_neg (by simp [hlock]), hkey]

theorem State.clearJudged_key {key : List Byte} (hready : s.flag ONX_STAT.READY = true) (hclear : s.onx.clear = none) (hlock : s.onx.lockAt.isSome = false)
    (hkey : s.recKey = some key) :
    s.clearJudged = if s.onx.chal.isNone || s.roundsPast s.onx.chal 64 then s.clearRefused 1 else s.chalUsed.clearAnswer key := by
  unfold State.clearJudged
  rw [if_neg (by simp [hready, hclear]), if_neg (by simp [hlock]), hkey]

/-- A clear command ends at its round boundary in what its judgement leaves. -/
theorem onyxClearStart_ends (hup : s.up = true) (honx : s.onxUp = true) (hcmd : s.onx.clrCmd = true) (husec : s.t.usec = 0)
    (h : P (settle s.clearTaken.clearJudged)) : Completes .onyxClearStart s P := by
  refine completes_of_exec (o := execOnyxClearStart s) rfl (act_ends hup ?_)
  rw [honx, if_pos rfl, State.clearStart_due hcmd husec]
  exact h

theorem loopWork_clearTaken : LoopWork l s s.clearTaken := loopWork_setOnx

theorem onyxClearStart_busy (hup : s.up = true) (honx : s.onxUp = true) (hcmd : s.onx.clrCmd = true) (husec : s.t.usec = 0)
    (hbusy : s.flag ONX_STAT.READY = false ∨ s.onx.clear.isSome = true) : Completes .onyxClearStart s (fun t => t.get ONX_CRES.RESULT = 5
      ∧ t.get ONX_CRES.TRIES = (s.get ONX_CRES.TRIES + 1) % 2 ^ 32 ∧ t.onx.clrCmd = false ∧ RegsKeptBut [ONX_CRES] s t ∧ MemKept s t) := by
  obtain ⟨hres, htries, htaken, hwork⟩ := refused_shows (s := s.clearTaken) (n := 5) (by decide) (State.clearJudged_busy hbusy) rfl
  exact onyxClearStart_ends hup honx hcmd husec ⟨hres, htries, htaken, (loopWork_clearTaken.trans hwork).kept⟩

theorem onyxClearStart_refused (hup : s.up = true) (honx : s.onxUp = true) (hcmd : s.onx.clrCmd = true) (husec : s.t.usec = 0)
    (hready : s.flag ONX_STAT.READY = true) (hclear : s.onx.clear = none)
    (hno : s.onx.lockAt.isSome = true ∨ s.recKey = none ∨ s.onx.chal = none ∨ s.roundsPast s.onx.chal 64 = true) :
    Completes .onyxClearStart s (fun t => t.get ONX_CRES.RESULT = (if s.onx.lockAt.isSome then 4 else if s.recKey = none then 3 else 1)
      ∧ t.get ONX_CRES.TRIES = (s.get ONX_CRES.TRIES + 1) % 2 ^ 32 ∧ RegsKeptBut [ONX_CRES] s t ∧ MemKept s t) := by
  have hend : ∀ n, n < 16 → s.clearTaken.clearJudged = s.clearTaken.clearRefused n →
      (if s.onx.lockAt.isSome then 4 else if s.recKey = none then 3 else 1) = n → Completes .onyxClearStart s (fun t =>
        t.get ONX_CRES.RESULT = (if s.onx.lockAt.isSome then 4 else if s.recKey = none then 3 else 1)
        ∧ t.get ONX_CRES.TRIES = (s.get ONX_CRES.TRIES + 1) % 2 ^ 32 ∧ RegsKeptBut [ONX_CRES] s t ∧ MemKept s t) := fun n hn hcause hres => by
    obtain ⟨hresult, htries, -, hwork⟩ := refused_shows hn hcause rfl
    rw [hres]
    exact onyxClearStart_ends hup honx hcmd husec ⟨hresult, htries, (loopWork_clearTaken.trans hwork).kept⟩
  cases hlock : s.onx.lockAt.isSome with
  | true => exact hlock ▸ hend 4 (by decide) (State.clearJudged_locked hready hclear hlock) (if_pos hlock)
  | false =>
    cases hkey : s.recKey with
    | none =>
      have hnone : s.clearTaken.recKey = none := State.recKey_clearTaken.trans hkey
      have := hend 3 (by decide) (State.clearJudged_noKey hready hclear hlock hnone) (by simp [hlock, hkey])
      simpa only [hlock, hkey] using this
    | some key =>
      have hsome : s.clearTaken.recKey = some key := State.recKey_clearTaken.trans hkey
      have hchal : (s.clearTaken.onx.chal.isNone || s.clearTaken.roundsPast s.clearTaken.onx.chal 64) = true := by
        have hsame : (s.clearTaken.onx.chal.isNone || s.clearTaken.roundsPast s.clearTaken.onx.chal 64) = (s.onx.chal.isNone || s.roundsPast s.onx.chal 64) := rfl
        rw [hsame]
        obtain h | h | h | h := hno
        · exact absurd h (by simp [hlock])
        · exact absurd h (by simp [hkey])
        · simp [h]
        · simp [h]
      have := hend 1 (by decide) ((State.clearJudged_key (s := s.clearTaken) hready hclear hlock hsome).trans (if_pos hchal)) (by simp [hlock, hkey])
      simpa only [hlock, hkey] using this

/-- An answer is compared: the key there, no lock-out, a challenge standing. -/
theorem State.clearJudged_answer {key : List Byte} (hready : s.flag ONX_STAT.READY = true) (hclear : s.onx.clear = none) (hlock : s.onx.lockAt = none)
    (hkey : s.recKey = some key) (hchal : s.onx.chal.isSome = true) (hfresh : s.roundsPast s.onx.chal 64 = false) :
    s.clearTaken.clearJudged = s.clearTaken.chalUsed.clearAnswer key := by
  have hstands : ¬(s.clearTaken.onx.chal.isNone || s.clearTaken.roundsPast s.clearTaken.onx.chal 64) = true := by
    have hsame : (s.clearTaken.onx.chal.isNone || s.clearTaken.roundsPast s.clearTaken.onx.chal 64) = (s.onx.chal.isNone || s.roundsPast s.onx.chal 64) := rfl
    rw [hsame, hfresh]
    simpa [Option.isSome_iff_ne_none] using hchal
  have hfree : s.clearTaken.onx.lockAt.isSome = false := by
    have hsame : s.clearTaken.onx.lockAt = s.onx.lockAt := rfl
    rw [hsame, hlock]
    rfl
  exact (State.clearJudged_key (s := s.clearTaken) hready hclear hfree (State.recKey_clearTaken.trans hkey)).trans (if_neg hstands)

theorem onyxClearStart_wrong (hup : s.up = true) (honx : s.onxUp = true) (hcmd : s.onx.clrCmd = true) (husec : s.t.usec = 0) {key : List Byte}
    (hready : s.flag ONX_STAT.READY = true) (hclear : s.onx.clear = none) (hlock : s.onx.lockAt = none)
    (hkey : s.recKey = some key) (hchal : s.onx.chal.isSome = true) (hfresh : s.roundsPast s.onx.chal 64 = false)
    (hwrong : s.regBytes (ONX_RESP 0) ≠ hmacSha256 key (s.regBytes (ONX_CHAL 0))) : Completes .onyxClearStart s (fun t =>
      t.get ONX_CRES.RESULT = 2 ∧ t.get ONX_CRES.TRIES = (s.get ONX_CRES.TRIES + 1) % 2 ^ 32 ∧ t.onx.chal = none
      ∧ t.onx.lockAt.isSome = decide (3 ≤ s.onx.badRun + 1) ∧ RegsKeptBut [ONX_CRES] s t ∧ MemKept s t) := by
  have hbytes : ∀ b, s.clearTaken.chalUsed.regBytes b = s.regBytes b := fun _ => rfl
  have hanswer : s.clearTaken.chalUsed.clearAnswer key = s.clearTaken.chalUsed.answerWrong.clearRefused 2 := by
    refine if_pos ?_
    rw [hbytes, hbytes]
    exact bne_iff_ne.mpr hwrong
  obtain ⟨hres, htries, honx', hwork⟩ := clearRefused_shows (s := s.clearTaken.chalUsed.answerWrong) (n := 2) (by decide)
  have hbefore : LoopWork [ONX_CRES] s s.clearTaken.chalUsed.answerWrong := (loopWork_setOnx.trans loopWork_setOnx).trans loopWork_setOnx
  refine onyxClearStart_ends hup honx hcmd husec ?_
  rw [State.clearJudged_answer hready hclear hlock hkey hchal hfresh, hanswer, State.get_settle, State.get_settle, State.onx_settle, honx']
  refine ⟨hres, htries, rfl, ?_, (hbefore.trans hwork.loop).settled.kept⟩
  have hlocks : s.clearTaken.chalUsed.answerWrong.onx.lockAt = if s.onx.badRun + 1 ≥ 3 then some s.t.run else none := rfl
  rw [hlocks]
  by_cases h : s.onx.badRun + 1 ≥ 3
  · rw [if_pos h, decide_eq_true h]
    rfl
  · rw [if_neg h, decide_eq_false h]
    rfl

/-! #### Step 1 of a clear -/

/-- Registers in which words that fail show. -/
def snapRegs : List Nat := [ONX_LOST, SYS_ICHK1, SYS_ICHK2, HST_ISRC]

/-- What the reads of a snapshot leave: registers that count failures, triggers and the queue apart, all is as before. -/
structure SnapKept (s t : State) : Prop where
  work : RegWork snapRegs s t
  writing : t.onx.writing = s.onx.writing
  clear : t.onx.clear = s.onx.clear
  chal : t.onx.chal = s.onx.chal
  time : t.t = s.t

theorem SnapKept.refl : SnapKept s s := ⟨.refl, rfl, rfl, rfl, rfl⟩

theorem SnapKept.trans (h : SnapKept s t) (h' : SnapKept t u) : SnapKept s u :=
  ⟨h.work.trans h'.work, h'.writing.trans h.writing, h'.clear.trans h.clear, h'.chal.trans h.chal, h'.time.trans h.time⟩

theorem SnapKept.ite {q : Prop} [Decidable q] (ht : SnapKept s t) (hu : SnapKept s u) : SnapKept s (if q then t else u) := by
  split
  · exact ht
  · exact hu

theorem snapKept_put (hf : f.addr ∈ snapRegs) : SnapKept s (s.put f v) :=
  ⟨RegWork.refl.put hf, congrArg OnxS.writing State.onx_put, congrArg OnxS.clear State.onx_put, congrArg OnxS.chal State.onx_put, State.t_put⟩

theorem snapKept_setOnx (hwriting : o.writing = s.onx.writing) (hclear : o.clear = s.onx.clear) (hchal : o.chal = s.onx.chal) : SnapKept s (s.setOnx o) :=
  ⟨regWork_setOnx, hwriting, hclear, hchal, rfl⟩

theorem SnapKept.lost (h : SnapKept s t) (hf : f.addr = ONX_LOST) : SnapKept s (t.inc f) := h.trans (snapKept_put (hf ▸ by decide))

theorem snapKept_trigger {cls sub src : Nat} {ts0 ts1 ev0 ev1 : Word} {rs : Option Nat} : SnapKept s (s.trigger cls sub src ts0 ts1 ev0 ev1 rs) := by
  have hset : ∀ o : OnxS, o.writing = s.onx.writing → o.clear = s.onx.clear → o.chal = s.onx.chal → SnapKept s { s with onx := o } := fun _ => snapKept_setOnx
  unfold State.trigger
  dsimp only
  generalize (if cls ≤ 2 then 128 else 112) = cap
  refine .ite .refl ?_
  split
  · refine SnapKept.lost ?_ rfl
    exact hset _ rfl rfl rfl
  · split
    · refine SnapKept.lost ?_ rfl
      exact hset _ rfl rfl rfl
    · refine .ite (SnapKept.lost ?_ rfl) (.ite ?_ ?_)
      · exact hset _ rfl rfl rfl
      · exact hset _ rfl rfl rfl
      · exact hset _ rfl rfl rfl

theorem snapKept_integrity {step isl addr resp : Nat} : SnapKept s (s.integrity step isl addr resp) :=
  snapKept_trigger.trans (snapKept_put (by decide))

theorem snapKept_foldl {α : Type} {step : State → α → State} (h : ∀ z y, SnapKept z (step z y)) (r : List α) : SnapKept s (r.foldl step s) := by
  induction r generalizing s with
  | nil => exact .refl
  | cons y r ih => exact (h s y).trans ih

theorem snapKept_sramFetch {l : List Nat} : SnapKept s (s.sramFetch k l) := by
  refine snapKept_foldl (fun z a => ?_) _
  unfold State.sramRead
  dsimp only
  split
  · exact (snapKept_put (by decide)).trans snapKept_integrity
  · exact .refl

theorem snapKept_mramFetch {l : List Nat} : SnapKept s (s.mramFetch k l) := by
  refine snapKept_foldl (fun z a => ?_) _
  unfold State.mramRead
  dsimp only
  split
  · exact (snapKept_put (by decide)).trans snapKept_integrity
  · exact .refl

theorem snapKept_snapFetch : SnapKept s (s.snapFetch n) := snapKept_sramFetch.trans snapKept_mramFetch

/-- Step 1 begun. -/
def State.clearBegun (s : State) : State :=
  s.setOnx { s.onx with clear := some ⟨slotOf (s.reg ONX_SEQ) (s.reg ONX_CSEQ), s.reg ONX_SEQ, 1, false, s.reg ONX_CSEQ, 0, 0⟩, lostNew := 0 }

theorem State.clearStep1_eq : s.clearStep1
    = (s.clearBegun.snapFetch (s.clearBegun.classSet 1)).beginRec (s.formRec (s.clearTrig 4 (s.reg ONX_CSEQ) 0)) := rfl

/-- Registers that step 1 changes. -/
def step1Regs : List Nat := [ONX_SEQ, ONX_LOST, SYS_ICHK1, SYS_ICHK2, HST_ISRC]

theorem clearStep1_shows : s.clearStep1.reg ONX_SEQ = s.reg ONX_SEQ + 1 ∧ s.clearStep1.onx.clear.isSome = true ∧ s.clearStep1.onx.chal = s.onx.chal
    ∧ MramWork step1Regs [slotAddr (slotOf (s.reg ONX_SEQ) (s.reg ONX_CSEQ))] s s.clearStep1 := by
  have hbegun : RegWork step1Regs s s.clearBegun := regWork_setOnx
  obtain ⟨hfetch, -, hclear, hchal, -⟩ := snapKept_snapFetch (s := s.clearBegun) (n := s.clearBegun.classSet 1)
  have hseq : (s.clearBegun.snapFetch (s.clearBegun.classSet 1)).reg ONX_SEQ = s.reg ONX_SEQ := hfetch.regs _ (by decide)
  have hcseq : (s.clearBegun.snapFetch (s.clearBegun.classSet 1)).reg ONX_CSEQ = s.reg ONX_CSEQ := hfetch.regs _ (by decide)
  obtain ⟨hnext, hwork⟩ := beginRec_work (s := s.clearBegun.snapFetch (s.clearBegun.classSet 1)) (e := s.formRec (s.clearTrig 4 (s.reg ONX_CSEQ) 0))
  rw [hseq, hcseq] at hwork
  rw [hseq] at hnext
  rw [State.clearStep1_eq]
  refine ⟨hnext, ?_, ?_, (hbegun.trans (hfetch.mono (by decide))).mramWork.trans (hwork.mono (by decide) (List.Subset.refl _))⟩
  · rw [State.beginRec_eq, State.onx_beginWords OnxS.clear fun _ _ => rfl, State.onx_setReg, hclear]
    rfl
  · rw [State.beginRec_eq, State.onx_beginWords OnxS.chal fun _ _ => rfl, State.onx_setReg, hchal]
    rfl

/-- Registers that the start of a clear changes. -/
def clearRegs : List Nat := [ONX_CRES, ONX_STAT, ONX_SEQ, ONX_LOST, SYS_ICHK1, SYS_ICHK2, HST_ISRC]

theorem answerRight_shows : s.answerRight.get ONX_CRES.RESULT = 0 ∧ s.answerRight.flag ONX_STAT.CLRRUN = true
    ∧ s.answerRight.onx = { s.onx with badRun := 0 } ∧ s.answerRight.t = s.t ∧ RegWork [ONX_CRES, ONX_STAT] s s.answerRight := by
  unfold State.answerRight
  refine ⟨?_, State.flag_putB_same rfl, ?_, ?_, (regWork_setOnx.put (by simp)).putB (by simp)⟩
  · rw [State.get_putB_other rfl rfl, State.get_put_same rfl]
    rfl
  · rw [State.onx_putB, State.onx_put]
    rfl
  · rw [State.t_putB, State.t_put]
    rfl

theorem clearWaits_shows : s.clearWaits.get f = s.get f ∧ s.clearWaits.flag f = s.flag f ∧ s.clearWaits.onx.clear.isSome = true
    ∧ s.clearWaits.onx.chal = s.onx.chal := ⟨rfl, rfl, rfl, rfl⟩

/-- A right answer: what the clear starts with, once the challenge is used. -/
theorem clearAnswer_right {key : List Byte} (hright : s.regBytes (ONX_RESP 0) = hmacSha256 key (s.regBytes (ONX_CHAL 0))) :
    (s.clearAnswer key).get ONX_CRES.RESULT = 0 ∧ (s.clearAnswer key).flag ONX_STAT.CLRRUN = true ∧ (s.clearAnswer key).onx.clear.isSome = true
    ∧ (s.clearAnswer key).onx.chal = s.onx.chal
    ∧ SramWork clearRegs s (s.clearAnswer key)
    ∧ (s.onx.writing = none → s.wroteNow = false → (s.clearAnswer key).reg ONX_SEQ = s.reg ONX_SEQ + 1
        ∧ MramKeptBut [slotAddr (slotOf (s.reg ONX_SEQ) (s.reg ONX_CSEQ))] s (s.clearAnswer key))
    ∧ (s.onx.writing.isSome = true → (s.clearAnswer key).reg ONX_SEQ = s.reg ONX_SEQ ∧ MramKept s (s.clearAnswer key)) := by
  obtain ⟨hres, hrun, honx, htime, hwork⟩ := answerRight_shows (s := s)
  have hsame : (s.answerRight.onx.writing.isSome || s.answerRight.wroteNow) = (s.onx.writing.isSome || s.wroteNow) := by
    unfold State.wroteNow
    rw [honx, htime]
  have hanswer : s.clearAnswer key = if s.onx.writing.isSome || s.wroteNow then s.answerRight.clearWaits else s.answerRight.clearStep1 := by
    rw [← hsame]
    exact if_neg (by rw [hright]; simp)
  have hmem : MemKept s s.answerRight := memKept_of_mem_eq hwork.mem
  rw [hanswer]
  cases hbusy : s.onx.writing.isSome || s.wroteNow with
  | true =>
    have hwaits : RegWork [ONX_CRES, ONX_STAT] s s.answerRight.clearWaits := hwork.trans regWork_setOnx
    rw [if_pos rfl]
    obtain ⟨-, -, hclear, hchal⟩ := clearWaits_shows (s := s.answerRight) (f := ONX_CRES.RESULT)
    refine ⟨clearWaits_shows.1.trans hres, clearWaits_shows.2.1.trans hrun, hclear, hchal.trans (by rw [honx]),
      hwaits.sramWork.mono (by decide), fun hnone hno => ?_, fun _ => ⟨hwaits.regs _ (by decide), (memKept_of_mem_eq hwaits.mem).2⟩⟩
    rw [hnone, hno] at hbusy
    exact absurd hbusy (by decide)
  | false =>
    obtain ⟨hseq, hclear, hchal, hstep⟩ := clearStep1_shows (s := s.answerRight)
    have hseq0 : s.answerRight.reg ONX_SEQ = s.reg ONX_SEQ := hwork.regs _ (by decide)
    have hcseq0 : s.answerRight.reg ONX_CSEQ = s.reg ONX_CSEQ := hwork.regs _ (by decide)
    rw [hseq0, hcseq0] at hstep
    rw [hseq0] at hseq
    rw [if_neg Bool.false_ne_true]
    refine ⟨(get_of_reg_eq (hstep.regs _ (by decide))).trans hres, (flag_of_reg_eq (hstep.regs _ (by decide))).trans hrun, hclear,
      hchal.trans (by rw [honx]), (hwork.sramWork.mono (by decide)).trans (hstep.sramWork.mono (by decide)),
      fun _ _ => ⟨hseq, ((hwork.mramWork.mono (l1 := clearRegs) (by decide) (List.Subset.refl _)).trans (hstep.mono (by decide) (List.Subset.refl _))).mram⟩, fun hw => ?_⟩
    rw [hw] at hbusy
    exact absurd hbusy (by simp)

theorem onyxClearStart_right (hup : s.up = true) (honx : s.onxUp = true) (hcmd : s.onx.clrCmd = true) (husec : s.t.usec = 0) {key : List Byte}
    (hready : s.flag ONX_STAT.READY = true) (hclear : s.onx.clear = none) (hlock : s.onx.lockAt = none)
    (hkey : s.recKey = some key) (hchal : s.onx.chal.isSome = true) (hfresh : s.roundsPast s.onx.chal 64 = false)
    (hright : s.regBytes (ONX_RESP 0) = hmacSha256 key (s.regBytes (ONX_CHAL 0))) : Completes .onyxClearStart s (fun t =>
      t.get ONX_CRES.RESULT = 0 ∧ t.flag ONX_STAT.CLRRUN = true ∧ t.onx.clear.isSome = true ∧ t.onx.chal = none ∧ SramKept s t
      ∧ (s.onx.writing = none → s.wroteNow = false → t.reg ONX_SEQ = s.reg ONX_SEQ + 1
          ∧ MramKeptBut [slotAddr (slotOf (s.reg ONX_SEQ) (s.reg ONX_CSEQ))] s t)
      ∧ (s.onx.writing.isSome = true → t.reg ONX_SEQ = s.reg ONX_SEQ ∧ MramKept s t)
      ∧ RegsKeptBut [ONX_CRES, ONX_STAT, ONX_SEQ, ONX_LOST, SYS_ICHK1, SYS_ICHK2, HST_ISRC] s t) := by
  have hbefore : RegWork clearRegs s s.clearTaken.chalUsed := regWork_setOnx.trans regWork_setOnx
  have hbytes : ∀ b, s.clearTaken.chalUsed.regBytes b = s.regBytes b := fun _ => rfl
  obtain ⟨hres, hrun, hclears, hused, hwork, hfree, hbusy⟩ := clearAnswer_right (s := s.clearTaken.chalUsed) (key := key) (by rw [hbytes, hbytes]; exact hright)
  obtain ⟨hregs, hsram⟩ := (hbefore.sramWork.trans hwork).settled
  refine onyxClearStart_ends hup honx hcmd husec ?_
  rw [State.clearJudged_answer hready hclear hlock hkey hchal hfresh, State.get_settle, State.flag_settle, State.onx_settle, State.reg_settle]
  exact ⟨hres, hrun, hclears, hused, hsram, hfree, hbusy, hregs⟩

/-! ### The later steps of a clear (R434) -/

theorem State.recordEnd_clear (h : s.onx.writing = none) : s.recordEnd.clearOn = s.clearOn := by rw [State.recordEnd_idle h]

/-- MARK zero in the slots that a stretch of step 2 reaches. -/
def wiped (x lo hi a : Nat) : Bool := inRecords a && a % 32 == 0 && decide (lo ≤ slotAt a) && decide (slotAt a < hi) && slotAt a != x && slotAt a != 0

theorem State.wipeMarks_eq {lo hi : Nat} : s.wipeMarks n lo hi
    = { s with mem := { s.mem with mram := s.mem.mram.filter (fun p => !wiped n lo hi p.1), mramBad := s.mem.mramBad.filter (fun a => !wiped n lo hi a) } } := rfl

theorem slotAt_slotAddr (h : i < 20480) : slotAt (slotAddr i) = i := by
  unfold slotAt slotAddr
  split
  · rw [if_pos (by omega)]
    omega
  · rw [if_neg (by omega)]
    omega

theorem inRecords_slotAddr (h : i < 20480) : inRecords (slotAddr i) = true ∧ slotAddr i % 32 = 0 := by
  unfold inRecords slotAddr
  simp only [Bool.or_eq_true, Bool.and_eq_true, decide_eq_true_eq]
  split <;> omega

theorem slotAddr_ne (hi : i < 20480) (hj : j < 20480) (h : i ≠ j) : slotAddr i ≠ slotAddr j := fun he =>
  h (by rw [← slotAt_slotAddr hi, ← slotAt_slotAddr hj, he])

theorem wiped_slotAddr {lo hi : Nat} (hlo : lo ≤ i) (hhi : i < hi) (hi' : i < 20480) (hx : i ≠ n) (h0 : i ≠ 0) : wiped n lo hi (slotAddr i) = true := by
  obtain ⟨hin, halign⟩ := inRecords_slotAddr hi'
  unfold wiped
  rw [hin, halign, slotAt_slotAddr hi']
  simp [hlo, hhi, hx, h0]

theorem wiped_off {lo hi : Nat} (h : a % 32 ≠ 0 ∨ inRecords a = false) : wiped n lo hi a = false := by
  unfold wiped
  obtain h | h := h
  · simp [h]
  · simp [h]

theorem State.mramAt_wipeMarks {lo hi : Nat} : (s.wipeMarks n lo hi).mramAt a = if wiped n lo hi a then 0 else s.mramAt a := by
  rw [State.wipeMarks_eq]
  exact Store.read_filter

theorem State.mramPoison_wipeMarks {lo hi : Nat} (h : wiped n lo hi a = false) : (s.wipeMarks n lo hi).mramPoison a = s.mramPoison a := by
  rw [State.wipeMarks_eq, Bool.eq_iff_iff]
  unfold State.mramPoison
  simp [h]

theorem sramKept_wipeMarks {lo hi : Nat} : SramKept s (s.wipeMarks n lo hi) := fun _ => ⟨rfl, rfl⟩

theorem regsKept_wipeMarks {lo hi : Nat} : RegsKept s (s.wipeMarks n lo hi) := fun _ => rfl

/-- A clear's state replaced. -/
def State.setClear (s : State) (y : Option Clear) : State := s.setOnx { s.onx with clear := y }

theorem State.clear_setClear {y : Option Clear} : (s.setClear y).onx.clear = y := rfl

theorem regWork_setClear {y : Option Clear} : RegWork l s (s.setClear y) := regWork_setOnx

/-- The clear once the MARKs below `n` are zero. -/
def Clear.to (c : Clear) (n : Nat) : Clear := { c with wiped := n }

/-- The second record of a clear begins in slot 0 (R434). -/
def State.clearSecond (s : State) (c : Clear) (n : Nat) : State :=
  (((((s.snapFetch (s.classSet 1)).setReg ONX_SEQ (c.seqX + 1 + 1)).setReg ONX_CSEQ (c.seqX + 1)).put ONX_STAT.NPERM 1).setOnx
    { ((((s.snapFetch (s.classSet 1)).setReg ONX_SEQ (c.seqX + 1 + 1)).setReg ONX_CSEQ (c.seqX + 1)).put ONX_STAT.NPERM 1).onx with
      clear := some { c with step := 3, wiped := n }, lostNew := 0 }).beginWords 0
    (c.slotX != 0 || !s.flag ONX_CFG.SAFEM) ((s.formRec (s.clearTrig 5 c.oldCseq (W c.resumed.toNat))).words
      ((((s.snapFetch (s.classSet 1)).setReg ONX_SEQ (c.seqX + 1 + 1)).setReg ONX_CSEQ (c.seqX + 1)).put ONX_STAT.NPERM 1).unit (c.seqX + 1) (c.seqX + 1)
      (if c.slotX != 0 || !s.flag ONX_CFG.SAFEM then markMode else crcMode))

/-- The MARKs that step 2 has reached. -/
def State.clearWiped (s : State) (c : Clear) : State :=
  (s.wipeMarks c.slotX c.wiped (min 20480 (s.t.run + 1 - c.at_))).setClear (some (c.to (min 20480 (s.t.run + 1 - c.at_))))

/-- Where a clear stands, with no record in progress. -/
def State.clearStep (s : State) (c : Clear) : State :=
  match c.step with
  | 0 => s.clearStep1
  | 2 => if s.t.run < c.at_ + 20480 then s.clearWiped c else (s.clearWiped c).clearSecond c (min 20480 (s.t.run + 1 - c.at_))
  | 4 => (if c.slotX != 0 then s.setMram (slotAddr c.slotX) 0 else s).clearOver
  | _ => s

theorem State.clearOn_eq {c : Clear} (hclear : s.onx.clear = some c) (hwriting : s.onx.writing = none) (hwrote : s.wroteNow = false) :
    s.clearOn = s.clearStep c := by
  unfold State.clearOn
  rw [hclear]
  refine (if_neg (by simp [hwriting, hwrote])).trans ?_
  rfl

/-- A clear that goes on ends its command with its step done. -/
theorem onyxClearComplete_ends {c : Clear} (hup : s.up = true) (honx : s.onxUp = true) (hclear : s.onx.clear = some c) (hwriting : s.onx.writing = none)
    (hwrote : s.wroteNow = false) (h : P (settle (s.clearStep c))) : Completes .onyxClearComplete s P := by
  refine completes_of_exec (o := execOnyxClearComplete s) rfl (act_ends hup ?_)
  rw [honx, if_pos rfl, State.recordEnd_clear hwriting, State.clearOn_eq hclear hwriting hwrote]
  exact h

theorem State.clearStep_wipes {c : Clear} (hstep : c.step = 2) : s.clearStep c
    = if s.t.run < c.at_ + 20480 then s.clearWiped c else (s.clearWiped c).clearSecond c (min 20480 (s.t.run + 1 - c.at_)) := by
  unfold State.clearStep
  simp only [hstep]

theorem State.mramAt_clearWiped {c : Clear} :
    (s.clearWiped c).mramAt a = if wiped c.slotX c.wiped (min 20480 (s.t.run + 1 - c.at_)) a then 0 else s.mramAt a := State.mramAt_wipeMarks

theorem State.mramPoison_clearWiped {c : Clear} (h : wiped c.slotX c.wiped (min 20480 (s.t.run + 1 - c.at_)) a = false) :
    (s.clearWiped c).mramPoison a = s.mramPoison a := State.mramPoison_wipeMarks h

theorem sramKept_clearWiped {c : Clear} : SramKept s (s.clearWiped c) := fun _ => ⟨rfl, rfl⟩

theorem regsKept_clearWiped {c : Clear} : RegsKept s (s.clearWiped c) := fun _ => rfl

theorem State.mramAt_clearWiped_mark {c : Clear} (hlo : c.wiped ≤ i) (hhi : i < s.t.run + 1 - c.at_) (hi : i < 20480) (hx : i ≠ c.slotX) (h0 : i ≠ 0) :
    (s.clearWiped c).mramAt (slotAddr i) = 0 := by
  rw [State.mramAt_clearWiped, wiped_slotAddr hlo (by omega) hi hx h0, if_pos rfl]

theorem clearStep_goesOn {c : Clear} (hup : s.up = true) (honx : s.onxUp = true) (hclear : s.onx.clear = some c) (hwriting : s.onx.writing = none)
    (hwrote : s.wroteNow = false) (hstep : c.step = 2) (hrun : s.t.run < c.at_ + 20480) : Completes .onyxClearComplete s (fun t =>
        (∀ i, c.wiped ≤ i → i < s.t.run + 1 - c.at_ → i < 20480 → i ≠ c.slotX → i ≠ 0 → t.mramAt (slotAddr i) = 0)
        ∧ t.onx.clear = some { c with wiped := min 20480 (s.t.run + 1 - c.at_) } ∧ RegsKept s t ∧ SramKept s t) := by
  refine onyxClearComplete_ends hup honx hclear hwriting hwrote ?_
  rw [State.clearStep_wipes hstep, if_pos hrun]
  refine ⟨fun i hlo hhi hi hx h0 => ?_, ?_, fun _ => State.reg_settle.trans (regsKept_clearWiped _), sramKept_clearWiped⟩
  · rw [State.mramAt_settle]
    exact State.mramAt_clearWiped_mark hlo hhi hi hx h0
  · rw [State.onx_settle]
    rfl

/-- Registers that the second record of a clear changes. -/
def clearSecondRegs : List Nat := [ONX_SEQ, ONX_CSEQ, ONX_STAT, ONX_LOST, SYS_ICHK1, SYS_ICHK2, HST_ISRC]

theorem clearSecond_shows {c : Clear} : (s.clearSecond c n).reg ONX_CSEQ = c.seqX + 1 ∧ (s.clearSecond c n).reg ONX_SEQ = c.seqX + 1 + 1
    ∧ (s.clearSecond c n).get ONX_STAT.NPERM = 1 ∧ (s.clearSecond c n).onx.clear = some { c with step := 3, wiped := n }
    ∧ (s.clearSecond c n).onx.writing.map (·.slot) = some 0 ∧ MramWork clearSecondRegs [slotAddr 0] s (s.clearSecond c n) := by
  obtain ⟨hfetch, -⟩ := snapKept_snapFetch (s := s) (n := s.classSet 1)
  unfold State.clearSecond
  generalize s.snapFetch (s.classSet 1) = z at hfetch
  generalize Rec.words _ _ _ _ _ = ws
  generalize (c.slotX != 0 || !s.flag ONX_CFG.SAFEM) = mm
  have hset : RegWork clearSecondRegs s (((z.setReg ONX_SEQ (c.seqX + 1 + 1)).setReg ONX_CSEQ (c.seqX + 1)).put ONX_STAT.NPERM 1) :=
    (((hfetch.mono (by decide)).setReg (by decide)).setReg (by decide)).put (by decide)
  have hseq : (((z.setReg ONX_SEQ (c.seqX + 1 + 1)).setReg ONX_CSEQ (c.seqX + 1)).put ONX_STAT.NPERM 1).reg ONX_SEQ = c.seqX + 1 + 1 := by
    rw [State.reg_put_other (by decide), State.reg_setReg_other (by decide), State.reg_setReg_same]
  have hcseq : (((z.setReg ONX_SEQ (c.seqX + 1 + 1)).setReg ONX_CSEQ (c.seqX + 1)).put ONX_STAT.NPERM 1).reg ONX_CSEQ = c.seqX + 1 := by
    rw [State.reg_put_other (by decide), State.reg_setReg_same]
  have hperm : (((z.setReg ONX_SEQ (c.seqX + 1 + 1)).setReg ONX_CSEQ (c.seqX + 1)).put ONX_STAT.NPERM 1).get ONX_STAT.NPERM = 1 := State.get_put_same rfl
  generalize ((z.setReg ONX_SEQ (c.seqX + 1 + 1)).setReg ONX_CSEQ (c.seqX + 1)).put ONX_STAT.NPERM 1 = y at hset hseq hcseq hperm
  have hsetOnx : ∀ o, RegWork clearSecondRegs s (y.setOnx o) := fun _ => hset.trans regWork_setOnx
  obtain ⟨hwriting, -, hwork⟩ := beginWords_shows (l := []) (s := y.setOnx { y.onx with clear := some { c with step := 3, wiped := n }, lostNew := 0 })
    (n := 0) (mm := mm) (ws := ws)
  have hregs : ∀ b, _ = y.reg b := fun b => hwork.regs b List.not_mem_nil
  refine ⟨(hregs _).trans hcseq, (hregs _).trans hseq, (get_of_reg_eq (hregs _)).trans hperm, ?_, ?_, (hsetOnx _).mramWork.trans (hwork.mono (by simp) (List.Subset.refl _))⟩
  · exact State.onx_beginWords OnxS.clear fun _ _ => rfl
  · rw [hwriting]
    rfl

theorem clearStep_second {c : Clear} (hup : s.up = true) (honx : s.onxUp = true) (hclear : s.onx.clear = some c) (hwriting : s.onx.writing = none)
    (hwrote : s.wroteNow = false) (hstep : c.step = 2) (hrun : c.at_ + 20480 ≤ s.t.run) : Completes .onyxClearComplete s (fun t => t.reg ONX_CSEQ = c.seqX + 1
        ∧ t.reg ONX_SEQ = c.seqX + 1 + 1 ∧ t.get ONX_STAT.NPERM = 1 ∧ t.onx.clear = some { c with step := 3, wiped := 20480 }
        ∧ (t.onx.writing.map (·.slot)) = some 0
        ∧ (∀ i, c.wiped ≤ i → i < 20480 → i ≠ c.slotX → i ≠ 0 → t.mramAt (slotAddr i) = 0)
        ∧ (∀ a, a % 32 ≠ 0 ∨ inRecords a = false → t.mramAt a = s.mramAt a ∧ t.mramPoison a = s.mramPoison a)
        ∧ SramKept s t ∧ RegsKeptBut [ONX_SEQ, ONX_CSEQ, ONX_STAT, ONX_LOST, SYS_ICHK1, SYS_ICHK2, HST_ISRC] s t) := by
  have hall : min 20480 (s.t.run + 1 - c.at_) = 20480 := by omega
  refine onyxClearComplete_ends hup honx hclear hwriting hwrote ?_
  rw [State.clearStep_wipes hstep, if_neg (by omega), hall]
  obtain ⟨hcseq, hseq, hperm, hclears, hslot, hsecond⟩ := clearSecond_shows (s := s.clearWiped c) (c := c) (n := 20480)
  obtain ⟨hregs, hsram, hmram⟩ := hsecond.settled
  rw [State.reg_settle, State.reg_settle, State.get_settle, State.onx_settle]
  refine ⟨hcseq, hseq, hperm, hclears, hslot, fun i hlo hi hx h0 => ?_, fun a ha => ?_, fun b => ?_, fun b hb => ?_⟩
  · rw [(hmram _ (by simpa using slotAddr_ne hi (by decide) h0)).1]
    exact State.mramAt_clearWiped_mark hlo (by omega) hi hx h0
  · have hne : a ∉ [slotAddr 0] := by
      obtain ⟨hin, halign⟩ := inRecords_slotAddr (i := 0) (by decide)
      rw [List.mem_singleton]
      rintro rfl
      obtain h | h := ha
      · exact h halign
      · rw [hin] at h
        exact absurd h (by decide)
    rw [(hmram a hne).1, (hmram a hne).2, State.mramAt_clearWiped, State.mramPoison_clearWiped (wiped_off ha), wiped_off ha]
    exact ⟨if_neg Bool.false_ne_true, rfl⟩
  · rw [(hsram b).1, (hsram b).2]
    exact sramKept_clearWiped b
  · exact (hregs b hb).trans (regsKept_clearWiped b)

theorem clearOver_shows : s.clearOver.flag ONX_STAT.CLRRUN = false ∧ s.clearOver.onx.clear = none ∧ s.clearOver.flag HST_ISRC.ONX = true
    ∧ RegWork [ONX_STAT, HST_ISRC] s s.clearOver := by
  have hover : s.clearOver = ((s.putB ONX_STAT.CLRRUN false).putB HST_ISRC.ONX true).setClear none := rfl
  rw [hover]
  unfold State.setClear
  rw [State.flag_setOnx, State.flag_setOnx]
  refine ⟨?_, rfl, State.flag_putB_same rfl, ((RegWork.refl.putB (by decide)).putB (by decide)).trans regWork_setOnx⟩
  rw [State.flag_putB_other rfl rfl, State.flag_putB_same rfl]

theorem clearStep_last {c : Clear} (hup : s.up = true) (honx : s.onxUp = true) (hclear : s.onx.clear = some c) (hwriting : s.onx.writing = none)
    (hwrote : s.wroteNow = false) (hstep : c.step = 4) : Completes .onyxClearComplete s (fun t => t.flag ONX_STAT.CLRRUN = false ∧ t.onx.clear = none
        ∧ t.flag HST_ISRC.ONX = true ∧ (c.slotX ≠ 0 → t.mramAt (slotAddr c.slotX) = 0) ∧ (c.slotX = 0 → MramKept s t)
        ∧ MramKeptBut [slotAddr c.slotX] s t ∧ SramKept s t ∧ RegsKeptBut [ONX_STAT, HST_ISRC] s t) := by
  have hlast : s.clearStep c = (if c.slotX != 0 then s.setMram (slotAddr c.slotX) 0 else s).clearOver := by
    unfold State.clearStep
    simp only [hstep]
  refine onyxClearComplete_ends hup honx hclear hwriting hwrote ?_
  rw [hlast, State.flag_settle, State.flag_settle, State.onx_settle]
  by_cases hx : c.slotX = 0
  · rw [if_neg (by simp [hx])]
    obtain ⟨hrun, hnone, hirq, hwork⟩ := clearOver_shows (s := s)
    obtain ⟨hregs, hsram, hmram⟩ := hwork.mramWork (l' := []) |>.settled
    exact ⟨hrun, hnone, hirq, fun h => absurd hx h, fun _ b => hmram b List.not_mem_nil, fun b _ => hmram b List.not_mem_nil, hsram, hregs⟩
  · rw [if_pos (by simpa using hx)]
    obtain ⟨hrun, hnone, hirq, hwork⟩ := clearOver_shows (s := s.setMram (slotAddr c.slotX) 0)
    obtain ⟨hregs, hsram, hmram⟩ := ((mramWork_setMram (List.mem_singleton_self _)).trans (hwork.mramWork (l' := [slotAddr c.slotX]))).settled
    refine ⟨hrun, hnone, hirq, fun _ => ?_, fun h => absurd h hx, hmram, hsram, hregs⟩
    rw [State.mramAt_settle, ((memKept_of_mem_eq hwork.mem).2 _).1, State.mramAt_setMram_same]

end

/-- Settles O54: each clause is the lemma named for it above. The order of the causes a clear command is refused by is the design log's entry 46. -/
theorem authorisedClearing : Obligations.AuthorisedClearing := by
  unfold Obligations.AuthorisedClearing
  refine ⟨fun s w hup => onxChallengeRequest_answers hup w, fun s hup halive hreq => onxChallengeReady_places hup halive hreq,
    fun s hup => ⟨onxClearCommand_waits hup, fun b hb => onxChallengeLapse_lapses hup hb, fun b hb => onxLockoutEnd_ends hup hb⟩,
    fun s hup honx h => onyxClearStart_idle hup honx h, fun s hup honx hcmd husec => ⟨fun h => onyxClearStart_busy hup honx hcmd husec h,
      fun hready hclear => ⟨fun h => onyxClearStart_refused hup honx hcmd husec hready hclear h, fun key hlock hkey hchal hfresh =>
        ⟨fun h => onyxClearStart_wrong hup honx hcmd husec hready hclear hlock hkey hchal hfresh h,
          fun h => onyxClearStart_right hup honx hcmd husec hready hclear hlock hkey hchal hfresh h⟩⟩⟩,
    fun s c hup honx hclear hwriting hwrote => ⟨fun hstep hrun => clearStep_goesOn hup honx hclear hwriting hwrote hstep hrun,
      fun hstep hrun => clearStep_second hup honx hclear hwriting hwrote hstep hrun, fun hstep => clearStep_last hup honx hclear hwriting hwrote hstep⟩⟩

end Sys2Proof.Machine

namespace Sys2Proof.Machine

open Sys2Proof

/-! ## An image with a word listed twice (R463) -/

/-- Step 3 of a preparation of bank A has come to the first word of the received-signal entries, which the table of MRAM words lists twice. -/
def wordTwice : State :=
  { (({ State.reset with regs := [(SYS_ISTAT, W (2 ^ 29 - 1))] } : State).putB IMG_STAT.PREP true) with
    life := { State.reset.life with boot := .powered }
    t := { State.reset.t with run := 295680 }
    mem := { State.reset.mem with mram := [(imgBase 0 + 0o110000, 1), (imgBase 0 + 0o110000, 2)] }
    img := { ImgS.fresh with prep := some ⟨0, 0, 3, 29952, false, [], [], false⟩ } }

theorem bankRx_wordTwice : wordTwice.bankRx 0 0 0 = 1 := by decide

theorem sramAt_prepared_wordTwice : wordTwice.prepDue.prepSteps.sramAt (rxAddr 0) = 2 := by decide

/-- Refutes O56 at its second part. Over every state the table of MRAM words may list an address twice; a read takes the first entry, but the copy of
the received-signal entries stores both in turn, and the second remains. In the canonical form, which every step keeps, no address stands twice. The
rest of the statement, with the choices of the design log's entries 49 and 50, is not touched. -/
theorem not_imagePreparesAndApplies : ¬ Obligations.ImagePreparesAndApplies := by
  unfold Obligations.ImagePreparesAndApplies
  rintro ⟨-, hwords, -⟩
  have hup : wordTwice.up = true := by decide
  have himg : wordTwice.imgUp = true := by decide
  obtain ⟨t, hrun, -, -, -, -, -, hcopied⟩ := hwords wordTwice _ 29953 hup himg (by decide) rfl (by decide) (by decide) (by decide) (by decide) (by decide)
    (by decide)
  obtain ⟨-, hrx, -⟩ := hcopied rfl rfl
  have hexec : exec .imagePreparation wordTwice = .next (settle wordTwice.prepDue.prepSteps) :=
    act_up (p := fun s => if s.imgUp then s.prepDue.prepSteps else s) hup
  obtain rfl : settle wordTwice.prepDue.prepSteps = t := Host.Outcome.next.inj (hexec.symm.trans hrun)
  have hshown := hrx 0 0 (by decide) (by decide) (by decide) (by decide)
  rw [State.sramAt_settle, Nat.add_zero, sramAt_prepared_wordTwice, bankRx_wordTwice] at hshown
  exact absurd hshown (by decide)

end Sys2Proof.Machine

namespace Sys2Proof.Machine

open Sys2Proof

section
variable {s t u z : State} {P : State → Prop} {f g : Fld} {a b c i j k n r v : Nat} {w : Word} {l l' : List Nat} {x busy : Bool} {y : ImgS}

/-! ## What registers and the recorder alone show -/

/-- A state with other registers and another recorder. -/
def State.showing (s : State) (o : OnxS) (rs : Store) : State := { s with onx := o, regs := rs }

/-- Registers and the recorder apart, the states are one. -/
def Shows (s t : State) : Prop := ∃ o rs, t = s.showing o rs

theorem Shows.refl : Shows s s := ⟨s.onx, s.regs, rfl⟩

theorem Shows.trans (h : Shows s t) (h' : Shows t u) : Shows s u := by
  obtain ⟨o, rs, rfl⟩ := h
  obtain ⟨o', rs', rfl⟩ := h'
  exact ⟨o', rs', rfl⟩

theorem Shows.ite {q : Prop} [Decidable q] (ht : Shows s t) (hu : Shows s u) : Shows s (if q then t else u) := by
  split
  · exact ht
  · exact hu

theorem shows_setReg : Shows s (s.setReg a w) := ⟨s.onx, _, rfl⟩

theorem shows_put : Shows s (s.put f v) := shows_setReg

theorem shows_setOnx {o : OnxS} : Shows s (s.setOnx o) := ⟨o, s.regs, rfl⟩

theorem Shows.put (h : Shows s t) : Shows s (t.put f v) := h.trans shows_put

theorem Shows.putB (h : Shows s t) : Shows s (t.putB f x) := h.put

theorem Shows.setReg (h : Shows s t) : Shows s (t.setReg a w) := h.trans shows_setReg

theorem Shows.foldl {α : Type} {step : State → α → State} (h : ∀ z e, Shows z (step z e)) (m : List α) : Shows s (m.foldl step s) := by
  induction m generalizing s with
  | nil => exact .refl
  | cons e m ih => exact (h s e).trans ih

theorem shows_trigger {cls sub src : Nat} {ts0 ts1 ev0 ev1 : Word} {rs : Option Nat} : Shows s (s.trigger cls sub src ts0 ts1 ev0 ev1 rs) := by
  have hset : ∀ o : OnxS, Shows s { s with onx := o } := fun _ => shows_setOnx
  unfold State.trigger
  dsimp only
  generalize (if cls ≤ 2 then 128 else 112) = cap
  refine .ite .refl ?_
  split
  · exact (hset _).put
  · split
    · exact (hset _).put
    · exact .ite (hset _).put (.ite (hset _) (hset _))

theorem shows_trigNow {cls sub src : Nat} {ev0 ev1 : Word} : Shows s (s.trigNow cls sub src ev0 ev1) := shows_trigger

theorem shows_mramRead : Shows s (s.mramRead a .clean n).1 := by
  unfold State.mramRead
  dsimp only
  split
  · exact ((Shows.put .refl).trans shows_trigger).put
  · exact .refl

theorem shows_mramFetch {m : List Nat} : Shows s (s.mramFetch n m) := .foldl (fun _ _ => shows_mramRead) _

theorem Shows.img (h : Shows s t) : t.img = s.img := by
  obtain ⟨o, rs, rfl⟩ := h
  rfl

theorem Shows.time (h : Shows s t) : t.t = s.t := by
  obtain ⟨o, rs, rfl⟩ := h
  rfl

theorem Shows.mem (h : Shows s t) : t.mem = s.mem := by
  obtain ⟨o, rs, rfl⟩ := h
  rfl

/-! ## Sessions, checks and commits of the image controller (R457 to R462, R475) -/

/-! ### Answers and banks -/

theorem State.img_withImg : (s.withImg y).img = y := rfl

theorem State.t_withImg : (s.withImg y).t = s.t := rfl

theorem State.get_withImg : (s.withImg y).get f = s.get f := rfl

theorem State.mramAt_withImg : (s.withImg y).mramAt a = s.mramAt a := rfl

/-- Registers of an answer. -/
def answerRegs : List Nat := [IMG_CRES, HST_ISRC]

theorem regWork_imgSay : RegWork answerRegs s (s.imgSay r) := ((RegWork.refl.put (by decide)).put (by decide)).put (by decide)

theorem State.result_imgSay (hr : r < 16) : (s.imgSay r).get IMG_CRES.RESULT = r := by
  unfold State.imgSay
  rw [State.get_raise_other rfl rfl, State.get_put_other rfl rfl, State.get_put_same rfl]
  exact Nat.mod_eq_of_lt hr

theorem State.img_imgSay : (s.imgSay r).img = s.img := by
  unfold State.imgSay
  rw [State.img_raise, State.img_put, State.img_put]

theorem State.mem_imgSay : (s.imgSay r).mem = s.mem := regWork_imgSay.mem

theorem regWork_imgEnd : RegWork answerRegs s (s.imgEnd r) := (regWork_imgSay.putB (by decide)).put (by decide)

theorem State.result_imgEnd (hr : r < 16) : (s.imgEnd r).get IMG_CRES.RESULT = r := by
  unfold State.imgEnd
  rw [State.get_put_other rfl rfl, State.get_putB_other rfl rfl, State.result_imgSay hr]

theorem State.run_imgEnd : (s.imgEnd r).flag IMG_CRES.RUN = false := by
  unfold State.imgEnd
  rw [State.flag_put_other rfl rfl, State.flag_putB_same rfl]

theorem State.img_imgEnd : (s.imgEnd r).img = s.img := by
  unfold State.imgEnd
  rw [State.img_put, State.img_putB, State.img_imgSay]

theorem State.img_showBank : (s.showBank b x w).img = s.img := by
  unfold State.showBank
  dsimp only
  split <;> simp only [State.img_setReg, State.img_putB] <;> split <;> simp only [State.img_putB]

/-- A bank made invalid has MAGIC zero; its registers follow. -/
theorem killBank_shows : (s.killBank b).mramAt (imgBase b) = 0 ∧ (s.killBank b).img = s.img ∧ MramWork bankRegs [imgBase b] s (s.killBank b) := by
  have hshown : RegWork bankRegs (s.setMram (imgBase b) 0) (s.killBank b) := regWork_showBank
  refine ⟨?_, State.img_showBank, (mramWork_setMram (List.mem_singleton_self _)).trans hshown.mramWork⟩
  rw [((memKept_of_mem_eq hshown.mem).2 _).1]
  exact State.mramAt_setMram_same

/-! ### OPEN (R457) -/

/-- The flags of a session at its start. -/
def State.sessionFlags (s : State) : State := ((((s.putB IMG_STAT.VERIFIED false).putB IMG_STAT.OVR false).putB IMG_STAT.LONG false).put IMG_WCNT.CNT 0)

theorem State.sessionClear_eq : s.sessionClear = (s.sessionFlags.withImg { s.sessionFlags.img with staged := [], wq := [], verify := none }).showFree := rfl

theorem State.img_sessionFlags : s.sessionFlags.img = s.img := by
  unfold State.sessionFlags
  rw [State.img_put, State.img_putB, State.img_putB, State.img_putB]

/-- Registers of a session. -/
def sessionRegs : List Nat := [IMG_STAT, IMG_WCNT]

theorem sessionClear_shows : s.sessionClear.flag IMG_STAT.VERIFIED = false ∧ s.sessionClear.flag IMG_STAT.OVR = false
    ∧ s.sessionClear.flag IMG_STAT.LONG = false ∧ s.sessionClear.get IMG_WCNT.CNT = 0 ∧ s.sessionClear.get IMG_WCNT.FREE = 64
    ∧ s.sessionClear.img = { s.img with staged := [], wq := [], verify := none } ∧ RegWork sessionRegs s s.sessionClear := by
  have hflags : RegWork sessionRegs s s.sessionFlags :=
    (((RegWork.refl.putB (by decide)).putB (by decide)).putB (by decide)).put (by decide)
  rw [State.sessionClear_eq]
  unfold State.showFree
  rw [State.flag_put_other rfl rfl, State.flag_put_other rfl rfl, State.flag_put_other rfl rfl, State.get_put_other rfl rfl, State.get_put_same rfl,
    State.img_put, State.img_withImg, State.flag_withImg, State.flag_withImg, State.flag_withImg, State.get_withImg, State.img_sessionFlags]
  refine ⟨?_, ?_, ?_, State.get_put_same rfl, rfl, rfl, (hflags.trans regWork_withImg).put (by decide)⟩
  · unfold State.sessionFlags
    rw [State.flag_put_other rfl rfl, State.flag_putB_other rfl rfl, State.flag_putB_other rfl rfl, State.flag_putB_same rfl]
  · unfold State.sessionFlags
    rw [State.flag_put_other rfl rfl, State.flag_putB_other rfl rfl, State.flag_putB_same rfl]
  · unfold State.sessionFlags
    rw [State.flag_put_other rfl rfl, State.flag_putB_same rfl]

/-- A fresh session on a bank. -/
def State.sessionOn (s : State) (b : Nat) : State := (s.killBank b).sessionClear.putB IMG_STAT.SESSION true

theorem State.imgOpen_free (h : (s.flag IMG_STAT.SESSION || s.img.commit || s.imgOccupied) = false) :
    s.imgOpen = ((s.sessionOn s.openTarget).withImg { (s.sessionOn s.openTarget).img with target := s.openTarget }).imgSay 0 := by
  unfold State.imgOpen
  rw [h]
  rfl

theorem State.imgOpen_busy (h : (s.flag IMG_STAT.SESSION || s.img.commit || s.imgOccupied) = true) : s.imgOpen = s.imgSay 1 := if_pos h

theorem openTaken_shows : (s.sessionOn b).flag IMG_STAT.SESSION = true ∧ (s.sessionOn b).flag IMG_STAT.VERIFIED = false
    ∧ (s.sessionOn b).flag IMG_STAT.OVR = false ∧ (s.sessionOn b).flag IMG_STAT.LONG = false ∧ (s.sessionOn b).get IMG_WCNT.CNT = 0
    ∧ (s.sessionOn b).get IMG_WCNT.FREE = 64 ∧ (s.sessionOn b).mramAt (imgBase b) = 0 ∧ MramWork imgRegs [imgBase b] s (s.sessionOn b) := by
  obtain ⟨hmagic, -, hkill⟩ := killBank_shows (s := s) (b := b)
  obtain ⟨hverified, hovr, hlong, hcnt, hfree, -, hclear⟩ := sessionClear_shows (s := s.killBank b)
  have hwork : RegWork imgRegs (s.killBank b) (s.sessionOn b) := (hclear.mono (by decide)).putB (by decide)
  have hmem : (s.sessionOn b).mem = (s.killBank b).mem := hwork.mem
  refine ⟨State.flag_putB_same rfl, ?_, ?_, ?_, ?_, ?_, ?_, (hkill.mono (by decide) (List.Subset.refl _)).trans hwork.mramWork⟩
  · exact (State.flag_putB_other rfl rfl).trans hverified
  · exact (State.flag_putB_other rfl rfl).trans hovr
  · exact (State.flag_putB_other rfl rfl).trans hlong
  · exact (State.get_putB_other rfl rfl).trans hcnt
  · exact (State.get_putB_other rfl rfl).trans hfree
  · exact ((memKept_of_mem_eq hmem).2 _).1.trans hmagic

theorem mramWork_consume : MramWork l l' s (s.consume a w) := ⟨fun _ _ => rfl, memKept_consume.1, fun b _ => memKept_consume.2 b⟩

theorem State.img_consume : (s.consume a w).img = s.img := rfl

theorem State.imgOccupied_consume : (s.consume a w).imgOccupied = s.imgOccupied := rfl

theorem State.openTarget_consume : (s.consume a w).openTarget = s.openTarget := rfl

theorem imgOpen_answers (hup : s.up = true) (himg : s.imgUp = true) (hbusy : busy = (s.flag IMG_STAT.SESSION || s.img.commit || s.imgOccupied)) :
    Completes .imgOpen s (fun t => t.get IMG_CRES.RESULT = (if busy then 1 else 0)
        ∧ (busy = false → t.flag IMG_STAT.SESSION = true ∧ t.img.target = s.openTarget
            ∧ t.flag IMG_STAT.VERIFIED = false ∧ t.flag IMG_STAT.OVR = false ∧ t.flag IMG_STAT.LONG = false ∧ t.get IMG_WCNT.CNT = 0
            ∧ t.get IMG_WCNT.FREE = 64 ∧ t.mramAt (imgBase s.openTarget) = 0 ∧ MramKeptBut [imgBase s.openTarget] s t)
        ∧ (busy = true → MramKept s t) ∧ SramKept s t ∧ RegsKeptBut imgRegs s t) := by
  refine completes_of_exec (o := execImgOpen s) rfl (act_ends hup ?_)
  rw [himg, if_pos rfl]
  have hsame : ((s.consume IMG_CMD 1).flag IMG_STAT.SESSION || (s.consume IMG_CMD 1).img.commit || (s.consume IMG_CMD 1).imgOccupied) = busy := by
    rw [State.flag_consume, State.img_consume, State.imgOccupied_consume, hbusy]
  cases busy with
  | true =>
    rw [State.imgOpen_busy hsame, State.get_settle]
    have hsay : MramWork imgRegs [] (s.consume IMG_CMD 1) ((s.consume IMG_CMD 1).imgSay 1) := (RegWork.mono regWork_imgSay (by decide)).mramWork
    obtain ⟨hregs, hsram, hmram⟩ := (mramWork_consume.trans hsay).settled
    exact ⟨State.result_imgSay (by decide), fun h => (nomatch h), fun _ b => hmram b List.not_mem_nil, hsram, hregs⟩
  | false =>
    rw [State.imgOpen_free hsame, State.openTarget_consume]
    obtain ⟨hsession, hverified, hovr, hlong, hcnt, hfree, hmagic, hwork⟩ := openTaken_shows (s := s.consume IMG_CMD 1) (b := s.openTarget)
    generalize (s.consume IMG_CMD 1).sessionOn s.openTarget = z at *
    have hsay := regWork_imgSay (s := z.withImg { z.img with target := s.openTarget }) (r := 0)
    have hsaid : MramWork imgRegs [imgBase s.openTarget] z ((z.withImg { z.img with target := s.openTarget }).imgSay 0) :=
      (regWork_withImg.trans (RegWork.mono hsay (by decide))).mramWork
    obtain ⟨hregs, hsram, hmram⟩ := ((mramWork_consume.trans hwork).trans hsaid).settled
    have hflag : ∀ f : Fld, f.addr ∉ answerRegs → ((z.withImg { z.img with target := s.openTarget }).imgSay 0).flag f = z.flag f := fun f hf =>
      (hsay.flag hf).trans State.flag_withImg
    have hget : ∀ f : Fld, f.addr ∉ answerRegs → ((z.withImg { z.img with target := s.openTarget }).imgSay 0).get f = z.get f := fun f hf =>
      (hsay.get hf).trans State.get_withImg
    rw [State.get_settle, State.get_settle, State.get_settle, State.flag_settle, State.flag_settle, State.flag_settle, State.flag_settle, State.img_settle,
      State.mramAt_settle, State.img_imgSay, State.img_withImg, hflag _ (by decide), hflag _ (by decide), hflag _ (by decide), hflag _ (by decide),
      hget IMG_WCNT.CNT (by decide), hget IMG_WCNT.FREE (by decide), ((memKept_of_mem_eq hsay.mem).2 _).1, State.mramAt_withImg]
    exact ⟨State.result_imgSay (by decide), fun _ => ⟨hsession, rfl, hverified, hovr, hlong, hcnt, hfree, hmagic, hmram⟩, fun h => (nomatch h), hsram, hregs⟩

/-! ### Words streamed in (R458) -/

theorem get_lt : s.get f < 2 ^ (f.hi + 1 - f.lo) := bits_lt

/-- A header word staged. -/
def State.wordStaged (s : State) (w : Word) : State :=
  (s.withImg { s.img with staged := s.img.staged ++ [w] }).put IMG_WCNT.CNT (s.get IMG_WCNT.CNT + 1)

/-- A word of the body queued. -/
def State.wordQueued (s : State) (w : Word) : State :=
  ((s.withImg { s.img with
    wq := s.img.wq ++ [(s.get IMG_WCNT.CNT, w)]
    wqAt := if s.img.wq.isEmpty then max s.img.wqAt s.t.run else s.img.wqAt }).put IMG_WCNT.CNT (s.get IMG_WCNT.CNT + 1)).showFree

theorem State.imgData_eq (h : s.flag IMG_STAT.SESSION = true) : s.imgData w
    = if s.get IMG_WCNT.CNT ≥ imgSize then s.putB IMG_STAT.LONG true
      else if s.get IMG_WCNT.CNT < 64 then s.wordStaged w
      else if s.img.wq.length ≥ 64 then s.putB IMG_STAT.OVR true
      else s.wordQueued w := by
  unfold State.imgData
  dsimp only
  rw [h]
  rfl

theorem State.imgData_long (h : s.flag IMG_STAT.SESSION = true) (hn : imgSize ≤ s.get IMG_WCNT.CNT) : s.imgData w = s.putB IMG_STAT.LONG true := by
  rw [State.imgData_eq h, if_pos hn]

theorem State.imgData_header (h : s.flag IMG_STAT.SESSION = true) (hn : s.get IMG_WCNT.CNT < 64) : s.imgData w = s.wordStaged w := by
  have hsize : ¬ s.get IMG_WCNT.CNT ≥ imgSize := fun hge => absurd (Nat.lt_of_le_of_lt hge hn) (by decide)
  rw [State.imgData_eq h, if_neg hsize, if_pos hn]

theorem State.imgData_body (h : s.flag IMG_STAT.SESSION = true) (hlo : 64 ≤ s.get IMG_WCNT.CNT) (hhi : s.get IMG_WCNT.CNT < imgSize) :
    s.imgData w = if s.img.wq.length ≥ 64 then s.putB IMG_STAT.OVR true else s.wordQueued w := by
  rw [State.imgData_eq h, if_neg (Nat.not_le.mpr hhi), if_neg (Nat.not_lt.mpr hlo)]

theorem regWork_wordStaged : RegWork sessionRegs s (s.wordStaged w) := regWork_withImg.put (by decide)

theorem regWork_wordQueued : RegWork sessionRegs s (s.wordQueued w) := (regWork_withImg.put (by decide)).put (by decide)

theorem regWork_imgData (h : s.flag IMG_STAT.SESSION = true) : RegWork sessionRegs s (s.imgData w) := by
  rw [State.imgData_eq h]
  exact .ite (RegWork.refl.putB (by decide)) (.ite regWork_wordStaged (.ite (RegWork.refl.putB (by decide)) regWork_wordQueued))

theorem State.cnt_wordStaged (hn : s.get IMG_WCNT.CNT < imgSize) : (s.wordStaged w).get IMG_WCNT.CNT = s.get IMG_WCNT.CNT + 1 := by
  unfold State.wordStaged
  rw [State.get_put_same rfl]
  exact Nat.mod_eq_of_lt (Nat.lt_of_le_of_lt hn (by decide))

theorem State.cnt_wordQueued (hn : s.get IMG_WCNT.CNT < imgSize) : (s.wordQueued w).get IMG_WCNT.CNT = s.get IMG_WCNT.CNT + 1 := by
  unfold State.wordQueued State.showFree
  rw [State.get_put_other rfl rfl, State.get_put_same rfl]
  exact Nat.mod_eq_of_lt (Nat.lt_of_le_of_lt hn (by decide))

theorem State.staged_wordStaged : (s.wordStaged w).img.staged = s.img.staged ++ [w] := by
  unfold State.wordStaged
  rw [State.img_put, State.img_withImg]

theorem State.wq_wordQueued : (s.wordQueued w).img.wq = s.img.wq ++ [(s.get IMG_WCNT.CNT, w)] := by
  unfold State.wordQueued State.showFree
  rw [State.img_put, State.img_put, State.img_withImg]

theorem imgWdataWrite_takes (hup : s.up = true) (himg : s.imgUp = true) (w : Word) (hsession : s.flag IMG_STAT.SESSION = true) :
    Completes (.imgWdataWrite w) s (fun t => MemKept s t ∧ RegsKeptBut [IMG_STAT, IMG_WCNT] s t
        ∧ (imgSize ≤ s.get IMG_WCNT.CNT → t.flag IMG_STAT.LONG = true)
        ∧ (s.get IMG_WCNT.CNT < 64 → t.img.staged = s.img.staged ++ [w] ∧ t.get IMG_WCNT.CNT = s.get IMG_WCNT.CNT + 1)
        ∧ (64 ≤ s.get IMG_WCNT.CNT → s.get IMG_WCNT.CNT < imgSize → s.img.wq.length < 64 →
            t.img.wq = s.img.wq ++ [(s.get IMG_WCNT.CNT, w)] ∧ t.get IMG_WCNT.CNT = s.get IMG_WCNT.CNT + 1)
        ∧ (64 ≤ s.get IMG_WCNT.CNT → s.get IMG_WCNT.CNT < imgSize → 64 ≤ s.img.wq.length →
            t.flag IMG_STAT.OVR = true ∧ t.img.wq = s.img.wq ∧ t.get IMG_WCNT.CNT = s.get IMG_WCNT.CNT)) := by
  refine completes_of_exec (o := execImgWdataWrite w s) rfl (act_ends hup ?_)
  rw [himg, if_pos rfl]
  have hsession' : (s.consume IMG_WDATA w).flag IMG_STAT.SESSION = true := hsession
  have hcnt : (s.consume IMG_WDATA w).get IMG_WCNT.CNT = s.get IMG_WCNT.CNT := State.get_consume
  have himg' : (s.consume IMG_WDATA w).img = s.img := State.img_consume
  have hkept : LoopWork [IMG_STAT, IMG_WCNT] s ((s.consume IMG_WDATA w).imgData w) := loopWork_consume.trans (regWork_imgData hsession').loop
  generalize s.consume IMG_WDATA w = z at *
  rw [State.flag_settle, State.flag_settle, State.get_settle, State.img_settle]
  refine ⟨hkept.settled.mem, hkept.settled.regs, fun hlong => ?_, fun hhead => ?_, fun hlo hhi hroom => ?_, fun hlo hhi hfull => ?_⟩
  · rw [State.imgData_long hsession' (hcnt ▸ hlong)]
    exact State.flag_putB_same rfl
  · have hsize : z.get IMG_WCNT.CNT < imgSize := hcnt ▸ Nat.lt_trans hhead (by decide)
    rw [State.imgData_header hsession' (hcnt ▸ hhead), State.staged_wordStaged, State.cnt_wordStaged hsize, himg', hcnt]
    exact ⟨rfl, rfl⟩
  · have hno : ¬ z.img.wq.length ≥ 64 := by
      rw [himg']
      omega
    rw [State.imgData_body hsession' (hcnt ▸ hlo) (hcnt ▸ hhi), if_neg hno, State.wq_wordQueued, State.cnt_wordQueued (hcnt ▸ hhi), himg', hcnt]
    exact ⟨rfl, rfl⟩
  · rw [State.imgData_body hsession' (hcnt ▸ hlo) (hcnt ▸ hhi), if_pos (by rw [himg']; exact hfull), State.img_putB, himg', State.get_putB_other rfl rfl, hcnt]
    exact ⟨State.flag_putB_same rfl, rfl, rfl⟩

/-! ### VERIFY and its end (R459) -/

theorem imgVerify_busy (hup : s.up = true) (himg : s.imgUp = true) (hbusy : (s.img.verify.isSome || s.img.commit) = true) :
    Completes .imgVerify s (fun t => t.get IMG_CRES.RESULT = 1 ∧ t.img = s.img ∧ RegsKeptBut imgRegs s t ∧ MemKept s t) := by
  refine completes_of_exec (o := execImgVerify s) rfl (act_ends hup ?_)
  rw [himg, if_pos rfl]
  have hrefused : (s.consume IMG_CMD 2).imgVerify = (s.consume IMG_CMD 2).imgSay 1 := if_pos hbusy
  have hsay : LoopWork imgRegs (s.consume IMG_CMD 2) ((s.consume IMG_CMD 2).imgSay 1) := (RegWork.mono regWork_imgSay (by decide)).loop
  rw [hrefused, State.get_settle, State.img_settle, State.img_imgSay, State.img_consume]
  exact ⟨State.result_imgSay (by decide), rfl, (loopWork_consume.trans hsay).settled.kept⟩

/-- A verification begun. -/
def State.verifyBegun (s : State) : State := ((s.putB IMG_CRES.RUN true).putB IMG_STAT.VERIFIED false).withImg { s.img with verify := some s.t.run }

theorem State.imgVerify_begins (h : (s.img.verify.isSome || s.img.commit) = false) : s.imgVerify = s.verifyBegun := by
  unfold State.imgVerify State.verifyBegun
  rw [h, if_neg Bool.false_ne_true, ← State.img_putB (s := s) (f := IMG_CRES.RUN) (x := true), ← State.img_putB (f := IMG_STAT.VERIFIED) (x := false),
    ← State.t_putB (s := s) (f := IMG_CRES.RUN) (x := true), ← State.t_putB (f := IMG_STAT.VERIFIED) (x := false)]
  rfl

theorem imgVerify_begins (hup : s.up = true) (himg : s.imgUp = true) (hfree : (s.img.verify.isSome || s.img.commit) = false) :
    Completes .imgVerify s (fun t => t.img.verify = some s.t.run
        ∧ t.flag IMG_CRES.RUN = true ∧ t.flag IMG_STAT.VERIFIED = false ∧ MemKept s t ∧ RegsKeptBut imgRegs s t) := by
  refine completes_of_exec (o := execImgVerify s) rfl (act_ends hup ?_)
  rw [himg, if_pos rfl, State.imgVerify_begins (s := s.consume IMG_CMD 2) hfree]
  have hwork : LoopWork imgRegs (s.consume IMG_CMD 2) (s.consume IMG_CMD 2).verifyBegun :=
    (((RegWork.refl.putB (by decide)).putB (by decide)).trans regWork_withImg).loop
  have hkept := (loopWork_consume.trans hwork).settled
  rw [State.img_settle, State.flag_settle, State.flag_settle]
  unfold State.verifyBegun
  rw [State.img_withImg, State.flag_withImg, State.flag_withImg, State.flag_putB_other rfl rfl, State.flag_putB_same rfl, State.flag_putB_same rfl]
  exact ⟨rfl, rfl, rfl, hkept.mem, hkept.regs⟩

theorem imgVerifyComplete_waits (hup : s.up = true) (himg : s.imgUp = true) (hq : s.img.wq ≠ []) :
    Completes .imgVerifyComplete s (fun t => t.img = s.img ∧ AllKept s t) := by
  have hwaits : s.verifyEnd = s := if_pos (by simp [hq])
  refine completes_of_exec (o := execImgVerifyComplete s) rfl (act_ends hup ?_)
  rw [himg, if_pos rfl, hwaits, State.img_settle]
  exact ⟨rfl, allKept_settle⟩

/-- The offset at fault shown, where there is one. -/
def State.faultAt (s : State) (o : Option Nat) : State := match o with | some o => s.imgBad o | none => s

/-- A word that is answered POISON read and counted. -/
def State.poisonRead (s : State) (r : Nat) (o : Option Nat) : State := if r == 5 then s.mramFetch 26 [imgBase s.img.target + o.getD 0] else s

/-- The lattice error shown, where the lattice has been checked. -/
def State.latticeTold (s : State) (r : Nat) (e : Option (Nat × Nat)) : State := if r == 0 || 10 ≤ r then s.latticeError e else s

/-- A verification over, but for its result. -/
def State.verifyTaken (s : State) : State := s.withImg { s.img with verify := none }

theorem State.bankAt_verifyTaken : s.verifyTaken.bankAt b = s.bankAt b := rfl

theorem State.bankPoison_verifyTaken : s.verifyTaken.bankPoison b i j = s.bankPoison b i j := rfl

theorem State.bankDigest_verifyTaken : s.verifyTaken.bankDigest b = s.bankDigest b := by
  unfold State.bankDigest
  simp only [State.bankAt_verifyTaken]

theorem State.badPair_verifyTaken : s.verifyTaken.badPair b n = s.badPair b n := by
  have hpair : ∀ i, s.verifyTaken.bankPair b i = s.bankPair b i := fun _ => rfl
  have hok : ∀ i, s.verifyTaken.pairOk b n i = s.pairOk b n i := fun i => by
    unfold State.pairOk
    rw [hpair, hpair]
  unfold State.badPair
  simp only [hok]

theorem State.badRx_verifyTaken : s.verifyTaken.badRx b = s.badRx b := by
  unfold State.badRx State.bankRx
  simp only [State.bankAt_verifyTaken]

theorem State.verifyResult_taken : s.verifyTaken.verifyResult = s.verifyResult := by
  have hat : s.verifyTaken.bankAt s.img.target = s.bankAt s.img.target := funext fun _ => rfl
  have hstaged : s.verifyTaken.img.staged = s.img.staged := rfl
  have htarget : s.verifyTaken.img.target = s.img.target := rfl
  have hcompat : s.verifyTaken.compat = s.compat := rfl
  have hflag : ∀ f, s.verifyTaken.flag f = s.flag f := fun _ => rfl
  have hget : ∀ f, s.verifyTaken.get f = s.get f := fun _ => rfl
  unfold State.verifyResult
  dsimp only
  rw [hstaged, htarget, hcompat, hflag, hflag, hflag, hget, State.bankPoison_verifyTaken, State.bankDigest_verifyTaken, State.badPair_verifyTaken,
    State.badRx_verifyTaken, hat]

/-- A result of the checks shown. -/
def State.verifyShown (s : State) (v : Nat × Option Nat × Option (Nat × Nat)) : State :=
  ((((s.faultAt v.2.1).poisonRead v.1 v.2.1).latticeTold v.1 v.2.2).putB IMG_STAT.VERIFIED (v.1 == 0)).imgEnd v.1

theorem State.verifyEnd_over (hv : s.img.verify.isSome = true) (hq : s.img.wq = []) :
    s.verifyEnd = s.verifyTaken.verifyShown s.verifyResult := by
  rw [← State.verifyResult_taken]
  unfold State.verifyEnd
  rw [if_neg (by simp [Option.isSome_iff_ne_none.mp hv, hq])]
  have htaken : ({ s with img := { s.img with verify := none } } : State) = s.verifyTaken := rfl
  dsimp only
  rw [htaken]
  generalize s.verifyTaken.verifyResult = v
  obtain ⟨r, o, e⟩ := v
  rfl

theorem verifyResult_lt : s.verifyResult.1 < 12 := by
  unfold State.verifyResult
  dsimp only
  repeat' split
  all_goals simp

theorem State.verifyResult_closed (h : s.flag IMG_STAT.SESSION = false) : s.verifyResult.1 = 2 := by
  unfold State.verifyResult
  dsimp only
  rw [if_pos (by simp [h])]

theorem State.verifyResult_incomplete (h : s.flag IMG_STAT.SESSION = true) (hcnt : s.get IMG_WCNT.CNT ≠ imgSize ∨ s.flag IMG_STAT.LONG = true) :
    s.verifyResult.1 = 3 := by
  have hlost : (s.get IMG_WCNT.CNT != imgSize || s.flag IMG_STAT.LONG) = true := by simpa using hcnt
  unfold State.verifyResult
  dsimp only
  rw [if_neg (by simp [h]), if_pos hlost]

/-- Registers that the end of a verification shows in. -/
def verifyRegs : List Nat := [BL_ERR, SYS_ICHK2, ONX_LOST] ++ imgRegs

theorem faultAt_work {o : Option Nat} : Shows s (s.faultAt o) ∧ RegWork verifyRegs s (s.faultAt o) := by
  cases o with
  | none => exact ⟨.refl, .refl⟩
  | some o => exact ⟨shows_put, RegWork.refl.put (by decide)⟩

theorem poisonRead_work {o : Option Nat} : Shows s (s.poisonRead r o) ∧ RegWork verifyRegs s (s.poisonRead r o) :=
  ⟨.ite shows_mramFetch .refl, .ite (RegWork.mono regWork_mramFetch (by decide)) .refl⟩

theorem latticeError_work {e : Option (Nat × Nat)} : Shows s (s.latticeError e) ∧ RegWork [BL_ERR] s (s.latticeError e) := by
  cases e with
  | none => exact ⟨shows_setReg, RegWork.refl.setReg (by decide)⟩
  | some e => exact ⟨shows_put.put.put, ((RegWork.refl.putB (by decide)).put (by decide)).put (by decide)⟩

theorem latticeTold_work {e : Option (Nat × Nat)} : Shows s (s.latticeTold r e) ∧ RegWork verifyRegs s (s.latticeTold r e) :=
  ⟨.ite latticeError_work.1 .refl, .ite (RegWork.mono latticeError_work.2 (by decide)) .refl⟩

theorem imgVerifyComplete_ends (hup : s.up = true) (himg : s.imgUp = true) (hv : s.img.verify.isSome = true) (hq : s.img.wq = []) :
    Completes .imgVerifyComplete s (fun t => t.img.verify = none
        ∧ t.get IMG_CRES.RESULT = s.verifyResult.1
        ∧ t.flag IMG_STAT.VERIFIED = (s.verifyResult.1 == 0) ∧ t.flag IMG_CRES.RUN = false
        ∧ (s.flag IMG_STAT.SESSION = false → t.get IMG_CRES.RESULT = 2)
        ∧ (s.flag IMG_STAT.SESSION = true → (s.get IMG_WCNT.CNT ≠ imgSize ∨ s.flag IMG_STAT.LONG = true) → t.get IMG_CRES.RESULT = 3)
        ∧ RegsKeptBut ([BL_ERR, SYS_ICHK2, ONX_LOST] ++ imgRegs) s t ∧ MemKept s t) := by
  refine completes_of_exec (o := execImgVerifyComplete s) rfl (act_ends hup ?_)
  rw [himg, if_pos rfl, State.verifyEnd_over hv hq]
  unfold State.verifyShown
  generalize hr : s.verifyResult = v
  have hlt : v.1 < 16 := Nat.lt_trans (hr ▸ verifyResult_lt) (by decide)
  have hclosed : s.flag IMG_STAT.SESSION = false → v.1 = 2 := fun h => hr ▸ State.verifyResult_closed h
  have hincomplete : s.flag IMG_STAT.SESSION = true → (s.get IMG_WCNT.CNT ≠ imgSize ∨ s.flag IMG_STAT.LONG = true) → v.1 = 3 :=
    fun h h' => hr ▸ State.verifyResult_incomplete h h'
  obtain ⟨hfault, hfaultRegs⟩ := faultAt_work (s := s.verifyTaken) (o := v.2.1)
  obtain ⟨hread, hreadRegs⟩ := poisonRead_work (s := s.verifyTaken.faultAt v.2.1) (r := v.1) (o := v.2.1)
  obtain ⟨htold, htoldRegs⟩ := latticeTold_work (s := (s.verifyTaken.faultAt v.2.1).poisonRead v.1 v.2.1) (r := v.1) (e := v.2.2)
  have himg' : (((s.verifyTaken.faultAt v.2.1).poisonRead v.1 v.2.1).latticeTold v.1 v.2.2).img.verify = none := by
    rw [((hfault.trans hread).trans htold).img]
    rfl
  have hregs : RegWork verifyRegs s (((s.verifyTaken.faultAt v.2.1).poisonRead v.1 v.2.1).latticeTold v.1 v.2.2) :=
    ((regWork_withImg.trans hfaultRegs).trans hreadRegs).trans htoldRegs
  generalize ((s.verifyTaken.faultAt v.2.1).poisonRead v.1 v.2.1).latticeTold v.1 v.2.2 = z at himg' hregs
  have hend : RegWork answerRegs (z.putB IMG_STAT.VERIFIED (v.1 == 0)) ((z.putB IMG_STAT.VERIFIED (v.1 == 0)).imgEnd v.1) := regWork_imgEnd
  have hkept := (((hregs.putB (by decide)).trans (hend.mono (by decide))).loop (l := verifyRegs)).settled.kept
  rw [State.img_settle, State.get_settle, State.flag_settle, State.flag_settle, State.img_imgEnd, State.img_putB, State.result_imgEnd hlt, State.run_imgEnd,
    hend.flag (by decide), State.flag_putB_same rfl]
  exact ⟨himg', rfl, rfl, rfl, hclosed, hincomplete, hkept⟩

/-! ### ABORT (R457) -/

/-- A session given up. -/
def State.sessionOff (s : State) : State := (s.sessionClear.putB IMG_STAT.SESSION false).imgEnd 0

theorem State.imgAbort_eq : s.imgAbort
    = if s.flag IMG_STAT.SESSION = false then s.imgSay 2 else if s.img.commit then s.imgSay 1 else s.sessionOff := by
  unfold State.imgAbort State.sessionOff
  cases s.flag IMG_STAT.SESSION <;> rfl

theorem sessionOff_shows : s.sessionOff.get IMG_CRES.RESULT = 0 ∧ s.sessionOff.flag IMG_STAT.SESSION = false
    ∧ s.sessionOff.img = { s.img with staged := [], wq := [], verify := none } ∧ RegWork imgRegs s s.sessionOff := by
  obtain ⟨-, -, -, -, -, hclear, hwork⟩ := sessionClear_shows (s := s)
  have hend : RegWork answerRegs (s.sessionClear.putB IMG_STAT.SESSION false) s.sessionOff := regWork_imgEnd
  refine ⟨State.result_imgEnd (by decide), ?_, ?_, ((hwork.mono (by decide)).putB (by decide)).trans (hend.mono (by decide))⟩
  · rw [hend.flag (by decide), State.flag_putB_same rfl]
  · unfold State.sessionOff
    rw [State.img_imgEnd, State.img_putB, hclear]

theorem imgAbort_answers (hup : s.up = true) (himg : s.imgUp = true) : Completes .imgAbort s (fun t =>
        t.get IMG_CRES.RESULT = (if s.flag IMG_STAT.SESSION = false then 2 else if s.img.commit then 1 else 0)
        ∧ (t.get IMG_CRES.RESULT = 0 → t.flag IMG_STAT.SESSION = false ∧ t.img.wq = [] ∧ t.img.staged = [] ∧ t.img.verify = none)
        ∧ (t.get IMG_CRES.RESULT ≠ 0 → t.flag IMG_STAT.SESSION = s.flag IMG_STAT.SESSION) ∧ RegsKeptBut imgRegs s t ∧ MemKept s t) := by
  refine completes_of_exec (o := execImgAbort s) rfl (act_ends hup ?_)
  rw [himg, if_pos rfl, State.imgAbort_eq, State.flag_consume, State.img_consume]
  have hin : LoopWork imgRegs s (s.consume IMG_CMD 3) := loopWork_consume
  have hflag : (s.consume IMG_CMD 3).flag IMG_STAT.SESSION = s.flag IMG_STAT.SESSION := State.flag_consume
  generalize s.consume IMG_CMD 3 = z at hin hflag
  have hsay : ∀ r, RegWork imgRegs z (z.imgSay r) := fun r => RegWork.mono regWork_imgSay (by decide)
  have hsession : ∀ r, (z.imgSay r).flag IMG_STAT.SESSION = s.flag IMG_STAT.SESSION := fun r => (regWork_imgSay.flag (by decide)).trans hflag
  split
  · rw [State.get_settle, State.flag_settle, State.result_imgSay (by decide), hsession]
    exact ⟨rfl, fun h => absurd h (by decide), fun _ => rfl, (hin.trans (hsay 2).loop).settled.kept⟩
  · split
    · rw [State.get_settle, State.flag_settle, State.result_imgSay (by decide), hsession]
      exact ⟨rfl, fun h => absurd h (by decide), fun _ => rfl, (hin.trans (hsay 1).loop).settled.kept⟩
    · obtain ⟨hres, hoff, himg', hwork⟩ := sessionOff_shows (s := z)
      rw [State.get_settle, State.flag_settle, State.img_settle, hres, himg']
      exact ⟨rfl, fun _ => ⟨hoff, rfl, rfl, rfl⟩, fun h => absurd rfl h, (hin.trans hwork.loop).settled.kept⟩

/-! ### COMMIT (R460, R461) -/

theorem imgCommit_taken (hup : s.up = true) (himg : s.imgUp = true) : Completes .imgCommit s (fun t => t.img.commit = true ∧ MemKept s t
        ∧ (s.img.commit = true → t.get IMG_CRES.RESULT = 1 ∧ RegsKeptBut imgRegs s t) ∧ (s.img.commit = false → RegsKept s t)) := by
  refine completes_of_exec (o := execImgCommit s) rfl (act_ends hup ?_)
  rw [himg, if_pos rfl]
  unfold State.imgCommit
  cases hcommit : s.img.commit with
  | true =>
    have hsay : RegWork imgRegs s (s.imgSay 1) := RegWork.mono regWork_imgSay (by decide)
    rw [if_pos rfl, State.img_settle, State.img_imgSay, State.get_settle, State.result_imgSay (by decide)]
    exact ⟨hcommit, hsay.loop.settled.mem, fun _ => ⟨rfl, hsay.loop.settled.regs⟩, fun h => (nomatch h)⟩
  | false =>
    have hset : RegWork [] s (s.withImg { s.img with commit := true }) := regWork_withImg
    rw [if_neg Bool.false_ne_true, State.img_settle]
    exact ⟨rfl, hset.allKept.2, fun h => (nomatch h), fun _ => hset.allKept.1⟩

theorem imageCommitRun_waits (hup : s.up = true) (himg : s.imgUp = true) (h : s.img.commit = false ∨ s.t.usec ≠ 0) :
    Completes .imageCommitRun s (fun t => t.img = s.img ∧ AllKept s t) := by
  have hwaits : s.imgCommitRun = s := by
    refine if_pos ?_
    obtain h | h := h
    · simp [h]
    · simp [h]
  refine completes_of_exec (o := execImageCommitRun s) rfl (act_ends hup ?_)
  rw [himg, if_pos rfl, hwaits, State.img_settle]
  exact ⟨rfl, allKept_settle⟩

/-- A commit judged at its round boundary. -/
def State.commitJudged (s : State) : State :=
  if !s.flag IMG_STAT.VERIFIED then s.imgCommitRefuse 12
  else if s.imgOccupied then s.imgCommitRefuse 1
  else ((s.withImg { s.img with staged := s.commitHead, cmtAt := s.t.run, pausedAt := none }).putB IMG_CRES.RUN true).put IMG_CRES.STEP 1

theorem imageCommitRun_ends (hup : s.up = true) (himg : s.imgUp = true) (hcommit : s.img.commit = true) (hstep : s.get IMG_CRES.STEP = 0)
    (husec : s.t.usec = 0) (hwarn : s.life.warn = false) (hhalt : s.flag SYS_DBG.HALTED = false) (h : P (settle s.commitJudged)) :
    Completes .imageCommitRun s P := by
  have hrun : s.imgCommitRun = s.commitJudged := if_neg (by simp [hcommit, hstep, husec, hwarn, hhalt])
  refine completes_of_exec (o := execImageCommitRun s) rfl (act_ends hup ?_)
  rw [himg, if_pos rfl, hrun]
  exact h

theorem commitRefuse_shows (hr : r < 16) : (s.imgCommitRefuse r).img.commit = false ∧ (s.imgCommitRefuse r).get IMG_CRES.RESULT = r
    ∧ RegWork imgRegs s (s.imgCommitRefuse r) := by
  have hrefuse : s.imgCommitRefuse r = (s.withImg { s.img with commit := false }).imgSay r := rfl
  rw [hrefuse, State.img_imgSay, State.img_withImg]
  exact ⟨rfl, State.result_imgSay hr, regWork_withImg.trans (RegWork.mono regWork_imgSay (by decide))⟩

theorem imageCommitRun_refused (hup : s.up = true) (himg : s.imgUp = true) (hcommit : s.img.commit = true) (hstep : s.get IMG_CRES.STEP = 0)
    (husec : s.t.usec = 0) (hwarn : s.life.warn = false) (hhalt : s.flag SYS_DBG.HALTED = false)
    (h : s.flag IMG_STAT.VERIFIED = false ∨ s.imgOccupied = true) : Completes .imageCommitRun s (fun t => t.img.commit = false
          ∧ t.get IMG_CRES.RESULT = (if s.flag IMG_STAT.VERIFIED then 1 else 12) ∧ RegsKeptBut imgRegs s t ∧ MemKept s t) := by
  have hjudged : s.commitJudged = s.imgCommitRefuse (if s.flag IMG_STAT.VERIFIED then 1 else 12) := by
    unfold State.commitJudged
    cases hv : s.flag IMG_STAT.VERIFIED with
    | false => rfl
    | true => exact if_pos (h.resolve_left (by simp [hv]))
  have hlt : (if s.flag IMG_STAT.VERIFIED then 1 else 12) < 16 := by split <;> decide
  obtain ⟨hover, hres, hwork⟩ := commitRefuse_shows (s := s) hlt
  refine imageCommitRun_ends hup himg hcommit hstep husec hwarn hhalt ?_
  rw [hjudged, State.img_settle, State.get_settle]
  exact ⟨hover, hres, hwork.loop.settled.kept⟩

/-- A header of its first six words and the rest. -/
theorem exists_six {h : List Word} (hlen : h.length = 64) : ∃ a0 a1 a2 a3 a4 a5 m, h = a0 :: a1 :: a2 :: a3 :: a4 :: a5 :: m ∧ m.length = 58 := by
  match h, hlen with
  | a0 :: a1 :: a2 :: a3 :: a4 :: a5 :: m, hlen => exact ⟨a0, a1, a2, a3, a4, a5, m, rfl, by simpa using hlen⟩

/-- SEQ of a commit. -/
def State.nextSeq (s : State) : Word := W (max (s.reg IMG_SEQA).toNat (s.reg IMG_SEQB).toNat + 1)

/-- The header of a commit (R460): MAGIC, SEQ, the stamp and the check are its own, the rest as staged. -/
theorem commitHead_shows (hlen : s.img.staged.length = 64) : s.commitHead.length = 64 ∧ s.commitHead.getD 0 0 = imgMagic
    ∧ s.commitHead.getD 1 0 = s.nextSeq ∧ s.commitHead.getD 4 0 = s.ts0 ∧ s.commitHead.getD 5 0 = s.ts1
    ∧ s.commitHead.getD 63 0 = headCheck s.commitHead
    ∧ ∀ i, i < 63 → i ≠ 0 → i ≠ 1 → i ≠ 4 → i ≠ 5 → s.commitHead.getD i 0 = s.img.staged.getD i 0 := by
  obtain ⟨a0, a1, a2, a3, a4, a5, m, hstaged, hm⟩ := exists_six hlen
  have htake : (m.take 57).length = 57 := by rw [List.length_take, hm]; rfl
  obtain ⟨c, hhead, hcheck⟩ : ∃ c, s.commitHead = imgMagic :: s.nextSeq :: a2 :: a3 :: s.ts0 :: s.ts1 :: (m.take 57 ++ [c])
      ∧ c = headCheck (imgMagic :: s.nextSeq :: a2 :: a3 :: s.ts0 :: s.ts1 :: m.take 57) := by
    refine ⟨_, ?_, rfl⟩
    unfold State.commitHead State.nextSeq
    rw [hstaged]
    rfl
  rw [hhead, hstaged]
  refine ⟨by simp [htake], rfl, rfl, rfl, rfl, ?_, fun i hi h0 h1 h4 h5 => ?_⟩
  · have hlast : (m.take 57 ++ [c]).getD 57 0 = c := by
      rw [List.getD_eq_getElem?_getD, List.getElem?_append_right (by omega), htake]
      rfl
    have hbody : (m.take 57 ++ [c]).take 57 = m.take 57 := by
      rw [List.take_append_of_le_length (by omega), List.take_take]
      rfl
    have hsame : headCheck (imgMagic :: s.nextSeq :: a2 :: a3 :: s.ts0 :: s.ts1 :: (m.take 57 ++ [c]))
        = headCheck (imgMagic :: s.nextSeq :: a2 :: a3 :: s.ts0 :: s.ts1 :: m.take 57) := by
      have hall : (m.take 57).take 57 = m.take 57 := List.take_of_length_le (by omega)
      unfold headCheck
      simp only [List.drop_succ_cons, List.drop_zero, List.take_succ_cons, hbody, hall]
    rw [hsame, ← hcheck]
    exact hlast
  · match i with
    | 0 => exact absurd rfl h0
    | 1 => exact absurd rfl h1
    | 2 => rfl
    | 3 => rfl
    | 4 => exact absurd rfl h4
    | 5 => exact absurd rfl h5
    | k + 6 =>
      have hk : k < 57 := by omega
      have hword : (m.take 57 ++ [c]).getD k 0 = m.getD k 0 := by
        rw [List.getD_eq_getElem?_getD, List.getElem?_append_left (by omega), List.getElem?_take_of_lt hk, List.getD_eq_getElem?_getD]
      exact hword

theorem imageCommitRun_starts (hup : s.up = true) (himg : s.imgUp = true) (hcommit : s.img.commit = true) (hstep : s.get IMG_CRES.STEP = 0)
    (husec : s.t.usec = 0) (hwarn : s.life.warn = false) (hhalt : s.flag SYS_DBG.HALTED = false)
    (hverified : s.flag IMG_STAT.VERIFIED = true) (hfree : s.imgOccupied = false) (hlen : s.img.staged.length = 64) :
    Completes .imageCommitRun s (fun t =>
          t.get IMG_CRES.STEP = 1 ∧ t.flag IMG_CRES.RUN = true ∧ t.img.cmtAt = s.t.run ∧ t.img.staged.length = 64
          ∧ t.img.staged.getD 0 0 = imgMagic
          ∧ t.img.staged.getD 1 0 = W (max (s.reg IMG_SEQA).toNat (s.reg IMG_SEQB).toNat + 1)
          ∧ t.img.staged.getD 4 0 = s.ts0 ∧ t.img.staged.getD 5 0 = s.ts1 ∧ t.img.staged.getD 63 0 = headCheck t.img.staged
          ∧ (∀ i, i < 63 → i ≠ 0 → i ≠ 1 → i ≠ 4 → i ≠ 5 → t.img.staged.getD i 0 = s.img.staged.getD i 0)
          ∧ MemKept s t ∧ RegsKeptBut [IMG_CRES] s t) := by
  have hjudged : s.commitJudged
      = ((s.withImg { s.img with staged := s.commitHead, cmtAt := s.t.run, pausedAt := none }).putB IMG_CRES.RUN true).put IMG_CRES.STEP 1 := by
    unfold State.commitJudged
    rw [hverified, hfree]
    rfl
  refine imageCommitRun_ends hup himg hcommit hstep husec hwarn hhalt ?_
  obtain ⟨hlen', hmagic, hseq, hts0, hts1, hcheck, hrest⟩ := commitHead_shows hlen
  rw [hjudged]
  generalize s.commitHead = m at *
  have hwork : RegWork [IMG_CRES] s (((s.withImg { s.img with staged := m, cmtAt := s.t.run, pausedAt := none }).putB IMG_CRES.RUN true).put IMG_CRES.STEP 1) :=
    (regWork_withImg.putB (by decide)).put (by decide)
  have hkept := hwork.loop.settled
  rw [State.get_settle, State.flag_settle, State.img_settle, State.img_put, State.img_putB, State.img_withImg, State.get_put_same rfl,
    State.flag_put_other rfl rfl, State.flag_putB_same rfl]
  exact ⟨rfl, rfl, rfl, hlen', hmagic, hseq, hts0, hts1, hcheck, hrest, hkept.mem, hkept.regs⟩

/-! #### Header words written (R460) -/

theorem State.setMramWords_eq {m : List Word} : s.setMramWords a m = s.wordsPut a (m.zipIdx.map Prod.swap) := by
  unfold State.setMramWords State.wordsPut
  rw [List.foldl_map]
  rfl

theorem mramWork_setMramWords {m : List Word} : MramWork l ((List.range m.length).map (a + ·)) s (s.setMramWords a m) := by
  rw [State.setMramWords_eq]
  refine mramWork_wordsPut fun e he => ?_
  obtain ⟨⟨w, i⟩, hin, rfl⟩ := List.mem_map.mp he
  obtain ⟨hi, -⟩ := List.getElem?_eq_some_iff.mp (List.mk_mem_zipIdx_iff_getElem?.mp hin)
  exact List.mem_map.mpr ⟨i, List.mem_range.mpr hi, rfl⟩

theorem State.mramAt_setMramWords {m : List Word} (hi : i < m.length) : (s.setMramWords a m).mramAt (a + i) = m.getD i 0 := by
  have hnodup : ((m.zipIdx.map Prod.swap).map (·.1)).Nodup := by
    rw [List.map_map]
    exact (List.zipIdx_map_snd 0 m) ▸ List.nodup_range'
  have hin : (i, m[i]) ∈ m.zipIdx.map Prod.swap :=
    List.mem_map.mpr ⟨(m[i], i), List.mk_mem_zipIdx_iff_getElem?.mpr (List.getElem?_eq_getElem hi), rfl⟩
  rw [State.setMramWords_eq, State.mramAt_wordsPut hnodup hin, List.getD_eq_getElem _ _ hi]

theorem State.img_wordsPut {m : List (Nat × Word)} : (s.wordsPut a m).img = s.img := by
  induction m generalizing s with
  | nil => rfl
  | cons e m ih => exact ih

theorem State.img_setMramWords {m : List Word} : (s.setMramWords a m).img = s.img := by rw [State.setMramWords_eq, State.img_wordsPut]

/-- The header words that step 1 has reached. -/
def State.headReached (s : State) : List Word := (s.img.staged.drop 1).take (s.imgElapsed + 1)

theorem State.imgSteps_one (hstep : s.get IMG_CRES.STEP = 1) (hn : s.imgElapsed < 63) :
    s.imgSteps = s.setMramWords (imgBase s.img.target + 1) s.headReached := by
  unfold State.imgSteps
  dsimp only
  rw [hstep, if_neg (by decide), if_pos hn]
  rfl

theorem headReached_words (hn : s.imgElapsed < 63) (hlen : s.img.staged.length = 64) : s.headReached.length = s.imgElapsed + 1
    ∧ ∀ i, i ≤ s.imgElapsed → s.headReached.getD i 0 = s.img.staged.getD (1 + i) 0 := by
  unfold State.headReached
  refine ⟨by rw [List.length_take, List.length_drop, hlen]; omega, fun i hi => ?_⟩
  rw [List.getD_eq_getElem?_getD, List.getElem?_take_of_lt (by omega), List.getElem?_drop, List.getD_eq_getElem?_getD]

theorem imageCommitComplete_writes (mm : Bool) (hup : s.up = true) (himg : s.imgUp = true) (hstep : s.get IMG_CRES.STEP = 1) (hn : s.imgElapsed = n)
    (hlt : n < 63) (hlen : s.img.staged.length = 64) : Completes (.imageCommitComplete mm) s (fun t => t.img = s.img ∧ RegsKept s t ∧ SramKept s t
          ∧ (∀ i, i ≤ n → t.bankAt s.img.target (1 + i) = s.img.staged.getD (1 + i) 0)
          ∧ MramKeptBut ((List.range (n + 1)).map (imgBase s.img.target + 1 + ·)) s t) := by
  subst hn
  obtain ⟨hcount, hwords⟩ := headReached_words hlt hlen
  have hwork : MramWork [] ((List.range s.headReached.length).map (imgBase s.img.target + 1 + ·)) s
      (s.setMramWords (imgBase s.img.target + 1) s.headReached) := mramWork_setMramWords
  have hstep' : (s.setMramWords (imgBase s.img.target + 1) s.headReached).get IMG_CRES.STEP = 1 :=
    (get_of_reg_eq (hwork.regs _ List.not_mem_nil)).trans hstep
  have hend : s.imgCommitEnd mm = s.setMramWords (imgBase s.img.target + 1) s.headReached := by
    unfold State.imgCommitEnd
    rw [State.imgSteps_one hstep hlt]
    exact if_pos (by rw [hstep']; rfl)
  obtain ⟨hregs, hsram, hmram⟩ := hwork.settled
  rw [hcount] at hmram
  refine completes_of_exec (o := execImageCommitComplete mm s) rfl (act_ends hup ?_)
  rw [himg, if_pos rfl, hend, State.img_settle, State.img_setMramWords]
  refine ⟨rfl, fun b => hregs b List.not_mem_nil, hsram, fun i hi => ?_, hmram⟩
  have hoff : imgBase s.img.target + (1 + i) = imgBase s.img.target + 1 + i := by omega
  unfold State.bankAt
  rw [State.mramAt_settle, hoff, State.mramAt_setMramWords (by omega), hwords i hi]

/-! #### The header read back (R461) -/

/-- Step 3 shown. -/
def State.stepThree (s : State) : State := s.put IMG_CRES.STEP 3

/-- The header read, and the commit over. -/
def State.headRead (s : State) : State :=
  (s.mramFetch 26 ((List.range 64).map (imgBase s.img.target + ·))).withImg
    { (s.mramFetch 26 ((List.range 64).map (imgBase s.img.target + ·))).img with commit := false }

/-- A bank read back well: its apply is pending. -/
def State.bankShown (s : State) (b : Nat) (w : Word) : State :=
  ((((s.putB IMG_STAT.SESSION false).putB IMG_STAT.VERIFIED false).showBank b true w).putB IMG_STAT.NOVALID false).putB IMG_STAT.APPLYPEND true

/-- The round of an apply that waits for no command. -/
def State.autoApply (s : State) : Option Word := if s.flag IMG_CFG.MANUAL then none else some (s.t.round + 2)

/-- A commit that has gone well. -/
def State.commitKept (s : State) (b : Nat) (w : Word) : State :=
  ((s.bankShown b w).withImg { (s.bankShown b w).img with pendBank := b, applyAt := (s.bankShown b w).autoApply }).imgEnd 0

theorem State.imgSteps_three (hstep : s.get IMG_CRES.STEP = 3) (hn : 129 ≤ s.imgElapsed) : s.imgSteps = s.stepThree := by
  unfold State.imgSteps
  dsimp only
  have hno : ¬((3 : Nat) == 1) = true := by decide
  rw [hstep, if_neg (by decide), if_neg (by omega), if_neg hno, hstep, if_neg hno, if_neg (by omega)]
  rfl

theorem regWork_stepThree : RegWork [IMG_CRES] s s.stepThree := RegWork.refl.put (by decide)

theorem State.img_stepThree : s.stepThree.img = s.img := State.img_put

theorem State.t_stepThree : s.stepThree.t = s.t := State.t_put

theorem State.imgElapsed_stepThree : s.stepThree.imgElapsed = s.imgElapsed := by
  unfold State.imgElapsed State.stepThree
  rw [State.img_put, State.t_put]

/-- What reading the header back finds wrong. -/
def State.headWrong (s : State) (mm : Bool) : Bool :=
  mm || (s.bankPoison s.img.target 0 64).isSome || s.bankHead s.img.target != s.headRead.img.staged

theorem State.imgCommitEnd_due (mm : Bool) (hstep : s.get IMG_CRES.STEP = 3) (hn : 129 ≤ s.imgElapsed) : s.imgCommitEnd mm
    = if s.stepThree.headWrong mm then (s.stepThree.headRead.killBank s.stepThree.img.target).imgEnd 5
      else s.stepThree.headRead.commitKept s.stepThree.img.target ((s.stepThree.bankHead s.stepThree.img.target).getD 1 0) := by
  have hthree : s.stepThree.get IMG_CRES.STEP = 3 := State.get_put_same rfl
  unfold State.imgCommitEnd
  rw [State.imgSteps_three hstep hn]
  refine (if_neg ?_).trans rfl
  rw [hthree, State.imgElapsed_stepThree]
  simpa using hn

theorem headRead_work : Shows s (s.mramFetch 26 ((List.range 64).map (imgBase s.img.target + ·))) ∧ RegWork fetchRegs s s.headRead :=
  ⟨shows_mramFetch, regWork_mramFetch.trans regWork_withImg⟩

theorem State.staged_headRead : s.headRead.img.staged = s.img.staged := by
  have hkept := (headRead_work (s := s)).1.img
  unfold State.headRead
  rw [State.img_withImg]
  dsimp only
  rw [hkept]

theorem State.bankHead_of_mem_eq (h : t.mem = s.mem) : t.bankHead b = s.bankHead b := by
  unfold State.bankHead State.mramWords State.mramAt
  rw [h]

theorem State.bankPoison_of_mem_eq (h : t.mem = s.mem) : t.bankPoison b i j = s.bankPoison b i j := by
  unfold State.bankPoison
  rw [h]

theorem State.headWrong_stepThree {mm : Bool} : s.stepThree.headWrong mm
    = (mm || (s.bankPoison s.img.target 0 64).isSome || s.bankHead s.img.target != s.img.staged) := by
  unfold State.headWrong
  rw [State.staged_headRead, State.img_stepThree, State.bankPoison_of_mem_eq regWork_stepThree.mem, State.bankHead_of_mem_eq regWork_stepThree.mem]

theorem State.commit_headRead : s.headRead.img.commit = false := rfl

theorem imageCommitComplete_ends (mm : Bool) (hup : s.up = true) (himg : s.imgUp = true) (h : P (settle (s.imgCommitEnd mm))) :
    Completes (.imageCommitComplete mm) s P := by
  refine completes_of_exec (o := execImageCommitComplete mm s) rfl (act_ends hup ?_)
  rw [himg, if_pos rfl]
  exact h

theorem imageCommitComplete_bad (mm : Bool) (hup : s.up = true) (himg : s.imgUp = true) (hstep : s.get IMG_CRES.STEP = 3) (hn : 129 ≤ s.imgElapsed)
    (hbad : mm = true ∨ s.bankHead s.img.target ≠ s.img.staged ∨ (s.bankPoison s.img.target 0 64).isSome = true) :
    Completes (.imageCommitComplete mm) s (fun t => t.get IMG_CRES.RESULT = 5
            ∧ t.img.commit = false ∧ t.bankAt s.img.target 0 = 0 ∧ MramKeptBut [imgBase s.img.target] s t ∧ SramKept s t
            ∧ RegsKeptBut ([SYS_ICHK2, ONX_LOST] ++ imgRegs) s t) := by
  have hwrong : s.stepThree.headWrong mm = true := by
    rw [State.headWrong_stepThree]
    obtain h | h | h := hbad
    · simp [h]
    · simp [h]
    · simp [h]
  refine imageCommitComplete_ends mm hup himg ?_
  rw [State.imgCommitEnd_due mm hstep hn, if_pos hwrong, State.img_stepThree]
  have hread : RegWork ([SYS_ICHK2, ONX_LOST] ++ imgRegs) s s.stepThree.headRead :=
    (RegWork.mono regWork_stepThree (by decide)).trans (RegWork.mono headRead_work.2 (by decide))
  have hover : s.stepThree.headRead.img.commit = false := State.commit_headRead
  generalize s.stepThree.headRead = z at hread hover
  obtain ⟨hmagic, hkill, hkillRegs⟩ := killBank_shows (s := z) (b := s.img.target)
  have hend : RegWork answerRegs (z.killBank s.img.target) ((z.killBank s.img.target).imgEnd 5) := regWork_imgEnd
  have hwork := (hread.mramWork (l' := [imgBase s.img.target])).trans ((hkillRegs.mono (by decide) (List.Subset.refl _)).trans
    (RegWork.mono hend (l' := [SYS_ICHK2, ONX_LOST] ++ imgRegs) (by decide)).mramWork)
  obtain ⟨hregs, hsram, hmram⟩ := hwork.settled
  unfold State.bankAt
  rw [State.get_settle, State.img_settle, State.mramAt_settle, State.result_imgEnd (by decide), State.img_imgEnd, hkill, Nat.add_zero,
    ((memKept_of_mem_eq hend.mem).2 _).1]
  exact ⟨rfl, hover, hmagic, hmram, hsram, hregs⟩

theorem mramPoison_of_bankPoison (h : s.bankPoison b i j = none) (hlo : i ≤ k) (hhi : k < j) : s.mramPoison (imgBase b + k) = false := by
  have hnone : ¬ imgBase b + k ∈ s.mem.mramBad := fun hin => by
    have hnil := List.min?_eq_none_iff.mp h
    have hmem : imgBase b + k ∈ s.mem.mramBad.filter (fun a => imgBase b + i ≤ a && a < imgBase b + j) :=
      List.mem_filter.mpr ⟨hin, by simp; omega⟩
    rw [List.map_eq_nil_iff] at hnil
    rw [hnil] at hmem
    exact absurd hmem List.not_mem_nil
  unfold State.mramPoison
  simpa using hnone

/-- The flags of IMG_STAT that tell nothing of a bank stand through its showing. -/
theorem State.flag_showBank (heq : f.apart IMG_STAT.EQSEQ = true) (hva : f.apart IMG_STAT.AVALID = true) (hvb : f.apart IMG_STAT.BVALID = true)
    (hsa : f.addr ≠ IMG_SEQA) (hsb : f.addr ≠ IMG_SEQB) : (s.showBank b x w).flag f = s.flag f := by
  have hequal : (if x then s else s.putB IMG_STAT.EQSEQ false).flag f = s.flag f := by
    split
    · rfl
    · exact State.flag_putB_other rfl heq
  unfold State.showBank
  dsimp only
  split
  · rw [flag_of_reg_eq (f := f) (State.reg_setReg_other hsa), State.flag_putB_other rfl hva, hequal]
  · rw [flag_of_reg_eq (f := f) (State.reg_setReg_other hsb), State.flag_putB_other rfl hvb, hequal]

theorem bankShown_shows : (s.bankShown b w).flag IMG_STAT.SESSION = false ∧ (s.bankShown b w).flag IMG_STAT.VERIFIED = false
    ∧ (s.bankShown b w).flag IMG_STAT.APPLYPEND = true ∧ (s.bankShown b w).img = s.img ∧ (s.bankShown b w).t = s.t
    ∧ RegWork bankRegs s (s.bankShown b w) := by
  have hshow : RegWork bankRegs ((s.putB IMG_STAT.SESSION false).putB IMG_STAT.VERIFIED false)
      (((s.putB IMG_STAT.SESSION false).putB IMG_STAT.VERIFIED false).showBank b true w) := regWork_showBank
  have ht : ∀ z : State, (z.showBank b true w).t = z.t := fun z => by
    unfold State.showBank
    dsimp only
    split
    · rw [if_pos rfl, State.t_setReg, State.t_putB]
    · rw [if_pos rfl, State.t_setReg, State.t_putB]
  unfold State.bankShown
  refine ⟨?_, ?_, State.flag_putB_same rfl, ?_, ?_, ((((RegWork.refl.putB (by decide)).putB (by decide)).trans hshow).putB (by decide)).putB (by decide)⟩
  · rw [State.flag_putB_other rfl rfl, State.flag_putB_other rfl rfl, State.flag_showBank rfl rfl rfl (by decide) (by decide),
      State.flag_putB_other rfl rfl, State.flag_putB_same rfl]
  · rw [State.flag_putB_other rfl rfl, State.flag_putB_other rfl rfl, State.flag_showBank rfl rfl rfl (by decide) (by decide), State.flag_putB_same rfl]
  · rw [State.img_putB, State.img_putB, State.img_showBank, State.img_putB, State.img_putB]
  · rw [State.t_putB, State.t_putB, ht, State.t_putB, State.t_putB]

theorem commitKept_shows : (s.commitKept b w).get IMG_CRES.RESULT = 0 ∧ (s.commitKept b w).flag IMG_STAT.SESSION = false
    ∧ (s.commitKept b w).flag IMG_STAT.VERIFIED = false ∧ (s.commitKept b w).flag IMG_STAT.APPLYPEND = true
    ∧ (s.commitKept b w).img = { s.img with pendBank := b, applyAt := s.autoApply } ∧ RegWork imgRegs s (s.commitKept b w) := by
  obtain ⟨hsession, hverified, hpend, himg, ht, hwork⟩ := bankShown_shows (s := s) (b := b) (w := w)
  have hauto : (s.bankShown b w).autoApply = s.autoApply := by
    unfold State.autoApply
    rw [hwork.flag (by decide), ht]
  unfold State.commitKept
  rw [hauto, himg]
  generalize s.bankShown b w = z at *
  have hset : RegWork imgRegs z (z.withImg { s.img with pendBank := b, applyAt := s.autoApply }) := regWork_withImg
  have hend := regWork_imgEnd (s := z.withImg { s.img with pendBank := b, applyAt := s.autoApply }) (r := 0)
  refine ⟨State.result_imgEnd (by decide), ?_, ?_, ?_, ?_, (hwork.mono (by decide)).trans (hset.trans (hend.mono (by decide)))⟩
  · rw [hend.flag (by decide), State.flag_withImg, hsession]
  · rw [hend.flag (by decide), State.flag_withImg, hverified]
  · rw [hend.flag (by decide), State.flag_withImg, hpend]
  · rw [State.img_imgEnd, State.img_withImg]

theorem imageCommitComplete_good (mm : Bool) (hup : s.up = true) (himg : s.imgUp = true) (hstep : s.get IMG_CRES.STEP = 3) (hn : 129 ≤ s.imgElapsed)
    (hmm : mm = false) (hsame : s.bankHead s.img.target = s.img.staged) (hclean : s.bankPoison s.img.target 0 64 = none) :
    Completes (.imageCommitComplete mm) s (fun t => t.get IMG_CRES.RESULT = 0
              ∧ t.img.commit = false ∧ t.flag IMG_STAT.SESSION = false ∧ t.flag IMG_STAT.VERIFIED = false
              ∧ t.flag IMG_STAT.APPLYPEND = true ∧ t.img.pendBank = s.img.target
              ∧ t.img.applyAt = (if s.flag IMG_CFG.MANUAL then none else some (s.t.round + 2)) ∧ RegsKeptBut imgRegs s t ∧ MemKept s t) := by
  have hright : s.stepThree.headWrong mm = false := by
    rw [State.headWrong_stepThree, hmm, hclean, hsame]
    simp
  have hfetch : s.stepThree.mramFetch 26 ((List.range 64).map (imgBase s.img.target + ·)) = s.stepThree := by
    refine State.mramFetch_clean fun a ha => ?_
    obtain ⟨i, hi, rfl⟩ := List.mem_map.mp ha
    rw [State.bankPoison_of_mem_eq regWork_stepThree.mem.symm] at hclean
    exact mramPoison_of_bankPoison hclean (Nat.zero_le _) (List.mem_range.mp hi)
  have hread : s.stepThree.headRead = s.stepThree.withImg { s.img with commit := false } := by
    unfold State.headRead
    rw [State.img_stepThree, hfetch, State.img_stepThree]
  refine imageCommitComplete_ends mm hup himg ?_
  rw [State.imgCommitEnd_due mm hstep hn, if_neg (by rw [hright]; exact Bool.false_ne_true), hread, State.img_stepThree]
  generalize (s.stepThree.bankHead s.img.target).getD 1 0 = w
  obtain ⟨hres, hsession, hverified, hpend, himg', hwork⟩ := commitKept_shows (s := s.stepThree.withImg { s.img with commit := false })
    (b := s.img.target) (w := w)
  have hauto : (s.stepThree.withImg { s.img with commit := false }).autoApply = s.autoApply := by
    have hflag : (s.stepThree.withImg { s.img with commit := false }).flag IMG_CFG.MANUAL = s.flag IMG_CFG.MANUAL :=
      State.flag_withImg.trans (regWork_stepThree.flag (by decide))
    have ht : (s.stepThree.withImg { s.img with commit := false }).t = s.t := State.t_withImg.trans State.t_stepThree
    unfold State.autoApply
    rw [hflag, ht]
  have hthree : RegWork imgRegs s s.stepThree := RegWork.mono regWork_stepThree (by decide)
  have hset : RegWork imgRegs s (s.stepThree.withImg { s.img with commit := false }) := hthree.trans regWork_withImg
  have hkept := (hset.trans hwork).loop.settled.kept
  rw [State.get_settle, State.flag_settle, State.flag_settle, State.flag_settle, State.img_settle, himg', hauto]
  exact ⟨hres, rfl, hsession, hverified, hpend, rfl, rfl, hkept⟩

/-! ### APPLY (R462, R468) -/

/-- The result of an APPLY. -/
def State.applyResult (s : State) : Nat :=
  if s.replays then 15 else if s.flag IMG_STAT.APPLYPEND = false then 14 else if s.flag IMG_STAT.PREP then 1
  else if s.reg IMG_ATGT ≠ 0 ∧ (s.reg IMG_ATGT).toNat < s.t.round.toNat + 2 then 13 else 0

/-- The round that an APPLY asks for. -/
def State.askedRound (s : State) : Word := if s.reg IMG_ATGT = 0 then s.t.round + 2 else s.reg IMG_ATGT

/-- The round of the apply set, where it may be. -/
def State.applySet (s : State) : State :=
  if s.flag IMG_CFG.MANUAL || s.img.applyAt.isNone then s.withImg { s.img with applyAt := some s.askedRound } else s

theorem State.imgApplyCmd_eq : s.imgApplyCmd = if s.replays then (s.imgSay 15).put IMG_CRES.SUB 1
    else if s.flag IMG_STAT.APPLYPEND = false then s.imgSay 14
    else if s.flag IMG_STAT.PREP then s.imgSay 1
    else if s.reg IMG_ATGT ≠ 0 ∧ (s.reg IMG_ATGT).toNat < s.t.round.toNat + 2 then s.imgSay 13
    else s.applySet.imgSay 0 := by
  unfold State.imgApplyCmd State.applySet State.askedRound
  dsimp only
  simp only [bne_iff_ne, Bool.and_eq_true, decide_eq_true_eq, Bool.not_eq_true', beq_iff_eq]
  rfl

/-- An APPLY answered. -/
theorem imgApplyCmd_shows : s.imgApplyCmd.get IMG_CRES.RESULT = s.applyResult
    ∧ (s.applyResult = 0 → s.flag IMG_CFG.MANUAL = true → s.imgApplyCmd.img.applyAt = some s.askedRound)
    ∧ (s.applyResult ≠ 0 → s.imgApplyCmd.img.applyAt = s.img.applyAt) ∧ RegWork imgRegs s s.imgApplyCmd := by
  have hsay : ∀ (z : State) r, RegWork imgRegs z (z.imgSay r) := fun z r => RegWork.mono regWork_imgSay (by decide)
  rw [State.imgApplyCmd_eq]
  unfold State.applyResult
  split
  · rw [State.get_put_other rfl rfl, State.result_imgSay (by decide), State.img_put, State.img_imgSay]
    exact ⟨rfl, fun h => absurd h (by decide), fun _ => rfl, (hsay s 15).put (by decide)⟩
  · split
    · rw [State.result_imgSay (by decide), State.img_imgSay]
      exact ⟨rfl, fun h => absurd h (by decide), fun _ => rfl, hsay s 14⟩
    · split
      · rw [State.result_imgSay (by decide), State.img_imgSay]
        exact ⟨rfl, fun h => absurd h (by decide), fun _ => rfl, hsay s 1⟩
      · split
        · rw [State.result_imgSay (by decide), State.img_imgSay]
          exact ⟨rfl, fun h => absurd h (by decide), fun _ => rfl, hsay s 13⟩
        · rw [State.result_imgSay (by decide), State.img_imgSay]
          refine ⟨rfl, fun _ hmanual => ?_, fun h => absurd rfl h, ?_⟩
          · unfold State.applySet
            rw [hmanual, Bool.true_or, if_pos rfl, State.img_withImg]
          · have hset : RegWork imgRegs s s.applySet := .ite regWork_withImg .refl
            exact hset.trans (hsay _ _)

theorem State.applyResult_consume : (s.consume a w).applyResult = s.applyResult := rfl

theorem State.askedRound_consume : (s.consume a w).askedRound = s.askedRound := rfl

theorem imgApply_answers (hup : s.up = true) (himg : s.imgUp = true) : Completes .imgApply s (fun t => t.get IMG_CRES.RESULT = s.applyResult
        ∧ (t.get IMG_CRES.RESULT = 0 → s.flag IMG_CFG.MANUAL = true → t.img.applyAt = some s.askedRound)
        ∧ (t.get IMG_CRES.RESULT ≠ 0 → t.img.applyAt = s.img.applyAt) ∧ RegsKeptBut imgRegs s t ∧ MemKept s t) := by
  refine completes_of_exec (o := execImgApply s) rfl (act_ends hup ?_)
  obtain ⟨hres, hset, hkeep, hwork⟩ := imgApplyCmd_shows (s := s.consume IMG_CMD 4)
  have hkept := ((loopWork_consume (l := imgRegs)).trans hwork.loop).settled.kept
  rw [State.applyResult_consume] at hres hset hkeep
  rw [State.askedRound_consume, State.flag_consume] at hset
  rw [State.img_consume] at hkeep
  rw [himg, if_pos rfl, State.get_settle, State.img_settle, hres]
  exact ⟨rfl, hset, hkeep, hkept⟩

end

/-- Settles O55: each clause is the lemma named for it above. The answers of OPEN, ABORT, APPLY and of late words are the design log's entry 48; that an
APPLY during a preparation finds the controller busy, and that a commit ends 129 beats after its boundary, its entry 37. -/
theorem imageSessionsAndCommits : Obligations.ImageSessionsAndCommits := by
  unfold Obligations.ImageSessionsAndCommits
  intro s hup himg
  exact ⟨fun busy hbusy => imgOpen_answers hup himg hbusy, fun w hsession => imgWdataWrite_takes hup himg w hsession, imgVerify_busy hup himg,
    imgVerify_begins hup himg, imgVerifyComplete_waits hup himg, imgVerifyComplete_ends hup himg, imgAbort_answers hup himg, imgCommit_taken hup himg,
    imageCommitRun_waits hup himg, fun hcommit hstep husec hwarn hhalt => ⟨imageCommitRun_refused hup himg hcommit hstep husec hwarn hhalt,
      imageCommitRun_starts hup himg hcommit hstep husec hwarn hhalt⟩,
    fun mm n _ hstep hn hlt hlen => imageCommitComplete_writes mm hup himg hstep hn hlt hlen,
    fun mm _ hstep hn => ⟨imageCommitComplete_bad mm hup himg hstep hn, imageCommitComplete_good mm hup himg hstep hn⟩, imgApply_answers hup himg⟩

end Sys2Proof.Machine

namespace Sys2Proof.Machine

open Sys2Proof

section
variable {s t u z : State} {P : State → Prop} {f g : Fld} {a b c i j k n m v at_ st : Nat} {w : Word} {l l' : List Nat} {x : Bool} {d e y : SpdS}

/-! ## Speed inputs (R328 to R342) -/

/-! ### What the decision of signals leaves as it is -/

/-- The measurement of an input, its signals and the times of its supervision apart, is the same. -/
structure SameMeasure (d e : SpdS) : Prop where
  edges : e.edges = d.edges
  rev : e.rev = d.rev
  count : e.count = d.count
  still : e.still = d.still
  raws : e.raws = d.raws
  badStart : e.badStart = d.badStart
  inFrame : e.inFrame = d.inFrame

theorem SameMeasure.refl : SameMeasure d d := ⟨rfl, rfl, rfl, rfl, rfl, rfl, rfl⟩

theorem SameMeasure.trans (h : SameMeasure d e) (h' : SameMeasure e y) : SameMeasure d y :=
  ⟨h'.edges.trans h.edges, h'.rev.trans h.rev, h'.count.trans h.count, h'.still.trans h.still, h'.raws.trans h.raws, h'.badStart.trans h.badStart,
    h'.inFrame.trans h.inFrame⟩

theorem sameMeasure_decide : SameMeasure d (d.decide at_ v) := by
  unfold SpdS.decide
  dsimp only
  split
  · exact .refl
  · exact ⟨rfl, rfl, rfl, rfl, rfl, rfl, rfl⟩

/-- The flags of SPD_PST that a fault raises. -/
def faultFlags (n : Nat) : List Fld := [SPD_PST.OPEN n, SPD_PST.SHORT n, SPD_PST.OVR n, SPD_PST.QERR n]

/-- The decision of an input's signals: its measurement and its faults stand, and of the registers its own alone change. -/
structure Decided (n : Nat) (s t : State) : Prop where
  measure : SameMeasure (s.spdOf n) (t.spdOf n)
  faults : ∀ f ∈ faultFlags n, t.flag f = s.flag f
  work : RegWork (speedRegs n) s t

theorem Decided.refl : Decided n s s := ⟨.refl, fun _ _ => rfl, .refl⟩

theorem Decided.trans (h : Decided n s t) (h' : Decided n t u) : Decided n s u :=
  ⟨h.measure.trans h'.measure, fun f hf => (h'.faults f hf).trans (h.faults f hf), h.work.trans h'.work⟩

theorem Decided.ite {q : Prop} [Decidable q] (ht : Decided n s t) (hu : Decided n s u) : Decided n s (if q then t else u) := by
  split
  · exact ht
  · exact hu

theorem Decided.flag (h : Decided n s t) (hf : f ∈ faultFlags n) : t.flag f = s.flag f := h.faults f hf

theorem regWork_setSpd : RegWork l s (s.setSpd n d) := ⟨fun _ _ => rfl, rfl⟩

theorem State.spdOf_put : (s.put f v).spdOf n = s.spdOf n := rfl

theorem State.spdOf_putB : (s.putB f x).spdOf n = s.spdOf n := rfl

theorem State.spdOf_inc : (s.inc f).spdOf n = s.spdOf n := rfl

theorem State.spdOf_settle : (settle s).spdOf n = s.spdOf n := rfl

theorem decided_setSpd (h : SameMeasure (s.spdOf n) d) : Decided n s (s.setSpd n d) :=
  ⟨State.spdOf_setSpd_same ▸ h, fun _ _ => rfl, regWork_setSpd⟩

/-- A field of an input's registers below its fault flags, or above them, written. -/
theorem decided_put (hok : f.ok = true) (haddr : f.addr ∈ speedRegs n) (hapart : ∀ g ∈ faultFlags n, g.apart f = true) : Decided n s (s.put f v) := by
  refine ⟨?_, fun g hg => State.flag_put_other hok (hapart g hg), RegWork.refl.put haddr⟩
  rw [State.spdOf_put]
  exact .refl

/-- A field of SPD_PST apart from its fault flags. -/
theorem apart_faults (hbits : f.hi < 24 ∨ 27 < f.lo) : ∀ g ∈ faultFlags n, g.apart f = true := by
  intro g hg
  refine Fld.apart_of_bits ?_
  simp only [faultFlags, List.mem_cons, List.not_mem_nil, or_false] at hg
  obtain rfl | rfl | rfl | rfl := hg <;> dsimp only <;> omega

/-- A field outside SPD_PST. -/
theorem apart_faults_of_addr (haddr : f.addr ≠ SPD_PST n) : ∀ g ∈ faultFlags n, g.apart f = true := by
  intro g hg
  refine Fld.apart_of_addr ?_
  simp only [faultFlags, List.mem_cons, List.not_mem_nil, or_false] at hg
  obtain rfl | rfl | rfl | rfl := hg <;> exact fun h => haddr h.symm

theorem mem_speedRegs_pst : SPD_PST n ∈ speedRegs n := by simp [speedRegs]

theorem mem_speedRegs_cnt : SPD_CNT n ∈ speedRegs n := by simp [speedRegs]

theorem mem_speedRegs_per : SPD_PER n ∈ speedRegs n := by simp [speedRegs]

theorem decided_pst (hok : f.ok = true) (haddr : f.addr = SPD_PST n) (hbits : f.hi < 24 ∨ 27 < f.lo) : Decided n s (s.put f v) :=
  decided_put hok (haddr ▸ mem_speedRegs_pst) (apart_faults hbits)

/-- The signals of an input noted. -/
def State.signalsKept (s : State) (n at_ : Nat) : State :=
  s.setSpd n { (s.spdOf n).decide at_ (s.spdSignals n) with
    posQ := s.spdQ n true
    mirDue := if (s.get (SPD_PST.Q n) != s.spdQ n false || ((s.spdOf n).decide at_ (s.spdSignals n)).posQ != s.spdQ n true)
        && ((s.spdOf n).decide at_ (s.spdSignals n)).mirDue.isNone then some (s.t.run + 1) else ((s.spdOf n).decide at_ (s.spdSignals n)).mirDue }

theorem State.spdDecide_eq : s.spdDecide n at_ = (((((s.signalsKept n at_).put (SPD_PST.Q n) (s.spdQ n false)).putB (SPD_PST.OS n) (bit (s.spdSignals n) 0)).putB
    (SPD_PST.STAND n) (bit (s.spdSignals n) 1)).putB (SPD_PST.RUNNING n) (bit (s.spdSignals n) 2)).putB (SPD_PST.REV n) (bit (s.spdSignals n) 5) := rfl

theorem decided_spdDecide : Decided n s (s.spdDecide n at_) := by
  have hkept : Decided n s (s.signalsKept n at_) := by
    obtain ⟨hedges, hrev, hcount, hstill, hraws, hbad, hframe⟩ := sameMeasure_decide (d := s.spdOf n) (at_ := at_) (v := s.spdSignals n)
    exact decided_setSpd ⟨hedges, hrev, hcount, hstill, hraws, hbad, hframe⟩
  rw [State.spdDecide_eq]
  refine ((((hkept.trans (decided_pst rfl rfl (.inr ?_))).trans (decided_pst rfl rfl (.inr ?_))).trans (decided_pst rfl rfl (.inr ?_))).trans
    (decided_pst rfl rfl (.inr ?_))).trans (decided_pst rfl rfl (.inr ?_))
  all_goals (dsimp only; decide)

/-- The decision of signals writes SPD_PST, and not the supervision's state there. -/
theorem spdDecide_frame : RegWork [SPD_PST n] s (s.spdDecide n at_) ∧ (s.spdDecide n at_).get (SPD_PST.SUP n) = s.get (SPD_PST.SUP n) := by
  have hkept : RegWork [SPD_PST n] s (s.signalsKept n at_) := regWork_setSpd
  have hin : SPD_PST n ∈ [SPD_PST n] := List.mem_singleton_self _
  have happart : ∀ f : Fld, 27 < f.lo → (SPD_PST.SUP n).apart f = true := fun f hf => Fld.apart_of_bits (.inl (by dsimp only; omega))
  rw [State.spdDecide_eq]
  refine ⟨((((hkept.put hin).putB hin).putB hin).putB hin).putB hin, ?_⟩
  rw [State.get_putB_other rfl (happart _ (by dsimp only; decide)), State.get_putB_other rfl (happart _ (by dsimp only; decide)), State.get_putB_other rfl (happart _ (by dsimp only; decide)),
    State.get_putB_other rfl (happart _ (by dsimp only; decide)), State.get_put_other rfl (happart _ (by dsimp only; decide))]
  rfl

/-- The time of WAITING noted. -/
def State.waitNoted (s : State) (n st : Nat) : State := if st == 2 then s.setSpd n { s.spdOf n with tachtAt := s.t.run } else s

theorem State.setSup_eq : s.setSup n st = if st == 4 then ((s.put (SPD_PST.SUP n) st).waitNoted n st).inc (SPD_CNT.SFAILS n)
    else if st == 5 then ((s.put (SPD_PST.SUP n) st).waitNoted n st).inc (SPD_CNT.TLOSSES n) else (s.put (SPD_PST.SUP n) st).waitNoted n st := rfl

theorem decided_waitNoted : Decided n s (s.waitNoted n st) := .ite (decided_setSpd ⟨rfl, rfl, rfl, rfl, rfl, rfl, rfl⟩) .refl

theorem decided_cnt (hok : f.ok = true) (haddr : f.addr = SPD_CNT n) : Decided n s (s.inc f) :=
  decided_put hok (haddr ▸ mem_speedRegs_cnt) (apart_faults_of_addr (by rw [haddr]; show 0o40110040 + n ≠ 0o40110010 + n; omega))

theorem decided_setSup : Decided n s (s.setSup n st) := by
  have hput : Decided n s ((s.put (SPD_PST.SUP n) st).waitNoted n st) := (decided_pst rfl rfl (.inl (by dsimp only; decide))).trans decided_waitNoted
  rw [State.setSup_eq]
  exact .ite (hput.trans (decided_cnt rfl rfl)) (.ite (hput.trans (decided_cnt rfl rfl)) hput)

theorem decided_supEval : Decided n s (s.supEval n) := by
  unfold State.supEval
  dsimp only
  split
  · exact .ite decided_setSup .refl
  · exact .ite decided_setSup (.ite decided_setSup .refl)
  · exact .ite decided_setSup .refl
  · exact .ite .refl decided_setSup
  · exact .refl

theorem decided_spdSettle : Decided n s (s.spdSettle n at_) := (decided_spdDecide.trans decided_supEval).trans decided_spdDecide

theorem decided_spdSettled : Decided n s (s.spdSettled n) := decided_spdSettle

/-! ### Accepted edges (R330, R332) -/

/-- The edge is one of a counting input in use, later than the newest. -/
def State.edgeFits (s : State) (n : Nat) (chB rising : Bool) (k : Nat) : Bool :=
  s.spdUsed n && decide ((s.spdEnt n).kind < 2) && ((s.spdEnt n).kind != 0 || (!chB && rising))
    && ((s.spdOf n).edges.isEmpty || decide ((s.spdOf n).edges.headD 0 < s.sampleOf k))

/-- An accepted edge noted: its fault shown, and where it is measured its period. -/
def State.edgeShown (s : State) (n : Nat) (d : SpdS) (fault counting : Bool) : State :=
  let s := s.setSpd n d
  let s := if fault then s.putB (SPD_PST.QERR n) true else s
  if counting then s.put (SPD_PER.PER n) (satAt (2 ^ 32 - 1) (roundRat d.mean).toNat) else s

variable {chB rising other : Bool}

theorem State.t_edgeShown {y : Bool} : (s.edgeShown n d x y).t = s.t := by
  unfold State.edgeShown
  simp only [apply_ite State.t, State.t_put, State.t_putB, State.t_setSpd, ite_self]

/-- The input an accepted edge leaves, counted and measured. -/
theorem State.spdEdge_eq (hfits : s.edgeFits n chB rising k = true) :
    ∃ d fault, s.spdEdge n chB rising other k = (s.edgeShown n d fault (!chB && rising)).spdSettle n (4 * s.t.run + k / 10 + 2)
      ∧ d.count = (s.spdOf n).count + (if !((s.spdEnt n).kind == 1) then 1 else if quadUp chB rising other ((s.spdEnt n).b 8 25) then 1 else -1)
      ∧ ((s.spdEnt n).kind = 0 → chB = false → rising = true → s.flag (SPD_PST.QERR n) = false → s.wiringBad n = false →
          d.still = false ∧ d.edges.head? = some (s.sampleOf k)) := by
  have hgo : ¬(!s.spdUsed n || decide ((s.spdEnt n).kind ≥ 2) || ((s.spdEnt n).kind == 0 && (chB || !rising))
      || (!(s.spdOf n).edges.isEmpty && decide (s.sampleOf k ≤ (s.spdOf n).edges.headD 0))) = true := by
    simp only [State.edgeFits, Bool.and_eq_true, Bool.or_eq_true, decide_eq_true_eq, bne_iff_ne] at hfits
    obtain ⟨⟨⟨hused, hkind⟩, hway⟩, hnew⟩ := hfits
    have hkept : ¬2 ≤ (s.spdEnt n).kind := by omega
    have hcounts : ((s.spdEnt n).kind == 0 && (chB || !rising)) = false := by
      obtain hway | ⟨hchan, hrise⟩ := hway
      · rw [beq_false_of_ne hway]; rfl
      · rw [Bool.not_eq_eq_eq_not.mp hchan, hrise]; exact Bool.and_false _
    have hlater : (!(s.spdOf n).edges.isEmpty && decide (s.sampleOf k ≤ (s.spdOf n).edges.headD 0)) = false := by
      obtain hnone | hless := hnew
      · rw [hnone]; rfl
      · rw [decide_eq_false (by omega), Bool.and_false]
    rw [hused, hcounts, hlater, decide_eq_false hkept]
    decide
  generalize hz : s.spdEdge n chB rising other k = z
  unfold State.spdEdge at hz
  extract_lets e d q step err counted counting turned l measured fault left noted shown timed at hz
  rw [if_neg hgo] at hz
  have hcount : left.count = d.count + step := by
    have hturned : turned.count = d.count + step := by
      simp only [turned]
      split <;> rfl
    have hmeasured : measured.count = turned.count := by
      simp only [measured]
      split <;> rfl
    simp only [left]
    split
    · exact hmeasured.trans hturned
    · exact hmeasured.trans hturned
  have hnewest : (s.spdEnt n).kind = 0 → chB = false → rising = true → s.flag (SPD_PST.QERR n) = false → s.wiringBad n = false →
      left.still = false ∧ left.edges.head? = some (s.sampleOf k) := by
    intro hkind hchan hrise hseq hwire
    have hq : q = false := beq_false_of_ne (hkind ▸ Nat.zero_ne_one)
    have hfault : fault = false := by
      show (q && _ && _) = false
      rw [hq]
      rfl
    have hleft : left = measured := if_neg (by rw [hfault, hseq, hwire]; decide)
    have hcounting : counting = true := by
      show (!chB && rising) = true
      rw [hchan, hrise]
      rfl
    have hmeasure : left.still = false ∧ left.edges = l := by
      rw [hleft]
      simp only [measured]
      rw [if_pos hcounting]
      exact ⟨rfl, rfl⟩
    exact ⟨hmeasure.1, hmeasure.2 ▸ rfl⟩
  clear_value left fault
  have hshown : timed = s.edgeShown n left fault counting := rfl
  have htime : timed.t = s.t := by
    rw [hshown]
    exact State.t_edgeShown
  rw [htime, hshown] at hz
  exact ⟨left, fault, hz.symm, hcount, hnewest⟩

theorem RegWork.settled (h : RegWork l s t) : RegWork l s (settle t) := ⟨fun a ha => State.reg_settle.trans (h.regs a ha), State.mem_settle.trans h.mem⟩

theorem RegWork.kept (h : RegWork l s t) : RegsKeptBut l s t ∧ MemKept s t := ⟨h.regs, memKept_of_mem_eq h.mem⟩

theorem Decided.settled (h : Decided n s t) : Decided n s (settle t) :=
  ⟨State.spdOf_settle (s := t) ▸ h.measure, fun f hf => State.flag_settle.trans (h.faults f hf), h.work.settled⟩

theorem State.spd_edgeShown {y : Bool} : (s.edgeShown n d x y).spd = (s.setSpd n d).spd := by
  unfold State.edgeShown
  simp only [apply_ite State.spd, State.spd_put, State.spd_putB, ite_self]

theorem State.spdOf_edgeShown {y : Bool} : (s.edgeShown n d x y).spdOf n = d := by
  unfold State.spdOf
  rw [State.spd_edgeShown]
  exact State.spdOf_setSpd_same

theorem regWork_edgeShown {y : Bool} : RegWork (speedRegs n) s (s.edgeShown n d x y) := by
  have hfault : RegWork (speedRegs n) s (if x then (s.setSpd n d).putB (SPD_PST.QERR n) true else s.setSpd n d) :=
    .ite (regWork_setSpd.putB mem_speedRegs_pst) regWork_setSpd
  exact .ite (hfault.put mem_speedRegs_per) hfault

/-- What an accepted edge leaves (R330, R332). -/
theorem spdEdge_leaves (hup : s.up = true) {n : Fin 8} {k : Fin 40} (hfits : s.edgeFits n chB rising k = true) :
    Completes (.speedEdgeAccept n chB rising other k) s (fun t =>
      (t.spdOf n).count = (s.spdOf n).count + (if !((s.spdEnt n).kind == 1) then 1 else if quadUp chB rising other ((s.spdEnt n).b 8 25) then 1 else -1)
      ∧ ((s.spdEnt n).kind = 0 → chB = false → rising = true → s.flag (SPD_PST.QERR n) = false → s.wiringBad n = false →
          (t.spdOf n).still = false ∧ (t.spdOf n).edges.head? = some (s.sampleOf k))
      ∧ RegsKeptBut (speedRegs n) s t ∧ MemKept s t) := by
  refine completes_of_exec (o := execSpeedEdgeAccept n chB rising other k s) rfl (act_ends hup ?_)
  obtain ⟨d, fault, hedge, hcount, hnewest⟩ := State.spdEdge_eq (other := other) hfits
  rw [hedge]
  have hd : Decided n (s.edgeShown n d fault (!chB && rising)) _ := (decided_spdSettle (at_ := 4 * s.t.run + k / 10 + 2)).settled
  obtain ⟨hedges, -, hcounted, hstill, -, -, -⟩ := hd.measure
  rw [State.spdOf_edgeShown] at hedges hcounted hstill
  rw [hcounted, hstill, hedges]
  exact ⟨hcount, hnewest, (regWork_edgeShown.trans hd.work).kept⟩

/-! ### Raw transitions, the overrange window and wiring faults (R328, R334, R335) -/

/-- The end of a window, its raw transitions forgotten. -/
def State.windowEnded (s : State) (n : Nat) : State := s.setSpd n { s.spdOf n with raws := 0, winAt := some s.t.run }

theorem State.rangeWindow_mid (h : s.t.usec % 1000 ≠ 0 ∨ (s.spdOf n).winAt = some s.t.run) : s.rangeWindow n = s := by
  refine if_pos ?_
  rw [Bool.or_eq_true, bne_iff_ne, beq_iff_eq]
  exact h

/-- A raw transition counted. -/
def State.rawCounted (s : State) (n : Nat) (rising : Bool) : State :=
  s.setSpd n { s.spdOf n with raws := if rising then (s.spdOf n).raws + 1 else (s.spdOf n).raws }

theorem State.raws_rawCounted : ((s.rawCounted n x).spdOf n).raws = (s.spdOf n).raws + x.toNat := by
  unfold State.rawCounted
  rw [State.spdOf_setSpd_same]
  cases x <;> rfl

theorem State.rawTransition_eq (hused : s.spdUsed n = true) (hkind : (s.spdEnt n).kind < 2) (hmid : s.rangeWindow n = s) :
    s.rawTransition n rising x = if x then (s.rawCounted n rising).inc (SPD_CNT.REJ n) else s.rawCounted n rising := by
  have hgo : ¬(!s.spdUsed n || decide ((s.spdEnt n).kind ≥ 2)) = true := by
    rw [hused, decide_eq_false (Nat.not_le.mpr hkind)]
    decide
  unfold State.rawTransition
  rw [if_neg hgo, hmid]
  rfl

theorem speedRawTransition_leaves (hup : s.up = true) {n : Fin 8} {rejected : Bool} (hused : s.spdUsed n = true) (hkind : (s.spdEnt n).kind < 2)
    (hmid : s.t.usec % 1000 ≠ 0 ∨ (s.spdOf n).winAt = some s.t.run) : Completes (.speedRawTransition n rising rejected) s (fun t =>
      (t.spdOf n).raws = (s.spdOf n).raws + rising.toNat ∧ (rejected = true → CountsUp (SPD_CNT.REJ n) s t)
      ∧ RegsKeptBut (if rejected then [SPD_CNT n] else []) s t ∧ MemKept s t) := by
  refine completes_of_exec (o := execSpeedRawTransition n rising rejected s) rfl (act_ends hup ?_)
  rw [State.rawTransition_eq hused hkind (State.rangeWindow_mid hmid), State.spdOf_settle, countsUp_settle]
  have hcounted : RegWork [] s (s.rawCounted n rising) := regWork_setSpd
  cases rejected with
  | false => exact ⟨State.raws_rawCounted, nofun, hcounted.settled.kept⟩
  | true =>
    rw [if_pos rfl, State.spdOf_inc]
    refine ⟨State.raws_rawCounted, fun _ => countsUp_inc rfl State.get_setSpd, RegWork.kept (RegWork.settled ?_)⟩
    exact (hcounted.mono (List.nil_subset _)).put (List.mem_singleton_self _)

/-- A window with too many transitions, or few enough, or neither. -/
theorem State.rangeWindow_eq (hused : s.spdUsed n = true) (hkind : (s.spdEnt n).kind < 2) (hbeat : s.t.usec % 1000 = 0) (hnew : (s.spdOf n).winAt ≠ some s.t.run) :
    s.rangeWindow n = if fmaxe (s.spdEnt n) / 1000 < ((s.spdOf n).raws : Rat) then ((s.windowEnded n).putB (SPD_PST.OVR n) true).spdSettled n
      else if s.flag (SPD_PST.OVR n) && decide (((s.spdOf n).raws : Rat) ≤ fmaxe (s.spdEnt n) / 1000 * 9 / 10) then
        (((s.windowEnded n).setSpd n ((s.windowEnded n).spdOf n).restart).putB (SPD_PST.OVR n) false).spdSettled n
      else s.windowEnded n := by
  have hend : ¬(s.t.usec % 1000 != 0 || (s.spdOf n).winAt == some s.t.run) = true := by
    rw [hbeat, beq_false_of_ne hnew]
    decide
  have hgo : ¬(!s.spdUsed n || decide ((s.spdEnt n).kind ≥ 2)) = true := by
    rw [hused, decide_eq_false (Nat.not_le.mpr hkind)]
    decide
  unfold State.rangeWindow
  dsimp only
  rw [if_neg hend]
  exact if_neg hgo

theorem mem_faultFlags_ovr : SPD_PST.OVR n ∈ faultFlags n := by simp [faultFlags]

theorem regWork_windowEnded : RegWork l s (s.windowEnded n) := regWork_setSpd

theorem State.raws_windowEnded : ((s.windowEnded n).spdOf n).raws = 0 := by
  unfold State.windowEnded
  rw [State.spdOf_setSpd_same]

theorem overrangeWindowEnd_leaves (hup : s.up = true) {n : Fin 8} (hused : s.spdUsed n = true) (hkind : (s.spdEnt n).kind < 2) (hbeat : s.t.usec % 1000 = 0)
    (hnew : (s.spdOf n).winAt ≠ some s.t.run) : Completes (.overrangeWindowEnd n) s (fun t => (t.spdOf n).raws = 0
      ∧ (fmaxe (s.spdEnt n) / 1000 < ((s.spdOf n).raws : Rat) → t.flag (SPD_PST.OVR n) = true)
      ∧ (((s.spdOf n).raws : Rat) ≤ fmaxe (s.spdEnt n) / 1000 * 9 / 10 → ((s.spdOf n).raws : Rat) ≤ fmaxe (s.spdEnt n) / 1000 →
          t.flag (SPD_PST.OVR n) = false) ∧ RegsKeptBut (speedRegs n) s t ∧ MemKept s t) := by
  refine completes_of_exec (o := execOverrangeWindowEnd n s) rfl (act_ends hup ?_)
  rw [State.rangeWindow_eq hused hkind hbeat hnew]
  by_cases hover : fmaxe (s.spdEnt n) / 1000 < ((s.spdOf n).raws : Rat)
  · rw [if_pos hover]
    have hd := (decided_spdSettled (n := n.val) (s := (s.windowEnded n).putB (SPD_PST.OVR n) true)).settled
    have hraws := hd.measure.raws
    rw [State.spdOf_putB] at hraws
    refine ⟨hraws.trans State.raws_windowEnded, fun _ => (hd.flag mem_faultFlags_ovr).trans (State.flag_putB_same rfl),
      fun _ hle => absurd hover hle.not_gt, ?_⟩
    exact ((regWork_windowEnded.putB mem_speedRegs_pst).trans hd.work).kept
  rw [if_neg hover]
  by_cases hquiet : (s.flag (SPD_PST.OVR n) && decide (((s.spdOf n).raws : Rat) ≤ fmaxe (s.spdEnt n) / 1000 * 9 / 10)) = true
  · rw [if_pos hquiet]
    have hd := (decided_spdSettled (n := n.val) (s := ((s.windowEnded n).setSpd n ((s.windowEnded n).spdOf n).restart).putB (SPD_PST.OVR n) false)).settled
    have hraws := hd.measure.raws
    rw [State.spdOf_putB, State.spdOf_setSpd_same] at hraws
    refine ⟨hraws.trans State.raws_windowEnded, fun h => absurd h hover, fun _ _ => (hd.flag mem_faultFlags_ovr).trans (State.flag_putB_same rfl), ?_⟩
    exact (((regWork_windowEnded.trans regWork_setSpd).putB mem_speedRegs_pst).trans hd.work).kept
  · rw [if_neg hquiet]
    refine ⟨State.raws_windowEnded, fun h => absurd h hover, fun hfew _ => ?_, regWork_windowEnded.settled.kept⟩
    rw [decide_eq_true hfew, Bool.and_true] at hquiet
    exact Bool.eq_false_iff.mpr hquiet

/-- The flag of a wiring condition, and what it stops. -/
def State.wiringShown (s : State) (n : Nat) (f : Fld) (raised : Bool) : State :=
  if raised then (s.putB f raised).setSpd n ((s.putB f raised).spdOf n).restart else s.putB f raised

theorem State.wiring_eq {raised : Bool} {held : Nat} (hheld : 100000 ≤ held)
    (hstands : raised = true → s.spdUsed n = true ∧ (s.spdEnt n).owoff = false ∧ (x = true → (s.spdEnt n).kind = 0)) :
    s.wiring n x raised held = (s.wiringShown n (if x then SPD_PST.SHORT n else SPD_PST.OPEN n) raised).spdSettled n := by
  have hgo : ¬(decide (held < 100000) || (raised && (!s.spdUsed n || (s.spdEnt n).owoff || (x && (s.spdEnt n).kind != 0)))) = true := by
    rw [decide_eq_false (Nat.not_lt.mpr hheld)]
    cases raised with
    | false => exact Bool.false_ne_true
    | true =>
      obtain ⟨hused, howoff, hshort⟩ := hstands rfl
      rw [hused, howoff]
      cases x with
      | false => exact Bool.false_ne_true
      | true => rw [hshort rfl]; decide
  unfold State.wiring
  rw [if_neg hgo]
  rfl

theorem State.wiringShown_shows (hok : f.ok = true) (haddr : f.addr = SPD_PST n) : (s.wiringShown n f x).flag f = x
    ∧ (x = true → ((s.wiringShown n f x).spdOf n).edges = [] ∧ ((s.wiringShown n f x).spdOf n).rev = 0) ∧ RegWork (speedRegs n) s (s.wiringShown n f x) := by
  have hput : RegWork (speedRegs n) s (s.putB f x) := RegWork.refl.putB (haddr ▸ mem_speedRegs_pst)
  unfold State.wiringShown
  cases x with
  | false => exact ⟨State.flag_putB_same hok, nofun, hput⟩
  | true =>
    refine ⟨State.flag_putB_same hok, fun _ => ?_, hput.trans regWork_setSpd⟩
    rw [if_pos rfl, State.spdOf_setSpd_same]
    exact ⟨rfl, rfl⟩

theorem speedWiringFault_leaves (hup : s.up = true) {n : Fin 8} {raised : Bool} {held : BitVec 24} (hused : s.spdUsed n = true) (hheld : 100000 ≤ held.toNat)
    (hstands : raised = true → (s.spdEnt n).owoff = false ∧ (x = true → (s.spdEnt n).kind = 0)) :
    Completes (.speedWiringFault n x ⟨raised, held⟩) s (fun t => t.flag (if x then SPD_PST.SHORT n else SPD_PST.OPEN n) = raised
      ∧ (raised = true → (t.spdOf n).edges = [] ∧ (t.spdOf n).rev = 0) ∧ RegsKeptBut (speedRegs n) s t ∧ MemKept s t) := by
  refine completes_of_exec (o := execSpeedWiringFault n x ⟨raised, held⟩ s) rfl (act_ends hup ?_)
  rw [State.wiring_eq hheld fun h => ⟨hused, hstands h⟩]
  generalize hf : (if x then SPD_PST.SHORT n else SPD_PST.OPEN n) = f
  have hkinds : f ∈ faultFlags n ∧ f.ok = true ∧ f.addr = SPD_PST n := by
    rw [← hf]
    cases x
    · exact ⟨by simp [faultFlags], rfl, rfl⟩
    · exact ⟨by simp [faultFlags], rfl, rfl⟩
  obtain ⟨hin, hok, haddr⟩ := hkinds
  obtain ⟨hflag, hstops, hwork⟩ := State.wiringShown_shows (s := s) (x := raised) hok haddr
  have hd := (decided_spdSettled (n := n.val) (s := s.wiringShown n f raised)).settled
  obtain ⟨hedges, hrev, -, -, -, -, -⟩ := hd.measure
  refine ⟨(hd.flag hin).trans hflag, fun h => ?_, (hwork.trans hd.work).kept⟩
  obtain ⟨hnone, hzero⟩ := hstops h
  exact ⟨hedges.trans hnone, hrev.trans hzero⟩

/-! ### Standstill and the expiry of TACHT (R331, R342) -/

/-- The input at standstill. -/
def Entry.stopped (e : Entry) (d : SpdS) : SpdS := if e.kind == 2 then { d with rev := 0, still := true } else { d.restart with still := true }

theorem stopped_still {e : Entry} : (e.stopped d).still = true ∧ (e.stopped d).rev = 0 := by
  unfold Entry.stopped
  split
  · exact ⟨rfl, rfl⟩
  · exact ⟨rfl, rfl⟩

theorem State.standstill_eq (hused : s.spdUsed n = true) (hmoving : (s.spdOf n).still = false)
    (hlong : (s.spdOf n).lastAt + (s.spdEnt n).standt * 40000 ≤ s.sampleNow) :
    s.standstill n = (s.setSpd n ((s.spdEnt n).stopped (s.spdOf n))).spdSettled n := by
  have hgo : ¬(!s.spdUsed n || (s.spdOf n).still || decide (s.sampleNow < (s.spdOf n).lastAt + (s.spdEnt n).standt * 40000)) = true := by
    rw [hused, hmoving, decide_eq_false (Nat.not_lt.mpr hlong)]
    decide
  unfold State.standstill
  exact if_neg hgo

theorem standstillTimeout_leaves (hup : s.up = true) {n : Fin 8} (hused : s.spdUsed n = true) (hmoving : (s.spdOf n).still = false)
    (hlong : (s.spdOf n).lastAt + (s.spdEnt n).standt * 40000 ≤ s.sampleNow) :
    Completes (.standstillTimeout n) s (fun t => (t.spdOf n).still = true ∧ (t.spdOf n).rev = 0 ∧ RegsKeptBut (speedRegs n) s t ∧ MemKept s t) := by
  refine completes_of_exec (o := execStandstillTimeout n s) rfl (act_ends hup ?_)
  rw [State.standstill_eq hused hmoving hlong]
  have hd := (decided_spdSettled (n := n.val) (s := s.setSpd n ((s.spdEnt n).stopped (s.spdOf n)))).settled
  obtain ⟨-, hrev, -, hstill, -, -, -⟩ := hd.measure
  rw [State.spdOf_setSpd_same] at hrev hstill
  exact ⟨hstill.trans stopped_still.1, hrev.trans stopped_still.2, (regWork_setSpd.trans hd.work).kept⟩

/-- START FAIL or TACHO LOSS. -/
def supFault (loss : Bool) : Nat := if loss then 5 else 4

/-- The count of START FAIL or TACHO LOSS. -/
def supCount (n : Nat) (loss : Bool) : Fld := if loss then SPD_CNT.TLOSSES n else SPD_CNT.SFAILS n

theorem State.setSup_fault : s.setSup n (supFault x) = (s.put (SPD_PST.SUP n) (supFault x)).inc (supCount n x) := by
  cases x <;> rfl

/-- A fault of the supervision shows and is counted. -/
theorem setSup_fault_shows : (s.setSup n (supFault x)).get (SPD_PST.SUP n) = supFault x ∧ CountsUp (supCount n x) s (s.setSup n (supFault x)) := by
  have happart : SPD_CNT n ≠ SPD_PST n := by
    show 0o40110040 + n ≠ 0o40110010 + n
    omega
  have hcount : (supCount n x).ok = true ∧ (supCount n x).addr = SPD_CNT n := by
    cases x
    · exact ⟨rfl, rfl⟩
    · exact ⟨rfl, rfl⟩
  obtain ⟨hok, haddr⟩ := hcount
  rw [State.setSup_fault]
  refine ⟨(State.get_inc_other hok (Fld.apart_of_addr (haddr ▸ happart.symm))).trans ((State.get_put_same rfl).trans ?_),
    countsUp_inc hok (State.get_put_other rfl (Fld.apart_of_addr (haddr ▸ happart)))⟩
  cases x <;> rfl

theorem State.tachtExpiry_eq (hused : s.spdUsed n = true) (hwait : s.get (SPD_PST.SUP n) = 2)
    (hlong : (s.spdEnt n).tacht * 100000 ≤ s.since (s.spdOf n).tachtAt) :
    s.tachtExpiry n = (s.setSup n (supFault (s.wiringBad n))).spdDecide n (s.setSup n (supFault (s.wiringBad n))).nextBeatPhase := by
  have hgo : (s.spdUsed n && s.get (SPD_PST.SUP n) == 2 && decide ((s.spdEnt n).tacht * 100000 ≤ s.since (s.spdOf n).tachtAt)) = true := by
    rw [hused, hwait, decide_eq_true hlong]
    decide
  unfold State.tachtExpiry
  exact if_pos hgo

theorem tachtExpiry_leaves (hup : s.up = true) {n : Fin 8} (hused : s.spdUsed n = true) (hwait : s.get (SPD_PST.SUP n) = 2)
    (hlong : (s.spdEnt n).tacht * 100000 ≤ s.since (s.spdOf n).tachtAt) :
    Completes (.tachtExpiry n) s (fun t => t.get (SPD_PST.SUP n) = supFault (s.wiringBad n) ∧ CountsUp (supCount n (s.wiringBad n)) s t
      ∧ RegsKeptBut (speedRegs n) s t ∧ MemKept s t) := by
  refine completes_of_exec (o := execTachtExpiry n s) rfl (act_ends hup ?_)
  rw [State.tachtExpiry_eq hused hwait hlong, State.get_settle, countsUp_settle]
  generalize hz : s.setSup n (supFault (s.wiringBad n)) = z
  obtain ⟨hsup, hcount⟩ := setSup_fault_shows (s := s) (n := n.val) (x := s.wiringBad n)
  rw [hz] at hsup hcount
  have hset : RegWork (speedRegs n) s z := hz ▸ decided_setSup.work
  obtain ⟨hwork, hkept⟩ := spdDecide_frame (s := z) (n := n.val) (at_ := z.nextBeatPhase)
  have hout : (supCount n (s.wiringBad n)).addr ∉ [SPD_PST n] := by
    rw [List.mem_singleton]
    cases s.wiringBad n
    · show 0o40110040 + n.val ≠ 0o40110010 + n.val
      omega
    · show 0o40110040 + n.val ≠ 0o40110010 + n.val
      omega
  exact ⟨hkept.trans hsup, hcount.of_get_eq (hwork.get hout), (hset.trans decided_spdDecide.work).settled.kept⟩

/-! ### SSI frames (R340, R341) -/

/-- A frame begun. -/
def State.frameBegun (s : State) (n : Nat) : State := s.setSpd n { s.spdOf n with inFrame := true, frameAt := some s.t.run }

theorem ssiFrameStart_leaves (hup : s.up = true) {n : Fin 8} (hused : s.spdUsed n = true) (hkind : (s.spdEnt n).kind = 2)
    (hdue : s.micros % (s.spdEnt n).ssiper = 0) (hnew : (s.spdOf n).frameAt ≠ some s.t.run) :
    Completes (.ssiFrameStart n) s (fun t => (t.spdOf n).inFrame = true ∧ AllKept s t) := by
  have hgo : (s.spdUsed n && (s.spdEnt n).kind == 2 && s.micros % (s.spdEnt n).ssiper == 0 && (s.spdOf n).frameAt != some s.t.run) = true := by
    rw [hused, hkind, hdue, bne_iff_ne.mpr hnew]
    decide
  have hstart : s.ssiStart n = s.frameBegun n := if_pos hgo
  refine completes_of_exec (o := execSsiFrameStart n s) rfl (act_ends hup ?_)
  rw [hstart, State.spdOf_settle]
  unfold State.frameBegun
  rw [State.spdOf_setSpd_same]
  exact ⟨rfl, RegWork.allKept regWork_setSpd⟩

/-- The position a frame carries. -/
def Entry.ssiPos (e : Entry) (raw : Nat) : Nat := if e.b 8 24 then grayToBin e.ssibits (raw % 2 ^ e.ssibits) else raw % 2 ^ e.ssibits

/-- The input a frame leaves. -/
theorem State.ssiEnd_eq {raw : Nat} (hused : s.spdUsed n = true) (hkind : (s.spdEnt n).kind = 2) (hover : s.frameOver n = true) :
    ∃ d, s.ssiEnd n x raw = (s.setSpd n d).spdSettled n ∧ d.inFrame = false ∧ d.badStart = (if x then (s.spdOf n).badStart + 1 else 0)
      ∧ (x = false → d.count = (((s.spdEnt n).ssiPos raw : Nat) : Int)) := by
  have hgo : ¬(!s.spdUsed n || (s.spdEnt n).kind != 2 || !s.frameOver n) = true := by
    rw [hused, hkind, hover]
    decide
  generalize hz : s.ssiEnd n x raw = z
  unfold State.ssiEnd at hz
  extract_lets e d bad b pos moved l since taken at hz
  rw [if_neg hgo] at hz
  cases x with
  | true =>
    rw [if_pos rfl] at hz
    refine ⟨_, hz.symm, ?_, ?_, nofun⟩
    · split
      · rfl
      · rfl
    · split
      · rfl
      · rfl
  | false =>
    rw [if_neg Bool.false_ne_true] at hz
    refine ⟨_, hz.symm, ?_, ?_, fun _ => ?_⟩
    · split
      · rfl
      · rfl
    · split
      · rfl
      · rfl
    · split
      · rfl
      · rfl

theorem ssiFrameEnd_leaves (hup : s.up = true) {n : Fin 8} {raw : BitVec 32} (hused : s.spdUsed n = true) (hkind : (s.spdEnt n).kind = 2)
    (hover : s.frameOver n = true) : Completes (.ssiFrameEnd n x raw) s (fun t =>
      (t.spdOf n).inFrame = false ∧ (t.spdOf n).badStart = (if x then (s.spdOf n).badStart + 1 else 0)
      ∧ (x = false → (t.spdOf n).count = (((s.spdEnt n).ssiPos raw.toNat : Nat) : Int)) ∧ RegsKeptBut (speedRegs n) s t ∧ MemKept s t) := by
  refine completes_of_exec (o := execSsiFrameEnd n x raw s) rfl (act_ends hup ?_)
  obtain ⟨d, hend, hframe, hbad, hcount⟩ := State.ssiEnd_eq (x := x) (raw := raw.toNat) hused hkind hover
  rw [hend]
  have hd := (decided_spdSettled (n := n.val) (s := s.setSpd n d)).settled
  obtain ⟨-, -, hcounted, -, -, hbads, hframes⟩ := hd.measure
  rw [State.spdOf_setSpd_same] at hcounted hbads hframes
  exact ⟨hframes.trans hframe, hbads.trans hbad, fun h => hcounted.trans (hcount h), (regWork_setSpd.trans hd.work).kept⟩

/-! ### The mirror words (R339) -/

/-- Both words published. -/
def State.spdPublished (s : State) (n : Nat) : State := (s.publish (0o260 + n) (s.speedWord n)).publish (0o270 + n) (s.posWord n)

/-- A word of the mains reference ends a rate window where it is bad (R448). -/
def State.mainsChecked (s : State) (n : Nat) : State :=
  if s.clk.winSrc == 1 && s.get CLK_CFG.MSRC == n && wbit (s.mirror (0o260 + n)) 35 then s.rateAbort else s

theorem State.spdMirror_eq (halive : s.alive 18 = true) :
    ∃ d, s.spdMirror n = ((s.spdPublished n).setSpd n d).mainsChecked n := by
  unfold State.spdMirror
  rw [if_neg (by rw [halive]; decide)]
  exact ⟨_, rfl⟩

theorem regWork_mainsChecked : RegWork [CLK_STAT, CLK_RATE] s (s.mainsChecked n) := by
  obtain ⟨hregs, hmem, -, -, -⟩ := State.rateAbort_frame (s := s)
  refine .ite ⟨fun a ha => hregs a ?_ ?_, hmem⟩ .refl
  · exact fun h => ha (h ▸ List.mem_cons_self)
  · exact fun h => ha (h ▸ List.mem_cons_of_mem _ (List.mem_singleton_self _))

theorem State.pstate_publish : (s.publish i w).pstate = s.pstate := rfl

/-- Both words read as published. -/
theorem spdPublished_shows (hpair : s.pstate ≠ 6) : (s.spdPublished n).mirror (0o260 + n) = s.speedWord n ∧ (s.spdPublished n).mirror (0o270 + n) = s.posWord n
    ∧ SramKeptBut [0o00400260 + n, 0o00400270 + n] s (s.spdPublished n) ∧ MramKept s (s.spdPublished n) := by
  obtain ⟨hspeed, hsram, hmram⟩ := mirrorShows_publish (i := 0o260 + n) (w := s.speedWord n) (.inl hpair)
  obtain ⟨hpos, hsram', hmram'⟩ := mirrorShows_publish (s := s.publish (0o260 + n) (s.speedWord n)) (i := 0o270 + n) (w := s.posWord n) (.inl hpair)
  have hspeedAt : 0o00400000 + (0o260 + n) = 0o00400260 + n := by omega
  have hposAt : 0o00400000 + (0o270 + n) = 0o00400270 + n := by omega
  rw [hspeedAt] at hsram
  rw [hposAt] at hsram'
  refine ⟨?_, hpos, fun a ha => ?_, hmram.trans hmram'⟩
  · obtain ⟨hword, hpoison⟩ := hsram' (0o00400000 + (0o260 + n)) (by rw [List.mem_singleton]; omega)
    refine Eq.trans ?_ hspeed
    unfold State.spdPublished State.mirror
    rw [hword, hpoison]
  · rw [List.mem_cons, List.mem_singleton, not_or] at ha
    obtain ⟨hat, hat'⟩ := ha
    obtain ⟨hword, hpoison⟩ := hsram a (List.mem_singleton.not.mpr hat)
    obtain ⟨hword', hpoison'⟩ := hsram' a (List.mem_singleton.not.mpr hat')
    exact ⟨hword'.trans hword, hpoison'.trans hpoison⟩

theorem reg_spdPublished : (s.spdPublished n).reg a = s.reg a := State.reg_publish.trans State.reg_publish

theorem speedMirrorWrite_leaves (hup : s.up = true) {n : Fin 8} (halive : s.alive 18 = true) (hpair : s.pstate ≠ 6) (hphase : s.t.phase = 2)
    (hdue : s.mirrorDue n = true) : Completes (.speedMirrorWrite n) s (fun t => t.mirror (0o260 + n) = s.speedWord n ∧ t.mirror (0o270 + n) = s.posWord n
      ∧ RegsKeptBut [CLK_STAT, CLK_RATE] s t ∧ SramKeptBut [0o00400260 + n, 0o00400270 + n] s t ∧ MramKept s t) := by
  refine completes_of_exec (o := execSpeedMirrorWrite n s) rfl (act_ends hup ?_)
  obtain ⟨d, hmirror⟩ := State.spdMirror_eq (n := n.val) halive
  rw [if_pos (by rw [hphase, hdue]; decide), hmirror]
  obtain ⟨hspeed, hpos, hsram, hmram⟩ := spdPublished_shows (n := n.val) hpair
  have hkept (a : Nat) : (s.spdPublished n).reg a = s.reg a := reg_spdPublished
  generalize s.spdPublished n = z at *
  have hwork := (regWork_mainsChecked (s := z.setSpd n d) (n := n.val)).settled
  generalize settle ((z.setSpd n d).mainsChecked n) = t at *
  have hmem : t.mem = z.mem := hwork.mem.trans State.mem_setSpd
  obtain ⟨hsram', hmram'⟩ := memKept_of_mem_eq hmem
  refine ⟨(State.mirror_of_mem_eq hmem).trans hspeed, (State.mirror_of_mem_eq hmem).trans hpos,
    fun a ha => (hwork.regs a ha).trans (State.reg_setSpd.trans (hkept a)), fun a ha => ?_, hmram.trans hmram'⟩
  exact ⟨(hsram' a).1.trans (hsram a ha).1, (hsram' a).2.trans (hsram a ha).2⟩

/-! ### The obligation -/

theorem State.edgeFits_of {k : Fin 40} (hused : s.spdUsed n = true) (hkind : (s.spdEnt n).kind < 2) (hway : (s.spdEnt n).kind = 0 → chB = false ∧ rising = true)
    (hnew : (s.spdOf n).edges = [] ∨ (s.spdOf n).edges.headD 0 < s.sampleOf k) : s.edgeFits n chB rising k = true := by
  simp only [State.edgeFits, Bool.and_eq_true, Bool.or_eq_true, decide_eq_true_eq, bne_iff_ne]
  refine ⟨⟨⟨hused, hkind⟩, ?_⟩, hnew.imp List.isEmpty_iff.mpr id⟩
  by_cases hone : (s.spdEnt n).kind = 0
  · obtain ⟨hchan, hrise⟩ := hway hone
    exact .inr ⟨hchan ▸ rfl, hrise⟩
  · exact .inl hone

/-- Settles O45: each clause is the lemma named for it above. That a quadrature edge counts up where channel A leads is the design log's entry 40, and that
the time to a standstill runs from the adoption where no edge has been accepted its entry 36. -/
theorem speedInputsMeasure : Obligations.SpeedInputsMeasure := by
  unfold Obligations.SpeedInputsMeasure
  intro s n hup hused
  refine ⟨?_, ?_, ?_, ?_, ?_, ?_, ?_, ?_, ?_⟩
  · intro chB rising other k hnew
    refine ⟨fun hkind hchan hrise => ?_, fun hkind => ?_⟩
    · obtain ⟨t, hrun, hcount, hnewest, hregs, hmem⟩ :=
        spdEdge_leaves (other := other) hup (State.edgeFits_of (chB := chB) (rising := rising) hused (by omega) (fun _ => ⟨hchan, hrise⟩) hnew)
      rw [hkind] at hcount
      exact ⟨t, hrun, hcount, hnewest hkind hchan hrise, hregs, hmem⟩
    · obtain ⟨t, hrun, hcount, -, hregs, hmem⟩ :=
        spdEdge_leaves (other := other) hup (State.edgeFits_of (chB := chB) (rising := rising) hused (by omega) (fun h => absurd (hkind.symm.trans h) (by decide)) hnew)
      rw [hkind] at hcount
      exact ⟨t, hrun, hcount, hregs, hmem⟩
  · exact fun rising rejected hkind hmid => speedRawTransition_leaves hup hused hkind hmid
  · exact fun hkind hbeat hnew => overrangeWindowEnd_leaves hup hused hkind hbeat hnew
  · exact fun short raised held hheld hstands => speedWiringFault_leaves hup hused hheld hstands
  · exact fun hmoving hlong => standstillTimeout_leaves hup hused hmoving hlong
  · exact fun hwait hlong => tachtExpiry_leaves hup hused hwait hlong
  · exact fun hkind hdue hnew => ssiFrameStart_leaves hup hused hkind hdue hnew
  · exact fun start raw hkind hover => ssiFrameEnd_leaves hup hused hkind hover
  · exact fun halive hpair hphase hdue => speedMirrorWrite_leaves hup halive hpair hphase hdue

end

end Sys2Proof.Machine

namespace Sys2Proof.Machine

open Sys2Proof

section
variable {s t u z : State} {P : State → Prop} {f g : Fld} {a b c i j k n m v st : Nat} {p : Fin 2} {w : Word} {l l' : List Nat} {x y : Bool} {d ns ofs : Int} {q : PtpPort}

/-! ## Ship-network links and the time protocol (R348 to R354) -/

/-! ### The port selected and the discipline that follows (R54, R353) -/

/-- The link shown of a port. -/
def linkFlds : List Fld := [SN_STAT.LINKA, SN_STAT.LINKB]

/-- A port selected anew, or the discipline corrected: the exchanges, the links shown and the port's status stand. -/
structure Selects (p : Fin 2) (s t : State) : Prop where
  sn : t.sn = s.sn
  pst : t.reg (SN_PST p) = s.reg (SN_PST p)
  links : ∀ f ∈ linkFlds, t.flag f = s.flag f
  work : RegWork (ptpRegs p) s t

theorem Selects.refl : Selects p s s := ⟨rfl, rfl, fun _ _ => rfl, .refl⟩

theorem Selects.trans (h : Selects p s t) (h' : Selects p t u) : Selects p s u :=
  ⟨h'.sn.trans h.sn, h'.pst.trans h.pst, fun f hf => (h'.links f hf).trans (h.links f hf), h.work.trans h'.work⟩

theorem Selects.ite {c : Prop} [Decidable c] (ht : Selects p s t) (hu : Selects p s u) : Selects p s (if c then t else u) := by
  split
  · exact ht
  · exact hu

theorem Selects.get (h : Selects p s t) (hf : f.addr = SN_PST p) : t.get f = s.get f := get_of_reg_eq (hf ▸ h.pst)

theorem Selects.flag (h : Selects p s t) (hf : f.addr = SN_PST p) : t.flag f = s.flag f := flag_of_reg_eq (hf ▸ h.pst)

theorem Selects.ptpOf (h : Selects p s t) : t.ptpOf n = s.ptpOf n := by
  unfold State.ptpOf
  rw [h.sn]

theorem Selects.settled (h : Selects p s t) : Selects p s (settle t) :=
  ⟨State.sn_settle.trans h.sn, State.reg_settle.trans h.pst, fun f hf => State.flag_settle.trans (h.links f hf), h.work.settled⟩

theorem linkFlds_addr (hf : f ∈ linkFlds) : f.addr = SN_STAT := by
  simp only [linkFlds, List.mem_cons, List.not_mem_nil, or_false] at hf
  obtain rfl | rfl := hf <;> rfl

theorem pst_ne_stat : SN_PST p ≠ SN_STAT := by
  revert p
  decide

/-- Registers of time and calendar alone change. -/
theorem selects_of_regWork (h : RegWork [TIM_DSTAT, TIM_OFFS, TIM_FADJ, CLK_STAT, CLK_RATE] s t) (hsn : t.sn = s.sn) : Selects p s t := by
  have hpst : SN_PST p ∉ [TIM_DSTAT, TIM_OFFS, TIM_FADJ, CLK_STAT, CLK_RATE] := by
    revert p
    decide
  refine ⟨hsn, h.regs _ hpst, fun f hf => h.flag (linkFlds_addr hf ▸ by decide), h.mono ?_⟩
  intro a ha
  exact List.mem_cons_of_mem _ (List.mem_cons_of_mem _ ha)

theorem State.sn_rateAbort : s.rateAbort.sn = s.sn := by
  unfold State.rateAbort
  split
  · rfl
  · dsimp only
    rw [State.sn_putB, State.sn_putB]

theorem State.sn_discipline : s.discipline.sn = s.sn := by
  have hheld : s.heldFrom.sn = s.sn := by
    unfold State.heldFrom
    split <;> rfl
  have hshown : s.disciplined.sn = s.sn := by
    unfold State.disciplined
    rw [State.sn_put, State.sn_putB, State.sn_putB, State.sn_putB, State.sn_put, hheld]
  rw [State.discipline_eq]
  unfold State.ratePtp
  split
  · exact State.sn_rateAbort.trans hshown
  · exact hshown

theorem selects_discipline : Selects p s s.discipline := by
  obtain ⟨hregs, hmem, -, -, -⟩ := State.discipline_frame (s := s)
  refine selects_of_regWork ⟨fun a ha => ?_, hmem⟩ State.sn_discipline
  simp only [List.mem_cons, List.not_mem_nil, or_false, not_or] at ha
  obtain ⟨hdstat, -, -, hclk, hrate⟩ := ha
  exact hregs a hdstat hclk hrate

theorem selects_ptpSelect : Selects p s s.ptpSelect := by
  have hport : Selects p s (s.put SN_STAT.PTPPORT s.ptpBest) := by
    refine ⟨State.sn_put, State.reg_put_other pst_ne_stat, fun f hf => State.flag_put_other rfl ?_, RegWork.refl.put List.mem_cons_self⟩
    simp only [linkFlds, List.mem_cons, List.not_mem_nil, or_false] at hf
    obtain rfl | rfl := hf <;> rfl
  exact hport.trans selects_discipline

/-- The slew still owed noted. -/
def State.slewOwed (s : State) (d : Int) : State := { s with t := { s.t with disc := { s.t.disc with slewLeft := d } } }

theorem selects_slewRate : Selects p s s.slewRate := by
  have hfree : RegWork [TIM_DSTAT, TIM_OFFS, TIM_FADJ, CLK_STAT, CLK_RATE] s s.free.2 := ⟨fun _ _ => rfl, rfl⟩
  unfold State.slewRate
  exact selects_of_regWork (hfree.put (f := TIM_FADJ.FADJ) (by decide)) rfl

theorem selects_awaitStep {o : Option Int} : Selects p s (s.awaitStep o) := by
  unfold State.awaitStep
  refine .ite ?_ ?_
  · exact selects_of_regWork ⟨fun _ _ => rfl, rfl⟩ rfl
  · exact selects_of_regWork ⟨fun _ _ => rfl, rfl⟩ rfl

theorem selects_slewOwed : Selects p s (s.slewOwed d) := selects_of_regWork ⟨fun _ _ => rfl, rfl⟩ rfl

theorem selects_correct : Selects p s (s.correct ns) := by
  have hofs : Selects p s (s.put TIM_OFFS.OFFS (unsign 36 ns)) := selects_of_regWork (RegWork.refl.put (by decide)) State.sn_put
  refine hofs.trans (.ite ?_ (.ite .refl selects_awaitStep))
  exact .ite (selects_slewOwed.trans selects_slewRate) ((selects_slewOwed.trans selects_slewRate).trans selects_awaitStep)

theorem selects_ptpCorrect : Selects p s (s.ptpCorrect n ofs) := .ite selects_correct .refl

/-! ### The exchange of a port (R353, R354) -/

theorem regWork_setPtp : RegWork l s (s.setPtp n q) := ⟨fun _ _ => rfl, rfl⟩

theorem mem_ptpRegs_pst : SN_PST p ∈ ptpRegs p := List.mem_cons_of_mem _ List.mem_cons_self

/-- An exchange begun, ended or locked, its state shown. -/
def State.ptpShown (s : State) (p : Nat) (q : PtpPort) (st : Nat) (x : Bool) : State := ((s.setPtp p q).put (SN_PST.PTPST p) st).putB (SN_PST.PLOCK p) x

theorem State.ptpStop_eq : s.ptpStop p st = (s.ptpShown p PtpPort.fresh st false).ptpSelect := rfl

theorem apart_ptp (hf : f.hi < 26 ∨ 29 < f.lo) : f.apart (SN_PST.PTPST p) = true ∧ f.apart (SN_PST.PLOCK p) = true :=
  ⟨Fld.apart_of_bits (by dsimp only; omega), Fld.apart_of_bits (by dsimp only; omega)⟩

/-- What shows of a port and its exchange, and what else stands. -/
structure PtpShows (p : Fin 2) (q : PtpPort) (st : Nat) (x : Bool) (s t : State) : Prop where
  ptp : t.ptpOf p = q
  state : t.get (SN_PST.PTPST p) = st
  lock : t.flag (SN_PST.PLOCK p) = x
  others : ∀ f, f.addr = SN_PST p → f.hi < 26 ∨ 29 < f.lo → t.get f = s.get f
  links : ∀ f ∈ linkFlds, t.flag f = s.flag f
  tries : t.sn.tries = s.sn.tries
  work : RegWork (ptpRegs p) s t

theorem PtpShows.before (h : PtpShows p q st x t u) (hothers : ∀ f, f.addr = SN_PST p → t.get f = s.get f) (hlinks : ∀ f ∈ linkFlds, t.flag f = s.flag f)
    (htries : t.sn.tries = s.sn.tries) (hwork : RegWork (ptpRegs p) s t) : PtpShows p q st x s u :=
  ⟨h.ptp, h.state, h.lock, fun f hf hb => (h.others f hf hb).trans (hothers f hf), fun f hf => (h.links f hf).trans (hlinks f hf), h.tries.trans htries,
    hwork.trans h.work⟩

theorem PtpShows.selects (h : PtpShows p q st x s t) (h' : Selects p t u) : PtpShows p q st x s u :=
  ⟨h'.ptpOf.trans h.ptp, (h'.get rfl).trans h.state, (h'.flag rfl).trans h.lock, fun f hf hb => (h'.get hf).trans (h.others f hf hb),
    fun f hf => (h'.links f hf).trans (h.links f hf), (congrArg SnS.tries h'.sn).trans h.tries, h.work.trans h'.work⟩

theorem PtpShows.settled (h : PtpShows p q st x s t) : PtpShows p q st x s (settle t) := h.selects Selects.refl.settled

theorem ptpShows_ptpShown (hst : st < 8) : PtpShows p q st x s (s.ptpShown p q st x) := by
  have hstat : SN_STAT ≠ SN_PST p := Ne.symm pst_ne_stat
  unfold State.ptpShown
  refine ⟨?_, ?_, State.flag_putB_same rfl, fun f _ hb => ?_, fun f hf => ?_, rfl, (regWork_setPtp.put mem_ptpRegs_pst).putB mem_ptpRegs_pst⟩
  · have hsn : (((s.setPtp p q).put (SN_PST.PTPST p) st).putB (SN_PST.PLOCK p) x).sn = (s.setPtp p q).sn := State.sn_putB.trans State.sn_put
    unfold State.ptpOf
    rw [hsn]
    exact State.ptpOf_setPtp_same
  · rw [State.get_putB_other rfl (Fld.apart_of_bits (by dsimp only; omega)), State.get_put_same rfl]
    exact Nat.mod_eq_of_lt hst
  · obtain ⟨hstate, hlock⟩ := apart_ptp (p := p) hb
    rw [State.get_putB_other rfl hlock, State.get_put_other rfl hstate]
    rfl
  · have haddr := linkFlds_addr hf
    rw [State.flag_putB_other rfl (Fld.apart_of_addr (haddr ▸ hstat)), State.flag_put_other rfl (Fld.apart_of_addr (haddr ▸ hstat))]
    rfl

theorem ptpShows_ptpStop (hst : st < 8) : PtpShows p PtpPort.fresh st false s (s.ptpStop p st) := by
  rw [State.ptpStop_eq]
  exact (ptpShows_ptpShown hst).selects selects_ptpSelect

theorem PtpShows.flagOther (h : PtpShows p q st x s t) (hf : f.addr = SN_PST p) (hb : f.hi < 26 ∨ 29 < f.lo) : t.flag f = s.flag f := by
  unfold State.flag
  rw [h.others f hf hb]

/-! ### Links (R348, R349, R351) -/

theorem linkFld_mem : linkFld p ∈ linkFlds := by
  revert p
  decide

theorem linkFld_facts : (linkFld p).ok = true ∧ (linkFld p).addr = SN_STAT ∧ (linkFld p).addr ≠ SN_PST p := by
  revert p
  decide

/-- The link of a port shown, with its speed. -/
def State.linkShown (s : State) (p : Nat) (x : Bool) (v : Nat) : State := ((s.putB (SN_PST.LINK p) x).put (SN_PST.SPEED p) v).putB (linkFld p) x

/-- The error correction and training of a link shown. -/
def State.laneShown (s : State) (p : Nat) (x : Bool) (v : Nat) : State := (s.putB (SN_PST.FECON p) x).put (SN_PST.TRN p) v

theorem State.linkShown_shows (hv : v < 4) : (s.linkShown p x v).flag (SN_PST.LINK p) = x ∧ (s.linkShown p x v).get (SN_PST.SPEED p) = v
    ∧ (s.linkShown p x v).flag (linkFld p) = x ∧ RegWork (ptpRegs p) s (s.linkShown p x v) := by
  obtain ⟨hok, haddr, hne⟩ := linkFld_facts (p := p)
  unfold State.linkShown
  refine ⟨?_, ?_, State.flag_putB_same hok, ((RegWork.refl.putB mem_ptpRegs_pst).put mem_ptpRegs_pst).putB (haddr ▸ List.mem_cons_self)⟩
  · rw [State.flag_putB_other hok (Fld.apart_of_addr hne.symm), State.flag_put_other rfl (Fld.apart_of_bits (by dsimp only; omega))]
    exact State.flag_putB_same rfl
  · rw [State.get_putB_other hok (Fld.apart_of_addr hne.symm), State.get_put_same rfl]
    exact Nat.mod_eq_of_lt hv

theorem State.laneShown_keeps : (s.laneShown p x v).flag (SN_PST.LINK p) = s.flag (SN_PST.LINK p)
    ∧ (s.laneShown p x v).get (SN_PST.SPEED p) = s.get (SN_PST.SPEED p) ∧ (s.laneShown p x v).flag (linkFld p) = s.flag (linkFld p)
    ∧ RegWork (ptpRegs p) s (s.laneShown p x v) := by
  obtain ⟨-, -, hne⟩ := linkFld_facts (p := p)
  unfold State.laneShown
  refine ⟨?_, ?_, ?_, (RegWork.refl.putB mem_ptpRegs_pst).put mem_ptpRegs_pst⟩
  · rw [State.flag_put_other rfl (Fld.apart_of_bits (by dsimp only; omega)), State.flag_putB_other rfl (Fld.apart_of_bits (by dsimp only; omega))]
  · rw [State.get_put_other rfl (Fld.apart_of_bits (by dsimp only; omega)), State.get_putB_other rfl (Fld.apart_of_bits (by dsimp only; omega))]
  · rw [State.flag_put_other rfl (Fld.apart_of_addr hne), State.flag_putB_other rfl (Fld.apart_of_addr hne)]

theorem State.linkUp_eq (hmode : s.portMode p ∈ (if x then [1, 2, 4, 5] else [2, 3, 4, 5])) :
    ∃ fec trn z, z = (s.linkShown p true (if x then 2 else 1)).laneShown p fec trn ∧ s.linkUp p x y = if z.flag (SN_PCFG.PTPEN p) then z.ptpStop p 1 else z := by
  have hcan : ¬(!(if x then s.portMode p == 1 || (s.portMode p == 2 || s.portMode p == 5) || s.portMode p == 4
      else s.portMode p == 2 || s.portMode p == 5 || s.portMode p == 3 || s.portMode p == 4)) = true := by
    generalize s.portMode p = m at hmode ⊢
    cases x
    · simp only [Bool.false_eq_true, if_false, List.mem_cons, List.not_mem_nil, or_false] at hmode
      obtain rfl | rfl | rfl | rfl := hmode <;> decide
    · simp only [if_true, List.mem_cons, List.not_mem_nil, or_false] at hmode
      obtain rfl | rfl | rfl | rfl := hmode <;> decide
  unfold State.linkUp
  dsimp only
  rw [if_neg hcan]
  exact ⟨_, _, _, rfl, rfl⟩

theorem State.linkUp_not (hmode : s.portMode p ∉ (if x then [1, 2, 4, 5] else [2, 3, 4, 5])) : s.linkUp p x y = s := by
  have hcan : (!(if x then s.portMode p == 1 || (s.portMode p == 2 || s.portMode p == 5) || s.portMode p == 4
      else s.portMode p == 2 || s.portMode p == 5 || s.portMode p == 3 || s.portMode p == 4)) = true := by
    generalize s.portMode p = m at hmode ⊢
    cases x
    · simp only [Bool.false_eq_true, if_false, List.mem_cons, List.not_mem_nil, or_false, not_or] at hmode
      obtain ⟨h2, h3, h4, h5⟩ := hmode
      rw [beq_false_of_ne h2, beq_false_of_ne h3, beq_false_of_ne h4, beq_false_of_ne h5]
      rfl
    · simp only [if_true, List.mem_cons, List.not_mem_nil, or_false, not_or] at hmode
      obtain ⟨h1, h2, h4, h5⟩ := hmode
      rw [beq_false_of_ne h1, beq_false_of_ne h2, beq_false_of_ne h4, beq_false_of_ne h5]
      rfl
  exact if_pos hcan

theorem shipLinkUp_leaves (hup : s.up = true) (hon : s.snOn = true) : Completes (.shipLinkUp p x y) s (fun t => MemKept s t ∧ RegsKeptBut (ptpRegs p) s t
    ∧ (s.portMode p ∈ (if x then [1, 2, 4, 5] else [2, 3, 4, 5]) → t.flag (SN_PST.LINK p) = true ∧ t.get (SN_PST.SPEED p) = (if x then 2 else 1)
        ∧ t.flag (linkFld p) = true)
    ∧ (s.portMode p ∉ (if x then [1, 2, 4, 5] else [2, 3, 4, 5]) → RegsKept s t)) := by
  refine completes_of_exec (o := execShipLinkUp p x y s) rfl (act_ends hup ?_)
  rw [if_pos hon]
  by_cases hmode : s.portMode p ∈ (if x then [1, 2, 4, 5] else [2, 3, 4, 5])
  · obtain ⟨fec, trn, z, hz, hlink⟩ := State.linkUp_eq (y := y) hmode
    obtain ⟨hup', hspeed, hshown, hwork⟩ := State.linkShown_shows (s := s) (p := p) (x := true) (v := if x then 2 else 1) (by split <;> decide)
    obtain ⟨hup'', hspeed', hshown', hwork'⟩ := State.laneShown_keeps (s := s.linkShown p true (if x then 2 else 1)) (p := p) (x := fec) (v := trn)
    rw [← hz] at hup'' hspeed' hshown' hwork'
    have hkept : (settle (s.linkUp p x y)).flag (SN_PST.LINK p) = z.flag (SN_PST.LINK p)
        ∧ (settle (s.linkUp p x y)).get (SN_PST.SPEED p) = z.get (SN_PST.SPEED p)
        ∧ (settle (s.linkUp p x y)).flag (linkFld p) = z.flag (linkFld p) ∧ RegWork (ptpRegs p) z (settle (s.linkUp p x y)) := by
      rw [hlink]
      split
      · have hshows := (ptpShows_ptpStop (s := z) (p := p) (st := 1) (by decide)).settled
        exact ⟨hshows.flagOther rfl (.inr (by dsimp only; decide)), hshows.others _ rfl (.inr (by dsimp only; decide)), hshows.links _ linkFld_mem, hshows.work⟩
      · exact ⟨State.flag_settle, State.get_settle, State.flag_settle, RegWork.refl.settled⟩
    obtain ⟨hflag, hget, hled, hkeeps⟩ := hkept
    obtain ⟨hregs, hmem⟩ := ((hwork.trans hwork').trans hkeeps).kept
    exact ⟨hmem, hregs, fun _ => ⟨(hflag.trans hup'').trans hup', (hget.trans hspeed').trans hspeed, (hled.trans hshown').trans hshown⟩,
      fun h => absurd hmode h⟩
  · rw [State.linkUp_not hmode]
    obtain ⟨hregs, hmem⟩ := allKept_settle (s := s)
    exact ⟨hmem, fun a _ => hregs a, fun h => absurd h hmode, fun _ => hregs⟩

/-- A trial ended. -/
def State.trialEnded (s : State) (p : Nat) : State := { s with sn := { s.sn with tries := s.sn.tries.erase p } }

theorem State.get_trialEnded : (s.trialEnded n).get f = s.get f := rfl

theorem regWork_trialEnded : RegWork l s (s.trialEnded n) := ⟨fun _ _ => rfl, rfl⟩

/-- A lost link counted, and a trial ended. -/
def State.linkLost (s : State) (p : Nat) : State := (s.inc (SN_PST.LINKDN p)).trialEnded p

/-- A port without a link shown. -/
def State.laneDark (s : State) (p : Nat) : State :=
  ((((s.putB (SN_PST.LINK p) false).put (SN_PST.SPEED p) 0).putB (SN_PST.FECON p) false).put (SN_PST.TRN p) 0).putB (linkFld p) false

theorem State.portDown_eq (hlink : s.flag (SN_PST.LINK p) = true) :
    ∃ st, st < 8 ∧ s.portDown p = ((s.linkLost p).laneDark p).ptpStop p st := by
  unfold State.portDown
  dsimp only
  rw [if_pos hlink]
  refine ⟨_, ?_, rfl⟩
  split <;> decide

theorem State.linkLost_counts : CountsUp (SN_PST.LINKDN p) s (s.linkLost p) ∧ RegWork (ptpRegs p) s (s.linkLost p) := by
  have hcount : CountsUp (SN_PST.LINKDN p) s (s.inc (SN_PST.LINKDN p)) := countsUp_inc rfl rfl
  have hwork : RegWork (ptpRegs p) s (s.inc (SN_PST.LINKDN p)) := RegWork.refl.put mem_ptpRegs_pst
  exact ⟨hcount.of_get_eq State.get_trialEnded, hwork.trans regWork_trialEnded⟩

theorem State.laneDark_shows : (s.laneDark p).flag (SN_PST.LINK p) = false ∧ (s.laneDark p).flag (linkFld p) = false
    ∧ (s.laneDark p).get (SN_PST.LINKDN p) = s.get (SN_PST.LINKDN p) ∧ RegWork (ptpRegs p) s (s.laneDark p) := by
  obtain ⟨hok, haddr, hne⟩ := linkFld_facts (p := p)
  have hwork : RegWork (ptpRegs p) s ((((s.putB (SN_PST.LINK p) false).put (SN_PST.SPEED p) 0).putB (SN_PST.FECON p) false).put (SN_PST.TRN p) 0) :=
    (((RegWork.refl.putB mem_ptpRegs_pst).put mem_ptpRegs_pst).putB mem_ptpRegs_pst).put mem_ptpRegs_pst
  have hbits (f g : Fld) (h : f.hi < g.lo ∨ g.hi < f.lo) : f.apart g = true := Fld.apart_of_bits h
  unfold State.laneDark
  refine ⟨?_, State.flag_putB_same hok, ?_, hwork.putB (haddr ▸ List.mem_cons_self)⟩
  · rw [State.flag_putB_other hok (Fld.apart_of_addr hne.symm), State.flag_put_other rfl (hbits _ _ (.inr (by dsimp only; decide))),
      State.flag_putB_other rfl (hbits _ _ (.inr (by dsimp only; decide))), State.flag_put_other rfl (hbits _ _ (.inr (by dsimp only; decide)))]
    exact State.flag_putB_same rfl
  · rw [State.get_putB_other hok (Fld.apart_of_addr hne.symm), State.get_put_other rfl (hbits _ _ (.inl (by dsimp only; decide))),
      State.get_putB_other rfl (hbits _ _ (.inl (by dsimp only; decide))), State.get_put_other rfl (hbits _ _ (.inl (by dsimp only; decide))),
      State.get_putB_other rfl (hbits _ _ (.inl (by dsimp only; decide)))]

theorem shipLinkDown_leaves (hup : s.up = true) (hon : s.snOn = true) (hlink : s.flag (SN_PST.LINK p) = true) :
    Completes (.shipLinkDown p) s (fun t => t.flag (SN_PST.LINK p) = false ∧ t.flag (linkFld p) = false ∧ CountsUp (SN_PST.LINKDN p) s t
      ∧ (t.ptpOf p).gm = none ∧ t.flag (SN_PST.PLOCK p) = false ∧ RegsKeptBut (ptpRegs p) s t ∧ MemKept s t) := by
  refine completes_of_exec (o := execShipLinkDown p s) rfl (act_ends hup ?_)
  obtain ⟨st, hst, hdown⟩ := State.portDown_eq hlink
  rw [if_pos (by rw [hon, hlink]; rfl), hdown]
  obtain ⟨hcount, hwork⟩ := State.linkLost_counts (s := s) (p := p)
  generalize s.linkLost p = u at *
  obtain ⟨hdark, hled, hkept, hwork'⟩ := State.laneDark_shows (s := u) (p := p)
  generalize u.laneDark p = z at *
  have hshows := (ptpShows_ptpStop (s := z) (p := p) hst).settled
  generalize settle (z.ptpStop p st) = t at *
  refine ⟨(hshows.flagOther rfl (.inr (by dsimp only; decide))).trans hdark, (hshows.links _ linkFld_mem).trans hled,
    hcount.of_get_eq ((hshows.others _ rfl (.inl (by dsimp only; decide))).trans hkept), by rw [hshows.ptp]; rfl, hshows.lock,
    ((hwork.trans hwork').trans hshows.work).kept⟩

/-! ### Ports without a link (R349) -/

/-- The operation a port tries from now on. -/
def State.trying (s : State) (p k : Nat) : State := { s with sn := { s.sn with tries := s.sn.tries.set p (k, s.t.run) } }

/-- A trial begun, shown. -/
def State.tried (s : State) (p k : Nat) : State := (s.trying p k).put (SN_PST.TRN p) (if s.portMode p == 5 && k == 0 then 1 else 0)

theorem State.alternate_none (hon : s.snOn = true) (hlink : s.flag (SN_PST.LINK p) = false) (hmode : 4 ≤ s.portMode p) (htry : s.sn.tries.get? p = none) :
    s.alternate p = s.tried p 0 := by
  unfold State.alternate
  dsimp only
  rw [if_neg (by rw [hon, hlink, decide_eq_false (Nat.not_lt.mpr hmode)]; decide), htry]
  rfl

theorem State.alternate_some (hon : s.snOn = true) (hlink : s.flag (SN_PST.LINK p) = false) (hmode : 4 ≤ s.portMode p) (htry : s.sn.tries.get? p = some (k, b)) :
    s.alternate p = if 1000000 ≤ s.since b then s.tried p (1 - k) else s := by
  unfold State.alternate
  dsimp only
  rw [if_neg (by rw [hon, hlink, decide_eq_false (Nat.not_lt.mpr hmode)]; decide), htry]
  rfl

theorem State.tried_shows : (settle (s.tried p k)).sn.tries.get? p = some (k, s.t.run)
    ∧ (settle (s.tried p k)).get (SN_PST.TRN p) = (if s.portMode p = 5 ∧ k = 0 then 1 else 0) ∧ RegsKeptBut [SN_PST p] s (settle (s.tried p k))
    ∧ MemKept s (settle (s.tried p k)) := by
  have htrying : RegWork [SN_PST p] s (s.trying p k) := ⟨fun _ _ => rfl, rfl⟩
  have hwork : RegWork [SN_PST p] s (s.tried p k) := htrying.put (List.mem_singleton_self _)
  refine ⟨?_, ?_, hwork.settled.kept⟩
  · rw [State.sn_settle, State.tried, State.sn_put]
    exact Tbl.get?_set_same
  · rw [State.get_settle, State.tried, State.get_put_same rfl]
    simp only [Bool.and_eq_true, beq_iff_eq]
    split <;> rfl

theorem linkModeAlternate_first (hup : s.up = true) (hon : s.snOn = true) (hlink : s.flag (SN_PST.LINK p) = false) (hmode : 4 ≤ s.portMode p)
    (htry : s.sn.tries.get? p = none) : Completes (.linkModeAlternate p) s (fun t => t.sn.tries.get? p = some (0, s.t.run)
      ∧ t.get (SN_PST.TRN p) = (if s.portMode p = 5 then 1 else 0) ∧ RegsKeptBut [SN_PST p] s t ∧ MemKept s t) := by
  refine completes_of_exec (o := execLinkModeAlternate p s) rfl (act_ends hup ?_)
  rw [State.alternate_none hon hlink hmode htry]
  simpa only [and_true] using State.tried_shows (s := s) (p := p) (k := 0)

theorem linkModeAlternate_later (hup : s.up = true) (hon : s.snOn = true) (hlink : s.flag (SN_PST.LINK p) = false) (hmode : 4 ≤ s.portMode p)
    (htry : s.sn.tries.get? p = some (k, b)) :
    (s.since b < 1000000 → Completes (.linkModeAlternate p) s (fun t => t.sn = s.sn ∧ AllKept s t))
    ∧ (1000000 ≤ s.since b → Completes (.linkModeAlternate p) s (fun t => t.sn.tries.get? p = some (1 - k, s.t.run)
      ∧ t.get (SN_PST.TRN p) = (if s.portMode p = 5 ∧ 1 ≤ k then 1 else 0) ∧ RegsKeptBut [SN_PST p] s t ∧ MemKept s t)) := by
  refine ⟨fun hshort => completes_of_exec (o := execLinkModeAlternate p s) rfl (act_ends hup ?_),
    fun hlong => completes_of_exec (o := execLinkModeAlternate p s) rfl (act_ends hup ?_)⟩
  · rw [State.alternate_some hon hlink hmode htry, if_neg (Nat.not_le.mpr hshort)]
    exact ⟨State.sn_settle, allKept_settle⟩
  · rw [State.alternate_some hon hlink hmode htry, if_pos hlong]
    have hother : 1 - k = 0 ↔ 1 ≤ k := by omega
    simpa only [hother] using State.tried_shows (s := s) (p := p) (k := 1 - k)

/-! ### Answers (R350, R351) -/

theorem State.portUp_of (hon : s.snOn = true) (hlink : s.flag (SN_PST.LINK p) = true) : s.portUp p = true := by
  unfold State.portUp
  rw [hon, hlink]
  rfl

theorem allKept_answer {r : List Reply} : AllKept s (settle (s.answer r)) :=
  RegWork.allKept ⟨fun _ _ => rfl, rfl⟩

theorem State.replies_answer {r : List Reply} : (settle (s.answer r)).sn.replies = r := rfl

theorem arpRequestRx_leaves (hup : s.up = true) (hport : s.portUp p = true) {ip : BitVec 32} {mac : BitVec 48} : Completes (.arpRequestRx p ip mac) s (fun t =>
    t.sn.replies = (if ip.toNat = s.get SN_IP.IP then [Reply.arp p ip.toNat mac.toNat] else []) ∧ AllKept s t) := by
  refine completes_of_exec (o := execArpRequestRx p ip mac s) rfl (act_ends hup ?_)
  rw [hport, Bool.true_and]
  by_cases hown : ip.toNat = s.get SN_IP.IP
  · rw [if_pos (beq_iff_eq.mpr hown), if_pos hown]
    exact ⟨State.replies_answer, allKept_answer⟩
  · rw [if_neg (fun h => hown (beq_iff_eq.mp h)), if_neg hown]
    exact ⟨State.replies_answer, allKept_answer⟩

theorem igmpQueryRx_leaves (hup : s.up = true) (hport : s.portUp p = true) {grp : BitVec 32} : Completes (.igmpQueryRx p grp) s (fun t => AllKept s t
    ∧ t.sn.replies = ((List.range 16).filter (fun k => s.flag (SN_GRP_W1.JOIN k) && s.groupUsed k
      && (grp == 0 || s.get (SN_GRP_W0.ADDR k) == grp.toNat))).map (fun k => Reply.igmp p (s.get (SN_GRP_W0.ADDR k)))) := by
  refine completes_of_exec (o := execIgmpQueryRx p grp s) rfl (act_ends hup ?_)
  rw [if_neg (by rw [hport]; decide)]
  exact ⟨allKept_answer, State.replies_answer⟩

/-! ### The exchange with a master (R353, R354) -/

theorem State.ptpOf_answer {r : List Reply} : (s.answer r).ptpOf n = s.ptpOf n := rfl

theorem State.ptpOf_settle : (settle s).ptpOf n = s.ptpOf n := rfl

/-- The exchange with a Delay_Req out. -/
def State.delayAsked (s : State) (n : Nat) : State :=
  s.setPtp n { s.ptpOf n with dreq := some (s.ptpOf n).dseq, dseq := ((s.ptpOf n).dseq + 1) % 65536, dreqAt := s.t.run }

theorem State.delayReq_eq (hport : s.portUp n = true) (hen : s.flag (SN_PCFG.PTPEN n) = true) (hgm : (s.ptpOf n).gm.isSome = true)
    (hlong : logBeats 1 (s.ptpOf n).interval ≤ s.since (s.ptpOf n).dreqAt) : s.delayReq n = (s.delayAsked n).answer [.delayReq n (s.ptpOf n).dseq] := by
  have hgo : ¬(!s.portUp n || !s.flag (SN_PCFG.PTPEN n) || (s.ptpOf n).gm.isNone || decide (s.since (s.ptpOf n).dreqAt < logBeats 1 (s.ptpOf n).interval)) = true := by
    rw [hport, hen, Option.isNone_eq_false_iff.mpr hgm, decide_eq_false (Nat.not_lt.mpr hlong)]
    decide
  unfold State.delayReq
  exact if_neg hgo

theorem ptpDelayReqSend_leaves (hup : s.up = true) (hport : s.portUp p = true) (hgm : (s.ptpOf p).gm.isSome = true) (hen : s.flag (SN_PCFG.PTPEN p) = true)
    (hlong : logBeats 1 (s.ptpOf p).interval ≤ s.since (s.ptpOf p).dreqAt) : Completes (.ptpDelayReqSend p) s (fun t =>
      t.sn.replies = [Reply.delayReq p (s.ptpOf p).dseq] ∧ (t.ptpOf p).dreq = some (s.ptpOf p).dseq
      ∧ (t.ptpOf p).dseq = ((s.ptpOf p).dseq + 1) % 65536 ∧ AllKept s t) := by
  refine completes_of_exec (o := execPtpDelayReqSend p s) rfl (act_ends hup ?_)
  have hasked : RegWork [] s (s.delayAsked p) := regWork_setPtp
  rw [State.delayReq_eq hport hen hgm hlong, State.ptpOf_settle, State.ptpOf_answer]
  refine ⟨State.replies_answer, ?_, ?_, hasked.loop.allKept.trans allKept_answer⟩
  · unfold State.delayAsked
    rw [State.ptpOf_setPtp_same]
  · unfold State.delayAsked
    rw [State.ptpOf_setPtp_same]

theorem ptpAnnounceTimeout_leaves (hup : s.up = true) (hport : s.portUp p = true) (hgm : (s.ptpOf p).gm.isSome = true)
    (hlong : logBeats 3 (s.ptpOf p).annIv ≤ s.since (s.ptpOf p).annAt) : Completes (.ptpAnnounceTimeout p) s (fun t => (t.ptpOf p).gm = none
      ∧ t.get (SN_PST.PTPST p) = 1 ∧ t.flag (SN_PST.PLOCK p) = false ∧ RegsKeptBut (ptpRegs p) s t ∧ MemKept s t) := by
  have hgo : (s.portUp p && (s.ptpOf p).gm.isSome && decide (logBeats 3 (s.ptpOf p).annIv ≤ s.since (s.ptpOf p).annAt)) = true := by
    rw [hport, hgm, decide_eq_true hlong]
    decide
  have hout : s.announceOut p = s.ptpStop p 1 := if_pos hgo
  refine completes_of_exec (o := execPtpAnnounceTimeout p s) rfl (act_ends hup ?_)
  rw [hout]
  have hshows := (ptpShows_ptpStop (s := s) (p := p) (st := 1) (by decide)).settled
  exact ⟨by rw [hshows.ptp]; rfl, hshows.state, hshows.lock, hshows.work.kept⟩

/-- The exchange begun with a master heard for the first time. -/
def State.masterHeard (s : State) (gm rank : Nat) (utc : Nat × Nat) (iv : Int) : PtpPort :=
  { PtpPort.fresh with gm := some gm, rank := rank, utc := some utc, annAt := s.t.run, annIv := iv, dreqAt := s.t.run }

theorem State.announce_better {gm rank : Nat} {utc : Nat × Nat} {iv : Int}
    (hbetter : (s.ptpOf n).gm = none ∨ ((s.ptpOf n).gm ≠ some gm ∧ rank < (s.ptpOf n).rank)) :
    s.announce n gm rank utc iv = (s.ptpShown n (s.masterHeard gm rank utc iv) 2 false).ptpSelect := by
  have hnew : ¬((s.ptpOf n).gm == some gm) = true := by
    rw [beq_iff_eq]
    obtain hnone | ⟨hother, -⟩ := hbetter
    · rw [hnone]
      nofun
    · exact hother
  have hless : ¬((s.ptpOf n).gm.isSome && decide ((s.ptpOf n).rank ≤ rank)) = true := by
    obtain hnone | ⟨-, hrank⟩ := hbetter
    · rw [hnone]
      exact Bool.false_ne_true
    · rw [decide_eq_false (Nat.not_le.mpr hrank), Bool.and_false]
      exact Bool.false_ne_true
  unfold State.announce
  dsimp only
  rw [if_neg hnew, if_neg hless]
  rfl

theorem ptpAnnounceRx_leaves (hup : s.up = true) {dom : BitVec 8} (htakes : s.ptpTakes p dom.toNat = true) {gm : BitVec 64} {rank : BitVec 16} {ofs iv : BitVec 8} {leap : Fin 3}
    (hbetter : (s.ptpOf p).gm = none ∨ ((s.ptpOf p).gm ≠ some gm.toNat ∧ rank.toNat < (s.ptpOf p).rank)) :
    Completes (.ptpAnnounceRx p dom gm rank ⟨ofs, leap⟩ iv) s (fun t =>
      (t.ptpOf p).gm = some gm.toNat ∧ (t.ptpOf p).rank = rank.toNat ∧ (t.ptpOf p).utc = some (ofs.toNat, leap.val)
      ∧ t.get (SN_PST.PTPST p) = 2 ∧ t.flag (SN_PST.PLOCK p) = false ∧ RegsKeptBut (ptpRegs p) s t ∧ MemKept s t) := by
  refine completes_of_exec (o := execPtpAnnounceRx p dom gm rank ⟨ofs, leap⟩ iv s) rfl (act_ends hup ?_)
  rw [if_pos htakes, State.announce_better hbetter]
  have hshows := ((ptpShows_ptpShown (s := s) (p := p) (q := s.masterHeard gm.toNat rank.toNat (ofs.toNat, leap.val) iv.toInt) (st := 2) (x := false)
    (by decide)).selects selects_ptpSelect).settled
  rw [hshows.ptp]
  exact ⟨rfl, rfl, rfl, hshows.state, hshows.lock, hshows.work.kept⟩

/-- A measured Sync in the exchange. -/
def PtpPort.measured (q : PtpPort) (ns : Int) : PtpPort :=
  { q with good := if (ns - q.delay).natAbs ≤ 1000 then q.good + 1 else 0, t2mt1 := ns, twoStep := none }

/-- The port locks with it, or has locked. -/
def State.syncLocks (s : State) (n : Nat) (ns : Int) : Bool := decide (16 ≤ ((s.ptpOf n).measured ns).good) || s.flag (SN_PST.PLOCK n)

theorem State.syncDone_eq : s.syncDone n ns = ((((s.setPtp n ((s.ptpOf n).measured ns)).putB (SN_PST.PLOCK n) (s.syncLocks n ns)).put (SN_PST.PTPST n)
    (if s.syncLocks n ns then 3 else 2)).ptpSelect).ptpCorrect n (ns - (s.ptpOf n).delay) := rfl

/-- What a measured Sync shows. -/
theorem syncDone_shows : ((s.syncDone p ns).ptpOf p = (s.ptpOf p).measured ns) ∧ (s.syncDone p ns).flag (SN_PST.PLOCK p) = s.syncLocks p ns
    ∧ (s.syncDone p ns).get (SN_PST.PTPST p) = (if s.syncLocks p ns then 3 else 2) ∧ RegWork (ptpRegs p) s (s.syncDone p ns) := by
  have hset : RegWork (ptpRegs p) s (s.setPtp p ((s.ptpOf p).measured ns)) := regWork_setPtp
  have hptp : (s.setPtp p ((s.ptpOf p).measured ns)).ptpOf p = (s.ptpOf p).measured ns := State.ptpOf_setPtp_same
  rw [State.syncDone_eq]
  generalize s.setPtp p ((s.ptpOf p).measured ns) = u at *
  generalize s.syncLocks p ns = x
  have hsel := (selects_ptpSelect (s := (u.putB (SN_PST.PLOCK p) x).put (SN_PST.PTPST p) (if x then 3 else 2)) (p := p)).trans
    (selects_ptpCorrect (n := p) (ofs := ns - (s.ptpOf p).delay))
  refine ⟨hsel.ptpOf.trans ?_, (hsel.flag rfl).trans ?_, (hsel.get rfl).trans ?_, ((hset.putB mem_ptpRegs_pst).put mem_ptpRegs_pst).trans hsel.work⟩
  · unfold State.ptpOf at hptp ⊢
    rw [State.sn_put, State.sn_putB]
    exact hptp
  · rw [State.flag_put_other rfl (Fld.apart_of_bits (by dsimp only; omega))]
    exact State.flag_putB_same rfl
  · rw [State.get_put_same rfl]
    cases x <;> rfl

theorem ptpSyncRx_leaves (hup : s.up = true) {dom : BitVec 8} (htakes : s.ptpTakes p dom.toNat = true) {gm : BitVec 64} {seq : BitVec 16}
    (hgm : (s.ptpOf p).gm = some gm.toNat) :
    Completes (.ptpSyncRx p dom gm seq true ns) s (fun t => (t.ptpOf p).twoStep = some (seq.toNat, ns) ∧ AllKept s t)
    ∧ Completes (.ptpSyncRx p dom gm seq false ns) s (fun t => (t.ptpOf p).t2mt1 = ns
      ∧ (t.ptpOf p).good = (if (ns - (s.ptpOf p).delay).natAbs ≤ 1000 then (s.ptpOf p).good + 1 else 0)
      ∧ t.flag (SN_PST.PLOCK p) = (decide (16 ≤ (t.ptpOf p).good) || s.flag (SN_PST.PLOCK p))
      ∧ t.get (SN_PST.PTPST p) = (if t.flag (SN_PST.PLOCK p) then 3 else 2) ∧ RegsKeptBut (ptpRegs p) s t ∧ MemKept s t) := by
  have hgo : ¬(!s.ptpTakes p dom.toNat || (s.ptpOf p).gm != some gm.toNat) = true := by
    rw [htakes, hgm, bne_self_eq_false]
    decide
  refine ⟨completes_of_exec (o := execPtpSyncRx p dom gm seq true ns s) rfl (act_ends hup ?_),
    completes_of_exec (o := execPtpSyncRx p dom gm seq false ns s) rfl (act_ends hup ?_)⟩
  · dsimp only
    rw [if_neg hgo, if_pos rfl, State.ptpOf_settle, State.ptpOf_setPtp_same]
    exact ⟨rfl, RegWork.allKept regWork_setPtp⟩
  · dsimp only
    rw [if_neg hgo, if_neg Bool.false_ne_true]
    obtain ⟨hptp, hlock, hstate, hwork⟩ := syncDone_shows (s := s) (p := p) (ns := ns)
    rw [State.ptpOf_settle, State.flag_settle, State.get_settle, hptp, hlock, hstate]
    exact ⟨rfl, rfl, rfl, rfl, hwork.settled.kept⟩

theorem ptpFollowUpRx_leaves (hup : s.up = true) {dom : BitVec 8} (htakes : s.ptpTakes p dom.toNat = true) {gm : BitVec 64} {seq : BitVec 16} {origin : Int}
    (hgm : (s.ptpOf p).gm = some gm.toNat) (hsync : (s.ptpOf p).twoStep = some (seq.toNat, ns)) : Completes (.ptpFollowUpRx p dom gm seq origin) s (fun t =>
      (t.ptpOf p).t2mt1 = ns - origin ∧ (t.ptpOf p).twoStep = none ∧ RegsKeptBut (ptpRegs p) s t ∧ MemKept s t) := by
  have hgo : ¬(!s.ptpTakes p dom.toNat || (s.ptpOf p).gm != some gm.toNat) = true := by
    rw [htakes, hgm, bne_self_eq_false]
    decide
  refine completes_of_exec (o := execPtpFollowUpRx p dom gm seq origin s) rfl (act_ends hup ?_)
  dsimp only
  rw [if_neg hgo, hsync]
  dsimp only
  rw [if_pos (beq_self_eq_true _)]
  obtain ⟨hptp, -, -, hwork⟩ := syncDone_shows (s := s) (p := p) (ns := ns - origin)
  rw [State.ptpOf_settle, hptp]
  exact ⟨rfl, rfl, hwork.settled.kept⟩

theorem ptpDelayRespRx_leaves (hup : s.up = true) {dom : BitVec 8} (htakes : s.ptpTakes p dom.toNat = true) {seq : BitVec 16} {iv : BitVec 8}
    (hasked : (s.ptpOf p).dreq = some seq.toNat) : Completes (.ptpDelayRespRx p dom seq ns iv) s (fun t =>
      (t.ptpOf p).delay = ((s.ptpOf p).t2mt1 + ns) / 2 ∧ (t.ptpOf p).dreq = none ∧ (t.ptpOf p).interval = iv.toInt ∧ AllKept s t) := by
  have hgo : ¬(!s.ptpTakes p dom.toNat || (s.ptpOf p).dreq != some seq.toNat) = true := by
    rw [htakes, hasked, bne_self_eq_false]
    decide
  refine completes_of_exec (o := execPtpDelayRespRx p dom seq ns iv s) rfl (act_ends hup ?_)
  dsimp only
  rw [if_neg hgo, State.ptpOf_settle, State.ptpOf_setPtp_same]
  exact ⟨rfl, rfl, rfl, RegWork.allKept regWork_setPtp⟩

/-! ### The obligation -/

/-- Settles O46: each clause is the lemma named for it above. The rank that masters are compared by, the states a port shows and
the servo are the design log's entry 41. -/
theorem shipLinksAndTimeProtocol : Obligations.ShipLinksAndTimeProtocol := by
  unfold Obligations.ShipLinksAndTimeProtocol
  intro s p hup hon
  refine ⟨fun ten fec => shipLinkUp_leaves hup hon, fun hlink => shipLinkDown_leaves hup hon hlink,
    fun hlink hmode => ⟨fun htry => linkModeAlternate_first hup hon hlink hmode htry, fun k b htry => linkModeAlternate_later hup hon hlink hmode htry⟩,
    fun hlink => ?_, fun dom htakes => ?_⟩
  · have hport := State.portUp_of hon hlink
    exact ⟨fun ip mac => arpRequestRx_leaves hup hport, fun g => igmpQueryRx_leaves hup hport,
      fun hgm hen hlong => ptpDelayReqSend_leaves hup hport hgm hen hlong, fun hgm hlong => ptpAnnounceTimeout_leaves hup hport hgm hlong⟩
  · refine ⟨fun gm rank ofs iv leap hbetter => ptpAnnounceRx_leaves hup htakes hbetter, fun gm seq ns hgm => ?_,
      fun seq ns iv hasked => ptpDelayRespRx_leaves hup htakes hasked⟩
    obtain ⟨htwo, hone⟩ := ptpSyncRx_leaves (seq := seq) (ns := ns) hup htakes hgm
    exact ⟨htwo, hone, fun origin hsync => ptpFollowUpRx_leaves hup htakes hgm hsync⟩

end

end Sys2Proof.Machine

namespace Sys2Proof.Machine

open Sys2Proof

section
variable {s t u z : State} {P : State → Prop} {f g : Fld} {a b c i j k m n v typ grp count seq : Nat} {w : Word} {l l' : List Nat} {x y priv : Bool}
  {body : List Word} {q : Tele}

/-! ## Telegrams formed and sent (R358 to R372) -/

/-! ### The header (R358) -/

theorem fld_W (hn : n < 2 ^ 36) : fld (W n) a b = n / 2 ^ b % 2 ^ (a + 1 - b) := by
  unfold fld bits
  rw [BitVec.toNat_ofNat, Nat.mod_eq_of_lt hn, Nat.shiftRight_eq_div_pow]

theorem wbit_W (hi : i < 36) : wbit (W n) i = bit n i := by
  unfold wbit bit
  rw [BitVec.toNat_ofNat, Nat.shiftRight_eq_div_pow, Nat.shiftRight_eq_div_pow]
  have hsplit : (36 : Nat) = i + (36 - i) := by omega
  have hodd : n % 2 ^ 36 / 2 ^ i % 2 = n / 2 ^ i % 2 := by
    rw [hsplit, Nat.pow_add, Nat.mod_mul_right_div_self]
    exact Nat.mod_mod_of_dvd _ (dvd_pow_self 2 (by omega))
  rw [hodd]

/-- What stands below bit 27 of a telegram's first word. -/
def State.teleLow (s : State) (count : Nat) : Nat :=
  s.unit * 2 ^ 26 + s.drives.toNat * 2 ^ 25 + (s.pstate == 6).toNat * 2 ^ 24 + (s.mode == 2).toNat * 2 ^ 23 + (s.mode == 3).toNat * 2 ^ 22
    + s.get TIM_DSTAT.TRUST * 2 ^ 21 + s.get TIM_MDOM.DOMAIN * 2 ^ 13 + count % 8192

theorem State.teleLow_lt : s.teleLow count < 2 ^ 27 := by
  have hunit : s.unit < 2 := State.get_lt
  have htrust : s.get TIM_DSTAT.TRUST < 2 := State.get_lt
  have hdomain : s.get TIM_MDOM.DOMAIN < 256 := State.get_lt
  have hdrives := Bool.toNat_le s.drives
  have hsix := Bool.toNat_le (s.pstate == 6)
  have htwo := Bool.toNat_le (s.mode == 2)
  have hthree := Bool.toNat_le (s.mode == 3)
  unfold State.teleLow
  omega

theorem teleWord0_eq : teleWord0 s typ x count = W (2 ^ 32 + typ * 2 ^ 28 + x.toNat * 2 ^ 27 + s.teleLow count) := by
  unfold teleWord0 State.teleLow
  simp only [Nat.shiftLeft_eq]
  congr 1
  omega

theorem teleWord0_fields (htyp : typ < 16) : fld (teleWord0 s typ x count) 31 28 = typ ∧ wbit (teleWord0 s typ x count) 27 = x := by
  have hlow : s.teleLow count < 2 ^ 27 := State.teleLow_lt
  have hx := Bool.toNat_le x
  rw [teleWord0_eq, fld_W (by omega), wbit_W (by decide)]
  refine ⟨by omega, ?_⟩
  unfold bit
  rw [Nat.shiftRight_eq_div_pow]
  cases x
  · simp only [Bool.toNat_false]
    rw [beq_eq_false_iff_ne]
    omega
  · simp only [Bool.toNat_true]
    rw [beq_iff_eq]
    omega

/-! ### A telegram formed (R368, R371, R372) -/

/-- The number a telegram takes. -/
def State.teleSeq (s : State) (priv : Bool) : Nat := ((if priv then s.get JL_PSEQ.PSEQ else s.sn.seqU) + 1) % 2 ^ 32

/-- The number taken in its space. -/
def State.teleNumbered (s : State) (priv : Bool) (seq : Nat) : State :=
  if priv then s.put JL_PSEQ.PSEQ seq else { s with sn := { s.sn with seqU := seq } }

/-- The telegram as it is formed. -/
def State.teleOf (s : State) (typ : Nat) (priv : Bool) (grp count seq : Nat) (body : List Word) : Tele :=
  { priv := priv, grp := grp
    words := [teleWord0 s typ priv count, W (s.get SN_ID.NID), W seq, s.wts0, s.wts1, if s.pstate == 0 then 0 else s.reg JL_EPOCH] ++ body
    at_ := s.t.run, hurt := false }

/-- It joins the queue of its space. -/
def State.teleQueued (s : State) (priv : Bool) (q : Tele) : State :=
  if priv then { s with sn := { s.sn with txPriv := s.sn.txPriv ++ [q] } } else { s with sn := { s.sn with txOrd := s.sn.txOrd ++ [q] } }

/-- The unit forms and sends, and both queues have room. -/
structure Forms (s : State) : Prop where
  applied : s.life.applied = true
  txen : s.flag SN_CFG.TXEN = true
  drives : s.drives = true
  priv : s.sn.txPriv.length < 64
  ord : s.sn.txOrd.length < 256

theorem Forms.pstate (h : Forms s) : s.pstate = 0 ∨ s.pstate = 2 := by
  have hdrives := h.drives
  unfold State.drives at hdrives
  rw [Bool.and_eq_true, Bool.or_eq_true, beq_iff_eq, beq_iff_eq] at hdrives
  exact hdrives.1

theorem Forms.sends (h : Forms s) : s.sends typ x = 1 := by
  have hdrives := h.drives
  unfold State.drives at hdrives
  rw [Bool.and_eq_true, Bool.not_eq_true'] at hdrives
  unfold State.sends
  rw [hdrives.2, if_neg Bool.false_ne_true]
  obtain hp | hp := h.pstate
  · rw [hp]; rfl
  · rw [hp]; rfl

theorem State.formTele_eq (h : Forms s) : s.formTele typ x grp count body =
    (s.teleNumbered x (s.teleSeq x)).teleQueued x ((s.teleNumbered x (s.teleSeq x)).teleOf typ x grp count (s.teleSeq x) body) := by
  have hpriv : (x && s.pstate != 6) = x := by
    obtain hp | hp := h.pstate
    · rw [hp]; exact Bool.and_true x
    · rw [hp]; exact Bool.and_true x
  have hgo : ¬(!s.life.applied || (!s.flag SN_CFG.TXEN && typ != 6)) = true := by
    rw [h.applied, h.txen]
    exact Bool.false_ne_true
  unfold State.formTele
  dsimp only
  rw [hpriv, if_neg hgo, h.sends]
  cases x with
  | false =>
    have hroom : ¬(s.teleNumbered false (s.teleSeq false)).sn.txOrd.length ≥ 256 := Nat.not_le.mpr h.ord
    have htxen : ¬(1 == 2 || !(s.teleNumbered false (s.teleSeq false)).flag SN_CFG.TXEN) = true := by
      have hflag : (s.teleNumbered false (s.teleSeq false)).flag SN_CFG.TXEN = s.flag SN_CFG.TXEN := rfl
      rw [hflag, h.txen]
      decide
    exact (if_neg htxen).trans (if_neg hroom)
  | true =>
    have hroom : ¬(s.teleNumbered true (s.teleSeq true)).sn.txPriv.length ≥ 64 := Nat.not_le.mpr h.priv
    have htxen : ¬(1 == 2 || !(s.teleNumbered true (s.teleSeq true)).flag SN_CFG.TXEN) = true := by
      have hflag : (s.teleNumbered true (s.teleSeq true)).flag SN_CFG.TXEN = s.flag SN_CFG.TXEN := State.flag_put_other rfl rfl
      rw [hflag, h.txen]
      decide
    exact (if_neg htxen).trans (if_neg hroom)

theorem State.teleOf_isOf (htyp : typ < 16) (hnid : u.get SN_ID.NID = s.get SN_ID.NID) (ht : u.t = s.t) (hreplays : u.replays = s.replays)
    (htrust : u.flag TIM_DSTAT.TRUST = s.flag TIM_DSTAT.TRUST) (hpart : u.flag JL_STAT.PART = s.flag JL_STAT.PART) :
    (u.teleOf typ x grp count seq body).isOf s typ x seq grp body := by
  have hlag : u.lag = s.lag := by
    unfold State.lag
    rw [hreplays]
  obtain ⟨hword, hbit⟩ := teleWord0_fields (s := u) (x := x) (count := count) htyp
  have hsec : u.wts0 = s.wts0 := by
    unfold State.wts0 State.micros
    rw [ht, hlag]
  have hmicro : u.wts1 = s.wts1 := by
    unfold State.wts1 State.micros
    rw [ht, hlag, htrust, hpart]
  exact ⟨rfl, rfl, hword, hbit, congrArg TimeS.run ht, rfl, congrArg W hnid, rfl, hsec, hmicro, rfl⟩

/-- A state that differs from another in what waits to be told alone. -/
structure Tells (s u : State) : Prop where
  regs : ∀ a, u.reg a = s.reg a
  mem : u.mem = s.mem
  t : u.t = s.t
  life : u.life = s.life
  img : u.img = s.img
  seqU : u.sn.seqU = s.sn.seqU
  txOrd : u.sn.txOrd = s.sn.txOrd
  txPriv : u.sn.txPriv = s.sn.txPriv

theorem Tells.get (h : Tells s u) : u.get f = s.get f := get_of_reg_eq (h.regs _)

theorem Tells.pstate (h : Tells s u) : u.pstate = s.pstate := h.get

theorem Tells.forms (h : Tells s u) (hs : Forms s) : Forms u := by
  refine ⟨by rw [h.life]; exact hs.applied, (flag_of_reg_eq (h.regs _)).trans hs.txen, ?_, by rw [h.txPriv]; exact hs.priv, by rw [h.txOrd]; exact hs.ord⟩
  have hdrives := hs.drives
  unfold State.drives at hdrives ⊢
  rw [h.pstate, h.img]
  exact hdrives

theorem replays_of_reg_eq (h : u.reg JL_STAT = s.reg JL_STAT) : u.replays = s.replays := by
  have hpstate : u.pstate = s.pstate := get_of_reg_eq h
  unfold State.replays
  rw [hpstate]

/-- An ordinary telegram formed. -/
theorem formsOrd_formTele (hs : Forms s) (h : Tells s u) (htyp : typ < 16) :
    FormsOrd s (settle (u.formTele typ false grp count body)) typ grp body ∧ AllKept s (settle (u.formTele typ false grp count body)) := by
  have hseq : u.teleSeq false = (s.sn.seqU + 1) % 2 ^ 32 := congrArg (fun m => (m + 1) % 2 ^ 32) h.seqU
  have hof : ((u.teleNumbered false (u.teleSeq false)).teleOf typ false grp count (u.teleSeq false) body).isOf s typ false ((s.sn.seqU + 1) % 2 ^ 32) grp body := by
    rw [← hseq]
    exact State.teleOf_isOf htyp h.get h.t (replays_of_reg_eq (h.regs _)) (flag_of_reg_eq (h.regs _)) (flag_of_reg_eq (h.regs _))
  have hwork : RegWork [] s (settle (u.formTele typ false grp count body)) := by
    rw [State.formTele_eq (h.forms hs)]
    exact ⟨fun a _ => h.regs a, h.mem⟩
  refine ⟨?_, hwork.kept.1 |> fun hr => ⟨fun a => hr a List.not_mem_nil, hwork.kept.2⟩⟩
  rw [State.formTele_eq (h.forms hs)]
  exact ⟨_, congrArg (· ++ [_]) h.txOrd, hof, h.txPriv⟩

/-- A privileged telegram formed. -/
theorem formsPriv_formTele (hs : Forms s) (h : Tells s u) (htyp : typ < 16) :
    FormsPriv s (settle (u.formTele typ true grp count body)) typ grp body ∧ RegsKeptBut [JL_PSEQ] s (settle (u.formTele typ true grp count body))
      ∧ MemKept s (settle (u.formTele typ true grp count body)) := by
  have hseq : u.teleSeq true = (s.get JL_PSEQ.PSEQ + 1) % 2 ^ 32 := congrArg (fun m => (m + 1) % 2 ^ 32) h.get
  have hof : ((u.teleNumbered true (u.teleSeq true)).teleOf typ true grp count (u.teleSeq true) body).isOf s typ true ((s.get JL_PSEQ.PSEQ + 1) % 2 ^ 32) grp body := by
    rw [← hseq]
    refine State.teleOf_isOf htyp ?_ (State.t_put.trans h.t) (replays_of_reg_eq ?_) (flag_of_reg_eq ?_) (flag_of_reg_eq ?_)
    · exact (State.get_put_other rfl rfl).trans h.get
    · exact (State.reg_put_other (by decide)).trans (h.regs _)
    · exact (State.reg_put_other (by decide)).trans (h.regs _)
    · exact (State.reg_put_other (by decide)).trans (h.regs _)
  have hnumber : (u.teleNumbered true (u.teleSeq true)).get JL_PSEQ.PSEQ = (s.get JL_PSEQ.PSEQ + 1) % 2 ^ 32 := by
    rw [← hseq]
    exact (State.get_put_same rfl).trans (Nat.mod_eq_of_lt (Nat.mod_lt _ (by decide)))
  have hwork : RegWork [JL_PSEQ] s (u.teleNumbered true (u.teleSeq true)) :=
    RegWork.put ⟨fun a _ => h.regs a, h.mem⟩ (List.mem_singleton_self _)
  have hsn : (u.teleNumbered true (u.teleSeq true)).sn = u.sn := State.sn_put
  rw [State.formTele_eq (h.forms hs)]
  generalize u.teleNumbered true (u.teleSeq true) = v at *
  generalize v.teleOf typ true grp count (u.teleSeq true) body = q at *
  have hqueue : RegWork [JL_PSEQ] s (v.teleQueued true q) := ⟨hwork.regs, hwork.mem⟩
  refine ⟨⟨q, ?_, hof, hnumber, ?_⟩, hqueue.settled.kept⟩
  · have htx : v.sn.txPriv = s.sn.txPriv := (congrArg SnS.txPriv hsn).trans h.txPriv
    exact congrArg (· ++ [q]) htx
  · exact (congrArg SnS.txOrd hsn).trans h.txOrd

/-! ### The telegrams of round time (R360, R362, R365) -/

/-- A telegram of round time noted. -/
def State.teleNoted (s : State) (k : Nat) : State := { s with sn := { s.sn with formAt := s.sn.formAt.set k s.t.run } }

theorem tells_teleNoted : Tells s (s.teleNoted k) := ⟨fun _ => rfl, rfl, rfl, rfl, rfl, rfl, rfl, rfl⟩

theorem State.formOnce_new {F : State → State} (hnew : s.sn.formAt.get? k ≠ some s.t.run) : s.formOnce k F = F (s.teleNoted k) := by
  unfold State.formOnce
  rw [if_neg (by rw [beq_iff_eq]; exact hnew)]
  rfl

theorem State.valuesForm_eq (hen : s.flag (SN_VL.EN n) = true) (hcount : s.get (SN_VL.COUNT n) ≠ 0) (hfits : s.get (SN_VL.FIRST n) + s.get (SN_VL.COUNT n) ≤ 0o320)
    (hgood : ∀ i, i < s.get (SN_VL.COUNT n) → s.sramPoison (0o00400000 + s.get (SN_VL.FIRST n) + i) = false) :
    s.valuesForm n = s.formTele 1 false (s.get (SN_VL.GRP n)) (s.get (SN_VL.COUNT n))
      (W (s.get (SN_VL.FIRST n)) :: (List.range (s.get (SN_VL.COUNT n))).map (fun i => s.mirror (s.get (SN_VL.FIRST n) + i))) := by
  have hgo : ¬(!s.flag (SN_VL.EN n) || s.get (SN_VL.COUNT n) == 0 || decide (s.get (SN_VL.FIRST n) + s.get (SN_VL.COUNT n) > 0o320)) = true := by
    rw [hen, beq_false_of_ne hcount, decide_eq_false (Nat.not_lt.mpr hfits)]
    decide
  have hclean : s.sramFetch 22 ((List.range (s.get (SN_VL.COUNT n))).map (fun i => 0o00400000 + s.get (SN_VL.FIRST n) + i)) = s := by
    refine State.sramFetch_clean fun a ha => ?_
    rw [List.mem_map] at ha
    obtain ⟨i, hi, rfl⟩ := ha
    exact hgood i (List.mem_range.mp hi)
  unfold State.valuesForm
  dsimp only
  rw [if_neg hgo, hclean]

theorem valuesForm_leaves (hup : s.up = true) (hon : s.snOn = true) (hs : Forms s) {n : Fin 8} (hen : s.flag (SN_VL.EN n) = true)
    (hcount : s.get (SN_VL.COUNT n) ≠ 0) (hfits : s.get (SN_VL.FIRST n) + s.get (SN_VL.COUNT n) ≤ 0o320) (hbeat : s.valuesBeat n = true)
    (hnew : s.sn.formAt.get? n ≠ some s.t.run)
    (hgood : ∀ i, i < s.get (SN_VL.COUNT n) → s.sramPoison (0o00400000 + s.get (SN_VL.FIRST n) + i) = false) :
    Completes (.valuesForm n) s (fun t => FormsOrd s t 1 (s.get (SN_VL.GRP n)) (W (s.get (SN_VL.FIRST n))
      :: (List.range (s.get (SN_VL.COUNT n))).map (fun i => s.mirror (s.get (SN_VL.FIRST n) + i))) ∧ AllKept s t) := by
  refine completes_of_exec (o := execValuesForm n s) rfl (act_ends hup ?_)
  have hdue : s.valuesDue n = s.formOnce n (fun s => s.valuesForm n) := if_pos hbeat
  have hform := State.valuesForm_eq (s := s.teleNoted n) (n := n) hen hcount hfits hgood
  rw [if_pos hon, hdue, State.formOnce_new hnew, hform]
  exact formsOrd_formTele hs tells_teleNoted (by decide)

theorem statusForm_leaves (hup : s.up = true) (hon : s.snOn = true) (hs : Forms s) (hbeat : s.t.usec = 500000) (hnew : s.sn.formAt.get? 9 ≠ some s.t.run) :
    Completes .statusForm s (fun t => FormsOrd s t 6 (s.get SN_TXG.STAT) [s.reg TIM_MDIG, s.reg TIM_DSTAT, s.reg SYS_ISTAT, s.almCntWord,
      W ((s.get JL_STAT.INSTEP) <<< 35 + (s.get JL_STAT.PART) <<< 34), s.reg IMG_RUNDIG] ∧ AllKept s t) := by
  refine completes_of_exec (o := execStatusForm s) rfl (act_ends hup ?_)
  have hdue : s.statusDue = s.formOnce 9 State.statusForm := if_pos (beq_iff_eq.mpr hbeat)
  have hform : (s.teleNoted 9).statusForm = (s.teleNoted 9).formTele 6 false (s.get SN_TXG.STAT) 0 [s.reg TIM_MDIG, s.reg TIM_DSTAT, s.reg SYS_ISTAT, s.almCntWord,
      W ((s.get JL_STAT.INSTEP) <<< 35 + (s.get JL_STAT.PART) <<< 34), s.reg IMG_RUNDIG] := rfl
  rw [if_pos hon, hdue, State.formOnce_new hnew, hform]
  exact formsOrd_formTele hs tells_teleNoted (by decide)

/-! ### Signal states (R362) -/

theorem setBit_of_clear (hclear : bit n i = false) : setBit n i true = n + 2 ^ i := by
  have hbits : bits n i i = 0 := by
    rw [← bits_one_ne_zero] at hclear
    exact bne_eq_false_iff_eq.mp hclear
  unfold setBit setBits
  rw [hbits, Nat.zero_shiftLeft, Nat.sub_zero, Nat.add_sub_cancel_left, Nat.shiftLeft_eq]
  simp

theorem bit_maskStep : bit (if bit n i then n else n + 2 ^ i) j = (bit n j || i == j) := by
  cases hclear : bit n i with
  | true =>
    rw [if_pos rfl]
    by_cases hij : i = j
    · rw [← hij, hclear]
      rfl
    · rw [beq_false_of_ne hij, Bool.or_false]
  | false =>
    rw [if_neg Bool.false_ne_true, ← setBit_of_clear hclear]
    by_cases hij : i = j
    · rw [← hij, bit_setBit_same, beq_self_eq_true, Bool.or_true]
    · rw [bit_setBit_other (Ne.symm hij), beq_false_of_ne hij, Bool.or_false]

theorem bit_foldl_mask (l : List Nat) (n : Nat) : bit (l.foldl (fun m i => if bit m i then m else m + 2 ^ i) n) j = (bit n j || l.contains j) := by
  induction l generalizing n with
  | nil => rw [List.contains_nil, Bool.or_false]; rfl
  | cons i l ih =>
    rw [List.foldl_cons, ih, bit_maskStep, List.contains_cons, Bool.or_assoc, Bool.beq_comm]

theorem bit_maskOf : bit (maskOf l) j = l.contains j := by
  unfold maskOf
  rw [bit_foldl_mask, bit, Nat.zero_shiftRight]
  rfl

/-- A published number's bit in its word of those that meet a condition. -/
theorem wbit_listed {l : List (Nat × Bool)} {F : Nat × Bool → Bool} (hin : (i, x) ∈ l.filter F) (hF : ∀ d, F d = true → d.1 / 32 = k) :
    wbit (W (maskOf (((l.filter F).map (fun d => d.1 % 32)).dedup))) (i % 32) = true ∧ i / 32 = k := by
  rw [wbit_W (by omega), bit_maskOf, List.contains_iff_mem, List.mem_dedup, List.mem_map]
  exact ⟨⟨_, hin, rfl⟩, hF _ (List.mem_filter.mp hin).2⟩

/-- Published numbers of the cells, with their outputs. -/
def State.published (s : State) : List (Nat × Bool) := (s.bl.cfg.filter (fun p => p.2.txen)).map (fun p => (p.2.txidx, s.outO p.1))

/-- The states of the published signals. -/
def State.publishedOn (s : State) (k : Nat) : Word := W (maskOf (((s.published.filter (fun x => x.1 / 32 == k && x.2)).map (fun x => x.1 % 32)).dedup))

/-- The signals that are published. -/
def State.publishedAll (s : State) (k : Nat) : Word := W (maskOf (((s.published.filter (fun x => x.1 / 32 == k)).map (fun x => x.1 % 32)).dedup))

/-- The body of a SIGSTATE telegram. -/
def State.sigstateBody (s : State) : List Word := (List.range 128).map s.publishedOn ++ (List.range 128).map s.publishedAll

theorem State.length_sigstateBody : s.sigstateBody.length = 256 := by
  unfold State.sigstateBody
  rw [List.length_append, List.length_map, List.length_map, List.length_range]

theorem State.sigstateBody_low (hk : k < 128) : s.sigstateBody.getD k 0 = s.publishedOn k := by
  unfold State.sigstateBody
  rw [List.getD_append _ _ _ _ (by rw [List.length_map, List.length_range]; exact hk), List.getD_eq_getElem _ _ (by rw [List.length_map, List.length_range]; exact hk),
    List.getElem_map, List.getElem_range]

theorem State.sigstateBody_high (hk : k < 128) : s.sigstateBody.getD (128 + k) 0 = s.publishedAll k := by
  have hlen : ((List.range 128).map s.publishedOn).length = 128 := by rw [List.length_map, List.length_range]
  unfold State.sigstateBody
  rw [List.getD_append_right _ _ _ _ (by omega), hlen, Nat.add_sub_cancel_left,
    List.getD_eq_getElem _ _ (by rw [List.length_map, List.length_range]; exact hk), List.getElem_map, List.getElem_range]

theorem State.sigstateBody_shows {c : Nat × CellCfg} (hc : c ∈ s.bl.cfg) (htx : c.2.txen = true) (hidx : c.2.txidx < 4096) :
    wbit (s.sigstateBody.getD (128 + c.2.txidx / 32) 0) (c.2.txidx % 32) = true
    ∧ (s.outO c.1 = true → wbit (s.sigstateBody.getD (c.2.txidx / 32) 0) (c.2.txidx % 32) = true) := by
  have hin : (c.2.txidx, s.outO c.1) ∈ s.published := List.mem_map.mpr ⟨c, List.mem_filter.mpr ⟨hc, htx⟩, rfl⟩
  have hmine : (c.2.txidx / 32 == c.2.txidx / 32) = true := beq_self_eq_true _
  rw [State.sigstateBody_high (by omega), State.sigstateBody_low (by omega)]
  unfold State.publishedOn State.publishedAll
  generalize s.published = pub at *
  generalize s.outO c.1 = out at *
  generalize c.2.txidx = m at *
  refine ⟨(wbit_listed (k := m / 32) (List.mem_filter.mpr ⟨hin, hmine⟩) fun d hd => beq_iff_eq.mp hd).1, fun hon => ?_⟩
  subst hon
  refine (wbit_listed (k := m / 32) (List.mem_filter.mpr ⟨hin, ?_⟩) fun d hd => ?_).1
  · exact Bool.and_eq_true_iff.mpr ⟨hmine, rfl⟩
  · exact beq_iff_eq.mp (Bool.and_eq_true_iff.mp hd).1

theorem State.sigstateForm_eq : s.sigstateForm = s.formTele 3 false (s.get SN_TXG.SSTATE) 0 s.sigstateBody := rfl

theorem State.published_teleNoted : (s.teleNoted k).published = s.published := rfl

theorem State.sigstateBody_teleNoted : (s.teleNoted k).sigstateBody = s.sigstateBody := by
  unfold State.sigstateBody
  have hon : (s.teleNoted k).publishedOn = s.publishedOn := by
    funext i
    unfold State.publishedOn
    rw [State.published_teleNoted]
  have hall : (s.teleNoted k).publishedAll = s.publishedAll := by
    funext i
    unfold State.publishedAll
    rw [State.published_teleNoted]
  rw [hon, hall]

theorem sigstateForm_leaves (hup : s.up = true) (hon : s.snOn = true) (hs : Forms s) (hbeat : s.t.usec = 250000) (hnew : s.sn.formAt.get? 8 ≠ some s.t.run) :
    Completes .sigstateForm s (fun t => FormsOrd s t 3 (s.get SN_TXG.SSTATE) s.sigstateBody ∧ AllKept s t) := by
  refine completes_of_exec (o := execSigstateForm s) rfl (act_ends hup ?_)
  have hdue : s.sigstateDue = s.formOnce 8 State.sigstateForm := if_pos (beq_iff_eq.mpr hbeat)
  have hgrp : (s.teleNoted 8).get SN_TXG.SSTATE = s.get SN_TXG.SSTATE := tells_teleNoted.get
  rw [if_pos hon, hdue, State.formOnce_new hnew, State.sigstateForm_eq, State.sigstateBody_teleNoted, hgrp]
  exact formsOrd_formTele hs tells_teleNoted (by decide)

/-! ### Events, changes and calls that wait (R361, R363, R364) -/

theorem State.bl_formTele_ord (h : Forms s) : (s.formTele typ x grp count body).bl = s.bl ∧ (s.formTele typ x grp count body).sn.almQ = s.sn.almQ
    ∧ (s.formTele typ x grp count body).sn.callQ = s.sn.callQ := by
  rw [State.formTele_eq h]
  cases x
  · exact ⟨rfl, rfl, rfl⟩
  · have hput : (s.teleNumbered true (s.teleSeq true)).sn = s.sn := State.sn_put
    have hbl : (s.teleNumbered true (s.teleSeq true)).bl = s.bl := State.bl_put
    generalize s.teleNumbered true (s.teleSeq true) = u at *
    exact ⟨hbl, congrArg (fun m => m.almQ) hput, congrArg (fun m => m.callQ) hput⟩

/-- The changes that still wait. -/
def State.alarmsLeft (s : State) (r : List (Bool × List Word × Nat)) : State := { s with sn := { s.sn with almQ := r } }

theorem tells_alarmsLeft {r : List (Bool × List Word × Nat)} : Tells s (s.alarmsLeft r) := ⟨fun _ => rfl, rfl, rfl, rfl, rfl, rfl, rfl, rfl⟩

theorem State.alarmForm_eq {r : List (Bool × List Word × Nat)} (hq : s.sn.almQ = (x, body, b) :: r) (hlate : b < s.t.run) :
    s.alarmForm = (s.alarmsLeft r).formTele 4 x (s.get SN_TXG.ALM) 1 body := by
  unfold State.alarmForm
  rw [hq]
  exact if_neg (Nat.not_le.mpr hlate)

theorem alarmTelegramForm_ord (hup : s.up = true) (hon : s.snOn = true) (hs : Forms s) {r : List (Bool × List Word × Nat)}
    (hq : s.sn.almQ = (false, body, b) :: r) (hlate : b < s.t.run) : Completes .alarmTelegramForm s (fun t =>
      FormsOrd s t 4 (s.get SN_TXG.ALM) body ∧ t.sn.almQ = r ∧ AllKept s t) := by
  refine completes_of_exec (o := execAlarmTelegramForm s) rfl (act_ends hup ?_)
  rw [if_pos hon, State.alarmForm_eq hq hlate, State.sn_settle]
  obtain ⟨hforms, hkept⟩ := formsOrd_formTele (typ := 4) (grp := s.get SN_TXG.ALM) (count := 1) (body := body) hs (tells_alarmsLeft (r := r)) (by decide)
  obtain ⟨-, hleft, -⟩ := State.bl_formTele_ord (typ := 4) (x := false) (grp := s.get SN_TXG.ALM) (count := 1) (body := body) ((tells_alarmsLeft (r := r)).forms hs)
  exact ⟨hforms, hleft, hkept⟩

theorem alarmTelegramForm_priv (hup : s.up = true) (hon : s.snOn = true) (hs : Forms s) {r : List (Bool × List Word × Nat)}
    (hq : s.sn.almQ = (true, body, b) :: r) (hlate : b < s.t.run) : Completes .alarmTelegramForm s (fun t =>
      FormsPriv s t 4 (s.get SN_TXG.ALM) body ∧ t.sn.almQ = r ∧ RegsKeptBut [JL_PSEQ] s t ∧ MemKept s t) := by
  refine completes_of_exec (o := execAlarmTelegramForm s) rfl (act_ends hup ?_)
  rw [if_pos hon, State.alarmForm_eq hq hlate, State.sn_settle]
  obtain ⟨hforms, hkept⟩ := formsPriv_formTele (typ := 4) (grp := s.get SN_TXG.ALM) (count := 1) (body := body) hs (tells_alarmsLeft (r := r)) (by decide)
  obtain ⟨-, hleft, -⟩ := State.bl_formTele_ord (typ := 4) (x := true) (grp := s.get SN_TXG.ALM) (count := 1) (body := body) ((tells_alarmsLeft (r := r)).forms hs)
  exact ⟨hforms, hleft, hkept⟩

/-- The calls that still wait. -/
def State.callsLeft (s : State) (r : List (List Word × Nat)) : State := { s with sn := { s.sn with callQ := r } }

theorem tells_callsLeft {r : List (List Word × Nat)} : Tells s (s.callsLeft r) := ⟨fun _ => rfl, rfl, rfl, rfl, rfl, rfl, rfl, rfl⟩

theorem State.callForm_eq {r : List (List Word × Nat)} (hq : s.sn.callQ = (body, b) :: r) (hlate : b < s.t.run) :
    s.callForm = (s.callsLeft r).formTele 5 false (s.get SN_TXG.CALL) (body.length - 2) body := by
  unfold State.callForm
  rw [hq]
  exact if_neg (Nat.not_le.mpr hlate)

theorem callTelegramForm_leaves (hup : s.up = true) (hon : s.snOn = true) (hs : Forms s) {r : List (List Word × Nat)} (hq : s.sn.callQ = (body, b) :: r)
    (hlate : b < s.t.run) : Completes .callTelegramForm s (fun t => FormsOrd s t 5 (s.get SN_TXG.CALL) body ∧ t.sn.callQ = r ∧ AllKept s t) := by
  refine completes_of_exec (o := execCallTelegramForm s) rfl (act_ends hup ?_)
  rw [if_pos hon, State.callForm_eq hq hlate, State.sn_settle]
  obtain ⟨hforms, hkept⟩ := formsOrd_formTele (typ := 5) (grp := s.get SN_TXG.CALL) (count := body.length - 2) (body := body) hs (tells_callsLeft (r := r)) (by decide)
  obtain ⟨-, -, hleft⟩ := State.bl_formTele_ord (typ := 5) (x := false) (grp := s.get SN_TXG.CALL) (count := body.length - 2) (body := body)
    ((tells_callsLeft (r := r)).forms hs)
  exact ⟨hforms, hleft, hkept⟩

/-- The events of the first beat. -/
def eventsOf (e : LatEv) (l : List LatEv) : List LatEv := l.takeWhile (fun x => x.beat == e.beat)

/-- The events that still wait. -/
def State.eventsLeft (s : State) (r : List LatEv) : State := { s with bl := { s.bl with netQ := r } }

theorem tells_eventsLeft {r : List LatEv} : Tells s (s.eventsLeft r) := ⟨fun _ => rfl, rfl, rfl, rfl, rfl, rfl, rfl, rfl⟩

theorem State.signalsForm_eq {e : LatEv} {r : List LatEv} (hq : s.bl.netQ = e :: r) (hover : e.beat ≠ s.workBeat) :
    s.signalsForm = (s.eventsLeft (s.bl.netQ.dropWhile (fun x => x.beat == e.beat))).signalsSend (eventsOf e s.bl.netQ) := by
  unfold State.signalsForm eventsOf
  rw [hq]
  exact if_neg (by rw [beq_iff_eq]; exact hover)

theorem chunks_short {α : Type} {l : List α} (hl : l ≠ []) (hshort : l.length ≤ k) : chunks k (n + 1) l = [l] := by
  have hempty : ¬l.isEmpty = true := fun h => hl (List.isEmpty_iff.mp h)
  have hrest : chunks k n ([] : List α) = [] := by
    cases n <;> rfl
  rw [chunks, if_neg hempty, List.take_of_length_le hshort, List.drop_of_length_le hshort, hrest]

theorem filter_alike {l : List LatEv} (halike : ∀ e ∈ l, e.priv = y) : l.filter (fun e => e.priv == y) = l ∧ l.filter (fun e => e.priv == !y) = [] := by
  refine ⟨List.filter_eq_self.mpr fun e he => by rw [halike e he, beq_self_eq_true], List.filter_eq_nil_iff.mpr fun e he => ?_⟩
  rw [halike e he]
  cases y <;> decide

/-- Events that are all privileged, or none of them, go out in one telegram. -/
theorem State.signalsSend_alike {l : List LatEv} (hl : l ≠ []) (hshort : l.length ≤ 106) (halike : ∀ e ∈ l, e.priv = y) :
    s.signalsSend l = s.formTele 2 y (s.get SN_TXG.SIG) l.length (l.flatMap eventWords) := by
  obtain ⟨hsame, hother⟩ := filter_alike halike
  unfold State.signalsSend
  cases y with
  | false =>
    rw [Bool.not_false] at hother
    dsimp only
    rw [hsame, hother, chunks_short hl hshort]
    rfl
  | true =>
    rw [Bool.not_true] at hother
    dsimp only
    rw [hsame, hother, chunks_short hl hshort]
    rfl

theorem eventsOf_ne_nil {e : LatEv} {r : List LatEv} (hq : s.bl.netQ = e :: r) : eventsOf e s.bl.netQ ≠ [] := by
  unfold eventsOf
  rw [hq, List.takeWhile_cons]
  simp only [beq_self_eq_true, if_true, ne_eq, List.cons_ne_nil, not_false_eq_true]

theorem signalsForm_ord (hup : s.up = true) (hon : s.snOn = true) (hs : Forms s) {e : LatEv} {r : List LatEv} (hq : s.bl.netQ = e :: r)
    (hover : e.beat ≠ s.workBeat) (hshort : (eventsOf e s.bl.netQ).length ≤ 106) (halike : ∀ x ∈ eventsOf e s.bl.netQ, x.priv = false) :
    Completes .signalsForm s (fun t => FormsOrd s t 2 (s.get SN_TXG.SIG) ((eventsOf e s.bl.netQ).flatMap eventWords)
      ∧ t.bl.netQ = s.bl.netQ.dropWhile (fun x => x.beat == e.beat) ∧ AllKept s t) := by
  refine completes_of_exec (o := execSignalsForm s) rfl (act_ends hup ?_)
  rw [if_pos hon, State.signalsForm_eq hq hover, State.signalsSend_alike (eventsOf_ne_nil hq) hshort halike, State.bl_settle]
  generalize s.bl.netQ.dropWhile (fun x => x.beat == e.beat) = left
  have htells : Tells s (s.eventsLeft left) := tells_eventsLeft
  obtain ⟨hforms, hkept⟩ := formsOrd_formTele (typ := 2) (grp := s.get SN_TXG.SIG) (count := (eventsOf e s.bl.netQ).length)
    (body := (eventsOf e s.bl.netQ).flatMap eventWords) hs htells (by decide)
  obtain ⟨hleft, -, -⟩ := State.bl_formTele_ord (typ := 2) (x := false) (grp := s.get SN_TXG.SIG) (count := (eventsOf e s.bl.netQ).length)
    (body := (eventsOf e s.bl.netQ).flatMap eventWords) (htells.forms hs)
  exact ⟨hforms, congrArg BlS.netQ hleft, hkept⟩

theorem signalsForm_priv (hup : s.up = true) (hon : s.snOn = true) (hs : Forms s) {e : LatEv} {r : List LatEv} (hq : s.bl.netQ = e :: r)
    (hover : e.beat ≠ s.workBeat) (hshort : (eventsOf e s.bl.netQ).length ≤ 106) (halike : ∀ x ∈ eventsOf e s.bl.netQ, x.priv = true) :
    Completes .signalsForm s (fun t => FormsPriv s t 2 (s.get SN_TXG.SIG) ((eventsOf e s.bl.netQ).flatMap eventWords)
      ∧ t.bl.netQ = s.bl.netQ.dropWhile (fun x => x.beat == e.beat) ∧ RegsKeptBut [JL_PSEQ] s t ∧ MemKept s t) := by
  refine completes_of_exec (o := execSignalsForm s) rfl (act_ends hup ?_)
  rw [if_pos hon, State.signalsForm_eq hq hover, State.signalsSend_alike (eventsOf_ne_nil hq) hshort halike, State.bl_settle]
  generalize s.bl.netQ.dropWhile (fun x => x.beat == e.beat) = left
  have htells : Tells s (s.eventsLeft left) := tells_eventsLeft
  obtain ⟨hforms, hkept⟩ := formsPriv_formTele (typ := 2) (grp := s.get SN_TXG.SIG) (count := (eventsOf e s.bl.netQ).length)
    (body := (eventsOf e s.bl.netQ).flatMap eventWords) hs htells (by decide)
  obtain ⟨hleft, -, -⟩ := State.bl_formTele_ord (typ := 2) (x := true) (grp := s.get SN_TXG.SIG) (count := (eventsOf e s.bl.netQ).length)
    (body := (eventsOf e s.bl.netQ).flatMap eventWords) (htells.forms hs)
  exact ⟨hforms, congrArg BlS.netQ hleft, hkept⟩

/-! ### Transmission (R352, R357, R372) -/

/-- The queues without the telegram served. -/
def State.teleTaken (s : State) (pq oq : List Tele) : State := { s with sn := { s.sn with txPriv := pq, txOrd := oq } }

/-- What leaves, and on which ports. -/
def State.teleSent (s : State) (o : Option (Tele × List Nat)) : State := { s with sn := { s.sn with sent := o } }

theorem State.sn_teleSent {o : Option (Tele × List Nat)} : (s.teleSent o).sn = { s.sn with sent := o } := rfl

theorem State.transmit_priv {r : List Tele} (hports : s.txPorts ≠ []) (hq : s.sn.txPriv = q :: r) :
    s.transmit = if q.hurt then (s.teleTaken r s.sn.txOrd).inc SN_TXCNT.DROP
      else ((s.teleTaken r s.sn.txOrd).teleSent (some (q.sealed, s.txPorts))).inc SN_TXCNT.SENT := by
  have hgo : ¬s.txPorts.isEmpty = true := fun h => hports (List.isEmpty_iff.mp h)
  have htake : s.takeTele = some (q, s.teleTaken r s.sn.txOrd) := by
    unfold State.takeTele
    rw [hq]
    rfl
  unfold State.transmit
  dsimp only
  rw [if_neg hgo, htake]
  rfl

theorem State.transmit_ord {r : List Tele} (hports : s.txPorts ≠ []) (hpriv : s.sn.txPriv = []) (hq : s.sn.txOrd = q :: r) :
    s.transmit = if q.hurt then (s.teleTaken [] r).inc SN_TXCNT.DROP
      else ((s.teleTaken [] r).teleSent (some (q.sealed, s.txPorts))).inc SN_TXCNT.SENT := by
  have hgo : ¬s.txPorts.isEmpty = true := fun h => hports (List.isEmpty_iff.mp h)
  have htake : s.takeTele = some (q, s.teleTaken [] r) := by
    have hnone : s.teleTaken [] r = s.teleTaken s.sn.txPriv r := by rw [hpriv]
    rw [hnone]
    unfold State.takeTele
    rw [hq]
    split
    next heq => exact absurd (hpriv.symm.trans heq) (List.cons_ne_nil _ _).symm
    next heq =>
      cases heq
      rfl
    next heq => exact absurd heq (List.cons_ne_nil _ _)
  unfold State.transmit
  dsimp only
  rw [if_neg hgo, htake]
  rfl

theorem regWork_teleTaken {pq oq : List Tele} : RegWork l s (s.teleTaken pq oq) := ⟨fun _ _ => rfl, rfl⟩

theorem regWork_teleSent {o : Option (Tele × List Nat)} : RegWork l s (s.teleSent o) := ⟨fun _ _ => rfl, rfl⟩

/-- A telegram sent: the queues, the count and what else stands. -/
theorem sentTele_shows {pq oq : List Tele} {o : Option (Tele × List Nat)} {t : State} (ht : t = settle (((s.teleTaken pq oq).teleSent o).inc SN_TXCNT.SENT)) :
    t.sn.sent = o ∧ t.sn.txPriv = pq ∧ t.sn.txOrd = oq ∧ CountsUp SN_TXCNT.SENT s t ∧ RegsKeptBut [SN_TXCNT] s t ∧ MemKept s t := by
  have hwork : RegWork [SN_TXCNT] s (((s.teleTaken pq oq).teleSent o).inc SN_TXCNT.SENT) :=
    (regWork_teleTaken.trans regWork_teleSent).put (List.mem_singleton_self _)
  have hsn : t.sn = ((s.teleTaken pq oq).teleSent o).sn := by
    rw [ht, State.sn_settle, State.sn_inc]
  rw [hsn, ht, countsUp_settle]
  exact ⟨rfl, rfl, rfl, countsUp_inc rfl rfl, hwork.settled.kept⟩

theorem telegramTransmit_priv (hup : s.up = true) (hon : s.snOn = true) {r : List Tele} (hports : s.txPorts ≠ []) (hq : s.sn.txPriv = q :: r) (hgood : q.hurt = false) :
    Completes .telegramTransmit s (fun t => t.sn.sent = some (q.sealed, s.txPorts) ∧ t.sn.txPriv = r ∧ t.sn.txOrd = s.sn.txOrd ∧ CountsUp SN_TXCNT.SENT s t
      ∧ RegsKeptBut [SN_TXCNT] s t ∧ MemKept s t) := by
  refine completes_of_exec (o := execTelegramTransmit s) rfl (act_ends hup ?_)
  rw [if_pos hon, State.transmit_priv hports hq, if_neg (ne_true_of_eq_false hgood)]
  exact sentTele_shows rfl

theorem telegramTransmit_ord (hup : s.up = true) (hon : s.snOn = true) {r : List Tele} (hports : s.txPorts ≠ []) (hpriv : s.sn.txPriv = [])
    (hq : s.sn.txOrd = q :: r) (hgood : q.hurt = false) : Completes .telegramTransmit s (fun t => t.sn.sent = some (q.sealed, s.txPorts) ∧ t.sn.txOrd = r
      ∧ CountsUp SN_TXCNT.SENT s t ∧ RegsKeptBut [SN_TXCNT] s t ∧ MemKept s t) := by
  refine completes_of_exec (o := execTelegramTransmit s) rfl (act_ends hup ?_)
  rw [if_pos hon, State.transmit_ord hports hpriv hq, if_neg (ne_true_of_eq_false hgood)]
  obtain ⟨hsent, -, hord, hrest⟩ := sentTele_shows (s := s) (pq := []) (oq := r) (o := some (q.sealed, s.txPorts)) rfl
  exact ⟨hsent, hord, hrest⟩

theorem telegramTransmit_hurt (hup : s.up = true) (hon : s.snOn = true) {r : List Tele} (hports : s.txPorts ≠ []) (hq : s.sn.txPriv = q :: r) (hhurt : q.hurt = true) :
    Completes .telegramTransmit s (fun t => t.sn.sent = s.sn.sent ∧ t.sn.txPriv = r ∧ CountsUp SN_TXCNT.DROP s t ∧ RegsKeptBut [SN_TXCNT] s t ∧ MemKept s t) := by
  refine completes_of_exec (o := execTelegramTransmit s) rfl (act_ends hup ?_)
  have hwork : RegWork [SN_TXCNT] s ((s.teleTaken r s.sn.txOrd).inc SN_TXCNT.DROP) := regWork_teleTaken.put (List.mem_singleton_self _)
  rw [if_pos hon, State.transmit_priv hports hq, if_pos hhurt, State.sn_settle, State.sn_inc, countsUp_settle]
  exact ⟨rfl, rfl, countsUp_inc rfl rfl, hwork.settled.kept⟩

theorem Tele.sealed_shows : (q.sealed.words.getD q.words.length 0).toNat = crc32c q.words ∧ q.sealed.words.take q.words.length = q.words := by
  unfold Tele.sealed
  refine ⟨?_, List.take_left⟩
  rw [List.getD_append_right _ _ _ _ le_rfl, Nat.sub_self]
  exact (BitVec.toNat_ofNat _ _).trans (Nat.mod_eq_of_lt (crc32c_lt _))

/-! ### The obligation -/

/-- Settles O47: each clause is the lemma named for it above. That a telegram with a word whose tag fails counts as dropped is the design log's entry 38. -/
theorem telegramsFormAndLeave : Obligations.TelegramsFormAndLeave := by
  unfold Obligations.TelegramsFormAndLeave
  intro s hforms
  obtain ⟨hup, hon, happlied, htxen, hdrives, hpriv, hord⟩ := hforms
  have hs : Forms s := ⟨happlied, htxen, hdrives, hpriv, hord⟩
  refine ⟨?_, ?_, ?_, ?_, ?_, ?_, ?_, ?_, ?_, ?_, fun x => Tele.sealed_shows⟩
  · exact fun n hen hcount hfits hbeat hnew hgood => valuesForm_leaves hup hon hs hen hcount hfits hbeat hnew hgood
  · exact fun e r hq hover hshort => ⟨fun halike => signalsForm_ord hup hon hs hq hover hshort halike, fun halike => signalsForm_priv hup hon hs hq hover hshort halike⟩
  · intro hbeat hnew
    obtain ⟨t, hrun, hbody, hkept⟩ := sigstateForm_leaves hup hon hs hbeat hnew
    exact ⟨t, hrun, ⟨_, hbody, State.length_sigstateBody, fun p hp htx hidx => State.sigstateBody_shows hp htx hidx⟩, hkept⟩
  · exact fun body b r hq hlate => alarmTelegramForm_ord hup hon hs hq hlate
  · exact fun body b r hq hlate => alarmTelegramForm_priv hup hon hs hq hlate
  · exact fun body b r hq hlate => callTelegramForm_leaves hup hon hs hq hlate
  · exact fun hbeat hnew => statusForm_leaves hup hon hs hbeat hnew
  · exact fun x r hports hq hgood => telegramTransmit_priv hup hon hports hq hgood
  · exact fun x r hports hnone hq hgood => telegramTransmit_ord hup hon hports hnone hq hgood
  · exact fun x r hports hq hhurt => telegramTransmit_hurt hup hon hports hq hhurt

end

end Sys2Proof.Machine

namespace Sys2Proof.Machine

open Sys2Proof

section
variable {s t u z : State} {P : State → Prop} {f g : Fld} {a b c i j k n v op typ grp count seq src idx : Nat} {w : Word} {l l' : List Nat} {x y priv : Bool}
  {body m : List Word} {r0 r1 u0 u1 : Word} {perm : Nat → Fld}

/-! ## Telegrams received (R366 to R378) -/

/-! ### A telegram heard (R369, R370) -/

/-- A telegram counted, its number taken in the window of its source. -/
structure Heard (s u : State) : Prop where
  regs : ∀ a, a ≠ SN_RXCNT → u.reg a = s.reg a
  counts : CountsUp SN_RXCNT.OK s u
  mem : u.mem = s.mem
  t : u.t = s.t
  life : u.life = s.life
  img : u.img = s.img
  alm : u.alm = s.alm
  opl : u.opl = s.opl
  seqU : u.sn.seqU = s.sn.seqU
  txOrd : u.sn.txOrd = s.sn.txOrd
  txPriv : u.sn.txPriv = s.sn.txPriv
  dom : u.sn.dom = s.sn.dom

/-- The windows of a network engine replaced. -/
def SnS.windowed (sn : SnS) (lru : List Nat) (wins : List Win) : SnS := { sn with lru := lru, wins := wins }

/-- The windows after a telegram. -/
def State.windowed (s : State) (lru : List Nat) (wins : List Win) : State := { s with sn := s.sn.windowed lru wins }

/-- A number taken in the window `o` of its source, by a rule of acceptance. -/
def SnS.windowBy (sn : SnS) (acc : Win → Nat → Word → Word → Option Win) (src space seq : Nat) (f0 f1 : Word) (keep : List Nat) (wins : List Win)
    (o : Option Win) : Option SnS :=
  match o with
  | none => some { sn with lru := keep, wins := ⟨src, space, seq, f0, f1, []⟩ :: wins }
  | some w =>
    match acc w seq f0 f1 with
    | none => none
    | some w' => some { sn with lru := keep, wins := wins.map (fun x => if x.src == src && x.space == space then w' else x) }

theorem SnS.windowBy_eq {sn sn' : SnS} {acc : Win → Nat → Word → Word → Option Win} {src space seq : Nat} {f0 f1 : Word} {keep : List Nat} {wins : List Win}
    {o : Option Win} (h : sn.windowBy acc src space seq f0 f1 keep wins o = some sn') : ∃ lru wins, sn' = sn.windowed lru wins := by
  unfold SnS.windowBy at h
  split at h
  · exact ⟨_, _, (Option.some.inj h).symm⟩
  · split at h
    · exact absurd h (by nofun)
    · exact ⟨_, _, (Option.some.inj h).symm⟩

theorem SnS.window_eq {sn sn' : SnS} {src space seq : Nat} {f0 f1 : Word} (h : sn.window src space seq f0 f1 = some sn') :
    ∃ lru wins, sn' = sn.windowed lru wins := by
  unfold SnS.window at h
  generalize Win.accept = acc at h
  exact SnS.windowBy_eq (acc := acc) (src := src) (space := space) (seq := seq) (f0 := f0) (f1 := f1) h

theorem State.get_windowed {lru : List Nat} {wins : List Win} : (s.windowed lru wins).get f = s.get f := rfl

theorem heard_windowed {lru : List Nat} {wins : List Win} : Heard s ((s.windowed lru wins).inc SN_RXCNT.OK) := by
  have hbefore : (s.windowed lru wins).regs = s.regs ∧ (s.windowed lru wins).mem = s.mem ∧ (s.windowed lru wins).t = s.t ∧ (s.windowed lru wins).life = s.life
      ∧ (s.windowed lru wins).img = s.img ∧ (s.windowed lru wins).alm = s.alm ∧ (s.windowed lru wins).opl = s.opl ∧ (s.windowed lru wins).sn.seqU = s.sn.seqU
      ∧ (s.windowed lru wins).sn.txOrd = s.sn.txOrd ∧ (s.windowed lru wins).sn.txPriv = s.sn.txPriv ∧ (s.windowed lru wins).sn.dom = s.sn.dom :=
    ⟨rfl, rfl, rfl, rfl, rfl, rfl, rfl, rfl, rfl, rfl, rfl⟩
  have hget (f : Fld) : (s.windowed lru wins).get f = s.get f := State.get_windowed
  generalize s.windowed lru wins = u at *
  obtain ⟨hregs, hmem, ht, hlife, himg, halm, hopl, hseq, hord, hpriv, hdom⟩ := hbefore
  have hreg (a : Nat) : u.reg a = s.reg a := by
    unfold State.reg
    rw [hregs]
  refine ⟨fun a ha => (State.reg_put_other ha).trans (hreg a), countsUp_inc rfl (hget _), State.mem_inc.trans hmem, State.t_inc.trans ht, State.life_inc.trans hlife,
    State.img_inc.trans himg, State.alm_inc.trans halm, State.opl_inc.trans hopl, ?_, ?_, ?_, ?_⟩
  · rw [State.sn_inc, hseq]
  · rw [State.sn_inc, hord]
  · rw [State.sn_inc, hpriv]
  · rw [State.sn_inc, hdom]

/-- A telegram that passes the checks is counted and handled. -/
theorem State.receive_heard {types : List Nat} {F : State → State} (h : s.hears typ m) (htyp : types.contains typ = true) :
    ∃ u, Heard s u ∧ s.receive types m F = F u := by
  obtain ⟨-, hon, hgood, hkind, hwindow⟩ := h
  obtain ⟨sn, hsn⟩ := Option.isSome_iff_exists.mp hwindow
  obtain ⟨lru, wins, rfl⟩ := SnS.window_eq hsn
  refine ⟨_, heard_windowed (lru := lru) (wins := wins), ?_⟩
  unfold State.receive
  rw [if_neg (by rw [hon]; decide), hgood]
  dsimp only
  rw [hkind, if_neg (by rw [htyp]; decide), hsn]
  rfl

theorem Heard.get (h : Heard s u) (hf : f.addr ≠ SN_RXCNT) : u.get f = s.get f := get_of_reg_eq (h.regs _ hf)

theorem Heard.flag (h : Heard s u) (hf : f.addr ≠ SN_RXCNT) : u.flag f = s.flag f := flag_of_reg_eq (h.regs _ hf)

theorem Heard.work (h : Heard s u) : RegWork [SN_RXCNT] s u := ⟨fun _ ha => h.regs _ (List.mem_singleton.not.mp ha), h.mem⟩

theorem Heard.sramAt (h : Heard s u) : u.sramAt a = s.sramAt a := by
  unfold State.sramAt
  rw [h.mem]

theorem Heard.rxEntries (h : Heard s u) : u.rxEntries src idx = s.rxEntries src idx := by
  unfold State.rxEntries
  rw [h.mem]
  simp only [h.sramAt]

/-- What a telegram's handling leaves of the count. -/
theorem Heard.counted (h : Heard s u) (hkept : t.reg SN_RXCNT = u.reg SN_RXCNT) : CountsUp SN_RXCNT.OK s t := h.counts.of_get_eq (get_of_reg_eq hkept)

/-! ### Signals (R373, R374) -/

/-- Entries updated alike. -/
def State.rxAll (s : State) (l : List Nat) (x : Bool) (seq : Nat) (u0 u1 r0 r1 : Word) : State := l.foldl (fun (s : State) (i : Nat) => s.rxUpdate i x seq u0 u1 r0 r1) s

theorem State.rxAll_cons : s.rxAll (i :: l) x seq u0 u1 r0 r1 = (s.rxUpdate i x seq u0 u1 r0 r1).rxAll l x seq u0 u1 r0 r1 := rfl

theorem rxWork_rxAll (hl : ∀ i ∈ l, i < 4096) : RxWork s (s.rxAll l x seq u0 u1 r0 r1) := .foldl l fun i hi _ => rxWork_rxUpdate (hl i hi)

theorem State.sramAt_rxAll_other (h : j ∉ l) (hk : k < 8) : (s.rxAll l x seq u0 u1 r0 r1).sramAt (rxAddr j + k) = s.sramAt (rxAddr j + k) := by
  induction l generalizing s with
  | nil => rfl
  | cons i r ih =>
    rw [State.rxAll_cons, ih (List.not_mem_of_not_mem_cons h)]
    exact State.sramAt_rxUpdate_other (List.ne_of_not_mem_cons h) hk

/-- An entry that shows an update shows it after the same update again. -/
theorem RxShows.again (h : RxShows i x u0 u1 s) (hseq : seq < 2 ^ 34) : RxShows i x u0 u1 (s.rxUpdate j x seq u0 u1 r0 r1) := by
  by_cases hij : i = j
  · subst hij
    refine rxShows_rxUpdate hseq ?_
    obtain ⟨-, h3, h4⟩ := h
    rw [h3, h4]
    exact tsLess_self
  · exact h.other hij

theorem RxShows.all (h : RxShows i x u0 u1 s) (hseq : seq < 2 ^ 34) : RxShows i x u0 u1 (s.rxAll l x seq u0 u1 r0 r1) := by
  induction l generalizing s with
  | nil => exact h
  | cons j r ih =>
    rw [State.rxAll_cons]
    exact ih (h.again hseq)

theorem rxShows_rxAll (hi : i ∈ l) (hseq : seq < 2 ^ 34) (h : tsLess u0 u1 (s.sramAt (rxAddr i + 3)) (s.sramAt (rxAddr i + 4)) = false) :
    RxShows i x u0 u1 (s.rxAll l x seq u0 u1 r0 r1) := by
  induction l generalizing s with
  | nil => exact absurd hi List.not_mem_nil
  | cons j r ih =>
    rw [State.rxAll_cons]
    by_cases hij : i = j
    · subst hij
      exact (rxShows_rxUpdate hseq h).all hseq
    · refine ih ((List.mem_cons.mp hi).resolve_left hij) ?_
      rw [State.sramAt_rxUpdate_other hij (by decide), State.sramAt_rxUpdate_other hij (by decide)]
      exact h

theorem hdrSeq_lt : hdrSeq m < 2 ^ 34 := Nat.lt_trans bits_lt (by decide)

/-- One event of a SIGNALS telegram taken. -/
def State.eventRx (m : List Word) (r0 r1 : Word) (s : State) (k : Nat) : State :=
  s.rxAll (s.rxEntries (hdrSrc m) (fld (hdr m (6 + 3 * k)) 33 22)) (wbit (hdr m (6 + 3 * k)) 35) (hdrSeq m) (hdr m (7 + 3 * k)) (hdr m (8 + 3 * k)) r0 r1

theorem State.signalsRx_eq : s.signalsRx m r0 r1 = (List.range (min 106 (hdrCount m))).foldl (State.eventRx m r0 r1) s := rfl

theorem rxWork_signalsRx : RxWork s (s.signalsRx m r0 r1) := by
  rw [State.signalsRx_eq]
  exact .foldl _ fun k _ z => rxWork_rxAll rxEntries_lt

/-- One event, for one entry. -/
theorem signalsRx_one (hone : hdrCount m = 1) (hentry : s.rxEntries (hdrSrc m) (fld (hdr m 6) 33 22) = [i])
    (hnew : tsLess (hdr m 7) (hdr m 8) (s.sramAt (rxAddr i + 3)) (s.sramAt (rxAddr i + 4)) = false) :
    RxShows i (wbit (hdr m 6) 35) (hdr m 7) (hdr m 8) (s.signalsRx m r0 r1) ∧ (s.signalsRx m r0 r1).sramAt (rxAddr i + 5) = r0
      ∧ (s.signalsRx m r0 r1).sramAt (rxAddr i + 6) = r1 := by
  have hevent : s.signalsRx m r0 r1 = s.rxUpdate i (wbit (hdr m 6) 35) (hdrSeq m) (hdr m 7) (hdr m 8) r0 r1 := by
    have hall : s.signalsRx m r0 r1 = s.rxAll (s.rxEntries (hdrSrc m) (fld (hdr m 6) 33 22)) (wbit (hdr m 6) 35) (hdrSeq m) (hdr m 7) (hdr m 8) r0 r1 := by
      rw [State.signalsRx_eq, hone]
      rfl
    rw [hall, hentry]
    rfl
  obtain ⟨-, -, -, h5, h6, -⟩ := State.sramAt_rxWritten (s := s) (i := i) (x := wbit (hdr m 6) 35) (seq := hdrSeq m) (u0 := hdr m 7) (u1 := hdr m 8) (r0 := r0) (r1 := r1)
  rw [hevent]
  refine ⟨rxShows_rxUpdate hdrSeq_lt hnew, ?_⟩
  rw [State.rxUpdate_newer hnew, State.sramAt_rxNoted, State.sramAt_rxNoted]
  exact ⟨h5, h6⟩

theorem RxWork.settled (h : RxWork s t) : RxWork s (settle t) := by
  refine ⟨fun b => State.reg_settle.trans (h.regs b), fun a ha => ?_, fun a => h.mram a, State.t_settle.trans h.time, State.leg_settle.trans h.leg, State.alm_settle.trans h.alm,
    fun i w => ?_, fun i => State.sramAt_settle.trans (h.named i)⟩
  · exact h.sram a ha
  · rw [State.mem_settle]
    exact h.listed i w

theorem signalsRx_leaves (h : s.hears 2 m) : Completes (.signalsRx m r0 r1) s (fun t => CountsUp SN_RXCNT.OK s t ∧ SramKeptBut rxWords s t ∧ MramKept s t
    ∧ RegsKeptBut [SN_RXCNT, SN_MCNT] s t
    ∧ (hdrAct m = false → hdrPriv m = false → CountsUp SN_MCNT.OBSERVER s t ∧ MemKept s t)
    ∧ (∀ i, (hdrAct m || hdrPriv m) = true → hdrCount m = 1 → s.rxEntries (hdrSrc m) (fld (hdr m 6) 33 22) = [i] →
        tsLess (hdr m 7) (hdr m 8) (s.sramAt (rxAddr i + 3)) (s.sramAt (rxAddr i + 4)) = false →
        wbit (t.sramAt (rxAddr i + 2)) 35 = wbit (hdr m 6) 35 ∧ t.sramAt (rxAddr i + 3) = hdr m 7 ∧ t.sramAt (rxAddr i + 4) = hdr m 8
        ∧ t.sramAt (rxAddr i + 5) = r0 ∧ t.sramAt (rxAddr i + 6) = r1)) := by
  refine completes_of_exec (o := execSignalsRx m r0 r1 s) rfl (act_ends h.1 ?_)
  obtain ⟨u, hu, hrun⟩ := State.receive_heard (types := [2]) (F := fun s => s.signalsFrom m (fun s => s.signalsRx m r0 r1)) h (by decide)
  rw [hrun]
  unfold State.signalsFrom
  cases hsays : hdrAct m || hdrPriv m with
  | false =>
    have hwork : RegWork [SN_RXCNT, SN_MCNT] s (u.inc SN_MCNT.OBSERVER) := (hu.work.mono (by decide)).put (by decide)
    obtain ⟨hregs, hmem⟩ := hwork.settled.kept
    rw [if_neg Bool.false_ne_true, countsUp_settle, countsUp_settle]
    exact ⟨hu.counted (State.reg_put_other (by decide)), fun a _ => hmem.1 a, hmem.2, hregs,
      fun _ _ => ⟨countsUp_inc rfl (hu.get (by decide)), hmem⟩, fun _ h => absurd h Bool.false_ne_true⟩
  | true =>
    have hwork : RxWork u (settle (u.signalsRx m r0 r1)) := rxWork_signalsRx.settled
    obtain ⟨hsram, hmram⟩ := memKept_of_mem_eq hu.mem
    rw [if_pos rfl]
    refine ⟨hu.counted (hwork.regs _), fun a ha => ⟨(hwork.sram a ha).1.trans (hsram a).1, (hwork.sram a ha).2.trans (hsram a).2⟩, hmram.trans hwork.mram,
      fun a ha => (hwork.regs a).trans (hu.regs a fun he => ha (he ▸ List.mem_cons_self)), fun hact hpriv => ?_, fun i _ hone hentry hnew => ?_⟩
    · rw [hact, hpriv] at hsays
      exact absurd hsays Bool.false_ne_true
    · rw [← hu.rxEntries] at hentry
      rw [← hu.sramAt, ← hu.sramAt] at hnew
      obtain ⟨⟨hval, h3, h4⟩, h5, h6⟩ := signalsRx_one (r0 := r0) (r1 := r1) hone hentry hnew
      simp only [State.sramAt_settle]
      exact ⟨hval, h3, h4, h5, h6⟩

/-! ### Signal states (R362, R373) -/

/-- One published signal of a SIGSTATE telegram taken. -/
def State.stateRx (m : List Word) (r0 r1 : Word) (s : State) (i : Nat) : State :=
  if !wbit (hdr m (6 + 128 + i / 32)) (i % 32) then s
  else s.rxAll (s.rxEntries (hdrSrc m) i) (wbit (hdr m (6 + i / 32)) (i % 32)) (hdrSeq m) (hdr m 3) (hdr m 4) r0 r1

theorem State.sigstateRx_eq : s.sigstateRx m r0 r1 = (List.range 4096).foldl (State.stateRx m r0 r1) s := rfl

theorem rxWork_stateRx : RxWork s (State.stateRx m r0 r1 s k) := by
  unfold State.stateRx
  split
  · exact .refl
  · exact rxWork_rxAll rxEntries_lt

theorem rxWork_sigstateRx : RxWork s (s.sigstateRx m r0 r1) := by
  rw [State.sigstateRx_eq]
  exact .foldl _ fun k _ z => rxWork_stateRx

/-- A signal that the entry does not name leaves it alone. -/
theorem State.sramAt_stateRx_other (h : i ∉ s.rxEntries (hdrSrc m) j) (hk : k < 8) : (State.stateRx m r0 r1 s j).sramAt (rxAddr i + k) = s.sramAt (rxAddr i + k) := by
  unfold State.stateRx
  split
  · rfl
  · exact State.sramAt_rxAll_other h hk

theorem rxEntries_one (hi : i ∈ s.rxEntries src j) (hj : i ∈ s.rxEntries src k) : j = k :=
  (State.mem_rxEntries.mp hi).2.1.symm.trans (State.mem_rxEntries.mp hj).2.1

theorem RxShows.stateRx_other (h : RxShows i x u0 u1 s) (hother : i ∉ s.rxEntries (hdrSrc m) j) : RxShows i x u0 u1 (State.stateRx m r0 r1 s j) := by
  unfold RxShows
  rwa [State.sramAt_stateRx_other hother (by decide), State.sramAt_stateRx_other hother (by decide), State.sramAt_stateRx_other hother (by decide)]

/-- Signals that the entry does not name. -/
theorem RxShows.states_other (h : RxShows i x u0 u1 s) (hname : i ∈ s.rxEntries (hdrSrc m) j) (hj : j ∉ l) : RxShows i x u0 u1 (l.foldl (State.stateRx m r0 r1) s) := by
  induction l generalizing s with
  | nil => exact h
  | cons k r ih =>
    have hwork : RxWork s (State.stateRx m r0 r1 s k) := rxWork_stateRx
    refine ih (h.stateRx_other fun hk => ?_) (hwork.rxEntries.mpr hname) (List.not_mem_of_not_mem_cons hj)
    exact List.ne_of_not_mem_cons hj (rxEntries_one hname hk)

/-- The signal that the entry names shows in it. -/
theorem rxShows_states (hj : j ∈ l) (hnodup : l.Nodup) (hpub : wbit (hdr m (6 + 128 + j / 32)) (j % 32) = true) (hname : i ∈ s.rxEntries (hdrSrc m) j)
    (hnew : tsLess (hdr m 3) (hdr m 4) (s.sramAt (rxAddr i + 3)) (s.sramAt (rxAddr i + 4)) = false) :
    RxShows i (wbit (hdr m (6 + j / 32)) (j % 32)) (hdr m 3) (hdr m 4) (l.foldl (State.stateRx m r0 r1) s) := by
  induction l generalizing s with
  | nil => exact absurd hj List.not_mem_nil
  | cons k r ih =>
    have hwork : RxWork s (State.stateRx m r0 r1 s k) := rxWork_stateRx
    obtain ⟨hkr, hrest⟩ := List.nodup_cons.mp hnodup
    by_cases hjk : j = k
    · subst hjk
      rw [List.foldl_cons]
      refine RxShows.states_other ?_ (hwork.rxEntries.mpr hname) hkr
      unfold State.stateRx
      rw [if_neg (by rw [hpub]; decide)]
      exact rxShows_rxAll hname hdrSeq_lt hnew
    · have hother : i ∉ s.rxEntries (hdrSrc m) k := fun hk => hjk (rxEntries_one hname hk)
      refine ih ((List.mem_cons.mp hj).resolve_left hjk) hrest (hwork.rxEntries.mpr hname) ?_
      rw [State.sramAt_stateRx_other hother (by decide), State.sramAt_stateRx_other hother (by decide)]
      exact hnew

theorem sigstateRx_leaves (h : s.hears 3 m) (hact : hdrAct m = true) : Completes (.sigstateRx m r0 r1) s (fun t => CountsUp SN_RXCNT.OK s t ∧ SramKeptBut rxWords s t
    ∧ MramKept s t ∧ RegsKeptBut [SN_RXCNT] s t
    ∧ (∀ i x, x < 4096 → wbit (hdr m (134 + x / 32)) (x % 32) = true → s.rxEntries (hdrSrc m) x = [i] →
        tsLess (hdr m 3) (hdr m 4) (s.sramAt (rxAddr i + 3)) (s.sramAt (rxAddr i + 4)) = false →
        wbit (t.sramAt (rxAddr i + 2)) 35 = wbit (hdr m (6 + x / 32)) (x % 32) ∧ t.sramAt (rxAddr i + 3) = hdr m 3)) := by
  refine completes_of_exec (o := execSigstateRx m r0 r1 s) rfl (act_ends h.1 ?_)
  obtain ⟨u, hu, hrun⟩ := State.receive_heard (types := [3]) (F := fun s => s.signalsFrom m (fun s => s.sigstateRx m r0 r1)) h (by decide)
  rw [hrun]
  unfold State.signalsFrom
  rw [hact, Bool.true_or, if_pos rfl]
  have hwork : RxWork u (settle (u.sigstateRx m r0 r1)) := rxWork_sigstateRx.settled
  obtain ⟨hsram, hmram⟩ := memKept_of_mem_eq hu.mem
  refine ⟨hu.counted (hwork.regs _), fun a ha => ⟨(hwork.sram a ha).1.trans (hsram a).1, (hwork.sram a ha).2.trans (hsram a).2⟩, hmram.trans hwork.mram,
    fun a ha => (hwork.regs a).trans (hu.regs a (List.mem_singleton.not.mp ha)), fun i x hx hpub hentry hnew => ?_⟩
  have hname : i ∈ u.rxEntries (hdrSrc m) x := by
    rw [hu.rxEntries, hentry]
    exact List.mem_singleton_self _
  rw [← hu.sramAt, ← hu.sramAt] at hnew
  obtain ⟨hval, h3, -⟩ := rxShows_states (r0 := r0) (r1 := r1) (List.mem_range.mpr hx) List.nodup_range hpub hname hnew
  rw [State.sramAt_settle, State.sramAt_settle]
  dsimp only
  rw [State.sigstateRx_eq]
  exact ⟨hval, h3⟩

/-! ### Stale entries (R375) -/

/-- The state an entry takes when it becomes stale. -/
def State.staleState (s : State) (i : Nat) : Bool := match fld (s.sramAt (rxAddr i)) 33 32 with | 1 => true | 2 => wbit (s.sramAt (rxAddr i + 2)) 34 | _ => false

/-- The word of an entry made stale. -/
def staleWord (w : Word) (x : Bool) : Word := W (setBit (setBit w.toNat 33 true) 35 x)

theorem wbit_staleWord : wbit (staleWord w x) 33 = true ∧ wbit (staleWord w x) 35 = x := by
  unfold staleWord
  rw [wbit_W (by decide), wbit_W (by decide), bit_setBit_other (by decide)]
  exact ⟨bit_setBit_same, bit_setBit_same⟩

theorem State.rxStale_eq (huse : wbit (s.sramAt (rxAddr i)) 35 = true) (hfresh : wbit (s.sramAt (rxAddr i + 2)) 33 = false) (hround : s.t.usec = 0)
    (hlong : orElse (fld (s.sramAt (rxAddr i + 1)) 23 16) 3 * 1000000 ≤ s.since (s.sn.rxAt.getD i 0)) :
    s.rxStale i = s.setSram (rxAddr i + 2) (staleWord (s.sramAt (rxAddr i + 2)) (s.staleState i)) := by
  have hgo : ¬(!wbit (s.sramAt (rxAddr i)) 35 || wbit (s.sramAt (rxAddr i + 2)) 33 || s.t.usec != 0
      || decide (s.since (s.sn.rxAt.getD i 0) < orElse (fld (s.sramAt (rxAddr i + 1)) 23 16) 3 * 1000000)) = true := by
    rw [huse, hfresh, hround, decide_eq_false (Nat.not_lt.mpr hlong)]
    decide
  unfold State.rxStale
  dsimp only
  rw [if_neg hgo]
  rfl

theorem setSram_settled {t : State} (ht : t = settle (s.setSram a w)) : t.sramAt a = w ∧ RegsKept s t ∧ SramKeptBut [a] s t ∧ MramKept s t := by
  obtain ⟨hword, -, hsram, hmram, hregs⟩ := stores_setSram (s := s) (a := a) (w := w)
  generalize s.setSram a w = z at *
  subst ht
  exact ⟨State.sramAt_settle.trans hword, fun a => State.reg_settle.trans (hregs a), fun a ha => hsram a ha, fun a => hmram a⟩

theorem rxsigStale_leaves (hup : s.up = true) (hon : s.snOn = true) {i : Fin 4096} (huse : wbit (s.sramAt (rxAddr i)) 35 = true)
    (hfresh : wbit (s.sramAt (rxAddr i + 2)) 33 = false) (hround : s.t.usec = 0)
    (hlong : orElse (fld (s.sramAt (rxAddr i + 1)) 23 16) 3 * 1000000 ≤ s.since (s.sn.rxAt.getD i 0)) :
    Completes (.rxsigStale i) s (fun t => wbit (t.sramAt (rxAddr i + 2)) 33 = true ∧ wbit (t.sramAt (rxAddr i + 2)) 35 = s.staleState i
      ∧ RegsKept s t ∧ SramKeptBut [rxAddr i + 2] s t ∧ MramKept s t) := by
  refine completes_of_exec (o := execRxsigStale i s) rfl (act_ends hup ?_)
  rw [if_pos hon, State.rxStale_eq huse hfresh hround hlong]
  obtain ⟨hword, hkept⟩ := setSram_settled (s := s) (a := rxAddr i + 2) (w := staleWord (s.sramAt (rxAddr i + 2)) (s.staleState i)) rfl
  rw [hword]
  exact ⟨wbit_staleWord.1, wbit_staleWord.2, hkept⟩

/-! ### Discards (R369) -/

theorem rxerr_counts (hok : f.ok = true) (haddr : f.addr = SN_RXERR) :
    CountsUp f s (settle (s.inc f)) ∧ RegsKeptBut [SN_RXERR] s (settle (s.inc f)) ∧ MemKept s (settle (s.inc f)) := by
  have hwork : RegWork [SN_RXERR] s (s.inc f) := RegWork.refl.put (haddr ▸ List.mem_singleton_self _)
  exact ⟨countsUp_settle.mpr (countsUp_inc hok rfl), hwork.settled.kept⟩

theorem otherTelegramRx_bad (hup : s.up = true) (hon : s.snOn = true) (hbad : s.badTele m = some (some f)) (hok : f.ok = true) (haddr : f.addr = SN_RXERR) :
    Completes (.otherTelegramRx m) s (fun t => CountsUp f s t ∧ RegsKeptBut [SN_RXERR] s t ∧ MemKept s t) := by
  refine completes_of_exec (o := execOtherTelegramRx m s) rfl (act_ends hup ?_)
  unfold State.receive
  rw [if_neg (by rw [hon]; decide), hbad]
  exact rxerr_counts hok haddr

theorem State.badTele_stranger (h : fld (hdr m 0) 35 32 ≠ 1) : s.badTele m = some (some SN_RXERR.STRANGER) := by
  unfold State.badTele
  rw [if_pos (bne_iff_ne.mpr h)]

/-- The length or the type is not one of a telegram. -/
def misformed (m : List Word) : Bool := decide (m.length - 1 < 6) || decide (324 < m.length - 1) || hdrType m == 0 || decide (9 ≤ hdrType m)

theorem State.badTele_format (htoken : fld (hdr m 0) 35 32 = 1) (h : m.length < 7 ∨ 325 < m.length ∨ hdrType m = 0 ∨ 9 ≤ hdrType m) :
    s.badTele m = some (some SN_RXERR.FMT) := by
  have hform : misformed m = true := by
    simp only [misformed, Bool.or_eq_true, decide_eq_true_eq, beq_iff_eq]
    omega
  unfold State.badTele
  dsimp only
  rw [if_neg (by rw [htoken]; decide)]
  exact if_pos hform

theorem State.badTele_check (htoken : fld (hdr m 0) 35 32 = 1) (hlong : 7 ≤ m.length) (hshort : m.length ≤ 325) (hone : 1 ≤ hdrType m) (height : hdrType m ≤ 8)
    (hcheck : (hdr m (m.length - 1)).toNat ≠ crc32c (m.take (m.length - 1))) : s.badTele m = some (some SN_RXERR.CRC) := by
  have hform : ¬misformed m = true := by
    simp only [misformed, Bool.or_eq_true, decide_eq_true_eq, beq_iff_eq]
    omega
  unfold State.badTele
  dsimp only
  rw [if_neg (by rw [htoken]; decide)]
  exact (if_neg hform).trans (if_pos (bne_iff_ne.mpr hcheck))

/-- The registers a discard writes. -/
def discardRegs (why : Nat) : List Nat :=
  if why = 5 then [] else if why = 4 then [SN_STAT] else if why = 6 then [SN_RXERR, SYS_ICHK0, HST_ISRC, ONX_LOST] else [SN_RXERR]

theorem integrity_shows {step isl addr resp : Nat} (hi : HST_ISRC ∈ l) (ho : ONX_LOST ∈ l) : RegWork l s (s.integrity step isl addr resp)
    ∧ (s.integrity step isl addr resp).flag HST_ISRC.INTEG = true ∧ ∀ f : Fld, f.addr ≠ HST_ISRC → f.addr ≠ ONX_LOST → (s.integrity step isl addr resp).get f = s.get f := by
  have htrig : RegWork l s (s.trigNow 2 step isl (W addr) (W resp)) := regWork_trigger ho
  have hkept : RegWork [ONX_LOST] s (s.trigNow 2 step isl (W addr) (W resp)) := regWork_trigger (List.mem_singleton_self _)
  unfold State.integrity
  generalize s.trigNow 2 step isl (W addr) (W resp) = z at *
  refine ⟨htrig.put hi, State.flag_raise_same rfl, fun f hf hlost => ?_⟩
  exact (State.get_put_other rfl (Fld.apart_of_addr hf)).trans (hkept.get (List.mem_singleton.not.mpr hlost))

/-- What a discard shows. -/
def DiscardShows (why : Nat) (s t : State) : Prop :=
  (why = 0 → CountsUp SN_RXERR.MAC s t) ∧ (why = 1 → CountsUp SN_RXERR.STRANGER s t) ∧ (why = 2 → CountsUp SN_RXERR.FMT s t)
    ∧ (why = 3 ∨ why = 6 → CountsUp SN_RXERR.CRC s t) ∧ (why = 4 → t.flag SN_STAT.IDCONF = true)
    ∧ (why = 6 → CountsUp SYS_ICHK0.FAIL s t ∧ t.flag HST_ISRC.INTEG = true) ∧ RegsKeptBut (discardRegs why) s t ∧ MemKept s t

/-- A word on its way into SRAM fails. -/
theorem tagDiscard_shows : DiscardShows 6 s (settle (((s.inc SN_RXERR.CRC).inc SYS_ICHK0.FAIL).integrity 7 22 0 0)) := by
  have hwork : RegWork [SN_RXERR, SYS_ICHK0, HST_ISRC, ONX_LOST] s ((s.inc SN_RXERR.CRC).inc SYS_ICHK0.FAIL) := (RegWork.refl.put (by decide)).put (by decide)
  have hcrc : CountsUp SN_RXERR.CRC s ((s.inc SN_RXERR.CRC).inc SYS_ICHK0.FAIL) :=
    (countsUp_inc rfl rfl).of_get_eq (State.get_inc_other rfl rfl)
  have hfail : CountsUp SYS_ICHK0.FAIL s ((s.inc SN_RXERR.CRC).inc SYS_ICHK0.FAIL) := countsUp_inc rfl (State.get_inc_other rfl rfl)
  generalize (s.inc SN_RXERR.CRC).inc SYS_ICHK0.FAIL = u at *
  obtain ⟨hinteg, hflag, hget⟩ := integrity_shows (s := u) (l := [SN_RXERR, SYS_ICHK0, HST_ISRC, ONX_LOST]) (step := 7) (isl := 22) (addr := 0) (resp := 0) (by decide) (by decide)
  generalize u.integrity 7 22 0 0 = t at *
  refine ⟨nofun, nofun, nofun, fun _ => countsUp_settle.mpr (hcrc.of_get_eq (hget _ (by decide) (by decide))), nofun, fun _ => ⟨?_, ?_⟩, (hwork.trans hinteg).settled.kept⟩
  · exact countsUp_settle.mpr (hfail.of_get_eq (hget _ (by decide) (by decide)))
  · exact State.flag_settle.trans hflag

theorem discard_shows (why : Fin 7) : DiscardShows why s (settle (s.discard why)) := by
  have hcount {f : Fld} (hok : f.ok = true) (haddr : f.addr = SN_RXERR) := rxerr_counts (s := s) hok haddr
  obtain ⟨why, hwhy⟩ := why
  match why, hwhy with
  | 0, _ => exact ⟨fun _ => (hcount rfl rfl).1, nofun, nofun, nofun, nofun, nofun, (hcount rfl rfl).2⟩
  | 1, _ => exact ⟨nofun, fun _ => (hcount rfl rfl).1, nofun, nofun, nofun, nofun, (hcount rfl rfl).2⟩
  | 2, _ => exact ⟨nofun, nofun, fun _ => (hcount rfl rfl).1, nofun, nofun, nofun, (hcount rfl rfl).2⟩
  | 3, _ => exact ⟨nofun, nofun, nofun, fun _ => (hcount rfl rfl).1, nofun, nofun, (hcount rfl rfl).2⟩
  | 4, _ =>
    have hwork : RegWork [SN_STAT] s (s.putB SN_STAT.IDCONF true) := RegWork.refl.putB (by decide)
    exact ⟨nofun, nofun, nofun, nofun, fun _ => State.flag_settle.trans (State.flag_putB_same rfl), nofun, hwork.settled.kept⟩
  | 5, _ => exact ⟨nofun, nofun, nofun, nofun, nofun, nofun, (RegWork.refl (s := s)).settled.kept⟩
  | 6, _ => exact tagDiscard_shows

theorem datagramDiscard_leaves (hup : s.up = true) (hon : s.snOn = true) {why : Fin 7} : Completes (.datagramDiscard why) s (DiscardShows why s) := by
  refine completes_of_exec (o := execDatagramDiscard why s) rfl (act_ends hup ?_)
  rw [if_pos hon]
  exact discard_shows why

/-! ### Other telegrams, and requests refused (R376) -/

theorem otherTelegramRx_heard (hkind : k ∈ [1, 4, 5, 8]) (h : s.hears k m) : Completes (.otherTelegramRx m) s (fun t =>
    CountsUp SN_RXCNT.OK s t ∧ RegsKeptBut [SN_RXCNT] s t ∧ MemKept s t) := by
  refine completes_of_exec (o := execOtherTelegramRx m s) rfl (act_ends h.1 ?_)
  have hin : [1, 4, 5, 7, 8].contains k = true := by
    simp only [List.mem_cons, List.not_mem_nil, or_false] at hkind
    obtain rfl | rfl | rfl | rfl := hkind <;> rfl
  have hseven : hdrType m ≠ 7 := by
    rw [h.2.2.2.1]
    rintro rfl
    exact absurd hkind (by decide)
  obtain ⟨u, hu, hrun⟩ := State.receive_heard
    (F := fun s => if hdrType m == 7 && (reqOp m == 0 || reqOp m > 5) then s.request m SN_MSRC.EN else s) h hin
  rw [hrun, if_neg (by rw [beq_false_of_ne hseven]; exact Bool.false_ne_true)]
  exact ⟨countsUp_settle.mpr hu.counts, hu.work.settled.kept⟩

/-- Registers of a source, which no telegram received changes. -/
theorem Heard.mgmtSource (h : Heard s u) : u.mgmtSource src = s.mgmtSource src := by
  have hreg : ∀ n < 16, u.reg (SN_MSRC n) = s.reg (SN_MSRC n) := fun n hn => h.regs _ (by show 0o40120070 + n ≠ 0o40120121; omega)
  unfold State.mgmtSource
  refine List.find?_congr fun n hn => ?_
  have heq := hreg n (List.mem_range.mp hn)
  rw [flag_of_reg_eq (f := SN_MSRC.EN n) heq, get_of_reg_eq (f := SN_MSRC.SRCID n) heq]

theorem mgmtSource_lt (h : s.mgmtSource src = some n) : n < 16 := List.mem_range.mp (List.mem_of_find?_eq_some h)

theorem Heard.reqShare (h : Heard s u) : u.reqShare m = s.reqShare m := by
  have hrole : u.get JL_STAT.ROLE = s.get JL_STAT.ROLE := h.get (by decide)
  have hpstate : u.pstate = s.pstate := h.get (by decide)
  have hepoch : u.reg JL_EPOCH = s.reg JL_EPOCH := h.regs _ (by decide)
  unfold State.reqShare
  rw [hrole, hpstate, hepoch]

/-- A permission bit of a source. -/
def PermBit (perm : Nat → Fld) : Prop := ∀ n < 16, (perm n).addr ≠ SN_RXCNT

theorem permBit_msrc : PermBit SN_MSRC.ARM ∧ PermBit SN_MSRC.CMD ∧ PermBit SN_MSRC.READ ∧ PermBit SN_MSRC.EN := by
  have hne (n : Nat) (hn : n < 16) : 0o40120070 + n ≠ 0o40120121 := by omega
  exact ⟨hne, hne, hne, hne⟩

/-- A request that this unit is to execute runs its operation. -/
theorem State.request_runs (h : s.executes op perm m) (hperm : PermBit perm) (hu : Heard s u) : u.request m perm = u.reqRun m := by
  obtain ⟨-, -, htarget, ⟨n, hsource, hallowed⟩, hshare, -⟩ := h
  have hmine : ¬(fld (hdr m 7) 31 0 != u.get SN_ID.NID && !(fld (hdr m 7) 31 0 == 0 && reqOp m == 1)) = true := by
    rw [htarget, hu.get (f := SN_ID.NID) (by decide), bne_self_eq_false, Bool.false_and]
    exact Bool.false_ne_true
  have hbit : u.flag (perm n) = true := (hu.flag (hperm n (mgmtSource_lt hsource))).trans hallowed
  have hone : u.reqShare m = 1 := hu.reqShare.trans hshare
  unfold State.request
  dsimp only
  rw [if_neg hmine, hu.mgmtSource, hsource, hone]
  dsimp only
  rw [if_neg (by decide), hbit, if_neg (by decide), if_neg (by decide), if_neg (by decide)]

theorem State.requestRx_runs (h : s.executes op perm m) (hperm : PermBit perm) : ∃ u, Heard s u ∧ s.requestRx op m perm = u.reqRun m := by
  have hhears := h.1
  obtain ⟨u, hu, hrun⟩ := State.receive_heard (types := [7]) (F := fun s => if reqOp m == op then s.request m perm else s) hhears (by decide)
  refine ⟨u, hu, ?_⟩
  unfold State.requestRx
  rw [hrun, if_pos (beq_iff_eq.mpr h.2.1), State.request_runs h hperm hu]

theorem requestReadRx_denied (h : s.hears 7 m) (hop : reqOp m = 4) (htarget : fld (hdr m 7) 31 0 = s.get SN_ID.NID) (hnone : s.mgmtSource (hdrSrc m) = none) :
    Completes (.requestReadRx m) s (fun t => CountsUp SN_MCNT.DENIED s t ∧ RegsKeptBut [SN_RXCNT, SN_MCNT] s t ∧ MemKept s t) := by
  refine completes_of_exec (o := execRequestReadRx m s) rfl (act_ends h.1 ?_)
  obtain ⟨u, hu, hrun⟩ := State.receive_heard (types := [7]) (F := fun s => if reqOp m == 4 then s.request m SN_MSRC.READ else s) h (by decide)
  have hmine : ¬(fld (hdr m 7) 31 0 != u.get SN_ID.NID && !(fld (hdr m 7) 31 0 == 0 && reqOp m == 1)) = true := by
    rw [htarget, hu.get (f := SN_ID.NID) (by decide), bne_self_eq_false, Bool.false_and]
    exact Bool.false_ne_true
  have hrequest : u.request m SN_MSRC.READ = u.inc SN_MCNT.DENIED := by
    unfold State.request
    dsimp only
    rw [if_neg hmine, hu.mgmtSource, hnone]
  have hwork : RegWork [SN_RXCNT, SN_MCNT] s (u.inc SN_MCNT.DENIED) := (hu.work.mono (by decide)).put (by decide)
  unfold State.requestRx
  rw [hrun, if_pos (beq_iff_eq.mpr hop), hrequest]
  exact ⟨countsUp_settle.mpr (countsUp_inc rfl (hu.get (by decide))), hwork.settled.kept⟩

/-! ### Requests executed (R366, R367, R377) -/

theorem State.reqRun_op (hrole : reqRole m ≠ 3) : s.reqRun m = match reqOp m with
    | 1 => s.netArm m
    | 2 => s.almQueue ⟨hdr m 8, false, 1, reqId m, hdrSrc m, reqGrp m⟩
    | 3 => if s.flag OPL_CFG.NETACC then s.oplQueue ⟨hdr m 8, false, 1, reqId m, hdrSrc m, reqGrp m⟩ else s.reply m 2 []
    | 4 => if (hdr m 8).toNat ≥ 2 ^ 24 || (hdr m 9).toNat == 0 || (hdr m 9).toNat > 64 then s.reply m 4 []
        else (s.sramFetch 22 ((List.range (hdr m 9).toNat).map ((hdr m 8).toNat + ·))).reply m 0 (s.netRead (hdr m 8).toNat (hdr m 9).toNat)
    | 5 => if (hdr m 9).toNat == 0 || (hdr m 9).toNat > 8 || fld (hdr m 8) 15 0 + (hdr m 9).toNat > (if wbit (hdr m 8) 35 then 16384 else 4096)
          || !s.flag ONX_STAT.READY then s.reply m 4 []
        else s.reply m 0 (s.netRecords (wbit (hdr m 8) 35) (fld (hdr m 8) 15 0) (hdr m 9).toNat)
    | _ => s.reply m 3 [] := by
  unfold State.reqRun
  exact if_neg (by rw [beq_iff_eq]; exact hrole)

theorem Heard.replays (h : Heard s u) : u.replays = s.replays := replays_of_reg_eq (h.regs _ (by decide))

theorem Heard.almRuns (h : Heard s u) : u.almRuns = s.almRuns := by
  unfold State.almRuns
  rw [h.life, h.img]

theorem State.almQueue_net (hruns : s.almRuns = true) (hown : s.replays = false) (hroom : s.alm.cmds.length < 16) {y : EngCmd} (hvia : y.via = 1) :
    s.almQueue y = { s with alm := { s.alm with cmds := s.alm.cmds ++ [y] } } := by
  have hnet : ¬(y.via == 0 || y.via == 4) = true := by rw [hvia]; decide
  unfold State.almQueue
  dsimp only
  simp only [if_neg hnet]
  rw [if_neg (by rw [hruns]; decide), if_neg (by rw [hown]; decide), if_neg (Nat.not_le.mpr hroom)]

theorem State.oplQueue_net (hruns : s.almRuns = true) (hown : s.replays = false) (hroom : s.opl.cmds.length < 8) {y : EngCmd} (hvia : y.via = 1) :
    s.oplQueue y = { s with opl := { s.opl with cmds := s.opl.cmds ++ [y] } } := by
  have hnet : ¬(y.via == 0) = true := by rw [hvia]; decide
  unfold State.oplQueue
  dsimp only
  simp only [if_neg hnet]
  rw [if_neg (by rw [hruns]; decide), if_neg (by rw [hown]; decide), if_neg (Nat.not_le.mpr hroom)]

theorem requestAlmcmdRx_leaves (h : s.executes 2 SN_MSRC.CMD m) (hcmd : s.commands) (hroom : s.alm.cmds.length < 16) : Completes (.requestAlmcmdRx m) s (fun t =>
    t.alm.cmds = s.alm.cmds ++ [⟨hdr m 8, false, 1, reqId m, hdrSrc m, reqGrp m⟩] ∧ RegsKeptBut [SN_RXCNT] s t ∧ MemKept s t) := by
  obtain ⟨hup, hruns, hown⟩ := hcmd
  refine completes_of_exec (o := execRequestAlmcmdRx m s) rfl (act_ends hup ?_)
  obtain ⟨u, hu, hrun⟩ := State.requestRx_runs h permBit_msrc.2.1
  obtain ⟨-, hop, -, -, -, hrole⟩ := h
  have hqueue : u.reqRun m = u.almQueue ⟨hdr m 8, false, 1, reqId m, hdrSrc m, reqGrp m⟩ := by
    rw [State.reqRun_op hrole, hop]
    rfl
  rw [hrun, hqueue, State.almQueue_net (hu.almRuns.trans hruns) (hu.replays.trans hown) (by rw [hu.alm]; exact hroom) rfl]
  refine ⟨by rw [← hu.alm]; rfl, fun a ha => hu.work.regs a ha, memKept_of_mem_eq hu.mem⟩

theorem requestOplcmdRx_leaves (h : s.executes 3 SN_MSRC.CMD m) (hacc : s.flag OPL_CFG.NETACC = true) (hcmd : s.commands) (hroom : s.opl.cmds.length < 8) :
    Completes (.requestOplcmdRx m) s (fun t =>
      t.opl.cmds = s.opl.cmds ++ [⟨hdr m 8, false, 1, reqId m, hdrSrc m, reqGrp m⟩] ∧ RegsKeptBut [SN_RXCNT] s t ∧ MemKept s t) := by
  obtain ⟨hup, hruns, hown⟩ := hcmd
  refine completes_of_exec (o := execRequestOplcmdRx m s) rfl (act_ends hup ?_)
  obtain ⟨u, hu, hrun⟩ := State.requestRx_runs h permBit_msrc.2.1
  obtain ⟨-, hop, -, -, -, hrole⟩ := h
  have hqueue : u.reqRun m = u.oplQueue ⟨hdr m 8, false, 1, reqId m, hdrSrc m, reqGrp m⟩ := by
    rw [State.reqRun_op hrole, hop]
    exact if_pos ((hu.flag (by decide)).trans hacc)
  rw [hrun, hqueue, State.oplQueue_net (hu.almRuns.trans hruns) (hu.replays.trans hown) (by rw [hu.opl]; exact hroom) rfl]
  refine ⟨by rw [← hu.opl]; rfl, fun a ha => hu.work.regs a ha, memKept_of_mem_eq hu.mem⟩

/-! ### Requests answered (R367, R377) -/

theorem Heard.forms (h : Heard s u) (hs : Forms s) : Forms u := by
  have hpstate : u.pstate = s.pstate := h.get (by decide)
  have hdrives := hs.drives
  refine ⟨by rw [h.life]; exact hs.applied, (h.flag (by decide)).trans hs.txen, ?_, by rw [h.txPriv]; exact hs.priv, by rw [h.txOrd]; exact hs.ord⟩
  unfold State.drives at hdrives ⊢
  rw [hpstate, h.img]
  exact hdrives

theorem Heard.formsOrd (h : Heard s u) (hforms : FormsOrd u t typ grp body) : FormsOrd s t typ grp body := by
  obtain ⟨x, hqueue, ⟨hpriv, hgrp, htyp, hbit, hat, hhurt, hnid, hseq, hsec, hmicro, hbody⟩, hother⟩ := hforms
  have hlag : u.lag = s.lag := by
    unfold State.lag
    rw [h.replays]
  have hw0 : u.wts0 = s.wts0 := by
    unfold State.wts0 State.micros
    rw [h.t, hlag]
  have hw1 : u.wts1 = s.wts1 := by
    have htrust : u.flag TIM_DSTAT.TRUST = s.flag TIM_DSTAT.TRUST := h.flag (by decide)
    have hpart : u.flag JL_STAT.PART = s.flag JL_STAT.PART := h.flag (by decide)
    unfold State.wts1 State.micros
    rw [h.t, hlag, htrust, hpart]
  have hid : u.get SN_ID.NID = s.get SN_ID.NID := h.get (by decide)
  rw [h.t] at hat
  rw [hid] at hnid
  rw [h.seqU] at hseq
  rw [hw0] at hsec
  rw [hw1] at hmicro
  rw [h.txOrd] at hqueue
  rw [h.txPriv] at hother
  exact ⟨x, hqueue, ⟨hpriv, hgrp, htyp, hbit, hat, hhurt, hnid, hseq, hsec, hmicro, hbody⟩, hother⟩

theorem Tells.refl : Tells s s := ⟨fun _ => rfl, rfl, rfl, rfl, rfl, rfl, rfl, rfl⟩

/-- A request answered with words. -/
theorem Heard.answers (h : Heard s u) (hs : Forms s) (hop : reqOp m = op) (hone : op ≠ 1) :
    FormsOrd s (settle (u.reply m 0 body)) 8 (reqGrp m) (W (op <<< 32 + reqId m <<< 16) :: W (hdrSrc m) :: body)
      ∧ RegsKeptBut [SN_RXCNT] s (settle (u.reply m 0 body)) ∧ MemKept s (settle (u.reply m 0 body)) := by
  have hreply : u.reply m 0 body = u.formTele 8 false (reqGrp m) body.length (W (op <<< 32 + reqId m <<< 16) :: W (hdrSrc m) :: body) := by
    have hresult : op <<< 32 + reqId m <<< 16 + 0 <<< 12 = op <<< 32 + reqId m <<< 16 := by rw [Nat.zero_shiftLeft, Nat.add_zero]
    have hanswer : ¬(op == 1) = true := by
      rw [beq_iff_eq]
      exact hone
    have hdone : ¬(0 == 1) = true ∧ ¬(0 == 3 || 0 == 4) = true := by decide
    unfold State.reply
    dsimp only
    rw [hop, if_neg hanswer, if_neg hdone.1, if_neg hdone.2]
    unfold State.respond
    rw [hresult]
  rw [hreply]
  generalize W (op <<< 32 + reqId m <<< 16) = w
  obtain ⟨hforms, hkept⟩ := formsOrd_formTele (s := u) (typ := 8) (grp := reqGrp m) (count := body.length) (body := w :: W (hdrSrc m) :: body) (h.forms hs) Tells.refl (by decide)
  obtain ⟨hregs, hmem⟩ := hkept
  exact ⟨h.formsOrd hforms, fun a ha => (hregs a).trans (h.work.regs a ha), (memKept_of_mem_eq h.mem).trans hmem⟩

theorem State.forms_of_mayForm (h : s.mayForm) : Forms s := by
  obtain ⟨-, -, happlied, htxen, hdrives, hpriv, hord⟩ := h
  exact ⟨happlied, htxen, hdrives, hpriv, hord⟩

theorem Heard.peek_sram (h : Heard s u) (hs : isSram a = true) : u.peek a = s.peek a := by
  have halive (i : Nat) : u.alive i = s.alive i := by
    unfold State.alive State.bitOf
    rw [h.get (f := SYS_ISTAT.ALIVE) (by decide)]
  have hdeaf : u.deaf a = s.deaf a := by
    unfold State.deaf
    rw [h.mem]
    simp only [halive]
  have hpoison : u.sramPoison a = s.sramPoison a := by
    unfold State.sramPoison
    rw [h.mem]
  unfold State.peek State.readWord
  rw [if_pos hs, if_pos hs, hdeaf, hpoison, h.sramAt]

theorem requestReadRx_leaves (h : s.executes 4 SN_MSRC.READ m) (hs : s.mayForm) (hlow : (hdr m 8).toNat < 2 ^ 24) (hsome : (hdr m 9).toNat ≠ 0)
    (hfew : (hdr m 9).toNat ≤ 64) (hgood : ∀ i, i < (hdr m 9).toNat → s.sramPoison ((hdr m 8).toNat + i) = false) : Completes (.requestReadRx m) s (fun t =>
      (∃ data, FormsOrd s t 8 (reqGrp m) (W (4 <<< 32 + reqId m <<< 16) :: W (hdrSrc m) :: data) ∧ data.length = (hdr m 9).toNat
        ∧ ∀ i, i < (hdr m 9).toNat → isSram ((hdr m 8).toNat + i) = true → data.getD i 0 = (s.peek ((hdr m 8).toNat + i)).getD 0)
      ∧ RegsKeptBut [SN_RXCNT] s t ∧ MemKept s t) := by
  refine completes_of_exec (o := execRequestReadRx m s) rfl (act_ends hs.1 ?_)
  obtain ⟨u, hu, hrun⟩ := State.requestRx_runs h permBit_msrc.2.2.1
  obtain ⟨-, hop, -, -, -, hrole⟩ := h
  have hclean : u.sramFetch 22 ((List.range (hdr m 9).toNat).map ((hdr m 8).toNat + ·)) = u := by
    refine State.sramFetch_clean fun a ha => ?_
    rw [List.mem_map] at ha
    obtain ⟨i, hi, rfl⟩ := ha
    unfold State.sramPoison
    rw [hu.mem]
    exact hgood i (List.mem_range.mp hi)
  have hgo : ¬(decide ((hdr m 8).toNat ≥ 2 ^ 24) || (hdr m 9).toNat == 0 || decide ((hdr m 9).toNat > 64)) = true := by
    rw [decide_eq_false (Nat.not_le.mpr hlow), beq_false_of_ne hsome, decide_eq_false (Nat.not_lt.mpr hfew)]
    decide
  have hreply : u.reqRun m = u.reply m 0 (u.netRead (hdr m 8).toNat (hdr m 9).toNat) := by
    rw [State.reqRun_op hrole, hop]
    refine (if_neg hgo).trans ?_
    rw [hclean]
  have hlen : (u.netRead (hdr m 8).toNat (hdr m 9).toNat).length = (hdr m 9).toNat := by
    unfold State.netRead
    rw [List.length_map, List.length_range]
  obtain ⟨hforms, hkept⟩ := hu.answers (body := u.netRead (hdr m 8).toNat (hdr m 9).toNat) (State.forms_of_mayForm hs) hop (by decide)
  rw [hrun, hreply]
  refine ⟨⟨_, hforms, hlen, fun i hi hsram => ?_⟩, hkept⟩
  unfold State.netRead
  rw [List.getD_eq_getElem _ _ (by rw [List.length_map, List.length_range]; exact hi), List.getElem_map, List.getElem_range, hu.peek_sram hsram]

theorem State.netRecords_eq (hmem : u.mem = s.mem) : u.netRecords x a n = s.netRecords x a n := by
  have hat (b : Nat) : u.mramAt b = s.mramAt b := by
    unfold State.mramAt
    rw [hmem]
  unfold State.netRecords State.slotWords State.mramWords
  simp only [hat]

theorem requestReadrecRx_leaves (h : s.executes 5 SN_MSRC.READ m) (hs : s.mayForm) (hready : s.flag ONX_STAT.READY = true) (hsome : (hdr m 9).toNat ≠ 0)
    (hfew : (hdr m 9).toNat ≤ 8) (hfits : fld (hdr m 8) 15 0 + (hdr m 9).toNat ≤ (if wbit (hdr m 8) 35 then 16384 else 4096)) :
    Completes (.requestReadrecRx m) s (fun t => FormsOrd s t 8 (reqGrp m) (W (5 <<< 32 + reqId m <<< 16) :: W (hdrSrc m)
      :: s.netRecords (wbit (hdr m 8) 35) (fld (hdr m 8) 15 0) (hdr m 9).toNat) ∧ RegsKeptBut [SN_RXCNT] s t ∧ MemKept s t) := by
  refine completes_of_exec (o := execRequestReadrecRx m s) rfl (act_ends hs.1 ?_)
  obtain ⟨u, hu, hrun⟩ := State.requestRx_runs h permBit_msrc.2.2.1
  obtain ⟨-, hop, -, -, -, hrole⟩ := h
  have hgo : ¬((hdr m 9).toNat == 0 || decide ((hdr m 9).toNat > 8) || decide (fld (hdr m 8) 15 0 + (hdr m 9).toNat > (if wbit (hdr m 8) 35 then 16384 else 4096))
      || !u.flag ONX_STAT.READY) = true := by
    rw [beq_false_of_ne hsome, decide_eq_false (Nat.not_lt.mpr hfew), decide_eq_false (Nat.not_lt.mpr hfits), hu.flag (by decide), hready]
    decide
  have hreply : u.reqRun m = u.reply m 0 (s.netRecords (wbit (hdr m 8) 35) (fld (hdr m 8) 15 0) (hdr m 9).toNat) := by
    rw [State.reqRun_op hrole, hop, ← State.netRecords_eq hu.mem]
    exact if_neg hgo
  rw [hrun, hreply]
  exact hu.answers (State.forms_of_mayForm hs) hop (by decide)

/-! ### A telegram formed on the way (R368, R372) -/

/-- A telegram of the unit's own space formed or not: the transmit count alone may change, and the mode domain's nodes stand. -/
structure FormsOn (s t : State) : Prop where
  work : RegWork [SN_TXCNT] s t
  dom : t.sn.dom = s.sn.dom

theorem FormsOn.refl : FormsOn s s := ⟨.refl, rfl⟩

theorem FormsOn.trans (h : FormsOn s t) (h' : FormsOn t u) : FormsOn s u := ⟨h.work.trans h'.work, h'.dom.trans h.dom⟩

theorem FormsOn.ite {c : Prop} [Decidable c] (ht : FormsOn s t) (hu : FormsOn s u) : FormsOn s (if c then t else u) := by
  split
  · exact ht
  · exact hu

theorem formsOn_drop : FormsOn s (s.inc SN_TXCNT.DROP) := ⟨RegWork.refl.put (List.mem_singleton_self _), congrArg (fun m => m.dom) State.sn_inc⟩

theorem formsOn_formTele : FormsOn s (s.formTele typ false grp count body) := by
  have hsn : ∀ (z : State) (y : SnS), y.dom = z.sn.dom → FormsOn z { z with sn := y } := fun _ _ h => ⟨⟨fun _ _ => rfl, rfl⟩, h⟩
  unfold State.formTele
  dsimp only
  refine .ite .refl ?_
  rw [Bool.false_and]
  split
  · exact .refl
  · simp only [Bool.false_eq_true, if_false]
    have hseq := hsn s { s.sn with seqU := (s.sn.seqU + 1) % 2 ^ 32 } rfl
    exact .ite hseq (.ite (hseq.trans formsOn_drop) (hseq.trans (hsn _ _ rfl)))

theorem otherTelegramRx_badop (h : s.executes (reqOp m) SN_MSRC.EN m) (hop : reqOp m = 0 ∨ 5 < reqOp m) : Completes (.otherTelegramRx m) s (fun t =>
    CountsUp SN_MCNT.BADOP s t ∧ MemKept s t) := by
  have hheard := h.1
  refine completes_of_exec (o := execOtherTelegramRx m s) rfl (act_ends hheard.1 ?_)
  obtain ⟨u, hu, hrun⟩ := State.receive_heard
    (F := fun s => if hdrType m == 7 && (reqOp m == 0 || reqOp m > 5) then s.request m SN_MSRC.EN else s) hheard (types := [1, 4, 5, 7, 8]) (by decide)
  have hinvalid : (hdrType m == 7 && (reqOp m == 0 || decide (reqOp m > 5))) = true := by
    rw [hheard.2.2.2.1]
    obtain h0 | h5 := hop
    · rw [h0]
      rfl
    · rw [decide_eq_true h5, Bool.or_true]
      rfl
  have hanswer : ¬(reqOp m == 1) = true := by
    rw [beq_iff_eq]
    omega
  have hreply : u.reqRun m = (u.inc SN_MCNT.BADOP).respond (reqOp m) (reqId m) 3 (hdrSrc m) (reqGrp m) [] := by
    have hbadop : u.reqRun m = u.reply m 3 [] := by
      rw [State.reqRun_op h.2.2.2.2.2]
      split
      next heq => omega
      next heq => omega
      next heq => omega
      next heq => omega
      next heq => omega
      next => rfl
    have hdone : ¬(3 == 1) = true ∧ (3 == 3 || 3 == 4) = true := by decide
    rw [hbadop]
    unfold State.reply
    dsimp only
    rw [if_neg hanswer, if_neg hdone.1, if_pos hdone.2]
  have hcount : CountsUp SN_MCNT.BADOP s (u.inc SN_MCNT.BADOP) := countsUp_inc rfl (hu.get (by decide))
  have hmem : (u.inc SN_MCNT.BADOP).mem = s.mem := State.mem_inc.trans hu.mem
  have hforms : FormsOn (u.inc SN_MCNT.BADOP) ((u.inc SN_MCNT.BADOP).respond (reqOp m) (reqId m) 3 (hdrSrc m) (reqGrp m) []) := formsOn_formTele
  rw [hrun, if_pos hinvalid, State.request_runs h permBit_msrc.2.2.2 hu, hreply]
  generalize u.inc SN_MCNT.BADOP = z at *
  exact ⟨countsUp_settle.mpr (hcount.of_get_eq (hforms.work.get (by decide))), (memKept_of_mem_eq hmem).trans hforms.work.settled.kept.2⟩

/-! ### An arm over the network (R72, R366) -/

/-- The arm that a request carries. -/
def netArmOf (m : List Word) : Arm :=
  ⟨hdr m 8, hdr m 9, fld (hdr m 10) 35 32, fld (hdr m 10) 31 30, fld (hdr m 10) 29 14, hdrSrc m % 65536, true, 8, false⟩

theorem State.netArm_eq (hdom : fld (hdr m 0) 20 13 = s.get TIM_MDOM.DOMAIN) (htrust : s.flag TIM_DSTAT.TRUST = true) : s.netArm m =
    if (s.arm (netArmOf m)).2 && s.pstate == 2 then (s.arm (netArmOf m)).1.sendRec ⟨11, s.ph, 0, [hdr m 8, hdr m 9, hdr m 10]⟩ else (s.arm (netArmOf m)).1 := by
  unfold State.netArm
  dsimp only
  rw [if_neg (by rw [hdom, bne_self_eq_false]; decide), if_neg (by rw [htrust]; decide)]
  rfl

theorem admits_netArm (hlow : 2 ≤ fld (hdr m 10) 35 32) (hhigh : fld (hdr m 10) 35 32 ≤ 5) (hscope : fld (hdr m 10) 31 30 ≠ 3) : s.Admits (netArmOf m) :=
  ⟨hscope, argOk_of_range hlow hhigh, fun h => absurd h (by simp only [netArmOf]; omega), fun h => absurd h (by simp only [netArmOf]; omega)⟩

theorem Heard.slotFor (h : Heard s u) : u.slotFor a = s.slotFor a := by
  have hreg : ∀ n < 16, u.reg (TIM_SLOT_W1 n) = s.reg (TIM_SLOT_W1 n) := fun n hn => h.regs _ (by show 0o40010101 + 2 * n ≠ 0o40120121; omega)
  have harm : ∀ n < 16, u.armedSlot n = s.armedSlot n := fun n hn => congrArg (· == 1) (get_of_reg_eq (f := TIM_SLOT_W1.STATE n) (hreg n hn))
  have hact : ∀ n < 16, u.get (TIM_SLOT_W1.ACTION n) = s.get (TIM_SLOT_W1.ACTION n) := fun n hn => get_of_reg_eq (hreg n hn)
  have hsame : (List.range 16).find? (fun n => u.armedSlot n && u.get (TIM_SLOT_W1.ACTION n) == a)
      = (List.range 16).find? (fun n => s.armedSlot n && s.get (TIM_SLOT_W1.ACTION n) == a) :=
    List.find?_congr fun n hn => by rw [harm n (List.mem_range.mp hn), hact n (List.mem_range.mp hn)]
  have hfree : (List.range 16).find? (fun n => !u.armedSlot n) = (List.range 16).find? (fun n => !s.armedSlot n) :=
    List.find?_congr fun n hn => by rw [harm n (List.mem_range.mp hn)]
  unfold State.slotFor
  rw [hsame, hfree]

/-- The word of the slot of an arm received. -/
theorem netArmOf_word (hlow : 2 ≤ fld (hdr m 10) 35 32) : fld (netArmOf m).word 13 11 = 1 ∧ fld (netArmOf m).word 35 32 = fld (hdr m 10) 35 32 := by
  have haction : fld (hdr m 10) 35 32 < 16 := bits_lt
  have hscope : fld (hdr m 10) 31 30 < 4 := bits_lt
  have hword : (netArmOf m).word = W (fld (hdr m 10) 35 32 * 2 ^ 32 + fld (hdr m 10) 31 30 * 2 ^ 30 + 2 ^ 11 + 2 ^ 10) := by
    have hzero : ¬(fld (hdr m 10) 35 32 == 0) = true := by
      rw [beq_iff_eq]
      omega
    unfold Arm.word netArmOf
    dsimp only
    rw [if_neg hzero]
    generalize fld (hdr m 10) 35 32 = action
    generalize fld (hdr m 10) 31 30 = scope
    refine congrArg W ?_
    simp only [Nat.shiftLeft_eq, Bool.toNat_true]
    omega
  rw [hword, fld_W (by omega), fld_W (by omega)]
  exact ⟨by omega, by omega⟩

theorem slotArmed_reads (haction : a ≠ 0) {y : Arm} (hy : y.action = a) : (s.armed n y x).reg (TIM_SLOT_W0 n) = y.target ∧ (s.armed n y x).reg (TIM_SLOT_W1 n) = y.word
    ∧ (s.armed n y x).t.slotArg.getD n 0 = y.arg ∧ RegWork [TIM_SLOT_W0 n, TIM_SLOT_W1 n, TIM_LSTAT] s (s.armed n y x) := by
  have hpend : (s.slotFilled n y).pendShown y = s.slotFilled n y := if_neg (by rw [hy, beq_iff_eq]; exact haction)
  have harmed : s.armed n y x = (s.slotFilled n y).armResult (if x then 1 else 0) n := by
    unfold State.armed
    rw [hpend]
  have h0 : TIM_SLOT_W0 n ≠ TIM_LSTAT := by
    show 0o40010100 + 2 * n ≠ 0o40010023
    omega
  have h1 : TIM_SLOT_W1 n ≠ TIM_LSTAT := by
    show 0o40010101 + 2 * n ≠ 0o40010023
    omega
  have hslot : RegWork [TIM_SLOT_W0 n, TIM_SLOT_W1 n, TIM_LSTAT] s (s.slotFilled n y) := by
    refine ⟨fun b hb => ?_, State.mem_slotFilled⟩
    simp only [List.mem_cons, List.not_mem_nil, or_false, not_or] at hb
    exact (State.reg_setReg_other (s := s.setReg (TIM_SLOT_W0 n) y.target) hb.2.1).trans (State.reg_setReg_other hb.1)
  have hlstat : TIM_LSTAT ∈ [TIM_SLOT_W0 n, TIM_SLOT_W1 n, TIM_LSTAT] := by simp
  rw [harmed, State.reg_armResult h0, State.reg_armResult h1, State.t_armResult]
  exact ⟨State.reg_slotFilled_w0, State.reg_slotFilled_w1, State.slotArg_slotFilled, (hslot.put hlstat).put hlstat⟩

theorem requestArmRx_leaves (h : s.executes 1 SN_MSRC.ARM m) (hdom : fld (hdr m 0) 20 13 = s.get TIM_MDOM.DOMAIN) (htrust : s.flag TIM_DSTAT.TRUST = true)
    (hlow : 2 ≤ fld (hdr m 10) 35 32) (hhigh : fld (hdr m 10) 35 32 ≤ 5) (hscope : fld (hdr m 10) 31 30 ≠ 3) (htarget : targetTest (hdr m 8) s.t.beat 8 = 0)
    (hslot : s.slotFor (fld (hdr m 10) 35 32) = some (n, x)) : Completes (.requestArmRx m) s (fun t => t.reg (TIM_SLOT_W0 n) = hdr m 8
      ∧ t.get (TIM_SLOT_W1.STATE n) = 1 ∧ t.get (TIM_SLOT_W1.ACTION n) = fld (hdr m 10) 35 32 ∧ t.t.slotArg.getD n 0 = hdr m 9
      ∧ RegsKeptBut [SN_RXCNT, TIM_SLOT_W0 n, TIM_SLOT_W1 n, TIM_LSTAT] s t ∧ MemKept s t) := by
  refine completes_of_exec (o := execRequestArmRx m s) rfl (act_ends h.1.1 ?_)
  obtain ⟨u, hu, hrun⟩ := State.requestRx_runs h permBit_msrc.1
  obtain ⟨-, hop, -, -, -, hrole⟩ := h
  have harm : u.arm (netArmOf m) = (u.armed n (netArmOf m) x, true) :=
    State.arm_takes (admits_netArm hlow hhigh hscope) (by rw [hu.t]; exact htarget) (hu.slotFor.trans hslot)
  have hnet : u.reqRun m = if u.pstate == 2 then (u.armed n (netArmOf m) x).sendRec ⟨11, u.ph, 0, [hdr m 8, hdr m 9, hdr m 10]⟩ else u.armed n (netArmOf m) x := by
    have hrun' : u.reqRun m = u.netArm m := by
      rw [State.reqRun_op hrole, hop]
      rfl
    rw [hrun', State.netArm_eq (hdom.trans (hu.get (by decide)).symm) ((hu.flag (by decide)).trans htrust), harm]
    dsimp only
    simp only [Bool.true_and]
  obtain ⟨hw0, hw1, harg, hwork⟩ := slotArmed_reads (s := u) (n := n) (x := x) (a := fld (hdr m 10) 35 32) (by omega) (y := netArmOf m) rfl
  obtain ⟨hstate, haction⟩ := netArmOf_word hlow
  have hget (f : Fld) (hf : f.addr = TIM_SLOT_W1 n) : (u.armed n (netArmOf m) x).get f = fld (netArmOf m).word f.hi f.lo := by
    unfold State.get
    rw [hf, hw1]
  have hst := hget (TIM_SLOT_W1.STATE n) rfl
  have hac := hget (TIM_SLOT_W1.ACTION n) rfl
  have hall : RegWork [SN_RXCNT, TIM_SLOT_W0 n, TIM_SLOT_W1 n, TIM_LSTAT] s (u.armed n (netArmOf m) x) :=
    (hu.work.mono (by simp)).trans (hwork.mono (List.subset_cons_self _ _))
  rw [hrun, hnet]
  generalize u.armed n (netArmOf m) x = z at *
  split
  · exact ⟨hw0, hst.trans hstate, hac.trans haction, harg, hall.settled.kept⟩
  · exact ⟨hw0, hst.trans hstate, hac.trans haction, harg, hall.settled.kept⟩

/-! ### The status of the mode domain (R76, R80, R378) -/

/-- The flags of a mismatch. -/
def mismatchFlds : List Fld := [TIM_MSTAT.NETMM, TIM_MSTAT.MISMATCH]

/-- The nodes, memory, the receive counts and the mismatch shown stand. -/
structure StatusKept (s t : State) : Prop where
  dom : t.sn.dom = s.sn.dom
  mem : t.mem = s.mem
  rx : t.reg SN_RXCNT = s.reg SN_RXCNT
  mm : ∀ f ∈ mismatchFlds, t.flag f = s.flag f

theorem StatusKept.refl : StatusKept s s := ⟨rfl, rfl, rfl, fun _ _ => rfl⟩

theorem StatusKept.trans (h : StatusKept s t) (h' : StatusKept t u) : StatusKept s u :=
  ⟨h'.dom.trans h.dom, h'.mem.trans h.mem, h'.rx.trans h.rx, fun f hf => (h'.mm f hf).trans (h.mm f hf)⟩

theorem StatusKept.ite {c : Prop} [Decidable c] (ht : StatusKept s t) (hu : StatusKept s u) : StatusKept s (if c then t else u) := by
  split
  · exact ht
  · exact hu

theorem mismatchFlds_addr (hf : f ∈ mismatchFlds) : f.addr = TIM_MSTAT := by
  simp only [mismatchFlds, List.mem_cons, List.not_mem_nil, or_false] at hf
  obtain rfl | rfl := hf <;> rfl

theorem statusKept_of_regWork (h : RegWork l s t) (hrx : SN_RXCNT ∉ l) (hmm : TIM_MSTAT ∉ l) (hdom : t.sn.dom = s.sn.dom) : StatusKept s t :=
  ⟨hdom, h.mem, h.regs _ hrx, fun _ hf => h.flag (mismatchFlds_addr hf ▸ hmm)⟩

theorem statusKept_reissued : StatusKept s (s.put TIM_MSTAT.REISSUED v) := by
  refine ⟨congrArg (fun m => m.dom) State.sn_put, State.mem_put, State.reg_put_other (by decide), fun _ hf => State.flag_put_other rfl ?_⟩
  simp only [mismatchFlds, List.mem_cons, List.not_mem_nil, or_false] at hf
  obtain rfl | rfl := hf <;> rfl

theorem FormsOn.statusKept (h : FormsOn s t) : StatusKept s t := statusKept_of_regWork h.work (by decide) (by decide) h.dom

theorem statusKept_sendRec {r : JRec} : StatusKept s (s.sendRec r) := statusKept_of_regWork (l := []) ⟨fun _ _ => rfl, rfl⟩ (by decide) (by decide) rfl

theorem statusKept_carryArm {y : Arm} : StatusKept s (s.carryArm y) := by
  unfold State.carryArm
  exact .ite (StatusKept.trans (.ite statusKept_sendRec .refl) formsOn_formTele.statusKept) (.ite statusKept_sendRec .refl)

theorem statusKept_armResult : StatusKept s (s.armResult n k) := by
  unfold State.armResult
  refine statusKept_of_regWork (l := [TIM_LSTAT]) ((RegWork.refl.put (by decide)).put (by decide)) (by decide) (by decide) ?_
  rw [State.sn_put, State.sn_put]

theorem statusKept_armed {y : Arm} (hn : n < 16) : StatusKept s (s.armed n y x) := by
  have h0 : SN_RXCNT ≠ TIM_SLOT_W0 n ∧ TIM_MSTAT ≠ TIM_SLOT_W0 n := by
    refine ⟨?_, ?_⟩
    · show 0o40120121 ≠ 0o40010100 + 2 * n
      omega
    · show 0o40010033 ≠ 0o40010100 + 2 * n
      omega
  have h1 : SN_RXCNT ≠ TIM_SLOT_W1 n ∧ TIM_MSTAT ≠ TIM_SLOT_W1 n := by
    refine ⟨?_, ?_⟩
    · show 0o40120121 ≠ 0o40010101 + 2 * n
      omega
    · show 0o40010033 ≠ 0o40010101 + 2 * n
      omega
  have hslot : StatusKept s (s.slotFilled n y) := by
    refine statusKept_of_regWork (l := [TIM_SLOT_W0 n, TIM_SLOT_W1 n]) ⟨fun b hb => ?_, State.mem_slotFilled⟩ ?_ ?_ rfl
    · simp only [List.mem_cons, List.not_mem_nil, or_false, not_or] at hb
      exact (State.reg_setReg_other (s := s.setReg (TIM_SLOT_W0 n) y.target) hb.2).trans (State.reg_setReg_other hb.1)
    · simp only [List.mem_cons, List.not_mem_nil, or_false, not_or]
      exact ⟨h0.1, h1.1⟩
    · simp only [List.mem_cons, List.not_mem_nil, or_false, not_or]
      exact ⟨h0.2, h1.2⟩
  have hpend (z : State) : StatusKept z (z.pendShown y) := by
    unfold State.pendShown
    refine .ite (statusKept_of_regWork (l := [SYS_MODE]) ((RegWork.refl.putB (by decide)).put (by decide)) (by decide) (by decide) ?_) .refl
    rw [State.sn_put, State.sn_putB]
  exact (hslot.trans (hpend _)).trans statusKept_armResult

/-- An arm either refuses, showing its result, or takes one of the slots. -/
theorem State.arm_slot {y : Arm} : (∃ r, s.arm y = (s.armResult r 0, false)) ∨ ∃ n x, n < 16 ∧ s.arm y = (s.armed n y x, true) := by
  unfold State.arm
  split
  · exact .inl ⟨5, rfl⟩
  split
  · exact .inl ⟨6, rfl⟩
  split
  · exact .inl ⟨7, rfl⟩
  dsimp only
  split
  · exact .inl ⟨_, rfl⟩
  split
  · exact .inl ⟨4, rfl⟩
  next hslot => exact .inr ⟨_, _, slotFor_range hslot, rfl⟩

/-- A mode change issued here noted. -/
def State.tagNoted (s : State) (o : Option (Nat × Nat × Nat)) : State := { s with t := { s.t with issuedTag := o } }

theorem statusKept_tagNoted {o : Option (Nat × Nat × Nat)} : StatusKept s (s.tagNoted o) := ⟨rfl, rfl, rfl, fun _ _ => rfl⟩

theorem statusKept_issue {y : Arm} : StatusKept s (s.issue y) := by
  obtain ⟨r, h⟩ | ⟨n, x, hn, h⟩ := State.arm_slot (s := s) (y := y)
  · rw [State.issue_refused h]
    exact statusKept_armResult
  · have hcarried : StatusKept s ((s.armed n y x).carryArm y) := (statusKept_armed hn).trans statusKept_carryArm
    unfold State.issue
    rw [h]
    exact .ite ((hcarried.trans (.ite .refl statusKept_reissued)).trans statusKept_tagNoted) hcarried

theorem statusKept_reissue : StatusKept s s.reissue := by
  unfold State.reissue
  split
  · exact .refl
  · exact .ite .refl (statusKept_reissued.trans statusKept_issue)

theorem State.sn_putMismatch : s.putMismatch.sn = s.sn := by
  unfold State.putMismatch
  dsimp only
  split
  · rw [State.sn_raise, State.sn_putB]
  · rw [State.sn_putB]

theorem regWork_putMismatch (hm : TIM_MSTAT ∈ l) (hi : HST_ISRC ∈ l) : RegWork l s s.putMismatch := by
  have hput : RegWork l s (s.putB TIM_MSTAT.MISMATCH (s.flag TIM_MSTAT.PAIRMM || s.flag TIM_MSTAT.NETMM)) := RegWork.refl.putB hm
  exact .ite (hput.put hi) hput

/-- A mismatch on the network shows. -/
theorem State.putMismatch_net (hnet : s.flag TIM_MSTAT.NETMM = true) : s.putMismatch.flag TIM_MSTAT.NETMM = true ∧ s.putMismatch.flag TIM_MSTAT.MISMATCH = true := by
  have hput : (s.putB TIM_MSTAT.MISMATCH (s.flag TIM_MSTAT.PAIRMM || s.flag TIM_MSTAT.NETMM)).flag TIM_MSTAT.NETMM = true
      ∧ (s.putB TIM_MSTAT.MISMATCH (s.flag TIM_MSTAT.PAIRMM || s.flag TIM_MSTAT.NETMM)).flag TIM_MSTAT.MISMATCH = true := by
    refine ⟨(State.flag_putB_other rfl rfl).trans hnet, (State.flag_putB_same rfl).trans ?_⟩
    rw [hnet, Bool.or_true]
  unfold State.putMismatch
  dsimp only
  generalize s.putB TIM_MSTAT.MISMATCH (s.flag TIM_MSTAT.PAIRMM || s.flag TIM_MSTAT.NETMM) = z at *
  split
  · exact ⟨(State.flag_put_other rfl rfl).trans hput.1, (State.flag_put_other rfl rfl).trans hput.2⟩
  · exact hput

theorem domainAgrees_keeps : RegWork [TIM_MSTAT, HST_ISRC] s s.domainAgrees ∧ s.domainAgrees.sn = s.sn := by
  unfold State.domainAgrees
  split
  · exact ⟨(RegWork.refl.putB (by decide)).trans (regWork_putMismatch (by decide) (by decide)), State.sn_putMismatch.trans State.sn_putB⟩
  · exact ⟨.refl, rfl⟩

/-- A node kept with its last status. -/
def State.nodeKept (s : State) (node : DomNode) : State := { s with sn := { s.sn with dom := node :: s.domNodes.filter (fun d => d.src != node.src) } }

/-- A mismatch on the network begun, or going on. -/
def State.netMismatch (s : State) (v : Nat) : State :=
  if s.flag TIM_MSTAT.NETMM then s else (s.putB TIM_MSTAT.NETMM true).put TIM_MSTAT.PEER v

theorem netMismatch_shows : (s.netMismatch v).flag TIM_MSTAT.NETMM = true ∧ RegWork [TIM_MSTAT] s (s.netMismatch v) ∧ (s.netMismatch v).sn = s.sn := by
  unfold State.netMismatch
  split
  next hnet => exact ⟨hnet, .refl, rfl⟩
  next =>
    refine ⟨(State.flag_put_other rfl rfl).trans (State.flag_putB_same rfl), (RegWork.refl.putB (by decide)).put (by decide), ?_⟩
    rw [State.sn_put, State.sn_putB]

/-- What a status of the domain does: the node is kept; a second difference shows, an agreement may end one. -/
theorem State.domainStatus_eq (hact : hdrAct m = true) (hdom : fld (hdr m 0) 20 13 = s.get TIM_MDOM.DOMAIN) (hother : hdrSrc m ≠ s.get SN_ID.NID)
    (hroom : s.domNodes.length < 32) : ∃ node n, node.src = hdrSrc m ∧ node.agreed = (hdr m 6 == s.reg TIM_MDIG)
      ∧ (hdr m 6 = s.reg TIM_MDIG → n = 0)
      ∧ (∀ d, s.domNodes.find? (fun d => d.src == hdrSrc m) = some d → 1 ≤ d.diffs → hdr m 6 ≠ s.reg TIM_MDIG → 2 ≤ n)
      ∧ s.domainStatus m = if s.get TIM_MDOM.DOMAIN != 0 && decide (n ≥ 2) then ((s.nodeKept node).netMismatch (fld (hdr m 6) 15 0)).putMismatch.reissue
        else if hdr m 6 == s.reg TIM_MDIG then (s.nodeKept node).domainAgrees else s.nodeKept node := by
  have hgo : ¬(hdrSrc m == s.get SN_ID.NID || fld (hdr m 0) 20 13 != s.get TIM_MDOM.DOMAIN || !hdrAct m) = true := by
    rw [beq_false_of_ne hother, hdom, bne_self_eq_false, hact]
    decide
  have hfull : ¬((s.domNodes.find? (fun d => d.src == hdrSrc m)).isNone && decide (s.domNodes.length ≥ 32)) = true := by
    rw [decide_eq_false (Nat.not_le.mpr hroom), Bool.and_false]
    exact Bool.false_ne_true
  generalize hz : s.domainStatus m = z
  unfold State.domainStatus at hz
  extract_lets src dom old same n node kept at hz
  rw [if_neg hgo, if_neg hfull] at hz
  refine ⟨node, n, rfl, rfl, fun heq => if_pos (beq_iff_eq.mpr heq), fun d hd hdiffs hne => ?_, hz.symm⟩
  have hn : n = (old.map (·.diffs)).getD 0 + 1 := if_neg (by rw [beq_iff_eq]; exact hne)
  have hold : old = some d := hd
  rw [hn, hold]
  exact Nat.succ_le_succ hdiffs

theorem Heard.domNodes (h : Heard s u) : u.domNodes = s.domNodes := by
  unfold State.domNodes
  rw [h.dom, h.get (f := TIM_MDOM.DOMAIN) (by decide)]

theorem statusKept_nodeKept {node : DomNode} : RegWork l s (s.nodeKept node) ∧ (s.nodeKept node).sn.dom.head? = some node := ⟨⟨fun _ _ => rfl, rfl⟩, rfl⟩

/-- What a status leaves of the node kept, and of the rest. -/
structure NodeShows (node : DomNode) (u t : State) : Prop where
  head : t.sn.dom.head? = some node
  mem : t.mem = u.mem
  rx : t.reg SN_RXCNT = u.reg SN_RXCNT

theorem NodeShows.kept {node : DomNode} (h : NodeShows node u s) (hk : StatusKept s t) : NodeShows node u t :=
  ⟨(congrArg List.head? hk.dom).trans h.head, hk.mem.trans h.mem, hk.rx.trans h.rx⟩

theorem nodeShows_work {node : DomNode} (hwork : RegWork [TIM_MSTAT, HST_ISRC] (u.nodeKept node) t) (hsn : t.sn = (u.nodeKept node).sn) : NodeShows node u t := by
  obtain ⟨hkept, hhead⟩ := statusKept_nodeKept (l := []) (s := u) (node := node)
  exact ⟨(congrArg (fun m => m.dom.head?) hsn).trans hhead, hwork.mem.trans hkept.mem, (hwork.regs _ (by decide)).trans (hkept.regs _ (by decide))⟩

theorem statusRx_leaves (h : s.hears 6 m) (hact : hdrAct m = true) (hdom : fld (hdr m 0) 20 13 = s.get TIM_MDOM.DOMAIN) (hother : hdrSrc m ≠ s.get SN_ID.NID)
    (hroom : s.domNodes.length < 32) : Completes (.statusRx m) s (fun t => CountsUp SN_RXCNT.OK s t ∧ MemKept s t
      ∧ (t.sn.dom.head?.map (fun d => (d.src, d.agreed))) = some (hdrSrc m, hdr m 6 == s.reg TIM_MDIG)
      ∧ (hdr m 6 = s.reg TIM_MDIG → RegsKeptBut [SN_RXCNT, TIM_MSTAT, HST_ISRC] s t)
      ∧ (∀ d, s.domNodes.find? (fun d => d.src == hdrSrc m) = some d → 1 ≤ d.diffs → hdr m 6 ≠ s.reg TIM_MDIG →
          s.get TIM_MDOM.DOMAIN ≠ 0 → t.flag TIM_MSTAT.NETMM = true ∧ t.flag TIM_MSTAT.MISMATCH = true)) := by
  refine completes_of_exec (o := execStatusRx m s) rfl (act_ends h.1 ?_)
  obtain ⟨u, hu, hrun⟩ := State.receive_heard (types := [6]) (F := fun s => s.domainStatus m) h (by decide)
  have hdig : u.reg TIM_MDIG = s.reg TIM_MDIG := hu.regs _ (by decide)
  have hdomain : u.get TIM_MDOM.DOMAIN = s.get TIM_MDOM.DOMAIN := hu.get (by decide)
  obtain ⟨node, n, hsrc, hagreed, hsame, hdiffers, hstatus⟩ := State.domainStatus_eq (s := u) hact (hdom.trans hdomain.symm)
    (by rw [hu.get (by decide)]; exact hother) (by rw [hu.domNodes]; exact hroom)
  rw [hdig] at hagreed hsame hdiffers hstatus
  rw [hdomain] at hstatus
  rw [hu.domNodes] at hdiffers
  have hends {t : State} (hshows : NodeShows node u t) (hregs : hdr m 6 = s.reg TIM_MDIG → RegWork [TIM_MSTAT, HST_ISRC] u t)
      (hmm : ∀ d, s.domNodes.find? (fun d => d.src == hdrSrc m) = some d → 1 ≤ d.diffs → hdr m 6 ≠ s.reg TIM_MDIG → s.get TIM_MDOM.DOMAIN ≠ 0 →
        t.flag TIM_MSTAT.NETMM = true ∧ t.flag TIM_MSTAT.MISMATCH = true) :
      CountsUp SN_RXCNT.OK s (settle t) ∧ MemKept s (settle t) ∧ ((settle t).sn.dom.head?.map (fun d => (d.src, d.agreed))) = some (hdrSrc m, hdr m 6 == s.reg TIM_MDIG)
      ∧ (hdr m 6 = s.reg TIM_MDIG → RegsKeptBut [SN_RXCNT, TIM_MSTAT, HST_ISRC] s (settle t))
      ∧ (∀ d, s.domNodes.find? (fun d => d.src == hdrSrc m) = some d → 1 ≤ d.diffs → hdr m 6 ≠ s.reg TIM_MDIG →
          s.get TIM_MDOM.DOMAIN ≠ 0 → (settle t).flag TIM_MSTAT.NETMM = true ∧ (settle t).flag TIM_MSTAT.MISMATCH = true) := by
    refine ⟨countsUp_settle.mpr (hu.counted hshows.rx), memKept_of_mem_eq (hshows.mem.trans hu.mem), ?_, fun heq => ?_, fun d hd hdiffs hne hzero => ?_⟩
    · rw [State.sn_settle, hshows.head, ← hsrc, ← hagreed]
      rfl
    · exact ((hu.work.mono (by decide)).trans ((hregs heq).mono (by decide))).settled.regs
    · rw [State.flag_settle, State.flag_settle]
      exact hmm d hd hdiffs hne hzero
  obtain ⟨hnode, -⟩ := statusKept_nodeKept (l := [TIM_MSTAT, HST_ISRC]) (s := u) (node := node)
  rw [hrun, hstatus]
  by_cases hsecond : (s.get TIM_MDOM.DOMAIN != 0 && decide (n ≥ 2)) = true
  · rw [if_pos hsecond]
    obtain ⟨hnet, hwork, hsn⟩ := netMismatch_shows (s := u.nodeKept node) (v := fld (hdr m 6) 15 0)
    obtain ⟨hnet', hmm⟩ := State.putMismatch_net hnet
    have hput := regWork_putMismatch (s := (u.nodeKept node).netMismatch (fld (hdr m 6) 15 0)) (l := [TIM_MSTAT, HST_ISRC]) (by decide) (by decide)
    have hshows := nodeShows_work ((hwork.mono (by decide)).trans hput) (State.sn_putMismatch.trans hsn)
    have hkept := statusKept_reissue (s := ((u.nodeKept node).netMismatch (fld (hdr m 6) 15 0)).putMismatch)
    refine hends (hshows.kept hkept) (fun heq => ?_) fun _ _ _ _ _ => ⟨(hkept.mm _ (by decide)).trans hnet', (hkept.mm _ (by decide)).trans hmm⟩
    rw [hsame heq] at hsecond
    exact absurd hsecond (by rw [decide_eq_false (by decide), Bool.and_false]; decide)
  · rw [if_neg hsecond]
    have hnever (d : DomNode) (hd : s.domNodes.find? (fun d => d.src == hdrSrc m) = some d) (hdiffs : 1 ≤ d.diffs) (hne : hdr m 6 ≠ s.reg TIM_MDIG)
        (hzero : s.get TIM_MDOM.DOMAIN ≠ 0) : False := by
      refine hsecond ?_
      rw [bne_iff_ne.mpr hzero, decide_eq_true (hdiffers d hd hdiffs hne)]
      rfl
    split
    · obtain ⟨hwork, hsn⟩ := domainAgrees_keeps (s := u.nodeKept node)
      exact hends (nodeShows_work hwork hsn) (fun _ => hnode.trans hwork) fun d hd hdiffs hne hzero => (hnever d hd hdiffs hne hzero).elim
    · exact hends (nodeShows_work .refl rfl) (fun _ => hnode) fun d hd hdiffs hne hzero => (hnever d hd hdiffs hne hzero).elim

/-! ### The obligation -/

/-- Settles O48: each clause is the lemma named for it above. That an invalid operation is answered among the other telegrams, that a READ answers zero for a
word that may not be read, and that the statuses of senders with ACT = 1 are compared alone, is the design log's entry 42. -/
theorem telegramsReceived : Obligations.TelegramsReceived := by
  unfold Obligations.TelegramsReceived
  refine ⟨?_, ?_, ?_, ?_, ?_, ?_, ?_, ?_, ?_, ?_, ?_, ?_, ?_, ?_⟩
  · exact fun s m r0 r1 h => signalsRx_leaves h
  · exact fun s m r0 r1 h hact => sigstateRx_leaves h hact
  · exact fun s i hup hon huse hfresh hround hlong => rxsigStale_leaves hup hon huse hfresh hround hlong
  · exact fun s m h hact hdom hother hroom => statusRx_leaves h hact hdom hother hroom
  · exact fun s m h hdom htrust hlow hhigh hscope htarget n repl hslot => requestArmRx_leaves h hdom htrust hlow hhigh hscope htarget hslot
  · exact fun s m h hcmd hroom => requestAlmcmdRx_leaves h hcmd hroom
  · exact fun s m h hacc hcmd hroom => requestOplcmdRx_leaves h hacc hcmd hroom
  · exact fun s m h hs hlow hsome hfew hgood => requestReadRx_leaves h hs hlow hsome hfew hgood
  · exact fun s m h hs hready hsome hfew hfits => requestReadrecRx_leaves h hs hready hsome hfew hfits
  · exact fun s m ⟨k, hk, h⟩ => otherTelegramRx_heard hk h
  · exact fun s m h hop => otherTelegramRx_badop h hop
  · exact fun s m h hop htarget hnone => requestReadRx_denied h hop htarget hnone
  · intro s m hup hon
    refine ⟨fun htoken => ?_, fun htoken hform => ?_, fun htoken hlong hshort hone height hcheck => ?_⟩
    · exact otherTelegramRx_bad hup hon (State.badTele_stranger htoken) rfl rfl
    · exact otherTelegramRx_bad hup hon (State.badTele_format htoken hform) rfl rfl
    · exact otherTelegramRx_bad hup hon (State.badTele_check htoken hlong hshort hone height hcheck) rfl rfl
  · exact fun s why hup hon => datagramDiscard_leaves hup hon

end

end Sys2Proof.Machine


namespace Sys2Proof.Machine

/-! ## The pair engine's work and what it leaves alone -/

section
variable {s t u : State} {f g : Fld} {a v p c : Nat} {x : Bool} {w : Word}

/-- Work of the pair engine: below the loop outputs the discipline status and the count of failing SRAM words alone change, memory stays, and
of node time at most the moment since which it is held over moves. -/
structure PairWork (s t : State) : Prop where
  low : LowKeptBut [] s t
  mem : MemKept s t
  time : TimeKept s t

theorem LowKeptBut.trans {l : List Nat} (h : LowKeptBut l s t) (h' : LowKeptBut l t u) : LowKeptBut l s u :=
  fun a h1 h2 h3 h4 => (h' a h1 h2 h3 h4).trans (h a h1 h2 h3 h4)

theorem LowKeptBut.mono {l l' : List Nat} (h : LowKeptBut l s t) (hl : l ⊆ l') : LowKeptBut l' s t :=
  fun a h1 h2 h3 h4 => h a h1 h2 h3 fun hm => h4 (hl hm)

namespace PairWork

theorem trans (h : PairWork s t) (h' : PairWork t u) : PairWork s u :=
  ⟨h.low.trans h'.low, h.mem.trans h'.mem, h.time.trans h'.time⟩

theorem of_eq (hr : t.regs = s.regs) (hm : t.mem = s.mem) (ht : t.t = s.t) : PairWork s t :=
  ⟨fun _ _ _ _ _ => by simp only [State.reg, hr], memKept_of_mem_eq hm, timeKept_of_eq ht⟩

theorem refl : PairWork s s := of_eq rfl rfl rfl

theorem put (h : PairWork s t) (hf : 0o40070000 ≤ f.addr) : PairWork s (t.put f v) :=
  h.trans ⟨fun _ ha _ _ _ => State.reg_put_other (by omega), memKept_of_mem_eq State.mem_put, timeKept_of_eq State.t_put⟩

theorem putB (h : PairWork s t) (hf : 0o40070000 ≤ f.addr) : PairWork s (t.putB f x) := h.put hf

theorem inc (h : PairWork s t) (hf : 0o40070000 ≤ f.addr) : PairWork s (t.inc f) := h.put hf

theorem raise (h : PairWork s t) (hf : 0o40070000 ≤ f.addr) : PairWork s (t.raise f) := h.put hf

theorem setReg (h : PairWork s t) (ha : 0o40070000 ≤ a) : PairWork s (t.setReg a w) :=
  h.trans ⟨fun _ hb _ _ _ => State.reg_setReg_other (by omega), memKept_of_mem_eq State.mem_setReg, timeKept_of_eq State.t_setReg⟩

theorem setJl (h : PairWork s t) {y : JlS} : PairWork s { t with jl := y } := h.trans (of_eq rfl rfl rfl)

theorem ite {q : Prop} [Decidable q] (ht : PairWork s t) (hu : PairWork s u) : PairWork s (if q then t else u) := by
  split
  · exact ht
  · exact hu

theorem foldl {α : Type} {g : State → α → State} (hg : ∀ z y, PairWork z (g z y)) (l : List α) (h : PairWork s t) :
    PairWork s (l.foldl g t) := by
  induction l generalizing t with
  | nil => exact h
  | cons y r ih => exact ih (h.trans (hg t y))

theorem beat (h : PairWork s t) : t.t.beat = s.t.beat := by obtain ⟨n, h⟩ := h.time; rw [h]
theorem run (h : PairWork s t) : t.t.run = s.t.run := by obtain ⟨n, h⟩ := h.time; rw [h]

theorem settled (h : PairWork s t) : LowKeptBut [] s (settle t) ∧ MemKept s (settle t) := ⟨h.low, h.mem.trans allKept_settle.2⟩

end PairWork

theorem pairWork_trigger {cls sub src : Nat} {ts0 ts1 ev0 ev1 : Word} {rs : Option Nat} :
    PairWork s (s.trigger cls sub src ts0 ts1 ev0 ev1 rs) :=
  ⟨fun _ ha _ _ _ => State.reg_trigger (by rintro rfl; revert ha; decide), memKept_of_mem_eq State.mem_trigger, timeKept_of_eq State.t_trigger⟩

theorem pairWork_discipline : PairWork s s.discipline :=
  have hframe := State.discipline_frame (s := s)
  ⟨fun a ha hd _ _ => hframe.1 a hd (by rintro rfl; revert ha; decide) (by rintro rfl; revert ha; decide),
    memKept_of_mem_eq hframe.2.1, hframe.2.2.2.2⟩

/-! ### Outputs driven anew (R382) -/

/-- Work beside the pair engine: its registers and its state stay. -/
structure Beside (s t : State) : Prop where
  work : PairWork s t
  pair : ∀ a, 0o40130000 ≤ a → a < 0o40140000 → t.reg a = s.reg a
  jl : t.jl = s.jl

namespace Beside

theorem trans (h : Beside s t) (h' : Beside t u) : Beside s u :=
  ⟨h.work.trans h'.work, fun a h1 h2 => (h'.pair a h1 h2).trans (h.pair a h1 h2), h'.jl.trans h.jl⟩

theorem refl : Beside s s := ⟨.refl, fun _ _ _ => rfl, rfl⟩

theorem get (h : Beside s t) (h1 : 0o40130000 ≤ f.addr) (h2 : f.addr < 0o40140000) : t.get f = s.get f := get_of_reg_eq (h.pair _ h1 h2)

theorem flag (h : Beside s t) (h1 : 0o40130000 ≤ f.addr) (h2 : f.addr < 0o40140000) : t.flag f = s.flag f := flag_of_reg_eq (h.pair _ h1 h2)

theorem put (h : Beside s t) (hf : 0o40070000 ≤ f.addr) (hp : f.addr < 0o40130000 ∨ 0o40140000 ≤ f.addr) : Beside s (t.put f v) :=
  h.trans ⟨PairWork.refl.put hf, fun _ h1 h2 => State.reg_put_other (by omega), State.jl_put⟩

theorem ite {q : Prop} [Decidable q] (ht : Beside s t) (hu : Beside s u) : Beside s (if q then t else u) := by
  split
  · exact ht
  · exact hu

theorem foldl {α : Type} {g : State → α → State} (hg : ∀ z y, Beside z (g z y)) (l : List α) (h : Beside s t) :
    Beside s (l.foldl g t) := by
  induction l generalizing t with
  | nil => exact h
  | cons y r ih => exact ih (h.trans (hg t y))

end Beside

theorem beside_trigger {cls sub src : Nat} {ts0 ts1 ev0 ev1 : Word} {rs : Option Nat} :
    Beside s (s.trigger cls sub src ts0 ts1 ev0 ev1 rs) :=
  ⟨pairWork_trigger, fun _ h1 h2 => State.reg_trigger (by rintro rfl; revert h1 h2; decide), State.jl_trigger⟩

theorem beside_discipline : Beside s s.discipline :=
  have hframe := State.discipline_frame (s := s)
  ⟨pairWork_discipline, fun a h1 h2 => hframe.1 a (by rintro rfl; revert h1 h2; decide) (by rintro rfl; revert h1 h2; decide)
    (by rintro rfl; revert h1 h2; decide), hframe.2.2.2.1⟩

/-- The count of SRAM words that fail goes up, with its trigger and its interrupt source. -/
theorem beside_sramFail {step isl addr resp : Nat} : Beside s ((s.inc SYS_ICHK1.FAIL).integrity step isl addr resp) := by
  have hcount : Beside s (s.inc SYS_ICHK1.FAIL) :=
    ⟨⟨fun _ _ _ h _ => State.reg_inc_other h, memKept_of_mem_eq State.mem_inc, timeKept_of_eq State.t_inc⟩,
      fun _ h1 h2 => State.reg_inc_other (by rintro rfl; revert h1 h2; decide), State.jl_inc⟩
  exact (hcount.trans beside_trigger).put (by decide) (by decide)

theorem beside_sramFetch {req : Nat} {l : List Nat} : Beside s (s.sramFetch req l) := by
  refine Beside.refl.foldl (fun z a => ?_) _
  unfold State.sramRead
  dsimp only
  split
  · exact beside_sramFail
  · exact .refl

theorem beside_loSample {n : Nat} : Beside s (s.loSample n) := by
  unfold State.loSample
  dsimp only
  refine .ite .refl (Beside.trans (t := s.mirrorFetch 16 (loopSrc (s.loEnt n))) beside_sramFetch ?_)
  exact ⟨.of_eq rfl rfl rfl, fun _ _ _ => rfl, rfl⟩

theorem State.jl_dioDrive {n : Nat} : (s.dioDrive n).jl = s.jl := by
  obtain ⟨v, x, y₁, y₂, y₃, hdrive, -⟩ := State.dioDrive_eq (s := s) (n := n)
  have hset : ∀ (z : State) (y : DioS), (z.setDio n y).jl = z.jl := fun _ _ => rfl
  rw [hdrive]
  unfold State.dioClamps
  simp only [apply_ite State.jl, State.jl_put, State.jl_putB, hset, ite_self]

theorem beside_dioDrive {n : Nat} (hn : n < 32) : Beside s (s.dioDrive n) := by
  have hwork := loopWork_dioDrive (s := s) (n := n)
  have hreg : ∀ a, a < 0o40100000 ∨ 0o40130000 ≤ a → (s.dioDrive n).reg a = s.reg a := fun a ha => hwork.regs a (by
    simp only [DIO_PST, DIO_GST, List.mem_cons, List.not_mem_nil, or_false]; omega)
  exact ⟨⟨fun a ha _ _ _ => hreg a (by omega), hwork.mem, timeKept_of_eq State.t_dioDrive⟩, fun a ha _ => hreg a (by omega), State.jl_dioDrive⟩

theorem beside_dioDriveAll : Beside s s.dioDriveAll := by
  have hall : ∀ (l : List Nat), (∀ n ∈ l, n < 32) → ∀ z : State, Beside z (l.foldl State.dioDrive z) := by
    intro l
    induction l with
    | nil => exact fun _ _ => .refl
    | cons n r ih => exact fun h z => (beside_dioDrive (h n (by simp))).trans (ih (fun m hm => h m (by simp [hm])) _)
  exact hall _ (fun _ => List.mem_range.mp) s

theorem beside_redrive : Beside s s.redrive :=
  Beside.trans (t := s.loBeat) (Beside.refl.foldl (fun _ _ => beside_loSample) _) beside_dioDriveAll

/-! ### A pair state entered, a cause set, control given up (R381, R400) -/

/-- What JL_STAT shows beside the unit's own pair state. -/
def statFlds : List Fld := [JL_STAT.PARTNER, JL_STAT.PART, JL_STAT.LNKA, JL_STAT.LNKB, JL_STAT.WIT, JL_STAT.REF]

theorem statFlds_apart : ∀ f ∈ statFlds, f.addr = JL_STAT ∧ f.apart JL_STAT.PSTATE = true ∧ f.apart JL_STAT.ROLE = true
    ∧ f.apart JL_STAT.INSTEP = true := by decide

/-- The unit is in a pair state: role and state show it; what else the engine shows stays. -/
structure Enters (p : Nat) (s t : State) : Prop where
  pstate : t.pstate = p
  role : t.get JL_STAT.ROLE = roleOf p
  stat : ∀ f ∈ statFlds, t.get f = s.get f
  regs : ∀ a, 0o40130001 ≤ a → a < 0o40140000 → t.reg a = s.reg a
  jl : ∃ n k j, t.jl = { s.jl with stateAt := n, cleanRounds := k, joinStep := j }
  work : PairWork s t

namespace Enters

theorem flag (h : Enters p s t) (hf : f ∈ statFlds) : t.flag f = s.flag f := congrArg (· != 0) (h.stat f hf)

theorem beside (h : Enters p s t) (hu : Beside t u) : Enters p s u where
  pstate := (hu.get (by decide) (by decide)).trans h.pstate
  role := (hu.get (by decide) (by decide)).trans h.role
  stat f hf := by
    have haddr := (statFlds_apart f hf).1
    exact (hu.get haddr.ge (haddr.trans_lt (by decide))).trans (h.stat f hf)
  regs a h1 h2 := (hu.pair a (by omega) h2).trans (h.regs a h1 h2)
  jl := by rw [hu.jl]; exact h.jl
  work := h.work.trans hu.work

end Enters

/-- A pair state shown, with its interrupt source. -/
def State.roleShown (s : State) (p : Nat) : State := ((s.put JL_STAT.PSTATE p).put JL_STAT.ROLE (roleOf p)).raise HST_ISRC.ROLE

/-- The moment of a pair state kept. -/
def State.momentKept (s : State) (p : Nat) : State :=
  { s with jl := { s.jl with stateAt := s.t.run, cleanRounds := 0, joinStep := if p == 3 then s.jl.joinStep else 0 } }

theorem State.setPstate_eq : s.setPstate p
    = if s.pstate == p && s.get JL_STAT.ROLE == roleOf p then s else ((s.roleShown p).momentKept p).putInStep.discipline := rfl

theorem State.jl_roleShown : (s.roleShown p).jl = s.jl := by
  unfold State.roleShown
  rw [State.jl_raise, State.jl_put, State.jl_put]

theorem State.jl_momentKept : (s.momentKept p).jl
    = { s.jl with stateAt := s.t.run, cleanRounds := 0, joinStep := if p == 3 then s.jl.joinStep else 0 } := rfl

theorem State.reg_momentKept : (s.momentKept p).reg a = s.reg a := rfl

theorem pairWork_roleShown : PairWork s (s.roleShown p) := ((PairWork.refl.put (by decide)).put (by decide)).raise (by decide)

theorem pairWork_momentKept : PairWork s (s.momentKept p) := .of_eq rfl rfl rfl

theorem pairWork_putInStep : PairWork s s.putInStep := PairWork.refl.putB (by decide)

theorem State.jl_putInStep : s.putInStep.jl = s.jl := State.jl_putB

theorem roleOf_lt : roleOf p < 4 := by
  unfold roleOf
  split
  · decide
  · split <;> decide

theorem roleShown_shows (hp : p < 16) : (s.roleShown p).get JL_STAT.PSTATE = p ∧ (s.roleShown p).get JL_STAT.ROLE = roleOf p := by
  unfold State.roleShown
  rw [State.get_raise_other rfl rfl, State.get_raise_other rfl rfl, State.get_put_other rfl rfl, State.get_put_same rfl, State.get_put_same rfl]
  exact ⟨Nat.mod_eq_of_lt hp, Nat.mod_eq_of_lt roleOf_lt⟩

theorem enters_roleShown (hp : p < 16) : Enters p s (((s.roleShown p).momentKept p).putInStep) := by
  obtain ⟨hstate, hrole⟩ := roleShown_shows (s := s) hp
  have hkept : ∀ z : State, (z.momentKept p).regs = z.regs := fun _ => rfl
  have hget : ∀ f, f.apart JL_STAT.INSTEP = true → ((s.roleShown p).momentKept p).putInStep.get f = (s.roleShown p).get f :=
    fun f hf => (State.get_put_other rfl hf).trans (get_of_reg_eq (by simp only [State.reg, hkept]))
  refine ⟨(hget _ rfl).trans hstate, (hget _ rfl).trans hrole, fun f hf => ?_, fun a h1 h2 => ?_, ?_, ?_⟩
  · obtain ⟨haddr, hpst, hro, hin⟩ := statFlds_apart f hf
    rw [hget f hin]
    unfold State.roleShown
    rw [State.get_raise_other rfl (Fld.apart_of_addr (by rw [haddr]; decide)), State.get_put_other rfl hro, State.get_put_other rfl hpst]
  · have hne : a ≠ JL_STAT := by rintro rfl; revert h1; decide
    rw [State.reg_putInStep hne]
    rw [State.reg_momentKept]
    unfold State.roleShown
    rw [State.reg_raise_other (by rintro rfl; revert h2; decide), State.reg_put_other hne, State.reg_put_other hne]
  · rw [State.jl_putInStep, State.jl_momentKept, State.jl_roleShown]
    exact ⟨_, _, _, rfl⟩
  · exact (pairWork_roleShown.trans pairWork_momentKept).trans pairWork_putInStep

theorem enters_setPstate (hp : p < 16) : Enters p s (s.setPstate p) := by
  rw [State.setPstate_eq]
  split
  · next h =>
    obtain ⟨hstate, hrole⟩ := Bool.and_eq_true_iff.mp h
    exact ⟨eq_of_beq hstate, eq_of_beq hrole, fun _ _ => rfl, fun _ _ _ => rfl, ⟨_, _, _, rfl⟩, .refl⟩
  · exact (enters_roleShown hp).beside beside_discipline

theorem enters_enter (hp : p < 16) : Enters p s (s.enter p) := (enters_setPstate hp).beside beside_redrive

/-- A cause set: shown, with its beat. -/
structure CauseSet (c : Nat) (s t : State) : Prop where
  cause : t.get JL_CAUSE.CAUSE = c
  regs : ∀ a, 0o40130000 ≤ a → a < 0o40140000 → a ≠ JL_CAUSE → a ≠ JL_CAUSEB → t.reg a = s.reg a
  jl : t.jl = s.jl
  work : PairWork s t

theorem State.setCause_eq : s.setCause c = ((s.put JL_CAUSE.CAUSE c).setReg JL_CAUSEB s.t.beat).trigNow 6 2 0
    (((s.put JL_CAUSE.CAUSE c).setReg JL_CAUSEB s.t.beat).reg JL_CAUSE) (((s.put JL_CAUSE.CAUSE c).setReg JL_CAUSEB s.t.beat).reg JL_CAUSEB) := rfl

theorem pairWork_setCause : PairWork s (s.setCause c) := by
  rw [State.setCause_eq]
  exact ((PairWork.refl.put (by decide)).setReg (by decide)).trans pairWork_trigger

theorem causeSet_setCause (hc : c < 32) : CauseSet c s (s.setCause c) := by
  refine ⟨?_, fun a h1 h2 h3 h4 => State.reg_setCause h3 h4 (by rintro rfl; revert h1 h2; decide), ?_, pairWork_setCause⟩
  · have hreg : (s.setCause c).reg JL_CAUSE = (s.put JL_CAUSE.CAUSE c).reg JL_CAUSE :=
      (State.reg_trigNow (by decide)).trans (State.reg_setReg_other (by decide))
    exact (get_of_reg_eq hreg).trans ((State.get_put_same rfl).trans (Nat.mod_eq_of_lt hc))
  · rw [State.setCause_eq]
    exact State.jl_trigger.trans (State.jl_setReg.trans State.jl_put)

theorem CauseSet.pstate (h : CauseSet c s t) : t.pstate = s.pstate := get_of_reg_eq (h.regs _ (by decide) (by decide) (by decide) (by decide))

/-- An active whose partner is in step decides to release. -/
theorem giveUp_releases (hc : c < 32) (hact : s.pstate = 2) (hpar : s.get JL_STAT.PARTNER = 5) (hrel : s.jl.relBeat = none) :
    Releases c s (s.giveUp c) := by
  have hset := causeSet_setCause (s := s) hc
  have hgive : s.giveUp c = { s.setCause c with jl := { (s.setCause c).jl with
      relBeat := some ((s.setCause c).t.beat + 1), relAt := some ((s.setCause c).t.run + 1) } } := by
    unfold State.giveUp
    rw [if_pos (by rw [hact]; rfl), if_pos (by rw [hpar, hrel]; rfl)]
  rw [hgive]
  exact ⟨hset.cause, congrArg (fun b => some (b + 1)) hset.work.beat, congrArg (fun b => some (b + 1)) hset.work.run⟩

/-- A unit that is not the active fails. -/
theorem giveUp_fails (h3 : 3 ≤ s.pstate) (h7 : s.pstate ≤ 7) :
    s.giveUp c = (s.setCause c).setPstate 8 := by
  unfold State.giveUp
  rw [if_neg (by rw [beq_iff_eq]; omega), if_pos (by simp [h3, h7])]

theorem pairWork_giveUp : PairWork s (s.giveUp c) := by
  have hset : PairWork s (s.setCause c) := pairWork_setCause
  unfold State.giveUp
  exact .ite (.ite hset.setJl .refl) (.ite (hset.trans (enters_setPstate (by decide)).work) .refl)

/-! ### A role change, and the unit that becomes the active (R384, R401) -/

/-- The epoch one higher, and the hours since the role change from nothing. -/
def State.epochRaised (s : State) : State := (s.setReg JL_EPOCH (s.reg JL_EPOCH + 1)).put JL_SWAP.HOURS 0

/-- The operation round of the role change kept. -/
def State.roundKept (s : State) : State := { s with jl := { s.jl with opRoundRole := s.reg ONX_OPR } }

theorem State.roleChange_eq : s.roleChange = s.epochRaised.roundKept.trigNow 6 1 0 (s.epochRaised.roundKept.reg JL_EPOCH)
    (s.epochRaised.roundKept.reg JL_STAT) := rfl

theorem State.reg_roundKept : s.roundKept.reg a = s.reg a := rfl

theorem State.jl_roundKept : s.roundKept.jl = { s.jl with opRoundRole := s.reg ONX_OPR } := rfl

theorem State.reg_roleChange (ha : a ≠ ONX_LOST) : s.roleChange.reg a = s.epochRaised.reg a := by
  rw [State.roleChange_eq, State.reg_trigNow ha, State.reg_roundKept]

theorem State.jl_roleChange : ∃ r, s.roleChange.jl = { s.jl with opRoundRole := r } := by
  refine ⟨s.epochRaised.reg ONX_OPR, ?_⟩
  rw [State.roleChange_eq]
  refine State.jl_trigger.trans ?_
  rw [State.jl_roundKept]
  unfold State.epochRaised
  rw [State.jl_put, State.jl_setReg]

theorem pairWork_roundKept : PairWork s s.roundKept := .of_eq rfl rfl rfl

theorem pairWork_epochRaised : PairWork s s.epochRaised := (PairWork.refl.setReg (by decide)).put (by decide)

theorem pairWork_roleChange : PairWork s s.roleChange := by
  rw [State.roleChange_eq]
  exact (pairWork_epochRaised.trans pairWork_roundKept).trans pairWork_trigger

/-- What a role change shows: the epoch one higher, the counts of swaps as before. -/
theorem roleChange_shows : s.roleChange.reg JL_EPOCH = s.reg JL_EPOCH + 1
    ∧ (∀ f, f.addr = JL_SWAP → f.apart JL_SWAP.HOURS = true → s.roleChange.get f = s.get f)
    ∧ (∀ a, 0o40130000 ≤ a → a < 0o40140000 → a ≠ JL_EPOCH → a ≠ JL_SWAP → s.roleChange.reg a = s.reg a) := by
  refine ⟨?_, fun f haddr hf => ?_, fun a h1 h2 h3 h4 => ?_⟩
  · rw [State.reg_roleChange (by decide)]
    exact (State.reg_put_other (by decide)).trans State.reg_setReg_same
  · rw [get_of_reg_eq (f := f) (State.reg_roleChange (by rw [haddr]; decide))]
    exact (State.get_put_other rfl hf).trans (get_of_reg_eq (State.reg_setReg_other (by rw [haddr]; decide)))
  · rw [State.reg_roleChange (by rintro rfl; revert h1 h2; decide)]
    exact (State.reg_put_other h4).trans (State.reg_setReg_other h3)

/-- The referee stopped. -/
theorem refEnd_shows : s.refEnd.flag JL_STAT.REF = false ∧ s.refEnd.jl = { s.jl with referee := none }
    ∧ (∀ f, f.apart JL_STAT.REF = true → s.refEnd.get f = s.get f) ∧ PairWork s s.refEnd := by
  have hstopped : PairWork s ({ s with jl := { s.jl with referee := none } } : State) := .of_eq rfl rfl rfl
  exact ⟨State.flag_putB_same rfl, State.jl_putB, fun f hf => State.get_put_other rfl hf, hstopped.putB (by decide)⟩

/-- What is pending between the units forgotten, for the beat of the change. -/
def State.pendingCleared (s : State) : State :=
  let s := s.replayClear
  let s := s.setLink { s.jl.link with told := RepIn.none }
  { s with jl := { s.jl with
    takeAt := none, takeFar := false, relBeat := none, relAt := none, joinStep := 0, stillUntil := none, wake := 0, deadAt := none
    swapAt := some s.t.beat } }

theorem State.reg_pendingCleared : s.pendingCleared.reg a = s.reg a := rfl

theorem pendingCleared_jl : s.pendingCleared.jl.takeAt = none ∧ s.pendingCleared.jl.relBeat = none ∧ s.pendingCleared.jl.relAt = none :=
  ⟨rfl, rfl, rfl⟩

theorem pairWork_pendingCleared : PairWork s s.pendingCleared := .of_eq rfl rfl rfl

theorem State.becomeActive_eq : s.becomeActive = (s.refEnd.pendingCleared.roleChange.setPstate 2).redrive := rfl

/-- The unit has become the active. -/
structure Active (s t : State) : Prop where
  pstate : t.pstate = 2
  role : t.get JL_STAT.ROLE = 1
  epoch : t.reg JL_EPOCH = s.reg JL_EPOCH + 1
  jl : t.jl.takeAt = none ∧ t.jl.relBeat = none ∧ t.jl.relAt = none
  ref : t.flag JL_STAT.REF = false
  stat : ∀ f ∈ statFlds, f.apart JL_STAT.REF = true → t.get f = s.get f
  regs : ∀ a, 0o40130001 ≤ a → a < 0o40140000 → a ≠ JL_EPOCH → a ≠ JL_SWAP → t.reg a = s.reg a
  swaps : ∀ f, f.addr = JL_SWAP → f.apart JL_SWAP.HOURS = true → t.get f = s.get f
  work : PairWork s t

theorem active_becomeActive : Active s s.becomeActive := by
  obtain ⟨href, -, hrest, hend⟩ := refEnd_shows (s := s)
  have hreg : ∀ a, a ≠ JL_STAT → s.refEnd.pendingCleared.reg a = s.reg a := fun a ha =>
    State.reg_pendingCleared.trans (State.reg_putB_other ha)
  have hget : ∀ f, s.refEnd.pendingCleared.get f = s.refEnd.get f := fun f => get_of_reg_eq State.reg_pendingCleared
  have hjl := pendingCleared_jl (s := s.refEnd)
  have hwork : PairWork s s.refEnd.pendingCleared := hend.trans pairWork_pendingCleared
  rw [State.becomeActive_eq]
  generalize s.refEnd.pendingCleared = z at hreg hget hjl hwork
  obtain ⟨hepoch, hswaps, hregs⟩ := roleChange_shows (s := z)
  obtain ⟨r, hrole⟩ := State.jl_roleChange (s := z)
  have hstat : ∀ f ∈ statFlds, z.roleChange.get f = s.refEnd.get f := fun f hf => by
    have haddr := (statFlds_apart f hf).1
    rw [get_of_reg_eq (f := f) (hregs _ haddr.ge (haddr.trans_lt (by decide)) (by rw [haddr]; decide) (by rw [haddr]; decide)), hget]
  have hent := (enters_setPstate (s := z.roleChange) (p := 2) (by decide)).beside beside_redrive
  obtain ⟨n, k, j, hsame⟩ := hent.jl
  refine ⟨hent.pstate, hent.role, ?_, ?_, ?_, fun f hf hr => ?_, fun a h1 h2 h3 h4 => ?_, fun f haddr hf => ?_,
    (hwork.trans pairWork_roleChange).trans hent.work⟩
  · rw [hent.regs _ (by decide) (by decide), hepoch, hreg _ (by decide)]
  · rw [hsame, hrole]
    exact hjl
  · exact (congrArg (· != 0) ((hent.stat _ (by simp [statFlds])).trans (hstat _ (by simp [statFlds])))).trans href
  · rw [hent.stat f hf, hstat f hf, hrest f hr]
  · rw [hent.regs a h1 h2, hregs a (by omega) h2 h3 h4, hreg a (by rintro rfl; revert h1; decide)]
  · rw [get_of_reg_eq (f := f) (hent.regs _ (by rw [haddr]; decide) (by rw [haddr]; decide)), hswaps f haddr hf,
      get_of_reg_eq (f := f) (hreg _ (by rw [haddr]; decide))]

/-- Control taken with a privileged count. -/
theorem takesControl_takeControl {seq : Nat} : TakesControl seq s (s.takeControl seq) ∧ PairWork s (s.takeControl seq) := by
  have hact := active_becomeActive (s := s.put JL_PSEQ.PSEQ seq)
  have hput : PairWork s (s.put JL_PSEQ.PSEQ seq) := PairWork.refl.put (by decide)
  obtain ⟨htake, hrelb, hrela⟩ := hact.jl
  have htook : s.takeControl seq = (s.put JL_PSEQ.PSEQ seq).becomeActive := rfl
  rw [htook]
  generalize (s.put JL_PSEQ.PSEQ seq).becomeActive = z at hact htake hrelb hrela
  refine ⟨⟨hact.pstate, hact.role, ?_, ?_, htake, hrelb, hrela, hact.ref⟩, hput.trans hact.work⟩
  · rw [hact.epoch, State.reg_put_other (by decide)]
  · exact (get_of_reg_eq (hact.regs _ (by decide) (by decide) (by decide) (by decide))).trans (State.get_put_same rfl)

/-- A unit that becomes the active keeps its privileged count. -/
theorem takesControl_becomeActive : TakesControl (s.get JL_PSEQ.PSEQ) s s.becomeActive := by
  have hact := active_becomeActive (s := s)
  obtain ⟨htake, hrelb, hrela⟩ := hact.jl
  refine ⟨hact.pstate, hact.role, hact.epoch, ?_, htake, hrelb, hrela, hact.ref⟩
  rw [get_of_reg_eq (f := JL_PSEQ.PSEQ) (hact.regs _ (by decide) (by decide) (by decide) (by decide))]
  exact (Nat.mod_eq_of_lt State.get_lt).symm

/-- A write of JL_STAT's PART leaves control as it is. -/
theorem TakesControl.part {seq : Nat} (h : TakesControl seq s t) : TakesControl seq s (t.putB JL_STAT.PART x) := by
  obtain ⟨hstate, hrole, hepoch, hseq, htake, hrelb, hrela, href⟩ := h
  refine ⟨(State.get_put_other rfl rfl).trans hstate, (State.get_put_other rfl rfl).trans hrole, (State.reg_putB_other (by decide)).trans hepoch,
    (State.get_put_other rfl rfl).trans hseq, ?_, ?_, ?_, (State.flag_putB_other rfl rfl).trans href⟩ <;> rw [State.jl_putB] <;> assumption

end

end Sys2Proof.Machine


namespace Sys2Proof.Machine

/-! ## Which unit is the active (R381, R384, R400, R401, R407, R408, R410, R411, R413, R418) -/

section
variable {s t u : State} {f g : Fld} {a v p c n : Nat} {x : Bool} {w : Word} {P : State → Prop}

/-! ### Release and takeover (R400, R401, R408) -/

/-- A row of the beat in force that is otherwise the next beat. -/
theorem isBeatIf_of_ite {ins : Instr} {now : State → Bool} {work : State → State} {next : State → Bool} (hup : s.up = true)
    (hrun : exec ins s = act s (fun z => if now z then work z else z.beatIf (next z))) (hno : now s = false) : IsBeatIf ins (next s) s := by
  refine isBeatIf_of_exec hup (hrun.trans ((act_up hup).trans ?_))
  rw [if_neg (by rw [hno]; decide)]

/-- The release made, whatever of its moment is forgotten. -/
theorem State.release_eq (h : s.releaseDue = true) : ∃ y : JlS, s.release = { (s.enter 8).refEnd with jl := y } := by
  unfold State.release
  rw [if_pos h]
  generalize (s.enter 8).refEnd = z
  dsimp only
  split
  · split
    · exact ⟨{ z.jl with relAt := none }, rfl⟩
    · exact ⟨z.jl, rfl⟩
  · exact ⟨z.jl, rfl⟩

theorem releaseControl_ends (hup : s.up = true) (hdue : s.releaseDue = true) : Completes .releaseControl s (fun t => t.pstate = 8
    ∧ t.get JL_STAT.ROLE = 0 ∧ t.flag JL_STAT.REF = false ∧ LowKeptBut [] s t ∧ MemKept s t) := by
  refine completes_of_exec (o := execReleaseControl s) rfl (act_ends hup ?_)
  rw [if_pos hdue]
  obtain ⟨y, hrel⟩ := State.release_eq hdue
  have hent := enters_enter (s := s) (p := 8) (by decide)
  obtain ⟨href, -, hrest, hend⟩ := refEnd_shows (s := s.enter 8)
  have hwork := hent.work.trans hend
  have hstate := (hrest JL_STAT.PSTATE rfl).trans hent.pstate
  have hrole := (hrest JL_STAT.ROLE rfl).trans hent.role
  rw [hrel]
  generalize (s.enter 8).refEnd = z at href hwork hstate hrole
  exact ⟨hstate, hrole, href, hwork.setJl.settled⟩

/-- Control taken, the partition over. -/
theorem takes_part_ends {seq : Nat} : TakesControl seq s ((s.takeControl seq).putB JL_STAT.PART false)
    ∧ ((s.takeControl seq).putB JL_STAT.PART false).flag JL_STAT.PART = false ∧ PairWork s ((s.takeControl seq).putB JL_STAT.PART false) := by
  obtain ⟨htakes, hwork⟩ := takesControl_takeControl (s := s) (seq := seq)
  exact ⟨htakes.part, State.flag_putB_same rfl, hwork.putB (by decide)⟩

theorem standbyTakeover_ends (hup : s.up = true) (hdue : s.takeoverDue = true) : Completes .standbyTakeover s (fun t =>
    TakesControl (if s.jl.takeFar then s.farSeq else s.laterSeq) s t ∧ t.flag JL_STAT.PART = false ∧ LowKeptBut [] s t ∧ MemKept s t) := by
  refine completes_of_exec (o := execStandbyTakeover s) rfl (act_ends hup ?_)
  have htake : s.takeover = (s.takeControl (if s.jl.takeFar then s.farSeq else s.laterSeq)).putB JL_STAT.PART false := if_pos hdue
  rw [if_pos hdue, htake]
  obtain ⟨htakes, hpart, hwork⟩ := takes_part_ends (s := s) (seq := if s.jl.takeFar then s.farSeq else s.laterSeq)
  generalize (s.takeControl (if s.jl.takeFar then s.farSeq else s.laterSeq)).putB JL_STAT.PART false = z at htakes hpart hwork
  exact ⟨htakes, hpart, hwork.settled⟩

theorem TakesControl.settled {seq : Nat} (h : TakesControl seq s t) : TakesControl seq s (settle t) := h

/-- Control is taken alike from a state of the same epoch. -/
theorem TakesControl.of_epoch {seq : Nat} (he : u.reg JL_EPOCH = s.reg JL_EPOCH) (h : TakesControl seq u t) : TakesControl seq s t := by
  unfold TakesControl at h ⊢
  rwa [he] at h

theorem takeControl_stat {seq : Nat} (hf : f ∈ statFlds) (hr : f.apart JL_STAT.REF = true) : (s.takeControl seq).get f = s.get f := by
  have haddr := (statFlds_apart f hf).1
  have hput : (s.put JL_PSEQ.PSEQ seq).get f = s.get f := State.get_put_other rfl (Fld.apart_of_addr (by rw [haddr]; decide))
  have htook : s.takeControl seq = (s.put JL_PSEQ.PSEQ seq).becomeActive := rfl
  rw [htook, (active_becomeActive (s := s.put JL_PSEQ.PSEQ seq)).stat f hf hr, hput]

/-- The observer takes control once its partner's outputs have been dead for long enough. -/
theorem State.observerTakes_dead {b : Nat} (hstate : s.pstate = 6) (hdead : s.jl.deadAt = some b) (hlong : 50000 ≤ s.since b) :
    s.observerTakes = (s.putB JL_STAT.PART false).takeControl s.farSeq := by
  unfold State.observerTakes
  rw [hdead]
  dsimp only
  rw [if_pos (by simp [hstate, hlong])]

theorem State.observerTakes_early {b : Nat} (hdead : s.jl.deadAt = some b) (hshort : s.since b < 50000) : s.observerTakes = s := by
  unfold State.observerTakes
  rw [hdead]
  dsimp only
  rw [if_neg (by simp; omega)]

theorem takeControl_after_part {seq : Nat} (ht : t = (s.putB JL_STAT.PART false).takeControl seq) : TakesControl seq s (settle t)
    ∧ (settle t).flag JL_STAT.PART = false ∧ LowKeptBut [] s (settle t) ∧ MemKept s (settle t) := by
  have hepoch : (s.putB JL_STAT.PART false).reg JL_EPOCH = s.reg JL_EPOCH := State.reg_putB_other (by decide)
  have hpart : (s.putB JL_STAT.PART false).flag JL_STAT.PART = false := State.flag_putB_same rfl
  have hall : PairWork s (s.putB JL_STAT.PART false) := PairWork.refl.putB (by decide)
  generalize s.putB JL_STAT.PART false = z at hepoch hpart hall ht
  obtain ⟨hcontrol, hwork⟩ := takesControl_takeControl (s := z) (seq := seq)
  have hflag : (z.takeControl seq).flag JL_STAT.PART = false := (congrArg (· != 0) (takeControl_stat (by simp [statFlds]) rfl)).trans hpart
  rw [← ht] at hcontrol hwork hflag
  exact ⟨(hcontrol.of_epoch hepoch).settled, hflag, (hall.trans hwork).settled⟩

theorem observerTakeover_ends {b : Nat} (hup : s.up = true) (hstate : s.pstate = 6) (hdead : s.jl.deadAt = some b) :
    (50000 ≤ s.since b → Completes .observerTakeover s (fun t =>
        TakesControl s.farSeq s t ∧ t.flag JL_STAT.PART = false ∧ LowKeptBut [] s t ∧ MemKept s t))
    ∧ (s.since b < 50000 → Completes .observerTakeover s (fun t => t.jl = s.jl ∧ AllKept s t)) := by
  constructor <;> intro hlong <;> refine completes_of_exec (o := execObserverTakeover s) rfl (act_ends hup ?_)
  · exact takeControl_after_part (State.observerTakes_dead hstate hdead hlong)
  · rw [State.observerTakes_early hdead hlong]
    exact ⟨State.jl_settle, allKept_settle⟩

theorem seekTimeout_ends (hup : s.up = true) (hon : s.pairOn = true) (hstate : s.pstate = 1) :
    (orElse (s.get JL_CFG.SEEKR) 2 * 1000000 ≤ s.aloneFor → Completes .seekTimeout s (fun t =>
        TakesControl (s.get JL_PSEQ.PSEQ) s t ∧ LowKeptBut [] s t ∧ MemKept s t))
    ∧ (s.aloneFor < orElse (s.get JL_CFG.SEEKR) 2 * 1000000 → Completes .seekTimeout s (fun t => t.jl = s.jl ∧ AllKept s t)) := by
  constructor <;> intro hlong <;> refine completes_of_exec (o := execSeekTimeout s) rfl (act_ends hup ?_)
  · have hseek : s.seekOver = s.becomeActive := if_pos (by simp [hon, hstate, hlong])
    have hcontrol := takesControl_becomeActive (s := s)
    have hwork := (active_becomeActive (s := s)).work
    rw [hseek]
    generalize s.becomeActive = z at hcontrol hwork
    exact ⟨hcontrol.settled, hwork.settled⟩
  · have hstays : s.seekOver = s := if_neg (by simp; omega)
    rw [hstays]
    exact ⟨State.jl_settle, allKept_settle⟩

/-! ### The end of a probation, and giving up (R400, R413) -/

theorem probationEnd_ends (hup : s.up = true) (hon : s.pairOn = true) (hstate : s.pstate = 4)
    (hclean : orElse (s.get JL_CFG.PROBR) 10 ≤ s.jl.cleanRounds) : Completes .probationEnd s (fun t => t.pstate = 5 ∧ t.get JL_STAT.ROLE = 2
      ∧ t.flag JL_STAT.INSTEP = true ∧ LowKeptBut [] s t ∧ MemKept s t) := by
  refine completes_of_exec (o := execProbationEnd s) rfl (act_ends hup ?_)
  have hover : s.probationOver = s.setPstate 5 := if_pos (by simp [hstate, hclean])
  rw [if_pos hon, hover]
  have hent := enters_setPstate (s := s) (p := 5) (by decide)
  have hstep : (s.setPstate 5).flag JL_STAT.INSTEP = true := ?_
  · generalize s.setPstate 5 = z at hent hstep
    exact ⟨hent.pstate, hent.role, hstep, hent.work.settled⟩
  have hnew : s.setPstate 5 = ((s.roleShown 5).momentKept 5).putInStep.discipline := by
    rw [State.setPstate_eq, if_neg (by simp [hstate])]
  have hshown : (((s.roleShown 5).momentKept 5).pstate) = 5 :=
    (get_of_reg_eq (f := JL_STAT.PSTATE) State.reg_momentKept).trans (roleShown_shows (by decide)).1
  rw [hnew, beside_discipline.flag (by decide) (by decide)]
  generalize (s.roleShown 5).momentKept 5 = z at hshown
  refine (State.flag_putB_same rfl).trans ?_
  rw [hshown]
  rfl

theorem jlResult_low : PairWork s (s.jlResult v) := PairWork.refl.put (by decide)

theorem State.result_jlResult (h : v < 16) : (s.jlResult v).get JL_CRES.RESULT = v :=
  (State.get_put_same rfl).trans (Nat.mod_eq_of_lt h)

theorem jlRefusal_lt : s.jlRefusal < 16 := by
  unfold State.jlRefusal
  split
  · decide
  · split
    · decide
    · split <;> decide

theorem jlRefusal_none (h : s.jlRefusal = 0) : s.pstate = 2 ∧ s.get JL_STAT.PARTNER = 5 := by
  unfold State.jlRefusal at h
  split at h
  · simp at h
  next hact =>
    split at h
    · simp at h
    next hpar => exact ⟨by simpa using hact, by simpa using hpar⟩

theorem jlGiveup_ends (hup : s.up = true) (hisl : s.alive 23 = true) : Completes .jlGiveup s (fun t => t.get JL_CRES.RESULT = s.jlRefusal
    ∧ (s.jlRefusal = 0 → s.jl.relBeat = none → Releases 6 s t) ∧ (s.jlRefusal ≠ 0 → RegsKeptBut [JL_CRES] s t)
    ∧ LowKeptBut [] s t ∧ MemKept s t) := by
  refine completes_of_exec (o := execJlGiveup s) rfl (act_ends hup ?_)
  rw [if_pos hisl]
  have hres := State.result_jlResult (s := s) (jlRefusal_lt (s := s))
  have hwork : PairWork s (s.jlResult s.jlRefusal) := jlResult_low
  by_cases hok : s.jlRefusal = 0
  · have hgive : s.jlGiveup = (s.jlResult 0).giveUp 6 := by
      unfold State.jlGiveup
      simp only [hok]
      rfl
    obtain ⟨hact, hpar⟩ := jlRefusal_none hok
    rw [hok] at hres hwork
    rw [hgive]
    have hcres : ((s.jlResult 0).giveUp 6).get JL_CRES.RESULT = 0 := by
      refine (get_of_reg_eq (State.reg_giveUp ?_ ?_ ?_ ?_)).trans hres <;> decide
    refine ⟨hcres.trans hok.symm, fun _ hrel => ?_, fun hno => absurd hok hno, (hwork.trans pairWork_giveUp).settled⟩
    have hrels := giveUp_releases (s := s.jlResult 0) (c := 6) (by decide) ((State.get_put_other rfl rfl).trans hact)
      ((State.get_put_other rfl rfl).trans hpar) ((congrArg JlS.relBeat State.jl_put).trans hrel)
    unfold Releases at hrels ⊢
    rwa [hwork.beat, hwork.run] at hrels
  · have hgive : s.jlGiveup = s.jlResult s.jlRefusal := if_neg (by simpa using hok)
    rw [hgive]
    have hregs : RegsKeptBut [JL_CRES] s (s.jlResult s.jlRefusal) := fun a ha => State.reg_put_other (by simpa using ha)
    generalize s.jlResult s.jlRefusal = z at hres hwork hregs
    exact ⟨hres, fun h => absurd h hok, fun _ => hregs, hwork.settled⟩

/-! ### A loop supply lost (R400) -/

/-- The loop supply's limits shown, and since when they have been left. -/
def State.supplyShown (s : State) (ok : Bool) : State :=
  ({ s with life := { s.life with supAt := if ok then none else some (s.life.supAt.getD s.t.run) } } : State).putB LO_STAT.SUPOK ok

theorem State.reg_supplyShown {ok : Bool} (ha : a ≠ LO_STAT) : (s.supplyShown ok).reg a = s.reg a := State.reg_putB_other ha

theorem State.get_supplyShown {ok : Bool} (hf : f.addr ≠ LO_STAT) : (s.supplyShown ok).get f = s.get f := get_of_reg_eq (State.reg_supplyShown hf)

theorem supplyShown_shows {ok : Bool} : (s.supplyShown ok).flag LO_STAT.SUPOK = ok
    ∧ (s.supplyShown ok).life.supAt = (if ok then none else some (s.life.supAt.getD s.t.run)) ∧ (s.supplyShown ok).jl = s.jl
    ∧ PairWork s (s.supplyShown ok) := by
  have hlife : PairWork s ({ s with life := { s.life with supAt := if ok then none else some (s.life.supAt.getD s.t.run) } } : State) :=
    .of_eq rfl rfl rfl
  exact ⟨State.flag_putB_same rfl, congrArg Life.supAt State.life_putB, State.jl_putB, hlife.putB (by decide)⟩

theorem State.supplyLost_cases : s.supplyLost = s ∨ s.supplyLost = s.giveUp 5 := by
  unfold State.supplyLost
  split
  · split
    · exact .inr rfl
    · exact .inl rfl
  · exact .inl rfl

theorem State.supplyLost_early (h : ∀ b, s.life.supAt = some b → s.since b < 10000) : s.supplyLost = s := by
  unfold State.supplyLost
  split
  next b hb => exact if_neg (by have := h b hb; omega)
  · rfl

theorem State.supplyLost_due {b : Nat} (h : s.life.supAt = some b) (hlong : 10000 ≤ s.since b) : s.supplyLost = s.giveUp 5 := by
  unfold State.supplyLost
  rw [h]
  exact if_pos hlong

theorem loopSupplyOutOfLimits_ends {ok : Bool} (hup : s.up = true) : Completes (.loopSupplyOutOfLimits ok) s (fun t => t.flag LO_STAT.SUPOK = ok
    ∧ (ok = true → t.life.supAt = none) ∧ (ok = false → t.life.supAt = some (s.life.supAt.getD s.t.run))
    ∧ (ok = true ∨ s.life.supAt = none → RegsKeptBut [LO_STAT] s t)
    ∧ (∀ b, ok = false → s.life.supAt = some b → 10000 ≤ s.since b →
        (s.pstate = 2 → s.get JL_STAT.PARTNER = 5 → s.jl.relBeat = none → Releases 5 s t)
        ∧ (3 ≤ s.pstate → s.pstate ≤ 7 → t.pstate = 8 ∧ t.get JL_CAUSE.CAUSE = 5)) ∧ LowKeptBut [] s t ∧ MemKept s t) := by
  refine completes_of_exec (o := execLoopSupplyOutOfLimits ok s) rfl (act_ends (work := fun s => (s.supplyShown ok).supplyLost) hup ?_)
  obtain ⟨hok, hsup, hjl, hwork⟩ := supplyShown_shows (s := s) (ok := ok)
  have hstate : (s.supplyShown ok).pstate = s.pstate := State.get_supplyShown (by decide)
  have hpartner : (s.supplyShown ok).get JL_STAT.PARTNER = s.get JL_STAT.PARTNER := State.get_supplyShown (by decide)
  have hregs : ∀ a, a ≠ LO_STAT → (s.supplyShown ok).reg a = s.reg a := fun _ => State.reg_supplyShown
  have hrun := hwork.run
  have hbeat := hwork.beat
  generalize s.supplyShown ok = z at hok hsup hjl hwork hstate hpartner hregs hrun hbeat
  have hlost : PairWork z z.supplyLost ∧ z.supplyLost.flag LO_STAT.SUPOK = z.flag LO_STAT.SUPOK ∧ z.supplyLost.life = z.life := by
    rcases State.supplyLost_cases (s := z) with h | h <;> rw [h]
    · exact ⟨.refl, rfl, rfl⟩
    · exact ⟨pairWork_giveUp, flag_of_reg_eq (State.reg_giveUp (by decide) (by decide) (by decide) (by decide)), State.life_giveUp⟩
  obtain ⟨hlow, hflag, hlife⟩ := hlost
  refine ⟨hflag.trans hok, fun h => ?_, fun h => ?_, fun h a ha => ?_, fun b hno hb hlong => ?_, (hwork.trans hlow).settled⟩
  · rw [State.life_settle, hlife, hsup, if_pos h]
  · rw [State.life_settle, hlife, hsup, if_neg (by simp [h])]
  · have hearly : z.supplyLost = z := State.supplyLost_early fun b hb => by
      rw [hsup] at hb
      rcases h with h | h
      · simp [h] at hb
      · have hnow : b = s.t.run := by
          cases ok <;> simp [h] at hb
          exact hb.symm
        unfold State.since
        omega
    rw [State.reg_settle, hearly]
    exact hregs a (by simpa using ha)
  · have hat : z.life.supAt = some b := by rw [hsup, hno, hb]; rfl
    rw [State.supplyLost_due hat (by unfold State.since at hlong ⊢; omega)]
    refine ⟨fun hact hpar hrel => ?_, fun h3 h7 => ?_⟩
    · have hrels := giveUp_releases (s := z) (c := 5) (by decide) (hstate.trans hact) (hpartner.trans hpar) (by rw [hjl]; exact hrel)
      unfold Releases at hrels ⊢
      rwa [hbeat, hrun] at hrels
    · rw [giveUp_fails (by omega) (by omega)]
      have hset := causeSet_setCause (s := z) (c := 5) (by decide)
      have hent := enters_setPstate (s := z.setCause 5) (p := 8) (by decide)
      exact ⟨hent.pstate, (get_of_reg_eq (f := JL_CAUSE.CAUSE) (hent.regs _ (by decide) (by decide))).trans hset.cause⟩

/-! ### A slot armed with an action that no mode change is (R62, R69) -/

theorem Arm.slot_of_word {y : Arm} (h4 : y.action < 16) (hs : y.scope < 4) (ht : y.tag < 65536) :
    fld y.word 13 11 = 1 ∧ fld y.word 35 32 = y.action ∧ fld y.word 31 30 = y.scope ∧ fld y.word 10 10 = y.received.toNat := by
  have htag : (if y.action == 0 then y.tag else 0) < 65536 := by split <;> omega
  have hrec : y.received.toNat < 2 := Bool.toNat_lt _
  have hword := Arm.toNat_word h4 hs ht
  simp only [fld, bits_eq, hword]
  generalize (if y.action == 0 then y.tag else 0) = g at htag
  omega

/-- An arm in its slot: target, state, action, scope and origin show it, the argument stands with it. -/
structure Slotted (n : Nat) (y : Arm) (s t : State) : Prop where
  target : t.reg (TIM_SLOT_W0 n) = y.target
  state : t.get (TIM_SLOT_W1.STATE n) = 1
  action : t.get (TIM_SLOT_W1.ACTION n) = y.action
  scope : t.get (TIM_SLOT_W1.SCOPE n) = y.scope
  origin : t.get (TIM_SLOT_W1.ORIGIN n) = y.received.toNat
  arg : t.t.slotArg.getD n 0 = y.arg
  regs : RegsKeptBut [TIM_SLOT_W0 n, TIM_SLOT_W1 n, TIM_LSTAT] s t
  mem : t.mem = s.mem

theorem Slotted.low {y : Arm} (h : Slotted n y s t) : LowKeptBut [TIM_SLOT_W0 n, TIM_SLOT_W1 n, TIM_LSTAT] s t := fun a _ _ _ ha => h.regs a ha

theorem slotted_armed {y : Arm} (hn : n < 16) (h0 : y.action ≠ 0) (h4 : y.action < 16) (hs : y.scope < 4) (ht : y.tag < 65536) :
    Slotted n y s (s.armed n y x) := by
  obtain ⟨hst, hact, hsc, horig⟩ := Arm.slot_of_word h4 hs ht
  have hslots : ∀ b, b = TIM_SLOT_W0 n ∨ b = TIM_SLOT_W1 n → (s.armed n y x).reg b = (s.slotFilled n y).reg b := fun b hb => by
    obtain ⟨-, hmode, hlstat⟩ := slotWords_apart hn hb
    rw [State.reg_armed hmode hlstat]
  have hw1 : (s.armed n y x).reg (TIM_SLOT_W1 n) = y.word := (hslots _ (.inr rfl)).trans State.reg_slotFilled_w1
  have hmode : (s.slotFilled n y).pendShown y = s.slotFilled n y := if_neg (by simpa using h0)
  refine ⟨(hslots _ (.inl rfl)).trans State.reg_slotFilled_w0, ?_, ?_, ?_, ?_, ?_, fun b hb => ?_, State.mem_armed⟩
  · exact (congrArg (fld · 13 11) hw1).trans hst
  · exact (congrArg (fld · 35 32) hw1).trans hact
  · exact (congrArg (fld · 31 30) hw1).trans hsc
  · exact (congrArg (fld · 10 10) hw1).trans horig
  · rw [State.t_armed]
    exact State.slotArg_slotFilled
  · simp only [List.mem_cons, List.not_mem_nil, or_false, not_or] at hb
    obtain ⟨hw0, hw1, hlstat⟩ := hb
    unfold State.armed
    rw [hmode, State.reg_armResult hlstat]
    exact (State.reg_setReg_other (s := s.setReg (TIM_SLOT_W0 n) y.target) hw1).trans (State.reg_setReg_other hw0)

theorem Slotted.kept {y : Arm} (h : Slotted n y s t) (hr : u.regs = t.regs) (ht : u.t = t.t) (hm : u.mem = t.mem) : Slotted n y s u := by
  have hreg : ∀ b, u.reg b = t.reg b := fun b => by simp only [State.reg, hr]
  refine ⟨(hreg _).trans h.target, (get_of_reg_eq (hreg _)).trans h.state, (get_of_reg_eq (hreg _)).trans h.action, (get_of_reg_eq (hreg _)).trans h.scope,
    (get_of_reg_eq (hreg _)).trans h.origin, (congrArg (fun y : TimeS => y.slotArg.getD n 0) ht).trans h.arg,
    fun b hb => (hreg b).trans (h.regs b hb), hm.trans h.mem⟩

/-! ### A swap of pair scope armed (R411, R418) -/

/-- The swap that JL_CMD and the hours arm. -/
def State.swapArm (s : State) : Arm := ⟨s.boundaryAhead 2, s.reg JL_EPOCH, 1, 1, 0, s.ownIssuer, false, s.minlead 1, false⟩

theorem admits_swapArm : s.Admits s.swapArm := 
  ⟨show (1 : Nat) ≠ 3 by decide, argOk_roleSwap, fun h => absurd (show (1 : Nat) = 0 from h) (by decide), fun _ => rfl⟩

/-- An arm of pair scope is carried to the partner alone. -/
theorem carryArm_pair {y : Arm} (h : y.scope = 1) : (s.carryArm y).regs = s.regs ∧ (s.carryArm y).t = s.t ∧ (s.carryArm y).mem = s.mem := by
  unfold State.carryArm
  rw [if_neg (by simp [h])]
  split
  · exact ⟨rfl, rfl, rfl⟩
  · exact ⟨rfl, rfl, rfl⟩

theorem slotted_armSwap (hslot : s.slotFor 1 = some (n, x)) (htest : targetTest (s.boundaryAhead 2) s.t.beat (s.minlead 1) = 0) :
    Slotted n s.swapArm s s.armSwap := by
  have harm : s.arm s.swapArm = (s.armed n s.swapArm x, true) := State.arm_takes admits_swapArm htest hslot
  have hissue : s.armSwap = (s.armed n s.swapArm x).carryArm s.swapArm := by
    show s.issue s.swapArm = _
    unfold State.issue
    rw [harm]
    exact if_neg (by unfold State.swapArm; simp)
  obtain ⟨hregs, ht, hmem⟩ := carryArm_pair (s := s.armed n s.swapArm x) (y := s.swapArm) rfl
  rw [hissue]
  exact (slotted_armed (slotFor_range hslot) (show (1 : Nat) ≠ 0 by decide) (show (1 : Nat) < 16 by decide) (show (1 : Nat) < 4 by decide)
    (show (0 : Nat) < 65536 by decide)).kept hregs ht hmem

theorem slotFor_of_regs (h : ∀ n < 16, t.reg (TIM_SLOT_W1 n) = s.reg (TIM_SLOT_W1 n)) : t.slotFor a = s.slotFor a := by
  have harm : ∀ n < 16, t.armedSlot n = s.armedSlot n := fun n hn => congrArg (· == 1) (get_of_reg_eq (f := TIM_SLOT_W1.STATE n) (h n hn))
  have hact : ∀ n < 16, t.get (TIM_SLOT_W1.ACTION n) = s.get (TIM_SLOT_W1.ACTION n) := fun n hn => get_of_reg_eq (h n hn)
  have hsame : (List.range 16).find? (fun n => t.armedSlot n && t.get (TIM_SLOT_W1.ACTION n) == a)
      = (List.range 16).find? (fun n => s.armedSlot n && s.get (TIM_SLOT_W1.ACTION n) == a) :=
    List.find?_congr fun n hn => by rw [harm n (List.mem_range.mp hn), hact n (List.mem_range.mp hn)]
  have hfree : (List.range 16).find? (fun n => !t.armedSlot n) = (List.range 16).find? (fun n => !s.armedSlot n) :=
    List.find?_congr fun n hn => by rw [harm n (List.mem_range.mp hn)]
  unfold State.slotFor
  rw [hsame, hfree]

theorem State.jlSwapArm_eq : s.jlSwapArm = if s.jlRefusal == 0 then (s.jlResult s.jlRefusal).armSwap else s.jlResult s.jlRefusal := rfl

theorem jlSwapArm_ends (hup : s.up = true) (hok : s.jlRefusal = 0) (hslot : s.slotFor 1 = some (n, x))
    (htest : targetTest (s.boundaryAhead 2) s.t.beat (s.minlead 1) = 0) (hisl : s.alive 23 = true) :
    Completes .jlSwapArm s (fun t => t.get JL_CRES.RESULT = 0
      ∧ t.reg (TIM_SLOT_W0 n) = s.boundaryAhead 2 ∧ t.get (TIM_SLOT_W1.STATE n) = 1 ∧ t.get (TIM_SLOT_W1.ACTION n) = 1
      ∧ t.get (TIM_SLOT_W1.SCOPE n) = 1 ∧ t.t.slotArg.getD n 0 = s.reg JL_EPOCH
      ∧ LowKeptBut [TIM_SLOT_W0 n, TIM_SLOT_W1 n, TIM_LSTAT] s t ∧ MemKept s t) := by
  refine completes_of_exec (o := execJlSwapArm s) rfl (act_ends hup ?_)
  rw [if_pos hisl]
  have harmed : s.jlSwapArm = (s.jlResult 0).armSwap := by rw [State.jlSwapArm_eq, hok, if_pos (beq_self_eq_true 0)]
  have hother : ∀ a, a ≠ JL_CRES → (s.jlResult 0).reg a = s.reg a := fun a ha => State.reg_put_other ha
  have htime : (s.jlResult 0).t = s.t := State.t_put
  have hmem : (s.jlResult 0).mem = s.mem := State.mem_put
  have hres := State.result_jlResult (s := s) (v := 0) (by decide)
  rw [harmed]
  generalize s.jlResult 0 = z at hother htime hmem hres
  have hlead : z.minlead 1 = s.minlead 1 := congrArg (max 8) (get_of_reg_eq (hother _ (by decide)))
  have hbound : z.boundaryAhead 2 = s.boundaryAhead 2 := by unfold State.boundaryAhead; rw [htime]
  have hsame : z.slotFor 1 = s.slotFor 1 := slotFor_of_regs fun k hk => hother _ (by show 0o40010101 + 2 * k ≠ 0o40130011; omega)
  have harm := slotted_armSwap (s := z) (n := n) (x := x) (hsame.trans hslot) (by rw [hbound, htime, hlead]; exact htest)
  have hn := slotFor_range hslot
  have hcres : z.armSwap.get JL_CRES.RESULT = 0 := by
    refine (get_of_reg_eq (harm.regs _ ?_)).trans hres
    simp only [TIM_SLOT_W0, TIM_SLOT_W1, TIM_LSTAT, List.mem_cons, List.not_mem_nil, or_false]
    omega
  generalize z.armSwap = u at harm hcres
  refine ⟨hcres, harm.target.trans hbound, harm.state, harm.action, harm.scope, harm.arg.trans (hother _ (by decide)), fun a ha _ _ hl => ?_, ?_⟩
  · exact (harm.regs a hl).trans (hother a (by rintro rfl; revert ha; decide))
  · exact (memKept_of_mem_eq (harm.mem.trans hmem)).trans allKept_settle.2

theorem autoSwapArm_ends (hup : s.up = true) (hok : s.jlRefusal = 0) (hslot : s.slotFor 1 = some (n, x))
    (htest : targetTest (s.boundaryAhead 2) s.t.beat (s.minlead 1) = 0) (hon : s.pairOn = true) (hset : orElse (s.get JL_CFG.SWAPH) 24 ≠ 511)
    (hhours : orElse (s.get JL_CFG.SWAPH) 24 ≤ s.get JL_SWAP.HOURS) (hmode : s.mode ≤ 1) (hawake : s.jl.partSleep = none)
    (hno : ∀ k : Fin 16, s.armedSlot k = true → s.get (TIM_SLOT_W1.ACTION k) ≠ 1) :
    Completes .autoSwapArm s (fun t => t.reg (TIM_SLOT_W0 n) = s.boundaryAhead 2
      ∧ t.get (TIM_SLOT_W1.STATE n) = 1 ∧ t.get (TIM_SLOT_W1.ACTION n) = 1 ∧ t.get (TIM_SLOT_W1.SCOPE n) = 1
      ∧ t.t.slotArg.getD n 0 = s.reg JL_EPOCH ∧ LowKeptBut [TIM_SLOT_W0 n, TIM_SLOT_W1 n, TIM_LSTAT] s t ∧ MemKept s t) := by
  refine completes_of_exec (o := execAutoSwapArm s) rfl (act_ends hup ?_)
  have hnone : (List.range 16).any (fun n => s.armedSlot n && s.get (TIM_SLOT_W1.ACTION n) == 1) = false := by
    rw [List.any_eq_false]
    intro k hk
    have := hno ⟨k, List.mem_range.mp hk⟩
    simpa using this
  have harmed : s.autoSwap = s.armSwap := by
    unfold State.autoSwap
    rw [hnone]
    exact if_pos (by simp [hok, hset, hhours, hmode, hawake])
  have harm := slotted_armSwap hslot htest
  rw [if_pos hon, harmed]
  generalize s.armSwap = u at harm
  exact ⟨harm.target, harm.state, harm.action, harm.scope, harm.arg, harm.low, (memKept_of_mem_eq harm.mem).trans allKept_settle.2⟩

/-! ### The standby's share of a swap (R410) -/

/-- The work of the pair engine and of one launch slot. -/
theorem LowKeptBut.put {l : List Nat} (h : LowKeptBut l s t) (hf : f.addr ∈ l) : LowKeptBut l s (t.put f v) :=
  fun a h1 h2 h3 h4 => (State.reg_put_other (by rintro rfl; exact h4 hf)).trans (h a h1 h2 h3 h4)

/-- The swap shown in a unit that has become the active. -/
def State.swapShown (s : State) : State := (s.setPartner 5).inc JL_SWAP.SWAPS

theorem swapShown_shows {seq : Nat} (h : TakesControl seq s t) : TakesControl seq s t.swapShown ∧ t.swapShown.get JL_STAT.PARTNER = 5
    ∧ CountsUp JL_SWAP.SWAPS t t.swapShown ∧ PairWork t t.swapShown := by
  have hget : ∀ f, f.apart JL_SWAP.SWAPS = true → f.apart JL_STAT.INSTEP = true → f.apart JL_STAT.PARTNER = true → t.swapShown.get f = t.get f :=
    fun f h1 h2 h3 => (State.get_inc_other rfl h1).trans ((State.get_put_other rfl h2).trans (State.get_put_other rfl h3))
  have hcount : (t.setPartner 5).get JL_SWAP.SWAPS = t.get JL_SWAP.SWAPS := (State.get_put_other rfl rfl).trans (State.get_put_other rfl rfl)
  have hpartner : t.swapShown.get JL_STAT.PARTNER = 5 :=
    (State.get_inc_other rfl rfl).trans ((State.get_put_other rfl rfl).trans (State.get_put_same rfl))
  have hreg : ∀ a, a ≠ JL_SWAP → a ≠ JL_STAT → t.swapShown.reg a = t.reg a := fun a h1 h2 => (State.reg_inc_other h1).trans (State.reg_setPartner h2)
  have hjl : t.swapShown.jl = t.jl := State.jl_inc.trans (State.jl_putB.trans State.jl_put)
  have hpart : PairWork t (t.setPartner 5) := (PairWork.refl.put (by decide)).trans pairWork_putInStep
  obtain ⟨hstate, hrole, hepoch, hseq, htake, hrelb, hrela, href⟩ := h
  have hwork : PairWork t t.swapShown := hpart.inc (by decide)
  have hswaps : CountsUp JL_SWAP.SWAPS t t.swapShown := countsUp_inc rfl hcount
  generalize t.swapShown = u at hget hpartner hreg hjl hwork hswaps
  exact ⟨⟨(hget _ rfl rfl rfl).trans hstate, (hget _ rfl rfl rfl).trans hrole, (hreg _ (by decide) (by decide)).trans hepoch,
    (hget _ rfl rfl rfl).trans hseq, by rw [hjl]; exact htake, by rw [hjl]; exact hrelb, by rw [hjl]; exact hrela,
    (congrArg (· != 0) (hget JL_STAT.REF rfl rfl rfl)).trans href⟩, hpartner, hswaps, hwork⟩

theorem State.standbySwap_eq (h : s.flag JL_STAT.REF = false) : s.standbySwap = s.becomeActive.swapShown.startSwapCheck 0 := if_neg (by simp [h])

/-- The check after the swap leaves control as it is. -/
theorem startSwapCheck_shows {seq k : Nat} (h : TakesControl seq s t) : TakesControl seq s (t.startSwapCheck k) ∧ PairWork t (t.startSwapCheck k) :=
  ⟨h, .of_eq rfl rfl rfl⟩

/-- What a swap's slot shows beside the pair engine. -/
theorem takesControl_slotEnded {seq : Nat} (hn : n < 16) (h : TakesControl seq s t) : TakesControl seq s (t.put (TIM_SLOT_W1.STATE n) v) := by
  have hreg : ∀ a, 0o40130000 ≤ a → (t.put (TIM_SLOT_W1.STATE n) v).reg a = t.reg a := fun a ha =>
    State.reg_put_other (by show a ≠ 0o40010101 + 2 * n; omega)
  have hjl : (t.put (TIM_SLOT_W1.STATE n) v).jl = t.jl := State.jl_put
  obtain ⟨hstate, hrole, hepoch, hseq, htake, hrelb, hrela, href⟩ := h
  generalize t.put (TIM_SLOT_W1.STATE n) v = u at hreg hjl
  exact ⟨(get_of_reg_eq (hreg _ (by decide))).trans hstate, (get_of_reg_eq (hreg _ (by decide))).trans hrole, (hreg _ (by decide)).trans hepoch,
    (get_of_reg_eq (hreg _ (by decide))).trans hseq, by rw [hjl]; exact htake, by rw [hjl]; exact hrelb, by rw [hjl]; exact hrela,
    (flag_of_reg_eq (hreg _ (by decide))).trans href⟩

/-- The standby's share: control taken and counted, or while the referee runs a skip counted. -/
theorem standbySwap_shows : (s.flag JL_STAT.REF = false → TakesControl (s.get JL_PSEQ.PSEQ) s s.standbySwap
      ∧ s.standbySwap.get JL_STAT.PARTNER = 5 ∧ CountsUp JL_SWAP.SWAPS s s.standbySwap)
    ∧ (s.flag JL_STAT.REF = true → s.standbySwap.pstate = s.pstate ∧ CountsUp JL_SWAP.SKIPS s s.standbySwap) ∧ PairWork s s.standbySwap := by
  cases href : s.flag JL_STAT.REF with
  | false =>
    have hact := active_becomeActive (s := s)
    obtain ⟨hcontrol, hpartner, hcount, hshown⟩ := swapShown_shows (takesControl_becomeActive (s := s))
    obtain ⟨hcontrol, hcheck⟩ := startSwapCheck_shows (k := 0) hcontrol
    have hkept : CountsUp JL_SWAP.SWAPS s (s.becomeActive.swapShown) := by
      unfold CountsUp at hcount ⊢
      rw [hcount, hact.swaps _ rfl rfl]
    have hget : ∀ (z : State) f, (z.startSwapCheck 0).get f = z.get f := fun _ _ => rfl
    have hwork := (hact.work.trans hshown).trans hcheck
    rw [State.standbySwap_eq href]
    exact ⟨fun _ => ⟨hcontrol, (hget _ _).trans hpartner, hkept.of_get_eq (hget _ _)⟩, nofun, hwork⟩
  | true =>
    have hskip : s.standbySwap = s.inc JL_SWAP.SKIPS := if_pos href
    have hstate : (s.inc JL_SWAP.SKIPS).pstate = s.pstate := State.get_inc_other rfl rfl
    have hwork : PairWork s (s.inc JL_SWAP.SKIPS) := PairWork.refl.inc (by decide)
    rw [hskip]
    exact ⟨nofun, fun _ => ⟨hstate, countsUp_inc rfl rfl⟩, hwork⟩

theorem State.launch_standby (hstate : s.pstate = 5) (hisl : s.alive 23 = true) (hdue : s.dueSlots.head? = some n)
    (haction : s.get (TIM_SLOT_W1.ACTION n) = 1) : s.launch 1 n = s.standbySwap.put (TIM_SLOT_W1.STATE n) 2 := by
  have hrun : s.runAction n = s.standbySwap := by
    unfold State.runAction
    rw [haction]
    simp [hisl, hstate]
  have hdead : s.slotDead n = false := by
    unfold State.slotDead
    rw [haction]
    simp [State.namedIslands, hisl]
  unfold State.launch
  rw [if_pos (by simp [hdue, haction]), State.runSlot_eq, hrun, hdead]
  rfl

theorem roleSwapStandby_ends (k : Fin 16) (hup : s.up = true) (hstate : s.pstate = 5) (hisl : s.alive 23 = true)
    (hdue : s.dueSlots.head? = some k.val) (haction : s.get (TIM_SLOT_W1.ACTION k) = 1) :
    Completes (.roleSwapStandby k) s (fun t => t.get (TIM_SLOT_W1.STATE k) = 2
      ∧ (s.flag JL_STAT.REF = false → TakesControl (s.get JL_PSEQ.PSEQ) s t ∧ t.get JL_STAT.PARTNER = 5 ∧ CountsUp JL_SWAP.SWAPS s t)
      ∧ (s.flag JL_STAT.REF = true → t.pstate = 5 ∧ CountsUp JL_SWAP.SKIPS s t)
      ∧ LowKeptBut [TIM_SLOT_W1 k] s t ∧ MemKept s t) := by
  refine completes_of_exec (o := execRoleSwapStandby k s) rfl (act_ends hup ?_)
  rw [if_pos (by simp [hstate]), State.launch_standby hstate hisl hdue haction]
  obtain ⟨htakes, hskips, hwork⟩ := standbySwap_shows (s := s)
  have hstat : ∀ f, 0o40130000 ≤ f.addr → (s.standbySwap.put (TIM_SLOT_W1.STATE k) 2).get f = s.standbySwap.get f := fun f hf =>
    get_of_reg_eq (State.reg_put_other (by show f.addr ≠ 0o40010101 + 2 * k.val; omega))
  have hshown : (s.standbySwap.put (TIM_SLOT_W1.STATE k) 2).get (TIM_SLOT_W1.STATE k) = 2 := State.get_put_same rfl
  have hcontrol : s.flag JL_STAT.REF = false → TakesControl (s.get JL_PSEQ.PSEQ) s (s.standbySwap.put (TIM_SLOT_W1.STATE k) 2) := fun h =>
    takesControl_slotEnded k.isLt (htakes h).1
  have hlow : LowKeptBut [TIM_SLOT_W1 k] s (s.standbySwap.put (TIM_SLOT_W1.STATE k) 2) := (hwork.low.mono (by simp)).put (by simp)
  have hmem : MemKept s (s.standbySwap.put (TIM_SLOT_W1.STATE k) 2) := hwork.mem.trans (memKept_of_mem_eq State.mem_put)
  generalize s.standbySwap.put (TIM_SLOT_W1.STATE k) 2 = z at hstat hshown hcontrol hlow hmem
  refine ⟨hshown, fun h => ⟨(hcontrol h).settled, ?_, ?_⟩, fun h => ⟨?_, ?_⟩, hlow, hmem.trans allKept_settle.2⟩
  · exact (hstat _ (by decide)).trans (htakes h).2.1
  · exact (htakes h).2.2.of_get_eq (hstat _ (by decide))
  · exact (hstat _ (by decide)).trans ((hskips h).1.trans hstate)
  · exact (hskips h).2.of_get_eq (hstat _ (by decide))

end

/-- Settles O49. Becoming the active is one and the same work wherever it happens; a release and a takeover row are the next beat where that is
theirs (log 36), and the refusals are tested in the order of log 45. -/
theorem pairTakesAndGivesControl : Obligations.PairTakesAndGivesControl := by
  unfold Obligations.PairTakesAndGivesControl
  exact ⟨fun _ hup => ⟨releaseControl_ends hup, isBeatIf_of_ite (next := fun z => z.ahead.releaseDue) hup rfl⟩,
    fun _ hup => ⟨standbyTakeover_ends hup, isBeatIf_of_ite (next := fun z => z.ahead.takeoverDue) hup rfl⟩,
    fun _ _ hup => observerTakeover_ends hup, fun _ hup => seekTimeout_ends hup, fun _ k hup => roleSwapStandby_ends k hup,
    fun _ hup => jlGiveup_ends hup,
    fun _ _ _ hup hok hslot htest => ⟨jlSwapArm_ends hup hok hslot htest, autoSwapArm_ends hup hok hslot htest⟩,
    fun _ _ => loopSupplyOutOfLimits_ends, fun _ hup => probationEnd_ends hup⟩

end Sys2Proof.Machine


namespace Sys2Proof.Machine

/-! ## The pair states entered in trouble: copying, left with a cause, links lost (R391, R400, R405, R409, R412, R416) -/

section
variable {s t u : State} {f g : Fld} {a v p c n : Nat} {x : Bool} {w : Word} {P : State → Prop}

/-- What JL_STAT shows beside the unit's own state, the partition and the referee. -/
def laneFlds : List Fld := [JL_STAT.PARTNER, JL_STAT.LNKA, JL_STAT.LNKB, JL_STAT.WIT]

theorem laneFlds_apart : ∀ f ∈ laneFlds, f ∈ statFlds ∧ f.apart JL_STAT.PART = true ∧ f.apart JL_STAT.REF = true := by decide

/-- The last frame and the last witness word received stay. -/
def SameHeard (s t : State) : Prop := t.jl.link.rx = s.jl.link.rx ∧ t.jl.link.lastWit = s.jl.link.lastWit

theorem SameHeard.trans (h : SameHeard s t) (h' : SameHeard t u) : SameHeard s u := ⟨h'.1.trans h.1, h'.2.trans h.2⟩

theorem sameHeard_of_link (h : t.jl.link = s.jl.link) : SameHeard s t := by
  unfold SameHeard
  rw [h]
  exact ⟨rfl, rfl⟩

/-- The unit is in a pair state after trouble: what the links tell stays, and the registers of the engine but those listed; of its state the
last frame and witness word received stay. -/
structure Troubled (l : List Nat) (p : Nat) (s t : State) : Prop where
  pstate : t.pstate = p
  stat : ∀ f ∈ laneFlds, t.get f = s.get f
  regs : ∀ a, 0o40130001 ≤ a → a < 0o40140000 → a ∉ l → t.reg a = s.reg a
  heard : SameHeard s t
  work : PairWork s t

theorem Troubled.flag {l : List Nat} (h : Troubled l p s t) (hf : f ∈ laneFlds) : t.flag f = s.flag f := congrArg (· != 0) (h.stat f hf)

/-- The referee's run has stopped. -/
def NoReferee (s : State) : Prop := s.flag JL_STAT.REF = false ∧ s.jl.referee = none

theorem noReferee_refEnd : NoReferee s.refEnd := ⟨refEnd_shows.1, by rw [refEnd_shows.2.1]⟩

theorem State.reg_refEnd (ha : a ≠ JL_STAT) : s.refEnd.reg a = s.reg a := State.reg_putB_other ha

/-- A pair state left with its cause. -/
theorem leave_shows (hc : c < 32) (hp : p < 16) : Troubled [JL_CAUSE, JL_CAUSEB] p s (s.leave c p) ∧ (s.leave c p).get JL_CAUSE.CAUSE = c
    ∧ NoReferee (s.leave c p) := by
  have hset := causeSet_setCause (s := s) hc
  have hent := enters_enter (s := s.setCause c) hp
  obtain ⟨n, k, j, hjl⟩ := hent.jl
  have hno := noReferee_refEnd (s := (s.setCause c).enter p)
  obtain ⟨-, hend, hrest, hwork⟩ := refEnd_shows (s := (s.setCause c).enter p)
  have hleft : s.leave c p = ((s.setCause c).enter p).refEnd := rfl
  have hother : ∀ a, a ≠ JL_STAT → ((s.setCause c).enter p).refEnd.reg a = ((s.setCause c).enter p).reg a := fun _ => State.reg_refEnd
  rw [hleft]
  generalize s.setCause c = z at *
  generalize z.enter p = y at *
  generalize y.refEnd = q at *
  refine ⟨⟨(hrest JL_STAT.PSTATE rfl).trans hent.pstate, fun f hf => ?_, fun a h1 h2 ha => ?_, ?_, (hset.work.trans hent.work).trans hwork⟩, ?_, hno⟩
  · obtain ⟨hf, -, hr⟩ := laneFlds_apart f hf
    have haddr := (statFlds_apart f hf).1
    rw [hrest f hr, hent.stat f hf]
    exact get_of_reg_eq (hset.regs _ haddr.ge (haddr.trans_lt (by decide)) (by rw [haddr]; decide) (by rw [haddr]; decide))
  · simp only [List.mem_cons, List.not_mem_nil, or_false, not_or] at ha
    have hne : a ≠ JL_STAT := by rintro rfl; revert h1; decide
    exact (hother a hne).trans ((hent.regs a h1 h2).trans (hset.regs a (by omega) h2 ha.1 ha.2))
  · refine sameHeard_of_link ?_
    rw [hend, hjl, hset.jl]
  · rw [hrest JL_CAUSE.CAUSE rfl, get_of_reg_eq (f := JL_CAUSE.CAUSE) (hent.regs _ (by decide) (by decide)), hset.cause]

/-! ### A standby that copies (R412) -/

/-- The active's epoch, where its frame has come. -/
def State.epochTaken (s : State) : State := match s.jl.link.rx with | some f => if f.pstate == 2 then s.setReg JL_EPOCH f.epoch else s | none => s

/-- The copy begun. -/
def State.copyBegun (s : State) : State :=
  { s with jl := { s.jl with joinStep := 1, streamAt := 0, takeAt := none, deadAt := none, replayAt := s.t.run } }

theorem State.copyState_eq : s.copyState = ((s.refEnd.replayClear.epochTaken.enter 3).putB JL_STAT.PART false).copyBegun := by
  unfold State.copyState
  generalize s.refEnd.replayClear = z
  unfold State.epochTaken
  dsimp only
  generalize (State.enter _ 3).putB JL_STAT.PART false = q
  rfl

theorem epochTaken_shows : (∀ a, a ≠ JL_EPOCH → s.epochTaken.reg a = s.reg a) ∧ s.epochTaken.jl = s.jl ∧ PairWork s s.epochTaken := by
  have hset : ∀ e, PairWork s (s.setReg JL_EPOCH e) := fun e => PairWork.refl.setReg (by decide)
  unfold State.epochTaken
  split
  · split
    · exact ⟨fun _ ha => State.reg_setReg_other ha, State.jl_setReg, hset _⟩
    · exact ⟨fun _ _ => rfl, rfl, .refl⟩
  · exact ⟨fun _ _ => rfl, rfl, .refl⟩

theorem replayClear_shows : s.replayClear.regs = s.regs ∧ s.replayClear.jl.referee = s.jl.referee
    ∧ SameHeard s s.replayClear ∧ PairWork s s.replayClear := ⟨rfl, rfl, ⟨rfl, rfl⟩, .of_eq rfl rfl rfl⟩

theorem copyBegun_shows : s.copyBegun.regs = s.regs ∧ s.copyBegun.jl.referee = s.jl.referee ∧ s.copyBegun.jl.link = s.jl.link
    ∧ s.copyBegun.jl.joinStep = 1 ∧ PairWork s s.copyBegun := ⟨rfl, rfl, rfl, rfl, .of_eq rfl rfl rfl⟩

theorem State.reg_of_regs (h : t.regs = s.regs) : t.reg a = s.reg a := by simp only [State.reg, h]

/-- What the copy begins from: the replay cleared, the active's epoch. -/
def State.copyBase (s : State) : State := s.refEnd.replayClear.epochTaken

theorem copyBase_shows : (∀ f, f.apart JL_STAT.REF = true → f.addr ≠ JL_EPOCH → s.copyBase.get f = s.get f) ∧ NoReferee s.copyBase
    ∧ (∀ a, a ≠ JL_STAT → a ≠ JL_EPOCH → s.copyBase.reg a = s.reg a)
    ∧ SameHeard s s.copyBase ∧ PairWork s s.copyBase := by
  obtain ⟨href, hjl, hrest, hwork⟩ := refEnd_shows (s := s)
  have hother : ∀ a, a ≠ JL_STAT → s.refEnd.reg a = s.reg a := fun a ha => State.reg_putB_other ha
  unfold State.copyBase
  generalize s.refEnd = z at href hjl hrest hwork hother ⊢
  obtain ⟨hclear, hcref, hcwit, hcwork⟩ := replayClear_shows (s := z)
  obtain ⟨hregs, hejl, hework⟩ := epochTaken_shows (s := z.replayClear)
  generalize z.replayClear = y at hclear hcref hcwit hcwork hregs hejl hework ⊢
  have hreg : ∀ a, a ≠ JL_EPOCH → y.epochTaken.reg a = z.reg a := fun a ha => (hregs a ha).trans (State.reg_of_regs hclear)
  refine ⟨fun f hf ha => (get_of_reg_eq (hreg _ ha)).trans (hrest f hf), ⟨(flag_of_reg_eq (hreg _ (by decide))).trans href, ?_⟩,
    fun a h1 h2 => (hreg a h2).trans (hother a h1), ?_, (hwork.trans hcwork).trans hework⟩
  · rw [hejl, hcref, hjl]
  · exact ((sameHeard_of_link (by rw [hjl])).trans hcwit).trans (sameHeard_of_link (by rw [hejl]))

theorem copyState_shows : Troubled [JL_EPOCH] 3 s s.copyState ∧ NoReferee s.copyState ∧ s.copyState.flag JL_STAT.PART = false
    ∧ s.copyState.jl.joinStep = 1 := by
  obtain ⟨hbase, hno, hregs, hwit, hwork⟩ := copyBase_shows (s := s)
  have hcopy : s.copyState = ((s.copyBase.enter 3).putB JL_STAT.PART false).copyBegun := State.copyState_eq
  rw [hcopy]
  generalize s.copyBase = z at hbase hno hregs hwit hwork ⊢
  have hent := enters_enter (s := z) (p := 3) (by decide)
  generalize z.enter 3 = y at hent ⊢
  obtain ⟨n, k, j, hjl⟩ := hent.jl
  have hget : ∀ f, f.apart JL_STAT.PART = true → (y.putB JL_STAT.PART false).get f = y.get f := fun f hf => State.get_put_other rfl hf
  have hother : ∀ a, a ≠ JL_STAT → (y.putB JL_STAT.PART false).reg a = y.reg a := fun a ha => State.reg_putB_other ha
  have hpart : (y.putB JL_STAT.PART false).flag JL_STAT.PART = false := State.flag_putB_same rfl
  have hpjl : (y.putB JL_STAT.PART false).jl = y.jl := State.jl_putB
  have hpwork : PairWork y (y.putB JL_STAT.PART false) := PairWork.refl.putB (by decide)
  generalize y.putB JL_STAT.PART false = q at hget hother hpart hpjl hpwork ⊢
  obtain ⟨hbregs, hbref, hblink, hstep, hbwork⟩ := copyBegun_shows (s := q)
  generalize q.copyBegun = r at hbregs hbref hblink hstep hbwork ⊢
  have hreg : ∀ a, r.reg a = q.reg a := fun a => State.reg_of_regs hbregs
  refine ⟨⟨(get_of_reg_eq (hreg _)).trans ((hget _ rfl).trans hent.pstate), fun f hf => ?_, fun a h1 h2 ha => ?_, ?_,
    ((hwork.trans hent.work).trans hpwork).trans hbwork⟩, ⟨?_, ?_⟩, (flag_of_reg_eq (hreg _)).trans hpart, hstep⟩
  · obtain ⟨hf, hp, hr⟩ := laneFlds_apart f hf
    have haddr := (statFlds_apart f hf).1
    rw [get_of_reg_eq (f := f) (hreg _), hget f hp, hent.stat f hf, hbase f hr (by rw [haddr]; decide)]
  · have hne : a ≠ JL_STAT := by rintro rfl; revert h1; decide
    rw [hreg a, hother a hne, hent.regs a h1 h2, hregs a hne (by simpa using ha)]
  · refine hwit.trans (sameHeard_of_link ?_)
    rw [hblink, hpjl, hjl]
  · exact (flag_of_reg_eq (hreg _)).trans ((congrArg (· != 0) (hget JL_STAT.REF rfl)).trans ((hent.flag (by simp [statFlds])).trans hno.1))
  · rw [hbref, hpjl, hjl]
    exact hno.2

theorem sendRec_shows (r : JRec) : (s.sendRec r).regs = s.regs ∧ (s.sendRec r).mem = s.mem ∧ (s.sendRec r).jl.referee = s.jl.referee
    ∧ SameHeard s (s.sendRec r) ∧ (s.sendRec r).jl.joinStep = s.jl.joinStep ∧ PairWork s (s.sendRec r) :=
  ⟨rfl, rfl, rfl, ⟨rfl, rfl⟩, rfl, .of_eq rfl rfl rfl⟩

theorem Troubled.sendRec {l : List Nat} (h : Troubled l p s t) (r : JRec) : Troubled l p s (t.sendRec r) := by
  obtain ⟨hregs, -, -, hwit, -, hwork⟩ := sendRec_shows (s := t) r
  generalize t.sendRec r = z at hregs hwit hwork ⊢
  have hreg : ∀ a, z.reg a = t.reg a := fun a => State.reg_of_regs hregs
  exact ⟨(get_of_reg_eq (hreg _)).trans h.pstate, fun f hf => (get_of_reg_eq (hreg _)).trans (h.stat f hf),
    fun a h1 h2 ha => (hreg a).trans (h.regs a h1 h2 ha), h.heard.trans hwit, h.work.trans hwork⟩

theorem NoReferee.sendRec (h : NoReferee s) (r : JRec) : NoReferee (s.sendRec r) := h

theorem copying_shows : Troubled [JL_EPOCH] 3 s s.copying ∧ NoReferee s.copying := by
  obtain ⟨hcopy, hno, -⟩ := copyState_shows (s := s)
  have hsent : s.copying = s.copyState.sendRec ⟨15, 0, 0, s.copyState.runDigest⟩ := rfl
  rw [hsent]
  generalize s.copyState = z at hcopy hno ⊢
  exact ⟨hcopy.sendRec _, hno.sendRec _⟩

/-! ### Links lost (R391, R405, R416) -/

theorem State.linkLoss_laned (h : s.laned = true) : s.linkLoss = s := if_pos h

/-- While the witness is heard, a unit in step shows LINKLOST. -/
theorem State.linkLoss_heard (h : s.laned = false) (hwit : s.flag JL_STAT.WIT = true) :
    s.linkLoss = if s.replays then s.enter 7 else s := by
  unfold State.linkLoss
  rw [if_neg (by simp [h]), if_pos hwit]

/-- The active shows the partition, unless its partner sleeps. -/
theorem State.linkLoss_active (h : s.laned = false) (hwit : s.flag JL_STAT.WIT = false) (hact : s.pstate = 2) :
    s.linkLoss = if s.jl.partSleep.isSome then s else s.putB JL_STAT.PART true := by
  unfold State.linkLoss
  rw [if_neg (by simp [h]), if_neg (by simp [hwit]), if_pos (by simp [hact])]

/-- The isolated observer's watch over its partner's outputs begins. -/
def State.watchBegun (s : State) : State := { s with jl := { s.jl with deadAt := none } }

theorem State.linkLoss_alone (h : s.laned = false) (hwit : s.flag JL_STAT.WIT = false) (hact : s.pstate ≠ 2)
    (hin : (s.replays || s.pstate == 7) = true) : s.linkLoss = ((s.putB JL_STAT.PART true).enter 6).watchBegun := by
  unfold State.linkLoss
  rw [if_neg (by simp [h]), if_neg (by simp [hwit]), if_neg (by simp [hact]), if_pos hin]
  rfl

theorem State.linkLoss_other (h : s.laned = false) (hwit : s.flag JL_STAT.WIT = false) (hact : s.pstate ≠ 2)
    (hin : (s.replays || s.pstate == 7) = false) : s.linkLoss = s := by
  unfold State.linkLoss
  rw [if_neg (by simp [h]), if_neg (by simp [hwit]), if_neg (by simp [hact]), if_neg (by simp [hin])]

/-- Of the engine's state, the moments of a pair state may move and the watch over the partner's outputs end. -/
def SameLinks (s t : State) : Prop := ∃ n k j d, t.jl = { s.jl with stateAt := n, cleanRounds := k, joinStep := j, deadAt := d }

theorem SameLinks.refl : SameLinks s s := ⟨s.jl.stateAt, s.jl.cleanRounds, s.jl.joinStep, s.jl.deadAt, rfl⟩

/-- What a loss of the links leaves alone: what the links themselves tell, the other registers of the engine. -/
structure LossWork (s t : State) : Prop where
  stat : ∀ f ∈ laneFlds, t.get f = s.get f
  regs : ∀ a, 0o40130001 ≤ a → a < 0o40140000 → t.reg a = s.reg a
  jl : SameLinks s t
  work : PairWork s t

theorem LossWork.refl : LossWork s s := ⟨fun _ _ => rfl, fun _ _ _ => rfl, .refl, .refl⟩

theorem LossWork.flag (h : LossWork s t) (hf : f ∈ laneFlds) : t.flag f = s.flag f := congrArg (· != 0) (h.stat f hf)

theorem LossWork.laned (h : LossWork s t) : t.laned = s.laned := by
  unfold State.laned
  rw [h.flag (by simp [laneFlds]), h.flag (by simp [laneFlds])]

theorem lossWork_part : LossWork s (s.putB JL_STAT.PART x) where
  stat f hf := State.get_put_other rfl (laneFlds_apart f hf).2.1
  regs _ h1 _ := State.reg_putB_other (by rintro rfl; revert h1; decide)
  jl := by
    unfold SameLinks
    rw [State.jl_putB]
    exact SameLinks.refl
  work := PairWork.refl.putB (by decide)

theorem Enters.lossWork (h : Enters p s t) : LossWork s t where
  stat f hf := h.stat f (laneFlds_apart f hf).1
  regs := h.regs
  jl := by obtain ⟨n, k, j, hjl⟩ := h.jl; exact ⟨n, k, j, s.jl.deadAt, hjl⟩
  work := h.work

theorem LossWork.trans (h : LossWork s t) (h' : LossWork t u) : LossWork s u where
  stat f hf := (h'.stat f hf).trans (h.stat f hf)
  regs a h1 h2 := (h'.regs a h1 h2).trans (h.regs a h1 h2)
  jl := by
    obtain ⟨n, k, j, d, hjl⟩ := h.jl
    obtain ⟨n', k', j', d', hjl'⟩ := h'.jl
    exact ⟨n', k', j', d', by rw [hjl', hjl]⟩
  work := h.work.trans h'.work

theorem lossWork_watchBegun : LossWork s s.watchBegun := ⟨fun _ _ => rfl, fun _ _ _ => rfl, ⟨_, _, _, _, rfl⟩, .of_eq rfl rfl rfl⟩

theorem State.reg_watchBegun : s.watchBegun.reg a = s.reg a := rfl

/-- A unit that is alone: the isolated observer, with the partition shown. -/
theorem alone_shows : (((s.putB JL_STAT.PART true).enter 6).watchBegun).pstate = 6
    ∧ (((s.putB JL_STAT.PART true).enter 6).watchBegun).flag JL_STAT.PART = true
    ∧ LossWork s (((s.putB JL_STAT.PART true).enter 6).watchBegun) := by
  have hpart : (s.putB JL_STAT.PART true).flag JL_STAT.PART = true := State.flag_putB_same rfl
  have hloss := lossWork_part (s := s) (x := true)
  generalize s.putB JL_STAT.PART true = z at hpart hloss ⊢
  have hent := enters_enter (s := z) (p := 6) (by decide)
  generalize z.enter 6 = y at hent ⊢
  have hwatch : ∀ f, y.watchBegun.get f = y.get f := fun _ => get_of_reg_eq State.reg_watchBegun
  have hbegun := lossWork_watchBegun (s := y)
  generalize y.watchBegun = q at hwatch hbegun ⊢
  refine ⟨(hwatch _).trans hent.pstate, (congrArg (· != 0) (hwatch JL_STAT.PART)).trans ((hent.flag (by simp [statFlds])).trans hpart), ?_⟩
  exact (hloss.trans hent.lossWork).trans hbegun

theorem lossWork_linkLoss : LossWork s s.linkLoss := by
  cases hl : s.laned with
  | true => rw [State.linkLoss_laned hl]; exact .refl
  | false =>
    cases hw : s.flag JL_STAT.WIT with
    | true =>
      rw [State.linkLoss_heard hl hw]
      split
      · exact (enters_enter (by decide)).lossWork
      · exact .refl
    | false =>
      by_cases ha : s.pstate = 2
      · rw [State.linkLoss_active hl hw ha]
        split
        · exact .refl
        · exact lossWork_part
      · cases hin : s.replays || s.pstate == 7 with
        | true => rw [State.linkLoss_alone hl hw ha hin]; exact alone_shows.2.2
        | false => rw [State.linkLoss_other hl hw ha hin]; exact .refl

theorem pstate_of_replays (h : s.replays = true) : s.pstate = 3 ∨ s.pstate = 4 ∨ s.pstate = 5 := by
  unfold State.replays at h
  simpa [or_assoc] using h

/-- What a loss of the links shows in each pair state. -/
theorem linkLoss_shows (hl : s.laned = false) :
    (s.flag JL_STAT.WIT = true → s.replays = true → s.linkLoss.pstate = 7)
    ∧ (s.flag JL_STAT.WIT = false → s.replays = true ∨ s.pstate = 7 → s.linkLoss.pstate = 6 ∧ s.linkLoss.flag JL_STAT.PART = true)
    ∧ (s.flag JL_STAT.WIT = false → s.pstate = 2 → s.jl.partSleep = none → s.linkLoss.pstate = 2 ∧ s.linkLoss.flag JL_STAT.PART = true) := by
  refine ⟨fun hw hr => ?_, fun hw hin => ?_, fun hw ha hs => ?_⟩
  · rw [State.linkLoss_heard hl hw, if_pos hr]
    exact (enters_enter (by decide)).pstate
  · have hact : s.pstate ≠ 2 := by
      rcases hin with h | h
      · have := pstate_of_replays h
        omega
      · omega
    rw [State.linkLoss_alone hl hw hact (by rcases hin with h | h <;> simp [h])]
    exact ⟨alone_shows.1, alone_shows.2.1⟩
  · rw [State.linkLoss_active hl hw ha, if_neg (by simp [hs])]
    exact ⟨(State.get_put_other rfl rfl).trans ha, State.flag_putB_same rfl⟩

end

end Sys2Proof.Machine


namespace Sys2Proof.Machine

/-! ## The referee, the witness, disagreements, sleep (R391, R392, R393, R398, R402, R411, R415, R416, R417) -/

section
variable {s t u : State} {f g : Fld} {a v p c n : Nat} {x : Bool} {w : Word} {P : State → Prop}

/-! ### The referee (R402) -/

/-- The active's finding of its own fault: what the referee shows stays. -/
theorem giveUp_active (hact : s.pstate = 2) : (∀ a, a ≠ JL_CAUSE → a ≠ JL_CAUSEB → a ≠ ONX_LOST → (s.giveUp c).reg a = s.reg a)
    ∧ (s.giveUp c).jl.referee = s.jl.referee ∧ (s.giveUp c).jl.swapChk = s.jl.swapChk := by
  have hjl : (s.setCause c).jl = s.jl := by
    rw [State.setCause_eq]
    exact State.jl_trigger.trans (State.jl_setReg.trans State.jl_put)
  have hregs : ∀ a, a ≠ JL_CAUSE → a ≠ JL_CAUSEB → a ≠ ONX_LOST → (s.setCause c).reg a = s.reg a := fun _ => State.reg_setCause
  unfold State.giveUp
  rw [if_pos (by rw [hact]; rfl)]
  generalize s.setCause c = z at hjl hregs ⊢
  split
  · exact ⟨hregs, show z.jl.referee = _ by rw [hjl], show z.jl.swapChk = _ by rw [hjl]⟩
  · exact ⟨fun _ _ _ _ => rfl, rfl, rfl⟩

theorem RegWork.inc {l : List Nat} {k : Nat} (h : RegWork l s t) (hf : f.addr ∈ l) : RegWork l s (t.inc f k) := h.put hf

/-- The active's self-check begun for a beat. -/
def State.selfBegun (s : State) (d : Word) : State :=
  { s with jl := { s.jl with referee := some ⟨d, s.t.run - (s.t.beat - d).toNat, s.t.run, false, false, []⟩ } }

theorem selfBegun_shows {d : Word} : (s.selfBegun d).regs = s.regs ∧ (s.selfBegun d).mem = s.mem ∧ (s.selfBegun d).jl.referee.map (·.d) = some d :=
  ⟨rfl, rfl, rfl⟩

theorem State.refStart_takes {d : Word} (hact : s.pstate = 2) (hpar : s.get JL_STAT.PARTNER = 5) (hno : s.jl.referee = none) :
    s.refStart d = ((s.putB JL_STAT.REF true).inc JL_REFST.RUNS).selfBegun d := by
  unfold State.refStart
  rw [if_neg (by simp [hact, hpar, hno])]
  rfl

/-- The run shown and counted. -/
def State.runShown (s : State) : State := (s.putB JL_STAT.REF true).inc JL_REFST.RUNS

theorem runShown_shows : s.runShown.flag JL_STAT.REF = true ∧ CountsUp JL_REFST.RUNS s s.runShown ∧ RegWork [JL_STAT, JL_REFST] s s.runShown :=
  ⟨(State.flag_inc_other rfl rfl).trans (State.flag_putB_same rfl), countsUp_inc rfl (State.get_put_other rfl rfl),
    (RegWork.refl.putB (by simp)).inc (by simp)⟩

theorem State.verdRec_starts {d : Word} (hv : v = 0) (hact : s.pstate = 2) (hpar : s.get JL_STAT.PARTNER = 5) (hno : s.jl.referee = none) :
    s.verdRec v d = s.runShown.selfBegun d := by
  unfold State.verdRec
  rw [if_pos (by simp [hv]), State.refStart_takes hact hpar hno]
  rfl

theorem verdRecordRx_starts {k : Fin 8} {d : Word} (hk : k.val = 0) (hup : s.up = true) (hon : s.pairOn = true) (hact : s.pstate = 2)
    (hpar : s.get JL_STAT.PARTNER = 5) (hno : s.jl.referee = none) :
    Completes (.verdRecordRx k d) s (fun t => t.flag JL_STAT.REF = true
      ∧ CountsUp JL_REFST.RUNS s t ∧ (t.jl.referee.map (·.d)) = some d ∧ RegsKeptBut [JL_STAT, JL_REFST] s t ∧ MemKept s t) := by
  refine completes_of_exec (o := execVerdRecordRx k d s) rfl (act_ends hup ?_)
  rw [if_pos hon, State.verdRec_starts hk hact hpar hno]
  obtain ⟨href, hrun, hwork⟩ := runShown_shows (s := s)
  generalize s.runShown = z at href hrun hwork ⊢
  obtain ⟨hregs, hmem, hd⟩ := selfBegun_shows (s := z) (d := d)
  generalize z.selfBegun d = y at hregs hmem hd ⊢
  have hkept : RegWork [JL_STAT, JL_REFST] s y := hwork.trans ⟨fun _ _ => State.reg_of_regs hregs, hmem⟩
  have hflag : y.flag JL_STAT.REF = z.flag JL_STAT.REF := flag_of_reg_eq (State.reg_of_regs hregs)
  refine ⟨?_, hrun.of_get_eq (get_of_reg_eq (State.reg_of_regs hregs)), hd, hkept.settled.kept⟩
  rw [State.flag_settle, hflag, href]

/-- The verdict shown, with its trigger, and the run stopped. -/
def State.verdictShown (s : State) (v : Nat) : State :=
  ((s.put JL_REFST.VERDICT v).trigNow 6 3 0 ((s.put JL_REFST.VERDICT v).reg JL_REFST) ((s.put JL_REFST.VERDICT v).reg JL_MMB)).refEnd

theorem State.verdict_eq : s.verdict v =
    (if (s.verdictShown v).pstate == 2 then (if v == 3 then (s.verdictShown v).giveUp 8 else s.verdictShown v)
    else if (s.verdictShown v).pstate == 5 then
      (if v == 1 || v == 4 then ((s.verdictShown v).sendRec ⟨14, 0, v, [(s.jl.referee.map (·.d)).getD 0]⟩).copying
      else if v == 2 then ((s.verdictShown v).sendRec ⟨14, 0, v, [(s.jl.referee.map (·.d)).getD 0]⟩).leave 8 8
      else (s.verdictShown v).sendRec ⟨14, 0, v, [(s.jl.referee.map (·.d)).getD 0]⟩)
    else s.verdictShown v) := rfl

/-- What is shown of a verdict before its consequence. -/
structure VerdictShown (v : Nat) (s t : State) : Prop where
  verdict : t.get JL_REFST.VERDICT = v
  none_ : NoReferee t
  stat : ∀ f ∈ statFlds, f.apart JL_STAT.REF = true → t.get f = s.get f
  pstate : t.pstate = s.pstate
  relBeat : t.jl.relBeat = s.jl.relBeat
  work : PairWork s t

theorem verdictShown_shows (hv : v < 8) : VerdictShown v s (s.verdictShown v) := by
  have hput : (s.put JL_REFST.VERDICT v).get JL_REFST.VERDICT = v := (State.get_put_same rfl).trans (Nat.mod_eq_of_lt hv)
  have hother : ∀ a, a ≠ JL_REFST → (s.put JL_REFST.VERDICT v).reg a = s.reg a := fun _ ha => State.reg_put_other ha
  have hjl : (s.put JL_REFST.VERDICT v).jl = s.jl := State.jl_put
  have hwork : PairWork s (s.put JL_REFST.VERDICT v) := PairWork.refl.put (by decide)
  unfold State.verdictShown
  generalize s.put JL_REFST.VERDICT v = z at hput hother hjl hwork ⊢
  have htrig : Beside z (z.trigNow 6 3 0 (z.reg JL_REFST) (z.reg JL_MMB)) := beside_trigger
  generalize z.trigNow 6 3 0 (z.reg JL_REFST) (z.reg JL_MMB) = y at htrig ⊢
  obtain ⟨-, hend, hrest, hework⟩ := refEnd_shows (s := y)
  have hno := noReferee_refEnd (s := y)
  generalize y.refEnd = q at hend hrest hework hno ⊢
  have hstat : ∀ f, 0o40130000 ≤ f.addr → f.addr < 0o40140000 → f.addr ≠ JL_REFST → f.apart JL_STAT.REF = true → q.get f = s.get f :=
    fun f h1 h2 hv hr => (hrest f hr).trans ((htrig.get h1 h2).trans (get_of_reg_eq (hother _ hv)))
  refine ⟨(hrest _ rfl).trans ((htrig.get (by decide) (by decide)).trans hput), hno, fun f hf hr => ?_, hstat _ (by decide) (by decide) (by decide) rfl,
    ?_, (hwork.trans htrig.work).trans hework⟩
  · have haddr := (statFlds_apart f hf).1
    exact hstat f haddr.ge (haddr.trans_lt (by decide)) (by rw [haddr]; decide) hr
  · rw [hend]
    exact (congrArg JlS.relBeat htrig.jl).trans (congrArg JlS.relBeat hjl)

/-- A verdict and its consequence. -/
theorem verdict_shows (hv : v < 8) : (s.verdict v).get JL_REFST.VERDICT = v ∧ NoReferee (s.verdict v) ∧ PairWork s (s.verdict v)
    ∧ (s.pstate = 2 → v = 3 → s.get JL_STAT.PARTNER = 5 → s.jl.relBeat = none → Releases 8 s (s.verdict v))
    ∧ (s.pstate = 5 → v = 1 ∨ v = 4 → (s.verdict v).pstate = 3) ∧ (s.pstate = 5 → v = 2 → (s.verdict v).pstate = 8) := by
  have hshown := verdictShown_shows (s := s) hv
  rw [State.verdict_eq]
  generalize s.verdictShown v = z at hshown ⊢
  obtain ⟨hverd, hno, hstat, hstate, hrel, hwork⟩ := hshown
  have hsend := sendRec_shows (s := z) ⟨14, 0, v, [(s.jl.referee.map (·.d)).getD 0]⟩
  have hsno := hno.sendRec ⟨14, 0, v, [(s.jl.referee.map (·.d)).getD 0]⟩
  generalize z.sendRec ⟨14, 0, v, [(s.jl.referee.map (·.d)).getD 0]⟩ = y at hsend hsno ⊢
  obtain ⟨hsregs, -, -, -, -, hswork⟩ := hsend
  have hsverd : y.get JL_REFST.VERDICT = v := (get_of_reg_eq (State.reg_of_regs hsregs)).trans hverd
  by_cases hact : s.pstate = 2
  · rw [if_pos (by simp [hstate, hact])]
    obtain ⟨hgregs, hgref, -⟩ := giveUp_active (c := 8) (hstate.trans hact)
    have hgwork : PairWork z (z.giveUp 8) := pairWork_giveUp
    by_cases h3 : v = 3
    · rw [if_pos (by simp [h3])]
      have hrels := giveUp_releases (s := z) (c := 8) (by decide) (hstate.trans hact)
      generalize z.giveUp 8 = q at hgregs hgref hgwork hrels ⊢
      refine ⟨(get_of_reg_eq (hgregs _ (by decide) (by decide) (by decide))).trans hverd,
        ⟨(flag_of_reg_eq (hgregs _ (by decide) (by decide) (by decide))).trans hno.1, hgref.trans hno.2⟩, hwork.trans hgwork,
        fun _ _ hpar hnone => ?_, fun h => absurd (hact.symm.trans h) (by decide), fun h => absurd (hact.symm.trans h) (by decide)⟩
      have hdone := hrels ((hstat _ (by simp [statFlds]) rfl).trans hpar) (hrel.trans hnone)
      unfold Releases at hdone ⊢
      rwa [hwork.beat, hwork.run] at hdone
    · rw [if_neg (by simp [h3])]
      exact ⟨hverd, hno, hwork, fun _ h => absurd h h3, fun h => absurd (hact.symm.trans h) (by decide), fun h => absurd (hact.symm.trans h) (by decide)⟩
  · rw [if_neg (by simp [hstate, hact])]
    by_cases hstb : s.pstate = 5
    · rw [if_pos (by simp [hstate, hstb])]
      by_cases h14 : v = 1 ∨ v = 4
      · rw [if_pos (by simpa using h14)]
        obtain ⟨hcopy, hcno⟩ := copying_shows (s := y)
        generalize y.copying = q at hcopy hcno ⊢
        exact ⟨(get_of_reg_eq (hcopy.regs _ (by decide) (by decide) (by decide))).trans hsverd, hcno, (hwork.trans hswork).trans hcopy.work,
          fun h => absurd h hact, fun _ _ => hcopy.pstate, fun _ h2 => by omega⟩
      · rw [if_neg (by simpa using h14)]
        by_cases h2 : v = 2
        · rw [if_pos (by simp [h2])]
          obtain ⟨hleft, -, hlno⟩ := leave_shows (s := y) (c := 8) (p := 8) (by decide) (by decide)
          generalize y.leave 8 8 = q at hleft hlno ⊢
          exact ⟨(get_of_reg_eq (hleft.regs _ (by decide) (by decide) (by decide))).trans hsverd, hlno, (hwork.trans hswork).trans hleft.work,
            fun h => absurd h hact, fun _ h => absurd h h14, fun _ _ => hleft.pstate⟩
        · rw [if_neg (by simp [h2])]
          exact ⟨hsverd, hsno, hwork.trans hswork, fun h => absurd h hact, fun _ h => absurd h h14, fun _ h => absurd h h2⟩
    · rw [if_neg (by simp [hstate, hstb])]
      exact ⟨hverd, hno, hwork, fun h => absurd h hact, fun h => absurd h hstb, fun h => absurd h hstb⟩

theorem verdRecordRx_verdict {k : Fin 8} {d : Word} (hup : s.up = true) (hon : s.pairOn = true) (hact : s.pstate = 2) (hk : k.val ≠ 0)
    (href : s.jl.referee.isSome = true) : Completes (.verdRecordRx k d) s (fun t => t.get JL_REFST.VERDICT = k.val
      ∧ t.flag JL_STAT.REF = false ∧ t.jl.referee = none
      ∧ (k.val = 3 → s.get JL_STAT.PARTNER = 5 → s.jl.relBeat = none → Releases 8 s t) ∧ LowKeptBut [] s t ∧ MemKept s t) := by
  refine completes_of_exec (o := execVerdRecordRx k d s) rfl (act_ends hup ?_)
  have hverd : s.verdRec k.val d = s.verdict k.val := by
    unfold State.verdRec
    rw [if_neg (by simp [hk]), if_pos (by simp [hact, href])]
  obtain ⟨hshown, hno, hwork, hrel, -⟩ := verdict_shows (s := s) k.isLt
  rw [if_pos hon, hverd]
  generalize s.verdict k.val = z at hshown hno hwork hrel ⊢
  exact ⟨hshown, hno.1, hno.2, hrel hact, hwork.settled⟩

/-- The self-check marked as done. -/
def State.selfMarked (s : State) (r : Referee) : State := { s with jl := { s.jl with referee := some { r with selfDone := true } } }

theorem selfMarked_shows {r : Referee} : (s.selfMarked r).regs = s.regs ∧ (s.selfMarked r).jl.referee = some { r with selfDone := true }
    ∧ (s.selfMarked r).jl.relBeat = s.jl.relBeat ∧ (s.selfMarked r).mem = s.mem ∧ PairWork s (s.selfMarked r) :=
  ⟨rfl, rfl, rfl, rfl, .of_eq rfl rfl rfl⟩

theorem State.selfEnd_due {r : Referee} (href : s.jl.referee = some r) (hdone : r.selfDone = false) (hdue : 32 ≤ s.since r.selfAt) :
    s.selfEnd v = if v == 0 then s.selfMarked r
      else if ((s.selfMarked r).giveUp (if v == 1 then 1 else 8)).pstate == 8 then ((s.selfMarked r).giveUp (if v == 1 then 1 else 8)).refEnd
      else (s.selfMarked r).giveUp (if v == 1 then 1 else 8) := by
  unfold State.selfEnd
  rw [href]
  dsimp only
  rw [if_neg (by simp [hdone]; omega)]
  rfl

theorem refereeSelfCheckEnd_ends {fail : Fin 4} {r : Referee} (hup : s.up = true) (href : s.jl.referee = some r) (hdone : r.selfDone = false)
    (hdue : 32 ≤ s.since r.selfAt) :
    Completes (.refereeSelfCheckEnd fail) s (fun t => (fail.val = 0 → t.jl.referee = some { r with selfDone := true } ∧ AllKept s t)
      ∧ (fail.val ≠ 0 → s.pstate = 2 → s.get JL_STAT.PARTNER = 5 → s.jl.relBeat = none → Releases (if fail.val = 1 then 1 else 8) s t)
      ∧ (fail.val ≠ 0 → s.pstate = 5 → t.pstate = 8) ∧ LowKeptBut [] s t ∧ MemKept s t) := by
  refine completes_of_exec (o := execRefereeSelfCheckEnd fail s) rfl (act_ends hup ?_)
  have hcause : (if fail.val = 1 then 1 else 8) = (if fail.val == 1 then 1 else 8) := by simp
  have hlt : (if fail.val == 1 then 1 else 8) < 32 := by split <;> decide
  obtain ⟨hregs, hmarked, hrel, hmem, hwork⟩ := selfMarked_shows (s := s) (r := r)
  rw [State.selfEnd_due href hdone hdue, hcause]
  generalize (if fail.val == 1 then 1 else 8) = c at hlt ⊢
  generalize s.selfMarked r = z at hregs hmarked hrel hmem hwork ⊢
  have hstate : z.pstate = s.pstate := get_of_reg_eq (State.reg_of_regs hregs)
  have hpartner : z.get JL_STAT.PARTNER = s.get JL_STAT.PARTNER := get_of_reg_eq (State.reg_of_regs hregs)
  by_cases h0 : fail.val = 0
  · rw [if_pos (by simp [h0])]
    exact ⟨fun _ => ⟨hmarked, fun a => State.reg_of_regs hregs, (memKept_of_mem_eq hmem).trans allKept_settle.2⟩, fun h => absurd h0 h,
      fun h => absurd h0 h, hwork.settled⟩
  · rw [if_neg (by simp [h0])]
    have hgave : PairWork s (z.giveUp c) := hwork.trans pairWork_giveUp
    have hrels := giveUp_releases (s := z) hlt
    have hkeeps : s.pstate = 2 → (z.giveUp c).pstate = 2 := fun hact =>
      (get_of_reg_eq ((giveUp_active (hstate.trans hact)).1 _ (by decide) (by decide) (by decide))).trans (hstate.trans hact)
    have hfails : s.pstate = 5 → (z.giveUp c).pstate = 8 := fun h5 => by
      rw [giveUp_fails (by omega) (by omega)]
      exact (enters_setPstate (by decide)).pstate
    generalize z.giveUp c = y at hgave hrels hkeeps hfails ⊢
    obtain ⟨-, -, hrest, hend⟩ := refEnd_shows (s := y)
    generalize y.refEnd = q at hrest hend ⊢
    refine ⟨fun h => absurd h h0, fun _ hact hpar hnone => ?_, fun _ h5 => ?_, (PairWork.ite (hgave.trans hend) hgave).settled⟩
    · rw [if_neg (by simp [hkeeps hact])]
      have hdone := hrels (hstate.trans hact) (hpartner.trans hpar) (hrel.trans hnone)
      unfold Releases at hdone ⊢
      rwa [hwork.beat, hwork.run] at hdone
    · rw [if_pos (by simp [hfails h5])]
      exact (hrest JL_STAT.PSTATE rfl).trans (hfails h5)

theorem windowOpen_shows : s.windowOpen.regs = s.regs ∧ s.windowOpen.mem = s.mem
    ∧ s.windowOpen.jl.referee = s.jl.referee.map (fun r => if 64 ≤ s.since r.at_ then { r with open_ := true } else r) := ⟨rfl, rfl, rfl⟩

theorem refereeWindowOpen_ends {r : Referee} (hup : s.up = true) (href : s.jl.referee = some r) :
    Completes .refereeWindowOpen s (fun t => t.jl.referee = some { r with open_ := r.open_ || decide (64 ≤ s.since r.at_) } ∧ AllKept s t) := by
  refine completes_of_exec (o := execRefereeWindowOpen s) rfl (act_ends hup ?_)
  obtain ⟨hregs, hmem, hopen⟩ := windowOpen_shows (s := s)
  generalize s.windowOpen = z at hregs hmem hopen ⊢
  refine ⟨?_, fun a => State.reg_of_regs hregs, (memKept_of_mem_eq hmem).trans allKept_settle.2⟩
  rw [State.jl_settle, hopen, href, Option.map_some]
  by_cases h : 64 ≤ s.since r.at_
  · rw [if_pos h, decide_eq_true h, Bool.or_true]
  · rw [if_neg h, decide_eq_false h, Bool.or_false]

theorem verdictOf_lt {l : List RefOut} : verdictOf l < 8 := by
  unfold verdictOf
  dsimp only
  split
  · decide
  · split
    · decide
    · split <;> decide

theorem refereeVerdict_ends {r : Referee} (hup : s.up = true) (href : s.jl.referee = some r) (hopen : r.open_ = true) :
    (s.since r.at_ < 64 + s.refLen → Completes .refereeVerdict s (fun t => t.jl = s.jl ∧ AllKept s t))
    ∧ (64 + s.refLen ≤ s.since r.at_ → Completes .refereeVerdict s (fun t =>
      t.get JL_REFST.VERDICT = verdictOf r.outs ∧ t.flag JL_STAT.REF = false ∧ t.jl.referee = none
      ∧ (s.pstate = 5 → verdictOf r.outs = 1 ∨ verdictOf r.outs = 4 → t.pstate = 3) ∧ (s.pstate = 5 → verdictOf r.outs = 2 → t.pstate = 8)
      ∧ LowKeptBut [] s t ∧ MemKept s t)) := by
  have hend : s.windowEnd = if r.open_ && 64 + s.refLen ≤ s.since r.at_ then s.verdict (verdictOf r.outs) else s := by
    unfold State.windowEnd
    rw [href]
  constructor <;> intro hlong <;> refine completes_of_exec (o := execRefereeVerdict s) rfl (act_ends hup ?_)
  · rw [hend, if_neg (by simp; omega)]
    exact ⟨State.jl_settle, allKept_settle⟩
  · rw [hend, if_pos (by simp [hopen, hlong])]
    obtain ⟨hshown, hno, hwork, -, hcopy, hfail⟩ := verdict_shows (s := s) (verdictOf_lt (l := r.outs))
    generalize s.verdict (verdictOf r.outs) = z at hshown hno hwork hcopy hfail ⊢
    exact ⟨hshown, hno.1, hno.2, hcopy, hfail, hwork.settled⟩

/-- The check after a swap over. -/
def State.checkOver (s : State) : State := { s with jl := { s.jl with swapChk := none } }

theorem checkOver_shows : s.checkOver.regs = s.regs ∧ s.checkOver.jl.swapChk = none ∧ s.checkOver.jl.relBeat = s.jl.relBeat ∧ PairWork s s.checkOver :=
  ⟨rfl, rfl, rfl, .of_eq rfl rfl rfl⟩

/-- One of the unit's own commands differs from the field. -/
def swapDiffers (r : Referee) : Bool := (r.outs.filter (fun o => 2 * o.fieldDiff ≤ o.n)).any (fun o => 2 * o.actDiff > o.n)

theorem State.swapChecked_due {r : Referee} (hchk : s.jl.swapChk = some r) (hdue : r.at_ + s.refLen ≤ s.t.run) :
    s.swapChecked = if s.checkOver.pstate == 2 && swapDiffers r then s.checkOver.giveUp 11 else s.checkOver := by
  unfold State.swapChecked
  rw [hchk]
  dsimp only
  rw [if_neg (by omega)]
  rfl

theorem postSwapCheckEnd_ends {r : Referee} (hup : s.up = true) (hchk : s.jl.swapChk = some r) (hdue : r.at_ + s.refLen ≤ s.t.run) :
    Completes .postSwapCheckEnd s (fun t => t.jl.swapChk = none
      ∧ ((r.outs.filter (fun o => 2 * o.fieldDiff ≤ o.n)).any (fun o => 2 * o.actDiff > o.n) = true → s.pstate = 2 →
          s.get JL_STAT.PARTNER = 5 → s.jl.relBeat = none → Releases 11 s t)
      ∧ ((r.outs.filter (fun o => 2 * o.fieldDiff ≤ o.n)).any (fun o => 2 * o.actDiff > o.n) = false → RegsKept s t)
      ∧ LowKeptBut [] s t ∧ MemKept s t) := by
  refine completes_of_exec (o := execPostSwapCheckEnd s) rfl (act_ends hup ?_)
  have hdiff : (r.outs.filter (fun o => 2 * o.fieldDiff ≤ o.n)).any (fun o => 2 * o.actDiff > o.n) = swapDiffers r := rfl
  obtain ⟨hregs, hnone, hrel, hwork⟩ := checkOver_shows (s := s)
  rw [State.swapChecked_due hchk hdue, hdiff]
  generalize s.checkOver = z at hregs hnone hrel hwork ⊢
  have hstate : z.pstate = s.pstate := get_of_reg_eq (State.reg_of_regs hregs)
  have hpartner : z.get JL_STAT.PARTNER = s.get JL_STAT.PARTNER := get_of_reg_eq (State.reg_of_regs hregs)
  by_cases hbad : s.pstate = 2 ∧ swapDiffers r = true
  · obtain ⟨hact, hd⟩ := hbad
    rw [if_pos (by simp [hstate, hact, hd])]
    obtain ⟨-, -, hchk'⟩ := giveUp_active (c := 11) (hstate.trans hact)
    have hgave : PairWork s (z.giveUp 11) := hwork.trans pairWork_giveUp
    have hrels := giveUp_releases (s := z) (c := 11) (by decide) (hstate.trans hact)
    generalize z.giveUp 11 = y at hchk' hgave hrels ⊢
    refine ⟨hchk'.trans hnone, fun _ _ hpar hnone => ?_, fun h => absurd (hd.symm.trans h) (by decide), hgave.settled⟩
    have hdone := hrels (hpartner.trans hpar) (hrel.trans hnone)
    unfold Releases at hdone ⊢
    rwa [hwork.beat, hwork.run] at hdone
  · rw [if_neg (by simpa [hstate] using hbad)]
    exact ⟨hnone, fun hd hact => absurd ⟨hact, hd⟩ hbad, fun _ a => State.reg_of_regs hregs, hwork.settled⟩

end

end Sys2Proof.Machine


namespace Sys2Proof.Machine

/-! ## The witness, disagreements and sleep (R391, R392, R393, R398, R415, R416, R417) -/

section
variable {s t u : State} {f g : Fld} {a v p c n k : Nat} {x : Bool} {w : Word} {P : State → Prop}

/-! ### The witness (R392, R393) -/

theorem witnessSend_ends (hup : s.up = true) (hon : s.pairOn = true) (hbeat : s.t.beat.toNat % 16 = 8 * s.unit)
    (hnew : s.jl.link.witAt ≠ some s.t.run) :
    Completes .witnessSend s (fun t => t.jl.link.witSent = some s.witnessWord ∧ AllKept s t) := by
  refine completes_of_exec (o := execWitnessSend s) rfl (act_ends hup ?_)
  have hsend : s.witnessSend = s.setLink { s.jl.link with witSent := some s.witnessWord, witAt := some s.t.run } :=
    if_pos (by simp [hon, hbeat, hnew])
  rw [hsend]
  generalize s.witnessWord = word
  exact ⟨rfl, fun _ => rfl, fun _ => ⟨rfl, rfl⟩, fun _ => ⟨rfl, rfl⟩⟩

theorem regWork_badWord : RegWork [JL_WIT] s (s.inc JL_WIT.BADW) := RegWork.refl.inc (by simp)

theorem badWord_ends (ht : t = s.inc JL_WIT.BADW) : CountsUp JL_WIT.BADW s (settle t) ∧ RegsKeptBut [JL_WIT] s (settle t) ∧ MemKept s (settle t) := by
  have hcount : CountsUp JL_WIT.BADW s t := by
    rw [ht]
    exact countsUp_inc rfl rfl
  have hwork : RegWork [JL_WIT] s t := by
    rw [ht]
    exact regWork_badWord
  exact ⟨countsUp_settle.mpr hcount, hwork.settled.kept⟩

theorem witnessBadWord_ends (hup : s.up = true) (hon : s.pairOn = true) :
    Completes .witnessBadWord s (fun t => CountsUp JL_WIT.BADW s t ∧ RegsKeptBut [JL_WIT] s t ∧ MemKept s t) :=
  completes_of_exec (o := execWitnessBadWord s) rfl (act_ends hup (badWord_ends (if_pos hon)))

/-- A link's flag down. -/
theorem flagDown_shows (hf : f ∈ [JL_STAT.LNKA, JL_STAT.LNKB, JL_STAT.WIT]) : (s.putB f x).flag f = x
    ∧ (∀ g, g.apart f = true → (s.putB f x).get g = s.get g) ∧ (s.putB f x).jl = s.jl ∧ RegWork [JL_STAT] s (s.putB f x) ∧ PairWork s (s.putB f x) := by
  have hall : ∀ f ∈ [JL_STAT.LNKA, JL_STAT.LNKB, JL_STAT.WIT], f.addr = JL_STAT ∧ f.ok = true := by decide
  obtain ⟨haddr, hok⟩ := hall f hf
  exact ⟨State.flag_putB_same hok, fun g hg => State.get_put_other hok hg, State.jl_putB, RegWork.refl.putB (by simp [haddr]),
    PairWork.refl.putB (by rw [haddr]; decide)⟩

theorem witnessSilent_ends (hup : s.up = true) (hon : s.pairOn = true) (hwit : s.flag JL_STAT.WIT = true)
    (hquiet : 48 ≤ s.quietFor s.jl.link.lastWit) : Completes .witnessSilent s (fun t => t.flag JL_STAT.WIT = false
      ∧ (s.laned = true → RegsKeptBut [JL_STAT] s t)
      ∧ (s.laned = false → s.pstate = 2 → s.jl.partSleep = none → t.flag JL_STAT.PART = true)
      ∧ (s.laned = false → s.replays = true ∨ s.pstate = 7 → t.pstate = 6 ∧ t.flag JL_STAT.PART = true)
      ∧ LowKeptBut [] s t ∧ MemKept s t) := by
  refine completes_of_exec (o := execWitnessSilent s) rfl (act_ends hup ?_)
  have hfell : s.witnessQuiet = (s.putB JL_STAT.WIT false).linkLoss := if_pos (by simp [hon, hwit, hquiet])
  rw [hfell]
  obtain ⟨hdown, hget, hjl, hregs, hwork⟩ := flagDown_shows (s := s) (f := JL_STAT.WIT) (x := false) (by simp)
  generalize s.putB JL_STAT.WIT false = z at hdown hget hjl hregs hwork ⊢
  have hlaned : z.laned = s.laned := by
    unfold State.laned State.flag
    rw [hget _ rfl, hget _ rfl]
  have hstate : z.pstate = s.pstate := hget _ rfl
  have hreplays : z.replays = s.replays := by unfold State.replays; rw [hstate]
  have hloss := lossWork_linkLoss (s := z)
  have hshows := linkLoss_shows (s := z)
  have hkept := State.linkLoss_laned (s := z)
  generalize z.linkLoss = y at hloss hshows hkept ⊢
  refine ⟨(hloss.flag (by simp [laneFlds])).trans hdown, fun hl => ?_, fun hl hact hnone => ?_, fun hl hin => ?_, (hwork.trans hloss.work).settled⟩
  · rw [hkept (hlaned.trans hl)]
    exact hregs.settled.kept.1
  · exact ((hshows (hlaned.trans hl)).2.2 hdown (hstate.trans hact) (by rw [hjl]; exact hnone)).2
  · exact (hshows (hlaned.trans hl)).2.1 hdown (by rw [hreplays, hstate]; exact hin)

/-! ### A witness word taken (R392, R408, R409, R413) -/

/-- The moment of the last witness word kept. -/
def State.wordHeard (s : State) : State := s.setLink { s.jl.link with lastWit := some s.t.run }

/-- The partner's pair state as a witness word tells it. -/
def partnerTold (ws : Nat) : Nat := match ws with | 1 => 2 | 2 => 8 | 3 => 6 | 4 => 8 | 5 => 1 | _ => 7

theorem partnerTold_lt : partnerTold v < 16 := by
  unfold partnerTold
  split <;> decide

/-- A word taken, before what it brings about. -/
def State.wordTaken (s : State) (w : Nat) : State := ((s.wordHeard.put JL_WIT.WORD w).putB JL_STAT.WIT true).witnessPartner (bits w 14 12)

/-- What a word brings about in each pair state. -/
def State.wordHeeded (s : State) (ws : Nat) (epoch : Nat) (silent : Bool) : State :=
  match s.pstate with
  | 1 => if ws == 5 && s.unit == 0 && !s.laned then s.becomeActive else s
  | 2 =>
    if ws == 1 && !s.laned then
      let d := ((s.reg JL_EPOCH).toNat + 256 - epoch) % 256
      s.epochLoses (d ≥ 128) (d == 0)
    else s
  | 6 => if ws == 1 && silent then s.copying else s
  | 7 => if ws == 2 then { s with jl := { s.jl with takeAt := some (s.t.run + 1), takeFar := true } } else s
  | _ => s

theorem State.witnessRx_good (hon : s.pairOn = true) (hother : bit v 15 ≠ (s.unit == 1)) (hcrc : crc4 v = v % 16) :
    s.witnessRx v = (s.wordTaken v).wordHeeded (bits v 14 12) (bits v 11 4) (!s.flag JL_STAT.WIT) := by
  unfold State.witnessRx
  rw [if_neg (by simp [hon, hother]), if_neg (by simp [hcrc])]
  rfl

theorem State.witnessRx_bad (hon : s.pairOn = true) (hother : bit v 15 ≠ (s.unit == 1)) (hcrc : crc4 v ≠ v % 16) :
    s.witnessRx v = s.inc JL_WIT.BADW := by
  unfold State.witnessRx
  rw [if_neg (by simp [hon, hother]), if_pos (by simp [hcrc])]

/-- What a word heard leaves: its register, the witness shown, the moment. -/
structure WordKept (s t : State) : Prop where
  word : t.reg JL_WIT = s.reg JL_WIT
  stat : t.flag JL_STAT.WIT = s.flag JL_STAT.WIT
  partner : t.get JL_STAT.PARTNER = s.get JL_STAT.PARTNER
  heard : t.jl.link.lastWit = s.jl.link.lastWit
  work : PairWork s t

theorem WordKept.refl : WordKept s s := ⟨rfl, rfl, rfl, rfl, .refl⟩

theorem Troubled.wordKept {l : List Nat} (h : Troubled l p s t) (hl : JL_WIT ∉ l) : WordKept s t :=
  ⟨h.regs _ (by decide) (by decide) hl, h.flag (by simp [laneFlds]), h.stat _ (by simp [laneFlds]), h.heard.2, h.work⟩

theorem lastWit_pendingCleared : s.pendingCleared.jl.link.lastWit = s.jl.link.lastWit := rfl

theorem lastWit_becomeActive : s.becomeActive.jl.link.lastWit = s.jl.link.lastWit := by
  have hcleared : s.refEnd.pendingCleared.jl.link.lastWit = s.jl.link.lastWit := by
    rw [lastWit_pendingCleared, refEnd_shows.2.1]
  rw [State.becomeActive_eq]
  generalize s.refEnd.pendingCleared = z at hcleared ⊢
  obtain ⟨r, hrole⟩ := State.jl_roleChange (s := z)
  generalize z.roleChange = y at hrole ⊢
  have hent := (enters_setPstate (s := y) (p := 2) (by decide)).beside beside_redrive
  obtain ⟨n, k, j, hjl⟩ := hent.jl
  rw [hjl, hrole]
  exact hcleared

theorem wordKept_becomeActive : WordKept s s.becomeActive :=
  have hact := active_becomeActive (s := s)
  ⟨hact.regs _ (by decide) (by decide) (by decide) (by decide), congrArg (· != 0) (hact.stat _ (by simp [statFlds]) rfl),
    hact.stat _ (by simp [statFlds]) rfl, lastWit_becomeActive, hact.work⟩

theorem wordKept_epochLoses {y z : Bool} : WordKept s (s.epochLoses y z) := by
  unfold State.epochLoses
  split
  · exact (leave_shows (by decide) (by decide)).1.wordKept (by decide)
  · exact .refl

theorem wordKept_wordHeeded {ws e : Nat} : WordKept s (s.wordHeeded ws e x) := by
  unfold State.wordHeeded
  split
  · split
    · exact wordKept_becomeActive
    · exact .refl
  · split
    · exact wordKept_epochLoses
    · exact .refl
  · split
    · exact copying_shows.1.wordKept (by decide)
    · exact .refl
  · split
    · exact ⟨rfl, rfl, rfl, rfl, .of_eq rfl rfl rfl⟩
    · exact .refl
  · exact .refl

/-- A unit that has lost its links takes control at the next beat where the partner tells that it has failed. -/
theorem wordHeeded_takes {e : Nat} (h : s.pstate = 7) : (s.wordHeeded 2 e x).jl.takeAt = some (s.t.run + 1) ∧ (s.wordHeeded 2 e x).jl.takeFar = true := by
  have hheed : s.wordHeeded 2 e x = { s with jl := { s.jl with takeAt := some (s.t.run + 1), takeFar := true } } := by
    unfold State.wordHeeded
    rw [h]
    rfl
  rw [hheed]
  exact ⟨rfl, rfl⟩

theorem wordHeard_shows : s.wordHeard.regs = s.regs ∧ s.wordHeard.jl.link.lastWit = some s.t.run ∧ PairWork s s.wordHeard :=
  ⟨rfl, rfl, .of_eq rfl rfl rfl⟩

theorem setPartner_shows (hp : p < 16) : (s.setPartner p).get JL_STAT.PARTNER = p
    ∧ (∀ f, f.apart JL_STAT.PARTNER = true → f.apart JL_STAT.INSTEP = true → (s.setPartner p).get f = s.get f)
    ∧ (s.setPartner p).jl = s.jl ∧ PairWork s (s.setPartner p) := by
  have hput : PairWork s (s.put JL_STAT.PARTNER p) := PairWork.refl.put (by decide)
  exact ⟨(State.get_put_other rfl rfl).trans ((State.get_put_same rfl).trans (Nat.mod_eq_of_lt hp)),
    fun f h1 h2 => (State.get_put_other rfl h2).trans (State.get_put_other rfl h1), State.jl_putInStep.trans State.jl_put, hput.trans pairWork_putInStep⟩

/-- What a word taken shows. -/
theorem wordTaken_shows (hv : v < 65536) : (s.wordTaken v).get JL_WIT.WORD = v ∧ (s.wordTaken v).flag JL_STAT.WIT = true
    ∧ (s.wordTaken v).jl.link.lastWit = some s.t.run ∧ (s.laned = false → (s.wordTaken v).get JL_STAT.PARTNER = partnerTold (bits v 14 12))
    ∧ (s.wordTaken v).pstate = s.pstate ∧ PairWork s (s.wordTaken v) := by
  obtain ⟨hregs, hlast, hwork⟩ := wordHeard_shows (s := s)
  unfold State.wordTaken
  generalize s.wordHeard = z at hregs hlast hwork ⊢
  have hword : ((z.put JL_WIT.WORD v).putB JL_STAT.WIT true).get JL_WIT.WORD = v :=
    (State.get_put_other rfl rfl).trans ((State.get_put_same rfl).trans (Nat.mod_eq_of_lt hv))
  have hwit : ((z.put JL_WIT.WORD v).putB JL_STAT.WIT true).flag JL_STAT.WIT = true := State.flag_putB_same rfl
  have hget : ∀ f, f.apart JL_WIT.WORD = true → f.apart JL_STAT.WIT = true → ((z.put JL_WIT.WORD v).putB JL_STAT.WIT true).get f = s.get f :=
    fun f h1 h2 => (State.get_put_other rfl h2).trans ((State.get_put_other rfl h1).trans (get_of_reg_eq (State.reg_of_regs hregs)))
  have hjl : ((z.put JL_WIT.WORD v).putB JL_STAT.WIT true).jl = z.jl := State.jl_putB.trans State.jl_put
  have hput : PairWork z ((z.put JL_WIT.WORD v).putB JL_STAT.WIT true) := (PairWork.refl.put (by decide)).putB (by decide)
  generalize (z.put JL_WIT.WORD v).putB JL_STAT.WIT true = y at hword hwit hget hjl hput ⊢
  have hlaned : y.laned = s.laned := by
    unfold State.laned State.flag
    rw [hget _ rfl rfl, hget _ rfl rfl]
  cases hl : s.laned with
  | true =>
    have hsame : y.witnessPartner (bits v 14 12) = y := if_pos (hlaned.trans hl)
    rw [hsame]
    exact ⟨hword, hwit, by rw [hjl]; exact hlast, nofun, hget _ rfl rfl, hwork.trans hput⟩
  | false =>
    have htold : y.witnessPartner (bits v 14 12) = y.setPartner (partnerTold (bits v 14 12)) := if_neg (by rw [hlaned, hl]; decide)
    rw [htold]
    obtain ⟨hpartner, hrest, hpjl, hpwork⟩ := setPartner_shows (s := y) (partnerTold_lt (v := bits v 14 12))
    exact ⟨(hrest _ rfl rfl).trans hword, (congrArg (· != 0) (hrest JL_STAT.WIT rfl rfl)).trans hwit, by rw [hpjl, hjl]; exact hlast,
      fun _ => hpartner, (hrest _ rfl rfl).trans (hget _ rfl rfl), (hwork.trans hput).trans hpwork⟩

theorem witnessRx_good_ends (w : BitVec 16) (hup : s.up = true) (hon : s.pairOn = true) (hother : bit w.toNat 15 ≠ (s.unit == 1))
    (hcrc : crc4 w.toNat = w.toNat % 16) : Completes (.witnessRx w) s (fun t => t.get JL_WIT.WORD = w.toNat ∧ t.flag JL_STAT.WIT = true
      ∧ t.jl.link.lastWit = some s.t.run
      ∧ (s.laned = false → t.get JL_STAT.PARTNER = partnerTold (bits w.toNat 14 12))
      ∧ (s.pstate = 7 → bits w.toNat 14 12 = 2 → t.jl.takeAt = some (s.t.run + 1) ∧ t.jl.takeFar = true) ∧ LowKeptBut [] s t ∧ MemKept s t) := by
  refine completes_of_exec (o := execWitnessRx w s) rfl (act_ends hup ?_)
  rw [State.witnessRx_good hon hother hcrc]
  obtain ⟨hword, hwit, hlast, hpartner, hstate, hwork⟩ := wordTaken_shows (s := s) (v := w.toNat) w.isLt
  generalize s.wordTaken w.toNat = z at hword hwit hlast hpartner hstate hwork ⊢
  generalize bits w.toNat 11 4 = e
  have hkept := wordKept_wordHeeded (s := z) (x := !s.flag JL_STAT.WIT) (ws := bits w.toNat 14 12) (e := e)
  have htakes := wordHeeded_takes (s := z) (x := !s.flag JL_STAT.WIT) (e := e)
  generalize bits w.toNat 14 12 = ws at hkept hpartner ⊢
  refine ⟨?_, ?_, ?_, fun hl => ?_, fun h7 h2 => ?_, (hwork.trans hkept.work).settled⟩
  · rw [State.get_settle, get_of_reg_eq (f := JL_WIT.WORD) hkept.word, hword]
  · rw [State.flag_settle, hkept.stat, hwit]
  · rw [State.jl_settle, hkept.heard, hlast]
  · rw [State.get_settle, hkept.partner, hpartner hl]
  · rw [State.jl_settle, h2]
    obtain ⟨htake, hfar⟩ := htakes (hstate.trans h7)
    exact ⟨by rw [htake, hwork.run], hfar⟩

theorem witnessRx_bad_ends (w : BitVec 16) (hup : s.up = true) (hon : s.pairOn = true) (hother : bit w.toNat 15 ≠ (s.unit == 1))
    (hcrc : crc4 w.toNat ≠ w.toNat % 16) :
    Completes (.witnessRx w) s (fun t => CountsUp JL_WIT.BADW s t ∧ RegsKeptBut [JL_WIT] s t ∧ MemKept s t) :=
  completes_of_exec (o := execWitnessRx w s) rfl (act_ends hup (badWord_ends (State.witnessRx_bad hon hother hcrc)))

/-! ### Disagreements (R398) -/

/-- What is kept of a point after a comparison. -/
def State.disKept (s : State) (p : Nat) (d : DisS) : State :=
  { s with jl := { s.jl with dis := if d == DisS.fresh then s.jl.dis.erase p else s.jl.dis.set p d } }

theorem disKept_shows {d : DisS} : (s.disKept p d).regs = s.regs ∧ (s.disKept p d).mem = s.mem := ⟨rfl, rfl⟩

theorem State.disPoint_eq : s.disPoint p =
    if ((s.disOf p).cmp || (s.disOf p).val) == s.flag (disFld p) then s.disKept p (s.disOf p)
    else if (s.disOf p).cmp || (s.disOf p).val then ((s.disKept p (s.disOf p)).putB (disFld p) ((s.disOf p).cmp || (s.disOf p).val)).inc JL_DCNT.DIS
    else (s.disKept p (s.disOf p)).putB (disFld p) ((s.disOf p).cmp || (s.disOf p).val) := rfl

theorem disFld_bounds (hp : p < 168) : (disFld p).ok = true ∧ (disFld p).addr ≠ JL_DCNT := by
  unfold disFld Fld.ok
  split
  · refine ⟨by simp only [le_refl, decide_true, Bool.true_and, decide_eq_true_eq]; omega, ?_⟩
    show 0o40130030 + p / 32 ≠ 0o40130036
    omega
  · split
    · refine ⟨by simp only [le_refl, decide_true, Bool.true_and, decide_eq_true_eq]; omega, ?_⟩
      show (0o40130034 : Nat) ≠ 0o40130036
      decide
    · refine ⟨by simp only [le_refl, decide_true, Bool.true_and, decide_eq_true_eq]; omega, ?_⟩
      show (0o40130035 : Nat) ≠ 0o40130036
      decide

theorem disPoint_raised (hp : p < 168) (hon : ((s.disOf p).cmp || (s.disOf p).val) = true) (hoff : s.flag (disFld p) = false) :
    (s.disPoint p).flag (disFld p) = true ∧ CountsUp JL_DCNT.DIS s (s.disPoint p) ∧ RegWork [(disFld p).addr, JL_DCNT] s (s.disPoint p) := by
  obtain ⟨hok, haddr⟩ := disFld_bounds hp
  rw [State.disPoint_eq, hon, hoff, if_neg (by decide), if_pos rfl]
  obtain ⟨hregs, hmem⟩ := disKept_shows (s := s) (p := p) (d := s.disOf p)
  generalize s.disKept p (s.disOf p) = z at hregs hmem ⊢
  have hkept : RegWork [(disFld p).addr, JL_DCNT] s z := ⟨fun _ _ => State.reg_of_regs hregs, hmem⟩
  have hset : (z.putB (disFld p) true).flag (disFld p) = true := State.flag_putB_same hok
  have hcount : (z.putB (disFld p) true).get JL_DCNT.DIS = s.get JL_DCNT.DIS :=
    (State.get_put_other hok (Fld.apart_of_addr (Ne.symm haddr))).trans (get_of_reg_eq (State.reg_of_regs hregs))
  have hwork := hkept.putB (f := disFld p) (x := true) (by simp)
  generalize z.putB (disFld p) true = y at hset hcount hwork ⊢
  exact ⟨(State.flag_inc_other rfl (Fld.apart_of_addr haddr)).trans hset, countsUp_inc rfl hcount, hwork.inc (by simp)⟩

theorem disPoint_cleared (hp : p < 168) (hon : ((s.disOf p).cmp || (s.disOf p).val) = false) (hoff : s.flag (disFld p) = true) :
    (s.disPoint p).flag (disFld p) = false ∧ RegWork [(disFld p).addr] s (s.disPoint p) := by
  obtain ⟨hok, -⟩ := disFld_bounds hp
  rw [State.disPoint_eq, hon, hoff, if_neg (by decide), if_neg (by decide)]
  obtain ⟨hregs, hmem⟩ := disKept_shows (s := s) (p := p) (d := s.disOf p)
  generalize s.disKept p (s.disOf p) = z at hregs hmem ⊢
  have hkept : RegWork [(disFld p).addr] s z := ⟨fun _ _ => State.reg_of_regs hregs, hmem⟩
  exact ⟨State.flag_putB_same hok, hkept.putB (by simp)⟩

theorem disagreementRaise_ends (q : Fin 168) (hup : s.up = true) (hcmp : s.comparing = true)
    (hon : ((s.disOf q).cmp || (s.disOf q).val) = true) (hoff : s.flag (disFld q) = false) : Completes (.disagreementRaise q) s (fun t =>
      t.flag (disFld q) = true ∧ CountsUp JL_DCNT.DIS s t ∧ RegsKeptBut [(disFld q).addr, JL_DCNT] s t ∧ MemKept s t) := by
  refine completes_of_exec (o := execDisagreementRaise q s) rfl (act_ends hup ?_)
  obtain ⟨hset, hcount, hwork⟩ := disPoint_raised q.isLt hon hoff
  dsimp only
  rw [hcmp, hset, hoff, if_pos (by decide)]
  generalize s.disPoint q.val = z at hset hcount hwork ⊢
  exact ⟨hset, countsUp_settle.mpr hcount, hwork.settled.kept⟩

theorem disagreementClear_ends (q : Fin 168) (hup : s.up = true) (hcmp : s.comparing = true)
    (hon : ((s.disOf q).cmp || (s.disOf q).val) = false) (hoff : s.flag (disFld q) = true) : Completes (.disagreementClear q) s (fun t =>
      t.flag (disFld q) = false ∧ RegsKeptBut [(disFld q).addr] s t ∧ MemKept s t) := by
  refine completes_of_exec (o := execDisagreementClear q s) rfl (act_ends hup ?_)
  obtain ⟨hset, hwork⟩ := disPoint_cleared q.isLt hon hoff
  dsimp only
  rw [hcmp, hset, hoff, if_pos (by decide)]
  generalize s.disPoint q.val = z at hset hwork ⊢
  exact ⟨hset, hwork.settled.kept⟩

/-! ### Waking, and a sleeper lost (R416, R417) -/

/-- The islands in use powered. -/
def State.powered (s : State) : State := s.put SYS_ISTAT.ALIVE (s.get SYS_IUSE.USE)

/-- The guard window open. -/
def State.guardOpened (s : State) : State := { s with jl := { s.jl with wake := 1, joinStep := 1, streamAt := 0 } }

theorem guardOpened_shows : s.guardOpened.regs = s.regs ∧ s.guardOpened.jl.wake = 1 ∧ PairWork s s.guardOpened := ⟨rfl, rfl, .of_eq rfl rfl rfl⟩

theorem State.wakeUp_due (hstate : s.pstate = 9) (hmid : 900000 ≤ s.t.usec) (hlong : orElse (s.get JL_LAY.SLEEPR) 10 * 1000000 ≤ s.since s.jl.stateAt) :
    s.wakeUp = (s.powered.setPstate 3).guardOpened := by
  unfold State.wakeUp
  rw [if_neg (by simp only [hstate, bne_self_eq_false, Bool.false_or, Bool.or_eq_true, decide_eq_true_eq]; omega)]
  rfl

theorem wakeUp_ends (hup : s.up = true) (hstate : s.pstate = 9) (hmid : 900000 ≤ s.t.usec)
    (hlong : orElse (s.get JL_LAY.SLEEPR) 10 * 1000000 ≤ s.since s.jl.stateAt) : Completes .wakeUp s (fun t =>
      t.pstate = 3 ∧ t.jl.wake = 1 ∧ t.get SYS_ISTAT.ALIVE = s.get SYS_IUSE.USE ∧ LowKeptBut [SYS_ISTAT] s t ∧ MemKept s t) := by
  refine completes_of_exec (o := execWakeUp s) rfl (act_ends hup ?_)
  rw [State.wakeUp_due hstate hmid hlong]
  have hpow : s.powered.get SYS_ISTAT.ALIVE = s.get SYS_IUSE.USE :=
    (State.get_put_same rfl).trans (Nat.mod_eq_of_lt (State.get_lt (f := SYS_IUSE.USE)))
  have hregs : LowKeptBut [SYS_ISTAT] s s.powered := fun a _ _ _ ha => State.reg_put_other (by simpa using ha)
  have hmem : MemKept s s.powered := memKept_of_mem_eq State.mem_put
  generalize s.powered = z at hpow hregs hmem ⊢
  have hent := enters_setPstate (s := z) (p := 3) (by decide)
  generalize z.setPstate 3 = y at hent ⊢
  obtain ⟨hgregs, hwake, hgwork⟩ := guardOpened_shows (s := y)
  generalize y.guardOpened = q at hgregs hwake hgwork ⊢
  have hwork := hent.work.trans hgwork
  refine ⟨(get_of_reg_eq (State.reg_of_regs hgregs)).trans hent.pstate, hwake, ?_, hregs.trans (hwork.low.mono (by simp)), ?_⟩
  · exact (get_of_reg_eq (hwork.low _ (by decide) (by decide) (by decide) (by simp))).trans hpow
  · exact (hmem.trans hwork.mem).trans allKept_settle.2

theorem guardOver_shows (h : s.jl.wake = 1) (hlong : 1000000 ≤ s.since s.jl.stateAt) : s.guardOver.jl.wake = 2 ∧ s.guardOver.regs = s.regs
    ∧ s.guardOver.mem = s.mem := by
  have hover : s.guardOver = { s with jl := { s.jl with wake := 2 } } := if_pos (by simp [h, hlong])
  rw [hover]
  exact ⟨rfl, rfl, rfl⟩

theorem wakeGuardTimeout_ends (hup : s.up = true) (h : s.jl.wake = 1) (hlong : 1000000 ≤ s.since s.jl.stateAt) :
    Completes .wakeGuardTimeout s (fun t => t.jl.wake = 2 ∧ AllKept s t) := by
  refine completes_of_exec (o := execWakeGuardTimeout s) rfl (act_ends hup ?_)
  obtain ⟨hwake, hregs, hmem⟩ := guardOver_shows h hlong
  generalize s.guardOver = z at hwake hregs hmem ⊢
  exact ⟨hwake, fun _ => State.reg_of_regs hregs, (memKept_of_mem_eq hmem).trans allKept_settle.2⟩

/-- The wide search given up, the lanes silent. -/
def State.searchEnded (s : State) : State :=
  (({ s with jl := { s.jl with wake := 0 } } : State).putB JL_STAT.LNKA false).putB JL_STAT.LNKB false

theorem searchEnded_shows : s.searchEnded.laned = false ∧ s.searchEnded.jl.wake = 0
    ∧ (∀ f, f.apart JL_STAT.LNKA = true → f.apart JL_STAT.LNKB = true → s.searchEnded.get f = s.get f) ∧ PairWork s s.searchEnded := by
  have hwake : PairWork s ({ s with jl := { s.jl with wake := 0 } } : State) := .of_eq rfl rfl rfl
  refine ⟨?_, congrArg JlS.wake (State.jl_putB.trans State.jl_putB), fun f h1 h2 => (State.get_put_other rfl h2).trans (State.get_put_other rfl h1),
    (hwake.putB (by decide)).putB (by decide)⟩
  unfold State.laned State.searchEnded
  rw [State.flag_putB_same rfl, State.flag_putB_other rfl rfl, State.flag_putB_same rfl]
  rfl

theorem State.searchOver_due (h : s.jl.wake = 2) (hlong : 3000000 ≤ s.since s.jl.stateAt) : s.searchOver = s.searchEnded.linkLoss := by
  unfold State.searchOver
  rw [if_neg (by simp only [h, bne_self_eq_false, Bool.false_or, decide_eq_true_eq]; omega)]
  rfl

theorem wakeSearchTimeout_ends (hup : s.up = true) (h : s.jl.wake = 2) (hlong : 3000000 ≤ s.since s.jl.stateAt) :
    Completes .wakeSearchTimeout s (fun t => t.jl.wake = 0 ∧ t.laned = false
      ∧ (s.pstate = 3 → s.flag JL_STAT.WIT = false → t.pstate = 6 ∧ t.flag JL_STAT.PART = true)
      ∧ (s.pstate = 3 → s.flag JL_STAT.WIT = true → t.pstate = 7) ∧ LowKeptBut [] s t ∧ MemKept s t) := by
  refine completes_of_exec (o := execWakeSearchTimeout s) rfl (act_ends hup ?_)
  rw [State.searchOver_due h hlong]
  obtain ⟨hlaned, hwake, hget, hwork⟩ := searchEnded_shows (s := s)
  generalize s.searchEnded = z at hlaned hwake hget hwork ⊢
  have hloss := lossWork_linkLoss (s := z)
  obtain ⟨hheard, halone, -⟩ := linkLoss_shows hlaned
  have hstate : z.pstate = s.pstate := hget _ rfl rfl
  have hreplays : s.pstate = 3 → z.replays = true := fun h3 => by
    unfold State.replays
    rw [hstate, h3]
    rfl
  have hwit : z.flag JL_STAT.WIT = s.flag JL_STAT.WIT := congrArg (· != 0) (hget _ rfl rfl)
  generalize z.linkLoss = y at hloss hheard halone ⊢
  obtain ⟨n, k, j, d, hjl⟩ := hloss.jl
  refine ⟨?_, hloss.laned.trans hlaned, fun h3 hno => halone (hwit.trans hno) (.inl (hreplays h3)), fun h3 hyes => hheard (hwit.trans hyes) (hreplays h3),
    (hwork.trans hloss.work).settled⟩
  rw [State.jl_settle, hjl]
  exact hwake

/-- A sleeper no longer expected. -/
def State.sleeperGone (s : State) : State := { s with jl := { s.jl with partSleep := none } }

theorem sleeperGone_shows : s.sleeperGone.regs = s.regs ∧ s.sleeperGone.jl.partSleep = none ∧ PairWork s s.sleeperGone :=
  ⟨rfl, rfl, .of_eq rfl rfl rfl⟩

theorem State.sleeperLost_due {b : Nat} (h : s.jl.partSleep = some b) (hlong : (orElse (s.get JL_LAY.SLEEPR) 10 + 3) * 1000000 ≤ s.since b) :
    s.sleeperLost = (s.sleeperGone.setPartner 15).linkLoss := by
  unfold State.sleeperLost
  rw [h]
  dsimp only
  rw [if_neg (by omega)]
  rfl

theorem sleepPartitionTimeout_ends {b : Nat} (hup : s.up = true) (h : s.jl.partSleep = some b)
    (hlong : (orElse (s.get JL_LAY.SLEEPR) 10 + 3) * 1000000 ≤ s.since b) : Completes .sleepPartitionTimeout s (fun t =>
      t.jl.partSleep = none ∧ t.get JL_STAT.PARTNER = 15
      ∧ (s.laned = false → s.flag JL_STAT.WIT = false → s.pstate = 2 → t.flag JL_STAT.PART = true) ∧ LowKeptBut [] s t ∧ MemKept s t) := by
  refine completes_of_exec (o := execSleepPartitionTimeout s) rfl (act_ends hup ?_)
  rw [State.sleeperLost_due h hlong]
  obtain ⟨hregs, hnone, hwork⟩ := sleeperGone_shows (s := s)
  generalize s.sleeperGone = z at hregs hnone hwork ⊢
  obtain ⟨hpartner, hrest, hpjl, hpwork⟩ := setPartner_shows (s := z) (p := 15) (by decide)
  generalize z.setPartner 15 = y at hpartner hrest hpjl hpwork ⊢
  have hget : ∀ f, f.apart JL_STAT.PARTNER = true → f.apart JL_STAT.INSTEP = true → y.get f = s.get f :=
    fun f h1 h2 => (hrest f h1 h2).trans (get_of_reg_eq (State.reg_of_regs hregs))
  have hlaned : y.laned = s.laned := by
    unfold State.laned State.flag
    rw [hget _ rfl rfl, hget _ rfl rfl]
  have hloss := lossWork_linkLoss (s := y)
  have hshows := linkLoss_shows (s := y)
  generalize y.linkLoss = q at hloss hshows ⊢
  obtain ⟨n, k, j, d, hjl⟩ := hloss.jl
  have hwit : y.flag JL_STAT.WIT = s.flag JL_STAT.WIT := congrArg (· != 0) (hget _ rfl rfl)
  have hstate : y.pstate = s.pstate := hget _ rfl rfl
  have hgone : y.jl.partSleep = none := by rw [hpjl]; exact hnone
  have hshown : q.get JL_STAT.PARTNER = 15 := (hloss.stat _ (by simp [laneFlds])).trans hpartner
  have hwork' := (hwork.trans hpwork).trans hloss.work
  refine ⟨?_, ?_, fun hl hno hact => ?_, hwork'.settled⟩
  · rw [State.jl_settle, hjl]
    exact hgone
  · rw [State.get_settle, hshown]
  · rw [State.flag_settle]
    exact ((hshows (hlaned.trans hl)).2.2 (hwit.trans hno) (hstate.trans hact) hgone).2

end

end Sys2Proof.Machine


namespace Sys2Proof.Machine

/-! ## The standby falls asleep (R415) -/

section
variable {s t u : State} {f g : Fld} {a v p c n k i : Nat} {x : Bool} {w : Word}

/-- The pair state and the links, as JL_STAT shows them. -/
def sleepFlds : List Fld := [JL_STAT.PSTATE, JL_STAT.LNKA, JL_STAT.LNKB, JL_STAT.WIT]

theorem sleepFlds_low : ∀ f ∈ sleepFlds, f.addr = JL_STAT ∧ f.hi < 34 := by decide

/-- Work that leaves the pair state and the links as they are shown, and memory. -/
structure SleepKept (s t : State) : Prop where
  stat : ∀ f ∈ sleepFlds, t.get f = s.get f
  mem : t.mem = s.mem

namespace SleepKept

theorem trans (h : SleepKept s t) (h' : SleepKept t u) : SleepKept s u :=
  ⟨fun f hf => (h'.stat f hf).trans (h.stat f hf), h'.mem.trans h.mem⟩

theorem of_eq (hr : t.regs = s.regs) (hm : t.mem = s.mem) : SleepKept s t := ⟨fun _ _ => get_of_reg_eq (State.reg_of_regs hr), hm⟩

theorem refl : SleepKept s s := of_eq rfl rfl

theorem put (h : SleepKept s t) (hf : f.addr ≠ JL_STAT) : SleepKept s (t.put f v) :=
  h.trans ⟨fun g hg => get_of_reg_eq (State.reg_put_other (by rw [(sleepFlds_low g hg).1]; exact Ne.symm hf)), State.mem_put⟩

theorem putB (h : SleepKept s t) (hf : f.addr ≠ JL_STAT) : SleepKept s (t.putB f x) := h.put hf

theorem putBit (h : SleepKept s t) (hf : f.addr ≠ JL_STAT) : SleepKept s (t.putBit f i x) := h.put hf

/-- The top bit of a register is none of them, wherever the register is. -/
theorem putTop (h : SleepKept s t) (hok : f.ok = true) (hlo : 34 ≤ f.lo) : SleepKept s (t.putB f x) :=
  h.trans ⟨fun g hg => State.get_put_other hok (Fld.apart_of_bits (.inl (Nat.lt_of_lt_of_le (sleepFlds_low g hg).2 hlo))), State.mem_putB⟩

theorem ite {q : Prop} [Decidable q] (ht : SleepKept s t) (hu : SleepKept s u) : SleepKept s (if q then t else u) := by
  split
  · exact ht
  · exact hu

theorem foldl {g : State → Nat → State} (l : List Nat) (hg : ∀ y ∈ l, ∀ z, SleepKept z (g z y)) (h : SleepKept s t) :
    SleepKept s (l.foldl g t) := by
  induction l generalizing t with
  | nil => exact h
  | cons y r ih => exact ih (fun z hz => hg z (List.mem_cons_of_mem _ hz)) (h.trans (hg y List.mem_cons_self t))

end SleepKept

/-! ### An island's copies lost -/

theorem cacheBlock_ne (hp : p < 184) (hk : k < 8) : (cacheBlock p).1 + k + (cacheBlock p).2 / 8 ≠ JL_STAT := by
  unfold cacheBlock
  split
  · show 0o40020360 + 256 * (p / 8) + k + p % 8 / 8 ≠ 0o40130000
    omega
  · split
    · show 0o40070360 + k + (p - 128) / 8 ≠ 0o40130000
      omega
    · split
      · show 0o40100360 + k + (p - 144) / 8 ≠ 0o40130000
        omega
      · show 0o40110360 + k + (p - 176) / 8 ≠ 0o40130000
        omega

theorem stateFld_ne (hp : p < 1209) : (stateFld p).addr ≠ JL_STAT := by
  unfold stateFld
  split
  next h => exact cacheBlock_ne (k := 0) h (by decide)
  · split
    · show 0o40052000 + (p - 184) ≠ 0o40130000
      omega
    · decide

theorem forcedFld_ne (hp : p < 184) : (forcedFld p).addr ≠ JL_STAT := cacheBlock_ne (k := 4) hp (by decide)

theorem fignFld_ne (hp : p < 184) : (fignFld p).addr ≠ JL_STAT := cacheBlock_ne (k := 4) hp (by decide)

theorem pointsOf_lt (h : p ∈ pointsOf k) : p < 1209 := by
  unfold pointsOf at h
  split at h
  · simp only [List.mem_map, List.mem_range] at h
    omega
  · split at h <;> simp only [List.mem_map, List.mem_range, List.mem_cons, List.not_mem_nil, or_false] at h <;> omega

theorem sleepKept_setCopy {y : PtCache} : SleepKept s (s.setCopy n y) := by
  unfold State.setCopy
  exact .ite (.of_eq rfl rfl) (.ite (.of_eq rfl rfl) (.of_eq rfl rfl))

theorem sleepKept_dropCopy (hp : p < 1209) : SleepKept s (s.dropCopy p) := by
  have hput : SleepKept s ((s.setCopy p ⟨[], 0, false, false, false⟩).put (stateFld p) 0) := sleepKept_setCopy.put (stateFld_ne hp)
  unfold State.dropCopy
  dsimp only
  split
  next h => exact (hput.putB (forcedFld_ne h)).putB (fignFld_ne h)
  · exact hput

theorem sleepKept_setPass {y : Pass} : SleepKept s (s.setPass k y) := by
  unfold State.setPass
  split
  · exact .of_eq rfl rfl
  · exact .of_eq rfl rfl
  · exact .of_eq rfl rfl

theorem sleepKept_openTables : SleepKept s s.openTables := .ite (.of_eq rfl rfl) .refl

theorem sleepKept_setChan {y : ChanS} : SleepKept s (s.setChan n y) := .of_eq rfl rfl

/-- The comparator bits of a field island are not the pair engine's. -/
theorem fiBits_ne : FI_CBITS (fiOf n) ≠ JL_STAT := by
  show 0o40020060 + 256 * (n / 8) ≠ 0o40130000
  omega

theorem sleepKept_setRaw {y : Bool} : SleepKept s (s.setRaw n x y) := by
  have hbits := fiBits_ne (n := n)
  unfold State.setRaw
  dsimp only
  generalize fiOf n = k at hbits ⊢
  have hh : (FI_CBITS.HRAW k).addr ≠ JL_STAT := hbits
  have hl : (FI_CBITS.LRAW k).addr ≠ JL_STAT := hbits
  exact ((SleepKept.refl.putBit hh).putBit hl).trans sleepKept_setChan

theorem sleepKept_presentComp : SleepKept s (s.presentComp n) := by
  have hbits := fiBits_ne (n := n)
  have hseen : ∀ (c : Prop) [Decidable c] (y : ChanS), SleepKept s (if c then s.setChan n y else s) := fun c _ y => .ite sleepKept_setChan .refl
  unfold State.presentComp
  dsimp only
  generalize fiOf n = k at hbits ⊢
  have hh : (FI_CBITS.HACC k).addr ≠ JL_STAT := hbits
  have hl : (FI_CBITS.LACC k).addr ≠ JL_STAT := hbits
  exact .ite (hseen _ _) (((hseen _ _).putBit hh).putBit hl)

theorem sleepKept_incMod (hf : f.addr ≠ JL_STAT) : SleepKept s (s.incMod f) := SleepKept.refl.put hf

theorem fiPass_ne : (FI_PASS.PASS k).addr ≠ JL_STAT := by
  show 0o40020372 + 256 * k ≠ 0o40130000
  omega

theorem fiList_top : (FI_SLST.RUN k n).ok = true ∧ 34 ≤ (FI_SLST.RUN k n).lo := ⟨rfl, show 34 ≤ 35 by decide⟩

theorem sleepKept_setIsl {y : IslS} : SleepKept s (s.setIsl k y) := .of_eq rfl rfl

theorem sleepKept_listEnded : SleepKept s (s.putB (FI_SLST.RUN k n) false) :=
  SleepKept.refl.putTop (f := FI_SLST.RUN k n) fiList_top.1 fiList_top.2

theorem sleepKept_dropField : SleepKept s (s.dropField k) := by
  have hchan : ∀ (z : State) (n : Nat), SleepKept z (((z.setChan n (z.chanOf n).lost).setRaw n false false).presentComp n) :=
    fun _ _ => (sleepKept_setChan.trans sleepKept_setRaw).trans sleepKept_presentComp
  have hpass : SleepKept s (if (s.islOf k).wrote then s.incMod (FI_PASS.PASS k) else s) := .ite (sleepKept_incMod fiPass_ne) .refl
  unfold State.dropField
  dsimp only
  generalize (if (s.islOf k).wrote then s.incMod (FI_PASS.PASS k) else s) = z at hpass ⊢
  refine SleepKept.foldl _ (fun n _ z => hchan z n) (SleepKept.trans ?_ sleepKept_setIsl)
  split
  · exact hpass.trans sleepKept_listEnded
  · exact hpass

theorem sleepKept_loseCopies : SleepKept s (s.loseCopies k) := by
  have hcopies : SleepKept s ((pointsOf k).foldl State.dropCopy (s.setPass k Pass.none)) :=
    sleepKept_setPass.foldl _ fun p hp _ => sleepKept_dropCopy (pointsOf_lt hp)
  rw [State.loseCopies_eq]
  dsimp only
  generalize (pointsOf k).foldl State.dropCopy (s.setPass k Pass.none) = z at hcopies ⊢
  refine SleepKept.trans (hcopies.trans ?_) sleepKept_openTables
  exact .ite sleepKept_dropField (.ite (.of_eq rfl rfl) (.ite (.of_eq rfl rfl) (.ite (.of_eq rfl rfl) (.ite (SleepKept.refl.putB (by decide)) .refl))))

/-! ### The islands powered down -/

theorem State.alive_putBit_other (hi : i < 29) (hk : k ≠ i) : (s.putBit SYS_ISTAT.ALIVE i x).alive k = s.alive k :=
  State.bitOf_putBit_ne (by decide) hi hk

theorem alive_islandOff (hi : i < 29) : (s.islandOff i).alive k = (if k = i then false else s.alive k) := by
  have hkept : (s.islandOff i).alive k = (s.putBit SYS_ISTAT.ALIVE i false).alive k :=
    congrArg (bit · k) (controlKept_loseCopies.get (f := SYS_ISTAT.ALIVE) (by decide) (by decide))
  rw [hkept]
  split
  next h => rw [h, State.alive_putBit_same hi]
  next h => exact State.alive_putBit_other hi h

theorem sleepKept_islandOff : SleepKept s (s.islandOff i) := (SleepKept.refl.putBit (by decide)).trans sleepKept_loseCopies

/-- Islands powered down, but the calendar domain. -/
def State.islandsOff (s : State) (l : List Nat) : State := l.foldl (fun (s : State) (i : Nat) => if i == 25 then s else s.islandOff i) s

theorem sleepKept_islandsOff {l : List Nat} : SleepKept s (s.islandsOff l) := SleepKept.refl.foldl _ fun _ _ _ => .ite .refl sleepKept_islandOff

theorem alive_islandsOff {l : List Nat} (hl : ∀ i ∈ l, i < 29) : (s.islandsOff l).alive k = (s.alive k && !(decide (k ∈ l) && k != 25)) := by
  induction l generalizing s with
  | nil => simp [State.islandsOff]
  | cons i r ih =>
    have hstep : s.islandsOff (i :: r) = (if i == 25 then s else s.islandOff i).islandsOff r := rfl
    have hone : (if i == 25 then s else s.islandOff i).alive k = (s.alive k && !(decide (k = i) && k != 25)) := by
      split
      next h =>
        have : i = 25 := by simpa using h
        by_cases hk : k = i
        · simp [hk, this]
        · simp [hk]
      next h =>
        have : i ≠ 25 := by simpa using h
        rw [alive_islandOff (hl i List.mem_cons_self)]
        by_cases hk : k = i
        · simp [hk, this]
        · simp [hk]
    rw [hstep, ih (fun j hj => hl j (List.mem_cons_of_mem _ hj)), hone]
    by_cases hk : k = i
    · subst hk
      by_cases h25 : k = 25 <;> simp [h25]
    · simp [hk]

/-! ### Falling asleep -/

/-- The links silent. -/
def State.linksSilent (s : State) : State := ((s.putB JL_STAT.LNKA false).putB JL_STAT.LNKB false).putB JL_STAT.WIT false

theorem linksSilent_shows : s.linksSilent.flag JL_STAT.LNKA = false ∧ s.linksSilent.flag JL_STAT.LNKB = false ∧ s.linksSilent.flag JL_STAT.WIT = false
    ∧ s.linksSilent.pstate = s.pstate ∧ PairWork s s.linksSilent := by
  refine ⟨?_, ?_, State.flag_putB_same rfl, ?_, ((PairWork.refl.putB (by decide)).putB (by decide)).putB (by decide)⟩
  · exact (State.flag_putB_other rfl rfl).trans ((State.flag_putB_other rfl rfl).trans (State.flag_putB_same rfl))
  · exact (State.flag_putB_other rfl rfl).trans (State.flag_putB_same rfl)
  · exact (State.get_put_other rfl rfl).trans ((State.get_put_other rfl rfl).trans (State.get_put_other rfl rfl))

/-- No SLEEP frame any more. -/
def State.sleepUnset (s : State) : State := { s with jl := { s.jl with sleepSet := false } }

theorem sleepUnset_shows : s.sleepUnset.regs = s.regs ∧ PairWork s s.sleepUnset := ⟨rfl, .of_eq rfl rfl rfl⟩

theorem State.fallAsleep_eq : s.fallAsleep
    = ((s.enter 9).refEnd.replayClear.linksSilent.islandsOff (List.range 29)).sleepUnset.discipline := by
  unfold State.fallAsleep State.islandsOff
  generalize (s.enter 9).refEnd.replayClear = z
  dsimp only
  unfold State.linksSilent
  generalize ((z.putB JL_STAT.LNKA false).putB JL_STAT.LNKB false).putB JL_STAT.WIT false = y
  generalize List.foldl _ y (List.range 29) = q
  rfl

theorem sleepEntry_ends (hup : s.up = true) (hdue : s.sleepDue = true) : Completes .sleepEntry s (fun t => t.pstate = 9 ∧ t.laned = false
    ∧ t.flag JL_STAT.WIT = false ∧ (∀ i, i < 29 → i ≠ 25 → t.alive i = false) ∧ t.alive 25 = s.alive 25 ∧ MemKept s t) := by
  refine completes_of_exec (o := execSleepEntry s) rfl (act_ends hup ?_)
  have hfall : s.sleepEntry = s.fallAsleep := if_pos hdue
  rw [if_pos hdue, hfall, State.fallAsleep_eq]
  have hent := enters_enter (s := s) (p := 9) (by decide)
  generalize s.enter 9 = a at hent ⊢
  obtain ⟨-, -, hrest, hend⟩ := refEnd_shows (s := a)
  generalize a.refEnd = b at hrest hend ⊢
  obtain ⟨hcregs, -, -, hclear⟩ := replayClear_shows (s := b)
  generalize b.replayClear = c at hcregs hclear ⊢
  obtain ⟨hla, hlb, hwit, hstate, hsilent⟩ := linksSilent_shows (s := c)
  generalize c.linksSilent = d at hla hlb hwit hstate hsilent ⊢
  have hoff := sleepKept_islandsOff (s := d) (l := List.range 29)
  have halive : ∀ k, (d.islandsOff (List.range 29)).alive k = (d.alive k && !(decide (k ∈ List.range 29) && k != 25)) :=
    fun k => alive_islandsOff fun _ => List.mem_range.mp
  generalize d.islandsOff (List.range 29) = e at hoff halive ⊢
  obtain ⟨huregs, hunset⟩ := sleepUnset_shows (s := e)
  generalize e.sleepUnset = q at huregs hunset ⊢
  have hdisc := beside_discipline (s := q)
  generalize q.discipline = r at hdisc ⊢
  have hget : ∀ f ∈ sleepFlds, r.get f = d.get f := fun f hf => by
    have haddr := (sleepFlds_low f hf).1
    rw [hdisc.get haddr.ge (haddr.trans_lt (by decide)), get_of_reg_eq (State.reg_of_regs huregs), hoff.stat f hf]
  have hwork : PairWork s d := ((hent.work.trans hend).trans hclear).trans hsilent
  have hisl : ∀ k, r.alive k = e.alive k := fun k =>
    congrArg (bit · k) (get_of_reg_eq (f := SYS_ISTAT.ALIVE) ((hunset.trans hdisc.work).low _ (by decide) (by decide) (by decide) (by simp)))
  have hkept : ∀ k, d.alive k = s.alive k := fun k =>
    congrArg (bit · k) (get_of_reg_eq (f := SYS_ISTAT.ALIVE) (hwork.low _ (by decide) (by decide) (by decide) (by simp)))
  have hpst : r.pstate = 9 := by
    have hc : c.pstate = 9 := (get_of_reg_eq (State.reg_of_regs hcregs)).trans ((hrest JL_STAT.PSTATE rfl).trans hent.pstate)
    exact (hget JL_STAT.PSTATE (by simp [sleepFlds])).trans (hstate.trans hc)
  have hflag : ∀ f ∈ sleepFlds, r.flag f = d.flag f := fun f hf => congrArg (· != 0) (hget f hf)
  have hlaned : r.laned = false := by
    unfold State.laned
    rw [hflag _ (by simp [sleepFlds]), hflag _ (by simp [sleepFlds]), hla, hlb]
    rfl
  refine ⟨hpst, hlaned, ?_, fun i hi h25 => ?_, ?_, ?_⟩
  · rw [State.flag_settle, hflag _ (by simp [sleepFlds]), hwit]
  · rw [State.alive_settle, hisl, halive]
    simp [hi, h25]
  · rw [State.alive_settle, hisl, halive, hkept]
    simp
  · exact (((hwork.mem.trans (memKept_of_mem_eq hoff.mem)).trans hunset.mem).trans hdisc.work.mem).trans allKept_settle.2

end

/-- Settles O51. A verdict, a lost link and a witness word each have one operation whose consequences are split by the pair state; the pair
engine's order of checks and its answers are those of logs 36, 38 and 45. -/
theorem refereeWitnessAndSleep : Obligations.RefereeWitnessAndSleep := by
  unfold Obligations.RefereeWitnessAndSleep
  refine ⟨fun s v d hup hon hact => ⟨fun hv => verdRecordRx_starts hv hup hon hact, fun hv => verdRecordRx_verdict hup hon hact hv⟩,
    fun _ _ _ hup => refereeSelfCheckEnd_ends hup, fun _ _ hup => refereeWindowOpen_ends hup, fun _ _ hup => refereeVerdict_ends hup,
    fun _ _ hup => postSwapCheckEnd_ends hup,
    fun _ hup hon => ⟨witnessSend_ends hup hon, witnessBadWord_ends hup hon, witnessSilent_ends hup hon⟩,
    fun _ w hup hon hother => ⟨witnessRx_bad_ends w hup hon hother, witnessRx_good_ends w hup hon hother⟩,
    fun _ p hup hcmp => ⟨disagreementRaise_ends p hup hcmp, disagreementClear_ends p hup hcmp⟩,
    fun _ hup => ⟨sleepEntry_ends hup, isBeatIf_of_ite (next := fun z => z.ahead.sleepDue) hup rfl⟩,
    fun _ hup => ⟨wakeUp_ends hup, wakeGuardTimeout_ends hup, wakeSearchTimeout_ends hup, fun _ => sleepPartitionTimeout_ends hup⟩⟩

end Sys2Proof.Machine


namespace Sys2Proof.Machine

/-! ## The records of a crosslink frame (R390, R395, R404, R412) -/

section
variable {s t u : State} {f g : Fld} {a v p c n k i : Nat} {x : Bool} {w : Word}

/-! ### A carried item of another epoch (R404) -/

theorem staleItem_shows : CountsUp JL_XRES.STALES s s.staleItem ∧ s.staleItem.flag JL_XRES.STALE = true ∧ RegWork [JL_XRES] s s.staleItem := by
  have hcount : CountsUp JL_XRES.STALES s (s.inc JL_XRES.STALES) := countsUp_inc rfl rfl
  have hwork : RegWork [JL_XRES] s (s.inc JL_XRES.STALES) := RegWork.refl.inc (by simp)
  unfold State.staleItem
  generalize s.inc JL_XRES.STALES = z at hcount hwork ⊢
  exact ⟨hcount.of_get_eq (State.get_put_other rfl rfl), State.flag_putB_same rfl, hwork.putB (by simp)⟩

theorem staleItem_ends (ht : t = s.staleItem) : CountsUp JL_XRES.STALES s (settle t) ∧ (settle t).flag JL_XRES.STALE = true
    ∧ RegsKeptBut [JL_XRES] s (settle t) ∧ MemKept s (settle t) := by
  obtain ⟨hcount, hstale, hwork⟩ := staleItem_shows (s := s)
  rw [← ht] at hcount hstale hwork
  exact ⟨countsUp_settle.mpr hcount, hstale, hwork.settled.kept⟩

/-! ### Items that wait for their beat of work (R390, R395) -/

theorem replayAdd_shows {r : JRec} : (s.replayAdd r).regs = s.regs ∧ (s.replayAdd r).mem = s.mem := by
  unfold State.replayAdd
  dsimp only
  split
  · exact ⟨rfl, rfl⟩
  · exact ⟨rfl, rfl⟩

/-- A record added to the beats of a number. -/
def addTo (b : Word) (r : JRec) (y : RepBeat) : RepBeat := if y.beat == b then { y with recs := y.recs ++ [r] } else y

theorem addTo_beat {b : Word} {r : JRec} {y : RepBeat} : (addTo b r y).beat = y.beat := by
  unfold addTo
  split <;> rfl

theorem find_addTo {b : Word} {r : JRec} {l : List RepBeat} (h : l.any (fun y => y.beat == b) = true) :
    ∃ y, (l.map (addTo b r)).find? (fun y => y.beat == b) = some y ∧ r ∈ y.recs := by
  induction l with
  | nil => simp at h
  | cons y l ih =>
    rw [List.map_cons, List.find?_cons, addTo_beat]
    cases hy : y.beat == b with
    | true =>
      refine ⟨addTo b r y, rfl, ?_⟩
      unfold addTo
      rw [if_pos hy]
      simp
    | false =>
      rw [List.any_cons, hy, Bool.false_or] at h
      exact ih h

theorem find_replayAdd {r : JRec} : ∃ y, (s.replayAdd r).jl.link.replay.find? (fun y => y.beat == s.workBeat + 1) = some y ∧ r ∈ y.recs := by
  cases hany : s.jl.link.replay.any (fun y => y.beat == s.workBeat + 1) with
  | true =>
    have hadd : s.replayAdd r = s.setLink { s.jl.link with replay := s.jl.link.replay.map (addTo (s.workBeat + 1) r) } := if_pos hany
    rw [hadd]
    generalize s.workBeat + 1 = b at hany ⊢
    exact find_addTo hany
  | false =>
    have hadd : s.replayAdd r = s.setLink { s.jl.link with replay := ⟨s.workBeat + 1, false, [r], 0, 0, 0, 0⟩ :: s.jl.link.replay } :=
      if_neg (by rw [hany]; decide)
    rw [hadd]
    generalize s.workBeat + 1 = b
    exact ⟨⟨b, false, [r], 0, 0, 0, 0⟩, by simp [State.setLink], by simp⟩

theorem replays_ends {r : JRec} (ht : t = s.replayAdd r) : Replays r s (settle t) := by
  obtain ⟨hregs, hmem⟩ := replayAdd_shows (s := s) (r := r)
  have hfind := find_replayAdd (s := s) (r := r)
  rw [← ht] at hregs hmem hfind
  exact ⟨hfind, fun _ => State.reg_of_regs hregs, (memKept_of_mem_eq hmem).trans allKept_settle.2⟩

/-! ### Carried writes (R395, R404) -/

theorem isSram_of_isTable (h : isTable a = true) : isSram a = true := by
  unfold isTable at h
  unfold isSram
  simp only [Bool.or_eq_true, Bool.and_eq_true, decide_eq_true_eq] at h ⊢
  omega

theorem not_isFreeHost_of_isTable (h : isTable a = true) : isFreeHost a = false := by
  cases hf : isFreeHost a with
  | false => rfl
  | true => rw [isTable_of_isFreeHost hf] at h; exact h.symm

theorem carriedPlace_of_isTable (h : isTable a = true) : carriedPlace a = true := by
  unfold carriedPlace
  rw [h, Bool.true_or]

theorem allKept_record (r : JRec) : AllKept s (s.record r) ∧ (s.record r).mem = s.mem :=
  ⟨⟨fun _ => State.reg_of_regs (State.regs_record r), memKept_of_mem_eq (State.mem_record r)⟩, State.mem_record r⟩

/-- A table word that a unit of the pair carries is stored. -/
theorem stores_carryRec (htab : isTable a = true) (hright : sramRight a = some true) (hdeaf : s.deaf a = false) (hunb : s.unbeaten 23 a)
    (hopen : s.tableClosed a = false) (hin : s.replays = true ∨ s.pstate = 2) : Stores a w s (s.carryRec a w (s.reg JL_EPOCH)) := by
  have hsram := isSram_of_isTable htab
  have hcarry : ∀ h : State → State, s.carry .carried a w h = h (s.record ⟨10, s.ph, 0, [W a, w]⟩) := fun h => by
    unfold State.carry
    rw [if_neg (by rw [carriedPlace_of_isTable htab]; decide), if_neg (by rw [Bool.and_eq_true]; exact fun h => absurd h.2 (by decide))]
  have hrec : s.carryRec a w (s.reg JL_EPOCH) = (s.writeCore .carried a w true 23).1 := by
    unfold State.carryRec
    rw [if_neg (by simp), if_neg (by rw [carriedPlace_of_isTable htab]; decide), if_pos (by simpa using hin)]
  have hpath : (Path.carried == Path.twoWire && !isFreeHost a) = false := rfl
  have hstore : (fun z : State => if isSram a then z.sramStore a w true 23 else z.mramStore a w true 23) = fun z => z.setSram a w :=
    funext fun _ => (if_pos hsram).trans (if_pos rfl)
  have hwrite : (s.writeCore .carried a w true 23).1
      = (((s.record ⟨10, s.ph, 0, [W a, w]⟩).phaseStore 23 a (fun z => z.setSram a w)).await a w .carried 23 false) := by
    unfold State.writeCore
    dsimp only
    rw [if_pos hsram, if_neg (by rw [hdeaf]; decide), if_neg (by decide), hright]
    dsimp only
    rw [if_neg (by rw [hopen, hpath]; exact Bool.false_ne_true), if_neg (by rw [not_isFreeHost_of_isTable htab]; exact Bool.false_ne_true), hcarry, hstore]
  obtain ⟨hkept, hmem⟩ := allKept_record (s := s) ⟨10, s.ph, 0, [W a, w]⟩
  rw [hrec, hwrite]
  generalize s.record ⟨10, s.ph, 0, [W a, w]⟩ = z at hkept hmem ⊢
  have hfree : z.unbeaten 23 a := by
    unfold State.unbeaten
    rw [hmem]
    exact hunb
  exact ((stores_phaseStore hsram hfree).then_kept allKept_await).after_kept hkept

theorem carryRecordRx_stale {y : Addr} {epoch : Word} (hup : s.up = true) (hon : s.pairOn = true) (he : epoch ≠ s.reg JL_EPOCH) :
    Completes (.carryRecordRx y w epoch) s (fun t => CountsUp JL_XRES.STALES s t ∧ t.flag JL_XRES.STALE = true
      ∧ RegsKeptBut [JL_XRES] s t ∧ MemKept s t) := by
  refine completes_of_exec (o := execCarryRecordRx y w epoch s) rfl (act_ends hup (staleItem_ends ?_))
  have hstale : s.carryRec y.toNat w epoch = s.staleItem := if_pos (by simpa using he)
  rw [if_neg (by simp [hon]), if_neg (by simp [he]), hstale]

theorem carryRecordRx_waits {y : Addr} {epoch : Word} (hup : s.up = true) (hon : s.pairOn = true) (he : epoch = s.reg JL_EPOCH)
    (hrep : s.replays = true) : Completes (.carryRecordRx y w epoch) s (Replays ⟨10, 0, 0, [W y.toNat, w]⟩ s) := by
  refine completes_of_exec (o := execCarryRecordRx y w epoch s) rfl (act_ends hup (replays_ends ?_))
  rw [if_neg (by simp [hon]), if_pos (by simp [hrep, he])]

theorem carryRecordRx_stores {y : Addr} {epoch : Word} (hup : s.up = true) (hon : s.pairOn = true) (htab : isTable y.toNat = true)
    (hright : sramRight y.toNat = some true) (hdeaf : s.deaf y.toNat = false) (hunb : s.unbeaten 23 y.toNat) (hopen : s.tableClosed y.toNat = false)
    (he : epoch = s.reg JL_EPOCH) (hact : s.pstate = 2) : Completes (.carryRecordRx y w epoch) s (Stores y.toNat w s) := by
  refine completes_of_exec (o := execCarryRecordRx y w epoch s) rfl (act_ends hup ?_)
  have hrep : s.replays = false := by unfold State.replays; rw [hact]; rfl
  rw [if_neg (by simp [hon]), if_neg (by simp [hrep]), he]
  exact (stores_carryRec htab hright hdeaf hunb hopen (.inr hact)).then_kept allKept_settle

/-! ### Carried commands (R232, R256, R404) -/

theorem cmdRecordRx_stale {y z : Bool} {epoch : Word} (hup : s.up = true) (hon : s.pairOn = true) (he : epoch ≠ s.reg JL_EPOCH) :
    Completes (.cmdRecordRx y z w epoch) s (fun t => CountsUp JL_XRES.STALES s t ∧ t.flag JL_XRES.STALE = true
      ∧ RegsKeptBut [JL_XRES] s t ∧ MemKept s t) := by
  refine completes_of_exec (o := execCmdRecordRx y z w epoch s) rfl (act_ends hup (staleItem_ends ?_))
  have hstale : s.cmdRec y z w epoch = s.staleItem := if_pos (by simpa using he)
  rw [if_neg (by simp [hon]), if_neg (by simp [he]), hstale]

theorem cmdRecordRx_waits {y z : Bool} {epoch : Word} (hup : s.up = true) (hon : s.pairOn = true) (he : epoch = s.reg JL_EPOCH)
    (hrep : s.replays = true) :
    Completes (.cmdRecordRx y z w epoch) s (Replays ⟨9, 0, y.toNat <<< 23 + z.toNat <<< 22, [w]⟩ s) := by
  refine completes_of_exec (o := execCmdRecordRx y z w epoch s) rfl (act_ends hup (replays_ends ?_))
  rw [if_neg (by simp [hon]), if_pos (by simp [hrep, he])]

/-- A command of the partner's in the alarm engine's queue, and in Opal's. -/
theorem almQueue_partner (hruns : s.almRuns = true) (hrep : s.replays = false) (hroom : s.alm.cmds.length < 16) :
    s.almQueue ⟨w, x, 3, 0, 0, 0⟩ = { s with alm := { s.alm with cmds := s.alm.cmds ++ [⟨w, x, 3, 0, 0, 0⟩] } } := by
  have hlocal : (((3 : Nat) == 0) || ((3 : Nat) == 4)) = false := rfl
  unfold State.almQueue
  dsimp only
  simp only [hlocal, hruns, hrep, Bool.not_true, Bool.false_eq_true, if_false, if_neg (Nat.not_le.mpr hroom)]

theorem oplQueue_partner (hruns : s.almRuns = true) (hrep : s.replays = false) (hroom : s.opl.cmds.length < 8) :
    s.oplQueue ⟨w, x, 3, 0, 0, 0⟩ = { s with opl := { s.opl with cmds := s.opl.cmds ++ [⟨w, x, 3, 0, 0, 0⟩] } } := by
  have hlocal : ((3 : Nat) == 0) = false := rfl
  unfold State.oplQueue
  dsimp only
  simp only [hlocal, hruns, hrep, Bool.not_true, Bool.false_eq_true, if_false, if_neg (Nat.not_le.mpr hroom)]

theorem cmdRecordRx_queues {y z : Bool} {epoch : Word} (hup : s.up = true) (hon : s.pairOn = true) (he : epoch = s.reg JL_EPOCH)
    (hact : s.pstate = 2) (hruns : s.almRuns = true) (halm : s.alm.cmds.length < 16) (hopl : s.opl.cmds.length < 8) :
    Completes (.cmdRecordRx y z w epoch) s (fun t => ∃ c : EngCmd, c.w = w ∧ c.keyed = z
      ∧ t.alm.cmds = s.alm.cmds ++ (if y then [] else [c]) ∧ t.opl.cmds = s.opl.cmds ++ (if y then [c] else []) ∧ AllKept s t) := by
  refine completes_of_exec (o := execCmdRecordRx y z w epoch s) rfl (act_ends hup ?_)
  have hrep : s.replays = false := by unfold State.replays; rw [hact]; rfl
  have hcmd : s.cmdRec y z w epoch = if y then s.oplQueue ⟨w, z, 3, 0, 0, 0⟩ else s.almQueue ⟨w, z, 3, 0, 0, 0⟩ := by
    unfold State.cmdRec
    rw [if_neg (by simp [he]), if_neg (by simp [hact])]
  rw [if_neg (by simp [hon]), if_neg (by simp [hrep]), hcmd]
  refine ⟨⟨w, z, 3, 0, 0, 0⟩, rfl, rfl, ?_⟩
  cases y with
  | true =>
    rw [if_pos rfl, oplQueue_partner hruns hrep hopl]
    exact ⟨(List.append_nil _).symm, rfl, fun _ => rfl, fun _ => ⟨rfl, rfl⟩, fun _ => ⟨rfl, rfl⟩⟩
  | false =>
    rw [if_neg (by decide), almQueue_partner hruns hrep halm]
    exact ⟨rfl, (List.append_nil _).symm, fun _ => rfl, fun _ => ⟨rfl, rfl⟩, fun _ => ⟨rfl, rfl⟩⟩

/-! ### Arms from the partner (R69, R71, R404) -/

theorem regWork_armResult : RegWork [TIM_LSTAT] s (s.armResult v k) := (RegWork.refl.put (by simp)).put (by simp)

theorem State.armRec_stale {target arg cmd epoch : Word} (h2 : 2 ≤ s.pstate) (h5 : s.pstate ≤ 5) (he : epoch ≠ s.reg JL_EPOCH) :
    s.armRec target arg cmd epoch = s.armResult 7 0 := by
  unfold State.armRec
  rw [if_neg (by simp; omega), if_pos (by simpa using he)]

theorem armResult_shows (hv : v < 16) : (s.armResult v k).get TIM_LSTAT.RESULT = v ∧ RegWork [TIM_LSTAT] s (s.armResult v k) :=
  ⟨State.result_armResult hv, regWork_armResult⟩

theorem armRecordRx_stale {target arg cmd epoch : Word} (hup : s.up = true) (hon : s.pairOn = true) (h2 : 2 ≤ s.pstate) (h5 : s.pstate ≤ 5)
    (he : epoch ≠ s.reg JL_EPOCH) : Completes (.armRecordRx target arg cmd epoch) s (fun t => t.get TIM_LSTAT.RESULT = 7
        ∧ RegsKeptBut [TIM_LSTAT] s t ∧ MemKept s t) := by
  refine completes_of_exec (o := execArmRecordRx target arg cmd epoch s) rfl (act_ends hup ?_)
  rw [if_pos hon, State.armRec_stale h2 h5 he]
  obtain ⟨hres, hwork⟩ := armResult_shows (s := s) (v := 7) (k := 0) (by decide)
  generalize s.armResult 7 0 = z at hres hwork ⊢
  exact ⟨State.get_settle.trans hres, hwork.settled.kept⟩

/-- The arm a record brings. -/
def State.recArm (s : State) (target arg cmd : Word) : Arm :=
  ⟨target, arg, fld cmd 35 32, fld cmd 31 30, fld cmd 29 14, (s.armIssuer target cmd).getD s.ownIssuer, true, 8, false⟩

theorem State.armRec_takes {target arg cmd epoch : Word} (h2 : 2 ≤ s.pstate) (h5 : s.pstate ≤ 5) (he : epoch = s.reg JL_EPOCH)
    (ha2 : 2 ≤ fld cmd 35 32) (ha5 : fld cmd 35 32 ≤ 5) (hscope : fld cmd 31 30 ≠ 3) (htest : targetTest target s.t.beat 8 = 0)
    (hslot : s.slotFor (fld cmd 35 32) = some (n, x)) :
    s.armRec target arg cmd epoch = s.armed n (s.recArm target arg cmd) x
    ∨ fld cmd 31 30 = 2 ∧ s.armRec target arg cmd epoch = (s.armed n (s.recArm target arg cmd) x).requestArm (s.recArm target arg cmd) := by
  have hadm : s.Admits (s.recArm target arg cmd) := by
    refine ⟨hscope, ?_, fun h => ?_, fun h => ?_⟩
    · show argOk (fld cmd 35 32) arg = true
      unfold argOk
      simp only [ha5, decide_true, Bool.true_and, Bool.not_eq_true', Bool.and_eq_false_iff, beq_eq_false_iff_ne]
      exact .inl (by omega)
    · have : fld cmd 35 32 = 0 := h
      omega
    · have : fld cmd 35 32 = 1 := h
      omega
  have harm : s.arm (s.recArm target arg cmd) = (s.armed n (s.recArm target arg cmd) x, true) := State.arm_takes hadm htest hslot
  have hrec : s.armRec target arg cmd epoch = (if (s.arm (s.recArm target arg cmd)).2 && (s.recArm target arg cmd).scope == 2
      && (s.armIssuer target cmd).isNone && s.pstate == 2 then (s.arm (s.recArm target arg cmd)).1.requestArm (s.recArm target arg cmd)
      else (s.arm (s.recArm target arg cmd)).1) := by
    unfold State.armRec
    rw [if_neg (by simp; omega), if_neg (by simp [he])]
    rfl
  rw [hrec, harm]
  dsimp only
  split
  next h =>
    refine .inr ⟨?_, rfl⟩
    simp only [Bool.and_eq_true, beq_iff_eq] at h
    exact h.1.1.2
  · exact .inl rfl

theorem Slotted.after {y : Arm} (h : Slotted n y s t) (hn : n < 16) (hr : RegWork [SN_TXCNT] t u) (ht : u.t.slotArg = t.t.slotArg) :
    u.reg (TIM_SLOT_W0 n) = y.target ∧ u.get (TIM_SLOT_W1.STATE n) = 1 ∧ u.get (TIM_SLOT_W1.ACTION n) = y.action
      ∧ u.get (TIM_SLOT_W1.ORIGIN n) = y.received.toNat ∧ u.t.slotArg.getD n 0 = y.arg
      ∧ RegWork ([TIM_SLOT_W0 n, TIM_SLOT_W1 n, TIM_LSTAT] ++ [SN_TXCNT]) s u := by
  have h0 : TIM_SLOT_W0 n ∉ [SN_TXCNT] := by simp only [TIM_SLOT_W0, SN_TXCNT, List.mem_singleton]; omega
  have h1 : TIM_SLOT_W1 n ∉ [SN_TXCNT] := by simp only [TIM_SLOT_W1, SN_TXCNT, List.mem_singleton]; omega
  have hslot : RegWork [TIM_SLOT_W0 n, TIM_SLOT_W1 n, TIM_LSTAT] s t := ⟨h.regs, h.mem⟩
  refine ⟨(hr.regs _ h0).trans h.target, (hr.get h1).trans h.state, (hr.get h1).trans h.action, (hr.get h1).trans h.origin, ?_, ?_⟩
  · rw [ht]
    exact h.arg
  · exact (hslot.mono (List.subset_append_left _ _)).trans (hr.mono (List.subset_append_right _ _))

theorem armRecordRx_arms {target arg cmd epoch : Word} (hup : s.up = true) (hon : s.pairOn = true) (h2 : 2 ≤ s.pstate) (h5 : s.pstate ≤ 5)
    (he : epoch = s.reg JL_EPOCH) (ha2 : 2 ≤ fld cmd 35 32) (ha5 : fld cmd 35 32 ≤ 5) (hscope : fld cmd 31 30 ≠ 3)
    (htest : targetTest target s.t.beat 8 = 0) (hslot : s.slotFor (fld cmd 35 32) = some (n, x)) :
    Completes (.armRecordRx target arg cmd epoch) s (fun t =>
      t.reg (TIM_SLOT_W0 n) = target ∧ t.get (TIM_SLOT_W1.STATE n) = 1 ∧ t.get (TIM_SLOT_W1.ACTION n) = fld cmd 35 32
      ∧ t.get (TIM_SLOT_W1.ORIGIN n) = 1 ∧ t.t.slotArg.getD n 0 = arg
      ∧ RegsKeptBut ([TIM_SLOT_W0 n, TIM_SLOT_W1 n, TIM_LSTAT] ++ if fld cmd 31 30 = 2 then [SN_TXCNT] else []) s t ∧ MemKept s t) := by
  refine completes_of_exec (o := execArmRecordRx target arg cmd epoch s) rfl (act_ends hup ?_)
  rw [if_pos hon]
  have hn := slotFor_range hslot
  have hscope' : fld cmd 31 30 < 4 := bits_lt
  have htag : fld cmd 29 14 < 65536 := bits_lt
  have harmed : Slotted n (s.recArm target arg cmd) s (s.armed n (s.recArm target arg cmd) x) :=
    slotted_armed hn (by show fld cmd 35 32 ≠ 0; omega) (by show fld cmd 35 32 < 16; omega) hscope' htag
  obtain hrec | ⟨hnet, hrec⟩ := State.armRec_takes (arg := arg) h2 h5 he ha2 ha5 hscope htest hslot
  · rw [hrec]
    generalize s.armed n (s.recArm target arg cmd) x = z at harmed ⊢
    exact ⟨harmed.target, harmed.state, harmed.action, harmed.origin, harmed.arg,
      fun a ha => harmed.regs a fun hm => ha (List.mem_append_left _ hm), (memKept_of_mem_eq harmed.mem).trans allKept_settle.2⟩
  · rw [hrec]
    generalize hy : s.recArm target arg cmd = y at harmed ⊢
    generalize s.armed n y x = z at harmed ⊢
    have hforms : FormsOn z (z.requestArm y) := formsOn_formTele
    have hcarried : Carried z (z.requestArm y) := carried_formTele
    generalize z.requestArm y = q at hforms hcarried ⊢
    obtain ⟨hw0, hst, hact, horig, harg, hwork⟩ := harmed.after hn hforms.work hcarried.2.2
    rw [if_pos hnet]
    subst hy
    exact ⟨hw0, hst, hact, horig, harg, hwork.settled.kept⟩

/-! ### The state that a joining unit loads (R412) -/

theorem State.stateRec_cell (h3 : s.pstate = 3) : s.stateRec 0 i [w] = s.cellTake i w := by
  unfold State.stateRec
  rw [if_neg (by simp [h3])]
  simp

theorem State.stateRec_point (h3 : s.pstate = 3) (hi : i < 1024) : s.stateRec 1 i [w] = s.pointTake i w := by
  unfold State.stateRec
  rw [if_neg (by simp [h3])]
  simp [hi]

/-- How far the stream has come. -/
def State.streamed (s : State) (i : Nat) : State := { s with jl := { s.jl with streamAt := max s.jl.streamAt i } }

theorem State.stateRec_stream (h3 : s.pstate = 3) : s.stateRec 4 i [w] = (s.streamTake i w).streamed (i + 1) := by
  unfold State.stateRec
  rw [if_neg (by simp [h3])]
  simp [State.streamed]

theorem own_cellTake {cf : CellCfg} (h : s.bl.cfg.get? i = some cf) : ((s.cellTake i w).cellOf i).own = wbit w 35
    ∧ (s.cellTake i w).regs = s.regs ∧ (s.cellTake i w).mem = s.mem := by
  unfold State.cellTake
  rw [h]
  refine ⟨?_, rfl, rfl⟩
  unfold State.cellOf
  dsimp only
  rw [Tbl.getD_set_same]
  split <;> rfl

theorem stateRecordRx_cell {idx : BitVec 16} {cf : CellCfg} (hup : s.up = true) (hon : s.pairOn = true) (h3 : s.pstate = 3)
    (hcf : s.bl.cfg.get? idx.toNat = some cf) :
    Completes (.stateRecordRx 0 idx [w]) s (fun t => (t.cellOf idx.toNat).own = wbit w 35 ∧ AllKept s t) := by
  refine completes_of_exec (o := execStateRecordRx 0 idx [w] s) rfl (act_ends hup ?_)
  have hrec : s.stateRec (0 : Fin 16).val idx.toNat [w] = s.cellTake idx.toNat w := State.stateRec_cell h3
  rw [if_pos hon, hrec]
  obtain ⟨hown, hregs, hmem⟩ := own_cellTake (w := w) hcf
  generalize s.cellTake idx.toNat w = z at hown hregs hmem ⊢
  exact ⟨hown, fun _ => State.reg_of_regs hregs, (memKept_of_mem_eq hmem).trans allKept_settle.2⟩

/-- A point's register with the bits that stay the unit's own. -/
def State.pointWord (s : State) (n : Nat) (w : Word) : Word := W (setBits w.toNat 26 22 (fld (s.reg (ALM_PST n)) 26 22))

theorem fld_pointWord : fld (s.pointWord n w) 35 33 = fld w 35 33 := by
  have hlt : setBits w.toNat 26 22 (fld (s.reg (ALM_PST n)) 26 22) < 2 ^ 36 := setBits_lt (by decide) (by decide) w.isLt
  unfold State.pointWord
  generalize fld (s.reg (ALM_PST n)) 26 22 = v at hlt ⊢
  have hother : bits (setBits w.toNat 26 22 v) 35 33 = bits w.toNat 35 33 := bits_setBits_other (by decide) (by decide)
  rw [fld_W hlt, fld, ← hother, bits_eq]

theorem pointTake_shows : (s.pointTake n w).almState n = fld w 35 33 ∧ RegWork [ALM_PST n] s (s.pointTake n w) := by
  have hset : (s.setReg (ALM_PST n) (s.pointWord n w)).almState n = fld w 35 33 :=
    (congrArg (fld · 35 33) State.reg_setReg_same).trans fld_pointWord
  have hwork : RegWork [ALM_PST n] s (s.setReg (ALM_PST n) (s.pointWord n w)) := RegWork.refl.setReg (by simp)
  have hpoint : s.pointTake n w = (if ((s.setReg (ALM_PST n) (s.pointWord n w)).almOf n).cache.words.isEmpty then s.setReg (ALM_PST n) (s.pointWord n w)
      else (s.setReg (ALM_PST n) (s.pointWord n w)).setAlm n { (s.setReg (ALM_PST n) (s.pointWord n w)).almOf n with
        shelved := (s.setReg (ALM_PST n) (s.pointWord n w)).almState n == 4, oos := (s.setReg (ALM_PST n) (s.pointWord n w)).almState n == 6
        held := (s.setReg (ALM_PST n) (s.pointWord n w)).almState n == 5 && (s.setReg (ALM_PST n) (s.pointWord n w)).get (ALM_PST.BWHY n) == 2 }) := rfl
  rw [hpoint]
  generalize s.setReg (ALM_PST n) (s.pointWord n w) = z at hset hwork ⊢
  split
  · exact ⟨hset, hwork⟩
  · exact ⟨hset, hwork.trans ⟨fun _ _ => rfl, rfl⟩⟩

theorem stateRecordRx_point {idx : BitVec 16} (hup : s.up = true) (hon : s.pairOn = true) (h3 : s.pstate = 3) (hi : idx.toNat < 1024) :
    Completes (.stateRecordRx 1 idx [w]) s (fun t => t.almState idx.toNat = fld w 35 33
          ∧ RegsKeptBut [ALM_PST idx.toNat] s t ∧ MemKept s t) := by
  refine completes_of_exec (o := execStateRecordRx 1 idx [w] s) rfl (act_ends hup ?_)
  have hrec : s.stateRec (1 : Fin 16).val idx.toNat [w] = s.pointTake idx.toNat w := State.stateRec_point h3 hi
  rw [if_pos hon, hrec]
  obtain ⟨hstate, hwork⟩ := pointTake_shows (s := s) (n := idx.toNat) (w := w)
  generalize s.pointTake idx.toNat w = z at hstate hwork ⊢
  exact ⟨hstate, hwork.settled.kept⟩

theorem streamed_shows : (s.streamed i).jl.streamAt = max s.jl.streamAt i ∧ AllKept s (s.streamed i) :=
  ⟨rfl, fun _ => rfl, fun _ => ⟨rfl, rfl⟩, fun _ => ⟨rfl, rfl⟩⟩

theorem stateRecordRx_stream {idx : BitVec 16} (hup : s.up = true) (hon : s.pairOn = true) (h3 : s.pstate = 3)
    (ha : streamAddr streamTables idx.toNat = some a) :
    Completes (.stateRecordRx 4 idx [w]) s (fun t => t.sramAt a = w
          ∧ t.jl.streamAt = max s.jl.streamAt (idx.toNat + 1) ∧ SramKeptBut [a] s t ∧ MramKept s t ∧ RegsKept s t) := by
  refine completes_of_exec (o := execStateRecordRx 4 idx [w] s) rfl (act_ends hup ?_)
  have hrec : s.stateRec (4 : Fin 16).val idx.toNat [w] = (s.streamTake idx.toNat w).streamed (idx.toNat + 1) := State.stateRec_stream h3
  have htake : s.streamTake idx.toNat w = s.setSram a w := by
    unfold State.streamTake
    rw [ha]
  have hstores : Stores a w s (s.setSram a w) := stores_setSram
  have hjl : (s.setSram a w).jl = s.jl := rfl
  rw [if_pos hon, hrec, htake]
  generalize s.setSram a w = z at hstores hjl ⊢
  obtain ⟨hat, hall⟩ := streamed_shows (s := z) (i := idx.toNat + 1)
  generalize z.streamed (idx.toNat + 1) = y at hat hall ⊢
  obtain ⟨hword, -, hsram, hmram, hregs⟩ := (hstores.then_kept hall).then_kept allKept_settle
  exact ⟨hword, by rw [State.jl_settle, hat, hjl], hsram, hmram, hregs⟩

/-! ### The exchange of image digests (R412) -/

/-- The state of a unit that joins, but not its slots. -/
structure Joins (s t : State) : Prop where
  pstate : t.pstate = s.pstate
  mem : t.mem = s.mem

theorem joins_arm {y : Arm} : Joins s (s.arm y).1 := by
  have hlstat : ∀ (z : State) r k, Joins z (z.armResult r k) := fun _ _ _ =>
    ⟨(State.get_put_other rfl rfl).trans (State.get_put_other rfl rfl), State.mem_put.trans State.mem_put⟩
  obtain ⟨r, h⟩ | ⟨n, x, hn, h⟩ := State.arm_slot (s := s) (y := y)
  · rw [h]
    exact hlstat _ _ _
  · rw [h]
    refine ⟨get_of_reg_eq ?_, State.mem_armed⟩
    rw [State.reg_armed (by decide) (by decide)]
    exact (State.reg_setReg_other (s := s.setReg (TIM_SLOT_W0 n) y.target) (by show 0o40130000 ≠ 0o40010101 + 2 * n; omega)).trans
      (State.reg_setReg_other (by show 0o40130000 ≠ 0o40010100 + 2 * n; omega))

theorem joins_joinMode : Joins s s.joinMode := by
  have hjl : ∀ (z : State) (y : JlS), Joins z { z with jl := y } := fun _ _ => ⟨rfl, rfl⟩
  unfold State.joinMode
  split
  · exact ⟨rfl, rfl⟩
  · split
    · exact hjl _ _
    · dsimp only
      generalize harm : (State.arm s _).1 = z
      have hz : Joins s z := by rw [← harm]; exact joins_arm
      exact ⟨hz.pstate, hz.mem⟩

theorem joinRecordRx_same {d : BitVec 256} (hup : s.up = true) (hon : s.pairOn = true) (h1 : s.pstate = 1) (hd : digestWords d = s.runDigest) :
    Completes (.joinRecordRx d) s (fun t => t.pstate = 3 ∧ MemKept s t) := by
  refine completes_of_exec (o := execJoinRecordRx d s) rfl (act_ends hup ?_)
  have hrec : s.joinRec (digestWords d) = s.copyState.joinMode := by
    unfold State.joinRec
    rw [h1, hd]
    exact if_pos (by simp)
  rw [if_pos hon, hrec]
  obtain ⟨hcopy, -⟩ := copyState_shows (s := s)
  generalize s.copyState = z at hcopy ⊢
  have hjoin := joins_joinMode (s := z)
  generalize z.joinMode = y at hjoin ⊢
  exact ⟨hjoin.pstate.trans hcopy.pstate, (hcopy.work.mem.trans (memKept_of_mem_eq hjoin.mem)).trans allKept_settle.2⟩

theorem joinRecordRx_differs {d : BitVec 256} (hup : s.up = true) (hon : s.pairOn = true) (h1 : s.pstate = 1) (hd : digestWords d ≠ s.runDigest) :
    Completes (.joinRecordRx d) s (fun t => t.pstate = 1 ∧ t.get JL_CAUSE.CAUSE = 12 ∧ LowKeptBut [] s t ∧ MemKept s t) := by
  refine completes_of_exec (o := execJoinRecordRx d s) rfl (act_ends hup ?_)
  have hrec : s.joinRec (digestWords d) = s.setCause 12 := by
    unfold State.joinRec
    rw [h1]
    exact if_neg (by simpa using hd)
  rw [if_pos hon, hrec]
  have hset := causeSet_setCause (s := s) (c := 12) (by decide)
  generalize s.setCause 12 = z at hset ⊢
  exact ⟨hset.pstate.trans h1, hset.cause, hset.work.settled⟩

theorem joinRecordRx_refused {d : BitVec 256} (hup : s.up = true) (hon : s.pairOn = true) (h3 : s.pstate = 3) (hstep : s.jl.joinStep = 1)
    (hd : digestWords d ≠ s.runDigest) :
    Completes (.joinRecordRx d) s (fun t => t.pstate = 1 ∧ t.get JL_CAUSE.CAUSE = 12 ∧ LowKeptBut [] s t ∧ MemKept s t) := by
  refine completes_of_exec (o := execJoinRecordRx d s) rfl (act_ends hup ?_)
  have hrec : s.joinRec (digestWords d) = s.leave 12 1 := by
    unfold State.joinRec
    rw [h3]
    exact (if_pos (by rw [hstep]; rfl)).trans (if_neg (by simpa using hd))
  rw [if_pos hon, hrec]
  obtain ⟨hleft, hcause, -⟩ := leave_shows (s := s) (c := 12) (p := 1) (by decide) (by decide)
  generalize s.leave 12 1 = z at hleft hcause ⊢
  exact ⟨hleft.pstate, hcause, hleft.work.settled⟩

end

end Sys2Proof.Machine


namespace Sys2Proof.Machine

/-! ## Crosslink frames, block lock and silence (R386, R387, R388, R391, R405, R409) -/

section
variable {s t u : State} {f g : Fld} {a v p c n k i : Nat} {x : Bool} {w : Word} {fr : JFrame}

/-! ### What a frame leaves of the links -/

/-- What the links tell, the frame received and memory stay. -/
structure FrameWork (s t : State) : Prop where
  stat : ∀ f ∈ laneFlds, t.get f = s.get f
  rx : t.jl.link.rx = s.jl.link.rx
  mem : MemKept s t

theorem FrameWork.trans (h : FrameWork s t) (h' : FrameWork t u) : FrameWork s u :=
  ⟨fun f hf => (h'.stat f hf).trans (h.stat f hf), h'.rx.trans h.rx, h.mem.trans h'.mem⟩

/-- The unit's pair state, its epoch and its cause stay too. -/
structure StateWork (s t : State) : Prop extends FrameWork s t where
  pstate : t.pstate = s.pstate
  epoch : t.reg JL_EPOCH = s.reg JL_EPOCH
  cause : t.reg JL_CAUSE = s.reg JL_CAUSE

namespace StateWork

theorem trans (h : StateWork s t) (h' : StateWork t u) : StateWork s u :=
  ⟨h.toFrameWork.trans h'.toFrameWork, h'.pstate.trans h.pstate, h'.epoch.trans h.epoch, h'.cause.trans h.cause⟩

theorem of_regs (h : ∀ a, 0o40130000 ≤ a → a < 0o40140000 → t.reg a = s.reg a) (hrx : t.jl.link.rx = s.jl.link.rx) (hm : MemKept s t) :
    StateWork s t where
  stat f hf := by
    have haddr := (statFlds_apart f (laneFlds_apart f hf).1).1
    exact get_of_reg_eq (h _ haddr.ge (haddr.trans_lt (by decide)))
  rx := hrx
  mem := hm
  pstate := get_of_reg_eq (h _ (by decide) (by decide))
  epoch := h _ (by decide) (by decide)
  cause := h _ (by decide) (by decide)

theorem refl : StateWork s s := of_regs (fun _ _ _ => rfl) rfl (memKept_of_mem_eq rfl)

theorem of_eq (hr : t.regs = s.regs) (hrx : t.jl.link.rx = s.jl.link.rx) (hm : t.mem = s.mem) : StateWork s t :=
  of_regs (fun _ _ _ => State.reg_of_regs hr) hrx (memKept_of_mem_eq hm)

theorem put (h : StateWork s t) (hf : f.addr < 0o40130000 ∨ 0o40140000 ≤ f.addr) : StateWork s (t.put f v) :=
  h.trans (of_regs (fun _ _ _ => State.reg_put_other (by omega)) (by rw [State.jl_put]) (memKept_of_mem_eq State.mem_put))

theorem putB (h : StateWork s t) (hf : f.addr < 0o40130000 ∨ 0o40140000 ≤ f.addr) : StateWork s (t.putB f x) := h.put hf

theorem inc (h : StateWork s t) (hf : f.addr < 0o40130000 ∨ 0o40140000 ≤ f.addr) : StateWork s (t.inc f) := h.put hf

theorem raise (h : StateWork s t) (hf : f.addr < 0o40130000 ∨ 0o40140000 ≤ f.addr) : StateWork s (t.raise f) := h.put hf

theorem setReg (h : StateWork s t) (ha : a < 0o40130000 ∨ 0o40140000 ≤ a) : StateWork s (t.setReg a w) :=
  h.trans (of_regs (fun _ _ _ => State.reg_setReg_other (by omega)) (by rw [State.jl_setReg]) (memKept_of_mem_eq State.mem_setReg))

theorem ite {q : Prop} [Decidable q] (ht : StateWork s t) (hu : StateWork s u) : StateWork s (if q then t else u) := by
  split
  · exact ht
  · exact hu

end StateWork

theorem Beside.stateWork (h : Beside s t) : StateWork s t := .of_regs h.pair (by rw [h.jl]) h.work.mem

theorem stateWork_refEnd : StateWork s s.refEnd := by
  obtain ⟨-, hjl, hrest, hwork⟩ := refEnd_shows (s := s)
  refine ⟨⟨fun f hf => hrest f (laneFlds_apart f hf).2.2, by rw [hjl], hwork.mem⟩, hrest JL_STAT.PSTATE rfl, State.reg_refEnd (by decide), State.reg_refEnd (by decide)⟩

/-! ### An arm of the node's own made again (R78) -/

theorem stateWork_formTele {typ grp count : Nat} {body : List Word} : StateWork s (s.formTele typ false grp count body) := by
  have hsn : ∀ (z : State) (y : SnS), StateWork z { z with sn := y } := fun _ _ => .of_eq rfl rfl rfl
  unfold State.formTele
  dsimp only
  refine .ite .refl ?_
  rw [Bool.false_and]
  split
  · exact .refl
  · simp only [Bool.false_eq_true, if_false]
    have hseq := hsn s { s.sn with seqU := (s.sn.seqU + 1) % 2 ^ 32 }
    exact .ite hseq (.ite (hseq.inc (.inl (by decide))) (hseq.trans (hsn _ _)))

theorem stateWork_carryArm {y : Arm} : StateWork s (s.carryArm y) := by
  have hsend : ∀ r : JRec, StateWork s (s.sendRec r) := fun _ => .of_eq rfl rfl rfl
  unfold State.carryArm
  exact .ite (StateWork.trans (.ite (hsend _) .refl) stateWork_formTele) (.ite (hsend _) .refl)

theorem stateWork_armResult : StateWork s (s.armResult v k) := (StateWork.refl.put (.inl (by decide))).put (.inl (by decide))

theorem stateWork_slotFilled {y : Arm} (hn : n < 16) : StateWork s (s.slotFilled n y) := by
  have hset : StateWork s ((s.setReg (TIM_SLOT_W0 n) y.target).setReg (TIM_SLOT_W1 n) y.word) :=
    (StateWork.refl.setReg (.inl (by show 0o40010100 + 2 * n < 0o40130000; omega))).setReg (.inl (by show 0o40010101 + 2 * n < 0o40130000; omega))
  have htime : ∀ (z : State) (y : TimeS), StateWork z { z with t := y } := fun _ _ => .of_eq rfl rfl rfl
  exact hset.trans (htime _ _)

theorem stateWork_armed {y : Arm} (hn : n < 16) : StateWork s (s.armed n y x) := by
  have hpend : ∀ z : State, StateWork z (z.pendShown y) := fun z => by
    unfold State.pendShown
    exact .ite ((StateWork.refl.putB (.inl (by decide))).put (.inl (by decide))) .refl
  exact ((stateWork_slotFilled hn).trans (hpend _)).trans stateWork_armResult

theorem stateWork_issue {y : Arm} : StateWork s (s.issue y) := by
  have htag : ∀ (z : State) o, StateWork z { z with t := { z.t with issuedTag := o } } := fun _ _ => .of_eq rfl rfl rfl
  obtain ⟨r, h⟩ | ⟨n, x, hn, h⟩ := State.arm_slot (s := s) (y := y)
  · rw [State.issue_refused h]
    exact stateWork_armResult
  · have hcarried : StateWork s ((s.armed n y x).carryArm y) := (stateWork_armed hn).trans stateWork_carryArm
    unfold State.issue
    rw [h]
    exact .ite ((hcarried.trans (.ite .refl (StateWork.refl.put (.inl (by decide))))).trans (htag _ _)) hcarried

theorem stateWork_reissue : StateWork s s.reissue := by
  unfold State.reissue
  split
  · exact .refl
  · exact .ite .refl ((StateWork.refl.inc (.inl (by decide))).trans stateWork_issue)

theorem stateWork_putMismatch : StateWork s s.putMismatch := by
  have hput : StateWork s (s.putB TIM_MSTAT.MISMATCH (s.flag TIM_MSTAT.PAIRMM || s.flag TIM_MSTAT.NETMM)) := StateWork.refl.putB (.inl (by decide))
  exact .ite (hput.raise (.inr (by decide))) hput

theorem stateWork_pairMismatch {b : Word} : StateWork s (s.pairMismatch b x) := by
  have hshown : StateWork s (s.putB TIM_MSTAT.PAIRMM x).putMismatch := (StateWork.refl.putB (.inl (by decide))).trans stateWork_putMismatch
  unfold State.pairMismatch
  exact .ite (hshown.trans stateWork_reissue) hshown

/-! ### What a frame brings about -/

theorem stateWork_dropPending : StateWork s (s.dropPending fr) := by
  have hasked : StateWork s ({ s with alm := { s.alm with asked := [] }, opl := { s.opl with asked := [] } } : State) := .of_eq rfl rfl rfl
  unfold State.dropPending
  exact .ite ((hasked.putB (.inl (by decide))).putB (.inl (by decide))) .refl

theorem stateWork_heedStep : StateWork s (s.heedStep fr) := by
  unfold State.heedStep
  exact .ite (.of_eq rfl rfl rfl) .refl

theorem stateWork_heedDigest : StateWork s (s.heedDigest fr) := by
  unfold State.heedDigest
  split
  · split
    · have hset : StateWork s (s.setReg TIM_MPART fr.mdig) := StateWork.refl.setReg (.inl (by decide))
      exact .ite (hset.trans stateWork_pairMismatch) hset
    · exact .refl
  · exact .refl

theorem stateWork_heedRefs : StateWork s (s.heedRefs fr) := by
  unfold State.heedRefs
  split
  · exact .refl
  · exact .of_eq rfl rfl rfl

theorem stateWork_awaitStep {o : Option Int} : StateWork s (s.awaitStep o) := by
  unfold State.awaitStep
  exact .ite (.of_eq rfl rfl rfl) (.of_eq rfl rfl rfl)

theorem stateWork_slewRate : StateWork s s.slewRate := by
  have hfree : StateWork s s.free.2 := .of_eq rfl rfl rfl
  unfold State.slewRate
  exact hfree.put (f := TIM_FADJ.FADJ) (.inl (by decide))

theorem stateWork_correct {ns : Int} : StateWork s (s.correct ns) := by
  have hofs : StateWork s (s.put TIM_OFFS.OFFS (unsign 36 ns)) := StateWork.refl.put (.inl (by decide))
  have howed : ∀ (z : State) (d : Int), StateWork z (z.slewOwed d) := fun _ _ => .of_eq rfl rfl rfl
  refine hofs.trans (.ite ?_ (.ite .refl stateWork_awaitStep))
  exact .ite ((howed _ _).trans stateWork_slewRate) (((howed _ _).trans stateWork_slewRate).trans stateWork_awaitStep)

/-- A write of the link's delay. -/
theorem stateWork_delay : StateWork s (s.put JL_LINK.DELAY v) where
  stat f hf := by
    have haddr := (statFlds_apart f (laneFlds_apart f hf).1).1
    exact State.get_put_other rfl (Fld.apart_of_addr (by rw [haddr]; decide))
  rx := by rw [State.jl_put]
  mem := memKept_of_mem_eq State.mem_put
  pstate := State.get_put_other rfl rfl
  epoch := State.reg_put_other (by decide)
  cause := State.reg_put_other (by decide)

theorem stateWork_measure {arr : Word} : StateWork s (s.measure fr arr) := by
  unfold State.measure
  exact .ite .refl (.ite (stateWork_delay.trans stateWork_correct) stateWork_delay)

theorem frameWork_sendRec (r : JRec) : StateWork s (s.sendRec r) := .of_eq rfl rfl rfl

theorem Troubled.frameWork {l : List Nat} (h : Troubled l p s t) : FrameWork s t := ⟨h.stat, h.heard.1, h.work.mem⟩

theorem rx_pendingCleared : s.pendingCleared.jl.link.rx = s.jl.link.rx := rfl

theorem rx_becomeActive : s.becomeActive.jl.link.rx = s.jl.link.rx := by
  have hcleared : s.refEnd.pendingCleared.jl.link.rx = s.jl.link.rx := by
    rw [rx_pendingCleared, refEnd_shows.2.1]
  rw [State.becomeActive_eq]
  generalize s.refEnd.pendingCleared = z at hcleared ⊢
  obtain ⟨r, hrole⟩ := State.jl_roleChange (s := z)
  generalize z.roleChange = y at hrole ⊢
  have hent := (enters_setPstate (s := y) (p := 2) (by decide)).beside beside_redrive
  obtain ⟨n, k, j, hjl⟩ := hent.jl
  rw [hjl, hrole]
  exact hcleared

theorem frameWork_becomeActive : FrameWork s s.becomeActive :=
  have hact := active_becomeActive (s := s)
  ⟨fun f hf => hact.stat f (laneFlds_apart f hf).1 (laneFlds_apart f hf).2.2, rx_becomeActive, hact.work.mem⟩

theorem frameWork_epochLoses {y z : Bool} : FrameWork s (s.epochLoses y z) := by
  unfold State.epochLoses
  split
  · exact (leave_shows (by decide) (by decide)).1.frameWork
  · exact StateWork.refl.toFrameWork

theorem frameWork_heed : FrameWork s (s.heed fr) := by
  have hjl : ∀ (z : State) (y : JlS), y.link.rx = z.jl.link.rx → FrameWork z { z with jl := y } := fun z y h =>
    have hkept : StateWork z { z with jl := y } := .of_eq rfl h rfl
    hkept.toFrameWork
  have hjoin : ∀ z : State, FrameWork z z.sendJoin := fun z => (frameWork_sendRec _).toFrameWork
  unfold State.heed
  split
  · split
    · split
      · exact (hjl s { s.jl with joinStep := 1 } rfl).trans (hjoin _)
      · exact StateWork.refl.toFrameWork
    · split
      · exact frameWork_becomeActive
      · exact StateWork.refl.toFrameWork
  · split
    · exact frameWork_epochLoses
    · exact StateWork.refl.toFrameWork
  · split
    · exact hjl s _ rfl
    · exact StateWork.refl.toFrameWork
  · split
    · exact copying_shows.1.frameWork
    · exact StateWork.refl.toFrameWork
  · split
    · exact copying_shows.1.frameWork
    · exact StateWork.refl.toFrameWork
  · exact StateWork.refl.toFrameWork

/-- Of two actives the one with the smaller epoch fails. -/
theorem heed_loses (hact : s.pstate = 2) (hfr : fr.pstate = 2) (hless : (s.reg JL_EPOCH).toNat < fr.epoch.toNat) : s.heed fr = s.leave 13 8 := by
  have hloses : s.epochLoses (decide ((s.reg JL_EPOCH).toNat < fr.epoch.toNat)) (s.reg JL_EPOCH == fr.epoch) = s.leave 13 8 := by
    unfold State.epochLoses
    rw [decide_eq_true hless, Bool.true_or, if_pos rfl]
  unfold State.heed
  rw [hact]
  exact (if_pos (by simp [hfr])).trans hloses

/-! ### A frame taken (R387, R390) -/

/-- The frame kept, the partner shown. -/
def State.frameNoted (s : State) (f : JFrame) (arr : Word) : State :=
  let s := s.setLink { s.jl.link with rx := some f, rxTxt := f.txt, rxArr := arr }
  (s.putB JL_STAT.PART false).setPartner (s.framePartner f)

/-- The partner's sleep and its trust kept. -/
def State.sleepNoted (s : State) (f : JFrame) : State :=
  { s with
    jl := { s.jl with partSleep := if f.sleep then some s.t.run else none }
    t := { s.t with disc := { s.t.disc with partnerTrust := frameTrust f s.t.disc.partnerTrust } } }

/-- A referee without a partner in step stopped. -/
def State.runDropped (s : State) (f : JFrame) : State := if s.pstate == 2 && s.jl.referee.isSome && f.pstate != 5 then s.refEnd else s

/-- A frame without the items of another epoch. -/
def State.inEpoch (s : State) (f : JFrame) : JFrame :=
  if f.epoch == s.reg JL_EPOCH then f else { f with recs := f.recs.filter (fun x => x.rtype != 9 && x.rtype != 10) }

/-- The frame in the replay of a standby. -/
def State.replayNoted (s : State) (f : JFrame) : State :=
  if s.replays && f.replayed then s.setLink { s.jl.link with replay := addReplay s.jl.link.replay (s.inEpoch f) } else s

/-- All that a frame does before its pair state is heeded. -/
def State.frameMet (s : State) (f : JFrame) (arr : Word) : State :=
  ((((((s.frameNoted f arr).sleepNoted f).runDropped f).replayNoted f).dropPending f).heedStep f).heedDigest f

theorem State.takeFrame_eq {arr : Word} : s.takeFrame fr arr = (((s.frameMet fr arr).heed fr).heedRefs fr).discipline.measure fr arr := by
  unfold State.takeFrame State.frameMet State.frameNoted
  dsimp only
  generalize State.setPartner _ _ = z
  rfl

theorem frameNoted_shows {arr : Word} (hp : s.framePartner fr < 16) : (s.frameNoted fr arr).get JL_STAT.PARTNER = s.framePartner fr
    ∧ (∀ f ∈ laneFlds, f.apart JL_STAT.PARTNER = true → (s.frameNoted fr arr).get f = s.get f) ∧ (s.frameNoted fr arr).pstate = s.pstate
    ∧ (s.frameNoted fr arr).reg JL_EPOCH = s.reg JL_EPOCH
    ∧ (s.frameNoted fr arr).jl.link.rx = some fr ∧ MemKept s (s.frameNoted fr arr) := by
  have hregs : (s.setLink { s.jl.link with rx := some fr, rxTxt := fr.txt, rxArr := arr }).regs = s.regs := rfl
  have hrx : (s.setLink { s.jl.link with rx := some fr, rxTxt := fr.txt, rxArr := arr }).jl.link.rx = some fr := rfl
  have hmem : (s.setLink { s.jl.link with rx := some fr, rxTxt := fr.txt, rxArr := arr }).mem = s.mem := rfl
  have hsame : (s.setLink { s.jl.link with rx := some fr, rxTxt := fr.txt, rxArr := arr }).framePartner fr = s.framePartner fr := rfl
  unfold State.frameNoted
  dsimp only
  generalize s.setLink { s.jl.link with rx := some fr, rxTxt := fr.txt, rxArr := arr } = z at hregs hrx hmem hsame ⊢
  rw [hsame]
  have hget : ∀ f, f.apart JL_STAT.PART = true → (z.putB JL_STAT.PART false).get f = s.get f :=
    fun f hf => (State.get_put_other rfl hf).trans (get_of_reg_eq (State.reg_of_regs hregs))
  have hepoch : (z.putB JL_STAT.PART false).reg JL_EPOCH = s.reg JL_EPOCH := (State.reg_putB_other (by decide)).trans (State.reg_of_regs hregs)
  have hjl : (z.putB JL_STAT.PART false).jl = z.jl := State.jl_putB
  have hput : (z.putB JL_STAT.PART false).mem = z.mem := State.mem_putB
  generalize z.putB JL_STAT.PART false = y at hget hepoch hjl hput ⊢
  obtain ⟨hpartner, hrest, hpjl, -⟩ := setPartner_shows (s := y) hp
  have hstat : ∀ f ∈ laneFlds, f.apart JL_STAT.INSTEP = true := fun f hf => (statFlds_apart f (laneFlds_apart f hf).1).2.2.2
  refine ⟨hpartner, fun f hf h => (hrest f h (hstat f hf)).trans (hget f (laneFlds_apart f hf).2.1), (hrest _ rfl rfl).trans (hget _ rfl),
    (State.reg_setPartner (by decide)).trans hepoch, ?_, memKept_of_mem_eq (State.mem_setPartner.trans (hput.trans hmem))⟩
  rw [hpjl, hjl, hrx]

theorem stateWork_frameRest : StateWork s ((((((s.sleepNoted fr).runDropped fr).replayNoted fr).dropPending fr).heedStep fr).heedDigest fr) := by
  have hsleep : StateWork s (s.sleepNoted fr) := .of_eq rfl rfl rfl
  have hrun : ∀ z : State, StateWork z (z.runDropped fr) := fun _ => .ite stateWork_refEnd .refl
  have hreplay : ∀ z : State, StateWork z (z.replayNoted fr) := fun _ => .ite (.of_eq rfl rfl rfl) .refl
  exact ((((hsleep.trans (hrun _)).trans (hreplay _)).trans stateWork_dropPending).trans stateWork_heedStep).trans stateWork_heedDigest

theorem stateWork_afterHeed {arr : Word} : StateWork s ((s.heedRefs fr).discipline.measure fr arr) :=
  (stateWork_heedRefs.trans beside_discipline.stateWork).trans stateWork_measure

/-- What a frame taken shows. -/
theorem takeFrame_shows {arr : Word} (hp : s.framePartner fr < 16) : (s.takeFrame fr arr).get JL_STAT.PARTNER = s.framePartner fr
    ∧ (∀ f ∈ laneFlds, f.apart JL_STAT.PARTNER = true → (s.takeFrame fr arr).get f = s.get f)
    ∧ (s.takeFrame fr arr).jl.link.rx = some fr ∧ MemKept s (s.takeFrame fr arr)
    ∧ (s.pstate = 2 → fr.pstate = 2 → (s.reg JL_EPOCH).toNat < fr.epoch.toNat →
        (s.takeFrame fr arr).pstate = 8 ∧ (s.takeFrame fr arr).get JL_CAUSE.CAUSE = 13) := by
  rw [State.takeFrame_eq]
  unfold State.frameMet
  obtain ⟨hpartner, hstat, hstate, hepoch, hrx, hmem⟩ := frameNoted_shows (arr := arr) hp
  generalize s.frameNoted fr arr = z at hpartner hstat hstate hepoch hrx hmem ⊢
  have hrest := stateWork_frameRest (s := z) (fr := fr)
  generalize ((((((z.sleepNoted fr).runDropped fr).replayNoted fr).dropPending fr).heedStep fr).heedDigest fr) = y at hrest ⊢
  have hheed := frameWork_heed (s := y) (fr := fr)
  have hloses : y.pstate = 2 → fr.pstate = 2 → (y.reg JL_EPOCH).toNat < fr.epoch.toNat → (y.heed fr).pstate = 8 ∧ (y.heed fr).get JL_CAUSE.CAUSE = 13 :=
    fun h2 hf hless => by
      rw [heed_loses h2 hf hless]
      obtain ⟨hleft, hcause, -⟩ := leave_shows (s := y) (c := 13) (p := 8) (by decide) (by decide)
      exact ⟨hleft.pstate, hcause⟩
  generalize y.heed fr = q at hheed hloses ⊢
  have hafter := stateWork_afterHeed (s := q) (fr := fr) (arr := arr)
  generalize (q.heedRefs fr).discipline.measure fr arr = r at hafter ⊢
  have hall := (hrest.toFrameWork.trans hheed).trans hafter.toFrameWork
  refine ⟨(hall.stat _ (by simp [laneFlds])).trans hpartner, fun f hf h => (hall.stat f hf).trans (hstat f hf h), hall.rx.trans hrx, hmem.trans hall.mem,
    fun h2 hf hless => ?_⟩
  obtain ⟨h8, h13⟩ := hloses (hrest.pstate.trans (hstate.trans h2)) hf (by rw [hrest.epoch, hepoch]; exact hless)
  exact ⟨hafter.pstate.trans h8, (get_of_reg_eq hafter.cause).trans h13⟩

/-! ### A copy of a frame on a lane (R387) -/

/-- The lane's flag, and its count of frames discarded. -/
abbrev laneFlag (lane : Bool) : Fld := if lane then JL_STAT.LNKB else JL_STAT.LNKA
abbrev laneBad (lane : Bool) : Fld := if lane then JL_LINK.CRCB else JL_LINK.CRCA

/-- A lane's flag shows that it delivers. -/
def State.laneHeard (s : State) (lane : Bool) : State :=
  (s.setLink (if lane then { s.jl.link with lastB := some s.t.run } else { s.jl.link with lastA := some s.t.run })).putB (laneFlag lane) true

theorem laneHeard_shows {lane : Bool} : (s.laneHeard lane).flag (laneFlag lane) = true ∧ RegWork [JL_STAT] s (s.laneHeard lane)
    ∧ (s.laneHeard lane).t = s.t ∧ (s.laneHeard lane).pstate = s.pstate := by
  have hlink : ∀ l, (s.setLink l).regs = s.regs ∧ (s.setLink l).mem = s.mem ∧ (s.setLink l).t = s.t := fun _ => ⟨rfl, rfl, rfl⟩
  unfold State.laneHeard
  generalize (if lane then { s.jl.link with lastB := some s.t.run } else { s.jl.link with lastA := some s.t.run } : JlLink) = l
  obtain ⟨hregs, hmem, ht⟩ := hlink l
  generalize s.setLink l = z at hregs hmem ht ⊢
  have hkept : RegWork [JL_STAT] s z := ⟨fun _ _ => State.reg_of_regs hregs, hmem⟩
  cases lane with
  | false => exact ⟨State.flag_putB_same rfl, hkept.putB (f := JL_STAT.LNKA) (by simp), State.t_putB.trans ht,
      (State.get_put_other rfl rfl).trans (get_of_reg_eq (State.reg_of_regs hregs))⟩
  | true => exact ⟨State.flag_putB_same rfl, hkept.putB (f := JL_STAT.LNKB) (by simp), State.t_putB.trans ht,
      (State.get_put_other rfl rfl).trans (get_of_reg_eq (State.reg_of_regs hregs))⟩

theorem frameBad_shows {lane : Bool} : CountsUp (laneBad lane) s (s.frameBad lane) ∧ RegWork [JL_LINK] s (s.frameBad lane) := by
  unfold State.frameBad
  cases lane with
  | false => exact ⟨countsUp_inc rfl rfl, RegWork.refl.inc (f := JL_LINK.CRCA) (by simp)⟩
  | true => exact ⟨countsUp_inc rfl rfl, RegWork.refl.inc (f := JL_LINK.CRCB) (by simp)⟩

theorem frameBad_ends {lane : Bool} (ht : t = s.frameBad lane) : CountsUp (laneBad lane) s (settle t) ∧ RegsKeptBut [JL_LINK] s (settle t)
    ∧ MemKept s (settle t) := by
  obtain ⟨hcount, hwork⟩ := frameBad_shows (s := s) (lane := lane)
  rw [← ht] at hcount hwork
  exact ⟨countsUp_settle.mpr hcount, hwork.settled.kept⟩

theorem crosslinkFrameDiscard_ends {lane : Bool} (hup : s.up = true) (hon : s.pairOn = true) : Completes (.crosslinkFrameDiscard lane) s (fun t =>
    CountsUp (laneBad lane) s t ∧ RegsKeptBut [JL_LINK] s t ∧ MemKept s t) :=
  completes_of_exec (o := execCrosslinkFrameDiscard lane s) rfl (act_ends hup (frameBad_ends (if_pos hon)))

theorem State.frameRx_bad {lane : Bool} {arr : Word} (hon : s.pairOn = true) (hlock : (if lane then s.jl.link.lockB else s.jl.link.lockA) = true)
    (hok : frameOk fr = false) : s.frameRx lane fr arr = (s.frameBad lane, false) := by
  unfold State.frameRx
  rw [if_neg (by simp [hon, hlock]), if_pos (by simp [hok])]

theorem State.heedWake_awake (h : s.jl.wake = 0) : s.heedWake fr = (s, true) := by
  unfold State.heedWake
  rw [h]
  rfl

theorem State.frameRx_again {lane : Bool} {arr : Word} (hon : s.pairOn = true) (hlock : (if lane then s.jl.link.lockB else s.jl.link.lockA) = true)
    (hok : frameOk fr = true) (hwake : s.jl.wake = 0) (hsame : (s.jl.link.rx.map (fun r => (r.beat, r.txt))) = some (fr.beat, fr.txt)) :
    s.frameRx lane fr arr = (s.laneHeard lane, false) := by
  have hheed := State.heedWake_awake (fr := fr) hwake
  unfold State.frameRx
  rw [if_neg (by simp [hon, hlock]), if_neg (by simp [hok])]
  dsimp only
  rw [hheed]
  dsimp only
  rw [if_pos (by simp [hsame])]
  rfl

theorem State.frameRx_first {lane : Bool} {arr : Word} (hon : s.pairOn = true) (hlock : (if lane then s.jl.link.lockB else s.jl.link.lockA) = true)
    (hok : frameOk fr = true) (hwake : s.jl.wake = 0) (hnew : (s.jl.link.rx.map (fun r => (r.beat, r.txt))) ≠ some (fr.beat, fr.txt)) :
    s.frameRx lane fr arr = ((s.laneHeard lane).takeFrame fr arr, true) := by
  have hheed := State.heedWake_awake (fr := fr) hwake
  unfold State.frameRx
  rw [if_neg (by simp [hon, hlock]), if_neg (by simp [hok])]
  dsimp only
  rw [hheed]
  dsimp only
  rw [if_neg (by simpa using hnew)]
  rfl

/-- What a frame's records do on arrival, after the frame itself. -/
def State.frameDone (s : State) (lane : Bool) (f : JFrame) (arr : Word) : State :=
  if (s.frameRx lane f arr).2 then f.recs.foldl (fun (z : State) (y : JRec) => z.recNow f (f.epoch != s.reg JL_EPOCH) y) (s.frameRx lane f arr).1
  else (s.frameRx lane f arr).1

theorem crosslinkFrameRx_bad {lane : Bool} {arr : Word} (hup : s.up = true) (hon : s.pairOn = true)
    (hlock : (if lane then s.jl.link.lockB else s.jl.link.lockA) = true) (hok : frameOk fr = false) :
    Completes (.crosslinkFrameRx lane fr arr) s (fun t => CountsUp (laneBad lane) s t ∧ RegsKeptBut [JL_LINK] s t ∧ MemKept s t) := by
  refine completes_of_exec (o := execCrosslinkFrameRx lane fr arr s) rfl (act_ends (work := fun z => z.frameDone lane fr arr) hup (frameBad_ends ?_))
  unfold State.frameDone
  rw [State.frameRx_bad hon hlock hok]
  rfl

theorem crosslinkFrameRx_again {lane : Bool} {arr : Word} (hup : s.up = true) (hon : s.pairOn = true)
    (hlock : (if lane then s.jl.link.lockB else s.jl.link.lockA) = true) (hok : frameOk fr = true) (hwake : s.jl.wake = 0)
    (hsame : (s.jl.link.rx.map (fun r => (r.beat, r.txt))) = some (fr.beat, fr.txt)) : Completes (.crosslinkFrameRx lane fr arr) s (fun t =>
      t.flag (laneFlag lane) = true ∧ RegsKeptBut [JL_STAT] s t ∧ MemKept s t) := by
  refine completes_of_exec (o := execCrosslinkFrameRx lane fr arr s) rfl (act_ends (work := fun z => z.frameDone lane fr arr) hup ?_)
  have hdone : s.frameDone lane fr arr = s.laneHeard lane := by
    unfold State.frameDone
    rw [State.frameRx_again hon hlock hok hwake hsame]
    rfl
  rw [hdone]
  obtain ⟨hflag, hwork, -⟩ := laneHeard_shows (s := s) (lane := lane)
  generalize s.laneHeard lane = z at hflag hwork ⊢
  exact ⟨hflag, hwork.settled.kept⟩

theorem framePartner_lt (hok : frameOk fr = true) : s.framePartner fr < 16 := by
  unfold frameOk at hok
  simp only [Bool.and_eq_true, decide_eq_true_eq] at hok
  obtain ⟨⟨⟨-, hp⟩, -⟩, -⟩ := hok
  unfold State.framePartner
  split
  · decide
  · omega

theorem laneFlag_mem {lane : Bool} : laneFlag lane ∈ laneFlds ∧ (laneFlag lane).apart JL_STAT.PARTNER = true := by
  cases lane <;> exact ⟨by simp [laneFlag, laneFlds], rfl⟩

theorem crosslinkFrameRx_takes {lane : Bool} {arr : Word} (hup : s.up = true) (hon : s.pairOn = true)
    (hlock : (if lane then s.jl.link.lockB else s.jl.link.lockA) = true) (hok : frameOk fr = true) (hwake : s.jl.wake = 0)
    (hnew : (s.jl.link.rx.map (fun r => (r.beat, r.txt))) ≠ some (fr.beat, fr.txt)) (hrecs : fr.recs = []) :
    Completes (.crosslinkFrameRx lane fr arr) s (fun t =>
      t.flag (laneFlag lane) = true ∧ MemKept s t ∧ t.jl.link.rx = some fr ∧ t.get JL_STAT.PARTNER = s.framePartner fr
      ∧ (s.pstate = 2 → fr.pstate = 2 → (s.reg JL_EPOCH).toNat < fr.epoch.toNat → t.pstate = 8 ∧ t.get JL_CAUSE.CAUSE = 13)) := by
  refine completes_of_exec (o := execCrosslinkFrameRx lane fr arr s) rfl (act_ends (work := fun z => z.frameDone lane fr arr) hup ?_)
  have hdone : s.frameDone lane fr arr = (s.laneHeard lane).takeFrame fr arr := by
    unfold State.frameDone
    rw [State.frameRx_first hon hlock hok hwake hnew, hrecs]
    rfl
  rw [hdone]
  obtain ⟨hflag, hwork, htime, hstate⟩ := laneHeard_shows (s := s) (lane := lane)
  generalize s.laneHeard lane = z at hflag hwork htime hstate ⊢
  have hpartner : z.framePartner fr = s.framePartner fr := by
    unfold State.framePartner
    rw [htime]
  obtain ⟨hshown, hstat, hrx, hmem, hloses⟩ := takeFrame_shows (s := z) (fr := fr) (arr := arr) (framePartner_lt hok)
  generalize z.takeFrame fr arr = y at hshown hstat hrx hmem hloses ⊢
  refine ⟨?_, (hwork.kept.2.trans hmem).trans allKept_settle.2, hrx, hshown.trans hpartner, fun h2 hf hless => ?_⟩
  · rw [State.flag_settle]
    exact (congrArg (· != 0) (hstat _ laneFlag_mem.1 laneFlag_mem.2)).trans hflag
  · exact hloses (hstate.trans h2) hf (by rw [hwork.regs _ (by decide)]; exact hless)

theorem crosslinkBlockLock_ends {lane lock : Bool} (hup : s.up = true) : Completes (.crosslinkBlockLock lane lock) s (fun t =>
      (if lane then t.jl.link.lockB else t.jl.link.lockA) = lock
      ∧ (lock = false → t.flag (laneFlag lane) = false) ∧ (lock = true → RegsKept s t)
      ∧ RegsKeptBut [JL_STAT] s t ∧ MemKept s t) := by
  have hlink : ∀ l, (s.setLink l).regs = s.regs ∧ (s.setLink l).mem = s.mem ∧ (s.setLink l).jl.link = l := fun _ => ⟨rfl, rfl, rfl⟩
  refine completes_of_exec (o := execCrosslinkBlockLock lane lock s) rfl (act_ends hup ?_)
  dsimp only
  obtain ⟨hregs, hmem, hl⟩ := hlink (if lane then { s.jl.link with lockB := lock } else { s.jl.link with lockA := lock })
  have hshown : (if lane then (if lane then { s.jl.link with lockB := lock } else { s.jl.link with lockA := lock } : JlLink).lockB
      else (if lane then { s.jl.link with lockB := lock } else { s.jl.link with lockA := lock } : JlLink).lockA) = lock := by cases lane <;> rfl
  generalize (if lane then { s.jl.link with lockB := lock } else { s.jl.link with lockA := lock } : JlLink) = l at hregs hmem hl hshown ⊢
  generalize s.setLink l = z at hregs hmem hl ⊢
  have hkept : RegWork [JL_STAT] s z := ⟨fun _ _ => State.reg_of_regs hregs, hmem⟩
  cases lock with
  | true =>
    rw [if_pos (rfl : true = true)]
    exact ⟨by rw [State.jl_settle, hl]; exact hshown, nofun, fun _ _ => State.reg_of_regs hregs, hkept.settled.kept⟩
  | false =>
    rw [if_neg Bool.false_ne_true]
    have hjl : ∀ f, (z.putB f false).jl = z.jl := fun _ => State.jl_putB
    have hdown : (z.putB (laneFlag lane) false).flag (laneFlag lane) = false := by cases lane <;> exact State.flag_putB_same rfl
    have hput : RegWork [JL_STAT] s (z.putB (laneFlag lane) false) := hkept.putB (by cases lane <;> simp [laneFlag])
    have hsame := hjl (laneFlag lane)
    generalize z.putB (laneFlag lane) false = y at hdown hput hsame ⊢
    exact ⟨by rw [State.jl_settle, hsame, hl]; exact hshown, fun _ => hdown, nofun, hput.settled.kept⟩

end

end Sys2Proof.Machine


namespace Sys2Proof.Machine

/-! ## Silent lanes and a replay that has not come (R388, R391, R405, R416) -/

section
variable {s t u : State} {f g : Fld} {a v p c n k i : Nat} {x : Bool} {w : Word}

/-- A lane's flag falls where it has been silent. -/
def State.laneQuiet (s : State) (f : Fld) (quiet : Bool) : State := if s.flag f && quiet then s.putB f false else s

/-- What a silent lane's fall leaves: the rest of JL_STAT, the engine's state. -/
structure LaneWork (f : Fld) (s t : State) : Prop where
  stat : ∀ g, g.apart f = true → t.get g = s.get g
  jl : t.jl = s.jl
  regs : RegWork [JL_STAT] s t
  work : PairWork s t

theorem laneWork_laneQuiet (hf : f ∈ [JL_STAT.LNKA, JL_STAT.LNKB]) : LaneWork f s (s.laneQuiet f x) := by
  obtain ⟨-, hget, hjl, hregs, hwork⟩ := flagDown_shows (s := s) (f := f) (x := false) (by
    simp only [List.mem_cons, List.not_mem_nil, or_false] at hf ⊢
    exact hf.elim .inl fun h => .inr (.inl h))
  unfold State.laneQuiet
  split
  · exact ⟨hget, hjl, hregs, hwork⟩
  · exact ⟨fun _ _ => rfl, rfl, .refl, .refl⟩

theorem laneQuiet_down (hf : f ∈ [JL_STAT.LNKA, JL_STAT.LNKB]) : (s.laneQuiet f true).flag f = false := by
  have hok : ∀ f ∈ [JL_STAT.LNKA, JL_STAT.LNKB], f.ok = true := by decide
  unfold State.laneQuiet
  rw [Bool.and_true]
  split
  · exact State.flag_putB_same (hok f hf)
  next h => simpa using h

/-- Both lanes' flags, each down where its lane has been silent. -/
def State.lanesFall (s : State) (qa qb : Bool) : State := (s.laneQuiet JL_STAT.LNKA qa).laneQuiet JL_STAT.LNKB qb

/-- What a loss of both lanes brings. -/
def State.lanesLost (s : State) : State :=
  let s := s.setPartner (if s.jl.partSleep.isSome then 9 else 15)
  ((if s.jl.referee.isSome then s.refEnd else s).linkLoss).discipline

theorem State.lanesQuiet_eq (hon : s.pairOn = true) (hwake : s.jl.wake = 0) (hlaned : s.laned = true) :
    s.lanesQuiet = (if (s.lanesFall (decide (16 ≤ s.quietFor s.jl.link.lastA)) (decide (16 ≤ s.quietFor s.jl.link.lastB))).laned
      then s.lanesFall (decide (16 ≤ s.quietFor s.jl.link.lastA)) (decide (16 ≤ s.quietFor s.jl.link.lastB))
      else (s.lanesFall (decide (16 ≤ s.quietFor s.jl.link.lastA)) (decide (16 ≤ s.quietFor s.jl.link.lastB))).lanesLost) := by
  unfold State.lanesQuiet
  dsimp only
  rw [if_neg (by simp [hon, hwake]), hlaned]
  generalize decide (16 ≤ s.quietFor s.jl.link.lastA) = qa
  generalize decide (16 ≤ s.quietFor s.jl.link.lastB) = qb
  rfl

/-- Both lanes down: neither delivers. -/
theorem lanesFall_down : (s.lanesFall true true).laned = false ∧ (∀ g, g.apart JL_STAT.LNKA = true → g.apart JL_STAT.LNKB = true →
    (s.lanesFall true true).get g = s.get g) ∧ (s.lanesFall true true).jl = s.jl ∧ PairWork s (s.lanesFall true true) := by
  unfold State.lanesFall
  have ha := laneWork_laneQuiet (s := s) (f := JL_STAT.LNKA) (x := true) (by simp)
  have hda := laneQuiet_down (s := s) (f := JL_STAT.LNKA) (by simp)
  generalize s.laneQuiet JL_STAT.LNKA true = z at ha hda ⊢
  have hb := laneWork_laneQuiet (s := z) (f := JL_STAT.LNKB) (x := true) (by simp)
  have hdb := laneQuiet_down (s := z) (f := JL_STAT.LNKB) (by simp)
  generalize z.laneQuiet JL_STAT.LNKB true = y at hb hdb ⊢
  refine ⟨?_, fun g h1 h2 => (hb.stat g h2).trans (ha.stat g h1), hb.jl.trans ha.jl, ha.work.trans hb.work⟩
  unfold State.laned
  have hkeep : y.flag JL_STAT.LNKA = z.flag JL_STAT.LNKA := congrArg (· != 0) (hb.stat JL_STAT.LNKA rfl)
  rw [hkeep, hda, hdb]
  rfl

theorem crosslinkSilence_one (hup : s.up = true) (hon : s.pairOn = true) (hwake : s.jl.wake = 0) (hlaned : s.laned = true)
    (hqa : 16 ≤ s.quietFor s.jl.link.lastA) (hqb : s.quietFor s.jl.link.lastB < 16) (hb : s.flag JL_STAT.LNKB = true) :
    Completes .crosslinkSilence s (fun t => t.flag JL_STAT.LNKA = false ∧ t.flag JL_STAT.LNKB = true ∧ RegsKeptBut [JL_STAT] s t ∧ MemKept s t) := by
  refine completes_of_exec (o := execCrosslinkSilence s) rfl (act_ends hup ?_)
  rw [State.lanesQuiet_eq hon hwake hlaned, decide_eq_true hqa, decide_eq_false (by omega)]
  have ha := laneWork_laneQuiet (s := s) (f := JL_STAT.LNKA) (x := true) (by simp)
  have hda := laneQuiet_down (s := s) (f := JL_STAT.LNKA) (by simp)
  have hfall : s.lanesFall true false = s.laneQuiet JL_STAT.LNKA true := if_neg (by simp)
  rw [hfall]
  generalize s.laneQuiet JL_STAT.LNKA true = z at ha hda ⊢
  have hkeep : z.flag JL_STAT.LNKB = true := (congrArg (· != 0) (ha.stat JL_STAT.LNKB rfl)).trans hb
  have hl : z.laned = true := by
    unfold State.laned
    rw [hkeep, Bool.or_true]
  rw [if_pos hl]
  exact ⟨hda, hkeep, ha.regs.settled.kept⟩

/-- A referee's run stopped where there is one. -/
theorem stopped_shows : (∀ f ∈ laneFlds, (if s.jl.referee.isSome then s.refEnd else s).get f = s.get f)
    ∧ (if s.jl.referee.isSome then s.refEnd else s).pstate = s.pstate
    ∧ (if s.jl.referee.isSome then s.refEnd else s).jl.partSleep = s.jl.partSleep ∧ PairWork s (if s.jl.referee.isSome then s.refEnd else s) := by
  obtain ⟨-, hjl, hrest, hwork⟩ := refEnd_shows (s := s)
  split
  · exact ⟨fun f hf => hrest f (laneFlds_apart f hf).2.2, hrest JL_STAT.PSTATE rfl, by rw [hjl], hwork⟩
  · exact ⟨fun _ _ => rfl, rfl, rfl, .refl⟩

theorem laned_of_stat (h : ∀ f ∈ laneFlds, t.get f = s.get f) : t.laned = s.laned := by
  unfold State.laned State.flag
  rw [h _ (by simp [laneFlds]), h _ (by simp [laneFlds])]

/-- What a loss of both lanes shows. -/
theorem lanesLost_shows (hl : s.laned = false) : s.lanesLost.laned = false ∧ s.lanesLost.get JL_STAT.PARTNER = (if s.jl.partSleep.isSome then 9 else 15)
    ∧ (s.flag JL_STAT.WIT = true → s.replays = true → s.lanesLost.pstate = 7)
    ∧ (s.flag JL_STAT.WIT = false → s.replays = true ∨ s.pstate = 7 → s.lanesLost.pstate = 6 ∧ s.lanesLost.flag JL_STAT.PART = true)
    ∧ (s.flag JL_STAT.WIT = false → s.pstate = 2 → s.jl.partSleep = none → s.lanesLost.pstate = 2 ∧ s.lanesLost.flag JL_STAT.PART = true)
    ∧ PairWork s s.lanesLost := by
  have hlt : (if s.jl.partSleep.isSome then 9 else 15) < 16 := by split <;> decide
  unfold State.lanesLost
  dsimp only
  generalize (if s.jl.partSleep.isSome then 9 else 15) = q at hlt ⊢
  obtain ⟨hpartner, hrest, hpjl, hpwork⟩ := setPartner_shows (s := s) hlt
  generalize s.setPartner q = z at hpartner hrest hpjl hpwork ⊢
  obtain ⟨hstat, hstate, hsleep, hwork⟩ := stopped_shows (s := z)
  generalize (if z.jl.referee.isSome then z.refEnd else z) = y at hstat hstate hsleep hwork ⊢
  have hwit : y.flag JL_STAT.WIT = s.flag JL_STAT.WIT := congrArg (· != 0) ((hstat _ (by simp [laneFlds])).trans (hrest _ rfl rfl))
  have hpst : y.pstate = s.pstate := hstate.trans (hrest _ rfl rfl)
  have hreplays : y.replays = s.replays := by unfold State.replays; rw [hpst]
  have hpart : y.jl.partSleep = s.jl.partSleep := by rw [hsleep, hpjl]
  have hlaned : y.laned = false := by
    rw [laned_of_stat hstat]
    unfold State.laned State.flag at hl ⊢
    rwa [hrest _ rfl rfl, hrest _ rfl rfl]
  have hloss := lossWork_linkLoss (s := y)
  obtain ⟨hheard, halone, hactive⟩ := linkLoss_shows hlaned
  generalize y.linkLoss = r at hloss hheard halone hactive ⊢
  have hdisc := beside_discipline (s := r)
  generalize r.discipline = o at hdisc ⊢
  have hend : ∀ f, f.addr = JL_STAT → o.get f = r.get f := fun f hf => hdisc.get hf.ge (hf.trans_lt (by decide))
  have hflag : o.flag JL_STAT.PART = r.flag JL_STAT.PART := congrArg (· != 0) (hend _ rfl)
  have hpstate : o.pstate = r.pstate := hend _ rfl
  refine ⟨?_, ?_, fun hw hr => ?_, fun hw hin => ?_, fun hw ha hs => ?_, ((hpwork.trans hwork).trans hloss.work).trans hdisc.work⟩
  · rw [laned_of_stat (fun f hf => hend f (statFlds_apart f (laneFlds_apart f hf).1).1), hloss.laned, hlaned]
  · rw [hend _ rfl, hloss.stat _ (by simp [laneFlds]), hstat _ (by simp [laneFlds]), hpartner]
  · rw [hpstate]
    exact hheard (hwit.trans hw) (hreplays.trans hr)
  · rw [hpstate, hflag]
    exact halone (hwit.trans hw) (by rw [hreplays, hpst]; exact hin)
  · rw [hpstate, hflag]
    exact hactive (hwit.trans hw) (hpst.trans ha) (hpart.trans hs)

theorem crosslinkSilence_both (hup : s.up = true) (hon : s.pairOn = true) (hwake : s.jl.wake = 0) (hlaned : s.laned = true)
    (hqa : 16 ≤ s.quietFor s.jl.link.lastA) (hqb : 16 ≤ s.quietFor s.jl.link.lastB) : Completes .crosslinkSilence s (fun t => t.laned = false
      ∧ t.get JL_STAT.PARTNER = (if s.jl.partSleep.isSome then 9 else 15)
      ∧ (s.flag JL_STAT.WIT = true → s.replays = true → t.pstate = 7)
      ∧ (s.flag JL_STAT.WIT = false → s.replays = true ∨ s.pstate = 7 → t.pstate = 6 ∧ t.flag JL_STAT.PART = true)
      ∧ (s.flag JL_STAT.WIT = false → s.pstate = 2 → s.jl.partSleep = none → t.pstate = 2 ∧ t.flag JL_STAT.PART = true)
      ∧ LowKeptBut [] s t ∧ MemKept s t) := by
  refine completes_of_exec (o := execCrosslinkSilence s) rfl (act_ends hup ?_)
  rw [State.lanesQuiet_eq hon hwake hlaned, decide_eq_true hqa, decide_eq_true hqb]
  obtain ⟨hdown, hget, hjl, hwork⟩ := lanesFall_down (s := s)
  generalize s.lanesFall true true = z at hdown hget hjl hwork ⊢
  rw [if_neg (by rw [hdown]; decide)]
  have hwit : z.flag JL_STAT.WIT = s.flag JL_STAT.WIT := congrArg (· != 0) (hget _ rfl rfl)
  have hpst : z.pstate = s.pstate := hget _ rfl rfl
  have hreplays : z.replays = s.replays := by unfold State.replays; rw [hpst]
  obtain ⟨hlost, hpartner, hheard, halone, hactive, hlwork⟩ := lanesLost_shows hdown
  rw [hjl] at hpartner hactive
  rw [hwit] at hheard halone hactive
  rw [hreplays] at hheard halone
  rw [hpst] at halone hactive
  generalize z.lanesLost = y at hlost hpartner hheard halone hactive hlwork ⊢
  exact ⟨hlost, hpartner, hheard, halone, hactive, (hwork.trans hlwork).settled⟩

/-! ### A replay that has not come (R391) -/

/-- The missing replay counted, with its cause. -/
def State.missCounted (s : State) : State := (s.inc JL_LCNT.MISS).setCause 10

theorem State.replayLost_due (hon : s.pairOn = true) (hrep : s.replays = true) (hwake : s.jl.wake = 0) (htake : s.jl.takeAt = none)
    (hlong : s.jl.replayAt + 6 ≤ s.t.run) (hmiss : s.jl.link.replay.any (fun r => r.beat == s.t.beat - 6 && r.complete) = false) :
    s.replayLost = if s.missCounted.laned then s.missCounted.copying else s.missCounted.linkLoss := by
  unfold State.replayLost
  dsimp only
  rw [hmiss, if_neg (by simp [hon, hrep, hwake, htake, hlong])]
  rfl

theorem missCounted_shows : CountsUp JL_LCNT.MISS s s.missCounted ∧ s.missCounted.get JL_CAUSE.CAUSE = 10
    ∧ s.missCounted.laned = s.laned ∧ PairWork s s.missCounted := by
  have hcount : CountsUp JL_LCNT.MISS s (s.inc JL_LCNT.MISS) := countsUp_inc rfl rfl
  have hwork : PairWork s (s.inc JL_LCNT.MISS) := PairWork.refl.inc (by decide)
  have hother : ∀ a, a ≠ JL_LCNT → (s.inc JL_LCNT.MISS).reg a = s.reg a := fun _ ha => State.reg_inc_other ha
  unfold State.missCounted
  generalize s.inc JL_LCNT.MISS = z at hcount hwork hother ⊢
  have hset := causeSet_setCause (s := z) (c := 10) (by decide)
  generalize z.setCause 10 = y at hset ⊢
  have hstat : y.reg JL_STAT = s.reg JL_STAT := (hset.regs _ (by decide) (by decide) (by decide) (by decide)).trans (hother _ (by decide))
  refine ⟨hcount.of_get_eq (get_of_reg_eq (hset.regs _ (by decide) (by decide) (by decide) (by decide))), hset.cause, ?_, hwork.trans hset.work⟩
  exact laned_of_stat fun f hf => get_of_reg_eq (by rw [(statFlds_apart f (laneFlds_apart f hf).1).1]; exact hstat)

theorem replayMissing_ends (hup : s.up = true) (hon : s.pairOn = true) (hrep : s.replays = true) (hwake : s.jl.wake = 0) (htake : s.jl.takeAt = none)
    (hlong : s.jl.replayAt + 6 ≤ s.t.run) (hmiss : s.jl.link.replay.any (fun r => r.beat == s.t.beat - 6 && r.complete) = false) :
    Completes .replayMissing s (fun t => CountsUp JL_LCNT.MISS s t ∧ t.get JL_CAUSE.CAUSE = 10 ∧ (s.laned = true → t.pstate = 3)
        ∧ LowKeptBut [] s t ∧ MemKept s t) := by
  refine completes_of_exec (o := execReplayMissing s) rfl (act_ends hup ?_)
  rw [State.replayLost_due hon hrep hwake htake hlong hmiss]
  obtain ⟨hcount, hcause, hlaned, hwork⟩ := missCounted_shows (s := s)
  generalize s.missCounted = z at hcount hcause hlaned hwork ⊢
  rw [hlaned]
  cases hl : s.laned with
  | true =>
    rw [if_pos (rfl : true = true)]
    obtain ⟨hcopy, -⟩ := copying_shows (s := z)
    generalize z.copying = y at hcopy ⊢
    exact ⟨countsUp_settle.mpr (hcount.of_get_eq (get_of_reg_eq (hcopy.regs _ (by decide) (by decide) (by decide)))),
      (get_of_reg_eq (hcopy.regs _ (by decide) (by decide) (by decide))).trans hcause, fun _ => hcopy.pstate, (hwork.trans hcopy.work).settled⟩
  | false =>
    rw [if_neg Bool.false_ne_true]
    have hloss := lossWork_linkLoss (s := z)
    generalize z.linkLoss = y at hloss ⊢
    exact ⟨countsUp_settle.mpr (hcount.of_get_eq (get_of_reg_eq (hloss.regs _ (by decide) (by decide)))),
      (get_of_reg_eq (hloss.regs _ (by decide) (by decide))).trans hcause, nofun, (hwork.trans hloss.work).settled⟩

end

/-- Settles O50. A frame taken is followed through what it notes, what its pair state brings about and what comes after; the records are taken one
by one. The layout of the STATE sections is log 44's, the records' own rows are log 43's, PARTNER 15 and 9 are log 45's. -/
theorem crosslinkFramesAndRecords : Obligations.CrosslinkFramesAndRecords := by
  unfold Obligations.CrosslinkFramesAndRecords
  refine ⟨fun s lane f arr hup hon hlock => ⟨crosslinkFrameRx_bad hup hon hlock, fun hok hwake => ⟨crosslinkFrameRx_again hup hon hlock hok hwake,
      crosslinkFrameRx_takes hup hon hlock hok hwake⟩⟩,
    fun _ _ _ hup => crosslinkBlockLock_ends hup, fun _ _ hup hon => crosslinkFrameDiscard_ends hup hon,
    fun _ hup hon hwake hl hqa => ⟨crosslinkSilence_one hup hon hwake hl hqa, crosslinkSilence_both hup hon hwake hl hqa⟩,
    fun _ hup => replayMissing_ends hup,
    fun s y w epoch hup hon => ⟨carryRecordRx_stale hup hon, carryRecordRx_waits hup hon,
      fun hin htab hright hdeaf hunb hopen => ⟨stores_carryRec htab hright hdeaf hunb hopen hin, carryRecordRx_stores hup hon htab hright hdeaf hunb hopen⟩⟩,
    fun s y z w epoch hup hon => ⟨cmdRecordRx_stale hup hon, cmdRecordRx_waits hup hon, cmdRecordRx_queues hup hon⟩,
    fun s target arg cmd epoch hup hon h2 h5 => ⟨armRecordRx_stale hup hon h2 h5,
      fun n repl he ha2 ha5 hscope htest hslot => armRecordRx_arms hup hon h2 h5 he ha2 ha5 hscope htest hslot⟩,
    fun s idx w hup hon h3 => ⟨fun cf => stateRecordRx_cell hup hon h3, stateRecordRx_point hup hon h3, fun a => stateRecordRx_stream hup hon h3⟩,
    fun s d hup hon => ⟨joinRecordRx_same hup hon, joinRecordRx_differs hup hon, joinRecordRx_refused hup hon⟩⟩

end Sys2Proof.Machine
